-- ==== Sys2Proof/Word.lean ====
section
/-!
DEFINITION. The plain words of the block: bytes, and the widths the manual uses for registers and times.
Registers are held as natural numbers below 2^width, one per field; the width is the field's own (Fld.lean).
-/
namespace Sys2Proof

/-- One byte of Basin, Shallows, Sediment or flash memory. -/
abbrev Byte := BitVec 8

/-- A list of bytes, lowest address first. -/
abbrev Bytes := List Byte

end Sys2Proof
end

