-- ==== Sys2Proof/Machine/CellIn.lean ====
section
/-!
DEFINITION. What the commands carry whole: a received Emriub cell, with the link it came by, its header fields and its 20 payload
bytes (Table 12.2), and a received back-channel message.
-/
namespace Sys2Proof

/-- A cell as received: link 0 east or 1 west, the header fields, the payload. -/
structure CellIn where
  link    : Nat
  src     : Nat
  dst     : Nat
  hops    : Nat
  seq     : Nat
  corr    : Nat
  payload : Bytes
deriving DecidableEq, Repr

/-- A back-channel message as received (R191): the port, its seven bytes, and whether the 8b/10b coding of every symbol held. -/
structure BckMessage where
  port  : Nat
  bytes : Bytes
  coded : Bool
deriving DecidableEq, Repr

end Sys2Proof
end

