-- ==== Sys2Proof/Syntax.lean ====
section
/-!
DEFINITION. The commands of the block: one constructor for each row of the command table, with the row's operands.
Ports, planes, channels, axes and links are numbered from 0; `dt` is the time since the last command, in 250 ps steps.
-/
namespace Sys2Proof

/-- The commands: those with operands in the order of the table, then those without, in the same order. -/
inductive Instr where
  /-- REGISTER_WRITE (R37). A host, script, DMA, ring or management write to a register that has no row of its own,
applied field by field with RWX and RWA guards. -/
  | registerWrite (master : Nat) (internal : Bool) (addr size value : Nat)
  /-- LO_READ_LATCH (R8). A read of the _LO half of a 64-bit pair latches the _HI half for that master. -/
  | loReadLatch (master addr size : Nat)
  /-- READ_CLEAR (R5). A read of an RC field returns its value and then clears it. -/
  | readClear (master addr size : Nat)
  /-- HOST_BAR2_ACCESS (R29). A host access through BAR2 is served by the Basin arbiter as class C2 traffic. -/
  | hostBar2Access (addr len : Nat) (write : Bool) (data : Bytes) (err late : Nat)
  /-- HOST_BAR4_ACCESS (R29). A host access through BAR4 reaches Shallows, Sediment or the MSI-X structures, and a
write to a reserved range is discarded. -/
  | hostBar4Access (addr size : Nat) (write : Bool) (value err : Nat)
  /-- FUNCTION_LEVEL_RESET (R30). A PCIe Function Level Reset, link down or PCIE_PERST_N low resets configuration
space and MSI-X, kills owned DMA channels and clears every LEVEL. -/
  | functionLevelReset (down : Bool)
  /-- LEVEL_UNLOCK (R36). A write to SYS.LEVEL_UNLOCK opens a 1 ms level window for the key 0xE7A1, or closes an open
window for any other value. -/
  | levelUnlock (key : Nat)
  /-- LEVEL_SET (R36). A write of BLK_CTRL.LEVEL sets expert level when a window is open, and clears it at any time.
-/
  | levelSet (page : Nat) (v : Bool)
  /-- ENABLE_CLEAR (R38). Clearing BLK_CTRL.ENABLE makes a block finish its work in hand up to its drain boundary
while it keeps queuing requests. -/
  | enableClear (page : Nat)
  /-- ENABLE_SET (R38). Setting BLK_CTRL.ENABLE resumes queued work in order, or leaves OFFLINE after a DRAIN. -/
  | enableSet (page : Nat)
  /-- DRAIN_BOUNDARY_REACHED (R38). A stopping block reaches its drain boundary and enters STOPPED_PENDING, IDLE,
OFFLINE, RESET or OFF. -/
  | drainBoundaryReached (page : Nat)
  /-- DRAIN (R39). Setting BLK_CTRL.DRAIN makes the block refuse new requests, complete those in flight and then go
OFFLINE. -/
  | drain (page : Nat)
  /-- SOFT_RESET (R39). Setting BLK_CTRL.SOFT_RESET drains the block and then resets it to its reset values,
incrementing its EPOCH. -/
  | softReset (page : Nat)
  /-- KILL (R40). Setting BLK_CTRL.KILL stops the block at the next clock edge, ends requests in flight with ABORTED
and discards queued work. -/
  | kill (page : Nat)
  /-- DRAIN_TIMEOUT (R39). The drain timeout of a block expires and every request still in flight ends with ABORTED.
-/
  | drainTimeout (page : Nat)
  /-- DOMAIN_WAIT_EXPIRY (R41). A DMA transfer bound to a domain that is turning off has not reached an instruction
boundary within the wait time and ends with DOMAIN_OFF. -/
  | domainWaitExpiry (dom : Nat)
  /-- REPLY_ARRIVAL (R42). A reply reaches its requester and is accepted, or is dropped as stale when its epoch or
sequence number does not match. -/
  | replyArrival (page epoch seq : Nat)
  /-- EV_CLEAR (R33). A write of 1 to EV_CLEAR clears the matching EV_RAW bits, and a bit set by the block in the same
cycle ends set. -/
  | evClear (page mask : Nat)
  /-- EV_FORCE (R31). A write of 1 to EV_FORCE sets the matching EV_RAW bits for test. -/
  | evForce (page mask : Nat)
  /-- FLT_LOCAL_CLEAR (R32). A write of 1 to FLT_LOCAL.VALID clears the page's first local fault record and COUNT. -/
  | fltLocalClear (page : Nat)
  /-- OWNER_WRITE (R45). A compare-and-set write of DMA_n.OWNER takes effect only when TAG equals EXPECT. -/
  | ownerWrite (n expect tag : Nat)
  /-- REVOKE_CLIENT (R45). A write of DMAC.REVOKE.CLIENT kills every channel owned by that client, frees it and raises
its source. -/
  | revokeClient (client : Nat)
  /-- VEC_PEND_CLEAR (R48). A write of 1 to a VEC_PEND bit rearms an MSI-X vector. -/
  | vecPendClear (mask : Nat)
  /-- MSIX_MESSAGE (R48). A vector sends an MSI-X message when a mapped source is raised, PEND is 0 and the holdoff
has passed, and it sets PEND. -/
  | msixMessage (v : Nat)
  /-- MODE_REQ_GO (R52). A write of SYS.MODE_REQ with GO submits a mode request, which is checked against the
preconditions and then accepted as pending, taken as a re-arm or refused. -/
  | modeReqGo (mode : Nat) (atLine : Bool)
  /-- PCIE_READY (R62). Bring-up step B5 ends when the PCIe endpoint answers configuration requests. -/
  | pcieReady (width speed : Nat)
  /-- GEOM_LOAD (R75). A write of PRT.GEOM_LOAD_HI starts a geometry load of the selected ports, or is refused in a
print mode or during a load. -/
  | geomLoad (ports : Nat)
  /-- GEOM_LOAD_DONE (R75). A geometry load completes after each port's table has been read and checked, and GEOM_OK
and GEOM_STAT are updated. -/
  | geomLoadDone (poisoned : List Nat)
  /-- Q_TAIL_WRITE (R84). A write of Q_TAIL hands descriptors to the device, or is discarded as an invalid move. -/
  | qTailWrite (p v : Nat)
  /-- JOB_START (R83). A queue takes its next descriptor and checks the descriptor and the tile directory before the
job may become active. -/
  | jobStart (p : Nat) (descBad dirBad : Bool)
  /-- Q_CANCEL (R90). A write of Q_CTRL.CANCEL ends the plane's active jobs at the end of each row-line and cancels
every queued descriptor. -/
  | qCancel (p : Nat)
  /-- Q_HOLD (R89). Setting Q_CTRL.HOLD stops activation of further jobs and skips the lines of active jobs, and
clearing it lets them run. -/
  | qHold (p : Nat) (on : Bool)
  /-- Q_ENABLE (R91). Setting or clearing Q_CTRL.ENABLE starts or stops the activation of jobs of the plane. -/
  | qEnable (p : Nat) (on : Bool)
  /-- ENCODER_EDGE (R258). An accepted A or B edge of an encoder channel is counted and delivered with its TS to TRG,
which updates P_hi and schedules cycles. -/
  | encoderEdge (k : Nat) (b : Bool) (dt : Nat)
  /-- CYCLE_SCHEDULED_TIME (R105). The scheduled TS of a pending firing cycle is reached and the cycle is issued if
its trigger lies within the clamp window. -/
  | cycleScheduledTime (n : Nat)
  /-- LAT (R107). A firing cycle that may start is latched at the first permitted 250 ps step, and its FIRE sequence
begins. -/
  | lat (n : Nat)
  /-- SLOT_MARK (R188). A later address slot of a latched cycle is announced by a SLOT mark 80 ns before its
pre-pulse, and the slot's FIRE pulses follow. -/
  | slotMark (n : Nat)
  /-- CYCLE_SKIP (R108). The position estimate passes a waiting cycle's lateness deadline, or its trigger passes while
the port cannot fire, and the cycle is skipped. -/
  | cycleSkip (n : Nat)
  /-- FIX_PERIOD_WRITE (R116). A write of TRG.FIX_PERIOD in FIXED mode changes, stops or restarts the line-period
generator. -/
  | fixPeriodWrite (v : Nat)
  /-- CYCLE_BUILD (R126). An engine slice starts building the next cycle of its port once the previous LAT has gone
and the job may be active, running mask, concealment, Thermocline and frame assembly. -/
  | cycleBuild (n : Nat)
  /-- TILE_FETCH (R130). A decompression lane starts fetching the next prefetch entry's tile from Basin, or writes a
BLANK tile as zeros. -/
  | tileFetch (n : Nat) (poisoned : Bool)
  /-- TILE_DECODE_DONE (R131). A lane finishes decoding a tile into its slot and sets the valid bits of the lines
written. -/
  | tileDecodeDone (n : Nat) (bad : Bool)
  /-- FILL_LATE (R150). A lane's slack for a tile row falls below zero, and FILL_LATE is raised once for that row. -/
  | fillLate (n : Nat)
  /-- MASK_LOAD (R137). When a job becomes due for assembly, each slice of the plane starts loading its port's mask
from the mask set. -/
  | maskLoad (n : Nat)
  /-- MASK_LOAD_DONE (R137). A mask load completes, and a mask that fails its checks is replaced by the default mask.
-/
  | maskLoadDone (n : Nat) (poisoned : Bool)
  /-- NOZ_OVR (R138). A write of MSK.NOZ_OVR.GO sets a nozzle OFF or releases a host OFF in the concealment map. -/
  | nozOvr (code n noz : Nat)
  /-- SEGMENT_VOTE (R237). Both engines' CRCs of a frame segment are available and ENG compares them before the
serialiser ships it. -/
  | segmentVote (n : Nat) (errA errB : Bytes)
  /-- DIGEST_VOTE (R239). After a cycle's last segment, ENG compares the two engines' cycle digests and completes the
vote. -/
  | digestVote (n : Nat) (errA errB : Bytes)
  /-- ENGINE_CHECK (R242). A checker of an engine slice flags, sending the standby to FAILED or SUSPECT or making the
active engine lose. -/
  | engineCheck (n flagsA flagsB : Nat)
  /-- ENGINE_WATCHDOG (R242). An engine's segment comes later than LAG_NS after the other engine's, and the watchdog
flags the slower engine. -/
  | engineWatchdog (n e : Nat)
  /-- SERIALISER_SWITCH (R243). At a port's next segment boundary after a failover, its serialiser takes the new
engine's segments. -/
  | serialiserSwitch (n : Nat)
  /-- RESYNC_PORT_COPY (R247). At a port's cycle boundary the standby copies the active engine's buckets, concealment
copy and Sounding pointer and replays the ring. -/
  | resyncPortCopy (n : Nat)
  /-- RESYNC_COMPARE (R248). The standby compares its digest of the next cycle of a copied port with the active
engine's, counting the port shadowed or repeating the copy. -/
  | resyncCompare (n : Nat) (errA errB : Bytes)
  /-- BIST_WINDOW_END (R249). A BIST window ends with a pass, which starts a resynchronisation, or a fail, which sends
the engine to FAILED. -/
  | bistWindowEnd (pass : Bool)
  /-- AUTO_REPAIR (R251). One second after an engine failed, with AUTO_REPAIR set, the engine is repaired. -/
  | autoRepair (e : Nat)
  /-- FIRE_W_WRITE (R157). A write of FIRE_W_k makes the held PRE and GAP and the written MAIN the new nominal
waveform of class k. -/
  | fireWWrite (n k main : Nat)
  /-- TEMPERATURE_SAMPLE (R163). A port's 100 µs temperature sample completes and updates derating, limit states and
warming. -/
  | temperatureSample (n outcome r : Nat)
  /-- WARMING_PULSE (R170). A spaced warming pulse falls due and is sent with a WARM mark and a FIRE_0 pulse, or is
dropped. -/
  | warmingPulse (n : Nat)
  /-- HOT_REARM (R176). A write of THM.HOT_CTRL.REARM stands a re-arm for a port in HOT. -/
  | hotRearm (n : Nat)
  /-- ENERGY_TABLE_COMMIT (R161). The critical command ENERGY_TABLE_COMMIT starts THM's copy of the energy table. -/
  | energyTableCommit (slot : Nat) (args : List Nat) (cnt tag : Nat)
  /-- ENERGY_TABLE_COPY_DONE (R161). THM's copy of the energy table completes and is checked, replacing the table in
force or leaving it. -/
  | energyTableCopyDone (poisoned : Bool)
  /-- TRAINING_START (R197). Training of a port starts when head power, ENABLE and AUTO_TRAIN allow it or a held
request may run. -/
  | trainingStart (n : Nat)
  /-- LINK_TRAIN (R197). A write of LINK_CMD.TRAIN requests training of the port. -/
  | linkTrain (n : Nat)
  /-- LINK_CMD_DOWN (R207). A write of LINK_CMD.DOWN takes the link DOWN at the drain boundary. -/
  | linkCmdDown (n : Nat)
  /-- BCK_SWEEP_STEP (R197). In training step T2 the back-channel sampling delay moves to its next step every 1 µs. -/
  | bckSweepStep (n : Nat) (ok : Bool)
  /-- LANE_SWEEP_STEP (R198). In training step T3 each lane's launch delay moves to its next step and a LATCH starts a
new PRBS window. -/
  | laneSweepStep (n : Nat)
  /-- ALIGN_SEND_END (R199). After 20 µs of ALIGN blocks in step T4 the lanes send zero. -/
  | alignSendEnd (n : Nat)
  /-- TRAIN_STEP_TIMEOUT (R200). A training step does not pass within its time, and the attempt fails. -/
  | trainStepTimeout (n : Nat)
  /-- TRAINING_RETRY (R200). After the 2 µs clock stop that resets the head, training repeats from T1. -/
  | trainingRetry (n : Nat)
  /-- LINK_RESET (R195). A LINK_RESET back-channel message arrives, passing T1 in training or taking an UP link DOWN.
-/
  | linkReset (n : Nat)
  /-- LAT_REPORT (R192). A LAT_REPORT message names the rows fired and refused at a LATCH, and in T7 takes the link
UP. -/
  | latReport (n tag refused : Nat)
  /-- FRAME_BAD (R187). A FRAME_BAD message reports a bad frame and may cause one resend. -/
  | frameBad (n ordinal seg type row : Nat)
  /-- READ_DATA (R196). A READ_DATA message answers a CTRL read. -/
  | readData (n tag value : Nat)
  /-- WRITE_ACK (R196). A WRITE_ACK message answers a CTRL write. -/
  | writeAck (n tag : Nat) (refused : Bool)
  /-- HEAD_STATUS (R202). A STATUS message from the head is recorded and raised as HEAD_STATUS. -/
  | headStatus (n code : Nat)
  /-- LAT_ERR (R202). A LAT_ERR message reports an illegal mark width. -/
  | latErr (n width : Nat)
  /-- PRBS_RESULT (R198). A PRBS_RESULT message reports a lane's mismatches in a training window. -/
  | prbsResult (n lane mism : Nat)
  /-- ALIGNED (R199). An ALIGNED message reports the head's lane alignment, and the device issues a LATCH. -/
  | aligned (n : Nat) (ok : Bool)
  /-- BCK_MESSAGE_DROPPED (R191). A back-channel message with a code, disparity, CRC-8 or TYPE error is dropped. -/
  | bckMessageDropped (m : BckMessage)
  /-- LAT_REPORT_TIMEOUT (R202). No LAT_REPORT arrives within 3 µs of a LATCH, and its rows count as fired. -/
  | latReportTimeout (n : Nat)
  /-- BCK_SILENCE (R202). No valid back-channel character has arrived for 10 µs and the link goes DOWN. -/
  | bckSilence (n : Nat)
  /-- DEGRADE_INTERVAL (R202). A 1 s interval ends and LINK_DEGRADED is raised when bad frames exceeded the threshold.
-/
  | degradeInterval (n : Nat)
  /-- HREG_CMD_GO (R207). A write of HREG_CMD.GO sends a CTRL frame to read or write a head register. -/
  | hregCmdGo (n : Nat) (write : Bool) (addr : Nat)
  /-- CTRL_TIMEOUT (R202). A CTRL frame goes unanswered, is sent once more, and then ends with a timeout. -/
  | ctrlTimeout (n : Nat)
  /-- SCAN_STEP_DONE (R218). A scan step's four phases end, the heater resistance is computed and classified, and the
channel's next step starts. -/
  | scanStepDone (c sumLo sumHi : Nat) (full : Bool)
  /-- SCAN_STEP_REPEAT (R216). A FIRE pulse or a disconnection during a scan step discards and repeats it. -/
  | scanStepRepeat (c : Nat)
  /-- SOUNDING_DECISION (R224). The last conversion of a Sounding window ends and SND decides PASS, MISS or
INCONCLUSIVE and updates the nozzle's state. -/
  | soundingDecision (n : Nat) (rs : List Nat) (full : Bool)
  /-- WEAR_FLUSH (R228). Every PERIOD / 64, Turnover adds one port's firing accumulators into the wear map and clears
them. -/
  | wearFlush (bad : List Nat)
  /-- SIG_LOAD_DONE (R229). The signature table copy completes and is checked, replacing the table in force or raising
SIG_TABLE_BAD. -/
  | sigLoadDone (poisoned : Bool)
  /-- ILLEGAL_CHANGE (R259). A and B change in the same sample, the count is unchanged and UNCERTAIN is set. -/
  | illegalChange (k dt : Nat)
  /-- INDEX (R263). An accepted Z edge is an index, which sets the reference, verifies the count, applies an armed
home or reports a mismatch. -/
  | index (k : Nat) (rising : Bool) (dt : Nat)
  /-- WIRE_FLAG (R256). The two legs of a pair stay at one level longer than WIRE.NS and the pair's wire flag is set.
-/
  | wireFlag (k line dt : Nat)
  /-- WIRE_FLAG_CLEAR (R256). The legs have disagreed correctly for 1 ms and the wire flag clears. -/
  | wireFlagClear (k line dt : Nat)
  /-- PRESET (R268). A write of ENC_k.CMD.PRESET loads POS and RAW from POS_SET and clears the reference. -/
  | preset (k : Nat)
  /-- ARM_HOME (R268). A write of CMD.ARM_HOME arms a home at the next index. -/
  | armHome (k : Nat)
  /-- CLR_REF (R268). A write of CMD.CLR_REF clears REF_SET and MIS_RUN. -/
  | clrRef (k : Nat)
  /-- STANDSTILL (R272). No edge has been counted for STILL.US, and the speed becomes 0 and invalid. -/
  | standstill (k : Nat)
  /-- SHEET_EDGE (R273). An accepted sheet edge is stamped and pushed into the edge FIFOs, or rejected within the
lockout. -/
  | sheetEdge (k : Nat) (rising : Bool) (dt : Nat)
  /-- OUT_EN_SET (R276). Setting EOUT_m.CFG.OUT_EN turns the drivers on and sets H and Q0. -/
  | outEnSet (m : Nat)
  /-- EOUT_STEP (R277). An encoder-emulation output sends its next quadrature step once MIN_STEP has passed. -/
  | eoutStep (m : Nat)
  /-- BLOCK_LOCK (R282). An Emriub link receives 64 consecutive valid sync headers and starts the HELLO exchange. -/
  | blockLock (l : Nat)
  /-- SYNC_HEADER_LOSS (R282). An Emriub link sees 16 invalid sync headers in 64 blocks and leaves UP. -/
  | syncHeaderLoss (l : Nat)
  /-- CONTROL_BLOCK (R287). A control block is received, returning credits and peer state, or dropped on a bad CRC-8:
its first seven bytes, and its CRC-8 as received. -/
  | controlBlock (l : Nat) (bytes : Bytes) (crc : Nat)
  /-- CONTROL_BLOCK_TIMEOUT (R282). No valid control block has arrived for 1 µs and the link leaves UP. -/
  | controlBlockTimeout (l : Nat)
  /-- LINK_UP_TIMEOUT (R282). An Emriub link fails to come up within 20 ms and enters FAILED. -/
  | linkUpTimeout (l : Nat)
  /-- LINK_RETRY (R282). A FAILED Emriub link retries every 100 ms. -/
  | linkRetry (l : Nat)
  /-- IDLE (R281). An idle cell is received and consumed. -/
  | idle (c : CellIn) (dt : Nat)
  /-- HELLO (R282). A HELLO cell from the neighbour completes step 2 of link-up, or reveals an address conflict. -/
  | hello (c : CellIn) (dt : Nat)
  /-- DELAY_EXCHANGE_TIMER (R288). A link sends its next DLY_REQ, every 1 µs until 16 exchanges and every 1 ms after.
-/
  | delayExchangeTimer (l : Nat)
  /-- DLY_REQ (R288). A DLY_REQ cell is received and answered with DLY_RESP. -/
  | dlyReq (c : CellIn) (dt : Nat)
  /-- DLY_RESP (R288). A DLY_RESP cell completes a delay exchange and updates the link delay D. -/
  | dlyResp (c : CellIn) (dt : Nat)
  /-- POSITION (R291). A POSITION cell is received, forwarded and, as the first copy from the best manager, used by
TRG as an edge. -/
  | position (c : CellIn) (dt : Nat)
  /-- TIME (R290). A TIME cell is received and the worker steps or slews its TS to manager time. -/
  | time (c : CellIn) (dt : Nat)
  /-- HEARTBEAT (R294). A HEARTBEAT cell is received, updating census, ring state and the manager followed. -/
  | heartbeat (c : CellIn) (dt : Nat)
  /-- SHEET_EDGE_CELL (R292). A SHEET_EDGE cell is received and the worker pushes its E into its edge FIFOs. -/
  | sheetEdgeCell (c : CellIn) (dt : Nat)
  /-- CLAIM (R296). A CLAIM cell is received and a candidate with a worse claim withdraws. -/
  | claim (c : CellIn) (dt : Nat)
  /-- JOIN (R299). A JOIN cell adds a member to the manager's census. -/
  | join (c : CellIn) (dt : Nat)
  /-- LEAVE (R299). A LEAVE cell removes a member from the census at once. -/
  | leave (c : CellIn) (dt : Nat)
  /-- STATUS_CELL (R299). A STATUS cell is received, giving the member's readiness, links and hop counts. -/
  | statusCell (c : CellIn) (dt : Nat)
  /-- MEMBER_TIMEOUT (R299). A member's STATUS has been missing for 3 ms and it is removed from the census. -/
  | memberTimeout (a : Nat)
  /-- SLOWDOWN (R303). A SLOWDOWN command is received by the manager, recorded in SLOW_REQ and acknowledged. -/
  | slowdown (c : CellIn) (dt : Nat)
  /-- REG_READ (R304). A REG_READ command is received and answered with the register value, or refused. -/
  | regRead (c : CellIn) (dt : Nat)
  /-- REG_WRITE (R304). A REG_WRITE command is received and written with master ID 0x33, or refused. -/
  | regWrite (c : CellIn) (dt : Nat)
  /-- BULK_END (R307). A BULK_END command is received and its length and CRC are checked against the data written. -/
  | bulkEnd (c : CellIn) (dt : Nat)
  /-- ACK (R304). An ACK cell ends an outstanding command. -/
  | ack (c : CellIn) (dt : Nat)
  /-- RCMD_GO (R304). A write of EMR.RCMD.GO sends REG_READ or REG_WRITE to a ring member. -/
  | rcmdGo (write : Bool) (dst : Nat)
  /-- BULK_CMD_GO (R307). A write of EMR.BULK_CMD.GO sends BULK cells from Basin and then BULK_END. -/
  | bulkCmdGo (dst : Nat)
  /-- BULK (R307). A BULK cell is received and written into the receive window, or dropped. -/
  | bulk (c : CellIn) (dt : Nat)
  /-- FAULT_CELL (R305). A FAULT cell is received and raises REMOTE_FAULT at the capped severity. -/
  | faultCell (c : CellIn) (dt : Nat)
  /-- EVENT_CELL (R306). An EVENT cell is received and raises source 156 + k. -/
  | eventCell (c : CellIn) (dt : Nat)
  /-- BASIN_REQUEST (R319). A Basin request is arbitrated by class and served, delayed, refused or returned poisoned.
-/
  | basinRequest (master cls addr len : Nat) (write : Bool) (data : Bytes) (err late : Nat)
  /-- CORRECTED_WRITEBACK (R316). A sector read with a single-bit error is written back corrected within 1 µs. -/
  | correctedWriteback (bad : Bool)
  /-- SHALLOWS_ACCESS (R318). A Shallows word access is served in slice order, and a host write in a print mode is
discarded. -/
  | shallowsAccess (master addr len : Nat) (write : Bool) (data : Bytes) (err : Nat)
  /-- BASIN_SCRUB_BURST (R323). Turnover scrubs the next 256-byte Basin burst, correcting sectors and ending the pass
at the top. -/
  | basinScrubBurst (errs : List Nat)
  /-- SHALLOWS_SCRUB_WORD (R323). Turnover scrubs the next Shallows word of a slice. -/
  | shallowsScrubWord (slice err : Nat)
  /-- TELEMETRY_RECORD (R324). Every PERIOD_MS Turnover writes a telemetry record, or loses it. -/
  | telemetryRecord (waits : Bool)
  /-- DMA_START (R340). A write of DMA_n.CMD.START loads PC from PROG and runs or pends the program. -/
  | dmaStart (n : Nat)
  /-- DMA_RESUME (R340). A write of CMD.RESUME continues an ended run at PC. -/
  | dmaResume (n : Nat)
  /-- INSTRUCTION_FETCH (R329). A fetched program line arrives and the next instruction is decoded, ending the run on
a bad opcode or field. -/
  | instructionFetch (n ahead : Nat) (host : Bytes) (err : Nat)
  /-- MOVE (R334). A MOVE instruction computes its addresses and issues its 64-byte bursts. -/
  | move (n : Nat)
  /-- BURST_DONE (R335). A DMA burst completes at its target, or fails and ends the run. -/
  | burstDone (n err late : Nat) (host : Bytes)
  /-- LOOP_BEGIN (R333). A LOOP_BEGIN instruction opens a loop level. -/
  | loopBegin (n : Nat)
  /-- LOOP_END (R333). A LOOP_END instruction closes one pass of the innermost level. -/
  | loopEnd (n : Nat)
  /-- WAIT (R337). A WAIT instruction starts waiting on a source level or for a delay. -/
  | wait (n : Nat)
  /-- WAIT_RELEASE (R337). The condition of a waiting WAIT holds and it ends, clearing the releasing channel's signal
when ACK is set. -/
  | waitRelease (n : Nat)
  /-- WAIT_TIMEOUT (R337). A WAIT's timeout passes and the run ends with WAIT_TIMEOUT. -/
  | waitTimeout (n : Nat)
  /-- WAIT_DELAY_END (R337). TS reaches the end of a WAIT delay and the program continues. -/
  | waitDelayEnd (n : Nat)
  /-- SIGNAL (R338). A SIGNAL instruction copies its code and sets the channel's SIGNAL bit. -/
  | signal (n : Nat)
  /-- SET (R332). A SET instruction writes a register or HOST_BASE. -/
  | set (n : Nat)
  /-- NOP (R331). A NOP instruction does nothing. -/
  | nop (n : Nat)
  /-- HALT (R342). A HALT instruction ends the run with DONE or DONE_DELAYED. -/
  | halt (n : Nat)
  /-- KILL_MAP (R344). A write of DMAC.KILL_MAP kills each selected channel. -/
  | killMap (map : Nat)
  /-- PUSH (R364). A write of CMP_k.PUSH.GO appends ENTRY_0 to ENTRY_15 to the compressor queue, or is discarded when
full. -/
  | push (k : Nat)
  /-- COMPRESSOR_JOB_START (R358). An idle compressor takes its next queue entry and checks it, ending with BAD_JOB on
a failure. -/
  | compressorJobStart (k : Nat)
  /-- COMPRESSOR_JOB_END (R361). A compressor job finishes its blocks, list entries or end record and result record,
and raises its events. -/
  | compressorJobEnd (k : Nat) (host : Bytes) (err late : Nat)
  /-- MOT_START (R370). A write of MOT_a.CMD.START plans a move to TARGET, or is refused. -/
  | motStart (a : Nat)
  /-- MOT_HOME (R383). A write of CMD.HOME starts a homing run. -/
  | motHome (a : Nat)
  /-- SET_POS (R373). A write of CMD.SET_POS sets POS at standstill, or is refused. -/
  | setPos (a : Nat)
  /-- MOT_STOP (R374). A write of CMD.STOP requests a controlled stop. -/
  | motStop (a : Nat)
  /-- QSTOP (R374). A write of CMD.QSTOP requests a quick stop. -/
  | qstop (a : Nat)
  /-- PLANNER_TICK (R370). Every 8 µs the planner recomputes each axis's acceleration, speed and position, applying
limit writes and stall checks. -/
  | plannerTick (loads : List Nat)
  /-- IN_POS (R370). The commanded position has stood at TARGET for SETTLE_US, and IN_POS is set. -/
  | inPos (a : Nat)
  /-- HOLD_CURRENT (R379). The axis has stood still for HOLD_DELAY ms and the current drops to I_HOLD. -/
  | holdCurrent (a : Nat)
  /-- PWM_PERIOD (R378). Each 40 kHz PWM period a phase current is converted and regulated. -/
  | pwmPeriod (a phase code : Nat)
  /-- LIMIT_EDGE (R384). A raw edge of a limit input latches POS and counts toward chatter. -/
  | limitEdge (a lim : Nat) (high : Bool) (dt : Nat)
  /-- LIMIT_TRIP (R385). A limit input has stayed tripped for DEBOUNCE.US and acts as overtravel or a homing
reference. -/
  | limitTrip (a lim : Nat)
  /-- SPIT_CYCLE (R386). A port's next spit cycle falls due after PERIOD_US and fires every eligible nozzle once. -/
  | spitCycle (n : Nat)
  /-- ACK_SLOT (R406). A write of FLT.ACK.GO frees the named slot when it may be freed. -/
  | ackSlot (slot : Nat)
  /-- FAULT_RESET (R409). A write of 0xF4E7 to FLT.FRESET resets every other block, wipes the memories and restarts
bring-up at B3. -/
  | faultReset (key : Nat)
  /-- INJECT (R394). A write of FLT.INJECT.GO sends a test fault message flagged INJECTED. -/
  | inject (source kind sev : Nat)
  /-- POL_QUERY (R394). A write of FLT.POL_QUERY selects a pair and returns its severity and ceiling in force. -/
  | polQuery (source kind : Nat)
  /-- FAULT_POLICY_COMMIT (R396). The critical command FAULT_POLICY_COMMIT starts FLT's copy of the fault policy
table. -/
  | faultPolicyCommit (slot : Nat) (args : List Nat) (cnt tag : Nat)
  /-- POLICY_COPY_DONE (R396). FLT's copy of the fault policy completes and is checked, replacing the policy or
raising POLICY_BAD. -/
  | policyCopyDone (poisoned : Bool)
  /-- LOCK_CLEAR_POLICY (R408). The critical command LOCK_CLEAR_POLICY sets FLT.LOCK_POL. -/
  | lockClearPolicy (slot : Nat) (args : List Nat) (cnt tag : Nat)
  /-- DUMP_PAGE (R417). One page of the dump header, blocks or end record finishes programming to SPI flash and the
next is started. -/
  | dumpPage (ok : Bool)
  /-- DIE_SAMPLE (R426). Every 1 ms the die temperature is sampled, possibly triggering a calibration run or a die
limit. -/
  | dieSample (t : Int)
  /-- RESTORE (R433). A write of CAL.CMD.RESTORE runs the target of a failed channel to restore it. -/
  | restore (chan : Nat)
  /-- TARGET_RUN_END (R431). A calibration target's run ends and its result is accepted or discarded, and the next
queued target starts. -/
  | targetRunEnd (t : Nat) (ms : List Int) (quality : Nat)
  /-- TRIM_USER (R424). A write of CAL.USER sets the user offset and starts a slew to the new target value. -/
  | trimUser (v : Nat)
  /-- LIFECYCLE_ADVANCE (R447). The critical command LIFECYCLE_ADVANCE forces STANDBY, blows the target bit, wipes and
restarts bring-up at B3. -/
  | lifecycleAdvance (slot : Nat) (args : List Nat) (cnt tag : Nat)
  /-- KEY_LOAD (R449). The critical command KEY_LOAD checks and programs a new key into an EMPTY slot. -/
  | keyLoad (slot : Nat) (args : List Nat) (cnt tag : Nat)
  /-- KEY_RETIRE (R450). The critical command KEY_RETIRE blows a slot's RETIRED state, or is refused as the last key.
-/
  | keyRetire (slot : Nat) (args : List Nat) (cnt tag : Nat)
  /-- HEAD_POWER_ARM (R453). The critical command HEAD_POWER_ARM drives HPWR_EN for the selected groups and sets
HEAD_POWER_ARMED. -/
  | headPowerArm (slot : Nat) (args : List Nat) (cnt tag : Nat)
  /-- PRINT_ARM (R453). The critical command PRINT_ARM sets PRINT_ARMED. -/
  | printArm (slot : Nat) (args : List Nat) (cnt tag : Nat)
  /-- SPRING_COMMIT (R451). The critical command SPRING_COMMIT programs the next fuse row with the Spring signing slot
mask. -/
  | springCommit (slot : Nat) (args : List Nat) (cnt tag : Nat)
  /-- WIPE_NOW (R325). The critical command WIPE_NOW wipes Basin, Shallows or Sediment. -/
  | wipeNow (slot : Nat) (args : List Nat) (cnt tag : Nat)
  /-- FUSE_PROGRAM_DONE (R449). A fuse program step ends with its read-back, advancing or failing the command. -/
  | fuseProgramDone (ok : Bool)
  /-- COLD_RESET (R467). A supply-monitor reset at ramp clears everything and starts bring-up at B1. -/
  | coldReset (addr : Nat)
  /-- PIN_RESET (R467). RESET_N rises after being held low with supplies valid, and bring-up starts at B1 keeping the
reset cause and LOCK latch. -/
  | pinReset (addr : Nat)
  /-- SOFTWARE_RESET (R467). A write of 0x5E7B to SYS.RESET.KEY starts a software reset, or is discarded at LOCK. -/
  | softwareReset (key : Nat)
  /-- REFCLK_BAD (R459). REFCLK leaves tolerance or shows no edge for 1 µs. -/
  | refclkBad (missing : Bool) (ppm : Int)
  /-- PLL_UNLOCK (R459). A PLL loses lock, which forces FIRE low and, for the root PLL, clears CLOCKS_LOCKED. -/
  | pllUnlock (pll : Nat)
  /-- PLL_RELOCK (R459). A PLL regains lock and CLK.STAT follows it. -/
  | pllRelock (pll : Nat)
  /-- DOM_ON (R462). A write of PWR.DOM_ON closes the switches of the selected domains. -/
  | domOn (mask : Nat)
  /-- DOM_OFF (R462). A write of PWR.DOM_OFF asks the selected domains to drain and turn off, or refuses them. -/
  | domOff (mask on : Nat)
  /-- DOMAIN_OFF_DONE (R462). Every block of a domain has reached OFF and its switch opens. -/
  | domainOffDone (dom : Nat)
  /-- DOMAIN_ON_DONE (R462). A domain's blocks are up at their reset values after its switch closed. -/
  | domainOnDone (dom : Nat)
  /-- SUPPLY_LOW (R466). A supply monitor trips while the device runs. -/
  | supplyLow (which : Nat)
  /-- SMB_SET_PTR (R478). SMBus command 0x01 sets the management pointer to a BAR0 offset. -/
  | smbSetPtr (offset : Nat) (ok : Bool)
  /-- SMB_READ (R478). SMBus command 0x02 returns the register at the pointer and advances it. -/
  | smbRead (ok : Bool)
  /-- SMB_WRITE (R478). SMBus command 0x03 writes the register at the pointer while WR_EN is 1, or is NACKed. -/
  | smbWrite (value : Nat) (ok : Bool)
  /-- SPIF_DONE (R479). A SPIF operation completes or stops, and SPIF.STAT takes its result. -/
  | spifDone (ok : Bool) (moved : Nat)
  /-- REFCLK_RECOVERED (R459). REFCLK returns within REF_TOL and CLK.STAT.REF_OK is set again. -/
  | refclkRecovered (ppm : Int)
  /-- NONCE_READY (R440). The random source finishes its start-up health test 0.5 to 2 ms after reset and draws the
session nonce, or raises RNG_FAIL. -/
  | nonceReady (ok : Bool) (draw : Nat)
  /-- FRAME_SHIPPED (R185). The HPT_n serialiser finishes shipping a frame, which opens the next frame boundary for
resends, CTRL and SENSE frames and may make a cycle ready for its LAT. -/
  | frameShipped (n : Nat)
  /-- TRAIN_SETTLE_END (R197). The LINK_CFG.SETTLE wait of training step T1 ends and the device starts HPn_CLK with
the lanes at zero. -/
  | trainSettleEnd (n : Nat)
  /-- TRIM_UPDATE_TICK (R434). The 1 µs tick of the TS_CLK DLL target, or the 10 µs tick of a head-link target whose
port fires no cycle, moves a slewing trim one step. -/
  | trimUpdateTick (t : Nat)
  /-- CELL_CRC_ERROR (R286). An Emriub cell arrives whose CRC-32C fails, and it is dropped, counted in CRC_ERR_CNT and
its credit returned. -/
  | cellCrcError (l : Nat)
  /-- UNKNOWN_CELL (R286). An Emriub cell of a type the device does not implement arrives, and it is counted and
ignored, or forwarded under the same rules. -/
  | unknownCell (type : Nat) (c : CellIn) (dt : Nat)
  /-- EOUT_Z_END (R277). Z_CFG.WIDTH ticks after a periodic Z pulse began, the emulated Z output falls low. -/
  | eoutZEnd (m : Nat)
  /-- LEVEL_WINDOW_EXPIRY (R36). The level window closes 1 ms after the unlock write. -/
  | levelWindowExpiry
  /-- PROVIDER_LOST (R24). When the last consumer port of a lost print-critical provider has reached its row-line
boundary, PRT sends one PROVIDER_LOST fault message at STOP. -/
  | providerLost
  /-- MODE_CHANGED (R54). A pending mode change completes once service actions, jobs or ports have reached their
boundary, and the new mode takes effect. -/
  | modeChanged
  /-- CLOCKS_LOCKED (R62). Bring-up step B1 ends when the root PLL and derived clocks lock, and B2 starts. -/
  | clocksLocked
  /-- FUSES_READ (R62). Bring-up step B2 ends when the lifecycle, factory calibration and key-store fuses are loaded,
and B3 and B4 start. -/
  | fusesRead
  /-- SPRING_SCRIPT_START (R65). After B3 the device reads and verifies the Spring script from SPI flash and starts
it, or ends B6 as absent or rejected. -/
  | springScriptStart
  /-- SPRING_WRITE (R66). A Spring WRITE entry writes VALUE to its BAR0 offset. -/
  | springWrite
  /-- SPRING_MODIFY (R66). A Spring MODIFY entry reads its offset and writes back the masked value. -/
  | springModify
  /-- SPRING_POLL (R66). A Spring POLL entry starts waiting until the masked register equals VALUE. -/
  | springPoll
  /-- SPRING_POLL_MET (R66). The condition of a waiting Spring POLL holds and the script moves on. -/
  | springPollMet
  /-- SPRING_POLL_TIMEOUT (R66). A Spring POLL reaches ARG × 10 µs and either moves on or stops the script with STATE
5. -/
  | springPollTimeout
  /-- SPRING_DELAY (R66). A Spring DELAY entry starts a wait of VALUE µs. -/
  | springDelay
  /-- SPRING_DELAY_END (R66). The wait of a Spring DELAY entry ends and the next entry runs. -/
  | springDelayEnd
  /-- SPRING_END_ENTRY (R64). A Spring END entry stops the script with STATE done. -/
  | springEndEntry
  /-- SPRING_TIME_LIMIT (R66). The script has run 10 s in total and stops at the current entry with STATE 5. -/
  | springTimeLimit
  /-- SLOWDOWN_REPEAT (R110). TRG.SLOWDOWN.INTERVAL has passed while skips continue, and another slow-down request is
issued. -/
  | slowdownRepeat
  /-- FIXED_GENERATOR_START (R116). TS reaches t0 and the FIXED line-period generator starts its synthetic position.
-/
  | fixedGeneratorStart
  /-- SYNTHETIC_LINE_BOUNDARY (R116). The FIXED generator reaches a synthetic line boundary, which acts as an edge at
the exact position. -/
  | syntheticLineBoundary
  /-- RING_SOURCE_TIMEOUT (R117). No position cell has arrived for 10 µs and the ring source is lost. -/
  | ringSourceTimeout
  /-- FAILOVER_OVERLAP_END (R245). One line period plus 2 µs after the switch, the old engine stops acting and enters
FAILED or SHADOW. -/
  | failoverOverlapEnd
  /-- ENG_SWITCH (R243). A write of ENG.CMD.SWITCH swaps active and standby engines, or is refused when the standby is
not in SHADOW. -/
  | engSwitch
  /-- ENG_RESYNC (R247). A write of ENG.CMD.RESYNC starts a resynchronisation of a standby that is OFF or SUSPECT. -/
  | engResync
  /-- ENG_REPAIR (R251). A write of ENG.CMD.REPAIR soft-resets a FAILED engine and starts one BIST window. -/
  | engRepair
  /-- RESYNC_START (R253). Bring-up step B12 starts a resynchronisation of engine B once HEALTH_KNOWN is set with
tables loaded and ENABLE at 1. -/
  | resyncStart
  /-- BIST_WINDOW_START (R249). BIST_CFG.PERIOD has passed and the shadowing standby leaves SHADOW for a self-test
window. -/
  | bistWindowStart
  /-- THM_SLOWDOWN_REPEAT (R172). SLOWDOWN.INTERVAL has passed while a port stays in its soft region, and a further
slow-down request is issued. -/
  | thmSlowdownRepeat
  /-- SCAN_CMD_GO (R213). A write of SND.SCAN_CMD.GO starts an idle resistance scan of the selected ports, or is
refused. -/
  | scanCmdGo
  /-- SCAN_CMD_STOP (R213). A write of SCAN_CMD.STOP ends a running scan at the end of its current step. -/
  | scanCmdStop
  /-- HEALTH_WRITEBACK (R209). SND writes a changed health entry back to the Basin health map as class C4. -/
  | healthWriteback
  /-- SIG_LOAD (R229). A write of SIG_CTRL.LOAD starts copying the signature table. -/
  | sigLoad
  /-- SNAP (R269). A write of ENCC.SNAP.GO latches POS of every channel and the TS in one sample. -/
  | snap
  /-- POSITION_CELL_TIMER (R291). Every 1 µs the manager sends a POSITION cell on both links. -/
  | positionCellTimer
  /-- TIME_CELL_TIMER (R290). Every 100 µs the manager sends a TIME cell on both links. -/
  | timeCellTimer
  /-- HEARTBEAT_TIMER (R297). Every 100 µs the manager names the standby and sends a HEARTBEAT. -/
  | heartbeatTimer
  /-- MANAGER_START (R296). 1 ms after its first link reaches UP, a configured manager becomes manager with epoch 1.
-/
  | managerStart
  /-- HEARTBEAT_LOSS (R296). A candidate has heard no heartbeat for HB_LOSS µs and sends a CLAIM. -/
  | heartbeatLoss
  /-- CLAIM_WAIT_END (R296). CLAIM_WAIT ends with no better claim and the candidate becomes manager. -/
  | claimWaitEnd
  /-- TAKEOVER (R298). No POSITION cell of the manager has arrived for TAKEOVER µs and the standby takes over. -/
  | takeover
  /-- HANDOVER (R298). A write of EMR.CMD.HANDOVER hands the manager role to a ready standby, or is refused. -/
  | handover
  /-- STATUS_TIMER (R299). Every 1 ms each member sends STATUS. -/
  | statusTimer
  /-- CENSUS_WAIT_END (R300). With EXPECT 0, the census map has stayed unchanged for CENSUS_WAIT ms and the census is
complete. -/
  | censusWaitEnd
  /-- COMMAND_ACK_TIMEOUT (R304). No ACK has arrived within 50 µs, and the command is resent by the other path or ends
with CMD_TIMEOUT. -/
  | commandAckTimeout
  /-- THROTTLE_ENGAGE (R320). The lowest lane slack falls below SLACK_US and classes C2 to C5 are throttled. -/
  | throttleEngage
  /-- THROTTLE_RELEASE (R320). The lowest slack has stayed at or above 1.25 × SLACK_US for 10 µs and the throttle
releases. -/
  | throttleRelease
  /-- C5_DEADLINE_DROP (R320). A C5 request not served within its deadline is dropped and counted. -/
  | c5DeadlineDrop
  /-- SCRUB_LATE (R323). A scrub pass lasts longer than its period. -/
  | scrubLate
  /-- BASIN_WIPE_DONE (R325). The Basin wipe completes, BASIN_READY is set and BAS returns to RUN. -/
  | basinWipeDone
  /-- SHALLOWS_WIPE_DONE (R325). The Shallows wipe completes, SHALLOWS_READY is set and SHL returns to RUN. -/
  | shallowsWipeDone
  /-- STOP_ALL (R374). A write of MOTC.STOP_ALL requests a controlled stop of every axis. -/
  | stopAll
  /-- SPIT_GO (R386). A write of MOTC.SPIT_CMD.GO starts a spit burst on the selected ports, or is refused. -/
  | spitGo
  /-- SPIT_STOP (R387). A write of SPIT_CMD.STOP ends every port at the end of its current spit cycle. -/
  | spitStop
  /-- FAULT_MESSAGE (R393). The collector takes a fault message, stamps it, escalates it, writes a Sediment record,
updates a slot and starts the reactions of its severity. -/
  | faultMessage
  /-- ACK_ALL (R406). A write of FLT.ACK.ALL frees every freeable slot and the overflow severity. -/
  | ackAll
  /-- ACK_MEMO (R408). A write of FLT.ACK.MEMO acknowledges a held LOCK memo. -/
  | ackMemo
  /-- QUIET_EXIT (R407). QUIET.MS passes with no message, inputs high and recoveries left, and FLT leaves SAFE. -/
  | quietExit
  /-- SAFE_IN (R404). SAFE_IN_N is held low for 8 samples and raises SAFE_IN at SAFE. -/
  | safeIn
  /-- RIPPLE_TOGGLE (R405). Every HALF_US µs the Ripple pin toggles unless a cause holds it. -/
  | rippleToggle
  /-- KICK (R405). A write of FLT.KICK restarts the Ripple kick timer. -/
  | kick
  /-- KICK_MISSED (R405). No KICK has come for KICK_MS ms and Ripple is held. -/
  | kickMissed
  /-- FLT_INTERNAL (R405). The collector's own parity or sequence check fails and Ripple is held. -/
  | fltInternal
  /-- SEDIMENT_RECORD (R414). A record enters the Sediment FIFO and is stored, or dropped when the FIFO is full or
Sediment is frozen. -/
  | sedimentRecord
  /-- FREEZE_COUNT_END (R415). POST further records after a trigger have been written and Sediment freezes. -/
  | freezeCountEnd
  /-- FREEZE (R415). A write of SED.CTRL.FREEZE freezes Sediment at once. -/
  | freeze
  /-- RELEASE (R415). A write of SED.CTRL.RELEASE clears FROZEN and PROTECT and ends a POST countdown. -/
  | release
  /-- DUMP_CLEAR (R418). A write of SED.CTRL.DUMP_CLEAR starts erasing a HELD dump region. -/
  | dumpClear
  /-- DUMP_ERASE_DONE (R418). An erase of the dump region completes and the region becomes READY. -/
  | dumpEraseDone
  /-- PFAIL (R417). PFAIL_N held low for 8 samples raises PFAIL at SAFE and takes the dump set. -/
  | pfail
  /-- DUMP_START (R417). The power-fail or LOCK memo dump starts by killing CMP_3's job and compressing the dump set
into Shallows slice 63. -/
  | dumpStart
  /-- DUMP_END (R419). The dump ends, DUMP_STAT is written and source 26 is raised. -/
  | dumpEnd
  /-- PFAIL_SHED (R470). Once the SAFE reaction has reached STANDBY, PWR turns off the domains set in PFAIL_SHED. -/
  | pfailShed
  /-- CAL_RUN (R426). A write of CAL.CMD.RUN queues a run of the CMD_MAP targets. -/
  | calRun
  /-- SPARE_TAKEOVER (R428). At the next conversion-slot boundary the spare takes over a channel's multiplexer and
schedule. -/
  | spareTakeover
  /-- SPARE_HANDBACK (R428). At the next slot boundary after a run, the channel resumes its work and the spare becomes
free. -/
  | spareHandback
  /-- LOCKOUT_END (R445). The 1 s lockout ends. -/
  | lockoutEnd
  /-- DISARM_HEAD (R452). A write of SEC.DISARM.HEAD lets every head port reach its drain boundary before head power
is turned off. -/
  | disarmHead
  /-- DISARM_HEAD_COMPLETE (R452). Every head port has reached its drain boundary, every HPWR_EN goes low and both
arms clear. -/
  | disarmHeadComplete
  /-- DISARM_PRINT (R452). A write of SEC.DISARM.PRINT clears PRINT_ARMED. -/
  | disarmPrint
  /-- DLL_UNLOCK (R460). The TS_CLK DLL loses lock and TRG issues no cycle. -/
  | dllUnlock
  /-- DLL_RELOCK (R460). The TS_CLK DLL regains lock, and cycles resume after one accepted run of target 9. -/
  | dllRelock
  /-- BROWN_OUT_RESET (R466). 2 µs after SUPPLY_LOW the supply has not recovered and the device is reset. -/
  | brownOutReset
  /-- SPIF_READ (R479). SPIF.OP GO with OPCODE 0 starts copying flash bytes to Basin, or is refused. -/
  | spifRead
  /-- SPIF_PROGRAM (R479). SPIF.OP GO with OPCODE 1 starts programming one flash page from Basin, or is refused. -/
  | spifProgram
  /-- SPIF_ERASE (R479). SPIF.OP GO with OPCODE 2 starts erasing a 64 KiB flash block, or is refused. -/
  | spifErase
  /-- SAFE_IN_RELEASE (R404). SAFE_IN_N is seen high for 8 consecutive samples, STATE.SAFE_IN clears and
acknowledgement or a quiet-period exit of SAFE becomes possible. -/
  | safeInRelease
  /-- PFAIL_RELEASE (R470). PFAIL_N returns high without a reset, STATE.PFAIL clears, shed domains stay off and SAFE
may be left under R406 and R407. -/
  | pfailRelease
  /-- RESET_ASSERTED (R487). RESET_N falls, or TEST_EN rises, and every pin takes its reset state while the device is
held in reset. -/
  | resetAsserted
deriving DecidableEq, Repr

end Sys2Proof
end

