-- ==== Sys2Proof/Machine/Tbl.lean ====
section
/-!
DEFINITION. Sparse tables: a list of (key, value) pairs, keys strictly rising, in which a key that is not listed
reads as a default and no listed value equals that default.  Memories, the register file and every per-port,
per-plane or per-channel store of the machine are such tables, so that equal contents are equal data.
-/
namespace Sys2Proof.Machine

/-- The value at key `k`, `d` where the table lists none. -/
def tget {α : Type} (d : α) : List (Nat × α) → Nat → α
  | [], _ => d
  | (k', v) :: t, k => if k' = k then v else tget d t k

/-- Put `(k, v)` before the first larger key. -/
def tins {α : Type} (k : Nat) (v : α) : List (Nat × α) → List (Nat × α)
  | [] => [(k, v)]
  | (k', v') :: t => if k' < k then (k', v') :: tins k v t else (k, v) :: (k', v') :: t

/-- The table without key `k`. -/
def tdel {α : Type} (k : Nat) (t : List (Nat × α)) : List (Nat × α) :=
  t.filter (fun e => e.1 != k)

/-- The table with `v` at key `k`; writing the default removes the entry. -/
def tset {α : Type} [DecidableEq α] (d : α) (k : Nat) (v : α) (t : List (Nat × α)) : List (Nat × α) :=
  if v = d then tdel k t else tins k v (tdel k t)

/-- The canonical form: keys strictly rising, no listed value equal to the default. -/
def twf {α : Type} [DecidableEq α] (d : α) : List (Nat × α) → Bool
  | [] => true
  | [(_, v)] => decide (v ≠ d)
  | (k, v) :: (k', v') :: t => decide (v ≠ d) && decide (k < k') && twf d ((k', v') :: t)

/-- An association list's value for a key of any comparable type. -/
def aget {κ α : Type} [DecidableEq κ] (k : κ) : List (κ × α) → Option α
  | [] => none
  | (k', v) :: t => if k' = k then some v else aget k t

/-- The association list without key `k`. -/
def adel {κ α : Type} [DecidableEq κ] (k : κ) (t : List (κ × α)) : List (κ × α) :=
  t.filter (fun e => decide (e.1 ≠ k))

/-- The association list with `v` at `k`. -/
def aset {κ α : Type} [DecidableEq κ] (k : κ) (v : α) (t : List (κ × α)) : List (κ × α) :=
  (k, v) :: adel k t

/-- Element `i` of a list, `d` past its end. -/
def nth {α : Type} (d : α) : List α → Nat → α
  | [], _ => d
  | x :: _, 0 => x
  | _ :: t, n + 1 => nth d t n

/-- The list with element `i` replaced (unchanged past its end). -/
def setNth {α : Type} (v : α) : List α → Nat → List α
  | [], _ => []
  | _ :: t, 0 => v :: t
  | x :: t, n + 1 => x :: setNth v t n

/-- An element put into a sorted list, after those it does not come before. -/
def insBy {α : Type} (le : α → α → Bool) (x : α) : List α → List α
  | [] => [x]
  | y :: t => if le x y then x :: y :: t else y :: insBy le x t

/-- A list sorted by an order. -/
def sortBy {α : Type} (le : α → α → Bool) : List α → List α
  | [] => []
  | x :: t => insBy le x (sortBy le t)

end Sys2Proof.Machine
end

