-- ==== Sys2Proof/Machine/Fld.lean ====
section
/-!
DEFINITION. A register field of the manual: the page and offset of its register, its bits, its access code
(R5, Table 0.5) and its reset value (R7).  The register file keeps one number per field, keyed by the field.
-/
namespace Sys2Proof.Machine

/-- The access codes of Table 0.5 (R5). -/
inductive Acc where
  | rw | ro | w1c | w1s | rc | wo | rwx | rwa
deriving DecidableEq, Repr

/-- One field.  `off` is the page offset of the register, of the `_LO` register for a pair (R8), whose bits
are then numbered 63:0. -/
structure Fld where
  page : Nat
  off  : Nat
  hi   : Nat
  lo   : Nat
  acc  : Acc
  rst  : Nat
  pair : Bool
deriving DecidableEq, Repr

/-- The register-file key of a field: its BAR0 offset and lowest bit. -/
def Fld.key (f : Fld) : Nat := (f.page * 4096 + f.off) * 64 + f.lo

/-- The number of values the field can hold. -/
def Fld.cap (f : Fld) : Nat := 2 ^ (f.hi + 1 - f.lo)

/-- Is this field in the 32-bit register at page offset `off`? -/
def Fld.covers (f : Fld) (off : Nat) : Bool := f.off == off || (f.pair && f.off + 4 == off)

/-- The register file: the value of each field that is not at its reset value. -/
abbrev RegFile := List (Nat × Nat)

/-- The value of a field. -/
def RegFile.get (r : RegFile) (f : Fld) : Nat := tget f.rst r f.key

/-- The register file with a field set, cut to the field's width. -/
def RegFile.set (r : RegFile) (f : Fld) (v : Nat) : RegFile := tset f.rst f.key (v % f.cap) r

end Sys2Proof.Machine
end

