-- ==== Sys2Proof/Machine/Operands.lean ====
section
/-!
DEFINITION. How operands are read: bit fields of a number, two's complement, little-endian byte strings, rounding.
-/
namespace Sys2Proof.Machine

/-- Bits hi:lo of a number. -/
def bits (n hi lo : Nat) : Nat := n / 2 ^ lo % 2 ^ (hi + 1 - lo)

/-- Bit `i` of a number, as a number. -/
def bitN (n i : Nat) : Nat := n / 2 ^ i % 2

/-- Bit `i` of a number. -/
def bit (n i : Nat) : Bool := n.testBit i

/-- The number with bit `i` set. -/
def setB (n i : Nat) : Nat := n ||| 2 ^ i

/-- The number with bit `i` cleared. -/
def clrB (n i : Nat) : Nat := if n.testBit i then n - 2 ^ i else n

/-- The number with bit `i` given. -/
def putB (n i : Nat) (b : Bool) : Nat := if b then setB n i else clrB n i

/-- The bits of `n` that are not in `m`. -/
def andNot (n m : Nat) : Nat := n - (n &&& m)

/-- The number of a truth value. -/
def b2n (b : Bool) : Nat := if b then 1 else 0

/-- The two's-complement value of a `w`-bit field. -/
def toSigned (w n : Nat) : Int := if 2 ^ (w - 1) ≤ n % 2 ^ w then (n % 2 ^ w : Nat) - (2 ^ w : Nat) else (n % 2 ^ w : Nat)

/-- A `w`-bit field holding an integer, wrapped (R13). -/
def ofSigned (w : Nat) (i : Int) : Nat := (i % (2 ^ w : Nat)).toNat

/-- An integer clamped to the range of a signed `w`-bit field (R13, `sat`). -/
def satS (w : Nat) (i : Int) : Int := max (-(2 ^ (w - 1) : Nat)) (min i ((2 ^ (w - 1) : Nat) - 1))

/-- A count that stops at the top of a `w`-bit field. -/
def satInc (w n : Nat) : Nat := if n + 1 < 2 ^ w then n + 1 else 2 ^ w - 1

/-- A sum that stops at the top of a `w`-bit field. -/
def satAdd (w n k : Nat) : Nat := if n + k < 2 ^ w then n + k else 2 ^ w - 1

/-- Division rounding up. -/
def ceilDiv (a b : Nat) : Nat := (a + b - 1) / b

/-- Integer division rounding half away from zero (R13, `round`). -/
def roundDiv (a b : Int) : Int :=
  if b = 0 then 0
  else if 0 ≤ a * b then (2 * a.natAbs + b.natAbs) / (2 * b.natAbs) else -((2 * a.natAbs + b.natAbs) / (2 * b.natAbs))

/-- A number clamped to lo..hi. -/
def clamp (lo hi n : Nat) : Nat := max lo (min hi n)

/-- The little-endian bytes of a number. -/
def leBytes : Nat → Nat → Bytes
  | 0, _ => []
  | n + 1, v => BitVec.ofNat 8 v :: leBytes n (v / 256)

/-- The number a little-endian byte string spells. -/
def leVal : Bytes → Nat
  | [] => 0
  | b :: t => b.toNat + 256 * leVal t

/-- `n` bytes of a string from offset `o`, as a little-endian number (absent bytes read 0). -/
def leAt (bs : Bytes) (o n : Nat) : Nat := leVal ((bs.drop o).take n)

/-- Byte `o` of a string, 0 past its end. -/
def byteAt (bs : Bytes) (o : Nat) : Nat := ((bs.drop o).headD 0).toNat

/-- The string with its end padded with zeros to `n` bytes, and cut there. -/
def padTo (n : Nat) (bs : Bytes) : Bytes := (bs ++ List.replicate n 0).take n

/-- The bits of a number below `w` that are set, lowest first. -/
def bitList (w n : Nat) : List Nat := (List.range w).filter fun i => n.testBit i

end Sys2Proof.Machine
end

