-- ==== Sys2Proof/Machine/Check.lean ====
section
/-!
DEFINITION. The checks the formats carry: CRC-32C (tables, scripts, blocks), CRC-32 (Norper segments), CRC-8, and
AES-128 with its CMAC (R443, NIST SP 800-38B).
-/
namespace Sys2Proof.Machine

/-! ### Cyclic redundancy checks -/

/-- `n` reflected CRC steps with polynomial `p`. -/
def crcSteps (p : Nat) : Nat → Nat → Nat
  | 0, c => c
  | n + 1, c => crcSteps p n (if c % 2 = 1 then (c / 2) ^^^ p else c / 2)

/-- A reflected 32-bit CRC of a byte string: all-ones start and final inversion. -/
def crcReflected (p : Nat) (bs : Bytes) : Nat :=
  (bs.foldl (fun c b => crcSteps p 8 (c ^^^ b.toNat)) 0xFFFFFFFF) ^^^ 0xFFFFFFFF

/-- CRC-32C (Castagnoli). -/
def crc32c (bs : Bytes) : Nat := crcReflected 0x82F63B78 bs

/-- CRC-32 (IEEE 802.3). -/
def crc32 (bs : Bytes) : Nat := crcReflected 0xEDB88320 bs

/-- `n` forward CRC steps on a `w`-bit register with polynomial `p`. -/
def crcFwd (w p : Nat) : Nat → Nat → Nat
  | 0, c => c
  | n + 1, c => crcFwd w p n (if c.testBit (w - 1) then ((c * 2) % 2 ^ w) ^^^ p else (c * 2) % 2 ^ w)

/-- CRC-8 (R499): generator 0x07, initial value 0, most significant bit first, no final exclusive-or. -/
def crc8 (bs : Bytes) : Nat := bs.foldl (fun c b => crcFwd 8 0x07 8 (c ^^^ b.toNat)) 0

/-! ### AES-128 -/

/-- The AES S-box. -/
def aesSbox : List Nat :=
  [0x63, 0x7C, 0x77, 0x7B, 0xF2, 0x6B, 0x6F, 0xC5, 0x30, 0x01, 0x67, 0x2B, 0xFE, 0xD7, 0xAB, 0x76] ++
  [0xCA, 0x82, 0xC9, 0x7D, 0xFA, 0x59, 0x47, 0xF0, 0xAD, 0xD4, 0xA2, 0xAF, 0x9C, 0xA4, 0x72, 0xC0] ++
  [0xB7, 0xFD, 0x93, 0x26, 0x36, 0x3F, 0xF7, 0xCC, 0x34, 0xA5, 0xE5, 0xF1, 0x71, 0xD8, 0x31, 0x15] ++
  [0x04, 0xC7, 0x23, 0xC3, 0x18, 0x96, 0x05, 0x9A, 0x07, 0x12, 0x80, 0xE2, 0xEB, 0x27, 0xB2, 0x75] ++
  [0x09, 0x83, 0x2C, 0x1A, 0x1B, 0x6E, 0x5A, 0xA0, 0x52, 0x3B, 0xD6, 0xB3, 0x29, 0xE3, 0x2F, 0x84] ++
  [0x53, 0xD1, 0x00, 0xED, 0x20, 0xFC, 0xB1, 0x5B, 0x6A, 0xCB, 0xBE, 0x39, 0x4A, 0x4C, 0x58, 0xCF] ++
  [0xD0, 0xEF, 0xAA, 0xFB, 0x43, 0x4D, 0x33, 0x85, 0x45, 0xF9, 0x02, 0x7F, 0x50, 0x3C, 0x9F, 0xA8] ++
  [0x51, 0xA3, 0x40, 0x8F, 0x92, 0x9D, 0x38, 0xF5, 0xBC, 0xB6, 0xDA, 0x21, 0x10, 0xFF, 0xF3, 0xD2] ++
  [0xCD, 0x0C, 0x13, 0xEC, 0x5F, 0x97, 0x44, 0x17, 0xC4, 0xA7, 0x7E, 0x3D, 0x64, 0x5D, 0x19, 0x73] ++
  [0x60, 0x81, 0x4F, 0xDC, 0x22, 0x2A, 0x90, 0x88, 0x46, 0xEE, 0xB8, 0x14, 0xDE, 0x5E, 0x0B, 0xDB] ++
  [0xE0, 0x32, 0x3A, 0x0A, 0x49, 0x06, 0x24, 0x5C, 0xC2, 0xD3, 0xAC, 0x62, 0x91, 0x95, 0xE4, 0x79] ++
  [0xE7, 0xC8, 0x37, 0x6D, 0x8D, 0xD5, 0x4E, 0xA9, 0x6C, 0x56, 0xF4, 0xEA, 0x65, 0x7A, 0xAE, 0x08] ++
  [0xBA, 0x78, 0x25, 0x2E, 0x1C, 0xA6, 0xB4, 0xC6, 0xE8, 0xDD, 0x74, 0x1F, 0x4B, 0xBD, 0x8B, 0x8A] ++
  [0x70, 0x3E, 0xB5, 0x66, 0x48, 0x03, 0xF6, 0x0E, 0x61, 0x35, 0x57, 0xB9, 0x86, 0xC1, 0x1D, 0x9E] ++
  [0xE1, 0xF8, 0x98, 0x11, 0x69, 0xD9, 0x8E, 0x94, 0x9B, 0x1E, 0x87, 0xE9, 0xCE, 0x55, 0x28, 0xDF] ++
  [0x8C, 0xA1, 0x89, 0x0D, 0xBF, 0xE6, 0x42, 0x68, 0x41, 0x99, 0x2D, 0x0F, 0xB0, 0x54, 0xBB, 0x16]

/-- Multiplication by x in the AES field. -/
def aesXtime (a : Nat) : Nat := if a.testBit 7 then ((a * 2) % 256) ^^^ 0x1B else a * 2

/-- One S-box look-up. -/
def aesSub (a : Nat) : Nat := nth 0 aesSbox a

/-- Two byte lists added in the field, byte by byte. -/
def xorBytes (a b : List Nat) : List Nat := List.zipWith (· ^^^ ·) a b

/-- The next round key. -/
def aesNextKey (rc : Nat) (k : List Nat) : List Nat :=
  let w3 := k.drop 12
  let t := ((w3.drop 1) ++ (w3.take 1)).map aesSub
  let t := xorBytes t [rc, 0, 0, 0]
  let w0 := xorBytes (k.take 4) t
  let w1 := xorBytes ((k.drop 4).take 4) w0
  let w2 := xorBytes ((k.drop 8).take 4) w1
  let w3' := xorBytes w3 w2
  w0 ++ w1 ++ w2 ++ w3'

/-- The bytes of a block after ShiftRows (column-major). -/
def aesShift (s : List Nat) : List Nat :=
  [0, 5, 10, 15, 4, 9, 14, 3, 8, 13, 2, 7, 12, 1, 6, 11].map (nth 0 s)

/-- One column of MixColumns. -/
def aesMixCol (a b c e : Nat) : List Nat :=
  [aesXtime a ^^^ (aesXtime b ^^^ b) ^^^ c ^^^ e, a ^^^ aesXtime b ^^^ (aesXtime c ^^^ c) ^^^ e,
   a ^^^ b ^^^ aesXtime c ^^^ (aesXtime e ^^^ e), (aesXtime a ^^^ a) ^^^ b ^^^ c ^^^ aesXtime e]

/-- MixColumns. -/
def aesMix : List Nat → List Nat
  | a :: b :: c :: e :: t => aesMixCol a b c e ++ aesMix t
  | _ => []

/-- The rounds: `rcs` are the round constants still to use; the last round has no MixColumns. -/
def aesRounds : List Nat → List Nat → List Nat → List Nat
  | [], _, s => s
  | [rc], k, s => xorBytes (aesShift (s.map aesSub)) (aesNextKey rc k)
  | rc :: rcs, k, s => aesRounds rcs (aesNextKey rc k) (xorBytes (aesMix (aesShift (s.map aesSub))) (aesNextKey rc k))

/-- AES-128 of one 16-byte block. -/
def aes128 (key block : List Nat) : List Nat :=
  aesRounds [0x01, 0x02, 0x04, 0x08, 0x10, 0x20, 0x40, 0x80, 0x1B, 0x36] key (xorBytes block key)

/-- A 16-byte string doubled in the CMAC field (big-endian). -/
def cmacDouble (b : List Nat) : List Nat :=
  let n := b.foldl (fun a x => a * 256 + x) 0
  let m := if n.testBit 127 then ((n * 2) % 2 ^ 128) ^^^ 0x87 else n * 2
  (List.range 16).map fun i => m / 256 ^ (15 - i) % 256

/-- The chaining of CMAC over `n` more blocks; the last, complete or padded, is masked with a subkey. -/
def cmacChain (key k1 k2 : List Nat) : Nat → List Nat → List Nat → List Nat
  | 0, x, m =>
    let last := if m.length = 16 then xorBytes m k1 else xorBytes ((m ++ [0x80] ++ List.replicate 16 0).take 16) k2
    aes128 key (xorBytes x last)
  | n + 1, x, m => cmacChain key k1 k2 n (aes128 key (xorBytes x (m.take 16))) (m.drop 16)

/-- AES-128-CMAC of a byte string (R443). -/
def cmac (key msg : List Nat) : List Nat :=
  let l := aes128 key (List.replicate 16 0)
  let k1 := cmacDouble l
  cmacChain key k1 (cmacDouble k1) ((msg.length - 1) / 16) (List.replicate 16 0) msg

/-- A byte string as numbers. -/
def natBytes (bs : Bytes) : List Nat := bs.map (·.toNat)

end Sys2Proof.Machine
end

