-- ==== Sys2Proof/Machine/Compress.lean ====
section
/-!
DEFINITION. The block format of chapter 15: decoding a block with its checks in order (R346 to R355, Table 15.4), and
forming blocks, streams' end records and tile entries (R353, R356, R359).
-/
namespace Sys2Proof.Machine

/-! ### Tokens (R349, R350) -/

/-- `n` bytes copied one at a time from `o` + 1 bytes back; the output is held newest byte first. -/
def copyBack (o : Nat) : Nat → Bytes → Bytes
  | 0, h => h
  | n + 1, h => copyBack o n (nth 0 h o :: h)

/-- `n` copies of a byte put on the output. -/
def fillBytes (v : Byte) (n : Nat) (h : Bytes) : Bytes := List.replicate n v ++ h

/-- The extension bytes of a LONG token: their sum and the payload after them; none when the payload ends first. -/
def longExt : Bytes → Option (Nat × Bytes)
  | [] => none
  | b :: t => if b.toNat < 255 then some (b.toNat, t) else (longExt t).map fun r => (255 + r.1, r.2)

/-- What one token asks for. -/
inductive Token where
  | literal (bytes : Bytes)
  | copy (len offset : Nat)
  | fill (len : Nat) (v : Byte)
  | done
deriving DecidableEq, Repr

/-- A match's two offset bytes. -/
def longOffset (len : Nat) : Bytes → Except Nat (Token × Bytes)
  | b0 :: b1 :: t => .ok (.copy len (leVal [b0, b1]), t)
  | _ => .error 9

/-- The token at the front of the payload, with what follows it: check 5, then check 9 (R354). -/
def readToken : Bytes → Except Nat (Token × Bytes)
  | [] => .error 9
  | b :: t =>
    let x := b.toNat
    if x < 0x80 then
      if t.length < x + 1 then .error 9 else .ok (.literal (t.take (x + 1)), t.drop (x + 1))
    else if x < 0xC0 then
      match t with
      | [] => .error 9
      | o :: t => .ok (.copy (x - 0x80 + 3) o.toNat, t)
    else if x < 0xDF then longOffset (x - 0xC0 + 3) t
    else if x = 0xDF then
      match longExt t with
      | none => .error 9
      | some (e, t) => longOffset (34 + e) t
    else if x = 0xE0 then
      match t with
      | c0 :: c1 :: v :: t => .ok (.fill (leVal [c0, c1] + 1) v, t)
      | _ => .error 9
    else if x = 0xF0 then .ok (.done, t)
    else .error 5

/-- The walk over the tokens: the output of `ulen` bytes, newest first, or the first failing code (R354). -/
def walkTokens (ulen : Nat) : Nat → Bytes → Nat → Bytes → Except Nat Bytes
  | 0, _, _, _ => .error 9
  | fuel + 1, p, n, h =>
    match readToken p with
    | .error c => .error c
    | .ok (.done, t) => if n < ulen then .error 8 else if t = [] then .ok h else .error 10
    | .ok (.literal bs, t) =>
      if ulen < n + bs.length then .error 7 else walkTokens ulen fuel t (n + bs.length) (bs.reverse ++ h)
    | .ok (.copy len o, t) =>
      if n < o + 1 then .error 6
      else if ulen < n + len then .error 7
      else walkTokens ulen fuel t (n + len) (copyBack o len h)
    | .ok (.fill len v, t) =>
      if ulen < n + len then .error 7 else walkTokens ulen fuel t (n + len) (fillBytes v len h)

/-- The bytes a token payload gives. -/
def decodeTokens (ulen : Nat) (p : Bytes) : Except Nat Bytes :=
  match walkTokens ulen (p.length + 1) p 0 [] with
  | .error c => .error c
  | .ok h => .ok h.reverse

/-! ### Blocks (R346, R354) -/

/-- The largest uncompressed length of a block. -/
def maxBlock : Nat := 1048576

/-- The checks 1 to 4 of a block of the given length, before any payload byte is read; 0 when they pass. -/
def headerCode (b : Bytes) (tile : Bool) (given : Nat) : Nat :=
  let ulen := leAt b 4 4
  let plen := leAt b 8 4
  if given < 17 then 4
  else if byteAt b 0 ≠ 0xB7 then 1
  else if byteAt b 1 ≠ 1 then 2
  else if byteAt b 2 / 2 ≠ 0 ∨ 9 < byteAt b 3 ∨ ulen = 0 ∨ maxBlock < ulen ∨ (tile = true ∧ ulen ≠ 32768) then 3
  else if plen = 0 ∨ ulen < plen ∨ (byteAt b 2 % 2 = 1 ∧ plen ≠ ulen) ∨ plen + 16 ≠ given then 4
  else 0

/-- Decoding a block of the given length: its bytes, or the code of the first check that fails (R354, R355).
`tile` adds the tile's fixed length, `crc` says whether the trailer is checked. -/
def decodeBlock (tile crc : Bool) (given : Nat) (b : Bytes) : Except Nat Bytes :=
  let c := headerCode b tile given
  if c ≠ 0 then .error c
  else
    let ulen := leAt b 4 4
    let plen := leAt b 8 4
    let payload := (b.drop 12).take plen
    let r := if byteAt b 2 % 2 = 1 then .ok payload else decodeTokens ulen payload
    match r with
    | .error c => .error c
    | .ok out => if crc = true ∧ crc32c (b.take 12 ++ out) ≠ leAt b (12 + plen) 4 then .error 11 else .ok out

/-! ### Forming blocks (R346, R353, R356) -/

/-- A block from its flags, level, payload and the bytes it stands for. -/
def mkBlock (flags level : Nat) (payload data : Bytes) : Bytes :=
  let h := leBytes 1 0xB7 ++ leBytes 1 1 ++ leBytes 1 flags ++ leBytes 1 level ++ leBytes 4 data.length ++ leBytes 4 payload.length
  h ++ payload ++ leBytes 4 (crc32c (h ++ data))

/-- A block of a job's data at a level, from the payload its search offers: the payload is used when it decodes to
the data and is shorter; otherwise, and always at level 0, the block is STORED (R347, R353, R356). -/
def packBlock (level : Nat) (offered data : Bytes) : Bytes :=
  let whole := match decodeTokens data.length offered with | .ok out => out == data | .error _ => false
  if level ≠ 0 ∧ offered.length < data.length ∧ whole = true then mkBlock 0 level offered data
  else mkBlock 1 level data data

/-- A byte string cut into pieces of `n` bytes, the last holding the remainder. -/
def pieces (n : Nat) : Nat → Bytes → List Bytes
  | 0, _ => []
  | fuel + 1, bs => if bs = [] then [] else bs.take n :: pieces n fuel (bs.drop n)

/-- A stream end record (Table 15.3). -/
def endRecord (blocks total : Nat) : Bytes :=
  leBytes 1 0xB8 ++ leBytes 1 1 ++ leBytes 2 0 ++ leBytes 4 blocks ++ leBytes 8 total

/-- A tile entry (Table 4.7): KIND, LEN and ADDR16. -/
def tileEntry (kind len addr : Nat) : Nat := kind * 2 ^ 62 + len * 2 ^ 46 + addr / 16

end Sys2Proof.Machine
end

