-- ==== Sys2Proof/Config.lean ====
section
/-!
DEFINITION. The values the manual leaves open, as constants without a body, so that no proof can see a value:
a statement about one holds whatever it is.  Each has its row under notes/assumptions/.
-/
namespace Sys2Proof.Config

/-- The k-th value that the manual does not state: the machine's counter `Dev.free` says which one is drawn
(notes/assumptions/1.md). -/
opaque freeValue : Nat → Nat

/-- Byte i of the k-th byte string that the manual leaves undefined or does not state (notes/assumptions/1.md). -/
opaque freeByte : Nat → Nat → Byte

/-- The bytes a compressor engine's search offers as the token payload of a block, for a level and the block's
bytes: R356 fixes what they depend on, not which tokens they are (notes/assumptions/2.md). -/
opaque tokens : (op level block blank : Nat) → (source : Bytes) → (index : Nat) → Bytes

/-- The sine of an angle in quarter-steps of a turn over 1024, scaled by 32,768, as the micro-step driver forms it
(notes/assumptions/4.md). -/
opaque sine : Nat → Int

end Sys2Proof.Config
end

