-- ==== Sys2Proof/Machine/Blocks.lean ====
section
/-!
DEFINITION. The blocks and their register pages (Table 21.1, R474, R476), the event sources their EV_RAW bits
raise (R46 and the source tables of each chapter), and the fault kinds with their default severities.
-/
namespace Sys2Proof.Machine

/-- The block families of the page map (Table 21.1).  `ENGX` is ENG_A (instance 0) and ENG_B (instance 1). -/
inductive Blk where
  | SYS | CLK | PWR | SEC | EVT | FLT | SED | PCI | CAL | BAS | TRN | SHL
  | DMAC | DMA | CMPC | CMP | DCM | ENCC | ENC | EOUT | EMR | EML | PRT | TRG
  | THM | SND | MSK | ENG | ENGX | HPT | MOTC | MOT | GPIO | SMB | SPIF
deriving DecidableEq, Repr

/-- The page number of instance 0 of a block (Table 21.1). -/
def Blk.base : Blk → Nat
  | .SYS => 0
  | .CLK => 1
  | .PWR => 2
  | .SEC => 3
  | .EVT => 4
  | .FLT => 5
  | .SED => 6
  | .PCI => 7
  | .CAL => 8
  | .BAS => 0x10
  | .TRN => 0x11
  | .SHL => 0x12
  | .DMAC => 0x1F
  | .DMA => 0x20
  | .CMPC => 0x40
  | .CMP => 0x41
  | .DCM => 0x50
  | .ENCC => 0x90
  | .ENC => 0x91
  | .EOUT => 0x98
  | .EMR => 0xA0
  | .EML => 0xA1
  | .PRT => 0xB0
  | .TRG => 0xB1
  | .THM => 0xB2
  | .SND => 0xB3
  | .MSK => 0xB4
  | .ENG => 0xB5
  | .ENGX => 0xB8
  | .HPT => 0x100
  | .MOTC => 0x140
  | .MOT => 0x141
  | .GPIO => 0x150
  | .SMB => 0x151
  | .SPIF => 0x152

/-- The number of instances of a block (Table 21.1). -/
def Blk.count : Blk → Nat
  | .SYS => 1
  | .CLK => 1
  | .PWR => 1
  | .SEC => 1
  | .EVT => 1
  | .FLT => 1
  | .SED => 1
  | .PCI => 1
  | .CAL => 1
  | .BAS => 1
  | .TRN => 1
  | .SHL => 1
  | .DMAC => 1
  | .DMA => 32
  | .CMPC => 1
  | .CMP => 4
  | .DCM => 64
  | .ENCC => 1
  | .ENC => 4
  | .EOUT => 2
  | .EMR => 1
  | .EML => 2
  | .PRT => 1
  | .TRG => 1
  | .THM => 1
  | .SND => 1
  | .MSK => 1
  | .ENG => 1
  | .ENGX => 2
  | .HPT => 64
  | .MOTC => 1
  | .MOT => 8
  | .GPIO => 1
  | .SMB => 1
  | .SPIF => 1

/-- The page of instance `n` of a block. -/
def Blk.page (b : Blk) (n : Nat) : Nat := b.base + n

/-- Every block family, in page order. -/
def Blk.all : List Blk :=
  [.SYS, .CLK, .PWR, .SEC, .EVT, .FLT, .SED, .PCI, .CAL, .BAS, .TRN, .SHL,
   .DMAC, .DMA, .CMPC, .CMP, .DCM, .ENCC, .ENC, .EOUT, .EMR, .EML, .PRT, .TRG,
   .THM, .SND, .MSK, .ENG, .ENGX, .HPT, .MOTC, .MOT, .GPIO, .SMB, .SPIF]

/-- The block and instance of a page number; none for a page that Table 21.1 does not list (R35). -/
def Blk.ofPage (p : Nat) : Option (Blk × Nat) :=
  (Blk.all.find? fun b => decide (b.base ≤ p) && decide (p < b.base + b.count)).map fun b => (b, p - b.base)

/-- The switchable power domain of a block instance (Tables 20.2, 21.1); none for the always-on core. -/
def Blk.domain (n : Nat) : Blk → Option Nat
  | .SYS => none
  | .CLK => none
  | .PWR => none
  | .SEC => none
  | .EVT => none
  | .FLT => none
  | .SED => none
  | .PCI => none
  | .CAL => none
  | .BAS => some 0
  | .TRN => some 0
  | .SHL => some 0
  | .DMAC => some 7
  | .DMA => some 7
  | .CMPC => some 8
  | .CMP => some 8
  | .DCM => some 1
  | .ENCC => some 5
  | .ENC => some 5
  | .EOUT => some 5
  | .EMR => some 6
  | .EML => some 6
  | .PRT => some 2
  | .TRG => some 5
  | .THM => some 2
  | .SND => some 2
  | .MSK => some 2
  | .ENG => some 2
  | .ENGX => some (3 + n)
  | .HPT => some (10 + n / 8)
  | .MOTC => some 9
  | .MOT => some 9
  | .GPIO => none
  | .SMB => none
  | .SPIF => none

/-- The event source that EV_RAW bit `bit` of instance `n` of a block raises (R46, R61 and the source tables). -/
def Blk.source (n bit : Nat) : Blk → Option Nat
  | .SYS => if bit ≤ 9 then some bit else none
  | .CLK => if bit ≤ 2 then some (10 + bit) else none
  | .PWR => if bit ≤ 2 then some (13 + bit) else none
  | .FLT => if bit ≤ 8 then some (16 + bit) else none
  | .SED => if bit ≤ 3 then some (25 + bit) else none
  | .HPT => if bit ≤ 11 then some (32 + n) else none
  | .ENG => if bit ≤ 7 then some (96 + bit) else none
  | .MSK => if bit ≤ 7 then some (104 + bit) else none
  | .PRT => if bit ≤ 7 then some (112 + bit) else none
  | .TRG => if bit ≤ 7 then some (120 + bit) else none
  | .ENC => if bit ≤ 2 then some (128 + 3 * n) else if bit ≤ 5 then some (129 + 3 * n) else if bit ≤ 10 then some (130 + 3 * n) else none
  | .ENCC => if bit = 0 then some 140 else none
  | .EOUT => if bit ≤ 1 then some (141 + n) else none
  | .EML => if bit = 0 then some (144 + n) else if bit = 1 then some 146 else none
  | .EMR => if bit ≤ 12 then some (147 + bit) else none
  | .DMA => if bit ≤ 3 then some (160 + n) else none
  | .CMP => if bit = 0 then some (192 + n) else if bit = 1 then some (196 + n) else if bit = 2 then some 203 else none
  | .DCM => if bit ≤ 2 then some (200 + bit) else none
  | .CMPC => if bit = 0 then some 204 else none
  | .MOT => if bit = 0 then some (208 + n) else if bit ≤ 4 then some (215 + bit) else none
  | .MOTC => if bit ≤ 2 then some (220 + bit) else none
  | .CAL => if bit ≤ 7 then some (224 + bit) else none
  | .SEC => if bit ≤ 6 then some (232 + bit) else none
  | .BAS => if bit ≤ 1 then some (240 + bit) else if bit ≤ 3 then some (241 + bit) else none
  | .SHL => if bit = 0 then some 242 else none
  | .TRN => if bit ≤ 2 then some (245 + bit) else none
  | .SND => if bit ≤ 3 then some (248 + bit) else none
  | .THM => if bit ≤ 3 then some (252 + bit) else none
  | _ => none

/-- The (block, instance, EV_RAW bit) triples that raise source `s` (R46). -/
def sourceBits (s : Nat) : List (Blk × Nat × Nat) :=
  if s ≤ 9 then [(.SYS, 0, s)]
  else if s ≤ 12 then [(.CLK, 0, s - 10)]
  else if s ≤ 15 then [(.PWR, 0, s - 13)]
  else if s ≤ 24 then [(.FLT, 0, s - 16)]
  else if s ≤ 28 then [(.SED, 0, s - 25)]
  else if s ≤ 31 then []
  else if s ≤ 95 then (List.range 12).map fun b => (.HPT, s - 32, b)
  else if s ≤ 103 then [(.ENG, 0, s - 96)]
  else if s ≤ 111 then [(.MSK, 0, s - 104)]
  else if s ≤ 119 then [(.PRT, 0, s - 112)]
  else if s ≤ 127 then [(.TRG, 0, s - 120)]
  else if s ≤ 139 then
    if (s - 128) % 3 = 0 then [(.ENC, (s - 128) / 3, 0), (.ENC, (s - 128) / 3, 1), (.ENC, (s - 128) / 3, 2)]
    else if (s - 128) % 3 = 1 then [(.ENC, (s - 128) / 3, 3), (.ENC, (s - 128) / 3, 4), (.ENC, (s - 128) / 3, 5)]
    else [(.ENC, (s - 128) / 3, 6), (.ENC, (s - 128) / 3, 7), (.ENC, (s - 128) / 3, 8), (.ENC, (s - 128) / 3, 9), (.ENC, (s - 128) / 3, 10)]
  else if s = 140 then [(.ENCC, 0, 0)]
  else if s ≤ 142 then [(.EOUT, s - 141, 0), (.EOUT, s - 141, 1)]
  else if s = 143 then []
  else if s ≤ 145 then [(.EML, s - 144, 0)]
  else if s = 146 then [(.EML, 0, 1), (.EML, 1, 1)]
  else if s ≤ 159 then [(.EMR, 0, s - 147)]
  else if s ≤ 191 then (List.range 4).map fun b => (.DMA, s - 160, b)
  else if s ≤ 195 then [(.CMP, s - 192, 0)]
  else if s ≤ 199 then [(.CMP, s - 196, 1)]
  else if s ≤ 202 then (List.range 64).map fun n => (.DCM, n, s - 200)
  else if s = 203 then (List.range 4).map fun n => (.CMP, n, 2)
  else if s = 204 then [(.CMPC, 0, 0)]
  else if s ≤ 207 then []
  else if s ≤ 215 then [(.MOT, s - 208, 0)]
  else if s ≤ 219 then (List.range 8).map fun n => (.MOT, n, s - 215)
  else if s ≤ 222 then [(.MOTC, 0, s - 220)]
  else if s = 223 then []
  else if s ≤ 231 then [(.CAL, 0, s - 224)]
  else if s ≤ 238 then [(.SEC, 0, s - 232)]
  else if s = 239 then []
  else if s ≤ 241 then [(.BAS, 0, s - 240)]
  else if s = 242 then [(.SHL, 0, 0)]
  else if s ≤ 244 then [(.BAS, 0, s - 241)]
  else if s ≤ 247 then [(.TRN, 0, s - 245)]
  else if s ≤ 251 then [(.SND, 0, s - 248)]
  else if s ≤ 255 then [(.THM, 0, s - 252)]
  else []

/-- The severities of a fault (Table 17.6). -/
abbrev Sev := Nat

/-- A fault kind: its block, the EV_RAW bit set with it, its code and its default severity
(0 NOTE, 1 WARN, 2 DEGRADE, 3 STOP, 4 SAFE, 5 LOCK). -/
structure FKind where
  blk  : Blk
  bit  : Nat
  code : Nat
  sev  : Sev
deriving DecidableEq, Repr

namespace Kind

/-- Table 2.11/3.5: ACCESS_SIZE, code 1, default NOTE. -/
def SYS.ACCESS_SIZE : FKind := ⟨.SYS, 0, 1, 0⟩
/-- Table 2.11/3.5: ABSENT_TARGET, code 2, default WARN. -/
def SYS.ABSENT_TARGET : FKind := ⟨.SYS, 0, 2, 1⟩
/-- Table 2.11/3.5: LEVEL_DENIED, code 3, default NOTE. -/
def SYS.LEVEL_DENIED : FKind := ⟨.SYS, 0, 3, 0⟩
/-- Table 2.11/3.5: AUTH_REQUIRED, code 4, default WARN. -/
def SYS.AUTH_REQUIRED : FKind := ⟨.SYS, 0, 4, 1⟩
/-- Table 2.11/3.5: UNLOCK_BAD, code 5, default NOTE. -/
def SYS.UNLOCK_BAD : FKind := ⟨.SYS, 0, 5, 0⟩
/-- Table 2.11/3.5: HOST_LINK_DOWN, code 6, default WARN. -/
def SYS.HOST_LINK_DOWN : FKind := ⟨.SYS, 2, 6, 1⟩
/-- Table 2.11/3.5: MODE_REFUSED, code 7, default NOTE. -/
def SYS.MODE_REFUSED : FKind := ⟨.SYS, 5, 7, 0⟩
/-- Table 2.11/3.5: SPRING_REJECTED, code 8, default WARN. -/
def SYS.SPRING_REJECTED : FKind := ⟨.SYS, 8, 8, 1⟩
/-- Table 2.11/3.5: SPRING_STOPPED, code 9, default WARN. -/
def SYS.SPRING_STOPPED : FKind := ⟨.SYS, 8, 9, 1⟩
/-- Table 20.7: PLL_UNLOCK, code 1, default SAFE. -/
def CLK.PLL_UNLOCK : FKind := ⟨.CLK, 0, 1, 4⟩
/-- Table 20.7: REFCLK_BAD, code 2, default SAFE. -/
def CLK.REFCLK_BAD : FKind := ⟨.CLK, 1, 2, 4⟩
/-- Table 20.7: DLL_UNLOCK, code 3, default STOP. -/
def CLK.DLL_UNLOCK : FKind := ⟨.CLK, 2, 3, 3⟩
/-- Table 20.7: DOMAIN_REFUSED, code 1, default NOTE. -/
def PWR.DOMAIN_REFUSED : FKind := ⟨.PWR, 0, 1, 0⟩
/-- Table 20.7: SUPPLY_LOW, code 2, default SAFE. -/
def PWR.SUPPLY_LOW : FKind := ⟨.PWR, 1, 2, 4⟩
/-- Table 20.7: DIE_HOT, code 3, default WARN. -/
def PWR.DIE_HOT : FKind := ⟨.PWR, 2, 3, 1⟩
/-- Table 20.7: DIE_CRIT, code 4, default SAFE. -/
def PWR.DIE_CRIT : FKind := ⟨.PWR, 2, 4, 4⟩
/-- Table 4.14: BAD_DESC, code 1, default WARN. -/
def PRT.BAD_DESC : FKind := ⟨.PRT, 2, 1, 1⟩
/-- Table 4.14: BAD_TDIR, code 2, default WARN. -/
def PRT.BAD_TDIR : FKind := ⟨.PRT, 2, 2, 1⟩
/-- Table 4.14: DECODE_ERROR, code 3, default WARN. -/
def PRT.DECODE_ERROR : FKind := ⟨.PRT, 2, 3, 1⟩
/-- Table 4.14: PROVIDER_LOST, code 0xA, default STOP. -/
def PRT.PROVIDER_LOST : FKind := ⟨.PRT, 2, 0xA, 3⟩
/-- Table 4.14: SHEET_EDGE_OVERRUN, code 4, default WARN. -/
def PRT.SHEET_EDGE_OVERRUN : FKind := ⟨.PRT, 4, 4, 1⟩
/-- Table 4.14: SHEETS_MISSED, code 5, default WARN. -/
def PRT.SHEETS_MISSED : FKind := ⟨.PRT, 4, 5, 1⟩
/-- Table 4.14: GEOM_FAILED, code 6, default NOTE. -/
def PRT.GEOM_FAILED : FKind := ⟨.PRT, 5, 6, 0⟩
/-- Table 4.14: GEOM_REFUSED, code 7, default NOTE. -/
def PRT.GEOM_REFUSED : FKind := ⟨.PRT, 5, 7, 0⟩
/-- Table 4.14: CPL_LOST, code 8, default NOTE. -/
def PRT.CPL_LOST : FKind := ⟨.PRT, 6, 8, 0⟩
/-- Table 4.14: JOB_WINDOW, code 9, default WARN. -/
def PRT.JOB_WINDOW : FKind := ⟨.PRT, 7, 9, 1⟩
/-- Table 5.4: OVERSPEED, code 1, default WARN. -/
def TRG.OVERSPEED : FKind := ⟨.TRG, 1, 1, 1⟩
/-- Table 5.4: REVERSE_TRAVEL, code 2, default WARN. -/
def TRG.REVERSE_TRAVEL : FKind := ⟨.TRG, 2, 2, 1⟩
/-- Table 5.4: RATE_CFG, code 3, default NOTE. -/
def TRG.RATE_CFG : FKind := ⟨.TRG, 5, 3, 0⟩
/-- Table 5.4: CFG_LOCKED, code 4, default NOTE. -/
def TRG.CFG_LOCKED : FKind := ⟨.TRG, 5, 4, 0⟩
/-- Table 5.4: SOURCE_LOST, code 5, default STOP. -/
def TRG.SOURCE_LOST : FKind := ⟨.TRG, 6, 5, 3⟩
/-- Table 5.4: PITCH_ZERO, code 6, default STOP. -/
def TRG.PITCH_ZERO : FKind := ⟨.TRG, 6, 6, 3⟩
/-- Table 6.10: MASK_BAD, code 1, default WARN. -/
def MSK.MASK_BAD : FKind := ⟨.MSK, 1, 1, 1⟩
/-- Table 6.10: OVR_BAD, code 6, default NOTE. -/
def MSK.OVR_BAD : FKind := ⟨.MSK, 2, 6, 0⟩
/-- Table 6.10: UNCOVERED, code 2, default NOTE. -/
def MSK.UNCOVERED : FKind := ⟨.MSK, 3, 2, 0⟩
/-- Table 6.10: DUTY_CUT, code 3, default NOTE. -/
def MSK.DUTY_CUT : FKind := ⟨.MSK, 4, 3, 0⟩
/-- Table 6.10: LINE_NOT_READY, code 4, default WARN. -/
def MSK.LINE_NOT_READY : FKind := ⟨.MSK, 6, 4, 1⟩
/-- Table 6.10: CACHE_FIT, code 5, default STOP. -/
def MSK.CACHE_FIT : FKind := ⟨.MSK, 7, 5, 3⟩
/-- Table 6.10: FILL_LATE, code 1, default WARN. -/
def DCM.FILL_LATE : FKind := ⟨.DCM, 0, 1, 1⟩
/-- Table 6.10: DCM_DECODE, code 2, default WARN. -/
def DCM.DCM_DECODE : FKind := ⟨.DCM, 1, 2, 1⟩
/-- Table 7.7: HEAD_WARM, code 1, default WARN. -/
def THM.HEAD_WARM : FKind := ⟨.THM, 0, 1, 1⟩
/-- Table 7.7: HEAD_HOT, code 2, default STOP. -/
def THM.HEAD_HOT : FKind := ⟨.THM, 1, 2, 3⟩
/-- Table 7.7: TEMP_INVALID, code 3, default STOP. -/
def THM.TEMP_INVALID : FKind := ⟨.THM, 1, 3, 3⟩
/-- Table 7.7: TABLE_BAD, code 4, default WARN. -/
def THM.TABLE_BAD : FKind := ⟨.THM, 3, 4, 1⟩
/-- Table 7.7: ENVELOPE_CLAMP, code 5, default NOTE. -/
def THM.ENVELOPE_CLAMP : FKind := ⟨.THM, 3, 5, 0⟩
/-- Table 8.12: TRAIN_FAIL, code 1, default WARN. -/
def HPT.TRAIN_FAIL : FKind := ⟨.HPT, 1, 1, 1⟩
/-- Table 8.12: LINK_DOWN, code 2, default STOP. -/
def HPT.LINK_DOWN : FKind := ⟨.HPT, 2, 2, 3⟩
/-- Table 8.12: FRAME_BAD, code 3, default NOTE. -/
def HPT.FRAME_BAD : FKind := ⟨.HPT, 3, 3, 0⟩
/-- Table 8.12: LINE_REFUSED, code 4, default WARN. -/
def HPT.LINE_REFUSED : FKind := ⟨.HPT, 4, 4, 1⟩
/-- Table 8.12: BCK_ERR, code 5, default NOTE. -/
def HPT.BCK_ERR : FKind := ⟨.HPT, 5, 5, 0⟩
/-- Table 8.12: LINK_DEGRADED, code 6, default WARN. -/
def HPT.LINK_DEGRADED : FKind := ⟨.HPT, 6, 6, 1⟩
/-- Table 8.12: HEAD_MISMATCH, code 7, default WARN. -/
def HPT.HEAD_MISMATCH : FKind := ⟨.HPT, 7, 7, 1⟩
/-- Table 8.12: HEAD_STATUS, code 8, default STOP. -/
def HPT.HEAD_STATUS : FKind := ⟨.HPT, 8, 8, 3⟩
/-- Table 8.12: LAT_ERR, code 9, default WARN. -/
def HPT.LAT_ERR : FKind := ⟨.HPT, 9, 9, 1⟩
/-- Table 8.12: CTRL_TIMEOUT, code 0xA, default NOTE. -/
def HPT.CTRL_TIMEOUT : FKind := ⟨.HPT, 10, 0xA, 0⟩
/-- Table 8.12: PORT_KILLED, code 0xB, default NOTE. -/
def HPT.PORT_KILLED : FKind := ⟨.HPT, 11, 0xB, 0⟩
/-- Table 9.7: SCAN_REFUSED, code 1, default NOTE. -/
def SND.SCAN_REFUSED : FKind := ⟨.SND, 0, 1, 0⟩
/-- Table 9.7: SCAN_INCOMPLETE, code 2, default WARN. -/
def SND.SCAN_INCOMPLETE : FKind := ⟨.SND, 0, 2, 1⟩
/-- Table 9.7: NOZZLE_FAILED, code 3, default NOTE. -/
def SND.NOZZLE_FAILED : FKind := ⟨.SND, 1, 3, 0⟩
/-- Table 9.7: NOZZLE_WEAK, code 4, default NOTE. -/
def SND.NOZZLE_WEAK : FKind := ⟨.SND, 2, 4, 0⟩
/-- Table 9.7: SIG_TABLE_BAD, code 5, default WARN. -/
def SND.SIG_TABLE_BAD : FKind := ⟨.SND, 3, 5, 1⟩
/-- Table 9.7: PORT_DEGRADED, code 6, default WARN. -/
def SND.PORT_DEGRADED : FKind := ⟨.SND, 3, 6, 1⟩
/-- Table 10.9: FAILOVER, code 1, default DEGRADE. -/
def ENG.FAILOVER : FKind := ⟨.ENG, 0, 1, 2⟩
/-- Table 10.9: SWITCH_REFUSED, code 2, default NOTE. -/
def ENG.SWITCH_REFUSED : FKind := ⟨.ENG, 0, 2, 0⟩
/-- Table 10.9: DIVERGENCE, code 3, default WARN. -/
def ENG.DIVERGENCE : FKind := ⟨.ENG, 1, 3, 1⟩
/-- Table 10.9: ENGINE_CHECK, code 4, default DEGRADE. -/
def ENG.ENGINE_CHECK : FKind := ⟨.ENG, 2, 4, 2⟩
/-- Table 10.9: BIST_FAIL, code 5, default WARN. -/
def ENG.BIST_FAIL : FKind := ⟨.ENG, 4, 5, 1⟩
/-- Table 10.9: ENGINE_LOST, code 6, default STOP. -/
def ENG.ENGINE_LOST : FKind := ⟨.ENG, 6, 6, 3⟩
/-- Table 10.9: RESYNC_FAIL, code 7, default WARN. -/
def ENG.RESYNC_FAIL : FKind := ⟨.ENG, 7, 7, 1⟩
/-- Table 11.5: ILLEGAL_RATE, code 1, default STOP. -/
def ENC.ILLEGAL_RATE : FKind := ⟨.ENC, 0, 1, 3⟩
/-- Table 11.5: INDEX_MISMATCH, code 2, default WARN. -/
def ENC.INDEX_MISMATCH : FKind := ⟨.ENC, 4, 2, 1⟩
/-- Table 11.5: INDEX_FAULT, code 3, default STOP. -/
def ENC.INDEX_FAULT : FKind := ⟨.ENC, 4, 3, 3⟩
/-- Table 11.5: GAP_RESYNC, code 4, default WARN. -/
def ENC.GAP_RESYNC : FKind := ⟨.ENC, 5, 4, 1⟩
/-- Table 11.5: WIRE_AB, code 5, default STOP. -/
def ENC.WIRE_AB : FKind := ⟨.ENC, 6, 5, 3⟩
/-- Table 11.5: WIRE_Z, code 6, default WARN. -/
def ENC.WIRE_Z : FKind := ⟨.ENC, 6, 6, 1⟩
/-- Table 11.5: WIRE_SE, code 7, default WARN. -/
def ENC.WIRE_SE : FKind := ⟨.ENC, 6, 7, 1⟩
/-- Table 11.5: SOFT_LIMIT, code 8, default WARN. -/
def ENC.SOFT_LIMIT : FKind := ⟨.ENC, 7, 8, 1⟩
/-- Table 11.5: ENC_LOCKED, code 9, default NOTE. -/
def ENC.ENC_LOCKED : FKind := ⟨.ENC, 10, 9, 0⟩
/-- Table 11.5: EOUT_OVERRUN, code 1, default WARN. -/
def EOUT.EOUT_OVERRUN : FKind := ⟨.EOUT, 1, 1, 1⟩
/-- Table 12.9: LINK_LOST, code 1, default WARN. -/
def EML.LINK_LOST : FKind := ⟨.EML, 0, 1, 1⟩
/-- Table 12.9: LINK_FAILED, code 2, default WARN. -/
def EML.LINK_FAILED : FKind := ⟨.EML, 1, 2, 1⟩
/-- Table 12.9: LINK_DEGRADED, code 3, default WARN. -/
def EML.LINK_DEGRADED : FKind := ⟨.EML, 1, 3, 1⟩
/-- Table 12.9: MANAGER_CHANGE, code 1, default DEGRADE. -/
def EMR.MANAGER_CHANGE : FKind := ⟨.EMR, 0, 1, 2⟩
/-- Table 12.9: MANAGER_CONFLICT, code 2, default WARN. -/
def EMR.MANAGER_CONFLICT : FKind := ⟨.EMR, 0, 2, 1⟩
/-- Table 12.9: HANDOVER_REFUSED, code 0xC, default NOTE. -/
def EMR.HANDOVER_REFUSED : FKind := ⟨.EMR, 0, 0xC, 0⟩
/-- Table 12.9: ADDR_CONFLICT, code 3, default STOP. -/
def EMR.ADDR_CONFLICT : FKind := ⟨.EMR, 1, 3, 3⟩
/-- Table 12.9: STANDBY_DRIFT, code 0xB, default WARN. -/
def EMR.STANDBY_DRIFT : FKind := ⟨.EMR, 1, 0xB, 1⟩
/-- Table 12.9: MEMBER_LOST, code 4, default WARN. -/
def EMR.MEMBER_LOST : FKind := ⟨.EMR, 2, 4, 1⟩
/-- Table 12.9: RING_SPLIT, code 5, default WARN. -/
def EMR.RING_SPLIT : FKind := ⟨.EMR, 2, 5, 1⟩
/-- Table 12.9: REMOTE_FAULT, code 6, default WARN. -/
def EMR.REMOTE_FAULT : FKind := ⟨.EMR, 5, 6, 1⟩
/-- Table 12.9: TIME_UNLOCK, code 7, default WARN. -/
def EMR.TIME_UNLOCK : FKind := ⟨.EMR, 6, 7, 1⟩
/-- Table 12.9: TIME_STEP_DENIED, code 8, default STOP. -/
def EMR.TIME_STEP_DENIED : FKind := ⟨.EMR, 6, 8, 3⟩
/-- Table 12.9: CMD_TIMEOUT, code 9, default NOTE. -/
def EMR.CMD_TIMEOUT : FKind := ⟨.EMR, 7, 9, 0⟩
/-- Table 12.9: BULK_FAILED, code 0xA, default WARN. -/
def EMR.BULK_FAILED : FKind := ⟨.EMR, 8, 0xA, 1⟩
/-- Table 13.8: CE_RATE, code 1, default WARN. -/
def BAS.CE_RATE : FKind := ⟨.BAS, 0, 1, 1⟩
/-- Table 13.8: BASIN_UE, code 2, default WARN. -/
def BAS.BASIN_UE : FKind := ⟨.BAS, 1, 2, 1⟩
/-- Table 13.8: SHL_UE, code 1, default WARN. -/
def SHL.SHL_UE : FKind := ⟨.SHL, 0, 1, 1⟩
/-- Table 13.8: SHL_LOCKED, code 2, default NOTE. -/
def SHL.SHL_LOCKED : FKind := ⟨.SHL, 0, 2, 0⟩
/-- Table 13.8: SCRUB_LATE, code 1, default WARN. -/
def TRN.SCRUB_LATE : FKind := ⟨.TRN, 0, 1, 1⟩
/-- Table 13.8: TELEM_LOST, code 2, default NOTE. -/
def TRN.TELEM_LOST : FKind := ⟨.TRN, 1, 2, 0⟩
/-- Table 13.8: WEAR_RESET, code 3, default NOTE. -/
def TRN.WEAR_RESET : FKind := ⟨.TRN, 2, 3, 0⟩
/-- Table 14.8: DMA_PROGRAM, code 1, default WARN. -/
def DMA.DMA_PROGRAM : FKind := ⟨.DMA, 2, 1, 1⟩
/-- Table 14.8: DMA_ACCESS, code 2, default WARN. -/
def DMA.DMA_ACCESS : FKind := ⟨.DMA, 2, 2, 1⟩
/-- Table 14.8: DMA_DATA, code 3, default WARN. -/
def DMA.DMA_DATA : FKind := ⟨.DMA, 2, 3, 1⟩
/-- Table 14.8: DMA_TIMEOUT, code 4, default NOTE. -/
def DMA.DMA_TIMEOUT : FKind := ⟨.DMA, 2, 4, 0⟩
/-- Table 14.8: DMA_BUSY, code 5, default NOTE. -/
def DMA.DMA_BUSY : FKind := ⟨.DMA, 3, 5, 0⟩
/-- Table 15.11: NO_SPACE, code 1, default WARN. -/
def CMP.NO_SPACE : FKind := ⟨.CMP, 1, 1, 1⟩
/-- Table 15.11: BAD_JOB, code 2, default WARN. -/
def CMP.BAD_JOB : FKind := ⟨.CMP, 1, 2, 1⟩
/-- Table 15.11: SOURCE_ERROR, code 3, default WARN. -/
def CMP.SOURCE_ERROR : FKind := ⟨.CMP, 1, 3, 1⟩
/-- Table 15.11: DEST_REFUSED, code 4, default WARN. -/
def CMP.DEST_REFUSED : FKind := ⟨.CMP, 1, 4, 1⟩
/-- Table 15.11: Q_FULL, code 5, default NOTE. -/
def CMP.Q_FULL : FKind := ⟨.CMP, 2, 5, 0⟩
/-- Table 16.4: STALL, code 1, default WARN. -/
def MOT.STALL : FKind := ⟨.MOT, 1, 1, 1⟩
/-- Table 16.4: OVERTRAVEL, code 2, default WARN. -/
def MOT.OVERTRAVEL : FKind := ⟨.MOT, 1, 2, 1⟩
/-- Table 16.4: HOME_FAIL, code 3, default WARN. -/
def MOT.HOME_FAIL : FKind := ⟨.MOT, 1, 3, 1⟩
/-- Table 16.4: SWITCH_UNRELIABLE, code 4, default WARN. -/
def MOT.SWITCH_UNRELIABLE : FKind := ⟨.MOT, 2, 4, 1⟩
/-- Table 16.4: OVERCURRENT, code 5, default STOP. -/
def MOT.OVERCURRENT : FKind := ⟨.MOT, 3, 5, 3⟩
/-- Table 16.4: OPEN_PHASE, code 6, default WARN. -/
def MOT.OPEN_PHASE : FKind := ⟨.MOT, 3, 6, 1⟩
/-- Table 16.4: MOVE_REFUSED, code 7, default NOTE. -/
def MOT.MOVE_REFUSED : FKind := ⟨.MOT, 4, 7, 0⟩
/-- Table 16.4: LIMIT_NOT_HONOURED, code 8, default NOTE. -/
def MOT.LIMIT_NOT_HONOURED : FKind := ⟨.MOT, 4, 8, 0⟩
/-- Table 16.4: SPIT_REFUSED, code 1, default NOTE. -/
def MOTC.SPIT_REFUSED : FKind := ⟨.MOTC, 1, 1, 0⟩
/-- Table 17.12: SAFE_IN, code 1, default SAFE. -/
def FLT.SAFE_IN : FKind := ⟨.FLT, 3, 1, 4⟩
/-- Table 17.12: PFAIL, code 2, default SAFE. -/
def FLT.PFAIL : FKind := ⟨.FLT, 4, 2, 4⟩
/-- Table 17.12: ACT_OVERFLOW, code 4, default WARN. -/
def FLT.ACT_OVERFLOW : FKind := ⟨.FLT, 6, 4, 1⟩
/-- Table 17.12: POLICY_BAD, code 3, default WARN. -/
def FLT.POLICY_BAD : FKind := ⟨.FLT, 7, 3, 1⟩
/-- Table 17.12: KICK_MISSED, code 5, default NOTE. -/
def FLT.KICK_MISSED : FKind := ⟨.FLT, 8, 5, 0⟩
/-- Table 17.12: FLT_INTERNAL, code 6, default SAFE. -/
def FLT.FLT_INTERNAL : FKind := ⟨.FLT, 8, 6, 4⟩
/-- Table 17.12: SED_LOST, code 1, default NOTE. -/
def SED.SED_LOST : FKind := ⟨.SED, 0, 1, 0⟩
/-- Table 17.12: DUMP_FAIL, code 2, default WARN. -/
def SED.DUMP_FAIL : FKind := ⟨.SED, 1, 2, 1⟩
/-- Table 17.12: DUMP_SHORT, code 3, default NOTE. -/
def SED.DUMP_SHORT : FKind := ⟨.SED, 2, 3, 0⟩
/-- Table 17.12: LOCK_MEMO, code 4, default WARN. -/
def SED.LOCK_MEMO : FKind := ⟨.SED, 3, 4, 1⟩
/-- Table 18.4: CAL_IMPLAUSIBLE, code 1, default NOTE. -/
def CAL.CAL_IMPLAUSIBLE : FKind := ⟨.CAL, 1, 1, 0⟩
/-- Table 18.4: CHANNEL_FAILED, code 2, default DEGRADE. -/
def CAL.CHANNEL_FAILED : FKind := ⟨.CAL, 3, 2, 2⟩
/-- Table 18.4: CHANNEL_LOST, code 3, default STOP. -/
def CAL.CHANNEL_LOST : FKind := ⟨.CAL, 4, 3, 3⟩
/-- Table 18.4: TRIM_CLAMP, code 4, default NOTE. -/
def CAL.TRIM_CLAMP : FKind := ⟨.CAL, 5, 4, 0⟩
/-- Table 18.4: FACTORY_BAD, code 5, default WARN. -/
def CAL.FACTORY_BAD : FKind := ⟨.CAL, 6, 5, 1⟩
/-- Table 18.4: CAL_STALE, code 6, default NOTE. -/
def CAL.CAL_STALE : FKind := ⟨.CAL, 7, 6, 0⟩
/-- Table 19.6: BAD_TAG, code 1, default NOTE. -/
def SEC.BAD_TAG : FKind := ⟨.SEC, 1, 1, 0⟩
/-- Table 19.6: AUTH_LOCKOUT, code 2, default WARN. -/
def SEC.AUTH_LOCKOUT : FKind := ⟨.SEC, 1, 2, 1⟩
/-- Table 19.6: KEYSTORE_BAD, code 3, default LOCK. -/
def SEC.KEYSTORE_BAD : FKind := ⟨.SEC, 4, 3, 5⟩
/-- Table 19.6: RNG_FAIL, code 4, default WARN. -/
def SEC.RNG_FAIL : FKind := ⟨.SEC, 5, 4, 1⟩
/-- Table 19.6: FUSE_FAIL, code 5, default WARN. -/
def SEC.FUSE_FAIL : FKind := ⟨.SEC, 6, 5, 1⟩

end Kind

/-- Every fault kind the manual defines. -/
def FKind.all : List FKind :=
  [Kind.SYS.ACCESS_SIZE, Kind.SYS.ABSENT_TARGET, Kind.SYS.LEVEL_DENIED, Kind.SYS.AUTH_REQUIRED, Kind.SYS.UNLOCK_BAD, Kind.SYS.HOST_LINK_DOWN, Kind.SYS.MODE_REFUSED, Kind.SYS.SPRING_REJECTED, Kind.SYS.SPRING_STOPPED, Kind.CLK.PLL_UNLOCK] ++
  [Kind.CLK.REFCLK_BAD, Kind.CLK.DLL_UNLOCK, Kind.PWR.DOMAIN_REFUSED, Kind.PWR.SUPPLY_LOW, Kind.PWR.DIE_HOT, Kind.PWR.DIE_CRIT, Kind.PRT.BAD_DESC, Kind.PRT.BAD_TDIR, Kind.PRT.DECODE_ERROR, Kind.PRT.PROVIDER_LOST] ++
  [Kind.PRT.SHEET_EDGE_OVERRUN, Kind.PRT.SHEETS_MISSED, Kind.PRT.GEOM_FAILED, Kind.PRT.GEOM_REFUSED, Kind.PRT.CPL_LOST, Kind.PRT.JOB_WINDOW, Kind.TRG.OVERSPEED, Kind.TRG.REVERSE_TRAVEL, Kind.TRG.RATE_CFG, Kind.TRG.CFG_LOCKED] ++
  [Kind.TRG.SOURCE_LOST, Kind.TRG.PITCH_ZERO, Kind.MSK.MASK_BAD, Kind.MSK.OVR_BAD, Kind.MSK.UNCOVERED, Kind.MSK.DUTY_CUT, Kind.MSK.LINE_NOT_READY, Kind.MSK.CACHE_FIT, Kind.DCM.FILL_LATE, Kind.DCM.DCM_DECODE] ++
  [Kind.THM.HEAD_WARM, Kind.THM.HEAD_HOT, Kind.THM.TEMP_INVALID, Kind.THM.TABLE_BAD, Kind.THM.ENVELOPE_CLAMP, Kind.HPT.TRAIN_FAIL, Kind.HPT.LINK_DOWN, Kind.HPT.FRAME_BAD, Kind.HPT.LINE_REFUSED, Kind.HPT.BCK_ERR] ++
  [Kind.HPT.LINK_DEGRADED, Kind.HPT.HEAD_MISMATCH, Kind.HPT.HEAD_STATUS, Kind.HPT.LAT_ERR, Kind.HPT.CTRL_TIMEOUT, Kind.HPT.PORT_KILLED, Kind.SND.SCAN_REFUSED, Kind.SND.SCAN_INCOMPLETE, Kind.SND.NOZZLE_FAILED, Kind.SND.NOZZLE_WEAK] ++
  [Kind.SND.SIG_TABLE_BAD, Kind.SND.PORT_DEGRADED, Kind.ENG.FAILOVER, Kind.ENG.SWITCH_REFUSED, Kind.ENG.DIVERGENCE, Kind.ENG.ENGINE_CHECK, Kind.ENG.BIST_FAIL, Kind.ENG.ENGINE_LOST, Kind.ENG.RESYNC_FAIL, Kind.ENC.ILLEGAL_RATE] ++
  [Kind.ENC.INDEX_MISMATCH, Kind.ENC.INDEX_FAULT, Kind.ENC.GAP_RESYNC, Kind.ENC.WIRE_AB, Kind.ENC.WIRE_Z, Kind.ENC.WIRE_SE, Kind.ENC.SOFT_LIMIT, Kind.ENC.ENC_LOCKED, Kind.EOUT.EOUT_OVERRUN, Kind.EML.LINK_LOST] ++
  [Kind.EML.LINK_FAILED, Kind.EML.LINK_DEGRADED, Kind.EMR.MANAGER_CHANGE, Kind.EMR.MANAGER_CONFLICT, Kind.EMR.HANDOVER_REFUSED, Kind.EMR.ADDR_CONFLICT, Kind.EMR.STANDBY_DRIFT, Kind.EMR.MEMBER_LOST, Kind.EMR.RING_SPLIT, Kind.EMR.REMOTE_FAULT] ++
  [Kind.EMR.TIME_UNLOCK, Kind.EMR.TIME_STEP_DENIED, Kind.EMR.CMD_TIMEOUT, Kind.EMR.BULK_FAILED, Kind.BAS.CE_RATE, Kind.BAS.BASIN_UE, Kind.SHL.SHL_UE, Kind.SHL.SHL_LOCKED, Kind.TRN.SCRUB_LATE, Kind.TRN.TELEM_LOST] ++
  [Kind.TRN.WEAR_RESET, Kind.DMA.DMA_PROGRAM, Kind.DMA.DMA_ACCESS, Kind.DMA.DMA_DATA, Kind.DMA.DMA_TIMEOUT, Kind.DMA.DMA_BUSY, Kind.CMP.NO_SPACE, Kind.CMP.BAD_JOB, Kind.CMP.SOURCE_ERROR, Kind.CMP.DEST_REFUSED] ++
  [Kind.CMP.Q_FULL, Kind.MOT.STALL, Kind.MOT.OVERTRAVEL, Kind.MOT.HOME_FAIL, Kind.MOT.SWITCH_UNRELIABLE, Kind.MOT.OVERCURRENT, Kind.MOT.OPEN_PHASE, Kind.MOT.MOVE_REFUSED, Kind.MOT.LIMIT_NOT_HONOURED, Kind.MOTC.SPIT_REFUSED] ++
  [Kind.FLT.SAFE_IN, Kind.FLT.PFAIL, Kind.FLT.ACT_OVERFLOW, Kind.FLT.POLICY_BAD, Kind.FLT.KICK_MISSED, Kind.FLT.FLT_INTERNAL, Kind.SED.SED_LOST, Kind.SED.DUMP_FAIL, Kind.SED.DUMP_SHORT, Kind.SED.LOCK_MEMO] ++
  [Kind.CAL.CAL_IMPLAUSIBLE, Kind.CAL.CHANNEL_FAILED, Kind.CAL.CHANNEL_LOST, Kind.CAL.TRIM_CLAMP, Kind.CAL.FACTORY_BAD, Kind.CAL.CAL_STALE, Kind.SEC.BAD_TAG, Kind.SEC.AUTH_LOCKOUT, Kind.SEC.KEYSTORE_BAD, Kind.SEC.RNG_FAIL] ++
  [Kind.SEC.FUSE_FAIL]

end Sys2Proof.Machine
end

