-- ==== Sys2Proof/Machine/RegTableA.lean ====
section
/-!
DEFINITION. The register fields of the system, safety, memory and data-mover pages, one constant per field of the manual's register tables,
under the manual's own names (block, register, field).  A `_LO`/`_HI` pair is one field set, its bits numbered 63:0 (R8, R279).
A reset of "—" (R7) is given here as 0: notes/assumptions/3.md.
-/
namespace Sys2Proof.Machine.Reg

/-! ### SYS (Table 2.7, Table 20.6, Table 3.4) -/

/-- SYS.LEVEL_UNLOCK.KEY: bits 15:0, WO, Table 2.7. -/
def SYS.LEVEL_UNLOCK.KEY : Fld :=
  { page := 0x0, off := 0x40, hi := 15, lo := 0, acc := .wo, rst := 0, pair := false }

/-- SYS.LEVEL_STAT.WINDOW: bits 0, RO, Table 2.7. -/
def SYS.LEVEL_STAT.WINDOW : Fld :=
  { page := 0x0, off := 0x44, hi := 0, lo := 0, acc := .ro, rst := 0, pair := false }

/-- SYS.STALE_CNT.COUNT: bits 31:0, RC, Table 2.7. -/
def SYS.STALE_CNT.COUNT : Fld :=
  { page := 0x0, off := 0x48, hi := 31, lo := 0, acc := .rc, rst := 0, pair := false }

/-- SYS.MODE_REQ.GO: bits 31, WO, Table 3.4. -/
def SYS.MODE_REQ.GO : Fld :=
  { page := 0x0, off := 0x50, hi := 31, lo := 31, acc := .wo, rst := 0, pair := false }

/-- SYS.MODE_REQ.WHEN: bits 8, RW, Table 3.4. -/
def SYS.MODE_REQ.WHEN : Fld :=
  { page := 0x0, off := 0x50, hi := 8, lo := 8, acc := .rw, rst := 0, pair := false }

/-- SYS.MODE_REQ.MODE: bits 2:0, RW, Table 3.4. -/
def SYS.MODE_REQ.MODE : Fld :=
  { page := 0x0, off := 0x50, hi := 2, lo := 0, acc := .rw, rst := 0, pair := false }

/-- SYS.MODE_STAT.REFUSE: bits 23:16, RO, Table 3.4. -/
def SYS.MODE_STAT.REFUSE : Fld :=
  { page := 0x0, off := 0x54, hi := 23, lo := 16, acc := .ro, rst := 0, pair := false }

/-- SYS.MODE_STAT.REFUSED: bits 10, W1C, Table 3.4. -/
def SYS.MODE_STAT.REFUSED : Fld :=
  { page := 0x0, off := 0x54, hi := 10, lo := 10, acc := .w1c, rst := 0, pair := false }

/-- SYS.MODE_STAT.HALT: bits 9, RO, Table 3.4. -/
def SYS.MODE_STAT.HALT : Fld :=
  { page := 0x0, off := 0x54, hi := 9, lo := 9, acc := .ro, rst := 0, pair := false }

/-- SYS.MODE_STAT.PENDING: bits 8, RO, Table 3.4. -/
def SYS.MODE_STAT.PENDING : Fld :=
  { page := 0x0, off := 0x54, hi := 8, lo := 8, acc := .ro, rst := 0, pair := false }

/-- SYS.MODE_STAT.TARGET: bits 6:4, RO, Table 3.4. -/
def SYS.MODE_STAT.TARGET : Fld :=
  { page := 0x0, off := 0x54, hi := 6, lo := 4, acc := .ro, rst := 0, pair := false }

/-- SYS.MODE_STAT.MODE: bits 2:0, RO, Table 3.4. -/
def SYS.MODE_STAT.MODE : Fld :=
  { page := 0x0, off := 0x54, hi := 2, lo := 0, acc := .ro, rst := 0, pair := false }

/-- SYS.MODE_CFG.REQUIRE_STANDBY: bits 0, RW, Table 3.4. -/
def SYS.MODE_CFG.REQUIRE_STANDBY : Fld :=
  { page := 0x0, off := 0x58, hi := 0, lo := 0, acc := .rw, rst := 1, pair := false }

/-- SYS.BRINGUP.PRINT_ARMED: bits 12, RO, Table 3.4. -/
def SYS.BRINGUP.PRINT_ARMED : Fld :=
  { page := 0x0, off := 0x5C, hi := 12, lo := 12, acc := .ro, rst := 0, pair := false }

/-- SYS.BRINGUP.POS_VALID: bits 11, RO, Table 3.4. -/
def SYS.BRINGUP.POS_VALID : Fld :=
  { page := 0x0, off := 0x5C, hi := 11, lo := 11, acc := .ro, rst := 0, pair := false }

/-- SYS.BRINGUP.STANDBY_OK: bits 10, RO, Table 3.4. -/
def SYS.BRINGUP.STANDBY_OK : Fld :=
  { page := 0x0, off := 0x5C, hi := 10, lo := 10, acc := .ro, rst := 0, pair := false }

/-- SYS.BRINGUP.HEALTH_KNOWN: bits 9, RO, Table 3.4. -/
def SYS.BRINGUP.HEALTH_KNOWN : Fld :=
  { page := 0x0, off := 0x5C, hi := 9, lo := 9, acc := .ro, rst := 0, pair := false }

/-- SYS.BRINGUP.RING_DONE: bits 8, RO, Table 3.4. -/
def SYS.BRINGUP.RING_DONE : Fld :=
  { page := 0x0, off := 0x5C, hi := 8, lo := 8, acc := .ro, rst := 0, pair := false }

/-- SYS.BRINGUP.LINKS_TRAINED: bits 7, RO, Table 3.4. -/
def SYS.BRINGUP.LINKS_TRAINED : Fld :=
  { page := 0x0, off := 0x5C, hi := 7, lo := 7, acc := .ro, rst := 0, pair := false }

/-- SYS.BRINGUP.HEAD_POWER_ARMED: bits 6, RO, Table 3.4. -/
def SYS.BRINGUP.HEAD_POWER_ARMED : Fld :=
  { page := 0x0, off := 0x5C, hi := 6, lo := 6, acc := .ro, rst := 0, pair := false }

/-- SYS.BRINGUP.CAL_DONE: bits 5, RO, Table 3.4. -/
def SYS.BRINGUP.CAL_DONE : Fld :=
  { page := 0x0, off := 0x5C, hi := 5, lo := 5, acc := .ro, rst := 0, pair := false }

/-- SYS.BRINGUP.BASIN_READY: bits 4, RO, Table 3.4. -/
def SYS.BRINGUP.BASIN_READY : Fld :=
  { page := 0x0, off := 0x5C, hi := 4, lo := 4, acc := .ro, rst := 0, pair := false }

/-- SYS.BRINGUP.SHALLOWS_READY: bits 3, RO, Table 3.4. -/
def SYS.BRINGUP.SHALLOWS_READY : Fld :=
  { page := 0x0, off := 0x5C, hi := 3, lo := 3, acc := .ro, rst := 0, pair := false }

/-- SYS.BRINGUP.SPRING_END: bits 2, RO, Table 3.4. -/
def SYS.BRINGUP.SPRING_END : Fld :=
  { page := 0x0, off := 0x5C, hi := 2, lo := 2, acc := .ro, rst := 0, pair := false }

/-- SYS.BRINGUP.FUSES_READ: bits 1, RO, Table 3.4. -/
def SYS.BRINGUP.FUSES_READ : Fld :=
  { page := 0x0, off := 0x5C, hi := 1, lo := 1, acc := .ro, rst := 0, pair := false }

/-- SYS.BRINGUP.CLOCKS_LOCKED: bits 0, RO, Table 3.4. -/
def SYS.BRINGUP.CLOCKS_LOCKED : Fld :=
  { page := 0x0, off := 0x5C, hi := 0, lo := 0, acc := .ro, rst := 0, pair := false }

/-- SYS.SPRING_STAT.STATE: bits 31:28, RO, Table 3.4. -/
def SYS.SPRING_STAT.STATE : Fld :=
  { page := 0x0, off := 0x60, hi := 31, lo := 28, acc := .ro, rst := 0, pair := false }

/-- SYS.SPRING_STAT.ENTRY: bits 27:16, RO, Table 3.4. -/
def SYS.SPRING_STAT.ENTRY : Fld :=
  { page := 0x0, off := 0x60, hi := 27, lo := 16, acc := .ro, rst := 0, pair := false }

/-- SYS.SPRING_STAT.EXECUTED: bits 11:0, RO, Table 3.4. -/
def SYS.SPRING_STAT.EXECUTED : Fld :=
  { page := 0x0, off := 0x60, hi := 11, lo := 0, acc := .ro, rst := 0, pair := false }

/-- SYS.RESET.KEY: bits 15:0, WO, Table 20.6. -/
def SYS.RESET.KEY : Fld :=
  { page := 0x0, off := 0x70, hi := 15, lo := 0, acc := .wo, rst := 0, pair := false }

/-- SYS.RST_CAUSE.WARM_CNT: bits 31:16, RO, Table 20.6. -/
def SYS.RST_CAUSE.WARM_CNT : Fld :=
  { page := 0x0, off := 0x74, hi := 31, lo := 16, acc := .ro, rst := 0, pair := false }

/-- SYS.RST_CAUSE.PREV: bits 15:8, RO, Table 20.6. -/
def SYS.RST_CAUSE.PREV : Fld :=
  { page := 0x0, off := 0x74, hi := 15, lo := 8, acc := .ro, rst := 0, pair := false }

/-- SYS.RST_CAUSE.LAST: bits 7:0, RO, Table 20.6. -/
def SYS.RST_CAUSE.LAST : Fld :=
  { page := 0x0, off := 0x74, hi := 7, lo := 0, acc := .ro, rst := 1, pair := false }

/-- The fields of SYS whose registers carry no index. -/
def SYS.plain : List Fld :=
   [SYS.LEVEL_UNLOCK.KEY,
    SYS.LEVEL_STAT.WINDOW,
    SYS.STALE_CNT.COUNT,
    SYS.MODE_REQ.GO,
    SYS.MODE_REQ.WHEN,
    SYS.MODE_REQ.MODE,
    SYS.MODE_STAT.REFUSE,
    SYS.MODE_STAT.REFUSED] ++
   [SYS.MODE_STAT.HALT,
    SYS.MODE_STAT.PENDING,
    SYS.MODE_STAT.TARGET,
    SYS.MODE_STAT.MODE,
    SYS.MODE_CFG.REQUIRE_STANDBY,
    SYS.BRINGUP.PRINT_ARMED,
    SYS.BRINGUP.POS_VALID,
    SYS.BRINGUP.STANDBY_OK] ++
   [SYS.BRINGUP.HEALTH_KNOWN,
    SYS.BRINGUP.RING_DONE,
    SYS.BRINGUP.LINKS_TRAINED,
    SYS.BRINGUP.HEAD_POWER_ARMED,
    SYS.BRINGUP.CAL_DONE,
    SYS.BRINGUP.BASIN_READY,
    SYS.BRINGUP.SHALLOWS_READY,
    SYS.BRINGUP.SPRING_END] ++
   [SYS.BRINGUP.FUSES_READ,
    SYS.BRINGUP.CLOCKS_LOCKED,
    SYS.SPRING_STAT.STATE,
    SYS.SPRING_STAT.ENTRY,
    SYS.SPRING_STAT.EXECUTED,
    SYS.RESET.KEY,
    SYS.RST_CAUSE.WARM_CNT,
    SYS.RST_CAUSE.PREV] ++
   [SYS.RST_CAUSE.LAST]

/-- The fields of the register of SYS at page offset `off`. -/
def SYS.at (off : Nat) : List Fld :=
  
  (SYS.plain).filter (·.covers off)

/-- Every field of SYS. -/
def SYS.fields : List Fld :=
  SYS.plain

/-! ### CLK (Table 20.4) -/

/-- CLK.STAT.REF_OK: bits 6, RO, Table 20.4. -/
def CLK.STAT.REF_OK : Fld :=
  { page := 0x1, off := 0x40, hi := 6, lo := 6, acc := .ro, rst := 0, pair := false }

/-- CLK.STAT.DLL: bits 5, RO, Table 20.4. -/
def CLK.STAT.DLL : Fld :=
  { page := 0x1, off := 0x40, hi := 5, lo := 5, acc := .ro, rst := 0, pair := false }

/-- CLK.STAT.EMR1: bits 4, RO, Table 20.4. -/
def CLK.STAT.EMR1 : Fld :=
  { page := 0x1, off := 0x40, hi := 4, lo := 4, acc := .ro, rst := 0, pair := false }

/-- CLK.STAT.EMR0: bits 3, RO, Table 20.4. -/
def CLK.STAT.EMR0 : Fld :=
  { page := 0x1, off := 0x40, hi := 3, lo := 3, acc := .ro, rst := 0, pair := false }

/-- CLK.STAT.PCIE: bits 2, RO, Table 20.4. -/
def CLK.STAT.PCIE : Fld :=
  { page := 0x1, off := 0x40, hi := 2, lo := 2, acc := .ro, rst := 0, pair := false }

/-- CLK.STAT.MEM: bits 1, RO, Table 20.4. -/
def CLK.STAT.MEM : Fld :=
  { page := 0x1, off := 0x40, hi := 1, lo := 1, acc := .ro, rst := 0, pair := false }

/-- CLK.STAT.ROOT: bits 0, RO, Table 20.4. -/
def CLK.STAT.ROOT : Fld :=
  { page := 0x1, off := 0x40, hi := 0, lo := 0, acc := .ro, rst := 0, pair := false }

/-- CLK.REF_PPM.PPM: bits 15:0, RO, Table 20.4. -/
def CLK.REF_PPM.PPM : Fld :=
  { page := 0x1, off := 0x44, hi := 15, lo := 0, acc := .ro, rst := 0, pair := false }

/-- CLK.LOSS_CNT.COUNT: bits 31:0, RC, Table 20.4. -/
def CLK.LOSS_CNT.COUNT : Fld :=
  { page := 0x1, off := 0x48, hi := 31, lo := 0, acc := .rc, rst := 0, pair := false }

/-- CLK.TS.TS: bits 63:0, RO, Table 20.4. -/
def CLK.TS.TS : Fld :=
  { page := 0x1, off := 0x4C, hi := 63, lo := 0, acc := .ro, rst := 0, pair := true }

/-- CLK.REF_TOL.PPM: bits 15:0, RWX, Table 20.4. -/
def CLK.REF_TOL.PPM : Fld :=
  { page := 0x1, off := 0x400, hi := 15, lo := 0, acc := .rwx, rst := 0x1F4, pair := false }

/-- The fields of CLK whose registers carry no index. -/
def CLK.plain : List Fld :=
   [CLK.STAT.REF_OK,
    CLK.STAT.DLL,
    CLK.STAT.EMR1,
    CLK.STAT.EMR0,
    CLK.STAT.PCIE,
    CLK.STAT.MEM,
    CLK.STAT.ROOT,
    CLK.REF_PPM.PPM] ++
   [CLK.LOSS_CNT.COUNT,
    CLK.TS.TS,
    CLK.REF_TOL.PPM]

/-- The fields of the register of CLK at page offset `off`. -/
def CLK.at (off : Nat) : List Fld :=
  
  (CLK.plain).filter (·.covers off)

/-- Every field of CLK. -/
def CLK.fields : List Fld :=
  CLK.plain

/-! ### PWR (Table 20.5) -/

/-- PWR.DOM_ON.DOM: bits 17:0, WO, Table 20.5. -/
def PWR.DOM_ON.DOM : Fld :=
  { page := 0x2, off := 0x40, hi := 17, lo := 0, acc := .wo, rst := 0, pair := false }

/-- PWR.DOM_OFF.DOM: bits 17:0, WO, Table 20.5. -/
def PWR.DOM_OFF.DOM : Fld :=
  { page := 0x2, off := 0x44, hi := 17, lo := 0, acc := .wo, rst := 0, pair := false }

/-- PWR.DOM_STAT.ON: bits 17:0, RO, Table 20.5. -/
def PWR.DOM_STAT.ON : Fld :=
  { page := 0x2, off := 0x48, hi := 17, lo := 0, acc := .ro, rst := 0x3FFFF, pair := false }

/-- PWR.DOM_BUSY.BUSY: bits 17:0, RO, Table 20.5. -/
def PWR.DOM_BUSY.BUSY : Fld :=
  { page := 0x2, off := 0x4C, hi := 17, lo := 0, acc := .ro, rst := 0, pair := false }

/-- PWR.WAIT.US: bits 15:0, RW, Table 20.5. -/
def PWR.WAIT.US : Fld :=
  { page := 0x2, off := 0x50, hi := 15, lo := 0, acc := .rw, rst := 0x3E8, pair := false }

/-- PWR.REFUSE.VALID: bits 31, W1C, Table 20.5. -/
def PWR.REFUSE.VALID : Fld :=
  { page := 0x2, off := 0x54, hi := 31, lo := 31, acc := .w1c, rst := 0, pair := false }

/-- PWR.REFUSE.CODE: bits 15:8, RO, Table 20.5. -/
def PWR.REFUSE.CODE : Fld :=
  { page := 0x2, off := 0x54, hi := 15, lo := 8, acc := .ro, rst := 0, pair := false }

/-- PWR.REFUSE.DOM: bits 4:0, RO, Table 20.5. -/
def PWR.REFUSE.DOM : Fld :=
  { page := 0x2, off := 0x54, hi := 4, lo := 0, acc := .ro, rst := 0, pair := false }

/-- PWR.PFAIL_SHED.WAIT_US: bits 31:24, RW, Table 20.5. -/
def PWR.PFAIL_SHED.WAIT_US : Fld :=
  { page := 0x2, off := 0x58, hi := 31, lo := 24, acc := .rw, rst := 100, pair := false }

/-- PWR.PFAIL_SHED.DOM: bits 17:0, RW, Table 20.5. -/
def PWR.PFAIL_SHED.DOM : Fld :=
  { page := 0x2, off := 0x58, hi := 17, lo := 0, acc := .rw, rst := 0x3FC9E, pair := false }

/-- PWR.SUPPLY.AN: bits 2, RC, Table 20.5. -/
def PWR.SUPPLY.AN : Fld :=
  { page := 0x2, off := 0x5C, hi := 2, lo := 2, acc := .rc, rst := 0, pair := false }

/-- PWR.SUPPLY.SRAM: bits 1, RC, Table 20.5. -/
def PWR.SUPPLY.SRAM : Fld :=
  { page := 0x2, off := 0x5C, hi := 1, lo := 1, acc := .rc, rst := 0, pair := false }

/-- PWR.SUPPLY.CORE: bits 0, RC, Table 20.5. -/
def PWR.SUPPLY.CORE : Fld :=
  { page := 0x2, off := 0x5C, hi := 0, lo := 0, acc := .rc, rst := 0, pair := false }

/-- PWR.DIE_LIM.CRIT: bits 31:16, RWX, Table 20.5. -/
def PWR.DIE_LIM.CRIT : Fld :=
  { page := 0x2, off := 0x400, hi := 31, lo := 16, acc := .rwx, rst := 125, pair := false }

/-- PWR.DIE_LIM.HOT: bits 15:0, RWX, Table 20.5. -/
def PWR.DIE_LIM.HOT : Fld :=
  { page := 0x2, off := 0x400, hi := 15, lo := 0, acc := .rwx, rst := 115, pair := false }

/-- The fields of PWR whose registers carry no index. -/
def PWR.plain : List Fld :=
   [PWR.DOM_ON.DOM,
    PWR.DOM_OFF.DOM,
    PWR.DOM_STAT.ON,
    PWR.DOM_BUSY.BUSY,
    PWR.WAIT.US,
    PWR.REFUSE.VALID,
    PWR.REFUSE.CODE,
    PWR.REFUSE.DOM] ++
   [PWR.PFAIL_SHED.WAIT_US,
    PWR.PFAIL_SHED.DOM,
    PWR.SUPPLY.AN,
    PWR.SUPPLY.SRAM,
    PWR.SUPPLY.CORE,
    PWR.DIE_LIM.CRIT,
    PWR.DIE_LIM.HOT]

/-- The fields of the register of PWR at page offset `off`. -/
def PWR.at (off : Nat) : List Fld :=
  
  (PWR.plain).filter (·.covers off)

/-- Every field of PWR. -/
def PWR.fields : List Fld :=
  PWR.plain

/-! ### SEC (Table 19.5) -/

/-- SEC.LIFECYCLE.FUSES: bits 11:8, RO, Table 19.5. -/
def SEC.LIFECYCLE.FUSES : Fld :=
  { page := 0x3, off := 0x40, hi := 11, lo := 8, acc := .ro, rst := 0, pair := false }

/-- SEC.LIFECYCLE.STATE: bits 2:0, RO, Table 19.5. -/
def SEC.LIFECYCLE.STATE : Fld :=
  { page := 0x3, off := 0x40, hi := 2, lo := 0, acc := .ro, rst := 0, pair := false }

/-- SEC.NONCE.NONCE: bits 63:0, RO, Table 19.5. -/
def SEC.NONCE.NONCE : Fld :=
  { page := 0x3, off := 0x44, hi := 63, lo := 0, acc := .ro, rst := 0, pair := true }

/-- SEC.CNT_LAST.COUNT: bits 63:0, RO, Table 19.5. -/
def SEC.CNT_LAST.COUNT : Fld :=
  { page := 0x3, off := 0x4C, hi := 63, lo := 0, acc := .ro, rst := 0, pair := true }

/-- SEC.CMD_OP.SLOT: bits 10:8, RW, Table 19.5. -/
def SEC.CMD_OP.SLOT : Fld :=
  { page := 0x3, off := 0x54, hi := 10, lo := 8, acc := .rw, rst := 0, pair := false }

/-- SEC.CMD_OP.OPCODE: bits 7:0, RW, Table 19.5. -/
def SEC.CMD_OP.OPCODE : Fld :=
  { page := 0x3, off := 0x54, hi := 7, lo := 0, acc := .rw, rst := 0, pair := false }

/-- SEC.CMD_ARG.ARG: bits 31:0, RW, Table 19.5. -/
def SEC.CMD_ARG.ARG (i : Nat) : Fld :=
  { page := 0x3, off := 0x58 + 4 * i, hi := 31, lo := 0, acc := .rw, rst := 0, pair := false }

/-- SEC.CMD_CNT.COUNT: bits 63:0, RW, Table 19.5. -/
def SEC.CMD_CNT.COUNT : Fld :=
  { page := 0x3, off := 0x78, hi := 63, lo := 0, acc := .rw, rst := 0, pair := true }

/-- SEC.CMD_TAG.TAG: bits 31:0, RW, Table 19.5. -/
def SEC.CMD_TAG.TAG (i : Nat) : Fld :=
  { page := 0x3, off := 0x80 + 4 * i, hi := 31, lo := 0, acc := .rw, rst := 0, pair := false }

/-- SEC.CMD_GO.GO: bits 0, WO, Table 19.5. -/
def SEC.CMD_GO.GO : Fld :=
  { page := 0x3, off := 0x90, hi := 0, lo := 0, acc := .wo, rst := 0, pair := false }

/-- SEC.CMD_STAT.BUSY: bits 31, RO, Table 19.5. -/
def SEC.CMD_STAT.BUSY : Fld :=
  { page := 0x3, off := 0x94, hi := 31, lo := 31, acc := .ro, rst := 0, pair := false }

/-- SEC.CMD_STAT.ENDED: bits 30, W1C, Table 19.5. -/
def SEC.CMD_STAT.ENDED : Fld :=
  { page := 0x3, off := 0x94, hi := 30, lo := 30, acc := .w1c, rst := 0, pair := false }

/-- SEC.CMD_STAT.OPCODE: bits 15:8, RO, Table 19.5. -/
def SEC.CMD_STAT.OPCODE : Fld :=
  { page := 0x3, off := 0x94, hi := 15, lo := 8, acc := .ro, rst := 0, pair := false }

/-- SEC.CMD_STAT.RESULT: bits 7:0, RO, Table 19.5. -/
def SEC.CMD_STAT.RESULT : Fld :=
  { page := 0x3, off := 0x94, hi := 7, lo := 0, acc := .ro, rst := 0, pair := false }

/-- SEC.KEY_STAT.SLOTS: bits 15:0, RO, Table 19.5. -/
def SEC.KEY_STAT.SLOTS : Fld :=
  { page := 0x3, off := 0x98, hi := 15, lo := 0, acc := .ro, rst := 0, pair := false }

/-- SEC.KEY_PERM_SEL.SLOT: bits 2:0, RW, Table 19.5. -/
def SEC.KEY_PERM_SEL.SLOT : Fld :=
  { page := 0x3, off := 0x9C, hi := 2, lo := 0, acc := .rw, rst := 0, pair := false }

/-- SEC.KEY_PERM.MASK: bits 15:0, RO, Table 19.5. -/
def SEC.KEY_PERM.MASK : Fld :=
  { page := 0x3, off := 0xA0, hi := 15, lo := 0, acc := .ro, rst := 0, pair := false }

/-- SEC.SPRING_SLOTS.ROWS: bits 11:8, RO, Table 19.5. -/
def SEC.SPRING_SLOTS.ROWS : Fld :=
  { page := 0x3, off := 0xA4, hi := 11, lo := 8, acc := .ro, rst := 0, pair := false }

/-- SEC.SPRING_SLOTS.MASK: bits 7:0, RO, Table 19.5. -/
def SEC.SPRING_SLOTS.MASK : Fld :=
  { page := 0x3, off := 0xA4, hi := 7, lo := 0, acc := .ro, rst := 0, pair := false }

/-- SEC.DISARM.PRINT: bits 1, WO, Table 19.5. -/
def SEC.DISARM.PRINT : Fld :=
  { page := 0x3, off := 0xA8, hi := 1, lo := 1, acc := .wo, rst := 0, pair := false }

/-- SEC.DISARM.HEAD: bits 0, WO, Table 19.5. -/
def SEC.DISARM.HEAD : Fld :=
  { page := 0x3, off := 0xA8, hi := 0, lo := 0, acc := .wo, rst := 0, pair := false }

/-- SEC.TAG_FAIL.COUNT: bits 31:8, RC, Table 19.5. -/
def SEC.TAG_FAIL.COUNT : Fld :=
  { page := 0x3, off := 0xAC, hi := 31, lo := 8, acc := .rc, rst := 0, pair := false }

/-- SEC.TAG_FAIL.RUN: bits 3:0, RO, Table 19.5. -/
def SEC.TAG_FAIL.RUN : Fld :=
  { page := 0x3, off := 0xAC, hi := 3, lo := 0, acc := .ro, rst := 0, pair := false }

/-- SEC.DEVICE_ID.ID: bits 63:0, RO, Table 19.5. -/
def SEC.DEVICE_ID.ID : Fld :=
  { page := 0x3, off := 0xB0, hi := 63, lo := 0, acc := .ro, rst := 0, pair := true }

/-- The fields of SEC whose registers carry no index. -/
def SEC.plain : List Fld :=
   [SEC.LIFECYCLE.FUSES,
    SEC.LIFECYCLE.STATE,
    SEC.NONCE.NONCE,
    SEC.CNT_LAST.COUNT,
    SEC.CMD_OP.SLOT,
    SEC.CMD_OP.OPCODE,
    SEC.CMD_CNT.COUNT,
    SEC.CMD_GO.GO] ++
   [SEC.CMD_STAT.BUSY,
    SEC.CMD_STAT.ENDED,
    SEC.CMD_STAT.OPCODE,
    SEC.CMD_STAT.RESULT,
    SEC.KEY_STAT.SLOTS,
    SEC.KEY_PERM_SEL.SLOT,
    SEC.KEY_PERM.MASK,
    SEC.SPRING_SLOTS.ROWS] ++
   [SEC.SPRING_SLOTS.MASK,
    SEC.DISARM.PRINT,
    SEC.DISARM.HEAD,
    SEC.TAG_FAIL.COUNT,
    SEC.TAG_FAIL.RUN,
    SEC.DEVICE_ID.ID]

/-- The fields of the register of SEC at page offset `off`. -/
def SEC.at (off : Nat) : List Fld :=
  if 0x58 ≤ off ∧ off < 0x78 then [SEC.CMD_ARG.ARG ((off - 0x58) / 4)] else
  if 0x80 ≤ off ∧ off < 0x90 then [SEC.CMD_TAG.TAG ((off - 0x80) / 4)] else
  (SEC.plain).filter (·.covers off)

/-- Every field of SEC. -/
def SEC.fields : List Fld :=
  SEC.plain ++
  ((List.range 8).flatMap fun i => [SEC.CMD_ARG.ARG i]) ++
  ((List.range 4).flatMap fun i => [SEC.CMD_TAG.TAG i])

/-! ### EVT (Table 2.12) -/

/-- EVT.SRC_STAT.RAISED: bits 31:0, RO, Table 2.12. -/
def EVT.SRC_STAT.RAISED (i : Nat) : Fld :=
  { page := 0x4, off := 0x40 + 4 * i, hi := 31, lo := 0, acc := .ro, rst := 0, pair := false }

/-- EVT.SRC_MASK.MASK: bits 31:0, RW, Table 2.12. -/
def EVT.SRC_MASK.MASK (i : Nat) : Fld :=
  { page := 0x4, off := 0x60 + 4 * i, hi := 31, lo := 0, acc := .rw, rst := 0xFFFFFFFF, pair := false }

/-- EVT.VEC_PEND.PEND: bits 63:0, W1C, Table 2.12. -/
def EVT.VEC_PEND.PEND : Fld :=
  { page := 0x4, off := 0x80, hi := 63, lo := 0, acc := .w1c, rst := 0, pair := true }

/-- EVT.HOLDOFF.US: bits 7:0, RW, Table 2.12. -/
def EVT.HOLDOFF.US : Fld :=
  { page := 0x4, off := 0x88, hi := 7, lo := 0, acc := .rw, rst := 0, pair := false }

/-- EVT.VEC_MAP.EN: bits 8 * j + 7, RW, Table 2.12. -/
def EVT.VEC_MAP.EN (i j : Nat) : Fld :=
  { page := 0x4, off := 0x100 + 4 * i, hi := 8 * j + 7, lo := 8 * j + 7, acc := .rw, rst := 0, pair := false }

/-- EVT.VEC_MAP.VEC: bits 8 * j + 5:8 * j, RW, Table 2.12. -/
def EVT.VEC_MAP.VEC (i j : Nat) : Fld :=
  { page := 0x4, off := 0x100 + 4 * i, hi := 8 * j + 5, lo := 8 * j, acc := .rw, rst := 0, pair := false }

/-- The fields of EVT whose registers carry no index. -/
def EVT.plain : List Fld :=
   [EVT.VEC_PEND.PEND,
    EVT.HOLDOFF.US]

/-- The fields of the register of EVT at page offset `off`. -/
def EVT.at (off : Nat) : List Fld :=
  if 0x40 ≤ off ∧ off < 0x60 then [EVT.SRC_STAT.RAISED ((off - 0x40) / 4)] else
  if 0x60 ≤ off ∧ off < 0x80 then [EVT.SRC_MASK.MASK ((off - 0x60) / 4)] else
  if 0x100 ≤ off ∧ off < 0x200 then (List.range 4).flatMap fun j => [EVT.VEC_MAP.EN ((off - 0x100) / 4) j, EVT.VEC_MAP.VEC ((off - 0x100) / 4) j] else
  (EVT.plain).filter (·.covers off)

/-- Every field of EVT. -/
def EVT.fields : List Fld :=
  EVT.plain ++
  ((List.range 8).flatMap fun i => [EVT.SRC_STAT.RAISED i]) ++
  ((List.range 8).flatMap fun i => [EVT.SRC_MASK.MASK i]) ++
  ((List.range 64).flatMap fun i => (List.range 4).flatMap fun j => [EVT.VEC_MAP.EN i j, EVT.VEC_MAP.VEC i j])

/-! ### FLT (Table 17.10) -/

/-- FLT.STATE.LEVEL: bits 31:29, RO, Table 17.10. -/
def FLT.STATE.LEVEL : Fld :=
  { page := 0x5, off := 0x40, hi := 31, lo := 29, acc := .ro, rst := 0, pair := false }

/-- FLT.STATE.OVF: bits 28, RO, Table 17.10. -/
def FLT.STATE.OVF : Fld :=
  { page := 0x5, off := 0x40, hi := 28, lo := 28, acc := .ro, rst := 0, pair := false }

/-- FLT.STATE.SAFE_IN: bits 27, RO, Table 17.10. -/
def FLT.STATE.SAFE_IN : Fld :=
  { page := 0x5, off := 0x40, hi := 27, lo := 27, acc := .ro, rst := 0, pair := false }

/-- FLT.STATE.PFAIL: bits 26, RO, Table 17.10. -/
def FLT.STATE.PFAIL : Fld :=
  { page := 0x5, off := 0x40, hi := 26, lo := 26, acc := .ro, rst := 0, pair := false }

/-- FLT.STATE.RIPPLE_HELD: bits 25, RO, Table 17.10. -/
def FLT.STATE.RIPPLE_HELD : Fld :=
  { page := 0x5, off := 0x40, hi := 25, lo := 25, acc := .ro, rst := 1, pair := false }

/-- FLT.STATE.FAULT_N: bits 24, RO, Table 17.10. -/
def FLT.STATE.FAULT_N : Fld :=
  { page := 0x5, off := 0x40, hi := 24, lo := 24, acc := .ro, rst := 1, pair := false }

/-- FLT.STATE.USED: bits 6:0, RO, Table 17.10. -/
def FLT.STATE.USED : Fld :=
  { page := 0x5, off := 0x40, hi := 6, lo := 0, acc := .ro, rst := 0, pair := false }

/-- FLT.ACK.ALL: bits 31, WO, Table 17.10. -/
def FLT.ACK.ALL : Fld :=
  { page := 0x5, off := 0x44, hi := 31, lo := 31, acc := .wo, rst := 0, pair := false }

/-- FLT.ACK.MEMO: bits 30, WO, Table 17.10. -/
def FLT.ACK.MEMO : Fld :=
  { page := 0x5, off := 0x44, hi := 30, lo := 30, acc := .wo, rst := 0, pair := false }

/-- FLT.ACK.GO: bits 8, WO, Table 17.10. -/
def FLT.ACK.GO : Fld :=
  { page := 0x5, off := 0x44, hi := 8, lo := 8, acc := .wo, rst := 0, pair := false }

/-- FLT.ACK.SLOT: bits 5:0, RW, Table 17.10. -/
def FLT.ACK.SLOT : Fld :=
  { page := 0x5, off := 0x44, hi := 5, lo := 0, acc := .rw, rst := 0, pair := false }

/-- FLT.ACT_MAP.USED: bits 63:0, RO, Table 17.10. -/
def FLT.ACT_MAP.USED : Fld :=
  { page := 0x5, off := 0x48, hi := 63, lo := 0, acc := .ro, rst := 0, pair := true }

/-- FLT.ACT_SEL.SLOT: bits 5:0, RW, Table 17.10. -/
def FLT.ACT_SEL.SLOT : Fld :=
  { page := 0x5, off := 0x50, hi := 5, lo := 0, acc := .rw, rst := 0, pair := false }

/-- FLT.ACT_ENT.SOURCE: bits 31:24, RO, Table 17.10. -/
def FLT.ACT_ENT.SOURCE : Fld :=
  { page := 0x5, off := 0x54, hi := 31, lo := 24, acc := .ro, rst := 0, pair := false }

/-- FLT.ACT_ENT.KIND: bits 23:16, RO, Table 17.10. -/
def FLT.ACT_ENT.KIND : Fld :=
  { page := 0x5, off := 0x54, hi := 23, lo := 16, acc := .ro, rst := 0, pair := false }

/-- FLT.ACT_ENT.SEV: bits 15:13, RO, Table 17.10. -/
def FLT.ACT_ENT.SEV : Fld :=
  { page := 0x5, off := 0x54, hi := 15, lo := 13, acc := .ro, rst := 0, pair := false }

/-- FLT.ACT_ENT.BASE: bits 12:10, RO, Table 17.10. -/
def FLT.ACT_ENT.BASE : Fld :=
  { page := 0x5, off := 0x54, hi := 12, lo := 10, acc := .ro, rst := 0, pair := false }

/-- FLT.ACT_ENT.COUNT: bits 9:0, RO, Table 17.10. -/
def FLT.ACT_ENT.COUNT : Fld :=
  { page := 0x5, off := 0x54, hi := 9, lo := 0, acc := .ro, rst := 0, pair := false }

/-- FLT.ACT_TS.TS: bits 63:0, RO, Table 17.10. -/
def FLT.ACT_TS.TS : Fld :=
  { page := 0x5, off := 0x58, hi := 63, lo := 0, acc := .ro, rst := 0, pair := true }

/-- FLT.FAULT_CNT.COUNT: bits 31:0, RO, Table 17.10. -/
def FLT.FAULT_CNT.COUNT : Fld :=
  { page := 0x5, off := 0x60, hi := 31, lo := 0, acc := .ro, rst := 0, pair := false }

/-- FLT.FIRST_INFO.VALID: bits 31, W1C, Table 17.10. -/
def FLT.FIRST_INFO.VALID : Fld :=
  { page := 0x5, off := 0x64, hi := 31, lo := 31, acc := .w1c, rst := 0, pair := false }

/-- FLT.FIRST_INFO.SEV: bits 26:24, RO, Table 17.10. -/
def FLT.FIRST_INFO.SEV : Fld :=
  { page := 0x5, off := 0x64, hi := 26, lo := 24, acc := .ro, rst := 0, pair := false }

/-- FLT.FIRST_INFO.KIND: bits 23:16, RO, Table 17.10. -/
def FLT.FIRST_INFO.KIND : Fld :=
  { page := 0x5, off := 0x64, hi := 23, lo := 16, acc := .ro, rst := 0, pair := false }

/-- FLT.FIRST_INFO.SOURCE: bits 15:8, RO, Table 17.10. -/
def FLT.FIRST_INFO.SOURCE : Fld :=
  { page := 0x5, off := 0x64, hi := 15, lo := 8, acc := .ro, rst := 0, pair := false }

/-- FLT.FIRST_INFO.MASTER: bits 7:0, RO, Table 17.10. -/
def FLT.FIRST_INFO.MASTER : Fld :=
  { page := 0x5, off := 0x64, hi := 7, lo := 0, acc := .ro, rst := 0, pair := false }

/-- FLT.FIRST_AUX.PAGE: bits 25:16, RO, Table 17.10. -/
def FLT.FIRST_AUX.PAGE : Fld :=
  { page := 0x5, off := 0x68, hi := 25, lo := 16, acc := .ro, rst := 0, pair := false }

/-- FLT.FIRST_AUX.ACCESS: bits 11:8, RO, Table 17.10. -/
def FLT.FIRST_AUX.ACCESS : Fld :=
  { page := 0x5, off := 0x68, hi := 11, lo := 8, acc := .ro, rst := 0, pair := false }

/-- FLT.FIRST_AUX.PORT: bits 6:0, RO, Table 17.10. -/
def FLT.FIRST_AUX.PORT : Fld :=
  { page := 0x5, off := 0x68, hi := 6, lo := 0, acc := .ro, rst := 0, pair := false }

/-- FLT.FIRST_TS.TS: bits 63:0, RO, Table 17.10. -/
def FLT.FIRST_TS.TS : Fld :=
  { page := 0x5, off := 0x6C, hi := 63, lo := 0, acc := .ro, rst := 0, pair := true }

/-- FLT.FIRST_ADDR.ADDR: bits 63:0, RO, Table 17.10. -/
def FLT.FIRST_ADDR.ADDR : Fld :=
  { page := 0x5, off := 0x74, hi := 63, lo := 0, acc := .ro, rst := 0, pair := true }

/-- FLT.QUIET.RECOV_MAX: bits 31:24, RW, Table 17.10. -/
def FLT.QUIET.RECOV_MAX : Fld :=
  { page := 0x5, off := 0x7C, hi := 31, lo := 24, acc := .rw, rst := 3, pair := false }

/-- FLT.QUIET.MS: bits 15:0, RW, Table 17.10. -/
def FLT.QUIET.MS : Fld :=
  { page := 0x5, off := 0x7C, hi := 15, lo := 0, acc := .rw, rst := 0, pair := false }

/-- FLT.RECOV_CNT.COUNT: bits 31:0, RO, Table 17.10. -/
def FLT.RECOV_CNT.COUNT : Fld :=
  { page := 0x5, off := 0x80, hi := 31, lo := 0, acc := .ro, rst := 0, pair := false }

/-- FLT.RIPPLE.KICK_EN: bits 31, RW, Table 17.10. -/
def FLT.RIPPLE.KICK_EN : Fld :=
  { page := 0x5, off := 0x84, hi := 31, lo := 31, acc := .rw, rst := 0, pair := false }

/-- FLT.RIPPLE.KICK_MS: bits 30:16, RW, Table 17.10. -/
def FLT.RIPPLE.KICK_MS : Fld :=
  { page := 0x5, off := 0x84, hi := 30, lo := 16, acc := .rw, rst := 0x3E8, pair := false }

/-- FLT.RIPPLE.HALF_US: bits 12:0, RW, Table 17.10. -/
def FLT.RIPPLE.HALF_US : Fld :=
  { page := 0x5, off := 0x84, hi := 12, lo := 0, acc := .rw, rst := 0x1F4, pair := false }

/-- FLT.KICK.KICK: bits 0, WO, Table 17.10. -/
def FLT.KICK.KICK : Fld :=
  { page := 0x5, off := 0x88, hi := 0, lo := 0, acc := .wo, rst := 0, pair := false }

/-- FLT.FRESET.KEY: bits 15:0, WO, Table 17.10. -/
def FLT.FRESET.KEY : Fld :=
  { page := 0x5, off := 0x8C, hi := 15, lo := 0, acc := .wo, rst := 0, pair := false }

/-- FLT.POLICY_STAT.COMMITTED: bits 31, RO, Table 17.10. -/
def FLT.POLICY_STAT.COMMITTED : Fld :=
  { page := 0x5, off := 0x90, hi := 31, lo := 31, acc := .ro, rst := 0, pair := false }

/-- FLT.POLICY_STAT.ENTRIES: bits 18:8, RO, Table 17.10. -/
def FLT.POLICY_STAT.ENTRIES : Fld :=
  { page := 0x5, off := 0x90, hi := 18, lo := 8, acc := .ro, rst := 0, pair := false }

/-- FLT.POLICY_STAT.LAST_CODE: bits 7:0, RO, Table 17.10. -/
def FLT.POLICY_STAT.LAST_CODE : Fld :=
  { page := 0x5, off := 0x90, hi := 7, lo := 0, acc := .ro, rst := 0, pair := false }

/-- FLT.POLICY_FLOOR.COUNT: bits 31:0, RO, Table 17.10. -/
def FLT.POLICY_FLOOR.COUNT : Fld :=
  { page := 0x5, off := 0x94, hi := 31, lo := 0, acc := .ro, rst := 0, pair := false }

/-- FLT.LOCK_POL.ESC_LOCK: bits 1, RWA, Table 17.10. -/
def FLT.LOCK_POL.ESC_LOCK : Fld :=
  { page := 0x5, off := 0x98, hi := 1, lo := 1, acc := .rwa, rst := 1, pair := false }

/-- FLT.LOCK_POL.MEMO: bits 0, RWA, Table 17.10. -/
def FLT.LOCK_POL.MEMO : Fld :=
  { page := 0x5, off := 0x98, hi := 0, lo := 0, acc := .rwa, rst := 0, pair := false }

/-- FLT.POL_QUERY.SOURCE: bits 31:24, RW, Table 17.10. -/
def FLT.POL_QUERY.SOURCE : Fld :=
  { page := 0x5, off := 0x9C, hi := 31, lo := 24, acc := .rw, rst := 0, pair := false }

/-- FLT.POL_QUERY.KIND: bits 23:16, RW, Table 17.10. -/
def FLT.POL_QUERY.KIND : Fld :=
  { page := 0x5, off := 0x9C, hi := 23, lo := 16, acc := .rw, rst := 0, pair := false }

/-- FLT.POL_QUERY.CEIL: bits 6:4, RO, Table 17.10. -/
def FLT.POL_QUERY.CEIL : Fld :=
  { page := 0x5, off := 0x9C, hi := 6, lo := 4, acc := .ro, rst := 0, pair := false }

/-- FLT.POL_QUERY.SEV: bits 2:0, RO, Table 17.10. -/
def FLT.POL_QUERY.SEV : Fld :=
  { page := 0x5, off := 0x9C, hi := 2, lo := 0, acc := .ro, rst := 0, pair := false }

/-- FLT.INJECT.GO: bits 31, WO, Table 17.10. -/
def FLT.INJECT.GO : Fld :=
  { page := 0x5, off := 0x400, hi := 31, lo := 31, acc := .wo, rst := 0, pair := false }

/-- FLT.INJECT.KIND: bits 23:16, RWX, Table 17.10. -/
def FLT.INJECT.KIND : Fld :=
  { page := 0x5, off := 0x400, hi := 23, lo := 16, acc := .rwx, rst := 0, pair := false }

/-- FLT.INJECT.SOURCE: bits 15:8, RWX, Table 17.10. -/
def FLT.INJECT.SOURCE : Fld :=
  { page := 0x5, off := 0x400, hi := 15, lo := 8, acc := .rwx, rst := 0, pair := false }

/-- FLT.INJECT.SEV: bits 2:0, RWX, Table 17.10. -/
def FLT.INJECT.SEV : Fld :=
  { page := 0x5, off := 0x400, hi := 2, lo := 0, acc := .rwx, rst := 0, pair := false }

/-- The fields of FLT whose registers carry no index. -/
def FLT.plain : List Fld :=
   [FLT.STATE.LEVEL,
    FLT.STATE.OVF,
    FLT.STATE.SAFE_IN,
    FLT.STATE.PFAIL,
    FLT.STATE.RIPPLE_HELD,
    FLT.STATE.FAULT_N,
    FLT.STATE.USED,
    FLT.ACK.ALL] ++
   [FLT.ACK.MEMO,
    FLT.ACK.GO,
    FLT.ACK.SLOT,
    FLT.ACT_MAP.USED,
    FLT.ACT_SEL.SLOT,
    FLT.ACT_ENT.SOURCE,
    FLT.ACT_ENT.KIND,
    FLT.ACT_ENT.SEV] ++
   [FLT.ACT_ENT.BASE,
    FLT.ACT_ENT.COUNT,
    FLT.ACT_TS.TS,
    FLT.FAULT_CNT.COUNT,
    FLT.FIRST_INFO.VALID,
    FLT.FIRST_INFO.SEV,
    FLT.FIRST_INFO.KIND,
    FLT.FIRST_INFO.SOURCE] ++
   [FLT.FIRST_INFO.MASTER,
    FLT.FIRST_AUX.PAGE,
    FLT.FIRST_AUX.ACCESS,
    FLT.FIRST_AUX.PORT,
    FLT.FIRST_TS.TS,
    FLT.FIRST_ADDR.ADDR,
    FLT.QUIET.RECOV_MAX,
    FLT.QUIET.MS] ++
   [FLT.RECOV_CNT.COUNT,
    FLT.RIPPLE.KICK_EN,
    FLT.RIPPLE.KICK_MS,
    FLT.RIPPLE.HALF_US,
    FLT.KICK.KICK,
    FLT.FRESET.KEY,
    FLT.POLICY_STAT.COMMITTED,
    FLT.POLICY_STAT.ENTRIES] ++
   [FLT.POLICY_STAT.LAST_CODE,
    FLT.POLICY_FLOOR.COUNT,
    FLT.LOCK_POL.ESC_LOCK,
    FLT.LOCK_POL.MEMO,
    FLT.POL_QUERY.SOURCE,
    FLT.POL_QUERY.KIND,
    FLT.POL_QUERY.CEIL,
    FLT.POL_QUERY.SEV] ++
   [FLT.INJECT.GO,
    FLT.INJECT.KIND,
    FLT.INJECT.SOURCE,
    FLT.INJECT.SEV]

/-- The fields of the register of FLT at page offset `off`. -/
def FLT.at (off : Nat) : List Fld :=
  
  (FLT.plain).filter (·.covers off)

/-- Every field of FLT. -/
def FLT.fields : List Fld :=
  FLT.plain

/-! ### SED (Table 17.11) -/

/-- SED.HEAD.SEQ: bits 15:0, RO, Table 17.11. -/
def SED.HEAD.SEQ : Fld :=
  { page := 0x6, off := 0x40, hi := 15, lo := 0, acc := .ro, rst := 0, pair := false }

/-- SED.TOTAL.COUNT: bits 31:0, RO, Table 17.11. -/
def SED.TOTAL.COUNT : Fld :=
  { page := 0x6, off := 0x44, hi := 31, lo := 0, acc := .ro, rst := 0, pair := false }

/-- SED.STAT.FROZEN: bits 31, RO, Table 17.11. -/
def SED.STAT.FROZEN : Fld :=
  { page := 0x6, off := 0x48, hi := 31, lo := 31, acc := .ro, rst := 0, pair := false }

/-- SED.STAT.PROTECT: bits 30, RO, Table 17.11. -/
def SED.STAT.PROTECT : Fld :=
  { page := 0x6, off := 0x48, hi := 30, lo := 30, acc := .ro, rst := 0, pair := false }

/-- SED.STAT.DUMP: bits 29:28, RO, Table 17.11. -/
def SED.STAT.DUMP : Fld :=
  { page := 0x6, off := 0x48, hi := 29, lo := 28, acc := .ro, rst := 0, pair := false }

/-- SED.STAT.FIFO: bits 10:0, RO, Table 17.11. -/
def SED.STAT.FIFO : Fld :=
  { page := 0x6, off := 0x48, hi := 10, lo := 0, acc := .ro, rst := 0, pair := false }

/-- SED.LOST.COUNT: bits 31:0, RC, Table 17.11. -/
def SED.LOST.COUNT : Fld :=
  { page := 0x6, off := 0x4C, hi := 31, lo := 0, acc := .rc, rst := 0, pair := false }

/-- SED.PROT.LAST: bits 31:16, RO, Table 17.11. -/
def SED.PROT.LAST : Fld :=
  { page := 0x6, off := 0x50, hi := 31, lo := 16, acc := .ro, rst := 0, pair := false }

/-- SED.PROT.FIRST: bits 15:0, RO, Table 17.11. -/
def SED.PROT.FIRST : Fld :=
  { page := 0x6, off := 0x50, hi := 15, lo := 0, acc := .ro, rst := 0, pair := false }

/-- SED.CTRL.DUMP_CLEAR: bits 2, WO, Table 17.11. -/
def SED.CTRL.DUMP_CLEAR : Fld :=
  { page := 0x6, off := 0x54, hi := 2, lo := 2, acc := .wo, rst := 0, pair := false }

/-- SED.CTRL.RELEASE: bits 1, WO, Table 17.11. -/
def SED.CTRL.RELEASE : Fld :=
  { page := 0x6, off := 0x54, hi := 1, lo := 1, acc := .wo, rst := 0, pair := false }

/-- SED.CTRL.FREEZE: bits 0, WO, Table 17.11. -/
def SED.CTRL.FREEZE : Fld :=
  { page := 0x6, off := 0x54, hi := 0, lo := 0, acc := .wo, rst := 0, pair := false }

/-- SED.FREEZE_CFG.POST: bits 31:16, RW, Table 17.11. -/
def SED.FREEZE_CFG.POST : Fld :=
  { page := 0x6, off := 0x58, hi := 31, lo := 16, acc := .rw, rst := 0x400, pair := false }

/-- SED.FREEZE_CFG.SEV: bits 2:0, RW, Table 17.11. -/
def SED.FREEZE_CFG.SEV : Fld :=
  { page := 0x6, off := 0x58, hi := 2, lo := 0, acc := .rw, rst := 4, pair := false }

/-- SED.EV_REC.SRC: bits 31:0, RW, Table 17.11. -/
def SED.EV_REC.SRC (i : Nat) : Fld :=
  { page := 0x6, off := 0x60 + 4 * i, hi := 31, lo := 0, acc := .rw, rst := if i = 0 then 0x310 else 0, pair := false }

/-- SED.DUMP_CFG.BASE: bits 31:16, RW, Table 17.11. -/
def SED.DUMP_CFG.BASE : Fld :=
  { page := 0x6, off := 0x80, hi := 31, lo := 16, acc := .rw, rst := 16, pair := false }

/-- SED.DUMP_CFG.EN: bits 0, RW, Table 17.11. -/
def SED.DUMP_CFG.EN : Fld :=
  { page := 0x6, off := 0x80, hi := 0, lo := 0, acc := .rw, rst := 0, pair := false }

/-- SED.DUMP_STAT.CODE: bits 31:24, RO, Table 17.11. -/
def SED.DUMP_STAT.CODE : Fld :=
  { page := 0x6, off := 0x84, hi := 31, lo := 24, acc := .ro, rst := 0, pair := false }

/-- SED.DUMP_STAT.BLOCKS: bits 7:0, RO, Table 17.11. -/
def SED.DUMP_STAT.BLOCKS : Fld :=
  { page := 0x6, off := 0x84, hi := 7, lo := 0, acc := .ro, rst := 0, pair := false }

/-- SED.DUMP_TS.TS: bits 63:0, RO, Table 17.11. -/
def SED.DUMP_TS.TS : Fld :=
  { page := 0x6, off := 0x88, hi := 63, lo := 0, acc := .ro, rst := 0, pair := true }

/-- The fields of SED whose registers carry no index. -/
def SED.plain : List Fld :=
   [SED.HEAD.SEQ,
    SED.TOTAL.COUNT,
    SED.STAT.FROZEN,
    SED.STAT.PROTECT,
    SED.STAT.DUMP,
    SED.STAT.FIFO,
    SED.LOST.COUNT,
    SED.PROT.LAST] ++
   [SED.PROT.FIRST,
    SED.CTRL.DUMP_CLEAR,
    SED.CTRL.RELEASE,
    SED.CTRL.FREEZE,
    SED.FREEZE_CFG.POST,
    SED.FREEZE_CFG.SEV,
    SED.DUMP_CFG.BASE,
    SED.DUMP_CFG.EN] ++
   [SED.DUMP_STAT.CODE,
    SED.DUMP_STAT.BLOCKS,
    SED.DUMP_TS.TS]

/-- The fields of the register of SED at page offset `off`. -/
def SED.at (off : Nat) : List Fld :=
  if 0x60 ≤ off ∧ off < 0x80 then [SED.EV_REC.SRC ((off - 0x60) / 4)] else
  (SED.plain).filter (·.covers off)

/-- Every field of SED. -/
def SED.fields : List Fld :=
  SED.plain ++
  ((List.range 8).flatMap fun i => [SED.EV_REC.SRC i])

/-! ### PCI (Table 21.2) -/

/-- PCI.LINK_STAT.WIDTH: bits 11:8, RO, Table 21.2. -/
def PCI.LINK_STAT.WIDTH : Fld :=
  { page := 0x7, off := 0x40, hi := 11, lo := 8, acc := .ro, rst := 0, pair := false }

/-- PCI.LINK_STAT.SPEED: bits 7:4, RO, Table 21.2. -/
def PCI.LINK_STAT.SPEED : Fld :=
  { page := 0x7, off := 0x40, hi := 7, lo := 4, acc := .ro, rst := 0, pair := false }

/-- PCI.LINK_STAT.STATE: bits 3:0, RO, Table 21.2. -/
def PCI.LINK_STAT.STATE : Fld :=
  { page := 0x7, off := 0x40, hi := 3, lo := 0, acc := .ro, rst := 0, pair := false }

/-- PCI.FLR_CNT.COUNT: bits 31:0, RC, Table 21.2. -/
def PCI.FLR_CNT.COUNT : Fld :=
  { page := 0x7, off := 0x44, hi := 31, lo := 0, acc := .rc, rst := 0, pair := false }

/-- PCI.AER_CNT.COUNT: bits 31:0, RC, Table 21.2. -/
def PCI.AER_CNT.COUNT : Fld :=
  { page := 0x7, off := 0x48, hi := 31, lo := 0, acc := .rc, rst := 0, pair := false }

/-- The fields of PCI whose registers carry no index. -/
def PCI.plain : List Fld :=
   [PCI.LINK_STAT.WIDTH,
    PCI.LINK_STAT.SPEED,
    PCI.LINK_STAT.STATE,
    PCI.FLR_CNT.COUNT,
    PCI.AER_CNT.COUNT]

/-- The fields of the register of PCI at page offset `off`. -/
def PCI.at (off : Nat) : List Fld :=
  
  (PCI.plain).filter (·.covers off)

/-- Every field of PCI. -/
def PCI.fields : List Fld :=
  PCI.plain

/-! ### CAL (Table 18.3) -/

/-- CAL.CFG.TRIG_EN: bits 31, RW, Table 18.3. -/
def CAL.CFG.TRIG_EN : Fld :=
  { page := 0x8, off := 0x40, hi := 31, lo := 31, acc := .rw, rst := 1, pair := false }

/-- CAL.CFG.AUTO_SPARE: bits 30, RW, Table 18.3. -/
def CAL.CFG.AUTO_SPARE : Fld :=
  { page := 0x8, off := 0x40, hi := 30, lo := 30, acc := .rw, rst := 1, pair := false }

/-- CAL.CFG.FAIL_N: bits 11:8, RW, Table 18.3. -/
def CAL.CFG.FAIL_N : Fld :=
  { page := 0x8, off := 0x40, hi := 11, lo := 8, acc := .rw, rst := 3, pair := false }

/-- CAL.CFG.DELTA: bits 7:0, RW, Table 18.3. -/
def CAL.CFG.DELTA : Fld :=
  { page := 0x8, off := 0x40, hi := 7, lo := 0, acc := .rw, rst := 32, pair := false }

/-- CAL.AUTO_MAP.TARGETS: bits 14:0, RW, Table 18.3. -/
def CAL.AUTO_MAP.TARGETS : Fld :=
  { page := 0x8, off := 0x44, hi := 14, lo := 0, acc := .rw, rst := 0x7FFF, pair := false }

/-- CAL.CMD.CHAN: bits 11:8, RW, Table 18.3. -/
def CAL.CMD.CHAN : Fld :=
  { page := 0x8, off := 0x48, hi := 11, lo := 8, acc := .rw, rst := 0, pair := false }

/-- CAL.CMD.RESTORE: bits 1, WO, Table 18.3. -/
def CAL.CMD.RESTORE : Fld :=
  { page := 0x8, off := 0x48, hi := 1, lo := 1, acc := .wo, rst := 0, pair := false }

/-- CAL.CMD.RUN: bits 0, WO, Table 18.3. -/
def CAL.CMD.RUN : Fld :=
  { page := 0x8, off := 0x48, hi := 0, lo := 0, acc := .wo, rst := 0, pair := false }

/-- CAL.CMD_MAP.TARGETS: bits 14:0, RW, Table 18.3. -/
def CAL.CMD_MAP.TARGETS : Fld :=
  { page := 0x8, off := 0x4C, hi := 14, lo := 0, acc := .rw, rst := 0x7FFF, pair := false }

/-- CAL.STAT.BUSY: bits 31, RO, Table 18.3. -/
def CAL.STAT.BUSY : Fld :=
  { page := 0x8, off := 0x50, hi := 31, lo := 31, acc := .ro, rst := 0, pair := false }

/-- CAL.STAT.SPARE: bits 30:28, RO, Table 18.3. -/
def CAL.STAT.SPARE : Fld :=
  { page := 0x8, off := 0x50, hi := 30, lo := 28, acc := .ro, rst := 0, pair := false }

/-- CAL.STAT.CUR: bits 27:24, RO, Table 18.3. -/
def CAL.STAT.CUR : Fld :=
  { page := 0x8, off := 0x50, hi := 27, lo := 24, acc := .ro, rst := 0, pair := false }

/-- CAL.STAT.COVER: bits 23:20, RO, Table 18.3. -/
def CAL.STAT.COVER : Fld :=
  { page := 0x8, off := 0x50, hi := 23, lo := 20, acc := .ro, rst := 15, pair := false }

/-- CAL.STAT.QUEUE: bits 14:0, RO, Table 18.3. -/
def CAL.STAT.QUEUE : Fld :=
  { page := 0x8, off := 0x50, hi := 14, lo := 0, acc := .ro, rst := 0, pair := false }

/-- CAL.FAILED.CHANS: bits 8:0, RO, Table 18.3. -/
def CAL.FAILED.CHANS : Fld :=
  { page := 0x8, off := 0x54, hi := 8, lo := 0, acc := .ro, rst := 0, pair := false }

/-- CAL.COUNT.COUNT: bits 31:0, RO, Table 18.3. -/
def CAL.COUNT.COUNT : Fld :=
  { page := 0x8, off := 0x58, hi := 31, lo := 0, acc := .ro, rst := 0, pair := false }

/-- CAL.LAST_TS.TS: bits 63:0, RO, Table 18.3. -/
def CAL.LAST_TS.TS : Fld :=
  { page := 0x8, off := 0x5C, hi := 63, lo := 0, acc := .ro, rst := 0, pair := true }

/-- CAL.DIE_T.LAST: bits 31:16, RO, Table 18.3. -/
def CAL.DIE_T.LAST : Fld :=
  { page := 0x8, off := 0x64, hi := 31, lo := 16, acc := .ro, rst := 0, pair := false }

/-- CAL.DIE_T.NOW: bits 15:0, RO, Table 18.3. -/
def CAL.DIE_T.NOW : Fld :=
  { page := 0x8, off := 0x64, hi := 15, lo := 0, acc := .ro, rst := 0, pair := false }

/-- CAL.STALE_CNT.COUNT: bits 31:0, RC, Table 18.3. -/
def CAL.STALE_CNT.COUNT : Fld :=
  { page := 0x8, off := 0x68, hi := 31, lo := 0, acc := .rc, rst := 0, pair := false }

/-- CAL.IMPL_CNT.COUNT: bits 31:0, RC, Table 18.3. -/
def CAL.IMPL_CNT.COUNT : Fld :=
  { page := 0x8, off := 0x6C, hi := 31, lo := 0, acc := .rc, rst := 0, pair := false }

/-- CAL.SEL.ITEM: bits 15:8, RW, Table 18.3. -/
def CAL.SEL.ITEM : Fld :=
  { page := 0x8, off := 0x70, hi := 15, lo := 8, acc := .rw, rst := 0, pair := false }

/-- CAL.SEL.TARGET: bits 3:0, RW, Table 18.3. -/
def CAL.SEL.TARGET : Fld :=
  { page := 0x8, off := 0x70, hi := 3, lo := 0, acc := .rw, rst := 0, pair := false }

/-- CAL.FACTORY.VALUE: bits 15:0, RO, Table 18.3. -/
def CAL.FACTORY.VALUE : Fld :=
  { page := 0x8, off := 0x74, hi := 15, lo := 0, acc := .ro, rst := 0, pair := false }

/-- CAL.USER.VALUE: bits 15:0, RWX, Table 18.3. -/
def CAL.USER.VALUE : Fld :=
  { page := 0x8, off := 0x78, hi := 15, lo := 0, acc := .rwx, rst := 0, pair := false }

/-- CAL.RUN.VALUE: bits 15:0, RO, Table 18.3. -/
def CAL.RUN.VALUE : Fld :=
  { page := 0x8, off := 0x7C, hi := 15, lo := 0, acc := .ro, rst := 0, pair := false }

/-- CAL.EFF.VALUE: bits 15:0, RO, Table 18.3. -/
def CAL.EFF.VALUE : Fld :=
  { page := 0x8, off := 0x80, hi := 15, lo := 0, acc := .ro, rst := 0, pair := false }

/-- CAL.LIMIT.HI: bits 31:16, RO, Table 18.3. -/
def CAL.LIMIT.HI : Fld :=
  { page := 0x8, off := 0x84, hi := 31, lo := 16, acc := .ro, rst := 0, pair := false }

/-- CAL.LIMIT.LO: bits 15:0, RO, Table 18.3. -/
def CAL.LIMIT.LO : Fld :=
  { page := 0x8, off := 0x84, hi := 15, lo := 0, acc := .ro, rst := 0, pair := false }

/-- CAL.TGT_STAT.RESULT: bits 31:28, RO, Table 18.3. -/
def CAL.TGT_STAT.RESULT : Fld :=
  { page := 0x8, off := 0x88, hi := 31, lo := 28, acc := .ro, rst := 0, pair := false }

/-- CAL.TGT_STAT.CLAMP: bits 27, RO, Table 18.3. -/
def CAL.TGT_STAT.CLAMP : Fld :=
  { page := 0x8, off := 0x88, hi := 27, lo := 27, acc := .ro, rst := 0, pair := false }

/-- CAL.TGT_STAT.SLEWING: bits 26, RO, Table 18.3. -/
def CAL.TGT_STAT.SLEWING : Fld :=
  { page := 0x8, off := 0x88, hi := 26, lo := 26, acc := .ro, rst := 0, pair := false }

/-- CAL.TGT_STAT.FAILS: bits 23:20, RO, Table 18.3. -/
def CAL.TGT_STAT.FAILS : Fld :=
  { page := 0x8, off := 0x88, hi := 23, lo := 20, acc := .ro, rst := 0, pair := false }

/-- CAL.TGT_STAT.Q_VALID: bits 16, RO, Table 18.3. -/
def CAL.TGT_STAT.Q_VALID : Fld :=
  { page := 0x8, off := 0x88, hi := 16, lo := 16, acc := .ro, rst := 0, pair := false }

/-- CAL.TGT_STAT.QUALITY: bits 15:0, RO, Table 18.3. -/
def CAL.TGT_STAT.QUALITY : Fld :=
  { page := 0x8, off := 0x88, hi := 15, lo := 0, acc := .ro, rst := 0, pair := false }

/-- CAL.TGT_TS.TS: bits 63:0, RO, Table 18.3. -/
def CAL.TGT_TS.TS : Fld :=
  { page := 0x8, off := 0x8C, hi := 63, lo := 0, acc := .ro, rst := 0, pair := true }

/-- The fields of CAL whose registers carry no index. -/
def CAL.plain : List Fld :=
   [CAL.CFG.TRIG_EN,
    CAL.CFG.AUTO_SPARE,
    CAL.CFG.FAIL_N,
    CAL.CFG.DELTA,
    CAL.AUTO_MAP.TARGETS,
    CAL.CMD.CHAN,
    CAL.CMD.RESTORE,
    CAL.CMD.RUN] ++
   [CAL.CMD_MAP.TARGETS,
    CAL.STAT.BUSY,
    CAL.STAT.SPARE,
    CAL.STAT.CUR,
    CAL.STAT.COVER,
    CAL.STAT.QUEUE,
    CAL.FAILED.CHANS,
    CAL.COUNT.COUNT] ++
   [CAL.LAST_TS.TS,
    CAL.DIE_T.LAST,
    CAL.DIE_T.NOW,
    CAL.STALE_CNT.COUNT,
    CAL.IMPL_CNT.COUNT,
    CAL.SEL.ITEM,
    CAL.SEL.TARGET,
    CAL.FACTORY.VALUE] ++
   [CAL.USER.VALUE,
    CAL.RUN.VALUE,
    CAL.EFF.VALUE,
    CAL.LIMIT.HI,
    CAL.LIMIT.LO,
    CAL.TGT_STAT.RESULT,
    CAL.TGT_STAT.CLAMP,
    CAL.TGT_STAT.SLEWING] ++
   [CAL.TGT_STAT.FAILS,
    CAL.TGT_STAT.Q_VALID,
    CAL.TGT_STAT.QUALITY,
    CAL.TGT_TS.TS]

/-- The fields of the register of CAL at page offset `off`. -/
def CAL.at (off : Nat) : List Fld :=
  
  (CAL.plain).filter (·.covers off)

/-- Every field of CAL. -/
def CAL.fields : List Fld :=
  CAL.plain

/-! ### BAS (Table 13.5) -/

/-- BAS.STAT.THROTTLED: bits 2, RO, Table 13.5. -/
def BAS.STAT.THROTTLED : Fld :=
  { page := 0x10, off := 0x40, hi := 2, lo := 2, acc := .ro, rst := 0, pair := false }

/-- BAS.STAT.WIPING: bits 1, RO, Table 13.5. -/
def BAS.STAT.WIPING : Fld :=
  { page := 0x10, off := 0x40, hi := 1, lo := 1, acc := .ro, rst := 1, pair := false }

/-- BAS.STAT.READY: bits 0, RO, Table 13.5. -/
def BAS.STAT.READY : Fld :=
  { page := 0x10, off := 0x40, hi := 0, lo := 0, acc := .ro, rst := 0, pair := false }

/-- BAS.CE_CNT.COUNT: bits 31:0, RC, Table 13.5. -/
def BAS.CE_CNT.COUNT : Fld :=
  { page := 0x10, off := 0x44, hi := 31, lo := 0, acc := .rc, rst := 0, pair := false }

/-- BAS.UE_CNT.COUNT: bits 31:0, RC, Table 13.5. -/
def BAS.UE_CNT.COUNT : Fld :=
  { page := 0x10, off := 0x48, hi := 31, lo := 0, acc := .rc, rst := 0, pair := false }

/-- BAS.UE_ADDR.VALID: bits 63, W1C, Table 13.5. -/
def BAS.UE_ADDR.VALID : Fld :=
  { page := 0x10, off := 0x4C, hi := 63, lo := 63, acc := .w1c, rst := 0, pair := true }

/-- BAS.UE_ADDR.MASTER: bits 47:40, RO, Table 13.5. -/
def BAS.UE_ADDR.MASTER : Fld :=
  { page := 0x10, off := 0x4C, hi := 47, lo := 40, acc := .ro, rst := 0, pair := true }

/-- BAS.UE_ADDR.ADDR: bits 34:0, RO, Table 13.5. -/
def BAS.UE_ADDR.ADDR : Fld :=
  { page := 0x10, off := 0x4C, hi := 34, lo := 0, acc := .ro, rst := 0, pair := true }

/-- BAS.CE_ADDR.ADDR: bits 34:0, RO, Table 13.5. -/
def BAS.CE_ADDR.ADDR : Fld :=
  { page := 0x10, off := 0x54, hi := 34, lo := 0, acc := .ro, rst := 0, pair := true }

/-- BAS.DLY_SEL.MASTER: bits 7:0, RW, Table 13.5. -/
def BAS.DLY_SEL.MASTER : Fld :=
  { page := 0x10, off := 0x5C, hi := 7, lo := 0, acc := .rw, rst := 0, pair := false }

/-- BAS.DLY_CNT.COUNT: bits 31:0, RC, Table 13.5. -/
def BAS.DLY_CNT.COUNT : Fld :=
  { page := 0x10, off := 0x60, hi := 31, lo := 0, acc := .rc, rst := 0, pair := false }

/-- BAS.C5_LOST.COUNT: bits 31:0, RC, Table 13.5. -/
def BAS.C5_LOST.COUNT : Fld :=
  { page := 0x10, off := 0x64, hi := 31, lo := 0, acc := .rc, rst := 0, pair := false }

/-- BAS.SLACK_MIN.MIN: bits 15:0, RC, Table 13.5. -/
def BAS.SLACK_MIN.MIN : Fld :=
  { page := 0x10, off := 0x68, hi := 15, lo := 0, acc := .rc, rst := 0x7FFF, pair := false }

/-- BAS.THROTTLE.SLACK_US: bits 15:0, RWX, Table 13.5. -/
def BAS.THROTTLE.SLACK_US : Fld :=
  { page := 0x10, off := 0x400, hi := 15, lo := 0, acc := .rwx, rst := 100, pair := false }

/-- BAS.FLOOR.C3: bits 31:16, RWX, Table 13.5. -/
def BAS.FLOOR.C3 : Fld :=
  { page := 0x10, off := 0x404, hi := 31, lo := 16, acc := .rwx, rst := 16, pair := false }

/-- BAS.FLOOR.C2: bits 15:0, RWX, Table 13.5. -/
def BAS.FLOOR.C2 : Fld :=
  { page := 0x10, off := 0x404, hi := 15, lo := 0, acc := .rwx, rst := 32, pair := false }

/-- BAS.CE_RATE.PER_S: bits 15:0, RWX, Table 13.5. -/
def BAS.CE_RATE.PER_S : Fld :=
  { page := 0x10, off := 0x408, hi := 15, lo := 0, acc := .rwx, rst := 64, pair := false }

/-- The fields of BAS whose registers carry no index. -/
def BAS.plain : List Fld :=
   [BAS.STAT.THROTTLED,
    BAS.STAT.WIPING,
    BAS.STAT.READY,
    BAS.CE_CNT.COUNT,
    BAS.UE_CNT.COUNT,
    BAS.UE_ADDR.VALID,
    BAS.UE_ADDR.MASTER,
    BAS.UE_ADDR.ADDR] ++
   [BAS.CE_ADDR.ADDR,
    BAS.DLY_SEL.MASTER,
    BAS.DLY_CNT.COUNT,
    BAS.C5_LOST.COUNT,
    BAS.SLACK_MIN.MIN,
    BAS.THROTTLE.SLACK_US,
    BAS.FLOOR.C3,
    BAS.FLOOR.C2] ++
   [BAS.CE_RATE.PER_S]

/-- The fields of the register of BAS at page offset `off`. -/
def BAS.at (off : Nat) : List Fld :=
  
  (BAS.plain).filter (·.covers off)

/-- Every field of BAS. -/
def BAS.fields : List Fld :=
  BAS.plain

/-! ### TRN (Table 13.7) -/

/-- TRN.TASK_EN.TELEM: bits 3, RW, Table 13.7. -/
def TRN.TASK_EN.TELEM : Fld :=
  { page := 0x11, off := 0x40, hi := 3, lo := 3, acc := .rw, rst := 0, pair := false }

/-- TRN.TASK_EN.WEAR: bits 2, RW, Table 13.7. -/
def TRN.TASK_EN.WEAR : Fld :=
  { page := 0x11, off := 0x40, hi := 2, lo := 2, acc := .rw, rst := 1, pair := false }

/-- TRN.TASK_EN.SSCRUB: bits 1, RW, Table 13.7. -/
def TRN.TASK_EN.SSCRUB : Fld :=
  { page := 0x11, off := 0x40, hi := 1, lo := 1, acc := .rw, rst := 1, pair := false }

/-- TRN.TASK_EN.BSCRUB: bits 0, RW, Table 13.7. -/
def TRN.TASK_EN.BSCRUB : Fld :=
  { page := 0x11, off := 0x40, hi := 0, lo := 0, acc := .rw, rst := 1, pair := false }

/-- TRN.SCRUB_B.MIN_MBPS: bits 31:16, RW, Table 13.7. -/
def TRN.SCRUB_B.MIN_MBPS : Fld :=
  { page := 0x11, off := 0x44, hi := 31, lo := 16, acc := .rw, rst := 64, pair := false }

/-- TRN.SCRUB_B.PERIOD_S: bits 15:0, RW, Table 13.7. -/
def TRN.SCRUB_B.PERIOD_S : Fld :=
  { page := 0x11, off := 0x44, hi := 15, lo := 0, acc := .rw, rst := 0x258, pair := false }

/-- TRN.SCRUB_S.PERIOD_MS: bits 15:0, RW, Table 13.7. -/
def TRN.SCRUB_S.PERIOD_MS : Fld :=
  { page := 0x11, off := 0x48, hi := 15, lo := 0, acc := .rw, rst := 0x3E8, pair := false }

/-- TRN.SCRUB_B_STAT.LAST_S: bits 31:16, RO, Table 13.7. -/
def TRN.SCRUB_B_STAT.LAST_S : Fld :=
  { page := 0x11, off := 0x4C, hi := 31, lo := 16, acc := .ro, rst := 0, pair := false }

/-- TRN.SCRUB_B_STAT.DONE: bits 7:0, RO, Table 13.7. -/
def TRN.SCRUB_B_STAT.DONE : Fld :=
  { page := 0x11, off := 0x4C, hi := 7, lo := 0, acc := .ro, rst := 0, pair := false }

/-- TRN.SCRUB_S_STAT.LAST_MS: bits 31:16, RO, Table 13.7. -/
def TRN.SCRUB_S_STAT.LAST_MS : Fld :=
  { page := 0x11, off := 0x50, hi := 31, lo := 16, acc := .ro, rst := 0, pair := false }

/-- TRN.SCRUB_S_STAT.PASSES: bits 15:0, RO, Table 13.7. -/
def TRN.SCRUB_S_STAT.PASSES : Fld :=
  { page := 0x11, off := 0x50, hi := 15, lo := 0, acc := .ro, rst := 0, pair := false }

/-- TRN.SCRUB_B_TS.TS: bits 63:0, RO, Table 13.7. -/
def TRN.SCRUB_B_TS.TS : Fld :=
  { page := 0x11, off := 0x54, hi := 63, lo := 0, acc := .ro, rst := 0, pair := true }

/-- TRN.TELEM_BASE.ADDR: bits 63:6, RW, Table 13.7. -/
def TRN.TELEM_BASE.ADDR : Fld :=
  { page := 0x11, off := 0x5C, hi := 63, lo := 6, acc := .rw, rst := 0, pair := true }

/-- TRN.TELEM_BASE.SPACE: bits 0, RW, Table 13.7. -/
def TRN.TELEM_BASE.SPACE : Fld :=
  { page := 0x11, off := 0x5C, hi := 0, lo := 0, acc := .rw, rst := 0, pair := true }

/-- TRN.TELEM_CFG.LOG2: bits 19:16, RW, Table 13.7. -/
def TRN.TELEM_CFG.LOG2 : Fld :=
  { page := 0x11, off := 0x64, hi := 19, lo := 16, acc := .rw, rst := 6, pair := false }

/-- TRN.TELEM_CFG.PERIOD_MS: bits 15:0, RW, Table 13.7. -/
def TRN.TELEM_CFG.PERIOD_MS : Fld :=
  { page := 0x11, off := 0x64, hi := 15, lo := 0, acc := .rw, rst := 100, pair := false }

/-- TRN.TELEM_TAIL.INDEX: bits 31:0, RO, Table 13.7. -/
def TRN.TELEM_TAIL.INDEX : Fld :=
  { page := 0x11, off := 0x68, hi := 31, lo := 0, acc := .ro, rst := 0, pair := false }

/-- TRN.TELEM_HEAD.INDEX: bits 31:0, RW, Table 13.7. -/
def TRN.TELEM_HEAD.INDEX : Fld :=
  { page := 0x11, off := 0x6C, hi := 31, lo := 0, acc := .rw, rst := 0, pair := false }

/-- TRN.TELEM_LOST.COUNT: bits 31:0, RC, Table 13.7. -/
def TRN.TELEM_LOST.COUNT : Fld :=
  { page := 0x11, off := 0x70, hi := 31, lo := 0, acc := .rc, rst := 0, pair := false }

/-- TRN.WEAR_RESET_CNT.COUNT: bits 31:0, RC, Table 13.7. -/
def TRN.WEAR_RESET_CNT.COUNT : Fld :=
  { page := 0x11, off := 0x74, hi := 31, lo := 0, acc := .rc, rst := 0, pair := false }

/-- The fields of TRN whose registers carry no index. -/
def TRN.plain : List Fld :=
   [TRN.TASK_EN.TELEM,
    TRN.TASK_EN.WEAR,
    TRN.TASK_EN.SSCRUB,
    TRN.TASK_EN.BSCRUB,
    TRN.SCRUB_B.MIN_MBPS,
    TRN.SCRUB_B.PERIOD_S,
    TRN.SCRUB_S.PERIOD_MS,
    TRN.SCRUB_B_STAT.LAST_S] ++
   [TRN.SCRUB_B_STAT.DONE,
    TRN.SCRUB_S_STAT.LAST_MS,
    TRN.SCRUB_S_STAT.PASSES,
    TRN.SCRUB_B_TS.TS,
    TRN.TELEM_BASE.ADDR,
    TRN.TELEM_BASE.SPACE,
    TRN.TELEM_CFG.LOG2,
    TRN.TELEM_CFG.PERIOD_MS] ++
   [TRN.TELEM_TAIL.INDEX,
    TRN.TELEM_HEAD.INDEX,
    TRN.TELEM_LOST.COUNT,
    TRN.WEAR_RESET_CNT.COUNT]

/-- The fields of the register of TRN at page offset `off`. -/
def TRN.at (off : Nat) : List Fld :=
  
  (TRN.plain).filter (·.covers off)

/-- Every field of TRN. -/
def TRN.fields : List Fld :=
  TRN.plain

/-! ### SHL (Table 13.6, Table 6.8) -/

/-- SHL.SLICE_SEL.PORT: bits 5:0, RW, Table 6.8. -/
def SHL.SLICE_SEL.PORT : Fld :=
  { page := 0x12, off := 0x40, hi := 5, lo := 0, acc := .rw, rst := 0, pair := false }

/-- SHL.LAYOUT.K_M1: bits 31:28, RO, Table 6.8. -/
def SHL.LAYOUT.K_M1 : Fld :=
  { page := 0x12, off := 0x44, hi := 31, lo := 28, acc := .ro, rst := 0, pair := false }

/-- SHL.LAYOUT.WIDTH_M1: bits 23:16, RO, Table 6.8. -/
def SHL.LAYOUT.WIDTH_M1 : Fld :=
  { page := 0x12, off := 0x44, hi := 23, lo := 16, acc := .ro, rst := 0, pair := false }

/-- SHL.LAYOUT.COL_LO: bits 11:0, RO, Table 6.8. -/
def SHL.LAYOUT.COL_LO : Fld :=
  { page := 0x12, off := 0x44, hi := 11, lo := 0, acc := .ro, rst := 0, pair := false }

/-- SHL.SPAN.SMAX: bits 31:16, RO, Table 6.8. -/
def SHL.SPAN.SMAX : Fld :=
  { page := 0x12, off := 0x48, hi := 31, lo := 16, acc := .ro, rst := 0, pair := false }

/-- SHL.SPAN.SPAN: bits 15:0, RO, Table 6.8. -/
def SHL.SPAN.SPAN : Fld :=
  { page := 0x12, off := 0x48, hi := 15, lo := 0, acc := .ro, rst := 0, pair := false }

/-- SHL.FIT.FIT: bits 63:0, RO, Table 6.8. -/
def SHL.FIT.FIT : Fld :=
  { page := 0x12, off := 0x4C, hi := 63, lo := 0, acc := .ro, rst := 0, pair := true }

/-- SHL.SLOTS.M_M1: bits 8:0, RO, Table 6.8. -/
def SHL.SLOTS.M_M1 : Fld :=
  { page := 0x12, off := 0x54, hi := 8, lo := 0, acc := .ro, rst := 0, pair := false }

/-- SHL.CE_CNT.COUNT: bits 31:0, RC, Table 13.6. -/
def SHL.CE_CNT.COUNT : Fld :=
  { page := 0x12, off := 0x100, hi := 31, lo := 0, acc := .rc, rst := 0, pair := false }

/-- SHL.UE_CNT.COUNT: bits 31:0, RC, Table 13.6. -/
def SHL.UE_CNT.COUNT : Fld :=
  { page := 0x12, off := 0x104, hi := 31, lo := 0, acc := .rc, rst := 0, pair := false }

/-- SHL.UE_LOC.VALID: bits 31, W1C, Table 13.6. -/
def SHL.UE_LOC.VALID : Fld :=
  { page := 0x12, off := 0x108, hi := 31, lo := 31, acc := .w1c, rst := 0, pair := false }

/-- SHL.UE_LOC.SLICE: bits 29:24, RO, Table 13.6. -/
def SHL.UE_LOC.SLICE : Fld :=
  { page := 0x12, off := 0x108, hi := 29, lo := 24, acc := .ro, rst := 0, pair := false }

/-- SHL.UE_LOC.MASTER: bits 23:16, RO, Table 13.6. -/
def SHL.UE_LOC.MASTER : Fld :=
  { page := 0x12, off := 0x108, hi := 23, lo := 16, acc := .ro, rst := 0, pair := false }

/-- SHL.UE_LOC.WORD: bits 15:0, RO, Table 13.6. -/
def SHL.UE_LOC.WORD : Fld :=
  { page := 0x12, off := 0x108, hi := 15, lo := 0, acc := .ro, rst := 0, pair := false }

/-- The fields of SHL whose registers carry no index. -/
def SHL.plain : List Fld :=
   [SHL.SLICE_SEL.PORT,
    SHL.LAYOUT.K_M1,
    SHL.LAYOUT.WIDTH_M1,
    SHL.LAYOUT.COL_LO,
    SHL.SPAN.SMAX,
    SHL.SPAN.SPAN,
    SHL.FIT.FIT,
    SHL.SLOTS.M_M1] ++
   [SHL.CE_CNT.COUNT,
    SHL.UE_CNT.COUNT,
    SHL.UE_LOC.VALID,
    SHL.UE_LOC.SLICE,
    SHL.UE_LOC.MASTER,
    SHL.UE_LOC.WORD]

/-- The fields of the register of SHL at page offset `off`. -/
def SHL.at (off : Nat) : List Fld :=
  
  (SHL.plain).filter (·.covers off)

/-- Every field of SHL. -/
def SHL.fields : List Fld :=
  SHL.plain

/-! ### DMAC (Table 14.7) -/

/-- DMAC.REVOKE.CLIENT: bits 7:0, WO, Table 14.7. -/
def DMAC.REVOKE.CLIENT : Fld :=
  { page := 0x1F, off := 0x40, hi := 7, lo := 0, acc := .wo, rst := 0, pair := false }

/-- DMAC.RUN_MAP.RUN: bits 31:0, RO, Table 14.7. -/
def DMAC.RUN_MAP.RUN : Fld :=
  { page := 0x1F, off := 0x44, hi := 31, lo := 0, acc := .ro, rst := 0, pair := false }

/-- DMAC.END_MAP.ENDED: bits 31:0, W1C, Table 14.7. -/
def DMAC.END_MAP.ENDED : Fld :=
  { page := 0x1F, off := 0x48, hi := 31, lo := 0, acc := .w1c, rst := 0, pair := false }

/-- DMAC.ERR_MAP.ERR: bits 31:0, W1C, Table 14.7. -/
def DMAC.ERR_MAP.ERR : Fld :=
  { page := 0x1F, off := 0x4C, hi := 31, lo := 0, acc := .w1c, rst := 0, pair := false }

/-- DMAC.KILL_MAP.KILL: bits 31:0, WO, Table 14.7. -/
def DMAC.KILL_MAP.KILL : Fld :=
  { page := 0x1F, off := 0x50, hi := 31, lo := 0, acc := .wo, rst := 0, pair := false }

/-- The fields of DMAC whose registers carry no index. -/
def DMAC.plain : List Fld :=
   [DMAC.REVOKE.CLIENT,
    DMAC.RUN_MAP.RUN,
    DMAC.END_MAP.ENDED,
    DMAC.ERR_MAP.ERR,
    DMAC.KILL_MAP.KILL]

/-- The fields of the register of DMAC at page offset `off`. -/
def DMAC.at (off : Nat) : List Fld :=
  
  (DMAC.plain).filter (·.covers off)

/-- Every field of DMAC. -/
def DMAC.fields : List Fld :=
  DMAC.plain

/-! ### DMA (Table 14.6) -/

/-- DMA.OWNER.EXPECT: bits 15:8, WO, Table 14.6. -/
def DMA.OWNER.EXPECT (n : Nat) : Fld :=
  { page := 0x20 + n, off := 0x40, hi := 15, lo := 8, acc := .wo, rst := 0, pair := false }

/-- DMA.OWNER.TAG: bits 7:0, RW, Table 14.6. -/
def DMA.OWNER.TAG (n : Nat) : Fld :=
  { page := 0x20 + n, off := 0x40, hi := 7, lo := 0, acc := .rw, rst := 0, pair := false }

/-- DMA.PROG.ADDR: bits 63:4, RW, Table 14.6. -/
def DMA.PROG.ADDR (n : Nat) : Fld :=
  { page := 0x20 + n, off := 0x44, hi := 63, lo := 4, acc := .rw, rst := 0, pair := true }

/-- DMA.PROG.SPACE: bits 0, RW, Table 14.6. -/
def DMA.PROG.SPACE (n : Nat) : Fld :=
  { page := 0x20 + n, off := 0x44, hi := 0, lo := 0, acc := .rw, rst := 0, pair := true }

/-- DMA.CMD.RESUME: bits 1, WO, Table 14.6. -/
def DMA.CMD.RESUME (n : Nat) : Fld :=
  { page := 0x20 + n, off := 0x4C, hi := 1, lo := 1, acc := .wo, rst := 0, pair := false }

/-- DMA.CMD.START: bits 0, WO, Table 14.6. -/
def DMA.CMD.START (n : Nat) : Fld :=
  { page := 0x20 + n, off := 0x4C, hi := 0, lo := 0, acc := .wo, rst := 0, pair := false }

/-- DMA.PC.ADDR: bits 63:4, RO, Table 14.6. -/
def DMA.PC.ADDR (n : Nat) : Fld :=
  { page := 0x20 + n, off := 0x50, hi := 63, lo := 4, acc := .ro, rst := 0, pair := true }

/-- DMA.PC.SPACE: bits 0, RO, Table 14.6. -/
def DMA.PC.SPACE (n : Nat) : Fld :=
  { page := 0x20 + n, off := 0x50, hi := 0, lo := 0, acc := .ro, rst := 0, pair := true }

/-- DMA.STAT.ARG: bits 31:16, RO, Table 14.6. -/
def DMA.STAT.ARG (n : Nat) : Fld :=
  { page := 0x20 + n, off := 0x58, hi := 31, lo := 16, acc := .ro, rst := 0, pair := false }

/-- DMA.STAT.CAUSE: bits 15:8, RO, Table 14.6. -/
def DMA.STAT.CAUSE (n : Nat) : Fld :=
  { page := 0x20 + n, off := 0x58, hi := 15, lo := 8, acc := .ro, rst := 0, pair := false }

/-- DMA.STAT.CODE: bits 7:0, RO, Table 14.6. -/
def DMA.STAT.CODE (n : Nat) : Fld :=
  { page := 0x20 + n, off := 0x58, hi := 7, lo := 0, acc := .ro, rst := 0, pair := false }

/-- DMA.FLAGS.WAITING: bits 3, RO, Table 14.6. -/
def DMA.FLAGS.WAITING (n : Nat) : Fld :=
  { page := 0x20 + n, off := 0x5C, hi := 3, lo := 3, acc := .ro, rst := 0, pair := false }

/-- DMA.FLAGS.FETCH: bits 2, RO, Table 14.6. -/
def DMA.FLAGS.FETCH (n : Nat) : Fld :=
  { page := 0x20 + n, off := 0x5C, hi := 2, lo := 2, acc := .ro, rst := 0, pair := false }

/-- DMA.FLAGS.DELAYED: bits 1, RO, Table 14.6. -/
def DMA.FLAGS.DELAYED (n : Nat) : Fld :=
  { page := 0x20 + n, off := 0x5C, hi := 1, lo := 1, acc := .ro, rst := 0, pair := false }

/-- DMA.FLAGS.ENDED: bits 0, RO, Table 14.6. -/
def DMA.FLAGS.ENDED (n : Nat) : Fld :=
  { page := 0x20 + n, off := 0x5C, hi := 0, lo := 0, acc := .ro, rst := 0, pair := false }

/-- DMA.LOOP.DEPTH: bits 1:0, RO, Table 14.6. -/
def DMA.LOOP.DEPTH (n : Nat) : Fld :=
  { page := 0x20 + n, off := 0x60, hi := 1, lo := 0, acc := .ro, rst := 0, pair := false }

/-- DMA.IDX.I: bits 31:0, RO, Table 14.6. -/
def DMA.IDX.I (n i : Nat) : Fld :=
  { page := 0x20 + n, off := 0x64 + 4 * i, hi := 31, lo := 0, acc := .ro, rst := 0, pair := false }

/-- DMA.HOST_BASE.ADDR: bits 63:0, RW, Table 14.6. -/
def DMA.HOST_BASE.ADDR (n : Nat) : Fld :=
  { page := 0x20 + n, off := 0x70, hi := 63, lo := 0, acc := .rw, rst := 0, pair := true }

/-- DMA.ERR_ADDR.ADDR: bits 63:0, RO, Table 14.6. -/
def DMA.ERR_ADDR.ADDR (n : Nat) : Fld :=
  { page := 0x20 + n, off := 0x78, hi := 63, lo := 0, acc := .ro, rst := 0, pair := true }

/-- DMA.ERR_INFO.SPACE: bits 2:0, RO, Table 14.6. -/
def DMA.ERR_INFO.SPACE (n : Nat) : Fld :=
  { page := 0x20 + n, off := 0x80, hi := 2, lo := 0, acc := .ro, rst := 0, pair := false }

/-- DMA.SIG_CODE.CODE: bits 7:0, RO, Table 14.6. -/
def DMA.SIG_CODE.CODE (n : Nat) : Fld :=
  { page := 0x20 + n, off := 0x84, hi := 7, lo := 0, acc := .ro, rst := 0, pair := false }

/-- DMA.BYTES.COUNT: bits 31:0, RC, Table 14.6. -/
def DMA.BYTES.COUNT (n : Nat) : Fld :=
  { page := 0x20 + n, off := 0x88, hi := 31, lo := 0, acc := .rc, rst := 0, pair := false }

/-- DMA.DLY_CYC.COUNT: bits 31:0, RC, Table 14.6. -/
def DMA.DLY_CYC.COUNT (n : Nat) : Fld :=
  { page := 0x20 + n, off := 0x8C, hi := 31, lo := 0, acc := .rc, rst := 0, pair := false }

/-- DMA.CFG.OUTSTANDING: bits 7:0, RWX, Table 14.6. -/
def DMA.CFG.OUTSTANDING (n : Nat) : Fld :=
  { page := 0x20 + n, off := 0x400, hi := 7, lo := 0, acc := .rwx, rst := 255, pair := false }

/-- The fields of DMA whose registers carry no index. -/
def DMA.plain (n : Nat) : List Fld :=
   [DMA.OWNER.EXPECT n,
    DMA.OWNER.TAG n,
    DMA.PROG.ADDR n,
    DMA.PROG.SPACE n,
    DMA.CMD.RESUME n,
    DMA.CMD.START n,
    DMA.PC.ADDR n,
    DMA.PC.SPACE n] ++
   [DMA.STAT.ARG n,
    DMA.STAT.CAUSE n,
    DMA.STAT.CODE n,
    DMA.FLAGS.WAITING n,
    DMA.FLAGS.FETCH n,
    DMA.FLAGS.DELAYED n,
    DMA.FLAGS.ENDED n,
    DMA.LOOP.DEPTH n] ++
   [DMA.HOST_BASE.ADDR n,
    DMA.ERR_ADDR.ADDR n,
    DMA.ERR_INFO.SPACE n,
    DMA.SIG_CODE.CODE n,
    DMA.BYTES.COUNT n,
    DMA.DLY_CYC.COUNT n,
    DMA.CFG.OUTSTANDING n]

/-- The fields of the register of DMA at page offset `off`. -/
def DMA.at (n : Nat) (off : Nat) : List Fld :=
  if 0x64 ≤ off ∧ off < 0x70 then [DMA.IDX.I n ((off - 0x64) / 4)] else
  (DMA.plain n).filter (·.covers off)

/-- Every field of DMA. -/
def DMA.fields (n : Nat) : List Fld :=
  DMA.plain n ++
  ((List.range 3).flatMap fun i => [DMA.IDX.I n i])

/-! ### CMPC (Table 15.10) -/

/-- CMPC.RUN_MAP.RUN: bits 3:0, RO, Table 15.10. -/
def CMPC.RUN_MAP.RUN : Fld :=
  { page := 0x40, off := 0x40, hi := 3, lo := 0, acc := .ro, rst := 0, pair := false }

/-- CMPC.END_MAP.ENDED: bits 3:0, W1C, Table 15.10. -/
def CMPC.END_MAP.ENDED : Fld :=
  { page := 0x40, off := 0x44, hi := 3, lo := 0, acc := .w1c, rst := 0, pair := false }

/-- CMPC.ERR_MAP.ERR: bits 3:0, W1C, Table 15.10. -/
def CMPC.ERR_MAP.ERR : Fld :=
  { page := 0x40, off := 0x48, hi := 3, lo := 0, acc := .w1c, rst := 0, pair := false }

/-- CMPC.Q_FULL_CNT.COUNT: bits 31:0, RC, Table 15.10. -/
def CMPC.Q_FULL_CNT.COUNT : Fld :=
  { page := 0x40, off := 0x4C, hi := 31, lo := 0, acc := .rc, rst := 0, pair := false }

/-- The fields of CMPC whose registers carry no index. -/
def CMPC.plain : List Fld :=
   [CMPC.RUN_MAP.RUN,
    CMPC.END_MAP.ENDED,
    CMPC.ERR_MAP.ERR,
    CMPC.Q_FULL_CNT.COUNT]

/-- The fields of the register of CMPC at page offset `off`. -/
def CMPC.at (off : Nat) : List Fld :=
  
  (CMPC.plain).filter (·.covers off)

/-- Every field of CMPC. -/
def CMPC.fields : List Fld :=
  CMPC.plain

/-! ### CMP (Table 15.9) -/

/-- CMP.Q_STAT.DEPTH: bits 6:0, RO, Table 15.9. -/
def CMP.Q_STAT.DEPTH (n : Nat) : Fld :=
  { page := 0x41 + n, off := 0x40, hi := 6, lo := 0, acc := .ro, rst := 0, pair := false }

/-- CMP.PUSH.GO: bits 0, WO, Table 15.9. -/
def CMP.PUSH.GO (n : Nat) : Fld :=
  { page := 0x41 + n, off := 0x44, hi := 0, lo := 0, acc := .wo, rst := 0, pair := false }

/-- CMP.CUR_TAG.TAG: bits 31:0, RO, Table 15.9. -/
def CMP.CUR_TAG.TAG (n : Nat) : Fld :=
  { page := 0x41 + n, off := 0x48, hi := 31, lo := 0, acc := .ro, rst := 0, pair := false }

/-- CMP.CUR_DONE.BYTES: bits 31:0, RO, Table 15.9. -/
def CMP.CUR_DONE.BYTES (n : Nat) : Fld :=
  { page := 0x41 + n, off := 0x4C, hi := 31, lo := 0, acc := .ro, rst := 0, pair := false }

/-- CMP.LAST_STAT.VALID: bits 31, W1C, Table 15.9. -/
def CMP.LAST_STAT.VALID (n : Nat) : Fld :=
  { page := 0x41 + n, off := 0x50, hi := 31, lo := 31, acc := .w1c, rst := 0, pair := false }

/-- CMP.LAST_STAT.DELAYED: bits 8, RO, Table 15.9. -/
def CMP.LAST_STAT.DELAYED (n : Nat) : Fld :=
  { page := 0x41 + n, off := 0x50, hi := 8, lo := 8, acc := .ro, rst := 0, pair := false }

/-- CMP.LAST_STAT.STATUS: bits 7:0, RO, Table 15.9. -/
def CMP.LAST_STAT.STATUS (n : Nat) : Fld :=
  { page := 0x41 + n, off := 0x50, hi := 7, lo := 0, acc := .ro, rst := 0, pair := false }

/-- CMP.LAST_TAG.TAG: bits 31:0, RO, Table 15.9. -/
def CMP.LAST_TAG.TAG (n : Nat) : Fld :=
  { page := 0x41 + n, off := 0x54, hi := 31, lo := 0, acc := .ro, rst := 0, pair := false }

/-- CMP.LAST_OUT.BYTES: bits 31:0, RO, Table 15.9. -/
def CMP.LAST_OUT.BYTES (n : Nat) : Fld :=
  { page := 0x41 + n, off := 0x58, hi := 31, lo := 0, acc := .ro, rst := 0, pair := false }

/-- CMP.JOBS.COUNT: bits 31:0, RC, Table 15.9. -/
def CMP.JOBS.COUNT (n : Nat) : Fld :=
  { page := 0x41 + n, off := 0x5C, hi := 31, lo := 0, acc := .rc, rst := 0, pair := false }

/-- CMP.IN_BYTES.COUNT: bits 31:0, RC, Table 15.9. -/
def CMP.IN_BYTES.COUNT (n : Nat) : Fld :=
  { page := 0x41 + n, off := 0x60, hi := 31, lo := 0, acc := .rc, rst := 0, pair := false }

/-- CMP.OUT_BYTES.COUNT: bits 31:0, RC, Table 15.9. -/
def CMP.OUT_BYTES.COUNT (n : Nat) : Fld :=
  { page := 0x41 + n, off := 0x64, hi := 31, lo := 0, acc := .rc, rst := 0, pair := false }

/-- CMP.DLY_CYC.COUNT: bits 31:0, RC, Table 15.9. -/
def CMP.DLY_CYC.COUNT (n : Nat) : Fld :=
  { page := 0x41 + n, off := 0x68, hi := 31, lo := 0, acc := .rc, rst := 0, pair := false }

/-- CMP.Q_DISCARD.COUNT: bits 31:0, RC, Table 15.9. -/
def CMP.Q_DISCARD.COUNT (n : Nat) : Fld :=
  { page := 0x41 + n, off := 0x6C, hi := 31, lo := 0, acc := .rc, rst := 0, pair := false }

/-- CMP.STREAM_BLOCKS.COUNT: bits 31:0, RO, Table 15.9. -/
def CMP.STREAM_BLOCKS.COUNT (n : Nat) : Fld :=
  { page := 0x41 + n, off := 0x70, hi := 31, lo := 0, acc := .ro, rst := 0, pair := false }

/-- CMP.STREAM_TOTAL.BYTES: bits 63:0, RO, Table 15.9. -/
def CMP.STREAM_TOTAL.BYTES (n : Nat) : Fld :=
  { page := 0x41 + n, off := 0x74, hi := 63, lo := 0, acc := .ro, rst := 0, pair := true }

/-- CMP.ENTRY.DATA: bits 31:0, RW, Table 15.9. -/
def CMP.ENTRY.DATA (n i : Nat) : Fld :=
  { page := 0x41 + n, off := 0x80 + 4 * i, hi := 31, lo := 0, acc := .rw, rst := 0, pair := false }

/-- CMP.CFG.DRAIN_MS: bits 31:16, RWX, Table 15.9. -/
def CMP.CFG.DRAIN_MS (n : Nat) : Fld :=
  { page := 0x41 + n, off := 0x400, hi := 31, lo := 16, acc := .rwx, rst := 100, pair := false }

/-- The fields of CMP whose registers carry no index. -/
def CMP.plain (n : Nat) : List Fld :=
   [CMP.Q_STAT.DEPTH n,
    CMP.PUSH.GO n,
    CMP.CUR_TAG.TAG n,
    CMP.CUR_DONE.BYTES n,
    CMP.LAST_STAT.VALID n,
    CMP.LAST_STAT.DELAYED n,
    CMP.LAST_STAT.STATUS n,
    CMP.LAST_TAG.TAG n] ++
   [CMP.LAST_OUT.BYTES n,
    CMP.JOBS.COUNT n,
    CMP.IN_BYTES.COUNT n,
    CMP.OUT_BYTES.COUNT n,
    CMP.DLY_CYC.COUNT n,
    CMP.Q_DISCARD.COUNT n,
    CMP.STREAM_BLOCKS.COUNT n,
    CMP.STREAM_TOTAL.BYTES n] ++
   [CMP.CFG.DRAIN_MS n]

/-- The fields of the register of CMP at page offset `off`. -/
def CMP.at (n : Nat) (off : Nat) : List Fld :=
  if 0x80 ≤ off ∧ off < 0xC0 then [CMP.ENTRY.DATA n ((off - 0x80) / 4)] else
  (CMP.plain n).filter (·.covers off)

/-- Every field of CMP. -/
def CMP.fields (n : Nat) : List Fld :=
  CMP.plain n ++
  ((List.range 16).flatMap fun i => [CMP.ENTRY.DATA n i])

end Sys2Proof.Machine.Reg
end

