-- ==== Sys2Proof/Machine/RegTableB.lean ====
section
/-!
DEFINITION. The register fields of the firing, timing, position and outward pages, one constant per field of the manual's register tables,
under the manual's own names (block, register, field).  A `_LO`/`_HI` pair is one field set, its bits numbered 63:0 (R8, R279).
A reset of "—" (R7) is given here as 0, but 25 for SPIF.SIZE.LOG2, the model's 32 MiB flash: notes/assumptions/3.md.
-/
namespace Sys2Proof.Machine.Reg

/-! ### DCM (Table 6.9) -/

/-- DCM.STAT.LANE: bits 31:28, RO, Table 6.9. -/
def DCM.STAT.LANE (n : Nat) : Fld :=
  { page := 0x50 + n, off := 0x40, hi := 31, lo := 28, acc := .ro, rst := 0, pair := false }

/-- DCM.STAT.PF_DEPTH: bits 23:16, RO, Table 6.9. -/
def DCM.STAT.PF_DEPTH (n : Nat) : Fld :=
  { page := 0x50 + n, off := 0x40, hi := 23, lo := 16, acc := .ro, rst := 0, pair := false }

/-- DCM.SLACK.NOW: bits 15:0, RO, Table 6.9. -/
def DCM.SLACK.NOW (n : Nat) : Fld :=
  { page := 0x50 + n, off := 0x44, hi := 15, lo := 0, acc := .ro, rst := 0x7FFF, pair := false }

/-- DCM.SLACK_MIN.MIN: bits 15:0, RC, Table 6.9. -/
def DCM.SLACK_MIN.MIN (n : Nat) : Fld :=
  { page := 0x50 + n, off := 0x48, hi := 15, lo := 0, acc := .rc, rst := 0x7FFF, pair := false }

/-- DCM.TILES.COUNT: bits 31:0, RC, Table 6.9. -/
def DCM.TILES.COUNT (n : Nat) : Fld :=
  { page := 0x50 + n, off := 0x4C, hi := 31, lo := 0, acc := .rc, rst := 0, pair := false }

/-- DCM.BLANKS.COUNT: bits 31:0, RC, Table 6.9. -/
def DCM.BLANKS.COUNT (n : Nat) : Fld :=
  { page := 0x50 + n, off := 0x50, hi := 31, lo := 0, acc := .rc, rst := 0, pair := false }

/-- DCM.LATE_CNT.COUNT: bits 31:0, RC, Table 6.9. -/
def DCM.LATE_CNT.COUNT (n : Nat) : Fld :=
  { page := 0x50 + n, off := 0x54, hi := 31, lo := 0, acc := .rc, rst := 0, pair := false }

/-- DCM.DELAY_CNT.COUNT: bits 31:0, RC, Table 6.9. -/
def DCM.DELAY_CNT.COUNT (n : Nat) : Fld :=
  { page := 0x50 + n, off := 0x58, hi := 31, lo := 0, acc := .rc, rst := 0, pair := false }

/-- DCM.ERR_STAT.VALID: bits 31, W1C, Table 6.9. -/
def DCM.ERR_STAT.VALID (n : Nat) : Fld :=
  { page := 0x50 + n, off := 0x5C, hi := 31, lo := 31, acc := .w1c, rst := 0, pair := false }

/-- DCM.ERR_STAT.CODE: bits 23:16, RO, Table 6.9. -/
def DCM.ERR_STAT.CODE (n : Nat) : Fld :=
  { page := 0x50 + n, off := 0x5C, hi := 23, lo := 16, acc := .ro, rst := 0, pair := false }

/-- DCM.ERR_STAT.PLANE: bits 11:8, RO, Table 6.9. -/
def DCM.ERR_STAT.PLANE (n : Nat) : Fld :=
  { page := 0x50 + n, off := 0x5C, hi := 11, lo := 8, acc := .ro, rst := 0, pair := false }

/-- DCM.ERR_STAT.TC: bits 6:0, RO, Table 6.9. -/
def DCM.ERR_STAT.TC (n : Nat) : Fld :=
  { page := 0x50 + n, off := 0x5C, hi := 6, lo := 0, acc := .ro, rst := 0, pair := false }

/-- DCM.ERR_ADDR.ADDR: bits 34:0, RO, Table 6.9. -/
def DCM.ERR_ADDR.ADDR (n : Nat) : Fld :=
  { page := 0x50 + n, off := 0x60, hi := 34, lo := 0, acc := .ro, rst := 0, pair := true }

/-- DCM.ERR_TR.TR: bits 31:0, RO, Table 6.9. -/
def DCM.ERR_TR.TR (n : Nat) : Fld :=
  { page := 0x50 + n, off := 0x68, hi := 31, lo := 0, acc := .ro, rst := 0, pair := false }

/-- DCM.CFG.CRC_CHECK: bits 0, RWX, Table 6.9. -/
def DCM.CFG.CRC_CHECK (n : Nat) : Fld :=
  { page := 0x50 + n, off := 0x400, hi := 0, lo := 0, acc := .rwx, rst := 1, pair := false }

/-- The fields of DCM whose registers carry no index. -/
def DCM.plain (n : Nat) : List Fld :=
   [DCM.STAT.LANE n,
    DCM.STAT.PF_DEPTH n,
    DCM.SLACK.NOW n,
    DCM.SLACK_MIN.MIN n,
    DCM.TILES.COUNT n,
    DCM.BLANKS.COUNT n,
    DCM.LATE_CNT.COUNT n,
    DCM.DELAY_CNT.COUNT n] ++
   [DCM.ERR_STAT.VALID n,
    DCM.ERR_STAT.CODE n,
    DCM.ERR_STAT.PLANE n,
    DCM.ERR_STAT.TC n,
    DCM.ERR_ADDR.ADDR n,
    DCM.ERR_TR.TR n,
    DCM.CFG.CRC_CHECK n]

/-- The fields of the register of DCM at page offset `off`. -/
def DCM.at (n : Nat) (off : Nat) : List Fld :=
  
  (DCM.plain n).filter (·.covers off)

/-- Every field of DCM. -/
def DCM.fields (n : Nat) : List Fld :=
  DCM.plain n

/-! ### ENCC (Table 11.3) -/

/-- ENCC.SNAP.GO: bits 0, WO, Table 11.3. -/
def ENCC.SNAP.GO : Fld :=
  { page := 0x90, off := 0x40, hi := 0, lo := 0, acc := .wo, rst := 0, pair := false }

/-- ENCC.SNAP_TS.TS: bits 63:0, RO, Table 11.3. -/
def ENCC.SNAP_TS.TS : Fld :=
  { page := 0x90, off := 0x44, hi := 63, lo := 0, acc := .ro, rst := 0, pair := true }

/-- The fields of ENCC whose registers carry no index. -/
def ENCC.plain : List Fld :=
   [ENCC.SNAP.GO,
    ENCC.SNAP_TS.TS]

/-- The fields of the register of ENCC at page offset `off`. -/
def ENCC.at (off : Nat) : List Fld :=
  
  (ENCC.plain).filter (·.covers off)

/-- Every field of ENCC. -/
def ENCC.fields : List Fld :=
  ENCC.plain

/-! ### ENC (Table 11.2) -/

/-- ENC.CFG.TERM: bits 31, RW, Table 11.2. -/
def ENC.CFG.TERM (n : Nat) : Fld :=
  { page := 0x91 + n, off := 0x40, hi := 31, lo := 31, acc := .rw, rst := 1, pair := false }

/-- ENC.CFG.MODE: bits 29:28, RW, Table 11.2. -/
def ENC.CFG.MODE (n : Nat) : Fld :=
  { page := 0x91 + n, off := 0x40, hi := 29, lo := 28, acc := .rw, rst := 0, pair := false }

/-- ENC.CFG.INVERT: bits 27, RW, Table 11.2. -/
def ENC.CFG.INVERT (n : Nat) : Fld :=
  { page := 0x91 + n, off := 0x40, hi := 27, lo := 27, acc := .rw, rst := 0, pair := false }

/-- ENC.CFG.DIR_SRC: bits 26, RW, Table 11.2. -/
def ENC.CFG.DIR_SRC (n : Nat) : Fld :=
  { page := 0x91 + n, off := 0x40, hi := 26, lo := 26, acc := .rw, rst := 0, pair := false }

/-- ENC.CFG.IDX_EN: bits 25, RW, Table 11.2. -/
def ENC.CFG.IDX_EN (n : Nat) : Fld :=
  { page := 0x91 + n, off := 0x40, hi := 25, lo := 25, acc := .rw, rst := 0, pair := false }

/-- ENC.CFG.IDX_GATE: bits 24, RW, Table 11.2. -/
def ENC.CFG.IDX_GATE (n : Nat) : Fld :=
  { page := 0x91 + n, off := 0x40, hi := 24, lo := 24, acc := .rw, rst := 0, pair := false }

/-- ENC.CFG.LIM_EN: bits 23, RW, Table 11.2. -/
def ENC.CFG.LIM_EN (n : Nat) : Fld :=
  { page := 0x91 + n, off := 0x40, hi := 23, lo := 23, acc := .rw, rst := 0, pair := false }

/-- ENC.CFG.SE_DIFF: bits 22, RW, Table 11.2. -/
def ENC.CFG.SE_DIFF (n : Nat) : Fld :=
  { page := 0x91 + n, off := 0x40, hi := 22, lo := 22, acc := .rw, rst := 1, pair := false }

/-- ENC.CFG.SE_EDGE: bits 21:20, RW, Table 11.2. -/
def ENC.CFG.SE_EDGE (n : Nat) : Fld :=
  { page := 0x91 + n, off := 0x40, hi := 21, lo := 20, acc := .rw, rst := 0, pair := false }

/-- ENC.CFG.FILT: bits 19:16, RW, Table 11.2. -/
def ENC.CFG.FILT (n : Nat) : Fld :=
  { page := 0x91 + n, off := 0x40, hi := 19, lo := 16, acc := .rw, rst := 1, pair := false }

/-- ENC.CFG.WIN: bits 15:8, RW, Table 11.2. -/
def ENC.CFG.WIN (n : Nat) : Fld :=
  { page := 0x91 + n, off := 0x40, hi := 15, lo := 8, acc := .rw, rst := 2, pair := false }

/-- ENC.CFG.ILL_LIMIT: bits 7:0, RW, Table 11.2. -/
def ENC.CFG.ILL_LIMIT (n : Nat) : Fld :=
  { page := 0x91 + n, off := 0x40, hi := 7, lo := 0, acc := .rw, rst := 16, pair := false }

/-- ENC.PER_REV.COUNTS: bits 23:0, RW, Table 11.2. -/
def ENC.PER_REV.COUNTS (n : Nat) : Fld :=
  { page := 0x91 + n, off := 0x44, hi := 23, lo := 0, acc := .rw, rst := 0, pair := false }

/-- ENC.TOOTH.GAP_RATIO: bits 15:8, RW, Table 11.2. -/
def ENC.TOOTH.GAP_RATIO (n : Nat) : Fld :=
  { page := 0x91 + n, off := 0x48, hi := 15, lo := 8, acc := .rw, rst := 24, pair := false }

/-- ENC.TOOTH.MISSING: bits 1:0, RW, Table 11.2. -/
def ENC.TOOTH.MISSING (n : Nat) : Fld :=
  { page := 0x91 + n, off := 0x48, hi := 1, lo := 0, acc := .rw, rst := 1, pair := false }

/-- ENC.SPD_CFG.MIN_SPAN: bits 31:16, RW, Table 11.2. -/
def ENC.SPD_CFG.MIN_SPAN (n : Nat) : Fld :=
  { page := 0x91 + n, off := 0x4C, hi := 31, lo := 16, acc := .rw, rst := 0x7D0, pair := false }

/-- ENC.SPD_CFG.EDGES: bits 7:0, RW, Table 11.2. -/
def ENC.SPD_CFG.EDGES (n : Nat) : Fld :=
  { page := 0x91 + n, off := 0x4C, hi := 7, lo := 0, acc := .rw, rst := 4, pair := false }

/-- ENC.STILL.US: bits 15:0, RW, Table 11.2. -/
def ENC.STILL.US (n : Nat) : Fld :=
  { page := 0x91 + n, off := 0x50, hi := 15, lo := 0, acc := .rw, rst := 0x2710, pair := false }

/-- ENC.SE_LOCK.COUNTS: bits 23:0, RW, Table 11.2. -/
def ENC.SE_LOCK.COUNTS (n : Nat) : Fld :=
  { page := 0x91 + n, off := 0x54, hi := 23, lo := 0, acc := .rw, rst := 0, pair := false }

/-- ENC.CMD.ARM_HOME: bits 2, WO, Table 11.2. -/
def ENC.CMD.ARM_HOME (n : Nat) : Fld :=
  { page := 0x91 + n, off := 0x58, hi := 2, lo := 2, acc := .wo, rst := 0, pair := false }

/-- ENC.CMD.PRESET: bits 1, WO, Table 11.2. -/
def ENC.CMD.PRESET (n : Nat) : Fld :=
  { page := 0x91 + n, off := 0x58, hi := 1, lo := 1, acc := .wo, rst := 0, pair := false }

/-- ENC.CMD.CLR_REF: bits 0, WO, Table 11.2. -/
def ENC.CMD.CLR_REF (n : Nat) : Fld :=
  { page := 0x91 + n, off := 0x58, hi := 0, lo := 0, acc := .wo, rst := 0, pair := false }

/-- ENC.POS_SET.POS: bits 47:0, RW, Table 11.2. -/
def ENC.POS_SET.POS (n : Nat) : Fld :=
  { page := 0x91 + n, off := 0x5C, hi := 47, lo := 0, acc := .rw, rst := 0, pair := true }

/-- ENC.HOME.POS: bits 47:0, RW, Table 11.2. -/
def ENC.HOME.POS (n : Nat) : Fld :=
  { page := 0x91 + n, off := 0x64, hi := 47, lo := 0, acc := .rw, rst := 0, pair := true }

/-- ENC.LIM_LO.POS: bits 47:0, RW, Table 11.2. -/
def ENC.LIM_LO.POS (n : Nat) : Fld :=
  { page := 0x91 + n, off := 0x6C, hi := 47, lo := 0, acc := .rw, rst := 0, pair := true }

/-- ENC.LIM_HI.POS: bits 47:0, RW, Table 11.2. -/
def ENC.LIM_HI.POS (n : Nat) : Fld :=
  { page := 0x91 + n, off := 0x74, hi := 47, lo := 0, acc := .rw, rst := 0, pair := true }

/-- ENC.POS.POS: bits 47:0, RO, Table 11.2. -/
def ENC.POS.POS (n : Nat) : Fld :=
  { page := 0x91 + n, off := 0x7C, hi := 47, lo := 0, acc := .ro, rst := 0, pair := true }

/-- ENC.RAW.POS: bits 47:0, RO, Table 11.2. -/
def ENC.RAW.POS (n : Nat) : Fld :=
  { page := 0x91 + n, off := 0x84, hi := 47, lo := 0, acc := .ro, rst := 0, pair := true }

/-- ENC.SPEED.V: bits 47:0, RO, Table 11.2. -/
def ENC.SPEED.V (n : Nat) : Fld :=
  { page := 0x91 + n, off := 0x8C, hi := 47, lo := 0, acc := .ro, rst := 0, pair := true }

/-- ENC.EDGE_TS.TS: bits 63:0, RO, Table 11.2. -/
def ENC.EDGE_TS.TS (n : Nat) : Fld :=
  { page := 0x91 + n, off := 0x94, hi := 63, lo := 0, acc := .ro, rst := 0, pair := true }

/-- ENC.STAT.PINS: bits 31:28, RO, Table 11.2. -/
def ENC.STAT.PINS (n : Nat) : Fld :=
  { page := 0x91 + n, off := 0x9C, hi := 31, lo := 28, acc := .ro, rst := 0, pair := false }

/-- ENC.STAT.WIRE: bits 27:24, RO, Table 11.2. -/
def ENC.STAT.WIRE (n : Nat) : Fld :=
  { page := 0x91 + n, off := 0x9C, hi := 27, lo := 24, acc := .ro, rst := 0, pair := false }

/-- ENC.STAT.MIS_RUN: bits 17:16, RO, Table 11.2. -/
def ENC.STAT.MIS_RUN (n : Nat) : Fld :=
  { page := 0x91 + n, off := 0x9C, hi := 17, lo := 16, acc := .ro, rst := 0, pair := false }

/-- ENC.STAT.ABSORB: bits 8, RO, Table 11.2. -/
def ENC.STAT.ABSORB (n : Nat) : Fld :=
  { page := 0x91 + n, off := 0x9C, hi := 8, lo := 8, acc := .ro, rst := 0, pair := false }

/-- ENC.STAT.SAT_HI: bits 7, RO, Table 11.2. -/
def ENC.STAT.SAT_HI (n : Nat) : Fld :=
  { page := 0x91 + n, off := 0x9C, hi := 7, lo := 7, acc := .ro, rst := 0, pair := false }

/-- ENC.STAT.SAT_LO: bits 6, RO, Table 11.2. -/
def ENC.STAT.SAT_LO (n : Nat) : Fld :=
  { page := 0x91 + n, off := 0x9C, hi := 6, lo := 6, acc := .ro, rst := 0, pair := false }

/-- ENC.STAT.STILL: bits 5, RO, Table 11.2. -/
def ENC.STAT.STILL (n : Nat) : Fld :=
  { page := 0x91 + n, off := 0x9C, hi := 5, lo := 5, acc := .ro, rst := 0, pair := false }

/-- ENC.STAT.REF_SET: bits 4, RO, Table 11.2. -/
def ENC.STAT.REF_SET (n : Nat) : Fld :=
  { page := 0x91 + n, off := 0x9C, hi := 4, lo := 4, acc := .ro, rst := 0, pair := false }

/-- ENC.STAT.UNCERTAIN: bits 3, RO, Table 11.2. -/
def ENC.STAT.UNCERTAIN (n : Nat) : Fld :=
  { page := 0x91 + n, off := 0x9C, hi := 3, lo := 3, acc := .ro, rst := 0, pair := false }

/-- ENC.STAT.DIR: bits 2, RO, Table 11.2. -/
def ENC.STAT.DIR (n : Nat) : Fld :=
  { page := 0x91 + n, off := 0x9C, hi := 2, lo := 2, acc := .ro, rst := 0, pair := false }

/-- ENC.STAT.SPEED_VALID: bits 1, RO, Table 11.2. -/
def ENC.STAT.SPEED_VALID (n : Nat) : Fld :=
  { page := 0x91 + n, off := 0x9C, hi := 1, lo := 1, acc := .ro, rst := 0, pair := false }

/-- ENC.STAT.RUN: bits 0, RO, Table 11.2. -/
def ENC.STAT.RUN (n : Nat) : Fld :=
  { page := 0x91 + n, off := 0x9C, hi := 0, lo := 0, acc := .ro, rst := 0, pair := false }

/-- ENC.REF.POS: bits 47:0, RO, Table 11.2. -/
def ENC.REF.POS (n : Nat) : Fld :=
  { page := 0x91 + n, off := 0xA0, hi := 47, lo := 0, acc := .ro, rst := 0, pair := true }

/-- ENC.IDX_POS.POS: bits 47:0, RO, Table 11.2. -/
def ENC.IDX_POS.POS (n : Nat) : Fld :=
  { page := 0x91 + n, off := 0xA8, hi := 47, lo := 0, acc := .ro, rst := 0, pair := true }

/-- ENC.IDX_ERR.E: bits 31:0, RO, Table 11.2. -/
def ENC.IDX_ERR.E (n : Nat) : Fld :=
  { page := 0x91 + n, off := 0xB0, hi := 31, lo := 0, acc := .ro, rst := 0, pair := false }

/-- ENC.CORR.C: bits 31:0, RO, Table 11.2. -/
def ENC.CORR.C (n : Nat) : Fld :=
  { page := 0x91 + n, off := 0xB4, hi := 31, lo := 0, acc := .ro, rst := 0, pair := false }

/-- ENC.ILLEGAL_CNT.COUNT: bits 31:0, RC, Table 11.2. -/
def ENC.ILLEGAL_CNT.COUNT (n : Nat) : Fld :=
  { page := 0x91 + n, off := 0xB8, hi := 31, lo := 0, acc := .rc, rst := 0, pair := false }

/-- ENC.MISMATCH_CNT.COUNT: bits 31:0, RC, Table 11.2. -/
def ENC.MISMATCH_CNT.COUNT (n : Nat) : Fld :=
  { page := 0x91 + n, off := 0xBC, hi := 31, lo := 0, acc := .rc, rst := 0, pair := false }

/-- ENC.SE_TS.TS: bits 63:0, RO, Table 11.2. -/
def ENC.SE_TS.TS (n : Nat) : Fld :=
  { page := 0x91 + n, off := 0xC0, hi := 63, lo := 0, acc := .ro, rst := 0, pair := true }

/-- ENC.SE_POS.POS: bits 47:0, RO, Table 11.2. -/
def ENC.SE_POS.POS (n : Nat) : Fld :=
  { page := 0x91 + n, off := 0xC8, hi := 47, lo := 0, acc := .ro, rst := 0, pair := true }

/-- ENC.SE_REJ.COUNT: bits 31:0, RC, Table 11.2. -/
def ENC.SE_REJ.COUNT (n : Nat) : Fld :=
  { page := 0x91 + n, off := 0xD0, hi := 31, lo := 0, acc := .rc, rst := 0, pair := false }

/-- ENC.SNAP.POS: bits 47:0, RO, Table 11.2. -/
def ENC.SNAP.POS (n : Nat) : Fld :=
  { page := 0x91 + n, off := 0xD4, hi := 47, lo := 0, acc := .ro, rst := 0, pair := true }

/-- ENC.WIRE.NS: bits 7:0, RWX, Table 11.2. -/
def ENC.WIRE.NS (n : Nat) : Fld :=
  { page := 0x91 + n, off := 0x400, hi := 7, lo := 0, acc := .rwx, rst := 20, pair := false }

/-- The fields of ENC whose registers carry no index. -/
def ENC.plain (n : Nat) : List Fld :=
   [ENC.CFG.TERM n,
    ENC.CFG.MODE n,
    ENC.CFG.INVERT n,
    ENC.CFG.DIR_SRC n,
    ENC.CFG.IDX_EN n,
    ENC.CFG.IDX_GATE n,
    ENC.CFG.LIM_EN n,
    ENC.CFG.SE_DIFF n] ++
   [ENC.CFG.SE_EDGE n,
    ENC.CFG.FILT n,
    ENC.CFG.WIN n,
    ENC.CFG.ILL_LIMIT n,
    ENC.PER_REV.COUNTS n,
    ENC.TOOTH.GAP_RATIO n,
    ENC.TOOTH.MISSING n,
    ENC.SPD_CFG.MIN_SPAN n] ++
   [ENC.SPD_CFG.EDGES n,
    ENC.STILL.US n,
    ENC.SE_LOCK.COUNTS n,
    ENC.CMD.ARM_HOME n,
    ENC.CMD.PRESET n,
    ENC.CMD.CLR_REF n,
    ENC.POS_SET.POS n,
    ENC.HOME.POS n] ++
   [ENC.LIM_LO.POS n,
    ENC.LIM_HI.POS n,
    ENC.POS.POS n,
    ENC.RAW.POS n,
    ENC.SPEED.V n,
    ENC.EDGE_TS.TS n,
    ENC.STAT.PINS n,
    ENC.STAT.WIRE n] ++
   [ENC.STAT.MIS_RUN n,
    ENC.STAT.ABSORB n,
    ENC.STAT.SAT_HI n,
    ENC.STAT.SAT_LO n,
    ENC.STAT.STILL n,
    ENC.STAT.REF_SET n,
    ENC.STAT.UNCERTAIN n,
    ENC.STAT.DIR n] ++
   [ENC.STAT.SPEED_VALID n,
    ENC.STAT.RUN n,
    ENC.REF.POS n,
    ENC.IDX_POS.POS n,
    ENC.IDX_ERR.E n,
    ENC.CORR.C n,
    ENC.ILLEGAL_CNT.COUNT n,
    ENC.MISMATCH_CNT.COUNT n] ++
   [ENC.SE_TS.TS n,
    ENC.SE_POS.POS n,
    ENC.SE_REJ.COUNT n,
    ENC.SNAP.POS n,
    ENC.WIRE.NS n]

/-- The fields of the register of ENC at page offset `off`. -/
def ENC.at (n : Nat) (off : Nat) : List Fld :=
  
  (ENC.plain n).filter (·.covers off)

/-- Every field of ENC. -/
def ENC.fields (n : Nat) : List Fld :=
  ENC.plain n

/-! ### EOUT (Table 11.4) -/

/-- EOUT.CFG.OUT_EN: bits 31, RW, Table 11.4. -/
def EOUT.CFG.OUT_EN (n : Nat) : Fld :=
  { page := 0x98 + n, off := 0x40, hi := 31, lo := 31, acc := .rw, rst := 0, pair := false }

/-- EOUT.CFG.Z_EN: bits 3, RW, Table 11.4. -/
def EOUT.CFG.Z_EN (n : Nat) : Fld :=
  { page := 0x98 + n, off := 0x40, hi := 3, lo := 3, acc := .rw, rst := 0, pair := false }

/-- EOUT.CFG.INVERT: bits 2, RW, Table 11.4. -/
def EOUT.CFG.INVERT (n : Nat) : Fld :=
  { page := 0x98 + n, off := 0x40, hi := 2, lo := 2, acc := .rw, rst := 0, pair := false }

/-- EOUT.CFG.REV_MODE: bits 1:0, RW, Table 11.4. -/
def EOUT.CFG.REV_MODE (n : Nat) : Fld :=
  { page := 0x98 + n, off := 0x40, hi := 1, lo := 0, acc := .rw, rst := 0, pair := false }

/-- EOUT.DIV.DIV: bits 39:0, RW, Table 11.4. -/
def EOUT.DIV.DIV (n : Nat) : Fld :=
  { page := 0x98 + n, off := 0x44, hi := 39, lo := 0, acc := .rw, rst := 0, pair := true }

/-- EOUT.MIN_STEP.TICKS: bits 15:0, RW, Table 11.4. -/
def EOUT.MIN_STEP.TICKS (n : Nat) : Fld :=
  { page := 0x98 + n, off := 0x4C, hi := 15, lo := 0, acc := .rw, rst := 25, pair := false }

/-- EOUT.Z_CFG.WIDTH: bits 31:24, RW, Table 11.4. -/
def EOUT.Z_CFG.WIDTH (n : Nat) : Fld :=
  { page := 0x98 + n, off := 0x50, hi := 31, lo := 24, acc := .rw, rst := 25, pair := false }

/-- EOUT.Z_CFG.PERIOD: bits 23:0, RW, Table 11.4. -/
def EOUT.Z_CFG.PERIOD (n : Nat) : Fld :=
  { page := 0x98 + n, off := 0x50, hi := 23, lo := 0, acc := .rw, rst := 0, pair := false }

/-- EOUT.BACKLOG_TH.STEPS: bits 15:0, RW, Table 11.4. -/
def EOUT.BACKLOG_TH.STEPS (n : Nat) : Fld :=
  { page := 0x98 + n, off := 0x54, hi := 15, lo := 0, acc := .rw, rst := 0x400, pair := false }

/-- EOUT.STAT.LOST: bits 31, W1C, Table 11.4. -/
def EOUT.STAT.LOST (n : Nat) : Fld :=
  { page := 0x98 + n, off := 0x58, hi := 31, lo := 31, acc := .w1c, rst := 0, pair := false }

/-- EOUT.STAT.HOLD: bits 17, RO, Table 11.4. -/
def EOUT.STAT.HOLD (n : Nat) : Fld :=
  { page := 0x98 + n, off := 0x58, hi := 17, lo := 17, acc := .ro, rst := 0, pair := false }

/-- EOUT.STAT.BACK_DIR: bits 16, RO, Table 11.4. -/
def EOUT.STAT.BACK_DIR (n : Nat) : Fld :=
  { page := 0x98 + n, off := 0x58, hi := 16, lo := 16, acc := .ro, rst := 0, pair := false }

/-- EOUT.STAT.BACKLOG: bits 15:0, RO, Table 11.4. -/
def EOUT.STAT.BACKLOG (n : Nat) : Fld :=
  { page := 0x98 + n, off := 0x58, hi := 15, lo := 0, acc := .ro, rst := 0, pair := false }

/-- EOUT.STEPS.COUNT: bits 47:0, RO, Table 11.4. -/
def EOUT.STEPS.COUNT (n : Nat) : Fld :=
  { page := 0x98 + n, off := 0x5C, hi := 47, lo := 0, acc := .ro, rst := 0, pair := true }

/-- The fields of EOUT whose registers carry no index. -/
def EOUT.plain (n : Nat) : List Fld :=
   [EOUT.CFG.OUT_EN n,
    EOUT.CFG.Z_EN n,
    EOUT.CFG.INVERT n,
    EOUT.CFG.REV_MODE n,
    EOUT.DIV.DIV n,
    EOUT.MIN_STEP.TICKS n,
    EOUT.Z_CFG.WIDTH n,
    EOUT.Z_CFG.PERIOD n] ++
   [EOUT.BACKLOG_TH.STEPS n,
    EOUT.STAT.LOST n,
    EOUT.STAT.HOLD n,
    EOUT.STAT.BACK_DIR n,
    EOUT.STAT.BACKLOG n,
    EOUT.STEPS.COUNT n]

/-- The fields of the register of EOUT at page offset `off`. -/
def EOUT.at (n : Nat) (off : Nat) : List Fld :=
  
  (EOUT.plain n).filter (·.covers off)

/-- Every field of EOUT. -/
def EOUT.fields (n : Nat) : List Fld :=
  EOUT.plain n

/-! ### EMR (Table 12.7) -/

/-- EMR.CFG.PRIO: bits 23:20, RW, Table 12.7. -/
def EMR.CFG.PRIO : Fld :=
  { page := 0xA0, off := 0x40, hi := 23, lo := 20, acc := .rw, rst := 0, pair := false }

/-- EMR.CFG.ROLE: bits 17:16, RW, Table 12.7. -/
def EMR.CFG.ROLE : Fld :=
  { page := 0xA0, off := 0x40, hi := 17, lo := 16, acc := .rw, rst := 0, pair := false }

/-- EMR.CFG.EXPECT: bits 14:8, RW, Table 12.7. -/
def EMR.CFG.EXPECT : Fld :=
  { page := 0xA0, off := 0x40, hi := 14, lo := 8, acc := .rw, rst := 0, pair := false }

/-- EMR.CFG.REMOTE_EN: bits 2, RW, Table 12.7. -/
def EMR.CFG.REMOTE_EN : Fld :=
  { page := 0xA0, off := 0x40, hi := 2, lo := 2, acc := .rw, rst := 0, pair := false }

/-- EMR.CFG.BULK_RX_EN: bits 1, RW, Table 12.7. -/
def EMR.CFG.BULK_RX_EN : Fld :=
  { page := 0xA0, off := 0x40, hi := 1, lo := 1, acc := .rw, rst := 0, pair := false }

/-- EMR.ADDR.ADDR: bits 5:0, RO, Table 12.7. -/
def EMR.ADDR.ADDR : Fld :=
  { page := 0xA0, off := 0x44, hi := 5, lo := 0, acc := .ro, rst := 0, pair := false }

/-- EMR.POS_CFG.CHAN: bits 1:0, RW, Table 12.7. -/
def EMR.POS_CFG.CHAN : Fld :=
  { page := 0xA0, off := 0x48, hi := 1, lo := 0, acc := .rw, rst := 0, pair := false }

/-- EMR.CMD.HANDOVER: bits 0, WO, Table 12.7. -/
def EMR.CMD.HANDOVER : Fld :=
  { page := 0xA0, off := 0x4C, hi := 0, lo := 0, acc := .wo, rst := 0, pair := false }

/-- EMR.ROLE_STAT.EPOCH: bits 31:16, RO, Table 12.7. -/
def EMR.ROLE_STAT.EPOCH : Fld :=
  { page := 0xA0, off := 0x50, hi := 31, lo := 16, acc := .ro, rst := 0, pair := false }

/-- EMR.ROLE_STAT.ROLE: bits 15:14, RO, Table 12.7. -/
def EMR.ROLE_STAT.ROLE : Fld :=
  { page := 0xA0, off := 0x50, hi := 15, lo := 14, acc := .ro, rst := 0, pair := false }

/-- EMR.ROLE_STAT.MANAGER: bits 13:8, RO, Table 12.7. -/
def EMR.ROLE_STAT.MANAGER : Fld :=
  { page := 0xA0, off := 0x50, hi := 13, lo := 8, acc := .ro, rst := 0, pair := false }

/-- EMR.ROLE_STAT.MGR_VALID: bits 7, RO, Table 12.7. -/
def EMR.ROLE_STAT.MGR_VALID : Fld :=
  { page := 0xA0, off := 0x50, hi := 7, lo := 7, acc := .ro, rst := 0, pair := false }

/-- EMR.ROLE_STAT.STBY_VALID: bits 6, RO, Table 12.7. -/
def EMR.ROLE_STAT.STBY_VALID : Fld :=
  { page := 0xA0, off := 0x50, hi := 6, lo := 6, acc := .ro, rst := 0, pair := false }

/-- EMR.ROLE_STAT.STANDBY: bits 5:0, RO, Table 12.7. -/
def EMR.ROLE_STAT.STANDBY : Fld :=
  { page := 0xA0, off := 0x50, hi := 5, lo := 0, acc := .ro, rst := 0, pair := false }

/-- EMR.RING_STAT.STATE: bits 31:30, RO, Table 12.7. -/
def EMR.RING_STAT.STATE : Fld :=
  { page := 0xA0, off := 0x54, hi := 31, lo := 30, acc := .ro, rst := 0, pair := false }

/-- EMR.RING_STAT.TIME_LOCKED: bits 29, RO, Table 12.7. -/
def EMR.RING_STAT.TIME_LOCKED : Fld :=
  { page := 0xA0, off := 0x54, hi := 29, lo := 29, acc := .ro, rst := 0, pair := false }

/-- EMR.RING_STAT.CENSUS_DONE: bits 28, RO, Table 12.7. -/
def EMR.RING_STAT.CENSUS_DONE : Fld :=
  { page := 0xA0, off := 0x54, hi := 28, lo := 28, acc := .ro, rst := 0, pair := false }

/-- EMR.RING_STAT.MEMBERS: bits 22:16, RO, Table 12.7. -/
def EMR.RING_STAT.MEMBERS : Fld :=
  { page := 0xA0, off := 0x54, hi := 22, lo := 16, acc := .ro, rst := 0, pair := false }

/-- EMR.RING_STAT.BREAK_A: bits 13:8, RO, Table 12.7. -/
def EMR.RING_STAT.BREAK_A : Fld :=
  { page := 0xA0, off := 0x54, hi := 13, lo := 8, acc := .ro, rst := 0, pair := false }

/-- EMR.RING_STAT.BREAK_B: bits 5:0, RO, Table 12.7. -/
def EMR.RING_STAT.BREAK_B : Fld :=
  { page := 0xA0, off := 0x54, hi := 5, lo := 0, acc := .ro, rst := 0, pair := false }

/-- EMR.CENSUS.MAP: bits 63:0, RO, Table 12.7. -/
def EMR.CENSUS.MAP : Fld :=
  { page := 0xA0, off := 0x58, hi := 63, lo := 0, acc := .ro, rst := 0, pair := true }

/-- EMR.GEN.GEN: bits 15:0, RO, Table 12.7. -/
def EMR.GEN.GEN : Fld :=
  { page := 0xA0, off := 0x60, hi := 15, lo := 0, acc := .ro, rst := 0, pair := false }

/-- EMR.HOPS_SEL.ADDR: bits 5:0, RW, Table 12.7. -/
def EMR.HOPS_SEL.ADDR : Fld :=
  { page := 0xA0, off := 0x64, hi := 5, lo := 0, acc := .rw, rst := 0, pair := false }

/-- EMR.HOPS.EAST: bits 15:8, RO, Table 12.7. -/
def EMR.HOPS.EAST : Fld :=
  { page := 0xA0, off := 0x68, hi := 15, lo := 8, acc := .ro, rst := 255, pair := false }

/-- EMR.HOPS.WEST: bits 7:0, RO, Table 12.7. -/
def EMR.HOPS.WEST : Fld :=
  { page := 0xA0, off := 0x68, hi := 7, lo := 0, acc := .ro, rst := 255, pair := false }

/-- EMR.TS_OFF.OFFSET: bits 31:0, RO, Table 12.7. -/
def EMR.TS_OFF.OFFSET : Fld :=
  { page := 0xA0, off := 0x6C, hi := 31, lo := 0, acc := .ro, rst := 0, pair := false }

/-- EMR.STBY_DIFF.DIFF: bits 31:0, RO, Table 12.7. -/
def EMR.STBY_DIFF.DIFF : Fld :=
  { page := 0xA0, off := 0x70, hi := 31, lo := 0, acc := .ro, rst := 0, pair := false }

/-- EMR.POS_OFF.OFF: bits 31:0, RO, Table 12.7. -/
def EMR.POS_OFF.OFF : Fld :=
  { page := 0xA0, off := 0x74, hi := 31, lo := 0, acc := .ro, rst := 0, pair := false }

/-- EMR.SLOW_REQ.VALID: bits 31, W1C, Table 12.7. -/
def EMR.SLOW_REQ.VALID : Fld :=
  { page := 0xA0, off := 0x78, hi := 31, lo := 31, acc := .w1c, rst := 0, pair := false }

/-- EMR.SLOW_REQ.CAUSE: bits 25:24, RO, Table 12.7. -/
def EMR.SLOW_REQ.CAUSE : Fld :=
  { page := 0xA0, off := 0x78, hi := 25, lo := 24, acc := .ro, rst := 0, pair := false }

/-- EMR.SLOW_REQ.PORT: bits 13:8, RO, Table 12.7. -/
def EMR.SLOW_REQ.PORT : Fld :=
  { page := 0xA0, off := 0x78, hi := 13, lo := 8, acc := .ro, rst := 0, pair := false }

/-- EMR.SLOW_REQ.ADDR: bits 5:0, RO, Table 12.7. -/
def EMR.SLOW_REQ.ADDR : Fld :=
  { page := 0xA0, off := 0x78, hi := 5, lo := 0, acc := .ro, rst := 0, pair := false }

/-- EMR.SLOW_CNT.COUNT: bits 31:0, RC, Table 12.7. -/
def EMR.SLOW_CNT.COUNT : Fld :=
  { page := 0xA0, off := 0x7C, hi := 31, lo := 0, acc := .rc, rst := 0, pair := false }

/-- EMR.RCMD.GO: bits 31, WO, Table 12.7. -/
def EMR.RCMD.GO : Fld :=
  { page := 0xA0, off := 0x80, hi := 31, lo := 31, acc := .wo, rst := 0, pair := false }

/-- EMR.RCMD.WRITE: bits 30, RW, Table 12.7. -/
def EMR.RCMD.WRITE : Fld :=
  { page := 0xA0, off := 0x80, hi := 30, lo := 30, acc := .rw, rst := 0, pair := false }

/-- EMR.RCMD.DEST: bits 5:0, RW, Table 12.7. -/
def EMR.RCMD.DEST : Fld :=
  { page := 0xA0, off := 0x80, hi := 5, lo := 0, acc := .rw, rst := 0, pair := false }

/-- EMR.RCMD_ADDR.OFFSET: bits 21:2, RW, Table 12.7. -/
def EMR.RCMD_ADDR.OFFSET : Fld :=
  { page := 0xA0, off := 0x84, hi := 21, lo := 2, acc := .rw, rst := 0, pair := false }

/-- EMR.RCMD_DATA.DATA: bits 31:0, RW, Table 12.7. -/
def EMR.RCMD_DATA.DATA : Fld :=
  { page := 0xA0, off := 0x88, hi := 31, lo := 0, acc := .rw, rst := 0, pair := false }

/-- EMR.RCMD_STAT.BUSY: bits 31, RO, Table 12.7. -/
def EMR.RCMD_STAT.BUSY : Fld :=
  { page := 0xA0, off := 0x8C, hi := 31, lo := 31, acc := .ro, rst := 0, pair := false }

/-- EMR.RCMD_STAT.RESULT: bits 1:0, RO, Table 12.7. -/
def EMR.RCMD_STAT.RESULT : Fld :=
  { page := 0xA0, off := 0x8C, hi := 1, lo := 0, acc := .ro, rst := 0, pair := false }

/-- EMR.FAULT_CFG.CAP: bits 6:4, RW, Table 12.7. -/
def EMR.FAULT_CFG.CAP : Fld :=
  { page := 0xA0, off := 0x90, hi := 6, lo := 4, acc := .rw, rst := 3, pair := false }

/-- EMR.FAULT_CFG.FWD_SEV: bits 2:0, RW, Table 12.7. -/
def EMR.FAULT_CFG.FWD_SEV : Fld :=
  { page := 0xA0, off := 0x90, hi := 2, lo := 0, acc := .rw, rst := 3, pair := false }

/-- EMR.REM_FAULT.VALID: bits 31, W1C, Table 12.7. -/
def EMR.REM_FAULT.VALID : Fld :=
  { page := 0xA0, off := 0x94, hi := 31, lo := 31, acc := .w1c, rst := 0, pair := false }

/-- EMR.REM_FAULT.SEV: bits 26:24, RO, Table 12.7. -/
def EMR.REM_FAULT.SEV : Fld :=
  { page := 0xA0, off := 0x94, hi := 26, lo := 24, acc := .ro, rst := 0, pair := false }

/-- EMR.REM_FAULT.KIND: bits 23:16, RO, Table 12.7. -/
def EMR.REM_FAULT.KIND : Fld :=
  { page := 0xA0, off := 0x94, hi := 23, lo := 16, acc := .ro, rst := 0, pair := false }

/-- EMR.REM_FAULT.PAGE: bits 15:6, RO, Table 12.7. -/
def EMR.REM_FAULT.PAGE : Fld :=
  { page := 0xA0, off := 0x94, hi := 15, lo := 6, acc := .ro, rst := 0, pair := false }

/-- EMR.REM_FAULT.ADDR: bits 5:0, RO, Table 12.7. -/
def EMR.REM_FAULT.ADDR : Fld :=
  { page := 0xA0, off := 0x94, hi := 5, lo := 0, acc := .ro, rst := 0, pair := false }

/-- EMR.EVFWD.EN: bits 31, RW, Table 12.7. -/
def EMR.EVFWD.EN (i : Nat) : Fld :=
  { page := 0xA0, off := 0x98 + 4 * i, hi := 31, lo := 31, acc := .rw, rst := 0, pair := false }

/-- EMR.EVFWD.SRC: bits 7:0, RW, Table 12.7. -/
def EMR.EVFWD.SRC (i : Nat) : Fld :=
  { page := 0xA0, off := 0x98 + 4 * i, hi := 7, lo := 0, acc := .rw, rst := 0, pair := false }

/-- EMR.REMOTE_EV.ADDR: bits 23:0, RO, Table 12.7. -/
def EMR.REMOTE_EV.ADDR : Fld :=
  { page := 0xA0, off := 0xA8, hi := 23, lo := 0, acc := .ro, rst := 0, pair := false }

/-- EMR.BULK_SRC.ADDR: bits 34:0, RW, Table 12.7. -/
def EMR.BULK_SRC.ADDR : Fld :=
  { page := 0xA0, off := 0xB0, hi := 34, lo := 0, acc := .rw, rst := 0, pair := true }

/-- EMR.BULK_DST.OFFSET: bits 31:0, RW, Table 12.7. -/
def EMR.BULK_DST.OFFSET : Fld :=
  { page := 0xA0, off := 0xB8, hi := 31, lo := 0, acc := .rw, rst := 0, pair := false }

/-- EMR.BULK_LEN.LEN: bits 31:0, RW, Table 12.7. -/
def EMR.BULK_LEN.LEN : Fld :=
  { page := 0xA0, off := 0xBC, hi := 31, lo := 0, acc := .rw, rst := 0, pair := false }

/-- EMR.BULK_CMD.GO: bits 31, WO, Table 12.7. -/
def EMR.BULK_CMD.GO : Fld :=
  { page := 0xA0, off := 0xC0, hi := 31, lo := 31, acc := .wo, rst := 0, pair := false }

/-- EMR.BULK_CMD.DEST: bits 5:0, RW, Table 12.7. -/
def EMR.BULK_CMD.DEST : Fld :=
  { page := 0xA0, off := 0xC0, hi := 5, lo := 0, acc := .rw, rst := 0, pair := false }

/-- EMR.BULK_STAT.BUSY: bits 31, RO, Table 12.7. -/
def EMR.BULK_STAT.BUSY : Fld :=
  { page := 0xA0, off := 0xC4, hi := 31, lo := 31, acc := .ro, rst := 0, pair := false }

/-- EMR.BULK_STAT.RESULT: bits 1:0, RO, Table 12.7. -/
def EMR.BULK_STAT.RESULT : Fld :=
  { page := 0xA0, off := 0xC4, hi := 1, lo := 0, acc := .ro, rst := 0, pair := false }

/-- EMR.BULK_WIN.ADDR: bits 34:0, RW, Table 12.7. -/
def EMR.BULK_WIN.ADDR : Fld :=
  { page := 0xA0, off := 0xC8, hi := 34, lo := 0, acc := .rw, rst := 0, pair := true }

/-- EMR.BULK_WIN_SIZE.LOG2: bits 5:0, RW, Table 12.7. -/
def EMR.BULK_WIN_SIZE.LOG2 : Fld :=
  { page := 0xA0, off := 0xD0, hi := 5, lo := 0, acc := .rw, rst := 0, pair := false }

/-- EMR.TIMERS.HB_LOSS: bits 31:16, RWX, Table 12.7. -/
def EMR.TIMERS.HB_LOSS : Fld :=
  { page := 0xA0, off := 0x400, hi := 31, lo := 16, acc := .rwx, rst := 0x12C, pair := false }

/-- EMR.TIMERS.TAKEOVER: bits 15:8, RWX, Table 12.7. -/
def EMR.TIMERS.TAKEOVER : Fld :=
  { page := 0xA0, off := 0x400, hi := 15, lo := 8, acc := .rwx, rst := 4, pair := false }

/-- EMR.TIMERS.CLAIM_WAIT: bits 7:0, RWX, Table 12.7. -/
def EMR.TIMERS.CLAIM_WAIT : Fld :=
  { page := 0xA0, off := 0x400, hi := 7, lo := 0, acc := .rwx, rst := 20, pair := false }

/-- EMR.EXTRAP.US: bits 7:0, RWX, Table 12.7. -/
def EMR.EXTRAP.US : Fld :=
  { page := 0xA0, off := 0x404, hi := 7, lo := 0, acc := .rwx, rst := 3, pair := false }

/-- EMR.TIME_CFG.SLEW: bits 23:16, RWX, Table 12.7. -/
def EMR.TIME_CFG.SLEW : Fld :=
  { page := 0xA0, off := 0x408, hi := 23, lo := 16, acc := .rwx, rst := 50, pair := false }

/-- EMR.TIME_CFG.STEP_LIM: bits 15:0, RWX, Table 12.7. -/
def EMR.TIME_CFG.STEP_LIM : Fld :=
  { page := 0xA0, off := 0x408, hi := 15, lo := 0, acc := .rwx, rst := 0x3E8, pair := false }

/-- EMR.STBY_TOL.FINE: bits 15:0, RWX, Table 12.7. -/
def EMR.STBY_TOL.FINE : Fld :=
  { page := 0xA0, off := 0x40C, hi := 15, lo := 0, acc := .rwx, rst := 16, pair := false }

/-- EMR.CENSUS_WAIT.MS: bits 7:0, RWX, Table 12.7. -/
def EMR.CENSUS_WAIT.MS : Fld :=
  { page := 0xA0, off := 0x410, hi := 7, lo := 0, acc := .rwx, rst := 10, pair := false }

/-- The fields of EMR whose registers carry no index. -/
def EMR.plain : List Fld :=
   [EMR.CFG.PRIO,
    EMR.CFG.ROLE,
    EMR.CFG.EXPECT,
    EMR.CFG.REMOTE_EN,
    EMR.CFG.BULK_RX_EN,
    EMR.ADDR.ADDR,
    EMR.POS_CFG.CHAN,
    EMR.CMD.HANDOVER] ++
   [EMR.ROLE_STAT.EPOCH,
    EMR.ROLE_STAT.ROLE,
    EMR.ROLE_STAT.MANAGER,
    EMR.ROLE_STAT.MGR_VALID,
    EMR.ROLE_STAT.STBY_VALID,
    EMR.ROLE_STAT.STANDBY,
    EMR.RING_STAT.STATE,
    EMR.RING_STAT.TIME_LOCKED] ++
   [EMR.RING_STAT.CENSUS_DONE,
    EMR.RING_STAT.MEMBERS,
    EMR.RING_STAT.BREAK_A,
    EMR.RING_STAT.BREAK_B,
    EMR.CENSUS.MAP,
    EMR.GEN.GEN,
    EMR.HOPS_SEL.ADDR,
    EMR.HOPS.EAST] ++
   [EMR.HOPS.WEST,
    EMR.TS_OFF.OFFSET,
    EMR.STBY_DIFF.DIFF,
    EMR.POS_OFF.OFF,
    EMR.SLOW_REQ.VALID,
    EMR.SLOW_REQ.CAUSE,
    EMR.SLOW_REQ.PORT,
    EMR.SLOW_REQ.ADDR] ++
   [EMR.SLOW_CNT.COUNT,
    EMR.RCMD.GO,
    EMR.RCMD.WRITE,
    EMR.RCMD.DEST,
    EMR.RCMD_ADDR.OFFSET,
    EMR.RCMD_DATA.DATA,
    EMR.RCMD_STAT.BUSY,
    EMR.RCMD_STAT.RESULT] ++
   [EMR.FAULT_CFG.CAP,
    EMR.FAULT_CFG.FWD_SEV,
    EMR.REM_FAULT.VALID,
    EMR.REM_FAULT.SEV,
    EMR.REM_FAULT.KIND,
    EMR.REM_FAULT.PAGE,
    EMR.REM_FAULT.ADDR,
    EMR.REMOTE_EV.ADDR] ++
   [EMR.BULK_SRC.ADDR,
    EMR.BULK_DST.OFFSET,
    EMR.BULK_LEN.LEN,
    EMR.BULK_CMD.GO,
    EMR.BULK_CMD.DEST,
    EMR.BULK_STAT.BUSY,
    EMR.BULK_STAT.RESULT,
    EMR.BULK_WIN.ADDR] ++
   [EMR.BULK_WIN_SIZE.LOG2,
    EMR.TIMERS.HB_LOSS,
    EMR.TIMERS.TAKEOVER,
    EMR.TIMERS.CLAIM_WAIT,
    EMR.EXTRAP.US,
    EMR.TIME_CFG.SLEW,
    EMR.TIME_CFG.STEP_LIM,
    EMR.STBY_TOL.FINE] ++
   [EMR.CENSUS_WAIT.MS]

/-- The fields of the register of EMR at page offset `off`. -/
def EMR.at (off : Nat) : List Fld :=
  if 0x98 ≤ off ∧ off < 0xA8 then [EMR.EVFWD.EN ((off - 0x98) / 4), EMR.EVFWD.SRC ((off - 0x98) / 4)] else
  (EMR.plain).filter (·.covers off)

/-- Every field of EMR. -/
def EMR.fields : List Fld :=
  EMR.plain ++
  ((List.range 4).flatMap fun i => [EMR.EVFWD.EN i, EMR.EVFWD.SRC i])

/-! ### EML (Table 12.8) -/

/-- EML.LINK_STAT.STATE: bits 31:28, RO, Table 12.8. -/
def EML.LINK_STAT.STATE (n : Nat) : Fld :=
  { page := 0xA1 + n, off := 0x40, hi := 31, lo := 28, acc := .ro, rst := 0, pair := false }

/-- EML.LINK_STAT.PEER_VALID: bits 8, RO, Table 12.8. -/
def EML.LINK_STAT.PEER_VALID (n : Nat) : Fld :=
  { page := 0xA1 + n, off := 0x40, hi := 8, lo := 8, acc := .ro, rst := 0, pair := false }

/-- EML.LINK_STAT.PEER: bits 5:0, RO, Table 12.8. -/
def EML.LINK_STAT.PEER (n : Nat) : Fld :=
  { page := 0xA1 + n, off := 0x40, hi := 5, lo := 0, acc := .ro, rst := 0, pair := false }

/-- EML.DELAY.D: bits 15:0, RO, Table 12.8. -/
def EML.DELAY.D (n : Nat) : Fld :=
  { page := 0xA1 + n, off := 0x44, hi := 15, lo := 0, acc := .ro, rst := 0, pair := false }

/-- EML.EYE.WIDTH_PS: bits 31:16, RO, Table 12.8. -/
def EML.EYE.WIDTH_PS (n : Nat) : Fld :=
  { page := 0xA1 + n, off := 0x48, hi := 31, lo := 16, acc := .ro, rst := 0, pair := false }

/-- EML.CREDIT.AVAIL: bits 31:0, RO, Table 12.8. -/
def EML.CREDIT.AVAIL (n : Nat) : Fld :=
  { page := 0xA1 + n, off := 0x4C, hi := 31, lo := 0, acc := .ro, rst := 0, pair := false }

/-- EML.CRC_ERR_CNT.COUNT: bits 31:0, RC, Table 12.8. -/
def EML.CRC_ERR_CNT.COUNT (n : Nat) : Fld :=
  { page := 0xA1 + n, off := 0x50, hi := 31, lo := 0, acc := .rc, rst := 0, pair := false }

/-- EML.CTL_ERR_CNT.COUNT: bits 31:0, RC, Table 12.8. -/
def EML.CTL_ERR_CNT.COUNT (n : Nat) : Fld :=
  { page := 0xA1 + n, off := 0x54, hi := 31, lo := 0, acc := .rc, rst := 0, pair := false }

/-- EML.DROP_CNT.COUNT: bits 31:0, RC, Table 12.8. -/
def EML.DROP_CNT.COUNT (n : Nat) : Fld :=
  { page := 0xA1 + n, off := 0x58, hi := 31, lo := 0, acc := .rc, rst := 0, pair := false }

/-- EML.DEGRADE.THRESH: bits 15:0, RWX, Table 12.8. -/
def EML.DEGRADE.THRESH (n : Nat) : Fld :=
  { page := 0xA1 + n, off := 0x400, hi := 15, lo := 0, acc := .rwx, rst := 16, pair := false }

/-- The fields of EML whose registers carry no index. -/
def EML.plain (n : Nat) : List Fld :=
   [EML.LINK_STAT.STATE n,
    EML.LINK_STAT.PEER_VALID n,
    EML.LINK_STAT.PEER n,
    EML.DELAY.D n,
    EML.EYE.WIDTH_PS n,
    EML.CREDIT.AVAIL n,
    EML.CRC_ERR_CNT.COUNT n,
    EML.CTL_ERR_CNT.COUNT n] ++
   [EML.DROP_CNT.COUNT n,
    EML.DEGRADE.THRESH n]

/-- The fields of the register of EML at page offset `off`. -/
def EML.at (n : Nat) (off : Nat) : List Fld :=
  
  (EML.plain n).filter (·.covers off)

/-- Every field of EML. -/
def EML.fields (n : Nat) : List Fld :=
  EML.plain n

/-! ### PRT (Table 4.13, Table 6.6) -/

/-- PRT.GEOM_BASE.ADDR: bits 34:17, RW, Table 4.13. -/
def PRT.GEOM_BASE.ADDR : Fld :=
  { page := 0xB0, off := 0x40, hi := 34, lo := 17, acc := .rw, rst := 0, pair := true }

/-- PRT.GEOM_LOAD.PORTS: bits 63:0, WO, Table 4.13. -/
def PRT.GEOM_LOAD.PORTS : Fld :=
  { page := 0xB0, off := 0x48, hi := 63, lo := 0, acc := .wo, rst := 0, pair := true }

/-- PRT.GEOM_STAT.BUSY: bits 31, RO, Table 4.13. -/
def PRT.GEOM_STAT.BUSY : Fld :=
  { page := 0xB0, off := 0x50, hi := 31, lo := 31, acc := .ro, rst := 0, pair := false }

/-- PRT.GEOM_STAT.LAST_PORT: bits 13:8, RO, Table 4.13. -/
def PRT.GEOM_STAT.LAST_PORT : Fld :=
  { page := 0xB0, off := 0x50, hi := 13, lo := 8, acc := .ro, rst := 0, pair := false }

/-- PRT.GEOM_STAT.LAST_CODE: bits 7:0, RO, Table 4.13. -/
def PRT.GEOM_STAT.LAST_CODE : Fld :=
  { page := 0xB0, off := 0x50, hi := 7, lo := 0, acc := .ro, rst := 0, pair := false }

/-- PRT.GEOM_OK.OK: bits 63:0, RO, Table 4.13. -/
def PRT.GEOM_OK.OK : Fld :=
  { page := 0xB0, off := 0x54, hi := 63, lo := 0, acc := .ro, rst := 0, pair := true }

/-- PRT.CPL_BASE.ADDR: bits 63:12, RW, Table 4.13. -/
def PRT.CPL_BASE.ADDR : Fld :=
  { page := 0xB0, off := 0x60, hi := 63, lo := 12, acc := .rw, rst := 0, pair := true }

/-- PRT.CPL_BASE.SPACE: bits 0, RW, Table 4.13. -/
def PRT.CPL_BASE.SPACE : Fld :=
  { page := 0xB0, off := 0x60, hi := 0, lo := 0, acc := .rw, rst := 0, pair := true }

/-- PRT.CPL_SIZE.LOG2: bits 4:0, RW, Table 4.13. -/
def PRT.CPL_SIZE.LOG2 : Fld :=
  { page := 0xB0, off := 0x68, hi := 4, lo := 0, acc := .rw, rst := 4, pair := false }

/-- PRT.CPL_TAIL.INDEX: bits 15:0, RO, Table 4.13. -/
def PRT.CPL_TAIL.INDEX : Fld :=
  { page := 0xB0, off := 0x6C, hi := 15, lo := 0, acc := .ro, rst := 0, pair := false }

/-- PRT.CPL_HEAD.INDEX: bits 15:0, RW, Table 4.13. -/
def PRT.CPL_HEAD.INDEX : Fld :=
  { page := 0xB0, off := 0x70, hi := 15, lo := 0, acc := .rw, rst := 0, pair := false }

/-- PRT.CPL_LOST.COUNT: bits 31:0, RC, Table 4.13. -/
def PRT.CPL_LOST.COUNT : Fld :=
  { page := 0xB0, off := 0x74, hi := 31, lo := 0, acc := .rc, rst := 0, pair := false }

/-- PRT.Q_WINDOW.DEPTH: bits 2:0, RWX, Table 4.13. -/
def PRT.Q_WINDOW.DEPTH : Fld :=
  { page := 0xB0, off := 0x400, hi := 2, lo := 0, acc := .rwx, rst := 4, pair := false }

/-- PRT.Q_BASE.ADDR: bits 34:6, RW, Table 4.13. -/
def PRT.Q_BASE.ADDR (p : Nat) : Fld :=
  { page := 0xB0, off := 0x100 + 32 * p, hi := 34, lo := 6, acc := .rw, rst := 0, pair := true }

/-- PRT.Q_SIZE.LOG2: bits 4:0, RW, Table 4.13. -/
def PRT.Q_SIZE.LOG2 (p : Nat) : Fld :=
  { page := 0xB0, off := 0x108 + 32 * p, hi := 4, lo := 0, acc := .rw, rst := 2, pair := false }

/-- PRT.Q_TAIL.INDEX: bits 15:0, RW, Table 4.13. -/
def PRT.Q_TAIL.INDEX (p : Nat) : Fld :=
  { page := 0xB0, off := 0x10C + 32 * p, hi := 15, lo := 0, acc := .rw, rst := 0, pair := false }

/-- PRT.Q_HEAD.INDEX: bits 15:0, RO, Table 4.13. -/
def PRT.Q_HEAD.INDEX (p : Nat) : Fld :=
  { page := 0xB0, off := 0x110 + 32 * p, hi := 15, lo := 0, acc := .ro, rst := 0, pair := false }

/-- PRT.Q_CTRL.MARK: bits 7:4, RW, Table 4.13. -/
def PRT.Q_CTRL.MARK (p : Nat) : Fld :=
  { page := 0xB0, off := 0x114 + 32 * p, hi := 7, lo := 4, acc := .rw, rst := 0, pair := false }

/-- PRT.Q_CTRL.CANCEL: bits 2, WO, Table 4.13. -/
def PRT.Q_CTRL.CANCEL (p : Nat) : Fld :=
  { page := 0xB0, off := 0x114 + 32 * p, hi := 2, lo := 2, acc := .wo, rst := 0, pair := false }

/-- PRT.Q_CTRL.HOLD: bits 1, RW, Table 4.13. -/
def PRT.Q_CTRL.HOLD (p : Nat) : Fld :=
  { page := 0xB0, off := 0x114 + 32 * p, hi := 1, lo := 1, acc := .rw, rst := 0, pair := false }

/-- PRT.Q_CTRL.ENABLE: bits 0, RW, Table 4.13. -/
def PRT.Q_CTRL.ENABLE (p : Nat) : Fld :=
  { page := 0xB0, off := 0x114 + 32 * p, hi := 0, lo := 0, acc := .rw, rst := 0, pair := false }

/-- PRT.Q_STAT.EDGES: bits 31:28, RO, Table 4.13. -/
def PRT.Q_STAT.EDGES (p : Nat) : Fld :=
  { page := 0xB0, off := 0x118 + 32 * p, hi := 31, lo := 28, acc := .ro, rst := 0, pair := false }

/-- PRT.Q_STAT.ACTIVE: bits 25:23, RO, Table 4.13. -/
def PRT.Q_STAT.ACTIVE (p : Nat) : Fld :=
  { page := 0xB0, off := 0x118 + 32 * p, hi := 25, lo := 23, acc := .ro, rst := 0, pair := false }

/-- PRT.Q_STAT.STATE: bits 22:20, RO, Table 4.13. -/
def PRT.Q_STAT.STATE (p : Nat) : Fld :=
  { page := 0xB0, off := 0x118 + 32 * p, hi := 22, lo := 20, acc := .ro, rst := 0, pair := false }

/-- PRT.Q_STAT.JOB: bits 15:0, RO, Table 4.13. -/
def PRT.Q_STAT.JOB (p : Nat) : Fld :=
  { page := 0xB0, off := 0x118 + 32 * p, hi := 15, lo := 0, acc := .ro, rst := 0, pair := false }

/-- PRT.Q_MISSED.COUNT: bits 31:0, RC, Table 4.13. -/
def PRT.Q_MISSED.COUNT (p : Nat) : Fld :=
  { page := 0xB0, off := 0x11C + 32 * p, hi := 31, lo := 0, acc := .rc, rst := 0, pair := false }

/-- PRT.PIPE_CFG.ERR_POLICY: bits 0, RW, Table 6.6. -/
def PRT.PIPE_CFG.ERR_POLICY : Fld :=
  { page := 0xB0, off := 0x78, hi := 0, lo := 0, acc := .rw, rst := 0, pair := false }

/-- The fields of PRT whose registers carry no index. -/
def PRT.plain : List Fld :=
   [PRT.GEOM_BASE.ADDR,
    PRT.GEOM_LOAD.PORTS,
    PRT.GEOM_STAT.BUSY,
    PRT.GEOM_STAT.LAST_PORT,
    PRT.GEOM_STAT.LAST_CODE,
    PRT.GEOM_OK.OK,
    PRT.CPL_BASE.ADDR,
    PRT.CPL_BASE.SPACE] ++
   [PRT.CPL_SIZE.LOG2,
    PRT.CPL_TAIL.INDEX,
    PRT.CPL_HEAD.INDEX,
    PRT.CPL_LOST.COUNT,
    PRT.Q_WINDOW.DEPTH,
    PRT.PIPE_CFG.ERR_POLICY]

/-- The fields of plane p in PRT (the plane registers of R95). -/
def PRT.plane (p : Nat) : List Fld :=
  [PRT.Q_BASE.ADDR p, PRT.Q_SIZE.LOG2 p, PRT.Q_TAIL.INDEX p, PRT.Q_HEAD.INDEX p, PRT.Q_CTRL.MARK p, PRT.Q_CTRL.CANCEL p, PRT.Q_CTRL.HOLD p, PRT.Q_CTRL.ENABLE p, PRT.Q_STAT.EDGES p, PRT.Q_STAT.ACTIVE p, PRT.Q_STAT.STATE p, PRT.Q_STAT.JOB p, PRT.Q_MISSED.COUNT p]

/-- The fields of the register of PRT at page offset `off`. -/
def PRT.at (off : Nat) : List Fld :=
  if 0x100 ≤ off ∧ off < 0x300 then (PRT.plane ((off - 0x100) / 0x20)).filter (·.covers off) else
  (PRT.plain).filter (·.covers off)

/-- Every field of PRT. -/
def PRT.fields : List Fld :=
  PRT.plain ++
  ((List.range 16).flatMap PRT.plane)

/-! ### TRG (Table 5.3) -/

/-- TRG.SRC_SEL.SEL: bits 2:0, RW, Table 5.3. -/
def TRG.SRC_SEL.SEL : Fld :=
  { page := 0xB1, off := 0x40, hi := 2, lo := 0, acc := .rw, rst := 7, pair := false }

/-- TRG.PITCH.PITCH: bits 47:0, RW, Table 5.3. -/
def TRG.PITCH.PITCH : Fld :=
  { page := 0xB1, off := 0x44, hi := 47, lo := 0, acc := .rw, rst := 0, pair := true }

/-- TRG.LEAD.TICKS: bits 23:4, RW, Table 5.3. -/
def TRG.LEAD.TICKS : Fld :=
  { page := 0xB1, off := 0x4C, hi := 23, lo := 4, acc := .rw, rst := 0, pair := false }

/-- TRG.LEAD.PHASE: bits 3:0, RW, Table 5.3. -/
def TRG.LEAD.PHASE : Fld :=
  { page := 0xB1, off := 0x4C, hi := 3, lo := 0, acc := .rw, rst := 0, pair := false }

/-- TRG.REV_BAND.COUNTS: bits 7:0, RW, Table 5.3. -/
def TRG.REV_BAND.COUNTS : Fld :=
  { page := 0xB1, off := 0x50, hi := 7, lo := 0, acc := .rw, rst := 2, pair := false }

/-- TRG.LATE_LIM.FRAC: bits 7:0, RW, Table 5.3. -/
def TRG.LATE_LIM.FRAC : Fld :=
  { page := 0xB1, off := 0x54, hi := 7, lo := 0, acc := .rw, rst := 64, pair := false }

/-- TRG.SLOWDOWN.EN: bits 31, RW, Table 5.3. -/
def TRG.SLOWDOWN.EN : Fld :=
  { page := 0xB1, off := 0x58, hi := 31, lo := 31, acc := .rw, rst := 1, pair := false }

/-- TRG.SLOWDOWN.INTERVAL: bits 15:0, RW, Table 5.3. -/
def TRG.SLOWDOWN.INTERVAL : Fld :=
  { page := 0xB1, off := 0x58, hi := 15, lo := 0, acc := .rw, rst := 100, pair := false }

/-- TRG.STAT.PAUSED: bits 4, RO, Table 5.3. -/
def TRG.STAT.PAUSED : Fld :=
  { page := 0xB1, off := 0x5C, hi := 4, lo := 4, acc := .ro, rst := 0, pair := false }

/-- TRG.STAT.DIR: bits 3, RO, Table 5.3. -/
def TRG.STAT.DIR : Fld :=
  { page := 0xB1, off := 0x5C, hi := 3, lo := 3, acc := .ro, rst := 0, pair := false }

/-- TRG.STAT.SPEED_VALID: bits 2, RO, Table 5.3. -/
def TRG.STAT.SPEED_VALID : Fld :=
  { page := 0xB1, off := 0x5C, hi := 2, lo := 2, acc := .ro, rst := 0, pair := false }

/-- TRG.STAT.SOURCE_OK: bits 1, RO, Table 5.3. -/
def TRG.STAT.SOURCE_OK : Fld :=
  { page := 0xB1, off := 0x5C, hi := 1, lo := 1, acc := .ro, rst := 0, pair := false }

/-- TRG.STAT.RUN: bits 0, RO, Table 5.3. -/
def TRG.STAT.RUN : Fld :=
  { page := 0xB1, off := 0x5C, hi := 0, lo := 0, acc := .ro, rst := 0, pair := false }

/-- TRG.PHI.POS: bits 47:0, RO, Table 5.3. -/
def TRG.PHI.POS : Fld :=
  { page := 0xB1, off := 0x60, hi := 47, lo := 0, acc := .ro, rst := 0, pair := true }

/-- TRG.POS.POS: bits 47:0, RO, Table 5.3. -/
def TRG.POS.POS : Fld :=
  { page := 0xB1, off := 0x68, hi := 47, lo := 0, acc := .ro, rst := 0, pair := true }

/-- TRG.LATE_CNT.COUNT: bits 31:0, RC, Table 5.3. -/
def TRG.LATE_CNT.COUNT : Fld :=
  { page := 0xB1, off := 0x70, hi := 31, lo := 0, acc := .rc, rst := 0, pair := false }

/-- TRG.SKIP_CNT.COUNT: bits 31:0, RC, Table 5.3. -/
def TRG.SKIP_CNT.COUNT : Fld :=
  { page := 0xB1, off := 0x74, hi := 31, lo := 0, acc := .rc, rst := 0, pair := false }

/-- TRG.REV_CNT.COUNT: bits 31:0, RC, Table 5.3. -/
def TRG.REV_CNT.COUNT : Fld :=
  { page := 0xB1, off := 0x78, hi := 31, lo := 0, acc := .rc, rst := 0, pair := false }

/-- TRG.TMIN_SEL.PORT: bits 5:0, RW, Table 5.3. -/
def TRG.TMIN_SEL.PORT : Fld :=
  { page := 0xB1, off := 0x7C, hi := 5, lo := 0, acc := .rw, rst := 0, pair := false }

/-- TRG.TMIN_VAL.GROUPS: bits 29:26, RO, Table 5.3. -/
def TRG.TMIN_VAL.GROUPS : Fld :=
  { page := 0xB1, off := 0x80, hi := 29, lo := 26, acc := .ro, rst := 0, pair := false }

/-- TRG.TMIN_VAL.TMIN: bits 25:0, RO, Table 5.3. -/
def TRG.TMIN_VAL.TMIN : Fld :=
  { page := 0xB1, off := 0x80, hi := 25, lo := 0, acc := .ro, rst := 0, pair := false }

/-- TRG.TMIN_MAX.PORT: bits 31:26, RO, Table 5.3. -/
def TRG.TMIN_MAX.PORT : Fld :=
  { page := 0xB1, off := 0x84, hi := 31, lo := 26, acc := .ro, rst := 0, pair := false }

/-- TRG.TMIN_MAX.TMIN: bits 25:0, RO, Table 5.3. -/
def TRG.TMIN_MAX.TMIN : Fld :=
  { page := 0xB1, off := 0x84, hi := 25, lo := 0, acc := .ro, rst := 0, pair := false }

/-- TRG.SPEED_MAX.SPEED: bits 31:0, RW, Table 5.3. -/
def TRG.SPEED_MAX.SPEED : Fld :=
  { page := 0xB1, off := 0x88, hi := 31, lo := 0, acc := .rw, rst := 0, pair := false }

/-- TRG.FIX_PERIOD.TICKS: bits 31:4, RW, Table 5.3. -/
def TRG.FIX_PERIOD.TICKS : Fld :=
  { page := 0xB1, off := 0x90, hi := 31, lo := 4, acc := .rw, rst := 0, pair := false }

/-- TRG.FIX_PERIOD.PHASE: bits 3:0, RW, Table 5.3. -/
def TRG.FIX_PERIOD.PHASE : Fld :=
  { page := 0xB1, off := 0x90, hi := 3, lo := 0, acc := .rw, rst := 0, pair := false }

/-- TRG.FIX_CTRL.SYNC: bits 0, RW, Table 5.3. -/
def TRG.FIX_CTRL.SYNC : Fld :=
  { page := 0xB1, off := 0x94, hi := 0, lo := 0, acc := .rw, rst := 0, pair := false }

/-- TRG.FIX_T0.TS: bits 63:0, RW, Table 5.3. -/
def TRG.FIX_T0.TS : Fld :=
  { page := 0xB1, off := 0x98, hi := 63, lo := 0, acc := .rw, rst := 0, pair := true }

/-- TRG.DROPS.PORT: bits 2 * (p % 16) + 1:2 * (p % 16), RWX, Table 5.3. -/
def TRG.DROPS.PORT (p : Nat) : Fld :=
  { page := 0xB1, off := 0x400 + 4 * (p / 16), hi := 2 * (p % 16) + 1, lo := 2 * (p % 16), acc := .rwx, rst := 3, pair := false }

/-- TRG.MERGE.FINE: bits 15:0, RWX, Table 5.3. -/
def TRG.MERGE.FINE : Fld :=
  { page := 0xB1, off := 0x410, hi := 15, lo := 0, acc := .rwx, rst := 0x200, pair := false }

/-- TRG.BIDIR.OFFSET: bits 31:0, RWX, Table 5.3. -/
def TRG.BIDIR.OFFSET : Fld :=
  { page := 0xB1, off := 0x414, hi := 31, lo := 0, acc := .rwx, rst := 0, pair := false }

/-- The fields of TRG whose registers carry no index. -/
def TRG.plain : List Fld :=
   [TRG.SRC_SEL.SEL,
    TRG.PITCH.PITCH,
    TRG.LEAD.TICKS,
    TRG.LEAD.PHASE,
    TRG.REV_BAND.COUNTS,
    TRG.LATE_LIM.FRAC,
    TRG.SLOWDOWN.EN,
    TRG.SLOWDOWN.INTERVAL] ++
   [TRG.STAT.PAUSED,
    TRG.STAT.DIR,
    TRG.STAT.SPEED_VALID,
    TRG.STAT.SOURCE_OK,
    TRG.STAT.RUN,
    TRG.PHI.POS,
    TRG.POS.POS,
    TRG.LATE_CNT.COUNT] ++
   [TRG.SKIP_CNT.COUNT,
    TRG.REV_CNT.COUNT,
    TRG.TMIN_SEL.PORT,
    TRG.TMIN_VAL.GROUPS,
    TRG.TMIN_VAL.TMIN,
    TRG.TMIN_MAX.PORT,
    TRG.TMIN_MAX.TMIN,
    TRG.SPEED_MAX.SPEED] ++
   [TRG.FIX_PERIOD.TICKS,
    TRG.FIX_PERIOD.PHASE,
    TRG.FIX_CTRL.SYNC,
    TRG.FIX_T0.TS,
    TRG.MERGE.FINE,
    TRG.BIDIR.OFFSET]

/-- The fields of the register of TRG at page offset `off`. -/
def TRG.at (off : Nat) : List Fld :=
  if 0x400 ≤ off ∧ off < 0x410 then (List.range 16).map fun q => TRG.DROPS.PORT (16 * ((off - 0x400) / 4) + q) else
  (TRG.plain).filter (·.covers off)

/-- Every field of TRG. -/
def TRG.fields : List Fld :=
  TRG.plain ++
  ((List.range 64).map TRG.DROPS.PORT)

/-! ### THM (Table 7.6) -/

/-- THM.LIMITS.T_RESUME: bits 23:16, RW, Table 7.6. -/
def THM.LIMITS.T_RESUME : Fld :=
  { page := 0xB2, off := 0x40, hi := 23, lo := 16, acc := .rw, rst := 70, pair := false }

/-- THM.LIMITS.T_HARD: bits 15:8, RW, Table 7.6. -/
def THM.LIMITS.T_HARD : Fld :=
  { page := 0xB2, off := 0x40, hi := 15, lo := 8, acc := .rw, rst := 80, pair := false }

/-- THM.LIMITS.T_SOFT: bits 7:0, RW, Table 7.6. -/
def THM.LIMITS.T_SOFT : Fld :=
  { page := 0xB2, off := 0x40, hi := 7, lo := 0, acc := .rw, rst := 65, pair := false }

/-- THM.HOT_CTRL.AUTO_REARM: bits 31, RW, Table 7.6. -/
def THM.HOT_CTRL.AUTO_REARM : Fld :=
  { page := 0xB2, off := 0x44, hi := 31, lo := 31, acc := .rw, rst := 0, pair := false }

/-- THM.HOT_CTRL.REARM: bits 8, WO, Table 7.6. -/
def THM.HOT_CTRL.REARM : Fld :=
  { page := 0xB2, off := 0x44, hi := 8, lo := 8, acc := .wo, rst := 0, pair := false }

/-- THM.HOT_CTRL.PORT: bits 5:0, RW, Table 7.6. -/
def THM.HOT_CTRL.PORT : Fld :=
  { page := 0xB2, off := 0x44, hi := 5, lo := 0, acc := .rw, rst := 0, pair := false }

/-- THM.HOT.HOT: bits 63:0, RO, Table 7.6. -/
def THM.HOT.HOT : Fld :=
  { page := 0xB2, off := 0x48, hi := 63, lo := 0, acc := .ro, rst := 0, pair := true }

/-- THM.WARM.EN: bits 31, RW, Table 7.6. -/
def THM.WARM.EN : Fld :=
  { page := 0xB2, off := 0x50, hi := 31, lo := 31, acc := .rw, rst := 0, pair := false }

/-- THM.WARM.MAX_N: bits 23:16, RW, Table 7.6. -/
def THM.WARM.MAX_N : Fld :=
  { page := 0xB2, off := 0x50, hi := 23, lo := 16, acc := .rw, rst := 16, pair := false }

/-- THM.WARM.KP: bits 15:8, RW, Table 7.6. -/
def THM.WARM.KP : Fld :=
  { page := 0xB2, off := 0x50, hi := 15, lo := 8, acc := .rw, rst := 32, pair := false }

/-- THM.WARM.T_SET: bits 7:0, RW, Table 7.6. -/
def THM.WARM.T_SET : Fld :=
  { page := 0xB2, off := 0x50, hi := 7, lo := 0, acc := .rw, rst := 40, pair := false }

/-- THM.WARM_W.WIDTH: bits 12:0, RW, Table 7.6. -/
def THM.WARM_W.WIDTH : Fld :=
  { page := 0xB2, off := 0x54, hi := 12, lo := 0, acc := .rw, rst := 160, pair := false }

/-- THM.START.DUTY: bits 7:0, RW, Table 7.6. -/
def THM.START.DUTY : Fld :=
  { page := 0xB2, off := 0x58, hi := 7, lo := 0, acc := .rw, rst := 128, pair := false }

/-- THM.RHO.FLOOR: bits 31:16, RW, Table 7.6. -/
def THM.RHO.FLOOR : Fld :=
  { page := 0xB2, off := 0x5C, hi := 31, lo := 16, acc := .rw, rst := 0x2000, pair := false }

/-- THM.RHO.NOM: bits 15:0, RW, Table 7.6. -/
def THM.RHO.NOM : Fld :=
  { page := 0xB2, off := 0x5C, hi := 15, lo := 0, acc := .rw, rst := 0x6000, pair := false }

/-- THM.DERATE.DERATE_PRE: bits 8, RW, Table 7.6. -/
def THM.DERATE.DERATE_PRE : Fld :=
  { page := 0xB2, off := 0x60, hi := 8, lo := 8, acc := .rw, rst := 0, pair := false }

/-- THM.DERATE.T_REF: bits 7:0, RW, Table 7.6. -/
def THM.DERATE.T_REF : Fld :=
  { page := 0xB2, off := 0x60, hi := 7, lo := 0, acc := .rw, rst := 45, pair := false }

/-- THM.SLOWDOWN.EN: bits 31, RW, Table 7.6. -/
def THM.SLOWDOWN.EN : Fld :=
  { page := 0xB2, off := 0x64, hi := 31, lo := 31, acc := .rw, rst := 1, pair := false }

/-- THM.SLOWDOWN.INTERVAL: bits 15:0, RW, Table 7.6. -/
def THM.SLOWDOWN.INTERVAL : Fld :=
  { page := 0xB2, off := 0x64, hi := 15, lo := 0, acc := .rw, rst := 0x3E8, pair := false }

/-- THM.HOT_SEL.PORT: bits 5:0, RW, Table 7.6. -/
def THM.HOT_SEL.PORT : Fld :=
  { page := 0xB2, off := 0x68, hi := 5, lo := 0, acc := .rw, rst := 0, pair := false }

/-- THM.HOT_REC_0.VALID: bits 31, W1C, Table 7.6. -/
def THM.HOT_REC_0.VALID : Fld :=
  { page := 0xB2, off := 0x6C, hi := 31, lo := 31, acc := .w1c, rst := 0, pair := false }

/-- THM.HOT_REC_0.SLOT: bits 23:20, RO, Table 7.6. -/
def THM.HOT_REC_0.SLOT : Fld :=
  { page := 0xB2, off := 0x6C, hi := 23, lo := 20, acc := .ro, rst := 0, pair := false }

/-- THM.HOT_REC_0.SUBCYC: bits 19:18, RO, Table 7.6. -/
def THM.HOT_REC_0.SUBCYC : Fld :=
  { page := 0xB2, off := 0x6C, hi := 19, lo := 18, acc := .ro, rst := 0, pair := false }

/-- THM.HOT_REC_0.CAUSE: bits 17:16, RO, Table 7.6. -/
def THM.HOT_REC_0.CAUSE : Fld :=
  { page := 0xB2, off := 0x6C, hi := 17, lo := 16, acc := .ro, rst := 0, pair := false }

/-- THM.HOT_REC_0.ROWS: bits 15:0, RO, Table 7.6. -/
def THM.HOT_REC_0.ROWS : Fld :=
  { page := 0xB2, off := 0x6C, hi := 15, lo := 0, acc := .ro, rst := 0, pair := false }

/-- THM.HOT_REC_1.LINE: bits 31:0, RO, Table 7.6. -/
def THM.HOT_REC_1.LINE : Fld :=
  { page := 0xB2, off := 0x70, hi := 31, lo := 0, acc := .ro, rst := 0, pair := false }

/-- THM.HOT_REC_2.NOZZLES: bits 31:16, RO, Table 7.6. -/
def THM.HOT_REC_2.NOZZLES : Fld :=
  { page := 0xB2, off := 0x74, hi := 31, lo := 16, acc := .ro, rst := 0, pair := false }

/-- THM.HOT_REC_2.FIRINGS: bits 15:0, RO, Table 7.6. -/
def THM.HOT_REC_2.FIRINGS : Fld :=
  { page := 0xB2, off := 0x74, hi := 15, lo := 0, acc := .ro, rst := 0, pair := false }

/-- THM.TABLE_STAT.COMMITTED: bits 31, RO, Table 7.6. -/
def THM.TABLE_STAT.COMMITTED : Fld :=
  { page := 0xB2, off := 0x78, hi := 31, lo := 31, acc := .ro, rst := 0, pair := false }

/-- THM.TABLE_STAT.LAST_CODE: bits 7:0, RO, Table 7.6. -/
def THM.TABLE_STAT.LAST_CODE : Fld :=
  { page := 0xB2, off := 0x78, hi := 7, lo := 0, acc := .ro, rst := 0, pair := false }

/-- THM.TABLE_CRC.CRC: bits 31:0, RO, Table 7.6. -/
def THM.TABLE_CRC.CRC : Fld :=
  { page := 0xB2, off := 0x7C, hi := 31, lo := 0, acc := .ro, rst := 0, pair := false }

/-- THM.TEMP.STATE: bits 31:28, RO, Table 7.6. -/
def THM.TEMP.STATE (i : Nat) : Fld :=
  { page := 0xB2, off := 0x100 + 4 * i, hi := 31, lo := 28, acc := .ro, rst := 0, pair := false }

/-- THM.TEMP.STALE: bits 27, RO, Table 7.6. -/
def THM.TEMP.STALE (i : Nat) : Fld :=
  { page := 0xB2, off := 0x100 + 4 * i, hi := 27, lo := 27, acc := .ro, rst := 0, pair := false }

/-- THM.TEMP.INVALID: bits 26, RO, Table 7.6. -/
def THM.TEMP.INVALID (i : Nat) : Fld :=
  { page := 0xB2, off := 0x100 + 4 * i, hi := 26, lo := 26, acc := .ro, rst := 0, pair := false }

/-- THM.TEMP.TEMP: bits 15:0, RO, Table 7.6. -/
def THM.TEMP.TEMP (i : Nat) : Fld :=
  { page := 0xB2, off := 0x100 + 4 * i, hi := 15, lo := 0, acc := .ro, rst := 0, pair := false }

/-- THM.NOZ_WIN.CMAX: bits 27:16, RWX, Table 7.6. -/
def THM.NOZ_WIN.CMAX : Fld :=
  { page := 0xB2, off := 0x400, hi := 27, lo := 16, acc := .rwx, rst := 48, pair := false }

/-- THM.NOZ_WIN.NW: bits 10:0, RWX, Table 7.6. -/
def THM.NOZ_WIN.NW : Fld :=
  { page := 0xB2, off := 0x400, hi := 10, lo := 0, acc := .rwx, rst := 64, pair := false }

/-- THM.HEAD_WIN.NH: bits 16:0, RWX, Table 7.6. -/
def THM.HEAD_WIN.NH : Fld :=
  { page := 0xB2, off := 0x404, hi := 16, lo := 0, acc := .rwx, rst := 0x1000, pair := false }

/-- THM.CLASSING.EN: bits 63:0, RWX, Table 7.6. -/
def THM.CLASSING.EN : Fld :=
  { page := 0xB2, off := 0x408, hi := 63, lo := 0, acc := .rwx, rst := 0, pair := true }

/-- The fields of THM whose registers carry no index. -/
def THM.plain : List Fld :=
   [THM.LIMITS.T_RESUME,
    THM.LIMITS.T_HARD,
    THM.LIMITS.T_SOFT,
    THM.HOT_CTRL.AUTO_REARM,
    THM.HOT_CTRL.REARM,
    THM.HOT_CTRL.PORT,
    THM.HOT.HOT,
    THM.WARM.EN] ++
   [THM.WARM.MAX_N,
    THM.WARM.KP,
    THM.WARM.T_SET,
    THM.WARM_W.WIDTH,
    THM.START.DUTY,
    THM.RHO.FLOOR,
    THM.RHO.NOM,
    THM.DERATE.DERATE_PRE] ++
   [THM.DERATE.T_REF,
    THM.SLOWDOWN.EN,
    THM.SLOWDOWN.INTERVAL,
    THM.HOT_SEL.PORT,
    THM.HOT_REC_0.VALID,
    THM.HOT_REC_0.SLOT,
    THM.HOT_REC_0.SUBCYC,
    THM.HOT_REC_0.CAUSE] ++
   [THM.HOT_REC_0.ROWS,
    THM.HOT_REC_1.LINE,
    THM.HOT_REC_2.NOZZLES,
    THM.HOT_REC_2.FIRINGS,
    THM.TABLE_STAT.COMMITTED,
    THM.TABLE_STAT.LAST_CODE,
    THM.TABLE_CRC.CRC,
    THM.NOZ_WIN.CMAX] ++
   [THM.NOZ_WIN.NW,
    THM.HEAD_WIN.NH,
    THM.CLASSING.EN]

/-- The fields of the register of THM at page offset `off`. -/
def THM.at (off : Nat) : List Fld :=
  if 0x100 ≤ off ∧ off < 0x200 then [THM.TEMP.STATE ((off - 0x100) / 4), THM.TEMP.STALE ((off - 0x100) / 4), THM.TEMP.INVALID ((off - 0x100) / 4), THM.TEMP.TEMP ((off - 0x100) / 4)] else
  (THM.plain).filter (·.covers off)

/-- Every field of THM. -/
def THM.fields : List Fld :=
  THM.plain ++
  ((List.range 64).flatMap fun i => [THM.TEMP.STATE i, THM.TEMP.STALE i, THM.TEMP.INVALID i, THM.TEMP.TEMP i])

/-! ### SND (Table 9.6) -/

/-- SND.HEALTH_BASE.ADDR: bits 34:23, RW, Table 9.6. -/
def SND.HEALTH_BASE.ADDR : Fld :=
  { page := 0xB3, off := 0x40, hi := 34, lo := 23, acc := .rw, rst := 0, pair := true }

/-- SND.WEAR_BASE.ADDR: bits 34:23, RW, Table 9.6. -/
def SND.WEAR_BASE.ADDR : Fld :=
  { page := 0xB3, off := 0x48, hi := 34, lo := 23, acc := .rw, rst := 0, pair := true }

/-- SND.SIG_BASE.ADDR: bits 34:6, RW, Table 9.6. -/
def SND.SIG_BASE.ADDR : Fld :=
  { page := 0xB3, off := 0x50, hi := 34, lo := 6, acc := .rw, rst := 0, pair := true }

/-- SND.SIG_CTRL.LOAD: bits 0, WO, Table 9.6. -/
def SND.SIG_CTRL.LOAD : Fld :=
  { page := 0xB3, off := 0x58, hi := 0, lo := 0, acc := .wo, rst := 0, pair := false }

/-- SND.SIG_STAT.LOADED: bits 31, RO, Table 9.6. -/
def SND.SIG_STAT.LOADED : Fld :=
  { page := 0xB3, off := 0x5C, hi := 31, lo := 31, acc := .ro, rst := 0, pair := false }

/-- SND.SIG_STAT.LAST_CODE: bits 7:0, RO, Table 9.6. -/
def SND.SIG_STAT.LAST_CODE : Fld :=
  { page := 0xB3, off := 0x5C, hi := 7, lo := 0, acc := .ro, rst := 0, pair := false }

/-- SND.SCAN_PORTS.PORTS: bits 63:0, RW, Table 9.6. -/
def SND.SCAN_PORTS.PORTS : Fld :=
  { page := 0xB3, off := 0x60, hi := 63, lo := 0, acc := .rw, rst := 0xFFFFFFFFFFFFFFFF, pair := true }

/-- SND.SCAN_CMD.STOP: bits 1, WO, Table 9.6. -/
def SND.SCAN_CMD.STOP : Fld :=
  { page := 0xB3, off := 0x68, hi := 1, lo := 1, acc := .wo, rst := 0, pair := false }

/-- SND.SCAN_CMD.GO: bits 0, WO, Table 9.6. -/
def SND.SCAN_CMD.GO : Fld :=
  { page := 0xB3, off := 0x68, hi := 0, lo := 0, acc := .wo, rst := 0, pair := false }

/-- SND.SCAN_STAT.STATE: bits 31:28, RO, Table 9.6. -/
def SND.SCAN_STAT.STATE : Fld :=
  { page := 0xB3, off := 0x6C, hi := 31, lo := 28, acc := .ro, rst := 0, pair := false }

/-- SND.SCAN_STAT.DONE: bits 20:0, RO, Table 9.6. -/
def SND.SCAN_STAT.DONE : Fld :=
  { page := 0xB3, off := 0x6C, hi := 20, lo := 0, acc := .ro, rst := 0, pair := false }

/-- SND.SCAN_SKIP.COUNT: bits 31:0, RC, Table 9.6. -/
def SND.SCAN_SKIP.COUNT : Fld :=
  { page := 0xB3, off := 0x70, hi := 31, lo := 0, acc := .rc, rst := 0, pair := false }

/-- SND.SCAN_REPEAT.COUNT: bits 31:0, RC, Table 9.6. -/
def SND.SCAN_REPEAT.COUNT : Fld :=
  { page := 0xB3, off := 0x74, hi := 31, lo := 0, acc := .rc, rst := 0, pair := false }

/-- SND.SIG_EN.GAP_EN: bits 2, RW, Table 9.6. -/
def SND.SIG_EN.GAP_EN : Fld :=
  { page := 0xB3, off := 0x78, hi := 2, lo := 2, acc := .rw, rst := 0, pair := false }

/-- SND.SIG_EN.SERVICE_EN: bits 1, RW, Table 9.6. -/
def SND.SIG_EN.SERVICE_EN : Fld :=
  { page := 0xB3, off := 0x78, hi := 1, lo := 1, acc := .rw, rst := 1, pair := false }

/-- SND.SIG_EN.PRINT_EN: bits 0, RW, Table 9.6. -/
def SND.SIG_EN.PRINT_EN : Fld :=
  { page := 0xB3, off := 0x78, hi := 0, lo := 0, acc := .rw, rst := 1, pair := false }

/-- SND.PORT_SEL.PORT: bits 5:0, RW, Table 9.6. -/
def SND.PORT_SEL.PORT : Fld :=
  { page := 0xB3, off := 0x7C, hi := 5, lo := 0, acc := .rw, rst := 0, pair := false }

/-- SND.COVER.LAST_MS: bits 31:16, RO, Table 9.6. -/
def SND.COVER.LAST_MS : Fld :=
  { page := 0xB3, off := 0x80, hi := 31, lo := 16, acc := .ro, rst := 0, pair := false }

/-- SND.COVER.LEFT: bits 14:0, RO, Table 9.6. -/
def SND.COVER.LEFT : Fld :=
  { page := 0xB3, off := 0x80, hi := 14, lo := 0, acc := .ro, rst := 0, pair := false }

/-- SND.DECIDE_CNT.COUNT: bits 31:0, RC, Table 9.6. -/
def SND.DECIDE_CNT.COUNT : Fld :=
  { page := 0xB3, off := 0x84, hi := 31, lo := 0, acc := .rc, rst := 0, pair := false }

/-- SND.MISS_CNT.COUNT: bits 31:0, RC, Table 9.6. -/
def SND.MISS_CNT.COUNT : Fld :=
  { page := 0xB3, off := 0x88, hi := 31, lo := 0, acc := .rc, rst := 0, pair := false }

/-- SND.ABANDON_CNT.COUNT: bits 31:0, RC, Table 9.6. -/
def SND.ABANDON_CNT.COUNT : Fld :=
  { page := 0xB3, off := 0x8C, hi := 31, lo := 0, acc := .rc, rst := 0, pair := false }

/-- SND.WB_PEND.COUNT: bits 15:0, RO, Table 9.6. -/
def SND.WB_PEND.COUNT : Fld :=
  { page := 0xB3, off := 0x90, hi := 15, lo := 0, acc := .ro, rst := 0, pair := false }

/-- SND.UNKNOWN.PORTS: bits 63:0, RO, Table 9.6. -/
def SND.UNKNOWN.PORTS : Fld :=
  { page := 0xB3, off := 0x94, hi := 63, lo := 0, acc := .ro, rst := 0, pair := true }

/-- SND.WEAR_SAT.COUNT: bits 31:0, RC, Table 9.6. -/
def SND.WEAR_SAT.COUNT : Fld :=
  { page := 0xB3, off := 0x9C, hi := 31, lo := 0, acc := .rc, rst := 0, pair := false }

/-- SND.SCAN_CFG.I_HI: bits 31:20, RWX, Table 9.6. -/
def SND.SCAN_CFG.I_HI : Fld :=
  { page := 0xB3, off := 0x400, hi := 31, lo := 20, acc := .rwx, rst := 0x7D0, pair := false }

/-- SND.SCAN_CFG.I_LO: bits 19:8, RWX, Table 9.6. -/
def SND.SCAN_CFG.I_LO : Fld :=
  { page := 0xB3, off := 0x400, hi := 19, lo := 8, acc := .rwx, rst := 0x1F4, pair := false }

/-- SND.SCAN_CFG.CLEAR_SIG: bits 0, RWX, Table 9.6. -/
def SND.SCAN_CFG.CLEAR_SIG : Fld :=
  { page := 0xB3, off := 0x400, hi := 0, lo := 0, acc := .rwx, rst := 0, pair := false }

/-- SND.R_LIMITS_0.OPEN: bits 31:16, RWX, Table 9.6. -/
def SND.R_LIMITS_0.OPEN : Fld :=
  { page := 0xB3, off := 0x404, hi := 31, lo := 16, acc := .rwx, rst := 0xC800, pair := false }

/-- SND.R_LIMITS_0.SHORT: bits 15:0, RWX, Table 9.6. -/
def SND.R_LIMITS_0.SHORT : Fld :=
  { page := 0xB3, off := 0x404, hi := 15, lo := 0, acc := .rwx, rst := 0x500, pair := false }

/-- SND.R_LIMITS_1.HI: bits 31:16, RWX, Table 9.6. -/
def SND.R_LIMITS_1.HI : Fld :=
  { page := 0xB3, off := 0x408, hi := 31, lo := 16, acc := .rwx, rst := 0x6400, pair := false }

/-- SND.R_LIMITS_1.LO: bits 15:0, RWX, Table 9.6. -/
def SND.R_LIMITS_1.LO : Fld :=
  { page := 0xB3, off := 0x408, hi := 15, lo := 0, acc := .rwx, rst := 0xA00, pair := false }

/-- SND.HEATER_TCR.TCR: bits 15:0, RWX, Table 9.6. -/
def SND.HEATER_TCR.TCR : Fld :=
  { page := 0xB3, off := 0x40C, hi := 15, lo := 0, acc := .rwx, rst := 0x3E8, pair := false }

/-- SND.SIG_CFG.RECOVER: bits 31, RWX, Table 9.6. -/
def SND.SIG_CFG.RECOVER : Fld :=
  { page := 0xB3, off := 0x410, hi := 31, lo := 31, acc := .rwx, rst := 1, pair := false }

/-- SND.SIG_CFG.MARGIN: bits 23:16, RWX, Table 9.6. -/
def SND.SIG_CFG.MARGIN : Fld :=
  { page := 0xB3, off := 0x410, hi := 23, lo := 16, acc := .rwx, rst := 64, pair := false }

/-- SND.SIG_CFG.PASS_N: bits 15:12, RWX, Table 9.6. -/
def SND.SIG_CFG.PASS_N : Fld :=
  { page := 0xB3, off := 0x410, hi := 15, lo := 12, acc := .rwx, rst := 4, pair := false }

/-- SND.SIG_CFG.INC_N: bits 11:8, RWX, Table 9.6. -/
def SND.SIG_CFG.INC_N : Fld :=
  { page := 0xB3, off := 0x410, hi := 11, lo := 8, acc := .rwx, rst := 8, pair := false }

/-- SND.SIG_CFG.MISS_N: bits 3:0, RWX, Table 9.6. -/
def SND.SIG_CFG.MISS_N : Fld :=
  { page := 0xB3, off := 0x410, hi := 3, lo := 0, acc := .rwx, rst := 2, pair := false }

/-- SND.SIG_I.CURRENT: bits 11:0, RWX, Table 9.6. -/
def SND.SIG_I.CURRENT : Fld :=
  { page := 0xB3, off := 0x414, hi := 11, lo := 0, acc := .rwx, rst := 0x7D0, pair := false }

/-- SND.FAIL_LIMIT.COUNT: bits 13:0, RWX, Table 9.6. -/
def SND.FAIL_LIMIT.COUNT : Fld :=
  { page := 0xB3, off := 0x418, hi := 13, lo := 0, acc := .rwx, rst := 164, pair := false }

/-- SND.WEAR_CFG.PERIOD: bits 15:0, RWX, Table 9.6. -/
def SND.WEAR_CFG.PERIOD : Fld :=
  { page := 0xB3, off := 0x41C, hi := 15, lo := 0, acc := .rwx, rst := 16, pair := false }

/-- The fields of SND whose registers carry no index. -/
def SND.plain : List Fld :=
   [SND.HEALTH_BASE.ADDR,
    SND.WEAR_BASE.ADDR,
    SND.SIG_BASE.ADDR,
    SND.SIG_CTRL.LOAD,
    SND.SIG_STAT.LOADED,
    SND.SIG_STAT.LAST_CODE,
    SND.SCAN_PORTS.PORTS,
    SND.SCAN_CMD.STOP] ++
   [SND.SCAN_CMD.GO,
    SND.SCAN_STAT.STATE,
    SND.SCAN_STAT.DONE,
    SND.SCAN_SKIP.COUNT,
    SND.SCAN_REPEAT.COUNT,
    SND.SIG_EN.GAP_EN,
    SND.SIG_EN.SERVICE_EN,
    SND.SIG_EN.PRINT_EN] ++
   [SND.PORT_SEL.PORT,
    SND.COVER.LAST_MS,
    SND.COVER.LEFT,
    SND.DECIDE_CNT.COUNT,
    SND.MISS_CNT.COUNT,
    SND.ABANDON_CNT.COUNT,
    SND.WB_PEND.COUNT,
    SND.UNKNOWN.PORTS] ++
   [SND.WEAR_SAT.COUNT,
    SND.SCAN_CFG.I_HI,
    SND.SCAN_CFG.I_LO,
    SND.SCAN_CFG.CLEAR_SIG,
    SND.R_LIMITS_0.OPEN,
    SND.R_LIMITS_0.SHORT,
    SND.R_LIMITS_1.HI,
    SND.R_LIMITS_1.LO] ++
   [SND.HEATER_TCR.TCR,
    SND.SIG_CFG.RECOVER,
    SND.SIG_CFG.MARGIN,
    SND.SIG_CFG.PASS_N,
    SND.SIG_CFG.INC_N,
    SND.SIG_CFG.MISS_N,
    SND.SIG_I.CURRENT,
    SND.FAIL_LIMIT.COUNT] ++
   [SND.WEAR_CFG.PERIOD]

/-- The fields of the register of SND at page offset `off`. -/
def SND.at (off : Nat) : List Fld :=
  
  (SND.plain).filter (·.covers off)

/-- Every field of SND. -/
def SND.fields : List Fld :=
  SND.plain

/-! ### MSK (Table 6.7) -/

/-- MSK.BASE.ADDR: bits 34:12, RW, Table 6.7. -/
def MSK.BASE.ADDR : Fld :=
  { page := 0xB4, off := 0x40, hi := 34, lo := 12, acc := .rw, rst := 0, pair := true }

/-- MSK.ROT_CFG.EN: bits 31, RW, Table 6.7. -/
def MSK.ROT_CFG.EN : Fld :=
  { page := 0xB4, off := 0x48, hi := 31, lo := 31, acc := .rw, rst := 1, pair := false }

/-- MSK.ROT_CFG.PLANE: bits 27:24, RW, Table 6.7. -/
def MSK.ROT_CFG.PLANE : Fld :=
  { page := 0xB4, off := 0x48, hi := 27, lo := 24, acc := .rw, rst := 0, pair := false }

/-- MSK.ROT_CFG.STEP_X: bits 23:16, RW, Table 6.7. -/
def MSK.ROT_CFG.STEP_X : Fld :=
  { page := 0xB4, off := 0x48, hi := 23, lo := 16, acc := .rw, rst := 37, pair := false }

/-- MSK.ROT_CFG.STEP_R: bits 11:8, RW, Table 6.7. -/
def MSK.ROT_CFG.STEP_R : Fld :=
  { page := 0xB4, off := 0x48, hi := 11, lo := 8, acc := .rw, rst := 1, pair := false }

/-- MSK.ROT_CFG.PAGES: bits 7:0, RW, Table 6.7. -/
def MSK.ROT_CFG.PAGES : Fld :=
  { page := 0xB4, off := 0x48, hi := 7, lo := 0, acc := .rw, rst := 64, pair := false }

/-- MSK.ROT_STAT.COPIES: bits 31:16, RO, Table 6.7. -/
def MSK.ROT_STAT.COPIES : Fld :=
  { page := 0xB4, off := 0x4C, hi := 31, lo := 16, acc := .ro, rst := 0, pair := false }

/-- MSK.ROT_STAT.ROT_X: bits 15:8, RO, Table 6.7. -/
def MSK.ROT_STAT.ROT_X : Fld :=
  { page := 0xB4, off := 0x4C, hi := 15, lo := 8, acc := .ro, rst := 0, pair := false }

/-- MSK.ROT_STAT.ROT_R: bits 3:0, RO, Table 6.7. -/
def MSK.ROT_STAT.ROT_R : Fld :=
  { page := 0xB4, off := 0x4C, hi := 3, lo := 0, acc := .ro, rst := 0, pair := false }

/-- MSK.PORT_SEL.PORT: bits 5:0, RW, Table 6.7. -/
def MSK.PORT_SEL.PORT : Fld :=
  { page := 0xB4, off := 0x50, hi := 5, lo := 0, acc := .rw, rst := 0, pair := false }

/-- MSK.SUBST_CNT.COUNT: bits 31:0, RC, Table 6.7. -/
def MSK.SUBST_CNT.COUNT : Fld :=
  { page := 0xB4, off := 0x54, hi := 31, lo := 0, acc := .rc, rst := 0, pair := false }

/-- MSK.BOOST_CNT.COUNT: bits 31:0, RC, Table 6.7. -/
def MSK.BOOST_CNT.COUNT : Fld :=
  { page := 0xB4, off := 0x58, hi := 31, lo := 0, acc := .rc, rst := 0, pair := false }

/-- MSK.UNCOVERED_CNT.COUNT: bits 31:0, RC, Table 6.7. -/
def MSK.UNCOVERED_CNT.COUNT : Fld :=
  { page := 0xB4, off := 0x5C, hi := 31, lo := 0, acc := .rc, rst := 0, pair := false }

/-- MSK.NOZ_CUT_CNT.COUNT: bits 31:0, RC, Table 6.7. -/
def MSK.NOZ_CUT_CNT.COUNT : Fld :=
  { page := 0xB4, off := 0x60, hi := 31, lo := 0, acc := .rc, rst := 0, pair := false }

/-- MSK.HEAD_CUT_CNT.COUNT: bits 31:0, RC, Table 6.7. -/
def MSK.HEAD_CUT_CNT.COUNT : Fld :=
  { page := 0xB4, off := 0x64, hi := 31, lo := 0, acc := .rc, rst := 0, pair := false }

/-- MSK.CLAMP_CNT.COUNT: bits 31:0, RC, Table 6.7. -/
def MSK.CLAMP_CNT.COUNT : Fld :=
  { page := 0xB4, off := 0x68, hi := 31, lo := 0, acc := .rc, rst := 0, pair := false }

/-- MSK.NOTRDY_CNT.COUNT: bits 31:0, RC, Table 6.7. -/
def MSK.NOTRDY_CNT.COUNT : Fld :=
  { page := 0xB4, off := 0x6C, hi := 31, lo := 0, acc := .rc, rst := 0, pair := false }

/-- MSK.MAP_CNT.WEAK: bits 30:16, RO, Table 6.7. -/
def MSK.MAP_CNT.WEAK : Fld :=
  { page := 0xB4, off := 0x70, hi := 30, lo := 16, acc := .ro, rst := 0, pair := false }

/-- MSK.MAP_CNT.DOWN: bits 14:0, RO, Table 6.7. -/
def MSK.MAP_CNT.DOWN : Fld :=
  { page := 0xB4, off := 0x70, hi := 14, lo := 0, acc := .ro, rst := 0, pair := false }

/-- MSK.BAD_SET.VALID: bits 31, W1C, Table 6.7. -/
def MSK.BAD_SET.VALID : Fld :=
  { page := 0xB4, off := 0x74, hi := 31, lo := 31, acc := .w1c, rst := 0, pair := false }

/-- MSK.BAD_SET.PORT: bits 13:8, RO, Table 6.7. -/
def MSK.BAD_SET.PORT : Fld :=
  { page := 0xB4, off := 0x74, hi := 13, lo := 8, acc := .ro, rst := 0, pair := false }

/-- MSK.BAD_SET.SET: bits 7:0, RO, Table 6.7. -/
def MSK.BAD_SET.SET : Fld :=
  { page := 0xB4, off := 0x74, hi := 7, lo := 0, acc := .ro, rst := 0, pair := false }

/-- MSK.NOZ_OVR.GO: bits 31, WO, Table 6.7. -/
def MSK.NOZ_OVR.GO : Fld :=
  { page := 0xB4, off := 0x400, hi := 31, lo := 31, acc := .wo, rst := 0, pair := false }

/-- MSK.NOZ_OVR.CODE: bits 23:22, RWX, Table 6.7. -/
def MSK.NOZ_OVR.CODE : Fld :=
  { page := 0xB4, off := 0x400, hi := 23, lo := 22, acc := .rwx, rst := 0, pair := false }

/-- MSK.NOZ_OVR.PORT: bits 21:16, RWX, Table 6.7. -/
def MSK.NOZ_OVR.PORT : Fld :=
  { page := 0xB4, off := 0x400, hi := 21, lo := 16, acc := .rwx, rst := 0, pair := false }

/-- MSK.NOZ_OVR.NOZZLE: bits 13:0, RWX, Table 6.7. -/
def MSK.NOZ_OVR.NOZZLE : Fld :=
  { page := 0xB4, off := 0x400, hi := 13, lo := 0, acc := .rwx, rst := 0, pair := false }

/-- MSK.CONCEAL.WEAK_SUBST: bits 2, RWX, Table 6.7. -/
def MSK.CONCEAL.WEAK_SUBST : Fld :=
  { page := 0xB4, off := 0x404, hi := 2, lo := 2, acc := .rwx, rst := 0, pair := false }

/-- MSK.CONCEAL.BOOST_EN: bits 1, RWX, Table 6.7. -/
def MSK.CONCEAL.BOOST_EN : Fld :=
  { page := 0xB4, off := 0x404, hi := 1, lo := 1, acc := .rwx, rst := 1, pair := false }

/-- MSK.CONCEAL.SUBST_EN: bits 0, RWX, Table 6.7. -/
def MSK.CONCEAL.SUBST_EN : Fld :=
  { page := 0xB4, off := 0x404, hi := 0, lo := 0, acc := .rwx, rst := 1, pair := false }

/-- The fields of MSK whose registers carry no index. -/
def MSK.plain : List Fld :=
   [MSK.BASE.ADDR,
    MSK.ROT_CFG.EN,
    MSK.ROT_CFG.PLANE,
    MSK.ROT_CFG.STEP_X,
    MSK.ROT_CFG.STEP_R,
    MSK.ROT_CFG.PAGES,
    MSK.ROT_STAT.COPIES,
    MSK.ROT_STAT.ROT_X] ++
   [MSK.ROT_STAT.ROT_R,
    MSK.PORT_SEL.PORT,
    MSK.SUBST_CNT.COUNT,
    MSK.BOOST_CNT.COUNT,
    MSK.UNCOVERED_CNT.COUNT,
    MSK.NOZ_CUT_CNT.COUNT,
    MSK.HEAD_CUT_CNT.COUNT,
    MSK.CLAMP_CNT.COUNT] ++
   [MSK.NOTRDY_CNT.COUNT,
    MSK.MAP_CNT.WEAK,
    MSK.MAP_CNT.DOWN,
    MSK.BAD_SET.VALID,
    MSK.BAD_SET.PORT,
    MSK.BAD_SET.SET,
    MSK.NOZ_OVR.GO,
    MSK.NOZ_OVR.CODE] ++
   [MSK.NOZ_OVR.PORT,
    MSK.NOZ_OVR.NOZZLE,
    MSK.CONCEAL.WEAK_SUBST,
    MSK.CONCEAL.BOOST_EN,
    MSK.CONCEAL.SUBST_EN]

/-- The fields of the register of MSK at page offset `off`. -/
def MSK.at (off : Nat) : List Fld :=
  
  (MSK.plain).filter (·.covers off)

/-- Every field of MSK. -/
def MSK.fields : List Fld :=
  MSK.plain

/-! ### ENG (Table 10.7) -/

/-- ENG.STAT.VOTING: bits 1, RO, Table 10.7. -/
def ENG.STAT.VOTING : Fld :=
  { page := 0xB5, off := 0x40, hi := 1, lo := 1, acc := .ro, rst := 0, pair := false }

/-- ENG.STAT.ACTIVE: bits 0, RO, Table 10.7. -/
def ENG.STAT.ACTIVE : Fld :=
  { page := 0xB5, off := 0x40, hi := 0, lo := 0, acc := .ro, rst := 0, pair := false }

/-- ENG.CMD.REPAIR: bits 2, WO, Table 10.7. -/
def ENG.CMD.REPAIR : Fld :=
  { page := 0xB5, off := 0x44, hi := 2, lo := 2, acc := .wo, rst := 0, pair := false }

/-- ENG.CMD.RESYNC: bits 1, WO, Table 10.7. -/
def ENG.CMD.RESYNC : Fld :=
  { page := 0xB5, off := 0x44, hi := 1, lo := 1, acc := .wo, rst := 0, pair := false }

/-- ENG.CMD.SWITCH: bits 0, WO, Table 10.7. -/
def ENG.CMD.SWITCH : Fld :=
  { page := 0xB5, off := 0x44, hi := 0, lo := 0, acc := .wo, rst := 0, pair := false }

/-- ENG.CFG.REPAIR_MAX: bits 9:8, RW, Table 10.7. -/
def ENG.CFG.REPAIR_MAX : Fld :=
  { page := 0xB5, off := 0x48, hi := 9, lo := 8, acc := .rw, rst := 2, pair := false }

/-- ENG.CFG.AUTO_REPAIR: bits 1, RW, Table 10.7. -/
def ENG.CFG.AUTO_REPAIR : Fld :=
  { page := 0xB5, off := 0x48, hi := 1, lo := 1, acc := .rw, rst := 1, pair := false }

/-- ENG.CFG.AUTO_RESYNC: bits 0, RW, Table 10.7. -/
def ENG.CFG.AUTO_RESYNC : Fld :=
  { page := 0xB5, off := 0x48, hi := 0, lo := 0, acc := .rw, rst := 1, pair := false }

/-- ENG.BIST_CFG.EN: bits 31, RW, Table 10.7. -/
def ENG.BIST_CFG.EN : Fld :=
  { page := 0xB5, off := 0x4C, hi := 31, lo := 31, acc := .rw, rst := 1, pair := false }

/-- ENG.BIST_CFG.HOLD: bits 30, RW, Table 10.7. -/
def ENG.BIST_CFG.HOLD : Fld :=
  { page := 0xB5, off := 0x4C, hi := 30, lo := 30, acc := .rw, rst := 0, pair := false }

/-- ENG.BIST_CFG.WINDOW: bits 23:16, RW, Table 10.7. -/
def ENG.BIST_CFG.WINDOW : Fld :=
  { page := 0xB5, off := 0x4C, hi := 23, lo := 16, acc := .rw, rst := 50, pair := false }

/-- ENG.BIST_CFG.PERIOD: bits 15:0, RW, Table 10.7. -/
def ENG.BIST_CFG.PERIOD : Fld :=
  { page := 0xB5, off := 0x4C, hi := 15, lo := 0, acc := .rw, rst := 10, pair := false }

/-- ENG.DIV_CNT.COUNT: bits 31:0, RC, Table 10.7. -/
def ENG.DIV_CNT.COUNT : Fld :=
  { page := 0xB5, off := 0x50, hi := 31, lo := 0, acc := .rc, rst := 0, pair := false }

/-- ENG.FAILOVER_CNT.COUNT: bits 31:0, RC, Table 10.7. -/
def ENG.FAILOVER_CNT.COUNT : Fld :=
  { page := 0xB5, off := 0x54, hi := 31, lo := 0, acc := .rc, rst := 0, pair := false }

/-- ENG.LAST_DIV.VALID: bits 31, W1C, Table 10.7. -/
def ENG.LAST_DIV.VALID : Fld :=
  { page := 0xB5, off := 0x58, hi := 31, lo := 31, acc := .w1c, rst := 0, pair := false }

/-- ENG.LAST_DIV.PORT: bits 13:8, RO, Table 10.7. -/
def ENG.LAST_DIV.PORT : Fld :=
  { page := 0xB5, off := 0x58, hi := 13, lo := 8, acc := .ro, rst := 0, pair := false }

/-- ENG.LAST_DIV.SEG: bits 7:0, RO, Table 10.7. -/
def ENG.LAST_DIV.SEG : Fld :=
  { page := 0xB5, off := 0x58, hi := 7, lo := 0, acc := .ro, rst := 0, pair := false }

/-- ENG.LAST_DIV_CYC.CYCLE: bits 31:0, RO, Table 10.7. -/
def ENG.LAST_DIV_CYC.CYCLE : Fld :=
  { page := 0xB5, off := 0x5C, hi := 31, lo := 0, acc := .ro, rst := 0, pair := false }

/-- ENG.LAST_DIV_A.CRC: bits 31:0, RO, Table 10.7. -/
def ENG.LAST_DIV_A.CRC : Fld :=
  { page := 0xB5, off := 0x60, hi := 31, lo := 0, acc := .ro, rst := 0, pair := false }

/-- ENG.LAST_DIV_B.CRC: bits 31:0, RO, Table 10.7. -/
def ENG.LAST_DIV_B.CRC : Fld :=
  { page := 0xB5, off := 0x64, hi := 31, lo := 0, acc := .ro, rst := 0, pair := false }

/-- ENG.REPORT_BASE.ADDR: bits 34:6, RW, Table 10.7. -/
def ENG.REPORT_BASE.ADDR : Fld :=
  { page := 0xB5, off := 0x68, hi := 34, lo := 6, acc := .rw, rst := 0, pair := true }

/-- ENG.REPORT_IDX.LOG2: bits 15:12, RW, Table 10.7. -/
def ENG.REPORT_IDX.LOG2 : Fld :=
  { page := 0xB5, off := 0x70, hi := 15, lo := 12, acc := .rw, rst := 4, pair := false }

/-- ENG.REPORT_IDX.IDX: bits 11:0, RO, Table 10.7. -/
def ENG.REPORT_IDX.IDX : Fld :=
  { page := 0xB5, off := 0x70, hi := 11, lo := 0, acc := .ro, rst := 0, pair := false }

/-- ENG.UNPROT_MS.MS: bits 31:0, RO, Table 10.7. -/
def ENG.UNPROT_MS.MS : Fld :=
  { page := 0xB5, off := 0x74, hi := 31, lo := 0, acc := .ro, rst := 0, pair := false }

/-- ENG.VOTE_CFG.LAG_NS: bits 23:8, RWX, Table 10.7. -/
def ENG.VOTE_CFG.LAG_NS : Fld :=
  { page := 0xB5, off := 0x400, hi := 23, lo := 8, acc := .rwx, rst := 0x7D0, pair := false }

/-- ENG.VOTE_CFG.DIV_POLICY: bits 1:0, RWX, Table 10.7. -/
def ENG.VOTE_CFG.DIV_POLICY : Fld :=
  { page := 0xB5, off := 0x400, hi := 1, lo := 0, acc := .rwx, rst := 0, pair := false }

/-- The fields of ENG whose registers carry no index. -/
def ENG.plain : List Fld :=
   [ENG.STAT.VOTING,
    ENG.STAT.ACTIVE,
    ENG.CMD.REPAIR,
    ENG.CMD.RESYNC,
    ENG.CMD.SWITCH,
    ENG.CFG.REPAIR_MAX,
    ENG.CFG.AUTO_REPAIR,
    ENG.CFG.AUTO_RESYNC] ++
   [ENG.BIST_CFG.EN,
    ENG.BIST_CFG.HOLD,
    ENG.BIST_CFG.WINDOW,
    ENG.BIST_CFG.PERIOD,
    ENG.DIV_CNT.COUNT,
    ENG.FAILOVER_CNT.COUNT,
    ENG.LAST_DIV.VALID,
    ENG.LAST_DIV.PORT] ++
   [ENG.LAST_DIV.SEG,
    ENG.LAST_DIV_CYC.CYCLE,
    ENG.LAST_DIV_A.CRC,
    ENG.LAST_DIV_B.CRC,
    ENG.REPORT_BASE.ADDR,
    ENG.REPORT_IDX.LOG2,
    ENG.REPORT_IDX.IDX,
    ENG.UNPROT_MS.MS] ++
   [ENG.VOTE_CFG.LAG_NS,
    ENG.VOTE_CFG.DIV_POLICY]

/-- The fields of the register of ENG at page offset `off`. -/
def ENG.at (off : Nat) : List Fld :=
  
  (ENG.plain).filter (·.covers off)

/-- Every field of ENG. -/
def ENG.fields : List Fld :=
  ENG.plain

/-! ### ENGX (Table 10.8) -/

/-- ENGX.STAT.ESTATE: bits 31:28, RO, Table 10.8. -/
def ENGX.STAT.ESTATE (n : Nat) : Fld :=
  { page := 0xB8 + n, off := 0x40, hi := 31, lo := 28, acc := .ro, rst := if n = 0 then 4 else 0, pair := false }

/-- ENGX.STAT.PORTS_OK: bits 22:16, RO, Table 10.8. -/
def ENGX.STAT.PORTS_OK (n : Nat) : Fld :=
  { page := 0xB8 + n, off := 0x40, hi := 22, lo := 16, acc := .ro, rst := 0, pair := false }

/-- ENGX.STAT.REPAIRS: bits 15:8, RO, Table 10.8. -/
def ENGX.STAT.REPAIRS (n : Nat) : Fld :=
  { page := 0xB8 + n, off := 0x40, hi := 15, lo := 8, acc := .ro, rst := 0, pair := false }

/-- ENGX.STAT.FLAG_PORT: bits 5:0, RO, Table 10.8. -/
def ENGX.STAT.FLAG_PORT (n : Nat) : Fld :=
  { page := 0xB8 + n, off := 0x40, hi := 5, lo := 0, acc := .ro, rst := 0, pair := false }

/-- ENGX.CHK_STAT.FLAGS: bits 4:0, W1C, Table 10.8. -/
def ENGX.CHK_STAT.FLAGS (n : Nat) : Fld :=
  { page := 0xB8 + n, off := 0x44, hi := 4, lo := 0, acc := .w1c, rst := 0, pair := false }

/-- ENGX.ECC_CNT.COUNT: bits 31:0, RC, Table 10.8. -/
def ENGX.ECC_CNT.COUNT (n : Nat) : Fld :=
  { page := 0xB8 + n, off := 0x48, hi := 31, lo := 0, acc := .rc, rst := 0, pair := false }

/-- ENGX.BIST_STAT.LAST_PASS: bits 31, RO, Table 10.8. -/
def ENGX.BIST_STAT.LAST_PASS (n : Nat) : Fld :=
  { page := 0xB8 + n, off := 0x4C, hi := 31, lo := 31, acc := .ro, rst := 0, pair := false }

/-- ENGX.BIST_STAT.PASSES: bits 15:8, RO, Table 10.8. -/
def ENGX.BIST_STAT.PASSES (n : Nat) : Fld :=
  { page := 0xB8 + n, off := 0x4C, hi := 15, lo := 8, acc := .ro, rst := 0, pair := false }

/-- ENGX.BIST_STAT.FAILS: bits 7:0, RO, Table 10.8. -/
def ENGX.BIST_STAT.FAILS (n : Nat) : Fld :=
  { page := 0xB8 + n, off := 0x4C, hi := 7, lo := 0, acc := .ro, rst := 0, pair := false }

/-- ENGX.BIST_TS.TS: bits 63:0, RO, Table 10.8. -/
def ENGX.BIST_TS.TS (n : Nat) : Fld :=
  { page := 0xB8 + n, off := 0x50, hi := 63, lo := 0, acc := .ro, rst := 0, pair := true }

/-- The fields of ENGX whose registers carry no index. -/
def ENGX.plain (n : Nat) : List Fld :=
   [ENGX.STAT.ESTATE n,
    ENGX.STAT.PORTS_OK n,
    ENGX.STAT.REPAIRS n,
    ENGX.STAT.FLAG_PORT n,
    ENGX.CHK_STAT.FLAGS n,
    ENGX.ECC_CNT.COUNT n,
    ENGX.BIST_STAT.LAST_PASS n,
    ENGX.BIST_STAT.PASSES n] ++
   [ENGX.BIST_STAT.FAILS n,
    ENGX.BIST_TS.TS n]

/-- The fields of the register of ENGX at page offset `off`. -/
def ENGX.at (n : Nat) (off : Nat) : List Fld :=
  
  (ENGX.plain n).filter (·.covers off)

/-- Every field of ENGX. -/
def ENGX.fields (n : Nat) : List Fld :=
  ENGX.plain n

/-! ### HPT (Table 7.5, Table 8.11) -/

/-- HPT.FIRE_P_0.GAP: bits 28:16, RW, Table 7.5. -/
def HPT.FIRE_P_0.GAP (n : Nat) : Fld :=
  { page := 0x100 + n, off := 0x200, hi := 28, lo := 16, acc := .rw, rst := 0, pair := false }

/-- HPT.FIRE_P_0.PRE: bits 12:0, RW, Table 7.5. -/
def HPT.FIRE_P_0.PRE (n : Nat) : Fld :=
  { page := 0x100 + n, off := 0x200, hi := 12, lo := 0, acc := .rw, rst := 0, pair := false }

/-- HPT.FIRE_W_0.MAIN: bits 12:0, RW, Table 7.5. -/
def HPT.FIRE_W_0.MAIN (n : Nat) : Fld :=
  { page := 0x100 + n, off := 0x204, hi := 12, lo := 0, acc := .rw, rst := 0, pair := false }

/-- HPT.EFF_P.GAP: bits 28:16, RO, Table 7.5. -/
def HPT.EFF_P.GAP (n i : Nat) : Fld :=
  { page := 0x100 + n, off := 0x210 + 8 * i, hi := 28, lo := 16, acc := .ro, rst := 0, pair := false }

/-- HPT.EFF_P.PRE: bits 12:0, RO, Table 7.5. -/
def HPT.EFF_P.PRE (n i : Nat) : Fld :=
  { page := 0x100 + n, off := 0x210 + 8 * i, hi := 12, lo := 0, acc := .ro, rst := 0, pair := false }

/-- HPT.EFF_W.MAIN: bits 12:0, RO, Table 7.5. -/
def HPT.EFF_W.MAIN (n i : Nat) : Fld :=
  { page := 0x100 + n, off := 0x214 + 8 * i, hi := 12, lo := 0, acc := .ro, rst := 0, pair := false }

/-- HPT.EFF_CLAMP.CLASS: bits 3:0, RO, Table 7.5. -/
def HPT.EFF_CLAMP.CLASS (n : Nat) : Fld :=
  { page := 0x100 + n, off := 0x230, hi := 3, lo := 0, acc := .ro, rst := 0, pair := false }

/-- HPT.FIRE_P_X.GAP: bits 28:16, RWX, Table 7.5. -/
def HPT.FIRE_P_X.GAP (n i : Nat) : Fld :=
  { page := 0x100 + n, off := 0x600 + 8 * i, hi := 28, lo := 16, acc := .rwx, rst := 0, pair := false }

/-- HPT.FIRE_P_X.PRE: bits 12:0, RWX, Table 7.5. -/
def HPT.FIRE_P_X.PRE (n i : Nat) : Fld :=
  { page := 0x100 + n, off := 0x600 + 8 * i, hi := 12, lo := 0, acc := .rwx, rst := 0, pair := false }

/-- HPT.FIRE_W_X.MAIN: bits 12:0, RWX, Table 7.5. -/
def HPT.FIRE_W_X.MAIN (n i : Nat) : Fld :=
  { page := 0x100 + n, off := 0x604 + 8 * i, hi := 12, lo := 0, acc := .rwx, rst := 0, pair := false }

/-- HPT.CLASS_EN.EN: bits 3:1, RWX, Table 7.5. -/
def HPT.CLASS_EN.EN (n : Nat) : Fld :=
  { page := 0x100 + n, off := 0x618, hi := 3, lo := 1, acc := .rwx, rst := 0, pair := false }

/-- HPT.CLASS_EN.ONE: bits 0, RO, Table 7.5: class 0, always enabled. -/
def HPT.CLASS_EN.ONE (n : Nat) : Fld :=
  { page := 0x100 + n, off := 0x618, hi := 0, lo := 0, acc := .ro, rst := 1, pair := false }

/-- HPT.LINK_CFG.AUTO_TRAIN: bits 31, RW, Table 8.11. -/
def HPT.LINK_CFG.AUTO_TRAIN (n : Nat) : Fld :=
  { page := 0x100 + n, off := 0x40, hi := 31, lo := 31, acc := .rw, rst := 1, pair := false }

/-- HPT.LINK_CFG.RETRY: bits 27:24, RW, Table 8.11. -/
def HPT.LINK_CFG.RETRY (n : Nat) : Fld :=
  { page := 0x100 + n, off := 0x40, hi := 27, lo := 24, acc := .rw, rst := 3, pair := false }

/-- HPT.LINK_CFG.SETTLE: bits 23:16, RW, Table 8.11. -/
def HPT.LINK_CFG.SETTLE (n : Nat) : Fld :=
  { page := 0x100 + n, off := 0x40, hi := 23, lo := 16, acc := .rw, rst := 10, pair := false }

/-- HPT.LINK_CFG.EYE_MIN: bits 15:8, RW, Table 8.11. -/
def HPT.LINK_CFG.EYE_MIN (n : Nat) : Fld :=
  { page := 0x100 + n, off := 0x40, hi := 15, lo := 8, acc := .rw, rst := 12, pair := false }

/-- HPT.LINK_CFG.RESEND_EN: bits 0, RW, Table 8.11. -/
def HPT.LINK_CFG.RESEND_EN (n : Nat) : Fld :=
  { page := 0x100 + n, off := 0x40, hi := 0, lo := 0, acc := .rw, rst := 1, pair := false }

/-- HPT.LINK_CMD.DOWN: bits 1, WO, Table 8.11. -/
def HPT.LINK_CMD.DOWN (n : Nat) : Fld :=
  { page := 0x100 + n, off := 0x44, hi := 1, lo := 1, acc := .wo, rst := 0, pair := false }

/-- HPT.LINK_CMD.TRAIN: bits 0, WO, Table 8.11. -/
def HPT.LINK_CMD.TRAIN (n : Nat) : Fld :=
  { page := 0x100 + n, off := 0x44, hi := 0, lo := 0, acc := .wo, rst := 0, pair := false }

/-- HPT.LINK_STAT.STATE: bits 31:28, RO, Table 8.11. -/
def HPT.LINK_STAT.STATE (n : Nat) : Fld :=
  { page := 0x100 + n, off := 0x48, hi := 31, lo := 28, acc := .ro, rst := 0, pair := false }

/-- HPT.LINK_STAT.MISMATCH: bits 24, RO, Table 8.11. -/
def HPT.LINK_STAT.MISMATCH (n : Nat) : Fld :=
  { page := 0x100 + n, off := 0x48, hi := 24, lo := 24, acc := .ro, rst := 0, pair := false }

/-- HPT.LINK_STAT.FAIL_CODE: bits 23:16, RO, Table 8.11. -/
def HPT.LINK_STAT.FAIL_CODE (n : Nat) : Fld :=
  { page := 0x100 + n, off := 0x48, hi := 23, lo := 16, acc := .ro, rst := 0, pair := false }

/-- HPT.LINK_STAT.LANE_FAIL: bits 11:8, RO, Table 8.11. -/
def HPT.LINK_STAT.LANE_FAIL (n : Nat) : Fld :=
  { page := 0x100 + n, off := 0x48, hi := 11, lo := 8, acc := .ro, rst := 0, pair := false }

/-- HPT.LINK_STAT.TRIES: bits 7:0, RO, Table 8.11. -/
def HPT.LINK_STAT.TRIES (n : Nat) : Fld :=
  { page := 0x100 + n, off := 0x48, hi := 7, lo := 0, acc := .ro, rst := 0, pair := false }

/-- HPT.EYE.WIDTH_PS: bits 31:16, RO, Table 8.11. -/
def HPT.EYE.WIDTH_PS (n i : Nat) : Fld :=
  { page := 0x100 + n, off := 0x50 + 4 * i, hi := 31, lo := 16, acc := .ro, rst := 0, pair := false }

/-- HPT.EYE.CENTRE: bits 4:0, RO, Table 8.11. -/
def HPT.EYE.CENTRE (n i : Nat) : Fld :=
  { page := 0x100 + n, off := 0x50 + 4 * i, hi := 4, lo := 0, acc := .ro, rst := 0, pair := false }

/-- HPT.BCK_EYE.WIDTH_PS: bits 31:16, RO, Table 8.11. -/
def HPT.BCK_EYE.WIDTH_PS (n : Nat) : Fld :=
  { page := 0x100 + n, off := 0x60, hi := 31, lo := 16, acc := .ro, rst := 0, pair := false }

/-- HPT.BCK_EYE.CENTRE: bits 4:0, RO, Table 8.11. -/
def HPT.BCK_EYE.CENTRE (n : Nat) : Fld :=
  { page := 0x100 + n, off := 0x60, hi := 4, lo := 0, acc := .ro, rst := 0, pair := false }

/-- HPT.SKEW.LANES: bits 19:0, RO, Table 8.11. -/
def HPT.SKEW.LANES (n : Nat) : Fld :=
  { page := 0x100 + n, off := 0x64, hi := 19, lo := 0, acc := .ro, rst := 0, pair := false }

/-- HPT.HEAD_ID.ID: bits 31:0, RO, Table 8.11. -/
def HPT.HEAD_ID.ID (n i : Nat) : Fld :=
  { page := 0x100 + n, off := 0x68 + 4 * i, hi := 31, lo := 0, acc := .ro, rst := 0, pair := false }

/-- HPT.LAT_FIRE.STEPS: bits 8:0, RW, Table 8.11. -/
def HPT.LAT_FIRE.STEPS (n : Nat) : Fld :=
  { page := 0x100 + n, off := 0x74, hi := 8, lo := 0, acc := .rw, rst := 0x140, pair := false }

/-- HPT.CRC_ERR_CNT.COUNT: bits 31:0, RC, Table 8.11. -/
def HPT.CRC_ERR_CNT.COUNT (n : Nat) : Fld :=
  { page := 0x100 + n, off := 0x78, hi := 31, lo := 0, acc := .rc, rst := 0, pair := false }

/-- HPT.RESEND_CNT.COUNT: bits 31:0, RC, Table 8.11. -/
def HPT.RESEND_CNT.COUNT (n : Nat) : Fld :=
  { page := 0x100 + n, off := 0x7C, hi := 31, lo := 0, acc := .rc, rst := 0, pair := false }

/-- HPT.REFUSED_CNT.COUNT: bits 31:0, RC, Table 8.11. -/
def HPT.REFUSED_CNT.COUNT (n : Nat) : Fld :=
  { page := 0x100 + n, off := 0x80, hi := 31, lo := 0, acc := .rc, rst := 0, pair := false }

/-- HPT.BCK_ERR_CNT.COUNT: bits 31:0, RC, Table 8.11. -/
def HPT.BCK_ERR_CNT.COUNT (n : Nat) : Fld :=
  { page := 0x100 + n, off := 0x84, hi := 31, lo := 0, acc := .rc, rst := 0, pair := false }

/-- HPT.LAT_CNT.COUNT: bits 63:0, RO, Table 8.11. -/
def HPT.LAT_CNT.COUNT (n : Nat) : Fld :=
  { page := 0x100 + n, off := 0x88, hi := 63, lo := 0, acc := .ro, rst := 0, pair := true }

/-- HPT.HREG_CMD.GO: bits 31, WO, Table 8.11. -/
def HPT.HREG_CMD.GO (n : Nat) : Fld :=
  { page := 0x100 + n, off := 0x400, hi := 31, lo := 31, acc := .wo, rst := 0, pair := false }

/-- HPT.HREG_CMD.WRITE: bits 30, RWX, Table 8.11. -/
def HPT.HREG_CMD.WRITE (n : Nat) : Fld :=
  { page := 0x100 + n, off := 0x400, hi := 30, lo := 30, acc := .rwx, rst := 0, pair := false }

/-- HPT.HREG_CMD.ADDR: bits 15:0, RWX, Table 8.11. -/
def HPT.HREG_CMD.ADDR (n : Nat) : Fld :=
  { page := 0x100 + n, off := 0x400, hi := 15, lo := 0, acc := .rwx, rst := 0, pair := false }

/-- HPT.HREG_DATA.DATA: bits 31:0, RWX, Table 8.11. -/
def HPT.HREG_DATA.DATA (n : Nat) : Fld :=
  { page := 0x100 + n, off := 0x404, hi := 31, lo := 0, acc := .rwx, rst := 0, pair := false }

/-- HPT.HREG_STAT.BUSY: bits 31, RO, Table 8.11. -/
def HPT.HREG_STAT.BUSY (n : Nat) : Fld :=
  { page := 0x100 + n, off := 0x408, hi := 31, lo := 31, acc := .ro, rst := 0, pair := false }

/-- HPT.HREG_STAT.RESULT: bits 1:0, RO, Table 8.11. -/
def HPT.HREG_STAT.RESULT (n : Nat) : Fld :=
  { page := 0x100 + n, off := 0x408, hi := 1, lo := 0, acc := .ro, rst := 0, pair := false }

/-- HPT.DEGRADE.THRESH: bits 15:0, RWX, Table 8.11. -/
def HPT.DEGRADE.THRESH (n : Nat) : Fld :=
  { page := 0x100 + n, off := 0x40C, hi := 15, lo := 0, acc := .rwx, rst := 16, pair := false }

/-- HPT.TX_DLY.OVR: bits 31, RWX, Table 8.11. -/
def HPT.TX_DLY.OVR (n : Nat) : Fld :=
  { page := 0x100 + n, off := 0x410, hi := 31, lo := 31, acc := .rwx, rst := 0, pair := false }

/-- HPT.TX_DLY.DLY: bits 19:0, RWX, Table 8.11. -/
def HPT.TX_DLY.DLY (n : Nat) : Fld :=
  { page := 0x100 + n, off := 0x410, hi := 19, lo := 0, acc := .rwx, rst := 0, pair := false }

/-- The fields of HPT whose registers carry no index. -/
def HPT.plain (n : Nat) : List Fld :=
   [HPT.FIRE_P_0.GAP n,
    HPT.FIRE_P_0.PRE n,
    HPT.FIRE_W_0.MAIN n,
    HPT.EFF_CLAMP.CLASS n,
    HPT.CLASS_EN.EN n,
    HPT.CLASS_EN.ONE n,
    HPT.LINK_CFG.AUTO_TRAIN n,
    HPT.LINK_CFG.RETRY n,
    HPT.LINK_CFG.SETTLE n] ++
   [HPT.LINK_CFG.EYE_MIN n,
    HPT.LINK_CFG.RESEND_EN n,
    HPT.LINK_CMD.DOWN n,
    HPT.LINK_CMD.TRAIN n,
    HPT.LINK_STAT.STATE n,
    HPT.LINK_STAT.MISMATCH n,
    HPT.LINK_STAT.FAIL_CODE n,
    HPT.LINK_STAT.LANE_FAIL n] ++
   [HPT.LINK_STAT.TRIES n,
    HPT.BCK_EYE.WIDTH_PS n,
    HPT.BCK_EYE.CENTRE n,
    HPT.SKEW.LANES n,
    HPT.LAT_FIRE.STEPS n,
    HPT.CRC_ERR_CNT.COUNT n,
    HPT.RESEND_CNT.COUNT n,
    HPT.REFUSED_CNT.COUNT n] ++
   [HPT.BCK_ERR_CNT.COUNT n,
    HPT.LAT_CNT.COUNT n,
    HPT.HREG_CMD.GO n,
    HPT.HREG_CMD.WRITE n,
    HPT.HREG_CMD.ADDR n,
    HPT.HREG_DATA.DATA n,
    HPT.HREG_STAT.BUSY n,
    HPT.HREG_STAT.RESULT n] ++
   [HPT.DEGRADE.THRESH n,
    HPT.TX_DLY.OVR n,
    HPT.TX_DLY.DLY n]

/-- The fields of the register of HPT at page offset `off`. -/
def HPT.at (n : Nat) (off : Nat) : List Fld :=
  if 0x210 ≤ off ∧ off < 0x230 ∧ (off - 0x210) % 8 = 0 then [HPT.EFF_P.GAP n ((off - 0x210) / 8), HPT.EFF_P.PRE n ((off - 0x210) / 8)] else
  if 0x214 ≤ off ∧ off < 0x234 ∧ (off - 0x214) % 8 = 0 then [HPT.EFF_W.MAIN n ((off - 0x214) / 8)] else
  if 0x600 ≤ off ∧ off < 0x618 ∧ (off - 0x600) % 8 = 0 then [HPT.FIRE_P_X.GAP n ((off - 0x600) / 8), HPT.FIRE_P_X.PRE n ((off - 0x600) / 8)] else
  if 0x604 ≤ off ∧ off < 0x61C ∧ (off - 0x604) % 8 = 0 then [HPT.FIRE_W_X.MAIN n ((off - 0x604) / 8)] else
  if 0x50 ≤ off ∧ off < 0x60 then [HPT.EYE.WIDTH_PS n ((off - 0x50) / 4), HPT.EYE.CENTRE n ((off - 0x50) / 4)] else
  if 0x68 ≤ off ∧ off < 0x74 then [HPT.HEAD_ID.ID n ((off - 0x68) / 4)] else
  (HPT.plain n).filter (·.covers off)

/-- Every field of HPT. -/
def HPT.fields (n : Nat) : List Fld :=
  HPT.plain n ++
  ((List.range 4).flatMap fun i => [HPT.EFF_P.GAP n i, HPT.EFF_P.PRE n i]) ++
  ((List.range 4).flatMap fun i => [HPT.EFF_W.MAIN n i]) ++
  ((List.range 3).flatMap fun i => [HPT.FIRE_P_X.GAP n i, HPT.FIRE_P_X.PRE n i]) ++
  ((List.range 3).flatMap fun i => [HPT.FIRE_W_X.MAIN n i]) ++
  ((List.range 4).flatMap fun i => [HPT.EYE.WIDTH_PS n i, HPT.EYE.CENTRE n i]) ++
  ((List.range 3).flatMap fun i => [HPT.HEAD_ID.ID n i])

/-! ### MOTC (Table 16.3) -/

/-- MOTC.MOVING.AXES: bits 7:0, RO, Table 16.3. -/
def MOTC.MOVING.AXES : Fld :=
  { page := 0x140, off := 0x40, hi := 7, lo := 0, acc := .ro, rst := 0, pair := false }

/-- MOTC.STOP_ALL.GO: bits 0, WO, Table 16.3. -/
def MOTC.STOP_ALL.GO : Fld :=
  { page := 0x140, off := 0x44, hi := 0, lo := 0, acc := .wo, rst := 0, pair := false }

/-- MOTC.SPIT_PORTS.PORTS: bits 63:0, RW, Table 16.3. -/
def MOTC.SPIT_PORTS.PORTS : Fld :=
  { page := 0x140, off := 0x48, hi := 63, lo := 0, acc := .rw, rst := 0, pair := true }

/-- MOTC.SPIT_CFG.FAILED: bits 31, RW, Table 16.3. -/
def MOTC.SPIT_CFG.FAILED : Fld :=
  { page := 0x140, off := 0x50, hi := 31, lo := 31, acc := .rw, rst := 0, pair := false }

/-- MOTC.SPIT_CFG.COUNT: bits 30:16, RW, Table 16.3. -/
def MOTC.SPIT_CFG.COUNT : Fld :=
  { page := 0x140, off := 0x50, hi := 30, lo := 16, acc := .rw, rst := 100, pair := false }

/-- MOTC.SPIT_CFG.PERIOD_US: bits 15:0, RW, Table 16.3. -/
def MOTC.SPIT_CFG.PERIOD_US : Fld :=
  { page := 0x140, off := 0x50, hi := 15, lo := 0, acc := .rw, rst := 100, pair := false }

/-- MOTC.SPIT_CMD.STOP: bits 1, WO, Table 16.3. -/
def MOTC.SPIT_CMD.STOP : Fld :=
  { page := 0x140, off := 0x54, hi := 1, lo := 1, acc := .wo, rst := 0, pair := false }

/-- MOTC.SPIT_CMD.GO: bits 0, WO, Table 16.3. -/
def MOTC.SPIT_CMD.GO : Fld :=
  { page := 0x140, off := 0x54, hi := 0, lo := 0, acc := .wo, rst := 0, pair := false }

/-- MOTC.SPIT_STAT.BUSY: bits 31, RO, Table 16.3. -/
def MOTC.SPIT_STAT.BUSY : Fld :=
  { page := 0x140, off := 0x58, hi := 31, lo := 31, acc := .ro, rst := 0, pair := false }

/-- MOTC.SPIT_STAT.CUT: bits 6:0, RC, Table 16.3. -/
def MOTC.SPIT_STAT.CUT : Fld :=
  { page := 0x140, off := 0x58, hi := 6, lo := 0, acc := .rc, rst := 0, pair := false }

/-- The fields of MOTC whose registers carry no index. -/
def MOTC.plain : List Fld :=
   [MOTC.MOVING.AXES,
    MOTC.STOP_ALL.GO,
    MOTC.SPIT_PORTS.PORTS,
    MOTC.SPIT_CFG.FAILED,
    MOTC.SPIT_CFG.COUNT,
    MOTC.SPIT_CFG.PERIOD_US,
    MOTC.SPIT_CMD.STOP,
    MOTC.SPIT_CMD.GO] ++
   [MOTC.SPIT_STAT.BUSY,
    MOTC.SPIT_STAT.CUT]

/-- The fields of the register of MOTC at page offset `off`. -/
def MOTC.at (off : Nat) : List Fld :=
  
  (MOTC.plain).filter (·.covers off)

/-- Every field of MOTC. -/
def MOTC.fields : List Fld :=
  MOTC.plain

/-! ### MOT (Table 16.2) -/

/-- MOT.CFG.HOME_MODE: bits 9:8, RW, Table 16.2. -/
def MOT.CFG.HOME_MODE (n : Nat) : Fld :=
  { page := 0x141 + n, off := 0x40, hi := 9, lo := 8, acc := .rw, rst := 0, pair := false }

/-- MOT.CFG.LIM_POL: bits 7:6, RW, Table 16.2. -/
def MOT.CFG.LIM_POL (n : Nat) : Fld :=
  { page := 0x141 + n, off := 0x40, hi := 7, lo := 6, acc := .rw, rst := 0, pair := false }

/-- MOT.CFG.SOFT_EN: bits 5, RW, Table 16.2. -/
def MOT.CFG.SOFT_EN (n : Nat) : Fld :=
  { page := 0x141 + n, off := 0x40, hi := 5, lo := 5, acc := .rw, rst := 0, pair := false }

/-- MOT.CFG.REQUIRE_HOME: bits 4, RW, Table 16.2. -/
def MOT.CFG.REQUIRE_HOME (n : Nat) : Fld :=
  { page := 0x141 + n, off := 0x40, hi := 4, lo := 4, acc := .rw, rst := 1, pair := false }

/-- MOT.CFG.INVERT: bits 3, RW, Table 16.2. -/
def MOT.CFG.INVERT (n : Nat) : Fld :=
  { page := 0x141 + n, off := 0x40, hi := 3, lo := 3, acc := .rw, rst := 0, pair := false }

/-- MOT.CFG.SAFE_MODE: bits 0, RW, Table 16.2. -/
def MOT.CFG.SAFE_MODE (n : Nat) : Fld :=
  { page := 0x141 + n, off := 0x40, hi := 0, lo := 0, acc := .rw, rst := 0, pair := false }

/-- MOT.TARGET.POS: bits 31:0, RW, Table 16.2. -/
def MOT.TARGET.POS (n : Nat) : Fld :=
  { page := 0x141 + n, off := 0x44, hi := 31, lo := 0, acc := .rw, rst := 0, pair := false }

/-- MOT.CMD.SET_POS: bits 4, WO, Table 16.2. -/
def MOT.CMD.SET_POS (n : Nat) : Fld :=
  { page := 0x141 + n, off := 0x48, hi := 4, lo := 4, acc := .wo, rst := 0, pair := false }

/-- MOT.CMD.QSTOP: bits 3, WO, Table 16.2. -/
def MOT.CMD.QSTOP (n : Nat) : Fld :=
  { page := 0x141 + n, off := 0x48, hi := 3, lo := 3, acc := .wo, rst := 0, pair := false }

/-- MOT.CMD.STOP: bits 2, WO, Table 16.2. -/
def MOT.CMD.STOP (n : Nat) : Fld :=
  { page := 0x141 + n, off := 0x48, hi := 2, lo := 2, acc := .wo, rst := 0, pair := false }

/-- MOT.CMD.HOME: bits 1, WO, Table 16.2. -/
def MOT.CMD.HOME (n : Nat) : Fld :=
  { page := 0x141 + n, off := 0x48, hi := 1, lo := 1, acc := .wo, rst := 0, pair := false }

/-- MOT.CMD.START: bits 0, WO, Table 16.2. -/
def MOT.CMD.START (n : Nat) : Fld :=
  { page := 0x141 + n, off := 0x48, hi := 0, lo := 0, acc := .wo, rst := 0, pair := false }

/-- MOT.POS_SET.POS: bits 31:0, RW, Table 16.2. -/
def MOT.POS_SET.POS (n : Nat) : Fld :=
  { page := 0x141 + n, off := 0x4C, hi := 31, lo := 0, acc := .rw, rst := 0, pair := false }

/-- MOT.V_MAX.V: bits 31:0, RW, Table 16.2. -/
def MOT.V_MAX.V (n : Nat) : Fld :=
  { page := 0x141 + n, off := 0x50, hi := 31, lo := 0, acc := .rw, rst := 0xFA000, pair := false }

/-- MOT.A_MAX.A: bits 31:0, RW, Table 16.2. -/
def MOT.A_MAX.A (n : Nat) : Fld :=
  { page := 0x141 + n, off := 0x54, hi := 31, lo := 0, acc := .rw, rst := 0x9C40, pair := false }

/-- MOT.D_MAX.D: bits 31:0, RW, Table 16.2. -/
def MOT.D_MAX.D (n : Nat) : Fld :=
  { page := 0x141 + n, off := 0x58, hi := 31, lo := 0, acc := .rw, rst := 0x9C40, pair := false }

/-- MOT.J_MAX.J: bits 31:0, RW, Table 16.2. -/
def MOT.J_MAX.J (n : Nat) : Fld :=
  { page := 0x141 + n, off := 0x5C, hi := 31, lo := 0, acc := .rw, rst := 0x1E8480, pair := false }

/-- MOT.CURRENT.I_RUN: bits 31:16, RW, Table 16.2. -/
def MOT.CURRENT.I_RUN (n : Nat) : Fld :=
  { page := 0x141 + n, off := 0x60, hi := 31, lo := 16, acc := .rw, rst := 0x1F4, pair := false }

/-- MOT.CURRENT.I_HOLD: bits 15:0, RW, Table 16.2. -/
def MOT.CURRENT.I_HOLD (n : Nat) : Fld :=
  { page := 0x141 + n, off := 0x60, hi := 15, lo := 0, acc := .rw, rst := 250, pair := false }

/-- MOT.HOLD_DELAY.SETTLE_US: bits 31:16, RW, Table 16.2. -/
def MOT.HOLD_DELAY.SETTLE_US (n : Nat) : Fld :=
  { page := 0x141 + n, off := 0x64, hi := 31, lo := 16, acc := .rw, rst := 100, pair := false }

/-- MOT.HOLD_DELAY.MS: bits 15:0, RW, Table 16.2. -/
def MOT.HOLD_DELAY.MS (n : Nat) : Fld :=
  { page := 0x141 + n, off := 0x64, hi := 15, lo := 0, acc := .rw, rst := 200, pair := false }

/-- MOT.DEBOUNCE.CHATTER: bits 31:24, RW, Table 16.2. -/
def MOT.DEBOUNCE.CHATTER (n : Nat) : Fld :=
  { page := 0x141 + n, off := 0x68, hi := 31, lo := 24, acc := .rw, rst := 8, pair := false }

/-- MOT.DEBOUNCE.US: bits 13:0, RW, Table 16.2. -/
def MOT.DEBOUNCE.US (n : Nat) : Fld :=
  { page := 0x141 + n, off := 0x68, hi := 13, lo := 0, acc := .rw, rst := 0x3E8, pair := false }

/-- MOT.HOME_CFG.V: bits 31:16, RW, Table 16.2. -/
def MOT.HOME_CFG.V (n : Nat) : Fld :=
  { page := 0x141 + n, off := 0x6C, hi := 31, lo := 16, acc := .rw, rst := 0x1F4, pair := false }

/-- MOT.HOME_CFG.BACKOFF: bits 15:0, RW, Table 16.2. -/
def MOT.HOME_CFG.BACKOFF (n : Nat) : Fld :=
  { page := 0x141 + n, off := 0x6C, hi := 15, lo := 0, acc := .rw, rst := 50, pair := false }

/-- MOT.HOME_MAX.STEPS: bits 31:0, RW, Table 16.2. -/
def MOT.HOME_MAX.STEPS (n : Nat) : Fld :=
  { page := 0x141 + n, off := 0x70, hi := 31, lo := 0, acc := .rw, rst := 0x186A0, pair := false }

/-- MOT.HOME_POS.POS: bits 31:0, RW, Table 16.2. -/
def MOT.HOME_POS.POS (n : Nat) : Fld :=
  { page := 0x141 + n, off := 0x74, hi := 31, lo := 0, acc := .rw, rst := 0, pair := false }

/-- MOT.SOFT_LO.POS: bits 31:0, RW, Table 16.2. -/
def MOT.SOFT_LO.POS (n : Nat) : Fld :=
  { page := 0x141 + n, off := 0x78, hi := 31, lo := 0, acc := .rw, rst := 0x80000000, pair := false }

/-- MOT.SOFT_HI.POS: bits 31:0, RW, Table 16.2. -/
def MOT.SOFT_HI.POS (n : Nat) : Fld :=
  { page := 0x141 + n, off := 0x7C, hi := 31, lo := 0, acc := .rw, rst := 0x7FFFFFFF, pair := false }

/-- MOT.POS.POS: bits 31:0, RO, Table 16.2. -/
def MOT.POS.POS (n : Nat) : Fld :=
  { page := 0x141 + n, off := 0x80, hi := 31, lo := 0, acc := .ro, rst := 0, pair := false }

/-- MOT.VEL.V: bits 31:0, RO, Table 16.2. -/
def MOT.VEL.V (n : Nat) : Fld :=
  { page := 0x141 + n, off := 0x84, hi := 31, lo := 0, acc := .ro, rst := 0, pair := false }

/-- MOT.STAT.REFUSE: bits 31:28, RO, Table 16.2. -/
def MOT.STAT.REFUSE (n : Nat) : Fld :=
  { page := 0x141 + n, off := 0x88, hi := 31, lo := 28, acc := .ro, rst := 0, pair := false }

/-- MOT.STAT.MSTEP: bits 27:26, RO, Table 16.2. -/
def MOT.STAT.MSTEP (n : Nat) : Fld :=
  { page := 0x141 + n, off := 0x88, hi := 27, lo := 26, acc := .ro, rst := 0, pair := false }

/-- MOT.STAT.OFF: bits 11, RO, Table 16.2. -/
def MOT.STAT.OFF (n : Nat) : Fld :=
  { page := 0x141 + n, off := 0x88, hi := 11, lo := 11, acc := .ro, rst := 1, pair := false }

/-- MOT.STAT.LNH: bits 10, W1C, Table 16.2. -/
def MOT.STAT.LNH (n : Nat) : Fld :=
  { page := 0x141 + n, off := 0x88, hi := 10, lo := 10, acc := .w1c, rst := 0, pair := false }

/-- MOT.STAT.LIMP: bits 9, RO, Table 16.2. -/
def MOT.STAT.LIMP (n : Nat) : Fld :=
  { page := 0x141 + n, off := 0x88, hi := 9, lo := 9, acc := .ro, rst := 0, pair := false }

/-- MOT.STAT.LIMN: bits 8, RO, Table 16.2. -/
def MOT.STAT.LIMN (n : Nat) : Fld :=
  { page := 0x141 + n, off := 0x88, hi := 8, lo := 8, acc := .ro, rst := 0, pair := false }

/-- MOT.STAT.STALLED: bits 7, W1C, Table 16.2. -/
def MOT.STAT.STALLED (n : Nat) : Fld :=
  { page := 0x141 + n, off := 0x88, hi := 7, lo := 7, acc := .w1c, rst := 0, pair := false }

/-- MOT.STAT.HOMING: bits 6, RO, Table 16.2. -/
def MOT.STAT.HOMING (n : Nat) : Fld :=
  { page := 0x141 + n, off := 0x88, hi := 6, lo := 6, acc := .ro, rst := 0, pair := false }

/-- MOT.STAT.HOMED: bits 5, RO, Table 16.2. -/
def MOT.STAT.HOMED (n : Nat) : Fld :=
  { page := 0x141 + n, off := 0x88, hi := 5, lo := 5, acc := .ro, rst := 0, pair := false }

/-- MOT.STAT.IN_POS: bits 4, RO, Table 16.2. -/
def MOT.STAT.IN_POS (n : Nat) : Fld :=
  { page := 0x141 + n, off := 0x88, hi := 4, lo := 4, acc := .ro, rst := 0, pair := false }

/-- MOT.STAT.MOVING: bits 0, RO, Table 16.2. -/
def MOT.STAT.MOVING (n : Nat) : Fld :=
  { page := 0x141 + n, off := 0x88, hi := 0, lo := 0, acc := .ro, rst := 0, pair := false }

/-- MOT.LATCH_POS.POS: bits 31:0, RO, Table 16.2. -/
def MOT.LATCH_POS.POS (n : Nat) : Fld :=
  { page := 0x141 + n, off := 0x8C, hi := 31, lo := 0, acc := .ro, rst := 0, pair := false }

/-- MOT.LATCH_SRC.SRC: bits 0, RO, Table 16.2. -/
def MOT.LATCH_SRC.SRC (n : Nat) : Fld :=
  { page := 0x141 + n, off := 0x90, hi := 0, lo := 0, acc := .ro, rst := 0, pair := false }

/-- MOT.LOAD.I_ACT: bits 31:16, RO, Table 16.2. -/
def MOT.LOAD.I_ACT (n : Nat) : Fld :=
  { page := 0x141 + n, off := 0x94, hi := 31, lo := 16, acc := .ro, rst := 0, pair := false }

/-- MOT.LOAD.LOAD: bits 9:0, RO, Table 16.2. -/
def MOT.LOAD.LOAD (n : Nat) : Fld :=
  { page := 0x141 + n, off := 0x94, hi := 9, lo := 0, acc := .ro, rst := 0x3FF, pair := false }

/-- MOT.MSTEP_CFG.BASE: bits 31:28, RWX, Table 16.2. -/
def MOT.MSTEP_CFG.BASE (n : Nat) : Fld :=
  { page := 0x141 + n, off := 0x400, hi := 31, lo := 28, acc := .rwx, rst := 8, pair := false }

/-- MOT.MSTEP_CFG.V_FULL: bits 15:8, RWX, Table 16.2. -/
def MOT.MSTEP_CFG.V_FULL (n : Nat) : Fld :=
  { page := 0x141 + n, off := 0x400, hi := 15, lo := 8, acc := .rwx, rst := 0, pair := false }

/-- MOT.MSTEP_CFG.V_16: bits 7:0, RWX, Table 16.2. -/
def MOT.MSTEP_CFG.V_16 (n : Nat) : Fld :=
  { page := 0x141 + n, off := 0x400, hi := 7, lo := 0, acc := .rwx, rst := 32, pair := false }

/-- MOT.PWM_CFG.DEAD_NS: bits 31:22, RWX, Table 16.2. -/
def MOT.PWM_CFG.DEAD_NS (n : Nat) : Fld :=
  { page := 0x141 + n, off := 0x404, hi := 31, lo := 22, acc := .rwx, rst := 200, pair := false }

/-- MOT.PWM_CFG.KP: bits 21:11, RWX, Table 16.2. -/
def MOT.PWM_CFG.KP (n : Nat) : Fld :=
  { page := 0x141 + n, off := 0x404, hi := 21, lo := 11, acc := .rwx, rst := 64, pair := false }

/-- MOT.PWM_CFG.KI: bits 10:0, RWX, Table 16.2. -/
def MOT.PWM_CFG.KI (n : Nat) : Fld :=
  { page := 0x141 + n, off := 0x404, hi := 10, lo := 0, acc := .rwx, rst := 16, pair := false }

/-- MOT.STALL_CFG.TH: bits 31:22, RWX, Table 16.2. -/
def MOT.STALL_CFG.TH (n : Nat) : Fld :=
  { page := 0x141 + n, off := 0x408, hi := 31, lo := 22, acc := .rwx, rst := 0, pair := false }

/-- MOT.STALL_CFG.N: bits 21:16, RWX, Table 16.2. -/
def MOT.STALL_CFG.N (n : Nat) : Fld :=
  { page := 0x141 + n, off := 0x408, hi := 21, lo := 16, acc := .rwx, rst := 4, pair := false }

/-- MOT.STALL_CFG.VMIN: bits 15:0, RWX, Table 16.2. -/
def MOT.STALL_CFG.VMIN (n : Nat) : Fld :=
  { page := 0x141 + n, off := 0x408, hi := 15, lo := 0, acc := .rwx, rst := 200, pair := false }

/-- MOT.ADAPT_CFG.EN: bits 31, RWX, Table 16.2. -/
def MOT.ADAPT_CFG.EN (n : Nat) : Fld :=
  { page := 0x141 + n, off := 0x40C, hi := 31, lo := 31, acc := .rwx, rst := 0, pair := false }

/-- MOT.ADAPT_CFG.LOAD_HI: bits 30:20, RWX, Table 16.2. -/
def MOT.ADAPT_CFG.LOAD_HI (n : Nat) : Fld :=
  { page := 0x141 + n, off := 0x40C, hi := 30, lo := 20, acc := .rwx, rst := 0x258, pair := false }

/-- MOT.ADAPT_CFG.I_MIN: bits 15:0, RWX, Table 16.2. -/
def MOT.ADAPT_CFG.I_MIN (n : Nat) : Fld :=
  { page := 0x141 + n, off := 0x40C, hi := 15, lo := 0, acc := .rwx, rst := 150, pair := false }

/-- MOT.ADAPT_LO.LOAD_LO: bits 9:0, RWX, Table 16.2. -/
def MOT.ADAPT_LO.LOAD_LO (n : Nat) : Fld :=
  { page := 0x141 + n, off := 0x410, hi := 9, lo := 0, acc := .rwx, rst := 0x12C, pair := false }

/-- MOT.QS_A.A: bits 31:0, RWX, Table 16.2. -/
def MOT.QS_A.A (n : Nat) : Fld :=
  { page := 0x141 + n, off := 0x414, hi := 31, lo := 0, acc := .rwx, rst := 0x61A80, pair := false }

/-- MOT.SENSE_CFG.OC_LIM: bits 31:16, RWX, Table 16.2. -/
def MOT.SENSE_CFG.OC_LIM (n : Nat) : Fld :=
  { page := 0x141 + n, off := 0x418, hi := 31, lo := 16, acc := .rwx, rst := 0xBB8, pair := false }

/-- MOT.SENSE_CFG.FS_MA: bits 15:0, RWX, Table 16.2. -/
def MOT.SENSE_CFG.FS_MA (n : Nat) : Fld :=
  { page := 0x141 + n, off := 0x418, hi := 15, lo := 0, acc := .rwx, rst := 0xFFF, pair := false }

/-- The fields of MOT whose registers carry no index. -/
def MOT.plain (n : Nat) : List Fld :=
   [MOT.CFG.HOME_MODE n,
    MOT.CFG.LIM_POL n,
    MOT.CFG.SOFT_EN n,
    MOT.CFG.REQUIRE_HOME n,
    MOT.CFG.INVERT n,
    MOT.CFG.SAFE_MODE n,
    MOT.TARGET.POS n,
    MOT.CMD.SET_POS n] ++
   [MOT.CMD.QSTOP n,
    MOT.CMD.STOP n,
    MOT.CMD.HOME n,
    MOT.CMD.START n,
    MOT.POS_SET.POS n,
    MOT.V_MAX.V n,
    MOT.A_MAX.A n,
    MOT.D_MAX.D n] ++
   [MOT.J_MAX.J n,
    MOT.CURRENT.I_RUN n,
    MOT.CURRENT.I_HOLD n,
    MOT.HOLD_DELAY.SETTLE_US n,
    MOT.HOLD_DELAY.MS n,
    MOT.DEBOUNCE.CHATTER n,
    MOT.DEBOUNCE.US n,
    MOT.HOME_CFG.V n] ++
   [MOT.HOME_CFG.BACKOFF n,
    MOT.HOME_MAX.STEPS n,
    MOT.HOME_POS.POS n,
    MOT.SOFT_LO.POS n,
    MOT.SOFT_HI.POS n,
    MOT.POS.POS n,
    MOT.VEL.V n,
    MOT.STAT.REFUSE n] ++
   [MOT.STAT.MSTEP n,
    MOT.STAT.OFF n,
    MOT.STAT.LNH n,
    MOT.STAT.LIMP n,
    MOT.STAT.LIMN n,
    MOT.STAT.STALLED n,
    MOT.STAT.HOMING n,
    MOT.STAT.HOMED n] ++
   [MOT.STAT.IN_POS n,
    MOT.STAT.MOVING n,
    MOT.LATCH_POS.POS n,
    MOT.LATCH_SRC.SRC n,
    MOT.LOAD.I_ACT n,
    MOT.LOAD.LOAD n,
    MOT.MSTEP_CFG.BASE n,
    MOT.MSTEP_CFG.V_FULL n] ++
   [MOT.MSTEP_CFG.V_16 n,
    MOT.PWM_CFG.DEAD_NS n,
    MOT.PWM_CFG.KP n,
    MOT.PWM_CFG.KI n,
    MOT.STALL_CFG.TH n,
    MOT.STALL_CFG.N n,
    MOT.STALL_CFG.VMIN n,
    MOT.ADAPT_CFG.EN n] ++
   [MOT.ADAPT_CFG.LOAD_HI n,
    MOT.ADAPT_CFG.I_MIN n,
    MOT.ADAPT_LO.LOAD_LO n,
    MOT.QS_A.A n,
    MOT.SENSE_CFG.OC_LIM n,
    MOT.SENSE_CFG.FS_MA n]

/-- The fields of the register of MOT at page offset `off`. -/
def MOT.at (n : Nat) (off : Nat) : List Fld :=
  
  (MOT.plain n).filter (·.covers off)

/-- Every field of MOT. -/
def MOT.fields (n : Nat) : List Fld :=
  MOT.plain n

/-! ### GPIO (Table 21.2) -/

/-- GPIO.DIR.OUT_EN: bits 15:0, RW, Table 21.2. -/
def GPIO.DIR.OUT_EN : Fld :=
  { page := 0x150, off := 0x40, hi := 15, lo := 0, acc := .rw, rst := 0, pair := false }

/-- GPIO.OUT.LEVEL: bits 15:0, RW, Table 21.2. -/
def GPIO.OUT.LEVEL : Fld :=
  { page := 0x150, off := 0x44, hi := 15, lo := 0, acc := .rw, rst := 0, pair := false }

/-- GPIO.IN.LEVEL: bits 15:0, RO, Table 21.2. -/
def GPIO.IN.LEVEL : Fld :=
  { page := 0x150, off := 0x48, hi := 15, lo := 0, acc := .ro, rst := 0, pair := false }

/-- The fields of GPIO whose registers carry no index. -/
def GPIO.plain : List Fld :=
   [GPIO.DIR.OUT_EN,
    GPIO.OUT.LEVEL,
    GPIO.IN.LEVEL]

/-- The fields of the register of GPIO at page offset `off`. -/
def GPIO.at (off : Nat) : List Fld :=
  
  (GPIO.plain).filter (·.covers off)

/-- Every field of GPIO. -/
def GPIO.fields : List Fld :=
  GPIO.plain

/-! ### SMB (Table 21.2) -/

/-- SMB.CFG.WR_EN: bits 8, RW, Table 21.2. -/
def SMB.CFG.WR_EN : Fld :=
  { page := 0x151, off := 0x40, hi := 8, lo := 8, acc := .rw, rst := 0, pair := false }

/-- SMB.CFG.ADDR: bits 6:0, RW, Table 21.2. -/
def SMB.CFG.ADDR : Fld :=
  { page := 0x151, off := 0x40, hi := 6, lo := 0, acc := .rw, rst := 76, pair := false }

/-- SMB.PTR.OFFSET: bits 21:0, RO, Table 21.2. -/
def SMB.PTR.OFFSET : Fld :=
  { page := 0x151, off := 0x44, hi := 21, lo := 0, acc := .ro, rst := 0, pair := false }

/-- The fields of SMB whose registers carry no index. -/
def SMB.plain : List Fld :=
   [SMB.CFG.WR_EN,
    SMB.CFG.ADDR,
    SMB.PTR.OFFSET]

/-- The fields of the register of SMB at page offset `off`. -/
def SMB.at (off : Nat) : List Fld :=
  
  (SMB.plain).filter (·.covers off)

/-- Every field of SMB. -/
def SMB.fields : List Fld :=
  SMB.plain

/-! ### SPIF (Table 21.2) -/

/-- SPIF.ID.JEDEC: bits 23:0, RO, Table 21.2. -/
def SPIF.ID.JEDEC : Fld :=
  { page := 0x152, off := 0x40, hi := 23, lo := 0, acc := .ro, rst := 0, pair := false }

/-- SPIF.SIZE.LOG2: bits 4:0, RO, Table 21.2. -/
def SPIF.SIZE.LOG2 : Fld :=
  { page := 0x152, off := 0x44, hi := 4, lo := 0, acc := .ro, rst := 25, pair := false }

/-- SPIF.OP.GO: bits 31, WO, Table 21.2. -/
def SPIF.OP.GO : Fld :=
  { page := 0x152, off := 0x48, hi := 31, lo := 31, acc := .wo, rst := 0, pair := false }

/-- SPIF.OP.OPCODE: bits 1:0, RW, Table 21.2. -/
def SPIF.OP.OPCODE : Fld :=
  { page := 0x152, off := 0x48, hi := 1, lo := 0, acc := .rw, rst := 0, pair := false }

/-- SPIF.FLASH_ADDR.ADDR: bits 31:0, RW, Table 21.2. -/
def SPIF.FLASH_ADDR.ADDR : Fld :=
  { page := 0x152, off := 0x4C, hi := 31, lo := 0, acc := .rw, rst := 0, pair := false }

/-- SPIF.BASIN_ADDR.ADDR: bits 34:0, RW, Table 21.2. -/
def SPIF.BASIN_ADDR.ADDR : Fld :=
  { page := 0x152, off := 0x50, hi := 34, lo := 0, acc := .rw, rst := 0, pair := true }

/-- SPIF.LEN.BYTES: bits 16:0, RW, Table 21.2. -/
def SPIF.LEN.BYTES : Fld :=
  { page := 0x152, off := 0x58, hi := 16, lo := 0, acc := .rw, rst := 0, pair := false }

/-- SPIF.STAT.BUSY: bits 31, RO, Table 21.2. -/
def SPIF.STAT.BUSY : Fld :=
  { page := 0x152, off := 0x5C, hi := 31, lo := 31, acc := .ro, rst := 0, pair := false }

/-- SPIF.STAT.RESULT: bits 7:0, RO, Table 21.2. -/
def SPIF.STAT.RESULT : Fld :=
  { page := 0x152, off := 0x5C, hi := 7, lo := 0, acc := .ro, rst := 0, pair := false }

/-- The fields of SPIF whose registers carry no index. -/
def SPIF.plain : List Fld :=
   [SPIF.ID.JEDEC,
    SPIF.SIZE.LOG2,
    SPIF.OP.GO,
    SPIF.OP.OPCODE,
    SPIF.FLASH_ADDR.ADDR,
    SPIF.BASIN_ADDR.ADDR,
    SPIF.LEN.BYTES,
    SPIF.STAT.BUSY] ++
   [SPIF.STAT.RESULT]

/-- The fields of the register of SPIF at page offset `off`. -/
def SPIF.at (off : Nat) : List Fld :=
  
  (SPIF.plain).filter (·.covers off)

/-- Every field of SPIF. -/
def SPIF.fields : List Fld :=
  SPIF.plain

end Sys2Proof.Machine.Reg
end

