-- ==== Sys2Proof/Machine/Dev.lean ====
section
/-!
DEFINITION. The state of the device, block by block, as plain data.  Register fields live in the register file
`regs` (Fld.lean, RegTableA.lean, RegTableB.lean); the structures here hold what the manual gives a block beside
its registers: queues, FIFOs, maps, caches, wires and work in progress.  INVENTORY.md lists every piece.
-/
namespace Sys2Proof.Machine

/-! ### The page header (Tables 2.3 to 2.6) -/

namespace Reg.HDR

/-- The value of BLK_CTRL.ENABLE after reset: each chapter's own ("The reset value of ENABLE is ...").  The chapters name none
for SYS, CLK, PWR, FLT, PCI, GPIO, SMB, SPIF and DMAC, which have 1 here, and none for ENCC, which has 0 with the channels of
R275 (DESIGN CHOICE, notes/assumptions/5.md). -/
def enableRst (page : Nat) : Nat :=
  match Blk.ofPage page with
  | some (.HPT, _) | some (.ENC, _) | some (.ENCC, _) | some (.MOT, _) => 0
  | some _ => 1
  | none => 0

/-- The value of BLK_STATE.STATE at the end of reset.  Table 2.5 gives 0x0 or 0x1 in reset; R411, R469 and R477 say that their
pages read RUN from the end of reset, R325 that Basin and Shallows are OFFLINE while their wipes run; the other blocks with
ENABLE 1 run likewise when reset ends (DEDUCED, notes/assumptions/5.md). -/
def stateRst (page : Nat) : Nat :=
  match Blk.ofPage page with
  | some (.BAS, _) | some (.SHL, _) => 6
  | some (.DMA, _) | some (.CMP, _) | some (.HPT, _) | some (.ENC, _) | some (.MOT, _) => 1
  | some _ => 2
  | none => 0

/-- BLK_CTRL.LEVEL (Table 2.4). -/
def LEVEL (page : Nat) : Fld := { page, off := 0x008, hi := 8, lo := 8, acc := .rw, rst := 0, pair := false }
/-- BLK_CTRL.SOFT_RESET. -/
def SOFT_RESET (page : Nat) : Fld := { page, off := 0x008, hi := 4, lo := 4, acc := .w1s, rst := 0, pair := false }
/-- BLK_CTRL.KILL. -/
def KILL (page : Nat) : Fld := { page, off := 0x008, hi := 2, lo := 2, acc := .w1s, rst := 0, pair := false }
/-- BLK_CTRL.DRAIN. -/
def DRAIN (page : Nat) : Fld := { page, off := 0x008, hi := 1, lo := 1, acc := .w1s, rst := 0, pair := false }
/-- BLK_CTRL.ENABLE. -/
def ENABLE (page : Nat) : Fld := { page, off := 0x008, hi := 0, lo := 0, acc := .rw, rst := enableRst page, pair := false }
/-- BLK_STATE.EPOCH (Table 2.5). -/
def EPOCH (page : Nat) : Fld := { page, off := 0x00C, hi := 31, lo := 28, acc := .ro, rst := 0, pair := false }
/-- BLK_STATE.ABORTED. -/
def ABORTED (page : Nat) : Fld := { page, off := 0x00C, hi := 16, lo := 16, acc := .w1c, rst := 0, pair := false }
/-- BLK_STATE.STATE: 0 OFF, 1 IDLE, 2 RUN, 3 DRAINING, 4 STOPPED_PENDING, 5 RESET, 6 OFFLINE, 7 FAULT. -/
def STATE (page : Nat) : Fld := { page, off := 0x00C, hi := 3, lo := 0, acc := .ro, rst := stateRst page, pair := false }
/-- EV_RAW (Table 2.3). -/
def EV_RAW (page : Nat) : Fld := { page, off := 0x010, hi := 31, lo := 0, acc := .ro, rst := 0, pair := false }
/-- EV_MASK (Table 2.3). -/
def EV_MASK (page : Nat) : Fld := { page, off := 0x014, hi := 31, lo := 0, acc := .rw, rst := 0xFFFFFFFF, pair := false }
/-- FLT_LOCAL TS (Table 2.6). -/
def F_TS (page : Nat) : Fld := { page, off := 0x020, hi := 63, lo := 0, acc := .ro, rst := 0, pair := true }
/-- FLT_LOCAL ADDR. -/
def F_ADDR (page : Nat) : Fld := { page, off := 0x028, hi := 63, lo := 0, acc := .ro, rst := 0, pair := true }
/-- FLT_LOCAL VALID. -/
def F_VALID (page : Nat) : Fld := { page, off := 0x030, hi := 31, lo := 31, acc := .w1c, rst := 0, pair := false }
/-- FLT_LOCAL SEVERITY. -/
def F_SEVERITY (page : Nat) : Fld := { page, off := 0x030, hi := 26, lo := 24, acc := .ro, rst := 0, pair := false }
/-- FLT_LOCAL KIND. -/
def F_KIND (page : Nat) : Fld := { page, off := 0x030, hi := 23, lo := 16, acc := .ro, rst := 0, pair := false }
/-- FLT_LOCAL ACCESS. -/
def F_ACCESS (page : Nat) : Fld := { page, off := 0x030, hi := 11, lo := 8, acc := .ro, rst := 0, pair := false }
/-- FLT_LOCAL MASTER. -/
def F_MASTER (page : Nat) : Fld := { page, off := 0x030, hi := 7, lo := 0, acc := .ro, rst := 0, pair := false }
/-- FLT_LOCAL COUNT. -/
def F_COUNT (page : Nat) : Fld := { page, off := 0x034, hi := 31, lo := 0, acc := .ro, rst := 0, pair := false }
/-- FLT_LOCAL ARG. -/
def F_ARG (page : Nat) : Fld := { page, off := 0x038, hi := 31, lo := 0, acc := .ro, rst := 0, pair := false }

/-- Every header field of a page that a register holds. -/
def fields (page : Nat) : List Fld :=
  [LEVEL page, SOFT_RESET page, KILL page, DRAIN page, ENABLE page, EPOCH page, ABORTED page, STATE page] ++
  [EV_RAW page, EV_MASK page, F_TS page, F_ADDR page, F_VALID page, F_SEVERITY page, F_KIND page, F_ACCESS page] ++
  [F_MASTER page, F_COUNT page, F_ARG page]

end Reg.HDR

/-! ### Shared: outputs, requests, timers -/

/-- What the device gives to the outside (reads answered, bus writes, cells, frames, marks, pins), oldest first:
the model's own record, which no rule reads back. -/
inductive Output where
  /-- a register read answered -/
  | readData (master addr value : Nat)
  /-- bytes of Basin, Shallows or Sediment returned to the host, with the PCIe poison bit -/
  | readBytes (addr : Nat) (data : Bytes) (poisoned : Bool)
  /-- an MSI-X message on a vector -/
  | msix (vector : Nat)
  /-- a write to host memory -/
  | hostWrite (addr : Nat) (data : Bytes)
  /-- a completion inside the device (R43) -/
  | completion (master code : Nat)
  /-- an Emriub cell sent on link 0 (west) or 1 (east) -/
  | cell (link : Nat) (data : Bytes)
  /-- a Norper frame shipped to a head -/
  | frame (port : Nat) (data : Bytes)
  /-- what a port's four lanes send from now on, one bit at each clock edge: these bits first, then `fill` over and over (R181) -/
  | lanes (port : Nat) (bits fill : List (List Bool))
  /-- a Norper mark: LATCH or SLOT with the slot number -/
  | mark (port kind arg : Nat)
  /-- a FIRE pair of a port driven with pre-pulse, gap and main in 250 ps steps -/
  | fire (port cls pre gap main : Nat)
  /-- an output pin or driver changed to a level -/
  | pin (name index level : Nat)
  /-- the management port's answer: acknowledged or not, and the data read -/
  | smbus (ack : Bool) (value : Nat)
deriving DecidableEq, Repr

/-! ### JTAG (R496) -/

/-- The states of the IEEE 1149.1 TAP controller. -/
inductive Tap where
  | logicReset | idle | selectDr | captureDr | shiftDr | exit1Dr | pauseDr | exit2Dr | updateDr
  | selectIr | captureIr | shiftIr | exit1Ir | pauseIr | exit2Ir | updateIr
deriving DecidableEq, Repr

/-- The JTAG instructions (R496); `other` is any instruction beyond the four, by a number. -/
inductive JtagInstr where
  | bypass | idcode | samplePreload | extest
  | other (code : Nat)
deriving DecidableEq, Repr

/-- The JTAG port: the controller, the instruction in force, the data register being shifted, and the boundary cells' latches. -/
structure Jtag where
  tap   : Tap
  instr : JtagInstr
  shift : List Bool
  cells : List Bool
deriving DecidableEq, Repr

/-- The port after its reset: Test-Logic-Reset with IDCODE in force (IEEE 1149.1). -/
def Jtag.init : Jtag := { tap := .logicReset, instr := .idcode, shift := [], cells := [] }

/-- One outstanding request of a block (R42): the requester's page, its epoch and sequence number. -/
structure Req where
  page  : Nat
  epoch : Nat
  seq   : Nat
deriving DecidableEq, Repr

/-- The running timers, each with the moment it ends. -/
inductive TimerKey where
  | levelWindow
  | drain (page : Nat)
  | domainWait (dom : Nat)
  | springDelay | springPoll | springLimit
  | lockout
  | kick
  | quiet
  | ripple
  | supply
  | slowdown | thmSlowdown
  | ringSource
  | repair (engine : Nat) | bistEnd
  | failoverOverlap
  | trainStep (port : Nat) | trainSettle (port : Nat)
  | latReport (port : Nat) | bckSilence (port : Nat) | degrade (port : Nat) | ctrl (port : Nat)
  | wearFlush | scan (chan : Nat)
  | still (enc : Nat)
  | eoutZ (m : Nat)
  | ctlBlock (link : Nat) | linkUp (link : Nat) | linkRetry (link : Nat) | delayX (link : Nat)
  | managerStart | posCell | timeCell | heartbeat | hbLoss | claimWait | takeover | status | member (addr : Nat) | censusWait
  | throttle
  | scrubB | scrubS | telem
  | dmaWait (ch : Nat)
  | planner | hold (axis : Nat) | pwm (axis phase : Nat) | debounce (axis lim : Nat) | inPos (axis : Nat)
  | spit
  | dieSample | trimTick | temp (port : Nat)
  | shed
  | ceWindow | illWindow (enc : Nat)
deriving DecidableEq, Repr

/-- Time.  All moments count 250 ps steps (R10).  `ts` is the 64-bit TS count with its 4 ns tick split into 16
firing-phase steps; `up` counts the steps since reset and is never stepped by the ring. -/
structure Time where
  ts     : Nat
  up     : Nat
  timers : List (TimerKey × Nat)
deriving DecidableEq, Repr

/-- The per-master halves of the `_LO`/`_HI` pairs (R8, R44): keys are (master, BAR0 offset of the `_LO` register). -/
structure Bus where
  hiLatch : List ((Nat × Nat) × Nat)
  loPend  : List ((Nat × Nat) × Nat)
  /-- the low half last in force of each write-only pair, by the BAR0 offset of its `_LO` register -/
  loHeld  : List (Nat × Nat)
  reqs    : List Req
  seqs    : List (Nat × Nat)
deriving DecidableEq, Repr

/-- What a block that is stopping will become at its drain boundary (R38, R39, R462). -/
inductive Stopping where
  | enable | drain | reset | off
deriving DecidableEq, Repr

/-- One MSI-X table entry (PCIe; BAR4 0x3FF_0000). -/
structure MsixEntry where
  addr   : Nat
  data   : Nat
  masked : Bool
deriving DecidableEq, Repr

/-- The MSI-X entry after reset: masked, as PCIe defines. -/
def MsixEntry.init : MsixEntry := { addr := 0, data := 0, masked := true }

/-- The endpoint's configuration space as far as Table 2.1 gives it: identity and capabilities. -/
structure CfgSpace where
  vendor      : Nat
  device      : Nat
  revision    : Nat
  subVendor   : Nat
  subsystem   : Nat
  classCode   : Nat
  /-- bytes of payload supported and of a read request accepted -/
  maxPayload  : Nat
  maxRead     : Nat
  /-- bits of a tag, and device-originated reads that may be outstanding -/
  tagBits     : Nat
  outstanding : Nat
  vectors     : Nat
  flr         : Bool
  aer         : Bool
deriving DecidableEq, Repr

/-- The configuration space after reset (Tables 2.1, R27). -/
def CfgSpace.init : CfgSpace :=
  { vendor := 0x1F3C, device := 0x1048, revision := 0xB0, subVendor := 0x1F3C, subsystem := 0x1048, classCode := 0x118000,
    maxPayload := 512, maxRead := 4096, tagBits := 10, outstanding := 256, vectors := 64, flr := true, aer := true }

/-- Event routing beside the EVT registers: the MSI-X table, its pending-bit array, and when each vector last sent. -/
structure Evt where
  table    : List (Nat × MsixEntry)
  pba      : List Nat
  lastSent : List (Nat × Nat)
deriving DecidableEq, Repr

/-! ### Faults and Sediment (chapter 17) -/

/-- A fault message (Table 17.1), with the severity looked up by its sender (R394). -/
structure FaultMsg where
  source   : Nat
  kind     : Nat
  sev      : Nat
  ceil     : Nat
  access   : Nat
  master   : Nat
  page     : Nat
  port     : Nat
  addrArg  : Nat
  line     : Nat
  arg      : Nat
  injected : Bool
  remote   : Bool
  /-- this fault filled its page's FLT_LOCAL, whose SEVERITY takes the applied severity -/
  first    : Bool
deriving DecidableEq, Repr

/-- An active slot of the collector (R399). -/
structure Slot where
  source : Nat
  kind   : Nat
  sev    : Nat
  base   : Nat
  count  : Nat
  ts     : Nat
deriving DecidableEq, Repr

/-- A committed fault-policy entry (Table 17.3). -/
structure PolEntry where
  source : Nat
  kind   : Nat
  ceil   : Nat
  sev    : Nat
deriving DecidableEq, Repr

/-- The collector beside its registers. -/
structure Flt where
  inbox      : List FaultMsg
  slots      : List (Nat × Slot)
  ovf        : Nat
  /-- the LOCK latch with the SOURCE and KIND that first brought LEVEL to 5 (R468) -/
  lock       : Option (Nat × Nat)
  policy     : List PolEntry
  /-- a policy copy in progress: table address, length and CRC arguments (R396) -/
  copying    : Option (Nat × Nat × Nat)
  safeInLow  : Bool
  pfailLow   : Bool
  ripple     : Bool
  kickMissed : Bool
  selfCheck  : Bool
  /-- a held dump with REASON 2 found at power-on, not yet acknowledged (R408) -/
  memoHeld   : Bool
  /-- the PFAIL record of the present power failure has been written: later records carry POWERFAIL (R417) -/
  powerfail  : Bool
  /-- the moment since which no message at WARN or above has come and both safety inputs have been high (R407) -/
  calmSince  : Nat
deriving DecidableEq, Repr

/-- A Sediment record (Table 17.8) without its SEQ, which it gets when stored. -/
structure SedRec where
  ts       : Nat
  source   : Nat
  kind     : Nat
  severity : Nat
  master   : Nat
  mode     : Nat
  flags    : Nat
  line     : Nat
  arg      : Nat
  port     : Nat
  /-- its message reached FREEZE_CFG.SEV: the POST countdown starts when it is stored (R415) -/
  trigger  : Bool := false
deriving DecidableEq, Repr

/-- A dump (R417): its reason, decision TS, dump set in blocks of records (newest block first) and header; once it has
started, the bytes still to program (header page, blocks, end record), the offset of the next page and the offsets at
which its blocks end. -/
structure Dump where
  reason  : Nat
  ts      : Nat
  blocks  : List Bytes
  header  : Bytes
  started : Bool
  bytes   : Bytes
  at_     : Nat
  ends    : List Nat
deriving DecidableEq, Repr

/-- Sediment beside its registers: the FIFO, the record memory (32,768 records of 32 bytes), the countdown. -/
structure Sed where
  fifo  : List SedRec
  mem   : List Host.Cell
  /-- records still to write before FROZEN is set (R415) -/
  post  : Option Nat
  dump  : Option Dump
  /-- the dump region: 1 READY, 2 HELD, 3 ERASING (R418; OFF is DUMP_CFG.EN = 0) -/
  region : Nat
  /-- a lifecycle wipe of Sediment waits for the dump to end (R453) -/
  wipeWaits : Bool
deriving DecidableEq, Repr

/-! ### Modes, bring-up, Spring (chapter 3) -/

/-- What the Spring script is doing (R64 to R67). -/
structure Spring where
  script  : Bytes
  entry   : Nat
  /-- 0 at an entry boundary, 1 in a POLL, 2 in a DELAY -/
  waiting : Nat
deriving DecidableEq, Repr

/-- SYS beside its registers. -/
structure Sys where
  spring    : Spring
  /-- the exit under way is a row-line stop (WHEN = 1, R54, R55) -/
  rowExit   : Bool
  /-- RESET_N is low, or a supply monitor holds the device in reset (R466) -/
  inReset   : Bool
  /-- bring-up stops at B3 because LOCK is held (R468) -/
  stopAtB3  : Bool
deriving DecidableEq, Repr

/-! ### Security (chapter 19) and fuses -/

/-- A key slot's state (R448). -/
inductive KeyState where
  | empty | active | retired | fault
deriving DecidableEq, Repr

/-- A key slot of the fuse array (R448): its AES-128 key, permission mask, state and whether its CRC-32C holds. -/
structure KeySlot where
  key   : Bytes
  mask  : Nat
  state : KeyState
  crcOk : Bool
deriving DecidableEq, Repr

/-- A slot with nothing programmed. -/
def KeySlot.init : KeySlot := { key := [], mask := 0, state := .empty, crcOk := true }

/-- The fuses: what no reset changes and only fuse programming writes. -/
structure Fuses where
  p : Bool
  f : Bool
  r : Bool
  x : Bool
  slots    : List (Nat × KeySlot)
  /-- the programmed SPRING_COMMIT rows, oldest first (R451) -/
  rows     : List Nat
  deviceId : Nat
  /-- factory trims by (target, item), and whether their block's CRC holds (R425) -/
  trims    : List (Nat × Int)
  limits   : List (Nat × (Int × Int))
  trimsOk  : Bool
deriving DecidableEq, Repr

/-- A copy of the mailbox (R442). -/
structure Mail where
  opcode : Nat
  slot   : Nat
  args   : List Nat
  cnt    : Nat
  tag    : Nat
deriving DecidableEq, Repr

/-- SEC beside its registers. -/
structure Sec where
  /-- the random source: none while its health test runs, then whether it passed (R440) -/
  rng     : Option Bool
  /-- the command in progress -/
  cmd     : Option Mail
  /-- fuse program steps done for it (R449) -/
  step    : Nat
  /-- KILL has ended every other step of the command (R453) -/
  killed  : Bool
  /-- HPWR_EN_g driven high, bit g (R453, R462) -/
  hpwr    : Nat
  /-- DISARM.HEAD waits for the ports' drain boundary (R452) -/
  disarm  : Bool
deriving DecidableEq, Repr

/-- PWR and CLK beside their registers: the domains turning off or on, a tripped supply, whether TRG waits for
calibration target 9 after a DLL loss (R460), which die limits have been raised, and a PFAIL shedding under way. -/
structure Pwr where
  goingOff  : List Nat
  goingOn   : List Nat
  /-- the root PLL has lost lock since reset: CLOCKS_LOCKED stays 0 until the next power-on reset (R459) -/
  rootLost  : Bool
  tripped   : Bool
  dllWait   : Bool
  hotRaised : Bool
  critRaised : Bool
  shedding  : Bool
deriving DecidableEq, Repr

/-! ### Print control: geometry, jobs (chapter 4) -/

/-- A port's geometry table in force (Tables 4.2 to 4.4). -/
structure Geom where
  plane     : Nat
  rows      : Nat
  nozzles   : Nat
  slots     : Nat
  groupSize : Nat
  dotMode   : Nat
  colBase   : Nat
  stitchXw  : Int
  stitchDw  : Int
  /-- ROW_OFF of each row -/
  rowOff    : List Int
  /-- the entries of the present nozzles: (index, entry) -/
  noz       : List (Nat × Nat)
deriving DecidableEq, Repr

/-- A tile directory header (Table 4.6). -/
structure TDir where
  planeMap : Nat
  tcFirst  : Nat
  tcCount  : Nat
  trCount  : Nat
  lines    : Nat
deriving DecidableEq, Repr

/-- What is known of one job line (R109): row-lines resolved so far, and whether one was skipped or late. -/
structure Tally where
  resolved : Nat
  skipped  : Bool
  late     : Bool
deriving DecidableEq, Repr

/-- The tally of a line no row-line of which is resolved. -/
def Tally.init : Tally := { resolved := 0, skipped := false, late := false }

/-- A job a queue has taken (Tables 4.8, 4.9).  Positions count 2^-16 fine counts (R99). -/
structure Job where
  /-- the model's own number of the taking, for naming the job in cycles and tiles -/
  seq     : Nat
  idx     : Nat
  id      : Nat
  kind    : Nat
  start   : Int
  lines   : Nat
  img0    : Nat
  repeats : Nat
  maskSet : Nat
  gap     : Nat
  tdir    : Nat
  irq     : Bool
  holdAfter : Bool
  reverse : Bool
  dir     : TDir
  /-- S_0 (R82), once known -/
  s0      : Option Int
  active  : Bool
  /-- the highest progress reached before it became active, as a position: triggers at or behind it are skipped (R113) -/
  phiAct  : Option Int
  /-- it became active before the last entry to a print mode (R82) -/
  carried : Bool
  /-- the ports bound to the plane when the job was taken (R76, R109) -/
  ports   : List Nat
  /-- the first line a tile error affects and the status it gives (Table 6.2) -/
  bad     : Option (Nat × Nat)
  /-- the status of the first error under BLANK_TILE -/
  err     : Nat
  /-- the status with which a CANCEL, KILL or drain timeout ends it -/
  ending  : Option Nat
  fired   : Nat
  skipped : Nat
  late    : Nat
  tally   : List (Nat × Tally)
  /-- the next line of each row, by port * 16 + row -/
  next    : List (Nat × Nat)
  /-- the unbroken run of skipped lines not yet reported: first line and length -/
  run     : Option (Nat × Nat)
  /-- the rotation pair (ROT_R, ROT_X) each copy latched (R136) -/
  rot     : List (Nat × (Nat × Nat))
  /-- the lowest line no row of each port has started, for R141, by port -/
  started : List (Nat × Nat)
  /-- the tiles, by row and column, for which BLANK_TILE has written a record (Table 6.2) -/
  badTiles : List (Nat × Nat)
  /-- the lines closed last, and whether each counted as skipped (R203) -/
  closed  : List (Nat × Bool)
deriving DecidableEq, Repr

/-- A plane's queue beside its registers. -/
structure Plane where
  jobs    : List Job
  /-- ring index of the next descriptor to take -/
  take    : Nat
  /-- the edge FIFO: positions in 2^-16 fine counts, oldest first (R87) -/
  edges   : List Int
  /-- E of the previous job that became active since entry (R82), in 2^-16 fine counts -/
  prevEnd : Option Int
  /-- the last line position of the previous SHUTTLE pass (R115) -/
  prevLast : Option Int
deriving DecidableEq, Repr

/-- A plane at reset. -/
def Plane.init : Plane :=
  { jobs := [], take := 0, edges := [], prevEnd := none, prevLast := none }

/-- PRT beside its registers. -/
structure Prt where
  geom    : List (Nat × Option Geom)
  loading : Option Nat
  planes  : List (Nat × Plane)
  cplSeq  : Nat
  jobSeq  : Nat
  /-- providers lost in a print mode whose consumer ports have not yet all stopped (R24): the message's page
  argument, its PORT field and the ports that must reach their boundary -/
  lost    : List (Nat × Nat × List Nat)
  /-- ports stopped at the end of their row-line by R24 -/
  stopped : List Nat
deriving DecidableEq, Repr

/-! ### Triggers (chapter 5) -/

/-- A row-line of a cycle: row, the job's taking number and its line. -/
structure RowLine where
  row  : Nat
  job  : Nat
  line : Nat
deriving DecidableEq, Repr

/-- A waveform: the three widths in 250 ps steps (R156). -/
structure Wave where
  pre  : Nat
  gap  : Nat
  main : Nat
deriving DecidableEq, Repr

/-- The waveform that fires nothing. -/
def Wave.init : Wave := { pre := 0, gap := 0, main := 0 }

/-- A change of the concealment map not yet in force below line `jEff` of a job (R141). -/
structure MapChange where
  nozzle : Nat
  old    : Nat
  job    : Nat
  jEff   : Nat
deriving DecidableEq, Repr

/-- What the pixels of one job line need, as the cycle sampled it (R125): the port and its geometry, the job line, its mask and
rotation, the CONCEAL switches, the concealment map with its changes, and the line's 2-bit codes in Shallows. -/
structure Line where
  n    : Nat
  g    : Geom
  job  : Nat
  line : Nat
  mask : Option Bytes
  rot  : Nat × Nat
  conc : Nat
  map  : List (Nat × Nat)
  changes : List MapChange
  cLo  : Nat
  data : Bytes
deriving DecidableEq, Repr

/-- A segment in one of an engine's segment buffers (R237): its frame in the cycle, its number in the frame, the bytes that its
CRC covers, and that CRC-32 (R183, R184). -/
structure Seg where
  frame : Nat
  seg   : Nat
  body  : Bytes
  crc   : Nat
deriving DecidableEq, Repr

/-- A built firing cycle (R101, R126): its group and trigger position, its row-lines, the final code of each nozzle
of each of its rows, and how far its frames are handed off, shipped and voted (R147). -/
structure Cycle where
  group  : Nat
  lines  : List RowLine
  /-- final codes, by nozzle index, of the nozzles of the cycle's rows that are not 0b00 -/
  codes  : List (Nat × Nat)
  /-- the CLASS and LINE frames of the cycle in shipping order (R185), and how many have shipped -/
  frames : List Bytes
  shipped : Nat
  /-- segments of all its frames, and how many have been voted (R237) -/
  segs   : Nat
  segsVoted : Nat
  digestVoted : Bool
  /-- the vote ended with the cycle not latched (Tables 10.3, 10.4) -/
  failed : Bool
  /-- the Sounding candidate nozzle and its job line (R220) -/
  cand   : Option (Nat × Nat)
  /-- the effective waveforms of the classes in use (R168) -/
  waves  : List (Nat × Wave)
  /-- a tile line or mask this build still waits for (R131, R137): its frames are not made yet -/
  waits  : Bool
  /-- inputs sampled at the start (R125): ρ, the CONCEAL switches, the class of each nozzle plus one -/
  rho    : Nat
  conc   : Nat
  cls    : List (Nat × Nat)
  /-- the rotation pair of each row's copy, the concealment codes that are not GOOD, and the changes still to apply (R141) -/
  rots   : List (Nat × (Nat × Nat))
  map    : List (Nat × Nat)
  changes : List MapChange
  /-- the version of the concealment map sampled (Table 10.2) -/
  ver    : Nat
  /-- what the standby has built of the cycle (R235): its frames, and the cycle summaries of the active engine and of the standby
  (R236), the latter empty when the standby does not shadow -/
  other  : List Bytes
  sum    : Bytes
  otherSum : Bytes
  /-- the segments in the segment buffers, with their engine, the newest first (R237) -/
  bufs   : List (Nat × Seg)
  /-- the checker flags of engine A and of engine B on this slice since it started the cycle (R238) -/
  flags  : List Nat
  /-- the frames to send once more before LAT (R187), by their places in `frames` -/
  resend : List Nat
deriving DecidableEq, Repr

/-- An entry of a port's replay ring (R235): the cycle count, the cycle as sampled, its row-lines with their lines, or the codes of
a spit cycle, and the active engine's summary of it. -/
structure Replay where
  count : Nat
  cycle : Cycle
  lines : List (RowLine × Line)
  spit  : List (Nat × Nat)
  sum   : Bytes
deriving DecidableEq, Repr

/-- A latched cycle in its FIRE sequence (R103): the moment of LAT, T_slot, sub-cycles and slots, and the next
mark; slot s of sub-cycle d is mark d * slots + s, and one past the last the cycle is over. -/
structure Firing where
  lines  : List RowLine
  group  : Nat
  codes  : List (Nat × Nat)
  t0     : Nat
  tSlot  : Nat
  subs   : Nat
  slots  : Nat
  at_    : Nat
  waves  : List (Nat × Wave)
  /-- rows the head refused (R203) -/
  refused : List Nat
  cand   : Option (Nat × Nat)
deriving DecidableEq, Repr

/-- Have all the slots of a cycle been marked? -/
def Firing.announced (f : Firing) : Bool := decide (f.subs * f.slots ≤ f.at_)

/-- Has the last FIRE pulse of a cycle ended (notes/assumptions/62.md)? -/
def Firing.done (f : Firing) : Bool := decide (f.subs * f.slots < f.at_)

/-- A cycle whose FIRE sequence is over. -/
def Firing.over (f : Firing) : Firing := { f with at_ := max f.at_ (f.subs * f.slots + 1) }

/-- A port's firing state.  Times are moments of `Time.up`. -/
structure PortFire where
  /-- phase groups: each the rows with their delays in 2^-16 fine counts, leader first (R100) -/
  groups   : List (List (Nat × Int))
  tmin     : Nat
  built    : Option Cycle
  sched    : Option Nat
  issued   : Bool
  portFree : Nat
  lineFree : List (Nat × Nat)
  firing   : Option Firing
  /-- cycles built, for the rotating start of R144 -/
  cycles   : Nat
  /-- the last cycle at which DUTY_CUT was raised, plus one -/
  dutyAt   : Nat
  /-- the replay ring: the sampled inputs of the last four cycles, the newest first (R235) -/
  ring     : List Replay
deriving DecidableEq, Repr

/-- A port's firing state at reset. -/
def PortFire.init : PortFire :=
  { groups := [], tmin := 0, built := none, sched := none, issued := false, portFree := 0, lineFree := [],
    firing := none, cycles := 0, dutyAt := 0, ring := [] }

/-- TRG beside its registers.  Positions count 2^-16 fine counts, speed 2^-32 fine counts per tick. -/
structure Trg where
  sigma   : Int
  phi     : Int
  pe      : Int
  te      : Nat
  v       : Int
  vok     : Bool
  /-- edges still needed before interpolation resumes after a reverse travel (R112) -/
  need    : Nat
  lost    : Bool
  ports   : List (Nat × PortFire)
  /-- the FIXED generator: running, its moment of the next boundary, the boundaries so far, a period to apply -/
  fixRun  : Bool
  fixNext : Nat
  fixLine : Nat
  fixNew  : Option Nat
  /-- a cycle was skipped after the last slow-down request (R110) -/
  skipping : Bool
  /-- LATE_LIM.FRAC, SLOWDOWN.EN and SLOWDOWN.INTERVAL as taken at the last edge (R118) -/
  lateFrac : Nat
  slowEn  : Bool
  slowInt : Nat
  /-- the position, of 48 bits, of the last position cell taken from the ring (R117) -/
  cell    : Option Nat
deriving DecidableEq, Repr

/-! ### The dot pipeline (chapter 6) -/

/-- A slot of a port's Shallows slice (R129, R131): the job and tile row it holds, the last job line of the visit it
serves, and its valid lines. -/
structure TileSlot where
  job   : Nat
  tr    : Nat
  last  : Nat
  valid : Nat
deriving DecidableEq, Repr

/-- An entry of a prefetch list (R130): band, slot, job, tile row, the tile columns still to decode with their directory
entries, and the first job line that reads it. -/
structure Prefetch where
  band : Nat
  slot : Nat
  job  : Nat
  tr   : Nat
  cols : List (Nat × Nat)
  line : Nat
  /-- FILL_LATE has been raised for this tile row (R150) -/
  late : Bool
deriving DecidableEq, Repr

/-- A lane: its prefetch list, the block it is fetching or decoding with its entry, and when its fetch began. -/
structure Lane where
  list    : List Prefetch
  fetched : Option (Prefetch × Bytes)
  since   : Nat
  /-- the tile has been fetched a second time after a memory error (R133) -/
  again   : Bool
deriving DecidableEq, Repr

/-- A lane at reset. -/
def Lane.init : Lane := { list := [], fetched := none, since := 0, again := false }

/-- The Shallows layout of a port (R127, R128): window, bands (each a list of rows), slots per band. -/
structure Layout where
  cLo   : Nat
  width : Nat
  bands : List (List Nat)
  slots : Nat
  span  : Nat
deriving DecidableEq, Repr

/-- A mask buffer of a port: the job it is for, and its 8 KiB, none for the default mask (R137). -/
structure MaskBuf where
  job  : Nat
  mask : Option Bytes
  ready : Bool
deriving DecidableEq, Repr

/-- One engine's own stores of a port's slice (R235, R247): Thermocline's nozzle and head buckets, the concealment copy, the mask
buffers, and the Sounding pointer it was given. -/
structure Slice where
  /-- nozzle buckets in 1/256 firings: (bucket, row drain sum when it was set), by nozzle -/
  buckets : List (Nat × (Nat × Nat))
  bInit   : Nat
  /-- the sum of drains each row has had -/
  drains  : List (Nat × Nat)
  /-- head bucket in 2^-14 head lines -/
  head    : Nat
  /-- the concealment codes that are not GOOD -/
  conceal : List (Nat × Nat)
  masks   : List MaskBuf
  ptr     : Nat
deriving DecidableEq, Repr

/-- A slice's stores at reset. -/
def Slice.init : Slice := { buckets := [], bInit := 0, drains := [], head := 0, conceal := [], masks := [], ptr := 0 }

/-- A port's pipeline state. -/
structure Pipe where
  layout  : Option Layout
  slots   : List (Nat × TileSlot)
  /-- by band, the job and the job line at which the next tile row to append begins -/
  cursor  : List (Nat × (Nat × Nat))
  lane    : Lane
  /-- the active engine's slice (R233) -/
  slice   : Slice
  /-- nozzles set OFF through NOZ_OVR -/
  hostOff : List Nat
  changes : List MapChange
  /-- the version of the port's concealment map, counted on with each change (notes/assumptions/54.md) -/
  mapVer  : Nat
  /-- SLACK_LOW has been raised since the lane's slack was last at its threshold (R149) -/
  low     : Bool
  /-- counters shown through MSK.PORT_SEL: SUBST, BOOST, UNCOVERED, NOZ_CUT, HEAD_CUT, CLAMP, NOTRDY -/
  counts  : List (Nat × Nat)
deriving DecidableEq, Repr

/-- A port's pipeline at reset. -/
def Pipe.init : Pipe :=
  { layout := none, slots := [], cursor := [], lane := Lane.init, slice := Slice.init, hostOff := [], changes := [], mapVer := 0,
    low := false, counts := [] }

/-! ### Emriub (chapter 12) -/

/-- A link's cells and credits: cells waiting to be sent, cells sent and freed per traffic class, buffers this side
has freed, and the delay exchanges since UP. -/
structure Eml where
  txq   : List Bytes
  sent  : List Nat
  freed : List Nat
  mine  : List Nat
  exch  : Nat
  dlys  : List Nat
  /-- cell CRC errors in the present second, and the second -/
  errs  : Nat
  errSec : Nat
deriving DecidableEq, Repr

/-- A link at reset. -/
def Eml.init : Eml :=
  { txq := [], sent := [0, 0, 0, 0], freed := [0, 0, 0, 0], mine := [0, 0, 0, 0], exch := 0, dlys := [], errs := 0, errSec := 0 }

/-- What a member's STATUS and JOIN cells say of it (R297, R299, R302). -/
structure Member where
  role  : Nat
  prio  : Nat
  ready : Bool
  east  : Bool
  west  : Bool
  hopsE : Nat
  hopsW : Nat
deriving DecidableEq, Repr

/-- A member nothing has been heard of. -/
def Member.init : Member :=
  { role := 0, prio := 0, ready := false, east := false, west := false, hopsE := 0xFF, hopsW := 0xFF }

/-- A command of this device awaiting its ACK (R304). -/
structure RingCmd where
  tag    : Nat
  dest   : Nat
  cell   : Bytes
  /-- sent a second time, by the other path -/
  again  : Bool
  /-- the BULK_END of a bulk transfer -/
  bulk   : Bool
  read   : Bool
  path   : Nat
  /-- the moment at which its ACK is overdue -/
  due    : Nat
deriving DecidableEq, Repr

/-- EMR beside its registers. -/
structure Emr where
  seqs    : List (Nat × Nat)
  /-- keys (SRC, TYPE, SEQ) consumed, newest first, at most 256 per source and class (R286) -/
  seen    : List (Nat × Nat × Nat)
  epoch   : Nat
  claim   : Option Nat
  timeOk  : Nat
  timeBad : Nat
  /-- no TIME cell has been taken since reset or loss of time lock -/
  timeNew : Bool
  /-- 250 ps steps of offset still to slew away, and the millionths of a step gathered so far (R290) -/
  slew    : Int
  slewAcc : Nat
  members : List (Nat × Member)
  joins   : Nat
  leaves  : Nat
  lastPos : Option (Nat × Nat)
  diffs   : List Int
  /-- since when |STBY_DIFF| has been within STBY_TOL, plus one -/
  tolSince : Nat
  cmds    : List RingCmd
  tag     : Nat
  /-- bulk data written since the last BULK_END, by sender -/
  rxBulk  : List (Nat × Bytes)
  /-- JOIN has been sent since reset (R299) -/
  joined  : Bool
  /-- cells of a type the device does not implement, consumed (R286) -/
  unknown : Nat
  stopped : Bool
deriving DecidableEq, Repr

/-- EMR at reset. -/
def Emr.init : Emr :=
  { seqs := [], seen := [], epoch := 0, claim := none, timeOk := 0, timeBad := 0, timeNew := true, slew := 0, slewAcc := 0,
    members := [], joins := 0, leaves := 0, lastPos := none, diffs := [], tolSince := 0, cmds := [], tag := 0,
    rxBulk := [], joined := false, unknown := 0, stopped := false }

/-! ### Position and speed (chapter 11) -/

/-- An encoder channel beside its registers. -/
structure Enc where
  /-- RAW in whole counts since the last preset, unwrapped, and the corrections absorbed since then in fine counts -/
  cnt      : Int
  /-- RAW's fine-count value at `cnt` = 0 -/
  base     : Int
  absorbed : Int
  /-- the speed history, newest first: (count, TS) of at most 256 counted edges (R270) -/
  hist     : List (Int × Nat)
  /-- the intervals before the last edge that a gap check may use, newest first (R261) -/
  normal   : List Nat
  /-- illegal changes in the present 1 ms window and the window's number (R259) -/
  illegal  : Nat
  window   : Nat
  /-- a home is armed (R268) -/
  armed    : Bool
  /-- the error of the previous mismatch (R265) -/
  lastErr  : Int
  /-- counts of travel since the last accepted sheet edge, none before the first (R273) -/
  travel   : Option Nat
  /-- the channel has counted since power-on reset or a SOFT_RESET (R275) -/
  counted  : Bool
deriving DecidableEq, Repr

/-- A channel at reset. -/
def Enc.init : Enc :=
  { cnt := 0, base := 0, absorbed := 0, hist := [], normal := [], illegal := 0, window := 0, armed := false, lastErr := 0,
    travel := none, counted := false }

/-- An encoder-emulation output beside its registers.  Positions count 2^-16 fine counts. -/
structure Eout where
  h     : Int
  q0    : Int
  /-- the last input position -/
  p     : Int
  /-- the target N last taken, and the runs of steps not sent yet, oldest first (R277) -/
  n     : Int
  runs  : List Int
  /-- the quadrature phase 0 to 3 the drivers show, and the moment the next step may go -/
  phase : Nat
  free  : Nat
deriving DecidableEq, Repr

/-- An output at reset. -/
def Eout.init : Eout := { h := 0, q0 := 0, p := 0, n := 0, runs := [], phase := 0, free := 0 }
/-! ### Energy and temperature (chapter 7) -/

/-- A port entry of the energy table (Table 7.2).  Temperatures are s12.4, widths 250 ps steps. -/
structure EnergyEntry where
  preMax   : Nat
  gapMax   : Nat
  mainMax  : Nat
  sumMax   : Nat
  warmMax  : Nat
  tHardMax : Int
  th       : List Nat
  hyst     : Nat
  w        : List Nat
  alpha    : List Int
  dMin     : Nat
  dMax     : Nat
  snsR     : Nat
  snsT     : Int
  snsTcr   : Nat
  defClass : Nat
deriving DecidableEq, Repr

/-- The default entry (Table 7.3). -/
def EnergyEntry.dflt : EnergyEntry :=
  { preMax := 2000, gapMax := 8000, mainMax := 6000, sumMax := 6000, warmMax := 400, tHardMax := 1280,
    th := [0xFFFF, 0xFFFF, 0xFFFF], hyst := 0, w := [4096, 4096, 4096, 4096], alpha := [0, 0, 0, 0],
    dMin := 16384, dMax := 16384, snsR := 1000000, snsT := 400, snsTcr := 3850, defClass := 0 }

/-- A class waveform of a port: its nominal, its target, and the slewed widths in 1/256 step (R166 to R168). -/
structure ClassWave where
  nom      : Wave
  tgtPre   : Nat
  tgtGap   : Nat
  tgtMain  : Nat
  effPre   : Int
  effMain  : Int
  stepPre  : Int
  stepMain : Int
  left     : Nat
deriving DecidableEq, Repr

/-- A class waveform at reset. -/
def ClassWave.init : ClassWave :=
  { nom := Wave.init, tgtPre := 0, tgtGap := 0, tgtMain := 0, effPre := 0, effMain := 0, stepPre := 0, stepMain := 0, left := 0 }

/-- A HOT record of a port (Table 7.6, HOT_REC). -/
structure HotRec where
  slot    : Nat
  sub     : Nat
  cause   : Nat
  rows    : Nat
  line    : Nat
  nozzles : Nat
  firings : Nat
deriving DecidableEq, Repr

/-- A port's thermal state. -/
structure ThmPort where
  waves  : List (Nat × ClassWave)
  /-- the latest valid sample, s12.4 °C -/
  temp   : Option Int
  /-- DERATE.T_REF and DERATE_PRE as that sample took them (Table 7.6) -/
  tRef   : Nat
  dPre   : Bool
  /-- valid samples since reset, HOT exit or link UP, up to two (R165) -/
  valid  : Nat
  /-- consecutive invalid and stale samples (R164) -/
  bad    : Nat
  stale  : Nat
  soft   : Bool
  /-- consecutive valid samples below T_RESUME, up to two, and a re-arm that stands (R176) -/
  cool   : Nat
  rearm  : Bool
  /-- ρ at the latest valid sample inside the soft region, unsigned 1.15 (R171) -/
  rho    : Option Nat
  cutRec : Option HotRec
  /-- moments of the warming pulses still to send (R169) -/
  warm   : List Nat
  /-- the class of each nozzle plus one, 0 none (R162) -/
  cls    : List (Nat × Nat)
  /-- nozzles whose class the head's shadow does not hold yet (R147) -/
  unsent : List Nat
deriving DecidableEq, Repr

/-- A port's thermal state at reset. -/
def ThmPort.init : ThmPort :=
  { waves := [], temp := none, tRef := 45, dPre := false, valid := 0, bad := 0, stale := 0, soft := false, cool := 0, rearm := false, rho := none,
    cutRec := none, warm := [], cls := [], unsent := [] }

/-- THM beside its registers; the last five fields are the settings that print-mode entry latches (Table 7.6). -/
structure Thm where
  /-- the committed table: PORT_MAP and its entries, by port -/
  table   : Option (Nat × List (Nat × EnergyEntry))
  /-- a copy in progress: table address and the CRC of the command (R161) -/
  copying : Option (Nat × Nat)
  ports   : List (Nat × ThmPort)
  rhoNom  : Nat
  start   : Nat
  cmax    : Nat
  nw      : Nat
  nh      : Nat
deriving DecidableEq, Repr

/-! ### Norper head link (chapter 8) -/

/-- A LATCH awaiting its LAT_REPORT: its tag, its row-lines and its moment. -/
structure Latched where
  tag   : Nat
  lines : List RowLine
  /-- every member row, blank ones included -/
  rows  : List Nat
  time  : Nat
  /-- its firing, once a later cycle fires; none while it is the port's present one -/
  fire  : Option Firing
deriving DecidableEq, Repr

/-- A CTRL transaction in flight: tag, head address, write data if it is a write, whether training sent it, and
whether it has been sent a second time. -/
structure Ctrl where
  tag      : Nat
  addr     : Nat
  data     : Option Nat
  training : Bool
  again    : Bool
deriving DecidableEq, Repr

/-- A head port's link beside its registers. -/
structure Head where
  /-- training requested and held (R197) -/
  want    : Bool
  /-- the device drives HPn_CLK -/
  clock   : Bool
  /-- the training step 1 to 7, 0 outside training; LINK_STAT.STATE shows 5 for T5 to T7 -/
  step    : Nat
  /-- position in a sweep (T2, T3), and the steps that passed: the BCK bitmap and one bitmap per lane -/
  sweep   : Nat
  bck     : Nat
  lanes   : List Nat
  /-- words read at T5, in order: HID_0 to HID_2, HROW_0 to HROW_7, HSKEW -/
  words   : List Nat
  /-- the next CTRL tag, the transactions waiting to be sent and the one in flight -/
  tag     : Nat
  ctrl    : Option Ctrl
  queue   : List Ctrl
  /-- frames sent since the last LATCH: (TYPE, ROW, place in the cycle's frames), by ordinal (R186) -/
  sent    : List (Nat × Nat × Nat)
  /-- a LINE or CLASS frame of this cycle has been resent, by ordinal (R187) -/
  resent  : List Nat
  /-- rows whose withheld LINE frames need a blank frame ahead of the next cycle's (R240) -/
  blanks  : List Nat
  lats    : List Latched
  /-- reports missing in a row, and bad frames in the present 1 s interval (R202) -/
  missed  : Nat
  badFrames : Nat
  /-- the SENSE frame of the temperature sample now due has been sent, and how often it was reported bad (R202) -/
  snsSent : Bool
  snsBad  : Nat
  raised  : Bool
  /-- the link is to go DOWN at the drain boundary (LINK_CMD.DOWN) -/
  goDown  : Bool
  /-- a mark's training LATCH (T7) awaits its report -/
  t7      : Bool
deriving DecidableEq, Repr

/-- A link at reset. -/
def Head.init : Head :=
  { want := false, clock := false, step := 0, sweep := 0, bck := 0, lanes := [], words := [], tag := 0, ctrl := none,
    queue := [], sent := [], resent := [], blanks := [], lats := [], missed := 0, badFrames := 0, snsSent := false, snsBad := 0, raised := false,
    goDown := false, t7 := false }

/-! ### Nozzle health (chapter 9) -/

/-- A nozzle's health entry (Table 9.1). -/
structure Noz where
  state   : Nat
  cause   : Nat
  miss    : Nat
  inc     : Nat
  pass    : Nat
  rA      : Nat
  rB      : Nat
  sounded : Nat
deriving DecidableEq, Repr

/-- An UNKNOWN nozzle. -/
def Noz.init : Noz := { state := 0, cause := 0, miss := 0, inc := 0, pass := 0, rA := 0, rB := 0, sounded := 0 }

/-- A Sounding window (R222): nozzle, job line, energy class, heater, and the moment of its connection. -/
structure Window where
  noz    : Nat
  line   : Nat
  cls    : Nat
  heater : Nat
  tc     : Nat
  /-- the moment of the request (R222) -/
  asked  : Nat
deriving DecidableEq, Repr

/-- A port's health store and Sounding state. -/
structure SndPort where
  noz      : List (Nat × Noz)
  /-- the pointer p, and consecutive abandonments of the nozzle there (R220, R223) -/
  ptr      : Nat
  abandons : Nat
  /-- nozzles decided in the present coverage pass, and the moment it began (R227) -/
  decided  : List Nat
  began    : Nat
  lastMs   : Nat
  /-- 24-bit firing accumulators (R228) and their saturations -/
  wear     : List (Nat × Nat)
  wearSat  : Nat
  decides  : Nat
  misses   : Nat
  abandoned : Nat
  degraded : Bool
  /-- the granted windows still to be decided, oldest first (R222) -/
  windows  : List Window
  /-- a heater of the port is connected to SNS by a scan step and not yet released (R215) -/
  conn     : Bool
  /-- nozzles of the scan still to measure, as (nozzle, heater) steps -/
  scan     : List (Nat × Nat)
  /-- the first heater's classification, kept until the heater B step (R218) -/
  half     : Option (Nat × Nat)
  /-- the CRC of the geometry table last put in force (R211), plus one -/
  tableCrc : Nat
deriving DecidableEq, Repr

/-- A port nothing is known of. -/
def SndPort.init : SndPort :=
  { noz := [], ptr := 0, abandons := 0, decided := [], began := 0, lastMs := 0, wear := [], wearSat := 0, decides := 0,
    misses := 0, abandoned := 0, degraded := false, windows := [], conn := false, scan := [], half := none, tableCrc := 0 }

/-- A channel's part of a scan (R214 to R216): the step under way (port, nozzle, heater), its repeats, and the port
the rotation has reached. -/
structure Chan where
  step    : Option (Nat × Nat × Nat)
  /-- the moment from which the step's phases count (Table 9.2), later by each extension of a settle interval (R216) -/
  began   : Nat
  /-- the end of the channel's last temperature sample (R19) -/
  free    : Nat
  repeats : Nat
  rot     : Nat
  ended   : Bool
deriving DecidableEq, Repr

/-- A channel at rest. -/
def Chan.init : Chan := { step := none, began := 0, free := 0, repeats := 0, rot := 0, ended := true }

/-- SND beside its registers. -/
structure Snd where
  ports   : List (Nat × SndPort)
  chans   : List (Nat × Chan)
  /-- the signature table in force: its PORT_MAP and its 64 entries (R229) -/
  sig     : Option (Nat × Bytes)
  loading : Bool
  /-- the scan ends when the steps under way have ended (R213) -/
  halting : Bool
  /-- health entries awaiting write-back, oldest first -/
  wb      : List (Nat × Nat)
  /-- the port Turnover flushes next (R228) -/
  wearAt  : Nat
  /-- a full scan has ended since the last reset or lifecycle change (R63) -/
  scanned : Bool
  /-- a scan is running; SCAN_STAT.STATE shows a refusal meanwhile (R213) -/
  running : Bool
deriving DecidableEq, Repr

/-! ### Firing engines (chapter 10) -/

/-- One engine beside its registers: the ports copied and shadowed in the present resynchronisation, the cycle count
of each at its copy, its disagreements, whether a repair is under way, and its checker flags since reset by checker. -/
structure Engine where
  shadowed  : List Nat
  copied    : List (Nat × Nat)
  disagree  : List (Nat × Nat)
  repairing : Bool
  chk       : List Nat
  eccs      : Nat
  /-- its slices, by port, while it is not the active engine (R235, R247) -/
  slices    : List (Nat × Slice)
deriving DecidableEq, Repr

/-- An engine at reset. -/
def Engine.init : Engine :=
  { shadowed := [], copied := [], disagree := [], repairing := false, chk := [0, 0, 0, 0, 0], eccs := 0, slices := [] }

/-- ENG beside its registers: the totals of the health report (Table 10.6) and the failover under way. -/
structure Eng where
  engines   : List (Nat × Engine)
  voted     : Nat
  divs      : Nat
  failovers : Nat
  /-- the old engine still acts, and the state it will enter (R245) -/
  overlap   : Option (Nat × Nat)
  /-- ports whose serialiser has not switched yet (R243) -/
  switching : List Nat
  /-- the standby becomes active at the end of its resynchronisation (R250) -/
  promote   : Bool
  /-- no engine can feed the ports -/
  lost      : Bool
  /-- the moment of the last failover, plus one -/
  lastAt    : Nat
  /-- steps printed without a shadowing standby up to the moment `since` -/
  unprot    : Nat
  since     : Nat
  /-- the moment at which the standby entered SHADOW -/
  shadowAt  : Nat
deriving DecidableEq, Repr

/-! ### Calibration (chapter 18) -/

/-- A trim item (R424): its parts, limits, and the slewed effective value in 1/256 unit (R434). -/
structure CalItem where
  factory : Int
  run     : Int
  user    : Int
  lo      : Int
  hi      : Int
  eff     : Int
  tgt     : Int
  step    : Int
  left    : Nat
  /-- a run has been made since the last power-on or fault reset (R431) -/
  ran     : Bool
deriving DecidableEq, Repr

/-- An item with the widest limits and nothing fused or measured. -/
def CalItem.init : CalItem :=
  { factory := 0, run := 0, user := 0, lo := -32768, hi := 32767, eff := 0, tgt := 0, step := 0, left := 0, ran := false }

/-- A target's record (Table 18.3, TGT_STAT, TGT_TS). -/
structure CalTgt where
  result  : Nat
  clamp   : Bool
  fails   : Nat
  quality : Nat
  ts      : Nat
deriving DecidableEq, Repr

/-- A target never run. -/
def CalTgt.init : CalTgt := { result := 0, clamp := false, fails := 0, quality := 0, ts := 0 }

/-- CAL beside its registers.  Items are keyed by target * 16 + item. -/
structure Cal where
  items : List (Nat × CalItem)
  tgts  : List (Nat × CalTgt)
  /-- targets left of the run in progress, and those of the runs after it (R426) -/
  set   : Nat
  next  : Nat
  /-- the target running -/
  cur   : Option Nat
  /-- the run in progress is that of bring-up step B7 -/
  b7    : Bool
  /-- the channel the spare serves in takeover, from the slot boundary on -/
  taken : Option Nat
  /-- the channel whose work waits for, or is to leave, the spare -/
  wants : Option Nat
  /-- CAL_STALE has been raised for the present channel run (R429) -/
  staleRaised : Bool
deriving DecidableEq, Repr

/-! ### Basin, Shallows and Turnover (chapter 13) -/

/-- A Basin request of class C4 that waits while the arbiter throttles (R320). -/
structure Deferred where
  /-- the moment it was deferred -/
  since  : Nat
  master : Nat
  addr   : Nat
  data   : Bytes
deriving DecidableEq, Repr

/-- The sums of the present telemetry period (Table 13.4): bytes per class, lowest slack, corrected errors, C5 drops,
steps throttled up to the moment `thrAt`; and a record that waits for the C5 service with its address. -/
structure Telem where
  bytes : List (Nat × Nat)
  slack : Int
  basCe : Nat
  shlCe : Nat
  c5    : Nat
  thr   : Nat
  thrAt : Nat
  held  : Option (Nat × Bytes)
deriving DecidableEq, Repr

/-- Sums of a period that begins at moment `t`. -/
def Telem.start (t : Nat) (held : Option (Nat × Bytes)) : Telem :=
  { bytes := [], slack := 32767, basCe := 0, shlCe := 0, c5 := 0, thr := 0, thrAt := t, held }

/-- Both memories' check bits, and BAS, SHL and TRN beside their registers. -/
structure Mem where
  /-- Basin sectors that hold an uncorrectable error (R315) -/
  ue      : List Nat
  /-- sectors read with a single-bit error whose corrected write-back is due (R316) -/
  ce      : List Nat
  /-- Shallows words, numbered across the slices, that hold an uncorrectable error -/
  shlUe   : List Nat
  /-- corrected errors in the present second, and the second (Table 13.5, CE_RATE) -/
  ceNum   : Nat
  ceSec   : Nat
  /-- delayed cycles by master (R319) -/
  dly     : List (Nat × Nat)
  wait    : List Deferred
  /-- the Shallows wipe runs -/
  shlWipe : Bool
  /-- the next address of the Basin scrub, and the moment its pass began -/
  scrubAt : Nat
  scrubT  : Nat
  /-- words scrubbed in the present Shallows pass by slice, and the moment it began -/
  sAt     : List (Nat × Nat)
  sT      : Nat
  tel     : Telem
deriving DecidableEq, Repr

/-- The memories at reset. -/
def Mem.init : Mem :=
  { ue := [], ce := [], shlUe := [], ceNum := 0, ceSec := 0, dly := [], wait := [], shlWipe := true, scrubAt := 0, scrubT := 0,
    sAt := [], sT := 0, tel := Telem.start 0 none }

/-! ### Yaska DMA channels (chapter 14) -/

/-- An open loop level (R333): its count, strides, index and body address. -/
structure DmaLoop where
  count : Nat
  ss    : Int
  ds    : Int
  i     : Nat
  body  : Nat
deriving DecidableEq, Repr

/-- A MOVE in progress (R334, R335): its spaces, addresses, length and the bytes moved so far. -/
structure DmaMove where
  srcSp : Nat
  dstSp : Nat
  src   : Nat
  dst   : Nat
  len   : Nat
  at_   : Nat
deriving DecidableEq, Repr

/-- A channel beside its registers. -/
structure DmaChan where
  /-- a run is under way or pending: begun by START or RESUME and not ended (R340, R342) -/
  run   : Bool
  /-- fetched 64-byte lines, by line number: the line of PC and at most two ahead (R329) -/
  lines : List (Nat × Bytes)
  /-- the decoded instruction at PC -/
  cur   : Option Nat
  move  : Option DmaMove
  /-- a burst of the MOVE has ended and, the channel stopping, no other was issued (R341) -/
  edge  : Bool
  /-- open levels, outermost first -/
  loops : List DmaLoop
  /-- the TS at which a WAIT delay ends -/
  until_ : Option Nat
deriving DecidableEq, Repr

/-- A channel at reset. -/
def DmaChan.init : DmaChan := { run := false, lines := [], cur := none, move := none, edge := false, loops := [], until_ := none }

/-! ### Compressors (chapter 15) -/

/-- A compressor beside its registers: its queue of 64-byte entries, oldest first, and the job under way. -/
structure CmpEng where
  queue : List Bytes
  job   : Option Bytes
deriving DecidableEq, Repr

/-- A compressor at reset. -/
def CmpEng.init : CmpEng := { queue := [], job := none }

/-! ### Service-station motion (chapter 16) -/

/-- What an axis's planner is doing: nothing, a move to its target, a homing run towards its reference, a controlled
stop, a quick stop (R370, R374, R383). -/
inductive AxisPhase where
  | idle | move | seek | stop | quick
deriving DecidableEq, Repr

/-- An axis beside its registers.  Positions count 1/(256 * 125000^3) step, speeds 1/(256 * 125000^2) step per second and
accelerations 1/(256 * 125000) step per second squared, so that the 8 µs ticks add without rounding. -/
structure Axis where
  phase  : AxisPhase
  pos    : Int
  vel    : Int
  acc    : Int
  tgt    : Int
  /-- deceleration and jerk in use, and whether they are kept until the move ends (R372) -/
  dUse   : Nat
  jUse   : Nat
  kept   : Bool
  /-- the planner decelerates to the target -/
  brake  : Bool
  /-- homing: 0 none, 1 towards the reference, 2 stopping past it, 3 backing off; its direction and where it began -/
  homing : Nat
  dir    : Int
  from_  : Int
  /-- the stop under way ends a move: source 219 at its end -/
  ends   : Bool
  /-- enter the safe state of CFG.SAFE_MODE at standstill (R375) -/
  safe   : Bool
  /-- OFF until ENABLE is written 0 and then 1 (R375, R381) -/
  locked : Bool
  /-- raw tripped levels of LIMN and LIMP, and the raw edges of their debounce windows with the windows' ends -/
  raw    : List Bool
  edges  : List Nat
  winEnd : List Nat
  /-- consecutive full steps with LOAD at or below the stall threshold -/
  slips  : Nat
  /-- consecutive open-looking PWM periods of phases A and B, and the duties the regulators drew -/
  opens  : List Nat
  duty   : List Nat
deriving DecidableEq, Repr

/-- An axis at reset. -/
def Axis.init : Axis :=
  { phase := .idle, pos := 0, vel := 0, acc := 0, tgt := 0, dUse := 40000, jUse := 2000000, kept := false, brake := false, homing := 0,
    dir := 1, from_ := 0, ends := false, safe := false, locked := false, raw := [false, false], edges := [0, 0], winEnd := [0, 0],
    slips := 0, opens := [0, 0], duty := [0, 0] }

/-- MOTC beside its registers: a STOP_ALL not yet answered, the spit cycles each port has left with the moment of its
next, and whether the burst is to stop (R374, R386). -/
structure Motc where
  stopAll : Bool
  spits   : List (Nat × (Nat × Nat))
  ending  : Bool
deriving DecidableEq, Repr

/-! ### SPI flash (chapter 21) -/

/-- A SPIF operation in progress (R479): its opcode, flash address, Basin address and length. -/
structure SpifOp where
  op    : Nat
  flash : Nat
  basin : Nat
  len   : Nat
deriving DecidableEq, Repr

/-! ### The whole device -/

/-- The device: its register file and, block by block, everything the manual gives it beside its registers. -/
structure Dev where
  regs : RegFile
  time : Time
  bus  : Bus
  cfg  : CfgSpace
  evt  : Evt
  flt  : Flt
  sed  : Sed
  sys  : Sys
  sec  : Sec
  pwr  : Pwr
  /-- blocks on their way to a drain boundary, by page -/
  stopping : List (Nat × Stopping)
  /-- Basin: bytes that are not zero -/
  basin    : List Host.Cell
  /-- Shallows -/
  shallows : List Host.Cell
  /-- the SPI flash: bytes that are not 0xFF -/
  flash    : List Host.Cell
  prt  : Prt
  trg  : Trg
  pipes : List (Nat × Pipe)
  thm  : Thm
  heads : List (Nat × Head)
  snd  : Snd
  eng  : Eng
  cal  : Cal
  emr  : Emr
  emls : List (Nat × Eml)
  encs : List (Nat × Enc)
  eouts : List (Nat × Eout)
  mem  : Mem
  dmas : List (Nat × DmaChan)
  cmps : List (Nat × CmpEng)
  axes : List (Nat × Axis)
  motc : Motc
  spif : Option SpifOp
  jtag : Jtag
  /-- the model's counter of free values drawn -/
  free : Nat
  out  : List Output
deriving DecidableEq, Repr

end Sys2Proof.Machine
end

