-- ==== Sys2Proof/Machine/Memory.lean ====
section
/-!
DEFINITION. Addressed memories as sparse tables of bytes in one canonical form: addresses strictly rising and no
entry equal to what an unlisted address reads as (0x00 in Basin, Shallows and Sediment after their wipes, R325,
R415; 0xFF in flash, which reads so when erased, R417).
-/
namespace Sys2Proof.Machine

/-- The canonical form of a memory whose unlisted bytes read `d`. -/
def Memory.wf (d : Byte) (m : List Host.Cell) : Bool := twf d m

/-- One byte of a memory whose unlisted bytes read `d`. -/
def memGet (d : Byte) (m : List Host.Cell) (a : Nat) : Byte := tget d m a

/-- The first `n` bytes from address `a` on, from the entries at `a` and above. -/
def memRun (d : Byte) : Nat → List Host.Cell → Nat → Bytes
  | 0, _, _ => []
  | n + 1, [], a => d :: memRun d n [] (a + 1)
  | n + 1, (k, v) :: t, a => if k = a then v :: memRun d n t (a + 1) else d :: memRun d n ((k, v) :: t) (a + 1)

/-- `n` bytes from address `a`. -/
def memRead (d : Byte) (m : List Host.Cell) (a n : Nat) : Bytes :=
  memRun d n (m.filter fun c => decide (a ≤ c.1) && decide (c.1 < a + n)) a

/-- The entries of a byte string from address `a`: its bytes that are not what an unlisted byte reads as. -/
def memCells (d : Byte) : Nat → Bytes → List Host.Cell
  | _, [] => []
  | a, b :: t => if b = d then memCells d (a + 1) t else (a, b) :: memCells d (a + 1) t

/-- A byte string written from address `a`. -/
def memWrite (d : Byte) (a : Nat) (bs : Bytes) (m : List Host.Cell) : List Host.Cell :=
  (m.filter fun c => decide (c.1 < a)) ++ memCells d a bs ++ m.filter fun c => decide (a + bs.length ≤ c.1)

/-- `n` bytes from address `a` all set to what an unlisted byte reads as: the entries of the range removed. -/
def memClear (a n : Nat) (m : List Host.Cell) : List Host.Cell :=
  m.filter fun c => decide (c.1 < a) || decide (a + n ≤ c.1)

end Sys2Proof.Machine
end

