-- ==== Sys2Proof/Machine/Ops.lean ====
section
/-!
DEFINITION. The operations every block shares: register fields, time and timers, outputs, free values, the mode and
bring-up flags, and requests.
-/
namespace Sys2Proof.Machine

/-! ### Register fields -/

/-- The value of a register field. -/
def Dev.get (d : Dev) (f : Fld) : Nat := d.regs.get f

/-- The device with a register field set. -/
def Dev.set (d : Dev) (f : Fld) (v : Nat) : Dev := { d with regs := d.regs.set f v }

/-- Is a one-bit field 1? -/
def Dev.is (d : Dev) (f : Fld) : Bool := d.get f != 0

/-- A one-bit field set to a truth value. -/
def Dev.put (d : Dev) (f : Fld) (b : Bool) : Dev := d.set f (b2n b)

/-- A counter field raised by `k`, saturating at its width. -/
def Dev.bump (d : Dev) (f : Fld) (k : Nat) : Dev := d.set f (satAdd (f.hi + 1 - f.lo) (d.get f) k)

/-- A 64-bit map field with bit `i` set. -/
def Dev.setBit (d : Dev) (f : Fld) (i : Nat) : Dev := d.set f (setB (d.get f) i)

/-- A 64-bit map field with bit `i` cleared. -/
def Dev.clrBit (d : Dev) (f : Fld) (i : Nat) : Dev := d.set f (clrB (d.get f) i)

/-- A map field with bit `i` given. -/
def Dev.putBit (d : Dev) (f : Fld) (i : Nat) (b : Bool) : Dev := d.set f (putB (d.get f) i b)

/-- Bit `i` of a map field. -/
def Dev.bitOf (d : Dev) (f : Fld) (i : Nat) : Bool := (d.get f).testBit i

/-- Every field of a list put back to its reset value. -/
def Dev.resetFields (d : Dev) (fs : List Fld) : Dev :=
  { d with regs := fs.foldl (fun r f => tdel f.key r) d.regs }

/-- The address an address field holds: its bits in their places. -/
def Dev.addr (d : Dev) (f : Fld) : Nat := d.get f * 2 ^ f.lo

/-! ### Time -/

/-- The number of 250 ps steps in a µs, a ms and a TS tick. -/
def us : Nat := 4000
/-- See `us`. -/
def ms : Nat := 4000000
/-- See `us`. -/
def tick : Nat := 16
/-- The number of 250 ps steps in a second. -/
def sec : Nat := 4000000000

/-- TS, in 4 ns ticks (R4, R458). -/
def Dev.ts (d : Dev) : Nat := d.time.ts / tick

/-- The firing phase within the present tick (R10). -/
def Dev.phase (d : Dev) : Nat := d.time.ts % tick

/-- TS in 250 ps steps, which wraps with the 64-bit count. -/
def tsWrap : Nat := 2 ^ 64 * 16

/-- The steps by which a worker's TS moves against its own clock over `n` steps, towards an offset still to slew away: at
most TIME_CFG.SLEW millionths (R290). -/
def Dev.slewMove (d : Dev) (n : Nat) : Int × Nat :=
  if d.emr.slew = 0 then (0, 0)
  else
    let acc := d.emr.slewAcc + n * d.get Reg.EMR.TIME_CFG.SLEW
    let k : Nat := min (acc / 1000000) d.emr.slew.natAbs
    (if d.emr.slew < 0 then -(k : Int) else k, acc % 1000000)

/-- `n` steps of 250 ps later. -/
def Dev.advance (d : Dev) (n : Nat) : Dev :=
  let m := d.slewMove n
  { d with
    time := { d.time with ts := (((d.time.ts + n : Nat) + m.1) % (tsWrap : Int)).toNat, up := d.time.up + n }
    emr := { d.emr with slew := d.emr.slew - m.1, slewAcc := m.2 } }

/-- Time moved on to moment `t` (unchanged when `t` has passed). -/
def Dev.advanceTo (d : Dev) (t : Nat) : Dev := d.advance (t - d.time.up)

/-- A timer started or restarted to end `n` steps from now. -/
def Dev.arm (d : Dev) (k : TimerKey) (n : Nat) : Dev :=
  { d with time := { d.time with timers := aset k (d.time.up + n) d.time.timers } }

/-- A timer stopped. -/
def Dev.disarm (d : Dev) (k : TimerKey) : Dev :=
  { d with time := { d.time with timers := adel k d.time.timers } }

/-- The moment a timer ends, when it runs. -/
def Dev.due (d : Dev) (k : TimerKey) : Option Nat := aget k d.time.timers

/-- Does a timer run? -/
def Dev.running (d : Dev) (k : TimerKey) : Bool := (d.due k).isSome

/-- The end of a timer: time moves to that moment, the timer stops and `act` happens.  Without the timer the
command finds nothing to end. -/
def Dev.onTimer (d : Dev) (k : TimerKey) (act : Dev → Dev) : Dev :=
  match d.due k with
  | none => d
  | some t => act ((d.advanceTo t).disarm k)

/-- One turn of a periodic timer: time moves to its moment, `act` happens and the next turn is set `n` steps later. -/
def Dev.onPeriod (d : Dev) (k : TimerKey) (n : Nat) (act : Dev → Dev) : Dev :=
  let d := d.advanceTo ((d.due k).getD d.time.up)
  act (d.arm k n)

/-! ### Outputs, free values -/

/-- Something given to the outside. -/
def Dev.emit (d : Dev) (o : Output) : Dev := { d with out := d.out ++ [o] }

/-- One free value drawn: the counter moves on. -/
def Dev.drawn (d : Dev) : Dev := { d with free := d.free + 1 }

/-! ### Pages -/

/-- The page of a block instance. -/
def pg (b : Blk) (n : Nat) : Nat := b.page n

/-- BLK_STATE.STATE of a page. -/
def Dev.blk (d : Dev) (page : Nat) : Nat := d.get (Reg.HDR.STATE page)

/-- The device with BLK_STATE.STATE of a page set. -/
def Dev.setBlk (d : Dev) (page s : Nat) : Dev := d.set (Reg.HDR.STATE page) s

/-- Is the block of a page in RUN? -/
def Dev.inRun (d : Dev) (page : Nat) : Bool := d.blk page == 2

/-- BLK_CTRL.ENABLE of a page. -/
def Dev.enabled (d : Dev) (page : Nat) : Bool := d.is (Reg.HDR.ENABLE page)

/-- Does the block of a page take up new work: RUN, and not on its way to a stop? -/
def Dev.runs (d : Dev) (page : Nat) : Bool := d.inRun page && d.enabled page

/-- Does a page refuse new requests with REFUSED(OFFLINE) (Table 2.9: DRAINING, OFFLINE, RESET, FAULT)? -/
def Dev.refuses (d : Dev) (page : Nat) : Bool :=
  let s := d.blk page
  s == 3 || s == 6 || s == 5 || s == 7 || s == 0

/-! ### Requests (R42) -/

/-- A request sent by the block of a page, tagged with its epoch and next 12-bit sequence number. -/
def Dev.request (d : Dev) (page : Nat) : Dev :=
  let s := tget 0 d.bus.seqs page
  { d with bus := { d.bus with
      reqs := d.bus.reqs ++ [{ page, epoch := d.get (Reg.HDR.EPOCH page), seq := s }]
      seqs := tset 0 page ((s + 1) % 4096) d.bus.seqs } }

/-- The oldest outstanding request of a page answered. -/
def Dev.answer (d : Dev) (page : Nat) : Dev :=
  match d.bus.reqs.find? fun r => r.page == page with
  | none => d
  | some r => { d with bus := { d.bus with reqs := d.bus.reqs.erase r } }

/-- Has the block of a page a request in flight? -/
def Dev.inFlight (d : Dev) (page : Nat) : Bool := d.bus.reqs.any fun r => r.page == page

/-- Every request of a page ended with ABORTED (R39, R40): BLK_STATE.ABORTED is set when there was one.  A later drain or kill
that ends no request leaves it set, until it is written 1 or the block is reset (DESIGN CHOICE, notes/assumptions/63.md). -/
def Dev.abortAll (d : Dev) (page : Nat) : Dev :=
  let d' := if d.inFlight page then d.put (Reg.HDR.ABORTED page) true else d
  { d' with bus := { d'.bus with reqs := d'.bus.reqs.filter fun r => r.page != page } }

/-- The requests of a page forgotten: the work they were for has ended. -/
def Dev.forget (d : Dev) (page : Nat) : Dev :=
  { d with bus := { d.bus with reqs := d.bus.reqs.filter fun r => r.page != page } }

/-! ### Modes -/

/-- The mode (Table 3.1). -/
def Dev.mode (d : Dev) : Nat := d.get Reg.SYS.MODE_STAT.MODE

/-- Is a mode a print mode (R50)? -/
def isPrint (m : Nat) : Bool := decide (2 ≤ m) && decide (m ≤ 5)

/-- Is a print mode active? -/
def Dev.printing (d : Dev) : Bool := isPrint d.mode

/-- Is firing halted by a STOP fault (R57)? -/
def Dev.halted (d : Dev) : Bool := d.is Reg.SYS.MODE_STAT.HALT

/-! ### Basin, Shallows, flash -/

/-- `n` bytes of Basin. -/
def Dev.basinRead (d : Dev) (a n : Nat) : Bytes := memRead 0 d.basin a n

/-- Does Basin serve requests (R321)? -/
def Dev.basinUp (d : Dev) : Bool := d.inRun (pg .BAS 0) && d.is Reg.SYS.BRINGUP.BASIN_READY

/-- The Basin sectors in `n` bytes from `a` that hold an uncorrectable error, in ascending order. -/
def Dev.badSectors (d : Dev) (a n : Nat) : List Nat :=
  sortBy (fun x y => decide (x ≤ y)) (d.mem.ue.filter fun s => decide (a < 32 * s + 32) && decide (32 * s < a + n))

/-- Does a read of `n` bytes from `a` fail: refused, or poisoned (R316, R321)? -/
def Dev.basinFails (d : Dev) (a n : Nat) : Bool := !d.basinUp || d.badSectors a n != []

/-- Bytes served for a class in the present telemetry period (Table 13.4). -/
def Dev.served (d : Dev) (cls n : Nat) : Dev :=
  { d with mem := { d.mem with tel := { d.mem.tel with bytes := tset 0 cls (tget 0 d.mem.tel.bytes cls + n) d.mem.tel.bytes } } }

/-- `n` bytes the manual does not state. -/
def Dev.freeBytes (d : Dev) (n : Nat) : Bytes := (List.range n).map (Config.freeByte d.free)

/-- A byte string written to Shallows: a word it covers whole gets fresh check bits. -/
def Dev.shallowsWrite (d : Dev) (a : Nat) (bs : Bytes) : Dev :=
  { d with
    shallows := memWrite 0 a bs d.shallows
    mem := { d.mem with shlUe := d.mem.shlUe.filter fun w => !(decide (a ≤ 8 * w) && decide (8 * w + 8 ≤ a + bs.length)) } }

end Sys2Proof.Machine
end

