-- ==== Sys2Proof/Machine/RingCell.lean ====
section
/-!
DEFINITION. Emriub cells (R284, R285) and how the device sends them: sequence numbers, credits and class order (R287),
broadcast on both links, and the path of an addressed cell (R303).
-/
namespace Sys2Proof.Machine

/-- A link's cells and credits. -/
def Dev.eml (d : Dev) (l : Nat) : Eml := tget Eml.init d.emls l

/-- A link's cells and credits replaced. -/
def Dev.setEml (d : Dev) (l : Nat) (e : Eml) : Dev := { d with emls := tset Eml.init l e d.emls }

/-- Is a link UP (Table 12.8)? -/
def Dev.linkUp (d : Dev) (l : Nat) : Bool := d.get (Reg.EML.LINK_STAT.STATE l) == 3

/-- The device's own ring address (R282). -/
def Dev.ringAddr (d : Dev) : Nat := d.get Reg.EMR.ADDR.ADDR

/-- EMR.ROLE_STAT.ROLE: 0 worker, 1 standby, 2 manager, 3 passive. -/
def Dev.ringRole (d : Dev) : Nat := d.get Reg.EMR.ROLE_STAT.ROLE

/-- May the device originate cells (R301, R310)? -/
def Dev.originates (d : Dev) : Bool :=
  d.ringRole != 3 && d.enabled (pg .EMR 0) && d.inRun (pg .EMR 0) && !d.emr.stopped

/-- The traffic class of a cell type, 0 to 3; 4 for a link-local type (R285). -/
def cellClass (type : Nat) : Nat := if type / 16 = 0 then 4 else type / 16 - 1

/-- The CRC of a cell, over bytes 0 to 27 with bytes 3, 6 and 7 taken as zero (R284). -/
def cellCrc (c : Bytes) : Nat :=
  crc32c (c.take 3 ++ [0] ++ (c.drop 4).take 2 ++ [0, 0] ++ (c.drop 8).take 20)

/-- A cell from its fields; the payload is padded to 20 bytes. -/
def mkCell (type src dst hops seq corr : Nat) (payload : Bytes) : Bytes :=
  let c := leBytes 1 type ++ leBytes 1 src ++ leBytes 1 dst ++ leBytes 1 hops ++ leBytes 2 seq ++ leBytes 2 corr ++ padTo 20 payload
  c ++ leBytes 4 (cellCrc c)

/-- Credits left for a class on a link (R287). -/
def Eml.credit (e : Eml) (t : Nat) : Nat := 32 - (nth 0 e.sent t + 256 - nth 0 e.freed t) % 256

/-- A cell put on a link, or kept waiting behind its class's credits (R285, R287, R288). -/
def Dev.sendOn (d : Dev) (l : Nat) (c : Bytes) : Dev :=
  let t := cellClass (byteAt c 0)
  let e := d.eml l
  if t = 4 then d.emit (.cell l c)
  else if d.linkUp l = false ∨ (t = 0 ∧ e.exch < 16) then d
  else if e.credit t = 0 ∨ (e.txq.any fun q => cellClass (byteAt q 0) == t) = true then
    d.setEml l { e with txq := e.txq ++ [c] }
  else
    (d.setEml l { e with sent := setNth ((nth 0 e.sent t + 1) % 256) e.sent t }).emit (.cell l c)

/-- The next per-class sequence number of this device's own cells. -/
def Dev.nextSeq (d : Dev) (t : Nat) : Nat × Dev :=
  let s := tget 0 d.emr.seqs t
  (s, { d with emr := { d.emr with seqs := tset 0 t ((s + 1) % 65536) d.emr.seqs } })

/-- A broadcast cell of the device's own, sent on both links. -/
def Dev.broadcast (d : Dev) (type : Nat) (payload : Bytes) : Dev :=
  if d.originates then
    let r := d.nextSeq (cellClass type)
    let c := mkCell type r.2.ringAddr 0x80 0 r.1 0 payload
    (r.2.sendOn 0 c).sendOn 1 c
  else d

/-- The hops from this device to a member by the east path (side 0) or the west path, as its STATUS cells gave them
(R299): 0xFF where none came that way, 0 for the device itself. -/
def Dev.heardHops (d : Dev) (side a : Nat) : Nat :=
  let m := tget Member.init d.emr.members a
  if a = d.ringAddr then 0 else if side = 0 then m.hopsE else m.hopsW

/-- Is the path to `x` on a side unknown, or broken when the members of `downs` have their link of that side down?  It
passes that link of every member nearer than `x`. -/
def Dev.pathBroken (d : Dev) (side : Nat) (downs : List Nat) (x : Nat) : Bool :=
  d.heardHops side x == 0xFF || downs.any fun a => decide (d.heardHops side a < d.heardHops side x)

/-- The hops to a member by a path (EMR.HOPS): 0xFF where none is known, or where the path passes the break that the ring
state shows (R302). -/
def Dev.hopsTo (d : Dev) (side x : Nat) : Nat :=
  let broken := d.get (if side = 0 then Reg.EMR.RING_STAT.BREAK_A else Reg.EMR.RING_STAT.BREAK_B)
  if d.pathBroken side (if 2 ≤ d.get Reg.EMR.RING_STAT.STATE then [broken] else []) x then 0xFF else d.heardHops side x

/-- The link by which an addressed cell goes: the path with fewer hops, or the one that avoids a break (R303). -/
def Dev.pathTo (d : Dev) (dest : Nat) : Nat := if d.hopsTo 1 dest < d.hopsTo 0 dest then 1 else 0

/-- An addressed cell of the device's own, sent by link `l`. -/
def Dev.unicast (d : Dev) (l type dest : Nat) (payload : Bytes) : Bytes × Dev :=
  if d.originates then
    let r := d.nextSeq (cellClass type)
    let c := mkCell type r.2.ringAddr dest 0 r.1 0 payload
    (c, r.2.sendOn l c)
  else ([], d)

/-- A COMMAND to another member, awaiting its ACK for 50 µs (R304). -/
def Dev.command (d : Dev) (dest op : Nat) (args : Bytes) (bulk read : Bool) : Dev :=
  let tag := d.emr.tag
  let l := d.pathTo dest
  let r := d.unicast l 0x24 dest (leBytes 1 op ++ leBytes 1 tag ++ args)
  let d := r.2
  let q : RingCmd := { tag := tag, dest := dest, cell := r.1, again := false, bulk := bulk, read := read, path := l, due := d.time.up + 50 * us }
  { d with emr := { d.emr with tag := (tag + 1) % 256, cmds := d.emr.cmds ++ [q] } }

/-- A slow-down request (R110, R172): a worker with a manager sends it the SLOWDOWN command; a manager, or a device
without a ring, raises its event only. -/
def Dev.slowdown (d : Dev) (cause port : Nat) : Dev :=
  if d.is Reg.EMR.ROLE_STAT.MGR_VALID ∧ d.ringRole ≠ 2 then
    d.command (d.get Reg.EMR.ROLE_STAT.MANAGER) 0x01 (leBytes 1 cause ++ leBytes 1 port) false false
  else d

/-- The EVENT cells of the EVFWD slots that name a source which has risen (R306). -/
def Dev.forwardEvent (d : Dev) (s : Nat) : Dev :=
  (List.range 4).foldl (fun d i =>
    if d.is (Reg.EMR.EVFWD.EN i) ∧ d.get (Reg.EMR.EVFWD.SRC i) = s then d.broadcast 0x31 (leBytes 1 i ++ leBytes 1 s) else d) d

end Sys2Proof.Machine
end

