-- ==== Sys2Proof/Machine/Flags.lean ====
section
/-!
DEFINITION. The event flags: EV_RAW bits and the sources they raise (R31, R33, R46, R47), the records and cells that a
rising source starts (R414, R306), the bring-up flags (R60), and raising a fault (R32, R392, R394).
-/
namespace Sys2Proof.Machine

/-! ### Sources -/

/-- Is bit `b` of a page's EV_RAW set and unmasked? -/
def Dev.evBit (d : Dev) (page b : Nat) : Bool :=
  d.bitOf (Reg.HDR.EV_RAW page) b && !d.bitOf (Reg.HDR.EV_MASK page) b

/-- Is source `s` raised (R46)? -/
def Dev.srcRaised (d : Dev) (s : Nat) : Bool :=
  (sourceBits s).any fun t => d.evBit (pg t.1 t.2.1) t.2.2

/-! ### Severity policy (R394, R397) -/

/-- The default severity of a pair, when some chapter defines it. -/
def defaultSev (source kind : Nat) : Option Nat :=
  (FKind.all.find? fun k => k.code == kind && (sourceBits source).any fun t => t.1 == k.blk && t.2.2 == k.bit).map (·.sev)

/-- The ceiling that goes with a default severity. -/
def defaultCeil (sev : Nat) : Nat := if sev < 3 then sev else 5

/-- The last policy entry that names a pair. -/
def Dev.polEntry (d : Dev) (source kind : Nat) : Option PolEntry :=
  d.flt.policy.reverse.find? fun e => e.source == source && e.kind == kind

/-- SAFE_IN and PFAIL have the fixed ceiling SAFE (R397). -/
def fixCeil (source kind ceil : Nat) : Nat :=
  if (source = 19 ∧ kind = 1) ∨ (source = 20 ∧ kind = 2) then 4 else ceil

/-- The floor of a pair (Table 17.5, R473). -/
def sevFloor (source kind : Nat) : Nat :=
  if source = 236 ∧ kind = 3 then 5
  else if source = 102 ∧ kind = 6 then 3
  else if source = 19 ∧ kind = 1 then 4
  else if source = 20 ∧ kind = 2 then 4
  else if source = 24 ∧ kind = 6 then 4
  else if source = 10 ∧ kind = 1 then 4
  else if source = 11 ∧ kind = 2 then 4
  else 0

/-- (severity, ceiling) of a pair under the policy in force, given the default its owner states (R394). -/
def Dev.policyOf (d : Dev) (source kind : Nat) (dflt : Option Nat) : Nat × Nat :=
  -- REMOTE_FAULT takes the severity of R305 and never escalates above FAULT_CFG.CAP (R393)
  if source = 152 ∧ kind = 6 then (dflt.getD 0, d.get Reg.EMR.FAULT_CFG.CAP)
  else match d.polEntry source kind with
  | some e => (e.sev, fixCeil source kind e.ceil)
  | none =>
    match d.polEntry source 0xFF with
    | some e => (max e.sev (sevFloor source kind), fixCeil source kind (max e.ceil (sevFloor source kind)))
    | none =>
      match dflt with
      | some s => (s, fixCeil source kind (defaultCeil s))
      | none => (0, 0)

/-! ### What a fault leaves in its page and in the collector -/

/-- The details of a fault, each at its "none" value unless given (R392). -/
structure FArg where
  access : Nat := 0
  master : Nat := 0xFF
  port   : Nat := 0x7F
  addr   : Nat := 0
  line   : Nat := 0xFFFFFFFF
  arg    : Nat := 0
deriving DecidableEq, Repr

/-- The page's FLT_LOCAL takes a fault: the first fills it, a further one only counts (R31, R32). -/
def Dev.fltLocal (d : Dev) (page kind sev : Nat) (a : FArg) : Dev :=
  let d := d.bump (Reg.HDR.F_COUNT page) 1
  if d.is (Reg.HDR.F_VALID page) then d
  else
    ((((((((d.put (Reg.HDR.F_VALID page) true).set (Reg.HDR.F_TS page) d.ts).set (Reg.HDR.F_ADDR page) a.addr).set
      (Reg.HDR.F_SEVERITY page) sev).set (Reg.HDR.F_KIND page) kind).set (Reg.HDR.F_ACCESS page) a.access).set
      (Reg.HDR.F_MASTER page) a.master).set (Reg.HDR.F_ARG page) a.arg)

/-- The fault message of a fault (Table 17.1). -/
def mkMsg (page source kind : Nat) (sc : Nat × Nat) (a : FArg) (first : Bool) : FaultMsg :=
  { source, kind, sev := sc.1, ceil := sc.2, access := a.access, master := a.master, page, port := a.port,
    addrArg := if a.access = 0 then a.arg else a.addr, line := a.line, arg := if a.access = 0 then 0 else a.arg,
    injected := false, remote := false, first }

/-- Has a message a second word (EXT): one is needed for a job line or for the argument of an access fault. -/
def FaultMsg.ext (m : FaultMsg) : Bool := m.line != 0xFFFFFFFF || m.arg != 0

/-- The 128-bit words in which a message travels (Table 17.1). -/
def FaultMsg.words (m : FaultMsg) : List (BitVec 128) :=
  let w0 := m.source * 2 ^ 120 + m.kind * 2 ^ 112 + m.sev * 2 ^ 109 + b2n m.ext * 2 ^ 108 + m.access * 2 ^ 104 + m.master * 2 ^ 96 +
    m.page * 2 ^ 86 + m.port * 2 ^ 79 + m.addrArg
  BitVec.ofNat 128 w0 :: if m.ext then [BitVec.ofNat 128 (m.line * 2 ^ 96 + m.arg)] else []

/-- A fault reaches its page's FLT_LOCAL and the collector (R32, R392). -/
def Dev.post (d : Dev) (n : Nat) (k : FKind) (sev : Nat) (a : FArg) : Dev :=
  let page := pg k.blk n
  let source := (k.blk.source n k.bit).getD 0
  let sc := d.policyOf source k.code (some sev)
  let m := mkMsg page source k.code sc a (!d.is (Reg.HDR.F_VALID page))
  let d := d.fltLocal page k.code sc.1 a
  { d with flt := { d.flt with inbox := d.flt.inbox ++ [m] } }

/-! ### Sediment records -/

/-- A record that is not a fault's: SEVERITY 0xFF, FLAGS bit 2 (Table 17.8); that of SPRING_END, source 8, holds the
script's REVISION as its argument (Table 3.8). -/
def eventRec (d : Dev) (source : Nat) : SedRec :=
  { ts := d.ts, source, kind := 0, severity := 0xFF, master := 0xFF, mode := d.mode,
    flags := 4 + (if d.flt.powerfail then 16 else 0), line := 0xFFFFFFFF
    arg := (if source = 8 then leAt d.sys.spring.script 12 4 else 0), port := 0xFF }

/-- Is the FIFO full while SED takes records (R414)? -/
def Dev.sedFull (d : Dev) : Bool := d.inRun (pg .SED 0) && !d.is Reg.SED.STAT.FROZEN && decide (1024 ≤ d.sed.fifo.length)

/-- Does SED take a new record (R414, R415, R420)? -/
def Dev.sedTakes (d : Dev) : Bool :=
  d.inRun (pg .SED 0) && !d.is Reg.SED.STAT.FROZEN && decide (d.sed.fifo.length < 1024)

/-- A record offered to the Sediment FIFO: it enters, or it is dropped and counted in LOST (R414, R415, R420). -/
def Dev.sedOffer (d : Dev) (r : SedRec) : Dev :=
  if d.sedTakes then { d with sed := { d.sed with fifo := d.sed.fifo ++ [r] } }
  else (d.bump Reg.SED.LOST.COUNT 1).setBit (Reg.HDR.EV_RAW (pg .SED 0)) 0

/-- Does a rise of source `s` write an event record (R414)? -/
def Dev.recorded (d : Dev) (s : Nat) : Bool := d.bitOf (Reg.SED.EV_REC.SRC (s / 32)) (s % 32)

/-- The event record of a rise (R414).  One that a full FIFO drops raises SED_LOST, whose own rise is forwarded and cannot be recorded. -/
def Dev.riseRecord (d : Dev) (s : Nat) : Dev :=
  let d' := d.sedOffer (eventRec d s)
  if d.sedFull then
    let lost := (Blk.SED.source 0 Kind.SED.SED_LOST.bit).getD 0
    let t := d'.post 0 Kind.SED.SED_LOST Kind.SED.SED_LOST.sev {}
    if !d.srcRaised lost && t.srcRaised lost then t.forwardEvent lost else t
  else d'

/-- What a rising source starts beside its level: an event record (R414) and its EVENT cells (R306). -/
def Dev.onRise (d : Dev) (s : Nat) : Dev := (if d.recorded s then d.riseRecord s else d).forwardEvent s

/-- A change to the device, followed by the rises of the sources of one page that it brings about. -/
def Dev.rising (d : Dev) (b : Blk) (n : Nat) (bit : Nat) (f : Dev → Dev) : Dev :=
  match b.source n bit with
  | none => f d
  | some s => if !d.srcRaised s && (f d).srcRaised s then (f d).onRise s else f d

/-- The block sets an EV_RAW bit of its page. -/
def Dev.ev (d : Dev) (b : Blk) (n bit : Nat) : Dev :=
  d.rising b n bit fun d => d.setBit (Reg.HDR.EV_RAW (pg b n)) bit

/-- A change of EV_RAW or EV_MASK by a register write, with the rises it brings about in any bit of the page. -/
def Dev.evWrite (d : Dev) (b : Blk) (n : Nat) (f : Dev → Dev) : Dev :=
  let d' := f d
  let risen := ((List.range 32).filterMap fun i => b.source n i).dedup.filter fun s => !d.srcRaised s && d'.srcRaised s
  risen.foldl Dev.onRise d'

/-! ### Bring-up flags (R59, R60, R61) -/

/-- A BRINGUP bit takes a value; a change raises source 6, BASIN_READY's setting source 7, SPRING_END's source 8. -/
def Dev.bringup (d : Dev) (f : Fld) (v : Bool) : Dev :=
  if d.is f = v then d
  else
    let d := (d.put f v).ev .SYS 0 6
    if v = true ∧ f = Reg.SYS.BRINGUP.BASIN_READY then d.ev .SYS 0 7
    else if v = true ∧ f = Reg.SYS.BRINGUP.SPRING_END then d.ev .SYS 0 8
    else d

/-- HALT takes a value; a change raises source 9 (R57, R58). -/
def Dev.setHalt (d : Dev) (v : Bool) : Dev :=
  if d.halted = v then d else (d.put Reg.SYS.MODE_STAT.HALT v).ev .SYS 0 9

/-- A block raises a fault whose default severity is `sev`: its EV_RAW bit is set, its FLT_LOCAL takes it and a
message goes to the collector (R32, R392). -/
def Dev.raiseAs (d : Dev) (n : Nat) (k : FKind) (sev : Nat) (a : FArg) : Dev := (d.ev k.blk n k.bit).post n k sev a

/-- A block raises a fault of its default severity. -/
def Dev.raise (d : Dev) (n : Nat) (k : FKind) (a : FArg := {}) : Dev := d.raiseAs n k k.sev a

/-- A record entered in the Sediment FIFO by a block, with SED_LOST raised when a full FIFO drops it (R414). -/
def Dev.sediment (d : Dev) (r : SedRec) : Dev :=
  if d.sedFull then (d.sedOffer r).raise 0 Kind.SED.SED_LOST else d.sedOffer r

/-- A reply is dropped as stale (R42): its epoch is not the present one, or its sequence number is not outstanding. -/
def staleReply (d : Dev) : Dev := (d.bump Reg.SYS.STALE_CNT.COUNT 1).ev .SYS 0 3

end Sys2Proof.Machine
end

