-- ==== Sys2Proof/Machine/Basin.lean ====
section
/-!
DEFINITION. Basin as every block reads and writes it: SECDED per 32-byte sector, poison, partial writes and the counts
that an error leaves (R315, R316, R319).
-/
namespace Sys2Proof.Machine

/-! ### Errors -/

/-- A corrected Basin error in sector `s` (R316): counted, its address held, its write-back due; CE_RATE is raised when
the errors of one second exceed PER_S. -/
def ceFound (s : Nat) (d : Dev) : Dev :=
  let now := d.time.up / sec
  let k := (if d.mem.ceSec = now then d.mem.ceNum else 0) + 1
  let ce := if d.mem.ce.contains s then d.mem.ce else d.mem.ce ++ [s]
  let d := (d.bump Reg.BAS.CE_CNT.COUNT 1).set Reg.BAS.CE_ADDR.ADDR (32 * s)
  let d := { d with mem := { d.mem with ce := ce, ceNum := k, ceSec := now, tel := { d.mem.tel with basCe := d.mem.tel.basCe + 1 } } }
  if d.get Reg.BAS.CE_RATE.PER_S ≠ 0 ∧ k = d.get Reg.BAS.CE_RATE.PER_S + 1 then d.raise 0 Kind.BAS.CE_RATE { arg := k } else d

/-- An uncorrectable Basin error met in sector `s` (R315, R316). -/
def ueFound (master access : Nat) (d : Dev) (s : Nat) : Dev :=
  let d := d.bump Reg.BAS.UE_CNT.COUNT 1
  let d := if d.is Reg.BAS.UE_ADDR.VALID then d
    else ((d.put Reg.BAS.UE_ADDR.VALID true).set Reg.BAS.UE_ADDR.MASTER master).set Reg.BAS.UE_ADDR.ADDR (32 * s)
  d.raise 0 Kind.BAS.BASIN_UE { access, master, addr := 32 * s }

/-- An uncorrectable error strikes sector `s`: what its bytes then read is not stated (notes/assumptions/1.md). -/
def upset (s : Nat) (d : Dev) : Dev :=
  let d := { d with basin := memWrite 0 (32 * s) (d.freeBytes 32) d.basin }
  { d.drawn with mem := { d.mem with ue := if d.mem.ue.contains s then d.mem.ue else d.mem.ue ++ [s], ce := d.mem.ce.filter (· != s) } }

/-- What is found at the first sector of a request: 0 nothing, 1 a single-bit error, 2 an uncorrectable error. -/
def strike (err a : Nat) (d : Dev) : Dev := if err = 1 then ceFound (a / 32) d else if err = 2 then upset (a / 32) d else d

/-! ### Reading -/

/-- The effects of a Basin read of `n` bytes from `a`, its data apart (R316): `err` is what strikes its first sector. -/
def Dev.basinLoad (d : Dev) (cls master a n err : Nat) : Dev :=
  if d.basinUp = false ∨ n = 0 then d
  else
    let d := (strike err a d).served cls n
    (d.badSectors a n).foldl (ueFound master 1) d

/-! ### Writing -/

/-- A byte string written to Basin where BAS serves the request (R315): a sector covered whole gets fresh check bits; a
part of an uncorrectable sector is discarded with BASIN_UE. -/
def Dev.basinWrite (d : Dev) (a : Nat) (bs : Bytes) (cls : Nat := 4) (master : Nat := 0xFF) : Dev :=
  if bs = [] then d
  else
    let n := bs.length
    let whole (s : Nat) : Bool := decide (a ≤ 32 * s) && decide (32 * s + 32 ≤ a + n)
    let parts := (d.badSectors a n).filter fun s => !whole s
    let d := parts.foldl (ueFound master 2) d
    let kept := parts.foldl (fun m s => memWrite 0 (32 * s) (memRead 0 d.basin (32 * s) 32) m) (memWrite 0 a bs d.basin)
    ({ d with
      basin := kept
      mem := { d.mem with
        ue := d.mem.ue.filter fun s => !whole s
        ce := d.mem.ce.filter fun s => !(decide (a < 32 * s + 32) && decide (32 * s < a + n)) } }).served cls n

/-- A byte string written to Basin as class C4: while the arbiter throttles it waits (R320). -/
def Dev.c4Write (d : Dev) (a : Nat) (bs : Bytes) (master : Nat := 0xFF) : Dev :=
  if d.basinUp = false then d
  else if d.is Reg.BAS.STAT.THROTTLED then
    { d with mem := { d.mem with wait := d.mem.wait ++ [{ since := d.time.up, master, addr := a, data := bs }] } }
  else d.basinWrite a bs 4 master

end Sys2Proof.Machine
end

