-- ==== Sys2Proof/Machine/Print.lean ====
section
/-!
DEFINITION. Print space, geometry tables and jobs (chapter 4): loading geometry, taking and ending jobs, the tally
of job lines, completion records, the sheet-edge FIFOs, and what stopping PRT does.
-/
namespace Sys2Proof.Machine

/-! ### Access to the stores -/

/-- The geometry in force on a port. -/
def Dev.geom (d : Dev) (n : Nat) : Option Geom := tget none d.prt.geom n

/-- A plane's queue. -/
def Dev.plane (d : Dev) (p : Nat) : Plane := tget Plane.init d.prt.planes p

/-- A plane's queue replaced. -/
def Dev.setPlane (d : Dev) (p : Nat) (q : Plane) : Dev :=
  { d with prt := { d.prt with planes := tset Plane.init p q d.prt.planes } }

/-- A port's firing state. -/
def Dev.port (d : Dev) (n : Nat) : PortFire := tget PortFire.init d.trg.ports n

/-- A port's firing state replaced. -/
def Dev.setPort (d : Dev) (n : Nat) (q : PortFire) : Dev :=
  { d with trg := { d.trg with ports := tset PortFire.init n q d.trg.ports } }

/-- A port's pipeline. -/
def Dev.pipe (d : Dev) (n : Nat) : Pipe := tget Pipe.init d.pipes n

/-- A port's pipeline replaced. -/
def Dev.setPipe (d : Dev) (n : Nat) (q : Pipe) : Dev := { d with pipes := tset Pipe.init n q d.pipes }

/-- Does a port hold a valid table (R75, R76), and does its head match it (R201)? -/
def Dev.geomOk (d : Dev) (n : Nat) : Bool := d.bitOf Reg.PRT.GEOM_OK.OK n && !d.is (Reg.HPT.LINK_STAT.MISMATCH n)

/-- The ports that print a plane: GEOM_OK, bound to it, and enabled (R69, R76, R109). -/
def Dev.portsOf (d : Dev) (p : Nat) : List Nat :=
  (List.range 64).filter fun n =>
    d.geomOk n && d.enabled (pg .HPT n) && (match d.geom n with | some g => g.plane == p | none => false)

/-- The rows of a port. -/
def Dev.rowsOf (d : Dev) (n : Nat) : Nat := match d.geom n with | some g => g.rows | none => 0

/-! ### Geometry tables (R72 to R76) -/

/-- The present nozzle entries of a table, with their indices (Table 4.4). -/
def nozzleEntries : Nat → Bytes → List (Nat × Nat)
  | i, b0 :: b1 :: b2 :: b3 :: t =>
    let v := leVal [b0, b1, b2, b3]
    if v.testBit 31 then (i, v) :: nozzleEntries (i + 1) t else nozzleEntries (i + 1) t
  | _, _ => []

/-- Address slot of a nozzle entry. -/
def nozSlot (e : Nat) : Nat := bits e 29 26
/-- Row of a nozzle entry. -/
def nozRow (e : Nat) : Nat := bits e 25 22
/-- Is a nozzle FACTORY_OFF? -/
def nozFactoryOff (e : Nat) : Bool := e.testBit 30
/-- Column offset of a nozzle entry. -/
def nozCol (e : Nat) : Nat := bits e 17 0

/-- The column of a nozzle (R73). -/
def Geom.column (g : Geom) (e : Nat) : Int := g.colBase + g.stitchXw + nozCol e

/-- The table's fields, read without checks. -/
def parseGeom (bs : Bytes) : Geom :=
  { plane := byteAt bs 6, rows := byteAt bs 7, nozzles := leAt bs 8 2, slots := byteAt bs 10,
    groupSize := byteAt bs 11, dotMode := byteAt bs 12, colBase := leAt bs 16 4,
    stitchXw := toSigned 32 (leAt bs 20 4), stitchDw := toSigned 32 (leAt bs 24 4),
    rowOff := (List.range (byteAt bs 7)).map fun r => toSigned 32 (leAt bs (64 + 16 * r) 4),
    noz := nozzleEntries 0 ((bs.drop 320).take 65536) }

/-- Is every byte of a range zero? -/
def zeroRange (bs : Bytes) (o n : Nat) : Bool := ((bs.drop o).take n).all fun b => b == 0

/-- Bits 21:18 of every nozzle entry are zero. -/
def entriesReservedZero : Bytes → Bool
  | _ :: _ :: c :: _ :: t => bits c.toNat 5 2 == 0 && entriesReservedZero t
  | _ => true

/-- Every reserved byte and bit of a geometry table is zero (check 4 of Table 4.5). -/
def geomReservedZero (bs : Bytes) (g : Geom) : Bool :=
  zeroRange bs 13 3 && zeroRange bs 28 32 &&
  ((List.range 16).all fun r => zeroRange bs (64 + 16 * r + 7) 9 && decide (byteAt bs (64 + 16 * r + 6) < 2)
    && (decide (r < g.rows) || zeroRange bs (64 + 16 * r) 4)) &&
  entriesReservedZero ((bs.drop 320).take 65536)

/-- Do the counts of a table agree with its nozzles (check 9)? -/
def geomCounts (bs : Bytes) (g : Geom) : Bool :=
  g.nozzles == g.noz.length &&
  (List.range 16).all fun r =>
    leAt bs (64 + 16 * r + 4) 2 == (g.noz.filter fun e => nozRow e.2 == r).length &&
    (byteAt bs (64 + 16 * r + 6) % 2 == b2n (decide (r < g.rows)))

/-- The checks of Table 4.5 in order; 0 when all pass.  A poisoned read fails check 2 (Table 13.1). -/
def geomCode (bs : Bytes) (n : Nat) (poisoned : Bool) : Nat :=
  let g := parseGeom bs
  if leAt bs 0 4 ≠ 0x4F45474E ∨ byteAt bs 4 ≠ 1 then 1
  else if poisoned = true ∨ crc32c (bs.take 60 ++ (bs.drop 64).take 65792) ≠ leAt bs 60 4 then 2
  else if byteAt bs 5 ≠ n then 3
  else if ¬(g.plane ≤ 15 ∧ 1 ≤ g.rows ∧ g.rows ≤ 16 ∧ 1 ≤ g.nozzles ∧ g.nozzles ≤ 16384 ∧ 4 ≤ g.slots ∧ g.slots ≤ 16
      ∧ 1 ≤ g.groupSize ∧ g.groupSize ≤ 32 ∧ g.dotMode ≤ 1 ∧ g.colBase ≤ 262143 ∧ geomReservedZero bs g = true) then 4
  else if ¬(g.noz.all fun e => decide (nozRow e.2 < g.rows) && decide (nozSlot e.2 < g.slots)) then 5
  else if ¬(g.noz.all fun e => decide (0 ≤ g.column e.2) && decide (g.column e.2 ≤ 262143)) then 6
  else if ¬(g.noz.map fun e => (nozRow e.2, g.column e.2)).Nodup then 7
  else if ¬(g.noz.map fun e => (e.1 / g.groupSize, nozRow e.2, nozSlot e.2)).Nodup then 8
  else if ¬geomCounts bs g then 9
  else 0

/-- The Basin address of port n's geometry table (R72). -/
def Dev.geomAddr (d : Dev) (n : Nat) : Nat := d.get Reg.PRT.GEOM_BASE.ADDR * 2 ^ 17 + n * 0x20000

/-- A load request (R75): accepted, or refused in a print mode or during a load. -/
def geomLoad (ports : Nat) (d : Dev) : Dev :=
  if d.printing ∨ d.prt.loading.isSome then
    ((d.set Reg.PRT.GEOM_STAT.LAST_CODE 0x0F).set Reg.PRT.GEOM_STAT.LAST_PORT 0).raise 0 Kind.PRT.GEOM_REFUSED
  else
    let d := ((d.set Reg.PRT.GEOM_STAT.LAST_CODE 0).set Reg.PRT.GEOM_STAT.LAST_PORT 0).put Reg.PRT.GEOM_STAT.BUSY true
    { d with prt := { d.prt with loading := some (ports % 2 ^ 64) } }.request (pg .PRT 0)

/-- One port of a load: its table read and checked (R74). -/
def geomLoadPort (poisoned : List Nat) (d : Dev) (n : Nat) : Dev :=
  let d := d.basinLoad 1 0xFF (d.geomAddr n) 65856 (if poisoned.contains n then 2 else 0)
  let bs := d.basinRead (d.geomAddr n) 65856
  let code := geomCode bs n (d.basinFails (d.geomAddr n) 65856)
  if code = 0 then
    ({ d with prt := { d.prt with geom := tset none n (some (parseGeom bs)) d.prt.geom } }).setBit Reg.PRT.GEOM_OK.OK n
  else
    ((d.set Reg.PRT.GEOM_STAT.LAST_CODE code).set Reg.PRT.GEOM_STAT.LAST_PORT n).raise 0 Kind.PRT.GEOM_FAILED
      { port := n, arg := code }

/-! ### Completion records (R92 to R94) -/

/-- The records the completion ring holds. -/
def Dev.cplSize (d : Dev) : Nat := 2 ^ clamp 4 16 (d.get Reg.PRT.CPL_SIZE.LOG2)

/-- The bytes of a completion record (Table 4.11). -/
def cplBytes (ts jobId line arg kind plane status engine seq : Nat) : Bytes :=
  leBytes 8 ts ++ leBytes 4 jobId ++ leBytes 4 line ++ leBytes 4 arg ++ leBytes 1 kind ++ leBytes 1 plane ++
  leBytes 1 status ++ leBytes 1 engine ++ leBytes 4 seq ++ leBytes 4 0

/-- Is a completion record kept (R94): the ring has room, and its memory takes the write (Basin serves requests, or the PCIe
link is up)? -/
def Dev.cplFits (d : Dev) : Bool :=
  decide ((d.get Reg.PRT.CPL_TAIL.INDEX + 1) % d.cplSize ≠ d.get Reg.PRT.CPL_HEAD.INDEX) &&
  (if d.is Reg.PRT.CPL_BASE.SPACE then decide (d.get Reg.PCI.LINK_STAT.STATE = 2) else d.basinUp)

/-- A record is written when the ring has room, or dropped with CPL_LOST (R94).  `engine` reports it.  SEQ counts the records
written before it since reset, so the first one has 0, and the ARG of CPL_LOST is the JOB_ID (DESIGN CHOICE,
notes/assumptions/19.md). -/
def cplWriteBy (engine plane kind jobId line arg status : Nat) (d : Dev) : Dev :=
  let tail := d.get Reg.PRT.CPL_TAIL.INDEX
  let host := d.is Reg.PRT.CPL_BASE.SPACE
  let base := d.get Reg.PRT.CPL_BASE.ADDR * 4096
  if d.cplFits = false then
    (d.bump Reg.PRT.CPL_LOST.COUNT 1).raise 0 Kind.PRT.CPL_LOST { arg := jobId }
  else
    let bs := cplBytes d.ts jobId line arg kind plane status engine d.prt.cplSeq
    let d := if host then d.emit (.hostWrite (base + 32 * tail) bs) else d.basinWrite (base % 2 ^ 35 + 32 * tail) bs 1
    let d := d.set Reg.PRT.CPL_TAIL.INDEX ((tail + 1) % d.cplSize)
    { d with prt := { d.prt with cplSeq := (d.prt.cplSeq + 1) % 2 ^ 32 } }

/-- Does a port of a plane still fire a job line in a cycle latched before the last failover, the old engine's cycle L (R245)? -/
def Dev.oldCycle (d : Dev) (plane line : Nat) : Bool :=
  (List.range 64).any fun n =>
    match (d.port n).firing, d.geom n with
    | some f, some g => g.plane == plane && decide (f.t0 < d.eng.lastAt) && f.lines.any fun l => l.line == line
    | _, _ => false

/-- An engine may write a record that the other has written (R93, R245): whether it does is a free value (notes/assumptions/54.md). -/
def cplMayRepeat (engine plane kind jobId line arg status : Nat) (d : Dev) : Dev :=
  if Config.freeValue d.free % 2 = 1 then cplWriteBy engine plane kind jobId line arg status d.drawn else d.drawn

/-- A record reported by the active engine; during the failover overlap the old engine may report it again when it is of cycle L
(R93, R245). -/
def cplWrite (plane kind jobId line arg status : Nat) (d : Dev) : Dev :=
  let d := cplWriteBy (d.get Reg.ENG.STAT.ACTIVE) plane kind jobId line arg status d
  match d.eng.overlap with
  | some (old, _) => if d.oldCycle plane line then cplMayRepeat old plane kind jobId line arg status d else d
  | none => d

/-! ### The tally of job lines (R86, R89, R92, R109) -/

/-- The number of job lines of a job. -/
def Job.total (j : Job) : Nat := j.lines * j.repeats

/-- The open run of skipped lines is reported (R89); the record written raises source 115 (Table 4.14). -/
def flushRun (p : Nat) (j : Job) (d : Dev) : Job × Dev :=
  match j.run with
  | none => (j, d)
  | some (first, n) =>
    let d' := cplWrite p 3 j.id first n 0 d
    ({ j with run := none }, if d.cplFits then d'.ev .PRT 0 3 else d')

/-- The number of row-lines that make up one line of a job. -/
def Dev.rowLines (d : Dev) (j : Job) : Nat := (j.ports.map d.rowsOf).foldl (· + ·) 0

/-- One ended copy is counted towards mask rotation (R136). -/
def rotationCount (p : Nat) (d : Dev) : Dev :=
  if d.is Reg.MSK.ROT_CFG.EN ∧ d.get Reg.MSK.ROT_CFG.PLANE = p ∧ d.inRun (pg .TRN 0) then
    let n := d.get Reg.MSK.ROT_STAT.COPIES + 1
    let pages := if d.get Reg.MSK.ROT_CFG.PAGES = 0 then 256 else d.get Reg.MSK.ROT_CFG.PAGES
    if pages ≤ n then
      let r := (d.get Reg.MSK.ROT_STAT.ROT_R + d.get Reg.MSK.ROT_CFG.STEP_R) % 16
      let x := (d.get Reg.MSK.ROT_STAT.ROT_X + d.get Reg.MSK.ROT_CFG.STEP_X) % 256
      (((d.set Reg.MSK.ROT_STAT.COPIES 0).set Reg.MSK.ROT_STAT.ROT_R r).set Reg.MSK.ROT_STAT.ROT_X x).ev .MSK 0 0
    else d.set Reg.MSK.ROT_STAT.COPIES n
  else d

/-- A job line all of whose row-lines are resolved is counted, and a skip run or a line mark follows. -/
def closeLine (p : Nat) (j : Job) (line : Nat) (t : Tally) (d : Dev) : Job × Dev :=
  let j := { j with tally := tdel line j.tally, closed := ((line, t.skipped) :: j.closed).take 64 }
  let d := if line % j.lines = j.lines - 1 then rotationCount p d else d
  if t.skipped then
    match j.run with
    | some (first, n) =>
      if line = first + n then ({ j with skipped := j.skipped + 1, run := some (first, n + 1) }, d)
      else
        let r := flushRun p j d
        ({ r.1 with skipped := j.skipped + 1, run := some (line, 1) }, r.2)
    | none => ({ j with skipped := j.skipped + 1, run := some (line, 1) }, d)
  else
    let r := flushRun p j d
    let j := { r.1 with fired := r.1.fired + 1, late := r.1.late + b2n t.late }
    let m := d.get (Reg.PRT.Q_CTRL.MARK p)
    if m ≠ 0 ∧ line % 2 ^ m = 0 then (j, cplWrite p 2 j.id line 0 0 r.2) else (j, r.2)

/-- One row-line of a job is resolved: latched, or skipped. -/
def tallyRow (p : Nat) (j : Job) (line : Nat) (skipped late : Bool) (d : Dev) : Job × Dev :=
  let t := tget Tally.init j.tally line
  let t := { resolved := t.resolved + 1, skipped := t.skipped || skipped, late := t.late || late }
  if d.rowLines j ≤ t.resolved then closeLine p j line t d
  else ({ j with tally := tset Tally.init line t j.tally }, d)

/-! ### Ending jobs (R81, R86, R90) -/

/-- The Basin address of descriptor `i` of a plane's ring. -/
def Dev.descAddr (d : Dev) (p i : Nat) : Nat := d.get (Reg.PRT.Q_BASE.ADDR p) * 64 + 64 * i

/-- The number of descriptors of a plane's ring (R84). -/
def Dev.qSize (d : Dev) (p : Nat) : Nat := 2 ^ clamp 2 16 (d.get (Reg.PRT.Q_SIZE.LOG2 p))

/-- A descriptor is written back with its outcome, then its CTRL with OWN cleared (R81). -/
def writeBack (p idx status fired skipped late : Nat) (d : Dev) : Dev :=
  let a := d.descAddr p idx
  let ctrl := leVal (d.basinRead a 4)
  if d.basinUp then
    (d.basinWrite (a + 40) (leBytes 4 status ++ leBytes 4 fired ++ leBytes 4 skipped ++ leBytes 4 late ++ leBytes 8 d.ts) 1).basinWrite
      a (leBytes 4 (clrB ctrl 31)) 1
  else d

/-- Q_HEAD moves past one descriptor; the queue that becomes empty raises source 113 (R86). -/
def headAdvance (p : Nat) (d : Dev) : Dev :=
  let h := (d.get (Reg.PRT.Q_HEAD.INDEX p) + 1) % d.qSize p
  let d := d.set (Reg.PRT.Q_HEAD.INDEX p) h
  if h = d.get (Reg.PRT.Q_TAIL.INDEX p) then d.ev .PRT 0 1 else d

/-- A job ends: its descriptor, its JOB_END record and Q_HEAD are written (R86), and its sources raised; the ARG of BAD_DESC,
BAD_TDIR and DECODE_ERROR is the JOB_ID (DESIGN CHOICE, notes/assumptions/19.md). -/
def finishJob (p : Nat) (idx id status lastLine fired skipped late : Nat) (irq holdAfter : Bool) (d : Dev) : Dev :=
  let d := writeBack p idx status fired skipped late d
  let kept := d.cplFits
  let d := cplWrite p 1 id lastLine skipped status d
  let d := if irq = true ∧ kept = true then d.ev .PRT 0 0 else d
  let d := if status = 3 then d.raise 0 Kind.PRT.BAD_DESC { arg := id }
    else if status = 4 then d.raise 0 Kind.PRT.BAD_TDIR { arg := id }
    else if status = 5 then d.raise 0 Kind.PRT.DECODE_ERROR { arg := id }
    else d
  let d := if holdAfter then d.put (Reg.PRT.Q_CTRL.HOLD p) true else d
  headAdvance p d

/-- The status with which a job ends on its own (Table 4.10, Table 6.2). -/
def Job.status (j : Job) : Nat :=
  match j.ending with
  | some c => c
  | none =>
    match j.bad with
    | some (_, c) => c
    | none => if j.err ≠ 0 then j.err else if j.skipped ≠ 0 then 1 else 0

/-- Is no port in the middle of a cycle that fires a line of this job? -/
def Dev.jobAtBoundary (d : Dev) (j : Job) : Bool :=
  j.ports.all fun n => match (d.port n).firing with
    | some f => f.done || !(f.lines.any fun l => l.job == j.seq)
    | none => true

/-- May a job end now (R86, R90, Table 6.2)? -/
def Dev.jobOver (d : Dev) (j : Job) : Bool :=
  match j.ending with
  | some _ => d.jobAtBoundary j
  | none =>
    match j.bad with
    | some (jBad, _) => j.ports.all (fun n => (List.range (d.rowsOf n)).all fun r => decide (min jBad j.total ≤ tget 0 j.next (n * 16 + r)))
        && d.jobAtBoundary j
    | none => decide (j.total ≤ j.fired + j.skipped)

/-- The end of the previous job: one pitch beyond the last line of its last copy (R82), in direction `sg`. -/
def Job.endPos (j : Job) (pitch sg : Int) : Option Int :=
  j.s0.map fun s => s + sg * ((j.repeats - 1 : Int) * (j.lines * pitch + j.gap * 65536) + j.lines * pitch)

/-- Lines of a stopped job that no port will print are counted as skipped (Table 6.2): those behind the lines already closed,
which close in order. -/
def closeBad (j : Job) : Job :=
  match j.ending, j.bad with
  | none, some _ =>
    let rest := j.total - (j.fired + j.skipped)
    let run := match j.run with
      | some (f, n) => some (f, n + rest)
      | none => if rest = 0 then none else some (j.fired + j.skipped, rest)
    { j with skipped := j.skipped + rest, run }
  | _, _ => j

/-- σ is −1 while a REVERSE pass of SHUTTLE is active, and +1 in every other case (R97). -/
def sigmaSync (d : Dev) : Dev :=
  let rev := d.mode == 4 && (List.range 16).any fun p => (d.plane p).jobs.any fun j => j.active && j.reverse
  { d with trg := { d.trg with sigma := (if rev then -1 else 1) } }.put Reg.TRG.STAT.DIR rev

/-- The job at the head of a plane's queue ends if it may. -/
def endHead (p : Nat) (d : Dev) : Dev :=
  match (d.plane p).jobs with
  | [] => d
  | j :: rest =>
    if d.jobOver j = true then
      let r := flushRun p (closeBad j) d
      let d := sigmaSync (r.2.setPlane p { r.2.plane p with jobs := rest })
      finishJob p j.idx j.id r.1.status (j.total - 1) r.1.fired r.1.skipped r.1.late j.irq j.holdAfter d
    else d

/-- Every job at the head of the queue that may end does, in queue order (R85). -/
def endJobs (p : Nat) (d : Dev) : Dev := (List.range (d.plane p).jobs.length).foldl (fun d _ => endHead p d) d

/-- The job of a taking number, with its plane. -/
def Dev.findJob (d : Dev) (seq : Nat) : Option (Nat × Job) :=
  (List.range 16).findSome? fun p => ((d.plane p).jobs.find? fun j => j.seq == seq).map fun j => (p, j)

/-- A job of a plane replaced, by its taking number. -/
def Dev.setJob (d : Dev) (p : Nat) (j : Job) : Dev :=
  let q := d.plane p
  d.setPlane p { q with jobs := q.jobs.map fun k => if k.seq = j.seq then j else k }

/-- One row-line of port `n` resolved, in its job (R109), and the jobs that this ends. -/
def resolveRow (n : Nat) (skipped late : Bool) (d : Dev) (l : RowLine) : Dev :=
  match d.findJob l.job with
  | none => d
  | some (p, j) =>
    let j := { j with next := tset 0 (n * 16 + l.row) (l.line + 1) j.next }
    let r := tallyRow p j l.line skipped late d
    endJobs p (r.2.setJob p r.1)

/-! ### Taking jobs (R82, R83, R87) -/

/-- Do the checks of R83 on a descriptor pass in a mode? -/
def descOk (bs : Bytes) (mode : Nat) : Bool :=
  let ctrl := leAt bs 0 4
  let start := leAt bs 8 8
  let kind := bits ctrl 5 4
  ctrl.testBit 31 && bits ctrl 30 10 == 0 && !ctrl.testBit 6 && bits ctrl 3 0 == 0 && byteAt bs 27 == 0 &&
  bits start 63 48 == (if start.testBit 47 then 0xFFFF else 0) && leAt bs 32 8 % 64 == 0 &&
  decide (1 ≤ leAt bs 16 4) && decide (1 ≤ leAt bs 24 2) && decide (leAt bs 16 4 * leAt bs 24 2 ≤ 2 ^ 32 - 1) &&
  kind != 3 && (if mode = 3 then kind == 1 || kind == 2 else kind != 1) && (decide (mode = 4) || !ctrl.testBit 9)

/-- The directory header's fields. -/
def parseDir (bs : Bytes) : TDir :=
  { planeMap := leAt bs 6 2, tcFirst := byteAt bs 8, tcCount := byteAt bs 9, trCount := leAt bs 12 4, lines := leAt bs 16 4 }

/-- Do the checks of R83 on a directory header pass for a job? -/
def dirOk (bs : Bytes) (img0 lines : Nat) : Bool :=
  let h := parseDir bs
  leAt bs 0 4 == 0x52494454 && byteAt bs 4 == 1 && crc32c (bs.take 60) == leAt bs 60 4 &&
  h.planeMap != 0 && byteAt bs 5 == (bitList 16 h.planeMap).length &&
  decide (h.tcFirst ≤ 127) && decide (1 ≤ h.tcCount) && decide (h.tcFirst + h.tcCount ≤ 128) &&
  decide (1 ≤ h.trCount) && decide (1 ≤ h.lines) && decide (h.lines ≤ 64 * h.trCount) && decide (img0 + lines ≤ h.lines) &&
  zeroRange bs 10 2 && zeroRange bs 20 40

/-- The job a descriptor describes. -/
def mkJob (seq idx : Nat) (bs : Bytes) (dir : TDir) (ports : List Nat) : Job :=
  let ctrl := leAt bs 0 4
  { seq, idx, id := leAt bs 4 4, kind := bits ctrl 5 4, start := toSigned 48 (leAt bs 8 8), lines := leAt bs 16 4,
    img0 := leAt bs 20 4, repeats := leAt bs 24 2, maskSet := byteAt bs 26, gap := leAt bs 28 4, tdir := leAt bs 32 8,
    irq := ctrl.testBit 8, holdAfter := ctrl.testBit 7, reverse := ctrl.testBit 9, dir, s0 := none, active := false, phiAct := none, carried := false,
    ports, bad := none, err := 0, ending := none, fired := 0, skipped := 0, late := 0, tally := [], next := [],
    run := none, rot := [], started := [], badTiles := [], closed := [] }

/-- The line pitch in 2^-16 fine counts. -/
def Dev.pitch (d : Dev) : Int := (d.get Reg.TRG.PITCH.PITCH : Nat)

/-- The progress direction of a job: −1 only for a REVERSE pass of SHUTTLE (R97). -/
def Job.dirn (j : Job) : Int := if j.reverse then -1 else 1

/-- A SHEET job takes its edge: older entries that give a start at or behind P_hi are discarded and counted (R87); the ARG of
SHEETS_MISSED is the plane (DESIGN CHOICE, notes/assumptions/19.md). -/
def takeEdge (p : Nat) (start : Int) : List Int → Dev → Option Int × List Int × Dev
  | [], d => (none, [], d)
  | e :: t, d =>
    if d.trg.phi < e + start * 65536 then (some (e + start * 65536), t, d)
    else takeEdge p start t ((d.bump (Reg.PRT.Q_MISSED.COUNT p) 1).raise 0 Kind.PRT.SHEETS_MISSED { arg := p })

/-- The end of a job as a FOLLOW job behind it takes it: its E (R82), and in SHUTTLE the position of its last line (R115). -/
def Dev.followFrom (d : Dev) (k : Job) : Option Int :=
  (k.endPos d.pitch k.dirn).map fun e => if d.mode = 4 then e - k.dirn * d.pitch else e

/-- Is a job ahead one that a FOLLOW job may follow: active since the last entry to a print mode, or still to become so? -/
def Job.leads (k : Job) : Bool := if k.active then !k.carried else k.ending.isNone

/-- S_0 of a job behind the jobs `ahead` (R82, R87, R88, R115); none while its edge, or the start of the job it follows, is not
known. -/
def startPos (p : Nat) (ahead : List Job) (j : Job) (d : Dev) : Job × Dev :=
  let q := d.plane p
  if j.kind = 0 then ({ j with s0 := some (j.start * 65536) }, d)
  else if j.kind = 1 then
    let r := takeEdge p j.start q.edges d
    ({ j with s0 := r.1 }, r.2.2.setPlane p { r.2.2.plane p with edges := r.2.1 })
  else
    let e := match (ahead.filter Job.leads).getLast? with
      | some k => d.followFrom k
      | none => some (((if d.mode = 4 then q.prevLast else q.prevEnd)).getD d.trg.phi)
    ({ j with s0 := e.map fun e => e + j.dirn * (j.gap * 65536) }, d)

/-- The taken jobs of a plane that have no start yet get theirs, in queue order, where it is known now. -/
def settleStarts (p : Nat) (d : Dev) : Dev :=
  (d.plane p).jobs.foldl (fun d j =>
    if j.s0.isSome = true ∨ j.ending.isSome = true then d
    else
      let r := startPos p ((d.plane p).jobs.takeWhile fun k => k.seq != j.seq) j d
      r.2.setJob p r.1) d

/-- The most active jobs a plane holds: Q_WINDOW.DEPTH, and 1 in SHUTTLE (R85, R115). -/
def Dev.window (d : Dev) : Nat :=
  let w := d.get Reg.PRT.Q_WINDOW.DEPTH
  if d.mode = 4 then 1 else if w = 0 ∨ 4 < w then 4 else w

/-- Does a plane's queue run (R54, R91)? -/
def Dev.queueRuns (d : Dev) (p : Nat) : Bool :=
  d.printing && d.is (Reg.PRT.Q_CTRL.ENABLE p) && d.enabled (pg .PRT 0) && d.inRun (pg .PRT 0) &&
  !d.is Reg.SYS.MODE_STAT.PENDING

/-- A queue takes its next descriptor (R83): it ends at once with BAD_DESC, BAD_TDIR or NO_PORTS, or becomes a job
whose lines may print.  The JOB_END of one that fails names LINES * REPEATS - 1 as its last line, 0 where that product is 0
(DESIGN CHOICE, notes/assumptions/19.md).  `descBad` and `dirBad` are poisoned reads (Table 13.1). -/
def jobStart (p : Nat) (descBad dirBad : Bool) (d : Dev) : Dev :=
  let q := d.plane p
  if d.queueRuns p = false ∨ q.take = d.get (Reg.PRT.Q_TAIL.INDEX p) ∨
      d.window + 1 ≤ (q.jobs.filter fun k => k.ending.isNone).length then d
  else
    let d := d.basinLoad 1 0xFF (d.descAddr p q.take) 64 (if descBad then 2 else 0)
    let bs := d.basinRead (d.descAddr p q.take) 64
    let descBad := d.basinFails (d.descAddr p q.take) 64
    let img0 := leAt bs 20 4
    let lines := leAt bs 16 4
    let nxt := (q.take + 1) % d.qSize p
    let ports := d.portsOf p
    let d := if descBad then d else d.basinLoad 1 0xFF (leAt bs 32 8) 64 (if dirBad then 2 else 0)
    let hdr := d.basinRead (leAt bs 32 8) 64
    let dirBad := d.basinFails (leAt bs 32 8) 64
    let code :=
      if descBad = true ∨ descOk bs d.mode = false then some 3
      else if dirBad = true ∨ dirOk hdr img0 lines = false then some 4
      else if ports = [] then some 7
      else none
    match code with
    | some c =>
      let d := d.setPlane p { q with take := nxt }
      if q.jobs = [] then
        finishJob p q.take (leAt bs 4 4) c (lines * leAt bs 24 2 - 1) 0 0 0 (bits (leAt bs 0 4) 8 8 != 0)
          (bits (leAt bs 0 4) 7 7 != 0) d
      else
        -- jobs end in queue order (R85): it waits behind the jobs ahead, with its status fixed
        let j := { mkJob d.prt.jobSeq q.take bs (parseDir hdr) [] with ending := some c }
        let d := { d with prt := { d.prt with jobSeq := d.prt.jobSeq + 1 } }
        d.setPlane p { d.plane p with jobs := (d.plane p).jobs ++ [j] }
    | none =>
      let j := mkJob d.prt.jobSeq q.take bs (parseDir hdr) ports
      let r := startPos p q.jobs j { d with prt := { d.prt with jobSeq := d.prt.jobSeq + 1 } }
      let q := r.2.plane p
      r.2.setPlane p { q with jobs := q.jobs ++ [r.1], take := nxt }

/-! ### Host hand-over, cancel, sheet edges (R84, R87, R90) -/

/-- A Q_TAIL write (R84): accepted, or discarded with BAD_DESC and ARG 0xFFFF_FFFF. -/
def qTailWrite (p v : Nat) (d : Dev) : Dev :=
  let n := d.qSize p
  let h := d.get (Reg.PRT.Q_HEAD.INDEX p)
  let old := d.get (Reg.PRT.Q_TAIL.INDEX p)
  if v < n ∧ (old + n - h) % n ≤ (v + n - h) % n then d.set (Reg.PRT.Q_TAIL.INDEX p) v
  else d.raise 0 Kind.PRT.BAD_DESC { arg := 0xFFFFFFFF }

/-- Every active job of a plane is to end with a status at the end of each port's row-line. -/
def endActive (p status : Nat) (d : Dev) : Dev :=
  let q := d.plane p
  let d := d.setPlane p { q with jobs := q.jobs.map fun j => if j.active && j.ending.isNone then { j with ending := some status } else j }
  endJobs p d

/-- Q_CTRL.CANCEL (R90): active jobs end at their row-line, every other descriptor up to TAIL ends with CANCELLED. -/
def qCancel (p : Nat) (d : Dev) : Dev :=
  let q := d.plane p
  let tail := d.get (Reg.PRT.Q_TAIL.INDEX p)
  let n := d.qSize p
  -- the descriptors not yet taken become taken, ending CANCELLED in their turn
  let rest := (List.range ((tail + n - q.take) % n)).map fun i =>
    let idx := (q.take + i) % n
    { mkJob (d.prt.jobSeq + i) idx (d.basinRead (d.descAddr p idx) 64) (parseDir []) [] with ending := some 6 }
  let jobs := (q.jobs.map fun j => if j.ending.isNone then { j with ending := some 6 } else j) ++ rest
  let d := { d with prt := { d.prt with jobSeq := d.prt.jobSeq + rest.length } }
  let d := d.setPlane p { q with jobs, take := tail }
  (List.range (jobs.length)).foldl (fun d _ => endHead p d) d

/-- An edge enters the FIFO of every plane whose queue is enabled, or is dropped there with SHEET_EDGE_OVERRUN, whose ARG is
the plane (R87; DESIGN CHOICE, notes/assumptions/19.md). -/
def pushEdge (e : Int) (d : Dev) : Dev :=
  (List.range 16).foldl (fun d p =>
    if d.is (Reg.PRT.Q_CTRL.ENABLE p) then
      let q := d.plane p
      if 8 ≤ q.edges.length then d.raise 0 Kind.PRT.SHEET_EDGE_OVERRUN { arg := p }
      else
        -- the oldest job that waits for an edge takes it, and the job that follows it gets its start
        settleStarts p (d.setPlane p { q with edges := q.edges ++ [e] })
    else d) d

/-- Does a job of a plane wait for a usable edge (R87)? -/
def Plane.waitsEdge (q : Plane) : Bool := q.jobs.any fun j => j.kind == 1 && j.s0.isNone && j.ending.isNone

/-- Q_STAT.STATE (Table 4.13).  Where several hold, held comes before waiting for an edge, and that before running, which jobs
that have been taken and are not yet active read as well (DESIGN CHOICE, notes/assumptions/19.md). -/
def Dev.qState (d : Dev) (p : Nat) : Nat :=
  let q := d.plane p
  if d.is (Reg.PRT.Q_CTRL.HOLD p) then 2 else if q.waitsEdge then 3
  else if q.jobs = [] then 0 else 1

/-- The jobs of a plane that are taken and have not become active are given back: the queue takes them again later, from
the first of them on, with the edges they took. -/
def giveBack (p : Nat) (d : Dev) : Dev :=
  let q := d.plane p
  match q.jobs.find? fun j => !j.active && j.ending.isNone with
  | none => d
  | some first =>
    let back := q.jobs.dropWhile fun j => j.seq != first.seq
    let edges := back.filterMap fun j => if j.kind = 1 then j.s0.map (· - j.start * 65536) else none
    d.setPlane p { q with jobs := q.jobs.takeWhile fun j => j.seq != first.seq, take := first.idx, edges := edges ++ q.edges }

/-- The PRT fields computed when read. -/
def prtView (d : Dev) (f : Fld) : Option Nat :=
  let p := (f.off - 0x100) / 0x20
  let q := d.plane p
  if f = Reg.PRT.Q_STAT.EDGES p then some q.edges.length
  else if f = Reg.PRT.Q_STAT.ACTIVE p then some (q.jobs.filter (·.active)).length
  else if f = Reg.PRT.Q_STAT.STATE p then some (d.qState p)
  else if f = Reg.PRT.Q_STAT.JOB p then some (match q.jobs.find? (·.active) with | some j => j.id % 65536 | none => 0)
  else none

/-! ### Lost providers (R24) -/

/-- A print-critical provider is lost while a print mode is active: its consumer ports stop at the end of their
row-lines, and one message is held for the loss until the last of them has (R24). -/
def loseProvider (arg port : Nat) (ports : List Nat) (d : Dev) : Dev :=
  if d.printing then
    { d with prt := { d.prt with
        lost := d.prt.lost ++ [(arg, port, ports)],
        stopped := d.prt.stopped ++ ports.filter fun n => !d.prt.stopped.contains n } }
  else d

/-- The ports that consume what every port needs: the enabled ones. -/
def Dev.consumers (d : Dev) : List Nat := (List.range 64).filter fun n => d.enabled (pg .HPT n)

/-- Is a port at a row-line boundary? -/
def Dev.portAtBoundary (d : Dev) (n : Nat) : Bool := match (d.port n).firing with | some f => f.done | none => true

/-- The last consumer port of a lost provider has reached its boundary: PRT sends its one message. -/
def providerLost (d : Dev) : Dev :=
  match d.prt.lost.find? fun l => l.2.2.all d.portAtBoundary with
  | none => d
  | some l =>
    ({ d with prt := { d.prt with lost := d.prt.lost.erase l } }).raise 0 Kind.PRT.PROVIDER_LOST { arg := l.1, port := l.2.1 }

/-! ### Stopping PRT (R91) -/

/-- Has PRT an active job? -/
def Dev.prtBusy (d : Dev) : Bool := (List.range 16).any fun p => (d.plane p).jobs.any (·.active)

/-- Every active job ends ABORTED at the end of each port's row-line (drain timeout and KILL). -/
def prtAbort (d : Dev) : Dev :=
  let d := if d.prt.loading.isSome then { d.put Reg.PRT.GEOM_STAT.BUSY false with prt := { d.prt with loading := none } } else d
  (List.range 16).foldl (fun d p => endActive p 2 d) d

/-- What KILL of PRT discards: built cycles not yet latched, prefetch lists and edge FIFOs; descriptors not yet
active are given back to the queue. -/
def prtKill (d : Dev) : Dev :=
  let d := prtAbort d
  let d := (List.range 16).foldl (fun d p =>
    let q := d.plane p
    let keep := q.jobs.takeWhile fun j => j.ending.isSome
    let take := match q.jobs.find? fun j => j.ending.isNone with | some j => j.idx | none => q.take
    d.setPlane p { q with jobs := keep, take, edges := [] }) d
  (List.range 64).foldl (fun d n =>
    let d := d.setPort n { d.port n with built := none, sched := none, issued := false }
    d.setPipe n { d.pipe n with lane := Lane.init }) d

end Sys2Proof.Machine
end

