-- ==== Sys2Proof/Machine/Cal.lean ====
section
/-!
DEFINITION. Calibration and trimming (chapter 18): trim items and their slews, runs, plausibility, the spare channel and
failed channels.
-/
namespace Sys2Proof.Machine

/-- A trim item. -/
def Dev.item (d : Dev) (t i : Nat) : CalItem := tget CalItem.init d.cal.items (t * 16 + i)

/-- A trim item replaced. -/
def Dev.setItem (d : Dev) (t i : Nat) (x : CalItem) : Dev :=
  { d with cal := { d.cal with items := tset CalItem.init (t * 16 + i) x d.cal.items } }

/-- A target's record. -/
def Dev.target? (d : Dev) (t : Nat) : CalTgt := tget CalTgt.init d.cal.tgts t

/-- A target's record replaced. -/
def Dev.setTarget (d : Dev) (t : Nat) (x : CalTgt) : Dev :=
  { d with cal := { d.cal with tgts := tset CalTgt.init t x d.cal.tgts } }

/-- The number of items of a target (Table 18.1). -/
def calItems (t : Nat) : Nat :=
  if t ≤ 8 then 3 else if t = 9 then 16 else if t = 10 then 2 else if t = 13 then 16 else if t ≤ 14 then 1 else 0

/-! ### Target values and slews (R424, R434) -/

/-- The target value of an item, and whether the clamp acts (R424). -/
def CalItem.aim (x : CalItem) : Int × Bool :=
  let v := x.factory + x.run + x.user
  (max x.lo (min v x.hi), decide (v < x.lo) || decide (x.hi < v))

/-- An item takes its target value: a slew of 256 ticks, or at once (`now`, at B7). -/
def retrim (t i : Nat) (now : Bool) (d : Dev) : Dev :=
  let x := d.item t i
  let a := x.aim
  let y := if now then { x with tgt := a.1, eff := a.1 * 256, step := 0, left := 0 }
    else if x.tgt = a.1 then x
    else { x with tgt := a.1, step := (a.1 * 256 - x.eff).tdiv 256, left := 256 }
  let d := d.setItem t i y
  let d := d.setTarget t { d.target? t with clamp := (List.range (calItems t)).any fun k => (d.item t k).aim.2 }
  if a.2 then d.raise 0 Kind.CAL.TRIM_CLAMP { arg := t * 256 + i } else d

/-- Do slews move (R437)? In RUN, and to their ends in a block stopped by ENABLE = 0; else every effective value holds. -/
def Dev.slews (d : Dev) : Bool :=
  d.inRun (pg .CAL 0) || (!d.enabled (pg .CAL 0) && (d.blk (pg .CAL 0) == 1 || d.blk (pg .CAL 0) == 4))

/-- One update tick of an item (R434). -/
def trimTick (t i : Nat) (d : Dev) : Dev :=
  let x := d.item t i
  if x.left = 0 ∨ d.slews = false then d
  else if x.left = 1 then d.setItem t i { x with eff := x.tgt * 256, left := 0 }
  else d.setItem t i { x with eff := x.eff + x.step, left := x.left - 1 }

/-- One update tick of every item of a target. -/
def trimTicks (t : Nat) (d : Dev) : Dev := (List.range (calItems t)).foldl (fun d i => trimTick t i d) d

/-- The effective value of an item in whole units. -/
def Dev.trim (d : Dev) (t i : Nat) : Int := roundDiv (d.item t i).eff 256

/-- The selected target and item (R438). -/
def Dev.calSel (d : Dev) : Nat × Nat := (min 14 (d.get Reg.CAL.SEL.TARGET), d.get Reg.CAL.SEL.ITEM)

/-- A write of CAL.USER (R424); an item that does not exist takes none (R438). -/
def trimUser (v : Nat) (d : Dev) : Dev :=
  let s := d.calSel
  if s.2 < calItems s.1 then retrim s.1 s.2 false (d.setItem s.1 s.2 { d.item s.1 s.2 with user := toSigned 16 v }) else d

/-! ### The spare channel (R428 to R430, R432) -/

/-- STAT.SPARE: 0 free, 1 takeover, 2 covering, 3 own run, 4 failed. -/
def Dev.spare (d : Dev) : Nat := d.get Reg.CAL.STAT.SPARE

/-- Is channel `c` in a run that the spare does not cover, so that its samples are stale (R429)? -/
def Dev.channelStale (d : Dev) (c : Nat) : Bool :=
  (d.cal.cur == some c && decide (c < 8) && !d.cal.b7 && d.cal.taken != some c && d.cal.wants != some c &&
    !(d.spare == 2 && d.get Reg.CAL.STAT.COVER == c)) ||
  (d.cal.cur == some 8 && !d.cal.b7 && d.get Reg.CAL.STAT.COVER == c)

/-- A sample flagged stale is counted, and CAL_STALE raised once per run (R429). -/
def countStale (d : Dev) : Dev :=
  let d := d.bump Reg.CAL.STALE_CNT.COUNT 1
  if d.cal.staleRaised then d
  else ({ d with cal := { d.cal with staleRaised := true } }).raise 0 Kind.CAL.CAL_STALE

/-- The spare takes over a channel's multiplexer at a slot boundary, after a scan step in progress there (R428). -/
def spareTakeover (d : Dev) : Dev :=
  match d.cal.wants with
  | some c =>
    if d.cal.cur = some c ∧ d.spare = 0 ∧ (tget Chan.init d.snd.chans c).step.isNone = true then
      (({ d with cal := { d.cal with taken := some c, wants := none } }).set Reg.CAL.STAT.SPARE 1).ev .CAL 0 2
    else d
  | none => d

/-- At a slot boundary after a run the channel resumes and the spare becomes free (R428, R433). -/
def spareHandback (d : Dev) : Dev :=
  match d.cal.taken with
  | some c =>
    if d.cal.cur = some c then d
    else
      let d := { d with cal := { d.cal with taken := none, wants := none } }
      if d.spare = 1 then (d.set Reg.CAL.STAT.SPARE 0).ev .CAL 0 2 else d
  | none =>
    -- a restored channel takes its work back from the covering spare
    let c := d.get Reg.CAL.STAT.COVER
    if d.spare = 2 ∧ d.bitOf Reg.CAL.FAILED.CHANS c = false then
      ((d.set Reg.CAL.STAT.SPARE 0).set Reg.CAL.STAT.COVER 0xF).ev .CAL 0 2
    else d

/-! ### Runs (R426, R427, R430) -/

/-- The targets being run: one at a time, but at B7 every channel in parallel (R426). -/
def Dev.calRunning (d : Dev) : Nat :=
  match d.cal.cur with
  | some t => if d.cal.b7 = true ∧ t ≤ 8 then d.cal.set &&& 0x1FF else 2 ^ t
  | none => 0

/-- Targets of the run in progress not yet run, and those queued after it (STAT.QUEUE). -/
def Dev.calQueue (d : Dev) : Nat := andNot d.cal.set d.calRunning ||| d.cal.next

/-- The next target of the run in progress starts; a run with none left ends, and the queued one begins. -/
def calNext : Nat → Dev → Dev
  | 0, d => d
  | k + 1, d =>
    if d.cal.cur.isSome ∨ d.inRun (pg .CAL 0) = false ∨ d.enabled (pg .CAL 0) = false then d
    else
      match (bitList 15 d.cal.set).head? with
      | some t =>
        if t = 8 ∧ d.spare = 2 ∧ d.printing = true ∧ d.cal.b7 = false then
          -- R430: skipped while the spare covers a failed channel in a print mode
          let d := (d.setTarget 8 { d.target? 8 with result := 4 }).put Reg.CAL.STAT.BUSY true
          calNext k { d with cal := { d.cal with set := clrB d.cal.set 8 } }
        else
          let d := { d with cal := { d.cal with
              cur := some t, staleRaised := false, wants := (if t < 8 ∧ d.cal.b7 = false ∧ d.spare = 0 then some t else d.cal.wants) } }
          let d := (d.set Reg.CAL.STAT.CUR t).put Reg.CAL.STAT.BUSY true
          if t = 8 ∧ d.spare = 0 then d.set Reg.CAL.STAT.SPARE 3 else d
      | none =>
        if d.is Reg.CAL.STAT.BUSY then
          -- the run ends
          let b7 := d.cal.b7
          let d := { d with cal := { d.cal with b7 := false, set := d.cal.next, next := 0 } }
          let d := (d.put Reg.CAL.STAT.BUSY false).ev .CAL 0 0
          let d := if b7 then d.bringup Reg.SYS.BRINGUP.CAL_DONE true else d
          calNext k d
        else if d.cal.next = 0 then d
        else calNext k { d with cal := { d.cal with set := d.cal.next, next := 0 } }

/-- Targets requested (R426): they start a run, or wait for the present one, a target that is queued already only once. -/
def calRequest (targets : Nat) (d : Dev) : Dev :=
  let t := targets % 2 ^ 15
  if d.is Reg.CAL.STAT.BUSY then { d with cal := { d.cal with next := d.cal.next ||| andNot t (andNot d.cal.set d.calRunning) } }
  else calNext 20 { d with cal := { d.cal with set := d.cal.set ||| t } }

/-- The unconditional run of bring-up step B7: every target (R426). -/
def calB7 (d : Dev) : Dev :=
  calNext 20 { d with cal := { d.cal with set := 0x7FFF, next := 0, cur := none, b7 := true } }

/-- The items of a target that a run measures: a run of target 13 measures only the axes whose gates are low (R427). -/
def Dev.measured (d : Dev) (t i : Nat) : Bool :=
  if t = 13 then
    let p := pg .MOT (i / 2)
    d.blk p == 0 || !d.enabled p || d.is (Reg.MOT.STAT.OFF (i / 2))
  else true

/-- The check of one measured raw trim (R431): 1 accepted, 2 out of range, 3 step too large. -/
def CalItem.check (x : CalItem) (m : Int) : Nat :=
  if m < x.lo ∨ x.hi < m then 2
  else if x.ran = true ∧ x.hi - x.lo < 8 * (((m - (x.factory + x.run)).natAbs : Nat) : Int) then 3
  else 1

/-- A channel has failed (R432). -/
def channelFails (c : Nat) (d : Dev) : Dev :=
  let d := (d.setBit Reg.CAL.FAILED.CHANS c).raise 0 Kind.CAL.CHANNEL_FAILED { arg := c }
  if c = 8 then d.set Reg.CAL.STAT.SPARE 4
  else
    let s := d.spare
    if d.is Reg.CAL.CFG.AUTO_SPARE = true ∧ (s = 0 ∨ s = 1 ∨ s = 3) then
      let d := { d with cal := { d.cal with taken := none, wants := none } }
      ((d.set Reg.CAL.STAT.SPARE 2).set Reg.CAL.STAT.COVER c).ev .CAL 0 2
    else
      let ports := (List.range 8).filterMap fun k => if d.enabled (pg .HPT (8 * c + k)) then some (8 * c + k) else none
      loseProvider (pg .CAL 0 + c * 65536) 0x7F ports (d.raise 0 Kind.CAL.CHANNEL_LOST { arg := c })

/-- A run result of target `t` (R431 to R433): the raw trims measured, item by item, and the quality figure. -/
def runResult (t : Nat) (ms : List Int) (quality : Nat) (d : Dev) : Dev :=
  let is := (List.range (calItems t)).filter fun i => d.measured t i
  let codes := is.map fun i => (d.item t i).check (nth 0 ms i)
  let code := match codes.find? (· ≠ 1) with | some c => c | none => if is = [] then 4 else 1
  let b7 := d.cal.b7
  if code = 1 then
    let d := is.foldl (fun d i =>
      let x := d.item t i
      retrim t i b7 (d.setItem t i { x with run := nth 0 ms i - x.factory, ran := true })) d
    let d := d.setTarget t { d.target? t with result := 1, fails := 0, quality := quality % 65536, ts := d.ts }
    let d := (d.bump Reg.CAL.COUNT.COUNT 1).set Reg.CAL.LAST_TS.TS d.ts
    -- the quality figure of a receiver is its eye (R435)
    let d := if t = 11 ∨ t = 12 then d.set (Reg.EML.EYE.WIDTH_PS (t - 11)) quality else d
    -- an accepted run of target 9 after a DLL relock lets TRG issue cycles again (R460)
    let d := if t = 9 ∧ d.is Reg.CLK.STAT.DLL = true then { d with pwr := { d.pwr with dllWait := false } } else d
    if t ≤ 8 ∧ d.bitOf Reg.CAL.FAILED.CHANS t = true then
      let d := d.clrBit Reg.CAL.FAILED.CHANS t
      if t = 8 then d.set Reg.CAL.STAT.SPARE (if d.get Reg.CAL.STAT.COVER = 0xF then 0 else 2) else d
    else d
  else if code = 4 then d.setTarget t { d.target? t with result := 4 }
  else
    let d := is.foldl (fun d i => d.setItem t i { d.item t i with ran := true }) d
    let f := min 15 ((d.target? t).fails + 1)
    let d := d.setTarget t { d.target? t with result := code, fails := f }
    let d := (d.bump Reg.CAL.IMPL_CNT.COUNT 1).raise 0 Kind.CAL.CAL_IMPLAUSIBLE { arg := t }
    if t ≤ 8 ∧ f = max 1 (d.get Reg.CAL.CFG.FAIL_N) then channelFails t d else d

/-- A target's run ends, and the next target of the run starts (R426, R431).  At B7 the channels run in parallel. -/
def targetRunEnd (t : Nat) (ms : List Int) (quality : Nat) (d : Dev) : Dev :=
  if d.cal.cur = some t ∨ (d.cal.b7 = true ∧ d.cal.cur.isSome ∧ t ≤ 8 ∧ d.cal.set.testBit t) then
    let d := runResult t ms quality d
    let d := if t = 8 ∧ d.spare = 3 then d.set Reg.CAL.STAT.SPARE 0 else d
    let d := { d with cal := { d.cal with
        set := clrB d.cal.set t, wants := none, cur := (if d.cal.cur = some t then none else d.cal.cur) } }
    calNext 20 d
  else d

/-- CMD.RESTORE (R433): a run of the failed channel's target. -/
def calRestore (d : Dev) : Dev := calRequest (2 ^ min 8 (d.get Reg.CAL.CMD.CHAN)) d

/-- The temperature trigger of a die sample, s12.4 (R426). -/
def calDie (t : Int) (d : Dev) : Dev :=
  let d := trimTicks 14 (d.set Reg.CAL.DIE_T.NOW (ofSigned 16 t))
  let last := toSigned 16 (d.get Reg.CAL.DIE_T.LAST)
  if d.is Reg.CAL.CFG.TRIG_EN = true ∧ d.get Reg.CAL.CFG.DELTA * 4 < (t - last).natAbs then
    calRequest (d.get Reg.CAL.AUTO_MAP.TARGETS) (d.set Reg.CAL.DIE_T.LAST (ofSigned 16 t))
  else d

/-! ### Factory trims, header controls, views -/

/-- Bring-up step B2 loads the factory trims and limits (R424, R425). -/
def calFuses (trims : List (Nat × Int)) (limits : List (Nat × (Int × Int))) (ok : Bool) (d : Dev) : Dev :=
  let items := (List.range 240).foldl (fun acc k =>
    let x := tget CalItem.init d.cal.items k
    let lim := if ok then tget (-32768, 32767) limits k else (-32768, 32767)
    tset CalItem.init k { x with factory := if ok then tget 0 trims k else 0, lo := lim.1, hi := lim.2 } acc) []
  let d := { d with cal := { d.cal with items := items } }
  let d := if ok then d else d.raise 0 Kind.CAL.FACTORY_BAD
  (List.range 15).foldl (fun d t => (List.range (calItems t)).foldl (fun d i => retrim t i true d) d) d

/-- KILL of CAL (R437): the current run ends with RESULT 5 and its results are discarded, at B7 that of every channel. -/
def calKill (d : Dev) : Dev :=
  let now := d.calRunning
  let d := (bitList 15 now).foldl (fun d t => d.setTarget t { d.target? t with result := 5 }) d
  let d := if now.testBit 8 = true ∧ d.spare = 3 then d.set Reg.CAL.STAT.SPARE 0 else d
  if now = 0 then d else { d with cal := { d.cal with cur := none, set := andNot d.cal.set now, wants := none } }

/-- SOFT_RESET of CAL (R437): USER and the counters cleared, RUN and FAILED kept, a run of every target queued. -/
def calReset (d : Dev) : Dev :=
  let keep := [Reg.CAL.FAILED.CHANS, Reg.CAL.STAT.SPARE, Reg.CAL.STAT.COVER, Reg.CAL.DIE_T.LAST, Reg.CAL.DIE_T.NOW]
  let d := d.resetFields (Reg.CAL.fields.filter fun f => !keep.contains f)
  let d := { d with cal := { d.cal with
    set := 0, next := 0, cur := none, tgts := [], items := d.cal.items.map fun e => (e.1, { e.2 with user := 0 }) } }
  let d := (List.range 15).foldl (fun d t => (List.range (calItems t)).foldl (fun d i => retrim t i false d) d) d
  calRequest 0x7FFF d

/-- The CAL fields computed when read (R435, R438). -/
def calView (d : Dev) (f : Fld) : Option Nat :=
  let s := d.calSel
  let x := d.item s.1 s.2
  let t := d.target? s.1
  let here := decide (s.2 < calItems s.1)
  let shown := decide (d.mode ≤ 1) || d.is (Reg.HDR.LEVEL (pg .CAL 0)) || decide (3 ≤ d.get Reg.FLT.STATE.LEVEL)
  let v (n : Nat) : Option Nat := some (if here then n else 0)
  if f = Reg.CAL.STAT.QUEUE then some d.calQueue
  else if f = Reg.CAL.FACTORY.VALUE then v (ofSigned 16 x.factory)
  else if f = Reg.CAL.USER.VALUE then v (ofSigned 16 x.user)
  else if f = Reg.CAL.RUN.VALUE then v (ofSigned 16 x.run)
  else if f = Reg.CAL.EFF.VALUE then v (ofSigned 16 (d.trim s.1 s.2))
  else if f = Reg.CAL.LIMIT.HI then v (ofSigned 16 x.hi)
  else if f = Reg.CAL.LIMIT.LO then v (ofSigned 16 x.lo)
  else if f = Reg.CAL.TGT_STAT.RESULT then v t.result
  else if f = Reg.CAL.TGT_STAT.CLAMP then v (b2n t.clamp)
  else if f = Reg.CAL.TGT_STAT.SLEWING then v (b2n ((List.range (calItems s.1)).any fun i => decide (0 < (d.item s.1 i).left)))
  else if f = Reg.CAL.TGT_STAT.FAILS then v t.fails
  else if f = Reg.CAL.TGT_STAT.Q_VALID then v (b2n (shown && t.result != 0 && decide (t.ts ≠ 0)))
  else if f = Reg.CAL.TGT_STAT.QUALITY then v (if shown = true ∧ t.ts ≠ 0 then t.quality else 0)
  else if f = Reg.CAL.TGT_TS.TS then v t.ts
  else none

end Sys2Proof.Machine
end

