-- ==== Sys2Proof/Machine/Energy.lean ====
section
/-!
DEFINITION. Firing energy and thermal control (chapter 7): the energy table, classes, class waveforms and their slewing,
temperature samples, warming, the soft and hard limits, and cutting a cycle short.
-/
namespace Sys2Proof.Machine

/-! ### Stores -/

/-- A port's thermal state. -/
def Dev.heat (d : Dev) (n : Nat) : ThmPort := tget ThmPort.init d.thm.ports n

/-- A port's thermal state replaced. -/
def Dev.setHeat (d : Dev) (n : Nat) (q : ThmPort) : Dev :=
  { d with thm := { d.thm with ports := tset ThmPort.init n q d.thm.ports } }

/-- Is a port in HOT? -/
def Dev.hot (d : Dev) (n : Nat) : Bool := d.bitOf Reg.THM.HOT.HOT n

/-- The entry of a port in force (R160). -/
def Dev.energy (d : Dev) (n : Nat) : EnergyEntry :=
  match d.thm.table with
  | some (map, es) => if map.testBit n then tget EnergyEntry.dflt es n else EnergyEntry.dflt
  | none => EnergyEntry.dflt

/-- What happens at a moment `t` ahead of the present: the change is made with the clock there, and the clock then
reads as before. -/
def Dev.atMoment (d : Dev) (t : Nat) (f : Dev → Dev) : Dev :=
  let d' := f (d.advanceTo t)
  { d' with time := { d'.time with ts := d.time.ts, up := d.time.up } }

/-! ### The energy table (R159 to R161) -/

/-- A table entry's fields (Table 7.2). -/
def parseEnergy (b : Bytes) : EnergyEntry :=
  { preMax := leAt b 0 2, gapMax := leAt b 2 2, mainMax := leAt b 4 2, sumMax := leAt b 6 2, warmMax := leAt b 8 2,
    tHardMax := toSigned 16 (leAt b 10 2), th := [leAt b 12 2, leAt b 14 2, leAt b 16 2], hyst := leAt b 18 2,
    w := [leAt b 20 2, leAt b 22 2, leAt b 24 2, leAt b 26 2],
    alpha := [toSigned 16 (leAt b 28 2), toSigned 16 (leAt b 30 2), toSigned 16 (leAt b 32 2), toSigned 16 (leAt b 34 2)],
    dMin := leAt b 36 2, dMax := leAt b 38 2, snsR := leAt b 40 4, snsT := toSigned 16 (leAt b 44 2),
    snsTcr := leAt b 46 2, defClass := byteAt b 48 }

/-- The bytes of port `n`'s entry of a table. -/
def entryBytes (bs : Bytes) (n : Nat) : Bytes := (bs.drop (64 + 64 * n)).take 64

/-- Check 5 of Table 7.4 on one entry. -/
def energyOk (b : Bytes) : Bool :=
  let e := parseEnergy b
  decide (e.preMax ≤ 8000) && decide (e.gapMax ≤ 8000) && decide (e.mainMax ≤ 8000) && decide (e.sumMax ≤ 8000) &&
  decide (e.warmMax ≤ 8000) && decide (nth 0 e.th 0 ≤ nth 0 e.th 1) && decide (nth 0 e.th 1 ≤ nth 0 e.th 2) &&
  decide (e.dMin ≤ e.dMax) && decide (e.tHardMax ≤ 2000) && e.snsR != 0 && e.snsTcr != 0 && decide (e.defClass ≤ 3) &&
  zeroRange b 49 15

/-- Checks 3 to 5 of Table 7.4 on the copy; a poisoned or refused read fails check 4. -/
def energyCode (bs : Bytes) (crc : Nat) (poisoned : Bool) : Nat :=
  let map := leAt bs 8 8
  if leAt bs 0 4 ≠ 0x4C425445 ∨ byteAt bs 4 ≠ 1 then 3
  else if poisoned = true ∨ crc32c (bs.take 60 ++ (bs.drop 64).take 4096) ≠ leAt bs 60 4 ∨ leAt bs 60 4 ≠ crc then 4
  else if ¬((bitList 64 map).all fun n => energyOk (entryBytes bs n)) then 5
  else 0

/-! ### Classes (R158, R162) -/

/-- The classes a port's CLASS_EN enables, class 0 always (R158). -/
def Dev.classEn (d : Dev) (n : Nat) : List Nat :=
  0 :: ([1, 2, 3].filter fun k => (d.get (Reg.HPT.CLASS_EN.EN n)).testBit (k - 1))

/-- The classes in use on a port (R158). -/
def Dev.classesInUse (d : Dev) (n : Nat) : List Nat :=
  if d.bitOf Reg.THM.CLASSING.EN n then d.classEn n else [0]

/-- The highest enabled class at or below `k`. -/
def classCap (en : List Nat) (k : Nat) : Nat := (en.filter (· ≤ k)).foldl max 0

/-- The class of a resistance for a nozzle without a class: the thresholds at or below it (R162). -/
def classFresh (e : EnergyEntry) (r : Nat) : Nat := (e.th.filter (· ≤ r)).length

/-- The class of a resistance for a nozzle of class `k`, with hysteresis (R162). -/
def classHyst (e : EnergyEntry) (r : Nat) (k : Nat) : Nat :=
  let up := [0, 1, 2].foldl (fun c i => if c = i ∧ nth 0xFFFF e.th i + e.hyst ≤ r then i + 1 else c) k
  [3, 2, 1].foldl (fun c i => if c = i ∧ r + e.hyst < nth 0 e.th (i - 1) then i - 1 else c) up

/-- The resistance of a nozzle that classing takes; 0 when unknown (R210). -/
def Dev.classR (d : Dev) (n i : Nat) : Nat :=
  let z := tget Noz.init (tget SndPort.init d.snd.ports n).noz i
  match d.geom n with
  | some g => if g.dotMode = 0 then z.rA else max z.rA z.rB
  | none => z.rA

/-- The class of a nozzle, recomputed (R162): 0 while the port is not classed (R158). -/
def Dev.classOf (d : Dev) (n i : Nat) (old : Option Nat) : Nat :=
  if d.bitOf Reg.THM.CLASSING.EN n = false then 0
  else
    let e := d.energy n
    let r := d.classR n i
    let k := if r = 0 then e.defClass else match old with | none => classFresh e r | some k => classHyst e r k
    classCap (d.classEn n) k

/-- The class of a nozzle as last computed. -/
def Dev.nozClass (d : Dev) (n i : Nat) : Nat := tget 0 (d.heat n).cls i - 1

/-- One nozzle reclassed: a new class has still to reach the head's shadow (R147, R162). -/
def reclass (n : Nat) (d : Dev) (i : Nat) : Dev :=
  let q := d.heat n
  let old := tget 0 q.cls i
  let k := d.classOf n i (if old = 0 then none else some (old - 1))
  if old = k + 1 then d
  else d.setHeat n { q with cls := tset 0 i (k + 1) q.cls, unsent := if q.unsent.contains i then q.unsent else q.unsent ++ [i] }

/-- Every present nozzle of a port reclassed. -/
def reclassPort (n : Nat) (d : Dev) : Dev :=
  match d.geom n with
  | none => d
  | some g => (g.noz.map (·.1)).foldl (reclass n) d

/-- Every port reclassed (at a commit and at entry to a print mode, R162). -/
def reclassAll (d : Dev) : Dev := (List.range 64).foldl (fun d n => reclassPort n d) d

/-! ### Waveforms (R156, R157, R166 to R168) -/

/-- The nominal waveform fields of class `k`: those of FIRE_P and FIRE_W (Table 7.5). -/
def fireFields (n k : Nat) : Fld × Fld × Fld :=
  if k = 0 then (Reg.HPT.FIRE_P_0.PRE n, Reg.HPT.FIRE_P_0.GAP n, Reg.HPT.FIRE_W_0.MAIN n)
  else (Reg.HPT.FIRE_P_X.PRE n (k - 1), Reg.HPT.FIRE_P_X.GAP n (k - 1), Reg.HPT.FIRE_W_X.MAIN n (k - 1))

/-- A class waveform of a port. -/
def Dev.wave (d : Dev) (n k : Nat) : ClassWave := tget ClassWave.init (d.heat n).waves k

/-- A class waveform replaced. -/
def Dev.setWave (d : Dev) (n k : Nat) (c : ClassWave) : Dev :=
  let q := d.heat n
  d.setHeat n { q with waves := tset ClassWave.init k c q.waves }

/-- A width in 1/256 step rounded to whole steps. -/
def wholeSteps (i : Int) : Nat := (roundDiv i 256).toNat

/-- The envelope clamp of R168: the waveform, and whether anything was clamped. -/
def clampWave (e : EnergyEntry) (w : Wave) : Wave × Bool :=
  let p := min w.pre e.preMax
  let g := min w.gap e.gapMax
  let m := min w.main e.mainMax
  let m := if e.sumMax < p + m then e.sumMax - p else m
  let p := min p e.sumMax
  ({ pre := p, gap := g, main := m }, decide (p ≠ w.pre) || decide (g ≠ w.gap) || decide (m ≠ w.main))

/-- The effective waveform of a class now (R168). -/
def Dev.effective (d : Dev) (n k : Nat) : Wave × Bool :=
  let c := d.wave n k
  clampWave (d.energy n) { pre := wholeSteps c.effPre, gap := c.tgtGap, main := wholeSteps c.effMain }

/-- EFF_P, EFF_W and EFF_CLAMP show a class's effective waveform of the latest cycle (R168); a change of its clamp bit raises
ENVELOPE_CLAMP. -/
def showWave (n : Nat) (d : Dev) (k : Nat) : Dev :=
  let r := d.effective n k
  let d := ((d.set (Reg.HPT.EFF_P.PRE n k) r.1.pre).set (Reg.HPT.EFF_P.GAP n k) r.1.gap).set (Reg.HPT.EFF_W.MAIN n k) r.1.main
  if d.bitOf (Reg.HPT.EFF_CLAMP.CLASS n) k = r.2 then d
  else (d.putBit (Reg.HPT.EFF_CLAMP.CLASS n) k r.2).raise 0 Kind.THM.ENVELOPE_CLAMP { port := n }

/-- The target of a class from its nominal and the latest valid sample, with DERATE as that sample took it (R166, Table 7.6):
(PRE_t, MAIN_t). -/
def Dev.target (d : Dev) (n k : Nat) : Nat × Nat :=
  let c := d.wave n k
  let e := d.energy n
  match (d.heat n).temp with
  | none => (c.nom.pre, c.nom.main)
  | some t =>
    -- the factor in 2^-20: 1 + ALPHA * (T - T_REF) / 65536, T in 1/16
    let f : Int := 1048576 + nth 0 e.alpha k * (t - 16 * ((d.heat n).tRef : Int))
    let f := max ((e.dMin * 64 : Nat) : Int) (min f ((e.dMax * 64 : Nat) : Int))
    let scale (w : Nat) : Nat := (roundDiv ((w : Int) * f) 1048576).toNat
    (if (d.heat n).dPre then scale c.nom.pre else c.nom.pre, scale c.nom.main)

/-- A class takes its target (R166, R167): at once outside print modes or when `now`, by slewing otherwise. -/
def retarget (n : Nat) (now : Bool) (d : Dev) (k : Nat) : Dev :=
  let c := d.wave n k
  let t := d.target n k
  let p : Int := (t.1 * 256 : Nat)
  let m : Int := (t.2 * 256 : Nat)
  let c := { c with tgtGap := c.nom.gap }
  if now = true ∨ d.printing = false then
    d.setWave n k { c with tgtPre := t.1, tgtMain := t.2, effPre := p, effMain := m, stepPre := 0, stepMain := 0, left := 0 }
  else if c.tgtPre = t.1 ∧ c.tgtMain = t.2 then d.setWave n k c
  else
    d.setWave n k { c with tgtPre := t.1, tgtMain := t.2, stepPre := (p - c.effPre).tdiv 256,
                           stepMain := (m - c.effMain).tdiv 256, left := 256 }

/-- A write of FIRE_W: the held PRE and GAP and the written MAIN become the nominal waveform (R156, R157). -/
def fireWrite (n k main : Nat) (d : Dev) : Dev :=
  let fs := fireFields n k
  let m := min (main % 8192) 8000
  let d := d.set fs.2.2 m
  let w : Wave := { pre := min (d.get fs.1) 8000, gap := min (d.get fs.2.1) 8000, main := m }
  let d := d.setWave n k { d.wave n k with nom := w }
  if d.runs (pg .THM 0) then retarget n false d k else d

/-- Outside print modes every effective waveform equals its target (R167): a slew under way ends. -/
def settleWaves (d : Dev) : Dev :=
  (List.range 64).foldl (fun d n => (List.range 4).foldl (fun d k =>
    let c := d.wave n k
    if c.left = 0 then d else d.setWave n k { c with effPre := (c.tgtPre * 256 : Nat), effMain := (c.tgtMain * 256 : Nat), left := 0 }) d) d

/-- The slew step of a class at the start of a cycle (R167, R168). -/
def slewStep (n : Nat) (d : Dev) (k : Nat) : Dev :=
  let c := d.wave n k
  let c' :=
    if c.left = 0 then c
    else if c.left = 1 then { c with left := 0, effPre := (c.tgtPre * 256 : Nat), effMain := (c.tgtMain * 256 : Nat) }
    else { c with left := c.left - 1, effPre := c.effPre + c.stepPre, effMain := c.effMain + c.stepMain }
  showWave n (d.setWave n k c') k

/-- The effective waveforms of the classes in use. -/
def Dev.wavesNow (d : Dev) (n : Nat) : List (Nat × Wave) := (d.classesInUse n).map fun k => (k, (d.effective n k).1)

/-- T_slot of a set of waveforms (R102). -/
def slotTime (ws : List (Nat × Wave)) : Nat := (ws.map fun w => w.2.pre + w.2.gap + w.2.main).foldl max 0 + 400

/-- D_n of a port (R102). -/
def Dev.dropsOf (d : Dev) (n : Nat) : Nat :=
  match d.geom n with
  | some g => if g.dotMode = 1 then 1 else
      let v := d.get (Reg.TRG.DROPS.PORT n)
      if v = 0 then 3 else v
  | none => 1

/-! ### Limits (R173) -/

/-- T_HARD_eff, s12.4. -/
def Dev.tHard (d : Dev) (n : Nat) : Int := min ((d.get Reg.THM.LIMITS.T_HARD * 16 : Nat) : Int) (d.energy n).tHardMax
/-- T_SOFT_eff. -/
def Dev.tSoft (d : Dev) (n : Nat) : Int := min ((d.get Reg.THM.LIMITS.T_SOFT * 16 : Nat) : Int) (d.tHard n)
/-- T_RESUME_eff. -/
def Dev.tResume (d : Dev) (n : Nat) : Int := min ((d.get Reg.THM.LIMITS.T_RESUME * 16 : Nat) : Int) (d.tHard n - 16)

/-- ρ of a port in force, unsigned 1.15 (R171). -/
def Dev.rho (d : Dev) (n : Nat) : Nat := ((d.heat n).rho).getD d.thm.rhoNom

/-- ρ inside the soft region at a temperature (R171). -/
def Dev.rhoAt (d : Dev) (n : Nat) (t : Int) : Nat :=
  let nom : Int := d.thm.rhoNom
  let fl : Int := d.get Reg.THM.RHO.FLOOR
  let span := d.tHard n - d.tSoft n
  if span ≤ 0 then fl.toNat else (nom - ((nom - fl) * (t - d.tSoft n)).tdiv span).toNat

/-! ### Cutting a cycle short (R174, R206, R223) -/

/-- A port's health store. -/
def Dev.health (d : Dev) (n : Nat) : SndPort := tget SndPort.init d.snd.ports n

/-- A port's health store replaced. -/
def Dev.setHealth (d : Dev) (n : Nat) (q : SndPort) : Dev :=
  { d with snd := { d.snd with ports := tset SndPort.init n q d.snd.ports } }

/-- A nozzle's window is abandoned (R223): after four in a row on one nozzle the pointer moves past it. -/
def abandon (n i : Nat) (d : Dev) : Dev :=
  let q := d.health n
  let k := if q.ptr = i then q.abandons + 1 else 1
  let q := { q with abandoned := min 0xFFFFFFFF (q.abandoned + 1) }
  d.setHealth n (if 4 ≤ k then { q with ptr := (i + 1) % 16384, abandons := 0 } else { q with ptr := i, abandons := k })

/-- The granted windows of a port that meet a test are abandoned. -/
def abandonWhere (n : Nat) (p : Window → Bool) (d : Dev) : Dev :=
  let ws := (d.health n).windows
  let d := d.setHealth n { d.health n with windows := ws.filter fun w => !p w }
  (ws.filter p).foldl (fun d w => abandon n w.noz d) d

/-- Every granted window of a port is abandoned. -/
def abandonWindow (n : Nat) (d : Dev) : Dev := abandonWhere n (fun _ => true) d

/-- The window of a cycle that is cut is abandoned when its candidate's slot has not been fired (R223). -/
def cutWindow (n : Nat) (g : Geom) (f : Firing) (d : Dev) : Dev :=
  abandonWhere n (fun w => w.asked == f.t0 && !f.announced && (match aget w.noz g.noz with | some e => decide (f.at_ ≤ nozSlot e) | none => false)) d

/-- The job line of a cycle's group leader, its first row in the group's order (R100). -/
def Dev.leaderLine (d : Dev) (n : Nat) (f : Firing) : Nat :=
  let lead := (((nth [] (d.port n).groups f.group).map Prod.fst).findSome? fun r => f.lines.find? fun l => l.row == r)
  match lead.orElse fun _ => f.lines.head? with | some l => l.line | none => 0

/-- The firings of a nozzle of final code `c` in the marks of a cycle from mark `m` on. -/
def firingsFrom (g : Geom) (f : Firing) (i c m : Nat) : Nat :=
  match aget i g.noz with
  | none => 0
  | some e =>
    let last := if g.dotMode = 1 then 1 else min c f.subs
    ((List.range last).filter fun dd => decide (m ≤ dd * f.slots + nozSlot e)).length

/-- For each row-line of a cut cycle: the nozzles and the firings left unfired. -/
def cutRows (g : Geom) (f : Firing) : List (RowLine × Nat × Nat) :=
  f.lines.map fun l =>
    let us := (f.codes.filter fun c => match aget c.1 g.noz with | some e => nozRow e == l.row | none => false).map
      fun c => firingsFrom g f c.1 c.2 f.at_
    (l, (us.filter (0 < ·)).length, us.foldl (· + ·) 0)

/-- The argument of the record of a row cut short (R174). -/
def cutArg (f : Firing) (row nozzles firings : Nat) : Nat :=
  row * 2 ^ 60 + (f.at_ % f.slots) * 2 ^ 56 + (f.at_ / f.slots) * 2 ^ 54 + (nozzles % 65536) * 65536 + firings % 65536

/-- The device cuts the cycle a port is firing, of fault kind `kind` of source 253, or of the port's own source for a KILL; no
later slot is fired.  One record is written per row with unfired firings, and `all` of them write one for a KILL (R206).  Answers
the rows cut and the totals. -/
def cutFiring (n source kind : Nat) (all : Bool) (d : Dev) : Dev × Option HotRec :=
  match (d.port n).firing, d.geom n with
  | some f, some g =>
    if f.done = true ∨ (f.announced = true ∧ all = false) then (d.setPort n { d.port n with firing := some f.over }, none)
    else
      let rs := (cutRows g f).filter fun r => all || decide (0 < r.2.2)
      let d := rs.foldl (fun d r => d.sediment { eventRec d source with
        kind, line := r.1.line, arg := cutArg f r.1.row r.2.1 r.2.2, port := n }) d
      let d := cutWindow n g f (d.setPort n { d.port n with firing := some f.over })
      let lead := d.leaderLine n f
      (d, some { slot := f.at_ % f.slots, sub := f.at_ / f.slots, cause := 0,
                 rows := rs.foldl (fun a r => setB a r.1.row) 0, line := lead,
                 nozzles := (rs.map (·.2.1)).foldl (· + ·) 0, firings := (rs.map (·.2.2)).foldl (· + ·) 0 })
  | _, _ => (d, none)

/-- The moment at which the address slot being fired ends. -/
def Dev.slotEnd (d : Dev) (n : Nat) : Nat :=
  match (d.port n).firing with
  | some f => if f.done then d.time.up else f.t0 + clamp 240 320 (d.get (Reg.HPT.LAT_FIRE.STEPS n)) + f.at_ * f.tSlot
  | none => d.time.up

/-- A port enters HOT (R164, R174): its cycle is cut at the end of the present slot, and HEAD_HOT is raised there, after
TEMP_INVALID where the cause is SENSE. -/
def enterHot (n cause : Nat) (d : Dev) : Dev :=
  if d.hot n then d
  else
    d.atMoment (d.slotEnd n) fun d =>
      let k := if cause = 0 then Kind.THM.HEAD_HOT else Kind.THM.TEMP_INVALID
      let r := cutFiring n 253 k.code false d
      let q := r.1.heat n
      let d := r.1.setHeat n { q with warm := [], cool := 0, rearm := false, bad := 0, stale := 0,
                                      cutRec := match r.2 with | some h => some { h with cause } | none => q.cutRec }
      let d := (d.setBit Reg.THM.HOT.HOT n).set (Reg.THM.TEMP.STATE n) 3
      let d := if cause = 0 then d else d.raise 0 Kind.THM.TEMP_INVALID { port := n }
      d.raise 0 Kind.THM.HEAD_HOT { port := n }

/-- Two samples below T_RESUME with a re-arm standing take a port out of HOT (R176). -/
def leaveHot (n : Nat) (d : Dev) : Dev :=
  let q := d.heat n
  if d.hot n = true ∧ 2 ≤ q.cool ∧ (q.rearm = true ∨ d.is Reg.THM.HOT_CTRL.AUTO_REARM = true) then
    let d := d.setHeat n { q with valid := 0, cool := 0, rearm := false }
    ((d.clrBit Reg.THM.HOT.HOT n).set (Reg.THM.TEMP.STATE n) 0).ev .THM 0 2
  else d

/-- A write of HOT_CTRL that sets AUTO_REARM takes every port out of HOT that only wanted a re-arm (R176). -/
def autoRearm (d : Dev) : Dev := (List.range 64).foldl (fun d n => leaveHot n d) d

/-- HOT_CTRL.REARM for a port (R176). -/
def hotRearm (n : Nat) (d : Dev) : Dev :=
  if d.hot n then leaveHot n (d.setHeat n { d.heat n with rearm := true }) else d

/-! ### Temperature samples (R163 to R172) -/

/-- A temperature from a sense resistance in mΩ, s12.4 (R163). -/
def senseTemp (e : EnergyEntry) (r : Nat) : Int :=
  roundDiv (e.snsT * (e.snsR * e.snsTcr : Nat) + ((r : Int) - e.snsR) * 16000000) (e.snsR * e.snsTcr : Nat)

/-- A slow-down request of THM (R172). -/
def thmSlowdown (n : Nat) (d : Dev) : Dev :=
  if d.is Reg.THM.SLOWDOWN.EN then (d.slowdown 2 n).ev .THM 0 0 else d

/-- The interval between slow-down requests of THM, in steps. -/
def Dev.thmInterval (d : Dev) : Nat := max 1 (d.get Reg.THM.SLOWDOWN.INTERVAL) * us

/-- The last port has left its soft region: no further slow-down request falls due (R172). -/
def softLeft (d : Dev) : Dev := if (List.range 64).any fun k => (d.heat k).soft then d else d.disarm .thmSlowdown

/-- The soft region at a valid sample (R171, R172). -/
def softRegion (n : Nat) (t : Int) (d : Dev) : Dev :=
  let q := d.heat n
  if q.soft then
    if t < d.tSoft n - 16 then softLeft ((d.setHeat n { q with soft := false, rho := none }).ev .THM 0 0)
    else d.setHeat n { q with rho := some (d.rhoAt n t) }
  else if d.tSoft n ≤ t then
    let d := (d.setHeat n { q with soft := true, rho := some (d.rhoAt n t) }).raise 0 Kind.THM.HEAD_WARM { port := n }
    let d := thmSlowdown n d
    if d.running .thmSlowdown then d else d.arm .thmSlowdown d.thmInterval
  else d

/-- The number of warming pulses for the next 100 µs (R169). -/
def Dev.warmCount (d : Dev) (n : Nat) (t : Int) : Nat :=
  let gap : Int := ((d.get Reg.THM.WARM.T_SET * 16 : Nat) : Int) - t
  if d.is Reg.THM.WARM.EN = false ∨ d.runs (pg .THM 0) = false ∨ gap ≤ 0 ∨ d.tSoft n < t ∨ d.hot n = true
      ∨ (d.heat n).valid < 2 ∨ d.is Reg.SYS.BRINGUP.HEAD_POWER_ARMED = false ∨ d.get (Reg.HPT.LINK_STAT.STATE n) ≠ 6 then 0
  else min (d.get Reg.THM.WARM.MAX_N) (roundDiv ((d.get Reg.THM.WARM.KP : Int) * gap) 256).toNat

/-- The warming pulses that follow a valid sample, evenly spaced over 100 µs (R169). -/
def planWarming (n : Nat) (t : Int) (d : Dev) : Dev :=
  let k := d.warmCount n t
  d.setHeat n { d.heat n with warm := (List.range k).map fun i => d.time.up + (i + 1) * (100 * us) / k }

/-- The waveforms of every class of a port take their targets after a sample (R165, R166). -/
def retargetAll (n : Nat) (now : Bool) (d : Dev) : Dev :=
  if d.runs (pg .THM 0) then [0, 1, 2, 3].foldl (retarget n now) d else d

/-- TEMP_n.STATE outside HOT. -/
def showState (n : Nat) (d : Dev) : Dev :=
  let q := d.heat n
  d.set (Reg.THM.TEMP.STATE n) (if d.hot n then 3 else if q.valid < 2 then 0 else if q.soft then 2 else 1)

/-- A valid sample (R163, R165, R166, R169, R171, R174, R176). -/
def validSample (n : Nat) (t : Int) (d : Dev) : Dev :=
  let d := ((d.set (Reg.THM.TEMP.TEMP n) (ofSigned 16 t)).set (Reg.THM.TEMP.STALE n) 0).set (Reg.THM.TEMP.INVALID n) 0
  let q := d.heat n
  let d := d.setHeat n { q with temp := some t, bad := 0, stale := 0, warm := [],
                                tRef := d.get Reg.THM.DERATE.T_REF, dPre := d.is Reg.THM.DERATE.DERATE_PRE }
  let d := softRegion n t d
  if d.hot n then
    let d := d.setHeat n { d.heat n with cool := if t < d.tResume n then min 2 (q.cool + 1) else 0 }
    leaveHot n (retargetAll n false d)
  else
    let d := d.setHeat n { d.heat n with valid := min 2 (q.valid + 1) }
    let d := retargetAll n (q.valid == 0) d
    if d.tHard n ≤ t then enterHot n 0 d
    else planWarming n t (showState n d)

/-- An invalid sample (R164). -/
def invalidSample (n : Nat) (d : Dev) : Dev :=
  let d := (d.set (Reg.THM.TEMP.INVALID n) 1).set (Reg.THM.TEMP.STALE n) 0
  let q := d.heat n
  let d := d.setHeat n { q with bad := min 2 (q.bad + 1), stale := 0, cool := 0, warm := [] }
  if 2 ≤ (d.heat n).bad then enterHot n 1 d else d

/-- A stale sample (R164), neither valid nor invalid: ten in a row count as two invalid ones. -/
def staleSample (n : Nat) (d : Dev) : Dev :=
  let d := (d.set (Reg.THM.TEMP.STALE n) 1).set (Reg.THM.TEMP.INVALID n) 0
  let q := d.heat n
  let d := d.setHeat n { q with stale := min 10 (q.stale + 1), warm := [] }
  if 10 ≤ (d.heat n).stale then enterHot n 1 (d.setHeat n { d.heat n with stale := 0 }) else d

/-- THM's slow-down request repeated while any port is in its soft region (R172). -/
def thmSlowdownRepeat (d : Dev) : Dev :=
  d.onTimer .thmSlowdown fun d =>
    match (List.range 64).find? fun n => (d.heat n).soft with
    | none => d
    | some n => (thmSlowdown n d).arm .thmSlowdown d.thmInterval

/-! ### The table's commit (R161) -/

/-- A check of a commit failed: LAST_CODE shows it and TABLE_BAD is raised. -/
def energyRefused (code : Nat) (d : Dev) : Dev :=
  (d.set Reg.THM.TABLE_STAT.LAST_CODE code).raise 0 Kind.THM.TABLE_BAD { arg := code }

/-- ENERGY_TABLE_COMMIT once its tag has verified: checks 1 and 2, then THM copies the table. -/
def energyCommit (addr len crc : Nat) (d : Dev) : Dev :=
  if 1 < d.mode then energyRefused 1 d
  else if len ≠ 4160 ∨ addr % 64 ≠ 0 then energyRefused 2 d
  else { d with thm := { d.thm with copying := some (addr, crc) } }.request (pg .THM 0)

/-- The copy has been read (R161): checks 3 to 5, and the table replaces the one in force. -/
def energyCopied (poisoned : Bool) (d : Dev) : Dev :=
  match d.thm.copying with
  | none => d
  | some (addr, crc) =>
    let d := (d.answer (pg .THM 0)).basinLoad 1 0xFF addr 4160 (if poisoned then 2 else 0)
    let bs := d.basinRead addr 4160
    let d := { d with thm := { d.thm with copying := none } }
    let code := energyCode bs crc (d.basinFails addr 4160)
    if code ≠ 0 then energyRefused code d
    else
      let es := (List.range 64).foldl (fun t n => tset EnergyEntry.dflt n (parseEnergy (entryBytes bs n)) t) []
      let d := { d with thm := { d.thm with table := some (leAt bs 8 8, es) } }
      let d := ((d.put Reg.THM.TABLE_STAT.COMMITTED true).set Reg.THM.TABLE_STAT.LAST_CODE 0).set Reg.THM.TABLE_CRC.CRC crc
      reclassAll (d.ev .THM 0 3)

/-! ### Header controls and views -/

/-- SOFT_RESET of THM (R178): the registers at their reset values, with every port in class 0 and none in HOT, the default entry
for every port, and no HOT record; R165 applies anew. -/
def thmReset (d : Dev) : Dev :=
  let d := (d.resetFields Reg.THM.fields).disarm .thmSlowdown
  let d := { d with thm := { d.thm with table := none, copying := none } }
  reclassAll ((List.range 64).foldl (fun d n =>
    let q := d.heat n
    showState n (d.setHeat n { ThmPort.init with waves := q.waves, cls := q.cls, unsent := q.unsent })) d)

/-- The THM fields computed when read: HOT_REC of the port HOT_SEL names. -/
def thmView (d : Dev) (f : Fld) : Option Nat :=
  let r := (d.heat (d.get Reg.THM.HOT_SEL.PORT)).cutRec
  let show_ (g : HotRec → Nat) : Option Nat := some (match r with | some h => g h | none => 0)
  if f = Reg.THM.HOT_REC_0.VALID then some (b2n r.isSome)
  else if f = Reg.THM.HOT_REC_0.SLOT then show_ (·.slot)
  else if f = Reg.THM.HOT_REC_0.SUBCYC then show_ (·.sub)
  else if f = Reg.THM.HOT_REC_0.CAUSE then show_ (·.cause)
  else if f = Reg.THM.HOT_REC_0.ROWS then show_ (·.rows)
  else if f = Reg.THM.HOT_REC_1.LINE then show_ (·.line)
  else if f = Reg.THM.HOT_REC_2.NOZZLES then show_ (·.nozzles)
  else if f = Reg.THM.HOT_REC_2.FIRINGS then show_ (·.firings)
  else none

/-- Writing 1 to HOT_REC_0.VALID clears the selected port's record. -/
def hotRecClear (d : Dev) : Dev :=
  let n := d.get Reg.THM.HOT_SEL.PORT
  d.setHeat n { d.heat n with cutRec := none }

end Sys2Proof.Machine
end

