-- ==== Sys2Proof/Machine/Frames.lean ====
section
/-!
DEFINITION. Norper frames and lanes (R181 to R185, R198, R199) and the stores of a head port's link and of its nozzles' health.
-/
namespace Sys2Proof.Machine

/-- A port's link. -/
def Dev.head (d : Dev) (n : Nat) : Head := tget Head.init d.heads n

/-- A port's link replaced. -/
def Dev.setHead (d : Dev) (n : Nat) (h : Head) : Dev := { d with heads := tset Head.init n h d.heads }

/-- Is a port's link UP? -/
def Dev.headUp (d : Dev) (n : Nat) : Bool := d.get (Reg.HPT.LINK_STAT.STATE n) == 6

/-- Payload bytes in segments of 128 words, each followed by its CRC-32; `pre` is what the first CRC covers besides. -/
def segments : Nat → Bytes → Bytes → Bytes
  | 0, _, _ => []
  | k + 1, pre, bs =>
    if bs = [] then []
    else
      let s := bs.take 512
      s ++ leBytes 4 (crc32 (pre ++ s)) ++ segments k [] (bs.drop 512)

/-- A frame (R182, R183): the payload is padded to whole words. -/
def mkFrame (type row tag resend arg : Nat) (payload : Bytes) : Bytes :=
  let words := ceilDiv payload.length 4
  let body := padTo (4 * words) payload
  let hdr := leBytes 1 0xFB ++ leBytes 1 (type * 16 + row) ++ leBytes 1 tag ++ leBytes 1 resend ++ leBytes 2 words ++ leBytes 2 arg
  hdr ++ segments 8 hdr body

/-- The number of segments of a frame of LEN words (R183). -/
def frameSegs (f : Bytes) : Nat := ceilDiv (leAt f 4 2) 128

/-- 2-bit values packed four to a byte, the first in bits 1:0 (R146, Table 8.3). -/
def pack2 : List Nat → Bytes
  | a :: b :: c :: e :: t => BitVec.ofNat 8 (a % 4 + 4 * (b % 4) + 16 * (c % 4) + 64 * (e % 4)) :: pack2 t
  | [] => []
  | [a] => [BitVec.ofNat 8 (a % 4)]
  | [a, b] => [BitVec.ofNat 8 (a % 4 + 4 * (b % 4))]
  | [a, b, c] => [BitVec.ofNat 8 (a % 4 + 4 * (b % 4) + 16 * (c % 4))]

/-- 2-bit values as whole words of 16. -/
def packWords (cs : List Nat) : Bytes :=
  let bs := pack2 cs
  padTo (4 * ceilDiv bs.length 4) bs

/-- The LINE frame of a row (Table 8.3). -/
def lineFrame (row tag : Nat) (codes : List Nat) : Bytes := mkFrame 1 row tag 0 0 (packWords codes)

/-- A CLASS frame for the nozzles from 16 * `arg` on. -/
def classFrame (tag arg : Nat) (classes : List Nat) : Bytes := mkFrame 2 0 tag 0 arg (packWords classes)

/-- A SENSE frame (Table 8.4). -/
def senseFrame (target noz dwell delay : Nat) : Bytes :=
  mkFrame 3 0 0 0 0 (leBytes 4 (target % 4 * 2 ^ 30 + noz % 16384) ++ leBytes 4 (dwell % 65536 * 65536 + delay % 65536))

/-- A CTRL frame (Table 8.3). -/
def ctrlFrame (c : Ctrl) : Bytes :=
  match c.data with
  | some v => mkFrame 4 0 c.tag 0 0 (leBytes 4 (2 ^ 31 + c.addr % 65536) ++ leBytes 4 v)
  | none => mkFrame 4 0 c.tag 0 0 (leBytes 4 (c.addr % 65536) ++ leBytes 4 0)

/-- A frame sent with RESEND = 1 (R187): its header bit set and the CRC of segment 0 made again. -/
def resendFrame (f : Bytes) : Bytes :=
  let seg := min 512 (4 * leAt f 4 2)
  let hdr := f.take 3 ++ leBytes 1 1 ++ (f.drop 4).take 4
  let body := (f.drop 8).take seg
  hdr ++ body ++ leBytes 4 (crc32 (hdr ++ body)) ++ f.drop (8 + seg + 4)

/-! ### The lanes (R181, R198, R199) -/

/-- The bits of a lane's bytes in the order sent, each byte's least significant bit first (R181). -/
def laneBits (bs : Bytes) : List Bool := bs.flatMap fun b => (List.range 8).map b.toNat.testBit

/-- Byte k of a frame travels on lane k mod 4 as that lane's byte floor(k / 4) (R181). -/
def stripe (f : Bytes) : List Bytes :=
  (List.range 4).map fun l => (List.range (f.length / 4)).map fun w => BitVec.ofNat 8 (byteAt f (4 * w + l))

/-- The same bytes on every lane at the same time. -/
def everyLane (bs : Bytes) : List (List Bool) := List.replicate 4 (laneBits bs)

/-- The lanes carry zero bytes. -/
def lanesZero : List (List Bool) := everyLane [0]

/-- `k` bits of x^7 + x^6 + 1 after the last seven bits `s`, the newest in bit 0: each is b[t-6] XOR b[t-7] (R198). -/
def prbs7 : Nat → Nat → List Bool
  | 0, _ => []
  | k + 1, s => let b := s.testBit 5 != s.testBit 6; b :: prbs7 k (s * 2 % 128 + b.toNat)

/-- One period of what lane L sends in T3: the sequence started 32 * L bits after the state 0x7F (R198). -/
def prbsLane (l : Nat) : List Bool := let p := prbs7 127 0x7F; p.drop (32 * l) ++ p.take (32 * l)

/-- An ALIGN block (R199). -/
def alignBlock : Bytes := 0x7E :: List.replicate 15 0

/-- A frame goes out on a port's lanes, zero bytes following it, and takes the next ordinal (R181, R186). -/
def Dev.ship (d : Dev) (n : Nat) (f : Bytes) (place : Nat) : Dev :=
  let h := d.head n
  let b := byteAt f 1
  let d := d.setHead n { h with sent := h.sent ++ [(b / 16, b % 16, place)] }
  (d.emit (.frame n f)).emit (.lanes n ((stripe f).map laneBits) lanesZero)

/-- The place under which a SENSE frame is noted as sent, beyond those of a cycle's frames: of a temperature sample, a Sounding
window, a scan step, or a release. -/
def sensePlace (target dwell : Nat) : Nat := if target = 0 then 256 else if target = 1 then 257 else if dwell = 0 then 259 else 258

/-- A SENSE frame goes out. -/
def Dev.sense (d : Dev) (n target noz dwell delay : Nat) : Dev := d.ship n (senseFrame target noz dwell delay) (sensePlace target dwell)

/-- A mark on HPn_LAT: 0 LATCH, 1 SLOT, 2 WARM (Table 8.6). -/
def Dev.mark (d : Dev) (n kind : Nat) : Dev := d.emit (.mark n kind 0)

/-- The present nozzles of a row with their entries, in ascending index. -/
def Geom.row (g : Geom) (r : Nat) : List (Nat × Nat) := g.noz.filter fun e => nozRow e.2 == r

end Sys2Proof.Machine
end

