-- ==== Sys2Proof/Machine/Engine.lean ====
section
/-!
DEFINITION. The redundant firing engines (chapter 10): roles and states, the vote, checkers, failover, resynchronisation,
self-test, repair and the health report.  Engine 0 is A, engine 1 is B.
-/
namespace Sys2Proof.Machine

/-- The active engine (R233). -/
def Dev.activeEngine (d : Dev) : Nat := d.get Reg.ENG.STAT.ACTIVE

/-- The other engine. -/
def Dev.standby (d : Dev) : Nat := 1 - d.activeEngine

/-- An engine's state (Table 10.1): 0 OFF, 1 BIST, 2 RESYNC, 3 SHADOW, 4 ACTIVE, 5 SUSPECT, 6 FAILED. -/
def Dev.estate (d : Dev) (e : Nat) : Nat := d.get (Reg.ENGX.STAT.ESTATE e)

/-- Is the standby in SHADOW, so that cycles are voted (R234)? -/
def Dev.voting (d : Dev) : Bool := d.estate d.standby == 3

/-- An engine beside its registers. -/
def Dev.engine (d : Dev) (e : Nat) : Engine := tget Engine.init d.eng.engines e

/-- An engine replaced. -/
def Dev.setEngine (d : Dev) (e : Nat) (x : Engine) : Dev :=
  { d with eng := { d.eng with engines := tset Engine.init e x d.eng.engines } }

/-- A port's slice of an engine that is not active. -/
def Engine.slice (x : Engine) (n : Nat) : Slice := tget Slice.init x.slices n

/-- It replaced. -/
def Engine.setSlice (x : Engine) (n : Nat) (q : Slice) : Engine := { x with slices := tset Slice.init n q x.slices }

/-- Does the standby build a port's cycles beside the active engine: in SHADOW, or in a resynchronisation once the port counts as
shadowed (R235, R247)? -/
def Dev.follows (d : Dev) (n : Nat) : Bool :=
  d.voting || (d.estate d.standby == 2 && (d.engine d.standby).shadowed.contains n)

/-- A port's slices change alike in both engines, in a standby that shadows or resynchronises (R235, R247). -/
def eachSlice (n : Nat) (f : Slice → Slice) (d : Dev) : Dev :=
  let d := d.setPipe n { d.pipe n with slice := f (d.pipe n).slice }
  let e := d.standby
  if d.estate e = 2 ∨ d.estate e = 3 then d.setEngine e ((d.engine e).setSlice n (f ((d.engine e).slice n))) else d

/-- A port's mask buffers change in both engines: they are loaded from the same reads (R247). -/
def setMasks (n : Nat) (f : List MaskBuf → List MaskBuf) (d : Dev) : Dev := eachSlice n (fun q => { q with masks := f q.masks }) d

/-- Engine `new` takes its own slices into service; those that were in service stay with engine `old` (R243, R250). -/
def swapSlices (old new : Nat) (d : Dev) : Dev :=
  (List.range 64).foldl (fun d n =>
    let mine := (d.engine new).slice n
    let d := d.setEngine old ((d.engine old).setSlice n (d.pipe n).slice)
    let d := d.setPipe n { d.pipe n with slice := mine }
    d.setEngine new ((d.engine new).setSlice n Slice.init)) d

/-- The time printed without a shadowing standby is brought up to the present moment. -/
def engAccrue (d : Dev) : Dev :=
  let k := if d.printing = true ∧ d.is Reg.ENG.STAT.VOTING = false then d.time.up - d.eng.since else 0
  { d with eng := { d.eng with unprot := d.eng.unprot + k, since := d.time.up } }

/-- VOTING, STANDBY_OK and source 99 follow the standby's state (R234, Table 10.9). -/
def engSync (d : Dev) : Dev :=
  let v := d.voting
  let d := if d.is Reg.ENG.STAT.VOTING = v then d else ((engAccrue d).put Reg.ENG.STAT.VOTING v).ev .ENG 0 3
  d.bringup Reg.SYS.BRINGUP.STANDBY_OK v

/-- An engine enters a state. -/
def enterState (e s : Nat) (d : Dev) : Dev :=
  let fresh := decide (s = 3 ∧ d.estate e ≠ 3)
  let d := engSync (d.set (Reg.ENGX.STAT.ESTATE e) s)
  if fresh then { d with eng := { d.eng with shadowAt := d.time.up } } else d

/-- An engine enters FAILED; with AUTO_REPAIR its repair falls due in 1 s (R251). -/
def engineFails (e : Nat) (d : Dev) : Dev := (enterState e 6 d).arm (.repair e) sec

/-! ### The health report (R252) -/

/-- The bytes of the health report (Table 10.6). -/
def reportBytes (reason : Nat) (d : Dev) : Bytes :=
  let bist (e : Nat) := leBytes 4 (d.get (Reg.ENGX.BIST_STAT.PASSES e) * 65536 + d.get (Reg.ENGX.BIST_STAT.FAILS e))
  let chk (e : Nat) := ((d.engine e).chk ++ [0, 0, 0]).flatMap fun c => leBytes 1 (min c 255)
  let body := leBytes 8 d.ts ++ leBytes 1 reason ++ leBytes 1 d.activeEngine ++ leBytes 1 (d.estate 0) ++ leBytes 1 (d.estate 1) ++
    leBytes 4 (min d.eng.voted 0xFFFFFFFF) ++ leBytes 4 d.eng.divs ++ leBytes 4 d.eng.failovers ++ bist 0 ++ bist 1 ++
    chk 0 ++ chk 1 ++ leBytes 4 (min (d.engine 0).eccs 0xFFFFFFFF) ++ leBytes 4 (min (d.engine 1).eccs 0xFFFFFFFF) ++
    leBytes 4 ((engAccrue d).eng.unprot / ms)
  body ++ leBytes 4 (crc32c body)

/-- ENG writes a health report as class C4 and advances its ring (R252). -/
def healthReport (reason : Nat) (d : Dev) : Dev :=
  let i := d.get Reg.ENG.REPORT_IDX.IDX
  let n := 2 ^ min 12 (d.get Reg.ENG.REPORT_IDX.LOG2)
  let bs := reportBytes reason d
  let d := d.c4Write (d.addr Reg.ENG.REPORT_BASE.ADDR + 64 * i) bs
  let d := (d.set Reg.ENG.REPORT_IDX.IDX ((i + 1) % n)).ev .ENG 0 5
  { d with eng := { d.eng with voted := 0 } }

/-- A repair under way on an engine ends, with a pass or a fail, and is reported (R251, R252). -/
def endRepair (e : Nat) (pass : Bool) (d : Dev) : Dev :=
  let x := d.engine e
  if x.repairing then
    let d := d.setEngine e { x with repairing := false }
    healthReport 4 (if pass then d.set (Reg.ENGX.STAT.REPAIRS e) 0 else d.bump (Reg.ENGX.STAT.REPAIRS e) 1)
  else d

/-! ### Resynchronisation (R247, R248) -/

/-- An engine starts a resynchronisation. -/
def startResync (e : Nat) (d : Dev) : Dev :=
  let d := (d.setEngine e { d.engine e with shadowed := [], copied := [], disagree := [], slices := [] }).set (Reg.ENGX.STAT.PORTS_OK e) 0
  enterState e 2 d

/-- The standby enters SUSPECT, and with AUTO_RESYNC goes on to resynchronise (R247). -/
def suspect (e : Nat) (d : Dev) : Dev :=
  let d := enterState e 5 d
  if d.is Reg.ENG.CFG.AUTO_RESYNC then startResync e d else d

/-- The state of a port not shadowed yet is copied to the standby at a cycle boundary: the active engine's slice (R247). -/
def portCopy (n : Nat) (d : Dev) : Dev :=
  let e := d.standby
  let x := d.engine e
  if d.estate e = 2 ∧ n < 64 ∧ x.shadowed.contains n = false ∧ (aget n x.copied).isNone = true then
    d.setEngine e ({ x with copied := aset n (d.port n).cycles x.copied }.setSlice n (d.pipe n).slice)
  else d

/-- The resynchronisation ends with every port shadowed: SHADOW, or ACTIVE where the active engine has failed (R247, R250); the
repair of that engine, whose second may be over, then falls due.  A repair of this engine has passed (R251). -/
def resyncDone (e : Nat) (d : Dev) : Dev :=
  let d := d.ev .ENG 0 7
  let old := d.activeEngine
  if d.eng.promote = true ∨ d.estate old = 6 then
    let d := swapSlices old e { d with eng := { d.eng with promote := false, lost := false } }
    let d := engSync ((d.set Reg.ENG.STAT.ACTIVE e).set (Reg.ENGX.STAT.ESTATE e) 4)
    endRepair e true (if d.estate old = 6 ∧ d.running (.repair old) = false then d.arm (.repair old) 0 else d)
  else endRepair e true (enterState e 3 d)

/-- Bring-up step B12 (R253): engine B resynchronises once HEALTH_KNOWN is set, tables are loaded and it is enabled. -/
def resyncStart (d : Dev) : Dev :=
  if d.is Reg.SYS.BRINGUP.HEALTH_KNOWN = true ∧ d.get Reg.PRT.GEOM_OK.OK ≠ 0 ∧ d.enabled (pg .ENGX 1) = true ∧ d.estate 1 = 0
  then startResync 1 d else d

/-- ENG.CMD.RESYNC (R247). -/
def cmdResync (d : Dev) : Dev :=
  let s := d.estate d.standby
  if s = 0 ∨ s = 5 then startResync d.standby d else d

/-! ### Failover and loss (R238, R241 to R246, R250) -/

/-- The line period in 250 ps steps: FIXED's own, or pitch over speed; 0 while the speed is not known. -/
def Dev.linePeriod (d : Dev) : Nat :=
  if d.mode = 5 then d.get Reg.TRG.FIX_PERIOD.TICKS * 16 + d.get Reg.TRG.FIX_PERIOD.PHASE
  else if d.trg.v = 0 then 0
  else d.get Reg.TRG.PITCH.PITCH * 2 ^ 20 / d.trg.v.natAbs

/-- The overlap of R245 runs from the last serialiser's switch. -/
def armOverlap (d : Dev) : Dev := d.arm .failoverOverlap (d.linePeriod + 2 * us)

/-! The segments of a cycle (R183, R237) -/

/-- A segment of a frame with what its CRC covers, segment 0 with the header: its first byte in the frame, and the bytes. -/
def segBody (f : Bytes) (j : Nat) : Nat × Bytes :=
  let k := min 512 (4 * leAt f 4 2 - 512 * j)
  if j = 0 then (0, f.take (8 + k)) else (8 + 516 * j, (f.drop (8 + 516 * j)).take k)

/-- Segment `s` of a cycle's frames, counted from frame `i`: its frame and its number in that frame. -/
def segPlace : List Bytes → Nat → Nat → Option (Nat × Nat)
  | [], _, _ => none
  | f :: t, i, s => if s < frameSegs f then some (i, s) else segPlace t (i + 1) (s - frameSegs f)

/-- A segment's bytes and its CRC put into a frame. -/
def putSeg (f : Bytes) (x : Seg) : Bytes :=
  let p := segBody f x.seg
  f.take p.1 ++ x.body ++ leBytes 4 x.crc ++ f.drop (p.1 + p.2.length + 4)

/-- Bytes with an error in them: the bits set in `e` are inverted. -/
def struck : Bytes → Bytes → Bytes
  | a :: t, e :: u => (a ^^^ e) :: struck t u
  | t, [] => t
  | [], _ => []

/-- The segment of a place in a list of frames as an engine offers it in its buffer, with an error in its bytes. -/
def segOf (fs : List Bytes) (at_ : Nat × Nat) (err : Bytes) : Seg :=
  let body := struck (segBody (nth [] fs at_.1) at_.2).2 err
  { frame := at_.1, seg := at_.2, body, crc := crc32 body }

/-- After a failover a cycle's segments that have not been voted come from the new engine (R243): `k` segments are voted. -/
def mergeFrames (mine new : List Bytes) (k : Nat) : List Bytes :=
  (List.range k).foldl (fun fs s =>
    match segPlace mine 0 s with
    | some at_ => setNth (putSeg (nth [] fs at_.1) (segOf mine at_ [])) fs at_.1
    | none => fs) new

/-- A built cycle at a failover: what the two engines have built changes places, but for the segments already voted. -/
def Cycle.swapped (c : Cycle) : Cycle :=
  if c.otherSum = [] then c
  else { c with frames := mergeFrames c.frames c.other c.segsVoted, other := c.frames, sum := c.otherSum, otherSum := c.sum }

/-- The line marks of the cycles that the ports fire, as (plane, JOB_ID, line), each once. -/
def Dev.firingMarks (d : Dev) : List (Nat × Nat × Nat) :=
  let all := (List.range 64).flatMap fun n => match (d.port n).firing with
    | some f => if f.done then [] else f.lines.filterMap fun l => match d.findJob l.job with
        | some (p, j) =>
          let m := d.get (Reg.PRT.Q_CTRL.MARK p)
          if m ≠ 0 ∧ l.line % 2 ^ m = 0 ∧ aget l.line j.closed = some false then some (p, j.id, l.line) else none
        | none => none
    | none => []
  all.eraseDups

/-- The standby becomes the active engine; the old one will enter state `fin` (R243, R244).  The new one may report again the line
marks of the cycle being fired (R245). -/
def failover (fin : Nat) (d : Dev) : Dev :=
  let old := d.activeEngine
  let new := d.standby
  let busy := (List.range 64).filter fun n => match (d.port n).built with | some c => decide (c.shipped < c.frames.length) | none => false
  let d := (List.range 64).foldl (fun d n =>
    let q := d.port n
    if q.built.isSome then d.setPort n { q with built := q.built.map Cycle.swapped } else d) (swapSlices old new d)
  let d := (d.set Reg.ENG.STAT.ACTIVE new).set (Reg.ENGX.STAT.ESTATE new) 4
  let d := if fin = 3 then d.set (Reg.ENGX.STAT.ESTATE old) 3 else d
  let d := { d with eng := { d.eng with
    failovers := d.eng.failovers + 1, overlap := some (old, fin), switching := busy, lastAt := d.time.up + 1 } }
  let d := ((engSync d).bump Reg.ENG.FAILOVER_CNT.COUNT 1).raise 0 Kind.ENG.FAILOVER { arg := old }
  let d := d.firingMarks.foldl (fun d k => cplMayRepeat new k.1 2 k.2.1 k.2.2 0 0 d) d
  if busy = [] then armOverlap d else d

/-- No engine can feed the ports: ENGINE_LOST, and R24 applies to every port. -/
def engineLost (d : Dev) : Dev :=
  let d := { d with eng := { d.eng with lost := true } }
  loseProvider (pg .ENGX d.activeEngine) 0x7F d.consumers (d.raise 0 Kind.ENG.ENGINE_LOST)

/-- A port's built cycle changed. -/
def onBuilt (n : Nat) (f : Cycle → Cycle) (d : Dev) : Dev :=
  let q := d.port n
  d.setPort n { q with built := q.built.map f }

/-- A port's built cycle is not to be latched. -/
def failCycle (n : Nat) (d : Dev) : Dev := onBuilt n (fun c => { c with failed := true }) d

/-- The active engine loses (R238, R241, R243, R250). -/
def activeLoses (n : Nat) (d : Dev) : Dev :=
  let s := d.estate d.standby
  if s = 3 then failover 6 d
  else
    let d := engineFails d.activeEngine (failCycle n d)
    let d := engineLost d
    if s = 1 ∨ s = 2 then
      let d := d.disarm .bistEnd
      startResync d.standby { d with eng := { d.eng with promote := true } }
    else d

/-- An engine's checkers flag on a slice: recorded in its page and raised as ENGINE_CHECK. -/
def flagEngine (n e flags : Nat) (d : Dev) : Dev :=
  if flags % 32 = 0 then d
  else
    let x := d.engine e
    let d := d.setEngine e { x with chk := (List.range 5).map fun i => nth 0 x.chk i + bitN flags i }
    let d := (d.set (Reg.ENGX.CHK_STAT.FLAGS e) (d.get (Reg.ENGX.CHK_STAT.FLAGS e) ||| flags % 32)).set (Reg.ENGX.STAT.FLAG_PORT e) n
    d.raise 0 Kind.ENG.ENGINE_CHECK { master := 0x21 + e, port := n, arg := flags % 32 }

/-- Have both engines' checkers flagged on a port's slice since it started its cycle (R238)? -/
def Cycle.bothFlagged (c : Cycle) : Bool := nth 0 c.flags 0 != 0 && nth 0 c.flags 1 != 0

/-- The flags of a slice join those raised since it started its cycle, while the cycle is voted (R238). -/
def noteFlags (n fA fB : Nat) (d : Dev) : Dev :=
  let v := d.voting
  onBuilt n (fun c => if v = true ∨ c.flags ≠ [0, 0] then { c with flags := [nth 0 c.flags 0 ||| fA % 32, nth 0 c.flags 1 ||| fB % 32] } else c) d

/-- Has a port a built cycle on whose slice both engines have flagged? -/
def Dev.bothFlagged (d : Dev) (n : Nat) : Bool := match (d.port n).built with | some c => c.bothFlagged | none => false

/-- The checkers of a slice flag on engine A, B or both (Table 10.3, R242, R246): the flags raised since the slice started its cycle
count together.  With both engines flagged the cycle goes on to be compared, and is latched if it agrees. -/
def engineCheck (n fA fB : Nat) (d : Dev) : Dev :=
  let act := d.activeEngine
  let fa := if act = 0 then fA else fB
  let fs := if act = 0 then fB else fA
  let voting := d.voting
  let d := noteFlags n fA fB (flagEngine n 1 fB (flagEngine n 0 fA d))
  if fa % 32 = 0 ∧ fs % 32 = 0 then d
  else if d.bothFlagged n = true ∨ (voting = true ∧ fa % 32 ≠ 0 ∧ fs % 32 ≠ 0) then engineLost (engineFails 1 (engineFails 0 d))
  else if fa % 32 ≠ 0 then activeLoses n d
  else if voting then if fs % 8 ≠ 0 then engineFails d.standby d else suspect d.standby d
  else d

/-- At a segment boundary a port's serialiser takes the new engine's segments (R243). -/
def serialiserSwitch (n : Nat) (d : Dev) : Dev :=
  if d.eng.switching.contains n then
    let rest := d.eng.switching.filter (· != n)
    let d := { d with eng := { d.eng with switching := rest } }
    if rest = [] then armOverlap d else d
  else d

/-- The overlap ends: the old engine stops acting and enters its state, and the report is written (R245, R252). -/
def overlapEnd (d : Dev) : Dev :=
  d.onTimer .failoverOverlap fun d =>
    match d.eng.overlap with
    | none => d
    | some (old, fin) =>
      let d := { d with eng := { d.eng with overlap := none } }
      let d := if fin = 6 then engineFails old d else if fin = 3 then d else enterState old fin d
      healthReport 2 d

/-- ENG.CMD.SWITCH (R243). -/
def cmdSwitch (d : Dev) : Dev := if d.voting then failover 3 d else d.raise 0 Kind.ENG.SWITCH_REFUSED

/-! ### The vote (R237 to R241) -/

/-- Have all comparisons of a cycle been made (R237), or, unvoted, all its segments been produced (R241)? -/
def Dev.cycleVoted (d : Dev) (c : Cycle) : Bool :=
  decide (c.segs ≤ c.segsVoted) && (c.digestVoted || !d.voting) && !c.failed && !c.waits

/-- A divergence is recorded, raised and reported, and the standby becomes SUSPECT (Table 10.4, R239, R252).
STOP severity under DIV_POLICY 2 is that of a segment: of a digest's divergence R239 says that only the standby's
state is affected (DEDUCED, assumption 20). -/
def divergence (n seg a b : Nat) (d : Dev) : Dev :=
  let d := ((d.bump Reg.ENG.DIV_CNT.COUNT 1).put Reg.ENG.LAST_DIV.VALID true).set Reg.ENG.LAST_DIV.PORT n
  let d := ((d.set Reg.ENG.LAST_DIV.SEG seg).set Reg.ENG.LAST_DIV_CYC.CYCLE (d.port n).cycles).set Reg.ENG.LAST_DIV_A.CRC a
  let d := d.set Reg.ENG.LAST_DIV_B.CRC b
  let d := { d with eng := { d.eng with divs := d.eng.divs + 1 } }
  let sev := if d.get Reg.ENG.VOTE_CFG.DIV_POLICY = 2 ∧ seg ≠ 0xFF then 3 else 1
  healthReport 3 (suspect d.standby (d.raiseAs 0 Kind.ENG.DIVERGENCE sev { port := n, arg := seg }))

/-- Are the two engines' results of a cycle compared: the standby shadows it, or both engines have flagged on it (Table 10.3)? -/
def Dev.compared (d : Dev) (c : Cycle) : Bool := c.otherSum != [] && (d.voting || c.bothFlagged)

/-- The segment buffers once there is room in them for one more (R237), each engine having two: a segment of the frame that the
serialiser is shipping gives its buffer up to the frame's next segment. -/
def Cycle.room (c : Cycle) (e : Nat) : Option (List (Nat × Seg)) :=
  let mine := c.bufs.filter fun b => b.1 == e
  if mine.length < 2 then some c.bufs
  else match mine.getLast? with
    | some (_, x) =>
      if x.frame = c.shipped ∧ x.seg + 1 < frameSegs (nth [] c.frames x.frame) then
        some (c.bufs.filter fun b => b.2.frame != x.frame || b.2.seg != x.seg)
      else none
    | none => some c.bufs

/-- The next segment of a port's cycle is compared (R237, Tables 10.3 and 10.4); unvoted it passes (R241).  `eA` and `eB` are the
errors, if any, in the segment of engine A and of engine B; each CRC is that of the segment's own bytes (R184), and what ships is the
active engine's segment. -/
def segmentVote (n : Nat) (eA eB : Bytes) (d : Dev) : Dev :=
  match (d.port n).built with
  | none => d
  | some c =>
    if c.waits = true ∨ c.failed = true then d
    else
      let act := d.activeEngine
      match segPlace c.frames 0 c.segsVoted, c.room act with
      | some at_, some bufs =>
        let x := segOf c.frames at_ (if act = 0 then eA else eB)
        let y := segOf c.other at_ (if act = 0 then eB else eA)
        let bufs := (act, x) :: (if c.otherSum = [] then [] else [(1 - act, y)]) ++ bufs
        let d := onBuilt n (fun c => { c with bufs }) d
        let pass := onBuilt n fun c => { c with segsVoted := c.segsVoted + 1, frames := setNth (putSeg (nth [] c.frames at_.1) x) c.frames at_.1 }
        if d.compared c = false ∨ x.crc = y.crc then pass d
        else if c.bothFlagged then failCycle n d
        else
          let policy := d.get Reg.ENG.VOTE_CFG.DIV_POLICY
          let d := if policy = 1 ∨ policy = 2 then failCycle n d else pass d
          divergence n at_.2 (if act = 0 then x.crc else y.crc) (if act = 0 then y.crc else x.crc) d
      | _, _ => d

/-- The digests of a port's cycle, the CRC-32C of the engines' summaries, are compared and its vote completes (R236, R239).  `eA` and
`eB` are the errors, if any, in the summaries. -/
def digestVote (n : Nat) (eA eB : Bytes) (d : Dev) : Dev :=
  match (d.port n).built with
  | none => d
  | some c =>
    if c.waits = true ∨ c.failed = true ∨ c.segsVoted < c.segs ∨ c.digestVoted = true then d
    else
      let act := d.activeEngine
      let a := crc32c (struck (if act = 0 then c.sum else c.otherSum) eA)
      let b := crc32c (struck (if act = 0 then c.otherSum else c.sum) eB)
      let v := d.compared c
      if v = true ∧ a ≠ b ∧ c.bothFlagged = true then failCycle n d
      else
        let d := onBuilt n (fun c => { c with digestVoted := true }) d
        let d := if v then { d with eng := { d.eng with voted := d.eng.voted + 1 } } else d
        if v = true ∧ a ≠ b then divergence n 0xFF a b d else d

/-! ### Self-test and repair (R249, R251) -/

/-- An engine starts a BIST window. -/
def startBist (e : Nat) (d : Dev) : Dev :=
  (enterState e 1 d).arm .bistEnd (max 1 (d.get Reg.ENG.BIST_CFG.WINDOW) * ms)

/-- PERIOD has passed since the standby entered SHADOW (R249): it starts a window, unless HOLD postpones it; within 1 s
after a failover it waits until that second is over. -/
def bistStart (d : Dev) : Dev :=
  if d.voting = true ∧ d.is Reg.ENG.BIST_CFG.EN = true ∧ d.is Reg.ENG.BIST_CFG.HOLD = false then
    let due := d.eng.shadowAt + max 1 (d.get Reg.ENG.BIST_CFG.PERIOD) * sec
    let d := d.advanceTo (max due (if d.eng.lastAt = 0 then 0 else d.eng.lastAt + sec))
    startBist d.standby d
  else d

/-- A BIST window ends (R249, R251): with a pass the engine resynchronises, with a fail it is FAILED and its repair has failed. -/
def bistEnd (pass : Bool) (d : Dev) : Dev :=
  d.onTimer .bistEnd fun d =>
    let e := d.standby
    if d.estate e ≠ 1 then d
    else
      let d := ((d.put (Reg.ENGX.BIST_STAT.LAST_PASS e) pass).set (Reg.ENGX.BIST_TS.TS e) d.ts).ev .ENG 0 4
      if pass then healthReport 1 (startResync e (d.bump (Reg.ENGX.BIST_STAT.PASSES e) 1))
      else
        let d := (engineFails e (d.bump (Reg.ENGX.BIST_STAT.FAILS e) 1)).raise 0 Kind.ENG.BIST_FAIL { master := 0x21 + e }
        endRepair e false (healthReport 1 d)

/-- A FAILED engine is repaired: a soft reset and one BIST window (R251). -/
def repairEngine (e : Nat) (d : Dev) : Dev :=
  if d.estate e = 6 ∧ e ≠ d.activeEngine then
    let d := d.set (Reg.HDR.EPOCH (pg .ENGX e)) ((d.get (Reg.HDR.EPOCH (pg .ENGX e)) + 1) % 16)
    let d := (d.set (Reg.ENGX.CHK_STAT.FLAGS e) 0).set (Reg.ENGX.STAT.PORTS_OK e) 0
    let d := (d.setEngine e { d.engine e with repairing := true, shadowed := [], copied := [], disagree := [] }).disarm (.repair e)
    startBist e d
  else d

/-- ENG.CMD.REPAIR (R251): a host REPAIR starts the count of failed repairs anew. -/
def cmdRepair (d : Dev) : Dev :=
  let e := d.standby
  if d.estate e = 6 then repairEngine e (d.set (Reg.ENGX.STAT.REPAIRS e) 0) else d

/-- One second after an engine failed (R251). -/
def autoRepair (e : Nat) (d : Dev) : Dev :=
  d.onTimer (.repair e) fun d =>
    if d.is Reg.ENG.CFG.AUTO_REPAIR = true ∧ d.get (Reg.ENGX.STAT.REPAIRS e) < max 1 (d.get Reg.ENG.CFG.REPAIR_MAX)
    then repairEngine e d else d

/-! ### Header controls and views -/

/-- ENABLE cleared, KILL (`fin` 6) or SOFT_RESET of an engine (R243, R244, R253); a repair of the standby goes no further. -/
def engineStops (e fin : Nat) (d : Dev) : Dev :=
  if e = d.activeEngine then
    if d.voting then failover fin d else activeLoses 0 d
  else enterState e 0 ((d.setEngine e { d.engine e with repairing := false }).disarm .bistEnd)

/-- ENABLE set on an engine: a standby that is OFF resynchronises (R247, R253). -/
def engineStarts (e : Nat) (d : Dev) : Dev :=
  if e = d.standby ∧ d.estate e = 0 ∧ d.is Reg.SYS.BRINGUP.HEALTH_KNOWN then startResync e d else d

/-- The ENG field computed when read. -/
def engView (d : Dev) (f : Fld) : Option Nat :=
  if f = Reg.ENG.UNPROT_MS.MS then some (min ((engAccrue d).eng.unprot / ms) 0xFFFFFFFF) else none

end Sys2Proof.Machine
end

