-- ==== Sys2Proof/Machine/Health.lean ====
section
/-!
DEFINITION. Sounding and nozzle health (chapter 9) and the concealment map that follows from it (R138, R141, R210): the
health store, idle scans, Sounding windows and decisions, the wear map and the signature table.
-/
namespace Sys2Proof.Machine

/-- A value the manual does not state, below `n`. -/
def Dev.freeBelow (d : Dev) (n : Nat) : Nat := Config.freeValue d.free % n

/-! ### The concealment map (R138, R141, R210) -/

/-- The health entry of a nozzle. -/
def Dev.noz (d : Dev) (n i : Nat) : Noz := tget Noz.init (d.health n).noz i

/-- The concealment code of a health state (R210). -/
def concealCode (state : Nat) : Nat := if state = 1 then 0 else if state = 2 then 1 else if state = 3 then 2 else 3

/-- Is a nozzle FACTORY_OFF in its port's table? -/
def Dev.factoryOff (d : Dev) (n i : Nat) : Bool :=
  match d.geom n with
  | some g => match aget i g.noz with | some e => nozFactoryOff e | none => false
  | none => false

/-- The newest concealment code of a nozzle (R138). -/
def Dev.conceal (d : Dev) (n i : Nat) : Nat :=
  if d.factoryOff n i || (d.pipe n).hostOff.contains i then 3 else concealCode (d.noz n i).state

/-- The concealment codes of a port that are not GOOD. -/
def Dev.mapOf (d : Dev) (n : Nat) : List (Nat × Nat) :=
  match d.geom n with
  | some g => (g.noz.map fun e => (e.1, d.conceal n e.1)).filter fun x => x.2 != 0
  | none => []

/-- A change that may alter a nozzle's concealment code: when it does, it applies from the lowest line that no row of the
port has started, and MAP_APPLIED is raised (R141). -/
def mapChange (n i : Nat) (f : Dev → Dev) (d : Dev) : Dev :=
  let old := d.conceal n i
  let d := f d
  if d.conceal n i = old then d
  else
    let jobs := match d.geom n with | some g => (d.plane g.plane).jobs | none => []
    let new := jobs.filterMap fun j =>
      let s := tget 0 j.started n
      if s = 0 then none else some { nozzle := i, old, job := j.seq, jEff := s : MapChange }
    let q := d.pipe n
    let live := q.changes.filter fun c => jobs.any fun j => j.seq == c.job
    (d.setPipe n { q with changes := live ++ new, mapVer := (q.mapVer + 1) % 2 ^ 32 }).ev .MSK 0 2

/-! ### The health store (R209 to R212) -/

/-- Does a port hold a nozzle counted as UNKNOWN (R212)? -/
def Dev.unknownPort (d : Dev) (n : Nat) : Bool :=
  d.enabled (pg .HPT n) && d.bitOf Reg.PRT.GEOM_OK.OK n &&
  (match d.geom n with
   | some g => g.noz.any fun e => !nozFactoryOff e.2 && !(d.pipe n).hostOff.contains e.1 && (d.noz n e.1).state == 0
   | none => false)

/-- HEALTH_KNOWN follows the count of R212 once a full scan has ended the first-use rule of the health map (R60, R63). -/
def healthSync (d : Dev) : Dev :=
  d.bringup Reg.SYS.BRINGUP.HEALTH_KNOWN (d.snd.scanned && !(List.range 64).any d.unknownPort)

/-- A nozzle's entry is written: a changed entry awaits its write-back (R209), and the maps follow. -/
def setNoz (n i : Nat) (z : Noz) (d : Dev) : Dev :=
  if d.noz n i = z then d
  else
    mapChange n i (fun d =>
      let q := d.health n
      let d := d.setHealth n { q with noz := tset Noz.init i z q.noz }
      { d with snd := { d.snd with wb := if d.snd.wb.contains (n, i) then d.snd.wb else d.snd.wb ++ [(n, i)] } }) d

/-- The bytes of a health entry (Table 9.1). -/
def nozBytes (z : Noz) : Bytes :=
  leBytes 8 (z.state * 2 ^ 62 + z.cause * 2 ^ 60 + z.miss * 2 ^ 56 + z.inc * 2 ^ 52 + z.pass * 2 ^ 48 + z.rA * 2 ^ 32 + z.rB * 2 ^ 16 + z.sounded)

/-- SND writes the oldest changed entry back to the Basin map as class C4 (R209). -/
def healthWriteback (d : Dev) : Dev :=
  match d.snd.wb with
  | [] => d
  | (n, i) :: rest =>
    if d.basinUp then
      ({ d with snd := { d.snd with wb := rest } }).c4Write (d.addr Reg.SND.HEALTH_BASE.ADDR + (n * 16384 + i) * 8) (nozBytes (d.noz n i))
    else d

/-! ### Limits on a port (R226) -/

/-- FAILED and WEAK nozzles of a port. -/
def Dev.downCount (d : Dev) (n : Nat) : Nat := ((d.health n).noz.filter fun e => e.2.state == 2 || e.2.state == 3).length

/-- PORT_DEGRADED is raised when the FAILED and WEAK nozzles first exceed FAIL_LIMIT (R226). -/
def degradeSync (n : Nat) (d : Dev) : Dev :=
  let bad := decide (d.get Reg.SND.FAIL_LIMIT.COUNT < d.downCount n)
  let q := d.health n
  if bad = q.degraded then d
  else
    let d := d.setHealth n { q with degraded := bad }
    if bad then d.raise 0 Kind.SND.PORT_DEGRADED { port := n } else d

/-- A coverage pass ends when every present GOOD or WEAK nozzle of the port has had a decision since it began (R227); one without
any decision goes on. -/
def coverEnd (n : Nat) (d : Dev) : Dev :=
  let q := d.health n
  let live : List Nat := match d.geom n with
    | some g => (g.noz.map (·.1)).filter fun k => (d.noz n k).state == 1 || (d.noz n k).state == 2
    | none => []
  if q.decided ≠ [] ∧ live.all q.decided.contains = true then
    (d.setHealth n { q with decided := [], began := d.time.up, lastMs := min 65535 ((d.time.up - q.began) / ms) }).ev .SND 0 2
  else d

/-- Every nozzle of a port becomes UNKNOWN, its counters and resistances cleared (R211). -/
def forgetPort (n : Nat) (d : Dev) : Dev :=
  coverEnd n (degradeSync n (((d.health n).noz.map (·.1)).foldl (fun d i => setNoz n i Noz.init d) d))

/-! ### Idle scan (R213 to R218) -/

/-- Is a port ready to be scanned (R214)? -/
def Dev.scanReady (d : Dev) (n : Nat) : Bool :=
  d.bitOf Reg.PRT.GEOM_OK.OK n && d.headUp n && d.is Reg.SYS.BRINGUP.HEAD_POWER_ARMED && !d.hot n && (d.heat n).temp.isSome &&
  !d.is (Reg.THM.TEMP.INVALID n) && !d.is (Reg.THM.TEMP.STALE n)

/-- The scan steps of a port: every present nozzle in ascending index, both heaters in DOT_MODE 1 (R214). -/
def scanSteps (g : Geom) : List (Nat × Nat) :=
  g.noz.flatMap fun e => if g.dotMode = 1 then [(e.1, 0), (e.1, 1)] else [(e.1, 0)]

/-- A channel of the scan. -/
def Dev.chan (d : Dev) (c : Nat) : Chan := tget Chan.init d.snd.chans c

/-- A channel replaced. -/
def Dev.setChan (d : Dev) (c : Nat) (x : Chan) : Dev := { d with snd := { d.snd with chans := tset Chan.init c x d.snd.chans } }

/-- The nozzles a list of steps names. -/
def stepNozzles (s : List (Nat × Nat)) : List Nat := (s.map (·.1)).dedup

/-- The scan is over when every channel's part has ended (R213, R214). -/
def scanOver (d : Dev) : Dev :=
  if d.snd.running = false ∨ ((List.range 8).any fun c => !(d.chan c).ended) then d
  else if d.snd.halting then
    (({ d with snd := { d.snd with halting := false, running := false } }).set Reg.SND.SCAN_STAT.STATE 3).ev .SND 0 0
  else
    let d := (d.set Reg.SND.SCAN_STAT.STATE 2).ev .SND 0 0
    let d := healthSync { d with snd := { d.snd with scanned := true, running := false } }
    if d.get Reg.SND.SCAN_SKIP.COUNT ≠ 0 then d.raise 0 Kind.SND.SCAN_INCOMPLETE else d

/-- A port's heater is released from SNS after its last step (R215). -/
def scanRelease (n : Nat) (d : Dev) : Dev :=
  if (d.health n).conn then
    let d := d.setHealth n { d.health n with conn := false }
    if d.headUp n then d.sense n 0 0 0 0 else d
  else d

/-- A channel's part of a scan ends (R214), with the ports still connected released: `skip` nozzles were left unscanned. -/
def scanPartEnd (c skip : Nat) (d : Dev) : Dev :=
  let d := (List.range 8).foldl (fun d k =>
    let n := 8 * c + k
    scanRelease n (d.setHealth n { d.health n with scan := [], half := none })) d
  scanOver ((d.bump Reg.SND.SCAN_SKIP.COUNT skip).setChan c { d.chan c with ended := true })

/-- A channel's next step begins: the next ready port of the rotation, its next heater (R214, R215); a scan that is to stop ends
there (R213), and one that is held by ENABLE or by a run of the channel waits (R230, R429). -/
def scanNext (c : Nat) (d : Dev) : Dev :=
  let x := d.chan c
  if x.ended = true ∨ x.step.isSome then d
  else if d.snd.halting then scanPartEnd c 0 d
  else if d.runs (pg .SND 0) = false ∨ d.channelStale c = true then d
  else
    let order := (List.range 8).map fun k => 8 * c + (x.rot + 1 + k) % 8
    match order.find? fun n => (d.health n).scan != [] && d.scanReady n with
    | some n =>
      match (d.health n).scan with
      | [] => d
      | (i, h) :: _ =>
        let d := d.setChan c { x with step := some (n, i, h), began := d.time.up, repeats := 0, rot := n % 8 }
        ((d.setHealth n { d.health n with conn := true }).sense n (2 + h) i 0 0).arm (.scan c) (20 * us)
    | none => scanPartEnd c ((order.map fun n => (stepNozzles (d.health n).scan).length).foldl (· + ·) 0) d

/-- Channels whose scan waited for their run or for the spare go on (R429). -/
def scanResume (d : Dev) : Dev := if d.snd.running then (List.range 8).foldl (fun d c => scanNext c d) d else d

/-- SCAN_CMD.GO (R213). -/
def scanGo (d : Dev) : Dev :=
  if d.mode ≠ 1 ∨ d.snd.running = true ∨ d.inRun (pg .SND 0) = false then
    (d.set Reg.SND.SCAN_STAT.STATE 4).raise 0 Kind.SND.SCAN_REFUSED
  else
    let d : Dev := { d with snd := { d.snd with running := true } }
    let d := (d.set Reg.SND.SCAN_STAT.STATE 1).set Reg.SND.SCAN_STAT.DONE 0
    let d := (bitList 64 (d.get Reg.SND.SCAN_PORTS.PORTS)).foldl (fun d n =>
      match d.geom n with
      | some g => d.setHealth n { d.health n with scan := scanSteps g, half := none }
      | none => d) d
    let d := (List.range 8).foldl (fun d c => d.setChan c { d.chan c with step := none, repeats := 0, rot := 7, ended := false }) d
    (List.range 8).foldl (fun d c => scanNext c d) d

/-- SCAN_CMD.STOP, and a change out of SERVICE: the scan ends at the end of its current steps (R213). -/
def scanStop (d : Dev) : Dev :=
  if d.snd.running then
    (List.range 8).foldl (fun d c => scanNext c d) { d with snd := { d.snd with halting := true } }
  else d

/-- The trim target of the channel that converts for a port: the spare while it serves the port's channel (R428, R432). -/
def Dev.convTarget (d : Dev) (n : Nat) : Nat :=
  if d.cal.taken = some (n / 8) ∨ (d.spare = 2 ∧ d.get Reg.CAL.STAT.COVER = n / 8) then 8 else n / 8

/-- R_25 of a step in 1/128 Ω (R217): the sums of 12 conversions at each current in µV, with the channel's gain trim.
Equal currents give a quotient the manual does not state. -/
def Dev.scanR (d : Dev) (n : Nat) (sumLo sumHi : Nat) (full : Bool) : Nat :=
  let di : Int := (d.get Reg.SND.SCAN_CFG.I_HI : Int) - d.get Reg.SND.SCAN_CFG.I_LO
  let t : Int := ((d.heat n).temp).getD 400
  let tcr := toSigned 16 (d.get Reg.SND.HEATER_TCR.TCR)
  let den : Int := 12 * di * 1000000 * (16000000 + tcr * (t - 400))
  let num : Int := 128 * ((sumHi : Int) - sumLo) * (1000000 + d.trim (d.convTarget n) 1) * 16000000
  if full then 0xFFFF
  else if den = 0 then d.freeBelow 65536
  else (max 0 (min 65535 (roundDiv num den))).toNat

/-- The class of a heater by its resistance (R218): state and cause. -/
def Dev.classifyR (d : Dev) (r : Nat) : Nat × Nat :=
  if d.get Reg.SND.R_LIMITS_0.OPEN ≤ r ∨ r ≤ d.get Reg.SND.R_LIMITS_0.SHORT then (3, 1)
  else if r < d.get Reg.SND.R_LIMITS_1.LO ∨ d.get Reg.SND.R_LIMITS_1.HI < r then (2, 2)
  else (1, 0)

/-- A nozzle has entered another state: FAILED and WEAK raise their kinds, and a recovery its event (R225, R232). -/
def stateEvents (n i line old st : Nat) (d : Dev) : Dev :=
  if st = old then d
  else if st = 3 then d.raise 0 Kind.SND.NOZZLE_FAILED { port := n, line, arg := i }
  else if st = 2 then d.raise 0 Kind.SND.NOZZLE_WEAK { port := n, line, arg := i }
  else if old = 2 ∨ old = 3 then d.ev .SND 0 2
  else d

/-- A nozzle takes a scan's result, except a signature FAILED that the scan may not clear (R218). -/
def scanResult (n i : Nat) (sc : Nat × Nat) (d : Dev) : Dev :=
  let z := d.noz n i
  if z.state = 3 ∧ z.cause = 3 ∧ d.is Reg.SND.SCAN_CFG.CLEAR_SIG = false then d
  else stateEvents n i 0xFFFFFFFF z.state sc.1 (setNoz n i { z with state := sc.1, cause := sc.2, miss := 0, inc := 0, pass := 0 } d)

/-- A scan step's four phases end (R217, R218), each resistance reclassing its nozzle, and the channel's next step starts; a spare
that waits for the step takes over first (R428). -/
def scanStepDone (c sumLo sumHi : Nat) (full : Bool) (d : Dev) : Dev :=
  d.onTimer (.scan c) fun d =>
    match (d.chan c).step with
    | none => d
    | some (n, i, h) =>
      let r := d.scanR n sumLo sumHi full
      let d := d.drawn
      let z := d.noz n i
      let d := setNoz n i (if h = 0 then { z with rA := r } else { z with rB := r }) d
      let d := if d.bitOf Reg.THM.CLASSING.EN n then reclass n d i else d
      let sc := d.classifyR r
      let two := match d.geom n with | some g => g.dotMode == 1 | none => false
      let q := d.health n
      let d := d.setHealth n { q with scan := q.scan.drop 1, half := (if two = true ∧ h = 0 then some sc else none) }
      let d :=
        if two = true ∧ h = 0 then d
        else
          let sc := match q.half with | some a => if sc.1 < a.1 then a else sc | none => sc
          let d := (scanResult n i sc d).bump Reg.SND.SCAN_STAT.DONE 1
          healthSync (coverEnd n (degradeSync n d))
      let d := if (d.health n).scan = [] then scanRelease n d else d
      let d := d.setChan c { d.chan c with step := none }
      scanNext c (if d.cal.wants = some c then spareTakeover d else d)

/-- A FIRE pulse or a disconnection spoils the step (R216): it is repeated, and given up after four repeats. -/
def scanStepRepeat (c : Nat) (d : Dev) : Dev :=
  match (d.chan c).step with
  | none => d
  | some (n, i, h) =>
    let x := d.chan c
    if x.repeats < 4 then
      ((d.bump Reg.SND.SCAN_REPEAT.COUNT 1).setChan c { x with repeats := x.repeats + 1, began := d.time.up }).sense n (2 + h) i 0 0 |>.arm (.scan c) (20 * us)
    else
      let q := d.health n
      let d := d.setHealth n { q with scan := q.scan.filter (·.1 != i), half := none }
      let d := if (d.health n).scan = [] then scanRelease n d else d
      scanNext c (((d.bump Reg.SND.SCAN_SKIP.COUNT 1).disarm (.scan c)).setChan c { x with step := none, repeats := 0 })

/-- A FIRE pair of a port goes high: a scan step of the port is spoilt (R216). -/
def scanFired (n : Nat) (d : Dev) : Dev :=
  match (d.chan (n / 8)).step with
  | some (m, _, _) => if m = n then scanStepRepeat (n / 8) d else d
  | none => d

/-- The head of a port leaves SNS as its link is lost (R195): a step of the port is discarded and counted, to be taken again when
the port is ready, and the channel goes on (R214, R216). -/
def scanLost (n : Nat) (d : Dev) : Dev :=
  let d := if (d.health n).conn then d.setHealth n { d.health n with conn := false } else d
  let c := n / 8
  match (d.chan c).step with
  | some (m, _, _) =>
    if m = n then scanNext c (((d.bump Reg.SND.SCAN_REPEAT.COUNT 1).disarm (.scan c)).setChan c { d.chan c with step := none, repeats := 0 })
    else d
  | none => d

/-! ### Sounding (R219 to R227) -/

/-- Is a port sounded at present (R219)? -/
def Dev.sounded (d : Dev) (n : Nat) : Bool :=
  let on := if d.printing then d.is Reg.SND.SIG_EN.PRINT_EN else d.mode == 1 && d.is Reg.SND.SIG_EN.SERVICE_EN
  let mapped := match d.snd.sig with | some (m, _) => m.testBit n | none => false
  on && mapped && (d.health n).scan == [] && d.inRun (pg .SND 0) && d.enabled (pg .SND 0)

/-- Is a final code one firing of one heater (R220)? -/
def singleFiring (dotMode code : Nat) : Bool := code == 1 || (dotMode == 1 && code == 2)

/-- Nozzles from the pointer `p` onwards in ascending index with wrap (R220), of an ascending list. -/
def fromPtr (p : Nat) (is : List Nat) : List Nat := is.filter (p ≤ ·) ++ is.filter (· < p)

/-- The candidate of a cycle among its final codes, in ascending index (R220). -/
def Dev.candidate (d : Dev) (n : Nat) (g : Geom) (codes : List (Nat × Nat)) : Option Nat :=
  if d.sounded n = false then none
  else
    let q := d.health n
    let svc := d.mode == 1
    let ok := (codes.filter fun c =>
      let z := d.noz n c.1
      singleFiring g.dotMode c.2 &&
      (z.state == 1 || z.state == 2 || (svc && z.state == 3 && z.cause == 3 && d.is Reg.SND.SIG_CFG.RECOVER))).map (·.1)
    let order := fromPtr q.ptr ok
    let g1 := order.find? fun i => (d.noz n i).miss != 0 || (d.noz n i).inc != 0
    let g2 := if svc then order.find? fun i => (d.noz n i).state == 3 && (d.noz n i).cause == 3 else none
    let g3 := order.find? fun i => !q.decided.contains i
    match g1, g2, g3 with
    | some i, _, _ => some i
    | none, some i, _ => some i
    | none, none, r => r

/-- A candidate in a member row that ships a blank row-line (R221): of the lowest such row that has one, the first undecided nozzle
from the pointer on. -/
def Dev.gapCandidate (d : Dev) (n : Nat) (g : Geom) (blankRows : List Nat) : Option Nat :=
  if d.sounded n = false ∨ d.is Reg.SND.SIG_EN.GAP_EN = false then none
  else
    let q := d.health n
    blankRows.findSome? fun r => (fromPtr q.ptr ((g.row r).map Prod.fst)).find? fun i =>
      let z := d.noz n i
      (z.state == 1 || z.state == 2) && !q.decided.contains i && d.conceal n i ≤ 1

/-- The length of a window, and of a temperature sample's four conversions. -/
def windowLen : Nat := 3 * us

/-- The granted windows of a channel: port and window. -/
def Dev.windows (d : Dev) (c : Nat) : List (Nat × Window) :=
  (List.range 8).flatMap fun k => (d.health (8 * c + k)).windows.map fun w => (8 * c + k, w)

/-- The first moment from `t` on that lies in none of a list of busy stretches (start, end), each looked at in order. -/
def freeFrom (busy : List (Nat × Nat)) (t len : Nat) : Nat :=
  busy.foldl (fun t b => if t < b.2 ∧ b.1 < t + len then b.2 else t) t

/-- Stretches in ascending start. -/
def inOrder (bs : List (Nat × Nat)) : List (Nat × Nat) := sortBy (fun a b => decide (a.1 ≤ b.1)) bs

/-- The moments at which samples of a channel's ports fall due in the next 400 µs, in order. -/
def Dev.sampleDues (d : Dev) (c : Nat) : List Nat :=
  (inOrder ((List.range 8).flatMap fun k => match d.due (.temp (8 * c + k)) with
    | some t => (List.range 4).map fun i => (t + i * (100 * us), 8 * c + k)
    | none => [])).map (·.1)

/-- Could every temperature sample of a channel still be taken at most 10 µs after it falls due, beside the busy stretches (R19,
R222)?  `free` is the end of the sample before. -/
def samplesFit (busy : List (Nat × Nat)) : List Nat → Nat → Bool
  | [], _ => true
  | t :: rest, free =>
    let at_ := freeFrom busy (max t free) (2 * us)
    decide (at_ ≤ t + 10 * us) && samplesFit busy rest (at_ + 2 * us)

/-- Does a window of port `n` at [tc, tc + 3 µs), asked for now, lose to granted window `w` of port `k`?  Of two requests of one
TS tick the earlier window wins, then the lower port (R222). -/
def Dev.yields (d : Dev) (n tc : Nat) (x : Nat × Window) : Bool :=
  x.1 == n || decide (x.2.asked / tick ≠ d.time.up / tick) || decide (x.2.tc < tc) || (x.2.tc == tc && decide (x.1 < n))

/-- The granted windows of port `n`'s channel that overlap [tc, tc + 3 µs). -/
def Dev.overlaps (d : Dev) (n tc : Nat) : List (Nat × Window) :=
  (d.windows (n / 8)).filter fun x => decide (x.2.tc < tc + windowLen) && decide (tc < x.2.tc + windowLen)

/-- Is a window at [tc, tc + 3 µs) granted to a port (R222)? -/
def Dev.granted (d : Dev) (n tc : Nat) : Bool :=
  let c := n / 8
  let step := (d.chan c).step.isSome && (match d.due (.scan c) with | some t => decide (tc < t) | none => true)
  let rest := (d.windows c).filter fun x => !(d.overlaps n tc).contains x
  let busy := inOrder ((tc, tc + windowLen) :: rest.map fun x => (x.2.tc, x.2.tc + windowLen))
  !step && !(d.overlaps n tc).any (d.yields n tc) && samplesFit busy (d.sampleDues c) (d.chan c).free

/-- At the candidate's LATCH, SND computes the window and requests it from the port's channel (R222, R223); `k` is the class that the
cycle sampled for the candidate. -/
def requestWindow (n i line k : Nat) (d : Dev) : Dev :=
  match (d.port n).firing, d.geom n with
  | some f, some g =>
    match aget i g.noz with
    | none => d
    | some e =>
      let w := (aget k f.waves).getD Wave.init
      let tf := f.t0 + clamp 240 320 (d.get (Reg.HPT.LAT_FIRE.STEPS n)) + nozSlot e * f.tSlot + w.pre + w.gap + w.main
      let tc := tf + 3 * us
      let lat := bits (d.get (Reg.HPT.HEAD_ID.ID n 2)) 15 8
      let tEnd := d.time.up + 160
      if d.granted n tc = false ∨ d.channelStale (n / 8) = true ∨ tc < tEnd + 8 * lat then abandon n i d
      else
        let d := (d.overlaps n tc).foldl (fun d x => (abandonWhere x.1 (· == x.2) d).sense x.1 0 0 0 0) d
        let code := (aget i f.codes).getD 0
        let heater := if g.dotMode = 1 ∧ code = 2 then 1 else 0
        let d := d.setHealth n { d.health n with
          windows := (d.health n).windows ++ [{ noz := i, line := line, cls := k, heater := heater, tc := tc, asked := f.t0 }] }
        d.sense n (2 + heater) i 1500 ((tc - tEnd) / 8 - lat)
  | _, _ => d

/-! ### Temperature samples (R19, R163, R202, R216) -/

/-- The SENSE frame of the sample that is due goes out, once (R163); the spec gives neither its DWELL nor its DELAY, which are 0
(DESIGN CHOICE, notes/assumptions/75.md). -/
def sampleFrame (n : Nat) (d : Dev) : Dev :=
  if (d.head n).snsSent then d else (d.setHead n { d.head n with snsSent := true }).sense n 1 0 0 0

/-- A SENSE frame of a temperature sample is reported bad (Table 8.10): it is sent once more, and the sample is invalid if that
fails too. -/
def sampleBad (n : Nat) (d : Dev) : Dev :=
  let d := sampleFrame n d
  let d := d.setHead n { d.head n with snsBad := (d.head n).snsBad + 1 }
  if (d.head n).snsBad = 1 then d.sense n 1 0 0 0 else d

/-- A sample of a channel falls due now: when it is taken (R19, R216), and by how much a scan step's settle interval is extended for
it.  During a step it is taken at the start of the step's next settle interval, or after the sample that holds it; otherwise in the
first slot free of samples and windows. -/
def Dev.sampleSlot (d : Dev) (c : Nat) : Nat × Nat :=
  let x := d.chan c
  let now := d.time.up
  match x.step with
  | some _ =>
    let k := ceilDiv (now - x.began) (5 * us)
    let at_ := x.began + k * (5 * us)
    if at_ < x.free then (x.free, 2 * us) else (at_, 0)
  | none => (freeFrom (inOrder ((d.windows c).map fun w => (w.2.tc, w.2.tc + windowLen))) (max now x.free) (2 * us), 0)

/-- The channel takes a sample: its SENSE frame goes out, the converter is taken for 2.0 µs, and a step that it extends ends later. -/
def takeSample (n : Nat) (d : Dev) : Dev :=
  let c := n / 8
  let s := d.sampleSlot c
  let d := sampleFrame n d
  let x := d.chan c
  let d := d.setChan c { x with free := s.1 + 2 * us, began := x.began + s.2 }
  let d := match d.due (.scan c) with
    | some t => if s.2 = 0 then d else d.arm (.scan c) (t + s.2 - d.time.up)
    | none => d
  d.advanceTo s.1

/-- A port's temperature sample: outcome 0 a converted resistance in mΩ, 1 the sense line open or shorted (R163, R164);
a sample of a channel in a run without the spare is stale (R429), and one whose SENSE frame failed twice is invalid (Table 8.10).
No sample is taken while the link is not UP (R204) or THM is in RESET or OFF (R178). -/
def temperatureSample (n outcome r : Nat) (d : Dev) : Dev :=
  d.onPeriod (.temp n) (100 * us) fun d =>
    if d.get (Reg.HPT.LINK_STAT.STATE n) ≠ 6 ∨ d.blk (pg .THM 0) = 0 ∨ d.blk (pg .THM 0) = 5 then d
    else if d.channelStale (n / 8) then staleSample n (countStale d)
    else
      let d := takeSample n d
      let bad := (d.head n).snsBad
      let d := d.setHead n { d.head n with snsSent := false, snsBad := 0 }
      if outcome = 1 ∨ 2 ≤ bad then invalidSample n d
      else
        let t := senseTemp (d.energy n) r
        if t < -640 ∨ 2400 < t then invalidSample n d else validSample n t d

/-! ### Warming pulses (R169, R170) -/

/-- The moment at which the frames of a port's built cycle that have not shipped will have, 8 steps a byte (R181). -/
def Dev.linkFree (d : Dev) (n : Nat) : Nat :=
  match (d.port n).built with
  | some c => d.time.up + 8 * ((c.frames.drop c.shipped).map List.length).foldl (· + ·) 0
  | none => d.time.up

/-- May a warming pulse of width `w` be placed now (R170)?  In a print mode the next LAT lies at least the width and 200 ns
ahead, and the frames of its cycle still fit before it (DEDUCED, notes/assumptions/74.md). -/
def Dev.warmRoom (d : Dev) (n w : Nat) : Bool :=
  !d.printing ||
    (match (d.port n).sched with | some s => decide (d.time.up + w + 800 ≤ s) && decide (d.linkFree n ≤ s) | none => true)

/-- A warming pulse: sent when R169, R170, R188 and R206 allow it, else dropped.  A spit cycle's LATCH waits for its end (R188), and a scan step of the port is spoilt (R216). -/
def warmingPulse (n : Nat) (d : Dev) : Dev :=
  match (d.heat n).warm with
  | [] => d
  | t :: rest =>
    let d := (d.advanceTo t).setHeat n { d.heat n with warm := rest }
    let w := min (d.get Reg.THM.WARM_W.WIDTH) (d.energy n).warmMax
    let idle := match (d.port n).firing with | some f => f.done | none => true
    if d.hot n ∨ d.runs (pg .THM 0) = false ∨ d.is Reg.SYS.BRINGUP.HEAD_POWER_ARMED = false ∨ d.halted = true
        ∨ d.runs (pg .HPT n) = false ∨ d.get (Reg.HPT.LINK_STAT.STATE n) ≠ 6 ∨ idle = false ∨ d.warmRoom n w = false then d
    else
      let q := d.port n
      let ends := d.time.up + clamp 240 320 (d.get (Reg.HPT.LAT_FIRE.STEPS n)) + w + 80
      let d := if d.printing then d else d.setPort n { q with portFree := max q.portFree ends }
      scanFired n ((d.emit (.mark n 2 0)).emit (.fire n 0 0 0 w))

/-! ### Decisions (R223 to R227) -/

/-- A decision on a nozzle counts towards the coverage pass (R227). -/
def coverage (n i : Nat) (d : Dev) : Dev :=
  let q := d.health n
  coverEnd n (d.setHealth n { q with decided := if q.decided.contains i then q.decided else i :: q.decided })

/-- The state a decided nozzle takes (Table 9.3), with its counters already counted; none when nothing changes. -/
def Dev.sigState (d : Dev) (z : Noz) : Option (Nat × Nat) :=
  let missN := max 1 (d.get Reg.SND.SIG_CFG.MISS_N)
  let incN := max 1 (d.get Reg.SND.SIG_CFG.INC_N)
  let passN := max 1 (d.get Reg.SND.SIG_CFG.PASS_N)
  if z.state = 1 then
    if missN ≤ z.miss then some (3, 3) else if incN ≤ z.inc then some (2, 3) else none
  else if z.state = 2 then
    if missN ≤ z.miss then some (3, 3) else if z.cause = 3 ∧ passN ≤ z.pass then some (1, 0) else none
  else if z.state = 3 ∧ z.cause = 3 ∧ d.mode = 1 ∧ d.is Reg.SND.SIG_CFG.RECOVER = true ∧ passN ≤ z.pass then some (1, 0)
  else none

/-- The expected curves of a class of a port: E_0 to E_3, N_0 to N_3 (R229). -/
def Dev.curves (d : Dev) (n k : Nat) : List Nat × List Nat :=
  match d.snd.sig with
  | none => ([], [])
  | some (_, es) =>
    let b := (es.drop (64 * n + 16 * k)).take 16
    ((List.range 4).map fun j => leAt b (2 * j) 2, (List.range 4).map fun j => leAt b (8 + 2 * j) 2)

/-- The idle resistance at the head's temperature, 1/128 Ω (R224). -/
def Dev.rIdle (d : Dev) (n r25 : Nat) : Int :=
  let t : Int := ((d.heat n).temp).getD 400
  roundDiv ((r25 : Int) * (16000000 + toSigned 16 (d.get Reg.SND.HEATER_TCR.TCR) * (t - 400))) 16000000

/-- The sum of distances of the excesses from a curve. -/
def curveDist (xs : List Int) (cs : List Nat) : Nat := (List.zipWith (fun (x : Int) (c : Nat) => (x - (c : Int)).natAbs) xs cs).foldl (· + ·) 0

/-- The resistance of a Sounding conversion of `v` µV at the current SIG_I, 1/128 Ω, with the channel's calibrated offset removed
(R222): the offset counts 1/16 LSB of 91.55 µV (Table 18.1, R494).  At a current of 0 µA the manual states none. -/
def Dev.convR (d : Dev) (n v : Nat) : Int :=
  let i : Int := d.get Reg.SND.SIG_I.CURRENT
  if i = 0 then d.freeBelow 65536
  else roundDiv (128 * ((v : Int) * 1600 - d.trim (d.convTarget n) 0 * 9155)) (1600 * i)

/-- The Sounding decision on a window's four conversions, in µV (R222 to R227). -/
def soundingDecision (n : Nat) (rs : List Nat) (full : Bool) (d : Dev) : Dev :=
  match (d.health n).windows with
  | [] => d
  | w :: rest =>
    let d := d.advanceTo (w.tc + 10000)
    if d.channelStale (n / 8) then abandon n w.noz (d.setHealth n { d.health n with windows := rest })
    else
      let z := d.noz n w.noz
      let idle := d.rIdle n (if w.heater = 0 then z.rA else z.rB)
      let xs := rs.map fun (v : Nat) => d.convR n v - idle
      let d := d.drawn
      let cv := d.curves n w.cls
      let de := curveDist xs cv.1
      let dn := curveDist xs cv.2
      let m := d.get Reg.SND.SIG_CFG.MARGIN
      let pass := decide (de + m ≤ dn) && !full
      let miss := decide (dn + m ≤ de) || full
      let q := d.health n
      let d := d.setHealth n { q with
        windows := rest, abandons := 0, ptr := (w.noz + 1) % 16384, decides := min 0xFFFFFFFF (q.decides + 1), misses := min 0xFFFFFFFF (q.misses + b2n (!pass && miss)) }
      let z := { z with sounded := min 0xFFFF (z.sounded + 1) }
      let z := if pass then { z with pass := min 15 (z.pass + 1), miss := 0, inc := 0 }
        else if miss then { z with miss := min 15 (z.miss + 1), pass := 0, inc := 0 }
        else { z with inc := min 15 (z.inc + 1), pass := 0, miss := 0 }
      let d := match d.sigState z with
        | none => setNoz n w.noz z d
        | some (st, ca) =>
          let d := setNoz n w.noz { z with state := st, cause := ca, pass := 0, miss := 0, inc := 0 } d
          let k := if st = 3 then Kind.SND.NOZZLE_FAILED else Kind.SND.NOZZLE_WEAK
          let arg := st * 2 ^ 62 + ca * 2 ^ 60 + w.noz * 2 ^ 32 + min de 65535 * 65536 + min dn 65535
          let d := stateEvents n w.noz w.line z.state st d
          let src := if st = 3 then 249 else 250
          degradeSync n (d.sediment { eventRec d src with kind := k.code, line := w.line, arg, port := n })
      coverage n w.noz d

/-! ### Wear map (R228) -/

/-- Firings of a mark are added to the nozzles' accumulators: slot `s` of sub-cycle `sub`. -/
def wearMark (n sub s : Nat) (d : Dev) : Dev :=
  match (d.port n).firing, d.geom n with
  | some f, some g =>
    let fired := f.codes.filter fun c =>
      match aget c.1 g.noz with
      | some e => nozSlot e == s && !f.refused.contains (nozRow e) && (if g.dotMode = 1 then sub == 0 else decide (sub < c.2))
      | none => false
    let q := d.health n
    let sat := (fired.filter fun c => tget 0 q.wear c.1 == 2 ^ 24 - 1).length
    d.setHealth n { q with
      wear := fired.foldl (fun t c => tset 0 c.1 (satInc 24 (tget 0 t c.1)) t) q.wear
      wearSat := min 0xFFFFFFFF (q.wearSat + sat) }
  | _, _ => d

/-- A FIRE pulse of a mark reaches a nozzle that a window has connected to SNS: R194 disconnects it, and the window is abandoned when
its last conversion has not ended (R223). -/
def windowFired (n sub s : Nat) (d : Dev) : Dev :=
  match (d.port n).firing, d.geom n with
  | some f, some g => abandonWhere n (fun w => decide (w.tc ≤ d.time.up) && decide (d.time.up < w.tc + 10000) &&
      (match aget w.noz g.noz with
       | some e => nozSlot e == s && (if g.dotMode = 1 then sub == 0 && (aget w.noz f.codes).isSome else decide (sub < (aget w.noz f.codes).getD 0))
       | none => false)) d
  | _, _ => d

/-- The firings already counted for rows that the head then refused are taken back (R228): of the port's present cycle, or of an
earlier one `past`. -/
def wearRefuse (n : Nat) (rows : List Nat) (past : Option Firing) (d : Dev) : Dev :=
  match past.orElse fun _ => (d.port n).firing, d.geom n with
  | some f, some g =>
    let q := d.health n
    let undo := f.codes.filterMap fun c =>
      match aget c.1 g.noz with
      | some e =>
        let all := firingsFrom g f c.1 c.2 0
        if rows.contains (nozRow e) ∧ ¬f.refused.contains (nozRow e) then some (c.1, all - firingsFrom g f c.1 c.2 f.at_) else none
      | none => none
    let d := d.setHealth n { q with wear := undo.foldl (fun t u => tset 0 u.1 (tget 0 t u.1 - u.2) t) q.wear }
    if past.isSome then d else d.setPort n { d.port n with firing := some { f with refused := f.refused ++ rows } }
  | _, _ => d

/-- Turnover adds one port's accumulators into the wear map (R228); `bad` names nozzles whose entry reads poisoned. -/
def wearFlush (bad : List Nat) (d : Dev) : Dev :=
  d.onPeriod .wearFlush (max 1 (d.get Reg.SND.WEAR_CFG.PERIOD) * sec / 64) fun d =>
    let n := d.snd.wearAt
    if d.inRun (pg .TRN 0) = false ∨ d.is Reg.TRN.TASK_EN.WEAR = false ∨ d.basinUp = false ∨ d.is Reg.BAS.STAT.THROTTLED = true then d
    else
      let q := d.health n
      let d := q.wear.foldl (fun d e =>
        let a := d.addr Reg.SND.WEAR_BASE.ADDR + (n * 16384 + e.1) * 8
        let d := d.basinLoad 4 0xFF a 8 (if bad.contains e.1 then 2 else 0)
        let lost := d.basinFails a 8
        let old := if lost then 0 else leVal (d.basinRead a 8)
        if lost then
          -- rewritten from the accumulator alone (Table 13.1): the whole sector, since R315 discards a part of one
          (((d.basinWrite (a / 32 * 32) (leBytes 32 0) 4).basinWrite a (leBytes 8 e.2) 4).bump Reg.TRN.WEAR_RESET_CNT.COUNT 1).raise 0 Kind.TRN.WEAR_RESET
            { port := n, arg := e.1 }
        else d.basinWrite a (leBytes 8 (old + e.2)) 4) d
      let d := { d with snd := { d.snd with wearAt := (n + 1) % 64 } }
      d.setHealth n { d.health n with wear := [] }

/-! ### Signature table (R229) -/

/-- SIG_CTRL.LOAD: the copy starts. -/
def sigLoad (d : Dev) : Dev := { d with snd := { d.snd with loading := true } }.request (pg .SND 0)

/-- The checks of Table 9.5. -/
def sigCode (bs : Bytes) (mode : Nat) (poisoned : Bool) : Nat :=
  let map := leAt bs 8 8
  let entryOk (n : Nat) : Bool := (List.range 4).all fun k => (List.range 4).all fun j =>
    decide (leAt bs (64 + 64 * n + 16 * k + 2 * j) 2 ≤ leAt bs (64 + 64 * n + 16 * k + 8 + 2 * j) 2)
  if 1 < mode then 1
  else if leAt bs 0 4 ≠ 0x47495353 ∨ byteAt bs 4 ≠ 1 then 2
  else if poisoned = true ∨ crc32c (bs.take 60 ++ (bs.drop 64).take 4096) ≠ leAt bs 60 4 then 3
  else if ¬((bitList 64 map).all entryOk) ∨ ¬(zeroRange bs 5 3 && zeroRange bs 16 44) then 4
  else 0

/-- The signature table's copy completes (R229). -/
def sigLoadDone (poisoned : Bool) (d : Dev) : Dev :=
  if d.snd.loading = false then staleReply d
  else
    let d := (d.answer (pg .SND 0)).basinLoad 1 0xFF (d.addr Reg.SND.SIG_BASE.ADDR) 4160 (if poisoned then 2 else 0)
    let bs := d.basinRead (d.addr Reg.SND.SIG_BASE.ADDR) 4160
    let d := { d with snd := { d.snd with loading := false } }
    let code := sigCode bs d.mode (d.basinFails (d.addr Reg.SND.SIG_BASE.ADDR) 4160)
    let d := d.set Reg.SND.SIG_STAT.LAST_CODE code
    if code ≠ 0 then d.raise 0 Kind.SND.SIG_TABLE_BAD { arg := code }
    else
      ({ d with snd := { d.snd with sig := some (leAt bs 8 8, (bs.drop 64).take 4096) } }).put Reg.SND.SIG_STAT.LOADED true

/-! ### Host overrides (R138, R152) -/

/-- MSK.NOZ_OVR.GO: sets a nozzle OFF, releases a host OFF, or is refused with OVR_BAD. -/
def nozOvr (code n i : Nat) (d : Dev) : Dev :=
  if code = 1 ∨ code = 2 then d.raise 0 Kind.MSK.OVR_BAD { port := n, arg := i }
  else
    healthSync (mapChange n i (fun d =>
      let q := d.pipe n
      let rest := q.hostOff.filter (· != i)
      d.setPipe n { q with hostOff := if code = 3 then i :: rest else rest }) d)

/-! ### Header controls and views -/

/-- Every step and window ends, with release frames, and a scan with it. -/
def sndStop (d : Dev) : Dev :=
  let d := (List.range 64).foldl (fun d n =>
    let win := (d.health n).windows != []
    let d := abandonWindow n d
    let d := if win = true ∧ (d.health n).conn = false then d.sense n 0 0 0 0 else d
    scanRelease n (d.setHealth n { d.health n with scan := [], half := none })) d
  (List.range 8).foldl (fun d c => (d.setChan c { Chan.init with free := (d.chan c).free }).disarm (.scan c)) d

/-- KILL of SND (R230): the step or window ends at once and a scan ends with STATE 3. -/
def sndKill (d : Dev) : Dev :=
  let d := sndStop { d with snd := { d.snd with loading := false } }
  if d.snd.running then
    (({ d with snd := { d.snd with halting := false, running := false } }).set Reg.SND.SCAN_STAT.STATE 3).ev .SND 0 0
  else d

/-- SOFT_RESET of SND (R230): a scan or load held or under way is over and no signature table is in force, as the registers at their
reset values say; the health store and the maps are kept. -/
def sndReset (d : Dev) : Dev :=
  let d := sndStop { d with snd := { d.snd with halting := false, running := false, loading := false, sig := none } }
  let d := d.resetFields Reg.SND.fields
  (List.range 64).foldl (fun d n => d.setHealth n { d.health n with decides := 0, misses := 0, abandoned := 0, wearSat := 0 }) d

/-- The SND fields computed when read. -/
def sndView (d : Dev) (f : Fld) : Option Nat :=
  let n := d.get Reg.SND.PORT_SEL.PORT
  let q := d.health n
  if f = Reg.SND.COVER.LAST_MS then some q.lastMs
  else if f = Reg.SND.COVER.LEFT then some (match d.geom n with
    | some g => ((g.noz.map (·.1)).filter fun k => ((d.noz n k).state == 1 || (d.noz n k).state == 2) && !q.decided.contains k).length
    | none => 0)
  else if f = Reg.SND.DECIDE_CNT.COUNT then some q.decides
  else if f = Reg.SND.MISS_CNT.COUNT then some q.misses
  else if f = Reg.SND.ABANDON_CNT.COUNT then some q.abandoned
  else if f = Reg.SND.WEAR_SAT.COUNT then some q.wearSat
  else if f = Reg.SND.WB_PEND.COUNT then some (min 65535 d.snd.wb.length)
  else if f = Reg.SND.UNKNOWN.PORTS then some ((List.range 64).foldl (fun a k => if d.unknownPort k then setB a k else a) 0)
  else none

/-- A read clears the selected port's counter. -/
def sndClear (f : Fld) (d : Dev) : Dev :=
  let n := d.get Reg.SND.PORT_SEL.PORT
  let q := d.health n
  if f = Reg.SND.DECIDE_CNT.COUNT then d.setHealth n { q with decides := 0 }
  else if f = Reg.SND.MISS_CNT.COUNT then d.setHealth n { q with misses := 0 }
  else if f = Reg.SND.ABANDON_CNT.COUNT then d.setHealth n { q with abandoned := 0 }
  else if f = Reg.SND.WEAR_SAT.COUNT then d.setHealth n { q with wearSat := 0 }
  else d

end Sys2Proof.Machine
end

