-- ==== Sys2Proof/Machine/Norper.lean ====
section
/-!
DEFINITION. Norper head link (chapter 8): training, the back-channel's reports, resends, CTRL transactions, link loss, and
the end of a geometry load.
-/
namespace Sys2Proof.Machine

/-! ### Link state -/

/-- LINK_STAT.STATE takes a value. -/
def Dev.setLink (d : Dev) (n s : Nat) : Dev := d.set (Reg.HPT.LINK_STAT.STATE n) s

/-- LINKS_TRAINED: every enabled port is UP, and there is one (R60). -/
def linksSync (d : Dev) : Dev :=
  let on := d.consumers
  d.bringup Reg.SYS.BRINGUP.LINKS_TRAINED (on != [] && on.all d.headUp)

/-- A port's link goes DOWN (R204): no further mark, every FIRE pair low, and no temperature sample; `fault` when the
device did not order it, and `again` when the port stays in service, so that in a print mode it trains again (R197). -/
def linkDown (n : Nat) (fault again : Bool) (d : Dev) : Dev :=
  if d.headUp n = false then d
  else
    let h := d.head n
    let d := (d.setLink n 0).ev .HPT n 0
    let d := d.setHead n { h with
      lats := [], sent := [], resent := [], missed := 0, snsSent := false, snsBad := 0, ctrl := none, queue := [], goDown := false,
      want := h.want || (again && d.printing && d.is (Reg.HPT.LINK_CFG.AUTO_TRAIN n)) }
    let d := ((d.disarm (.latReport n)).disarm (.ctrl n)).disarm (.temp n)
    let d := if d.is (Reg.HPT.HREG_STAT.BUSY n) then
        ((d.put (Reg.HPT.HREG_STAT.BUSY n) false).set (Reg.HPT.HREG_STAT.RESULT n) 3).ev .HPT n 10 else d
    let d := scanLost n (abandonWindow n d)
    let q := d.port n
    let d := d.setPort n { q with firing := q.firing.map Firing.over }
    let d := d.setHeat n { d.heat n with valid := 0, warm := [] }
    let d := showState n d
    let d := if fault then d.raise n Kind.HPT.LINK_DOWN { port := n } else d
    healthSync (linksSync d)

/-- The device stops HPn_CLK and takes the link DOWN (R206). -/
def clockStop (n : Nat) (again : Bool) (d : Dev) : Dev :=
  let d := linkDown n false again d
  let d := d.setHead n { d.head n with clock := false, step := 0 }
  let d := ((d.disarm (.trainStep n)).disarm (.trainSettle n)).disarm (.degrade n)
  if d.get (Reg.HPT.LINK_STAT.STATE n) = 0 then d else d.setLink n 0

/-- A link ordered DOWN goes so once the port is at its drain boundary (LINK_CMD.DOWN, R207). -/
def checkDown (n : Nat) (d : Dev) : Dev :=
  if (d.head n).goDown = true ∧ d.portAtBoundary n = true then clockStop n true (d.setHead n { d.head n with goDown := false }) else d

/-! ### Head identity (R201) -/

/-- Words read at T5: HID_0 to HID_2, HROW_0 to HROW_7, HSKEW. -/
def t5Addr (k : Nat) : Nat := if k < 3 then 4 * k else if k < 11 then 0x10 + 4 * (k - 3) else 0x48

/-- The nozzles the head gives a row (Table 8.8, HROW). -/
def hrow (ws : List Nat) (r : Nat) : Nat := nth 0 ws (3 + r / 2) / 2 ^ (16 * (r % 2)) % 65536

/-- Does the head match a geometry table (R201)? -/
def headMatches (ws : List Nat) (g : Geom) : Bool :=
  let id1 := nth 0 ws 1
  bits id1 15 8 == g.rows && bits id1 7 0 == g.slots &&
  ((List.range g.rows).all fun r => hrow ws r == (g.row r).length) &&
  (nth 0 ws 2).testBit g.dotMode

/-- The device compares the head's identity with the port's table (R201). -/
def compareHead (n : Nat) (d : Dev) : Dev :=
  match d.geom n with
  | none => d
  | some g =>
    if headMatches (d.head n).words g then d.put (Reg.HPT.LINK_STAT.MISMATCH n) false
    else (d.put (Reg.HPT.LINK_STAT.MISMATCH n) true).raise n Kind.HPT.HEAD_MISMATCH { port := n }

/-! ### CTRL transactions (R185, R196, R202, R207) -/

/-- A CTRL frame takes the next tag and waits for a frame boundary. -/
def queueCtrl (n addr : Nat) (data : Option Nat) (training : Bool) (d : Dev) : Dev :=
  let h := d.head n
  let c : Ctrl := { tag := h.tag, addr := addr, data := data, training := training, again := false }
  d.setHead n { h with
    tag := (h.tag + 1) % 256, queue := if training then c :: h.queue else h.queue ++ [c] }

/-- The next waiting CTRL frame goes out; its answer is due within 20 µs. -/
def sendCtrl (n : Nat) (d : Dev) : Dev :=
  let h := d.head n
  match h.ctrl, h.queue with
  | none, c :: rest => ((d.setHead n { h with ctrl := some c, queue := rest }).ship n (ctrlFrame c) 0).arm (.ctrl n) (20 * us)
  | _, _ => d

/-- HREG_CMD.GO (R207): refused below 0x8000, ended at once when the link is not UP, or a CTRL frame. -/
def hregGo (n : Nat) (d : Dev) : Dev :=
  let write := d.is (Reg.HPT.HREG_CMD.WRITE n)
  let addr := d.get (Reg.HPT.HREG_CMD.ADDR n)
  let fin (r : Nat) : Dev := (d.set (Reg.HPT.HREG_STAT.RESULT n) r).ev .HPT n 10
  if d.is (Reg.HPT.HREG_STAT.BUSY n) then d
  else if write = true ∧ addr < 0x8000 then fin 2
  else if d.headUp n = false then fin 3
  else
    let d := queueCtrl n addr (if write then some (d.get (Reg.HPT.HREG_DATA.DATA n)) else none) false d
    d.put (Reg.HPT.HREG_STAT.BUSY n) true

/-- A host transaction ends with a result, and source 32 + n is raised. -/
def hregEnd (n result : Nat) (d : Dev) : Dev :=
  let d := (d.setHead n { d.head n with ctrl := none }).disarm (.ctrl n)
  ((d.put (Reg.HPT.HREG_STAT.BUSY n) false).set (Reg.HPT.HREG_STAT.RESULT n) result).ev .HPT n 10

/-! ### Training (R197 to R200) -/

/-- May training run on a port now (R197)? -/
def Dev.mayTrain (d : Dev) (n : Nat) : Bool :=
  if d.printing then !d.headUp n || d.hot n || d.halted
  else if d.mode = 1 then !d.snd.running && (aget n d.motc.spits).isNone && d.portAtBoundary n
  else true

/-- An attempt starts at T1; the head's LINK_RESET is due 1 ms after the clock starts. -/
def trainT1 (n : Nat) (d : Dev) : Dev :=
  let d := d.setHead n { d.head n with step := 1, clock := true, sweep := 0, bck := 0, lanes := [0, 0, 0, 0], words := [], t7 := false }
  ((d.setLink n 1).arm (.trainStep n) ms).emit (.lanes n [] lanesZero)

/-- Head power, ENABLE and AUTO_TRAIN come to allow training of a port whose link is not UP (R197, the first case): a
request stands. -/
def autoTrain (n : Nat) (d : Dev) : Dev :=
  let h := d.head n
  if d.sec.hpwr.testBit (n / 8) && d.enabled (pg .HPT n) && d.is (Reg.HPT.LINK_CFG.AUTO_TRAIN n) && !d.headUp n && h.step == 0 then
    d.setHead n { h with want := true }
  else d

/-- Training of a port starts for a request that stands, when it may run (R197). -/
def trainingStart (n : Nat) (d : Dev) : Dev :=
  let h := d.head n
  if h.step = 0 ∧ h.want = true ∧ d.mayTrain n = true then
    let d := linkDown n false false d
    let d := ((d.set (Reg.HPT.LINK_STAT.TRIES n) 1).set (Reg.HPT.LINK_STAT.FAIL_CODE n) 0).set (Reg.HPT.LINK_STAT.LANE_FAIL n) 0
    let d := d.setHead n { d.head n with want := false, step := 1, clock := false }
    (d.setLink n 1).arm (.trainSettle n) (d.get (Reg.HPT.LINK_CFG.SETTLE n) * 10 * us)
  else d

/-- The settle wait of T1 ends: HPn_CLK starts with the lanes at zero. -/
def settleEnd (n : Nat) (d : Dev) : Dev :=
  if (d.head n).step = 1 then d.onTimer (.trainSettle n) (trainT1 n) else d

/-- A step fails (R200): the clock stops for 2 µs and training repeats, or ends with TRAIN_FAIL. -/
def trainFail (n code : Nat) (d : Dev) : Dev :=
  let d := (d.set (Reg.HPT.LINK_STAT.FAIL_CODE n) code).setHead n { d.head n with clock := false, ctrl := none, queue := [], t7 := false }
  let d := (d.disarm (.trainStep n)).disarm (.ctrl n)
  if d.get (Reg.HPT.LINK_STAT.TRIES n) ≤ d.get (Reg.HPT.LINK_CFG.RETRY n) then
    (d.setHead n { d.head n with step := 8 }).arm (.trainSettle n) (2 * us)
  else
    (((d.setHead n { d.head n with step := 0 }).disarm (.trainSettle n)).setLink n 7).raise n Kind.HPT.TRAIN_FAIL { port := n, arg := code }

/-- After the 2 µs clock stop training repeats from T1 without the settle wait (R200). -/
def trainRetry (n : Nat) (d : Dev) : Dev :=
  if (d.head n).step = 8 then d.onTimer (.trainSettle n) fun d => trainT1 n (d.bump (Reg.HPT.LINK_STAT.TRIES n) 1) else d

/-- A step has not passed within its time (Table 8.9). -/
def trainTimeout (n : Nat) (d : Dev) : Dev :=
  d.onTimer (.trainStep n) fun d =>
    let s := (d.head n).step
    if s = 0 ∨ s = 8 then d else trainFail n s d

/-- The longest run of set bits among `k` positions, as (length, first): ties go to the first; circular when `circ`. -/
def longestRun (bm k : Nat) (circ : Bool) : Nat × Nat :=
  (List.range k).foldl (fun best i =>
    let len := ((List.range k).takeWhile fun j => (circ || decide (i + j < k)) && bm.testBit ((i + j) % k)).length
    if best.1 < len then (len, i) else best) (0, 0)

/-- The middle step of a run, the lower of two (R198). -/
def runCentre (r : Nat × Nat) (k : Nat) : Nat := (r.2 + (r.1 - 1) / 2) % k

/-- T2: after 1 µs the back-channel sampling delay moves on; `ok` says that the step just sampled had no code error. -/
def bckSweepStep (n : Nat) (ok : Bool) (d : Dev) : Dev :=
  let h := d.head n
  if h.step ≠ 2 then d
  else d.onTimer (.trainSettle n) fun d =>
    let h := { h with bck := putB h.bck h.sweep ok, sweep := h.sweep + 1 }
    let d := d.setHead n h
    if h.sweep < 32 then d.arm (.trainSettle n) us
    else
      let r := longestRun h.bck 32 false
      let d := (d.set (Reg.HPT.BCK_EYE.WIDTH_PS n) (r.1 * 125)).set (Reg.HPT.BCK_EYE.CENTRE n) (runCentre r 32)
      if 1000 ≤ r.1 * 125 then
        let d := (((d.setHead n { h with step := 3, sweep := 0, words := [] }).setLink n 3).arm (.trainStep n) (330 * us)).arm (.trainSettle n) 256
        d.emit (.lanes n [] ((List.range 4).map prbsLane))
      else trainFail n 2 d

/-- T3: each lane's launch delay moves to its next step and, 64 ns later, a LATCH ends the window of 8,192 UI and starts a
new one (R198). -/
def laneSweepStep (n : Nat) (d : Dev) : Dev :=
  let h := d.head n
  if h.step ≠ 3 ∨ 33 ≤ h.sweep then d
  else d.onTimer (.trainSettle n) fun d =>
    let d := (d.setHead n { h with sweep := h.sweep + 1, words := [] }).mark n 0
    if h.sweep + 1 < 33 then d.arm (.trainSettle n) (8192 * 4 + 256) else d

/-- The eyes are complete: each lane's width and centre, and the check against EYE_MIN (R198). -/
def lanesDone (n : Nat) (d : Dev) : Dev :=
  let h := d.head n
  let runs := h.lanes.map fun b => longestRun b 32 true
  let ovr := d.is (Reg.HPT.TX_DLY.OVR n)
  let d := (List.range 4).foldl (fun d l =>
    let r := nth (0, 0) runs l
    let c := if ovr then bits (d.get (Reg.HPT.TX_DLY.DLY n)) (5 * l + 4) (5 * l) else runCentre r 32
    (d.set (Reg.HPT.EYE.WIDTH_PS n l) (r.1 * 125 / 4)).set (Reg.HPT.EYE.CENTRE n l) c) d
  let bad := (List.range 4).filter fun l => decide ((nth (0, 0) runs l).1 < d.get (Reg.HPT.LINK_CFG.EYE_MIN n))
  let d := d.set (Reg.HPT.LINK_STAT.LANE_FAIL n) (bad.foldl setB 0)
  if bad = [] then
    let d := (((d.setHead n { d.head n with step := 4, sweep := 0 }).setLink n 4).arm (.trainSettle n) (20 * us)).arm (.trainStep n) (50 * us)
    d.emit (.lanes n [] (everyLane alignBlock))
  else trainFail n 3 d

/-- A PRBS_RESULT message: a lane's mismatches in the window that the last LATCH ended (R198). -/
def prbsResult (n lane mism : Nat) (d : Dev) : Dev :=
  let h := d.head n
  if h.step ≠ 3 ∨ h.sweep < 2 ∨ 4 ≤ lane ∨ h.words.contains lane = true then d
  else
    let k := h.sweep - 2
    let b := nth 0 h.lanes lane
    let h := { h with lanes := setNth (putB b k (mism == 0)) h.lanes lane, words := h.words ++ [lane] }
    let d := d.setHead n h
    if h.sweep = 33 ∧ h.words.length = 4 then lanesDone n d else d

/-- After 20 µs of ALIGN blocks the lanes send zero (R199). -/
def alignEnd (n : Nat) (d : Dev) : Dev :=
  if (d.head n).step = 4 then d.onTimer (.trainSettle n) fun d => (d.setHead n { d.head n with sweep := 1 }).emit (.lanes n [] lanesZero) else d

/-- T5 reads the next word, T6 checks the identity, T7 loads classes and issues one LATCH (Table 8.9). -/
def trainT567 (n : Nat) (d : Dev) : Dev :=
  let h := d.head n
  if h.words.length < 12 then
    sendCtrl n (queueCtrl n (t5Addr h.words.length) none true (d.setHead n { h with step := 5, ctrl := none }))
  else
    let ws := h.words
    let d := (List.range 3).foldl (fun d k => d.set (Reg.HPT.HEAD_ID.ID n k) (nth 0 ws k)) d
    let d := d.set (Reg.HPT.SKEW.LANES n) (nth 0 ws 11 % 2 ^ 20)
    let id1 := nth 0 ws 1
    let nz := bits id1 31 16
    let ok := decide (1 ≤ nz) && decide (nz ≤ 16384) && decide (1 ≤ bits id1 15 8) && decide (bits id1 15 8 ≤ 16) &&
      decide (4 ≤ bits id1 7 0) && decide (bits id1 7 0 ≤ 16) && bits (nth 0 ws 2) 1 0 != 0
    if ok = false then trainFail n 6 d
    else
      let dm := match d.geom n with | some g => g.dotMode | none => 0
      let cfg : Ctrl := { tag := h.tag, addr := 0x40, data := some dm, training := true, again := false }
      let d := d.setHead n { h with step := 7, ctrl := none, tag := (h.tag + 1) % 256, t7 := true, sent := [] }
      let d := (d.disarm (.ctrl n)).ship n (ctrlFrame cfg) 0
      let d := d.ship n (classFrame 0 0 ((List.range nz).map fun i => d.nozClass n i)) 0x300
      (d.mark n 0).arm (.trainStep n) (3 * us)

/-- The link is UP (R186, R200, R201): every class is loaded, and the first samples are due (R165). -/
def linkUpNow (n : Nat) (d : Dev) : Dev :=
  let h := d.head n
  let d := d.setHead n { h with step := 0, t7 := false, lats := [], sent := [], resent := [], missed := 0, badFrames := 0, blanks := [] }
  let d := (d.disarm (.trainStep n)).set (Reg.HPT.LAT_CNT.COUNT n) 0
  let d := (d.setLink n 6).ev .HPT n 0
  let d := d.setHeat n { d.heat n with valid := 0, unsent := [] }
  let d := (d.arm (.temp n) (100 * us)).arm (.degrade n) sec
  healthSync (linksSync (compareHead n (showState n d)))

/-- An ALIGNED message (T4): with bit 0 set the device issues a LATCH and goes on to T5. -/
def aligned (n : Nat) (ok : Bool) (d : Dev) : Dev :=
  if (d.head n).step ≠ 4 ∨ ok = false then d
  else
    let d := (((d.disarm (.trainStep n)).disarm (.trainSettle n)).emit (.lanes n [] lanesZero)).mark n 0
    trainT567 n ((d.setHead n { d.head n with words := [] }).setLink n 5)

/-- A READ_DATA message answers a CTRL read (R196). -/
def readData (n tag value : Nat) (d : Dev) : Dev :=
  let h := d.head n
  match h.ctrl with
  | some c =>
    if c.tag = tag ∧ c.data = none then
      if c.training then
        let d := (d.setHead n { h with ctrl := none, words := h.words ++ [value % 2 ^ 32] }).disarm (.ctrl n)
        if h.step = 5 then trainT567 n d else d
      else hregEnd n 0 (d.set (Reg.HPT.HREG_DATA.DATA n) value)
    else d
  | none => d

/-- A WRITE_ACK message answers a CTRL write (R196). -/
def writeAck (n tag : Nat) (refused : Bool) (d : Dev) : Dev :=
  let h := d.head n
  match h.ctrl with
  | some c =>
    if c.tag = tag ∧ c.data ≠ none then
      if c.training then (d.setHead n { h with ctrl := none }).disarm (.ctrl n)
      else hregEnd n (if refused then 2 else 0) d
    else d
  | none => d

/-- A CTRL frame went unanswered or was reported bad: once more, then a timeout (R202). -/
def ctrlMissed (n : Nat) (d : Dev) : Dev :=
  let h := d.head n
  match h.ctrl with
  | none => d
  | some c =>
    if c.again = false then ((d.setHead n { h with ctrl := some { c with again := true } }).ship n (ctrlFrame c) 0).arm (.ctrl n) (20 * us)
    else if c.training then
      if h.step = 5 then trainFail n 5 d else (d.setHead n { h with ctrl := none }).disarm (.ctrl n)
    else (hregEnd n 1 d).raise n Kind.HPT.CTRL_TIMEOUT { port := n, arg := c.addr }

/-- The answer to a CTRL frame is overdue. -/
def ctrlTimeout (n : Nat) (d : Dev) : Dev := d.onTimer (.ctrl n) (ctrlMissed n)

/-- A LINK_RESET message: it passes T1, or takes an UP link DOWN (R195, R202). -/
def linkReset (n : Nat) (d : Dev) : Dev :=
  let h := d.head n
  if h.step = 1 ∧ h.clock = true then
    (((d.setHead n { h with step := 2, sweep := 0, bck := 0 }).setLink n 2).arm (.trainStep n) (60 * us)).arm (.trainSettle n) us
  else if d.headUp n then linkDown n true true d
  else d

/-- LINK_CMD.TRAIN requests training (R197). -/
def linkTrain (n : Nat) (d : Dev) : Dev := d.setHead n { d.head n with want := true }

/-- LINK_CMD.DOWN takes the link DOWN at the drain boundary (R207). -/
def linkCmdDown (n : Nat) (d : Dev) : Dev := checkDown n (d.setHead n { d.head n with goDown := true })

/-! ### Reports (R187, R192, R202, R203) -/

/-- A message dropped or missing: counted and raised (R191, R202). -/
def bckErr (n : Nat) (d : Dev) : Dev := (d.bump (Reg.HPT.BCK_ERR_CNT.COUNT n) 1).raise n Kind.HPT.BCK_ERR { port := n }

/-- A back-channel message as received, its seven bytes and whether their coding held: one with a code violation, a disparity
error, a bad CRC-8 or a TYPE not of Table 8.7 is dropped (R191, R499). -/
def bckMessage (m : BckMessage) (d : Dev) : Dev :=
  let ty := byteAt m.bytes 0
  if m.coded = true ∧ crc8 (m.bytes.take 6) = byteAt m.bytes 6 ∧ 1 ≤ ty ∧ ty ≤ 9 then d else bckErr m.port d

/-- A refused row-line counts as skipped for its job line (R203). -/
def refuseRow (d : Dev) (l : RowLine) : Dev :=
  match d.findJob l.job with
  | none => d
  | some (p, j) =>
    let t := tget Tally.init j.tally l.line
    if t ≠ Tally.init then d.setJob p { j with tally := tset Tally.init l.line { t with skipped := true } j.tally }
    else if aget l.line j.closed = some false then
      let j := { j with fired := j.fired - 1, skipped := j.skipped + 1, closed := aset l.line true j.closed }
      match j.run with
      | some (first, k) =>
        if l.line = first + k then d.setJob p { j with run := some (first, k + 1) }
        else
          let r := flushRun p j d
          r.2.setJob p { r.1 with run := some (l.line, 1) }
      | none => d.setJob p { j with run := some (l.line, 1) }
    else d

/-- The next LATCH awaiting its report, 3 µs after it. -/
def armReport (n : Nat) (d : Dev) : Dev :=
  match (d.head n).lats with
  | [] => d.disarm (.latReport n)
  | l :: _ => d.arm (.latReport n) (l.time + 3 * us - d.time.up)

/-- A LAT_REPORT message (R192, R202, R203); in T7 it takes the link UP.  Every member row that the head refused counts, one that
shipped a blank row-line too (R221, R228). -/
def latReport (n tag refused : Nat) (d : Dev) : Dev :=
  let h := d.head n
  if h.t7 then linkUpNow n d
  else
    match h.lats with
    | [] => d
    | l :: rest =>
      let d := armReport n (d.setHead n { h with lats := rest, missed := 0 })
      let d := if tag = l.tag then d else bckErr n d
      let rows := l.rows.filter refused.testBit
      if rows = [] then d
      else
        let d := (l.lines.filter fun r => refused.testBit r.row).foldl refuseRow d
        let d := (d.bump (Reg.HPT.REFUSED_CNT.COUNT n) rows.length).raise n Kind.HPT.LINE_REFUSED { port := n, arg := refused % 65536 }
        let d := wearRefuse n rows l.fire d
        let mine := (d.health n).windows.filter fun w => w.asked == l.time &&
          (match (d.geom n).bind fun g => aget w.noz g.noz with | some e => rows.contains (nozRow e) | none => false)
        if mine = [] then d else (abandonWhere n mine.contains d).sense n 0 0 0 0

/-- No LAT_REPORT within 3 µs of a LATCH: its rows count as fired, and three in a row take the link DOWN (R202). -/
def latReportTimeout (n : Nat) (d : Dev) : Dev :=
  d.onTimer (.latReport n) fun d =>
    let h := d.head n
    match h.lats with
    | [] => d
    | _ :: rest =>
      let d := bckErr n (armReport n (d.setHead n { h with lats := rest, missed := h.missed + 1 }))
      if 3 ≤ h.missed + 1 then linkDown n true true d else d

/-- The SENSE frame of a temperature sample that has fallen due goes out at a frame boundary (R163). -/
def sampleBoundary (n : Nat) (d : Dev) : Dev :=
  match d.due (.temp n) with
  | some t => if t ≤ d.time.up then sampleFrame n d else d
  | none => d

/-- The serialiser ships the next frame at a frame boundary (R185, R187): a SENSE frame that is due, a resend, the next voted frame
of the built cycle, or a CTRL frame while no frame of the cycle waits. -/
def frameShipped (n : Nat) (d : Dev) : Dev :=
  let h := d.head n
  if d.headUp n = false then d
  else
    let d := sampleBoundary n d
    match (d.port n).built with
    | none => sendCtrl n d
    | some c =>
      match c.resend with
      | k :: rest =>
        let d := onBuilt n (fun c => { c with resend := rest }) d
        (d.ship n (resendFrame (nth [] c.frames k)) k).bump (Reg.HPT.RESEND_CNT.COUNT n) 1
      | [] =>
        if c.waits then sendCtrl n d
        else
          match c.frames[c.shipped]? with
          | none => sendCtrl n d
          | some f =>
            let need := (((c.frames.take (c.shipped + 1)).map frameSegs)).foldl (· + ·) 0
            if c.failed = true ∨ c.segsVoted < need then d
            else
              let d := if h.blanks ≠ [] then
                  -- R240: blank LINE frames clear the rows of a withheld cycle ahead of the next cycle's frames
                  let d := h.blanks.foldl (fun d r =>
                    let k := match d.geom n with | some g => (g.row r).length | none => 0
                    d.ship n (lineFrame r (byteAt f 2) (List.replicate k 0)) 0x200) d
                  d.setHead n { d.head n with blanks := [] }
                else d
              (onBuilt n (fun c => { c with shipped := c.shipped + 1, bufs := c.bufs.filter fun b => b.2.frame != c.shipped }) d).ship n f c.shipped

/-- A STATUS message of the head (R202). -/
def headStatus (n code : Nat) (d : Dev) : Dev := d.raise n Kind.HPT.HEAD_STATUS { port := n, arg := code % 2 ^ 32 }

/-- A LAT_ERR message (R193, R202). -/
def latErr (n width : Nat) (d : Dev) : Dev := d.raise n Kind.HPT.LAT_ERR { port := n, arg := width % 256 }

/-- No valid back-channel character for 10 µs: an UP link goes DOWN (R202). -/
def bckSilence (n : Nat) (d : Dev) : Dev := linkDown n true true d

/-- A 1 s interval ends (R202). -/
def degradeInterval (n : Nat) (d : Dev) : Dev :=
  d.onPeriod (.degrade n) sec fun d =>
    let h := d.head n
    let d := d.setHead n { h with badFrames := 0 }
    if d.get (Reg.HPT.DEGRADE.THRESH n) < h.badFrames then d.raise n Kind.HPT.LINK_DEGRADED { port := n, arg := h.badFrames } else d

/-! ### Port control (R206) -/

/-- KILL of a head port: its cycle is cut with Sediment records, the link goes DOWN, and PORT_KILLED is raised mid-cycle. -/
def hptKill (n : Nat) (d : Dev) : Dev :=
  let busy := !d.portAtBoundary n
  let r := cutFiring n (32 + n) Kind.HPT.PORT_KILLED.code true d
  let d := if busy then r.1.put (Reg.HDR.ABORTED (pg .HPT n)) true else r.1
  let d := abandonWindow n d
  let d := clockStop n true d
  if busy then d.raise n Kind.HPT.PORT_KILLED { port := n } else d

/-! ### The end of a geometry load (R74, R75, R201, R211) -/

/-- A load completes: each selected port's table is read and checked in ascending port order; a new table makes the
port's nozzles UNKNOWN, and an UP head is compared with it and its DOT_MODE rewritten. -/
def geomLoadDone (poisoned : List Nat) (d : Dev) : Dev :=
  match d.prt.loading with
  | none => staleReply d
  | some ports =>
    let d := d.answer (pg .PRT 0)
    let d := (bitList 64 ports).foldl (fun d n =>
      let d := geomLoadPort poisoned d n
      let crc := leAt (d.basinRead (d.geomAddr n) 64) 60 4 + 1
      let codeOk := geomCode (d.basinRead (d.geomAddr n) 65856) n (d.basinFails (d.geomAddr n) 65856) == 0
      if codeOk then
        let d := if (d.health n).tableCrc = crc then d else forgetPort n (d.setHealth n { d.health n with tableCrc := crc })
        if d.headUp n then
          let dm := match d.geom n with | some g => g.dotMode | none => 0
          queueCtrl n 0x40 (some dm) true (compareHead n d)
        else d
      else d) d
    let d := { d with prt := { d.prt with loading := none } }
    healthSync ((d.put Reg.PRT.GEOM_STAT.BUSY false).ev .PRT 0 5)

end Sys2Proof.Machine
end

