-- ==== Sys2Proof/Machine/Sched.lean ====
section
/-!
DEFINITION. Where and when row-lines fire (R97 to R106): fire positions, phase groups, slot and cycle times, the
position estimate between edges, and the choice of a port's next firing cycle.  Positions count 2^-16 fine counts.
-/
namespace Sys2Proof.Machine

/-! ### Positions (R98) -/

/-- The line position L_j of a job whose copy 0 starts at `s0`. -/
def Job.linePos (j : Job) (pitch s0 : Int) (line : Nat) : Int :=
  s0 + j.dirn * ((line / j.lines : Nat) * (j.lines * pitch + j.gap * 65536)) + j.dirn * ((line % j.lines : Nat) * pitch)

/-- ROW_OFF of a row. -/
def Geom.off (g : Geom) (r : Nat) : Int := nth 0 g.rowOff r

/-- The fire position F_r(j), for a job whose copy 0 starts at `s0`. -/
def Dev.firePos (d : Dev) (g : Geom) (j : Job) (s0 : Int) (r line : Nat) : Int :=
  j.linePos d.pitch s0 line + (g.off r + g.stitchDw) * 65536 +
    (if j.reverse then toSigned 32 (d.get Reg.TRG.BIDIR.OFFSET) * 65536 else 0)

/-! ### Phase groups (R100) -/

/-- (phase, row) of every row, by phase and then row index. -/
def Geom.phases (g : Geom) (pitch : Int) : List (Int × Nat) :=
  sortBy (fun a b => decide (a.1 < b.1) || (a.1 == b.1 && decide (a.2 ≤ b.2)))
    ((List.range g.rows).map fun r => ((g.off r * 65536) % pitch, r))

/-- The gap ahead of place `i` of a sorted list of phases, around the circle. -/
def phaseGap (ps : List (Int × Nat)) (pitch : Int) (i : Nat) : Int :=
  let here := (nth (0, 0) ps i).1
  if i = 0 then here + pitch - (nth (0, 0) ps (ps.length - 1)).1 else here - (nth (0, 0) ps (i - 1)).1

/-- The run of rows that starts just after the largest gap. -/
def phaseRun (ps : List (Int × Nat)) (pitch : Int) : List (Int × Nat) :=
  let gaps := (List.range ps.length).map (phaseGap ps pitch)
  let big := gaps.foldl max 0
  let at0 := gaps.findIdx (fun x => x == big)
  ps.drop at0 ++ (ps.take at0).map fun p => (p.1 + pitch, p.2)

/-- Rows joined to groups: the open group with its leader phase, and the rest of the run. -/
def groupRun (merge : Int) : List (Int × Nat) → Int → List (Nat × Int) → List (List (Nat × Int))
  | [], _, g => [g.reverse]
  | (x, r) :: t, lead, g =>
    if x - lead ≤ merge then groupRun merge t lead ((r, x - lead) :: g) else g.reverse :: groupRun merge t x [(r, 0)]

/-- The phase groups of a port: each the rows with their delays, leader first. -/
def phaseGroups (g : Geom) (pitch merge : Int) : List (List (Nat × Int)) :=
  match phaseRun (g.phases pitch) pitch with
  | [] => []
  | (x, r) :: t => groupRun merge t x [(r, 0)]

/-- The phase groups under the settings in force. -/
def Dev.groupsOf (d : Dev) (n : Nat) : List (List (Nat × Int)) :=
  match d.geom n with
  | some g => if d.pitch = 0 then [] else phaseGroups g d.pitch (d.get Reg.TRG.MERGE.FINE * 256 : Nat)
  | none => []

/-! ### Times (R102) -/

/-- T_link. -/
def tLink : Nat := 41667

/-- The slots of a port's head. -/
def Dev.slotsOf (d : Dev) (n : Nat) : Nat := match d.geom n with | some g => g.slots | none => 1

/-- T_cyc of a port for a set of waveforms. -/
def Dev.tCyc (d : Dev) (n : Nat) (ws : List (Nat × Wave)) : Nat := d.dropsOf n * d.slotsOf n * slotTime ws

/-- T_min of a port for a set of waveforms. -/
def Dev.tMin (d : Dev) (n : Nat) (ws : List (Nat × Wave)) : Nat := max tLink ((d.port n).groups.length * d.tCyc n ws)

/-! ### The position estimate (R104) -/

/-- W, the clamp window, in 2^-16 fine counts; `speed` is |v|. -/
def Dev.clampW (d : Dev) : Int :=
  if d.mode = 5 then d.pitch
  else if d.get Reg.TRG.SRC_SEL.SEL = 4 then
    max (256 * 65536) ((d.trg.v.natAbs * 250 * d.get Reg.EMR.EXTRAP.US / 65536 : Nat) : Int)
  else 256 * 65536

/-- Is the speed valid and in the direction `sg`? -/
def Dev.speedIn (d : Dev) (sg : Int) : Bool :=
  d.trg.vok && d.trg.need == 0 && (if sg < 0 then decide (d.trg.v < 0) else decide (0 ≤ d.trg.v))

/-- Is the speed valid and in the progress direction? -/
def Dev.speedOk (d : Dev) : Bool := d.speedIn d.trg.sigma

/-- P_est at a moment. -/
def Dev.posAt (d : Dev) (t : Nat) : Int :=
  if d.speedOk then
    d.trg.pe + d.trg.sigma * min ((d.trg.v.natAbs * (t - d.trg.te) / (tick * 65536) : Nat) : Int) (d.clampW - 1)
  else d.trg.pe

/-- The lead A at the current speed (R98). -/
def Dev.leadA (d : Dev) : Int :=
  if d.trg.vok then
    min ((d.trg.v.natAbs * (d.get Reg.TRG.LEAD.TICKS * 16 + d.get Reg.TRG.LEAD.PHASE) / (tick * 65536) : Nat) : Int) (2 ^ 31 * 65536)
  else 0

/-! ### The next cycle of a port (R101, R126) -/

/-- Does a plane's queue start further jobs (R54, R91, R452)? -/
def Dev.starts (d : Dev) (p : Nat) : Bool :=
  d.is (Reg.PRT.Q_CTRL.ENABLE p) && d.enabled (pg .PRT 0) && d.inRun (pg .PRT 0) && !d.is Reg.SYS.MODE_STAT.PENDING && d.is Reg.SYS.BRINGUP.PRINT_ARMED

/-- A row-line that a cycle may print: its group, its row and line, and the progress of the cycle's fire position. -/
structure Due where
  unknown : Bool
  at_     : Int
  group   : Nat
  row     : RowLine
deriving DecidableEq, Repr

/-- May a line of a job still print (Table 6.2, R86)? -/
def Job.prints (j : Job) (line : Nat) : Bool :=
  decide (line < j.total) && j.ending.isNone && (match j.bad with | some (b, _) => decide (line < b) | none => true)

/-- The plane of a port is held or the device is halted (R89). -/
def Dev.stalled (d : Dev) (n : Nat) : Bool :=
  d.halted || (match d.geom n with | some g => d.is (Reg.PRT.Q_CTRL.HOLD g.plane) | none => false)

/-- May a taken job of a plane print next?  An active one, and in SHUTTLE the next pass only once no pass is active (R115). -/
def Dev.inTurn (d : Dev) (p : Nat) (j : Job) : Bool :=
  j.active || decide (d.mode ≠ 4) ||
  (!((d.plane p).jobs.any fun k => k.active && k.ending.isNone) &&
    (((d.plane p).jobs.find? fun k => k.ending.isNone).map Job.seq) == some j.seq)

/-- The lines due next on a port, one for each row and job of its plane; a held plane's jobs that are not yet active have none
(R89). -/
def Dev.dues (d : Dev) (n : Nat) : List Due :=
  match d.geom n with
  | none => []
  | some g =>
    ((List.range (d.port n).groups.length).flatMap fun k => (nth [] (d.port n).groups k).flatMap fun rd =>
      (d.plane g.plane).jobs.filterMap fun j =>
        let line := tget 0 j.next (n * 16 + rd.1)
        if j.ports.contains n && j.prints line && d.inTurn g.plane j && (j.active || (d.starts g.plane && !d.stalled n)) then
          some { unknown := j.s0.isNone, at_ := j.dirn * d.firePos g j (j.s0.getD 0) rd.1 line - rd.2, group := k,
                 row := { row := rd.1, job := j.seq, line } }
        else none)

/-- Does one due line come before another?  A sheet job that waits for its edge comes last (R126). -/
def Due.before (a b : Due) : Bool :=
  if a.unknown != b.unknown then b.unknown else if a.at_ ≠ b.at_ then decide (a.at_ < b.at_) else decide (a.group < b.group)

/-- The earliest of a list of due lines. -/
def firstDue : List Due → Option Due
  | [] => none
  | x :: t => match firstDue t with | some y => if y.before x then some y else some x | none => some x

/-- The row-lines of the port's next cycle: those of one group that share the earliest position, one for each row. -/
def Dev.pickCycle (d : Dev) (n : Nat) : Option (Nat × List RowLine) :=
  let ds := d.dues n
  (firstDue ds).map fun x =>
    let same := (ds.filter fun y => y.group == x.group && y.unknown == x.unknown && y.at_ == x.at_).map Due.row
    (x.group, (List.range 16).filterMap fun r => same.find? fun l => l.row == r)

/-- The fire position of a cycle (its leader's, R101), once known. -/
def Dev.cyclePos (d : Dev) (n group : Nat) (lines : List RowLine) : Option Int :=
  match lines, d.geom n with
  | l :: _, some g =>
    (d.findJob l.job).bind fun pj => pj.2.s0.map fun s0 =>
      let delta := (aget l.row (nth [] (d.port n).groups group)).getD 0
      d.firePos g pj.2 s0 l.row l.line - pj.2.dirn * delta
  | _, _ => none

/-- The progress direction of a cycle: in SHUTTLE that of its pass, active or still to come (R97, R115). -/
def Dev.dirOf (d : Dev) (lines : List RowLine) : Int :=
  if d.mode = 4 then (match lines.head?.bind fun l => d.findJob l.job with | some pj => pj.2.dirn | none => d.trg.sigma)
  else d.trg.sigma

/-- The trigger position of a cycle at the present speed (R98). -/
def Dev.trigPos (d : Dev) (n group : Nat) (lines : List RowLine) : Option Int :=
  (d.cyclePos n group lines).map fun p => p - d.dirOf lines * d.leadA

/-- A port's next cycle, built or not: its group and row-lines. -/
def Dev.nextCycle (d : Dev) (n : Nat) : Option (Nat × List RowLine) :=
  match (d.port n).built with | some c => some (c.group, c.lines) | none => d.pickCycle n

/-! ### The job window (R85, R113, R115) -/

/-- May a job become active now: the jobs ahead of it active, a place in the window, no pass the other way? -/
def Dev.mayActivate (d : Dev) (p : Nat) (j : Job) : Bool :=
  j.active ||
  (((d.plane p).jobs.takeWhile fun k => k.seq != j.seq).all (fun k => k.active || k.ending.isSome) &&
   decide (((d.plane p).jobs.filter (·.active)).length < d.window) &&
   d.starts p &&
   (decide (d.mode ≠ 4) || !((List.range 16).any fun q => q != p && (d.plane q).jobs.any fun k => k.active && k.reverse != j.reverse)))

/-- Does a job of a cycle find its plane's window full (R85)? -/
def Dev.windowFull (d : Dev) (lines : List RowLine) : Bool :=
  lines.any fun l => match d.findJob l.job with
    | some (p, j) => !j.active && decide (d.window ≤ ((d.plane p).jobs.filter (·.active)).length)
    | none => false

/-- May every job of a cycle be active? -/
def Dev.windowOpen (d : Dev) (lines : List RowLine) : Bool :=
  lines.all fun l => match d.findJob l.job with | some (p, j) => d.mayActivate p j | none => false

/-! ### Can a port fire? -/

/-- Can a port fire (R24, R54, R120, R122, R126, R165, R204, R452, R460)? -/
def Dev.canFire (d : Dev) (n : Nat) : Bool :=
  let held := match d.geom n with | some g => d.is (Reg.PRT.Q_CTRL.HOLD g.plane) | none => true
  d.enabled (pg .HPT n) && d.headUp n && !d.hot n && decide (2 ≤ (d.heat n).valid) && !d.halted && !held &&
  d.enabled (pg .TRG 0) && d.inRun (pg .TRG 0) && !d.prt.stopped.contains n && (d.pipe n).layout.isSome &&
  !d.pwr.dllWait && !d.eng.lost && !d.trg.lost && d.printing && !d.sec.disarm && d.inRun (pg .HPT n) &&
  !(d.is Reg.SYS.MODE_STAT.PENDING && d.sys.rowExit)

end Sys2Proof.Machine
end

