-- ==== Sys2Proof/Machine/Pipeline.lean ====
section
/-!
DEFINITION. The dot pipeline (chapter 6): the Shallows layout and the prefetch lists, tile fetch and decode, pass masks
and rotation, owners, concealment and boost, the Thermocline arithmetic, and the frames of a cycle.
-/
namespace Sys2Proof.Machine

/-! ### The Shallows layout (R127, R128) -/

/-- The rows of a port by ROW_OFF. -/
def Geom.byOffset (g : Geom) : List Nat := sortBy (fun a b => decide (g.off a ≤ g.off b)) (List.range g.rows)

/-- The span in lines between two row offsets. -/
def lineSpan (pitch lo hi : Int) : Nat := ceilDiv ((hi - lo) * 65536).toNat pitch.toNat

/-- The greedy split of sorted rows into bands of span at most `smax`. -/
def bandsOf (g : Geom) (pitch : Int) (smax : Nat) : List Nat → List Nat → List (List Nat)
  | [], b => if b = [] then [] else [b.reverse]
  | r :: t, b =>
    match b.getLast? with
    | none => bandsOf g pitch smax t [r]
    | some r0 => if lineSpan pitch (g.off r0) (g.off r) ≤ smax then bandsOf g pitch smax t (r :: b)
                 else b.reverse :: bandsOf g pitch smax t [r]

/-- m(K) for a window of `w` columns. -/
def slotsFor (k w : Nat) : Nat := 32768 / (k * w)

/-- The layout of a port's geometry, when one fits. -/
def layoutOf (g : Geom) (pitch : Int) : Option Layout :=
  let cols := g.noz.map fun e => (g.column e.2).toNat
  let cMin := cols.foldl min 0x3FFFF
  let cMax := cols.foldl max 0
  let cLo := cMin / 64 * 64
  let w := ceilDiv (cMax + 1) 64 * 64 - cLo
  let rows := g.byOffset
  let span := match rows, rows.getLast? with | r :: _, some z => lineSpan pitch (g.off r) (g.off z) | _, _ => 0
  (List.range 16).findSome? fun k0 =>
    let k := k0 + 1
    let m := slotsFor k w
    let bands := bandsOf g pitch ((m - 2) * 64) rows []
    if 2 ≤ m ∧ bands.length ≤ k then some { cLo, width := w, bands, slots := m, span } else none

/-- SHL computes the layout of every port at an entry to a print mode; a port that does not fit raises CACHE_FIT. -/
def layoutAll (d : Dev) : Dev :=
  (List.range 64).foldl (fun d n =>
    let l := match d.geom n with | some g => if d.geomOk n ∧ d.pitch ≠ 0 then layoutOf g d.pitch else none | none => none
    let d := d.setPipe n { d.pipe n with layout := l, slots := [], cursor := [], lane := Lane.init }
    let d := d.putBit Reg.SHL.FIT.FIT n l.isSome
    if l.isNone ∧ d.geomOk n = true ∧ d.pitch ≠ 0 then d.raise 0 Kind.MSK.CACHE_FIT { port := n } else d) d

/-- The SHL layout registers of the selected port (Table 6.8). -/
def shlView (d : Dev) (f : Fld) : Option Nat :=
  let l := (d.pipe (d.get Reg.SHL.SLICE_SEL.PORT)).layout
  let by_ (v : Layout → Nat) : Option Nat := some (match l with | some l => v l | none => 0)
  if f = Reg.SHL.LAYOUT.K_M1 then by_ fun l => l.bands.length - 1
  else if f = Reg.SHL.LAYOUT.WIDTH_M1 then by_ fun l => l.width / 64 - 1
  else if f = Reg.SHL.LAYOUT.COL_LO then by_ fun l => l.cLo / 64
  else if f = Reg.SHL.SPAN.SMAX then by_ fun l => (l.slots - 2) * 64
  else if f = Reg.SHL.SPAN.SPAN then by_ fun l => min 0xFFFF l.span
  else if f = Reg.SHL.SLOTS.M_M1 then by_ fun l => l.slots - 1
  else none

/-! ### Directory entries (R78, R79) -/

/-- The directory entry of a tile: KIND 1 for what R79 makes BLANK, an entry error where Basin does not serve. -/
def Dev.tileEntryOf (d : Dev) (p : Nat) (j : Job) (tr tc : Nat) : Nat :=
  let h := j.dir
  if h.planeMap.testBit p = false ∨ tc < h.tcFirst ∨ h.tcFirst + h.tcCount ≤ tc ∨ h.trCount ≤ tr then 2 ^ 62
  else
    let k := ((List.range p).filter fun b => h.planeMap.testBit b).length
    let a := j.tdir + 64 + 8 * ((k * h.trCount + tr) * h.tcCount + (tc - h.tcFirst))
    if d.basinFails a 8 then 2 ^ 63 else leVal (d.basinRead a 8)

/-- Is a tile BLANK? -/
def entryBlank (e : Nat) : Bool := bits e 63 62 == 1
/-- LEN of a tile entry. -/
def entryLen (e : Nat) : Nat := bits e 61 46
/-- The Basin address of a tile entry's block. -/
def entryAddr (e : Nat) : Nat := bits e 30 0 * 16
/-- Is a tile entry in error (R79)? -/
def entryBad (e : Nat) : Bool :=
  decide (2 ≤ bits e 63 62) || (!entryBlank e && (entryLen e == 0 || decide (32784 < entryLen e) || bits e 45 31 != 0))

/-! ### Slots and the prefetch list (R129, R130) -/

/-- The next line of a row that no cycle has assembled yet. -/
def Dev.assembled (d : Dev) (n : Nat) (j : Job) (r : Nat) : Nat :=
  let next := tget 0 j.next (n * 16 + r)
  match (d.port n).built with
  | some c => if c.waits = false ∧ c.lines.any (fun l => l.row == r && l.job == j.seq && l.line == next) = true then next + 1 else next
  | none => next

/-- The lowest line that a band still needs of a job. -/
def Dev.bandNext (d : Dev) (n : Nat) (band : List Nat) (j : Job) : Nat :=
  (band.map fun r => d.assembled n j r).foldl min j.total

/-- Is a slot free for another tile row (R129)? -/
def Dev.slotFree (d : Dev) (n : Nat) (band : List Nat) (s : TileSlot) : Bool :=
  match d.findJob s.job with
  | none => true
  | some (_, j) => j.ending.isSome || decide (s.last < d.bandNext n band j)

/-- The job and line at which a band's next tile row begins. -/
def Dev.bandCursor (d : Dev) (n p b : Nat) (band : List Nat) : Option (Job × Nat) :=
  let jobs := (d.plane p).jobs.filter fun j => j.ending.isNone && j.ports.contains n
  let start (j : Job) : Job × Nat := (j, d.bandNext n band j)
  match aget b (d.pipe n).cursor with
  | none => (jobs.head?).map start
  | some (seq, line) =>
    match jobs.find? fun j => j.seq == seq && decide (line < j.total) with
    | some j => some (j, line)
    | none => (jobs.find? fun j => decide (seq < j.seq)).map start

/-- The entry of the prefetch list for a tile row, its directory entries read now. -/
def Dev.prefetchOf (d : Dev) (p b s : Nat) (l : Layout) (j : Job) (line tr : Nat) : Prefetch :=
  let tcs := (List.range 128).filter fun tc => decide (l.cLo < (tc + 1) * 2048) && decide (tc * 2048 < l.cLo + l.width)
  { band := b, slot := s, job := j.seq, tr, cols := tcs.map fun tc => (tc, d.tileEntryOf p j tr tc), line, late := false }

/-- Do two entries name the same tile row of one job in the same slot? -/
def Prefetch.same (a b : Prefetch) : Bool := a.band == b.band && a.slot == b.slot && a.job == b.job && a.tr == b.tr

/-- Does an entry's job still need its tile row? -/
def Dev.wanted (d : Dev) (e : Prefetch) : Bool := match d.findJob e.job with | some (_, j) => j.ending.isNone | none => false

/-- The entries of a port's lane whose jobs still need them. -/
def Dev.laneList (d : Dev) (n : Nat) : List Prefetch := (d.pipe n).lane.list.filter d.wanted

/-- The entries that no job needs any more leave the list. -/
def lanePurge (n : Nat) (d : Dev) : Dev :=
  let q := d.pipe n
  d.setPipe n { q with lane := { q.lane with list := d.laneList n } }

/-- The distance from a cycle of a group back to the port's previous cycle: the nearest leader phase before it (R100). -/
def Dev.prevGap (d : Dev) (n : Nat) (g : Geom) (k : Nat) : Int :=
  let lead (i : Nat) : Int := match nth [] (d.port n).groups i with | (r, _) :: _ => g.off r * 65536 | [] => 0
  (((List.range (d.port n).groups.length).filter (· != k)).map fun h => (lead k - lead h) % d.pitch).foldl min d.pitch

/-- The progress at which the slice starts the first cycle that reads an entry, but for the lead: the fire position of that
cycle's predecessor, whose LAT starts it (R126, R149; DEDUCED, notes/assumptions/73.md).  None while the job's start is not
known. -/
def Dev.needAt (d : Dev) (n : Nat) (e : Prefetch) : Option Int :=
  match d.geom n, (d.pipe n).layout, d.findJob e.job with
  | some g, some l, some (_, j) =>
    j.s0.bind fun s0 =>
      let at_ (r : Nat) : Int :=
        let k := (d.port n).groups.findIdx fun x => x.any fun rd => rd.1 == r
        j.dirn * d.firePos g j s0 r e.line - (aget r (nth [] (d.port n).groups k)).getD 0 - d.prevGap n g k
      match (nth [] l.bands e.band).map at_ with
      | [] => none
      | a :: t => some (t.foldl min a)
  | _, _, _ => none

/-- A band's next tile row is appended while its slot is free (R129, R130). -/
def refillBand (n b : Nat) : Nat → Dev → Dev
  | 0, d => d
  | fuel + 1, d =>
    match d.geom n, (d.pipe n).layout with
    | some g, some l =>
      let band := nth [] l.bands b
      match d.bandCursor n g.plane b band with
      | none => d
      | some (j, line) =>
        if j.total ≤ line then d
        else
          let y := j.img0 + line % j.lines
          let tr := y / 64
          let last := line + min (64 - y % 64) (j.lines - line % j.lines) - 1
          let key := b * 512 + tr % l.slots
          let q := d.pipe n
          let moved := aset b (j.seq, last + 1) q.cursor
          let held := aget key q.slots
          match held with
          | some s =>
            if s.job = j.seq ∧ s.tr = tr then
              refillBand n b fuel (d.setPipe n { q with cursor := moved, slots := aset key { s with last } q.slots })
            else if d.slotFree n band s = true then
              let e := d.prefetchOf g.plane b (tr % l.slots) l j line tr
              refillBand n b fuel (d.setPipe n { q with
                cursor := moved
                slots := aset key { job := j.seq, tr, last, valid := 0 } q.slots
                lane := { q.lane with list := q.lane.list ++ [e] } })
            else d
          | none =>
            let e := d.prefetchOf g.plane b (tr % l.slots) l j line tr
            refillBand n b fuel (d.setPipe n { q with
              cursor := moved
              slots := aset key { job := j.seq, tr, last, valid := 0 } q.slots
              lane := { q.lane with list := q.lane.list ++ [e] } })
    | _, _ => d

/-- Every band of a port appends what its free slots allow; what no job needs any more leaves the list. -/
def refill (n : Nat) (d : Dev) : Dev :=
  match (d.pipe n).layout with
  | some l => (List.range l.bands.length).foldl (fun d b => refillBand n b (2 * l.slots) d) (lanePurge n d)
  | none => d

/-- Every port appends what its free slots allow. -/
def refillAll (d : Dev) : Dev := (List.range 64).foldl (fun d n => refill n d) d

/-! ### Tile errors (R133, Table 6.2) -/

/-- What a lane records of a tile in error: ERR_STAT and DCM_DECODE. -/
def laneError (n : Nat) (e : Prefetch) (tc entry code : Nat) (d : Dev) : Dev :=
  let p := match d.geom n with | some g => g.plane | none => 0
  let d := if d.is (Reg.DCM.ERR_STAT.VALID n) then d
    else (((((d.put (Reg.DCM.ERR_STAT.VALID n) true).set (Reg.DCM.ERR_STAT.CODE n) code).set (Reg.DCM.ERR_STAT.PLANE n) p).set
      (Reg.DCM.ERR_STAT.TC n) tc).set (Reg.DCM.ERR_ADDR.ADDR n) (entryAddr entry)).set (Reg.DCM.ERR_TR.TR n) e.tr
  d.raise n Kind.DCM.DCM_DECODE { port := n, arg := code }

/-- A tile is in error: the lane records it, and its job, when it is still there, goes on under ERR_POLICY. -/
def tileError (n : Nat) (e : Prefetch) (tc entry code : Nat) (d : Dev) : Dev :=
  let d := laneError n e tc entry code d
  match d.findJob e.job with
  | none => d
  | some (p, j) =>
    let jBad := 64 * e.tr - j.img0
    let status := if code = 0xFE then 4 else 5
    if d.is Reg.PRT.PIPE_CFG.ERR_POLICY then
      if j.badTiles.contains (e.tr, tc) then d
      else cplWrite p 4 j.id jBad status 0
        (d.setJob p { j with err := if j.err = 0 then status else j.err, badTiles := (e.tr, tc) :: j.badTiles })
    else
      match j.bad with
      | none => endJobs p (cplWrite p 4 j.id jBad status 0 (d.setJob p { j with bad := some (jBad, status) }))
      | some (b, s) => d.setJob p { j with bad := some (min b jBad, s) }

/-! ### Fetch and decode (R130 to R132) -/

/-- Is one need before another?  An unknown need comes last. -/
def needLt : Option Int → Option Int → Bool
  | some a, some b => decide (a < b)
  | some _, none => true
  | none, _ => false

/-- Of a list of entries, the one whose first reader comes first, in list order among equals. -/
def firstNeed (need : Prefetch → Option Int) : List Prefetch → Option Prefetch
  | [] => none
  | x :: t => match firstNeed need t with | some y => if needLt (need y) (need x) then some y else some x | none => some x

/-- The entry a lane serves: the one whose tile it is working on, or the one needed first (R130). -/
def Dev.laneEntry (d : Dev) (n : Nat) : Option Prefetch :=
  match (d.pipe n).lane.fetched with
  | some (e, _) => some e
  | none => firstNeed (d.needAt n) (d.laneList n)

/-- Does the slot of an entry still hold its tile row? -/
def Dev.slotHolds (d : Dev) (n : Nat) (e : Prefetch) : Bool :=
  match aget (e.band * 512 + e.slot) (d.pipe n).slots with | some s => s.job == e.job && s.tr == e.tr | none => false

/-- The bytes of a tile written into their slot, while it holds the tile row: the window's columns of all 64 lines. -/
def writeTile (n : Nat) (l : Layout) (e : Prefetch) (tc : Nat) (tile : Bytes) (d : Dev) : Dev :=
  let lo := max l.cLo (tc * 2048)
  let hi := min (l.cLo + l.width) ((tc + 1) * 2048)
  let base := n * 0x80000 + e.band * l.slots * l.width * 16 + e.slot * l.width * 16
  if d.slotHolds n e = false then d
  else (List.range 64).foldl (fun d y =>
    d.shallowsWrite (base + y * (l.width / 4) + (lo - l.cLo) / 4)
      ((tile.drop (512 * y + (lo - tc * 2048) / 4)).take ((hi - lo) / 4))) d

/-- An entry of a lane's list replaced, or removed; the lane is free for its next tile. -/
def setPrefetch (n : Nat) (e : Prefetch) (e' : Option Prefetch) (d : Dev) : Dev :=
  let q := d.pipe n
  d.setPipe n { q with lane := { q.lane with list := q.lane.list.flatMap fun x => if x.same e then e'.toList else [x], fetched := none, again := false } }

/-- A tile column of an entry is done: the last one sets the valid bits of the slot's lines (R131). -/
def tileDone (n : Nat) (e : Prefetch) (d : Dev) : Dev :=
  match e.cols.drop 1 with
  | [] =>
    let holds := d.slotHolds n e
    let d := setPrefetch n e none d
    let key := e.band * 512 + e.slot
    let q := d.pipe n
    match aget key q.slots with
    | some s => if holds then d.setPipe n { q with slots := aset key { s with valid := 2 ^ 64 - 1 } q.slots } else d
    | none => d
  | rest => setPrefetch n e (some { e with cols := rest }) d

/-- The zeros of a BLANK tile, or of one in error. -/
def blankTile : Bytes := List.replicate 32768 0

/-- The master ID of a lane's Basin requests, which the spec does not give (DESIGN CHOICE, notes/assumptions/73.md). -/
def laneMaster (n : Nat) : Nat := 0x80 + n

/-- A lane takes its next tile (R130, R132, R133): a BLANK tile is written at once, a block is read from Basin. -/
def tileFetch (n : Nat) (poisoned : Bool) (d : Dev) : Dev :=
  let q := d.pipe n
  match q.layout, d.laneEntry n with
  | some l, some e =>
    if d.runs (pg .DCM n) = false ∨ q.lane.fetched.isSome then d
    else
      match e.cols with
      | [] => setPrefetch n e none d
      | (tc, entry) :: _ =>
        if entryBad entry then tileDone n e (writeTile n l e tc blankTile (tileError n e tc entry 0xFE d))
        else if entryBlank entry then tileDone n e ((writeTile n l e tc blankTile d).bump (Reg.DCM.BLANKS.COUNT n) 1)
        else
          let d := d.basinLoad 0 (laneMaster n) (entryAddr entry) (entryLen entry) (if poisoned then 2 else 0)
          if d.basinFails (entryAddr entry) (entryLen entry) then
            if q.lane.again then tileDone n e (writeTile n l e tc blankTile (tileError n e tc entry 0xFF d))
            else d.setPipe n { q with lane := { q.lane with again := true } }
          else
            let d := d.request (pg .DCM n)
            d.setPipe n { q with lane := { q.lane with
              fetched := some (e, d.basinRead (entryAddr entry) (entryLen entry)), since := d.time.up } }
  | _, _ => d

/-- A lane has decoded the block it fetched (R131, R133, R355); `bad` is an uncorrectable Shallows error on its data. -/
def tileDecode (n : Nat) (bad : Bool) (d : Dev) : Dev :=
  let q := d.pipe n
  match q.layout, q.lane.fetched with
  | some l, some (e, block) =>
    match e.cols with
    | [] => d
    | (tc, entry) :: _ =>
      let d := d.answer (pg .DCM n)
      if bad then
        if q.lane.again then tileDone n e (writeTile n l e tc blankTile (tileError n e tc entry 0xFF d))
        else d.setPipe n { q with lane := { q.lane with again := true, fetched := none } }
      else
        match decodeBlock true (d.is (Reg.DCM.CFG.CRC_CHECK n)) (entryLen entry) block with
        | .ok tile => tileDone n e ((writeTile n l e tc tile d).bump (Reg.DCM.TILES.COUNT n) 1)
        | .error c => tileDone n e (writeTile n l e tc blankTile (tileError n e tc entry c d))
  | _, _ => d

/-! ### Slack (R149, R150) -/

/-- The slack of a lane in ns: the time to the start of the cycle that first needs its tile row, less what filling it takes;
none while the speed is invalid or cycles are paused, or with nothing to fill. -/
def Dev.slackNs (d : Dev) (n : Nat) : Option Int :=
  (d.laneEntry n).bind fun e =>
    if d.speedOk = false ∨ d.is Reg.TRG.STAT.PAUSED = true ∨ d.trg.v = 0 then none
    else (d.needAt n e).map fun need =>
      let ahead := need - d.leadA - d.trg.sigma * d.posAt d.time.up
      (ahead * 65536 * 4).tdiv (d.trg.v.natAbs : Int) - (e.cols.length * 32768 : Nat) - 300

/-- The slack in µs, saturated, as SLACK.NOW shows it. -/
def Dev.slack (d : Dev) (n : Nat) : Int :=
  match d.slackNs n with | none => 32767 | some s => max (-32767) (min 32767 (s.fdiv 1000))

/-- A lane whose slack has fallen below the arbiter's threshold raises SLACK_LOW, once until it is back there (R149). -/
def slackLow (n : Nat) (d : Dev) : Dev :=
  let low := decide (d.slack n < (d.get Reg.BAS.THROTTLE.SLACK_US : Nat))
  let was := (d.pipe n).low
  let d := if was = low then d else d.setPipe n { d.pipe n with low }
  if low = true ∧ was = false then d.ev .DCM n 2 else d

/-- SLACK_MIN follows the slack. -/
def slackSync (n : Nat) (d : Dev) : Dev :=
  let s := d.slack n
  let low (f : Fld) (d : Dev) : Dev := if s < toSigned 16 (d.get f) then d.set f (ofSigned 16 s) else d
  let d := slackLow n (low Reg.BAS.SLACK_MIN.MIN (low (Reg.DCM.SLACK_MIN.MIN n) d))
  if s < d.mem.tel.slack then { d with mem := { d.mem with tel := { d.mem.tel with slack := s } } } else d

/-- A lane's slack has fallen below zero: FILL_LATE once for the tile row (R150). -/
def fillLate (n : Nat) (d : Dev) : Dev :=
  match d.laneEntry n with
  | none => d
  | some e =>
    if d.slack n < 0 ∧ e.late = false then
      let q := d.pipe n
      let mark (x : Prefetch) : Prefetch := if x.same e then { x with late := true } else x
      let d := d.setPipe n { q with lane := { q.lane with
        list := q.lane.list.map mark, fetched := q.lane.fetched.map fun x => (mark x.1, x.2) } }
      ((slackSync n d).bump (Reg.DCM.LATE_CNT.COUNT n) 1).raise n Kind.DCM.FILL_LATE { port := n }
    else slackSync n d

/-! ### Pass masks (R134 to R137) -/

/-- The Basin address of a mask set. -/
def Dev.maskAddr (d : Dev) (set : Nat) : Nat := d.addr Reg.MSK.BASE.ADDR + set * 0x81000

/-- The mask buffers of jobs that still exist. -/
def Dev.liveMasks (d : Dev) (n : Nat) : List MaskBuf := (d.pipe n).slice.masks.filter fun m => (d.findJob m.job).isSome

/-- A slice starts to load the mask of the first job of its plane that has none, into one of four buffers (R137). -/
def maskLoad (n : Nat) (d : Dev) : Dev :=
  match d.geom n with
  | none => d
  | some g =>
    let live := d.liveMasks n
    let due := (d.plane g.plane).jobs.find? fun j => j.ports.contains n && j.ending.isNone && !live.any fun m => m.job == j.seq
    match due with
    | some j => if live.length < 4 then setMasks n (fun _ => live ++ [{ job := j.seq, mask := none, ready := false }]) d else d
    | none => d

/-- A mask load ends (R137): the mask, or the default mask, with MASK_BAD when a check failed. -/
def maskLoadDone (n : Nat) (poisoned : Bool) (d : Dev) : Dev :=
  match (d.pipe n).slice.masks.find? fun m => !m.ready with
  | none => d
  | some m =>
    match d.findJob m.job with
    | none => setMasks n (List.filter fun x => x != m) d
    | some (_, j) =>
      let put (mask : Option Bytes) (d : Dev) : Dev :=
        (setMasks n (List.map fun x => if x = m then { m with mask, ready := true } else x) d).ev .MSK 0 0
      if d.enabled (pg .MSK 0) = false then put none d
      else
        let a := d.maskAddr j.maskSet
        let d := (d.basinLoad 1 0xFF a 320 (if poisoned then 2 else 0)).basinLoad 1 0xFF (a + 0x1000 + n * 0x2000) 8192 0
        let h := d.basinRead a 320
        let body := d.basinRead (a + 0x1000 + n * 0x2000) 8192
        let sound := !d.basinFails a 320 && !d.basinFails (a + 0x1000 + n * 0x2000) 8192 && leAt h 0 4 == 0x4B534D50 && byteAt h 4 == 1
        if sound = true ∧ bit (leAt h 8 8) n = false then put none d
        else if sound = true ∧ crc32c body = leAt h (64 + 4 * n) 4 then put (some body) d
        else
          (put none (((d.put Reg.MSK.BAD_SET.VALID true).set Reg.MSK.BAD_SET.PORT n).set Reg.MSK.BAD_SET.SET j.maskSet)).raise 0
            Kind.MSK.MASK_BAD { port := n, arg := j.maskSet }

/-- Is the mask of a job loaded on a port? -/
def Dev.maskReady (d : Dev) (n job : Nat) : Bool := (d.pipe n).slice.masks.any fun m => m.job == job && m.ready

/-- The mask entry v of a pixel: mask line `y`, entry `x` (Table 6.4 for the default mask). -/
def maskEntry (mask : Option Bytes) (y x : Nat) : Nat :=
  match mask with
  | none => (x + y) % 16
  | some b => if x % 2 = 0 then byteAt b (128 * y + x / 2) % 16 else byteAt b (128 * y + x / 2) / 16

/-- The rotation pair of a copy: the one it latched at its activation, or the present one (R136). -/
def Dev.rotOf (d : Dev) (j : Job) (line : Nat) : Nat × Nat :=
  (aget (line / j.lines) j.rot).getD (d.get Reg.MSK.ROT_STAT.ROT_R, d.get Reg.MSK.ROT_STAT.ROT_X)

/-- A copy is activated when the trigger of its first row-line comes, and latches the rotation pair for all of it (R136). -/
def latchRot (d : Dev) (l : RowLine) : Dev :=
  match d.findJob l.job with
  | some (p, j) => if (aget (l.line / j.lines) j.rot).isSome ∨ j.active = false then d
                   else d.setJob p { j with rot := (l.line / j.lines, d.rotOf j l.line) :: j.rot }
  | none => d

/-! ### One row-line: owner, substitution, boost (R135, R139 to R141) -/

/-- The newest concealment code of a nozzle in the sampled map. -/
def Line.newest (x : Line) (i : Nat) : Nat := tget 0 x.map i

/-- The concealment code in force for the line (R141): the old one below the line at which a change applies. -/
def Line.conceal (x : Line) (i : Nat) : Nat :=
  match x.changes.find? fun c => c.nozzle == i && c.job == x.job && decide (x.line < c.jEff) with
  | some c => c.old
  | none => x.newest i

/-- The pixel code at a column (R70). -/
def Line.pixel (x : Line) (c : Nat) : Nat := if c < x.cLo then 0 else byteAt x.data ((c - x.cLo) / 4) / 4 ^ ((c - x.cLo) % 4) % 4

/-- The nozzles at a column, (row, index), by ascending row. -/
def Geom.atColumn (g : Geom) (c : Nat) : List (Nat × Nat) :=
  sortBy (fun a b => decide (a.1 ≤ b.1)) ((g.noz.filter fun e => g.column e.2 == (c : Int)).map fun e => (nozRow e.2, e.1))

/-- How a pixel is printed: by which nozzle, with which code; `unc` is 1 when it is uncovered, 2 when the nozzle that
prints it under the old map is down in the new one (R141). -/
structure Dot where
  noz  : Option (Nat × Nat)
  code : Nat
  unc  : Nat
  sub  : Bool
deriving DecidableEq, Repr

/-- May a nozzle of a concealment code substitute (Table 6.5)? -/
def maySubst (conc code : Nat) : Bool := code == 0 || (code == 1 && conc.testBit 2)

/-- The dot at a column of a line (R135, R139, R141). -/
def Line.dotAt (x : Line) (c : Nat) : Dot :=
  let v := maskEntry x.mask (x.line % 64) ((c + x.rot.2) % 256)
  let grp := x.g.atColumn c
  if v = 15 ∨ grp = [] then { noz := none, code := 0, unc := 0, sub := false }
  else
    let rank := (v + x.rot.1) % grp.length
    let own := nth (0, 0) grp rank
    let px := x.pixel c
    if px = 0 then { noz := some own, code := 0, unc := 0, sub := false }
    else if 2 ≤ x.conceal own.2 then
      let cand := if x.conc.testBit 0 then
          ((List.range (grp.length - 1)).map fun t => nth (0, 0) grp ((rank + 1 + t) % grp.length)).find? fun q => maySubst x.conc (x.conceal q.2)
        else none
      match cand with
      | some q => if 2 ≤ x.newest q.2 then { noz := some q, code := 0, unc := 2, sub := false }
                  else { noz := some q, code := px, unc := 0, sub := true }
      | none => { noz := some own, code := 0, unc := 1, sub := false }
    else if 2 ≤ x.newest own.2 then { noz := some own, code := 0, unc := 2, sub := false }
    else { noz := some own, code := px, unc := 0, sub := false }

/-- One step up (R140). -/
def boostCode (dotMode code : Nat) : Nat := if dotMode = 0 then min 3 (code + 1) else if code = 0 then 1 else 3

/-- Can the neighbour at a column take the boost of an uncovered pixel of row `r`? -/
def Line.takesBoost (x : Line) (kind r c : Nat) : Bool :=
  let nb := x.dotAt c
  match nb.noz with
  | some (row, i) => nb.unc == 0 && x.conceal i == 0 && (kind == 1 || row == r)
  | none => false

/-- Does an uncovered pixel at a column boost its neighbours printed by row `r`? -/
def Line.boosts (x : Line) (r c : Nat) : Bool :=
  let nb := x.dotAt c
  nb.unc == 1 || (nb.unc == 2 && match nb.noz with | some (row, _) => row == r | none => false)

/-- What a slice adds up over a cycle: codes, boosted nozzles, and counts. -/
structure Made where
  codes   : List (Nat × Nat)
  boosted : List Nat
  subst   : Nat
  boost   : Nat
  unc     : Nat
deriving DecidableEq, Repr

/-- A neighbouring column below, if there is one. -/
def colBelow (c : Nat) : Nat := if c = 0 then 0x40000 else c - 1

/-- One nozzle of a row-line (R135, R139, R140). -/
def Line.nozzleCode (x : Line) (r : Nat) (m : Made) (e : Nat × Nat) : Made :=
  let c := (x.g.column e.2).toNat
  let o := x.dotAt c
  if o.noz ≠ some (r, e.1) then m
  else if o.unc ≠ 0 then
    let takes := [colBelow c, c + 1].map fun c' => x.conc.testBit 1 && x.takesBoost o.unc r c'
    let full := if o.unc = 1 then takes.all id else takes.any id
    if full then m else { m with unc := m.unc + 1 }
  else
    let m := if o.sub then { m with subst := m.subst + 1 } else m
    if x.conc.testBit 1 = true ∧ o.code < 3 ∧ x.conceal e.1 = 0 ∧ (x.boosts r (colBelow c) || x.boosts r (c + 1)) = true then
      { m with codes := m.codes ++ [(e.1, boostCode x.g.dotMode o.code)], boosted := e.1 :: m.boosted, boost := m.boost + 1 }
    else if o.code = 0 then m else { m with codes := m.codes ++ [(e.1, o.code)] }

/-! ### Thermocline arithmetic (R142 to R145) -/

/-- A nozzle's bucket now, in 1/256 firing. -/
def Slice.bucket (q : Slice) (row i : Nat) : Nat :=
  let b := tget (q.bInit, 0) q.buckets i
  b.1 - (tget 0 q.drains row - b.2)

/-- A nozzle's bucket set. -/
def Slice.setBucket (q : Slice) (row i v : Nat) : Slice :=
  { q with buckets := tset (q.bInit, 0) i (v, tget 0 q.drains row) q.buckets }

/-- A nozzle under the check: row, index, code, firings, and whether one of them is a boost. -/
structure Shot where
  row   : Nat
  noz   : Nat
  code  : Nat
  f     : Nat
  boost : Bool
deriving DecidableEq, Repr

/-- The nozzle check of one nozzle (R142): the shot that remains, the firings cut, and the bucket. -/
def shotCheck (dotMode drops cmax : Nat) (q : Slice) (s : Shot) : Shot × Nat × Slice :=
  let f := if dotMode = 1 then 1 else min s.code drops
  let b := q.bucket s.row s.noz
  if b + f * 256 ≤ cmax * 256 then ({ s with f }, 0, q.setBucket s.row s.noz (b + f * 256))
  else
    let f' := (cmax * 256 - b) / 256
    let f' := if dotMode = 1 then 0 else min f f'
    ({ s with f := f', code := f' }, f - f', q.setBucket s.row s.noz (b + f' * 256))

/-- The nozzle check of a list of nozzles. -/
def shotsCheck (dotMode drops cmax : Nat) : List Shot → Slice → List Shot × Nat × Slice
  | [], q => ([], 0, q)
  | s :: t, q =>
    let a := shotCheck dotMode drops cmax q s
    let r := shotsCheck dotMode drops cmax t a.2.2
    (a.1 :: r.1, a.2.1 + r.2.1, r.2.2)

/-- One walk of a head-cut pass (R144): firings are removed, one from each nozzle visited, while `load` is above `top`.
`only` restricts it to boost firings. -/
def cutWalk (dotMode : Nat) (only : Bool) (w : Nat → Nat) (full top head : Nat) : List Shot → Nat → Nat → Slice → List Shot × Nat × Nat × Slice
  | [], sum, k, q => ([], sum, k, q)
  | s :: t, sum, k, q =>
    if head + sum * 16384 / full ≤ top ∨ s.f = 0 ∨ (only = true ∧ s.boost = false) then
      let r := cutWalk dotMode only w full top head t sum k q
      (s :: r.1, r.2)
    else
      let s' := { s with f := s.f - 1, code := if dotMode = 1 then 0 else s.f - 1, boost := false }
      let q := q.setBucket s.row s.noz (q.bucket s.row s.noz - 256)
      let r := cutWalk dotMode only w full top head t (sum - w s.noz) (k + 1) q
      (s' :: r.1, r.2)

/-- The head cuts: the boost pass, then content passes until the load fits. -/
def headCuts (dotMode : Nat) (w : Nat → Nat) (full top head : Nat) : Nat → List Shot → Nat → Nat → Slice → List Shot × Nat × Nat × Slice
  | 0, ss, sum, k, q => (ss, sum, k, q)
  | n + 1, ss, sum, k, q =>
    let r := cutWalk dotMode (decide (n = 3)) w full top head ss sum k q
    headCuts dotMode w full top head n r.1 r.2.1 r.2.2.1 r.2.2.2

/-- The walk of R144: ascending row and index, starting at the nozzle of smallest index at or above the start. -/
def cutOrder (start : Nat) (ss : List Shot) : List Shot :=
  let above := (ss.filter fun s => decide (start ≤ s.noz)).map (·.noz)
  let first := match above with | [] => (ss.map (·.noz)).foldl min 16384 | a :: t => t.foldl min a
  let k := ss.findIdx fun s => s.noz == first
  ss.drop k ++ ss.take k

/-- Back in row and index order. -/
def shotOrder (ss : List Shot) : List Shot := sortBy (fun a b => decide (a.row < b.row) || (a.row == b.row && decide (a.noz ≤ b.noz))) ss

/-- The class weight of a nozzle, by the classes a cycle sampled. -/
def Dev.weight (d : Dev) (n : Nat) (cls : List (Nat × Nat)) (i : Nat) : Nat := nth 4096 (d.energy n).w (tget 0 cls i - 1)

/-- The load of a full head line, F_n. -/
def Dev.fullHead (d : Dev) (n : Nat) (g : Geom) (cls : List (Nat × Nat)) : Nat :=
  max 1 ((g.noz.map fun e => d.weight n cls e.1 * d.dropsOf n).foldl (· + ·) 0)

/-- The group number of a spit cycle, in which every present row fires (R386); phase groups are numbered below it. -/
def spitGroup : Nat := 16

/-- The member rows of a cycle. -/
def Dev.cycleRows (d : Dev) (n : Nat) (g : Geom) (group : Nat) : List Nat :=
  if group = spitGroup then List.range g.rows else (nth [] (d.port n).groups group).map (·.1)

/-- The whole check of a cycle's shots by a slice, at cycle count `k` (R142, R143, R144): what remains, the nozzle and the head
cuts, and the slice's buckets after it. -/
def Dev.dutyCheck (d : Dev) (n : Nat) (g : Geom) (k : Nat) (c : Cycle) (ss : List Shot) (q : Slice) : List Shot × Nat × Nat × Slice :=
  let drops := d.dropsOf n
  let members := d.cycleRows n g c.group
  let drain := 256 * d.thm.cmax / max 1 d.thm.nw
  let q := { q with drains := members.foldl (fun t r => tset 0 r (tget 0 t r + drain) t) q.drains }
  let a := shotsCheck g.dotMode drops d.thm.cmax (shotOrder ss) q
  let w := d.weight n c.cls
  let full := d.fullHead n g c.cls
  let head := a.2.2.head - c.rho / 2 / max 1 (if c.group = spitGroup then 1 else (d.port n).groups.length)
  let top := c.rho * d.thm.nh / 2
  let sum := (a.1.map fun s => s.f * w s.noz).foldl (· + ·) 0
  let r := headCuts g.dotMode w full top head 4 (cutOrder (4099 * k % 16384) a.1) sum 0 a.2.2
  (shotOrder r.1, a.2.1, r.2.2.1, { r.2.2.2 with head := head + r.2.1 * 16384 / full })

/-! ### Counters shown through MSK.PORT_SEL -/

/-- A pipeline counter of a port: 0 SUBST, 1 BOOST, 2 UNCOVERED, 3 NOZ_CUT, 4 HEAD_CUT, 5 CLAMP, 6 NOTRDY. -/
def pipeCount (n k v : Nat) (d : Dev) : Dev :=
  let q := d.pipe n
  d.setPipe n { q with counts := tset 0 k (satAdd 32 (tget 0 q.counts k) v) q.counts }

/-- The counter register of each kind. -/
def mskCounter (f : Fld) : Option Nat :=
  if f = Reg.MSK.SUBST_CNT.COUNT then some 0 else if f = Reg.MSK.BOOST_CNT.COUNT then some 1
  else if f = Reg.MSK.UNCOVERED_CNT.COUNT then some 2 else if f = Reg.MSK.NOZ_CUT_CNT.COUNT then some 3
  else if f = Reg.MSK.HEAD_CUT_CNT.COUNT then some 4 else if f = Reg.MSK.CLAMP_CNT.COUNT then some 5
  else if f = Reg.MSK.NOTRDY_CNT.COUNT then some 6 else none

/-- The MSK fields computed when read: the counters and the map counts of the selected port (Table 6.7). -/
def mskView (d : Dev) (f : Fld) : Option Nat :=
  let n := d.get Reg.MSK.PORT_SEL.PORT
  match mskCounter f with
  | some k => some (tget 0 (d.pipe n).counts k)
  | none =>
    let count (p : Nat → Bool) : Option Nat :=
      some (match d.geom n with | some g => (g.noz.filter fun e => p (d.conceal n e.1)).length | none => 0)
    if f = Reg.MSK.MAP_CNT.WEAK then count fun s => s == 1
    else if f = Reg.MSK.MAP_CNT.DOWN then count fun s => decide (2 ≤ s) && s != 4
    else none

/-- Reading a counter of the selected port clears it (RC). -/
def mskClear (f : Fld) (d : Dev) : Dev :=
  match mskCounter f with
  | some k =>
    let n := d.get Reg.MSK.PORT_SEL.PORT
    d.setPipe n { d.pipe n with counts := tset 0 k 0 (d.pipe n).counts }
  | none => d

/-! ### Building a cycle (R125, R126, R146) -/

/-- The slot bytes of a directory line on a row's band, when the line is valid (R129, R131). -/
def Dev.slotLine (d : Dev) (n row : Nat) (j : Job) (line : Nat) : Option Bytes :=
  match (d.pipe n).layout with
  | none => none
  | some l =>
    let b := l.bands.findIdx fun r => r.contains row
    let y := j.img0 + line % j.lines
    let s := y / 64 % l.slots
    match aget (b * 512 + s) (d.pipe n).slots with
    | some t =>
      if t.job = j.seq ∧ t.tr = y / 64 ∧ t.valid.testBit (y % 64) = true then
        some (memRead 0 d.shallows (n * 0x80000 + b * l.slots * l.width * 16 + s * l.width * 16 + y % 64 * (l.width / 4)) (l.width / 4))
      else none
    | none => none

/-- The line of one row-line of a cycle, once its data is there, and its mask in a slice's mask buffers. -/
def Dev.lineOf (d : Dev) (n : Nat) (g : Geom) (k : Cycle) (masks : List MaskBuf) (l : RowLine) : Option Line :=
  match d.findJob l.job, masks.find? fun m => m.job == l.job && m.ready with
  | some (_, j), some m =>
    (d.slotLine n l.row j l.line).map fun data =>
      { n, g, job := l.job, line := l.line, mask := m.mask, rot := (aget l.row k.rots).getD (0, 0),
        conc := k.conc, map := k.map, changes := k.changes,
        cLo := (match (d.pipe n).layout with | some y => y.cLo | none => 0), data }
  | _, _ => none

/-- The row-lines of a cycle with their lines, as far as these are there. -/
def Dev.cycleLines (d : Dev) (n : Nat) (g : Geom) (c : Cycle) (masks : List MaskBuf) : List (RowLine × Line) :=
  c.lines.filterMap fun l => (d.lineOf n g c masks l).map fun x => (l, x)

/-- The codes of every row-line of a cycle before the check. -/
def madeOf (xs : List (RowLine × Line)) : Made :=
  xs.foldl (fun m x => (x.2.g.row x.1.row).foldl (x.2.nozzleCode x.1.row) m) { codes := [], boosted := [], subst := 0, boost := 0, unc := 0 }

/-- The shots of a set of codes. -/
def shotsOf (g : Geom) (m : Made) : List Shot :=
  m.codes.filterMap fun c => (aget c.1 g.noz).map fun e => { row := nozRow e, noz := c.1, code := c.2, f := 0, boost := m.boosted.contains c.1 }

/-- The CLASS frames that load the classes the head does not hold yet: one for each run of 16-nozzle ranges (R185). -/
def classRuns : List Nat → List (Nat × Nat)
  | [] => []
  | a :: t => match classRuns t with
    | (b, k) :: rest => if b = a + 1 then (a, k + 1) :: rest else (a, 1) :: (b, k) :: rest
    | [] => [(a, 1)]

/-- The CLASS frames of a cycle, with the classes it sampled. -/
def Dev.classFrames (d : Dev) (n tag : Nat) (cls : List (Nat × Nat)) : List Bytes :=
  let ranges := (List.range 1024).filter fun k => (d.heat n).unsent.any fun i => i / 16 == k
  (classRuns ranges).map fun r => classFrame tag r.1 ((List.range (16 * r.2)).map fun i => tget 0 cls (16 * r.1 + i) - 1)

/-- The frames of a cycle in shipping order (R146, R185): a blank row-line ships codes of zero. -/
def Dev.cycleFrames (d : Dev) (n : Nat) (g : Geom) (c : Cycle) (codes : List (Nat × Nat)) : List Bytes :=
  let tag := (d.get (Reg.HPT.LAT_CNT.COUNT n) + 1) % 256
  let members := d.cycleRows n g c.group
  d.classFrames n tag c.cls ++ ((List.range 16).filter members.contains).map fun r =>
    lineFrame r tag ((g.row r).map fun e => (aget e.1 codes).getD 0)

/-- What a slice makes of a cycle (R126, Table 6.1): its stores after it, final codes, frames, candidate, the counts of Table 10.2,
and the cycle summary. -/
structure Build where
  slice  : Slice
  codes  : List (Nat × Nat)
  frames : List Bytes
  cand   : Option (Nat × Nat)
  subst  : Nat
  boost  : Nat
  unc    : Nat
  nozCut : Nat
  headCut : Nat
  clamp  : Nat
  sum    : Bytes
deriving DecidableEq, Repr

/-- The 32-byte cycle summary (Table 10.2) of a port and group at cycle count `k`, over a slice's stores, with the candidate, the six
counts and the map version. -/
def summaryBytes (n group k : Nat) (g : Option Geom) (q : Slice) (cand : Nat) (counts : List Nat) (ver : Nat) : Bytes :=
  let noz := match g with | some g => (g.noz.map fun e => q.bucket (nozRow e.2) e.1).foldl (· + ·) 0 | none => 0
  leBytes 4 k ++ leBytes 4 q.head ++ leBytes 4 noz ++ leBytes 2 cand ++ counts.flatMap (leBytes 2) ++
    leBytes 1 n ++ leBytes 1 group ++ leBytes 4 ver

/-- A slice makes a cycle of a port from the codes of its row-lines, at cycle count `k` (R125, R142 to R146, R235): it works on its
own stores `q` and on what the cycle sampled. -/
def Dev.make (d : Dev) (n : Nat) (g : Geom) (k : Nat) (c : Cycle) (m : Made) (q : Slice) : Build :=
  let q := { q with conceal := c.map, ptr := (d.health n).ptr }
  let r := d.dutyCheck n g k c (shotsOf g m) q
  let drops := d.dropsOf n
  let final (ss : List Shot) : List (Nat × Nat) := sortBy (fun a b => decide (a.1 ≤ b.1))
    ((ss.filter fun s => s.code != 0).map fun s => (s.noz, if g.dotMode = 0 then min drops s.code else s.code))
  let cand := d.candidate n g (final r.1)
  let blanks := (d.cycleRows n g c.group).filter fun row => !c.lines.any fun l => l.row == row
  -- R221: a gap candidate joins the content ahead of the check
  let gap := if cand.isNone then d.gapCandidate n g blanks else none
  let r : List Shot × Nat × Nat × Slice := match gap with
    | some i => d.dutyCheck n g k c (shotsOf g { m with codes := m.codes ++ [(i, 1)] }) q
    | none => r
  let clamp := if g.dotMode = 0 then (r.1.filter fun s => decide (drops < s.code)).length else 0
  let codes := final r.1
  let pick := match gap with | some i => if (aget i codes).isSome then some i else none | none => cand
  let cand := pick.map fun i =>
    let row := match aget i g.noz with | some e => nozRow e | none => 16
    (i, if c.group = spitGroup then 0 else match c.lines.find? fun l => l.row == row with | some l => l.line | none => 0xFFFFFFFF)
  { slice := r.2.2.2, codes, frames := d.cycleFrames n g c codes, cand, subst := m.subst, boost := m.boost, unc := m.unc,
    nozCut := r.2.1, headCut := r.2.2.1, clamp,
    sum := summaryBytes n c.group k (some g) r.2.2.2 (match pick with | some i => i | none => 0xFFFF)
      [m.subst, m.boost, m.unc, r.2.1, r.2.2.1, clamp] c.ver }

/-- The codes of a spit cycle before the check (R386). -/
def spitMade (codes : List (Nat × Nat)) : Made := { codes, boosted := [], subst := 0, boost := 0, unc := 0 }

/-- Both slices make the cycle of a port whose inputs are complete (R235): the active engine's, whose frames are the cycle's, and, of
a standby that follows the port, its own from its own mask buffers; the inputs go into the replay ring. -/
def cycleMade (n : Nat) (g : Geom) (c : Cycle) (xs : List (RowLine × Line)) (spit : List (Nat × Nat)) (d : Dev) : Dev :=
  let k := (d.port n).cycles
  let b := d.make n g k c (if xs = [] then spitMade spit else madeOf xs) (d.pipe n).slice
  let q := (d.engine d.standby).slice n
  let ys := d.cycleLines n g c q.masks
  let o := if d.follows n then some (d.make n g k c (if xs = [] then spitMade spit else madeOf ys) q) else none
  let c' := { c with
    codes := b.codes, frames := b.frames, segs := (b.frames.map frameSegs).foldl (· + ·) 0, cand := b.cand, waits := false, sum := b.sum,
    other := match o with | some o => o.frames | none => [], otherSum := match o with | some o => o.sum | none => [] }
  let d := match o with | some o => d.setEngine d.standby ((d.engine d.standby).setSlice n o.slice) | none => d
  let d := d.setPipe n { d.pipe n with slice := b.slice }
  let ring := ({ count := k, cycle := c, lines := xs, spit, sum := b.sum } :: (d.port n).ring).take 4
  let d := d.setPort n { d.port n with built := some c', ring }
  let d := [b.subst, b.boost, b.unc, b.nozCut, b.headCut, b.clamp].zipIdx.foldl (fun d x => pipeCount n x.2 x.1 d) d
  let d := if b.unc = 0 then d else d.raise 0 Kind.MSK.UNCOVERED { port := n, arg := b.unc }
  let d := if b.clamp = 0 then d else d.ev .MSK 0 5
  if b.nozCut + b.headCut ≠ 0 ∧ ((d.port n).dutyAt = 0 ∨ (d.port n).dutyAt + 1024 ≤ k + 1) then
    (d.setPort n { d.port n with dutyAt := k + 1 }).raise 0 Kind.MSK.DUTY_CUT { port := n, arg := b.nozCut + b.headCut }
  else d

/-- The slice finishes the cycle it has started, when every tile line is valid and every mask loaded (R131, R148). -/
def buildFinish (n : Nat) (d : Dev) : Dev :=
  match (d.port n).built, d.geom n with
  | some c, some g =>
    let xs := d.cycleLines n g c (d.pipe n).slice.masks
    if c.waits = false ∨ xs.length < c.lines.length then d else refill n (cycleMade n g c xs [] d)
  | _, _ => d

/-! ### Resynchronising a port (R247, R248) -/

/-- The standby replays the cycles of the ring that a port has started since its copy, on its own slice (R247): the slice, and the
active engine's and its own summary of the last of them. -/
def Dev.replayed (d : Dev) (n : Nat) (g : Geom) : List Replay → Slice → Bytes → Bytes → Slice × Bytes × Bytes
  | [], q, a, b => (q, a, b)
  | r :: t, q, _, _ =>
    let m := d.make n g r.count r.cycle (if r.lines = [] then spitMade r.spit else madeOf r.lines) q
    Dev.replayed d n g t m.slice r.sum m.sum

/-- What the comparison of R248 takes of a port copied when it had started `at_` cycles: the standby's slice after it has replayed the
cycles since, and the summaries of the last of them, of the active engine and of the standby; where no cycle has run, the summaries
computed from the two states directly. -/
def Dev.resyncSums (d : Dev) (n at_ : Nat) : Slice × Bytes × Bytes :=
  let direct (q : Slice) : Bytes := summaryBytes n 0 at_ (d.geom n) q 0xFFFF [0, 0, 0, 0, 0, 0] (d.pipe n).mapVer
  let q := (d.engine d.standby).slice n
  match d.geom n with
  | some g => d.replayed n g ((d.port n).ring.filter fun r => decide (at_ < r.count)).reverse q (direct (d.pipe n).slice) (direct q)
  | none => (q, direct (d.pipe n).slice, direct q)

/-- The standby compares its digest of a copied port's next cycle with the active engine's (R248), after replaying the cycles since
the copy; where no cycle has run, a digest computed from the copied state directly.  A port that has started more than four cycles
since its copy is copied again (R247).  `eA` and `eB` are the errors, if any, in the engines' summaries. -/
def resyncCompare (n : Nat) (eA eB : Bytes) (d : Dev) : Dev :=
  let e := d.standby
  let x := d.engine e
  match aget n x.copied with
  | none => d
  | some at_ =>
    let ring := (d.port n).ring.filter fun r => decide (at_ < r.count)
    if d.estate e ≠ 2 then d
    else if at_ + 4 < (d.port n).cycles then d.setEngine e { x with copied := adel n x.copied }
    else if ring.length < (d.port n).cycles - at_ then d
    else
      let r := d.resyncSums n at_
      let digA := crc32c (struck r.2.1 (if e = 1 then eA else eB))
      let digB := crc32c (struck r.2.2 (if e = 1 then eB else eA))
      if digA = digB then
        let x := x.setSlice n r.1
        let x := { x with shadowed := if x.shadowed.contains n then x.shadowed else x.shadowed ++ [n], copied := adel n x.copied }
        let d := (d.setEngine e x).set (Reg.ENGX.STAT.PORTS_OK e) x.shadowed.length
        if 64 ≤ x.shadowed.length then resyncDone e d else d
      else
        let k := tget 0 x.disagree n + 1
        let d := d.setEngine e { x with copied := adel n x.copied, disagree := tset 0 n k x.disagree }
        if 3 ≤ k then endRepair e false ((engineFails e d).raise 0 Kind.ENG.RESYNC_FAIL { port := n }) else d

/-! ### Starting a cycle -/

/-- A row has started a line of its job on a port (R141). -/
def lineStarted (n : Nat) (d : Dev) (l : RowLine) : Dev :=
  match d.findJob l.job with
  | some (p, j) => d.setJob p { j with started := tset 0 n (max (tget 0 j.started n) (l.line + 1)) j.started }
  | none => d

/-- A slice starts its port's next cycle (R125, R126): its inputs are sampled, its waveforms take a slew step (R167). -/
def cycleBuild (n : Nat) (d : Dev) : Dev :=
  if (d.port n).built.isSome ∨ d.printing = false ∨ d.canFire n = false then d
  else
    match d.pickCycle n with
    | none => d
    | some (group, lines) =>
      if d.windowOpen lines = false then d
      else
        let d := (d.classesInUse n).foldl (fun d k => slewStep n d k) d
        let rots := lines.filterMap fun l => (d.findJob l.job).map fun pj => (l.row, d.rotOf pj.2 l.line)
        let map := d.mapOf n
        let changes := (d.pipe n).changes
        let d := lines.foldl (lineStarted n) d
        let conc := d.get Reg.MSK.CONCEAL.SUBST_EN + 2 * d.get Reg.MSK.CONCEAL.BOOST_EN + 4 * d.get Reg.MSK.CONCEAL.WEAK_SUBST
        let c : Cycle := { group, lines, codes := [], frames := [], shipped := 0, segs := 0, segsVoted := 0,
                           digestVoted := false, failed := false, cand := none, waves := d.wavesNow n, waits := true,
                           resend := [], rho := d.rho n, conc, cls := (d.heat n).cls, rots, map, changes,
                           ver := (d.pipe n).mapVer, other := [], sum := [], otherSum := [], bufs := [], flags := [0, 0] }
        let d := d.setPort n { d.port n with built := some c, cycles := (d.port n).cycles + 1 }
        buildFinish n d

/-- A lane's tile is fetched, and a cycle that waited for it may finish. -/
def tileFetchStep (n : Nat) (poisoned : Bool) (d : Dev) : Dev := slackSync n (buildFinish n (tileFetch n poisoned d))

/-- A lane's tile is decoded, and a cycle that waited for it may finish. -/
def tileDecodeStep (n : Nat) (bad : Bool) (d : Dev) : Dev := slackSync n (buildFinish n (tileDecode n bad d))

/-- A mask load ends, and a cycle that waited for it may finish. -/
def maskLoadStep (n : Nat) (poisoned : Bool) (d : Dev) : Dev := buildFinish n (maskLoadDone n poisoned d)

/-! ### Header controls (R152, R154) -/

/-- KILL of DCM_n: the valid bits of the tile row being filled are cleared, and it is filled again later. -/
def dcmKill (n : Nat) (d : Dev) : Dev :=
  let q := d.pipe n
  match d.laneEntry n, q.layout with
  | some e, some l =>
    let whole := match d.findJob e.job, d.geom n with
      | some (_, j), some g => { d.prefetchOf g.plane e.band e.slot l j e.line e.tr with late := e.late }
      | _, _ => e
    let q := { q with slots := q.slots.map fun (s : Nat × TileSlot) => if s.1 = e.band * 512 + e.slot then (s.1, { s.2 with valid := 0 }) else s }
    d.setPipe n { q with lane := { q.lane with list := q.lane.list.map (fun (x : Prefetch) => if x.same e then whole else x), fetched := none, again := false } }
  | _, _ => d

/-- SOFT_RESET of MSK: the counters and every host OFF are cleared (R152). -/
def mskReset (d : Dev) : Dev :=
  healthSync <| (List.range 64).foldl (fun d n =>
    let offs := (d.pipe n).hostOff
    let d := d.setPipe n { d.pipe n with counts := [] }
    offs.foldl (fun d i => mapChange n i (fun d => d.setPipe n { d.pipe n with hostOff := (d.pipe n).hostOff.filter (· != i) }) d) d) d

/-- Has a band of a port a next tile row that waits for its slot (R130)? -/
def Dev.slotWait (d : Dev) (n : Nat) : Bool :=
  match d.geom n, (d.pipe n).layout with
  | some g, some l => (List.range l.bands.length).any fun b =>
      match d.bandCursor n g.plane b (nth [] l.bands b) with | some (j, line) => decide (line < j.total) | none => false
  | _, _ => false

/-- STAT.LANE (Table 6.9): a lane reads 1 for the typical 0.30 µs from the start of a fetch to its first byte (Timing 6.1), and
2 from then on (DESIGN CHOICE, notes/assumptions/73.md). -/
def Dev.laneState (d : Dev) (n : Nat) : Nat :=
  let q := (d.pipe n).lane
  if d.runs (pg .DCM n) = false then 0
  else if q.again then 4
  else if q.fetched.isSome then (if d.time.up < q.since + 1200 then 1 else 2)
  else if d.laneList n = [] ∧ d.slotWait n = true then 3
  else 0

/-- The DCM fields computed when read. -/
def dcmView (d : Dev) (n : Nat) (f : Fld) : Option Nat :=
  if f = Reg.DCM.STAT.PF_DEPTH n then some (min 255 (d.laneList n).length)
  else if f = Reg.DCM.STAT.LANE n then some (d.laneState n)
  else if f = Reg.DCM.SLACK.NOW n then some (ofSigned 16 (d.slack n))
  else none

/-! ### Print-mode entry (R145) -/

/-- Every bucket starts at the start duty (R145). -/
def bucketsInit (d : Dev) : Dev :=
  (List.range 64).foldl (fun d n => eachSlice n (fun q => { q with
    buckets := [], drains := [], bInit := d.thm.start * d.thm.cmax
    head := d.thm.start * (d.rho n * d.thm.nh / 2) / 256, masks := [] }) d) d

end Sys2Proof.Machine
end

