-- ==== Sys2Proof/Machine/Eout.lean ====
section
/-!
DEFINITION. Encoder emulation (R276 to R278): each output follows the positions of TRG's source and sends quadrature
steps.  Positions count 2^-16 fine counts.
-/
namespace Sys2Proof.Machine

/-! ### Names of the output pins the device drives -/

/-- EOUT A, B and Z drivers, by output. -/
def Pin.eoutA : Nat := 0
/-- See `Pin.eoutA`. -/
def Pin.eoutB : Nat := 1
/-- See `Pin.eoutA`. -/
def Pin.eoutZ : Nat := 2

/-- An output's state. -/
def Dev.eout (d : Dev) (m : Nat) : Eout := tget Eout.init d.eouts m

/-- An output's state replaced. -/
def Dev.setEout (d : Dev) (m : Nat) (e : Eout) : Dev := { d with eouts := tset Eout.init m e d.eouts }

/-- The emulated position Q (R276). -/
def Dev.eoutQ (d : Dev) (m : Nat) (h p : Int) : Int :=
  let mode := d.get (Reg.EOUT.CFG.REV_MODE m)
  if mode = 1 then h else if mode = 2 then p
  else min h (p + (d.get Reg.TRG.REV_BAND.COUNTS * 256 * 65536 : Nat))

/-- The steps waiting to go out. -/
def Eout.backlog (e : Eout) : Nat := (e.runs.map Int.natAbs).foldl (· + ·) 0

/-- A position reaches an output: H rises, and the change of N joins the backlog (R276, R277). -/
def eoutPos (m : Nat) (p : Int) (d : Dev) : Dev :=
  let e := { d.eout m with p := p, h := max (d.eout m).h p }
  let div : Nat := d.get (Reg.EOUT.DIV.DIV m)
  if d.is (Reg.EOUT.CFG.OUT_EN m) = false ∨ d.enabled (pg .EOUT m) = false ∨ div = 0 then d.setEout m e
  else
    let n := (d.eoutQ m e.h p - e.q0).fdiv div
    let diff := n - e.n
    let was := e.backlog
    let room := 65535 - was
    let take := min diff.natAbs room
    let run : Int := if diff < 0 then -(take : Int) else take
    let e := { e with n := n, runs := if take = 0 then e.runs else e.runs ++ [run] }
    let d := d.setEout m e
    let th := d.get (Reg.EOUT.BACKLOG_TH.STEPS m)
    let d := if was ≤ th ∧ th < e.backlog then d.ev .EOUT m 0 else d
    if take < diff.natAbs then (d.put (Reg.EOUT.STAT.LOST m) true).raise m Kind.EOUT.EOUT_OVERRUN { arg := diff.natAbs - take } else d

/-- A position reaches both outputs. -/
def eoutEdge (p : Int) (d : Dev) : Dev := eoutPos 1 p (eoutPos 0 p d)

/-- Setting OUT_EN turns the drivers on and sets H and Q0 (R276); STEPS counts from here. -/
def outEnSet (m : Nat) (d : Dev) : Dev :=
  if d.is (Reg.EOUT.CFG.OUT_EN m) then d
  else
    let e := d.eout m
    let h := e.p
    let d := (d.put (Reg.EOUT.CFG.OUT_EN m) true).set (Reg.EOUT.STEPS.COUNT m) 0
    d.setEout m { e with h := h, q0 := d.eoutQ m h e.p, n := 0, runs := [] }

/-- Clearing OUT_EN turns the drivers off. -/
def outEnClear (m : Nat) (d : Dev) : Dev := d.put (Reg.EOUT.CFG.OUT_EN m) false

/-- The oldest step of a list of runs, and the rest. -/
def popStep : List Int → Option (Int × List Int)
  | [] => none
  | r :: t => if r = 0 then popStep t else if 0 < r then some (1, if r = 1 then t else (r - 1) :: t) else some (-1, if r = -1 then t else (r + 1) :: t)

/-- An output sends its next quadrature step once MIN_STEP has passed (R277). -/
def eoutStep (m : Nat) (d : Dev) : Dev :=
  let e := d.eout m
  if d.enabled (pg .EOUT m) = false ∨ d.is (Reg.EOUT.CFG.OUT_EN m) = false then d
  else
    match popStep e.runs with
    | none => d
    | some (s, rest) =>
      let d := d.advanceTo e.free
      let lead := if d.is (Reg.EOUT.CFG.INVERT m) then -s else s
      let phase := (((e.phase : Int) + lead) % 4).toNat
      let d := d.setEout m { e with runs := rest, phase := phase, free := d.time.up + max 25 (d.get (Reg.EOUT.MIN_STEP.TICKS m)) * tick }
      -- phases 0 to 3 are AB = 00, 10, 11, 01: A leads B for a rising N
      let d := (d.emit (.pin Pin.eoutA m (if phase = 1 ∨ phase = 2 then 1 else 0))).emit (.pin Pin.eoutB m (if 2 ≤ phase then 1 else 0))
      let steps := ofSigned 48 (toSigned 48 (d.get (Reg.EOUT.STEPS.COUNT m)) + s)
      let d := d.set (Reg.EOUT.STEPS.COUNT m) steps
      let per := d.get (Reg.EOUT.Z_CFG.PERIOD m)
      if s = 1 ∧ d.is (Reg.EOUT.CFG.Z_EN m) = true ∧ per ≠ 0 ∧ toSigned 48 steps % (per : Int) = 0 then
        (d.emit (.pin Pin.eoutZ m 1)).arm (.eoutZ m) (d.get (Reg.EOUT.Z_CFG.WIDTH m) * tick)
      else d

/-- The Z pulse ends. -/
def eoutZEnd (m : Nat) (d : Dev) : Dev := d.onTimer (.eoutZ m) fun d => d.emit (.pin Pin.eoutZ m 0)

/-- The EOUT fields computed when read (Table 11.4). -/
def eoutView (d : Dev) (m : Nat) (f : Fld) : Option Nat :=
  let e := d.eout m
  if f = Reg.EOUT.STAT.HOLD m then some (b2n (!d.is Reg.TRG.STAT.SOURCE_OK && decide (d.mode ≠ 5)))
  else if f = Reg.EOUT.STAT.BACK_DIR m then some (match popStep e.runs with | some (s, _) => if s < 0 then 1 else 0 | none => 0)
  else if f = Reg.EOUT.STAT.BACKLOG m then some e.backlog
  else none

end Sys2Proof.Machine
end

