-- ==== Sys2Proof/Machine/Trigger.lean ====
section
/-!
DEFINITION. Firing timing and line triggers (chapter 5): what an edge does, scheduling, LAT and the FIRE sequence, late
and skipped cycles, reverse motion, the FIXED generator, and source loss.  Positions count 2^-16 fine counts.
-/
namespace Sys2Proof.Machine

/-! ### Speed validity and jobs becoming active -/

/-- STAT.SPEED_VALID follows the estimate; a change raises source 124. -/
def speedSync (d : Dev) : Dev :=
  if d.is Reg.TRG.STAT.SPEED_VALID = d.speedOk then d else (d.put Reg.TRG.STAT.SPEED_VALID d.speedOk).ev .TRG 0 4

/-- A job becomes active (R85): `phiAct` is the progress already passed then (R113). -/
def activate (p : Nat) (j : Job) (phiAct : Int) (d : Dev) : Dev :=
  let d := d.setJob p { j with active := true, phiAct := some phiAct }
  d.setPlane p { d.plane p with
    prevEnd := j.endPos d.pitch j.dirn
    prevLast := j.s0.map fun s0 => j.linePos d.pitch s0 (j.total - 1) }

/-- The earliest row trigger of line 0 of a job, as progress (R85). -/
def Dev.firstTrigger (d : Dev) (j : Job) : Option Int :=
  match j.s0 with
  | none => none
  | some s0 =>
    let all : List Int := j.ports.flatMap fun n => match d.geom n with
      | some g => (List.range g.rows).map fun r => j.dirn * d.firePos g j s0 r 0 - d.leadA
      | none => []
    match all with | [] => none | a :: t => some (t.foldl min a)

/-- A plane's next job becomes active when the highest position reached takes in its earliest trigger; `phiAct` is the
position already passed then (R85, R113).  None does while no firing is possible (R89). -/
def activateNext (p : Nat) (reach phiAct : Int) (d : Dev) : Dev :=
  if d.halted ∨ d.is (Reg.PRT.Q_CTRL.HOLD p) = true ∨ d.mode = 4 ∨ d.printing = false then d
  else
    match (d.plane p).jobs.find? fun j => !j.active && j.ending.isNone with
    | none => d
    | some j =>
      match d.firstTrigger j with
      | some t => if t ≤ d.trg.sigma * reach ∧ d.mayActivate p j = true then activate p j phiAct d else d
      | none => d

/-- Every plane's jobs whose earliest trigger has been reached become active. -/
def activateDue (reach phiAct : Int) (d : Dev) : Dev :=
  (List.range 16).foldl (fun d p => (List.range 4).foldl (fun d _ => activateNext p reach phiAct d) d) d

/-- Jobs that nothing keeps from becoming active any more, and whose earliest trigger has been passed, become active. -/
def activatePassed (d : Dev) : Dev := activateDue d.trg.phi d.trg.phi d

/-- A queue takes its next descriptor (R83): the slices append the tile rows it needs to their free slots (R130), and a
job that has been passed already becomes active at once (R113). -/
def jobTaken (p : Nat) (descBad dirBad : Bool) (d : Dev) : Dev :=
  let d := jobStart p descBad dirBad d
  activatePassed ((d.portsOf p).foldl (fun d n => refill n d) d)

/-- A SHUTTLE pass becomes active: σ takes its direction and P_hi the position counted then (R115); `passed` is the position
passed before. -/
def startPass (p : Nat) (j : Job) (passed : Int) (d : Dev) : Dev :=
  let d := { d with trg := { d.trg with sigma := j.dirn, phi := d.trg.pe } }
  activate p j passed (d.put Reg.TRG.STAT.DIR j.reverse)

/-- The jobs of a cycle become active as it issues or latches (R85), and so do the copies its lines begin (R136); a pass does when
the estimate reaches its first trigger (R115). -/
def activateLines (lines : List RowLine) (phiAct : Int) (d : Dev) : Dev :=
  lines.foldl latchRot <| lines.foldl (fun d l => match d.findJob l.job with
    | some (p, j) => if j.active ∨ d.mayActivate p j = false then d
        else if d.mode = 4 then startPass p j d.trg.pe d else activate p j phiAct d
    | none => d) d

/-- A SHUTTLE pass becomes active when an edge moves the carriage its way and reaches its first trigger (R115). -/
def shuttleActivate (from_ p : Int) (d : Dev) : Dev :=
  if d.mode ≠ 4 ∨ d.halted then d
  else (List.range 16).foldl (fun d q =>
    match (d.plane q).jobs.find? fun j => !j.active && j.ending.isNone with
    | none => d
    | some j =>
      match d.firstTrigger j with
      | some t =>
        if 0 < j.dirn * (p - from_) ∧ t ≤ j.dirn * p ∧ d.mayActivate q j = true ∧ d.is (Reg.PRT.Q_CTRL.HOLD q) = false then
          startPass q j from_ d
        else d
      | none => d) d

/-! ### Scheduling (R105, R106) -/

/-- Does a cycle hold a line of a job that is not yet active? -/
def Dev.hasIdleJob (d : Dev) (lines : List RowLine) : Bool :=
  lines.any fun l => match d.findJob l.job with | some (_, j) => !j.active | none => false

/-- The 16 ns from an edge to the issue of a trigger it reaches. -/
def latLatency : Nat := 64

/-- A port's next cycle is scheduled, or its schedule refined, from the last edge.  One that the edge reaches keeps a scheduled
time of the edge's own tick, the earlier of the two (R121).  The first cycle of a pass that is not yet active waits for the
carriage to move its way. -/
def schedule (n : Nat) (d : Dev) : Dev :=
  let q := d.port n
  if q.issued ∨ d.is Reg.TRG.STAT.PAUSED then d
  else
    match d.nextCycle n with
    | none => d.setPort n { q with sched := none }
    | some (g, lines) =>
      match d.trigPos n g lines with
      | none => d
      | some tp =>
        let sg := d.dirOf lines
        let dist := sg * (tp - d.trg.pe)
        let idlePass := decide (d.mode = 4) && d.hasIdleJob lines
        if dist ≤ 0 then
          let due := match q.sched with | some t => if t < d.trg.te + 16 then t else d.trg.te + latLatency | none => d.trg.te + latLatency
          d.setPort n { q with sched := if idlePass then none else some due }
        else
          let refine := match q.sched with | some t => decide (d.trg.te + latLatency ≤ t) | none => true
          if d.speedIn sg = true ∧ dist < 2 * d.clampW ∧ refine = true ∧ d.trg.v ≠ 0 then
            d.setPort n { q with sched := some (d.trg.te + (roundDiv (dist * (16 * 65536)) d.trg.v.natAbs).toNat) }
          else d

/-- Every port's next cycle. -/
def scheduleAll (d : Dev) : Dev := (List.range 64).foldl (fun d n => schedule n d) d

/-- A port goes on to its next cycle. -/
def nextUp (n : Nat) (d : Dev) : Dev := schedule n (d.setPort n { d.port n with built := none, sched := none, issued := false })

/-! ### Skipping (R89, R108, R113, R148) -/

/-- A slow-down request (R110), from which the interval runs and further skips are looked for. -/
def askSlowdown (n : Nat) (d : Dev) : Dev :=
  let d := if d.trg.slowEn then (d.ev .TRG 0 3).slowdown 1 n else d
  { d with trg := { d.trg with skipping := false } }.arm .slowdown (max 1 d.trg.slowInt * us)

/-- A port's built cycle is discarded: rows whose frames the head holds are blanked before the next cycle (R240), and
its Sounding candidate is abandoned (R223). -/
def discardBuilt (n : Nat) (d : Dev) : Dev :=
  match (d.port n).built with
  | none => d
  | some c =>
    let rows := (c.frames.take c.shipped).filterMap fun f => if byteAt f 1 / 16 = 1 then some (byteAt f 1 % 16) else none
    let h := d.head n
    let d := d.setHead n { h with blanks := h.blanks ++ rows.filter fun r => !h.blanks.contains r }
    let d := match c.cand with | some (i, _) => abandon n i d | none => d
    d.setPort n { d.port n with built := none }

/-- A port's next cycle is skipped (R108): its row-lines are resolved as skipped, SKIP_CNT counts. -/
def skipCycle (n : Nat) (lines : List RowLine) (d : Dev) : Dev :=
  let d := (discardBuilt n d).bump Reg.TRG.SKIP_CNT.COUNT 1
  let d := lines.foldl (fun d l => lineStarted n d l) (lines.foldl latchRot d)
  let d := lines.foldl (fun d l => resolveRow n true false d l) d
  activatePassed (refill n (nextUp n d))

/-- Has a cycle's data not come together in time (R148)? -/
def Dev.notReady (d : Dev) (n : Nat) : Bool :=
  match (d.port n).built with
  | none => true
  | some c => c.waits || c.failed || !d.cycleVoted c || decide (c.shipped < c.frames.length)

/-- The lateness deadline of a cycle, as a position (R107). -/
def Dev.deadline (d : Dev) (tp : Int) : Int := tp + d.trg.sigma * ((d.trg.lateFrac * d.pitch) / 256)

/-- The moment at which the estimate has passed a position, when it will before the next edge. -/
def Dev.passes (d : Dev) (p : Int) : Option Nat :=
  let dist := d.trg.sigma * (p - d.trg.pe)
  if dist < 0 then some d.trg.te
  else if d.speedOk = true ∧ d.trg.v ≠ 0 ∧ dist + 1 < d.clampW then
    some (d.trg.te + ceilDiv ((dist + 1).toNat * (16 * 65536)) d.trg.v.natAbs)
  else none

/-- A cycle's trigger lies at or behind the progress at which its job became active (R113). -/
def Dev.passedAtStart (d : Dev) (tp : Int) (lines : List RowLine) : Bool :=
  lines.any fun l => match d.findJob l.job with
    | some (_, j) => match j.phiAct with | some a => decide (j.dirn * tp ≤ j.dirn * a) | none => false
    | none => false

/-- Does a cycle wait because its plane's queue starts no job (R54, R91, R452)? -/
def Dev.unstarted (d : Dev) (n : Nat) (lines : List RowLine) : Bool :=
  d.hasIdleJob lines && (match d.geom n with | some g => !d.starts g.plane | none => true)

/-- The first step at which a port's issued cycle may be latched, when it may before its deadline (R107): at its scheduled
time whatever the position, and later only while the estimate has not passed the deadline. -/
def Dev.latTime (d : Dev) (n : Nat) : Option Nat :=
  let q := d.port n
  match q.built, q.sched with
  | some c, some s =>
    match d.trigPos n c.group c.lines with
    | none => none
    | some tp =>
      let t := max (max d.time.up s) (max q.portFree ((aget c.group q.lineFree).getD 0))
      let ready := q.issued && !d.notReady n && c.resend == [] && d.windowOpen c.lines && d.canFire n &&
        !d.is Reg.TRG.STAT.PAUSED && !d.passedAtStart tp c.lines
      if ready && (decide (t ≤ s) || decide (d.trg.sigma * (d.posAt t - d.deadline tp) ≤ 0)) then some t else none
  | _, _ => none

/-- CYCLE_SKIP: a port's next cycle is skipped when its trigger lay behind the start of its job, when the port cannot
fire and the trigger has passed, or when the estimate has passed its deadline (R108, R113, R126); a cycle whose LATCH is withheld is skipped there without
OVERSPEED (Table 10.4). -/
def cycleSkip (n : Nat) (d : Dev) : Dev :=
  match d.nextCycle n with
  | none => d
  | some (g, lines) =>
    match d.trigPos n g lines with
    | none => d
    | some tp =>
      if d.is Reg.TRG.STAT.PAUSED ∨ d.printing = false ∨ d.unstarted n lines = true ∨
          (d.mode = 4 ∧ d.hasIdleJob lines = true) then d
      else if d.passedAtStart tp lines then skipCycle n lines d
      else if d.canFire n = false then
        match d.passes tp with
        | none => d
        | some t =>
          if d.stalled n = true ∧ d.hasIdleJob lines = true then nextUp n (discardBuilt n d)
          else skipCycle n lines (activateLines lines (tp - d.trg.sigma) (d.advanceTo t))
      else
        let q := d.port n
        match d.passes (d.deadline tp), q.sched with
        | some t, some s =>
          let t := max t s
          if q.issued = false ∨ (match d.latTime n with | some l => decide (l ≤ t) | none => false) = true then d else
          let d := d.advanceTo t
          let withheld := match (d.port n).built with | some c => c.failed | none => false
          if withheld then skipCycle n lines (activateLines lines (tp - d.trg.sigma) d)
          else
          let late := d.notReady n && !(d.hasIdleJob lines && !d.windowOpen lines)
          let full := d.windowFull lines
          let d := d.raise 0 Kind.TRG.OVERSPEED { port := n }
          let d := if full then d.raise 0 Kind.PRT.JOB_WINDOW { port := n } else d
          let d := if late then (pipeCount n 6 1 d).raise 0 Kind.MSK.LINE_NOT_READY { port := n } else d
          let d := if d.running .slowdown then { d with trg := { d.trg with skipping := true } } else askSlowdown n d
          skipCycle n lines (activateLines lines (tp - d.trg.sigma) d)
        | _, _ => d

/-- The slow-down interval ends: the request is repeated while skips continue (R110). -/
def slowdownRepeat (d : Dev) : Dev :=
  d.onTimer .slowdown fun d =>
    if d.trg.skipping then askSlowdown 0x7F d else d

/-! ### Issue and LAT (R105, R107, R188, R189) -/

/-- Has a port's built cycle a line that may no longer print (Table 6.2, R90, R91)? -/
def Dev.barred (d : Dev) (n : Nat) : Bool :=
  match (d.port n).built with
  | some c => c.lines.any fun l => match d.findJob l.job with | some (_, j) => !j.prints l.line | none => true
  | none => false

/-- A built cycle with a barred line is discarded, and the port's next cycle is another. -/
def dropBarred (n : Nat) (d : Dev) : Dev := if d.barred n then nextUp n (discardBuilt n d) else d

/-- The scheduled time of a port's next cycle comes: it issues when its trigger lies within the window (R105). -/
def cycleTime (n : Nat) (d : Dev) : Dev :=
  let q := d.port n
  match q.sched, d.nextCycle n with
  | some t, some (g, lines) =>
    match d.trigPos n g lines with
    | none => d
    | some tp =>
      let d := d.advanceTo t
      if d.is Reg.TRG.STAT.PAUSED = true ∨ d.clampW ≤ d.dirOf lines * (tp - d.trg.pe) ∨ d.enabled (pg .TRG 0) = false then
        d.setPort n { q with sched := none }
      else
        let phi := if d.trg.sigma * d.trg.phi < d.trg.sigma * tp then d.trg.phi else tp - d.trg.sigma
        let d := d.setPort n { q with issued := true }
        if d.windowOpen lines then
          if d.canFire n then activateLines lines phi d else d
        else if d.windowFull lines then d.raise 0 Kind.PRT.JOB_WINDOW { port := n }
        else d
  | _, _ => d

/-- The FIRE pulses of one slot: the effective waveform of each class in use (R189); a class whose MAIN is 0 fires none (R156). -/
def firePulses (n : Nat) (ws : List (Nat × Wave)) (d : Dev) : Dev :=
  (ws.filter fun w => w.2.main != 0).foldl (fun d w => d.emit (.fire n w.1 w.2.pre w.2.gap w.2.main)) d

/-- The cycle of a port has fired: jobs that waited for it end, and an ordered link-down follows (R86, R207). -/
def cycleEnded (n : Nat) (d : Dev) : Dev :=
  let d := d.setPort n { d.port n with firing := (d.port n).firing.map Firing.over }
  checkDown n ((List.range 16).foldl (fun d p => endJobs p d) d)

/-- A cycle is latched at a moment (R107). -/
def latchAt (n : Nat) (c : Cycle) (late : Bool) (phi : Int) (d : Dev) : Dev :=
  let t := d.time.up
  let d := if d.portAtBoundary n then d else cycleEnded n d
  let tCyc := d.tCyc n c.waves
  let tMin := d.tMin n c.waves
  let d := activateLines c.lines phi d
  let f : Firing := { lines := c.lines, group := c.group, codes := c.codes, t0 := t, tSlot := slotTime c.waves,
                      subs := d.dropsOf n, slots := d.slotsOf n, at_ := 1, waves := c.waves, refused := [], cand := c.cand }
  let q := d.port n
  let d := d.setPort n { q with firing := some f, portFree := t + tCyc, lineFree := aset c.group (t + tMin) q.lineFree }
  let tag := (d.get (Reg.HPT.LAT_CNT.COUNT n) + 1) % 256
  let d := (d.set (Reg.HPT.LAT_CNT.COUNT n) (d.get (Reg.HPT.LAT_CNT.COUNT n) + 1)).mark n 0
  let d := windowFired n 0 0 (scanFired n (wearMark n 0 0 (firePulses n c.waves d)))
  let h := d.head n
  let d := d.setHead n { h with
    sent := [], resent := [],
    lats := (h.lats.map fun l => if l.fire.isNone then { l with fire := q.firing } else l) ++
      [{ tag, lines := c.lines, rows := (d.geom n).elim [] fun g => d.cycleRows n g c.group, time := t, fire := none }] }
  let d := if h.lats = [] then armReport n d else d
  let heat := d.heat n
  let d := d.setHeat n { heat with unsent := heat.unsent.filter fun i => tget 0 heat.cls i != tget 0 c.cls i }
  let d := if late then (d.bump Reg.TRG.LATE_CNT.COUNT 1).ev .TRG 0 0 else d
  let d := match c.cand with | some (i, line) => requestWindow n i line (tget 0 c.cls i - 1) d | none => d
  let d := d.setPort n { d.port n with built := none }
  let d := c.lines.foldl (fun d l => resolveRow n false late d l) d
  activatePassed (refill n (nextUp n d))

/-- LAT: a cycle that may start is latched at the first permitted step, and its FIRE sequence begins (R107). -/
def lat (n : Nat) (d : Dev) : Dev :=
  let d := dropBarred n d
  let q := d.port n
  match q.built, q.sched with
  | some c, some s =>
    match d.trigPos n c.group c.lines, d.latTime n with
    | some tp, some t =>
      let phi := if d.trg.sigma * d.trg.phi < d.trg.sigma * tp then d.trg.phi else tp - d.trg.sigma
      latchAt n c (decide (s < t)) phi (d.advanceTo t)
    | _, _ => d
  | _, _ => d

/-- A SLOT mark, 80 ns before its slot's pre-pulse (R188); once every slot has been announced, the end of the last FIRE pulse,
100 ns before its slot ends (R206, notes/assumptions/62.md). -/
def slotMark (n : Nat) (d : Dev) : Dev :=
  match (d.port n).firing with
  | none => d
  | some f =>
    if f.done then d
    else if d.headUp n = false then d
    else if f.announced then cycleEnded n (d.advanceTo (d.slotEnd n - 400))
    else
      let t := f.t0 + clamp 240 320 (d.get (Reg.HPT.LAT_FIRE.STEPS n)) + f.at_ * f.tSlot - 320
      let d := (d.advanceTo t).mark n 1
      let d := wearMark n (f.at_ / f.slots) (f.at_ % f.slots) (firePulses n f.waves d)
      let d := windowFired n (f.at_ / f.slots) (f.at_ % f.slots) (scanFired n d)
      d.setPort n { d.port n with firing := ((d.port n).firing.map fun f => { f with at_ := f.at_ + 1 }) }

/-! ### FRAME_BAD (R187, R202, R205) -/

/-- The length of a FAB_CLK cycle in steps. -/
def fabCycle : Nat := 8

/-- Does a port's LAT decision fall in the present FAB_CLK cycle?  The LAT then issues, and a report gets no resend (R187, R205). -/
def Dev.latNow (d : Dev) (n : Nat) : Bool :=
  match d.latTime n with | some t => decide (t / fabCycle = d.time.up / fabCycle) | none => false

/-- A FRAME_BAD message (Table 8.7, R187, R202): counted, raised, and perhaps one resend at the next frame boundary. -/
def frameBad (n ordinal seg type row : Nat) (d : Dev) : Dev :=
  let h := d.head n
  let d := (d.bump (Reg.HPT.CRC_ERR_CNT.COUNT n) 1).raise n Kind.HPT.FRAME_BAD { port := n, arg := ordinal % 65536 + seg % 256 * 2 ^ 16 + type % 16 * 2 ^ 24 + row % 16 * 2 ^ 28 }
  let d := d.setHead n { d.head n with badFrames := h.badFrames + 1 }
  if type = 3 then
    match (h.sent[ordinal]?).map fun x => x.2.2 with
    | some 257 => sampleBad n d
    | some 258 => match (d.health n).windows.getLast? with | some w => abandonWhere n (· == w) d | none => d
    | _ => d
  else if type = 4 then ctrlMissed n d
  else
    match h.sent[ordinal]?, (d.port n).built with
    | some (t, r, place), some c =>
      if d.is (Reg.HPT.LINK_CFG.RESEND_EN n) = true ∧ t = type ∧ r = row ∧ h.resent.contains place = false ∧ place < c.shipped
          ∧ d.latNow n = false then
        (onBuilt n (fun c => { c with resend := c.resend ++ [place] }) d).setHead n { d.head n with resent := place :: h.resent }
      else d
    | _, _ => d

/-! ### Edges (R97, R111, R112, R115) -/

/-- Every cycle of the pass `seq` that a port has not latched is skipped, and counted (R108, R115); at most `k` of them. -/
def skipPass (n seq : Nat) : Nat → Dev → Dev
  | 0, d => d
  | k + 1, d =>
    match d.nextCycle n with
    | none => d
    | some (_, lines) =>
      if (lines.any fun l => l.job == seq) = true then skipPass n seq k (skipCycle n lines d) else d

/-- The active pass of a plane, which no error or command is ending. -/
def Dev.passOf (d : Dev) (p : Nat) : Option Job := (d.plane p).jobs.find? fun j => j.active && j.ending.isNone

/-- A SHUTTLE pass ends at a reverse travel: every line not yet fired is skipped (R115). -/
def endPasses (d : Dev) : Dev :=
  (List.range 16).foldl (fun d p =>
    let d := match d.passOf p with
      | some j => j.ports.foldl (fun d n => skipPass n j.seq (16 * j.total + 1) d) d
      | none => d
    let q := d.plane p
    endJobs p (d.setPlane p { q with jobs := q.jobs.map fun j => if j.active = true ∧ j.ending.isNone = true then
        { j with bad := some (0, if j.err = 0 then 1 else j.err) } else j })) d

/-- No cycle is scheduled or issued any more: each is scheduled again by a later edge (R112). -/
def unschedule (d : Dev) : Dev :=
  (List.range 64).foldl (fun d n => d.setPort n { d.port n with sched := none, issued := false }) d

/-- An edge stamped at moment `t`, at position `p`, with the speed estimate `v` and its validity (R97, R105, R112). -/
def edgeAt (t : Nat) (p v : Int) (vok : Bool) (d : Dev) : Dev :=
  let old := d.trg
  let d := { d with trg := { d.trg with pe := p, te := t, v, vok, lateFrac := d.get Reg.TRG.LATE_LIM.FRAC,
                                        slowEn := d.is Reg.TRG.SLOWDOWN.EN, slowInt := d.get Reg.TRG.SLOWDOWN.INTERVAL } }
  let d := shuttleActivate old.pe p (sigmaSync d)
  let sg := d.trg.sigma
  let ahead := sg * (p - d.trg.phi)
  let band : Int := d.get Reg.TRG.REV_BAND.COUNTS * 256 * 65536
  let paused := d.is Reg.TRG.STAT.PAUSED
  let beyond := decide (ahead < -band)
  if beyond = true ∧ paused = false ∧ (d.mode = 2 ∨ d.mode = 3) then
    let d := (d.bump Reg.TRG.REV_CNT.COUNT 1).raise 0 Kind.TRG.REVERSE_TRAVEL
    speedSync ((unschedule { d with trg := { d.trg with need := 2 } }).put Reg.TRG.STAT.PAUSED true)
  else if beyond = true ∧ d.mode = 4 ∧ ((List.range 16).any fun q => match d.passOf q with | some j => j.bad != some (0, 1) | none => false) = true then
    let d := (d.bump Reg.TRG.REV_CNT.COUNT 1).raise 0 Kind.TRG.REVERSE_TRAVEL
    speedSync (endPasses d)
  else
    let resumes := paused && decide (0 < ahead)
    let need := if !paused && decide (0 < sg * (p - old.pe)) then d.trg.need - 1 else d.trg.need
    let d := { d with trg := { d.trg with phi := (if 0 < ahead then p else d.trg.phi), need } }
    let d := if resumes then d.put Reg.TRG.STAT.PAUSED false else d
    let d := speedSync d
    if d.is Reg.TRG.STAT.PAUSED then d
    else scheduleAll (activateDue d.trg.phi old.phi d)

/-- An edge of the position source, which the emulation outputs take as well (R276). -/
def trgEdge (t : Nat) (p v : Int) (vok : Bool) (d : Dev) : Dev := eoutEdge p (edgeAt t p v vok d)

/-- A position of 48 bits in fine counts, as the unwrapped position in 2^-16 fine counts nearest the last one (R266). -/
def Dev.unwrapPos (d : Dev) (pos : Nat) : Int := d.trg.pe + toSigned 48 (ofSigned 48 ((pos : Int) - d.trg.pe.fdiv 65536)) * 65536 -
  d.trg.pe % 65536

/-! ### Source loss (R117, R120) -/

/-- A signed 48-bit register field of a channel. -/
def Dev.pos48 (d : Dev) (f : Fld) : Int := toSigned 48 (d.get f)

/-- The local channel TRG takes its position from, when it takes one. -/
def Dev.srcChannel (d : Dev) : Option Nat :=
  let s := d.get Reg.TRG.SRC_SEL.SEL
  if s ≤ 3 then some s else if s = 4 ∧ d.ringRole = 2 then some (d.get Reg.EMR.POS_CFG.CHAN) else none

/-- The offset a manager adds to its own channel (R293), in fine counts. -/
def Dev.posOff (d : Dev) (k : Nat) : Int :=
  if d.ringRole = 2 ∧ d.get Reg.EMR.POS_CFG.CHAN = k then toSigned 32 (d.get Reg.EMR.POS_OFF.OFF) else 0

/-- The present position of the selected source, as far as one has been received (R63). -/
def Dev.sourcePos (d : Dev) : Int :=
  match d.srcChannel with
  | some k => d.unwrapPos (ofSigned 48 (d.pos48 (Reg.ENC.POS.POS k) + d.posOff k))
  | none => if d.get Reg.TRG.SRC_SEL.SEL = 4 then (match d.trg.cell with | some c => d.unwrapPos c | none => d.trg.pe) else d.trg.pe

/-- The selected source is usable or lost: STAT.SOURCE_OK and POS_VALID follow, and a loss in a print mode other than
FIXED raises SOURCE_LOST (R120). -/
def sourceState (ok : Bool) (d : Dev) : Dev :=
  let was := d.is Reg.TRG.STAT.SOURCE_OK
  let d := (d.put Reg.TRG.STAT.SOURCE_OK ok).bringup Reg.SYS.BRINGUP.POS_VALID ok
  let d := { d with trg := { d.trg with lost := !ok && decide (d.mode ≠ 5) } }
  if was = true ∧ ok = false ∧ d.printing = true ∧ d.mode ≠ 5 then
    speedSync ({ d with trg := { d.trg with vok := false } }.raise 0 Kind.TRG.SOURCE_LOST)
  else d

/-- No position cell for 10 µs: the ring source is lost (R117). -/
def ringSourceTimeout (d : Dev) : Dev :=
  d.onTimer .ringSource fun d => if d.get Reg.TRG.SRC_SEL.SEL = 4 ∧ d.srcChannel = none then sourceState false d else d

/-- TRG takes up its selected source: its present position, and of a local channel also the edge and the speed (R97, R104). -/
def takeSource (d : Dev) : Dev :=
  let d := { d with trg := { d.trg with pe := d.sourcePos } }
  match d.srcChannel with
  | some k =>
    { d with trg := { d.trg with te := d.time.up - (d.time.ts - d.get (Reg.ENC.EDGE_TS.TS k) * tick)
                                 v := toSigned 48 (d.get (Reg.ENC.SPEED.V k)), vok := d.is (Reg.ENC.STAT.SPEED_VALID k) } }
  | none => d

/-! ### The FIXED generator (R116) -/

/-- A line period in 250 ps steps, from FIX_PERIOD. -/
def Dev.fixPeriod (d : Dev) : Nat := d.get Reg.TRG.FIX_PERIOD.TICKS * 16 + d.get Reg.TRG.FIX_PERIOD.PHASE

/-- The speed of the generator: exactly pitch over period, in 2^-32 fine counts per tick. -/
def Dev.fixSpeed (d : Dev) (period : Nat) : Int := if period = 0 then 0 else d.pitch * (65536 * 16) / period

/-- The generator starts at its t0 with position 0, and raises source 127. -/
def fixedStart (d : Dev) : Dev :=
  if d.mode ≠ 5 ∨ d.trg.fixRun = true ∨ d.fixPeriod = 0 then d
  else
    let d := d.advanceTo d.trg.fixNext
    let d := { d with trg := { d.trg with fixRun := true, fixNext := d.time.up + d.fixPeriod, fixLine := 0, fixNew := none, phi := 0, pe := 0, need := 0 } }
    trgEdge d.time.up 0 (d.fixSpeed d.fixPeriod) true (d.ev .TRG 0 7)

/-- A synthetic line boundary acts as an edge at the exact position; a period written since applies from it. -/
def fixedBoundary (d : Dev) : Dev :=
  if d.mode ≠ 5 ∨ d.trg.fixRun = false then d
  else
    let d := d.advanceTo d.trg.fixNext
    let line := d.trg.fixLine + 1
    let period := d.trg.fixNew.getD d.fixPeriod
    let d := if d.trg.fixNew.isSome then d.ev .TRG 0 7 else d
    let d := { d with trg := { d.trg with fixLine := line, fixNext := d.time.up + period, fixNew := none, fixRun := period != 0 } }
    trgEdge d.time.up (d.pitch * line) (d.fixSpeed period) (period != 0) d

/-- A FIX_PERIOD write: it waits for the next boundary while the generator runs, restarts one that has stopped, and is a
plain write outside FIXED mode. -/
def fixPeriodWrite (v : Nat) (d : Dev) : Dev :=
  let d := (d.set Reg.TRG.FIX_PERIOD.TICKS (v / 16)).set Reg.TRG.FIX_PERIOD.PHASE (v % 16)
  if d.mode ≠ 5 then d
  else if d.trg.fixRun then { d with trg := { d.trg with fixNew := some (v % 2 ^ 32) } }
  else if v % 2 ^ 32 = 0 ∨ d.time.up < d.trg.fixNext then d
  else
    let d := { d with trg := { d.trg with fixRun := true, fixNext := d.time.up + v % 2 ^ 32 } }
    trgEdge d.time.up (d.pitch * d.trg.fixLine) (d.fixSpeed (v % 2 ^ 32)) true (d.ev .TRG 0 7)

/-! ### Entry to a print mode and stopping (R97, R100, R119, R122) -/

/-- The ports with a valid table, and their T_min. -/
def Dev.tmins (d : Dev) : List (Nat × Nat) := ((List.range 64).filter d.geomOk).map fun n => (n, (d.port n).tmin)

/-- TRG at an entry to a print mode: P_hi is the source's position (R63), phase groups, T_min, TMIN_MAX, and the checks of R119. -/
def trgEntry (d : Dev) : Dev :=
  let d := takeSource (d.put Reg.TRG.STAT.PAUSED false)
  let d := { d with trg := { d.trg with phi := d.trg.pe, skipping := false } }
  let d := if d.mode = 5 then
      let t0 := if d.is Reg.TRG.FIX_CTRL.SYNC ∧ d.time.ts < d.get Reg.TRG.FIX_T0.TS * 16 then
          d.time.up + (d.get Reg.TRG.FIX_T0.TS * 16 - d.time.ts) else d.time.up
      { d with trg := { d.trg with fixRun := false, fixNext := t0, fixLine := 0, fixNew := none, pe := 0, phi := 0, vok := false, v := 0, need := 0, lost := false } }
    else d
  let d := (List.range 64).foldl (fun d n =>
    if d.geomOk n then
      let q := d.port n
      let d := d.setPort n { q with groups := d.groupsOf n, built := none, sched := none, issued := false, portFree := 0, lineFree := [], cycles := 0, dutyAt := 0, ring := [] }
      d.setPort n { d.port n with tmin := d.tMin n (d.wavesNow n) }
    else d) d
  let d : Dev := (List.range 16).foldl (fun d p =>
    let q := d.plane p
    d.setPlane p { q with
      jobs := (q.jobs.map fun j => if j.active then { j with phiAct := some d.trg.phi, started := [], carried := true } else j),
      prevEnd := none, prevLast := none }) d
  -- the cycle counts start anew, for a standby's copies too
  let x := d.engine d.standby
  let d := if x.copied = [] then d else d.setEngine d.standby { x with copied := x.copied.map fun p => (p.1, 0) }
  let best : Nat × Nat := d.tmins.foldl (fun b t => if b.2 < t.2 then t else b) (0, 0)
  let d : Dev := (d.set Reg.TRG.TMIN_MAX.PORT best.1).set Reg.TRG.TMIN_MAX.TMIN best.2
  let d := if d.pitch = 0 then d.raise 0 Kind.TRG.PITCH_ZERO else d
  let speed := d.get Reg.TRG.SPEED_MAX.SPEED
  let d := if speed ≠ 0 ∧ (d.tmins.any fun t => decide (d.pitch * us < (t.2 * speed : Nat))) = true then d.raise 0 Kind.TRG.RATE_CFG else d
  speedSync (sigmaSync d)

/-- When a print mode is left, the generator's speed is no longer that of the source (R116), built cycles are dropped, and jobs that have not become active are given back to their queues:
the next entry takes them afresh, with the checks of R83 for its mode and the ports of its plane. -/
def trgExit (d : Dev) : Dev :=
  let d := (List.range 16).foldl (fun d p => giveBack p d) d
  let d := if d.mode = 5 then { d with trg := { d.trg with v := 0, vok := false } } else d
  (List.range 64).foldl (fun d n =>
    let d := discardBuilt n d
    d.setPort n { d.port n with sched := none, issued := false }) d

/-- Is every issued cycle over (R122)? -/
def Dev.trgIdle (d : Dev) : Bool := (List.range 64).all d.portAtBoundary

/-- The TRG fields computed when read (Table 5.3). -/
def trgView (d : Dev) (f : Fld) : Option Nat :=
  let n := d.get Reg.TRG.TMIN_SEL.PORT
  if f = Reg.TRG.STAT.RUN then
    some (b2n (d.printing && d.enabled (pg .TRG 0) && d.inRun (pg .TRG 0) && !d.is Reg.TRG.STAT.PAUSED && !d.trg.lost && !d.halted && d.pitch != 0))
  else if f = Reg.TRG.PHI.POS then some (ofSigned 48 (d.trg.phi.fdiv 65536))
  else if f = Reg.TRG.POS.POS then some (ofSigned 48 ((d.posAt d.time.up).fdiv 65536))
  else if f = Reg.TRG.TMIN_VAL.GROUPS then some ((d.port n).groups.length - 1)
  else if f = Reg.TRG.TMIN_VAL.TMIN then some (d.port n).tmin
  else none

end Sys2Proof.Machine
end

