-- ==== Sys2Proof/Machine/Encoder.lean ====
section
/-!
DEFINITION. Position and speed feedback (chapter 11): counting, index and gap checks, limits, presets and homes, the
speed estimate, sheet edges, wire flags, and what each delivers to TRG and to the ring.
-/
namespace Sys2Proof.Machine

/-- A channel's state. -/
def Dev.enc (d : Dev) (k : Nat) : Enc := tget Enc.init d.encs k

/-- A channel's state replaced. -/
def Dev.setEnc (d : Dev) (k : Nat) (e : Enc) : Dev := { d with encs := tset Enc.init k e d.encs }

/-- A register field set to a position. -/
def Dev.setPos (d : Dev) (f : Fld) (p : Int) : Dev := d.set f (ofSigned 48 p)

/-! ### The source of TRG (R18, R120, R293) -/

/-- Is a channel usable as a source (R120)? -/
def Dev.channelOk (d : Dev) (k : Nat) : Bool :=
  d.inRun (pg .ENC k) &&
  (d.get (Reg.ENC.STAT.WIRE k) / 4 == 0 || decide ((d.policyOf (130 + 3 * k) 5 (some 3)).1 < 3))

/-- Is the selected source present and not lost (R120)? -/
def Dev.sourceUsable (d : Dev) : Bool :=
  match d.srcChannel with
  | some k => d.channelOk k
  | none => d.get Reg.TRG.SRC_SEL.SEL == 4 && d.running .ringSource

/-- SOURCE_OK follows the source. -/
def posSync (d : Dev) : Dev := if d.is Reg.TRG.STAT.SOURCE_OK = d.sourceUsable then d else sourceState d.sourceUsable d

/-- Is a channel held by a print mode or a ring manager, so that commands to it are discarded (R268)? -/
def Dev.encLocked (d : Dev) (k : Nat) : Bool :=
  (d.printing && d.srcChannel == some k && decide (d.mode ≠ 5)) || (d.ringRole == 2 && d.get Reg.EMR.POS_CFG.CHAN == k)

/-! ### Flags -/

/-- UNCERTAIN takes a value; a change raises an event. -/
def setUncertain (k : Nat) (v : Bool) (d : Dev) : Dev :=
  if d.is (Reg.ENC.STAT.UNCERTAIN k) = v then d else (d.put (Reg.ENC.STAT.UNCERTAIN k) v).ev .ENC k 1

/-- SPEED_VALID takes a value; a change raises an event, and TRG is told when the channel is its source. -/
def setSpeedValid (k : Nat) (v : Bool) (d : Dev) : Dev :=
  if d.is (Reg.ENC.STAT.SPEED_VALID k) = v then d
  else
    let d := (d.put (Reg.ENC.STAT.SPEED_VALID k) v).ev .ENC k 8
    if v = false ∧ d.srcChannel = some k ∧ d.mode ≠ 5 then speedSync { d with trg := { d.trg with vok := false } } else d

/-- The speed history is cleared; the next counted edge is its first entry (R270). -/
def restartSpeed (k : Nat) (d : Dev) : Dev := setSpeedValid k false (d.setEnc k { d.enc k with hist := [], normal := [] })

/-- CORR and its flag set. -/
def setCorr (k : Nat) (c : Int) (d : Dev) : Dev :=
  (d.set (Reg.ENC.CORR.C k) (ofSigned 32 c)).put (Reg.ENC.STAT.ABSORB k) (decide (c ≠ 0))

/-- Has a channel a saturated position? -/
def Dev.saturated (d : Dev) (k : Nat) : Bool := d.is (Reg.ENC.STAT.SAT_LO k) || d.is (Reg.ENC.STAT.SAT_HI k)

/-! ### Position (R266, R267) -/

/-- RAW plus the corrections absorbed. -/
def Enc.full (e : Enc) : Int := e.base + e.cnt * 256 + e.absorbed

/-- The registers RAW and POS follow the channel's count; limits clamp POS, and a wrap raises its event. -/
def showPos (k : Nat) (before : Int) (d : Dev) : Dev :=
  let e := d.enc k
  let d := d.setPos (Reg.ENC.RAW.POS k) (e.base + e.cnt * 256)
  if d.is (Reg.ENC.CFG.LIM_EN k) then
    let lo := d.pos48 (Reg.ENC.LIM_LO.POS k)
    let hi := d.pos48 (Reg.ENC.LIM_HI.POS k)
    let side := if hi < e.full then 2 else if e.full < lo then 1 else 0
    let was := if d.is (Reg.ENC.STAT.SAT_HI k) then 2 else if d.is (Reg.ENC.STAT.SAT_LO k) then 1 else 0
    let d := d.setPos (Reg.ENC.POS.POS k) (max lo (min hi e.full))
    let d := (d.put (Reg.ENC.STAT.SAT_HI k) (side == 2)).put (Reg.ENC.STAT.SAT_LO k) (side == 1)
    if side ≠ 0 then
      let d := if was = 0 then d.raise k Kind.ENC.SOFT_LIMIT { arg := side } else d
      setSpeedValid k false d
    else if was ≠ 0 then restartSpeed k d else d
  else
    let d := d.setPos (Reg.ENC.POS.POS k) e.full
    if (before + 2 ^ 47).fdiv (2 ^ 48) = (e.full + 2 ^ 47).fdiv (2 ^ 48) then d else d.ev .ENC k 2

/-- One counted edge of weight `w` in direction `dir`: the count, up to 4 fine counts of absorption (R264), the position. -/
def moveCount (k : Nat) (dir : Int) (w : Nat) (d : Dev) : Dev :=
  let e := d.enc k
  let before := e.full
  let corr := toSigned 32 (d.get (Reg.ENC.CORR.C k))
  let step := if d.saturated k then 0 else max (-4) (min 4 corr)
  let d := d.setEnc k { e with cnt := e.cnt + dir * w, absorbed := e.absorbed + step, travel := e.travel.map (· + w), counted := true }
  showPos k before (if step = 0 then d else setCorr k (corr - step) d)

/-! ### Speed (R270) -/

/-- The number of intervals the estimate spans. -/
def spanOf (edges minNs : Nat) (t : Nat) (hist : List (Int × Nat)) : Nat :=
  let n := (((hist.drop 1).map fun x => (t - x.2) * 4).findIdx fun ns => decide (minNs ≤ ns)) + 1
  min (min (max edges n) 255) (hist.length - 1)

/-- The speed over the last intervals, in 2^-32 fine counts per tick. -/
def speedOf (edges minNs : Nat) (hist : List (Int × Nat)) : Int :=
  match hist with
  | [] => 0
  | (c, t) :: _ =>
    let k := spanOf edges minNs t hist
    let o := nth (c, t) hist k
    if t ≤ o.2 then 0 else (256 * (c - o.1) * 2 ^ 32).tdiv ((t - o.2 : Nat) : Int)

/-- The counted edge enters the history and the speed is estimated anew. -/
def speedEdge (k : Nat) (turned : Bool) (d : Dev) : Dev :=
  let e := d.enc k
  let hist := ((e.cnt, d.ts) :: (if turned then [] else e.hist)).take 256
  let d := d.setEnc k { e with hist := hist, normal := (if turned then [] else e.normal) }
  let d := d.set (Reg.ENC.EDGE_TS.TS k) d.ts
  let v := speedOf (max 1 (d.get (Reg.ENC.SPD_CFG.EDGES k))) (d.get (Reg.ENC.SPD_CFG.MIN_SPAN k)) hist
  let ok := decide (2 ≤ hist.length) && !d.saturated k
  setSpeedValid k ok (d.set (Reg.ENC.SPEED.V k) (ofSigned 48 (if ok then v else 0)))

/-! ### Index and gap checks (R262 to R265, R268) -/

/-- POS and RAW loaded: the count starts again from a value. -/
def loadPos (k : Nat) (p : Int) (d : Dev) : Dev :=
  let e := d.enc k
  let d := d.setEnc k { e with cnt := 0, base := p, absorbed := 0, hist := [], normal := [] }
  showPos k p (setCorr k 0 d)

/-- A checked index (R263 to R265). -/
def checkIndex (k : Nat) (p : Int) (d : Dev) : Dev :=
  let per := d.get (Reg.ENC.PER_REV.COUNTS k)
  if per = 0 then d
  else if d.is (Reg.ENC.STAT.REF_SET k) = false then
    ((d.setPos (Reg.ENC.REF.POS k) p).put (Reg.ENC.STAT.REF_SET k) true).ev .ENC k 3
  else
    let m : Int := per * 256
    let r := (d.pos48 (Reg.ENC.REF.POS k) - p) % m
    let err := if 2 * r ≤ m then r else r - m
    let d := d.set (Reg.ENC.IDX_ERR.E k) (ofSigned 32 err)
    let run := d.get (Reg.ENC.STAT.MIS_RUN k)
    if err.natAbs ≤ d.get (Reg.ENC.CFG.WIN k) * 256 then
      (setCorr k err (setUncertain k false (d.set (Reg.ENC.STAT.MIS_RUN k) 0))).ev .ENC k 3
    else
      let d := (d.bump (Reg.ENC.MISMATCH_CNT.COUNT k) 1).raise k Kind.ENC.INDEX_MISMATCH { arg := ofSigned 32 err }
      let last := (d.enc k).lastErr
      let d := d.setEnc k { d.enc k with lastErr := err }
      if d.get (Reg.ENC.CFG.MODE k) = 1 ∧ run ≠ 0 ∧ (err - last).natAbs ≤ 256 then
        (setUncertain k false ((d.setPos (Reg.ENC.REF.POS k) p).set (Reg.ENC.STAT.MIS_RUN k) 0)).raise k Kind.ENC.GAP_RESYNC
      else
        let d := d.set (Reg.ENC.STAT.MIS_RUN k) (min 3 (run + 1))
        if run = 2 then d.raise k Kind.ENC.INDEX_FAULT { arg := ofSigned 32 err } else d

/-- An index (R262): an armed home is applied, or the count is checked when it is rising and not saturated.  While the flag of Z is
set the checks are suspended (R256). -/
def takeIndex (k : Nat) (d : Dev) : Dev :=
  let p := d.pos48 (Reg.ENC.POS.POS k)
  let d := d.setPos (Reg.ENC.IDX_POS.POS k) p
  if (d.enc k).armed then
    let home := d.pos48 (Reg.ENC.HOME.POS k)
    let d := loadPos k home (d.setEnc k { d.enc k with armed := false })
    let d := ((d.setPos (Reg.ENC.REF.POS k) home).put (Reg.ENC.STAT.REF_SET k) true).set (Reg.ENC.STAT.MIS_RUN k) 0
    (restartSpeed k (setUncertain k false d)).ev .ENC k 3
  else if d.is (Reg.ENC.STAT.DIR k) ∨ d.saturated k ∨ (d.get (Reg.ENC.CFG.MODE k) ≠ 1 ∧ d.bitOf (Reg.ENC.STAT.WIRE k) 1 = true) then d
  else checkIndex k p d

/-! ### Counted edges (R258, R260, R261) -/

/-- Does a channel count? -/
def Dev.counts (d : Dev) (k : Nat) : Bool := d.is (Reg.ENC.STAT.RUN k)

/-- The standstill time of a channel starts again (R272). -/
def armStill (k : Nat) (d : Dev) : Dev := d.arm (.still k) (max 1 (d.get (Reg.ENC.STILL.US k)) * us)

/-- The counted edge is delivered to TRG when the channel is its source, and the standstill time starts again. -/
def deliver (k : Nat) (d : Dev) : Dev :=
  let d := armStill k d
  if d.srcChannel = some k ∧ d.mode ≠ 5 then
    trgEdge d.time.up d.sourcePos (toSigned 48 (d.get (Reg.ENC.SPEED.V k))) (d.is (Reg.ENC.STAT.SPEED_VALID k)) d
  else d

/-- A counted edge of a channel. -/
def countEdge (k : Nat) (up : Bool) (w : Nat) (gap : Bool) (d : Dev) : Dev :=
  let dir : Int := if up then 1 else -1
  let still := d.is (Reg.ENC.STAT.STILL k)
  let turned := (d.is (Reg.ENC.STAT.DIR k) == up) || still
  let d := if still then (d.put (Reg.ENC.STAT.STILL k) false).ev .ENC k 8 else d
  let d := d.put (Reg.ENC.STAT.DIR k) (!up)
  let e := d.enc k
  let ivl := match e.hist with | (_, t) :: _ => some (d.ts - t) | [] => none
  let normal := if turned ∨ gap then [] else match ivl with | some i => (i :: e.normal).take 2 | none => []
  let d := speedEdge k turned (moveCount k dir w d)
  let d := d.setEnc k { d.enc k with normal := normal }
  deliver k (if gap then takeIndex k d else d)

/-- Bit of PINS: A 3, B 2, Z 1, SE 0. -/
def setPin (k b : Nat) (v : Bool) (d : Dev) : Dev := d.putBit (Reg.ENC.STAT.PINS k) b v

/-- In tooth mode, does this edge end a gap (R261)? -/
def Dev.endsGap (d : Dev) (k : Nat) (up : Bool) : Bool :=
  let e := d.enc k
  match e.normal, e.hist with
  | [a, b], (_, t) :: _ =>
    !d.is (Reg.ENC.STAT.STILL k) && d.is (Reg.ENC.STAT.DIR k) != up &&
    decide (d.get (Reg.ENC.TOOTH.GAP_RATIO k) * (a + b) ≤ (d.ts - t) * 32)
  | _, _ => false

/-- An accepted edge of A (`b` false) or B: the wire takes its other level, and the edge is counted as the mode says. -/
def encEdge (k : Nat) (b : Bool) (d : Dev) : Dev :=
  let wire := if b then 2 else 3
  let d := setPin k wire (!d.bitOf (Reg.ENC.STAT.PINS k) wire) d
  if d.counts k = false then d
  else
    let a := d.bitOf (Reg.ENC.STAT.PINS k) 3
    let bb := d.bitOf (Reg.ENC.STAT.PINS k) 2
    let inv := d.is (Reg.ENC.CFG.INVERT k)
    if d.get (Reg.ENC.CFG.MODE k) = 1 then
      if b = true ∨ a = false then d
      else
        let up := (!d.is (Reg.ENC.CFG.DIR_SRC k) || !bb) != inv
        if d.endsGap k up then countEdge k up (max 1 (d.get (Reg.ENC.TOOTH.MISSING k)) + 1) true d
        else countEdge k up 1 false d
    else
      -- the Gray sequence BA = 00, 01, 11, 10 rises: after the edge, an A edge rose when A differs from B
      let up := (if b then a == bb else a != bb) != inv
      countEdge k up 1 false d

/-- A and B accepted in the same sample: noise (R259). -/
def illegalChange (k : Nat) (d : Dev) : Dev :=
  let d := setPin k 3 (!d.bitOf (Reg.ENC.STAT.PINS k) 3) (setPin k 2 (!d.bitOf (Reg.ENC.STAT.PINS k) 2) d)
  if d.counts k = false ∨ d.get (Reg.ENC.CFG.MODE k) = 1 then d
  else
    let e := d.enc k
    let w := d.ts / 250000
    let n := if e.window = w then e.illegal + 1 else 1
    let d := d.setEnc k { e with illegal := n, window := w }
    let d := setUncertain k true ((d.bump (Reg.ENC.ILLEGAL_CNT.COUNT k) 1).ev .ENC k 0)
    let lim := d.get (Reg.ENC.CFG.ILL_LIMIT k)
    if lim ≠ 0 ∧ n = lim + 1 then d.raise k Kind.ENC.ILLEGAL_RATE { arg := n } else d

/-- Z takes a level; its rising edge is an index (R262). -/
def zEdge (k : Nat) (rising : Bool) (d : Dev) : Dev :=
  let d := setPin k 1 rising d
  let gate := !d.is (Reg.ENC.CFG.IDX_GATE k) || (d.bitOf (Reg.ENC.STAT.PINS k) 3 && d.bitOf (Reg.ENC.STAT.PINS k) 2)
  if rising = true ∧ d.counts k = true ∧ d.get (Reg.ENC.CFG.MODE k) ≠ 1 ∧ d.is (Reg.ENC.CFG.IDX_EN k) = true ∧ gate = true then takeIndex k d
  else d

/-! ### Wire flags (R256) -/

/-- A pair's legs stay at one level: its flag is set (`line`: A 0, B 1, Z 2, SE 3). -/
def wireFlag (k line : Nat) (d : Dev) : Dev :=
  let b := 3 - line % 4
  if line % 4 = 3 ∧ d.is (Reg.ENC.CFG.SE_DIFF k) = false then d
  else if d.bitOf (Reg.ENC.STAT.WIRE k) b then d
  else
    let d := d.setBit (Reg.ENC.STAT.WIRE k) b
    if 2 ≤ b then
      let d := setUncertain k true (d.put (Reg.ENC.STAT.RUN k) false)
      posSync (d.raise k Kind.ENC.WIRE_AB { arg := line % 4 })
    else if b = 1 then d.raise k Kind.ENC.WIRE_Z else d.raise k Kind.ENC.WIRE_SE

/-- The legs have disagreed correctly for 1 ms: the flag clears, and counting resumes when no A or B flag is left. -/
def wireClear (k line : Nat) (d : Dev) : Dev :=
  let b := 3 - line % 4
  if d.bitOf (Reg.ENC.STAT.WIRE k) b = false then d
  else
    let d := d.clrBit (Reg.ENC.STAT.WIRE k) b
    if 2 ≤ b ∧ d.get (Reg.ENC.STAT.WIRE k) / 4 = 0 ∧ d.inRun (pg .ENC k) = true then
      posSync (armStill k (restartSpeed k (d.put (Reg.ENC.STAT.RUN k) true)))
    else posSync d

/-! ### Commands (R268, R269) -/

/-- A discarded command or configuration write (R268). -/
def encRefuse (k : Nat) (d : Dev) : Dev := d.raise k Kind.ENC.ENC_LOCKED

/-- CMD.PRESET. -/
def encPreset (k : Nat) (d : Dev) : Dev :=
  if d.encLocked k then encRefuse k d
  else
    let d := loadPos k (d.pos48 (Reg.ENC.POS_SET.POS k)) d
    restartSpeed k (setUncertain k false ((d.put (Reg.ENC.STAT.REF_SET k) false).set (Reg.ENC.STAT.MIS_RUN k) 0))

/-- CMD.ARM_HOME. -/
def encArmHome (k : Nat) (d : Dev) : Dev := if d.encLocked k then encRefuse k d else d.setEnc k { d.enc k with armed := true }

/-- CMD.CLR_REF. -/
def encClrRef (k : Nat) (d : Dev) : Dev :=
  if d.encLocked k then encRefuse k d else (d.put (Reg.ENC.STAT.REF_SET k) false).set (Reg.ENC.STAT.MIS_RUN k) 0

/-- ENCC.SNAP: POS of every channel and the TS, in one sample (R269). -/
def encSnap (d : Dev) : Dev :=
  let d := (List.range 4).foldl (fun d k => d.set (Reg.ENC.SNAP.POS k) (d.get (Reg.ENC.POS.POS k))) d
  (d.set Reg.ENCC.SNAP_TS.TS d.ts).ev .ENCC 0 0

/-! ### Standstill and sheet edges (R272, R273) -/

/-- No edge for STILL.US: the speed becomes 0 and invalid. -/
def standstill (k : Nat) (d : Dev) : Dev :=
  d.onTimer (.still k) fun d =>
    let d := ((d.set (Reg.ENC.SPEED.V k) 0).put (Reg.ENC.STAT.STILL k) true).ev .ENC k 8
    restartSpeed k d

/-- SE takes a level (R273): an accepted sheet edge is stamped, given to TRG's edge FIFOs and sent to the ring; one within
the lockout is rejected and counted. -/
def sheetEdge (k : Nat) (rising : Bool) (d : Dev) : Dev :=
  let d := setPin k 0 rising d
  let pol := d.get (Reg.ENC.CFG.SE_EDGE k)
  let wanted := pol == 2 || (pol == 0 && rising) || (pol == 1 && !rising)
  let flagged := d.is (Reg.ENC.CFG.SE_DIFF k) && d.bitOf (Reg.ENC.STAT.WIRE k) 0
  if wanted = false ∨ flagged = true ∨ d.inRun (pg .ENC k) = false then d
  else
    let near := match (d.enc k).travel with | some t => decide (t < d.get (Reg.ENC.SE_LOCK.COUNTS k)) | none => false
    if near then (d.bump (Reg.ENC.SE_REJ.COUNT k) 1).ev .ENC k 9
    else
      let d := d.setEnc k { d.enc k with travel := some 0 }
      let d := ((d.set (Reg.ENC.SE_TS.TS k) d.ts).set (Reg.ENC.SE_POS.POS k) (d.get (Reg.ENC.POS.POS k))).ev .ENC k 9
      let here := d.posAt d.time.up
      let d := if d.srcChannel = some k ∧ d.mode = 3 then pushEdge here d else d
      if d.ringRole = 2 ∧ d.get Reg.EMR.POS_CFG.CHAN = k then
        let e := if d.srcChannel = some k then here.fdiv 65536 else d.pos48 (Reg.ENC.POS.POS k) + d.posOff k
        d.broadcast 0x13 (leBytes 6 d.ts ++ leBytes 6 (ofSigned 48 e) ++ leBytes 1 k ++ leBytes 5 0 ++ leBytes 2 (d.get Reg.EMR.ROLE_STAT.EPOCH))
      else d

/-! ### Block control (R275) -/

/-- A channel starts to count when its ENABLE is set. -/
def encStart (k : Nat) (d : Dev) : Dev :=
  let d := if (d.enc k).counted then setUncertain k true d else d
  let d := d.setEnc k { d.enc k with counted := true }
  posSync (armStill k (restartSpeed k (d.put (Reg.ENC.STAT.RUN k) (d.get (Reg.ENC.STAT.WIRE k) / 4 == 0))))

/-- A channel stops counting in the next sample and holds POS, RAW and REF. -/
def encStop (k : Nat) (d : Dev) : Dev := posSync (setSpeedValid k false ((d.put (Reg.ENC.STAT.RUN k) false).disarm (.still k)))

/-- SOFT_RESET of a channel beside its configuration registers. -/
def encReset (k : Nat) (d : Dev) : Dev := setUncertain k false (d.setEnc k Enc.init)

end Sys2Proof.Machine
end

