-- ==== Sys2Proof/Machine/Ring.lean ====
section
/-!
DEFINITION. The Emriub ring (chapter 12): links coming up and going down, credits, receiving and forwarding cells, position
and time, roles and election, the census, commands, bulk data, and remote faults and events.
-/
namespace Sys2Proof.Machine

/-! ### Links (R281, R282, R287) -/

/-- The 20 ms a link has to come up. -/
def linkUpTime : Nat := 20 * ms

/-- A link starts to come up: it looks for block lock. -/
def linkSeek (l : Nat) (d : Dev) : Dev := (d.set (Reg.EML.LINK_STAT.STATE l) 1).arm (.linkUp l) linkUpTime

/-- A link leaves UP or gives up coming up: cells waiting on it are lost, and LINK_LOST is raised when it was UP. -/
def linkLeave (l next : Nat) (d : Dev) : Dev :=
  let was := d.linkUp l
  let e := d.eml l
  let d := (d.set (Reg.EML.LINK_STAT.STATE l) next).put (Reg.EML.LINK_STAT.PEER_VALID l) false
  let d := d.setEml l { e with txq := [], sent := [0, 0, 0, 0], freed := [0, 0, 0, 0], mine := [0, 0, 0, 0], exch := 0, dlys := [] }
  let d := (d.disarm (.ctlBlock l)).disarm (.delayX l)
  if was then (d.bump (Reg.EML.DROP_CNT.COUNT l) e.txq.length).raise l Kind.EML.LINK_LOST else d

/-- Block lock: the link goes on to HELLO and sends its own (step 1 and 2 of R282). -/
def blockLock (l : Nat) (d : Dev) : Dev :=
  let s := d.get (Reg.EML.LINK_STAT.STATE l)
  if d.enabled (pg .EML l) = false ∨ s = 2 ∨ s = 3 then d
  else
    let d := d.set (Reg.EML.LINK_STAT.STATE l) 2
    let d := if d.running (.linkUp l) then d else d.arm (.linkUp l) linkUpTime
    d.sendOn l (mkCell 1 d.ringAddr 0 0 0 0
      (leBytes 1 d.ringAddr ++ leBytes 2 d.emr.epoch ++ leBytes 1 (d.get Reg.EMR.CFG.ROLE) ++ leBytes 1 (d.get Reg.EMR.CFG.PRIO)))

/-- 16 invalid sync headers in 64 blocks: the link leaves UP, and looks for lock again. -/
def syncLoss (l : Nat) (d : Dev) : Dev := if d.linkUp l then linkSeek l (linkLeave l 1 d) else d

/-- The cells a link may send now that credits have come (R285, R287): class by class, TC0 first. -/
def flushLink (l : Nat) (d : Dev) : Dev :=
  let q := (d.eml l).txq
  let q := (List.range 4).flatMap fun t => q.filter fun c => cellClass (byteAt c 0) == t
  q.foldl (fun d c => d.sendOn l c) (d.setEml l { d.eml l with txq := [] })

/-- A control block as received (Table 12.1), `bs` before its CRC-8: a bad CRC-8 is counted (R499); a good one brings the peer's freed counts, and one
of another TYPE is no control block. -/
def controlBlock (l : Nat) (bs : Bytes) (crc : Nat) (d : Dev) : Dev :=
  if crc8 bs ≠ crc then d.bump (Reg.EML.CTL_ERR_CNT.COUNT l) 1
  else if d.linkUp l = false ∨ byteAt bs 0 ≠ 0x5A then d
  else flushLink l ((d.setEml l { d.eml l with freed := (List.range 4).map fun t => byteAt bs (1 + t) }).arm (.ctlBlock l) us)

/-- The control block that a link sends with each frame (Table 12.1): the buffers freed, the own address with HELLO complete, and
whether EMR is in RUN.  Frames leave every 84.48 ns by themselves, so a block is no output of a command. -/
def Dev.controlOut (d : Dev) (l : Nat) : Bytes :=
  let b := leBytes 1 0x5A ++ (List.range 4).flatMap (fun t => leBytes 1 (nth 0 (d.eml l).mine t)) ++
    leBytes 1 (d.ringAddr + 128 * d.get (Reg.EML.LINK_STAT.PEER_VALID l)) ++ leBytes 1 (b2n (d.inRun (pg .EMR 0)))
  b ++ leBytes 1 (crc8 b)

/-- No valid control block for 1 µs. -/
def controlTimeout (l : Nat) (d : Dev) : Dev := d.onTimer (.ctlBlock l) (syncLoss l)

/-- The link has not come up within 20 ms: FAILED, and a retry every 100 ms. -/
def linkUpTimeout (l : Nat) (d : Dev) : Dev :=
  d.onTimer (.linkUp l) fun d =>
    if d.linkUp l then d
    else ((d.set (Reg.EML.LINK_STAT.STATE l) 4).arm (.linkRetry l) (100 * ms)).raise l Kind.EML.LINK_FAILED

/-- A failed link tries again. -/
def linkRetry (l : Nat) (d : Dev) : Dev := d.onTimer (.linkRetry l) fun d => if d.enabled (pg .EML l) then linkSeek l d else d

/-! ### Roles (R294, R296, R301) -/

/-- Is epoch `a` higher than epoch `b`? -/
def epochHigher (a b : Nat) : Bool := decide (1 ≤ (a + 65536 - b) % 65536) && decide ((a + 65536 - b) % 65536 ≤ 32767)

/-- Is a manager (address, epoch) better than another? -/
def betterManager (a b : Nat × Nat) : Bool := epochHigher a.2 b.2 || (a.2 == b.2 && decide (a.1 < b.1))

/-- The manager followed, with its epoch. -/
def Dev.following (d : Dev) : Option (Nat × Nat) :=
  if d.is Reg.EMR.ROLE_STAT.MGR_VALID then some (d.get Reg.EMR.ROLE_STAT.MANAGER, d.get Reg.EMR.ROLE_STAT.EPOCH) else none

/-- The role shown changes: source 148. -/
def setRole (r : Nat) (d : Dev) : Dev := if d.ringRole = r then d else (d.set Reg.EMR.ROLE_STAT.ROLE r).ev .EMR 0 1

/-- The manager followed changes: source 147, and MANAGER_CHANGE when there was one before (R298). -/
def followManager (m epoch : Nat) (d : Dev) : Dev :=
  let old := d.following
  let d := ((d.set Reg.EMR.ROLE_STAT.MANAGER m).set Reg.EMR.ROLE_STAT.EPOCH epoch).put Reg.EMR.ROLE_STAT.MGR_VALID true
  let d := { d with emr := { d.emr with epoch := if epochHigher epoch d.emr.epoch then epoch else d.emr.epoch } }
  match old with
  | none => d.ev .EMR 0 0
  | some o => if o = (m, epoch) then d else d.raise 0 Kind.EMR.MANAGER_CHANGE { arg := m }

/-- The heartbeat-loss time starts again. -/
def armHbLoss (d : Dev) : Dev := if d.ringRole = 2 ∨ d.ringRole = 3 then d else d.arm .hbLoss (d.get Reg.EMR.TIMERS.HB_LOSS * us)

/-- The manager's cells stop, and it becomes a worker that awaits heartbeats. -/
def giveUp (d : Dev) : Dev :=
  armHbLoss (setRole 0 ((((d.disarm .posCell).disarm .timeCell).disarm .heartbeat).disarm .censusWait))

/-- A manager that hears a better one becomes a worker (R294). -/
def stepDown (d : Dev) : Dev :=
  if d.ringRole ≠ 2 then d
  else
    let d := giveUp d
    posSync (if d.get Reg.EMR.CFG.ROLE = 2 then d.raise 0 Kind.EMR.MANAGER_CONFLICT else d)

/-- A TC0 cell of a manager: is it from the one to follow?  A better one is followed from here (R294). -/
def hearManager (src epoch : Nat) (d : Dev) : Bool × Dev :=
  match d.following with
  | none => (true, followManager src epoch d)
  | some o =>
    if o = (src, epoch) then (true, d)
    else if betterManager (src, epoch) o then (true, followManager src epoch (stepDown d))
    else (false, d)

/-- The device finds its own address in use: it becomes passive (R301). -/
def addrConflict (d : Dev) : Dev := if d.ringRole = 3 then d else (setRole 3 (stepDown d)).raise 0 Kind.EMR.ADDR_CONFLICT

/-! ### The census and heartbeats (R297, R299, R300, R302) -/

/-- A member. -/
def Dev.member (d : Dev) (a : Nat) : Member := tget Member.init d.emr.members a

/-- A member replaced. -/
def Dev.setMember (d : Dev) (a : Nat) (m : Member) : Dev := { d with emr := { d.emr with members := tset Member.init a m d.emr.members } }

/-- The census is complete (R300): RING_DONE is set. -/
def censusDone (d : Dev) : Dev :=
  if d.is Reg.EMR.RING_STAT.CENSUS_DONE then d
  else ((d.put Reg.EMR.RING_STAT.CENSUS_DONE true).ev .EMR 0 3).bringup Reg.SYS.BRINGUP.RING_DONE true

/-- The manager's census is complete when it holds CFG.EXPECT members. -/
def censusCheck (d : Dev) : Dev :=
  let e := d.get Reg.EMR.CFG.EXPECT
  if d.ringRole = 2 ∧ e ≠ 0 ∧ d.get Reg.EMR.RING_STAT.MEMBERS = e then censusDone d else d

/-- A worker's census is complete once a heartbeat has named it and time is locked. -/
def workerCensus (d : Dev) : Dev :=
  if d.ringRole ≠ 2 ∧ d.bitOf Reg.EMR.CENSUS.MAP d.ringAddr = true ∧ d.is Reg.EMR.RING_STAT.TIME_LOCKED = true ∧ d.is Reg.EMR.ROLE_STAT.MGR_VALID = true
  then censusDone d else d

/-- Is a member's link up, by its STATUS, or this device's own? -/
def Dev.sideUp (d : Dev) (a side : Nat) : Bool :=
  if a = d.ringAddr then d.linkUp side else if side = 0 then (d.member a).east else (d.member a).west

/-- Of the members `ms`, those whose link of a side is down: the member says so itself, or the neighbour at the other end
of that link does, which lies one hop further on that side or one hop nearer on the other (R302). -/
def Dev.sideDown (d : Dev) (ms : List Nat) (side : Nat) : List Nat :=
  ms.filter fun a => !d.sideUp a side || ms.any fun b => !d.sideUp b (1 - side) &&
    (d.heardHops side b == d.heardHops side a + 1 || d.heardHops (1 - side) a == d.heardHops (1 - side) b + 1)

/-- The ring state, BREAK_A and BREAK_B, from what the members report (R302): SPLIT when a member is reached by neither
path.  A member no STATUS has come from yet says nothing about the ring. -/
def Dev.ringState (d : Dev) (map : Nat) : Nat × Nat × Nat :=
  let ms := (bitList 64 map).filter fun a => d.heardHops 0 a != 0xFF || d.heardHops 1 a != 0xFF
  let eastDown := d.sideDown ms 0
  let westDown := d.sideDown ms 1
  let state := if ms.any fun x => d.pathBroken 0 eastDown x && d.pathBroken 1 westDown x then 3
    else if eastDown = [] ∧ westDown = [] then 1 else 2
  (state, eastDown.headD 0, westDown.headD 0)

/-- The ring state takes a value; entering SPLIT raises RING_SPLIT. -/
def setRingState (s : Nat × Nat × Nat) (d : Dev) : Dev :=
  let was := d.get Reg.EMR.RING_STAT.STATE
  let d := ((d.set Reg.EMR.RING_STAT.STATE s.1).set Reg.EMR.RING_STAT.BREAK_A s.2.1).set Reg.EMR.RING_STAT.BREAK_B s.2.2
  if s.1 = 3 ∧ was ≠ 3 then d.raise 0 Kind.EMR.RING_SPLIT else d

/-- The member of highest PRIO that is a ready candidate, ties to the lower address (R297). -/
def Dev.pickStandby (d : Dev) (map : Nat) : Option Nat :=
  ((bitList 64 map).filter fun a => a != d.ringAddr && (d.member a).ready && (d.member a).role % 2 == 1).foldl
    (fun b a => match b with
      | none => some a
      | some x => if (d.member x).prio < (d.member a).prio then some a else b) none

/-- A heartbeat of the manager: census changes apply, a standby is named, the ring state is found, and all is published. -/
def heartbeatSend (d : Dev) : Dev :=
  let old := d.get Reg.EMR.CENSUS.MAP
  let map := andNot (setB (old ||| d.emr.joins) d.ringAddr) (clrB d.emr.leaves d.ringAddr)
  let joined := andNot map old
  let d := { d with emr := { d.emr with joins := 0, leaves := 0 } }
  let d := if map = old then d
    else
      let d := ((d.set Reg.EMR.CENSUS.MAP map).set Reg.EMR.RING_STAT.MEMBERS (bitList 64 map).length).set Reg.EMR.GEN.GEN
        ((d.get Reg.EMR.GEN.GEN + 1) % 65536)
      let d := if andNot joined (setB 0 d.ringAddr) = 0 then d else d.ev .EMR 0 2
      d.arm .censusWait (d.get Reg.EMR.CENSUS_WAIT.MS * ms)
  let d := setRingState (d.ringState map) d
  let stby := d.pickStandby map
  let d := (d.put Reg.EMR.ROLE_STAT.STBY_VALID stby.isSome).set Reg.EMR.ROLE_STAT.STANDBY (stby.getD 0)
  let d := censusCheck d
  d.broadcast 0x12
    (leBytes 2 (d.get Reg.EMR.ROLE_STAT.EPOCH) ++ leBytes 1 d.ringAddr ++ leBytes 1 (stby.getD 0xFF) ++ leBytes 2 (d.get Reg.EMR.GEN.GEN) ++
     leBytes 1 (d.get Reg.EMR.RING_STAT.STATE) ++ leBytes 1 (d.get Reg.EMR.RING_STAT.BREAK_A) ++ leBytes 1 (d.get Reg.EMR.RING_STAT.BREAK_B) ++
     leBytes 8 map ++ leBytes 1 (d.get Reg.EMR.RING_STAT.MEMBERS))

/-- HEARTBEAT_TIMER. -/
def heartbeatTimer (d : Dev) : Dev := if d.ringRole = 2 then d.onPeriod .heartbeat (100 * us) heartbeatSend else d

/-- CENSUS_WAIT has passed with the map unchanged (R300). -/
def censusWaitEnd (d : Dev) : Dev :=
  d.onTimer .censusWait fun d => if d.ringRole = 2 ∧ d.get Reg.EMR.CFG.EXPECT = 0 then censusDone d else d

/-- The device becomes manager (R296, R298): it starts its cells, sends a heartbeat at once and
awaits the STATUS of every other member. -/
def becomeManager (epoch : Nat) (off : Int) (d : Dev) : Dev :=
  let d := followManager d.ringAddr epoch d
  let d := setRole 2 (d.set Reg.EMR.POS_OFF.OFF (ofSigned 32 off))
  let d := { d with emr := { d.emr with claim := none, lastPos := none } }
  let d := ((((d.disarm .hbLoss).disarm .takeover).disarm .claimWait).disarm .managerStart).disarm .ringSource
  let d := heartbeatSend (((d.arm .posCell us).arm .timeCell (100 * us)).arm .heartbeat (100 * us))
  posSync (((bitList 64 (d.get Reg.EMR.CENSUS.MAP)).filter (· != d.ringAddr)).foldl (fun d a => d.arm (.member a) (3 * ms)) d)

/-- 1 ms after its first link reached UP, a configured manager starts with epoch 1 (R296). -/
def managerStart (d : Dev) : Dev :=
  d.onTimer .managerStart fun d => if d.get Reg.EMR.CFG.ROLE = 2 ∧ d.ringRole ≠ 3 then becomeManager 1 0 d else d

/-- Is this device a candidate? -/
def Dev.candidate? (d : Dev) : Bool := d.get Reg.EMR.CFG.ROLE == 1 || d.get Reg.EMR.CFG.ROLE == 3

/-- No heartbeat for HB_LOSS: a candidate sends its CLAIM (R296). -/
def hbLoss (d : Dev) : Dev :=
  d.onTimer .hbLoss fun d =>
    if d.candidate? = false ∨ d.ringRole = 2 ∨ d.ringRole = 3 then d
    else
      let epoch := (d.emr.epoch + 1) % 65536
      let d := { d with emr := { d.emr with claim := some epoch } }
      let d := d.broadcast 0x20 (leBytes 2 epoch ++ leBytes 1 (d.get Reg.EMR.CFG.PRIO))
      d.arm .claimWait (d.get Reg.EMR.TIMERS.CLAIM_WAIT * 10 * us)

/-- CLAIM_WAIT ends with no better claim heard: the device becomes manager. -/
def claimWaitEnd (d : Dev) : Dev :=
  d.onTimer .claimWait fun d => match d.emr.claim with | some e => becomeManager e 0 d | none => d

/-- The standby takes over (R298). -/
def takeoverNow (d : Dev) : Dev :=
  if d.ringRole ≠ 1 then d
  else becomeManager ((d.get Reg.EMR.ROLE_STAT.EPOCH + 1) % 65536) (toSigned 32 (d.get Reg.EMR.STBY_DIFF.DIFF)) d

/-- The standby awaits the manager's next POSITION cell: TAKEOVER clamps to 2 to 9 µs. -/
def armTakeover (d : Dev) : Dev := d.arm .takeover (clamp 2 9 (d.get Reg.EMR.TIMERS.TAKEOVER) * us)

/-- No POSITION cell for TAKEOVER µs. -/
def takeover (d : Dev) : Dev := d.onTimer .takeover takeoverNow

/-- EMR.CMD.HANDOVER (R298): the manager gives way to a named and ready standby, or refuses. -/
def handover (d : Dev) : Dev :=
  if d.ringRole = 2 ∧ d.is Reg.EMR.ROLE_STAT.STBY_VALID = true ∧ (d.member (d.get Reg.EMR.ROLE_STAT.STANDBY)).ready = true then
    posSync (giveUp d)
  else d.raise 0 Kind.EMR.HANDOVER_REFUSED

/-! ### Members' own cells (R299) -/

/-- Is this device ready to be standby (R297)? -/
def Dev.stbyReady (d : Dev) : Bool :=
  d.candidate? && d.inRun (pg .ENC (d.get Reg.EMR.POS_CFG.CHAN)) && d.is Reg.EMR.RING_STAT.TIME_LOCKED &&
  d.emr.tolSince != 0 && decide (d.emr.tolSince - 1 + ms ≤ d.time.up)

/-- A STATUS cell (Table 12.3). -/
def statusSend (d : Dev) : Dev :=
  let flags := b2n d.stbyReady + 2 * b2n (d.linkUp 0) + 4 * b2n (d.linkUp 1) + 8 * d.get Reg.EMR.RING_STAT.TIME_LOCKED
  d.broadcast 0x23 (leBytes 1 d.ringRole ++ leBytes 1 d.mode ++ leBytes 1 flags ++ leBytes 2 (d.get Reg.EMR.ROLE_STAT.EPOCH) ++
    leBytes 2 (ofSigned 16 (satS 16 (toSigned 32 (d.get Reg.EMR.STBY_DIFF.DIFF)))))

/-- STATUS_TIMER. -/
def statusTimer (d : Dev) : Dev := if d.emr.joined then d.onPeriod .status ms statusSend else d

/-- The link reaches UP (R282): credits, delay exchanges, JOIN and what a role starts with. -/
def linkReady (l : Nat) (d : Dev) : Dev :=
  let d := (d.set (Reg.EML.LINK_STAT.STATE l) 3).disarm (.linkUp l)
  let d := d.setEml l { d.eml l with sent := [0, 0, 0, 0], freed := [0, 0, 0, 0], mine := [0, 0, 0, 0], exch := 0, dlys := [] }
  let d := ((d.arm (.ctlBlock l) us).arm (.delayX l) us).ev .EML l 0
  if d.emr.joined then d
  else
    let d := if d.bitOf Reg.EMR.CENSUS.MAP d.ringAddr then addrConflict d else d
    let d := { d with emr := { d.emr with joined := true } }
    let d := d.broadcast 0x21 (leBytes 1 (d.get Reg.EMR.CFG.ROLE) ++ leBytes 1 (d.get Reg.EMR.CFG.PRIO))
    let d := armHbLoss (d.arm .status ms)
    if d.get Reg.EMR.CFG.ROLE = 2 then d.arm .managerStart ms else d

/-- A HELLO cell: step 2 of link-up, or an address conflict (R282, R301). -/
def hello (l addr epoch : Nat) (d : Dev) : Dev :=
  if d.get (Reg.EML.LINK_STAT.STATE l) ≠ 2 then d
  else
    let d := (d.set (Reg.EML.LINK_STAT.PEER l) addr).put (Reg.EML.LINK_STAT.PEER_VALID l) true
    let d := { d with emr := { d.emr with epoch := if epochHigher epoch d.emr.epoch then epoch % 65536 else d.emr.epoch } }
    let d := if addr % 64 = d.ringAddr then addrConflict d else d
    linkReady l d

/-! ### Link delay (R288) -/

/-- A delay exchange starts: DLY_REQ with its departure stamp, in 250 ps steps of TS. -/
def delayTimer (l : Nat) (d : Dev) : Dev :=
  if d.linkUp l = false then d
  else d.onPeriod (.delayX l) (if (d.eml l).exch < 16 then us else ms) fun d =>
    d.sendOn l (mkCell 2 d.ringAddr 0 0 0 0 (leBytes 8 d.time.ts))

/-- A DLY_REQ is answered. -/
def dlyReq (l t1 : Nat) (d : Dev) : Dev :=
  d.sendOn l (mkCell 3 d.ringAddr 0 0 0 0 (leBytes 8 t1 ++ leBytes 8 d.time.ts ++ leBytes 4 0))

/-- A DLY_RESP gives one link delay; DELAY shows the mean of the last 16, and after 16 the exchanges come every 1 ms. -/
def dlyResp (l t1 resid : Nat) (d : Dev) : Dev :=
  let e := d.eml l
  let one := ((((d.time.ts : Int) - t1) - resid) / 2).toNat
  let dl := (one :: e.dlys).take 16
  let d := d.setEml l { e with exch := e.exch + 1, dlys := dl }
  let d := if e.exch = 15 then d.arm (.delayX l) ms else d
  if dl.length = 16 then d.set (Reg.EML.DELAY.D l) (dl.foldl (· + ·) 0 / 16) else d

/-! ### Receiving cells (R286, R289) -/

/-- A receive buffer of a class is freed (R287). -/
def freeBuffer (l t : Nat) (d : Dev) : Dev :=
  let e := d.eml l
  if t < 4 then d.setEml l { e with mine := setNth ((nth 0 e.mine t + 1) % 256) e.mine t } else d

/-- A cell forwarded on the opposite link with HOPS + 1; a TC0 cell's CORR grows by the delay of the link it came by and
its residence time, which is a free value (R286, R289). -/
def forwardCell (type : Nat) (c : CellIn) (d : Dev) : Dev :=
  let stay := Config.freeValue d.free
  let corr := if cellClass type = 0 then min 0xFFFF (c.corr + d.get (Reg.EML.DELAY.D (c.link % 2)) + stay) else c.corr
  d.drawn.sendOn (1 - c.link % 2) (mkCell type c.src c.dst (c.hops + 1) c.seq corr c.payload)

/-- The hop count to a member by the side its STATUS came from (R299). -/
def hopsOf (c : CellIn) (d : Dev) : Dev :=
  let m := d.member (c.src % 64)
  d.setMember (c.src % 64) (if c.link % 2 = 0 then { m with hopsE := min 0xFE (c.hops + 1) } else { m with hopsW := min 0xFE (c.hops + 1) })

/-- Has a broadcast key been consumed already?  It is remembered, up to 256 for a source and class.  The first copy of a STATUS and
the one from the other side both give a hop count. -/
def seenKey (type : Nat) (c : CellIn) (d : Dev) : Bool × Dev :=
  let d := if type = 0x23 then hopsOf c d else d
  let key := (c.src, type, c.seq)
  if d.emr.seen.contains key then (true, d)
  else
    let same := fun k : Nat × Nat × Nat => k.1 == c.src && cellClass k.2.1 == cellClass type
    let mine := ((key :: d.emr.seen.filter same).take 256)
    (false, { d with emr := { d.emr with seen := mine ++ d.emr.seen.filter fun k => !same k } })

/-- An outstanding command ends. -/
def dropCmd (q : RingCmd) (d : Dev) : Dev := { d with emr := { d.emr with cmds := d.emr.cmds.filter fun x => x.tag != q.tag || x.dest != q.dest } }

/-- The result of a command for RCMD_STAT or BULK_STAT: 0 done, 1 timeout, 2 refused or bad, 3 absent. -/
def endCmd (q : RingCmd) (result : Nat) (d : Dev) : Dev :=
  let d := dropCmd q d
  let op := byteAt q.cell 8
  if q.bulk then
    let d := (d.put Reg.EMR.BULK_STAT.BUSY false).set Reg.EMR.BULK_STAT.RESULT result
    if result = 0 then d.ev .EMR 0 8 else d.raise 0 Kind.EMR.BULK_FAILED { arg := result }
  else if op = 2 ∨ op = 3 then ((d.put Reg.EMR.RCMD_STAT.BUSY false).set Reg.EMR.RCMD_STAT.RESULT result).ev .EMR 0 7
  else d

/-- A cell has come full circle (R286): a command to an absent address ends with REFUSED(ABSENT) (R304). -/
def cameBack (type : Nat) (c : CellIn) (d : Dev) : Dev :=
  if type = 0x24 ∧ c.dst / 128 = 0 then
    match d.emr.cmds.find? fun q => q.tag == byteAt c.payload 1 && q.dest == c.dst % 64 with
    | some q => endCmd q 3 d
    | none => d
  else d

/-- A received cell of a class above the link (R286): dropped, consumed, forwarded, or both.  Cells are consumed while EMR
is in RUN. -/
def receive (type : Nat) (c : CellIn) (consume : Dev → Dev) (d : Dev) : Dev :=
  let l := c.link % 2
  let t := cellClass type
  if d.linkUp l = false then d
  else
    let d := freeBuffer l t d
    if c.src % 64 = d.ringAddr then cameBack type c d
    else if 128 ≤ c.dst then
      let d := forwardCell type c d
      let s := seenKey type c d
      if s.1 = true ∨ s.2.inRun (pg .EMR 0) = false then s.2 else consume s.2
    else if c.dst % 64 = d.ringAddr then (if d.inRun (pg .EMR 0) then consume d else d)
    else forwardCell type c d

/-- A received link-local cell: consumed, never forwarded. -/
def receiveLocal (c : CellIn) (consume : Dev → Dev) (d : Dev) : Dev :=
  let s := d.get (Reg.EML.LINK_STAT.STATE (c.link % 2))
  if s = 2 ∨ s = 3 then consume d else d

/-- A cell whose CRC fails (R286): dropped and counted; too many in one second raise LINK_DEGRADED.  Its buffer is freed
(R287); the class that a cell with wrong bits is taken for is a free value, 4 a link-local cell's. -/
def cellCrcError (l : Nat) (d : Dev) : Dev :=
  let d := freeBuffer l (Config.freeValue d.free % 5) d.drawn
  let e := d.eml l
  let now := d.time.up / sec
  let n := if e.errSec = now then e.errs + 1 else 1
  let d := (d.setEml l { e with errs := n, errSec := now }).bump (Reg.EML.CRC_ERR_CNT.COUNT l) 1
  if n = max 1 (d.get (Reg.EML.DEGRADE.THRESH l)) then d.raise l Kind.EML.LINK_DEGRADED else d

/-- A cell of a type the device does not implement is forwarded like any other; consumed, it is counted and ignored. -/
def unknownCell (type : Nat) (c : CellIn) (d : Dev) : Dev :=
  let count := fun d : Dev => { d with emr := { d.emr with unknown := d.emr.unknown + 1 } }
  if cellClass type = 4 then receiveLocal c count d else receive type c count d

/-! ### Position (R291, R297) -/

/-- A 48-bit stamp restored to the TS nearest the device's own. -/
def nearTs (own low : Nat) : Nat := ((own : Int) + toSigned 48 (ofSigned 48 ((low : Int) - own))).toNat

/-- POSITION_CELL_TIMER: the manager's channel is broadcast. -/
def positionTimer (d : Dev) : Dev :=
  if d.ringRole ≠ 2 then d
  else d.onPeriod .posCell us fun d =>
    let k := d.get Reg.EMR.POS_CFG.CHAN
    let ts := d.get (Reg.ENC.EDGE_TS.TS k)
    let pos := ofSigned 48 (toSigned 48 (d.get (Reg.ENC.POS.POS k)) + d.posOff k)
    let same := d.emr.lastPos == some (ts, pos)
    let flags := d.get (Reg.ENC.STAT.SPEED_VALID k) + 2 * d.get (Reg.ENC.STAT.UNCERTAIN k) + 4 * b2n (d.saturated k) + 8 * b2n same
    let speed := ofSigned 40 (satS 40 (toSigned 48 (d.get (Reg.ENC.SPEED.V k))))
    let d := { d with emr := { d.emr with lastPos := some (ts, pos) } }
    d.broadcast 0x10 (leBytes 6 ts ++ leBytes 6 pos ++ leBytes 5 speed ++ leBytes 1 flags ++ leBytes 2 (d.get Reg.EMR.ROLE_STAT.EPOCH))

/-- STBY_DIFF follows the cells (R297); the named standby that leaves tolerance raises STANDBY_DRIFT. -/
def standbyDiff (edge : Nat) (pos : Int) (d : Dev) : Dev :=
  if d.get Reg.EMR.CFG.ROLE = 0 then d
  else
    let k := d.get Reg.EMR.POS_CFG.CHAN
    let dt := (edge : Int) - d.get (Reg.ENC.EDGE_TS.TS k)
    let here := toSigned 48 (d.get (Reg.ENC.POS.POS k)) + (toSigned 48 (d.get (Reg.ENC.SPEED.V k)) * dt).tdiv (2 ^ 32)
    let ds := (toSigned 48 (ofSigned 48 (pos - here)) :: d.emr.diffs).take 64
    let mean := (ds.foldl (· + ·) 0).tdiv ds.length
    let tol : Int := d.get Reg.EMR.STBY_TOL.FINE
    let inTol := decide (-tol ≤ mean) && decide (mean ≤ tol)
    let since := if inTol then (if d.emr.tolSince = 0 then d.time.up + 1 else d.emr.tolSince) else 0
    let lost := d.emr.tolSince != 0 && !inTol
    let d := { d with emr := { d.emr with diffs := ds, tolSince := since } }.set Reg.EMR.STBY_DIFF.DIFF (ofSigned 32 mean)
    if lost = true ∧ d.ringRole = 1 then d.raise 0 Kind.EMR.STANDBY_DRIFT { arg := ofSigned 32 mean } else d

/-- A POSITION cell consumed: from the best manager it freshens the ring source, and TRG takes it as an edge (R117, R291). -/
def positionCell (c : CellIn) (d : Dev) : Dev :=
  let p := c.payload
  let h := hearManager c.src (leAt p 18 2) d
  let d := h.2
  if h.1 = false ∨ d.ringRole = 2 then d
  else
    let edge := nearTs d.ts (leAt p 0 6)
    let pos := toSigned 48 (leAt p 6 6)
    let v := toSigned 40 (leAt p 12 5)
    let flags := byteAt p 17
    let d := standbyDiff edge pos d
    let d := if d.ringRole = 1 then armTakeover d else d
    let d := posSync ({ d with trg := { d.trg with cell := some (leAt p 6 6) } }.arm .ringSource (10 * us))
    if d.get Reg.TRG.SRC_SEL.SEL ≠ 4 ∨ d.mode = 5 then d
    else if flags.testBit 3 then
      scheduleAll (speedSync { d with trg := { d.trg with v := v, vok := flags.testBit 0 } })
    else
      let t := d.time.up - (d.time.ts - edge * tick)
      trgEdge t (d.unwrapPos (leAt p 6 6)) v (flags.testBit 0) d

/-- A SHEET_EDGE cell from the manager: the edge enters the FIFOs with the position the cell carries (R292). -/
def sheetEdgeCell (c : CellIn) (d : Dev) : Dev :=
  let h := hearManager c.src (leAt c.payload 18 2) d
  if h.1 = true ∧ h.2.ringRole ≠ 2 ∧ h.2.get Reg.TRG.SRC_SEL.SEL = 4 ∧ h.2.mode = 3 then
    pushEdge (h.2.unwrapPos (leAt c.payload 6 6)) h.2
  else h.2

/-! ### Time (R290) -/

/-- TIME_CELL_TIMER. -/
def timeTimer (d : Dev) : Dev :=
  if d.ringRole ≠ 2 then d
  else d.onPeriod .timeCell (100 * us) fun d => d.broadcast 0x11 (leBytes 8 d.ts ++ leBytes 2 (d.get Reg.EMR.ROLE_STAT.EPOCH))

/-- TIME_LOCKED: 8 cells in a row within ±2 ns set it, 2 in a row outside ±8 ns clear it. -/
def timeLock (off : Int) (d : Dev) : Dev :=
  let near := decide (off.natAbs ≤ 8)
  let far := decide (32 < off.natAbs)
  let ok := if near then d.emr.timeOk + 1 else 0
  let bad := if far then d.emr.timeBad + 1 else 0
  let d := { d with emr := { d.emr with timeOk := min 8 ok, timeBad := min 2 bad } }
  let locked := d.is Reg.EMR.RING_STAT.TIME_LOCKED
  if locked = false ∧ 8 ≤ ok then workerCensus ((d.put Reg.EMR.RING_STAT.TIME_LOCKED true).ev .EMR 0 6)
  else if locked = true ∧ 2 ≤ bad then
    { d with emr := { d.emr with timeNew := true } }.put Reg.EMR.RING_STAT.TIME_LOCKED false |>.raise 0 Kind.EMR.TIME_UNLOCK
  else d

/-- A TIME cell consumed by a worker: TS steps, or slews (R290). -/
def timeCell (c : CellIn) (d : Dev) : Dev :=
  let h := hearManager c.src (leAt c.payload 8 2) d
  let d := h.2
  if h.1 = false ∨ d.ringRole = 2 then d
  else
    let corr := min 0xFFFF (c.corr + d.get (Reg.EML.DELAY.D (c.link % 2)))
    let mgr := (leAt c.payload 0 8 * tick + corr) % tsWrap
    let off := toSigned 68 (ofSigned 68 ((mgr : Int) - d.time.ts))
    let d := d.set Reg.EMR.TS_OFF.OFFSET (ofSigned 32 (satS 32 off))
    let d := if d.printing = false ∨ d.emr.timeNew = true then
        { d with time := { d.time with ts := mgr / tick * tick }, emr := { d.emr with timeNew := false, slew := 0, slewAcc := 0 } }
      else
        let d := { d with emr := { d.emr with slew := off } }
        if d.get Reg.EMR.TIME_CFG.STEP_LIM * 4 < off.natAbs then d.raise 0 Kind.EMR.TIME_STEP_DENIED { arg := ofSigned 32 (satS 32 off) } else d
    timeLock off d

/-! ### Heartbeats, claims, members -/

/-- A HEARTBEAT cell consumed: census, ring state, the standby named, and the manager followed. -/
def heartbeatCell (c : CellIn) (d : Dev) : Dev :=
  let p := c.payload
  let h := hearManager c.src (leAt p 0 2) d
  let d := h.2
  if h.1 = false ∨ d.ringRole = 2 then d
  else
    let d := if bit (leAt p 9 8) d.ringAddr = true ∧ d.emr.joined = false then addrConflict d else d
    let d := armHbLoss ({ d with emr := { d.emr with claim := none } }.disarm .claimWait)
    let changed := d.get Reg.EMR.CENSUS.MAP != leAt p 9 8
    let d := ((d.set Reg.EMR.CENSUS.MAP (leAt p 9 8)).set Reg.EMR.RING_STAT.MEMBERS (byteAt p 17)).set Reg.EMR.GEN.GEN (leAt p 4 2)
    let d := if changed then d.ev .EMR 0 2 else d
    let d := { d with emr := { d.emr with joins := andNot d.emr.joins (leAt p 9 8), leaves := d.emr.leaves &&& leAt p 9 8 } }
    let d := setRingState (byteAt p 6, byteAt p 7, byteAt p 8) d
    let stby := byteAt p 3
    let d := (d.put Reg.EMR.ROLE_STAT.STBY_VALID (decide (stby < 64))).set Reg.EMR.ROLE_STAT.STANDBY (if stby < 64 then stby else 0)
    let d := if d.ringRole = 3 then d else if stby = d.ringAddr then
        (let d := setRole 1 d; if d.running .takeover then d else armTakeover d)
      else (if d.ringRole = 1 then (setRole 0 d).disarm .takeover else d)
    workerCensus d

/-- A CLAIM cell consumed: a better claim makes this device withdraw its own (R296). -/
def claimCell (c : CellIn) (d : Dev) : Dev :=
  let epoch := leAt c.payload 0 2
  let prio := byteAt c.payload 2
  let d := { d with emr := { d.emr with epoch := if epochHigher epoch d.emr.epoch then epoch else d.emr.epoch } }
  let own := d.get Reg.EMR.CFG.PRIO
  if d.emr.claim.isSome = true ∧ (own < prio ∨ (own = prio ∧ c.src < d.ringAddr)) then
    armHbLoss ({ d with emr := { d.emr with claim := none } }.disarm .claimWait)
  else d

/-- A JOIN cell consumed: the manager adds the member at its next heartbeat.  Another device keeps it until a heartbeat
publishes a census, so that a later manager knows who joined before it (R299). -/
def joinCell (c : CellIn) (d : Dev) : Dev :=
  let m := d.member (c.src % 64)
  let d := d.setMember (c.src % 64) { m with role := byteAt c.payload 0, prio := byteAt c.payload 1 }
  let d := { d with emr := { d.emr with joins := setB d.emr.joins (c.src % 64), leaves := clrB d.emr.leaves (c.src % 64) } }
  if d.ringRole = 2 then d.arm (.member (c.src % 64)) (3 * ms) else d

/-- A LEAVE cell consumed: the manager removes the member. -/
def leaveCell (c : CellIn) (d : Dev) : Dev :=
  let d := { d with emr := { d.emr with leaves := setB d.emr.leaves (c.src % 64), joins := clrB d.emr.joins (c.src % 64) } }
  if d.ringRole = 2 then (d.disarm (.member (c.src % 64))).ev .EMR 0 2 else d

/-- A STATUS cell consumed: readiness and links of the member; the manager awaits the next from a member of its census. -/
def statusCell (c : CellIn) (d : Dev) : Dev :=
  let flags := byteAt c.payload 2
  let m := d.member (c.src % 64)
  let d := d.setMember (c.src % 64) { m with ready := flags.testBit 0, east := flags.testBit 1, west := flags.testBit 2 }
  if d.ringRole = 2 ∧ bit (d.get Reg.EMR.CENSUS.MAP ||| d.emr.joins) (c.src % 64) = true then d.arm (.member (c.src % 64)) (3 * ms) else d

/-- A member's STATUS has been missing for 3 ms at the manager: MEMBER_LOST, and it leaves at the next heartbeat. -/
def memberTimeout (a : Nat) (d : Dev) : Dev :=
  d.onTimer (.member a) fun d =>
    if d.ringRole ≠ 2 then d
    else
      let d := d.setMember a { d.member a with ready := false, hopsE := 0xFF, hopsW := 0xFF }
      { d with emr := { d.emr with leaves := setB d.emr.leaves a } }.raise 0 Kind.EMR.MEMBER_LOST { arg := a }

/-! ### Commands (R304, R307) -/

/-- The ACK of a COMMAND: tag, result 0 done, 1 refused or 2 bad, and data. -/
def ackCmd (c : CellIn) (result data : Nat) (d : Dev) : Dev :=
  (d.unicast (d.pathTo (c.src % 64)) 0x25 (c.src % 64) (leBytes 1 (byteAt c.payload 1) ++ leBytes 1 result ++ leBytes 4 data)).2

/-- SLOWDOWN received: the manager records it and raises source 151; another member refuses it. -/
def slowdownCell (c : CellIn) (d : Dev) : Dev :=
  if d.ringRole = 2 then
    let d := (((d.put Reg.EMR.SLOW_REQ.VALID true).set Reg.EMR.SLOW_REQ.CAUSE (byteAt c.payload 2)).set Reg.EMR.SLOW_REQ.PORT
      (byteAt c.payload 3)).set Reg.EMR.SLOW_REQ.ADDR (c.src % 64)
    ackCmd c 0 0 ((d.bump Reg.EMR.SLOW_CNT.COUNT 1).ev .EMR 0 4)
  else ackCmd c 1 0 d

/-- The size of the receive window. -/
def Dev.bulkWindow (d : Dev) : Nat := let k := min 32 (d.get Reg.EMR.BULK_WIN_SIZE.LOG2); if k = 0 then 0 else 2 ^ k

/-- A BULK cell: 16 bytes written into the window, or dropped. -/
def bulkCell (c : CellIn) (d : Dev) : Dev :=
  let off := leAt c.payload 0 4
  let data := padTo 16 (c.payload.drop 4)
  if d.is Reg.EMR.CFG.BULK_RX_EN = false ∨ d.bulkWindow < off + 16 ∨ d.basinUp = false then d
  else
    let d := d.basinWrite (d.addr Reg.EMR.BULK_WIN.ADDR + off) data 2 0x33
    { d with emr := { d.emr with rxBulk := aset (c.src % 64) (((aget (c.src % 64) d.emr.rxBulk).getD []) ++ data) d.emr.rxBulk } }

/-- BULK_END received: ACK result 0 when the data written matches, 2 when it does not. -/
def bulkEnd (c : CellIn) (d : Dev) : Dev :=
  let got := (aget (c.src % 64) d.emr.rxBulk).getD []
  let d := { d with emr := { d.emr with rxBulk := adel (c.src % 64) d.emr.rxBulk } }
  ackCmd c (if got.length = leAt c.payload 2 4 ∧ crc32c got = leAt c.payload 6 4 then 0 else 2) 0 d

/-- An ACK ends the command of its tag. -/
def ackCell (c : CellIn) (d : Dev) : Dev :=
  match d.emr.cmds.find? fun q => q.tag == byteAt c.payload 0 && q.dest == c.src % 64 with
  | none => d
  | some q =>
    let r := byteAt c.payload 1
    let d := if q.read = true ∧ r = 0 then d.set Reg.EMR.RCMD_DATA.DATA (leAt c.payload 2 4) else d
    endCmd q (if r = 0 then 0 else 2) d

/-- No ACK within 50 µs: the oldest command is sent once more by the other path, or ends with CMD_TIMEOUT. -/
def cmdTimeout (d : Dev) : Dev :=
  match d.emr.cmds with
  | [] => d
  | q :: _ =>
    let d := d.advanceTo q.due
    if q.again then (endCmd q 1 d).raise 0 Kind.EMR.CMD_TIMEOUT { arg := q.dest }
    else
      let l := 1 - q.path
      let d := (dropCmd q d).sendOn l q.cell
      { d with emr := { d.emr with cmds := d.emr.cmds ++ [{ q with again := true, path := l, due := d.time.up + 50 * us }] } }

/-- RCMD.GO sends REG_READ or REG_WRITE. -/
def rcmdGo (d : Dev) : Dev :=
  if d.is Reg.EMR.RCMD_STAT.BUSY then d
  else
    let a := leBytes 4 (d.addr Reg.EMR.RCMD_ADDR.OFFSET)
    let w := d.is Reg.EMR.RCMD.WRITE
    let d := d.put Reg.EMR.RCMD_STAT.BUSY true
    d.command (d.get Reg.EMR.RCMD.DEST) (if w then 3 else 2) (if w then a ++ leBytes 4 (d.get Reg.EMR.RCMD_DATA.DATA) else a) false (!w)

/-- BULK_CMD.GO sends the data in cells of 16 bytes and then BULK_END. -/
def bulkGo (d : Dev) : Dev :=
  if d.is Reg.EMR.BULK_STAT.BUSY then d
  else
    let n := d.get Reg.EMR.BULK_LEN.LEN / 16
    let dest := d.get Reg.EMR.BULK_CMD.DEST
    let off := d.get Reg.EMR.BULK_DST.OFFSET
    let d := d.basinLoad 2 0x33 (d.addr Reg.EMR.BULK_SRC.ADDR) (16 * n) 0
    let data := d.basinRead (d.addr Reg.EMR.BULK_SRC.ADDR) (16 * n)
    if d.basinFails (d.addr Reg.EMR.BULK_SRC.ADDR) (16 * n) then (d.set Reg.EMR.BULK_STAT.RESULT 2).raise 0 Kind.EMR.BULK_FAILED { arg := 2 }
    else
      let d := d.put Reg.EMR.BULK_STAT.BUSY true
      let d := (List.range n).foldl (fun d i =>
        (d.unicast (d.pathTo dest) 0x40 dest (leBytes 4 (off + 16 * i) ++ (data.drop (16 * i)).take 16)).2) d
      d.command dest 4 (leBytes 4 (16 * n) ++ leBytes 4 (crc32c data)) true false

/-! ### Remote faults and events (R305, R306) -/

/-- A FAULT cell: recorded, and REMOTE_FAULT raised with its severity capped; it is not broadcast again. -/
def faultCell (c : CellIn) (d : Dev) : Dev :=
  let sev := byteAt c.payload 0
  let kind := byteAt c.payload 1
  let page := leAt c.payload 2 2
  let d := ((((d.put Reg.EMR.REM_FAULT.VALID true).set Reg.EMR.REM_FAULT.SEV sev).set Reg.EMR.REM_FAULT.KIND kind).set
    Reg.EMR.REM_FAULT.PAGE page).set Reg.EMR.REM_FAULT.ADDR (c.src % 64)
  let cap := min sev (d.get Reg.EMR.FAULT_CFG.CAP)
  let d := d.raiseAs 0 Kind.EMR.REMOTE_FAULT cap { arg := c.src % 64 + page % 1024 * 64 + kind * 65536 }
  { d with flt := { d.flt with inbox := d.flt.inbox.dropLast ++ (d.flt.inbox.getLast?.map fun m => { m with remote := true }).toList } }

/-- An EVENT cell: REMOTE_EV records the sender, and the slot's source rises. -/
def eventCell (c : CellIn) (d : Dev) : Dev :=
  let k := byteAt c.payload 0 % 4
  let old := d.get Reg.EMR.REMOTE_EV.ADDR
  let cleared := old - bits old (6 * k + 5) (6 * k) * 2 ^ (6 * k)
  (d.set Reg.EMR.REMOTE_EV.ADDR (cleared + c.src % 64 * 2 ^ (6 * k))).ev .EMR 0 (9 + k)

/-! ### Block control (R310) and views -/

/-- A link's ENABLE is cleared: it goes down after the current cell. -/
def emlStop (l : Nat) (d : Dev) : Dev := ((linkLeave l 0 d).disarm (.linkUp l)).disarm (.linkRetry l)

/-- EMR stops originating (ENABLE cleared, DRAIN, or KILL): a LEAVE and a handover first, unless killed. -/
def emrStop (leave : Bool) (reason : Nat) (d : Dev) : Dev :=
  let d := if leave = true ∧ d.ringRole = 2 ∧ d.is Reg.EMR.ROLE_STAT.STBY_VALID = true then handover d else d
  let d := if leave then d.broadcast 0x22 (leBytes 1 reason) else d
  let d := if d.ringRole = 2 then setRole 0 d else d
  let d := [TimerKey.posCell, .timeCell, .heartbeat, .status, .hbLoss, .claimWait, .takeover, .managerStart, .censusWait].foldl Dev.disarm d
  posSync ({ d with emr := { d.emr with stopped := true, claim := none, joined := false } })

/-- Every outstanding command and bulk transfer ends ABORTED, shown as a timeout (KILL, drain timeout). -/
def emrAbort (d : Dev) : Dev := d.emr.cmds.foldl (fun d q => endCmd q 1 d) d

/-- EMR originates again. -/
def emrStart (d : Dev) : Dev :=
  if d.emr.stopped = false then d
  else
    let d := { d with emr := { d.emr with stopped := false } }
    if d.linkUp 0 || d.linkUp 1 then
      let d := { d with emr := { d.emr with joined := true } }
      let d := d.broadcast 0x21 (leBytes 1 (d.get Reg.EMR.CFG.ROLE) ++ leBytes 1 (d.get Reg.EMR.CFG.PRIO))
      let d := armHbLoss (d.arm .status ms)
      if d.get Reg.EMR.CFG.ROLE = 2 then d.arm .managerStart ms else d
    else d

/-- The EMR fields computed when read. -/
def emrView (d : Dev) (f : Fld) : Option Nat :=
  let a := d.get Reg.EMR.HOPS_SEL.ADDR
  let hops := fun side => some (if a = d.ringAddr then 0xFF else d.hopsTo side a)
  if f = Reg.EMR.HOPS.EAST then hops 0 else if f = Reg.EMR.HOPS.WEST then hops 1 else none

/-- The EML fields computed when read: the credits of each class. -/
def emlView (d : Dev) (l : Nat) (f : Fld) : Option Nat :=
  if f = Reg.EML.CREDIT.AVAIL l then
    some ((List.range 4).foldl (fun a t => a + (if d.linkUp l then (d.eml l).credit t else 0) * 256 ^ t) 0)
  else none

end Sys2Proof.Machine
end

