-- ==== Sys2Proof/Machine/MemSys.lean ====
section
/-!
DEFINITION. Basin and Shallows requests, throttling, Turnover's scrubs and telemetry, and the wipes (chapter 13).
-/
namespace Sys2Proof.Machine

/-- The size of Basin in bytes (R313). -/
def basinSize : Nat := 2 ^ 35

/-! ### Telemetry sums (Table 13.4) -/

/-- The period's throttled time brought up to now. -/
def thrSync (d : Dev) : Dev :=
  let t := d.mem.tel
  let n := if d.is Reg.BAS.STAT.THROTTLED then d.time.up - t.thrAt else 0
  { d with mem := { d.mem with tel := { t with thr := t.thr + n, thrAt := d.time.up } } }

/-- A C5 request dropped (R320): counted, and its master, Turnover, told through TELEM_LOST (R324). -/
def c5Drop (d : Dev) : Dev :=
  let d := (d.bump Reg.BAS.C5_LOST.COUNT 1).bump Reg.TRN.TELEM_LOST.COUNT 1
  ({ d with mem := { d.mem with tel := { d.mem.tel with c5 := d.mem.tel.c5 + 1, held := none } } }).raise 0 Kind.TRN.TELEM_LOST

/-- The records the telemetry ring holds. -/
def Dev.telemSize (d : Dev) : Nat := 2 ^ clamp 4 15 (d.get Reg.TRN.TELEM_CFG.LOG2)

/-- A telemetry record written at the tail. -/
def telemPut (bs : Bytes) (d : Dev) : Dev :=
  let tail := d.get Reg.TRN.TELEM_TAIL.INDEX
  let a := d.get Reg.TRN.TELEM_BASE.ADDR * 64 + 64 * tail
  let d := if d.is Reg.TRN.TELEM_BASE.SPACE then d.emit (.hostWrite a bs) else d.basinWrite (a % basinSize) bs 5
  let d := d.set Reg.TRN.TELEM_TAIL.INDEX ((tail + 1) % d.telemSize)
  { d with mem := { d.mem with tel := { d.mem.tel with held := none } } }

/-! ### Basin requests (R313 to R321) -/

/-- A request's delay past its class deadline, in CORE_CLK cycles, added to its master's count (R319), which a DMA channel and a
lane also show in their own pages. -/
def delayed (master late : Nat) (d : Dev) : Dev :=
  if late = 0 then d
  else
    let d := { d with mem := { d.mem with dly := tset 0 master (satAdd 32 (tget 0 d.mem.dly master) late) d.mem.dly } }
    if 1 ≤ master ∧ master ≤ 0x20 then d.bump (Reg.DMA.DLY_CYC.COUNT (master - 1)) late
    else if 0x80 ≤ master ∧ master < 0xC0 then d.bump (Reg.DCM.DELAY_CNT.COUNT (master - 0x80)) late
    else d

/-- A posted host write that its target refuses reaches the host as a fault record and the event of source 0 (R43); the
chapter names no kind for it: ABSENT_TARGET, with the completion code in ARG (DESIGN CHOICE, notes/assumptions/12.md). -/
def hostRefused (code addr : Nat) (d : Dev) : Dev :=
  d.raise 0 Kind.SYS.ABSENT_TARGET { access := 2, master := 0, addr, arg := code }

/-- An access refused with a completion code: the code answers its master, and a host write is recorded. -/
def refusedAccess (master code addr : Nat) (write : Bool) (d : Dev) : Dev :=
  let d := d.emit (.completion master code)
  if master = 0 ∧ write = true then hostRefused code addr d else d

/-- A Basin request of `master` in class `cls`: refused, dropped, deferred, or served.  `data` is what it writes, `len`
what it reads; `err` strikes its first sector; `late` is its delay. -/
def basinRequest (master cls addr len : Nat) (write : Bool) (data : Bytes) (err late : Nat) (d : Dev) : Dev :=
  let n := if write then data.length else len
  if basinSize < addr + n then refusedAccess master 0x11 addr write d
  else if d.basinUp = false then refusedAccess master 0x10 addr write d
  else if cls = 5 ∧ d.is Reg.BAS.STAT.THROTTLED = true then c5Drop d
  else if cls = 5 ∧ write = true ∧ d.mem.tel.held.isSome = true then
    telemPut ((d.mem.tel.held.map (·.2)).getD []) (delayed master late d)
  else if cls = 4 ∧ write = true ∧ d.is Reg.BAS.STAT.THROTTLED = true then d.c4Write addr data master
  else
    let d := delayed master late d
    let d :=
      if write then
        let d := if addr % 32 = 0 ∧ n % 32 = 0 then d else strike err addr d
        d.basinWrite addr data cls master
      else
        let d := d.basinLoad cls master addr n err
        d.emit (.readBytes addr (d.basinRead addr n) (d.badSectors addr n != []))
    d.emit (.completion master (if late = 0 then 0 else 1))

/-- The corrected write-back of the oldest sector that awaits one (R316): `bad` when a second bit of it has failed. -/
def correctedWriteback (bad : Bool) (d : Dev) : Dev :=
  match d.mem.ce with
  | [] => d
  | s :: rest =>
    let d := { d with mem := { d.mem with ce := rest } }
    if d.basinUp = false then d
    else if bad then ueFound 0xFF 4 (upset s d) s
    else d.served 4 32

/-! ### Shallows (R317, R318) -/

/-- May the host write Shallows (R318)? -/
def Dev.shallowsOpen (d : Dev) : Bool := !d.printing

/-- What an access finds at a Shallows word: 1 a corrected error, 2 an uncorrectable one (R317). -/
def shallowsStrike (master w err : Nat) (d : Dev) : Dev :=
  let d :=
    if err = 1 then
      let d := d.bump Reg.SHL.CE_CNT.COUNT 1
      { d with mem := { d.mem with tel := { d.mem.tel with shlCe := d.mem.tel.shlCe + 1 } } }
    else if err = 2 then
      let d := { d with shallows := memWrite 0 (8 * w) (d.freeBytes 8) d.shallows }
      { d.drawn with mem := { d.mem with shlUe := if d.mem.shlUe.contains w then d.mem.shlUe else d.mem.shlUe ++ [w] } }
    else d
  if d.mem.shlUe.contains w then
    let d := d.bump Reg.SHL.UE_CNT.COUNT 1
    let d := if d.is Reg.SHL.UE_LOC.VALID then d
      else (((d.put Reg.SHL.UE_LOC.VALID true).set Reg.SHL.UE_LOC.SLICE (w / 65536)).set Reg.SHL.UE_LOC.MASTER master).set
        Reg.SHL.UE_LOC.WORD (w % 65536)
    d.raise 0 Kind.SHL.SHL_UE { access := 1, master, addr := 8 * w }
  else d

/-- A host write to Shallows that a print mode discards. -/
def shallowsLocked (a : Nat) (d : Dev) : Dev := d.raise 0 Kind.SHL.SHL_LOCKED { access := 2, master := 0, addr := a }

/-- A Shallows access: `data` written at byte `a`, or `n` bytes of the 8-byte word there read. -/
def shallowsAccess (master a n : Nat) (write : Bool) (data : Bytes) (err : Nat) (d : Dev) : Dev :=
  if 2 ^ 25 < a + (if write then data.length else n) then refusedAccess master 0x11 a write d
  else if d.inRun (pg .SHL 0) = false then refusedAccess master 0x10 a write d
  else if write then
    if master = 0 ∧ d.shallowsOpen = false then shallowsLocked a d else d.shallowsWrite a data
  else
    let d := shallowsStrike master (a / 8) err d
    d.emit (.readBytes a (memRead 0 d.shallows a n) (d.mem.shlUe.contains (a / 8)))

/-! ### Throttling (R320) -/

/-- The lowest lane slack in µs (R149). -/
def Dev.lowSlack (d : Dev) : Int := (List.range 64).foldl (fun m n => min m (d.slack n)) 32767

/-- STAT.THROTTLED changes: source 244 (R320). -/
def setThrottle (on : Bool) (d : Dev) : Dev :=
  if d.is Reg.BAS.STAT.THROTTLED = on then d else ((thrSync d).put Reg.BAS.STAT.THROTTLED on).ev .BAS 0 3

/-- Throttling engages while the lowest slack is below the threshold. -/
def throttleEngage (d : Dev) : Dev :=
  if d.inRun (pg .BAS 0) = true ∧ d.lowSlack < (d.get Reg.BAS.THROTTLE.SLACK_US : Nat) then (List.range 64).foldl (fun d n => slackLow n d) (setThrottle true d)
  else d

/-- A class C4 request that waited is served: past its deadline of 100 µs it completes DONE_DELAYED, and its master's delayed
cycles grow by the CORE_CLK cycles it is late by (R319, Table 13.2). -/
def servedLate (w : Deferred) (d : Dev) : Dev :=
  if d.basinUp = false then refusedAccess w.master 0x10 w.addr true d
  else
    let late := (d.time.up - w.since - 100 * us) / 4
    ((delayed w.master late d).basinWrite w.addr w.data 4 w.master).emit (.completion w.master (if late = 0 then 0 else 1))

/-- Throttling releases, and the class C4 requests that waited are served in order. -/
def throttleRelease (d : Dev) : Dev :=
  if d.is Reg.BAS.STAT.THROTTLED = true ∧ 5 * (d.get Reg.BAS.THROTTLE.SLACK_US : Nat) ≤ 4 * d.lowSlack then
    let ws := d.mem.wait
    let d := setThrottle false { d with mem := { d.mem with wait := [] } }
    ws.foldl (fun d w => servedLate w d) d
  else d

/-- The C5 request that waits passes its deadline. -/
def c5Deadline (d : Dev) : Dev := if d.mem.tel.held.isSome then c5Drop d else d

/-! ### Turnover (R322 to R324) -/

/-- Does a Turnover task run (R322, R326)? -/
def Dev.task (d : Dev) (f : Fld) : Bool := d.inRun (pg .TRN 0) && d.is f

/-- The end of a Basin scrub pass. -/
def scrubPassEnd (d : Dev) : Dev :=
  let took := d.time.up - d.mem.scrubT
  let late := d.running .scrubB && decide (d.get Reg.TRN.SCRUB_B.PERIOD_S * sec < took)
  let d := ((d.disarm .scrubB).set Reg.TRN.SCRUB_B_TS.TS d.ts).set Reg.TRN.SCRUB_B_STAT.LAST_S (min 65535 (took / sec))
  let d := { d with mem := { d.mem with scrubAt := 0 } }
  let d := (d.set Reg.TRN.SCRUB_B_STAT.DONE 0).ev .TRN 0 0
  if late then d.raise 0 Kind.TRN.SCRUB_LATE else d

/-- Turnover scrubs the next 256 bytes of Basin (R323): the errors it finds are those given by sector. -/
def scrubBurst (errs : List Nat) (d : Dev) : Dev :=
  if d.task Reg.TRN.TASK_EN.BSCRUB = false ∨ d.basinUp = false then d
  else
    let a := d.mem.scrubAt
    let d := if a = 0 then ({ d with mem := { d.mem with scrubT := d.time.up } }).arm .scrubB (d.get Reg.TRN.SCRUB_B.PERIOD_S * sec) else d
    let d := ((List.range 8).foldl (fun d i => strike (nth 0 errs i) (a + 32 * i) d) d).served 4 256
    let d := (d.badSectors a 256).foldl (ueFound 0xFF 1) d
    let d := { d with mem := { d.mem with scrubAt := a + 256 } }
    if a + 256 = basinSize then scrubPassEnd d else d.set Reg.TRN.SCRUB_B_STAT.DONE ((a + 256) * 256 / basinSize)

/-- The Basin scrub pass has lasted its whole period (R323). -/
def scrubLate (d : Dev) : Dev := d.onTimer .scrubB fun d => d.raise 0 Kind.TRN.SCRUB_LATE

/-- The words of each slice. -/
def sliceWords : Nat := 65536

/-- Turnover scrubs the next word of a Shallows slice (R323). -/
def scrubWord (slice err : Nat) (d : Dev) : Dev :=
  let k := tget 0 d.mem.sAt slice
  if d.task Reg.TRN.TASK_EN.SSCRUB = false ∨ d.inRun (pg .SHL 0) = false ∨ 64 ≤ slice ∨ sliceWords ≤ k then d
  else
    let d := if d.mem.sAt = [] then { d with mem := { d.mem with sT := d.time.up } } else d
    let d := shallowsStrike 0xFF (slice * sliceWords + k) err d
    let at_ := tset 0 slice (k + 1) d.mem.sAt
    let d := { d with mem := { d.mem with sAt := at_ } }
    if (List.range 64).all (fun n => tget 0 at_ n == sliceWords) then
      let took := (d.time.up - d.mem.sT) / ms
      let d := { d with mem := { d.mem with sAt := [] } }
      let d := (d.set Reg.TRN.SCRUB_S_STAT.LAST_MS (min 65535 took)).set Reg.TRN.SCRUB_S_STAT.PASSES (d.get Reg.TRN.SCRUB_S_STAT.PASSES + 1)
      let d := d.ev .TRN 0 0
      if max 1000 (d.get Reg.TRN.SCRUB_S.PERIOD_MS) < took then d.raise 0 Kind.TRN.SCRUB_LATE else d
    else d

/-- The bytes of the present period's telemetry record (Table 13.4). -/
def Dev.telemBytes (d : Dev) : Bytes :=
  let t := d.mem.tel
  let cls (c : Nat) : Bytes := leBytes 4 (min (2 ^ 32 - 1) (tget 0 t.bytes c / 4096))
  let bs := leBytes 8 d.ts ++ cls 0 ++ cls 1 ++ cls 2 ++ cls 3 ++ cls 4 ++ cls 5 ++ leBytes 2 (ofSigned 16 t.slack) ++
    leBytes 2 (d.get Reg.CAL.DIE_T.NOW) ++ leBytes 4 t.basCe ++ leBytes 4 t.shlCe ++ leBytes 4 (t.thr / us) ++ leBytes 4 t.c5 ++ leBytes 8 0
  bs ++ leBytes 4 (crc32c bs)

/-- A telemetry period ends (R324): its record is written, lost, or waits for the class C5 service. -/
def telemetryRecord (waits : Bool) (d : Dev) : Dev :=
  d.onPeriod .telem (max 1 (d.get Reg.TRN.TELEM_CFG.PERIOD_MS) * ms) fun d =>
    if d.task Reg.TRN.TASK_EN.TELEM = false then d
    else
      let d := thrSync d
      let bs := d.telemBytes
      let held := d.mem.tel.held
      let d := { d with mem := { d.mem with tel := Telem.start d.time.up held } }
      let basin := !d.is Reg.TRN.TELEM_BASE.SPACE
      if (d.get Reg.TRN.TELEM_TAIL.INDEX + 1) % d.telemSize = d.get Reg.TRN.TELEM_HEAD.INDEX then
        (d.bump Reg.TRN.TELEM_LOST.COUNT 1).raise 0 Kind.TRN.TELEM_LOST
      else if basin = true ∧ d.basinUp = false then (d.bump Reg.TRN.TELEM_LOST.COUNT 1).raise 0 Kind.TRN.TELEM_LOST
      else if basin = true ∧ d.is Reg.BAS.STAT.THROTTLED = true then c5Drop d
      else if basin = true ∧ waits = true then { d with mem := { d.mem with tel := { d.mem.tel with held := some (d.get Reg.TRN.TELEM_TAIL.INDEX, bs) } } }
      else telemPut bs d

/-! ### Wipes (R325) -/

/-- A Basin wipe starts, or starts again from address 0; `own` is the wipe of BAS's own SOFT_RESET. -/
def basinWipe (own : Bool) (d : Dev) : Dev :=
  let d := loseProvider (pg .BAS 0) 0x7F d.consumers d
  let d := (d.put Reg.BAS.STAT.WIPING true).setBlk (pg .BAS 0) (if own then 5 else 6)
  healthSync (d.bringup Reg.SYS.BRINGUP.BASIN_READY false)

/-- A Shallows wipe starts: no line of any slot is valid any more. -/
def shallowsWipe (own : Bool) (d : Dev) : Dev :=
  let d := loseProvider (pg .SHL 0) 0x7F d.consumers d
  let d := { d with mem := { d.mem with shlWipe := true } }
  (d.setBlk (pg .SHL 0) (if own then 5 else 6))

/-- A wiped block returns to RUN when its ENABLE is 1 and no DRAIN holds it OFFLINE. -/
def wipedState (page : Nat) (d : Dev) : Dev :=
  if d.blk page = 0 ∨ d.blk page = 7 then d else
  let d := d.put (Reg.HDR.SOFT_RESET page) false
  if d.enabled page = true ∧ d.is (Reg.HDR.DRAIN page) = false then d.setBlk page 2 else d.setBlk page 6

/-- The Basin wipe ends: zeros with valid check bits, BASIN_READY, sources 7 and 243. -/
def basinWipeDone (d : Dev) : Dev :=
  if d.is Reg.BAS.STAT.WIPING = false then d
  else
    let d := { d with basin := [], mem := { d.mem with ue := [], ce := [], wait := [] } }
    let d := wipedState (pg .BAS 0) ((d.put Reg.BAS.STAT.WIPING false).put (Reg.HDR.SOFT_RESET (pg .BAS 0)) false)
    healthSync ((d.bringup Reg.SYS.BRINGUP.BASIN_READY true).ev .BAS 0 2)

/-- The Shallows wipe ends: zeros with valid check bits, SHALLOWS_READY, and every slot empty. -/
def shallowsWipeDone (d : Dev) : Dev :=
  if d.mem.shlWipe = false then d
  else
    let d := { d with shallows := [], mem := { d.mem with shlUe := [], shlWipe := false } }
    let d := (List.range 64).foldl (fun d n =>
      d.setPipe n { d.pipe n with slots := (d.pipe n).slots.map fun s => (s.1, { s.2 with valid := 0 }) }) d
    let d := wipedState (pg .SHL 0) (d.put (Reg.HDR.SOFT_RESET (pg .SHL 0)) false)
    d.bringup Reg.SYS.BRINGUP.SHALLOWS_READY true

/-! ### What a register read shows, and clearing -/

/-- The BAS fields that are not register contents: READY and the selected master's delayed cycles. -/
def basView (d : Dev) (f : Fld) : Option Nat :=
  if f = Reg.BAS.STAT.READY then some (d.get Reg.SYS.BRINGUP.BASIN_READY)
  else if f = Reg.BAS.DLY_CNT.COUNT then some (tget 0 d.mem.dly (d.get Reg.BAS.DLY_SEL.MASTER))
  else none

/-- A read of DLY_CNT clears the selected master's count (RC). -/
def dlyClear (d : Dev) : Dev := { d with mem := { d.mem with dly := tset 0 (d.get Reg.BAS.DLY_SEL.MASTER) 0 d.mem.dly } }

/-- UE_ADDR.VALID written 1 clears the pair. -/
def ueAddrClear (d : Dev) : Dev :=
  ((d.put Reg.BAS.UE_ADDR.VALID false).set Reg.BAS.UE_ADDR.MASTER 0).set Reg.BAS.UE_ADDR.ADDR 0

/-- UE_LOC.VALID written 1 releases it. -/
def ueLocClear (d : Dev) : Dev := d.put Reg.SHL.UE_LOC.VALID false

/-- KILL of BAS ends accepted bursts with ABORTED: those that wait are discarded (R326). -/
def basKill (d : Dev) : Dev :=
  let held := d.mem.tel.held
  let d := if d.mem.wait ≠ [] ∨ held.isSome = true then d.put (Reg.HDR.ABORTED (pg .BAS 0)) true else d
  { d with mem := { d.mem with wait := [], tel := { d.mem.tel with held := none } } }

/-- SOFT_RESET of TRN: the passes and the telemetry period begin anew. -/
def trnReset (d : Dev) : Dev :=
  let d := d.disarm .scrubB
  { d with mem := { d.mem with scrubAt := 0, sAt := [], tel := Telem.start d.time.up none } }

end Sys2Proof.Machine
end

