-- ==== Sys2Proof/Machine/Dma.lean ====
section
/-!
DEFINITION. Yaska channels (chapter 14): running, instruction fetch and decode, loops, waits, signals and run ends.
The instructions that reach the register pages (MOVE and SET) are in Yaska.lean, after the bus.
-/
namespace Sys2Proof.Machine

/-- A channel beside its registers. -/
def Dev.dma (d : Dev) (n : Nat) : DmaChan := tget DmaChan.init d.dmas n

/-- A channel replaced. -/
def Dev.setDma (d : Dev) (n : Nat) (c : DmaChan) : Dev := { d with dmas := tset DmaChan.init n c d.dmas }

/-- The master ID of a channel (R328). -/
def dmaMaster (n : Nat) : Nat := 0x01 + n

/-- The byte address of PC. -/
def Dev.dmaPc (d : Dev) (n : Nat) : Nat := d.get (Reg.DMA.PC.ADDR n) * 16

/-! ### The end of a run (R341, R342) -/

/-- The completion code of a cause that is not NONE (Table 14.5). -/
def dmaCode (cause : Nat) : Nat :=
  if cause ≤ 4 then 0x14 else if cause = 5 then 0x11 else if cause = 6 then 0x10 else if cause = 0x0D then 0x21 else 0x20

/-- The fault kind of a cause (Table 14.8). -/
def dmaKind (cause : Nat) : Option FKind :=
  if cause = 0 then none
  else if cause ≤ 4 then some Kind.DMA.DMA_PROGRAM
  else if cause ≤ 6 then some Kind.DMA.DMA_ACCESS
  else if cause ≤ 8 then some Kind.DMA.DMA_DATA
  else if cause = 0x0C then some Kind.DMA.DMA_TIMEOUT
  else none

/-- A run ends with a code and cause; PC and the loop state are kept.  A channel in RUN or STOPPED_PENDING becomes IDLE; one
that drains goes on to the state it drains for, and one that is OFFLINE stays so (R38, R39). -/
def dmaEnd (n code cause : Nat) (d : Dev) : Dev :=
  let c := d.dma n
  let d := ((d.forget (pg .DMA n)).setDma n
    { c with run := false, lines := [], cur := none, move := none, edge := false, until_ := none }).disarm (.dmaWait n)
  let d := if aget (pg .DMA n) d.stopping = some .enable then { d with stopping := adel (pg .DMA n) d.stopping } else d
  let d := ((d.set (Reg.DMA.STAT.CODE n) code).set (Reg.DMA.STAT.CAUSE n) cause).put (Reg.DMA.FLAGS.WAITING n) false
  let d := if d.blk (pg .DMA n) = 2 ∨ d.blk (pg .DMA n) = 4 then d.setBlk (pg .DMA n) 1 else d
  let d := (d.put (Reg.DMA.FLAGS.ENDED n) true).setBit Reg.DMAC.END_MAP.ENDED n
  if cause = 0 then d.ev .DMA n 0 else (d.setBit Reg.DMAC.ERR_MAP.ERR n).ev .DMA n 2

/-- A run fails: ERR_ADDR and ERR_INFO name the failing access when there is one. -/
def dmaFail (n cause : Nat) (access : Option (Nat × Nat × Nat)) (d : Dev) : Dev :=
  let d := match access with
    | some (_, sp, a) => (d.set (Reg.DMA.ERR_ADDR.ADDR n) (a % 2 ^ 64)).set (Reg.DMA.ERR_INFO.SPACE n) sp
    | none => d
  let d := dmaEnd n (dmaCode cause) cause d
  match dmaKind cause, access with
  | some k, some (acc, _, a) => d.raise n k { access := acc, master := dmaMaster n, addr := a % 2 ^ 64 }
  | some k, none => d.raise n k { access := 4, master := dmaMaster n, addr := d.dmaPc n }
  | none, _ => d

/-- Is a run under way or pending? -/
def Dev.dmaRuns (d : Dev) (n : Nat) : Bool := (d.dma n).run

/-- A run under way is ended from outside: 0x09 KILLED, 0x0A DRAIN_TIMEOUT, 0x0B REVOKED, 0x0D DOMAIN.  ABORTED is set
when a request ended with it. -/
def dmaCut (n cause : Nat) (d : Dev) : Dev :=
  if d.dmaRuns n then
    let d := if (d.dma n).move.isSome then d.put (Reg.HDR.ABORTED (pg .DMA n)) true else d
    dmaEnd n (dmaCode cause) cause d
  else d

/-! ### Start and resume (R340) -/

/-- A START or RESUME that is discarded. -/
def dmaBusy (n : Nat) (d : Dev) : Dev := d.raise n Kind.DMA.DMA_BUSY

/-- The channel runs, or waits for ENABLE. -/
def dmaGo (n : Nat) (d : Dev) : Dev :=
  (d.setDma n { d.dma n with run := true }).setBlk (pg .DMA n) (if d.enabled (pg .DMA n) then 2 else 4)

/-- CMD.START. -/
def dmaStart (n : Nat) (d : Dev) : Dev :=
  if d.blk (pg .DMA n) ≠ 1 then dmaBusy n d
  else
    let d := ((d.set (Reg.DMA.PC.ADDR n) (d.get (Reg.DMA.PROG.ADDR n))).set (Reg.DMA.PC.SPACE n) (d.get (Reg.DMA.PROG.SPACE n))).setDma n
      DmaChan.init
    let d := d.resetFields [Reg.DMA.STAT.ARG n, Reg.DMA.STAT.CAUSE n, Reg.DMA.STAT.CODE n, Reg.DMA.FLAGS.WAITING n,
      Reg.DMA.FLAGS.FETCH n, Reg.DMA.FLAGS.DELAYED n, Reg.DMA.FLAGS.ENDED n]
    dmaGo n (d.set (Reg.DMA.LOOP.DEPTH n) 0)

/-- CMD.RESUME: the ended run goes on at PC. -/
def dmaResume (n : Nat) (d : Dev) : Dev :=
  if d.blk (pg .DMA n) ≠ 1 then dmaBusy n d
  else if d.is (Reg.DMA.FLAGS.ENDED n) then dmaGo n d
  else d

/-! ### Instruction fetch and decode (R329, R331) -/

/-- The cause with which an instruction's own bits end the program (Tables 14.2, 14.3); 0 when they are sound. -/
def dmaCheck (w : Nat) : Nat :=
  let op := bits w 127 120
  let bad : Bool :=
    if op = 0x10 then bits w 113 112 != 0
    else if op = 0x20 then bits w 117 96 != 0 || bits w 95 64 == 0
    else if op = 0x21 then bits w 117 0 != 0
    else if op = 0x30 then bits w 119 118 == 3 || bits w 116 104 != 0 || bits w 95 32 != 0
    else if op = 0x31 then bits w 119 8 != 0
    else if op = 0x40 then
      decide (2 ≤ bits w 119 118) || bits w 95 64 != 0 || (bits w 119 118 == 1 && bits w 117 96 != 0)
    else if op = 0x50 then bits w 119 0 != 0
    else bits w 119 16 != 0
  if op ≠ 0x10 ∧ op ≠ 0x20 ∧ op ≠ 0x21 ∧ op ≠ 0x30 ∧ op ≠ 0x31 ∧ op ≠ 0x40 ∧ op ≠ 0x50 ∧ op ≠ 0x7F then 1
  else if bad then 2 else 0

/-- Is a channel in RUN, and not on its way to a stop? -/
def Dev.dmaGoes (d : Dev) (n : Nat) : Bool := d.inRun (pg .DMA n) && (aget (pg .DMA n) d.stopping).isNone

/-- The opcode of the decoded instruction that a running channel is to execute; 0 where there is none. -/
def Dev.dmaOp (d : Dev) (n : Nat) : Nat :=
  match (d.dma n).cur with
  | some w => if d.dmaGoes n && (d.dma n).move.isNone && !d.is (Reg.DMA.FLAGS.WAITING n) then bits w 127 120 else 0
  | none => 0

/-- The decoded instruction. -/
def Dev.dmaWord (d : Dev) (n : Nat) : Nat := ((d.dma n).cur).getD 0

/-- The instruction at PC is complete: PC moves on. -/
def dmaNext (n : Nat) (d : Dev) : Dev :=
  (d.set (Reg.DMA.PC.ADDR n) (d.get (Reg.DMA.PC.ADDR n) + 1)).setDma n { d.dma n with cur := none, move := none }

/-- The instruction at PC is decoded from its line. -/
def dmaDecode (n : Nat) (line : Bytes) (d : Dev) : Dev :=
  let w := leAt line (d.dmaPc n % 64) 16
  let cause := dmaCheck w
  if cause = 0 then d.setDma n { d.dma n with cur := some w } else dmaFail n cause none d

/-- A program line arrives (R329): the line of PC, or one of the two ahead of it; the instruction at PC is decoded when
its line is there.  `host` is the line as host memory gives it, `err` what the read meets (Basin: 1 a corrected, 2 an
uncorrectable error; host: not 0 a failed read). -/
def instructionFetch (n ahead : Nat) (host : Bytes) (err : Nat) (d : Dev) : Dev :=
  let c := d.dma n
  if d.dmaGoes n = false ∨ c.cur.isSome = true ∨ c.move.isSome = true ∨ 2 < ahead then d
  else
    let here := d.dmaPc n / 64
    let keep := c.lines.filter fun l => decide (here ≤ l.1) && decide (l.1 ≤ here + 2)
    let a := (here + ahead) * 64
    let inHost := d.is (Reg.DMA.PC.SPACE n)
    let d := if inHost = true ∨ basinSize ≤ a then d else d.basinLoad 2 (dmaMaster n) a 64 err
    let cause :=
      if inHost then (if err = 0 then 0 else 8)
      else if basinSize ≤ a then 5
      else if d.basinUp = false then 6
      else if d.badSectors a 64 ≠ [] then 7
      else 0
    let got := if inHost then padTo 64 host else d.basinRead a 64
    match aget here keep with
    | some l =>
      let lines := if cause = 0 then aset (here + ahead) got keep else keep
      dmaDecode n l (d.setDma n { c with lines := if ahead = 0 then keep else lines })
    | none =>
      if ahead ≠ 0 then (if cause = 0 then d.setDma n { c with lines := aset (here + ahead) got keep } else d)
      else if cause ≠ 0 then
        dmaFail n cause (some (1, if inHost then 2 else 0, a)) (d.put (Reg.DMA.FLAGS.FETCH n) true)
      else dmaDecode n got (d.setDma n { c with lines := aset here got keep })

/-! ### Loops (R333) -/

/-- Open levels shown in LOOP.DEPTH. -/
def dmaDepth (n : Nat) (ls : List DmaLoop) (d : Dev) : Dev :=
  (d.setDma n { d.dma n with loops := ls }).set (Reg.DMA.LOOP.DEPTH n) ls.length

/-- LOOP_BEGIN. -/
def loopBegin (n : Nat) (d : Dev) : Dev :=
  if d.dmaOp n ≠ 0x20 then d
  else
    let w := d.dmaWord n
    let ls := (d.dma n).loops
    let lv := bits w 119 118
    if lv ≠ ls.length ∨ 3 ≤ ls.length then dmaFail n 3 none d
    else
      let l := { count := bits w 95 64, ss := toSigned 32 (bits w 63 32), ds := toSigned 32 (bits w 31 0), i := 0,
                 body := d.get (Reg.DMA.PC.ADDR n) + 1 : DmaLoop }
      dmaNext n ((dmaDepth n (ls ++ [l]) d).set (Reg.DMA.IDX.I n lv) 0)

/-- LOOP_END. -/
def loopEnd (n : Nat) (d : Dev) : Dev :=
  if d.dmaOp n ≠ 0x21 then d
  else
    let ls := (d.dma n).loops
    let lv := bits (d.dmaWord n) 119 118
    match ls.getLast? with
    | none => dmaFail n 3 none d
    | some l =>
      if lv + 1 ≠ ls.length then dmaFail n 3 none d
      else
        let l' := { l with i := l.i + 1 }
        let d := d.set (Reg.DMA.IDX.I n lv) l'.i
        if l'.i < l.count then
          let d := dmaDepth n (ls.dropLast ++ [l']) d
          (d.set (Reg.DMA.PC.ADDR n) l.body).setDma n { d.dma n with cur := none }
        else dmaNext n (dmaDepth n ls.dropLast d)

/-! ### Waiting and signalling (R337, R338) -/

/-- Does the condition of a WAIT of KIND 0 or 1 hold? -/
def Dev.waitHolds (d : Dev) (w : Nat) : Bool := d.srcRaised (bits w 103 96) == (bits w 119 118 == 0)

/-- A WAIT ends: its ACK clears the SIGNAL bit of the releasing channel. -/
def waitEnds (n : Nat) (d : Dev) : Dev :=
  let w := d.dmaWord n
  let s := bits w 103 96
  let d := (d.put (Reg.DMA.FLAGS.WAITING n) false).disarm (.dmaWait n)
  let d := d.setDma n { d.dma n with until_ := none }
  let d := if bits w 119 118 = 0 ∧ bits w 117 117 = 1 ∧ 160 ≤ s ∧ s ≤ 191 then d.clrBit (Reg.HDR.EV_RAW (pg .DMA (s - 160))) 1 else d
  dmaNext n d

/-- WAIT. -/
def dmaWait (n : Nat) (d : Dev) : Dev :=
  if d.dmaOp n ≠ 0x30 then d
  else
    let w := d.dmaWord n
    let t := bits w 31 0
    if bits w 119 118 = 2 then
      (d.put (Reg.DMA.FLAGS.WAITING n) true).setDma n { d.dma n with until_ := some ((d.ts + 250 * t) % 2 ^ 64) }
    else if d.waitHolds w then waitEnds n d
    else
      let d := d.put (Reg.DMA.FLAGS.WAITING n) true
      if t = 0 then d else d.arm (.dmaWait n) (t * us)

/-- Is a channel in a WAIT of KIND 0 or 1? -/
def Dev.dmaWaits (d : Dev) (n : Nat) : Bool := d.inRun (pg .DMA n) && d.is (Reg.DMA.FLAGS.WAITING n) && (d.dma n).until_.isNone

/-- The condition of a WAIT holds. -/
def waitRelease (n : Nat) (d : Dev) : Dev := if d.dmaWaits n && d.waitHolds (d.dmaWord n) then waitEnds n d else d

/-- A WAIT's timeout passes. -/
def waitTimeout (n : Nat) (d : Dev) : Dev :=
  if d.dmaWaits n then d.onTimer (.dmaWait n) fun d => if d.waitHolds (d.dmaWord n) then waitEnds n d else dmaFail n 0x0C none d else d

/-- TS reaches the end of a WAIT delay. -/
def waitDelayEnd (n : Nat) (d : Dev) : Dev :=
  match (d.dma n).until_ with
  | none => d
  | some t =>
    if d.inRun (pg .DMA n) then
      let left := (t * tick + tsWrap - d.time.ts) % tsWrap
      waitEnds n (if left < tsWrap / 2 then d.advance left else d)
    else d

/-- SIGNAL. -/
def dmaSignal (n : Nat) (d : Dev) : Dev :=
  if d.dmaOp n ≠ 0x31 then d
  else dmaNext n ((d.set (Reg.DMA.SIG_CODE.CODE n) (bits (d.dmaWord n) 7 0)).ev .DMA n 1)

/-- NOP. -/
def dmaNop (n : Nat) (d : Dev) : Dev := if d.dmaOp n ≠ 0x50 then d else dmaNext n d

/-- HALT. -/
def dmaHalt (n : Nat) (d : Dev) : Dev :=
  if d.dmaOp n ≠ 0x7F then d
  else
    let d := dmaNext n (d.set (Reg.DMA.STAT.ARG n) (bits (d.dmaWord n) 15 0))
    dmaEnd n (if d.is (Reg.DMA.FLAGS.DELAYED n) then 1 else 0) 0 d

/-! ### Stopping (R341), ownership (R45) -/

/-- A burst of the channel is in flight. -/
def Dev.dmaInBurst (d : Dev) (n : Nat) : Bool := (d.dma n).move.isSome && !(d.dma n).edge

/-- A WAIT in progress stops at once; it is evaluated afresh when the channel runs again. -/
def dmaUnwait (n : Nat) (d : Dev) : Dev :=
  ((d.put (Reg.DMA.FLAGS.WAITING n) false).disarm (.dmaWait n)).setDma n { d.dma n with until_ := none }

/-- A write of OWNER: compare and set.  A release while the channel runs drains it as under R38. -/
def ownerWrite (n expect tag : Nat) (d : Dev) : Dev :=
  if d.get (Reg.DMA.OWNER.TAG n) ≠ expect ∨ tag = 0xFF then d
  else
    let d := d.set (Reg.DMA.OWNER.TAG n) tag
    if tag = 0 ∧ expect ≠ 0 ∧ d.inRun (pg .DMA n) = true then
      if d.dmaInBurst n then { d with stopping := aset (pg .DMA n) .enable d.stopping }
      else (dmaUnwait n d).setBlk (pg .DMA n) 4
    else d

/-- The fields of DMAC that are not register contents: RUN_MAP. -/
def dmacView (d : Dev) (f : Fld) : Option Nat :=
  if f = Reg.DMAC.RUN_MAP.RUN then
    some ((List.range 32).foldl (fun m n => if d.inRun (pg .DMA n) then setB m n else m) 0)
  else none

end Sys2Proof.Machine
end

