-- ==== Sys2Proof/Machine/Cmp.lean ====
section
/-!
DEFINITION. Compression engines (chapter 15): queues, job checks, TILES and STREAM jobs, results, KILL and drain.
-/
namespace Sys2Proof.Machine

/-- A compressor beside its registers. -/
def Dev.cmp (d : Dev) (k : Nat) : CmpEng := tget CmpEng.init d.cmps k

/-- A compressor replaced. -/
def Dev.setCmp (d : Dev) (k : Nat) (c : CmpEng) : Dev := { d with cmps := tset CmpEng.init k c d.cmps }

/-- The master ID of an engine (R357). -/
def cmpMaster (k : Nat) : Nat := 0x23 + k

/-! ### The queue (R364) -/

/-- Does an engine accept entries (R39)? -/
def Dev.cmpTakes (d : Dev) (k : Nat) : Bool := !d.refuses (pg .CMP k)

/-- An entry appended; an engine that is stopped by ENABLE = 0 now holds queued work. -/
def cmpAppend (k : Nat) (e : Bytes) (d : Dev) : Dev :=
  let c := d.cmp k
  let d := d.setCmp k { c with queue := c.queue ++ [e] }
  if d.enabled (pg .CMP k) = false ∧ d.blk (pg .CMP k) = 1 then d.setBlk (pg .CMP k) 4 else d

/-- The entry that ENTRY_0 to ENTRY_15 hold. -/
def Dev.cmpEntry (d : Dev) (k : Nat) : Bytes := (List.range 16).flatMap fun i => leBytes 4 (d.get (Reg.CMP.ENTRY.DATA k i))

/-- PUSH.GO. -/
def cmpPush (k : Nat) (d : Dev) : Dev :=
  if d.cmpTakes k = true ∧ (d.cmp k).queue.length < 64 then cmpAppend k (d.cmpEntry k) d
  else (d.bump Reg.CMPC.Q_FULL_CNT.COUNT 1).raise k Kind.CMP.Q_FULL

/-! ### Checking a job (R358) -/

/-- The size of a source or destination space by its code: 0 Basin, 1 host, 2 Sediment. -/
def spaceSize (sp : Nat) : Nat := if sp = 0 then basinSize else if sp = 1 then 2 ^ 64 else 2 ^ 20

/-- Is a job entry sound? -/
def jobSound (e : Bytes) : Bool :=
  let op := byteAt e 0
  let fl := byteAt e 2
  let sp := byteAt e 3
  let src := leAt e 8 8
  let dst := leAt e 16 8
  let len := leAt e 24 4
  let cap := leAt e 28 4
  let block := leAt e 32 4
  let list := leAt e 40 8
  let tiles := len / 32768
  let dsp := bits sp 4 4
  let common := decide (byteAt e 1 ≤ 9) && fl / 32 == 0 && decide (bits sp 1 0 ≤ 2) && bits sp 3 2 == 0 && sp / 32 == 0 &&
    leAt e 36 4 == 0 && leAt e 56 8 == 0 && decide (src + len ≤ spaceSize (bits sp 1 0)) && decide (dst + cap ≤ spaceSize dsp) &&
    (fl / 2 % 2 == 0 || leAt e 48 8 % 16 == 0)
  let tilesOk := fl / 8 % 4 == 0 && block == 0 && len % 32768 == 0 && decide (32768 ≤ len) && decide (len ≤ 268435456) && dsp == 0 &&
    dst % 16 == 0 && list % 8 == 0 && decide (list + 8 * tiles ≤ basinSize)
  let streamOk := fl / 4 % 2 == 0 && list == 0 && decide (1 ≤ len) && decide (1024 ≤ block) && decide (block ≤ maxBlock)
  common && (if op = 1 then tilesOk else if op = 2 then streamOk else false)

/-! ### Ending a job (R361, R362) -/

/-- The fault kind of a status (Table 15.11). -/
def cmpKind (status : Nat) : Option FKind :=
  if status = 1 then some Kind.CMP.NO_SPACE
  else if status = 2 then some Kind.CMP.BAD_JOB
  else if status = 3 then some Kind.CMP.SOURCE_ERROR
  else if status = 4 then some Kind.CMP.DEST_REFUSED
  else none

/-- Bytes written in a job's destination space; Basin discards what it refuses. -/
def cmpWrite (k dsp a : Nat) (bs : Bytes) (d : Dev) : Dev :=
  let d := d.bump (Reg.CMP.OUT_BYTES.COUNT k) bs.length
  if dsp = 1 then d.emit (.hostWrite a bs)
  else if d.basinUp then d.basinWrite (a % basinSize) bs 3 (cmpMaster k)
  else d

/-- Is an engine idle with an empty queue? -/
def Dev.cmpIdle (d : Dev) (k : Nat) : Bool := (d.cmp k).job.isNone && (d.cmp k).queue == []

/-- A job ends with a status: its result record, LAST registers and events. -/
def cmpEnd (k : Nat) (e : Bytes) (status out blocks : Nat) (delayed : Bool) (d : Dev) : Dev :=
  let fl := byteAt e 2
  let bytes := leBytes 4 (leAt e 4 4) ++ leBytes 1 status ++ leBytes 1 (b2n delayed) ++ leBytes 2 0 ++ leBytes 4 out ++ leBytes 4 blocks
  let d := if fl / 2 % 2 = 1 then cmpWrite k (bits (byteAt e 3) 4 4) (leAt e 48 8) bytes d else d
  let d := (d.forget (pg .CMP k)).setCmp k { d.cmp k with job := none }
  let d := (((d.put (Reg.CMP.LAST_STAT.VALID k) true).put (Reg.CMP.LAST_STAT.DELAYED k) delayed).set (Reg.CMP.LAST_STAT.STATUS k) status).set
    (Reg.CMP.LAST_TAG.TAG k) (leAt e 4 4)
  let d := ((d.set (Reg.CMP.LAST_OUT.BYTES k) out).bump (Reg.CMP.JOBS.COUNT k) 1).setBit Reg.CMPC.END_MAP.ENDED k
  let d := if status = 0 then d else d.setBit Reg.CMPC.ERR_MAP.ERR k
  let d := if d.blk (pg .CMP k) = 2 ∧ (d.enabled (pg .CMP k) = true ∨ (d.cmp k).queue = []) then d.setBlk (pg .CMP k) 1 else d
  let d := if fl % 2 = 1 then d.ev .CMP k 0 else d
  let d := if status = 0 then d
    else match cmpKind status with | some kd => d.raise k kd { master := cmpMaster k, arg := leAt e 4 4 } | none => d.ev .CMP k 1
  if (List.range 4).all d.cmpIdle then d.ev .CMPC 0 0 else d

/-- What a failed job leaves between DST and DST + DST_CAP - 1: undefined bytes, as many as the engine had written. -/
def cmpSpoil (k : Nat) (e : Bytes) (d : Dev) : Dev :=
  let n := Config.freeValue d.free % (leAt e 28 4 + 1)
  let d := d.drawn
  let bs := d.freeBytes n
  cmpWrite k (bits (byteAt e 3) 4 4) (leAt e 16 8) bs d.drawn

/-- A job under way fails with a status. -/
def cmpFails (k : Nat) (e : Bytes) (status : Nat) (delayed : Bool) (d : Dev) : Dev :=
  cmpEnd k e status 0 0 delayed (cmpSpoil k e d)

/-! ### Starting and finishing a job (R358 to R363) -/

/-- An idle engine takes its next entry; an unsound one ends at once with BAD_JOB. -/
def cmpJobStart (k : Nat) (d : Dev) : Dev :=
  let c := d.cmp k
  if d.enabled (pg .CMP k) = false ∨ (d.blk (pg .CMP k) ≠ 1 ∧ d.blk (pg .CMP k) ≠ 2) ∨ c.job.isSome then d
  else
    match c.queue with
    | [] => d
    | e :: rest =>
      let d := (d.setCmp k { queue := rest, job := some e }).setBlk (pg .CMP k) 2
      let d := (d.set (Reg.CMP.CUR_TAG.TAG k) (leAt e 4 4)).set (Reg.CMP.CUR_DONE.BYTES k) 0
      if jobSound e then d.request (pg .CMP k) else cmpEnd k e 2 0 0 false d

/-- The blocks of a job: pairs of an address and bytes, and the tile entries, from the pieces of its source; or none
when the next block would pass the end of its space. -/
def cmpLay (op level block : Nat) (blank : Bool) (whole : Bytes) (dst cap : Nat) :
    List (Nat × Bytes) → Nat → Nat → List (Nat × Bytes) → List Nat → Option (List (Nat × Bytes) × List Nat × Nat)
  | [], _, used, bs, es => some (bs.reverse, es.reverse, used)
  | (i, piece) :: rest, nb, used, bs, es =>
    if op = 1 ∧ blank = true ∧ piece.all (· == 0) = true then
      cmpLay op level block blank whole dst cap rest nb used bs (tileEntry 1 0 0 :: es)
    else
      let start := if op = 1 then (used + 15) / 16 * 16 else used
      let b := packBlock level (Config.tokens op level block (b2n blank) whole i) piece
      if cap < start + b.length then none
      else
        let pad : Bytes := List.replicate (start - used) 0
        cmpLay op level block blank whole dst cap rest (nb + 1) (start + b.length) ((dst + used, pad ++ b) :: bs)
          (tileEntry 0 b.length (dst + start) :: es)

/-- Do a job's source and destination ranges overlap? -/
def jobOverlap (e : Bytes) : Bool :=
  let sp := byteAt e 3
  bits sp 1 0 == bits sp 4 4 && decide (leAt e 8 8 < leAt e 16 8 + leAt e 28 4) && decide (leAt e 16 8 < leAt e 8 8 + leAt e 24 4)

/-- A sound job whose source was read whole ends. -/
def cmpFinish (k : Nat) (e whole : Bytes) (delayed : Bool) (d : Dev) : Dev :=
  let op := byteAt e 0
  let fl := byteAt e 2
  let size := if op = 1 then 32768 else leAt e 32 4
  let ps := pieces size (whole.length / size + 1) whole
  let dst := leAt e 16 8
  let cap := leAt e 28 4
  let dsp := bits (byteAt e 3) 4 4
  let lay := cmpLay op (byteAt e 1) (leAt e 32 4) (fl / 4 % 2 == 1) whole dst cap ((List.range ps.length).zip ps) 0 0 [] []
  let new := op == 2 && fl / 8 % 2 == 1
  let final := op == 2 && fl / 16 % 2 == 1
  match lay with
  | none => cmpFails k e 1 delayed d
  | some (bs, es, used) =>
    let blocks := (if new then 0 else d.get (Reg.CMP.STREAM_BLOCKS.COUNT k)) + bs.length
    let total := (if new then 0 else d.get (Reg.CMP.STREAM_TOTAL.BYTES k)) + whole.length
    if final = true ∧ cap < used + 16 then cmpFails k e 1 delayed d
    else if dsp = 0 ∧ d.basinUp = false then cmpFails k e 4 delayed d
    else
      let d := bs.foldl (fun d w => cmpWrite k dsp w.1 w.2 d) d
      let d := if jobOverlap e then cmpWrite k dsp dst (d.freeBytes used) d.drawn else d
      let d := if op = 1 then cmpWrite k 0 (leAt e 40 8) (es.flatMap (leBytes 8)) d else d
      let d := if final then cmpWrite k dsp (dst + used) (endRecord (blocks % 2 ^ 32) (total % 2 ^ 64)) d else d
      let d := if op = 2 then (d.set (Reg.CMP.STREAM_BLOCKS.COUNT k) blocks).set (Reg.CMP.STREAM_TOTAL.BYTES k) total else d
      cmpEnd k e 0 (used + if final then 16 else 0) bs.length delayed d

/-- The running job has read its source and ends: `host` is what host memory gave, `err` what the read met (Basin: 1 a
corrected, 2 an uncorrectable error; host: not 0 a PCIe error), `late` its delay in cycles. -/
def cmpJobEnd (k : Nat) (host : Bytes) (err late : Nat) (d : Dev) : Dev :=
  match (d.cmp k).job with
  | none => d
  | some e =>
    let sp := bits (byteAt e 3) 1 0
    let src := leAt e 8 8
    let len := leAt e 24 4
    let d := (delayed (cmpMaster k) late d).bump (Reg.CMP.DLY_CYC.COUNT k) late
    let d := if sp = 0 then d.basinLoad 3 (cmpMaster k) src len err else d
    let bad := if sp = 0 then d.basinFails src len else if sp = 1 then err != 0 else false
    if bad then cmpFails k e 3 (late != 0) d
    else
      let whole := if sp = 0 then d.basinRead src len else if sp = 1 then padTo len host else memRead 0 d.sed.mem src len
      let d := (d.bump (Reg.CMP.IN_BYTES.COUNT k) len).set (Reg.CMP.CUR_DONE.BYTES k) len
      cmpFinish k e whole (late != 0) d

/-! ### Stopping (R365) -/

/-- A job under way is ended from outside: 5 ABORTED, 6 DOMAIN_OFF. -/
def cmpCut (k status : Nat) (d : Dev) : Dev :=
  match (d.cmp k).job with
  | none => d
  | some e => (cmpFails k e status false d).put (Reg.HDR.ABORTED (pg .CMP k)) true

/-- A queue of `q` entries has been discarded: source 204 rises when that leaves every engine idle with an empty queue (R367). -/
def cmpEmptied (q : Nat) (d : Dev) : Dev := if q ≠ 0 ∧ (List.range 4).all d.cmpIdle = true then d.ev .CMPC 0 0 else d

/-- KILL of an engine: its job ends ABORTED, its queue is discarded and counted. -/
def cmpKill (k : Nat) (d : Dev) : Dev :=
  let d := cmpCut k 5 d
  let q := (d.cmp k).queue.length
  let d := if q = 0 then d else d.put (Reg.HDR.ABORTED (pg .CMP k)) true
  cmpEmptied q ((d.setCmp k { d.cmp k with queue := [] }).bump (Reg.CMP.Q_DISCARD.COUNT k) q)

/-- SOFT_RESET of an engine discards its queue; its registers and stream counters take their reset values. -/
def cmpReset (k : Nat) (d : Dev) : Dev := cmpEmptied (d.cmp k).queue.length (d.setCmp k CmpEng.init)

/-- The fields of CMP_k and CMPC that are not register contents. -/
def cmpView (d : Dev) (f : Fld) : Option Nat :=
  if f = Reg.CMPC.RUN_MAP.RUN then
    some ((List.range 4).foldl (fun m k => if (d.cmp k).job.isSome then setB m k else m) 0)
  else ((List.range 4).find? fun k => f == Reg.CMP.Q_STAT.DEPTH k).map fun k => (d.cmp k).queue.length

end Sys2Proof.Machine
end

