-- ==== Sys2Proof/Machine/Motion.lean ====
section
/-!
DEFINITION. Service-station motion (chapter 16): commands and refusals, the planner, stops, homing, limits and current
regulation of the eight axes.  Spit bursts are in Spit.lean.
-/
namespace Sys2Proof.Machine

/-- An axis beside its registers. -/
def Dev.axis (d : Dev) (a : Nat) : Axis := tget Axis.init d.axes a

/-- Planner ticks per second: one each 8 µs (R370). -/
def ticksPerS : Nat := 125000

/-- The planner's position units per 1/256 step. -/
def posUnit : Int := ((ticksPerS ^ 3 : Nat) : Int)

/-- The planner's speed units per 1/256 step per second. -/
def velUnit : Int := ((ticksPerS ^ 2 : Nat) : Int)

/-- The planner's acceleration units per step per second squared. -/
def accUnit : Int := ((256 * ticksPerS : Nat) : Int)

/-- Is an axis moving: speed or acceleration not zero? -/
def Axis.moving (x : Axis) : Bool := decide (x.vel ≠ 0) || decide (x.acc ≠ 0)

/-- An axis replaced, with the registers that show it: POS, VEL and MOVING (R369, R389). -/
def Dev.setAxis (d : Dev) (a : Nat) (x : Axis) : Dev :=
  let d := { d with axes := tset Axis.init a x d.axes }
  ((d.set (Reg.MOT.POS.POS a) (ofSigned 32 (x.pos.fdiv posUnit))).set (Reg.MOT.VEL.V a) (ofSigned 32 (x.vel.tdiv velUnit))).put
    (Reg.MOT.STAT.MOVING a) x.moving

/-- A position register's value in planner units. -/
def Dev.motPos (d : Dev) (f : Fld) : Int := toSigned 32 (d.get f) * posUnit

/-! ### Stopping distance (R371) -/

/-- The distance of a controlled stop from speed `v` at zero acceleration, in planner units, with deceleration D and jerk J. -/
def stopDist (v dd j : Nat) : Nat :=
  let dd := max 1 dd
  let j := max 1 j
  if 256 * ticksPerS ^ 2 * dd ^ 2 ≤ v * j then v ^ 2 / (512 * ticksPerS * dd) + ticksPerS * v * dd / (2 * j)
  else Nat.sqrt (v ^ 3 / (256 * j))

/-- The stopping distance when an acceleration `acc` in the direction of travel has to fall to zero first. -/
def stopDistAcc (v acc dd j : Nat) : Nat :=
  let j' := 256 * max 1 j
  v * acc / j' + acc ^ 3 / (3 * j' ^ 2) + stopDist (v + acc ^ 2 / (2 * j')) dd j

/-- The smallest deceleration between `lo` and `hi` that stops within `rem` (R372). -/
def leastDecel (v j rem : Nat) : Nat → Nat → Nat → Nat
  | 0, _, hi => hi
  | n + 1, lo, hi =>
    if hi ≤ lo then hi
    else
      let m := (lo + hi) / 2
      if stopDist v m j ≤ rem then leastDecel v j rem n lo m else leastDecel v j rem n (m + 1) hi

/-! ### Refusals (R373) -/

/-- Is a fault of severity STOP or above unacknowledged? -/
def Dev.stopFault (d : Dev) : Bool := (d.flt.slots.any fun s => decide (3 ≤ s.2.sev)) || decide (3 ≤ d.flt.ovf)

/-- Is an axis OFF in its safe state, or not enabled? -/
def Dev.axisOff (d : Dev) (a : Nat) : Bool := !d.enabled (pg .MOT a) || (d.axis a).locked

/-- Is the limit towards which a move would run tripped? -/
def Dev.limitAhead (d : Dev) (a : Nat) (dir : Int) : Bool :=
  (decide (dir < 0) && d.is (Reg.MOT.STAT.LIMN a)) || (decide (0 < dir) && d.is (Reg.MOT.STAT.LIMP a))

/-- A command refused with a reason. -/
def moveRefused (a reason : Nat) (d : Dev) : Dev := (d.set (Reg.MOT.STAT.REFUSE a) reason).raise a Kind.MOT.MOVE_REFUSED { arg := reason }

/-- The homing direction of CFG.HOME_MODE: modes 0 and 2 run negative. -/
def Dev.homeDir (d : Dev) (a : Nat) : Int := if d.get (Reg.MOT.CFG.HOME_MODE a) % 2 = 0 then -1 else 1

/-- The reason to refuse START; 0 to accept it. -/
def Dev.startReason (d : Dev) (a : Nat) : Nat :=
  let t := toSigned 32 (d.get (Reg.MOT.TARGET.POS a))
  if d.axisOff a then 1
  else if d.stopFault then 2
  else if d.is (Reg.MOT.CFG.SOFT_EN a) = true ∧
      (t < toSigned 32 (d.get (Reg.MOT.SOFT_LO.POS a)) ∨ toSigned 32 (d.get (Reg.MOT.SOFT_HI.POS a)) < t) then 3
  else if d.limitAhead a (t * posUnit - (d.axis a).pos) then 4
  else if d.is (Reg.MOT.CFG.REQUIRE_HOME a) = true ∧ d.is (Reg.MOT.STAT.HOMED a) = false then 5
  else if (d.axis a).homing ≠ 0 then 6
  else 0

/-! ### Current in force (R379) -/

/-- I_RUN from now on. -/
def runCurrent (a : Nat) (d : Dev) : Dev := (d.set (Reg.MOT.LOAD.I_ACT a) (d.get (Reg.MOT.CURRENT.I_RUN a))).disarm (.hold a)

/-- The axis stands still: I_HOLD follows after HOLD_DELAY. -/
def standCurrent (a : Nat) (d : Dev) : Dev := d.arm (.hold a) (d.get (Reg.MOT.HOLD_DELAY.MS a) * ms)

/-- The axis has stood still for HOLD_DELAY ms. -/
def holdCurrent (a : Nat) (d : Dev) : Dev :=
  d.onTimer (.hold a) fun d =>
    if (d.axis a).moving = true ∨ d.is (Reg.MOT.STAT.OFF a) = true then d
    else d.set (Reg.MOT.LOAD.I_ACT a) (d.get (Reg.MOT.CURRENT.I_HOLD a))

/-- Every gate of an axis low: the motor freewheels. -/
def gatesLow (a : Nat) (d : Dev) : Dev :=
  let d := ((d.put (Reg.MOT.STAT.OFF a) true).set (Reg.MOT.LOAD.I_ACT a) 0).disarm (.hold a)
  { d with axes := tset Axis.init a { d.axis a with duty := [0, 0], opens := [0, 0] } d.axes }

/-- ENABLE set: the axis is energised at the run current; an OFF axis that has seen ENABLE 0 comes back with HOMED 0. -/
def axisEnable (a : Nat) (d : Dev) : Dev :=
  let d := { d with axes := tset Axis.init a { d.axis a with locked := false } d.axes }
  standCurrent a (runCurrent a (d.put (Reg.MOT.STAT.OFF a) false))

/-! ### Commands (R370, R373, R374, R383) -/

/-- What begins with any move: IN_POS falls, the settle time is void and a run of slips is forgotten. -/
def beginMove (a : Nat) (x : Axis) (d : Dev) : Dev :=
  let d := (d.put (Reg.MOT.STAT.IN_POS a) false).disarm (.inPos a)
  runCurrent a (d.setAxis a { x with
    brake := false, kept := false, ends := false, slips := 0
    dUse := d.get (Reg.MOT.D_MAX.D a), jUse := max 1 (d.get (Reg.MOT.J_MAX.J a)) })

/-- CMD.START. -/
def motStart (a : Nat) (d : Dev) : Dev :=
  let r := d.startReason a
  if r ≠ 0 then moveRefused a r d
  else beginMove a { d.axis a with phase := .move, tgt := d.motPos (Reg.MOT.TARGET.POS a) } d

/-- CMD.HOME. -/
def motHome (a : Nat) (d : Dev) : Dev :=
  if d.axisOff a then moveRefused a 1 d
  else if d.stopFault then moveRefused a 2 d
  else if d.limitAhead a (d.homeDir a) then moveRefused a 4 d
  else
    let x := d.axis a
    (beginMove a { x with phase := .seek, homing := 1, dir := d.homeDir a, from_ := x.pos } d).put (Reg.MOT.STAT.HOMING a) true

/-- CMD.SET_POS. -/
def motSetPos (a : Nat) (d : Dev) : Dev :=
  let x := d.axis a
  if d.axisOff a then moveRefused a 1 d
  else if d.stopFault then moveRefused a 2 d
  else if x.moving = true ∨ x.phase ≠ .idle then moveRefused a 7 d
  else d.setAxis a { x with pos := d.motPos (Reg.MOT.POS_SET.POS a) }

/-- A homing run ends without a reference. -/
def homingEnds (a : Nat) (d : Dev) : Dev :=
  (d.setAxis a { d.axis a with homing := 0 }).put (Reg.MOT.STAT.HOMING a) false

/-- A stop of what is under way: controlled, or quick.  It ends a move or a homing, also one that is stopping past its
reference; a stop under way otherwise only becomes quicker. -/
def axisStop (a : Nat) (quick : Bool) (d : Dev) : Dev :=
  let x := d.axis a
  let cut (ph : AxisPhase) := homingEnds a (d.setAxis a { x with phase := ph, ends := true })
  match x.phase with
  | .idle => d
  | .quick => if x.homing = 0 then d else cut .quick
  | .stop => if x.homing ≠ 0 then cut (if quick then .quick else .stop) else if quick then d.setAxis a { x with phase := .quick } else d
  | .move | .seek => cut (if quick then .quick else .stop)

/-- MOTC.STOP_ALL.GO. -/
def stopAll (d : Dev) : Dev :=
  let d := (List.range 8).foldl (fun d a => axisStop a false d) d
  let d := { d with motc := { d.motc with stopAll := true } }
  if (List.range 8).all fun a => (d.axis a).phase == .idle then ({ d with motc := { d.motc with stopAll := false } }).ev .MOTC 0 2 else d

/-- The safe state of an axis that stands still (R375). -/
def safeState (a : Nat) (d : Dev) : Dev :=
  let d := d.setAxis a { d.axis a with safe := false }
  if d.is (Reg.MOT.CFG.SAFE_MODE a) then
    let d := gatesLow a (d.put (Reg.MOT.STAT.HOMED a) false)
    { d with axes := tset Axis.init a { d.axis a with locked := true } d.axes }
  else d

/-- The STOP reaction on the axes: controlled stops. -/
def motFaultStop (d : Dev) : Dev := (List.range 8).foldl (fun d a => axisStop a false d) d

/-- The SAFE reaction on the axes: quick stops, and the safe state at standstill. -/
def motFaultSafe (d : Dev) : Dev :=
  (List.range 8).foldl (fun d a =>
    if d.is (Reg.MOT.STAT.OFF a) then d
    else
      let d := axisStop a true (d.setAxis a { d.axis a with safe := true })
      if (d.axis a).phase = .idle then safeState a d else d) d

/-! ### The planner tick (R370 to R372) -/

/-- One tick towards speed `vm` in the frame of travel: the next speed and acceleration, jerk limited. -/
def towards (v acc vm : Int) (aMax dMax j : Nat) : Int × Int :=
  let js : Int := 256 * (max 1 j : Nat)
  let up : Int := aMax * accUnit
  let dn : Int := (max 1 dMax : Nat) * accUnit
  let need : Int := acc * acc / (2 * js)
  if v = vm then (vm, 0)
  else if v < vm then
    let acc' := if 0 < acc ∧ vm ≤ v + need then max (acc - js) (min js up) else min (acc + js) up
    let v' := v + acc'
    if vm ≤ v' then (vm, 0) else (v', acc')
  else
    let acc' := if acc < 0 ∧ v - need ≤ vm then min (acc + js) (-(min js dn)) else max (acc - js) (-dn)
    let v' := v + acc'
    if v' ≤ vm then (vm, 0) else (v', acc')

/-- The speed limit in force: V_MAX, or the homing speed. -/
def Dev.axisSpeed (d : Dev) (a : Nat) : Int :=
  if (d.axis a).homing ≠ 0 then (d.get (Reg.MOT.HOME_CFG.V a) * 256 : Nat) * velUnit else (d.get (Reg.MOT.V_MAX.V a) : Nat) * velUnit

/-- Limit writes taken up at a tick (R372): `rem` is the distance left to the target, none for a stop or a seek. -/
def onLimits (a : Nat) (rem : Option Nat) (d : Dev) : Dev :=
  let x := d.axis a
  let dNew := d.get (Reg.MOT.D_MAX.D a)
  let jNew := max 1 (d.get (Reg.MOT.J_MAX.J a))
  let v := x.vel.natAbs
  if x.kept ∨ (dNew = x.dUse ∧ jNew = x.jUse) then d
  else
    match rem with
    | none => d.setAxis a { x with dUse := dNew, jUse := jNew }
    | some r =>
      if (x.dUse ≤ dNew ∧ x.jUse ≤ jNew) ∨ stopDist v dNew jNew ≤ r then d.setAxis a { x with dUse := dNew, jUse := jNew }
      else
        let j := if jNew < x.jUse then x.jUse else jNew
        let dd := if stopDist v dNew j ≤ r then dNew else min x.dUse (leastDecel v j r 33 dNew (max dNew x.dUse))
        let d := d.setAxis a { x with dUse := dd, jUse := j, kept := true }
        (d.put (Reg.MOT.STAT.LNH a) true).raise a Kind.MOT.LIMIT_NOT_HONOURED

/-- The axis stands still with nothing left to do. -/
def standStill (a : Nat) (x : Axis) (d : Dev) : Dev :=
  let d := d.setAxis a { x with phase := .idle, vel := 0, acc := 0, brake := false, kept := false, ends := false }
  let d := if x.ends then d.ev .MOT a 4 else d
  let d := standCurrent a d
  if x.safe then safeState a d else d

/-- A move has come to its target. -/
def atTarget (a : Nat) (x : Axis) (d : Dev) : Dev :=
  let d := standStill a { x with pos := x.tgt, homing := 0 } d
  if x.homing = 3 then
    (((d.put (Reg.MOT.STAT.HOMING a) false).put (Reg.MOT.STAT.HOMED a) true).put (Reg.MOT.STAT.IN_POS a) true).ev .MOT a 0
  else d.arm (.inPos a) (d.get (Reg.MOT.HOLD_DELAY.SETTLE_US a) * us)

/-- A stop has come to rest: a homing run past its reference goes on to its back-off. -/
def stopped (a : Nat) (x : Axis) (d : Dev) : Dev :=
  if x.homing = 2 then
    let t := d.motPos (Reg.MOT.HOME_POS.POS a) - x.dir * ((d.get (Reg.MOT.HOME_CFG.BACKOFF a) * 256 : Nat) : Int) * posUnit
    beginMove a { x with phase := .move, vel := 0, acc := 0, homing := 3, tgt := t } d
  else standStill a x d

/-- A quarter step in planner units: how far a stop that ends a move may lie from the target and still be it. -/
def nearTarget : Int := 64 * posUnit

/-- One tick of an axis's speed and position. -/
def axisTick (a : Nat) (d : Dev) : Dev :=
  let x0 := d.axis a
  let s : Int := if x0.vel < 0 then -1 else if 0 < x0.vel then 1 else if x0.phase = .seek then x0.dir else if x0.tgt < x0.pos then -1 else 1
  let d := match x0.phase with
    | .idle => d
    | .move => onLimits a (if 0 ≤ s * (x0.tgt - x0.pos) then some (x0.tgt - x0.pos).natAbs else none) d
    | _ => onLimits a none d
  let x := d.axis a
  let v := s * x.vel
  let acc := s * x.acc
  let move_ (r : Int × Int) (brake : Bool) : Axis := { x with vel := s * r.1, acc := s * r.2, pos := x.pos + s * r.1, brake }
  let aMax := d.get (Reg.MOT.A_MAX.A a)
  match x.phase with
  | .idle => d
  | .move =>
    let rem := s * (x.tgt - x.pos)
    if v = 0 ∧ acc = 0 ∧ (rem.natAbs : Int) ≤ (if x.brake then nearTarget else 0) then atTarget a x d
    else
      let brake := (x.brake && v != 0) || decide (rem - v ≤ (stopDistAcc v.toNat acc.toNat x.dUse x.jUse : Nat)) && decide (v ≠ 0)
      if brake then
        let y := move_ (towards v acc 0 aMax x.dUse x.jUse) true
        if y.vel = 0 ∧ (y.tgt - y.pos).natAbs ≤ nearTarget.natAbs then atTarget a y d else d.setAxis a y
      else d.setAxis a (move_ (towards v acc (d.axisSpeed a) aMax x.dUse x.jUse) false)
  | .seek =>
    if (((d.get (Reg.MOT.HOME_MAX.STEPS a) * 256 : Nat) : Int) * posUnit) < ((x.pos - x.from_).natAbs : Int) then
      let d := homingEnds a (d.setAxis a { x with phase := .stop, ends := true })
      d.raise a Kind.MOT.HOME_FAIL
    else d.setAxis a (move_ (towards v acc (if s = x.dir then d.axisSpeed a else 0) aMax x.dUse x.jUse) false)
  | .stop =>
    let y := move_ (towards v acc 0 aMax x.dUse x.jUse) false
    if y.vel = 0 then stopped a y d else d.setAxis a y
  | .quick =>
    let v' := max 0 (v - (max 1 (d.get (Reg.MOT.QS_A.A a)) : Nat) * accUnit)
    let y := move_ (v', v' - v) false
    if v' = 0 then stopped a y d else d.setAxis a y

/-! ### Full steps: LOAD, adaptive current, stalls (R379, R380, R382) -/

/-- The reference of a homing run: POS becomes HOME_POS there (R383). -/
def homeReference (a : Nat) (quick : Bool) (d : Dev) : Dev :=
  let x := d.axis a
  d.setAxis a { x with pos := d.motPos (Reg.MOT.HOME_POS.POS a), homing := 2, phase := if quick then .quick else .stop }

/-- A stall (R382): the reference of a stall homing, or a fault. -/
def axisStall (a : Nat) (d : Dev) : Dev :=
  let x := d.axis a
  if x.homing = 1 ∧ 2 ≤ d.get (Reg.MOT.CFG.HOME_MODE a) then homeReference a true d
  else if x.phase = .move ∧ x.homing = 0 then
    let d := axisStop a true ((d.put (Reg.MOT.STAT.STALLED a) true).put (Reg.MOT.STAT.HOMED a) false)
    d.raise a Kind.MOT.STALL
  else d

/-- Is the axis fast enough for LOAD to be valid (R380)? -/
def Dev.loadValid (d : Dev) (a : Nat) : Bool :=
  decide (((d.get (Reg.MOT.STALL_CFG.VMIN a) * 256 : Nat) : Int) * velUnit ≤ ((d.axis a).vel.natAbs : Int))

/-- A full step has been completed with a phase lag that gives `load`. -/
def fullStep (a load : Nat) (d : Dev) : Dev :=
  let x := d.axis a
  let load := if d.loadValid a then min 1023 load else 1023
  let d := d.set (Reg.MOT.LOAD.LOAD a) load
  let iRun := d.get (Reg.MOT.CURRENT.I_RUN a)
  let i := d.get (Reg.MOT.LOAD.I_ACT a)
  let d :=
    if d.is (Reg.MOT.ADAPT_CFG.EN a) = true ∧ x.acc = 0 ∧ x.vel ≠ 0 then
      let lo := min (d.get (Reg.MOT.ADAPT_CFG.I_MIN a)) iRun
      if load < d.get (Reg.MOT.ADAPT_LO.LOAD_LO a) then d.set (Reg.MOT.LOAD.I_ACT a) (clamp lo iRun (i + iRun / 32))
      else if d.get (Reg.MOT.ADAPT_CFG.LOAD_HI a) < load then d.set (Reg.MOT.LOAD.I_ACT a) (clamp lo iRun (i - iRun / 64))
      else d
    else d
  let th := d.get (Reg.MOT.STALL_CFG.TH a)
  if th = 0 ∨ th < load then { d with axes := tset Axis.init a { d.axis a with slips := 0 } d.axes }
  else
    let k := x.slips + 1
    let d := { d with axes := tset Axis.init a { d.axis a with slips := k } d.axes }
    if max 1 (d.get (Reg.MOT.STALL_CFG.N a)) ≤ k then axisStall a { d with axes := tset Axis.init a { d.axis a with slips := 0 } d.axes } else d

/-- The microstep resolution after a tick that began at position `p0` (R377). -/
def microstep (a : Nat) (p0 : Int) (d : Dev) : Dev :=
  let x := d.axis a
  let now := d.get (Reg.MOT.STAT.MSTEP a)
  let v : Int := x.vel.natAbs
  let lim (f : Fld) : Int := (d.get f * 64 * 256 : Nat) * velUnit
  let on (f : Fld) (held : Bool) : Bool := d.get f != 0 && (if held then decide (15 * lim f ≤ 16 * v) else decide (lim f < v))
  let full := on (Reg.MOT.MSTEP_CFG.V_FULL a) (now == 2)
  let sixteenth := decide (4 < min 8 (d.get (Reg.MOT.MSTEP_CFG.BASE a))) && on (Reg.MOT.MSTEP_CFG.V_16 a) (now != 0)
  let want := if full then 2 else if sixteenth then 1 else 0
  let unit : Int := (if want = 2 then 256 else 16) * posUnit
  let crossed := decide (p0.fdiv unit ≠ x.pos.fdiv unit) || decide (x.pos % unit = 0)
  if want ≤ now ∨ crossed = true then d.set (Reg.MOT.STAT.MSTEP a) want else d

/-- One planner tick of an axis: `load` is the LOAD of the full step it completes, if it completes one. -/
def axisPlan (a load : Nat) (d : Dev) : Dev :=
  let x0 := d.axis a
  let d := axisTick a d
  let x := d.axis a
  let d := if x0.acc = 0 ∧ x.acc ≠ 0 then runCurrent a d else d
  let d := microstep a x0.pos d
  let d := if d.loadValid a then d else d.set (Reg.MOT.LOAD.LOAD a) 1023
  if x.phase ≠ .idle ∧ x0.pos.fdiv (256 * posUnit) ≠ x.pos.fdiv (256 * posUnit) then fullStep a load d else d

/-- The 8 µs planner tick of every axis; STOP_ALL is answered when the last has stopped (R374). -/
def plannerTick (loads : List Nat) (d : Dev) : Dev :=
  d.onPeriod .planner (8 * us) fun d =>
    let d := (List.range 8).foldl (fun d a => axisPlan a (nth 1023 loads a) d) d
    if d.motc.stopAll = true ∧ ((List.range 8).all fun a => (d.axis a).phase == .idle) = true then
      ({ d with motc := { d.motc with stopAll := false } }).ev .MOTC 0 2
    else d

/-- The commanded position has stood at TARGET for SETTLE_US (R370). -/
def inPos (a : Nat) (d : Dev) : Dev :=
  d.onTimer (.inPos a) fun d => if (d.axis a).moving then d else (d.put (Reg.MOT.STAT.IN_POS a) true).ev .MOT a 0

/-! ### Current regulation (R378, R381) -/

/-- The set-point of a phase in mA: I cos θ for A, I sin θ for B; four full steps make an electrical turn. -/
def Dev.setPoint (d : Dev) (a phase : Nat) : Int :=
  let x := d.axis a
  let unit : Int := match d.get (Reg.MOT.STAT.MSTEP a) with
    | 2 => 256
    | 1 => 16
    | _ => ((2 ^ (8 - min 8 (d.get (Reg.MOT.MSTEP_CFG.BASE a))) : Nat) : Int)
  let p := (x.pos.fdiv posUnit).fdiv unit * unit
  let θ := (if d.is (Reg.MOT.CFG.INVERT a) then -p else p) % 1024
  let k := (θ + (if phase = 0 then 256 else 0)) % 1024
  (d.get (Reg.MOT.LOAD.I_ACT a) : Int) * Config.sine k.toNat / 32768

/-- OVERCURRENT: every gate low, OFF until ENABLE is written 0 and then 1. -/
def overcurrent (a : Nat) (d : Dev) : Dev :=
  let x := d.axis a
  let d := homingEnds a (d.setAxis a { x with phase := .idle, vel := 0, acc := 0, brake := false, kept := false, ends := false, locked := true })
  let d := gatesLow a (d.put (Reg.MOT.STAT.HOMED a) false)
  (d.disarm (.inPos a)).raise a Kind.MOT.OVERCURRENT

/-- A phase's conversion in a PWM period: `code` is the 12-bit code; the regulator's next duty is not stated. -/
def pwmPeriod (a phase code : Nat) (d : Dev) : Dev :=
  if d.is (Reg.MOT.STAT.OFF a) then d
  else
    let c : Int := max 0 ((code : Int) + d.trim 13 (2 * a + phase))
    let i : Int := c * (d.get (Reg.MOT.SENSE_CFG.FS_MA a) : Nat) / 4095
    if ((d.get (Reg.MOT.SENSE_CFG.OC_LIM a) : Nat) : Int) < i then overcurrent a d
    else
      let sp := (d.setPoint a phase).natAbs
      let x := d.axis a
      let low := decide (d.get (Reg.MOT.CURRENT.I_RUN a) ≤ 4 * sp) && decide (8 * i < sp)
      let k := if low then nth 0 x.opens phase + 1 else 0
      let duty := setNth (Config.freeValue d.free) x.duty phase
      let x := { x with opens := setNth (if k = 16 then 0 else k) x.opens phase, duty }
      let d := { d.drawn with axes := tset Axis.init a x d.axes }
      if k = 16 then (axisStop a false d).raise a Kind.MOT.OPEN_PHASE { arg := phase } else d

/-! ### Limit switches (R384, R385) -/

/-- The tripped flag of a limit: 0 LIMN, 1 LIMP. -/
def limitFlag (a lim : Nat) : Fld := if lim = 0 then Reg.MOT.STAT.LIMN a else Reg.MOT.STAT.LIMP a

/-- The debounce time in steps. -/
def Dev.debounce (d : Dev) (a : Nat) : Nat := min 10000 (d.get (Reg.MOT.DEBOUNCE.US a)) * us

/-- A limit counts as tripped: overtravel in the direction of travel, recorded otherwise. -/
def limitActs (a lim : Nat) (d : Dev) : Dev :=
  let d := d.put (limitFlag a lim) true
  let x := d.axis a
  let towards := if lim = 0 then decide (x.vel < 0) else decide (0 < x.vel)
  let ownSwitch := decide (x.homing = 1 ∨ x.homing = 2) && d.get (Reg.MOT.CFG.HOME_MODE a) == lim
  if towards = false ∨ ownSwitch = true then d
  else
    let d := if x.homing ≠ 0 then d.put (Reg.MOT.STAT.HOMED a) false else d
    (axisStop a true (homingEnds a d)).raise a Kind.MOT.OVERTRAVEL { arg := lim }

/-- A limit input has stayed tripped for the debounce time. -/
def limitTrip (a lim : Nat) (d : Dev) : Dev :=
  d.onTimer (.debounce a lim) fun d => if nth false (d.axis a).raw lim then limitActs a lim d else d

/-- A raw edge of a limit input to a pin level. -/
def limitEdge (a lim : Nat) (high : Bool) (d : Dev) : Dev :=
  let lim := min 1 lim
  let tripped := high != (d.get (Reg.MOT.CFG.LIM_POL a)).testBit lim
  let x := d.axis a
  if nth false x.raw lim = tripped then d
  else
    let now := d.time.up
    let fresh := decide (nth 0 x.winEnd lim ≤ now)
    let k := if fresh then 1 else nth 0 x.edges lim + 1
    let x := { x with
      raw := setNth tripped x.raw lim
      edges := setNth k x.edges lim
      winEnd := if fresh then setNth (now + d.debounce a) x.winEnd lim else x.winEnd }
    let first := tripped && fresh && !d.is (limitFlag a lim)
    let d := { d with axes := tset Axis.init a x d.axes }
    let d := if first then (d.set (Reg.MOT.LATCH_POS.POS a) (d.get (Reg.MOT.POS.POS a))).set (Reg.MOT.LATCH_SRC.SRC a) lim else d
    let d := if tripped = true ∧ x.homing = 1 ∧ d.get (Reg.MOT.CFG.HOME_MODE a) = lim then homeReference a false d else d
    let d := if k = d.get (Reg.MOT.DEBOUNCE.CHATTER a) + 1 ∧ fresh = false then d.raise a Kind.MOT.SWITCH_UNRELIABLE { arg := lim } else d
    if tripped then (if d.debounce a = 0 then limitActs a lim d else d.arm (.debounce a lim) (d.debounce a))
    else (d.put (limitFlag a lim) false).disarm (.debounce a lim)

/-! ### Header controls (R376) -/

/-- KILL of an axis: a quick stop; the axis then holds. -/
def motKill (a : Nat) (d : Dev) : Dev :=
  let d := if (d.axis a).phase = .idle then d else d.put (Reg.HDR.ABORTED (pg .MOT a)) true
  axisStop a true d

/-- The stop of an axis has not ended within its drain timeout. -/
def motTimeout (a : Nat) (d : Dev) : Dev := motKill a d

/-- Has an axis come to rest? -/
def Dev.axisRests (d : Dev) (a : Nat) : Bool := (d.axis a).phase == .idle

/-- SOFT_RESET of an axis: POS 0, HOMED and the counters cleared, gates low; a limit input that is tripped is debounced
anew. -/
def motReset (a : Nat) (d : Dev) : Dev :=
  let raw := (d.axis a).raw
  let d := ((d.disarm (.hold a)).disarm (.inPos a))
  let d := { d with axes := tset Axis.init a { Axis.init with raw } d.axes }
  let d := if nth false raw 0 then d.arm (.debounce a 0) (d.debounce a) else d
  if nth false raw 1 then d.arm (.debounce a 1) (d.debounce a) else d

/-- The fields of MOTC that are not register contents: MOVING. -/
def motcView (d : Dev) (f : Fld) : Option Nat :=
  if f = Reg.MOTC.MOVING.AXES then some ((List.range 8).foldl (fun m a => if d.is (Reg.MOT.STAT.MOVING a) then setB m a else m) 0)
  else none

end Sys2Proof.Machine
end

