-- ==== Sys2Proof/Machine/Spit.lean ====
section
/-!
DEFINITION. Spit bursts (R386, R387): the cycles of each port, how they are latched beside the print cycles, and the
end of a burst.
-/
namespace Sys2Proof.Machine

/-- May a port spit (R387)? -/
def Dev.spitReady (d : Dev) (n : Nat) : Bool :=
  d.headUp n && d.is Reg.SYS.BRINGUP.HEAD_POWER_ARMED && !d.hot n && decide (2 ≤ (d.heat n).valid) && (d.geom n).isSome

/-- A port of a burst with cycles left: the cycles, and the moment of the next. -/
def Dev.spitOf (d : Dev) (n : Nat) : Option (Nat × Nat) := aget n d.motc.spits

/-- A port is left out of a burst, or stopped early. -/
def spitCut (d : Dev) (n : Nat) : Dev :=
  ({ d with motc := { d.motc with spits := adel n d.motc.spits } }.bump Reg.MOTC.SPIT_STAT.CUT 1).raise 0 Kind.MOTC.SPIT_REFUSED { port := n }

/-- Does a port's spit cycle still run? -/
def Dev.spitting (d : Dev) (n : Nat) : Bool :=
  (match (d.port n).built with | some c => c.group == spitGroup | none => false) ||
  (match (d.port n).firing with | some f => f.group == spitGroup && !f.done | none => false)

/-- Ports with no cycle left end; when every port has, BUSY clears and source 220 is raised. -/
def spitSync (d : Dev) : Dev :=
  let live := d.motc.spits.filter fun s => decide (s.2.1 ≠ 0) || d.spitting s.1
  let d := { d with motc := { d.motc with spits := live } }
  if live = [] ∧ d.is Reg.MOTC.SPIT_STAT.BUSY = true then
    ({ d with motc := { d.motc with ending := false } }.put Reg.MOTC.SPIT_STAT.BUSY false).ev .MOTC 0 0
  else d

/-- SPIT_CMD.GO. -/
def spitGo (d : Dev) : Dev :=
  if d.mode ≠ 1 ∨ d.is Reg.MOTC.SPIT_STAT.BUSY = true ∨ d.enabled (pg .MOTC 0) = false ∨ d.refuses (pg .MOTC 0) = true then
    d.raise 0 Kind.MOTC.SPIT_REFUSED
  else
    let ports := bitList 64 (d.get Reg.MOTC.SPIT_PORTS.PORTS)
    let count := max 1 (d.get Reg.MOTC.SPIT_CFG.COUNT)
    let d := d.put Reg.MOTC.SPIT_STAT.BUSY true
    let d := { d with motc := { d.motc with
      ending := false
      spits := (ports.filter d.spitReady).map fun n => (n, (count, d.time.up)) } }
    spitSync ((ports.filter fun n => !d.spitReady n).foldl spitCut d)

/-- SPIT_CMD.STOP, a fault reaction of STOP or above, and KILL: every port ends at the end of its current cycle. -/
def spitStop (d : Dev) : Dev :=
  if d.is Reg.MOTC.SPIT_STAT.BUSY then
    let cut := d.motc.spits.filter fun s => decide (s.2.1 ≠ 0)
    let d := { d with motc := { d.motc with ending := true, spits := d.motc.spits.map fun s => (s.1, (0, s.2.2)) } }
    spitSync (cut.foldl (fun d s => (d.bump Reg.MOTC.SPIT_STAT.CUT 1).raise 0 Kind.MOTC.SPIT_REFUSED { port := s.1 }) d)
  else d

/-- The shots of a spit cycle. -/
def Dev.spitShots (d : Dev) (n : Nat) (g : Geom) : List Shot :=
  g.noz.filterMap fun e =>
    if nozFactoryOff e.2 = true ∨ (d.pipe n).hostOff.contains e.1 = true ∨
        ((d.noz n e.1).state = 3 ∧ d.is Reg.MOTC.SPIT_CFG.FAILED = false) then none
    else some { row := nozRow e.2, noz := e.1, code := 1, f := 0, boost := false }

/-- A spit cycle is built: stages 5 to 7 of Table 6.1 without a mask. -/
def spitBuild (n : Nat) (g : Geom) (d : Dev) : Dev :=
  let d := (d.classesInUse n).foldl (fun d k => slewStep n d k) d
  let lines : List RowLine := (List.range g.rows).map fun r => { row := r, job := 2 ^ 64, line := 0xFFFFFFFF }
  let c : Cycle := { group := spitGroup, lines, codes := [], frames := [], shipped := 0, segs := 0, segsVoted := 0,
                     digestVoted := false, failed := false, cand := none, waves := d.wavesNow n, waits := false,
                     resend := [], rho := d.rho n, conc := 0, cls := (d.heat n).cls, rots := [], map := d.mapOf n, changes := [],
                     ver := (d.pipe n).mapVer, other := [], sum := [], otherSum := [], bufs := [], flags := [0, 0] }
  let d := d.setPort n { d.port n with cycles := (d.port n).cycles + 1 }
  cycleMade n g c [] ((d.spitShots n g).map fun s => (s.noz, s.code)) d

/-- A port's next spit cycle falls due (R386): it is built, or a port that is no longer ready is cut. -/
def spitCycle (n : Nat) (d : Dev) : Dev :=
  match d.spitOf n, d.geom n with
  | some (left, due), some g =>
    if left = 0 ∨ d.spitting n = true ∨ d.runs (pg .MOTC 0) = false then d
    else
      let d := d.advanceTo due
      if d.spitReady n then
        let period := max (d.get Reg.MOTC.SPIT_CFG.PERIOD_US * us) (d.tMin n (d.wavesNow n))
        let d := { d with motc := { d.motc with spits := aset n (left - 1, d.time.up + period) d.motc.spits } }
        spitBuild n g d
      else spitSync (spitCut d n)
  | some _, none => spitSync (spitCut d n)
  | none, _ => d

/-- LAT of a spit cycle: as soon as it is voted and the port is free. -/
def spitLat (n : Nat) (c : Cycle) (d : Dev) : Dev :=
  if d.notReady n = true ∨ c.resend ≠ [] ∨ d.spitReady n = false then d
  else latchAt n c false 0 (d.advanceTo (d.port n).portFree)

/-- LAT of a port: of the spit cycle it holds, or of its print cycle. -/
def latPort (n : Nat) (d : Dev) : Dev :=
  match (d.port n).built with
  | some c => if c.group = spitGroup then spitSync (spitLat n c d) else lat n d
  | none => lat n d

/-- A SLOT mark of a port; a spit burst may end with it. -/
def slotMarkPort (n : Nat) (d : Dev) : Dev := spitSync (slotMark n d)

end Sys2Proof.Machine
end

