-- ==== Sys2Proof/Machine/Modes.lean ====
section
/-!
DEFINITION. Modes and mode changes (chapter 3): the preconditions of Table 3.3, requests, re-arm, and what an entry to a
mode does.
-/
namespace Sys2Proof.Machine

/-- STATE.LEVEL (R401): the highest severity among the slots, the overflow and the LOCK latch. -/
def Dev.level (d : Dev) : Nat :=
  (d.flt.slots.map fun s => s.2.sev).foldl max (max d.flt.ovf (if d.flt.lock.isSome then 5 else 0))

/-! ### Preconditions (R52, R53, Table 3.3) -/

/-- May a mode be entered in the present lifecycle state (R53)? -/
def Dev.lifecycleAllows (d : Dev) (m : Nat) : Bool :=
  let s := d.get Reg.SEC.LIFECYCLE.STATE
  m == 0 || s == 1 || s == 2 || (s == 3 && m == 1)

/-- Is the fault condition of row 4 clear: SAFE_IN_N high, and nothing at SAFE or LOCK unacknowledged (R408)? -/
def Dev.safeClear (d : Dev) : Bool := !d.flt.safeInLow && decide (d.level < 4) &&
  !(d.flt.memoHeld && d.is Reg.FLT.LOCK_POL.MEMO)

/-- Is an engine active and healthy, and the standby with it when MODE_CFG requires one (row 8)? -/
def Dev.enginesOk (d : Dev) : Bool :=
  d.estate d.activeEngine == 4 && !d.eng.lost && (!d.is Reg.SYS.MODE_CFG.REQUIRE_STANDBY || d.is Reg.SYS.BRINGUP.STANDBY_OK)

/-- Is there a position source: POS_VALID, or a generator period (row 9)? -/
def Dev.positionOk (d : Dev) (m : Nat) : Bool := if m = 5 then d.fixPeriod != 0 else d.is Reg.SYS.BRINGUP.POS_VALID

/-- The reason code of the first of rows 6 to 10 that fails for a print mode. -/
def Dev.printRefusal (d : Dev) (m : Nat) : Option Nat :=
  if !(d.is Reg.SYS.BRINGUP.HEAD_POWER_ARMED && d.is Reg.SYS.BRINGUP.LINKS_TRAINED) then some 0x06
  else if !d.is Reg.SYS.BRINGUP.HEALTH_KNOWN then some 0x07
  else if !d.enginesOk then some 0x08
  else if !d.positionOk m then some 0x09
  else if 3 ≤ d.level then some 0x04
  else none

/-- The reason code of the first precondition a request for mode `m` fails (Table 3.3). -/
def Dev.modeRefusal (d : Dev) (m : Nat) : Option Nat :=
  if 5 < m then some 0x01
  else if d.printing = true ∧ isPrint m = true ∧ m ≠ d.mode then some 0x02
  else if d.lifecycleAllows m = false then some 0x03
  else if m ≠ 0 ∧ d.safeClear = false then some 0x04
  else if m ≠ 0 ∧ ¬(d.is Reg.SYS.BRINGUP.BASIN_READY = true ∧ d.is Reg.SYS.BRINGUP.CAL_DONE = true) then some 0x05
  else if isPrint m then
    match d.printRefusal m with
    | some c => some c
    | none => if d.is Reg.SYS.BRINGUP.PRINT_ARMED then none else some 0x0A
  else none

/-- The reason code of the first of rows 4 and 6 to 10 that a re-arm fails (R58), each for the modes it names. -/
def Dev.rearmRefusal (d : Dev) : Option Nat :=
  if d.mode ≠ 0 ∧ d.safeClear = false then some 0x04
  else if d.printing then d.printRefusal d.mode
  else none

/-! ### Requests (R51 to R58) -/

/-- A request is refused with a reason code. -/
def modeRefused (code : Nat) (d : Dev) : Dev :=
  ((d.put Reg.SYS.MODE_STAT.REFUSED true).set Reg.SYS.MODE_STAT.REFUSE code).raise 0 Kind.SYS.MODE_REFUSED { arg := code }

/-- A request is accepted: it is pending, and replaces a pending one (R54, R55).  The STANDBY that a LIFECYCLE_ADVANCE
forces stands (R453). -/
def modeAccepted (m : Nat) (rowStop : Bool) (d : Dev) : Dev :=
  let m := match d.sec.cmd with | some c => if c.opcode = 0x01 then 0 else m | none => m
  let was := d.is Reg.SYS.MODE_STAT.PENDING && d.sys.rowExit
  let d := (d.put Reg.SYS.MODE_STAT.PENDING true).set Reg.SYS.MODE_STAT.TARGET m
  let d := { d with sys := { d.sys with rowExit := d.printing && (rowStop || was) } }
  if d.mode = 1 then scanStop d else d

/-- A re-arm passes: HALT clears, and firing resumes beyond the highest position reached (R58).  A mode change that is pending
stays pending: R55 gives its fate to an accepted request only (DESIGN CHOICE, notes/assumptions/72.md). -/
def rearm (d : Dev) : Dev :=
  let d := { d.setHalt false with prt := { d.prt with stopped := [] } }
  if d.printing then scheduleAll (activatePassed d) else d

/-- SYS.MODE_REQ written with GO (R51, R52, R55, R58). -/
def modeRequest (m : Nat) (rowStop : Bool) (d : Dev) : Dev :=
  let d := (d.set Reg.SYS.MODE_REQ.MODE m).put Reg.SYS.MODE_REQ.WHEN rowStop
  let m := m % 8
  if m = d.mode then
    if d.halted = false then d
    else match d.rearmRefusal with
      | some c => modeRefused c d
      | none => rearm d
  else
    match d.modeRefusal m with
    | some c => modeRefused c d
    | none => modeAccepted m rowStop d

/-! ### The change takes effect (R54, R57, R63) -/

/-- Entry to a print mode: the settings that it latches (Table 7.6, R118, R127, R145), classes, layouts, buckets, TRG. -/
def printEntry (d : Dev) : Dev :=
  let d := { d with
    thm := { d.thm with rhoNom := d.get Reg.THM.RHO.NOM, start := d.get Reg.THM.START.DUTY, cmax := d.get Reg.THM.NOZ_WIN.CMAX,
                        nw := d.get Reg.THM.NOZ_WIN.NW, nh := d.get Reg.THM.HEAD_WIN.NH }
    prt := { d.prt with stopped := [] } }
  scheduleAll (refillAll (trgEntry (bucketsInit (layoutAll (reclassAll d)))))

/-- MODE takes a value: built cycles are dropped on leaving a print mode, which leaves no slew under way (R167). -/
def enterMode (m : Nat) (d : Dev) : Dev :=
  let was := d.printing
  let d := engAccrue d
  let d := if was then trgExit d else d
  let d := { ((d.set Reg.SYS.MODE_STAT.MODE m).put Reg.SYS.MODE_STAT.PENDING false) with sys := { d.sys with rowExit := false } }
  let d := if was then settleWaves d else d
  if isPrint m then printEntry d else sigmaSync d

/-- Has the pending change reached its boundary (R54)? -/
def Dev.modeReady (d : Dev) : Bool :=
  if d.printing then
    d.trgIdle && (d.sys.rowExit || (List.range 16).all fun p => !(d.plane p).jobs.any (·.active))
  else !d.is Reg.MOTC.SPIT_STAT.BUSY && !d.snd.running

/-- The pending change completes (R54, R58): the new mode, source 4, and HALT cleared. -/
def modeChanged (d : Dev) : Dev :=
  if d.is Reg.SYS.MODE_STAT.PENDING = true ∧ d.modeReady = true then
    (enterMode (d.get Reg.SYS.MODE_STAT.TARGET) (d.setHalt false)).ev .SYS 0 4
  else d

/-- MODE is set to STANDBY by a fault reaction of SAFE or LOCK, and by nothing else at once (R57). -/
def forceStandby (d : Dev) : Dev :=
  let tell := d.mode ≠ 0 ∨ d.is Reg.SYS.MODE_STAT.PENDING = true
  let d := (enterMode 0 d).setHalt false
  if tell then d.ev .SYS 0 4 else d

end Sys2Proof.Machine
end

