-- ==== Sys2Proof/Machine/RegMap.lean ====
section
/-!
DEFINITION. The fields of each page of the page map (R34, R476): those of the block's own register table, by block and by
register offset.
-/
namespace Sys2Proof.Machine

/-- Every field of a block instance's own registers. -/
def Blk.fields (n : Nat) : Blk → List Fld
  | .SYS => Reg.SYS.fields
  | .CLK => Reg.CLK.fields
  | .PWR => Reg.PWR.fields
  | .SEC => Reg.SEC.fields
  | .EVT => Reg.EVT.fields
  | .FLT => Reg.FLT.fields
  | .SED => Reg.SED.fields
  | .PCI => Reg.PCI.fields
  | .CAL => Reg.CAL.fields
  | .BAS => Reg.BAS.fields
  | .TRN => Reg.TRN.fields
  | .SHL => Reg.SHL.fields
  | .DMAC => Reg.DMAC.fields
  | .DMA => Reg.DMA.fields n
  | .CMPC => Reg.CMPC.fields
  | .CMP => Reg.CMP.fields n
  | .DCM => Reg.DCM.fields n
  | .ENCC => Reg.ENCC.fields
  | .ENC => Reg.ENC.fields n
  | .EOUT => Reg.EOUT.fields n
  | .EMR => Reg.EMR.fields
  | .EML => Reg.EML.fields n
  | .PRT => Reg.PRT.fields
  | .TRG => Reg.TRG.fields
  | .THM => Reg.THM.fields
  | .SND => Reg.SND.fields
  | .MSK => Reg.MSK.fields
  | .ENG => Reg.ENG.fields
  | .ENGX => Reg.ENGX.fields n
  | .HPT => Reg.HPT.fields n
  | .MOTC => Reg.MOTC.fields
  | .MOT => Reg.MOT.fields n
  | .GPIO => Reg.GPIO.fields
  | .SMB => Reg.SMB.fields
  | .SPIF => Reg.SPIF.fields

/-- The fields of the register of a block instance at page offset `off`. -/
def Blk.fieldsAt (n off : Nat) : Blk → List Fld
  | .SYS => Reg.SYS.at off
  | .CLK => Reg.CLK.at off
  | .PWR => Reg.PWR.at off
  | .SEC => Reg.SEC.at off
  | .EVT => Reg.EVT.at off
  | .FLT => Reg.FLT.at off
  | .SED => Reg.SED.at off
  | .PCI => Reg.PCI.at off
  | .CAL => Reg.CAL.at off
  | .BAS => Reg.BAS.at off
  | .TRN => Reg.TRN.at off
  | .SHL => Reg.SHL.at off
  | .DMAC => Reg.DMAC.at off
  | .DMA => Reg.DMA.at n off
  | .CMPC => Reg.CMPC.at off
  | .CMP => Reg.CMP.at n off
  | .DCM => Reg.DCM.at n off
  | .ENCC => Reg.ENCC.at off
  | .ENC => Reg.ENC.at n off
  | .EOUT => Reg.EOUT.at n off
  | .EMR => Reg.EMR.at off
  | .EML => Reg.EML.at n off
  | .PRT => Reg.PRT.at off
  | .TRG => Reg.TRG.at off
  | .THM => Reg.THM.at off
  | .SND => Reg.SND.at off
  | .MSK => Reg.MSK.at off
  | .ENG => Reg.ENG.at off
  | .ENGX => Reg.ENGX.at n off
  | .HPT => Reg.HPT.at n off
  | .MOTC => Reg.MOTC.at off
  | .MOT => Reg.MOT.at n off
  | .GPIO => Reg.GPIO.at off
  | .SMB => Reg.SMB.at off
  | .SPIF => Reg.SPIF.at off

end Sys2Proof.Machine
end

