-- ==== Sys2Proof/Machine/Faults.lean ====
section
/-!
DEFINITION. The fault collector FLT and its reactions (R392 to R411): severities, slots, escalation, reactions, the ways out
of a fault state, Ripple, and the fault policy.  Sediment and its dumps (R412 to R420).
-/
namespace Sys2Proof.Machine

/-- Names of output pins and drivers, for the record of outputs. -/
def Pin.faultN : Nat := 3
/-- See `Pin.faultN`. -/
def Pin.ripple : Nat := 4
/-- See `Pin.faultN`: HPWR_EN_g by index g. -/
def Pin.hpwr : Nat := 5

/-! ### Sediment records (R412 to R415) -/

/-- The bytes of a record with its sequence number (Table 17.8). -/
def sedBytes (seq : Nat) (r : SedRec) : Bytes :=
  leBytes 8 r.ts ++ leBytes 2 seq ++ leBytes 1 r.source ++ leBytes 1 r.kind ++ leBytes 1 r.severity ++ leBytes 1 r.master ++
  leBytes 1 r.mode ++ leBytes 1 r.flags ++ leBytes 4 r.line ++ leBytes 8 r.arg ++ leBytes 1 r.port ++ leBytes 3 0

/-- FROZEN is set: the records waiting are dropped and counted (R415). -/
def sedFreeze (d : Dev) : Dev :=
  if d.is Reg.SED.STAT.FROZEN then d
  else
    let n := d.sed.fifo.length
    let d := (d.put Reg.SED.STAT.FROZEN true).bump Reg.SED.LOST.COUNT n
    ({ d with sed := { d.sed with fifo := [], post := none } }).ev .SED 0 0

/-- Would a record with sequence number `seq` overwrite a protected one (R415)? -/
def Dev.sedProtected (d : Dev) (seq : Nat) : Bool :=
  let first := d.get Reg.SED.PROT.FIRST
  let size := (d.get Reg.SED.PROT.LAST + 65536 - first) % 65536
  d.is Reg.SED.STAT.PROTECT && decide ((seq + 32768 + 65536 - first) % 65536 ≤ size)

/-- A record is stored at the next sequence number; it starts or counts down POST (R412, R415). -/
def sedStore (r : SedRec) (d : Dev) : Dev :=
  let seq := d.get Reg.SED.HEAD.SEQ
  if d.sedProtected seq then sedFreeze (d.bump Reg.SED.LOST.COUNT 1)
  else
    let d := (d.set Reg.SED.HEAD.SEQ ((seq + 1) % 65536)).bump Reg.SED.TOTAL.COUNT 1
    let post := match d.sed.post with
      | some k => some (k - 1)
      | none => if r.trigger then some (d.get Reg.SED.FREEZE_CFG.POST) else none
    { d with sed := { d.sed with mem := memWrite 0 (32 * (seq % 32768)) (sedBytes seq r) d.sed.mem, post } }

/-- The oldest record of the FIFO is stored; a POST countdown that has run out ends first. -/
def sedimentRecord (d : Dev) : Dev :=
  match d.sed.fifo with
  | [] => d
  | r :: rest =>
    if d.sed.post = some 0 then d
    else sedStore r { d with sed := { d.sed with fifo := rest } }

/-- POST records have been written since the trigger (R415). -/
def freezeCountEnd (d : Dev) : Dev := if d.sed.post = some 0 then sedFreeze d else d

/-- Every record of the FIFO is stored, with the end of a countdown among them. -/
def sedFlush (d : Dev) : Dev :=
  (List.range d.sed.fifo.length).foldl (fun d _ => freezeCountEnd (sedimentRecord d)) d

/-- CTRL.RELEASE (R415). -/
def sedRelease (d : Dev) : Dev :=
  { ((d.put Reg.SED.STAT.FROZEN false).put Reg.SED.STAT.PROTECT false) with sed := { d.sed with post := none } }

/-- A wipe of Sediment (R415): no record is left, nor a protected one. -/
def sedWipe (d : Dev) : Dev :=
  let d := ((d.set Reg.SED.HEAD.SEQ 0).set Reg.SED.TOTAL.COUNT 0).put Reg.SED.STAT.PROTECT false
  { (d.set Reg.SED.PROT.FIRST 0).set Reg.SED.PROT.LAST 0 with sed := { d.sed with fifo := [], mem := [], post := none } }

/-- At a fault reset the records held become protected (R409, R415). -/
def sedProtect (d : Dev) : Dev :=
  let n := min 32768 (d.get Reg.SED.TOTAL.COUNT)
  if n = 0 then d
  else
    let h := d.get Reg.SED.HEAD.SEQ
    ((d.put Reg.SED.STAT.PROTECT true).set Reg.SED.PROT.FIRST ((h + 65536 - n) % 65536)).set Reg.SED.PROT.LAST ((h + 65535) % 65536)

/-! ### The dump (R417 to R419) -/

/-- The flash offset of the dump region. -/
def Dev.dumpBase (d : Dev) : Nat := d.get Reg.SED.DUMP_CFG.BASE * 65536

/-- The records of a dump set: the newest `n`, newest block first, each block in ascending order. -/
def dumpBlocks (mem : List Host.Cell) (last : Nat) : Nat → Nat → List Bytes
  | 0, _ => []
  | fuel + 1, n =>
    if n = 0 then []
    else
      let k := min 128 n
      ((List.range k).flatMap fun i => memRead 0 mem (32 * ((last + 65536 + 1 - k + i) % 32768)) 32) ::
        dumpBlocks mem ((last + 65536 - k) % 65536) fuel (n - k)

/-- A dump set is taken: the 4,096 newest records (R417). -/
def dumpTake (reason : Nat) (d : Dev) : Dev :=
  let d := sedFlush d
  let total := d.get Reg.SED.TOTAL.COUNT
  let n := min 4096 total
  let last := (d.get Reg.SED.HEAD.SEQ + 65535) % 65536
  let h := leBytes 4 0x504D4453 ++ leBytes 1 1 ++ leBytes 1 reason ++ leBytes 2 last ++ leBytes 8 d.ts ++ leBytes 4 n ++ leBytes 4 total ++
    leBytes 1 d.level ++ leBytes 3 0
  let x : Dump := { reason, ts := d.ts, blocks := dumpBlocks d.sed.mem last 32 n, header := h ++ leBytes 4 (crc32c h), started := false,
                    bytes := [], at_ := 0, ends := [] }
  { d with sed := { d.sed with dump := some x } }

/-- A dump falls due: the power-fail dump takes the place of a memo dump that has not started (R410). -/
def dumpAsk (reason : Nat) (d : Dev) : Dev :=
  match d.sed.dump with
  | none => dumpTake reason d
  | some x =>
    if x.started then d.set Reg.SED.DUMP_STAT.CODE 4
    else if reason = 1 then dumpTake 1 d else d

/-- The dump starts: CMP_3's job is killed, the dump set is compressed into Shallows slice 63 and laid out in pages; with the
region other than READY no dump is written, and an SPIF operation ends first (R417, R418, R479). -/
def dumpStart (d : Dev) : Dev :=
  match d.sed.dump with
  | none => d
  | some x =>
    if x.started = true ∨ d.spif.isSome = true then d
    else if ¬(d.is Reg.SED.DUMP_CFG.EN = true ∧ d.sed.region = 1) then
      { d.set Reg.SED.DUMP_STAT.CODE 4 with sed := { d.sed with dump := none } }
    else
      let d := cmpCut 3 5 d
      let whole := x.blocks.flatMap id
      let packed := (List.range x.blocks.length).map fun b => packBlock 1 (Config.tokens 2 1 4096 0 whole b) (nth [] x.blocks b)
      let body := packed.flatMap id ++ endRecord packed.length whole.length
      let ends := (List.range packed.length).map fun b => 256 + ((packed.take (b + 1)).map List.length).foldl (· + ·) 0
      let header := x.header ++ List.replicate (256 - x.header.length) 0xFF
      let d := d.shallowsWrite (63 * 524288) body
      { d.set Reg.SED.DUMP_STAT.BLOCKS 0 with sed := { d.sed with dump := some { x with started := true, bytes := header ++ body, ends } } }

/-- The dump ends: DUMP_STAT and source 26 (R419). -/
def dumpClose (code : Nat) (x : Dump) (d : Dev) : Dev :=
  let d := { d with sed := { d.sed with dump := none } }
  ((d.set Reg.SED.DUMP_STAT.CODE code).set Reg.SED.DUMP_TS.TS x.ts).ev .SED 0 1

/-- A page of the dump has been programmed, or has failed. -/
def dumpPage (ok : Bool) (d : Dev) : Dev :=
  match d.sed.dump with
  | none => d
  | some x =>
    if x.started = false ∨ x.bytes = [] then d
    else if ok = false then (dumpClose 3 x d).raise 0 Kind.SED.DUMP_FAIL
    else
      let flash := memWrite 0xFF (d.dumpBase + x.at_) (x.bytes.take 256) d.flash
      let at_ := x.at_ + 256
      let d := { d with flash, sed := { d.sed with region := 2, dump := some { x with bytes := x.bytes.drop 256, at_ } } }
      d.set Reg.SED.DUMP_STAT.BLOCKS (x.ends.filter fun e => decide (e ≤ at_)).length

/-- The dump is complete (R419). -/
def dumpEnd (d : Dev) : Dev :=
  match d.sed.dump with
  | some x => if x.started = true ∧ x.bytes = [] then dumpClose 1 x d else d
  | none => d

/-- CTRL.DUMP_CLEAR: a HELD region is erased (R418). -/
def dumpClear (d : Dev) : Dev :=
  if d.is Reg.SED.DUMP_CFG.EN = true ∧ d.sed.region = 2 ∧ d.sed.dump = none then { d with sed := { d.sed with region := 3 } } else d

/-- An erase of the region ends: it is READY. -/
def dumpErased (d : Dev) : Dev :=
  if d.sed.region = 3 then
    { d with flash := memClear d.dumpBase 262144 d.flash, sed := { d.sed with region := 1 } }
  else d

/-- The whole blocks a dump region holds: the first unit that is neither a block nor an end record ends the count. -/
def heldBlocks (flash : List Host.Cell) : Nat → Nat → Nat
  | 0, _ => 0
  | fuel + 1, a =>
    if memGet 0xFF flash a = 0xB7 then 1 + heldBlocks flash fuel (a + 16 + leVal (memRead 0xFF flash (a + 8) 4)) else 0

/-- A LOCK memo counts as an unacknowledged LOCK from now on (R408). -/
def memoCheck (d : Dev) : Dev :=
  if d.flt.memoHeld = true ∧ d.is Reg.FLT.LOCK_POL.MEMO = true then d.raise 0 Kind.SED.LOCK_MEMO else d

/-- The dump region is examined as the dump is enabled (R418). -/
def dumpScan (d : Dev) : Dev :=
  let base := d.dumpBase
  let h := memRead 0xFF d.flash base 32
  if leAt h 0 4 = 0x504D4453 ∧ byteAt h 4 = 1 ∧ crc32c (h.take 28) = leAt h 28 4 then
    let blocks := heldBlocks d.flash 33 (base + 256)
    let d := { d with sed := { d.sed with region := 2 }, flt := { d.flt with memoHeld := byteAt h 5 == 2 } }
    let d := d.ev .SED 0 2
    let d := if blocks < ceilDiv (leAt h 16 4) 128 then
        ((d.set Reg.SED.DUMP_STAT.CODE 2).set Reg.SED.DUMP_STAT.BLOCKS blocks).raise 0 Kind.SED.DUMP_SHORT else d
    memoCheck d
  else
    let blank := !(d.flash.any fun c => decide (base ≤ c.1) && decide (c.1 < base + 262144))
    { d with sed := { d.sed with region := if blank then 1 else 3 } }

/-- DUMP_CFG.EN written: enabling examines the region. -/
def dumpEnable (on : Bool) (d : Dev) : Dev :=
  let was := d.is Reg.SED.DUMP_CFG.EN
  let d := d.put Reg.SED.DUMP_CFG.EN on
  if on = true ∧ was = false then dumpScan d else d

/-- SED.STAT as read: the dump region and the FIFO. -/
def sedView (d : Dev) (f : Fld) : Option Nat :=
  if f = Reg.SED.STAT.DUMP then some (if d.is Reg.SED.DUMP_CFG.EN then d.sed.region else 0)
  else if f = Reg.SED.STAT.FIFO then some d.sed.fifo.length
  else none

/-! ### LEVEL, FAULT_N, Ripple (R401, R403, R405) -/

/-- Does a cause hold Ripple? -/
def Dev.rippleCause (d : Dev) : Bool := decide (4 ≤ d.level) || d.flt.kickMissed || d.flt.selfCheck || d.sys.inReset

/-- STATE follows the slots: LEVEL with source 17, FAULT_N, RIPPLE_HELD. -/
def levelSync (d : Dev) : Dev :=
  let lv := d.level
  let d := if d.get Reg.FLT.STATE.LEVEL = lv then d else (d.set Reg.FLT.STATE.LEVEL lv).ev .FLT 0 1
  let low := decide (3 ≤ lv)
  let d := if d.is Reg.FLT.STATE.FAULT_N = low then d
    else (d.put Reg.FLT.STATE.FAULT_N low).emit (.pin Pin.faultN 0 (if low then 0 else 1))
  d.put Reg.FLT.STATE.RIPPLE_HELD d.rippleCause

/-- RIPPLE.HALF_US as it acts. -/
def Dev.rippleHalf (d : Dev) : Nat := clamp 5 5000 (d.get Reg.FLT.RIPPLE.HALF_US) * us

/-- The end of a Ripple half-period: the pin toggles unless it is held. -/
def rippleToggle (d : Dev) : Dev :=
  d.onPeriod .ripple d.rippleHalf fun d =>
    if d.rippleCause then d
    else
      let v := !d.flt.ripple
      ({ d with flt := { d.flt with ripple := v } }).emit (.pin Pin.ripple 0 (b2n v))

/-- FLT.KICK (R405). -/
def kick (d : Dev) : Dev :=
  let d := levelSync { d with flt := { d.flt with kickMissed := false } }
  if d.is Reg.FLT.RIPPLE.KICK_EN then d.arm .kick (max 1 (d.get Reg.FLT.RIPPLE.KICK_MS) * ms) else d.disarm .kick

/-- RIPPLE.KICK_EN written: its setting starts the kick timer, its clearing ends the cause. -/
def kickEnable (on : Bool) (d : Dev) : Dev :=
  let was := d.is Reg.FLT.RIPPLE.KICK_EN
  let d := d.put Reg.FLT.RIPPLE.KICK_EN on
  if on = was then d else kick d

/-- No kick for KICK_MS. -/
def kickMissed (d : Dev) : Dev :=
  d.onTimer .kick fun d =>
    if d.is Reg.FLT.RIPPLE.KICK_EN then
      levelSync ({ d with flt := { d.flt with kickMissed := true } }.raise 0 Kind.FLT.KICK_MISSED)
    else d

/-- The collector's own check fails: Ripple is held until its message, at SAFE or above, holds it. -/
def fltInternal (d : Dev) : Dev :=
  levelSync ({ d with flt := { d.flt with selfCheck := true } }.raise 0 Kind.FLT.FLT_INTERNAL)

/-! ### Reactions (R402, Table 17.6) -/

/-- RING_DONE follows the census, or Emriub being disabled, once B6 has ended (R59, Table 3.6). -/
def ringDoneSync (d : Dev) : Dev :=
  d.bringup Reg.SYS.BRINGUP.RING_DONE (d.is Reg.SYS.BRINGUP.SPRING_END &&
    (d.is Reg.EMR.RING_STAT.CENSUS_DONE || !d.enabled (pg .EMR 0)))

/-- B6 is over (R67): SPRING_END is set whatever the outcome, and source 8 rises (Table 3.5). -/
def springEnds (d : Dev) : Dev :=
  let d := ((d.disarm .springDelay).disarm .springPoll).disarm .springLimit
  ringDoneSync ((d.bringup Reg.SYS.BRINGUP.SPRING_END true).ev .SYS 0 8)

/-- The Spring script stops at its current entry (R66). -/
def springStop (fault : Bool) (d : Dev) : Dev :=
  if d.get Reg.SYS.SPRING_STAT.STATE ≠ 1 then d
  else
    let d := (d.set Reg.SYS.SPRING_STAT.STATE 5).set Reg.SYS.SPRING_STAT.ENTRY d.sys.spring.entry
    let d := springEnds d
    if fault then d.raise 0 Kind.SYS.SPRING_STOPPED else d

/-- Every HPWR_EN goes low and both arms clear (R57, R452). -/
def headPowerOff (d : Dev) : Dev :=
  let d := (bitList 8 d.sec.hpwr).foldl (fun d g => d.emit (.pin Pin.hpwr g 0)) d
  let d := { d with sec := { d.sec with hpwr := 0, disarm := false } }
  (d.bringup Reg.SYS.BRINGUP.HEAD_POWER_ARMED false).bringup Reg.SYS.BRINGUP.PRINT_ARMED false

/-- Every FIRE pair low, cutting the cycles under way: the hard-wired FIRE path (Table 17.6). -/
def fireLow (source kind : Nat) (d : Dev) : Dev :=
  (List.range 64).foldl (fun d n => if d.portAtBoundary n then d else cycleEnded n (cutFiring n source kind false d).1) d

/-- STOP: every FIRE pair low, cutting the cycles under way; HALT; the axes and the spit burst stop. -/
def reactStop (source kind : Nat) (d : Dev) : Dev := spitStop (motFaultStop ((fireLow source kind d).setHalt true))

/-- SAFE: head power off, the links down without a fault, quick stops, STANDBY, and the Spring script stopped. -/
def reactSafe (d : Dev) : Dev :=
  let d := headPowerOff d
  let d := (List.range 64).foldl (fun d n => clockStop n false (d.setHead n { d.head n with want := false, goDown := false })) d
  let d := d.bringup Reg.SYS.BRINGUP.LINKS_TRAINED false
  springStop false (forceStandby (motFaultSafe d))

/-- The reactions of an applied severity. -/
def react (sev source kind : Nat) (d : Dev) : Dev :=
  let d := if 3 ≤ sev then reactStop source kind d else d
  if 4 ≤ sev then reactSafe d else d

/-! ### The collector (R393, R398 to R401) -/

/-- The slot of a class. -/
def Dev.slotOf (d : Dev) (source kind : Nat) : Option (Nat × Slot) :=
  d.flt.slots.find? fun s => s.2.source == source && s.2.kind == kind

/-- The escalated severity of a message whose class holds a slot (R400). -/
def Dev.escalated (d : Dev) (m : FaultMsg) (s : Slot) : Nat :=
  let top := if d.is Reg.FLT.LOCK_POL.ESC_LOCK = false ∧ sevFloor m.source m.kind ≠ 5 then 4 else 5
  min (s.sev + 1) (min m.ceil top)

/-- The applied severity of a message. -/
def Dev.applied (d : Dev) (m : FaultMsg) : Nat :=
  if m.sev = 0 then 0
  else match d.slotOf m.source m.kind with
    | some s => max (d.escalated m s.2) m.sev
    | none => m.sev

/-- FIRST_INFO and FAULT_CNT take a message (R398). -/
def firstError (m : FaultMsg) (sev : Nat) (d : Dev) : Dev :=
  let d := d.bump Reg.FLT.FAULT_CNT.COUNT 1
  if d.is Reg.FLT.FIRST_INFO.VALID then d
  else
    (((((((((d.put Reg.FLT.FIRST_INFO.VALID true).set Reg.FLT.FIRST_INFO.SEV sev).set Reg.FLT.FIRST_INFO.KIND m.kind).set
      Reg.FLT.FIRST_INFO.SOURCE m.source).set Reg.FLT.FIRST_INFO.MASTER m.master).set Reg.FLT.FIRST_AUX.PAGE m.page).set
      Reg.FLT.FIRST_AUX.ACCESS m.access).set Reg.FLT.FIRST_AUX.PORT m.port).set Reg.FLT.FIRST_TS.TS d.ts).set Reg.FLT.FIRST_ADDR.ADDR
      m.addrArg

/-- The lowest free slot. -/
def Dev.freeSlot (d : Dev) : Option Nat := (List.range 64).find? fun i => (aget i d.flt.slots).isNone

/-- A message at WARN or above opens or updates its slot, or is applied without one (R399). -/
def slotTake (m : FaultMsg) (sev : Nat) (d : Dev) : Dev :=
  match d.slotOf m.source m.kind with
  | some (i, s) =>
    { d with flt := { d.flt with slots := aset i { s with sev, base := m.sev, count := satInc 10 s.count } d.flt.slots } }
  | none =>
    match d.freeSlot with
    | some i =>
      { d with flt := { d.flt with slots := aset i { source := m.source, kind := m.kind, sev, base := m.sev, count := 1, ts := d.ts } d.flt.slots } }
    | none =>
      let d := { d.put Reg.FLT.STATE.OVF true with flt := { d.flt with ovf := max d.flt.ovf sev } }
      if m.source = 22 ∧ m.kind = 4 then d else d.raise 0 Kind.FLT.ACT_OVERFLOW

/-- The Sediment record of a message (Table 17.8). -/
def msgRec (d : Dev) (m : FaultMsg) (sev : Nat) (esc first : Bool) : SedRec :=
  { ts := d.ts, source := m.source, kind := m.kind, severity := sev, master := m.master, mode := d.mode
    flags := b2n m.remote + 2 * b2n esc + 8 * b2n first + 16 * b2n d.flt.powerfail + 32 * b2n m.injected
    line := m.line, arg := m.addrArg, port := if m.port = 0x7F then 0xFF else m.port
    trigger := decide (d.get Reg.SED.FREEZE_CFG.SEV ≤ sev) }

/-- The FAULT cell of a local fault (R305). -/
def faultForward (m : FaultMsg) (sev mode : Nat) (d : Dev) : Dev :=
  if m.remote = false ∧ d.get Reg.EMR.FAULT_CFG.FWD_SEV ≤ sev then
    d.broadcast 0x30 (leBytes 1 sev ++ leBytes 1 m.kind ++ leBytes 2 m.page ++ leBytes 1 mode ++ leBytes 1 0 ++ leBytes 6 d.ts)
  else d

/-- The LOCK latch is set as LEVEL first reaches 5, with a memo dump when LOCK_POL asks for one (R401, R408, R468). -/
def lockEnter (m : FaultMsg) (sev : Nat) (d : Dev) : Dev :=
  if sev = 5 ∧ d.flt.lock.isNone then
    let d := { d with flt := { d.flt with lock := some (m.source, m.kind) } }
    if d.is Reg.FLT.LOCK_POL.MEMO then dumpAsk 2 d else d
  else d

/-- The PFAIL message: the dump set is taken, later records carry POWERFAIL, and the shed follows (R417, R470). -/
def pfailTake (m : FaultMsg) (d : Dev) : Dev :=
  if m.source = 20 ∧ m.kind = 2 ∧ m.injected = false then
    let d := dumpAsk 1 d
    { d with flt := { d.flt with powerfail := true }, pwr := { d.pwr with shedding := true } }
  else d

/-- A message is applied (R393). -/
def applyMsg (m : FaultMsg) (d : Dev) : Dev :=
  let sev := d.applied m
  let esc := decide (m.sev < sev)
  let first := !d.is Reg.FLT.FIRST_INFO.VALID
  let mode := d.mode
  let d := firstError m sev d
  let d := if m.first then d.set (Reg.HDR.F_SEVERITY m.page) sev else d
  let d := d.sediment (msgRec d m sev esc first)
  let d := if m.source = 24 ∧ m.kind = 6 then { d with flt := { d.flt with selfCheck := false } } else d
  if sev = 0 then pfailTake m d
  else
    let d := slotTake m sev { d with flt := { d.flt with calmSince := d.time.up } }
    let d := lockEnter m sev (d.ev .FLT 0 0)
    let d := levelSync d
    let d := if esc then d.ev .FLT 0 2 else d
    let d := faultForward m sev mode (pfailTake m d)
    react sev m.source m.kind d

/-- The collector takes its oldest message. -/
def faultMessage (d : Dev) : Dev :=
  match d.flt.inbox with
  | [] => d
  | m :: rest => if d.sys.inReset then d else applyMsg m { d with flt := { d.flt with inbox := rest } }

/-! ### Leaving a fault (R406 to R408) -/

/-- May a severity be freed (R406)? -/
def Dev.freeable (d : Dev) (sev : Nat) : Bool :=
  decide (sev < 4) || (decide (sev = 4) && !d.flt.safeInLow && !d.flt.pfailLow)

/-- ACK.GO: the named slot is freed when it may be. -/
def ackSlot (i : Nat) (d : Dev) : Dev :=
  let d := d.set Reg.FLT.ACK.SLOT i
  match aget (i % 64) d.flt.slots with
  | some s => if d.freeable s.sev then levelSync { d with flt := { d.flt with slots := adel (i % 64) d.flt.slots } } else d
  | none => d

/-- Slots and overflow that a predicate on their severity lets go are freed. -/
def freeSlots (p : Nat → Bool) (d : Dev) : Dev :=
  let d := { d with flt := { d.flt with slots := d.flt.slots.filter fun s => !p s.2.sev } }
  if p d.flt.ovf then { d.put Reg.FLT.STATE.OVF false with flt := { d.flt with ovf := 0 } } else d

/-- ACK.ALL. -/
def ackAll (d : Dev) : Dev := levelSync (freeSlots d.freeable d)

/-- ACK.MEMO. -/
def ackMemo (d : Dev) : Dev := { d with flt := { d.flt with memoHeld := false } }

/-- QUIET.MS as it acts, in ms. -/
def Dev.quietMs (d : Dev) : Nat := if d.get Reg.FLT.QUIET.MS = 0 then 0 else clamp 10 60000 (d.get Reg.FLT.QUIET.MS)

/-- The quiet period ends: FLT leaves SAFE by itself (R407). -/
def quietExit (d : Dev) : Dev :=
  let recov := d.get Reg.FLT.QUIET.RECOV_MAX
  if d.quietMs = 0 ∨ d.level ≠ 4 ∨ d.flt.safeInLow = true ∨ d.flt.pfailLow = true ∨
      ¬(recov = 0 ∨ d.get Reg.FLT.RECOV_CNT.COUNT < recov) then d
  else
    let d := d.advanceTo (d.flt.calmSince + d.quietMs * ms)
    levelSync (((freeSlots (fun s => decide (s ≤ 4)) d).bump Reg.FLT.RECOV_CNT.COUNT 1).ev .FLT 0 5)

/-- SAFE_IN_N has been low for 8 samples (R404). -/
def safeIn (d : Dev) : Dev :=
  if d.flt.safeInLow then d else ({ d with flt := { d.flt with safeInLow := true } }).raise 0 Kind.FLT.SAFE_IN

/-- SAFE_IN_N has been high for 8 samples. -/
def safeInRelease (d : Dev) : Dev :=
  if d.flt.safeInLow then { d with flt := { d.flt with safeInLow := false, calmSince := d.time.up } } else d

/-- PFAIL_N has been low for 8 samples (R417, R470): PFAIL is raised, and the collector takes the messages up to it. -/
def pfail (d : Dev) : Dev :=
  if d.flt.pfailLow then d
  else
    let d := ({ d with flt := { d.flt with pfailLow := true } }).raise 0 Kind.FLT.PFAIL
    (List.range d.flt.inbox.length).foldl (fun d _ => faultMessage d) d

/-- PFAIL_N returns high without a reset. -/
def pfailRelease (d : Dev) : Dev :=
  if d.flt.pfailLow then { d with flt := { d.flt with pfailLow := false, powerfail := false, calmSince := d.time.up } } else d

/-! ### INJECT, POL_QUERY, the policy table (R394 to R396) -/

/-- Does a chapter define a pair, or a policy entry name it? -/
def Dev.pairKnown (d : Dev) (source kind : Nat) : Bool :=
  (defaultSev source kind).isSome || (d.polEntry source kind).isSome || (d.polEntry source 0xFF).isSome

/-- FLT.INJECT.GO: a test message. -/
def inject (source kind sev : Nat) (d : Dev) : Dev :=
  let d := ((d.set Reg.FLT.INJECT.SOURCE source).set Reg.FLT.INJECT.KIND kind).set Reg.FLT.INJECT.SEV sev
  let source := source % 256
  let kind := kind % 256
  let sc := d.policyOf source kind (defaultSev source kind)
  let page := match sourceBits source with | t :: _ => pg t.1 t.2.1 | [] => pg .FLT 0
  let sev := if d.pairKnown source kind then min 5 (sev % 8) else 0
  let m := mkMsg page source kind (sev, sc.2) {} false
  { d with flt := { d.flt with inbox := d.flt.inbox ++ [{ m with injected := true }] } }

/-- FLT.POL_QUERY: a pair is named whose severity and ceiling in force are to be shown.  A received fault's severity is not the pair's: for
REMOTE_FAULT the severity shown is not stated. -/
def polQuery (source kind : Nat) (d : Dev) : Dev :=
  let source := source % 256
  let kind := kind % 256
  let d := (d.set Reg.FLT.POL_QUERY.SOURCE source).set Reg.FLT.POL_QUERY.KIND kind
  if source = 152 ∧ kind = 6 then d.drawn.set Reg.FLT.POL_QUERY.SEV (Config.freeValue d.free) else d

/-- What POL_QUERY shows of the pair it names: the severity and ceiling that the policy now gives (R394). -/
def Dev.queried (d : Dev) : Nat × Nat :=
  let source := d.get Reg.FLT.POL_QUERY.SOURCE
  let kind := d.get Reg.FLT.POL_QUERY.KIND
  let sc := d.policyOf source kind (defaultSev source kind)
  (if source = 152 ∧ kind = 6 then d.get Reg.FLT.POL_QUERY.SEV else sc.1, sc.2)

/-- A policy copy fails with a code. -/
def policyBad (code : Nat) (d : Dev) : Dev :=
  ({ d.set Reg.FLT.POLICY_STAT.LAST_CODE code with flt := { d.flt with copying := none } }).raise 0 Kind.FLT.POLICY_BAD { arg := code }

/-- FAULT_POLICY_COMMIT once its tag has verified: the mode and the address are checked, then FLT copies the table. -/
def policyCommit (addr len crc : Nat) (d : Dev) : Dev :=
  if 1 < d.mode then policyBad 1 d
  else if addr % 64 ≠ 0 then policyBad 2 d
  else { d with flt := { d.flt with copying := some (addr, len, crc) } }.request (pg .FLT 0)

/-- The entries of a table. -/
def policyEntries : Nat → Bytes → List PolEntry
  | 0, _ => []
  | n + 1, bs =>
    { source := byteAt bs 0, kind := byteAt bs 1, ceil := bits (byteAt bs 2) 6 4, sev := bits (byteAt bs 2) 2 0 } :: policyEntries n (bs.drop 4)

/-- The reserved bits of every entry are zero. -/
def entriesZero : Nat → Bytes → Bool
  | 0, _ => true
  | n + 1, bs => bits (byteAt bs 2) 7 7 == 0 && bits (byteAt bs 2) 3 3 == 0 && byteAt bs 3 == 0 && entriesZero n (bs.drop 4)

/-- The code of the first check of Table 17.4, from the second on, that a copied table fails; 0 when it passes. -/
def policyCode (bs : Bytes) (len crc : Nat) (bad : Bool) : Nat :=
  let count := leAt bs 6 2
  let es := policyEntries count (bs.drop 16)
  if len ≠ 16 + 4 * count then 2
  else if leAt bs 0 4 ≠ 0x4C4F5046 ∨ byteAt bs 4 ≠ 1 ∨ count = 0 ∨ 1024 < count then 3
  else if bad = true ∨ crc32c (bs.take 12 ++ bs.drop 16) ≠ leAt bs 12 4 ∨ leAt bs 12 4 ≠ crc then 4
  else if (es.any fun e => decide (5 < e.sev) || decide (5 < e.ceil) || decide (e.ceil < e.sev)) = true ∨ byteAt bs 5 ≠ 0 ∨ leAt bs 8 4 ≠ 0 ∨
      entriesZero count (bs.drop 16) = false then 5
  else 0

/-- Is an entry discarded: below a floor, or for REMOTE_FAULT (R396)? -/
def PolEntry.barred (e : PolEntry) : Bool := decide (e.sev < sevFloor e.source e.kind) || (e.source == 152 && e.kind == 6)

/-- FLT's copy of the policy completes and is checked (R396). -/
def policyCopied (poisoned : Bool) (d : Dev) : Dev :=
  match d.flt.copying with
  | none => d
  | some (addr, len, crc) =>
    let n := max 16 (min 4112 len)
    let d := (d.answer (pg .FLT 0)).basinLoad 1 0xFF addr n (if poisoned then 2 else 0)
    let bs := d.basinRead addr n
    let code := policyCode bs len crc (d.basinFails addr n)
    if code ≠ 0 then policyBad code d
    else
      let es := policyEntries (leAt bs 6 2) (bs.drop 16)
      let kept := es.filter fun e => !e.barred
      let d := { d with flt := { d.flt with policy := kept, copying := none } }
      ((((d.put Reg.FLT.POLICY_STAT.COMMITTED true).set Reg.FLT.POLICY_STAT.ENTRIES kept.length).set Reg.FLT.POLICY_STAT.LAST_CODE 0).set
        Reg.FLT.POLICY_FLOOR.COUNT (es.length - kept.length)).ev .FLT 0 7

/-- LOCK_CLEAR_POLICY: the RWA fields of LOCK_POL from bits 1:0 (R408). -/
def lockPolicy (v : Nat) (d : Dev) : Dev :=
  let was := d.is Reg.FLT.LOCK_POL.MEMO
  let d := (d.put Reg.FLT.LOCK_POL.ESC_LOCK (bit v 1)).put Reg.FLT.LOCK_POL.MEMO (bit v 0)
  if was then d else memoCheck d

/-! ### What a read of FLT shows, and clearing -/

/-- The FLT fields computed when read. -/
def fltView (d : Dev) (f : Fld) : Option Nat :=
  let s := aget (d.get Reg.FLT.ACT_SEL.SLOT) d.flt.slots
  let by_ (g : Slot → Nat) : Option Nat := some (match s with | some x => g x | none => 0)
  if f = Reg.FLT.STATE.SAFE_IN then some (b2n d.flt.safeInLow)
  else if f = Reg.FLT.STATE.PFAIL then some (b2n d.flt.pfailLow)
  else if f = Reg.FLT.STATE.USED then some d.flt.slots.length
  else if f = Reg.FLT.ACT_MAP.USED then some (d.flt.slots.foldl (fun a x => setB a x.1) 0)
  else if f = Reg.FLT.ACT_ENT.SOURCE then by_ (·.source)
  else if f = Reg.FLT.ACT_ENT.KIND then by_ (·.kind)
  else if f = Reg.FLT.ACT_ENT.SEV then by_ (·.sev)
  else if f = Reg.FLT.ACT_ENT.BASE then by_ (·.base)
  else if f = Reg.FLT.ACT_ENT.COUNT then by_ (·.count)
  else if f = Reg.FLT.ACT_TS.TS then by_ (·.ts)
  else if f = Reg.FLT.POL_QUERY.SEV then some d.queried.1
  else if f = Reg.FLT.POL_QUERY.CEIL then some d.queried.2
  else none

/-- FIRST_INFO.VALID written 1: the record and FAULT_CNT clear together (R398). -/
def firstClear (d : Dev) : Dev :=
  d.resetFields [Reg.FLT.FIRST_INFO.VALID, Reg.FLT.FIRST_INFO.SEV, Reg.FLT.FIRST_INFO.KIND, Reg.FLT.FIRST_INFO.SOURCE, Reg.FLT.FIRST_INFO.MASTER,
    Reg.FLT.FIRST_AUX.PAGE, Reg.FLT.FIRST_AUX.ACCESS, Reg.FLT.FIRST_AUX.PORT, Reg.FLT.FIRST_TS.TS, Reg.FLT.FIRST_ADDR.ADDR,
    Reg.FLT.FAULT_CNT.COUNT]

end Sys2Proof.Machine
end

