-- ==== Sys2Proof/Machine/Init.lean ====
section
/-!
DEFINITION. The device right after a cold reset (R7, R63, R467): every register field at its reset value, every queue empty,
and the wipes of bring-up under way.
-/
namespace Sys2Proof.Machine

/-- The device right after a cold reset, with nothing in Basin, Shallows, Sediment or the flash. -/
def Dev.fresh : Dev where
  regs := []
  time := { ts := 0, up := 0, timers := [] }
  bus := { hiLatch := [], loPend := [], loHeld := [], reqs := [], seqs := [] }
  cfg := CfgSpace.init
  evt := { table := [], pba := [], lastSent := [] }
  flt := { inbox := [], slots := [], ovf := 0, lock := none, policy := [], copying := none, safeInLow := false, pfailLow := false
           ripple := false, kickMissed := false, selfCheck := false, memoHeld := false, powerfail := false, calmSince := 0 }
  sed := { fifo := [], mem := [], post := none, dump := none, region := 1, wipeWaits := false }
  sys := { spring := { script := [], entry := 0, waiting := 0 }, rowExit := false, inReset := false, stopAtB3 := false }
  sec := { rng := none, cmd := none, step := 0, killed := false, hpwr := 0, disarm := false }
  pwr := { goingOff := [], goingOn := [], rootLost := false, tripped := false, dllWait := false, hotRaised := false, critRaised := false, shedding := false }
  stopping := []
  basin := []
  shallows := []
  flash := []
  prt := { geom := [], loading := none, planes := [], cplSeq := 0, jobSeq := 0, lost := [], stopped := [] }
  trg := { sigma := 1, phi := 0, pe := 0, te := 0, v := 0, vok := false, need := 0, lost := false, ports := [], fixRun := false
           fixNext := 0, fixLine := 0, fixNew := none, skipping := false,
           lateFrac := 64, slowEn := true, slowInt := 100, cell := none }
  pipes := []
  thm := { table := none, copying := none, ports := [], rhoNom := 0x6000, start := 0x80, cmax := 48, nw := 64, nh := 4096 }
  heads := []
  snd := { ports := [], chans := [], sig := none, loading := false, halting := false, wb := [], wearAt := 0, scanned := false, running := false }
  eng := { engines := [], voted := 0, divs := 0, failovers := 0, overlap := none, switching := [], promote := false, lost := false
           lastAt := 0, unprot := 0, since := 0, shadowAt := 0 }
  cal := { items := [], tgts := [], set := 0, next := 0, cur := none, b7 := false, taken := none, wants := none, staleRaised := false }
  emr := Emr.init
  emls := []
  encs := []
  eouts := []
  mem := Mem.init
  dmas := []
  cmps := []
  axes := []
  motc := { stopAll := false, spits := [], ending := false }
  spif := none
  jtag := Jtag.init
  free := 0
  out := []

end Sys2Proof.Machine
end

