-- ==== Sys2Proof/Machine/Reset.lean ====
section
/-!
DEFINITION. Resets (R409, R447, R458, R466 to R468, R487) and the first steps of bring-up (Table 3.6).
-/
namespace Sys2Proof.Machine

/-! ### Pins -/

/-- Names of further pins: GPIO_i, SMBus and the motion gates are shown by their own registers. -/
def Pin.gpio : Nat := 6

/-- The level shown for a pin at high impedance. -/
def Pin.highZ : Nat := 2

/-- Every output pin takes its reset state (Table 22.6). -/
def resetPins (d : Dev) : Dev :=
  let d := (d.emit (.pin Pin.faultN 0 0)).emit (.pin Pin.ripple 0 0)
  let d := (List.range 8).foldl (fun d g => d.emit (.pin Pin.hpwr g 0)) d
  let d := (List.range 2).foldl (fun d m => ((d.emit (.pin Pin.eoutA m Pin.highZ)).emit (.pin Pin.eoutB m Pin.highZ)).emit (.pin Pin.eoutZ m Pin.highZ)) d
  (List.range 16).foldl (fun d i => d.emit (.pin Pin.gpio i Pin.highZ)) d

/-! ### Resets to B1 (Table 20.3) -/

/-- RST_CAUSE after a reset of a cause: the history goes on (R467). -/
def causeNext (cause : Nat) (old d : Dev) : Dev :=
  ((d.set Reg.SYS.RST_CAUSE.LAST cause).set Reg.SYS.RST_CAUSE.PREV (old.get Reg.SYS.RST_CAUSE.LAST)).set Reg.SYS.RST_CAUSE.WARM_CNT
    (satInc 16 (old.get Reg.SYS.RST_CAUSE.WARM_CNT))

/-- The device after a reset marked B1: only the flash and the levels at the safety inputs outlast it; `warm` keeps the
reset history, the LOCK latch and the JTAG port, which has its own reset (notes/assumptions/76.md). -/
def resetB1 (cause : Nat) (warm : Bool) (addr : Nat) (d : Dev) : Dev :=
  let old := d
  let d := resetPins d
  let d : Dev := { Dev.fresh with
    flash := d.flash
    free := d.free
    out := d.out
    jtag := if warm then d.jtag else Jtag.init
    flt := { Dev.fresh.flt with
      safeInLow := d.flt.safeInLow
      pfailLow := d.flt.pfailLow
      lock := (if warm then d.flt.lock else none) } }
  let d := d.set Reg.EMR.ADDR.ADDR addr
  if warm then causeNext cause old d else d.set Reg.SYS.RST_CAUSE.LAST cause

/-- FLT in RUN after a reset with the LOCK latch set: one message of the held class is applied at LOCK, and bring-up is to
stop at B3 (R468). -/
def lockHold (d : Dev) : Dev :=
  match d.flt.lock with
  | none => d
  | some (source, kind) =>
    let page := match sourceBits source with | t :: _ => pg t.1 t.2.1 | [] => pg .FLT 0
    let d := { d with sys := { d.sys with stopAtB3 := true } }
    applyMsg (mkMsg page source kind (5, 5) {} false) d

/-- A supply-monitor reset at ramp; the strap pins give the ring address. -/
def coldReset (addr : Nat) (d : Dev) : Dev := resetB1 1 false addr d

/-- RESET_N falls, or TEST_EN rises: the pins take their reset states while the device is held (R487, R488). -/
def resetAsserted (d : Dev) : Dev :=
  if d.sys.inReset then d
  else
    let d := resetPins d
    let d := (d.put Reg.FLT.STATE.FAULT_N true).put Reg.FLT.STATE.RIPPLE_HELD true
    { d with sys := { d.sys with inReset := true }, flt := { d.flt with ripple := false } }

/-- RESET_N rises with the supplies valid: a pin reset (R467, R468). -/
def pinReset (addr : Nat) (d : Dev) : Dev := lockHold (resetB1 2 true addr d)

/-- SYS.RESET.KEY written (R467, R468). -/
def softwareReset (key : Nat) (d : Dev) : Dev :=
  if key % 65536 ≠ 0x5E7B ∨ d.level = 5 then d
  else lockHold (resetB1 3 true (d.get Reg.EMR.ADDR.ADDR) d)

/-- A supply monitor trips (R466): `which` has bits CORE, SRAM and AN. -/
def supplyLow (which : Nat) (d : Dev) : Dev :=
  let w := which % 8
  if w = 0 then d
  else
    let d := (bitList 3 w).foldl (fun d i =>
      d.put (nth Reg.PWR.SUPPLY.CORE [Reg.PWR.SUPPLY.CORE, Reg.PWR.SUPPLY.SRAM, Reg.PWR.SUPPLY.AN] i) true) d
    let d := { d with pwr := { d.pwr with tripped := true } }
    let d := if d.running .supply then d else d.arm .supply (2 * us)
    d.raise 0 Kind.PWR.SUPPLY_LOW { arg := w }

/-- The supply has not recovered 2 µs later: the device is reset (R466, R467). -/
def brownOut (d : Dev) : Dev := d.onTimer .supply fun d => resetB1 5 false (d.get Reg.EMR.ADDR.ADDR) d

/-! ### The fault reset and a lifecycle change (R409, R447) -/

/-- The fields that a fault reset leaves unchanged, with the fuse values and the bring-up steps done (R60, R409). -/
def keptFields : List Fld :=
  [Reg.PCI.LINK_STAT.WIDTH, Reg.PCI.LINK_STAT.SPEED, Reg.PCI.LINK_STAT.STATE, Reg.CLK.STAT.REF_OK, Reg.CLK.STAT.DLL,
   Reg.CLK.STAT.EMR1, Reg.CLK.STAT.EMR0, Reg.CLK.STAT.PCIE, Reg.CLK.STAT.MEM, Reg.CLK.STAT.ROOT, Reg.CLK.REF_PPM.PPM] ++
  [Reg.SEC.LIFECYCLE.FUSES, Reg.SEC.LIFECYCLE.STATE, Reg.SEC.KEY_STAT.SLOTS, Reg.SEC.SPRING_SLOTS.ROWS, Reg.SEC.SPRING_SLOTS.MASK,
   Reg.SEC.DEVICE_ID.ID] ++
  [Reg.SED.HEAD.SEQ, Reg.SED.TOTAL.COUNT, Reg.SED.STAT.PROTECT, Reg.SED.PROT.FIRST, Reg.SED.PROT.LAST, Reg.SED.DUMP_CFG.BASE,
   Reg.SED.DUMP_CFG.EN, Reg.SED.DUMP_STAT.CODE, Reg.SED.DUMP_STAT.BLOCKS, Reg.SED.DUMP_TS.TS] ++
  [Reg.FLT.FIRST_INFO.VALID, Reg.FLT.FIRST_INFO.SEV, Reg.FLT.FIRST_INFO.KIND, Reg.FLT.FIRST_INFO.SOURCE, Reg.FLT.FIRST_INFO.MASTER,
   Reg.FLT.FIRST_AUX.PAGE, Reg.FLT.FIRST_AUX.ACCESS, Reg.FLT.FIRST_AUX.PORT, Reg.FLT.FIRST_TS.TS, Reg.FLT.FIRST_ADDR.ADDR] ++
  [Reg.FLT.FAULT_CNT.COUNT, Reg.FLT.RECOV_CNT.COUNT, Reg.FLT.LOCK_POL.ESC_LOCK, Reg.FLT.LOCK_POL.MEMO] ++
  [Reg.SYS.BRINGUP.CLOCKS_LOCKED, Reg.SYS.BRINGUP.FUSES_READ, Reg.SYS.BRINGUP.CAL_DONE, Reg.SYS.BRINGUP.SPRING_END, Reg.EMR.ADDR.ADDR]

/-- The calibration items with their fused parts alone. -/
def calKept (items : List (Nat × CalItem)) : List (Nat × CalItem) :=
  items.foldl (fun t e =>
    let x : CalItem := { CalItem.init with factory := e.2.factory, lo := e.2.lo, hi := e.2.hi }
    tset CalItem.init e.1 { x with eff := x.aim.1 * 256, tgt := x.aim.1 } t) []

/-- The device restarts at B3; `life` is the restart of a lifecycle change, which wipes Sediment too. -/
def restartB3 (life : Bool) (d : Dev) : Dev :=
  let d := sedProtect (sedFlush d)
  let old := d
  let waits := life && d.sed.dump.isSome
  let d : Dev := { Dev.fresh with
    regs := keptFields.foldl (fun r f => r.set f (old.regs.get f)) []
    time := { old.time with timers := [] }
    evt := old.evt
    flash := old.flash
    pwr := { Dev.fresh.pwr with rootLost := old.pwr.rootLost, dllWait := old.pwr.dllWait }
    free := old.free
    out := old.out
    jtag := old.jtag
    flt := { Dev.fresh.flt with
      safeInLow := old.flt.safeInLow
      pfailLow := old.flt.pfailLow
      powerfail := old.flt.powerfail
      memoHeld := old.flt.memoHeld
      ripple := old.flt.ripple
      calmSince := old.time.up
      lock := old.flt.lock }
    sed := { old.sed with fifo := [], post := none, wipeWaits := waits }
    cal := { Dev.fresh.cal with items := calKept old.cal.items } }
  let d := causeNext 4 old d
  let d := (bitList 8 old.sec.hpwr).foldl (fun d g => d.emit (.pin Pin.hpwr g 0)) d
  let d := if life = true ∧ waits = false then sedWipe d else d
  if d.flt.lock.isSome then lockHold d else levelSync d

/-- FLT.FRESET.KEY written (R409). -/
def faultReset (key : Nat) (d : Dev) : Dev :=
  if key % 65536 ≠ 0xF4E7 ∨ d.level = 5 then d else restartB3 false d

/-- DUMP_END: a lifecycle wipe of Sediment that waited for the dump takes place (R453). -/
def dumpEnds (d : Dev) : Dev :=
  let d := dumpEnd d
  if d.sed.wipeWaits = true ∧ d.sed.dump = none then
    let d := sedWipe d
    { d with sed := { d.sed with wipeWaits := false } }
  else d

/-! ### Bring-up B1 to B7 (R62) -/

/-- B1 ends: the root PLL and the derived clocks have locked. -/
def clocksLocked (d : Dev) : Dev :=
  if d.is Reg.SYS.BRINGUP.CLOCKS_LOCKED = true ∨ d.pwr.rootLost = true then d
  else
    let d := [Reg.CLK.STAT.ROOT, Reg.CLK.STAT.MEM, Reg.CLK.STAT.PCIE, Reg.CLK.STAT.EMR0, Reg.CLK.STAT.EMR1, Reg.CLK.STAT.DLL,
      Reg.CLK.STAT.REF_OK].foldl (fun d f => d.put f true) d
    levelSync (d.bringup Reg.SYS.BRINGUP.CLOCKS_LOCKED true)

/-- The lifecycle state code of the fuse bits (R446). -/
def Fuses.state (u : Fuses) : Nat := if u.x then 4 else if u.r then 3 else if u.f then 2 else if u.p then 1 else 0

/-- LIFECYCLE.FUSES. -/
def Fuses.bits (u : Fuses) : Nat := b2n u.p + 2 * b2n u.f + 4 * b2n u.r + 8 * b2n u.x

/-- Key slot `i`. -/
def Fuses.slot (u : Fuses) (i : Nat) : KeySlot := tget KeySlot.init u.slots i

/-- The code KEY_STAT shows for a slot: a slot whose CRC fails is FAULT (R448). -/
def KeySlot.code (k : KeySlot) : Nat :=
  if k.crcOk = false then 3
  else match k.state with | .empty => 0 | .active => 1 | .retired => 2 | .fault => 3

/-- The SEC registers that show the fuses. -/
def showFuses (u : Fuses) (d : Dev) : Dev :=
  let d := (d.set Reg.SEC.LIFECYCLE.STATE u.state).set Reg.SEC.LIFECYCLE.FUSES u.bits
  let d := d.set Reg.SEC.KEY_STAT.SLOTS ((List.range 8).foldl (fun a i => a + (u.slot i).code * 4 ^ i) 0)
  let d := (d.set Reg.SEC.SPRING_SLOTS.ROWS u.rows.length).set Reg.SEC.SPRING_SLOTS.MASK (u.rows.getLast?.getD 0)
  d.set Reg.SEC.DEVICE_ID.ID u.deviceId

/-- B2 ends: the fuses are loaded (R448, R425). -/
def fusesRead (u : Fuses) (d : Dev) : Dev :=
  if d.is Reg.SYS.BRINGUP.CLOCKS_LOCKED = false ∨ d.is Reg.SYS.BRINGUP.FUSES_READ = true then d
  else
    let d := calFuses u.trims u.limits u.trimsOk (showFuses u d)
    let d := (List.range 8).foldl (fun d i => if (u.slot i).crcOk then d else d.raise 0 Kind.SEC.KEYSTORE_BAD { arg := i }) d
    d.bringup Reg.SYS.BRINGUP.FUSES_READ true

/-- B4, and a later Basin wipe, ends. -/
def basinWiped (d : Dev) : Dev := if d.is Reg.SYS.BRINGUP.FUSES_READ then basinWipeDone d else d

/-- B3, and a later Shallows wipe, ends; after B3 the first calibration starts, unless LOCK stops bring-up there. -/
def shallowsWiped (d : Dev) : Dev :=
  if d.is Reg.SYS.BRINGUP.FUSES_READ = false then d
  else
    let first := !d.is Reg.SYS.BRINGUP.SHALLOWS_READY
    let d := shallowsWipeDone d
    if first = true ∧ d.is Reg.SYS.BRINGUP.SHALLOWS_READY = true ∧ d.sys.stopAtB3 = false then calB7 d else d

end Sys2Proof.Machine
end

