-- ==== Sys2Proof/Machine/Security.lean ====
section
/-!
DEFINITION. Critical commands, the key store and the lifecycle (chapter 19).  The fuses change only at the end of a fuse
program step.
-/
namespace Sys2Proof.Machine

/-! ### AES decryption, for a key sent encrypted (R449) -/

/-- The byte that the S-box maps to `a`. -/
def aesUnsub (a : Nat) : Nat := aesSbox.findIdx (· == a)

/-- The bytes of a block before ShiftRows. -/
def aesUnshift (s : List Nat) : List Nat := [0, 13, 10, 7, 4, 1, 14, 11, 8, 5, 2, 15, 12, 9, 6, 3].map (nth 0 s)

/-- InvMixColumns: MixColumns has order four. -/
def aesUnmix (s : List Nat) : List Nat := aesMix (aesMix (aesMix s))

/-- The round keys after the first, last one first. -/
def aesKeys : List Nat → List Nat → List (List Nat) → List (List Nat)
  | [], _, acc => acc
  | rc :: t, k, acc => aesKeys t (aesNextKey rc k) (aesNextKey rc k :: acc)

/-- The rounds undone, for the round keys still to use; the last uses no InvMixColumns. -/
def aesUndo : List (List Nat) → List Nat → List Nat → List Nat
  | [], k0, s => xorBytes ((aesUnshift s).map aesUnsub) k0
  | k :: t, k0, s => aesUndo t k0 (aesUnmix (xorBytes ((aesUnshift s).map aesUnsub) k))

/-- AES-128 decryption of one block. -/
def aesDec (key block : List Nat) : List Nat :=
  match aesKeys [0x01, 0x02, 0x04, 0x08, 0x10, 0x20, 0x40, 0x80, 0x1B, 0x36] key [] with
  | last :: t => aesUndo t key (xorBytes block last)
  | [] => []

/-! ### The mailbox (R442 to R444) -/

/-- The mailbox registers, copied at GO. -/
def mailbox (d : Dev) : Mail :=
  { opcode := d.get Reg.SEC.CMD_OP.OPCODE, slot := d.get Reg.SEC.CMD_OP.SLOT
    args := (List.range 8).map fun i => d.get (Reg.SEC.CMD_ARG.ARG i)
    cnt := d.get Reg.SEC.CMD_CNT.COUNT
    tag := (List.range 4).foldl (fun a i => a + d.get (Reg.SEC.CMD_TAG.TAG i) * 2 ^ (32 * i)) 0 }

/-- Argument `i`. -/
def Mail.arg (m : Mail) (i : Nat) : Nat := nth 0 m.args i

/-- The bits of argument `i` that a command uses (Table 19.3). -/
def argMask (opcode i : Nat) : Nat :=
  let all := 0xFFFFFFFF
  match opcode with
  | 0x01 => nth 0 [all] i
  | 0x02 => nth 0 [all, all, all, all, 7, all, 0xFFFF] i
  | 0x03 => nth 0 [7] i
  | 0x04 | 0x05 => nth 0 [all, 7, all, all] i
  | 0x06 => nth 0 [0xFF] i
  | 0x08 => nth 0 [0xFF] i
  | 0x09 => nth 0 [7] i
  | 0x0A => nth 0 [3] i
  | _ => 0

/-- Is every unused argument and argument bit zero (check 6)? -/
def Mail.argsClean (m : Mail) : Bool := (List.range 8).all fun i => andNot (m.arg i) (argMask m.opcode i) == 0

/-- The commands allowed in a lifecycle state (Table 19.2). -/
def opcodeAllowed (state opcode : Nat) : Bool :=
  match state with
  | 0 => opcode != 0x06 && opcode != 0x07
  | 1 | 2 => true
  | 3 => opcode != 0x02 && opcode != 0x07 && opcode != 0x08
  | _ => false

/-- May a slot authorise a command (check 8): ACTIVE, with the opcode in its mask? -/
def Fuses.permits (u : Fuses) (slot opcode : Nat) : Bool :=
  let k := u.slot slot
  k.code == 1 && (if opcode = 0 then false else k.mask.testBit (opcode - 1))

/-- The message a tag covers (R443). -/
def tagMessage (nonce : Nat) (m : Mail) : List Nat :=
  natBytes (leBytes 8 nonce ++ leBytes 8 m.cnt ++ leBytes 4 (m.slot * 256 + m.opcode) ++ m.args.flatMap (leBytes 4))

/-- The new key of a KEY_LOAD, plain in BLANK and else under the authorising slot's key (R449). -/
def Fuses.newKey (u : Fuses) (m : Mail) : List Nat :=
  let sent := natBytes ((m.args.take 4).flatMap (leBytes 4))
  if u.state = 0 then sent else aesDec (natBytes (u.slot m.slot).key) sent

/-- The key that a command's tag is made with. -/
def Fuses.tagKey (u : Fuses) (m : Mail) : List Nat :=
  if u.state = 0 ∧ m.opcode = 0x02 then u.newKey m else natBytes (u.slot m.slot).key

/-- Does a tag verify (check 10)? -/
def Fuses.verifies (u : Fuses) (nonce : Nat) (m : Mail) : Bool :=
  cmac (u.tagKey m) (tagMessage nonce m) == natBytes (leBytes 16 m.tag)

/-- The result code of the first of checks 1 to 9 of Table 19.1 that fails. -/
def mailCheck (u : Fuses) (m : Mail) (d : Dev) : Option Nat :=
  if d.inRun (pg .SEC 0) = false ∨ d.enabled (pg .SEC 0) = false then some 0x12
  else if d.sec.cmd.isSome then some 0x01
  else if d.sec.rng ≠ some true then some 0x11
  else if d.running .lockout then some 0x07
  else if m.opcode = 0 ∨ 0x0A < m.opcode then some 0x02
  else if m.argsClean = false then some 0x08
  else if opcodeAllowed u.state m.opcode = false then some 0x03
  else if (if u.state = 0 ∧ m.opcode = 0x02 then m.slot == m.arg 4 else u.permits m.slot m.opcode) = false then some 0x04
  else if m.cnt ≤ d.get Reg.SEC.CNT_LAST.COUNT then some 0x05
  else none

/-! ### The end of a command -/

/-- A command ends with a result: CMD_STAT and source 232. -/
def secResult (opcode code : Nat) (d : Dev) : Dev :=
  (((d.put Reg.SEC.CMD_STAT.ENDED true).set Reg.SEC.CMD_STAT.OPCODE opcode).set Reg.SEC.CMD_STAT.RESULT code).ev .SEC 0 0

/-- The command in progress ends. -/
def secEnd (code : Nat) (d : Dev) : Dev :=
  match d.sec.cmd with
  | none => d
  | some m =>
    let d := { d with sec := { d.sec with cmd := none, step := 0, killed := false } }
    secResult m.opcode code (d.put Reg.SEC.CMD_STAT.BUSY false)

/-- The command in progress ends with ABORTED. -/
def secAborted (d : Dev) : Dev := secEnd 0x13 (d.put (Reg.HDR.ABORTED (pg .SEC 0)) true)

/-- A command stays in progress: a table copy or fuse programming is to follow. -/
def secBusy (m : Mail) (d : Dev) : Dev :=
  { d.put Reg.SEC.CMD_STAT.BUSY true with sec := { d.sec with cmd := some m, step := 0, killed := false } }

/-- A tag fails (R445). -/
def tagFails (m : Mail) (d : Dev) : Dev :=
  let run := satInc 4 (d.get Reg.SEC.TAG_FAIL.RUN)
  let d := (d.set Reg.SEC.TAG_FAIL.RUN run).bump Reg.SEC.TAG_FAIL.COUNT 1
  let d := (secResult m.opcode 0x06 d).raise 0 Kind.SEC.BAD_TAG
  if 8 ≤ run then (d.arm .lockout sec).raise 0 Kind.SEC.AUTH_LOCKOUT else d

/-- The 1 s lockout ends. -/
def lockoutEnd (d : Dev) : Dev := d.onTimer .lockout id

/-! ### Command-specific checks and effects (Table 19.3) -/

/-- Would retiring a slot leave none that may load keys and advance the lifecycle (R450)? -/
def Fuses.lastKey (u : Fuses) (i : Nat) : Bool :=
  u.state != 3 && !((List.range 8).any fun k => k != i && u.permits k 0x02 && u.permits k 0x01)

/-- Does R447 permit a change to a target? -/
def Fuses.mayBecome (u : Fuses) (t : Nat) : Bool :=
  match t with
  | 1 => u.state == 0 && (List.range 8).any fun k => (u.slot k).code == 1
  | 2 => u.state == 1
  | 3 => u.state == 1 || u.state == 2
  | 4 => u.state != 4
  | _ => false

/-- The code of the specific check that a command fails. -/
def specificCheck (u : Fuses) (m : Mail) (d : Dev) : Option Nat :=
  match m.opcode with
  | 0x01 => if u.mayBecome (m.arg 0) then none else some 0x0F
  | 0x02 =>
    if (u.slot (m.arg 4)).code ≠ 0 then some 0x0A
    else if leVal ((aes128 (u.newKey m) (List.replicate 16 0)).map (BitVec.ofNat 8) |>.take 4) ≠ m.arg 5 then some 0x09
    else none
  | 0x03 => if (u.slot (m.arg 0)).code ≠ 1 then some 0x08 else if u.lastKey (m.arg 0) then some 0x0B else none
  | 0x06 =>
    if m.arg 0 = 0 then some 0x08
    else if 4 ≤ d.level ∨ d.flt.safeInLow = true ∨ d.flt.pfailLow = true then some 0x10
    else none
  | 0x07 => if 4 ≤ d.level then some 0x10 else none
  | 0x08 =>
    if ((bitList 8 (m.arg 0)).any fun i => (u.slot i).code != 1) = true then some 0x08
    else if 8 ≤ u.rows.length then some 0x0C
    else none
  | 0x09 => if m.arg 0 = 0 then some 0x08 else none
  | _ => none

/-- The table address of a commit command. -/
def Mail.table (m : Mail) : Nat := m.arg 0 + m.arg 1 * 2 ^ 32

/-- The groups of a mask whose domain is on. -/
def Dev.groupsOn (d : Dev) (mask : Nat) : Nat := mask &&& (d.get Reg.PWR.DOM_STAT.ON / 2 ^ 10)

/-- HEAD_POWER_ARM: the enables of the groups are driven (R453, R462); HEAD_POWER_ARMED shows that one is (Table 3.5). -/
def headPowerArm (mask : Nat) (d : Dev) : Dev :=
  let on := d.groupsOn (mask % 256)
  let d := (bitList 8 on).foldl (fun d g => d.emit (.pin Pin.hpwr g 1)) d
  let new := andNot on d.sec.hpwr
  let d : Dev := { d with sec := { d.sec with hpwr := d.sec.hpwr ||| on } }
  let d := d.bringup Reg.SYS.BRINGUP.HEAD_POWER_ARMED (d.sec.hpwr != 0)
  (List.range 64).foldl (fun d n => if new.testBit (n / 8) then autoTrain n d else d) d

/-- WIPE_NOW (R325, R415). -/
def wipeNow (which : Nat) (d : Dev) : Dev :=
  let d := if bit which 0 then basinWipe false d else d
  let d := if bit which 1 then shallowsWipe false d else d
  if bit which 2 then sedWipe d else d

/-- A commit command's end, when its target has refused it already. -/
def commitCheck (copying : Bool) (d : Dev) : Dev := if copying then d else secEnd 0x0E d

/-- A command that has passed every check is carried out. -/
def carryOut (m : Mail) (d : Dev) : Dev :=
  let d := secBusy m d
  match m.opcode with
  | 0x01 => if d.mode = 0 then d.put Reg.SYS.MODE_STAT.PENDING false else modeAccepted 0 true d
  | 0x04 => let d := energyCommit m.table (m.arg 2) (m.arg 3) d; commitCheck d.thm.copying.isSome d
  | 0x05 => let d := policyCommit m.table (m.arg 2) (m.arg 3) d; commitCheck d.flt.copying.isSome d
  | 0x06 => secEnd 0 (headPowerArm (m.arg 0) d)
  | 0x07 => secEnd 0 (d.bringup Reg.SYS.BRINGUP.PRINT_ARMED true)
  | 0x09 => secEnd 0 (wipeNow (m.arg 0) d)
  | 0x0A => secEnd 0 (lockPolicy (m.arg 0) d)
  | _ => d

/-- SEC.CMD_GO written 1. -/
def secGo (u : Fuses) (d : Dev) : Dev :=
  let m := mailbox d
  match mailCheck u m d with
  | some code => secResult m.opcode code d
  | none =>
    if u.verifies (d.get Reg.SEC.NONCE.NONCE) m = false then tagFails m d
    else
      let d := (d.set Reg.SEC.CNT_LAST.COUNT m.cnt).set Reg.SEC.TAG_FAIL.RUN 0
      match specificCheck u m d with
      | some code => secResult m.opcode code d
      | none => carryOut m d

/-- The mailbox of a critical command written. -/
def Dev.mailed (opcode slot : Nat) (args : List Nat) (cnt tag : Nat) (d : Dev) : Dev :=
  let d := (d.set Reg.SEC.CMD_OP.OPCODE opcode).set Reg.SEC.CMD_OP.SLOT slot
  let d := (List.range 8).foldl (fun d i => d.set (Reg.SEC.CMD_ARG.ARG i) (nth 0 args i)) d
  let d := d.set Reg.SEC.CMD_CNT.COUNT cnt
  (List.range 4).foldl (fun d i => d.set (Reg.SEC.CMD_TAG.TAG i) (tag / 2 ^ (32 * i))) d

/-- A critical command: the mailbox is written, and GO. -/
def critical (opcode slot : Nat) (args : List Nat) (cnt tag : Nat) (u : Fuses) (d : Dev) : Dev :=
  secGo u (d.mailed opcode slot args cnt tag)

/-! ### Table copies (R161, R396) -/

/-- THM's copy of the energy table ends, and with it the command. -/
def energyCopyDone (poisoned : Bool) (d : Dev) : Dev :=
  if d.thm.copying = none then staleReply d
  else
    let d := energyCopied poisoned d
    secEnd (if d.get Reg.THM.TABLE_STAT.LAST_CODE = 0 then 0 else 0x0E) d

/-- The read of THM's copy has been ended with ABORTED (R39, R40): it has failed (check 4 of Table 7.4), and the command ends. -/
def energyAbort (d : Dev) : Dev :=
  if d.thm.copying = none then d
  else secEnd 0x0E (energyRefused 4 { d with thm := { d.thm with copying := none } })

/-- FLT's copy of the policy ends, and with it the command. -/
def policyCopyDone (poisoned : Bool) (d : Dev) : Dev :=
  if d.flt.copying = none then staleReply d
  else
    let d := policyCopied poisoned d
    secEnd (if d.get Reg.FLT.POLICY_STAT.LAST_CODE = 0 then 0 else 0x0E) d

/-! ### Fuse programming (R447, R449 to R451, R453) -/

/-- The slot a KEY_LOAD programs, after `k` of its steps: key, mask, then CRC. -/
def Fuses.loadStep (u : Fuses) (m : Mail) (k : Nat) : KeySlot :=
  let key : Bytes := (u.newKey m).map (BitVec.ofNat 8)
  { key, mask := if k = 0 then 0 else m.arg 6, state := if k = 2 then .active else .fault, crcOk := decide (k = 2) }

/-- The fuses with a key slot replaced. -/
def Fuses.setSlot (u : Fuses) (i : Nat) (k : KeySlot) : Fuses := { u with slots := tset KeySlot.init i k u.slots }

/-- The fuses with the bit of a lifecycle target blown. -/
def Fuses.blow (u : Fuses) (t : Nat) : Fuses :=
  match t with
  | 1 => { u with p := true }
  | 2 => { u with f := true }
  | 3 => { u with r := true }
  | 4 => { u with x := true }
  | _ => u

/-- The fuse program steps of a command: KEY_LOAD takes three, the others one. -/
def fuseSteps (opcode : Nat) : Nat := if opcode = 0x02 then 3 else 1

/-- Is a command programming fuses (R453)?  LIFECYCLE_ADVANCE does so once the device is in STANDBY. -/
def Dev.fusing (d : Dev) : Bool :=
  match d.sec.cmd with
  | some m => m.opcode == 0x02 || m.opcode == 0x03 || m.opcode == 0x08 ||
      (m.opcode == 0x01 && d.mode == 0 && !d.is Reg.SYS.MODE_STAT.PENDING)
  | none => false

/-- The fuses after the read-back of a step. -/
def Fuses.program (u : Fuses) (m : Mail) (step : Nat) (ok : Bool) : Fuses :=
  match m.opcode with
  | 0x01 => if ok then u.blow (m.arg 0) else u
  | 0x02 => u.setSlot (m.arg 4) (if ok then u.loadStep m step else { u.slot (m.arg 4) with state := .fault, crcOk := false })
  | 0x03 => if ok then u.setSlot (m.arg 0) { u.slot (m.arg 0) with state := .retired } else u
  | 0x08 => if ok then { u with rows := u.rows ++ [m.arg 0 % 256] } else u
  | _ => u

/-- A fuse program step has ended with its read-back: the device's part. -/
def fuseStep (u' : Fuses) (m : Mail) (ok : Bool) (d : Dev) : Dev :=
  let d := if ok = true ∨ m.opcode ≠ 0x01 then showFuses u' d else d
  -- the manual gives FUSE_ERROR no number (notes/assumptions/1.md)
  if ok = false then secEnd (Config.freeValue d.free) (d.drawn.raise 0 Kind.SEC.FUSE_FAIL)
  else if m.opcode = 0x01 then restartB3 true (secEnd 0 (d.ev .SEC 0 2))
  else
    let step := d.sec.step + 1
    if step = fuseSteps m.opcode then secEnd 0 (d.ev .SEC 0 3)
    else if d.sec.killed then secAborted d
    else { d with sec := { d.sec with step } }

/-- FUSE_PROGRAM_DONE: the fuses and the device after it.  A LIFECYCLE_ADVANCE that waits for STANDBY programs nothing yet. -/
def fuseDone (ok : Bool) (u : Fuses) (d : Dev) : Fuses × Dev :=
  match d.sec.cmd with
  | none => (u, d)
  | some m =>
    if d.fusing = false then (u, d)
    else
      let u' := u.program m d.sec.step ok
      (u', fuseStep u' m ok d)

/-! ### Nonce, disarming, power failure (R440, R452, R453) -/

/-- The random source has finished its health test: a nonce is drawn, or RNG_FAIL raised (R440). -/
def nonceReady (ok : Bool) (draw : Nat) (d : Dev) : Dev :=
  if d.sec.rng.isSome then d
  else
    let d := { d with sec := { d.sec with rng := some ok } }
    if ok then
      ((d.set Reg.SEC.NONCE.NONCE draw).set Reg.SEC.CNT_LAST.COUNT 0).set Reg.SEC.TAG_FAIL.RUN 0
    else d.raise 0 Kind.SEC.RNG_FAIL

/-- DISARM.HEAD: the ports go to their drain boundaries. -/
def disarmHead (d : Dev) : Dev := { d with sec := { d.sec with disarm := true } }

/-- Every head port has reached its boundary: head power goes off, both arms clear, and the links go DOWN (R452). -/
def disarmComplete (d : Dev) : Dev :=
  if d.sec.disarm = true ∧ d.trgIdle = true then
    let d := headPowerOff d
    (List.range 64).foldl (fun d n => clockStop n false (d.setHead n { d.head n with want := false })) d
  else d

/-- DISARM.PRINT. -/
def disarmPrint (d : Dev) : Dev := d.bringup Reg.SYS.BRINGUP.PRINT_ARMED false

/-- The table copies of THM and FLT end without a result; a reply to their reads is then stale (R42). -/
def dropCopies (d : Dev) : Dev :=
  (({ d with thm := { d.thm with copying := none }, flt := { d.flt with copying := none } } : Dev).forget (pg .THM 0)).forget (pg .FLT 0)

/-- PFAIL_N falls: a command that programs no fuses ends with FAULT_ACTIVE (R453). -/
def pfailFalls (d : Dev) : Dev :=
  let d := if d.flt.pfailLow = false ∧ d.sec.cmd.isSome = true ∧ d.fusing = false then
      secEnd 0x10 (dropCopies d) else d
  pfail d

/-! ### Header controls and views (R454) -/

/-- KILL of SEC: fuse programming completes; any other command ends ABORTED. -/
def secKill (d : Dev) : Dev :=
  if d.sec.cmd = none then d
  else if d.fusing then { d with sec := { d.sec with killed := true } }
  else secAborted (dropCopies d)

/-- SOFT_RESET of SEC: the mailbox registers are cleared; session, arms and key store stay. -/
def secReset (d : Dev) : Dev :=
  let kept := [Reg.SEC.LIFECYCLE.FUSES, Reg.SEC.LIFECYCLE.STATE, Reg.SEC.NONCE.NONCE, Reg.SEC.CNT_LAST.COUNT, Reg.SEC.KEY_STAT.SLOTS,
    Reg.SEC.SPRING_SLOTS.ROWS, Reg.SEC.SPRING_SLOTS.MASK, Reg.SEC.DEVICE_ID.ID, Reg.SEC.TAG_FAIL.RUN]
  d.resetFields (Reg.SEC.fields.filter fun f => !kept.contains f)

/-- KEY_PERM shows the mask of the selected slot. -/
def secView (u : Fuses) (d : Dev) (f : Fld) : Option Nat :=
  if f = Reg.SEC.KEY_PERM.MASK then some (u.slot (d.get Reg.SEC.KEY_PERM_SEL.SLOT)).mask else none

end Sys2Proof.Machine
end

