-- ==== Sys2Proof/Machine/Header.lean ====
section
/-!
DEFINITION. Block control (R38 to R40, and each chapter's drain boundary): ENABLE, DRAIN, SOFT_RESET, KILL, the drain
boundary and the drain timeout, for every page; and the loss of a print-critical provider (R24, Table 1.5).
-/
namespace Sys2Proof.Machine

/-! ### What each block's chapter says of stopping -/

/-- ENABLE of a head port has changed: LINKS_TRAINED and HEALTH_KNOWN are of the enabled ports (R60, Table 3.7). -/
def portSync (b : Blk) (d : Dev) : Dev := if b = .HPT then healthSync (linksSync d) else d

/-- The blocks without a drain boundary, which discard writes to ENABLE, DRAIN, KILL and SOFT_RESET (R411, R469, R477). -/
def Blk.neverStops : Blk → Bool
  | .SYS | .CLK | .PWR | .FLT | .PCI | .GPIO | .SMB | .SPIF => true
  | _ => false

/-- What a provider serves (Table 1.5): the PORT of its loss, the port itself where it serves one and 0x7F where it serves
more, and the enabled ports among them, which stop with it; none for a print-supporting block.  A position source serves no
port in FIXED, whose generator replaces it; the page of a disabled port provides nothing (DEDUCED, notes/assumptions/69.md). -/
def Dev.servedBy (d : Dev) (n : Nat) : Blk → Option (Nat × List Nat)
  | .BAS | .SHL | .MSK | .THM | .TRG => some (0x7F, d.consumers)
  | .DCM | .HPT => if d.enabled (pg .HPT n) then some (n, [n]) else none
  | .ENC => if d.srcChannel = some n ∧ d.mode ≠ 5 then some (0x7F, d.consumers) else none
  | .EMR => if d.get Reg.TRG.SRC_SEL.SEL = 4 ∧ d.mode ≠ 5 then some (0x7F, d.consumers) else none
  | _ => none

/-- A block has entered OFFLINE (6), RESET (5), OFF (0) or FAULT (7): R24 for a print-critical provider.  THM falls under
it in RESET and OFF only (R178). -/
def blockLost (b : Blk) (n st : Nat) (d : Dev) : Dev :=
  if b = .THM ∧ st = 6 then d
  else match d.servedBy n b with
    | some s => loseProvider (pg b n) s.1 s.2 d
    | none => d

/-- Has the block work in hand that its drain boundary waits for? -/
def Dev.working (d : Dev) (n : Nat) : Blk → Bool
  | .PRT => d.prtBusy || d.inFlight (pg .PRT 0)
  | .TRG | .ENGX => !d.trgIdle
  | .DCM => (d.pipe n).lane.fetched.isSome
  | .HPT => !d.portAtBoundary n
  | .SND => ((List.range 8).any fun c => (d.chan c).step.isSome) || ((List.range 64).any fun p => (d.health p).windows != []) ||
      d.inFlight (pg .SND 0)
  | .THM => d.inFlight (pg .THM 0)
  | .EMR => d.emr.cmds != []
  | .BAS => d.mem.wait != []
  | .DMA => d.dmaInBurst n
  | .CMP => (d.cmp n).job.isSome
  | .MOT => !d.axisRests n
  | .MOTC => (List.range 64).any d.spitting
  | .SEC => d.sec.cmd.isSome
  | .CAL => d.cal.cur.isSome
  | _ => false

/-- Does the stopped block hold queued work (R38)? -/
def Dev.queued (d : Dev) (n : Nat) : Blk → Bool
  | .PRT => (List.range 16).any fun p => (d.plane p).jobs != [] || (d.plane p).take != d.get (Reg.PRT.Q_TAIL.INDEX p)
  | .DCM => (d.pipe n).lane.list != []
  | .CMP => (d.cmp n).queue != []
  | .DMA => d.dmaRuns n
  | .SND => d.snd.running
  | .CAL => d.calQueue != 0
  | .HPT => (d.head n).queue != []
  | .MOTC => d.motc.spits.any fun s => s.2.1 != 0
  | _ => false

/-- The state of a block that runs: a channel without a run and a compressor without a job are IDLE. -/
def Dev.runState (d : Dev) (n : Nat) : Blk → Nat
  | .DMA => if d.dmaRuns n then 2 else 1
  | .CMP => if (d.cmp n).job.isSome then 2 else 1
  | _ => 2

/-- The drain timeout in steps: 1 ms unless the chapter gives another (R39, R365, R376, R454). -/
def Dev.drainTime (d : Dev) (n : Nat) : Blk → Nat
  | .CMP => max 1 (d.get (Reg.CMP.CFG.DRAIN_MS n)) * ms
  | .MOT => 2 * Sys2Proof.Machine.sec
  | .SEC => 10 * ms
  | _ => ms

/-- The reason a LEAVE gives (Table 12.2). -/
def Stopping.leave : Stopping → Nat
  | .enable | .drain => 1
  | .reset => 2
  | .off => 3

/-- What a block does at once when it is told to stop. -/
def onStop (b : Blk) (n : Nat) (why : Stopping) (d : Dev) : Dev :=
  match b with
  | .DMA => if d.dmaInBurst n then d else dmaUnwait n d
  | .MOT => axisStop n false d
  | .EMR => ringDoneSync (emrStop true why.leave d)
  | .ENGX => engineStops n (if why = .enable then 3 else 0) d
  | .ENC => encStop n d
  | _ => d

/-- What a block does when it has come to rest for ENABLE = 0. -/
def onRest (b : Blk) (n : Nat) (d : Dev) : Dev :=
  match b with
  | .MOT => gatesLow n d
  | .EML => emlStop n d
  | _ => d

/-- What a block does before it enters OFFLINE, RESET or OFF. -/
def onAway (b : Blk) (n : Nat) (d : Dev) : Dev :=
  match b with
  | .HPT => clockStop n false d
  | .MOT => gatesLow n d
  | .EML => emlStop n d
  | _ => d

/-- What more a block does before it enters OFF (Table 20.2). -/
def onOff (b : Blk) (n : Nat) (d : Dev) : Dev :=
  match b with
  | .EOUT => outEnClear n d
  | _ => d

/-- What a block does when it may run again. -/
def onStart (b : Blk) (n : Nat) (d : Dev) : Dev :=
  match b with
  | .ENC => encStart n d
  | .MOT => axisEnable n d
  | .EMR => ringDoneSync (emrStart d)
  | .EML => if d.get (Reg.EML.LINK_STAT.STATE n) = 0 then linkSeek n d else d
  | .HPT => autoTrain n d
  | .ENGX => engineStarts n d
  | .SND => (List.range 8).foldl (fun d c => scanNext c d) d
  | .CAL => calNext 20 d
  | .DMA => if (d.dma n).edge then (d.setDma n { d.dma n with edge := false }).request (pg .DMA n) else d
  | _ => d

/-- What KILL does in a block beside ending its requests (R40). -/
def onKill (b : Blk) (n : Nat) (d : Dev) : Dev :=
  match b with
  | .PRT => prtKill d
  | .DCM => dcmKill n d
  | .HPT => hptKill n d
  | .SND => sndKill d
  | .ENGX => engineStops n 6 d
  | .ENC => encStop n d
  | .EMR => ringDoneSync (emrAbort (emrStop false 1 d))
  | .EML => emlStop n d
  | .BAS => basKill d
  | .DMA => dmaCut n 9 d
  | .CMP => cmpKill n d
  | .MOT => motKill n d
  | .MOTC => spitStop d
  | .CAL => calKill d
  | .SEC => secKill d
  | .THM => energyAbort d
  | .EVT => { d with evt := { d.evt with pba := [] } }
  | .SED =>
    let k := d.sed.fifo.length
    ({ d with sed := { d.sed with fifo := [] } }).bump Reg.SED.LOST.COUNT k
  | _ => d

/-- Is a block's work in hand, ended by KILL or a drain timeout, a request that ends with ABORTED (R40; the other blocks
note theirs where they end them; notes/assumptions/63.md)? -/
def Blk.endsAborted : Blk → Bool
  | .PRT | .DCM | .SND | .EMR | .CAL => true
  | _ => false

/-- BLK_STATE.ABORTED is set when KILL or a drain timeout finds work of the block in hand. -/
def markAborted (b : Blk) (n : Nat) (d : Dev) : Dev :=
  if b.endsAborted = true ∧ d.working n b = true then d.put (Reg.HDR.ABORTED (pg b n)) true else d

/-- What the drain timeout of a block does to the work still in hand. -/
def onTimeout (b : Blk) (n : Nat) (d : Dev) : Dev :=
  match b with
  | .PRT => prtAbort d
  | .DCM => dcmKill n d
  | .SND => sndKill d
  | .EMR => emrAbort d
  | .BAS => basKill d
  | .DMA => dmaCut n 0x0A d
  | .CMP => cmpCut n 5 d
  | .MOT => motTimeout n d
  | .MOTC => spitStop d
  | .CAL => calKill d
  | .SEC => secKill d
  | .THM => energyAbort d
  | _ => d

/-! ### The reset of a block -/

/-- The own register fields of a page that its reset keeps: status that shows what is, not what was set, and what the
chapter says is kept. -/
def keptByReset (n : Nat) : Blk → List Fld
  | .SED => [Reg.SED.HEAD.SEQ, Reg.SED.TOTAL.COUNT]
  | .ENG => [Reg.ENG.STAT.ACTIVE, Reg.ENG.STAT.VOTING]
  | .ENGX => [Reg.ENGX.STAT.ESTATE n]
  | .ENC => [Reg.ENC.STAT.PINS n]
  | .EMR => [Reg.EMR.ADDR.ADDR]
  | _ => []

/-- The header fields a block reset puts back; EPOCH and STATE follow rules of their own. -/
def headerReset (page : Nat) : List Fld :=
  (Reg.HDR.fields page).filter fun f => f != Reg.HDR.EPOCH page && f != Reg.HDR.STATE page

/-- A block's state beside its registers at its reset. -/
def innerReset (b : Blk) (n : Nat) (d : Dev) : Dev :=
  match b with
  | .PRT => healthSync ((List.range 64).foldl (fun d p => setMasks p (fun _ => []) (d.setPipe p { d.pipe p with lane := Lane.init }))
      { d with prt := { Dev.fresh.prt with lost := d.prt.lost, stopped := d.prt.stopped } })
  | .TRG =>
    let d : Dev := { d with trg := { Dev.fresh.trg with ports := d.trg.ports } }
    (d.put Reg.TRG.STAT.SOURCE_OK d.sourceUsable).bringup Reg.SYS.BRINGUP.POS_VALID d.sourceUsable
  | .DCM => d.setPipe n { d.pipe n with
      lane := Lane.init, slots := (d.pipe n).slots.map fun s => (s.1, { s.2 with valid := 0 }) }
  | .HPT => reclassPort n ((d.setHead n Head.init).setHeat n { d.heat n with waves := [] })
  | .MSK => mskReset d
  | .ENC => posSync (encReset n d)
  | .EOUT => d.setEout n Eout.init
  | .EMR => ringDoneSync (emlStop 1 (emlStop 0 { d with emr := Emr.init }))
  | .EML => d.setEml n Eml.init
  | .BAS => basinWipe true d
  | .SHL => shallowsWipe true d
  | .TRN => trnReset d
  | .DMA => d.setDma n DmaChan.init
  | .CMP => cmpReset n d
  | .MOT => motReset n d
  | .MOTC => { d with motc := Dev.fresh.motc }
  | .SED => dumpEnable false { d with sed := { d.sed with post := none } }
  | _ => d

/-- The registers and the inner state of a block at their reset values. -/
def resetState (b : Blk) (n : Nat) (d : Dev) : Dev :=
  match b with
  | .CAL => calReset d
  | .THM => thmReset d
  | .SND => sndReset d
  | .SEC => secReset d
  | _ => innerReset b n (d.resetFields ((b.fields n).filter fun f => !(keptByReset n b).contains f))

/-- A block leaves RESET (or comes up in its domain): RUN when ENABLE is 1, IDLE otherwise. -/
def leaveReset (b : Blk) (n : Nat) (d : Dev) : Dev :=
  if d.enabled (pg b n) then
    let d := d.setBlk (pg b n) (d.runState n b)
    match b with
    | .EMR => (List.range 2).foldl (fun d l => if d.runs (pg .EML l) then linkSeek l d else d) d
    | .EML => linkSeek n d
    | .CAL => calNext 20 d
    | _ => d
  else d.setBlk (pg b n) 1

/-- A block enters RESET (R39): its EPOCH counts, LEVEL falls, every register takes its reset value, and it leaves RESET
again; BAS and SHL stay until their wipe ends (R325). -/
def enterReset (b : Blk) (n : Nat) (d : Dev) : Dev :=
  let page := pg b n
  let d := onAway b n d
  let d := if b = .BAS ∨ b = .SHL then d else blockLost b n 5 d
  let level := d.is (Reg.HDR.LEVEL page)
  let d := d.set (Reg.HDR.EPOCH page) (d.get (Reg.HDR.EPOCH page) + 1)
  let d := portSync b ((d.setBlk page 5).resetFields (headerReset page))
  let d := if level then d.ev .SYS 0 1 else d
  let d := resetState b n d
  if b = .BAS ∨ b = .SHL then d.put (Reg.HDR.SOFT_RESET page) true else leaveReset b n d

/-! ### Stopping -/

/-- BLK_STATE.STATE takes a value; TRG is told when an encoder channel leaves RUN (R120). -/
def moveTo (b : Blk) (n st : Nat) (d : Dev) : Dev :=
  let d := d.setBlk (pg b n) st
  if b = .ENC then posSync d else d

/-- The stop of a block is over: it takes the state it was stopping for (R38, R39, R462). -/
def endStop (b : Blk) (n : Nat) (why : Stopping) (d : Dev) : Dev :=
  let page := pg b n
  let d := ({ d with stopping := adel page d.stopping }).disarm (.drain page)
  match why with
  | .enable =>
    let d := onRest b n d
    moveTo b n (if d.queued n b then 4 else 1) d
  | .drain => blockLost b n 6 ((onAway b n d).setBlk page 6)
  | .reset => enterReset b n d
  | .off => blockLost b n 0 ((onOff b n (onAway b n d)).setBlk page 0)

/-- The power domain that serves an address of a DMA space (Tables 14.1, 20.2). -/
def spaceDomain (sp a : Nat) : Option Nat :=
  match sp with
  | 0 | 1 => some 0
  | 3 => match Blk.ofPage (a / 4096) with
    | some (b, n) => b.domain n
    | none => none
  | 4 => some 8
  | _ => none

/-- Is a channel's MOVE in progress bound to a domain (R41): the channels' own, or that of its source or destination? -/
def Dev.dmaBound (d : Dev) (dom n : Nat) : Bool :=
  match (d.dma n).move with
  | some m => d.dmaRuns n && (Blk.domain n .DMA == some dom || spaceDomain m.srcSp (m.src + m.at_) == some dom ||
      spaceDomain m.dstSp (m.dst + m.at_) == some dom)
  | none => false

/-- Does a DMA transfer bound to the block's domain hold its power-down (R41)? -/
def Dev.boundTo (d : Dev) (n : Nat) (b : Blk) : Bool :=
  match b.domain n with
  | some dom => (List.range 32).any (d.dmaBound dom)
  | none => false

/-- A stopping block that has reached its drain boundary. -/
def checkStop (b : Blk) (n : Nat) (d : Dev) : Dev :=
  match aget (pg b n) d.stopping with
  | none => d
  | some why => if d.working n b = true ∨ (why = .off ∧ d.boundTo n b = true) then d else endStop b n why d

/-- DRAIN_BOUNDARY_REACHED: a stopping block has reached its drain boundary. -/
def drainBoundary (page : Nat) (d : Dev) : Dev :=
  match Blk.ofPage page with
  | none => d
  | some (b, n) => checkStop b n d

/-- Which stop outranks which: power-down, then a reset, then a drain, then ENABLE = 0. -/
def Stopping.rank : Stopping → Nat
  | .enable => 0
  | .drain => 1
  | .reset => 2
  | .off => 3

/-- A stop begins, or takes the place of one of lower rank; the block's drain timeout runs for R39 and where the chapter
bounds the stop of ENABLE = 0 (R310, R376); the power-down of a channel is bounded by its domain's wait time (R41). -/
def beginStop (b : Blk) (n : Nat) (why : Stopping) (d : Dev) : Dev :=
  let page := pg b n
  let first := (aget page d.stopping).isNone
  let d : Dev := match aget page d.stopping with
    | some w => if w.rank < why.rank then { d with stopping := aset page why d.stopping } else d
    | none => { d with stopping := aset page why d.stopping }
  let d := if first then onStop b n why d else d
  let timed := (why ≠ .enable ∨ b = .MOT ∨ b = .EMR) ∧ ¬(b = .DMA ∧ why = .off)
  let d := if timed ∧ d.running (.drain page) = false then d.arm (.drain page) (d.drainTime n b) else d
  let d := if why ≠ .enable then moveTo b n 3 d else d
  checkStop b n d

/-- Is the block in a state from which it can stop (IDLE, RUN, DRAINING, STOPPED_PENDING)? -/
def Dev.stoppable (d : Dev) (page : Nat) : Bool :=
  let s := d.blk page
  s == 1 || s == 2 || s == 3 || s == 4

/-- ENABLE written 0 (R38). -/
def enableClear (page : Nat) (d : Dev) : Dev :=
  match Blk.ofPage page with
  | none => d
  | some (b, n) =>
    if b.neverStops then d
    else
      let was := d.enabled page
      let d := portSync b (d.put (Reg.HDR.ENABLE page) false)
      if was = true ∧ (d.blk page = 1 ∨ d.blk page = 2 ∨ d.blk page = 4) then beginStop b n .enable d else d

/-- Does a wipe hold the block OFFLINE? -/
def Dev.wiping (d : Dev) : Blk → Bool
  | .BAS => d.is Reg.BAS.STAT.WIPING
  | .SHL => d.mem.shlWipe
  | _ => false

/-- ENABLE written 1 (R38): queued work resumes; OFFLINE ends and DRAIN clears; a block that is DRAINING, in RESET, in
FAULT or OFF only takes the field. -/
def enableSet (page : Nat) (d : Dev) : Dev :=
  match Blk.ofPage page with
  | none => d
  | some (b, n) =>
    if b.neverStops then d
    else
      let s := d.blk page
      let was := d.enabled page
      let d := portSync b (d.put (Reg.HDR.ENABLE page) true)
      if s = 6 then
        let d := d.put (Reg.HDR.DRAIN page) false
        if d.wiping b then d else onStart b n (d.setBlk page (d.runState n b))
      else if s = 1 ∨ s = 2 ∨ s = 4 then
        let stopping := (aget page d.stopping).isSome
        let d := ({ d with stopping := adel page d.stopping }).disarm (.drain page)
        if s = 2 ∧ was = true ∧ stopping = false then d
        else
          let d := d.setBlk page (d.runState n b)
          if s = 1 ∧ was = true ∧ (b = .DMA ∨ b = .CMP) then d else onStart b n d
      else d

/-- DRAIN set (R39). -/
def drainSet (page : Nat) (d : Dev) : Dev :=
  match Blk.ofPage page with
  | none => d
  | some (b, n) =>
    if b.neverStops then d
    else if d.stoppable page then beginStop b n .drain (d.put (Reg.HDR.DRAIN page) true)
    else if d.blk page = 6 then d.put (Reg.HDR.DRAIN page) true
    else d

/-- SOFT_RESET set (R39): a block that is OFFLINE or in FAULT has nothing left to drain. -/
def softReset (page : Nat) (d : Dev) : Dev :=
  match Blk.ofPage page with
  | none => d
  | some (b, n) =>
    if b.neverStops then d
    else if d.stoppable page then beginStop b n .reset (d.put (Reg.HDR.SOFT_RESET page) true)
    else if d.blk page = 6 ∨ d.blk page = 7 then enterReset b n d
    else d

/-- KILL set (R40): a drain is overridden, and a power-down takes effect at once.  A block that is OFFLINE, OFF, in RESET or in
FAULT has nothing to kill and keeps its state: R40 would have it IDLE, R38 that only a write of ENABLE ends OFFLINE
(DESIGN CHOICE, notes/assumptions/70.md). -/
def blockKill (page : Nat) (d : Dev) : Dev :=
  match Blk.ofPage page with
  | none => d
  | some (b, n) =>
    if b.neverStops = true ∨ d.stoppable page = false then d
    else
      let off := decide (aget page d.stopping = some .off)
      let d := ({ d with stopping := adel page d.stopping }).disarm (.drain page)
      let d := (d.put (Reg.HDR.SOFT_RESET page) false).put (Reg.HDR.DRAIN page) false
      let d := onKill b n (markAborted b n (d.abortAll page))
      if off then endStop b n .off d
      else if b = .EVT ∧ d.enabled page = true then d.setBlk page 2
      else moveTo b n 1 d

/-- SOFT_RESET and KILL written together (R40): the kill, and then RESET at once, whatever the kill has left under way; for PRT
when the jobs that the kill ends have come to the end of their row-lines (R91). -/
def killReset (page : Nat) (d : Dev) : Dev :=
  match Blk.ofPage page with
  | none => d
  | some (b, n) =>
    if b.neverStops = true then d
    else if d.stoppable page then
      let d := blockKill page d
      if b = .PRT ∧ d.working n b = true then softReset page d else enterReset b n d
    else softReset page d

/-- A channel is taken from its owner: killed under R40, freed, and its event raised (R45). -/
def dmaRevoke (n : Nat) (d : Dev) : Dev :=
  ((blockKill (pg .DMA n) (dmaCut n 0x0B d)).set (Reg.DMA.OWNER.TAG n) 0).ev .DMA n 3

/-- DMAC.REVOKE. -/
def revokeClient (c : Nat) (d : Dev) : Dev :=
  if c = 0 ∨ c = 0xFF then d
  else (List.range 32).foldl (fun d n => if d.get (Reg.DMA.OWNER.TAG n) = c then dmaRevoke n d else d) d

/-- Function Level Reset and link down: every owned channel is revoked (R30). -/
def revokeAll (d : Dev) : Dev :=
  (List.range 32).foldl (fun d n => if d.get (Reg.DMA.OWNER.TAG n) ≠ 0 then dmaRevoke n d else d) d

/-- The drain timeout of a block (R39): what is in flight ends with ABORTED, and the stop is over.  A moving axis still comes
to rest, a fuse program step is never cut, and a job ends at the end of each port's row-line (R376, R454, R91). -/
def drainTimeout (page : Nat) (d : Dev) : Dev :=
  match Blk.ofPage page, aget page d.stopping with
  | some (b, n), some why =>
    d.onTimer (.drain page) fun d =>
      let d := onTimeout b n (markAborted b n (d.abortAll page))
      match aget page d.stopping with
      | none => if why = .enable then d else endStop b n why d
      | some why => if (b = .MOT ∨ b = .SEC ∨ b = .PRT) ∧ d.working n b = true then d else endStop b n why d
  | _, _ => d

/-- BLK_CTRL.LEVEL written (R36): set only while a level window is open; source 1 when it changes. -/
def levelSet (access master page : Nat) (v : Bool) (d : Dev) : Dev :=
  if (Blk.ofPage page).isNone ∨ d.is (Reg.HDR.LEVEL page) = v then d
  else if v = true ∧ d.running .levelWindow = false then
    d.raise 0 Kind.SYS.LEVEL_DENIED { access, master, addr := page * 4096 + 0x008 }
  else (d.put (Reg.HDR.LEVEL page) v).ev .SYS 0 1

/-- A write of SYS.LEVEL_UNLOCK.KEY (R36): 0xE7A1 opens a window of 1 ms, any other value closes it. -/
def levelUnlock (access master key : Nat) (d : Dev) : Dev :=
  if key % 65536 = 0xE7A1 then d.arm .levelWindow ms
  else (d.disarm .levelWindow).raise 0 Kind.SYS.UNLOCK_BAD { access, master, addr := 0x040 }

/-- The level window closes. -/
def levelExpiry (d : Dev) : Dev := d.onTimer .levelWindow id

end Sys2Proof.Machine
end

