-- ==== Sys2Proof/Machine/Pci.lean ====
section
/-!
DEFINITION. The PCIe link (R27, R30, R62), MSI-X messages (R47 to R49), the GPIO pins (Table 21.2) and the SPI flash (R479).
-/
namespace Sys2Proof.Machine

/-! ### The link -/

/-- Every BLK_CTRL.LEVEL falls to 0 (R30, R36); source 1 when one was 1. -/
def levelsClear (d : Dev) : Dev :=
  let pages := (Blk.all.flatMap fun b => (List.range b.count).map b.page).filter fun p => d.is (Reg.HDR.LEVEL p)
  if pages = [] then d else (pages.foldl (fun d p => d.put (Reg.HDR.LEVEL p) false) d).ev .SYS 0 1

/-- Function Level Reset (`down` false), or the link down or PCIE_PERST_N low (`down` true) (R30). -/
def functionLevelReset (down : Bool) (d : Dev) : Dev :=
  let d := if down then ((d.set Reg.PCI.LINK_STAT.STATE 0).set Reg.PCI.LINK_STAT.WIDTH 0).set Reg.PCI.LINK_STAT.SPEED 0 else d
  let d := { d with cfg := CfgSpace.init, evt := { d.evt with table := [], pba := [] } }
  let d := levelsClear (revokeAll d)
  (d.bump Reg.PCI.FLR_CNT.COUNT 1).raise 0 Kind.SYS.HOST_LINK_DOWN

/-- The endpoint answers configuration requests: the link is up at a width and a speed (R27, R62). -/
def pcieReady (width speed : Nat) (d : Dev) : Dev :=
  if d.is Reg.CLK.STAT.PCIE = false then d
  else ((d.set Reg.PCI.LINK_STAT.STATE 2).set Reg.PCI.LINK_STAT.WIDTH width).set Reg.PCI.LINK_STAT.SPEED speed

/-! ### MSI-X -/

/-- The VEC_MAP entry of a source: enabled, and its vector (Table 2.12). -/
def Dev.vecOf (d : Dev) (s : Nat) : Bool × Nat :=
  (d.is (Reg.EVT.VEC_MAP.EN (s / 4) (s % 4)), d.get (Reg.EVT.VEC_MAP.VEC (s / 4) (s % 4)))

/-- Is a source kept from MSI-X (R47)? -/
def Dev.srcMasked (d : Dev) (s : Nat) : Bool := d.bitOf (Reg.EVT.SRC_MASK.MASK (s / 32)) (s % 32)

/-- Does a vector have a raised, unmasked, mapped source? -/
def Dev.vecRaised (d : Dev) (v : Nat) : Bool :=
  (List.range 256).any fun s => !d.srcMasked s && d.vecOf s == (true, v) && d.srcRaised s

/-- The moment from which a vector may send again. -/
def Dev.vecFree (d : Dev) (v : Nat) : Nat :=
  match aget v d.evt.lastSent with
  | some t => t + d.get Reg.EVT.HOLDOFF.US * us
  | none => 0

/-- May a vector send (R48, R49): EVT runs, its PEND bit is 0, and a mapped source is raised? -/
def Dev.vecMay (d : Dev) (v : Nat) : Bool :=
  d.runs (pg .EVT 0) && decide (v < d.cfg.vectors) && !d.bitOf Reg.EVT.VEC_PEND.PEND v && d.vecRaised v

/-- A vector's message is issued: PEND is set, and nothing is held for it any more. -/
def msixIssue (v : Nat) (d : Dev) : Dev :=
  let d := d.advanceTo (d.vecFree v)
  ({ d.setBit Reg.EVT.VEC_PEND.PEND v with evt := { d.evt with
      lastSent := aset v d.time.up d.evt.lastSent, pba := d.evt.pba.filter (· != v) } }).emit (.msix v)

/-- MSIX_MESSAGE: a vector sends its message at the moment it may (R48).  One masked in the MSI-X table holds it in the
pending-bit array, its PEND bit 0 until the message is issued (DESIGN CHOICE, notes/assumptions/71.md). -/
def msixMessage (v : Nat) (d : Dev) : Dev :=
  if d.vecMay v = false then d
  else if (tget MsixEntry.init d.evt.table v).masked then
    { d with evt := { d.evt with pba := if d.evt.pba.contains v then d.evt.pba else d.evt.pba ++ [v] } }
  else msixIssue v d

/-- A vector unmasked in the MSI-X table: the message it holds is issued where it still may be (R48), is dropped where no
mapped source is raised any more, and stays held while EVT sends nothing (R49). -/
def msixUnmask (v : Nat) (d : Dev) : Dev :=
  if (tget MsixEntry.init d.evt.table v).masked = true ∨ d.evt.pba.contains v = false then d
  else if d.vecMay v then msixIssue v d
  else if d.runs (pg .EVT 0) then { d with evt := { d.evt with pba := d.evt.pba.filter (· != v) } }
  else d

/-- VEC_PEND written: bits written 1 rearm their vectors (R48). -/
def vecPendClear (bitsSet : Nat) (d : Dev) : Dev := d.set Reg.EVT.VEC_PEND.PEND (andNot (d.get Reg.EVT.VEC_PEND.PEND) bitsSet)

/-! ### GPIO -/

/-- What a GPIO pin shows: its driven level, or high impedance. -/
def Dev.gpioPin (d : Dev) (i : Nat) : Nat :=
  if d.bitOf Reg.GPIO.DIR.OUT_EN i then b2n (d.bitOf Reg.GPIO.OUT.LEVEL i) else Pin.highZ

/-- The pins follow DIR and OUT. -/
def gpioSync (old d : Dev) : Dev :=
  (List.range 16).foldl (fun d i => if old.gpioPin i = d.gpioPin i then d else d.emit (.pin Pin.gpio i (d.gpioPin i))) d

/-- GPIO.IN: a driven pin shows its level; the level at another pin is the board's, a free value (notes/assumptions/1.md). -/
def Dev.gpioIn (d : Dev) : Nat :=
  let dir := d.get Reg.GPIO.DIR.OUT_EN
  (d.get Reg.GPIO.OUT.LEVEL &&& dir) ||| andNot (Config.freeValue d.free % 65536) dir

/-! ### SPI flash -/

/-- The flash size by SPIF.SIZE. -/
def Dev.flashSize (d : Dev) : Nat := 2 ^ d.get Reg.SPIF.SIZE.LOG2

/-- Does a range touch the dump region while the dump is enabled (R479)? -/
def Dev.inDump (d : Dev) (a n : Nat) : Bool :=
  d.is Reg.SED.DUMP_CFG.EN && decide (a < d.dumpBase + 262144) && decide (d.dumpBase < a + n)

/-- The first flash address and the length that an operation touches. -/
def Dev.spifRange (d : Dev) (op : Nat) : Nat × Nat :=
  let a := d.get Reg.SPIF.FLASH_ADDR.ADDR
  if op = 2 then (a / 65536 * 65536, 65536) else (a, d.get Reg.SPIF.LEN.BYTES)

/-- Are an operation's fields in range (R479, Table 21.2)? -/
def Dev.spifFields (d : Dev) (op : Nat) : Bool :=
  let a := d.get Reg.SPIF.FLASH_ADDR.ADDR
  let b := d.get Reg.SPIF.BASIN_ADDR.ADDR
  let n := d.get Reg.SPIF.LEN.BYTES
  let basin := decide (b % 64 = 0) && decide (b + n ≤ basinSize)
  match op with
  | 0 => basin && decide (1 ≤ n) && decide (n ≤ 65536) && decide (a + n ≤ d.flashSize)
  | 1 => basin && decide (1 ≤ n) && decide (n ≤ 256) && decide (a % 256 + n ≤ 256) && decide (a + n ≤ d.flashSize)
  | 2 => decide (a < d.flashSize)
  | _ => false

/-- SPIF.OP.GO with an opcode: 0 read, 1 page program, 2 erase. -/
def spifGo (op : Nat) (d : Dev) : Dev :=
  let r := d.spifRange op
  if d.spif.isSome = true ∨ d.get Reg.SYS.SPRING_STAT.STATE = 1 ∨ d.sed.dump.isSome = true ∨
      ((op = 1 ∨ op = 2) ∧ d.inDump r.1 r.2 = true) then
    d.set Reg.SPIF.STAT.RESULT 1
  else if d.spifFields op = false then d.set Reg.SPIF.STAT.RESULT 4
  else
    let d := d.put Reg.SPIF.STAT.BUSY true
    { d with spif := some { op, flash := r.1, basin := d.get Reg.SPIF.BASIN_ADDR.ADDR, len := r.2 } }

/-- The master ID of a SPIF access: that of a block without one of its own. -/
def spifMaster : Nat := 0xFF

/-- A SPIF operation completes, or stops after `moved` bytes for a power failure; `ok` is false when the flash reports an
error, which leaves the bytes it touched undefined (R479). -/
def spifDone (ok : Bool) (moved : Nat) (d : Dev) : Dev :=
  match d.spif with
  | none => d
  | some x =>
    let d := { d.put Reg.SPIF.STAT.BUSY false with spif := none }
    -- a read stops at the end of its current page; a program is one page
    let cut := d.flt.pfailLow && x.op != 2
    let n := if cut = true ∧ x.op = 0 then min x.len (ceilDiv (x.flash + min moved x.len) 256 * 256 - x.flash) else x.len
    if ok = false then
      let d := if x.op = 0 then d
        else { d with flash := memWrite 0xFF x.flash (d.freeBytes x.len) d.flash }.drawn
      d.set Reg.SPIF.STAT.RESULT 2
    else if x.op ≠ 2 ∧ d.basinUp = false then d.set Reg.SPIF.STAT.RESULT 3
    else
      match x.op with
      | 0 =>
        let d := d.basinWrite x.basin (memRead 0xFF d.flash x.flash n) 2 spifMaster
        d.set Reg.SPIF.STAT.RESULT (if cut then 3 else 0)
      | 1 =>
        if d.basinFails x.basin x.len then d.set Reg.SPIF.STAT.RESULT 3
        else
          let d := { (d.served 2 x.len) with flash := memWrite 0xFF x.flash (d.basinRead x.basin x.len) d.flash }
          d.set Reg.SPIF.STAT.RESULT (if cut then 3 else 0)
      | _ => { d.set Reg.SPIF.STAT.RESULT 0 with flash := memClear x.flash x.len d.flash }

end Sys2Proof.Machine
end

