-- ==== Sys2Proof/Machine/Power.lean ====
section
/-!
DEFINITION. Clock monitoring (R457 to R460), power domains (R41, R461 to R464), power-fail shedding (R470) and the die
temperature limits (Table 20.5).
-/
namespace Sys2Proof.Machine

/-! ### REFCLK and the PLLs -/

/-- REF_TOL as it acts. -/
def Dev.refTol (d : Dev) : Nat := clamp 100 2000 (d.get Reg.CLK.REF_TOL.PPM)

/-- REFCLK is measured at a deviation in ppm, or shows no edge for 1 µs (R459). -/
def refclkBad (missing : Bool) (ppm : Int) (d : Dev) : Dev :=
  let d := if missing then d else d.set Reg.CLK.REF_PPM.PPM (ofSigned 16 ppm)
  if d.is Reg.CLK.STAT.REF_OK = true ∧ (missing = true ∨ d.refTol < ppm.natAbs) then
    ((d.put Reg.CLK.STAT.REF_OK false).bump Reg.CLK.LOSS_CNT.COUNT 1).raise 0 Kind.CLK.REFCLK_BAD
  else d

/-- REFCLK is measured within REF_TOL again. -/
def refclkRecovered (ppm : Int) (d : Dev) : Dev :=
  let d := d.set Reg.CLK.REF_PPM.PPM (ofSigned 16 ppm)
  if ppm.natAbs ≤ d.refTol then d.put Reg.CLK.STAT.REF_OK true else d

/-- The CLK.STAT bit of a PLL by its number (R459). -/
def pllBit (i : Nat) : Option Fld :=
  match i with
  | 0 => some Reg.CLK.STAT.ROOT
  | 1 => some Reg.CLK.STAT.MEM
  | 2 => some Reg.CLK.STAT.PCIE
  | 3 => some Reg.CLK.STAT.EMR0
  | 4 => some Reg.CLK.STAT.EMR1
  | _ => none

/-- A block leaves RUN because its PLL has lost lock: FAULT (R460). -/
def pllBlockDown (b : Blk) (n : Nat) (d : Dev) : Dev :=
  if d.blk (pg b n) = 0 then d
  else
    let d := onAway b n { d with stopping := adel (pg b n) d.stopping }
    healthSync (blockLost b n 7 (d.setBlk (pg b n) 7))

/-- A block whose PLL has locked again. -/
def pllBlockUp (b : Blk) (n : Nat) (d : Dev) : Dev :=
  if d.blk (pg b n) ≠ 7 then d
  else if d.wiping b = true ∨ d.is (Reg.HDR.DRAIN (pg b n)) = true then d.setBlk (pg b n) 6
  else if d.enabled (pg b n) then onStart b n (d.setBlk (pg b n) (d.runState n b))
  else d.setBlk (pg b n) 1

/-- A PLL loses lock (R459, R460): FIRE goes low; the root PLL clears CLOCKS_LOCKED for good; another takes its block out of
RUN. -/
def pllUnlock (i : Nat) (d : Dev) : Dev :=
  match pllBit i with
  | none => d
  | some f =>
    if d.is f = false then d
    else
      let d := ((d.put f false).bump Reg.CLK.LOSS_CNT.COUNT 1).raise 0 Kind.CLK.PLL_UNLOCK { arg := i }
      let d := fireLow 10 Kind.CLK.PLL_UNLOCK.code d
      match i with
      | 0 => { d.bringup Reg.SYS.BRINGUP.CLOCKS_LOCKED false with pwr := { d.pwr with rootLost := true } }
      | 1 => pllBlockDown .BAS 0 d
      | 2 => functionLevelReset true d
      | 3 => pllBlockDown .EML 0 d
      | _ => pllBlockDown .EML 1 d

/-- A PLL locks again. -/
def pllRelock (i : Nat) (d : Dev) : Dev :=
  match pllBit i with
  | none => d
  | some f =>
    if d.is f then d
    else
      let d := (d.put f true).ev .CLK 0 0
      match i with
      | 1 => pllBlockUp .BAS 0 d
      | 3 => pllBlockUp .EML 0 d
      | 4 => pllBlockUp .EML 1 d
      | _ => d

/-- The TS_CLK DLL loses lock: TRG issues no cycle until target 9 has been calibrated afresh. -/
def dllUnlock (d : Dev) : Dev :=
  if d.is Reg.CLK.STAT.DLL = false then d
  else
    let d := ((d.put Reg.CLK.STAT.DLL false).bump Reg.CLK.LOSS_CNT.COUNT 1).raise 0 Kind.CLK.DLL_UNLOCK
    { d with pwr := { d.pwr with dllWait := true } }

/-- The TS_CLK DLL locks again. -/
def dllRelock (d : Dev) : Dev := if d.is Reg.CLK.STAT.DLL then d else (d.put Reg.CLK.STAT.DLL true).ev .CLK 0 2

/-! ### Power domains -/

/-- The number of switchable domains. -/
def domains : Nat := 18

/-- The blocks of a domain (Table 20.2). -/
def domainBlocks (dom : Nat) : List (Blk × Nat) :=
  (Blk.all.flatMap fun b => (List.range b.count).map fun n => (b, n)).filter fun t => t.1.domain t.2 == some dom

/-- Is a domain on? -/
def Dev.domOn (d : Dev) (dom : Nat) : Bool := d.bitOf Reg.PWR.DOM_STAT.ON dom

/-- Is a domain in a transition? -/
def Dev.domBusy (d : Dev) (dom : Nat) : Bool := d.bitOf Reg.PWR.DOM_BUSY.BUSY dom

/-- Is the block of a page off, its registers beyond the header unreachable (R31)? -/
def Dev.pageOff (d : Dev) (page : Nat) : Bool := (Blk.ofPage page).isSome && d.blk page == 0

/-- A domain request is refused (R463). -/
def domRefuse (dom code : Nat) (d : Dev) : Dev :=
  ((((d.put Reg.PWR.REFUSE.VALID true).set Reg.PWR.REFUSE.CODE code).set Reg.PWR.REFUSE.DOM dom)).raise 0 Kind.PWR.DOMAIN_REFUSED

/-- Would turning a domain off stop printing (R463, code 1)? -/
def Dev.domPrints (d : Dev) (dom : Nat) : Bool :=
  d.printing &&
    (dom == 0 || dom == 1 || dom == 2 || dom == 5 || dom == 3 + d.activeEngine ||
     (decide (10 ≤ dom) && (List.range 8).any fun k => d.enabled (pg .HPT (8 * (dom - 10) + k)) && d.geomOk (8 * (dom - 10) + k)) ||
     (dom == 6 && (d.ringRole == 2 || d.get Reg.TRG.SRC_SEL.SEL == 4)))

/-- A block of a domain that is asked to turn off (R39, R462). -/
def blockOff (t : Blk × Nat) (d : Dev) : Dev :=
  let page := pg t.1 t.2
  if d.blk page = 0 then d
  else if d.stoppable page then beginStop t.1 t.2 .off d
  else endStop t.1 t.2 .off d

/-- One domain is asked to turn off, with a wait time in µs for the DMA transfers bound to it. -/
def domOff1 (wait : Nat) (d : Dev) (dom : Nat) : Dev :=
  if d.domPrints dom then domRefuse dom 1 d
  else if d.domBusy dom then domRefuse dom 2 d
  else if d.domOn dom = false then d
  else
    let d := d.setBit Reg.PWR.DOM_BUSY.BUSY dom
    let d := { d with pwr := { d.pwr with goingOff := d.pwr.goingOff ++ [dom] } }
    let d := d.arm (.domainWait dom) (max 1 wait * us)
    (domainBlocks dom).foldl (fun d t => blockOff t d) d

/-- One domain is asked to turn on: its switch closes. -/
def domOn1 (d : Dev) (dom : Nat) : Dev :=
  if d.flt.pfailLow then domRefuse dom 3 d
  else if d.domBusy dom then domRefuse dom 2 d
  else if d.domOn dom then d
  else
    let d := (d.setBit Reg.PWR.DOM_BUSY.BUSY dom).setBit Reg.PWR.DOM_STAT.ON dom
    { d with pwr := { d.pwr with goingOn := d.pwr.goingOn ++ [dom] } }

/-- PWR.DOM_ON written. -/
def domOn (mask : Nat) (d : Dev) : Dev := (bitList domains mask).foldl domOn1 d

/-- PWR.DOM_OFF written; `on` is what DOM_ON names in the same cycle, and a domain that both name turns off (R464). -/
def domOff (mask on : Nat) (d : Dev) : Dev :=
  domOn (andNot on mask) ((bitList domains mask).foldl (domOff1 (d.get Reg.PWR.WAIT.US)) d)

/-- The wait time of a domain that turns off ends: the DMA transfers still bound to it end with DOMAIN_OFF (R41). -/
def domainWaitExpiry (dom : Nat) (d : Dev) : Dev :=
  d.onTimer (.domainWait dom) fun d =>
    let d := (List.range 32).foldl (fun d n => if d.dmaBound dom n then dmaCut n 0x0D d else d) d
    (domainBlocks dom).foldl (fun d t => if aget (pg t.1 t.2) d.stopping = some .off then checkStop t.1 t.2 d else d) d

/-- Every block of a domain has reached OFF: its switch opens; HPWR_EN_g is low while HEAD_g is off. -/
def domainOffDone (dom : Nat) (d : Dev) : Dev :=
  if d.pwr.goingOff.contains dom = true ∧ (domainBlocks dom).all (fun t => d.blk (pg t.1 t.2) == 0) = true then
    let d := ((d.clrBit Reg.PWR.DOM_STAT.ON dom).clrBit Reg.PWR.DOM_BUSY.BUSY dom).disarm (.domainWait dom)
    let d := { d with pwr := { d.pwr with goingOff := d.pwr.goingOff.filter (· != dom) } }
    let d := if 10 ≤ dom ∧ d.sec.hpwr.testBit (dom - 10) = true then
        let d : Dev := { d.emit (.pin Pin.hpwr (dom - 10) 0) with sec := { d.sec with hpwr := clrB d.sec.hpwr (dom - 10) } }
        if d.sec.hpwr = 0 then d.bringup Reg.SYS.BRINGUP.HEAD_POWER_ARMED false else d
      else d
    d.ev .PWR 0 0
  else d

/-- A block comes up in its domain as after a block soft reset (R462); the content of Basin and Shallows is kept. -/
def blockOn (d : Dev) (t : Blk × Nat) : Dev :=
  let page := pg t.1 t.2
  let level := d.is (Reg.HDR.LEVEL page)
  let d := d.set (Reg.HDR.EPOCH page) (d.get (Reg.HDR.EPOCH page) + 1)
  let d := d.resetFields (headerReset page)
  let d := if level then d.ev .SYS 0 1 else d
  let d := if t.1 = .BAS ∨ t.1 = .SHL then
      let wiping := d.is Reg.BAS.STAT.WIPING
      (d.resetFields (t.1.fields t.2)).put Reg.BAS.STAT.WIPING wiping
    else resetState t.1 t.2 d
  if d.wiping t.1 then d.setBlk page 6 else leaveReset t.1 t.2 d

/-- A domain's blocks are up. -/
def domainOnDone (dom : Nat) (d : Dev) : Dev :=
  if d.pwr.goingOn.contains dom then
    let d := (domainBlocks dom).foldl blockOn d
    let d := { d with pwr := { d.pwr with goingOn := d.pwr.goingOn.filter (· != dom) } }
    (d.clrBit Reg.PWR.DOM_BUSY.BUSY dom).ev .PWR 0 0
  else d

/-! ### Power failure and die temperature -/

/-- PFAIL_SHED: once the SAFE reaction has reached STANDBY the domains of PFAIL_SHED turn off (R470). -/
def pfailShed (d : Dev) : Dev :=
  if d.pwr.shedding = true ∧ d.mode = 0 then
    let d := { d with pwr := { d.pwr with shedding := false } }
    (bitList domains (d.get Reg.PWR.PFAIL_SHED.DOM)).foldl (domOff1 (d.get Reg.PWR.PFAIL_SHED.WAIT_US)) d
  else d

/-- A die limit in °C met by a sample (s12.4): raised once, and again only after a sample 5 °C below it. -/
def dieLimit (limit : Nat) (t : Int) (raised : Bool) : Bool × Bool :=
  if raised then (false, !decide (t ≤ 16 * ((limit : Int) - 5)))
  else if 16 * (limit : Int) ≤ t then (true, true) else (false, false)

/-- The 1 ms sample of the die temperature, s12.4 °C (R426, R473). -/
def dieSample (t : Int) (d : Dev) : Dev :=
  d.onPeriod .dieSample ms fun d =>
    let hot := dieLimit (d.get Reg.PWR.DIE_LIM.HOT) t d.pwr.hotRaised
    let crit := dieLimit (min 125 (d.get Reg.PWR.DIE_LIM.CRIT)) t d.pwr.critRaised
    let d := { d with pwr := { d.pwr with hotRaised := hot.2, critRaised := crit.2 } }
    let d := calDie t d
    let d := if hot.1 then d.raise 0 Kind.PWR.DIE_HOT else d
    if crit.1 then d.raise 0 Kind.PWR.DIE_CRIT else d

end Sys2Proof.Machine
end

