-- ==== Sys2Proof/Machine/Bus.lean ====
section
/-!
DEFINITION. Register accesses (R5 to R8, R28 to R37, R43, R44): one 32-bit read and one 32-bit write of a BAR0 offset, field
by field, with the header of every page, the guarded fields, the `_LO`/`_HI` pairs and what a write starts in its block.
-/
namespace Sys2Proof.Machine

/-- Who makes an access: its master ID, whether it carries the access code 0x4 (Spring, the management port), and whose halves
of `_LO`/`_HI` pairs it uses: the host, the management port and Spring share master ID 0x00 and are masters of their own
(R44). -/
structure Party where
  master   : Nat
  internal : Bool
  halves   : Nat := if internal then 256 + master else master
deriving DecidableEq, Repr

/-- The host (R43). -/
def Party.host : Party := { master := 0, internal := false }

/-- The management port (R478). -/
def Party.inner : Party := { master := 0, internal := true }

/-- A Spring entry (R66). -/
def Party.spring : Party := { master := 0, internal := true, halves := 512 }

/-- Does the access come over PCIe? -/
def Party.isHost (w : Party) : Bool := w.master == 0 && !w.internal

/-- The access code of Table 2.6: 1 read, 2 write, 4 internal. -/
def Party.code (w : Party) (write : Bool) : Nat := if w.internal then 4 else if write then 2 else 1

/-- A discarded access recorded (R28, R34, R35, R37). -/
def discarded (k : FKind) (w : Party) (write : Bool) (addr : Nat) (d : Dev) : Dev :=
  d.raise 0 k { access := w.code write, master := w.master, addr }

/-! ### Fields computed when read -/

/-- The SYS, EVT, CLK and GPIO fields that no register holds. -/
def plainView (d : Dev) (f : Fld) : Option Nat :=
  let i := (f.off - 0x40) / 4
  if f = Reg.SYS.LEVEL_STAT.WINDOW then some (b2n (d.running .levelWindow))
  else if f = Reg.EVT.SRC_STAT.RAISED i then
    some ((List.range 32).foldl (fun a b => if d.srcRaised (32 * i + b) then setB a b else a) 0)
  else if f = Reg.CLK.TS.TS then some d.ts
  else if f = Reg.GPIO.IN.LEVEL then some d.gpioIn
  else none

/-- A field's value as computed by its block, when no register holds it. -/
def Dev.view (u : Fuses) (d : Dev) (n : Nat) (b : Blk) (f : Fld) : Option Nat :=
  match b with
  | .SEC => secView u d f
  | .FLT => fltView d f
  | .SED => sedView d f
  | .CAL => calView d f
  | .BAS => basView d f
  | .SHL => shlView d f
  | .DMAC => dmacView d f
  | .CMPC | .CMP => cmpView d f
  | .DCM => dcmView d n f
  | .EOUT => eoutView d n f
  | .EMR => emrView d f
  | .EML => emlView d n f
  | .PRT => prtView d f
  | .TRG => trgView d f
  | .THM => thmView d f
  | .SND => sndView d f
  | .MSK => mskView d f
  | .ENG | .ENGX => engView d f
  | .MOTC | .MOT => motcView d f
  | .SYS | .EVT | .CLK | .GPIO => plainView d f
  | _ => none

/-- A field's value. -/
def Dev.value (u : Fuses) (d : Dev) (n : Nat) (b : Blk) (f : Fld) : Nat := (d.view u n b f).getD (d.get f)

/-- What a field whose value is `v` shows in the 32-bit register at `off`; a WO field reads zero (R5). -/
def Fld.shown (f : Fld) (v off : Nat) : Nat :=
  if f.acc = .wo then 0
  else
    let w := v % f.cap * 2 ^ f.lo
    if f.off = off then w % 2 ^ 32 else w / 2 ^ 32

/-! ### Reading -/

/-- BLK_ID (R474). -/
def blkId (b : Blk) (n : Nat) : Nat := (0x8000 + b.base) * 65536 + n * 256 + 0xB0

/-- BLK_CAPS: a layout only where the owning chapter gives one (R475, and R206 for HPT). -/
def blkCaps (b : Blk) : Nat := if b = .HPT then 0x00101044 else 0

/-- A header register (Tables 2.3 to 2.6). -/
def headerValue (d : Dev) (b : Blk) (n off : Nat) : Nat :=
  let page := pg b n
  if off = 0x000 then blkId b n
  else if off = 0x004 then blkCaps b
  else if off = 0x018 ∨ off = 0x01C then d.get (Reg.HDR.EV_RAW page)
  else ((Reg.HDR.fields page).filter (·.covers off)).foldl (fun a f => a + f.shown (d.get f) off) 0

/-- An RC field cleared by a read (R5): a stored counter returns to its reset value. -/
def clearRead (b : Blk) (d : Dev) (f : Fld) : Dev :=
  if f.acc ≠ .rc then d
  else if f = Reg.BAS.DLY_CNT.COUNT then dlyClear d
  else if b = .MSK then mskClear f d
  else if b = .SND ∧ (sndView d f).isSome = true then sndClear f d
  else d.set f f.rst

/-- The two halves of a pair for a master (`master` says whose halves): the latched `_HI` half is returned once, after a read of `_LO` (R8, R44). -/
def pairRead (master addr : Nat) (lo hi : Bool) (low high : Nat) (d : Dev) : Nat × Dev :=
  if lo then (low, { d with bus := { d.bus with hiLatch := aset (master, addr) high d.bus.hiLatch } })
  else if hi then
    match aget (master, addr - 4) d.bus.hiLatch with
    | some v => (v, { d with bus := { d.bus with hiLatch := adel (master, addr - 4) d.bus.hiLatch } })
    | none => (high, d)
  else (low, d)

/-- Is a register the `_LO` half, or the `_HI` half, of a pair? -/
def isLo (fs : List Fld) (off : Nat) : Bool := fs.any fun f => f.pair && f.off == off
/-- See `isLo`. -/
def isHi (fs : List Fld) (off : Nat) : Bool := fs.any fun f => f.pair && f.off + 4 == off

/-- The sum of what some fields show at an offset. -/
def shownSum (val : Fld → Nat) (fs : List Fld) (off : Nat) : Nat := fs.foldl (fun a f => a + f.shown (val f) off) 0

/-- A 32-bit register read: the value, the completion code (Table 2.9), and the device after it. -/
def busRead (u : Fuses) (w : Party) (addr : Nat) (d : Dev) : Nat × Nat × Dev :=
  let page := addr / 4096
  let off := addr % 4096 / 4 * 4
  match Blk.ofPage page with
  | none => if w.isHost then (0, 0, d) else (0, 0x11, discarded Kind.SYS.ABSENT_TARGET w false addr d)
  | some (b, n) =>
    let read (val : Fld → Nat) (fs : List Fld) : Nat × Nat × Dev :=
      let lo := isLo fs off
      let hi := isHi fs off
      let base := if hi then off - 4 else off
      let r := pairRead w.halves (page * 4096 + off) lo hi (shownSum val fs base) (shownSum val fs (base + 4)) d
      (r.1, 0, r.2)
    if 0xF00 ≤ off then (0, 0, d)
    else if off < 0x040 then
      if off = 0x020 ∨ off = 0x024 ∨ off = 0x028 ∨ off = 0x02C then
        read d.get ((Reg.HDR.fields page).filter (·.covers off))
      else (headerValue d b n off, 0, d)
    else if d.pageOff page then (0, 0, d)
    else
      let fs := b.fieldsAt n off
      let r := read (d.value u n b) fs
      let d := fs.foldl (clearRead b) r.2.2
      let d := if fs.contains Reg.GPIO.IN.LEVEL then d.drawn else d
      (r.1, 0, d)

/-! ### Writing the header -/

/-- FLT_LOCAL.VALID written 1: the whole record and COUNT clear (R31). -/
def fltLocalClear (page : Nat) (d : Dev) : Dev :=
  d.resetFields [Reg.HDR.F_TS page, Reg.HDR.F_ADDR page, Reg.HDR.F_VALID page, Reg.HDR.F_SEVERITY page, Reg.HDR.F_KIND page,
    Reg.HDR.F_ACCESS page, Reg.HDR.F_MASTER page, Reg.HDR.F_COUNT page, Reg.HDR.F_ARG page]

/-- EV_CLEAR written: the bits given clear (R33). -/
def evClear (b : Blk) (n v : Nat) (d : Dev) : Dev :=
  d.evWrite b n fun d => d.set (Reg.HDR.EV_RAW (pg b n)) (andNot (d.get (Reg.HDR.EV_RAW (pg b n))) (v % 2 ^ 32))

/-- EV_FORCE written: the bits given are set, for test (R31). -/
def evForce (b : Blk) (n v : Nat) (d : Dev) : Dev :=
  d.evWrite b n fun d => d.set (Reg.HDR.EV_RAW (pg b n)) (d.get (Reg.HDR.EV_RAW (pg b n)) ||| v % 2 ^ 32)

/-- EV_MASK written. -/
def evMask (b : Blk) (n v : Nat) (d : Dev) : Dev := d.evWrite b n fun d => d.set (Reg.HDR.EV_MASK (pg b n)) v

/-- BLK_CTRL written: LEVEL and ENABLE take their values, then KILL and SOFT_RESET act, as a kill followed by RESET where
both are set, and DRAIN (R36 to R40); a DRAIN that is
set already is not set anew (notes/assumptions/63.md). -/
def blkCtrl (w : Party) (page v : Nat) (d : Dev) : Dev :=
  let drains := bit v 1 && !d.is (Reg.HDR.DRAIN page)
  let d := levelSet (w.code true) w.master page (bit v 8) d
  let d := if bit v 0 then enableSet page d else enableClear page d
  let d := if bit v 2 ∧ bit v 4 then killReset page d
    else if bit v 2 then blockKill page d
    else if bit v 4 then softReset page d else d
  if drains then drainSet page d else d

/-- A header register written (Tables 2.3 to 2.6). -/
def headerWrite (w : Party) (b : Blk) (n off v : Nat) (d : Dev) : Dev :=
  let page := pg b n
  if off = 0x008 then blkCtrl w page v d
  else if off = 0x00C then if bit v 16 then d.put (Reg.HDR.ABORTED page) false else d
  else if off = 0x014 then evMask b n v d
  else if off = 0x018 then evClear b n v d
  else if off = 0x01C then evForce b n v d
  else if off = 0x030 then if bit v 31 then fltLocalClear page d else d
  else d

/-! ### Writing a block's own registers -/

/-- The 64-bit value of a pair, or the 32 bits written: what each field of a register is offered (R8).  The bits of a
W1C field act with the half that holds them. -/
structure Offer where
  /-- the bits written, in place: a `_HI` half's at 63:32 -/
  raw : Nat
  /-- the whole value offered to a pair's other fields; none while only its `_LO` half is written -/
  whole : Option Nat
deriving DecidableEq, Repr

/-- What a register write offers a field; none when the field waits for the `_HI` half. -/
def Offer.value (o : Offer) (f : Fld) : Option Nat :=
  if f.acc = .w1c ∨ f.pair = false then some (bits o.raw f.hi f.lo) else o.whole.map fun v => bits v f.hi f.lo

/-- The value offered, zero when none is. -/
def Offer.at (o : Offer) (f : Fld) : Nat := (o.value f).getD 0

/-- The low half in force of a pair, for a `_HI` write without a pending `_LO` (R8, R44): what its fields hold, or, for a
write-only pair, the low half that last took effect (`last`). -/
def lowHeld (val : Fld → Nat) (fs : List Fld) (last : Nat) : Nat :=
  if fs.any (·.acc == .wo) then last
  else (fs.filter fun f => f.acc == .rw || f.acc == .rwx).foldl (fun a f => a + val f % f.cap * 2 ^ f.lo % 2 ^ 32) 0

/-- Is a field guarded against this write: RWA, or RWX at basic level (R37)? -/
def Dev.guarded (d : Dev) (page : Nat) (f : Fld) : Bool := f.acc == .rwa || (f.acc == .rwx && !d.is (Reg.HDR.LEVEL page))

/-- The guarded fields of a register whose offered value differs from the value held (R37). -/
def Dev.denied (d : Dev) (u : Fuses) (n : Nat) (b : Blk) (fs : List Fld) (o : Offer) : List Fld :=
  fs.filter fun f => d.guarded (pg b n) f && (match o.value f with | some v => v != d.value u n b f | none => false)

/-- TRG registers that a print mode locks (R118). -/
def trgLocked : List Fld :=
  [Reg.TRG.SRC_SEL.SEL, Reg.TRG.PITCH.PITCH, Reg.TRG.LEAD.TICKS, Reg.TRG.LEAD.PHASE, Reg.TRG.MERGE.FINE, Reg.TRG.BIDIR.OFFSET] ++
  (List.range 64).map Reg.TRG.DROPS.PORT

/-- ENC configuration fields that stay as they are while the channel is locked (R268). -/
def encGuarded (n : Nat) : List Fld :=
  [Reg.ENC.CFG.MODE n, Reg.ENC.CFG.INVERT n, Reg.ENC.CFG.DIR_SRC n, Reg.ENC.CFG.LIM_EN n, Reg.ENC.LIM_LO.POS n, Reg.ENC.LIM_HI.POS n]

/-- Does a field take its new value in an operation of its own? -/
def ownWriter (n : Nat) (b : Blk) (f : Fld) : Bool :=
  match b with
  | .PRT => f == Reg.PRT.Q_TAIL.INDEX ((f.off - 0x100) / 0x20)
  | .TRG => f == Reg.TRG.FIX_PERIOD.TICKS || f == Reg.TRG.FIX_PERIOD.PHASE
  | .HPT => f == Reg.HPT.FIRE_W_0.MAIN n || f == Reg.HPT.FIRE_W_X.MAIN n ((f.off - 0x600) / 8)
  | .FLT => f == Reg.FLT.RIPPLE.KICK_EN || f == Reg.FLT.FIRST_INFO.VALID
  | .SED => f == Reg.SED.DUMP_CFG.EN
  | .EOUT => f == Reg.EOUT.CFG.OUT_EN n
  | .DMA => f == Reg.DMA.OWNER.TAG n
  | .CAL => f == Reg.CAL.USER.VALUE
  | .BAS => f == Reg.BAS.UE_ADDR.VALID
  | .SHL => f == Reg.SHL.UE_LOC.VALID
  | .THM => f == Reg.THM.HOT_REC_0.VALID
  | _ => false

/-- The values a field's meaning clamps: Tables 7.6, 8.11, 10.7, 11.2, 12.7, 16.2, 17.10 and 20.4, and the pulse widths of
R156 (notes/assumptions/61.md). -/
def fieldClamp (n : Nat) (b : Blk) (f : Fld) (v : Nat) : Nat :=
  match b with
  | .THM => if f = Reg.THM.NOZ_WIN.NW then clamp 16 1024 v else if f = Reg.THM.HEAD_WIN.NH then clamp 1024 65536 v else v
  | .HPT =>
    if f = Reg.HPT.LAT_FIRE.STEPS n then clamp 240 320 v
    else if ((List.range 4).any fun k => f == (fireFields n k).1 || f == (fireFields n k).2.1) = true then min v 8000
    else v
  | .ENG => if f = Reg.ENG.VOTE_CFG.LAG_NS then clamp 200 8000 v else v
  | .ENC => if f = Reg.ENC.WIRE.NS n then clamp 5 250 v else v
  | .EMR => if f = Reg.EMR.TIMERS.TAKEOVER then clamp 2 9 v else if f = Reg.EMR.EXTRAP.US then clamp 1 8 v else v
  | .MOT => if f = Reg.MOT.PWM_CFG.DEAD_NS n then clamp 50 1000 v else v
  | .FLT => if f = Reg.FLT.RIPPLE.HALF_US then clamp 5 5000 v else v
  | .CLK => if f = Reg.CLK.REF_TOL.PPM then clamp 100 2000 v else v
  | _ => v

/-- A register field takes what a write offers it (R5, R37). -/
def fieldWrite (n : Nat) (b : Blk) (o : Offer) (d : Dev) (f : Fld) : Dev :=
  if ownWriter n b f = true ∨ d.guarded (pg b n) f = true ∨
      (b = .ENC ∧ (encGuarded n).contains f = true ∧ d.encLocked n = true) then d
  else match f.acc, o.value f with
    | .rw, some v => d.set f (fieldClamp n b f v)
    | .rwx, some v => d.set f (fieldClamp n b f v)
    | .w1c, some v => d.set f (andNot (d.get f) v)
    | _, _ => d

/-- Does a write reach an ENC field that is locked with a value other than it holds (R268)? -/
def encDenied (n : Nat) (fs : List Fld) (o : Offer) (d : Dev) : Bool :=
  d.encLocked n && fs.any fun f => (encGuarded n).contains f && (match o.value f with | some v => v != d.get f | none => false)

/-- MOT.CMD: every bit set acts, SET_POS first and QSTOP last. -/
def motCmd (n v : Nat) (d : Dev) : Dev :=
  let d := if bit v 4 then motSetPos n d else d
  let d := if bit v 0 then motStart n d else d
  let d := if bit v 1 then motHome n d else d
  let d := if bit v 2 then axisStop n false d else d
  if bit v 3 then axisStop n true d else d

/-- ENG.CMD. -/
def engCmd (v : Nat) (d : Dev) : Dev :=
  let d := if bit v 0 then cmdSwitch d else d
  let d := if bit v 1 then cmdResync d else d
  if bit v 2 then cmdRepair d else d

/-- ENC_k.CMD. -/
def encCmd (n v : Nat) (d : Dev) : Dev :=
  let d := if bit v 0 then encClrRef n d else d
  let d := if bit v 1 then encPreset n d else d
  if bit v 2 then encArmHome n d else d

/-- SED.CTRL. -/
def sedCtrl (v : Nat) (d : Dev) : Dev :=
  let d := if bit v 1 then sedRelease d else d
  let d := if bit v 0 then sedFreeze d else d
  if bit v 2 then dumpClear d else d

/-- FLT.ACK. -/
def fltAck (v : Nat) (d : Dev) : Dev :=
  let d := if bit v 8 then ackSlot (bits v 5 0) d else d
  let d := if bit v 31 then ackAll d else d
  if bit v 30 then ackMemo d else d

/-- CAL.CMD: CHAN has been taken. -/
def calCmd (v : Nat) (d : Dev) : Dev :=
  let d := if bit v 0 then calRequest (d.get Reg.CAL.CMD_MAP.TARGETS) d else d
  if bit v 1 then calRestore d else d

/-- DMAC.KILL_MAP. -/
def killMap (v : Nat) (d : Dev) : Dev := (bitList 32 v).foldl (fun d n => blockKill (pg .DMA n) d) d

/-- SEC.DISARM. -/
def secDisarm (v : Nat) (d : Dev) : Dev :=
  let d := if bit v 1 then disarmPrint d else d
  if bit v 0 then disarmHead d else d

/-- HPT_n.LINK_CMD. -/
def linkCmd (n v : Nat) (d : Dev) : Dev :=
  let d := if bit v 1 then linkCmdDown n d else d
  if bit v 0 then linkTrain n d else d

/-- What a write starts in a block that has one instance, beside the fields it has set. -/
def blockActs (u : Fuses) (w : Party) (b : Blk) (off v : Nat) (o : Offer) (ok : Bool) (old d : Dev) : Dev :=
  match b with
  | .SYS =>
    if off = 0x040 then levelUnlock (w.code true) w.master (bits v 15 0) d
    else if off = 0x050 ∧ bit v 31 = true then modeRequest (d.get Reg.SYS.MODE_REQ.MODE) (d.is Reg.SYS.MODE_REQ.WHEN) d
    else if off = 0x070 then softwareReset v d
    else d
  | .PWR =>
    if off = 0x040 then domOn (bits v 17 0) d
    else if off = 0x044 then domOff (bits v 17 0) 0 d
    else d
  | .SEC =>
    if off = 0x090 ∧ bit v 0 = true then secGo u d
    else if off = 0x0A8 then secDisarm v d
    else d
  | .FLT =>
    if off = 0x044 then fltAck v d
    else if off = 0x064 ∧ bit v 31 = true then firstClear d
    else if off = 0x084 then kickEnable (bit v 31) d
    else if off = 0x088 ∧ bit v 0 = true then kick d
    else if off = 0x08C then faultReset v d
    else if off = 0x09C then polQuery (bits v 31 24) (bits v 23 16) d
    else if off = 0x400 ∧ bit v 31 = true ∧ ok = true then inject (bits v 15 8) (bits v 23 16) (bits v 2 0) d
    else d
  | .SED =>
    if off = 0x054 then sedCtrl v d
    else if off = 0x080 then dumpEnable (bit v 0) d
    else d
  | .CAL =>
    if off = 0x048 then calCmd v d
    else if off = 0x078 ∧ d.is (Reg.HDR.LEVEL (pg .CAL 0)) = true then trimUser (bits v 15 0) d
    else d
  | .BAS => if off = 0x050 ∧ bit v 31 = true then ueAddrClear d else d
  | .SHL => if off = 0x108 ∧ bit v 31 = true then ueLocClear d else d
  | .DMAC =>
    if off = 0x040 then revokeClient (bits v 7 0) d
    else if off = 0x050 then killMap v d
    else d
  | .ENCC => if off = 0x040 ∧ bit v 0 = true then encSnap d else d
  | .EMR =>
    if off = 0x04C ∧ bit v 0 = true then handover d
    else if off = 0x080 ∧ bit v 31 = true then rcmdGo d
    else if off = 0x0C0 ∧ bit v 31 = true then bulkGo d
    else if off = 0x048 then posSync d
    else d
  | .PRT =>
    let p := (off - 0x100) / 0x20
    if off = 0x04C then geomLoad (o.at Reg.PRT.GEOM_LOAD.PORTS) d
    else if 0x100 ≤ off ∧ off < 0x300 ∧ (off - 0x100) % 0x20 = 0x0C then qTailWrite p (bits v 15 0) d
    else if 0x100 ≤ off ∧ off < 0x300 ∧ (off - 0x100) % 0x20 = 0x14 then
      activatePassed (if bit v 2 then qCancel p d else d)
    else d
  | .TRG =>
    if off = 0x040 then posSync d
    else if off = 0x090 then fixPeriodWrite v d
    else d
  | .THM =>
    if off = 0x044 then
      let d := autoRearm d
      if bit v 8 = true then hotRearm (bits v 5 0) d else d
    else if off = 0x06C ∧ bit v 31 = true then hotRecClear d
    else if off = 0x40C then reclassAll d
    else d
  | .SND =>
    if off = 0x058 ∧ bit v 0 = true then sigLoad d
    else if off = 0x068 then
      let d := if bit v 1 then scanStop d else d
      if bit v 0 then scanGo d else d
    else if off = 0x418 then (List.range 64).foldl (fun d n => degradeSync n d) d
    else d
  | .MSK => if off = 0x400 ∧ bit v 31 = true ∧ ok = true then nozOvr (bits v 23 22) (bits v 21 16) (bits v 13 0) d else d
  | .ENG => if off = 0x044 then engCmd v d else d
  | .MOTC =>
    if off = 0x044 ∧ bit v 0 = true then stopAll d
    else if off = 0x054 then
      let d := if bit v 1 then spitStop d else d
      if bit v 0 then spitGo d else d
    else d
  | .GPIO => gpioSync old d
  | .SPIF => if off = 0x048 ∧ bit v 31 = true then spifGo (bits v 1 0) d else d
  | _ => d

/-- What a write starts in one instance of a block, beside the fields it has set. -/
def instanceActs (b : Blk) (n off v : Nat) (ok : Bool) (old d : Dev) : Dev :=
  match b with
  | .DMA =>
    if off = 0x040 then ownerWrite n (bits v 15 8) (bits v 7 0) d
    else if off = 0x04C then
      let d := if bit v 0 then dmaStart n d else d
      if bit v 1 then dmaResume n d else d
    else d
  | .CMP => if off = 0x044 ∧ bit v 0 = true then cmpPush n d else d
  | .ENC => if off = 0x058 then encCmd n v d else if off = 0x040 then posSync d else d
  | .EOUT =>
    if off ≠ 0x040 then d
    else if bit v 31 = true ∧ old.is (Reg.EOUT.CFG.OUT_EN n) = false then outEnSet n d
    else if bit v 31 = false ∧ old.is (Reg.EOUT.CFG.OUT_EN n) = true then outEnClear n d
    else d
  | .HPT =>
    let expert := d.is (Reg.HDR.LEVEL (pg .HPT n))
    if off = 0x044 then linkCmd n v d
    else if off = 0x040 then if old.is (Reg.HPT.LINK_CFG.AUTO_TRAIN n) then d else autoTrain n d
    else if off = 0x204 then fireWrite n 0 (bits v 12 0) d
    else if (off = 0x604 ∨ off = 0x60C ∨ off = 0x614) ∧ expert = true then fireWrite n ((off - 0x604) / 8 + 1) (bits v 12 0) d
    else if off = 0x618 ∧ expert = true then reclassPort n d
    else if off = 0x400 ∧ bit v 31 = true ∧ ok = true then hregGo n d
    else d
  | .MOT => if off = 0x048 then motCmd n v d else d
  | _ => d

/-- A register of a block written with an offer: the guarded fields are checked, the others take their values, and the write
acts (R37). -/
def fieldsWrite (u : Fuses) (w : Party) (b : Blk) (n off v : Nat) (fs : List Fld) (o : Offer) (d : Dev) : Nat × Dev :=
  let bad := d.denied u n b fs o
  let code := if bad = [] then 0 else if bad.any (fun f => f.acc == .rwa) then 0x13 else 0x12
  let old := d
  let d := match bad with
    | [] => d
    | _ => discarded (if code = 0x13 then Kind.SYS.AUTH_REQUIRED else Kind.SYS.LEVEL_DENIED) w true (pg b n * 4096 + off) d
  let d := if b = .ENC ∧ encDenied n fs o d = true then encRefuse n d else d
  let d := fs.foldl (fieldWrite n b o) d
  (code, instanceActs b n off v (bad == []) old (blockActs u w b off v o (bad == []) old d))

/-- A register of a block written: pairs keep a `_LO` half until their `_HI` half comes (R8, R44). -/
def blockWrite (u : Fuses) (w : Party) (b : Blk) (n off v : Nat) (d : Dev) : Nat × Dev :=
  let fs := b.fieldsAt n off
  let key := pg b n * 4096 + off
  if b = .TRG ∧ isLo fs off = false ∧ d.printing = true ∧ (fs.any fun f => trgLocked.contains f && !d.guarded (pg b n) f) = true then
    let d : Dev := { d with bus := { d.bus with loPend := adel (w.halves, key - 4) d.bus.loPend } }
    (0, d.raise 0 Kind.TRG.CFG_LOCKED { access := w.code true, master := w.master, addr := key })
  else if isLo fs off then
    let d : Dev := { d with bus := { d.bus with loPend := aset (w.halves, key) v d.bus.loPend } }
    fieldsWrite u w b n off v fs { raw := v, whole := none } d
  else if isHi fs off then
    let low := (aget (w.halves, key - 4) d.bus.loPend).getD (lowHeld (d.value u n b) fs (tget 0 d.bus.loHeld (key - 4)))
    let d : Dev := { d with bus := { d.bus with
      loPend := adel (w.halves, key - 4) d.bus.loPend
      loHeld := if fs.any (·.acc == .wo) then tset 0 (key - 4) low d.bus.loHeld else d.bus.loHeld } }
    fieldsWrite u w b n off v fs { raw := v * 2 ^ 32, whole := some (v * 2 ^ 32 + low) } d
  else fieldsWrite u w b n off v fs { raw := v, whole := some v } d

/-- A 32-bit register write: the completion code (Table 2.9) and the device after it. -/
def busWrite (u : Fuses) (w : Party) (addr value : Nat) (d : Dev) : Nat × Dev :=
  let page := addr / 4096
  let off := addr % 4096 / 4 * 4
  let v := value % 2 ^ 32
  match Blk.ofPage page with
  | none => (0x11, discarded Kind.SYS.ABSENT_TARGET w true addr d)
  | some (b, n) =>
    if 0xF00 ≤ off then (0x11, discarded Kind.SYS.ABSENT_TARGET w true addr d)
    else if off < 0x040 then (0, headerWrite w b n off v d)
    else if d.pageOff page then (0x21, if w.isHost then hostRefused 0x21 addr d else d)
    else if b = .EVT ∧ d.blk page = 6 then (0x10, if w.isHost then hostRefused 0x10 addr d else d)
    else blockWrite u w b n off v d

/-! ### Host accesses through BAR0 (R28) -/

/-- Is an access of BAR0 naturally aligned and of 4 or 8 bytes? -/
def bar0Ok (addr size : Nat) : Bool := (size == 4 && addr % 4 == 0) || (size == 8 && addr % 8 == 0)

/-- The completion an internal master receives for an access (R35, R43); the host's writes are posted, and its reads end with
their data. -/
def completed (w : Party) (code : Nat) (d : Dev) : Dev := if w.isHost then d else d.emit (.completion w.master code)

/-- A register write of 4 or 8 bytes, the low dword first; any other size or alignment is discarded and recorded. -/
def registerWrite (w : Party) (addr size value : Nat) (u : Fuses) (d : Dev) : Dev :=
  if bar0Ok addr size = false then completed w 0x14 (discarded Kind.SYS.ACCESS_SIZE w true addr d)
  else
    let r := busWrite u w addr (value % 2 ^ 32) d
    let d := completed w r.1 r.2
    if size = 8 then
      let r := busWrite u w (addr + 4) (value / 2 ^ 32) d
      completed w r.1 r.2
    else d

/-- A register read of 4 or 8 bytes, the low dword first; any other size or alignment returns the containing dword. -/
def registerRead (w : Party) (addr size : Nat) (u : Fuses) (d : Dev) : Dev :=
  let r := busRead u w (addr / 4 * 4) d
  if size = 8 ∧ addr % 8 = 0 then
    let h := busRead u w (addr + 4) r.2.2
    (completed w h.2.1 h.2.2).emit (.readData w.master addr (r.1 + h.1 * 2 ^ 32))
  else (completed w r.2.1 r.2.2).emit (.readData w.master addr r.1)

end Sys2Proof.Machine
end

