-- ==== Sys2Proof/Machine/Outside.lean ====
section
/-!
DEFINITION. What reaches the device from outside beside BAR0 (R29, R42, R304, R478): the windows BAR2 and BAR4, the register
commands of the ring, the management port, and replies to the device's own requests.
-/
namespace Sys2Proof.Machine

/-! ### BAR4 (R29, Table 2.2) -/

/-- One dword of an MSI-X table entry: address low and high, data, vector control. -/
def MsixEntry.dword (e : MsixEntry) (i : Nat) : Nat :=
  if i = 0 then e.addr % 2 ^ 32 else if i = 1 then e.addr / 2 ^ 32 else if i = 2 then e.data else b2n e.masked

/-- One dword of an MSI-X table entry written. -/
def MsixEntry.put (e : MsixEntry) (i v : Nat) : MsixEntry :=
  if i = 0 then { e with addr := e.addr / 2 ^ 32 * 2 ^ 32 + v }
  else if i = 1 then { e with addr := e.addr % 2 ^ 32 + v * 2 ^ 32 }
  else if i = 2 then { e with data := v }
  else { e with masked := bit v 0 }

/-- A dword of the MSI-X table written; a message held for a vector goes as the vector is unmasked. -/
def msixWrite (o v : Nat) (d : Dev) : Dev :=
  let k := o / 16
  let e := (tget MsixEntry.init d.evt.table k).put (o / 4 % 4) (v % 2 ^ 32)
  msixUnmask k { d with evt := { d.evt with table := tset MsixEntry.init k e d.evt.table } }

/-- The MSI-X pending-bit array. -/
def Dev.pbaBits (d : Dev) : Nat := (List.range 64).foldl (fun a v => if d.evt.pba.contains v then setB a v else a) 0

/-- A dword of the MSI-X structures as read; every reserved range reads zero. -/
def Dev.bar4Dword (d : Dev) (a : Nat) : Nat :=
  if 0x3FF0000 ≤ a ∧ a < 0x3FF0400 then (tget MsixEntry.init d.evt.table ((a - 0x3FF0000) / 16)).dword (a / 4 % 4)
  else if a = 0x3FF8000 then d.pbaBits % 2 ^ 32
  else if a = 0x3FF8004 then d.pbaBits / 2 ^ 32
  else 0

/-- Is a dword of BAR4 one of the MSI-X structures? -/
def msixAt (a : Nat) : Bool := (decide (0x3FF0000 ≤ a) && decide (a < 0x3FF0400)) || (decide (0x3FF8000 ≤ a) && decide (a < 0x3FF8008))

/-- A dword of the MSI-X structures written: the table takes it, its pending-bit array is read-only. -/
def bar4Put (a v : Nat) (d : Dev) : Dev :=
  if 0x3FF0000 ≤ a ∧ a < 0x3FF0400 then msixWrite (a - 0x3FF0000) v d else d

/-- A host access through BAR4 of 4 or 8 bytes, at any address; `err` strikes a Shallows word that is read.  An access goes to
the range of its first byte; one of the MSI-X structures or of a reserved range that is not aligned acts on the containing
dwords; a write of which a dword is reserved is discarded whole and recorded once (R29; DESIGN CHOICE,
notes/assumptions/12.md). -/
def bar4Access (a size : Nat) (write : Bool) (value err : Nat) (d : Dev) : Dev :=
  if size ≠ 4 ∧ size ≠ 8 then
    if write then discarded Kind.SYS.ACCESS_SIZE Party.host true a d else d.emit (.completion 0 0x14)
  else if a < 0x2000000 then shallowsAccess 0 a size write (leBytes size value) err d
  else if a < 0x2100000 then
    if write then d else d.emit (.readBytes a (memRead 0 d.sed.mem (a - 0x2000000) size) false)
  else if write then
    let a := a / 4 * 4
    if msixAt a = false ∨ (size = 8 ∧ msixAt (a + 4) = false) then discarded Kind.SYS.ABSENT_TARGET Party.host true a d
    else
      let d := bar4Put a (value % 2 ^ 32) d
      if size = 8 then bar4Put (a + 4) (value / 2 ^ 32) d else d
  else
    let a := a / 4 * 4
    d.emit (.readBytes a (leBytes 4 (d.bar4Dword a) ++ if size = 8 then leBytes 4 (d.bar4Dword (a + 4)) else []) false)

/-! ### Register commands from the ring (R304, Table 12.5) -/

/-- The ring as a bus master. -/
def Party.ring : Party := { master := 0x33, internal := false }

/-- REG_READ received: the ACK carries the value, or refuses. -/
def regReadCell (c : CellIn) (u : Fuses) (d : Dev) : Dev :=
  let a := leAt c.payload 2 4
  if d.is Reg.EMR.CFG.REMOTE_EN = false then ackCmd c 1 0 d
  else if a % 4 ≠ 0 ∨ 2 ^ 22 ≤ a then ackCmd c 2 0 d
  else
    let r := busRead u Party.ring a d
    ackCmd c (if r.2.1 = 0 then 0 else 1) r.1 r.2.2

/-- REG_WRITE received: the register is written with master ID 0x33, or the ACK refuses. -/
def regWriteCell (c : CellIn) (u : Fuses) (d : Dev) : Dev :=
  let a := leAt c.payload 2 4
  if d.is Reg.EMR.CFG.REMOTE_EN = false then ackCmd c 1 0 d
  else if a % 4 ≠ 0 ∨ 2 ^ 22 ≤ a then ackCmd c 2 0 d
  else
    let r := busWrite u Party.ring a (leAt c.payload 6 4) d
    ackCmd c (if r.1 = 0 then 0 else 1) 0 r.2

/-! ### The management port (R478) -/

/-- Command 0x01: the pointer is set.  `ok` says that the count is 4 and the packet error check holds. -/
def smbSetPtr (offset : Nat) (ok : Bool) (d : Dev) : Dev :=
  if ok = false ∨ offset % 4 ≠ 0 then d.emit (.smbus false 0)
  else (d.set Reg.SMB.PTR.OFFSET offset).emit (.smbus true 0)

/-- The pointer moves on to the next register. -/
def smbNext (d : Dev) : Dev := d.set Reg.SMB.PTR.OFFSET (d.get Reg.SMB.PTR.OFFSET + 4)

/-- Command 0x02: the register at the pointer is read. -/
def smbRead (ok : Bool) (u : Fuses) (d : Dev) : Dev :=
  if ok = false then d.emit (.smbus false 0)
  else
    let r := busRead u Party.inner (d.get Reg.SMB.PTR.OFFSET) d
    (smbNext (completed Party.inner r.2.1 r.2.2)).emit (.smbus true r.1)

/-- Command 0x03: the register at the pointer is written while WR_EN is 1. -/
def smbWrite (value : Nat) (ok : Bool) (u : Fuses) (d : Dev) : Dev :=
  if ok = false ∨ d.is Reg.SMB.CFG.WR_EN = false then d.emit (.smbus false 0)
  else
    let r := busWrite u Party.inner (d.get Reg.SMB.PTR.OFFSET) value d
    (smbNext (completed Party.inner r.1 r.2)).emit (.smbus true 0)

/-! ### Replies (R42) -/

/-- A reply arrives at the block of a page: accepted when its request is outstanding in the present epoch, or dropped as
stale, counted, with source 3. -/
def replyArrival (page epoch seq : Nat) (d : Dev) : Dev :=
  let r : Req := { page, epoch, seq }
  if epoch = d.get (Reg.HDR.EPOCH page) ∧ d.bus.reqs.contains r = true then
    { d with bus := { d.bus with reqs := d.bus.reqs.erase r } }
  else staleReply d

end Sys2Proof.Machine
end

