-- ==== Sys2Proof/Machine/Spring.lean ====
section
/-!
DEFINITION. The Spring script of bring-up step B6 (R64 to R67): verification, and one operation for each entry.
-/
namespace Sys2Proof.Machine

/-- The largest number of entries (R64). -/
def springMax : Nat := 4093

/-- The outcome of the checks of R65: 1 the script runs, 3 absent, 4 rejected. -/
def springCheck (u : Fuses) (d : Dev) (head : Bytes) : Nat :=
  let n := leAt head 8 4
  let body := memRead 0xFF d.flash 32 (16 * n)
  let slot := byteAt head 6
  let tag := memRead 0xFF d.flash (32 + 16 * n) 16
  if 3 ≤ u.state then 3
  else if leAt head 0 4 ≠ 0x47525053 ∨ byteAt head 4 ≠ 1 then 3
  else if n = 0 ∨ springMax < n then 4
  else if crc32c (head.take 16 ++ body) ≠ leAt head 16 4 then 4
  else if u.state = 0 then 1
  else if byteAt head 5 % 2 = 1 ∧ slot < 8 ∧ (u.rows.getLast?.getD 0).testBit slot = true ∧ (u.slot slot).code = 1 ∧
      cmac (natBytes (u.slot slot).key) (natBytes (head ++ body)) = natBytes tag then 1
  else 4

/-- The number of entries of the script in hand. -/
def Spring.count (x : Spring) : Nat := leAt x.script 8 4

/-- Bytes `o` to `o + n - 1` of the entry at which the script is, as a number (Table 3.9). -/
def Spring.part (x : Spring) (o n : Nat) : Nat := leAt x.script (32 + 16 * x.entry + o) n

/-- OP of the entry. -/
def Spring.op (x : Spring) : Nat := x.part 0 1

/-- Does the script stop at the entry it has reached: an OP not listed, or an OFFSET that is not dword-aligned (R66)? -/
def Spring.bad (x : Spring) : Bool :=
  let op := x.op
  !(op == 1 || op == 2 || op == 3 || op == 4 || op == 0x0F) || x.part 4 4 % 4 != 0

/-- The script has run to its end: STATE 2. -/
def springDone (d : Dev) : Dev := springEnds ((d.set Reg.SYS.SPRING_STAT.STATE 2).set Reg.SYS.SPRING_STAT.ENTRY 0)

/-- The script has reached an entry, or its end. -/
def springReach (d : Dev) : Dev :=
  let x := d.sys.spring
  if x.count ≤ x.entry then springDone d
  else if x.bad then springStop true d
  else d

/-- The entry is executed: the next one follows. -/
def springNext (d : Dev) : Dev :=
  let x := d.sys.spring
  let d := (d.disarm .springDelay).disarm .springPoll
  springReach { d.bump Reg.SYS.SPRING_STAT.EXECUTED 1 with sys := { d.sys with spring := { x with entry := x.entry + 1, waiting := 0 } } }

/-- B6 starts after B3 (R65): the script is verified, and runs or not. -/
def springStart (u : Fuses) (d : Dev) : Dev :=
  if d.get Reg.SYS.SPRING_STAT.STATE ≠ 0 ∨ d.is Reg.SYS.BRINGUP.SHALLOWS_READY = false ∨ d.sys.stopAtB3 = true then d
  else
    let head := memRead 0xFF d.flash 0 32
    let res := springCheck u d head
    if res = 1 then
      let x : Spring := { script := head ++ memRead 0xFF d.flash 32 (16 * leAt head 8 4), entry := 0, waiting := 0 }
      let d : Dev := { d with sys := { d.sys with spring := x } }
      springReach ((d.set Reg.SYS.SPRING_STAT.STATE 1).arm .springLimit (10 * Sys2Proof.Machine.sec))
    else
      let d : Dev := { d with sys := { d.sys with spring := { script := [], entry := 0, waiting := 0 } } }
      let d := springEnds (d.set Reg.SYS.SPRING_STAT.STATE res)
      if res = 4 then d.raise 0 Kind.SYS.SPRING_REJECTED else d

/-- Is the script at an entry of an operation that it has not started to wait on? -/
def Dev.springAt (d : Dev) (op : Nat) : Bool :=
  d.get Reg.SYS.SPRING_STAT.STATE == 1 && d.sys.spring.waiting == 0 && d.sys.spring.op == op

/-- Does the script wait: 1 in a POLL, 2 in a DELAY? -/
def Dev.springWaits (d : Dev) (w : Nat) : Bool := d.get Reg.SYS.SPRING_STAT.STATE == 1 && d.sys.spring.waiting == w

/-- A write of the script has been made; it goes on to the next entry unless the write itself has ended it. -/
def springWrote (x : Spring) (d : Dev) : Dev :=
  if d.get Reg.SYS.SPRING_STAT.STATE = 1 ∧ d.sys.spring = x then springNext d else d

/-- WRITE. -/
def springWrite (u : Fuses) (d : Dev) : Dev :=
  let x := d.sys.spring
  if d.springAt 1 then 
    let r := busWrite u Party.spring (x.part 4 4) (x.part 8 4) d
    springWrote x (completed Party.spring r.1 r.2)
  else d

/-- MODIFY. -/
def springModify (u : Fuses) (d : Dev) : Dev :=
  let x := d.sys.spring
  if d.springAt 2 then
    let r := busRead u Party.spring (x.part 4 4) d
    let v := andNot r.1 (x.part 12 4) ||| (x.part 8 4 &&& x.part 12 4)
    let w := busWrite u Party.spring (x.part 4 4) v (completed Party.spring r.2.1 r.2.2)
    springWrote x (completed Party.spring w.1 w.2)
  else d

/-- POLL: the wait begins. -/
def springPoll (d : Dev) : Dev :=
  let x := d.sys.spring
  if d.springAt 3 then
    { d with sys := { d.sys with spring := { x with waiting := 1 } } }.arm .springPoll (x.part 2 2 * 10 * us)
  else d

/-- The polled register is read; the script goes on when the condition holds. -/
def springPollMet (u : Fuses) (d : Dev) : Dev :=
  let x := d.sys.spring
  if d.springWaits 1 then
    let r := busRead u Party.spring (x.part 4 4) d
    let d := completed Party.spring r.2.1 r.2.2
    if r.1 &&& x.part 12 4 = x.part 8 4 then springNext d else d
  else d

/-- A POLL's time passes: the script goes on, or stops when STOP_ON_TIMEOUT is 1. -/
def springPollTimeout (d : Dev) : Dev :=
  if d.springWaits 1 then
    d.onTimer .springPoll fun d => if byteAt d.sys.spring.script 5 / 2 % 2 = 1 then springStop true d else springNext d
  else d

/-- DELAY: the wait begins, of at most 1 s. -/
def springDelay (d : Dev) : Dev :=
  let x := d.sys.spring
  if d.springAt 4 then
    { d with sys := { d.sys with spring := { x with waiting := 2 } } }.arm .springDelay (min 1000000 (x.part 8 4) * us)
  else d

/-- A DELAY ends. -/
def springDelayEnd (d : Dev) : Dev := if d.springWaits 2 then d.onTimer .springDelay springNext else d

/-- END. -/
def springEndEntry (d : Dev) : Dev :=
  if d.springAt 0x0F then springDone (d.bump Reg.SYS.SPRING_STAT.EXECUTED 1) else d

/-- The script has run 10 s in total. -/
def springTimeLimit (d : Dev) : Dev := d.onTimer .springLimit fun d => springStop false d

end Sys2Proof.Machine
end

