-- ==== Sys2Proof/Machine/Jtag.lean ====
section
/-!
DEFINITION. The JTAG port (R496): the IEEE 1149.1 TAP controller, the instructions BYPASS, IDCODE, SAMPLE/PRELOAD and EXTEST, and the
refusal of every other one by the lifecycle state.  No command of the table clocks the port (notes/assumptions/76.md).
-/
namespace Sys2Proof.Machine

/-- The controller's next state at a rising TCK, by TMS (IEEE 1149.1). -/
def Tap.next (t : Tap) (tms : Bool) : Tap :=
  match t, tms with
  | .logicReset, true => .logicReset
  | .logicReset, false => .idle
  | .idle, true => .selectDr
  | .idle, false => .idle
  | .selectDr, true => .selectIr
  | .selectDr, false => .captureDr
  | .captureDr, true => .exit1Dr
  | .captureDr, false => .shiftDr
  | .shiftDr, true => .exit1Dr
  | .shiftDr, false => .shiftDr
  | .exit1Dr, true => .updateDr
  | .exit1Dr, false => .pauseDr
  | .pauseDr, true => .exit2Dr
  | .pauseDr, false => .pauseDr
  | .exit2Dr, true => .updateDr
  | .exit2Dr, false => .shiftDr
  | .updateDr, true => .selectDr
  | .updateDr, false => .idle
  | .selectIr, true => .logicReset
  | .selectIr, false => .captureIr
  | .captureIr, true => .exit1Ir
  | .captureIr, false => .shiftIr
  | .shiftIr, true => .exit1Ir
  | .shiftIr, false => .shiftIr
  | .exit1Ir, true => .updateIr
  | .exit1Ir, false => .pauseIr
  | .pauseIr, true => .exit2Ir
  | .pauseIr, false => .pauseIr
  | .exit2Ir, true => .updateIr
  | .exit2Ir, false => .shiftIr
  | .updateIr, true => .selectDr
  | .updateIr, false => .idle

/-- IDCODE (R496). -/
def jtagIdcode : Nat := 0xB1048A63

/-- Is an instruction refused (R496)?  Every one beyond the four is, in PROVISIONED, FIELD and RETIRED. -/
def jtagRefused (u : Fuses) (i : JtagInstr) : Bool :=
  match i with
  | .bypass | .idcode | .samplePreload | .extest => false
  | .other _ => u.state == 1 || u.state == 2 || u.state == 4

/-- The instruction that acts once one has been updated into the port: a refused one leaves the BYPASS bit on TDO (R496). -/
def jtagTaken (u : Fuses) (i : JtagInstr) : JtagInstr := if jtagRefused u i then .bypass else i

/-- What the data register holds at Capture-DR: the bits in the order shifted out.  `pins` are the boundary cells' pins. -/
def jtagCapture (j : Jtag) (pins : List Bool) : List Bool :=
  match j.instr with
  | .idcode => (List.range 32).map jtagIdcode.testBit
  | .samplePreload | .extest => pins
  | .bypass | .other _ => [false]

/-- The bit on TDO. -/
def Jtag.tdo (j : Jtag) : Bool := nth false j.shift 0

/-- The levels that the boundary cells drive in EXTEST; none otherwise. -/
def Jtag.driven (j : Jtag) : Option (List Bool) := if j.instr = .extest then some j.cells else none

/-- A rising TCK with TMS and TDI, the pins at their levels, and the instruction that the bits in the instruction register spell, which
Update-IR takes. -/
def jtagClock (u : Fuses) (tms tdi : Bool) (pins : List Bool) (spelt : JtagInstr) (d : Dev) : Dev :=
  let j := d.jtag
  let j := match j.tap with
    | .captureDr => { j with shift := jtagCapture j pins }
    | .shiftDr => { j with shift := j.shift.drop 1 ++ [tdi] }
    | _ => j
  let tap := j.tap.next tms
  let j := match tap with
    | .logicReset => { j with instr := .idcode }
    | .updateIr => { j with instr := jtagTaken u spelt }
    | .updateDr => if j.instr = JtagInstr.samplePreload ∨ j.instr = JtagInstr.extest then { j with cells := j.shift } else j
    | _ => j
  { d with jtag := { j with tap } }

end Sys2Proof.Machine
end

