-- ==== Sys2Proof/Machine/State.lean ====
section
/-!
DEFINITION. The state of the block: the commands that wait, the fuses, and the device (Dev.lean); the ways a step can
stop; and the state right after reset.
-/
namespace Sys2Proof.Machine

/-- The block: the queue of commands, first in first out; the fuses, which no reset changes; and everything else. -/
structure State where
  pending : List Instr
  fuse    : Fuses
  dev     : Dev
deriving DecidableEq, Repr

/-- How the block could stop with a fault. -/
inductive Fault where
  /-- Nothing raises this: the manual describes an effect for every command, faults included, and each is a next state. -/
  | none_
deriving DecidableEq, Repr

/-- How a command could be refused a meaning. -/
inductive Refusal where
  /-- An arm of `exec` without a meaning would answer with its mnemonic; none does.  Safe: nothing is claimed of it. -/
  | notModelled (mnemonic : String)
deriving DecidableEq, Repr

/-- Unprogrammed fuses: BLANK, no key, no Spring signer, factory trims zero within the widest limits
(notes/assumptions/6.md). -/
def Fuses.blank : Fuses where
  p := false
  f := false
  r := false
  x := false
  slots := []
  rows := []
  deviceId := 0
  trims := []
  limits := []
  trimsOk := true

/-- The block right after a cold reset (R7, R63, R467). -/
def State.reset : State where
  pending := []
  fuse := Fuses.blank
  dev := Dev.fresh

end Sys2Proof.Machine
end

