-- ==== Sys2Proof/Machine/Yaska.lean ====
section
/-!
DEFINITION. The Yaska instructions that reach the address spaces (R330, R332, R334 to R336): MOVE with its bursts, and SET.
-/
namespace Sys2Proof.Machine

/-- A channel as a bus master (R328). -/
def Party.dma (n : Nat) : Party := { master := dmaMaster n, internal := false }

/-- The cause with which a refused register access ends a run (Table 14.5); 0 when it ends none: a write discarded under R36
or R37 does not stop the program (R328). -/
def regCause (code : Nat) : Nat := if code = 0x11 then 5 else if code = 0x10 then 6 else if code = 0x21 then 0x0D else 0

/-- May a space be a source (Table 14.1)? -/
def sourceSpace (sp : Nat) : Bool := sp != 4 && sp != 7
/-- May a space be a destination? -/
def destSpace (sp : Nat) : Bool := decide (sp ≤ 4)

/-- The size of an address space (Table 14.1). -/
def moveSize (sp : Nat) : Nat :=
  if sp = 0 then basinSize else if sp = 1 then 2 ^ 25 else if sp = 3 then 2 ^ 22 else if sp = 4 then 0x4000 else 2 ^ 20

/-- The address of one side of a MOVE (R334): base, offset and the strides of the open levels, in 64-bit arithmetic. -/
def Dev.moveAddr (d : Dev) (n sp off : Nat) (strides : List Int) : Int :=
  let a : Int := strides.foldl (fun x y => x + y) ((off : Int) + (if sp = 2 then ((d.get (Reg.DMA.HOST_BASE.ADDR n) : Nat) : Int) else 0))
  if sp = 2 then ofSigned 64 a else toSigned 64 (ofSigned 64 a)

/-- Is a range outside its space (R334)?  Host addresses wrap, and the zero space has none. -/
def outside (sp : Nat) (a : Int) (len : Nat) : Bool :=
  if sp = 2 ∨ sp = 6 then false else decide (a < 0) || decide ((moveSize sp : Int) < a + len)

/-- Do an address and length break the alignment of the register space or of the compressor queues (R330, R334)? -/
def misaligned (sp : Nat) (a : Int) (len : Nat) : Bool :=
  if sp = 3 then a % 4 != 0 || len % 4 != 0 else if sp = 4 then a % 0x1000 != 0 || len % 64 != 0 else false

/-- Is the domain behind an address turning off? -/
def Dev.goingOff (d : Dev) (sp : Nat) (a : Int) : Bool :=
  match spaceDomain sp a.toNat with
  | some dom => d.pwr.goingOff.contains dom
  | none => false

/-- MOVE: the addresses are computed and checked, and the bursts begin (R334). -/
def dmaMove (n : Nat) (d : Dev) : Dev :=
  if d.dmaOp n ≠ 0x10 then d
  else
    let w := d.dmaWord n
    let ssp := bits w 119 117
    let dsp := bits w 116 114
    let len := bits w 23 0
    let ls := (d.dma n).loops
    let s := d.moveAddr n ssp (bits w 111 68) (ls.map fun l => (l.i : Int) * l.ss)
    let t := d.moveAddr n dsp (bits w 67 24) (ls.map fun l => (l.i : Int) * l.ds)
    let from_ := some (1, ssp, ofSigned 64 s)
    let to_ := some (2, dsp, ofSigned 64 t)
    if (sourceSpace ssp && destSpace dsp) = false then dmaFail n 2 none d
    else if outside ssp s len then dmaFail n 5 from_ d
    else if outside dsp t len then dmaFail n 5 to_ d
    else if misaligned ssp s len then dmaFail n 4 from_ d
    else if misaligned dsp t len then dmaFail n 4 to_ d
    else if len = 0 then dmaNext n d
    else if d.goingOff ssp s then dmaFail n 6 from_ d
    else if d.goingOff dsp t then dmaFail n 6 to_ d
    else
      let m : DmaMove := { srcSp := ssp, dstSp := dsp, src := s.toNat, dst := t.toNat, len, at_ := 0 }
      (d.setDma n { d.dma n with move := some m, edge := false }).request (pg .DMA n)

/-- The bytes the next burst of a MOVE writes: to the next 64-byte boundary of the destination, one dword where a side is the
register space, one entry of a compressor queue (R335). -/
def DmaMove.unit (m : DmaMove) : Nat :=
  if m.srcSp = 3 ∨ m.dstSp = 3 then 4
  else if m.dstSp = 4 then 64
  else min (m.len - m.at_) (64 - (m.dst + m.at_) % 64)

/-- Does a block still serve a MOVE: in RUN, or draining for a power-down that waits for it (R41)? -/
def Dev.servesMove (d : Dev) (b : Blk) (i : Nat) : Bool :=
  d.inRun (pg b i) || (d.blk (pg b i) == 3 && (match b.domain i with | some dom => d.pwr.goingOff.contains dom | none => false))

/-- An access carried out by a block that drains, as one that runs. -/
def asRunning (page : Nat) (f : Dev → Dev) (d : Dev) : Dev :=
  if d.blk page = 3 then
    let d := f (d.setBlk page 2)
    if d.blk page = 2 then d.setBlk page 3 else d
  else f d

/-- One burst's source: the cause that ends the run (0 none), the bytes, and the device after the read. -/
def burstRead (u : Fuses) (n : Nat) (m : DmaMove) (len err : Nat) (host : Bytes) (d : Dev) : Nat × Bytes × Dev :=
  let a := m.src + m.at_
  match m.srcSp with
  | 0 =>
    if (d.servesMove .BAS 0 && d.is Reg.SYS.BRINGUP.BASIN_READY) = false then (6, [], d)
    else
      let d := asRunning (pg .BAS 0) (fun d => d.basinLoad 2 (dmaMaster n) a len err) d
      (if d.badSectors a len = [] then 0 else 7, d.basinRead a len, d)
  | 1 =>
    if d.servesMove .SHL 0 = false then (6, [], d)
    else
      let ws := (List.range ((a + len - 1) / 8 - a / 8 + 1)).map (a / 8 + ·)
      let d := ws.foldl (fun d w => shallowsStrike (dmaMaster n) w (if w = a / 8 then err else 0) d) d
      (if ws.any (d.mem.shlUe.contains ·) then 7 else 0, memRead 0 d.shallows a len, d)
  | 2 => (if err = 0 then 0 else 8, padTo len host, d)
  | 3 =>
    let r := busRead u (Party.dma n) a d
    (regCause r.2.1, leBytes 4 r.1, r.2.2)
  | 5 => if d.refuses (pg .SED 0) then (6, [], d) else (0, memRead 0 d.sed.mem a len, d)
  | _ => (0, List.replicate len 0, d)

/-- Bytes copied in ascending order where the destination lies `k` bytes above the source (R336): byte `i` past the distance
repeats byte `i - k`. -/
def replicated (k : Nat) (bs : Bytes) : Bytes :=
  if k = 0 ∨ bs.length ≤ k then bs else (List.range bs.length).map fun i => (bs.drop (i % k)).headD 0

/-- One burst's data as written: a MOVE that overlaps itself within the burst copies byte by byte. -/
def DmaMove.data (m : DmaMove) (bs : Bytes) : Bytes :=
  if m.srcSp = m.dstSp ∧ m.srcSp ≤ 2 ∧ m.src < m.dst then replicated (m.dst - m.src) bs else bs

/-- One burst's destination: the cause that ends the run (0 none) and the device after the write. -/
def burstWrite (u : Fuses) (n : Nat) (m : DmaMove) (bs : Bytes) (d : Dev) : Nat × Dev :=
  let a := m.dst + m.at_
  match m.dstSp with
  | 0 =>
    if (d.servesMove .BAS 0 && d.is Reg.SYS.BRINGUP.BASIN_READY) = false then (6, d)
    else (0, d.basinWrite a bs 2 (dmaMaster n))
  | 1 =>
    if d.servesMove .SHL 0 = false then (6, d)
    else if d.shallowsOpen = false then (6, d.raise 0 Kind.SHL.SHL_LOCKED { access := 2, master := dmaMaster n, addr := a })
    else (0, d.shallowsWrite a bs)
  | 2 => (0, d.emit (.hostWrite (a % 2 ^ 64) bs))
  | 3 =>
    let r := busWrite u (Party.dma n) a (leVal bs) d
    (regCause r.1, r.2)
  | _ =>
    let k := m.dst / 0x1000
    if d.servesMove .CMP k = true ∨ d.cmpTakes k = true then (0, cmpAppend k bs d) else (6, d)

/-- Does a burst to a compressor queue wait for room (R330)? -/
def Dev.burstWaits (d : Dev) (m : DmaMove) : Bool := m.dstSp == 4 && decide (64 ≤ (d.cmp (m.dst / 0x1000)).queue.length)

/-- A burst has ended at its target: BYTES, the delay, and the end of the MOVE or of the burst at a stop (R319, R341); a channel
whose domain turns off goes on to its next instruction boundary (R41). -/
def burstEnds (n len late : Nat) (m : DmaMove) (d : Dev) : Dev :=
  let d := (d.answer (pg .DMA n)).bump (Reg.DMA.BYTES.COUNT n) len
  let d := if late = 0 then d else (delayed (dmaMaster n) late d).put (Reg.DMA.FLAGS.DELAYED n) true
  if (d.dma n).move ≠ some m then d
  else if m.len ≤ m.at_ + len then dmaNext n d
  else
    let stops := match aget (pg .DMA n) d.stopping with | none | some .off => false | some _ => true
    let d := d.setDma n { d.dma n with move := some { m with at_ := m.at_ + len }, edge := stops }
    if stops then d else d.request (pg .DMA n)

/-- A burst of a channel's MOVE completes at its target, or fails and ends the run (R335, R342).  `host` is what host memory
gives the burst's read, `err` what the access meets (Basin and Shallows: 1 a corrected, 2 an uncorrectable error at the
first sector or word read; host memory: not 0 a failed access), `late` its delay. -/
def burstDone (n err late : Nat) (host : Bytes) (u : Fuses) (d : Dev) : Dev :=
  match (d.dma n).move with
  | none => d
  | some m =>
    if (d.dma n).edge = true ∨ (d.blk (pg .DMA n) ≠ 2 ∧ d.blk (pg .DMA n) ≠ 3) ∨ d.burstWaits m = true then d
    else
      let len := m.unit
      let r := burstRead u n m len err host d
      if r.1 ≠ 0 then dmaFail n r.1 (some (1, m.srcSp, (m.src + m.at_) % 2 ^ 64)) r.2.2
      else
        let w := burstWrite u n m (m.data r.2.1) r.2.2
        if w.1 ≠ 0 then dmaFail n w.1 (some (2, m.dstSp, (m.dst + m.at_) % 2 ^ 64)) w.2
        else burstEnds n len late m w.2

/-- A register access of SET has been made: the program goes on unless the access was refused (R328), or the write has ended
the run itself. -/
def setEnds (n code a w : Nat) (d : Dev) : Dev :=
  if (d.dma n).cur ≠ some w then d
  else if regCause code ≠ 0 then dmaFail n (regCause code) (some (2, 3, a)) d
  else dmaNext n d

/-- SET (R332). -/
def dmaSet (n : Nat) (u : Fuses) (d : Dev) : Dev :=
  if d.dmaOp n ≠ 0x40 then d
  else
    let w := d.dmaWord n
    let a := bits w 117 96
    let mask := bits w 63 32
    let v := bits w 31 0
    if bits w 119 118 = 1 then dmaNext n (d.set (Reg.DMA.HOST_BASE.ADDR n) (mask * 2 ^ 32 + v))
    else if a % 4 ≠ 0 then dmaFail n 4 (some (2, 3, a)) d
    else if mask = 0 then dmaNext n d
    else if mask = 0xFFFFFFFF then
      let r := busWrite u (Party.dma n) a v d
      setEnds n r.1 a w r.2
    else
      let r := busRead u (Party.dma n) a d
      if regCause r.2.1 ≠ 0 then setEnds n r.2.1 a w r.2.2
      else
        let x := busWrite u (Party.dma n) a (andNot r.1 mask ||| (v &&& mask)) r.2.2
        setEnds n x.1 a w x.2

end Sys2Proof.Machine
end

