-- ==== Sys2Proof/Machine/Command.lean ====
section
/-!
DEFINITION. What the meanings of the commands share: acting on the device, and a host write of one register.
-/
namespace Sys2Proof.Machine

/-- A command acts on the device; while the device is held in reset it has no effect (R466, R487). -/
def State.on (s : State) (f : Fuses → Dev → Dev) : Host.Outcome State Fault Refusal :=
  .next { s with dev := if s.dev.sys.inReset then s.dev else f s.fuse s.dev }

/-- A reset of the device, which acts at any time. -/
def State.always (s : State) (f : Fuses → Dev → Dev) : Host.Outcome State Fault Refusal :=
  .next { s with dev := f s.fuse s.dev }

/-- A command that programs a fuse as well. -/
def State.onFuse (s : State) (f : Fuses → Dev → Fuses × Dev) : Host.Outcome State Fault Refusal :=
  let r := if s.dev.sys.inReset then (s.fuse, s.dev) else f s.fuse s.dev
  .next { s with fuse := r.1, dev := r.2 }

/-- Nothing waits: one step of the 250 ps clock passes (notes/assumptions/7.md). -/
def State.idle (s : State) : State :=
  { s with dev := if s.dev.sys.inReset then s.dev else s.dev.advance 1 }

/-- The host writes 32 bits to the register at a BAR0 offset. -/
def hostWrite (u : Fuses) (addr value : Nat) (d : Dev) : Dev := (busWrite u Party.host addr value d).2

/-- What the writable fields of a register hold. -/
def Dev.held (u : Fuses) (d : Dev) (addr : Nat) : Nat :=
  match Blk.ofPage (addr / 4096) with
  | none => 0
  | some (b, n) =>
    let off := addr % 4096 / 4 * 4
    shownSum (d.value u n b) ((b.fieldsAt n off).filter fun f => f.acc == .rw || f.acc == .rwx) off

/-- The host writes the register at a BAR0 offset with the bits of `mask` taken from `value` and the others as they are. -/
def hostPatch (u : Fuses) (addr mask value : Nat) (d : Dev) : Dev :=
  hostWrite u addr (andNot (d.held u addr) mask ||| value) d

end Sys2Proof.Machine
end

