-- ==== Sys2Proof/Machine/ExecAlarms.lean ====
section
/-!
DEFINITION. What the commands do: faults, Sediment and the power-fail dump (chapter 17).  Each meaning calls the operation that the block's own file defines.
-/
namespace Sys2Proof.Machine

/-- FAULT_MESSAGE (R393). The collector takes a fault message, stamps it, escalates it, writes a Sediment record,
updates a slot and starts the reactions of its severity. -/
def execFaultMessage (s : State) : Host.Outcome State Fault Refusal := s.on fun _ d => faultMessage d

/-- ACK_SLOT (R406). A write of FLT.ACK.GO frees the named slot when it may be freed. -/
def execAckSlot (slot : Nat) (s : State) : Host.Outcome State Fault Refusal := s.on fun u d => hostWrite u 0x5044 (0x100 + slot) d

/-- ACK_ALL (R406). A write of FLT.ACK.ALL frees every freeable slot and the overflow severity. -/
def execAckAll (s : State) : Host.Outcome State Fault Refusal := s.on fun u d => hostPatch u 0x5044 0x80000000 0x80000000 d

/-- ACK_MEMO (R408). A write of FLT.ACK.MEMO acknowledges a held LOCK memo. -/
def execAckMemo (s : State) : Host.Outcome State Fault Refusal := s.on fun u d => hostPatch u 0x5044 0x40000000 0x40000000 d

/-- QUIET_EXIT (R407). QUIET.MS passes with no message, inputs high and recoveries left, and FLT leaves SAFE. -/
def execQuietExit (s : State) : Host.Outcome State Fault Refusal := s.on fun _ d => quietExit d

/-- SAFE_IN (R404). SAFE_IN_N is held low for 8 samples and raises SAFE_IN at SAFE. -/
def execSafeIn (s : State) : Host.Outcome State Fault Refusal := s.on fun _ d => safeIn d

/-- RIPPLE_TOGGLE (R405). Every HALF_US µs the Ripple pin toggles unless a cause holds it. -/
def execRippleToggle (s : State) : Host.Outcome State Fault Refusal := s.on fun _ d => rippleToggle d

/-- KICK (R405). A write of FLT.KICK restarts the Ripple kick timer. -/
def execKick (s : State) : Host.Outcome State Fault Refusal := s.on fun u d => hostWrite u 0x5088 1 d

/-- KICK_MISSED (R405). No KICK has come for KICK_MS ms and Ripple is held. -/
def execKickMissed (s : State) : Host.Outcome State Fault Refusal := s.on fun _ d => kickMissed d

/-- FLT_INTERNAL (R405). The collector's own parity or sequence check fails and Ripple is held. -/
def execFltInternal (s : State) : Host.Outcome State Fault Refusal := s.on fun _ d => fltInternal d

/-- FAULT_RESET (R409). A write of 0xF4E7 to FLT.FRESET resets every other block, wipes the memories and restarts
bring-up at B3. -/
def execFaultReset (key : Nat) (s : State) : Host.Outcome State Fault Refusal := s.on fun u d => hostWrite u 0x508C key d

/-- INJECT (R394). A write of FLT.INJECT.GO sends a test fault message flagged INJECTED. -/
def execInject (source kind sev : Nat) (s : State) : Host.Outcome State Fault Refusal :=
  s.on fun u d => hostWrite u 0x5400 (0x80000000 + kind * 0x10000 + source * 0x100 + sev) d

/-- POL_QUERY (R394). A write of FLT.POL_QUERY selects a pair and returns its severity and ceiling in force. -/
def execPolQuery (source kind : Nat) (s : State) : Host.Outcome State Fault Refusal :=
  s.on fun u d => hostWrite u 0x509C (source * 0x1000000 + kind * 0x10000) d

/-- FAULT_POLICY_COMMIT (R396). The critical command FAULT_POLICY_COMMIT starts FLT's copy of the fault policy table.
-/
def execFaultPolicyCommit (slot : Nat) (args : List Nat) (cnt tag : Nat) (s : State) : Host.Outcome State Fault Refusal :=
  s.on fun u d => critical 0x05 slot args cnt tag u d

/-- POLICY_COPY_DONE (R396). FLT's copy of the fault policy completes and is checked, replacing the policy or raising
POLICY_BAD. -/
def execPolicyCopyDone (poisoned : Bool) (s : State) : Host.Outcome State Fault Refusal :=
  s.on fun _ d => policyCopyDone poisoned d

/-- LOCK_CLEAR_POLICY (R408). The critical command LOCK_CLEAR_POLICY sets FLT.LOCK_POL. -/
def execLockClearPolicy (slot : Nat) (args : List Nat) (cnt tag : Nat) (s : State) : Host.Outcome State Fault Refusal :=
  s.on fun u d => critical 0x0A slot args cnt tag u d

/-- SEDIMENT_RECORD (R414). A record enters the Sediment FIFO and is stored, or dropped when the FIFO is full or
Sediment is frozen. -/
def execSedimentRecord (s : State) : Host.Outcome State Fault Refusal := s.on fun _ d => sedimentRecord d

/-- FREEZE_COUNT_END (R415). POST further records after a trigger have been written and Sediment freezes. -/
def execFreezeCountEnd (s : State) : Host.Outcome State Fault Refusal := s.on fun _ d => freezeCountEnd d

/-- FREEZE (R415). A write of SED.CTRL.FREEZE freezes Sediment at once. -/
def execFreeze (s : State) : Host.Outcome State Fault Refusal := s.on fun u d => hostWrite u 0x6054 1 d

/-- RELEASE (R415). A write of SED.CTRL.RELEASE clears FROZEN and PROTECT and ends a POST countdown. -/
def execRelease (s : State) : Host.Outcome State Fault Refusal := s.on fun u d => hostWrite u 0x6054 2 d

/-- DUMP_CLEAR (R418). A write of SED.CTRL.DUMP_CLEAR starts erasing a HELD dump region. -/
def execDumpClear (s : State) : Host.Outcome State Fault Refusal := s.on fun u d => hostWrite u 0x6054 4 d

/-- DUMP_ERASE_DONE (R418). An erase of the dump region completes and the region becomes READY. -/
def execDumpEraseDone (s : State) : Host.Outcome State Fault Refusal := s.on fun _ d => dumpErased d

/-- PFAIL (R417). PFAIL_N held low for 8 samples raises PFAIL at SAFE and takes the dump set. -/
def execPfail (s : State) : Host.Outcome State Fault Refusal := s.on fun _ d => pfailFalls d

/-- DUMP_START (R417). The power-fail or LOCK memo dump starts by killing CMP_3's job and compressing the dump set
into Shallows slice 63. -/
def execDumpStart (s : State) : Host.Outcome State Fault Refusal := s.on fun _ d => dumpStart d

/-- DUMP_PAGE (R417). One page of the dump header, blocks or end record finishes programming to SPI flash and the next
is started. -/
def execDumpPage (ok : Bool) (s : State) : Host.Outcome State Fault Refusal := s.on fun _ d => dumpPage ok d

/-- DUMP_END (R419). The dump ends, DUMP_STAT is written and source 26 is raised. -/
def execDumpEnd (s : State) : Host.Outcome State Fault Refusal := s.on fun _ d => dumpEnds d

/-- PFAIL_SHED (R470). Once the SAFE reaction has reached STANDBY, PWR turns off the domains set in PFAIL_SHED. -/
def execPfailShed (s : State) : Host.Outcome State Fault Refusal := s.on fun _ d => pfailShed d

end Sys2Proof.Machine
end

