-- ==== Sys2Proof/Machine/ExecDots.lean ====
section
/-!
DEFINITION. What the commands do: the dot pipeline: cycles, tiles, masks (chapter 6).  Each meaning calls the operation that the block's own file defines.
-/
namespace Sys2Proof.Machine

/-- CYCLE_BUILD (R126). An engine slice starts building the next cycle of its port once the previous LAT has gone and
the job may be active, running mask, concealment, Thermocline and frame assembly. -/
def execCycleBuild (n : Nat) (s : State) : Host.Outcome State Fault Refusal := s.on fun _ d => cycleBuild n d

/-- TILE_FETCH (R130). A decompression lane starts fetching the next prefetch entry's tile from Basin, or writes a
BLANK tile as zeros. -/
def execTileFetch (n : Nat) (poisoned : Bool) (s : State) : Host.Outcome State Fault Refusal :=
  s.on fun _ d => tileFetchStep n poisoned d

/-- TILE_DECODE_DONE (R131). A lane finishes decoding a tile into its slot and sets the valid bits of the lines
written. -/
def execTileDecodeDone (n : Nat) (bad : Bool) (s : State) : Host.Outcome State Fault Refusal :=
  s.on fun _ d => tileDecodeStep n bad d

/-- FILL_LATE (R150). A lane's slack for a tile row falls below zero, and FILL_LATE is raised once for that row. -/
def execFillLate (n : Nat) (s : State) : Host.Outcome State Fault Refusal := s.on fun _ d => fillLate n d

/-- MASK_LOAD (R137). When a job becomes due for assembly, each slice of the plane starts loading its port's mask from
the mask set. -/
def execMaskLoad (n : Nat) (s : State) : Host.Outcome State Fault Refusal := s.on fun _ d => maskLoad n d

/-- MASK_LOAD_DONE (R137). A mask load completes, and a mask that fails its checks is replaced by the default mask. -/
def execMaskLoadDone (n : Nat) (poisoned : Bool) (s : State) : Host.Outcome State Fault Refusal :=
  s.on fun _ d => maskLoadStep n poisoned d

/-- NOZ_OVR (R138). A write of MSK.NOZ_OVR.GO sets a nozzle OFF or releases a host OFF in the concealment map. -/
def execNozOvr (code n noz : Nat) (s : State) : Host.Outcome State Fault Refusal :=
  s.on fun u d => hostWrite u 0xB4400 (0x80000000 + code * 2 ^ 22 + n * 65536 + noz) d

end Sys2Proof.Machine
end

