-- ==== Sys2Proof/Machine/ExecEmriub.lean ====
section
/-!
DEFINITION. What the commands do: the Emriub ring (chapter 12).  Each meaning calls the operation that the block's own file defines.
-/
namespace Sys2Proof.Machine

/-- BLOCK_LOCK (R282). An Emriub link receives 64 consecutive valid sync headers and starts the HELLO exchange. -/
def execBlockLock (l : Nat) (s : State) : Host.Outcome State Fault Refusal := s.on fun _ d => blockLock l d

/-- SYNC_HEADER_LOSS (R282). An Emriub link sees 16 invalid sync headers in 64 blocks and leaves UP. -/
def execSyncHeaderLoss (l : Nat) (s : State) : Host.Outcome State Fault Refusal := s.on fun _ d => syncLoss l d

/-- CONTROL_BLOCK (R287). A control block is received, returning credits and peer state, or dropped on a bad CRC-8. -/
def execControlBlock (l : Nat) (bytes : Bytes) (crc : Nat) (s : State) : Host.Outcome State Fault Refusal :=
  s.on fun _ d => controlBlock l bytes crc d

/-- CONTROL_BLOCK_TIMEOUT (R282). No valid control block has arrived for 1 µs and the link leaves UP. -/
def execControlBlockTimeout (l : Nat) (s : State) : Host.Outcome State Fault Refusal := s.on fun _ d => controlTimeout l d

/-- LINK_UP_TIMEOUT (R282). An Emriub link fails to come up within 20 ms and enters FAILED. -/
def execLinkUpTimeout (l : Nat) (s : State) : Host.Outcome State Fault Refusal := s.on fun _ d => linkUpTimeout l d

/-- LINK_RETRY (R282). A FAILED Emriub link retries every 100 ms. -/
def execLinkRetry (l : Nat) (s : State) : Host.Outcome State Fault Refusal := s.on fun _ d => linkRetry l d

/-- IDLE (R281). An idle cell is received and consumed. -/
def execIdle (c : CellIn) (dt : Nat) (s : State) : Host.Outcome State Fault Refusal :=
  s.on fun _ d => receiveLocal c (fun d => d) (d.advance dt)

/-- HELLO (R282). A HELLO cell from the neighbour completes step 2 of link-up, or reveals an address conflict. -/
def execHello (c : CellIn) (dt : Nat) (s : State) : Host.Outcome State Fault Refusal :=
  s.on fun _ d => receiveLocal c (hello c.link (leAt c.payload 0 1) (leAt c.payload 1 2)) (d.advance dt)

/-- DELAY_EXCHANGE_TIMER (R288). A link sends its next DLY_REQ, every 1 µs until 16 exchanges and every 1 ms after. -/
def execDelayExchangeTimer (l : Nat) (s : State) : Host.Outcome State Fault Refusal := s.on fun _ d => delayTimer l d

/-- DLY_REQ (R288). A DLY_REQ cell is received and answered with DLY_RESP. -/
def execDlyReq (c : CellIn) (dt : Nat) (s : State) : Host.Outcome State Fault Refusal :=
  s.on fun _ d => receiveLocal c (dlyReq c.link (leAt c.payload 0 8)) (d.advance dt)

/-- DLY_RESP (R288). A DLY_RESP cell completes a delay exchange and updates the link delay D. -/
def execDlyResp (c : CellIn) (dt : Nat) (s : State) : Host.Outcome State Fault Refusal :=
  s.on fun _ d => receiveLocal c (dlyResp c.link (leAt c.payload 0 8) (leAt c.payload 16 4)) (d.advance dt)

/-- POSITION_CELL_TIMER (R291). Every 1 µs the manager sends a POSITION cell on both links. -/
def execPositionCellTimer (s : State) : Host.Outcome State Fault Refusal := s.on fun _ d => positionTimer d

/-- POSITION (R291). A POSITION cell is received, forwarded and, as the first copy from the best manager, used by TRG
as an edge. -/
def execPosition (c : CellIn) (dt : Nat) (s : State) : Host.Outcome State Fault Refusal :=
  s.on fun _ d => receive 0x10 c (positionCell c) (d.advance dt)

/-- TIME_CELL_TIMER (R290). Every 100 µs the manager sends a TIME cell on both links. -/
def execTimeCellTimer (s : State) : Host.Outcome State Fault Refusal := s.on fun _ d => timeTimer d

/-- TIME (R290). A TIME cell is received and the worker steps or slews its TS to manager time. -/
def execTime (c : CellIn) (dt : Nat) (s : State) : Host.Outcome State Fault Refusal :=
  s.on fun _ d => receive 0x11 c (timeCell c) (d.advance dt)

/-- HEARTBEAT_TIMER (R297). Every 100 µs the manager names the standby and sends a HEARTBEAT. -/
def execHeartbeatTimer (s : State) : Host.Outcome State Fault Refusal := s.on fun _ d => heartbeatTimer d

/-- HEARTBEAT (R294). A HEARTBEAT cell is received, updating census, ring state and the manager followed. -/
def execHeartbeat (c : CellIn) (dt : Nat) (s : State) : Host.Outcome State Fault Refusal :=
  s.on fun _ d => receive 0x12 c (heartbeatCell c) (d.advance dt)

/-- SHEET_EDGE_CELL (R292). A SHEET_EDGE cell is received and the worker pushes its E into its edge FIFOs. -/
def execSheetEdgeCell (c : CellIn) (dt : Nat) (s : State) : Host.Outcome State Fault Refusal :=
  s.on fun _ d => receive 0x13 c (sheetEdgeCell c) (d.advance dt)

/-- MANAGER_START (R296). 1 ms after its first link reaches UP, a configured manager becomes manager with epoch 1. -/
def execManagerStart (s : State) : Host.Outcome State Fault Refusal := s.on fun _ d => managerStart d

/-- HEARTBEAT_LOSS (R296). A candidate has heard no heartbeat for HB_LOSS µs and sends a CLAIM. -/
def execHeartbeatLoss (s : State) : Host.Outcome State Fault Refusal := s.on fun _ d => hbLoss d

/-- CLAIM (R296). A CLAIM cell is received and a candidate with a worse claim withdraws. -/
def execClaim (c : CellIn) (dt : Nat) (s : State) : Host.Outcome State Fault Refusal :=
  s.on fun _ d => receive 0x20 c (claimCell c) (d.advance dt)

/-- CLAIM_WAIT_END (R296). CLAIM_WAIT ends with no better claim and the candidate becomes manager. -/
def execClaimWaitEnd (s : State) : Host.Outcome State Fault Refusal := s.on fun _ d => claimWaitEnd d

/-- TAKEOVER (R298). No POSITION cell of the manager has arrived for TAKEOVER µs and the standby takes over. -/
def execTakeover (s : State) : Host.Outcome State Fault Refusal := s.on fun _ d => takeover d

/-- HANDOVER (R298). A write of EMR.CMD.HANDOVER hands the manager role to a ready standby, or is refused. -/
def execHandover (s : State) : Host.Outcome State Fault Refusal := s.on fun u d => hostWrite u 0xA004C 1 d

/-- JOIN (R299). A JOIN cell adds a member to the manager's census. -/
def execJoin (c : CellIn) (dt : Nat) (s : State) : Host.Outcome State Fault Refusal :=
  s.on fun _ d => receive 0x21 c (joinCell c) (d.advance dt)

/-- LEAVE (R299). A LEAVE cell removes a member from the census at once. -/
def execLeave (c : CellIn) (dt : Nat) (s : State) : Host.Outcome State Fault Refusal :=
  s.on fun _ d => receive 0x22 c (leaveCell c) (d.advance dt)

/-- STATUS_TIMER (R299). Every 1 ms each member sends STATUS. -/
def execStatusTimer (s : State) : Host.Outcome State Fault Refusal := s.on fun _ d => statusTimer d

/-- STATUS_CELL (R299). A STATUS cell is received, giving the member's readiness, links and hop counts. -/
def execStatusCell (c : CellIn) (dt : Nat) (s : State) : Host.Outcome State Fault Refusal :=
  s.on fun _ d => receive 0x23 c (statusCell c) (d.advance dt)

/-- MEMBER_TIMEOUT (R299). A member's STATUS has been missing for 3 ms and it is removed from the census. -/
def execMemberTimeout (a : Nat) (s : State) : Host.Outcome State Fault Refusal := s.on fun _ d => memberTimeout a d

/-- CENSUS_WAIT_END (R300). With EXPECT 0, the census map has stayed unchanged for CENSUS_WAIT ms and the census is
complete. -/
def execCensusWaitEnd (s : State) : Host.Outcome State Fault Refusal := s.on fun _ d => censusWaitEnd d

/-- SLOWDOWN (R303). A SLOWDOWN command is received by the manager, recorded in SLOW_REQ and acknowledged. -/
def execSlowdown (c : CellIn) (dt : Nat) (s : State) : Host.Outcome State Fault Refusal :=
  s.on fun _ d => receive 0x24 c (slowdownCell c) (d.advance dt)

/-- REG_READ (R304). A REG_READ command is received and answered with the register value, or refused. -/
def execRegRead (c : CellIn) (dt : Nat) (s : State) : Host.Outcome State Fault Refusal :=
  s.on fun u d => receive 0x24 c (regReadCell c u) (d.advance dt)

/-- REG_WRITE (R304). A REG_WRITE command is received and written with master ID 0x33, or refused. -/
def execRegWrite (c : CellIn) (dt : Nat) (s : State) : Host.Outcome State Fault Refusal :=
  s.on fun u d => receive 0x24 c (regWriteCell c u) (d.advance dt)

/-- BULK_END (R307). A BULK_END command is received and its length and CRC are checked against the data written. -/
def execBulkEnd (c : CellIn) (dt : Nat) (s : State) : Host.Outcome State Fault Refusal :=
  s.on fun _ d => receive 0x24 c (bulkEnd c) (d.advance dt)

/-- ACK (R304). An ACK cell ends an outstanding command. -/
def execAck (c : CellIn) (dt : Nat) (s : State) : Host.Outcome State Fault Refusal :=
  s.on fun _ d => receive 0x25 c (ackCell c) (d.advance dt)

/-- COMMAND_ACK_TIMEOUT (R304). No ACK has arrived within 50 µs, and the command is resent by the other path or ends
with CMD_TIMEOUT. -/
def execCommandAckTimeout (s : State) : Host.Outcome State Fault Refusal := s.on fun _ d => cmdTimeout d

/-- RCMD_GO (R304). A write of EMR.RCMD.GO sends REG_READ or REG_WRITE to a ring member. -/
def execRcmdGo (write : Bool) (dst : Nat) (s : State) : Host.Outcome State Fault Refusal :=
  s.on fun u d => hostWrite u 0xA0080 (0x80000000 + b2n write * 0x40000000 + dst) d

/-- BULK_CMD_GO (R307). A write of EMR.BULK_CMD.GO sends BULK cells from Basin and then BULK_END. -/
def execBulkCmdGo (dst : Nat) (s : State) : Host.Outcome State Fault Refusal :=
  s.on fun u d => hostWrite u 0xA00C0 (0x80000000 + dst) d

/-- BULK (R307). A BULK cell is received and written into the receive window, or dropped. -/
def execBulk (c : CellIn) (dt : Nat) (s : State) : Host.Outcome State Fault Refusal :=
  s.on fun _ d => receive 0x40 c (bulkCell c) (d.advance dt)

/-- FAULT_CELL (R305). A FAULT cell is received and raises REMOTE_FAULT at the capped severity. -/
def execFaultCell (c : CellIn) (dt : Nat) (s : State) : Host.Outcome State Fault Refusal :=
  s.on fun _ d => receive 0x30 c (faultCell c) (d.advance dt)

/-- EVENT_CELL (R306). An EVENT cell is received and raises source 156 + k. -/
def execEventCell (c : CellIn) (dt : Nat) (s : State) : Host.Outcome State Fault Refusal :=
  s.on fun _ d => receive 0x31 c (eventCell c) (d.advance dt)

end Sys2Proof.Machine
end

