-- ==== Sys2Proof/Machine/ExecEngines.lean ====
section
/-!
DEFINITION. What the commands do: the voted engines (chapter 10).  Each meaning calls the operation that the block's own file defines.
-/
namespace Sys2Proof.Machine

/-- SEGMENT_VOTE (R237). Both engines' CRCs of a frame segment are available and ENG compares them before the
serialiser ships it. -/
def execSegmentVote (n : Nat) (errA errB : Bytes) (s : State) : Host.Outcome State Fault Refusal :=
  s.on fun _ d => segmentVote n errA errB d

/-- DIGEST_VOTE (R239). After a cycle's last segment, ENG compares the two engines' cycle digests and completes the
vote. -/
def execDigestVote (n : Nat) (errA errB : Bytes) (s : State) : Host.Outcome State Fault Refusal :=
  s.on fun _ d => digestVote n errA errB d

/-- ENGINE_CHECK (R242). A checker of an engine slice flags, sending the standby to FAILED or SUSPECT or making the
active engine lose. -/
def execEngineCheck (n flagsA flagsB : Nat) (s : State) : Host.Outcome State Fault Refusal :=
  s.on fun _ d => engineCheck n flagsA flagsB d

/-- ENGINE_WATCHDOG (R242). An engine's segment comes later than LAG_NS after the other engine's, and the watchdog
flags the slower engine. -/
def execEngineWatchdog (n e : Nat) (s : State) : Host.Outcome State Fault Refusal :=
  s.on fun _ d => engineCheck n (if e = 0 then 16 else 0) (if e = 0 then 0 else 16) d

/-- SERIALISER_SWITCH (R243). At a port's next segment boundary after a failover, its serialiser takes the new
engine's segments. -/
def execSerialiserSwitch (n : Nat) (s : State) : Host.Outcome State Fault Refusal := s.on fun _ d => serialiserSwitch n d

/-- FAILOVER_OVERLAP_END (R245). One line period plus 2 µs after the switch, the old engine stops acting and enters
FAILED or SHADOW. -/
def execFailoverOverlapEnd (s : State) : Host.Outcome State Fault Refusal := s.on fun _ d => overlapEnd d

/-- ENG_SWITCH (R243). A write of ENG.CMD.SWITCH swaps active and standby engines, or is refused when the standby is
not in SHADOW. -/
def execEngSwitch (s : State) : Host.Outcome State Fault Refusal := s.on fun u d => hostWrite u 0xB5044 1 d

/-- ENG_RESYNC (R247). A write of ENG.CMD.RESYNC starts a resynchronisation of a standby that is OFF or SUSPECT. -/
def execEngResync (s : State) : Host.Outcome State Fault Refusal := s.on fun u d => hostWrite u 0xB5044 2 d

/-- ENG_REPAIR (R251). A write of ENG.CMD.REPAIR soft-resets a FAILED engine and starts one BIST window. -/
def execEngRepair (s : State) : Host.Outcome State Fault Refusal := s.on fun u d => hostWrite u 0xB5044 4 d

/-- RESYNC_START (R253). Bring-up step B12 starts a resynchronisation of engine B once HEALTH_KNOWN is set with tables
loaded and ENABLE at 1. -/
def execResyncStart (s : State) : Host.Outcome State Fault Refusal := s.on fun _ d => resyncStart d

/-- RESYNC_PORT_COPY (R247). At a port's cycle boundary the standby copies the active engine's buckets, concealment
copy and Sounding pointer and replays the ring. -/
def execResyncPortCopy (n : Nat) (s : State) : Host.Outcome State Fault Refusal := s.on fun _ d => portCopy n d

/-- RESYNC_COMPARE (R248). The standby compares its digest of the next cycle of a copied port with the active
engine's, counting the port shadowed or repeating the copy. -/
def execResyncCompare (n : Nat) (errA errB : Bytes) (s : State) : Host.Outcome State Fault Refusal :=
  s.on fun _ d => resyncCompare n errA errB d

/-- BIST_WINDOW_START (R249). BIST_CFG.PERIOD has passed and the shadowing standby leaves SHADOW for a self-test
window. -/
def execBistWindowStart (s : State) : Host.Outcome State Fault Refusal := s.on fun _ d => bistStart d

/-- BIST_WINDOW_END (R249). A BIST window ends with a pass, which starts a resynchronisation, or a fail, which sends
the engine to FAILED. -/
def execBistWindowEnd (pass : Bool) (s : State) : Host.Outcome State Fault Refusal := s.on fun _ d => bistEnd pass d

/-- AUTO_REPAIR (R251). One second after an engine failed, with AUTO_REPAIR set, the engine is repaired. -/
def execAutoRepair (e : Nat) (s : State) : Host.Outcome State Fault Refusal := s.on fun _ d => autoRepair e d

end Sys2Proof.Machine
end

