-- ==== Sys2Proof/Machine/ExecFiring.lean ====
section
/-!
DEFINITION. What the commands do: position edges, firing cycles and fixed-rate printing (chapter 5).  Each meaning calls the operation that the block's own file defines.
-/
namespace Sys2Proof.Machine

/-- ENCODER_EDGE (R258). An accepted A or B edge of an encoder channel is counted and delivered with its TS to TRG,
which updates P_hi and schedules cycles. -/
def execEncoderEdge (k : Nat) (b : Bool) (dt : Nat) (s : State) : Host.Outcome State Fault Refusal :=
  s.on fun _ d => encEdge k b (d.advance dt)

/-- CYCLE_SCHEDULED_TIME (R105). The scheduled TS of a pending firing cycle is reached and the cycle is issued if its
trigger lies within the clamp window. -/
def execCycleScheduledTime (n : Nat) (s : State) : Host.Outcome State Fault Refusal := s.on fun _ d => cycleTime n d

/-- LAT (R107). A firing cycle that may start is latched at the first permitted 250 ps step, and its FIRE sequence
begins. -/
def execLat (n : Nat) (s : State) : Host.Outcome State Fault Refusal := s.on fun _ d => latPort n d

/-- SLOT_MARK (R188). A later address slot of a latched cycle is announced by a SLOT mark 80 ns before its pre-pulse,
and the slot's FIRE pulses follow. -/
def execSlotMark (n : Nat) (s : State) : Host.Outcome State Fault Refusal := s.on fun _ d => slotMarkPort n d

/-- CYCLE_SKIP (R108). The position estimate passes a waiting cycle's lateness deadline, or its trigger passes while
the port cannot fire, and the cycle is skipped. -/
def execCycleSkip (n : Nat) (s : State) : Host.Outcome State Fault Refusal := s.on fun _ d => cycleSkip n d

/-- SLOWDOWN_REPEAT (R110). TRG.SLOWDOWN.INTERVAL has passed while skips continue, and another slow-down request is
issued. -/
def execSlowdownRepeat (s : State) : Host.Outcome State Fault Refusal := s.on fun _ d => slowdownRepeat d

/-- FIX_PERIOD_WRITE (R116). A write of TRG.FIX_PERIOD in FIXED mode changes, stops or restarts the line-period
generator. -/
def execFixPeriodWrite (v : Nat) (s : State) : Host.Outcome State Fault Refusal := s.on fun u d => hostWrite u 0xB1090 v d

/-- FIXED_GENERATOR_START (R116). TS reaches t0 and the FIXED line-period generator starts its synthetic position. -/
def execFixedGeneratorStart (s : State) : Host.Outcome State Fault Refusal := s.on fun _ d => fixedStart d

/-- SYNTHETIC_LINE_BOUNDARY (R116). The FIXED generator reaches a synthetic line boundary, which acts as an edge at
the exact position. -/
def execSyntheticLineBoundary (s : State) : Host.Outcome State Fault Refusal := s.on fun _ d => fixedBoundary d

/-- RING_SOURCE_TIMEOUT (R117). No position cell has arrived for 10 µs and the ring source is lost. -/
def execRingSourceTimeout (s : State) : Host.Outcome State Fault Refusal := s.on fun _ d => ringSourceTimeout d

end Sys2Proof.Machine
end

