-- ==== Sys2Proof/Machine/ExecHeat.lean ====
section
/-!
DEFINITION. What the commands do: waveforms, temperature and the energy table (chapter 7).  Each meaning calls the operation that the block's own file defines.
-/
namespace Sys2Proof.Machine

/-- FIRE_W_WRITE (R157). A write of FIRE_W_k makes the held PRE and GAP and the written MAIN the new nominal waveform
of class k. -/
def execFireWWrite (n k main : Nat) (s : State) : Host.Outcome State Fault Refusal :=
  s.on fun u d => hostWrite u ((0x100 + n) * 4096 + (if k = 0 then 0x204 else 0x604 + 8 * (k - 1))) main d

/-- TEMPERATURE_SAMPLE (R163). A port's 100 µs temperature sample completes and updates derating, limit states and
warming. -/
def execTemperatureSample (n outcome r : Nat) (s : State) : Host.Outcome State Fault Refusal :=
  s.on fun _ d => temperatureSample n outcome r d

/-- THM_SLOWDOWN_REPEAT (R172). SLOWDOWN.INTERVAL has passed while a port stays in its soft region, and a further
slow-down request is issued. -/
def execThmSlowdownRepeat (s : State) : Host.Outcome State Fault Refusal := s.on fun _ d => thmSlowdownRepeat d

/-- WARMING_PULSE (R170). A spaced warming pulse falls due and is sent with a WARM mark and a FIRE_0 pulse, or is
dropped. -/
def execWarmingPulse (n : Nat) (s : State) : Host.Outcome State Fault Refusal := s.on fun _ d => warmingPulse n d

/-- HOT_REARM (R176). A write of THM.HOT_CTRL.REARM stands a re-arm for a port in HOT. -/
def execHotRearm (n : Nat) (s : State) : Host.Outcome State Fault Refusal :=
  s.on fun u d => hostPatch u 0xB2044 0x13F (0x100 + n) d

/-- ENERGY_TABLE_COMMIT (R161). The critical command ENERGY_TABLE_COMMIT starts THM's copy of the energy table. -/
def execEnergyTableCommit (slot : Nat) (args : List Nat) (cnt tag : Nat) (s : State) : Host.Outcome State Fault Refusal :=
  s.on fun u d => critical 0x04 slot args cnt tag u d

/-- ENERGY_TABLE_COPY_DONE (R161). THM's copy of the energy table completes and is checked, replacing the table in
force or leaving it. -/
def execEnergyTableCopyDone (poisoned : Bool) (s : State) : Host.Outcome State Fault Refusal :=
  s.on fun _ d => energyCopyDone poisoned d

end Sys2Proof.Machine
end

