-- ==== Sys2Proof/Machine/ExecHost.lean ====
section
/-!
DEFINITION. What the commands do: host accesses, the block controls of the page header, events, and the vectors (chapter 2).  Each meaning calls the operation that the block's own file defines.
-/
namespace Sys2Proof.Machine

/-- REGISTER_WRITE (R37). A host, script, DMA, ring or management write to a register that has no row of its own,
applied field by field with RWX and RWA guards. -/
def execRegisterWrite (master : Nat) (internal : Bool) (addr size value : Nat) (s : State) : Host.Outcome State Fault Refusal :=
  s.on fun u d => registerWrite { master, internal } addr size value u d

/-- LO_READ_LATCH (R8). A read of the _LO half of a 64-bit pair latches the _HI half for that master. -/
def execLoReadLatch (master addr size : Nat) (s : State) : Host.Outcome State Fault Refusal :=
  s.on fun u d => registerRead { master, internal := false } addr size u d

/-- READ_CLEAR (R5). A read of an RC field returns its value and then clears it. -/
def execReadClear (master addr size : Nat) (s : State) : Host.Outcome State Fault Refusal :=
  s.on fun u d => registerRead { master, internal := false } addr size u d

/-- HOST_BAR2_ACCESS (R29). A host access through BAR2 is served by the Basin arbiter as class C2 traffic. -/
def execHostBar2Access (addr len : Nat) (write : Bool) (data : Bytes) (err late : Nat) (s : State) : Host.Outcome State Fault Refusal :=
  s.on fun _ d => basinRequest 0 2 addr len write data err late d

/-- HOST_BAR4_ACCESS (R29). A host access through BAR4 reaches Shallows, Sediment or the MSI-X structures, and a write
to a reserved range is discarded. -/
def execHostBar4Access (addr size : Nat) (write : Bool) (value err : Nat) (s : State) : Host.Outcome State Fault Refusal :=
  s.on fun _ d => bar4Access addr size write value err d

/-- FUNCTION_LEVEL_RESET (R30). A PCIe Function Level Reset, link down or PCIE_PERST_N low resets configuration space
and MSI-X, kills owned DMA channels and clears every LEVEL. -/
def execFunctionLevelReset (down : Bool) (s : State) : Host.Outcome State Fault Refusal :=
  s.on fun _ d => functionLevelReset down d

/-- LEVEL_UNLOCK (R36). A write to SYS.LEVEL_UNLOCK opens a 1 ms level window for the key 0xE7A1, or closes an open
window for any other value. -/
def execLevelUnlock (key : Nat) (s : State) : Host.Outcome State Fault Refusal := s.on fun u d => hostWrite u 0x40 key d

/-- LEVEL_WINDOW_EXPIRY (R36). The level window closes 1 ms after the unlock write. -/
def execLevelWindowExpiry (s : State) : Host.Outcome State Fault Refusal := s.on fun _ d => levelExpiry d

/-- LEVEL_SET (R36). A write of BLK_CTRL.LEVEL sets expert level when a window is open, and clears it at any time. -/
def execLevelSet (page : Nat) (v : Bool) (s : State) : Host.Outcome State Fault Refusal := s.on fun _ d => levelSet 2 0 page v d

/-- ENABLE_CLEAR (R38). Clearing BLK_CTRL.ENABLE makes a block finish its work in hand up to its drain boundary while
it keeps queuing requests. -/
def execEnableClear (page : Nat) (s : State) : Host.Outcome State Fault Refusal := s.on fun _ d => enableClear page d

/-- ENABLE_SET (R38). Setting BLK_CTRL.ENABLE resumes queued work in order, or leaves OFFLINE after a DRAIN. -/
def execEnableSet (page : Nat) (s : State) : Host.Outcome State Fault Refusal := s.on fun _ d => enableSet page d

/-- DRAIN_BOUNDARY_REACHED (R38). A stopping block reaches its drain boundary and enters STOPPED_PENDING, IDLE,
OFFLINE, RESET or OFF. -/
def execDrainBoundaryReached (page : Nat) (s : State) : Host.Outcome State Fault Refusal := s.on fun _ d => drainBoundary page d

/-- DRAIN (R39). Setting BLK_CTRL.DRAIN makes the block refuse new requests, complete those in flight and then go
OFFLINE. -/
def execDrain (page : Nat) (s : State) : Host.Outcome State Fault Refusal := s.on fun _ d => drainSet page d

/-- SOFT_RESET (R39). Setting BLK_CTRL.SOFT_RESET drains the block and then resets it to its reset values,
incrementing its EPOCH. -/
def execSoftReset (page : Nat) (s : State) : Host.Outcome State Fault Refusal := s.on fun _ d => softReset page d

/-- KILL (R40). Setting BLK_CTRL.KILL stops the block at the next clock edge, ends requests in flight with ABORTED and
discards queued work. -/
def execKill (page : Nat) (s : State) : Host.Outcome State Fault Refusal := s.on fun _ d => blockKill page d

/-- DRAIN_TIMEOUT (R39). The drain timeout of a block expires and every request still in flight ends with ABORTED. -/
def execDrainTimeout (page : Nat) (s : State) : Host.Outcome State Fault Refusal := s.on fun _ d => drainTimeout page d

/-- DOMAIN_WAIT_EXPIRY (R41). A DMA transfer bound to a domain that is turning off has not reached an instruction
boundary within the wait time and ends with DOMAIN_OFF. -/
def execDomainWaitExpiry (dom : Nat) (s : State) : Host.Outcome State Fault Refusal := s.on fun _ d => domainWaitExpiry dom d

/-- REPLY_ARRIVAL (R42). A reply reaches its requester and is accepted, or is dropped as stale when its epoch or
sequence number does not match. -/
def execReplyArrival (page epoch seq : Nat) (s : State) : Host.Outcome State Fault Refusal :=
  s.on fun _ d => replyArrival page epoch seq d

/-- EV_CLEAR (R33). A write of 1 to EV_CLEAR clears the matching EV_RAW bits, and a bit set by the block in the same
cycle ends set. -/
def execEvClear (page mask : Nat) (s : State) : Host.Outcome State Fault Refusal :=
  s.on fun u d => hostWrite u (page * 4096 + 0x18) mask d

/-- EV_FORCE (R31). A write of 1 to EV_FORCE sets the matching EV_RAW bits for test. -/
def execEvForce (page mask : Nat) (s : State) : Host.Outcome State Fault Refusal :=
  s.on fun u d => hostWrite u (page * 4096 + 0x1C) mask d

/-- FLT_LOCAL_CLEAR (R32). A write of 1 to FLT_LOCAL.VALID clears the page's first local fault record and COUNT. -/
def execFltLocalClear (page : Nat) (s : State) : Host.Outcome State Fault Refusal :=
  s.on fun u d => hostWrite u (page * 4096 + 0x30) 0x80000000 d

/-- OWNER_WRITE (R45). A compare-and-set write of DMA_n.OWNER takes effect only when TAG equals EXPECT. -/
def execOwnerWrite (n expect tag : Nat) (s : State) : Host.Outcome State Fault Refusal :=
  s.on fun u d => hostWrite u ((0x20 + n) * 4096 + 0x40) (expect * 256 + tag) d

/-- REVOKE_CLIENT (R45). A write of DMAC.REVOKE.CLIENT kills every channel owned by that client, frees it and raises
its source. -/
def execRevokeClient (client : Nat) (s : State) : Host.Outcome State Fault Refusal := s.on fun u d => hostWrite u 0x1F040 client d

/-- VEC_PEND_CLEAR (R48). A write of 1 to a VEC_PEND bit rearms an MSI-X vector. -/
def execVecPendClear (mask : Nat) (s : State) : Host.Outcome State Fault Refusal :=
  s.on fun u d => hostWrite u 0x4084 (mask / 2 ^ 32) (hostWrite u 0x4080 mask d)

/-- MSIX_MESSAGE (R48). A vector sends an MSI-X message when a mapped source is raised, PEND is 0 and the holdoff has
passed, and it sets PEND. -/
def execMsixMessage (v : Nat) (s : State) : Host.Outcome State Fault Refusal := s.on fun _ d => msixMessage v d

/-- PROVIDER_LOST (R24). When the last consumer port of a lost print-critical provider has reached its row-line
boundary, PRT sends one PROVIDER_LOST fault message at STOP. -/
def execProviderLost (s : State) : Host.Outcome State Fault Refusal := s.on fun _ d => providerLost d

end Sys2Proof.Machine
end

