-- ==== Sys2Proof/Machine/ExecJobs.lean ====
section
/-!
DEFINITION. What the commands do: print geometry and jobs (chapter 4).  Each meaning calls the operation that the block's own file defines.
-/
namespace Sys2Proof.Machine

/-- GEOM_LOAD (R75). A write of PRT.GEOM_LOAD_HI starts a geometry load of the selected ports, or is refused in a
print mode or during a load. -/
def execGeomLoad (ports : Nat) (s : State) : Host.Outcome State Fault Refusal :=
  s.on fun u d => hostWrite u 0xB004C (ports / 2 ^ 32) (hostWrite u 0xB0048 ports d)

/-- GEOM_LOAD_DONE (R75). A geometry load completes after each port's table has been read and checked, and GEOM_OK and
GEOM_STAT are updated. -/
def execGeomLoadDone (poisoned : List Nat) (s : State) : Host.Outcome State Fault Refusal :=
  s.on fun _ d => geomLoadDone poisoned d

/-- Q_TAIL_WRITE (R84). A write of Q_TAIL hands descriptors to the device, or is discarded as an invalid move. -/
def execQTailWrite (p v : Nat) (s : State) : Host.Outcome State Fault Refusal :=
  s.on fun u d => hostWrite u (0xB010C + 0x20 * p) v d

/-- JOB_START (R83). A queue takes its next descriptor and checks the descriptor and the tile directory before the job
may become active. -/
def execJobStart (p : Nat) (descBad dirBad : Bool) (s : State) : Host.Outcome State Fault Refusal :=
  s.on fun _ d => jobTaken p descBad dirBad d

/-- Q_CANCEL (R90). A write of Q_CTRL.CANCEL ends the plane's active jobs at the end of each row-line and cancels
every queued descriptor. -/
def execQCancel (p : Nat) (s : State) : Host.Outcome State Fault Refusal := s.on fun u d => hostPatch u (0xB0114 + 0x20 * p) 4 4 d

/-- Q_HOLD (R89). Setting Q_CTRL.HOLD stops activation of further jobs and skips the lines of active jobs, and
clearing it lets them run. -/
def execQHold (p : Nat) (on : Bool) (s : State) : Host.Outcome State Fault Refusal :=
  s.on fun u d => hostPatch u (0xB0114 + 0x20 * p) 2 (b2n on * 2) d

/-- Q_ENABLE (R91). Setting or clearing Q_CTRL.ENABLE starts or stops the activation of jobs of the plane. -/
def execQEnable (p : Nat) (on : Bool) (s : State) : Host.Outcome State Fault Refusal :=
  s.on fun u d => hostPatch u (0xB0114 + 0x20 * p) 1 (b2n on) d

end Sys2Proof.Machine
end

