-- ==== Sys2Proof/Machine/ExecKeys.lean ====
section
/-!
DEFINITION. What the commands do: critical commands and security (chapter 19).  Each meaning calls the operation that the block's own file defines.
-/
namespace Sys2Proof.Machine

/-- LIFECYCLE_ADVANCE (R447). The critical command LIFECYCLE_ADVANCE forces STANDBY, blows the target bit, wipes and
restarts bring-up at B3. -/
def execLifecycleAdvance (slot : Nat) (args : List Nat) (cnt tag : Nat) (s : State) : Host.Outcome State Fault Refusal :=
  s.on fun u d => critical 0x01 slot args cnt tag u d

/-- KEY_LOAD (R449). The critical command KEY_LOAD checks and programs a new key into an EMPTY slot. -/
def execKeyLoad (slot : Nat) (args : List Nat) (cnt tag : Nat) (s : State) : Host.Outcome State Fault Refusal :=
  s.on fun u d => critical 0x02 slot args cnt tag u d

/-- KEY_RETIRE (R450). The critical command KEY_RETIRE blows a slot's RETIRED state, or is refused as the last key. -/
def execKeyRetire (slot : Nat) (args : List Nat) (cnt tag : Nat) (s : State) : Host.Outcome State Fault Refusal :=
  s.on fun u d => critical 0x03 slot args cnt tag u d

/-- HEAD_POWER_ARM (R453). The critical command HEAD_POWER_ARM drives HPWR_EN for the selected groups and sets
HEAD_POWER_ARMED. -/
def execHeadPowerArm (slot : Nat) (args : List Nat) (cnt tag : Nat) (s : State) : Host.Outcome State Fault Refusal :=
  s.on fun u d => critical 0x06 slot args cnt tag u d

/-- PRINT_ARM (R453). The critical command PRINT_ARM sets PRINT_ARMED. -/
def execPrintArm (slot : Nat) (args : List Nat) (cnt tag : Nat) (s : State) : Host.Outcome State Fault Refusal :=
  s.on fun u d => critical 0x07 slot args cnt tag u d

/-- SPRING_COMMIT (R451). The critical command SPRING_COMMIT programs the next fuse row with the Spring signing slot
mask. -/
def execSpringCommit (slot : Nat) (args : List Nat) (cnt tag : Nat) (s : State) : Host.Outcome State Fault Refusal :=
  s.on fun u d => critical 0x08 slot args cnt tag u d

/-- WIPE_NOW (R325). The critical command WIPE_NOW wipes Basin, Shallows or Sediment. -/
def execWipeNow (slot : Nat) (args : List Nat) (cnt tag : Nat) (s : State) : Host.Outcome State Fault Refusal :=
  s.on fun u d => critical 0x09 slot args cnt tag u d

/-- LOCKOUT_END (R445). The 1 s lockout ends. -/
def execLockoutEnd (s : State) : Host.Outcome State Fault Refusal := s.on fun _ d => lockoutEnd d

/-- FUSE_PROGRAM_DONE (R449). A fuse program step ends with its read-back, advancing or failing the command. -/
def execFuseProgramDone (ok : Bool) (s : State) : Host.Outcome State Fault Refusal := s.onFuse fun u d => fuseDone ok u d

/-- DISARM_HEAD (R452). A write of SEC.DISARM.HEAD lets every head port reach its drain boundary before head power is
turned off. -/
def execDisarmHead (s : State) : Host.Outcome State Fault Refusal := s.on fun u d => hostWrite u 0x30A8 1 d

/-- DISARM_HEAD_COMPLETE (R452). Every head port has reached its drain boundary, every HPWR_EN goes low and both arms
clear. -/
def execDisarmHeadComplete (s : State) : Host.Outcome State Fault Refusal := s.on fun _ d => disarmComplete d

/-- DISARM_PRINT (R452). A write of SEC.DISARM.PRINT clears PRINT_ARMED. -/
def execDisarmPrint (s : State) : Host.Outcome State Fault Refusal := s.on fun u d => hostWrite u 0x30A8 2 d

end Sys2Proof.Machine
end

