-- ==== Sys2Proof/Machine/ExecLinks.lean ====
section
/-!
DEFINITION. What the commands do: the Norper head links (chapter 8).  Each meaning calls the operation that the block's own file defines.
-/
namespace Sys2Proof.Machine

/-- TRAINING_START (R197). Training of a port starts when head power, ENABLE and AUTO_TRAIN allow it or a held request
may run. -/
def execTrainingStart (n : Nat) (s : State) : Host.Outcome State Fault Refusal := s.on fun _ d => trainingStart n d

/-- LINK_TRAIN (R197). A write of LINK_CMD.TRAIN requests training of the port. -/
def execLinkTrain (n : Nat) (s : State) : Host.Outcome State Fault Refusal :=
  s.on fun u d => hostWrite u ((0x100 + n) * 4096 + 0x44) 1 d

/-- LINK_CMD_DOWN (R207). A write of LINK_CMD.DOWN takes the link DOWN at the drain boundary. -/
def execLinkCmdDown (n : Nat) (s : State) : Host.Outcome State Fault Refusal :=
  s.on fun u d => hostWrite u ((0x100 + n) * 4096 + 0x44) 2 d

/-- BCK_SWEEP_STEP (R197). In training step T2 the back-channel sampling delay moves to its next step every 1 µs. -/
def execBckSweepStep (n : Nat) (ok : Bool) (s : State) : Host.Outcome State Fault Refusal := s.on fun _ d => bckSweepStep n ok d

/-- LANE_SWEEP_STEP (R198). In training step T3 each lane's launch delay moves to its next step and a LATCH starts a
new PRBS window. -/
def execLaneSweepStep (n : Nat) (s : State) : Host.Outcome State Fault Refusal := s.on fun _ d => laneSweepStep n d

/-- ALIGN_SEND_END (R199). After 20 µs of ALIGN blocks in step T4 the lanes send zero. -/
def execAlignSendEnd (n : Nat) (s : State) : Host.Outcome State Fault Refusal := s.on fun _ d => alignEnd n d

/-- TRAIN_STEP_TIMEOUT (R200). A training step does not pass within its time, and the attempt fails. -/
def execTrainStepTimeout (n : Nat) (s : State) : Host.Outcome State Fault Refusal := s.on fun _ d => trainTimeout n d

/-- TRAINING_RETRY (R200). After the 2 µs clock stop that resets the head, training repeats from T1. -/
def execTrainingRetry (n : Nat) (s : State) : Host.Outcome State Fault Refusal := s.on fun _ d => trainRetry n d

/-- LINK_RESET (R195). A LINK_RESET back-channel message arrives, passing T1 in training or taking an UP link DOWN. -/
def execLinkReset (n : Nat) (s : State) : Host.Outcome State Fault Refusal := s.on fun _ d => linkReset n d

/-- LAT_REPORT (R192). A LAT_REPORT message names the rows fired and refused at a LATCH, and in T7 takes the link UP.
-/
def execLatReport (n tag refused : Nat) (s : State) : Host.Outcome State Fault Refusal :=
  s.on fun _ d => latReport n tag refused d

/-- FRAME_BAD (R187). A FRAME_BAD message reports a bad frame and may cause one resend. -/
def execFrameBad (n ordinal seg type row : Nat) (s : State) : Host.Outcome State Fault Refusal :=
  s.on fun _ d => frameBad n ordinal seg type row d

/-- READ_DATA (R196). A READ_DATA message answers a CTRL read. -/
def execReadData (n tag value : Nat) (s : State) : Host.Outcome State Fault Refusal := s.on fun _ d => readData n tag value d

/-- WRITE_ACK (R196). A WRITE_ACK message answers a CTRL write. -/
def execWriteAck (n tag : Nat) (refused : Bool) (s : State) : Host.Outcome State Fault Refusal :=
  s.on fun _ d => writeAck n tag refused d

/-- HEAD_STATUS (R202). A STATUS message from the head is recorded and raised as HEAD_STATUS. -/
def execHeadStatus (n code : Nat) (s : State) : Host.Outcome State Fault Refusal := s.on fun _ d => headStatus n code d

/-- LAT_ERR (R202). A LAT_ERR message reports an illegal mark width. -/
def execLatErr (n width : Nat) (s : State) : Host.Outcome State Fault Refusal := s.on fun _ d => latErr n width d

/-- PRBS_RESULT (R198). A PRBS_RESULT message reports a lane's mismatches in a training window. -/
def execPrbsResult (n lane mism : Nat) (s : State) : Host.Outcome State Fault Refusal := s.on fun _ d => prbsResult n lane mism d

/-- ALIGNED (R199). An ALIGNED message reports the head's lane alignment, and the device issues a LATCH. -/
def execAligned (n : Nat) (ok : Bool) (s : State) : Host.Outcome State Fault Refusal := s.on fun _ d => aligned n ok d

/-- BCK_MESSAGE_DROPPED (R191). A back-channel message with a code, disparity, CRC-8 or TYPE error is dropped. -/
def execBckMessageDropped (m : BckMessage) (s : State) : Host.Outcome State Fault Refusal :=
  s.on fun _ d => bckMessage m d

/-- LAT_REPORT_TIMEOUT (R202). No LAT_REPORT arrives within 3 µs of a LATCH, and its rows count as fired. -/
def execLatReportTimeout (n : Nat) (s : State) : Host.Outcome State Fault Refusal := s.on fun _ d => latReportTimeout n d

/-- BCK_SILENCE (R202). No valid back-channel character has arrived for 10 µs and the link goes DOWN. -/
def execBckSilence (n : Nat) (s : State) : Host.Outcome State Fault Refusal := s.on fun _ d => bckSilence n d

/-- DEGRADE_INTERVAL (R202). A 1 s interval ends and LINK_DEGRADED is raised when bad frames exceeded the threshold.
-/
def execDegradeInterval (n : Nat) (s : State) : Host.Outcome State Fault Refusal := s.on fun _ d => degradeInterval n d

/-- HREG_CMD_GO (R207). A write of HREG_CMD.GO sends a CTRL frame to read or write a head register. -/
def execHregCmdGo (n : Nat) (write : Bool) (addr : Nat) (s : State) : Host.Outcome State Fault Refusal :=
  s.on fun u d => hostWrite u ((0x100 + n) * 4096 + 0x400) (0x80000000 + b2n write * 0x40000000 + addr) d

/-- CTRL_TIMEOUT (R202). A CTRL frame goes unanswered, is sent once more, and then ends with a timeout. -/
def execCtrlTimeout (n : Nat) (s : State) : Host.Outcome State Fault Refusal := s.on fun _ d => ctrlTimeout n d

end Sys2Proof.Machine
end

