-- ==== Sys2Proof/Machine/ExecModes.lean ====
section
/-!
DEFINITION. What the commands do: mode requests, bring-up and the Spring script (chapter 3).  Each meaning calls the operation that the block's own file defines.
-/
namespace Sys2Proof.Machine

/-- MODE_REQ_GO (R52). A write of SYS.MODE_REQ with GO submits a mode request, which is checked against the
preconditions and then accepted as pending, taken as a re-arm or refused. -/
def execModeReqGo (mode : Nat) (atLine : Bool) (s : State) : Host.Outcome State Fault Refusal :=
  s.on fun u d => hostWrite u 0x50 (0x80000000 + b2n atLine * 256 + mode) d

/-- MODE_CHANGED (R54). A pending mode change completes once service actions, jobs or ports have reached their
boundary, and the new mode takes effect. -/
def execModeChanged (s : State) : Host.Outcome State Fault Refusal := s.on fun _ d => modeChanged d

/-- CLOCKS_LOCKED (R62). Bring-up step B1 ends when the root PLL and derived clocks lock, and B2 starts. -/
def execClocksLocked (s : State) : Host.Outcome State Fault Refusal := s.on fun _ d => clocksLocked d

/-- FUSES_READ (R62). Bring-up step B2 ends when the lifecycle, factory calibration and key-store fuses are loaded,
and B3 and B4 start. -/
def execFusesRead (s : State) : Host.Outcome State Fault Refusal := s.on fun u d => fusesRead u d

/-- PCIE_READY (R62). Bring-up step B5 ends when the PCIe endpoint answers configuration requests. -/
def execPcieReady (width speed : Nat) (s : State) : Host.Outcome State Fault Refusal := s.on fun _ d => pcieReady width speed d

/-- SPRING_SCRIPT_START (R65). After B3 the device reads and verifies the Spring script from SPI flash and starts it,
or ends B6 as absent or rejected. -/
def execSpringScriptStart (s : State) : Host.Outcome State Fault Refusal := s.on fun u d => springStart u d

/-- SPRING_WRITE (R66). A Spring WRITE entry writes VALUE to its BAR0 offset. -/
def execSpringWrite (s : State) : Host.Outcome State Fault Refusal := s.on fun u d => springWrite u d

/-- SPRING_MODIFY (R66). A Spring MODIFY entry reads its offset and writes back the masked value. -/
def execSpringModify (s : State) : Host.Outcome State Fault Refusal := s.on fun u d => springModify u d

/-- SPRING_POLL (R66). A Spring POLL entry starts waiting until the masked register equals VALUE. -/
def execSpringPoll (s : State) : Host.Outcome State Fault Refusal := s.on fun _ d => springPoll d

/-- SPRING_POLL_MET (R66). The condition of a waiting Spring POLL holds and the script moves on. -/
def execSpringPollMet (s : State) : Host.Outcome State Fault Refusal := s.on fun u d => springPollMet u d

/-- SPRING_POLL_TIMEOUT (R66). A Spring POLL reaches ARG × 10 µs and either moves on or stops the script with STATE 5.
-/
def execSpringPollTimeout (s : State) : Host.Outcome State Fault Refusal := s.on fun _ d => springPollTimeout d

/-- SPRING_DELAY (R66). A Spring DELAY entry starts a wait of VALUE µs. -/
def execSpringDelay (s : State) : Host.Outcome State Fault Refusal := s.on fun _ d => springDelay d

/-- SPRING_DELAY_END (R66). The wait of a Spring DELAY entry ends and the next entry runs. -/
def execSpringDelayEnd (s : State) : Host.Outcome State Fault Refusal := s.on fun _ d => springDelayEnd d

/-- SPRING_END_ENTRY (R64). A Spring END entry stops the script with STATE done. -/
def execSpringEndEntry (s : State) : Host.Outcome State Fault Refusal := s.on fun _ d => springEndEntry d

/-- SPRING_TIME_LIMIT (R66). The script has run 10 s in total and stops at the current entry with STATE 5. -/
def execSpringTimeLimit (s : State) : Host.Outcome State Fault Refusal := s.on fun _ d => springTimeLimit d

end Sys2Proof.Machine
end

