-- ==== Sys2Proof/Machine/ExecNozzles.lean ====
section
/-!
DEFINITION. What the commands do: nozzle health: scans, Sounding, wear (chapter 9).  Each meaning calls the operation that the block's own file defines.
-/
namespace Sys2Proof.Machine

/-- SCAN_CMD_GO (R213). A write of SND.SCAN_CMD.GO starts an idle resistance scan of the selected ports, or is
refused. -/
def execScanCmdGo (s : State) : Host.Outcome State Fault Refusal := s.on fun u d => hostWrite u 0xB3068 1 d

/-- SCAN_CMD_STOP (R213). A write of SCAN_CMD.STOP ends a running scan at the end of its current step. -/
def execScanCmdStop (s : State) : Host.Outcome State Fault Refusal := s.on fun u d => hostWrite u 0xB3068 2 d

/-- SCAN_STEP_DONE (R218). A scan step's four phases end, the heater resistance is computed and classified, and the
channel's next step starts. -/
def execScanStepDone (c sumLo sumHi : Nat) (full : Bool) (s : State) : Host.Outcome State Fault Refusal :=
  s.on fun _ d => scanStepDone c sumLo sumHi full d

/-- SCAN_STEP_REPEAT (R216). A FIRE pulse or a disconnection during a scan step discards and repeats it. -/
def execScanStepRepeat (c : Nat) (s : State) : Host.Outcome State Fault Refusal := s.on fun _ d => scanStepRepeat c d

/-- SOUNDING_DECISION (R224). The last conversion of a Sounding window ends and SND decides PASS, MISS or INCONCLUSIVE
and updates the nozzle's state. -/
def execSoundingDecision (n : Nat) (rs : List Nat) (full : Bool) (s : State) : Host.Outcome State Fault Refusal :=
  s.on fun _ d => soundingDecision n rs full d

/-- HEALTH_WRITEBACK (R209). SND writes a changed health entry back to the Basin health map as class C4. -/
def execHealthWriteback (s : State) : Host.Outcome State Fault Refusal := s.on fun _ d => healthWriteback d

/-- WEAR_FLUSH (R228). Every PERIOD / 64, Turnover adds one port's firing accumulators into the wear map and clears
them. -/
def execWearFlush (bad : List Nat) (s : State) : Host.Outcome State Fault Refusal := s.on fun _ d => wearFlush bad d

/-- SIG_LOAD (R229). A write of SIG_CTRL.LOAD starts copying the signature table. -/
def execSigLoad (s : State) : Host.Outcome State Fault Refusal := s.on fun u d => hostWrite u 0xB3058 1 d

/-- SIG_LOAD_DONE (R229). The signature table copy completes and is checked, replacing the table in force or raising
SIG_TABLE_BAD. -/
def execSigLoadDone (poisoned : Bool) (s : State) : Host.Outcome State Fault Refusal := s.on fun _ d => sigLoadDone poisoned d

end Sys2Proof.Machine
end

