-- ==== Sys2Proof/Machine/ExecPins.lean ====
section
/-!
DEFINITION. What the commands do: the management port, the SPI flash, and the events of pins and ticks (chapters 8, 11, 12, 17 to 20 and 22).  Each meaning calls the operation that the block's own file defines.
-/
namespace Sys2Proof.Machine

/-- SMB_SET_PTR (R478). SMBus command 0x01 sets the management pointer to a BAR0 offset. -/
def execSmbSetPtr (offset : Nat) (ok : Bool) (s : State) : Host.Outcome State Fault Refusal :=
  s.on fun _ d => smbSetPtr offset ok d

/-- SMB_READ (R478). SMBus command 0x02 returns the register at the pointer and advances it. -/
def execSmbRead (ok : Bool) (s : State) : Host.Outcome State Fault Refusal := s.on fun u d => smbRead ok u d

/-- SMB_WRITE (R478). SMBus command 0x03 writes the register at the pointer while WR_EN is 1, or is NACKed. -/
def execSmbWrite (value : Nat) (ok : Bool) (s : State) : Host.Outcome State Fault Refusal := s.on fun u d => smbWrite value ok u d

/-- SPIF_READ (R479). SPIF.OP GO with OPCODE 0 starts copying flash bytes to Basin, or is refused. -/
def execSpifRead (s : State) : Host.Outcome State Fault Refusal := s.on fun u d => hostWrite u 0x152048 0x80000000 d

/-- SPIF_PROGRAM (R479). SPIF.OP GO with OPCODE 1 starts programming one flash page from Basin, or is refused. -/
def execSpifProgram (s : State) : Host.Outcome State Fault Refusal := s.on fun u d => hostWrite u 0x152048 0x80000001 d

/-- SPIF_ERASE (R479). SPIF.OP GO with OPCODE 2 starts erasing a 64 KiB flash block, or is refused. -/
def execSpifErase (s : State) : Host.Outcome State Fault Refusal := s.on fun u d => hostWrite u 0x152048 0x80000002 d

/-- SPIF_DONE (R479). A SPIF operation completes or stops, and SPIF.STAT takes its result. -/
def execSpifDone (ok : Bool) (moved : Nat) (s : State) : Host.Outcome State Fault Refusal := s.on fun _ d => spifDone ok moved d

/-- SAFE_IN_RELEASE (R404). SAFE_IN_N is seen high for 8 consecutive samples, STATE.SAFE_IN clears and acknowledgement
or a quiet-period exit of SAFE becomes possible. -/
def execSafeInRelease (s : State) : Host.Outcome State Fault Refusal := s.on fun _ d => safeInRelease d

/-- PFAIL_RELEASE (R470). PFAIL_N returns high without a reset, STATE.PFAIL clears, shed domains stay off and SAFE may
be left under R406 and R407. -/
def execPfailRelease (s : State) : Host.Outcome State Fault Refusal := s.on fun _ d => pfailRelease d

/-- REFCLK_RECOVERED (R459). REFCLK returns within REF_TOL and CLK.STAT.REF_OK is set again. -/
def execRefclkRecovered (ppm : Int) (s : State) : Host.Outcome State Fault Refusal := s.on fun _ d => refclkRecovered ppm d

/-- RESET_ASSERTED (R487). RESET_N falls, or TEST_EN rises, and every pin takes its reset state while the device is
held in reset. -/
def execResetAsserted (s : State) : Host.Outcome State Fault Refusal := s.always fun _ d => resetAsserted d

/-- NONCE_READY (R440). The random source finishes its start-up health test 0.5 to 2 ms after reset and draws the
session nonce, or raises RNG_FAIL. -/
def execNonceReady (ok : Bool) (draw : Nat) (s : State) : Host.Outcome State Fault Refusal := s.on fun _ d => nonceReady ok draw d

/-- FRAME_SHIPPED (R185). The HPT_n serialiser finishes shipping a frame, which opens the next frame boundary for
resends, CTRL and SENSE frames and may make a cycle ready for its LAT. -/
def execFrameShipped (n : Nat) (s : State) : Host.Outcome State Fault Refusal := s.on fun _ d => frameShipped n d

/-- TRAIN_SETTLE_END (R197). The LINK_CFG.SETTLE wait of training step T1 ends and the device starts HPn_CLK with the
lanes at zero. -/
def execTrainSettleEnd (n : Nat) (s : State) : Host.Outcome State Fault Refusal := s.on fun _ d => settleEnd n d

/-- TRIM_UPDATE_TICK (R434). The 1 µs tick of the TS_CLK DLL target, or the 10 µs tick of a head-link target whose
port fires no cycle, moves a slewing trim one step. -/
def execTrimUpdateTick (t : Nat) (s : State) : Host.Outcome State Fault Refusal := s.on fun _ d => trimTicks t d

/-- CELL_CRC_ERROR (R286). An Emriub cell arrives whose CRC-32C fails, and it is dropped, counted in CRC_ERR_CNT and
its credit returned. -/
def execCellCrcError (l : Nat) (s : State) : Host.Outcome State Fault Refusal := s.on fun _ d => cellCrcError l d

/-- UNKNOWN_CELL (R286). An Emriub cell of a type the device does not implement arrives, and it is counted and
ignored, or forwarded under the same rules. -/
def execUnknownCell (type : Nat) (c : CellIn) (dt : Nat) (s : State) : Host.Outcome State Fault Refusal :=
  s.on fun _ d => unknownCell type c (d.advance dt)

/-- EOUT_Z_END (R277). Z_CFG.WIDTH ticks after a periodic Z pulse began, the emulated Z output falls low. -/
def execEoutZEnd (m : Nat) (s : State) : Host.Outcome State Fault Refusal := s.on fun _ d => eoutZEnd m d

end Sys2Proof.Machine
end

