-- ==== Sys2Proof/Machine/ExecPosition.lean ====
section
/-!
DEFINITION. What the commands do: encoders and the encoder-emulation outputs (chapter 11).  Each meaning calls the operation that the block's own file defines.
-/
namespace Sys2Proof.Machine

/-- ILLEGAL_CHANGE (R259). A and B change in the same sample, the count is unchanged and UNCERTAIN is set. -/
def execIllegalChange (k dt : Nat) (s : State) : Host.Outcome State Fault Refusal :=
  s.on fun _ d => illegalChange k (d.advance dt)

/-- INDEX (R263). An accepted Z edge is an index, which sets the reference, verifies the count, applies an armed home
or reports a mismatch. -/
def execIndex (k : Nat) (rising : Bool) (dt : Nat) (s : State) : Host.Outcome State Fault Refusal :=
  s.on fun _ d => zEdge k rising (d.advance dt)

/-- WIRE_FLAG (R256). The two legs of a pair stay at one level longer than WIRE.NS and the pair's wire flag is set. -/
def execWireFlag (k line dt : Nat) (s : State) : Host.Outcome State Fault Refusal :=
  s.on fun _ d => wireFlag k line (d.advance dt)

/-- WIRE_FLAG_CLEAR (R256). The legs have disagreed correctly for 1 ms and the wire flag clears. -/
def execWireFlagClear (k line dt : Nat) (s : State) : Host.Outcome State Fault Refusal :=
  s.on fun _ d => wireClear k line (d.advance dt)

/-- PRESET (R268). A write of ENC_k.CMD.PRESET loads POS and RAW from POS_SET and clears the reference. -/
def execPreset (k : Nat) (s : State) : Host.Outcome State Fault Refusal :=
  s.on fun u d => hostWrite u ((0x91 + k) * 4096 + 0x58) 2 d

/-- ARM_HOME (R268). A write of CMD.ARM_HOME arms a home at the next index. -/
def execArmHome (k : Nat) (s : State) : Host.Outcome State Fault Refusal :=
  s.on fun u d => hostWrite u ((0x91 + k) * 4096 + 0x58) 4 d

/-- CLR_REF (R268). A write of CMD.CLR_REF clears REF_SET and MIS_RUN. -/
def execClrRef (k : Nat) (s : State) : Host.Outcome State Fault Refusal :=
  s.on fun u d => hostWrite u ((0x91 + k) * 4096 + 0x58) 1 d

/-- SNAP (R269). A write of ENCC.SNAP.GO latches POS of every channel and the TS in one sample. -/
def execSnap (s : State) : Host.Outcome State Fault Refusal := s.on fun u d => hostWrite u 0x90040 1 d

/-- STANDSTILL (R272). No edge has been counted for STILL.US, and the speed becomes 0 and invalid. -/
def execStandstill (k : Nat) (s : State) : Host.Outcome State Fault Refusal := s.on fun _ d => standstill k d

/-- SHEET_EDGE (R273). An accepted sheet edge is stamped and pushed into the edge FIFOs, or rejected within the
lockout. -/
def execSheetEdge (k : Nat) (rising : Bool) (dt : Nat) (s : State) : Host.Outcome State Fault Refusal :=
  s.on fun _ d => sheetEdge k rising (d.advance dt)

/-- OUT_EN_SET (R276). Setting EOUT_m.CFG.OUT_EN turns the drivers on and sets H and Q0. -/
def execOutEnSet (m : Nat) (s : State) : Host.Outcome State Fault Refusal :=
  s.on fun u d => hostPatch u ((0x98 + m) * 4096 + 0x40) 0x80000000 0x80000000 d

/-- EOUT_STEP (R277). An encoder-emulation output sends its next quadrature step once MIN_STEP has passed. -/
def execEoutStep (m : Nat) (s : State) : Host.Outcome State Fault Refusal := s.on fun _ d => eoutStep m d

end Sys2Proof.Machine
end

