-- ==== Sys2Proof/Machine/ExecService.lean ====
section
/-!
DEFINITION. What the commands do: motion axes and spit bursts (chapter 16).  Each meaning calls the operation that the block's own file defines.
-/
namespace Sys2Proof.Machine

/-- MOT_START (R370). A write of MOT_a.CMD.START plans a move to TARGET, or is refused. -/
def execMotStart (a : Nat) (s : State) : Host.Outcome State Fault Refusal :=
  s.on fun u d => hostWrite u ((0x141 + a) * 4096 + 0x48) 1 d

/-- MOT_HOME (R383). A write of CMD.HOME starts a homing run. -/
def execMotHome (a : Nat) (s : State) : Host.Outcome State Fault Refusal :=
  s.on fun u d => hostWrite u ((0x141 + a) * 4096 + 0x48) 2 d

/-- SET_POS (R373). A write of CMD.SET_POS sets POS at standstill, or is refused. -/
def execSetPos (a : Nat) (s : State) : Host.Outcome State Fault Refusal :=
  s.on fun u d => hostWrite u ((0x141 + a) * 4096 + 0x48) 16 d

/-- MOT_STOP (R374). A write of CMD.STOP requests a controlled stop. -/
def execMotStop (a : Nat) (s : State) : Host.Outcome State Fault Refusal :=
  s.on fun u d => hostWrite u ((0x141 + a) * 4096 + 0x48) 4 d

/-- QSTOP (R374). A write of CMD.QSTOP requests a quick stop. -/
def execQstop (a : Nat) (s : State) : Host.Outcome State Fault Refusal :=
  s.on fun u d => hostWrite u ((0x141 + a) * 4096 + 0x48) 8 d

/-- STOP_ALL (R374). A write of MOTC.STOP_ALL requests a controlled stop of every axis. -/
def execStopAll (s : State) : Host.Outcome State Fault Refusal := s.on fun u d => hostWrite u 0x140044 1 d

/-- PLANNER_TICK (R370). Every 8 µs the planner recomputes each axis's acceleration, speed and position, applying
limit writes and stall checks. -/
def execPlannerTick (loads : List Nat) (s : State) : Host.Outcome State Fault Refusal := s.on fun _ d => plannerTick loads d

/-- IN_POS (R370). The commanded position has stood at TARGET for SETTLE_US, and IN_POS is set. -/
def execInPos (a : Nat) (s : State) : Host.Outcome State Fault Refusal := s.on fun _ d => inPos a d

/-- HOLD_CURRENT (R379). The axis has stood still for HOLD_DELAY ms and the current drops to I_HOLD. -/
def execHoldCurrent (a : Nat) (s : State) : Host.Outcome State Fault Refusal := s.on fun _ d => holdCurrent a d

/-- PWM_PERIOD (R378). Each 40 kHz PWM period a phase current is converted and regulated. -/
def execPwmPeriod (a phase code : Nat) (s : State) : Host.Outcome State Fault Refusal := s.on fun _ d => pwmPeriod a phase code d

/-- LIMIT_EDGE (R384). A raw edge of a limit input latches POS and counts toward chatter. -/
def execLimitEdge (a lim : Nat) (high : Bool) (dt : Nat) (s : State) : Host.Outcome State Fault Refusal :=
  s.on fun _ d => limitEdge a lim high (d.advance dt)

/-- LIMIT_TRIP (R385). A limit input has stayed tripped for DEBOUNCE.US and acts as overtravel or a homing reference.
-/
def execLimitTrip (a lim : Nat) (s : State) : Host.Outcome State Fault Refusal := s.on fun _ d => limitTrip a lim d

/-- SPIT_GO (R386). A write of MOTC.SPIT_CMD.GO starts a spit burst on the selected ports, or is refused. -/
def execSpitGo (s : State) : Host.Outcome State Fault Refusal := s.on fun u d => hostWrite u 0x140054 1 d

/-- SPIT_CYCLE (R386). A port's next spit cycle falls due after PERIOD_US and fires every eligible nozzle once. -/
def execSpitCycle (n : Nat) (s : State) : Host.Outcome State Fault Refusal := s.on fun _ d => spitCycle n d

/-- SPIT_STOP (R387). A write of SPIT_CMD.STOP ends every port at the end of its current spit cycle. -/
def execSpitStop (s : State) : Host.Outcome State Fault Refusal := s.on fun u d => hostWrite u 0x140054 2 d

end Sys2Proof.Machine
end

