-- ==== Sys2Proof/Machine/ExecSqueeze.lean ====
section
/-!
DEFINITION. What the commands do: the compressors (chapter 15).  Each meaning calls the operation that the block's own file defines.
-/
namespace Sys2Proof.Machine

/-- PUSH (R364). A write of CMP_k.PUSH.GO appends ENTRY_0 to ENTRY_15 to the compressor queue, or is discarded when
full. -/
def execPush (k : Nat) (s : State) : Host.Outcome State Fault Refusal :=
  s.on fun u d => hostWrite u ((0x41 + k) * 4096 + 0x44) 1 d

/-- COMPRESSOR_JOB_START (R358). An idle compressor takes its next queue entry and checks it, ending with BAD_JOB on a
failure. -/
def execCompressorJobStart (k : Nat) (s : State) : Host.Outcome State Fault Refusal := s.on fun _ d => cmpJobStart k d

/-- COMPRESSOR_JOB_END (R361). A compressor job finishes its blocks, list entries or end record and result record, and
raises its events. -/
def execCompressorJobEnd (k : Nat) (host : Bytes) (err late : Nat) (s : State) : Host.Outcome State Fault Refusal :=
  s.on fun _ d => cmpJobEnd k host err late d

end Sys2Proof.Machine
end

