-- ==== Sys2Proof/Machine/ExecStores.lean ====
section
/-!
DEFINITION. What the commands do: Basin, Shallows and their care (chapter 13).  Each meaning calls the operation that the block's own file defines.
-/
namespace Sys2Proof.Machine

/-- BASIN_REQUEST (R319). A Basin request is arbitrated by class and served, delayed, refused or returned poisoned. -/
def execBasinRequest (master cls addr len : Nat) (write : Bool) (data : Bytes) (err late : Nat) (s : State) : Host.Outcome State Fault Refusal :=
  s.on fun _ d => basinRequest master cls addr len write data err late d

/-- CORRECTED_WRITEBACK (R316). A sector read with a single-bit error is written back corrected within 1 µs. -/
def execCorrectedWriteback (bad : Bool) (s : State) : Host.Outcome State Fault Refusal := s.on fun _ d => correctedWriteback bad d

/-- SHALLOWS_ACCESS (R318). A Shallows word access is served in slice order, and a host write in a print mode is
discarded. -/
def execShallowsAccess (master addr len : Nat) (write : Bool) (data : Bytes) (err : Nat) (s : State) : Host.Outcome State Fault Refusal :=
  s.on fun _ d => shallowsAccess master addr len write data err d

/-- THROTTLE_ENGAGE (R320). The lowest lane slack falls below SLACK_US and classes C2 to C5 are throttled. -/
def execThrottleEngage (s : State) : Host.Outcome State Fault Refusal := s.on fun _ d => throttleEngage d

/-- THROTTLE_RELEASE (R320). The lowest slack has stayed at or above 1.25 × SLACK_US for 10 µs and the throttle
releases. -/
def execThrottleRelease (s : State) : Host.Outcome State Fault Refusal := s.on fun _ d => throttleRelease d

/-- C5_DEADLINE_DROP (R320). A C5 request not served within its deadline is dropped and counted. -/
def execC5DeadlineDrop (s : State) : Host.Outcome State Fault Refusal := s.on fun _ d => c5Deadline d

/-- BASIN_SCRUB_BURST (R323). Turnover scrubs the next 256-byte Basin burst, correcting sectors and ending the pass at
the top. -/
def execBasinScrubBurst (errs : List Nat) (s : State) : Host.Outcome State Fault Refusal := s.on fun _ d => scrubBurst errs d

/-- SCRUB_LATE (R323). A scrub pass lasts longer than its period. -/
def execScrubLate (s : State) : Host.Outcome State Fault Refusal := s.on fun _ d => scrubLate d

/-- SHALLOWS_SCRUB_WORD (R323). Turnover scrubs the next Shallows word of a slice. -/
def execShallowsScrubWord (slice err : Nat) (s : State) : Host.Outcome State Fault Refusal :=
  s.on fun _ d => scrubWord slice err d

/-- TELEMETRY_RECORD (R324). Every PERIOD_MS Turnover writes a telemetry record, or loses it. -/
def execTelemetryRecord (waits : Bool) (s : State) : Host.Outcome State Fault Refusal := s.on fun _ d => telemetryRecord waits d

/-- BASIN_WIPE_DONE (R325). The Basin wipe completes, BASIN_READY is set and BAS returns to RUN. -/
def execBasinWipeDone (s : State) : Host.Outcome State Fault Refusal := s.on fun _ d => basinWiped d

/-- SHALLOWS_WIPE_DONE (R325). The Shallows wipe completes, SHALLOWS_READY is set and SHL returns to RUN. -/
def execShallowsWipeDone (s : State) : Host.Outcome State Fault Refusal := s.on fun _ d => shallowsWiped d

end Sys2Proof.Machine
end

