-- ==== Sys2Proof/Machine/ExecSupply.lean ====
section
/-!
DEFINITION. What the commands do: resets, clocks and power domains (chapter 20).  Each meaning calls the operation that the block's own file defines.
-/
namespace Sys2Proof.Machine

/-- COLD_RESET (R467). A supply-monitor reset at ramp clears everything and starts bring-up at B1. -/
def execColdReset (addr : Nat) (s : State) : Host.Outcome State Fault Refusal := s.always fun _ d => coldReset addr d

/-- PIN_RESET (R467). RESET_N rises after being held low with supplies valid, and bring-up starts at B1 keeping the
reset cause and LOCK latch. -/
def execPinReset (addr : Nat) (s : State) : Host.Outcome State Fault Refusal := s.always fun _ d => pinReset addr d

/-- SOFTWARE_RESET (R467). A write of 0x5E7B to SYS.RESET.KEY starts a software reset, or is discarded at LOCK. -/
def execSoftwareReset (key : Nat) (s : State) : Host.Outcome State Fault Refusal := s.on fun u d => hostWrite u 0x70 key d

/-- REFCLK_BAD (R459). REFCLK leaves tolerance or shows no edge for 1 µs. -/
def execRefclkBad (missing : Bool) (ppm : Int) (s : State) : Host.Outcome State Fault Refusal :=
  s.on fun _ d => refclkBad missing ppm d

/-- PLL_UNLOCK (R459). A PLL loses lock, which forces FIRE low and, for the root PLL, clears CLOCKS_LOCKED. -/
def execPllUnlock (pll : Nat) (s : State) : Host.Outcome State Fault Refusal := s.on fun _ d => pllUnlock pll d

/-- PLL_RELOCK (R459). A PLL regains lock and CLK.STAT follows it. -/
def execPllRelock (pll : Nat) (s : State) : Host.Outcome State Fault Refusal := s.on fun _ d => pllRelock pll d

/-- DLL_UNLOCK (R460). The TS_CLK DLL loses lock and TRG issues no cycle. -/
def execDllUnlock (s : State) : Host.Outcome State Fault Refusal := s.on fun _ d => dllUnlock d

/-- DLL_RELOCK (R460). The TS_CLK DLL regains lock, and cycles resume after one accepted run of target 9. -/
def execDllRelock (s : State) : Host.Outcome State Fault Refusal := s.on fun _ d => dllRelock d

/-- DOM_ON (R462). A write of PWR.DOM_ON closes the switches of the selected domains. -/
def execDomOn (mask : Nat) (s : State) : Host.Outcome State Fault Refusal := s.on fun u d => hostWrite u 0x2040 mask d

/-- DOM_OFF (R462). A write of PWR.DOM_OFF asks the selected domains to drain and turn off, or refuses them. -/
def execDomOff (mask on : Nat) (s : State) : Host.Outcome State Fault Refusal := s.on fun _ d => domOff mask on d

/-- DOMAIN_OFF_DONE (R462). Every block of a domain has reached OFF and its switch opens. -/
def execDomainOffDone (dom : Nat) (s : State) : Host.Outcome State Fault Refusal := s.on fun _ d => domainOffDone dom d

/-- DOMAIN_ON_DONE (R462). A domain's blocks are up at their reset values after its switch closed. -/
def execDomainOnDone (dom : Nat) (s : State) : Host.Outcome State Fault Refusal := s.on fun _ d => domainOnDone dom d

/-- SUPPLY_LOW (R466). A supply monitor trips while the device runs. -/
def execSupplyLow (which : Nat) (s : State) : Host.Outcome State Fault Refusal := s.on fun _ d => supplyLow which d

/-- BROWN_OUT_RESET (R466). 2 µs after SUPPLY_LOW the supply has not recovered and the device is reset. -/
def execBrownOutReset (s : State) : Host.Outcome State Fault Refusal := s.on fun _ d => brownOut d

end Sys2Proof.Machine
end

