-- ==== Sys2Proof/Machine/ExecTransfers.lean ====
section
/-!
DEFINITION. What the commands do: the DMA channels (chapter 14).  Each meaning calls the operation that the block's own file defines.
-/
namespace Sys2Proof.Machine

/-- DMA_START (R340). A write of DMA_n.CMD.START loads PC from PROG and runs or pends the program. -/
def execDmaStart (n : Nat) (s : State) : Host.Outcome State Fault Refusal :=
  s.on fun u d => hostWrite u ((0x20 + n) * 4096 + 0x4C) 1 d

/-- DMA_RESUME (R340). A write of CMD.RESUME continues an ended run at PC. -/
def execDmaResume (n : Nat) (s : State) : Host.Outcome State Fault Refusal :=
  s.on fun u d => hostWrite u ((0x20 + n) * 4096 + 0x4C) 2 d

/-- INSTRUCTION_FETCH (R329). A fetched program line arrives and the next instruction is decoded, ending the run on a
bad opcode or field. -/
def execInstructionFetch (n ahead : Nat) (host : Bytes) (err : Nat) (s : State) : Host.Outcome State Fault Refusal :=
  s.on fun _ d => instructionFetch n ahead host err d

/-- MOVE (R334). A MOVE instruction computes its addresses and issues its 64-byte bursts. -/
def execMove (n : Nat) (s : State) : Host.Outcome State Fault Refusal := s.on fun _ d => dmaMove n d

/-- BURST_DONE (R335). A DMA burst completes at its target, or fails and ends the run. -/
def execBurstDone (n err late : Nat) (host : Bytes) (s : State) : Host.Outcome State Fault Refusal :=
  s.on fun u d => burstDone n err late host u d

/-- LOOP_BEGIN (R333). A LOOP_BEGIN instruction opens a loop level. -/
def execLoopBegin (n : Nat) (s : State) : Host.Outcome State Fault Refusal := s.on fun _ d => loopBegin n d

/-- LOOP_END (R333). A LOOP_END instruction closes one pass of the innermost level. -/
def execLoopEnd (n : Nat) (s : State) : Host.Outcome State Fault Refusal := s.on fun _ d => loopEnd n d

/-- WAIT (R337). A WAIT instruction starts waiting on a source level or for a delay. -/
def execWait (n : Nat) (s : State) : Host.Outcome State Fault Refusal := s.on fun _ d => dmaWait n d

/-- WAIT_RELEASE (R337). The condition of a waiting WAIT holds and it ends, clearing the releasing channel's signal
when ACK is set. -/
def execWaitRelease (n : Nat) (s : State) : Host.Outcome State Fault Refusal := s.on fun _ d => waitRelease n d

/-- WAIT_TIMEOUT (R337). A WAIT's timeout passes and the run ends with WAIT_TIMEOUT. -/
def execWaitTimeout (n : Nat) (s : State) : Host.Outcome State Fault Refusal := s.on fun _ d => waitTimeout n d

/-- WAIT_DELAY_END (R337). TS reaches the end of a WAIT delay and the program continues. -/
def execWaitDelayEnd (n : Nat) (s : State) : Host.Outcome State Fault Refusal := s.on fun _ d => waitDelayEnd n d

/-- SIGNAL (R338). A SIGNAL instruction copies its code and sets the channel's SIGNAL bit. -/
def execSignal (n : Nat) (s : State) : Host.Outcome State Fault Refusal := s.on fun _ d => dmaSignal n d

/-- SET (R332). A SET instruction writes a register or HOST_BASE. -/
def execSet (n : Nat) (s : State) : Host.Outcome State Fault Refusal := s.on fun u d => dmaSet n u d

/-- NOP (R331). A NOP instruction does nothing. -/
def execNop (n : Nat) (s : State) : Host.Outcome State Fault Refusal := s.on fun _ d => dmaNop n d

/-- HALT (R342). A HALT instruction ends the run with DONE or DONE_DELAYED. -/
def execHalt (n : Nat) (s : State) : Host.Outcome State Fault Refusal := s.on fun _ d => dmaHalt n d

/-- KILL_MAP (R344). A write of DMAC.KILL_MAP kills each selected channel. -/
def execKillMap (map : Nat) (s : State) : Host.Outcome State Fault Refusal := s.on fun u d => hostWrite u 0x1F050 map d

end Sys2Proof.Machine
end

