-- ==== Sys2Proof/Machine/ExecTrims.lean ====
section
/-!
DEFINITION. What the commands do: calibration (chapter 18).  Each meaning calls the operation that the block's own file defines.
-/
namespace Sys2Proof.Machine

/-- DIE_SAMPLE (R426). Every 1 ms the die temperature is sampled, possibly triggering a calibration run or a die
limit. -/
def execDieSample (t : Int) (s : State) : Host.Outcome State Fault Refusal := s.on fun _ d => dieSample t d

/-- CAL_RUN (R426). A write of CAL.CMD.RUN queues a run of the CMD_MAP targets. -/
def execCalRun (s : State) : Host.Outcome State Fault Refusal := s.on fun u d => hostPatch u 0x8048 1 1 d

/-- RESTORE (R433). A write of CAL.CMD.RESTORE runs the target of a failed channel to restore it. -/
def execRestore (chan : Nat) (s : State) : Host.Outcome State Fault Refusal :=
  s.on fun u d => hostWrite u 0x8048 (chan * 256 + 2) d

/-- TARGET_RUN_END (R431). A calibration target's run ends and its result is accepted or discarded, and the next
queued target starts. -/
def execTargetRunEnd (t : Nat) (ms : List Int) (quality : Nat) (s : State) : Host.Outcome State Fault Refusal :=
  s.on fun _ d => scanResume (targetRunEnd t ms quality d)

/-- SPARE_TAKEOVER (R428). At the next conversion-slot boundary the spare takes over a channel's multiplexer and
schedule. -/
def execSpareTakeover (s : State) : Host.Outcome State Fault Refusal := s.on fun _ d => scanResume (spareTakeover d)

/-- SPARE_HANDBACK (R428). At the next slot boundary after a run, the channel resumes its work and the spare becomes
free. -/
def execSpareHandback (s : State) : Host.Outcome State Fault Refusal := s.on fun _ d => scanResume (spareHandback d)

/-- TRIM_USER (R424). A write of CAL.USER sets the user offset and starts a slew to the new target value. -/
def execTrimUser (v : Nat) (s : State) : Host.Outcome State Fault Refusal := s.on fun u d => hostWrite u 0x8078 v d

end Sys2Proof.Machine
end

