-- ==== Sys2Proof/Machine/Dispatch.lean ====
section
/-!
DEFINITION. The meaning of every command, one arm per constructor.
-/
namespace Sys2Proof.Machine

/-- The effect of a command on everything but the queue. -/
def exec (i : Instr) (s : State) : Host.Outcome State Fault Refusal :=
  match i with
  | .registerWrite master internal addr size value => Sys2Proof.Machine.execRegisterWrite master internal addr size value s
  | .loReadLatch master addr size => Sys2Proof.Machine.execLoReadLatch master addr size s
  | .readClear master addr size => Sys2Proof.Machine.execReadClear master addr size s
  | .hostBar2Access addr len write data err late => Sys2Proof.Machine.execHostBar2Access addr len write data err late s
  | .hostBar4Access addr size write value err => Sys2Proof.Machine.execHostBar4Access addr size write value err s
  | .functionLevelReset down => Sys2Proof.Machine.execFunctionLevelReset down s
  | .levelUnlock key => Sys2Proof.Machine.execLevelUnlock key s
  | .levelWindowExpiry => Sys2Proof.Machine.execLevelWindowExpiry s
  | .levelSet page v => Sys2Proof.Machine.execLevelSet page v s
  | .enableClear page => Sys2Proof.Machine.execEnableClear page s
  | .enableSet page => Sys2Proof.Machine.execEnableSet page s
  | .drainBoundaryReached page => Sys2Proof.Machine.execDrainBoundaryReached page s
  | .drain page => Sys2Proof.Machine.execDrain page s
  | .softReset page => Sys2Proof.Machine.execSoftReset page s
  | .kill page => Sys2Proof.Machine.execKill page s
  | .drainTimeout page => Sys2Proof.Machine.execDrainTimeout page s
  | .domainWaitExpiry dom => Sys2Proof.Machine.execDomainWaitExpiry dom s
  | .replyArrival page epoch seq => Sys2Proof.Machine.execReplyArrival page epoch seq s
  | .evClear page mask => Sys2Proof.Machine.execEvClear page mask s
  | .evForce page mask => Sys2Proof.Machine.execEvForce page mask s
  | .fltLocalClear page => Sys2Proof.Machine.execFltLocalClear page s
  | .ownerWrite n expect tag => Sys2Proof.Machine.execOwnerWrite n expect tag s
  | .revokeClient client => Sys2Proof.Machine.execRevokeClient client s
  | .vecPendClear mask => Sys2Proof.Machine.execVecPendClear mask s
  | .msixMessage v => Sys2Proof.Machine.execMsixMessage v s
  | .providerLost => Sys2Proof.Machine.execProviderLost s
  | .modeReqGo mode atLine => Sys2Proof.Machine.execModeReqGo mode atLine s
  | .modeChanged => Sys2Proof.Machine.execModeChanged s
  | .clocksLocked => Sys2Proof.Machine.execClocksLocked s
  | .fusesRead => Sys2Proof.Machine.execFusesRead s
  | .pcieReady width speed => Sys2Proof.Machine.execPcieReady width speed s
  | .springScriptStart => Sys2Proof.Machine.execSpringScriptStart s
  | .springWrite => Sys2Proof.Machine.execSpringWrite s
  | .springModify => Sys2Proof.Machine.execSpringModify s
  | .springPoll => Sys2Proof.Machine.execSpringPoll s
  | .springPollMet => Sys2Proof.Machine.execSpringPollMet s
  | .springPollTimeout => Sys2Proof.Machine.execSpringPollTimeout s
  | .springDelay => Sys2Proof.Machine.execSpringDelay s
  | .springDelayEnd => Sys2Proof.Machine.execSpringDelayEnd s
  | .springEndEntry => Sys2Proof.Machine.execSpringEndEntry s
  | .springTimeLimit => Sys2Proof.Machine.execSpringTimeLimit s
  | .geomLoad ports => Sys2Proof.Machine.execGeomLoad ports s
  | .geomLoadDone poisoned => Sys2Proof.Machine.execGeomLoadDone poisoned s
  | .qTailWrite p v => Sys2Proof.Machine.execQTailWrite p v s
  | .jobStart p descBad dirBad => Sys2Proof.Machine.execJobStart p descBad dirBad s
  | .qCancel p => Sys2Proof.Machine.execQCancel p s
  | .qHold p on => Sys2Proof.Machine.execQHold p on s
  | .qEnable p on => Sys2Proof.Machine.execQEnable p on s
  | .encoderEdge k b dt => Sys2Proof.Machine.execEncoderEdge k b dt s
  | .cycleScheduledTime n => Sys2Proof.Machine.execCycleScheduledTime n s
  | .lat n => Sys2Proof.Machine.execLat n s
  | .slotMark n => Sys2Proof.Machine.execSlotMark n s
  | .cycleSkip n => Sys2Proof.Machine.execCycleSkip n s
  | .slowdownRepeat => Sys2Proof.Machine.execSlowdownRepeat s
  | .fixPeriodWrite v => Sys2Proof.Machine.execFixPeriodWrite v s
  | .fixedGeneratorStart => Sys2Proof.Machine.execFixedGeneratorStart s
  | .syntheticLineBoundary => Sys2Proof.Machine.execSyntheticLineBoundary s
  | .ringSourceTimeout => Sys2Proof.Machine.execRingSourceTimeout s
  | .cycleBuild n => Sys2Proof.Machine.execCycleBuild n s
  | .tileFetch n poisoned => Sys2Proof.Machine.execTileFetch n poisoned s
  | .tileDecodeDone n bad => Sys2Proof.Machine.execTileDecodeDone n bad s
  | .fillLate n => Sys2Proof.Machine.execFillLate n s
  | .maskLoad n => Sys2Proof.Machine.execMaskLoad n s
  | .maskLoadDone n poisoned => Sys2Proof.Machine.execMaskLoadDone n poisoned s
  | .nozOvr code n noz => Sys2Proof.Machine.execNozOvr code n noz s
  | .segmentVote n errA errB => Sys2Proof.Machine.execSegmentVote n errA errB s
  | .digestVote n errA errB => Sys2Proof.Machine.execDigestVote n errA errB s
  | .engineCheck n flagsA flagsB => Sys2Proof.Machine.execEngineCheck n flagsA flagsB s
  | .engineWatchdog n e => Sys2Proof.Machine.execEngineWatchdog n e s
  | .serialiserSwitch n => Sys2Proof.Machine.execSerialiserSwitch n s
  | .failoverOverlapEnd => Sys2Proof.Machine.execFailoverOverlapEnd s
  | .engSwitch => Sys2Proof.Machine.execEngSwitch s
  | .engResync => Sys2Proof.Machine.execEngResync s
  | .engRepair => Sys2Proof.Machine.execEngRepair s
  | .resyncStart => Sys2Proof.Machine.execResyncStart s
  | .resyncPortCopy n => Sys2Proof.Machine.execResyncPortCopy n s
  | .resyncCompare n errA errB => Sys2Proof.Machine.execResyncCompare n errA errB s
  | .bistWindowStart => Sys2Proof.Machine.execBistWindowStart s
  | .bistWindowEnd pass => Sys2Proof.Machine.execBistWindowEnd pass s
  | .autoRepair e => Sys2Proof.Machine.execAutoRepair e s
  | .fireWWrite n k main => Sys2Proof.Machine.execFireWWrite n k main s
  | .temperatureSample n outcome r => Sys2Proof.Machine.execTemperatureSample n outcome r s
  | .thmSlowdownRepeat => Sys2Proof.Machine.execThmSlowdownRepeat s
  | .warmingPulse n => Sys2Proof.Machine.execWarmingPulse n s
  | .hotRearm n => Sys2Proof.Machine.execHotRearm n s
  | .energyTableCommit slot args cnt tag => Sys2Proof.Machine.execEnergyTableCommit slot args cnt tag s
  | .energyTableCopyDone poisoned => Sys2Proof.Machine.execEnergyTableCopyDone poisoned s
  | .trainingStart n => Sys2Proof.Machine.execTrainingStart n s
  | .linkTrain n => Sys2Proof.Machine.execLinkTrain n s
  | .linkCmdDown n => Sys2Proof.Machine.execLinkCmdDown n s
  | .bckSweepStep n ok => Sys2Proof.Machine.execBckSweepStep n ok s
  | .laneSweepStep n => Sys2Proof.Machine.execLaneSweepStep n s
  | .alignSendEnd n => Sys2Proof.Machine.execAlignSendEnd n s
  | .trainStepTimeout n => Sys2Proof.Machine.execTrainStepTimeout n s
  | .trainingRetry n => Sys2Proof.Machine.execTrainingRetry n s
  | .linkReset n => Sys2Proof.Machine.execLinkReset n s
  | .latReport n tag refused => Sys2Proof.Machine.execLatReport n tag refused s
  | .frameBad n ordinal seg type row => Sys2Proof.Machine.execFrameBad n ordinal seg type row s
  | .readData n tag value => Sys2Proof.Machine.execReadData n tag value s
  | .writeAck n tag refused => Sys2Proof.Machine.execWriteAck n tag refused s
  | .headStatus n code => Sys2Proof.Machine.execHeadStatus n code s
  | .latErr n width => Sys2Proof.Machine.execLatErr n width s
  | .prbsResult n lane mism => Sys2Proof.Machine.execPrbsResult n lane mism s
  | .aligned n ok => Sys2Proof.Machine.execAligned n ok s
  | .bckMessageDropped m => Sys2Proof.Machine.execBckMessageDropped m s
  | .latReportTimeout n => Sys2Proof.Machine.execLatReportTimeout n s
  | .bckSilence n => Sys2Proof.Machine.execBckSilence n s
  | .degradeInterval n => Sys2Proof.Machine.execDegradeInterval n s
  | .hregCmdGo n write addr => Sys2Proof.Machine.execHregCmdGo n write addr s
  | .ctrlTimeout n => Sys2Proof.Machine.execCtrlTimeout n s
  | .scanCmdGo => Sys2Proof.Machine.execScanCmdGo s
  | .scanCmdStop => Sys2Proof.Machine.execScanCmdStop s
  | .scanStepDone c sumLo sumHi full => Sys2Proof.Machine.execScanStepDone c sumLo sumHi full s
  | .scanStepRepeat c => Sys2Proof.Machine.execScanStepRepeat c s
  | .soundingDecision n rs full => Sys2Proof.Machine.execSoundingDecision n rs full s
  | .healthWriteback => Sys2Proof.Machine.execHealthWriteback s
  | .wearFlush bad => Sys2Proof.Machine.execWearFlush bad s
  | .sigLoad => Sys2Proof.Machine.execSigLoad s
  | .sigLoadDone poisoned => Sys2Proof.Machine.execSigLoadDone poisoned s
  | .illegalChange k dt => Sys2Proof.Machine.execIllegalChange k dt s
  | .index k rising dt => Sys2Proof.Machine.execIndex k rising dt s
  | .wireFlag k line dt => Sys2Proof.Machine.execWireFlag k line dt s
  | .wireFlagClear k line dt => Sys2Proof.Machine.execWireFlagClear k line dt s
  | .preset k => Sys2Proof.Machine.execPreset k s
  | .armHome k => Sys2Proof.Machine.execArmHome k s
  | .clrRef k => Sys2Proof.Machine.execClrRef k s
  | .snap => Sys2Proof.Machine.execSnap s
  | .standstill k => Sys2Proof.Machine.execStandstill k s
  | .sheetEdge k rising dt => Sys2Proof.Machine.execSheetEdge k rising dt s
  | .outEnSet m => Sys2Proof.Machine.execOutEnSet m s
  | .eoutStep m => Sys2Proof.Machine.execEoutStep m s
  | .blockLock l => Sys2Proof.Machine.execBlockLock l s
  | .syncHeaderLoss l => Sys2Proof.Machine.execSyncHeaderLoss l s
  | .controlBlock l bytes crc => Sys2Proof.Machine.execControlBlock l bytes crc s
  | .controlBlockTimeout l => Sys2Proof.Machine.execControlBlockTimeout l s
  | .linkUpTimeout l => Sys2Proof.Machine.execLinkUpTimeout l s
  | .linkRetry l => Sys2Proof.Machine.execLinkRetry l s
  | .idle c dt => Sys2Proof.Machine.execIdle c dt s
  | .hello c dt => Sys2Proof.Machine.execHello c dt s
  | .delayExchangeTimer l => Sys2Proof.Machine.execDelayExchangeTimer l s
  | .dlyReq c dt => Sys2Proof.Machine.execDlyReq c dt s
  | .dlyResp c dt => Sys2Proof.Machine.execDlyResp c dt s
  | .positionCellTimer => Sys2Proof.Machine.execPositionCellTimer s
  | .position c dt => Sys2Proof.Machine.execPosition c dt s
  | .timeCellTimer => Sys2Proof.Machine.execTimeCellTimer s
  | .time c dt => Sys2Proof.Machine.execTime c dt s
  | .heartbeatTimer => Sys2Proof.Machine.execHeartbeatTimer s
  | .heartbeat c dt => Sys2Proof.Machine.execHeartbeat c dt s
  | .sheetEdgeCell c dt => Sys2Proof.Machine.execSheetEdgeCell c dt s
  | .managerStart => Sys2Proof.Machine.execManagerStart s
  | .heartbeatLoss => Sys2Proof.Machine.execHeartbeatLoss s
  | .claim c dt => Sys2Proof.Machine.execClaim c dt s
  | .claimWaitEnd => Sys2Proof.Machine.execClaimWaitEnd s
  | .takeover => Sys2Proof.Machine.execTakeover s
  | .handover => Sys2Proof.Machine.execHandover s
  | .join c dt => Sys2Proof.Machine.execJoin c dt s
  | .leave c dt => Sys2Proof.Machine.execLeave c dt s
  | .statusTimer => Sys2Proof.Machine.execStatusTimer s
  | .statusCell c dt => Sys2Proof.Machine.execStatusCell c dt s
  | .memberTimeout a => Sys2Proof.Machine.execMemberTimeout a s
  | .censusWaitEnd => Sys2Proof.Machine.execCensusWaitEnd s
  | .slowdown c dt => Sys2Proof.Machine.execSlowdown c dt s
  | .regRead c dt => Sys2Proof.Machine.execRegRead c dt s
  | .regWrite c dt => Sys2Proof.Machine.execRegWrite c dt s
  | .bulkEnd c dt => Sys2Proof.Machine.execBulkEnd c dt s
  | .ack c dt => Sys2Proof.Machine.execAck c dt s
  | .commandAckTimeout => Sys2Proof.Machine.execCommandAckTimeout s
  | .rcmdGo write dst => Sys2Proof.Machine.execRcmdGo write dst s
  | .bulkCmdGo dst => Sys2Proof.Machine.execBulkCmdGo dst s
  | .bulk c dt => Sys2Proof.Machine.execBulk c dt s
  | .faultCell c dt => Sys2Proof.Machine.execFaultCell c dt s
  | .eventCell c dt => Sys2Proof.Machine.execEventCell c dt s
  | .basinRequest master cls addr len write data err late => Sys2Proof.Machine.execBasinRequest master cls addr len write data err late s
  | .correctedWriteback bad => Sys2Proof.Machine.execCorrectedWriteback bad s
  | .shallowsAccess master addr len write data err => Sys2Proof.Machine.execShallowsAccess master addr len write data err s
  | .throttleEngage => Sys2Proof.Machine.execThrottleEngage s
  | .throttleRelease => Sys2Proof.Machine.execThrottleRelease s
  | .c5DeadlineDrop => Sys2Proof.Machine.execC5DeadlineDrop s
  | .basinScrubBurst errs => Sys2Proof.Machine.execBasinScrubBurst errs s
  | .scrubLate => Sys2Proof.Machine.execScrubLate s
  | .shallowsScrubWord slice err => Sys2Proof.Machine.execShallowsScrubWord slice err s
  | .telemetryRecord waits => Sys2Proof.Machine.execTelemetryRecord waits s
  | .basinWipeDone => Sys2Proof.Machine.execBasinWipeDone s
  | .shallowsWipeDone => Sys2Proof.Machine.execShallowsWipeDone s
  | .dmaStart n => Sys2Proof.Machine.execDmaStart n s
  | .dmaResume n => Sys2Proof.Machine.execDmaResume n s
  | .instructionFetch n ahead host err => Sys2Proof.Machine.execInstructionFetch n ahead host err s
  | .move n => Sys2Proof.Machine.execMove n s
  | .burstDone n err late host => Sys2Proof.Machine.execBurstDone n err late host s
  | .loopBegin n => Sys2Proof.Machine.execLoopBegin n s
  | .loopEnd n => Sys2Proof.Machine.execLoopEnd n s
  | .wait n => Sys2Proof.Machine.execWait n s
  | .waitRelease n => Sys2Proof.Machine.execWaitRelease n s
  | .waitTimeout n => Sys2Proof.Machine.execWaitTimeout n s
  | .waitDelayEnd n => Sys2Proof.Machine.execWaitDelayEnd n s
  | .signal n => Sys2Proof.Machine.execSignal n s
  | .set n => Sys2Proof.Machine.execSet n s
  | .nop n => Sys2Proof.Machine.execNop n s
  | .halt n => Sys2Proof.Machine.execHalt n s
  | .killMap map => Sys2Proof.Machine.execKillMap map s
  | .push k => Sys2Proof.Machine.execPush k s
  | .compressorJobStart k => Sys2Proof.Machine.execCompressorJobStart k s
  | .compressorJobEnd k host err late => Sys2Proof.Machine.execCompressorJobEnd k host err late s
  | .motStart a => Sys2Proof.Machine.execMotStart a s
  | .motHome a => Sys2Proof.Machine.execMotHome a s
  | .setPos a => Sys2Proof.Machine.execSetPos a s
  | .motStop a => Sys2Proof.Machine.execMotStop a s
  | .qstop a => Sys2Proof.Machine.execQstop a s
  | .stopAll => Sys2Proof.Machine.execStopAll s
  | .plannerTick loads => Sys2Proof.Machine.execPlannerTick loads s
  | .inPos a => Sys2Proof.Machine.execInPos a s
  | .holdCurrent a => Sys2Proof.Machine.execHoldCurrent a s
  | .pwmPeriod a phase code => Sys2Proof.Machine.execPwmPeriod a phase code s
  | .limitEdge a lim high dt => Sys2Proof.Machine.execLimitEdge a lim high dt s
  | .limitTrip a lim => Sys2Proof.Machine.execLimitTrip a lim s
  | .spitGo => Sys2Proof.Machine.execSpitGo s
  | .spitCycle n => Sys2Proof.Machine.execSpitCycle n s
  | .spitStop => Sys2Proof.Machine.execSpitStop s
  | .faultMessage => Sys2Proof.Machine.execFaultMessage s
  | .ackSlot slot => Sys2Proof.Machine.execAckSlot slot s
  | .ackAll => Sys2Proof.Machine.execAckAll s
  | .ackMemo => Sys2Proof.Machine.execAckMemo s
  | .quietExit => Sys2Proof.Machine.execQuietExit s
  | .safeIn => Sys2Proof.Machine.execSafeIn s
  | .rippleToggle => Sys2Proof.Machine.execRippleToggle s
  | .kick => Sys2Proof.Machine.execKick s
  | .kickMissed => Sys2Proof.Machine.execKickMissed s
  | .fltInternal => Sys2Proof.Machine.execFltInternal s
  | .faultReset key => Sys2Proof.Machine.execFaultReset key s
  | .inject source kind sev => Sys2Proof.Machine.execInject source kind sev s
  | .polQuery source kind => Sys2Proof.Machine.execPolQuery source kind s
  | .faultPolicyCommit slot args cnt tag => Sys2Proof.Machine.execFaultPolicyCommit slot args cnt tag s
  | .policyCopyDone poisoned => Sys2Proof.Machine.execPolicyCopyDone poisoned s
  | .lockClearPolicy slot args cnt tag => Sys2Proof.Machine.execLockClearPolicy slot args cnt tag s
  | .sedimentRecord => Sys2Proof.Machine.execSedimentRecord s
  | .freezeCountEnd => Sys2Proof.Machine.execFreezeCountEnd s
  | .freeze => Sys2Proof.Machine.execFreeze s
  | .release => Sys2Proof.Machine.execRelease s
  | .dumpClear => Sys2Proof.Machine.execDumpClear s
  | .dumpEraseDone => Sys2Proof.Machine.execDumpEraseDone s
  | .pfail => Sys2Proof.Machine.execPfail s
  | .dumpStart => Sys2Proof.Machine.execDumpStart s
  | .dumpPage ok => Sys2Proof.Machine.execDumpPage ok s
  | .dumpEnd => Sys2Proof.Machine.execDumpEnd s
  | .pfailShed => Sys2Proof.Machine.execPfailShed s
  | .dieSample t => Sys2Proof.Machine.execDieSample t s
  | .calRun => Sys2Proof.Machine.execCalRun s
  | .restore chan => Sys2Proof.Machine.execRestore chan s
  | .targetRunEnd t ms quality => Sys2Proof.Machine.execTargetRunEnd t ms quality s
  | .spareTakeover => Sys2Proof.Machine.execSpareTakeover s
  | .spareHandback => Sys2Proof.Machine.execSpareHandback s
  | .trimUser v => Sys2Proof.Machine.execTrimUser v s
  | .lifecycleAdvance slot args cnt tag => Sys2Proof.Machine.execLifecycleAdvance slot args cnt tag s
  | .keyLoad slot args cnt tag => Sys2Proof.Machine.execKeyLoad slot args cnt tag s
  | .keyRetire slot args cnt tag => Sys2Proof.Machine.execKeyRetire slot args cnt tag s
  | .headPowerArm slot args cnt tag => Sys2Proof.Machine.execHeadPowerArm slot args cnt tag s
  | .printArm slot args cnt tag => Sys2Proof.Machine.execPrintArm slot args cnt tag s
  | .springCommit slot args cnt tag => Sys2Proof.Machine.execSpringCommit slot args cnt tag s
  | .wipeNow slot args cnt tag => Sys2Proof.Machine.execWipeNow slot args cnt tag s
  | .lockoutEnd => Sys2Proof.Machine.execLockoutEnd s
  | .fuseProgramDone ok => Sys2Proof.Machine.execFuseProgramDone ok s
  | .disarmHead => Sys2Proof.Machine.execDisarmHead s
  | .disarmHeadComplete => Sys2Proof.Machine.execDisarmHeadComplete s
  | .disarmPrint => Sys2Proof.Machine.execDisarmPrint s
  | .coldReset addr => Sys2Proof.Machine.execColdReset addr s
  | .pinReset addr => Sys2Proof.Machine.execPinReset addr s
  | .softwareReset key => Sys2Proof.Machine.execSoftwareReset key s
  | .refclkBad missing ppm => Sys2Proof.Machine.execRefclkBad missing ppm s
  | .pllUnlock pll => Sys2Proof.Machine.execPllUnlock pll s
  | .pllRelock pll => Sys2Proof.Machine.execPllRelock pll s
  | .dllUnlock => Sys2Proof.Machine.execDllUnlock s
  | .dllRelock => Sys2Proof.Machine.execDllRelock s
  | .domOn mask => Sys2Proof.Machine.execDomOn mask s
  | .domOff mask on => Sys2Proof.Machine.execDomOff mask on s
  | .domainOffDone dom => Sys2Proof.Machine.execDomainOffDone dom s
  | .domainOnDone dom => Sys2Proof.Machine.execDomainOnDone dom s
  | .supplyLow which => Sys2Proof.Machine.execSupplyLow which s
  | .brownOutReset => Sys2Proof.Machine.execBrownOutReset s
  | .smbSetPtr offset ok => Sys2Proof.Machine.execSmbSetPtr offset ok s
  | .smbRead ok => Sys2Proof.Machine.execSmbRead ok s
  | .smbWrite value ok => Sys2Proof.Machine.execSmbWrite value ok s
  | .spifRead => Sys2Proof.Machine.execSpifRead s
  | .spifProgram => Sys2Proof.Machine.execSpifProgram s
  | .spifErase => Sys2Proof.Machine.execSpifErase s
  | .spifDone ok moved => Sys2Proof.Machine.execSpifDone ok moved s
  | .safeInRelease => Sys2Proof.Machine.execSafeInRelease s
  | .pfailRelease => Sys2Proof.Machine.execPfailRelease s
  | .refclkRecovered ppm => Sys2Proof.Machine.execRefclkRecovered ppm s
  | .resetAsserted => Sys2Proof.Machine.execResetAsserted s
  | .nonceReady ok draw => Sys2Proof.Machine.execNonceReady ok draw s
  | .frameShipped n => Sys2Proof.Machine.execFrameShipped n s
  | .trainSettleEnd n => Sys2Proof.Machine.execTrainSettleEnd n s
  | .trimUpdateTick t => Sys2Proof.Machine.execTrimUpdateTick t s
  | .cellCrcError l => Sys2Proof.Machine.execCellCrcError l s
  | .unknownCell type c dt => Sys2Proof.Machine.execUnknownCell type c dt s
  | .eoutZEnd m => Sys2Proof.Machine.execEoutZEnd m s

end Sys2Proof.Machine
end

