-- ==== Sys2Proof/Safety.lean ====
section
/-!
DEFINITION. The words the statements use: a block that is not held in reset, a command that completes with an effect, what
flags and faults may touch, and any number of steps.
-/
namespace Sys2Proof.Machine

/-- The block takes commands: it is not held in reset (R466, R487). -/
abbrev State.live (s : State) : Prop := s.dev.sys.inReset = false

/-- The command answers a next state with the queue and the fuses as they were, and with a device of which `effect` holds. -/
def Completes (c : Instr) (s : State) (effect : Dev → Prop) : Prop :=
  ∃ d, exec c s = .next { s with dev := d } ∧ effect d

/-- `d'` differs from `d` only where flags and faults act (R31, R408, R410), and in the fields `fs`: the page headers and SED.LOST
among the registers, the collector, the Sediment FIFO, the ring's queues, and what has been given to the outside. -/
def Dev.FlaggedBut (d d' : Dev) (fs : List Fld) : Prop :=
  (∃ r f s e l o, d' = { d with regs := r, flt := f, sed := s, emr := e, emls := l, out := o }) ∧
  ∀ g : Fld, 0x40 ≤ g.off → g.off < 4096 → g.lo < 64 → g.key ≠ Reg.SED.LOST.COUNT.key → (∀ f ∈ fs, g.key ≠ f.key) →
    d'.get g = d.get g

/-- `d'` differs from `d` only where flags and faults act. -/
def Dev.Flagged (d d' : Dev) : Prop :=
  (∃ r f s e l o, d' = { d with regs := r, flt := f, sed := s, emr := e, emls := l, out := o }) ∧
  ∀ g : Fld, 0x40 ≤ g.off → g.off < 4096 → g.lo < 64 → g.key ≠ Reg.SED.LOST.COUNT.key → d'.get g = d.get g

/-- Every register field but those of `fs` reads in `d'` as in `d`. -/
def Dev.Kept (d d' : Dev) (fs : List Fld) : Prop := ∀ g : Fld, (∀ f ∈ fs, g.key ≠ f.key) → d'.get g = d.get g

/-- Is an EV_RAW bit of a block instance set? -/
def Dev.evRaw (d : Dev) (b : Blk) (n bit : Nat) : Bool := (d.get (Reg.HDR.EV_RAW (pg b n))).testBit bit

/-- The device once the tag of the mailbox has verified: CNT_LAST takes its count and the run of failures ends (R444, R445). -/
def Dev.counted (d : Dev) : Dev := (d.set Reg.SEC.CNT_LAST.COUNT (mailbox d).cnt).set Reg.SEC.TAG_FAIL.RUN 0

/-- The ring hands the device a broadcast cell (R284 to R286): it came by a link that is UP, another member sent it, EMR runs
and its key is new. -/
abbrev Dev.hearsAll (d : Dev) (type : Nat) (c : CellIn) : Prop :=
  d.linkUp (c.link % 2) = true ∧ c.src % 64 ≠ d.ringAddr ∧ 128 ≤ c.dst ∧ d.inRun (pg .EMR 0) = true ∧
  d.emr.seen.contains (c.src, type, c.seq) = false

/-- The ring hands the device a cell addressed to it alone. -/
abbrev Dev.hearsOwn (d : Dev) (c : CellIn) : Prop :=
  d.linkUp (c.link % 2) = true ∧ c.src % 64 ≠ d.ringAddr ∧ c.dst < 128 ∧ c.dst % 64 = d.ringAddr ∧ d.inRun (pg .EMR 0) = true

/-- A critical command in the mailbox of `d` passes checks 1 to 10 and those of its own (Tables 19.1, 19.3). -/
abbrev State.authorises (s : State) (d : Dev) : Prop :=
  mailCheck s.fuse (mailbox d) d = none ∧ s.fuse.verifies (d.get Reg.SEC.NONCE.NONCE) (mailbox d) = true ∧
  specificCheck s.fuse (mailbox d) d.counted = none

/-- Fuses are programmed once (R446 to R451): every lifecycle bit blown in `u` is blown in `v`, and the SPRING_COMMIT rows of
`u` come first among those of `v`. -/
def Fuses.keptIn (u v : Fuses) : Prop :=
  (u.p = true → v.p = true) ∧ (u.f = true → v.f = true) ∧ (u.r = true → v.r = true) ∧ (u.x = true → v.x = true) ∧ u.rows <+: v.rows

/-- `n` steps, while each answers a next state. -/
def runs : Nat → State → Host.Outcome State Fault Refusal
  | 0, s => .next s
  | n + 1, s =>
    match step s with
    | .next t => runs n t
    | o => o

end Sys2Proof.Machine
end

