-- ==== Sys2Proof/Certificates/Slice0/Obligations.lean ====
section
/-!
DEFINITION. The statements for the provers: what each command does, what it leaves as it was, and the rules of the whole
block. `Completes c s effect` says that command `c` answers a next state with the queue and the fuses as they were and a
device of which `effect` holds.
-/
open Sys2Proof Sys2Proof.Machine

/-- REGISTER_WRITE of CLK.REF_TOL, whose PPM field is RWX: at expert level it takes the value written, clamped to its
range, and nothing else changes; at basic level a different value leaves every register field past the headers as it
was and sets SYS EV bit LEVEL_DENIED; a write to a page that no block has is discarded with ABSENT_TARGET; a write
to the page of a domain that is off changes nothing. A writer inside the device gets the completion code: 0, 0x12,
0x11 or 0x21. A write of any register by any master is the write of its one or two dwords with a code each, and one
of a wrong size or alignment is discarded with code 0x14. Completes (exec answers a next state, under hypotheses on
state and operands alone): registerWrite. (R37, R35, R43.) -/
def Obligations.RegisterWriteGuarded : Prop :=
  (∀ (s : State) (master v : Nat) (internal : Bool), s.live → s.dev.pageOff 1 = false → s.dev.is (Reg.HDR.LEVEL 1) = true → v < 2 ^ 32 → 
    Completes (.registerWrite master internal 0x1400 4 v) s fun d =>
      d = completed { master, internal } 0 (s.dev.set Reg.CLK.REF_TOL.PPM (clamp 100 2000 (bits v 15 0)))) ∧
  (∀ (s : State) (master v : Nat) (internal : Bool), s.live → s.dev.pageOff 1 = false → s.dev.is (Reg.HDR.LEVEL 1) = false → v < 2 ^ 32 → bits v 15 0 ≠ s.dev.get Reg.CLK.REF_TOL.PPM → 
    Completes (.registerWrite master internal 0x1400 4 v) s fun d =>
      s.dev.Flagged d ∧ d.evRaw .SYS 0 Kind.SYS.LEVEL_DENIED.bit = true ∧
        ((master ≠ 0 ∨ internal = true) → Output.completion master 0x12 ∈ d.out)) ∧
  (∀ (s : State) (master page v : Nat) (internal : Bool), s.live → Blk.ofPage page = none → 
    Completes (.registerWrite master internal (page * 4096 + 0x40) 4 v) s fun d =>
      s.dev.Flagged d ∧ d.evRaw .SYS 0 Kind.SYS.ABSENT_TARGET.bit = true ∧
        ((master ≠ 0 ∨ internal = true) → Output.completion master 0x11 ∈ d.out)) ∧
  (∀ (s : State) (master v : Nat) (internal : Bool), s.live → s.dev.pageOff 1 = true → master ≠ 0 ∨ internal = true → 
    Completes (.registerWrite master internal 0x1400 4 v) s fun d =>
      d = s.dev.emit (.completion master 0x21)) ∧
  (∀ (s : State) (master addr v : Nat) (internal : Bool), s.live → addr % 4 = 0 → 
    Completes (.registerWrite master internal addr 4 v) s fun d =>
      d = completed { master, internal } (busWrite s.fuse { master, internal } addr (v % 2 ^ 32) s.dev).1 (busWrite s.fuse { master, internal } addr (v % 2 ^ 32) s.dev).2) ∧
  (∀ (s : State) (master addr v : Nat) (internal : Bool) (d1 : Dev), s.live → addr % 8 = 0 → completed { master, internal } (busWrite s.fuse { master, internal } addr (v % 2 ^ 32) s.dev).1 (busWrite s.fuse { master, internal } addr (v % 2 ^ 32) s.dev).2 = d1 → 
    Completes (.registerWrite master internal addr 8 v) s fun d =>
      d = completed { master, internal } (busWrite s.fuse { master, internal } (addr + 4) (v / 2 ^ 32) d1).1 (busWrite s.fuse { master, internal } (addr + 4) (v / 2 ^ 32) d1).2) ∧
  (∀ (s : State) (master addr size v : Nat) (internal : Bool), s.live → ¬(size = 4 ∧ addr % 4 = 0) ∧ ¬(size = 8 ∧ addr % 8 = 0) → 
    Completes (.registerWrite master internal addr size v) s fun d =>
      d = completed { master, internal } 0x14 (discarded Kind.SYS.ACCESS_SIZE { master, internal } true addr s.dev))

/-- LO_READ_LATCH of CLK.TS gives the low 32 bits of TS and keeps the high half for that master; READ_CLEAR of
SYS.STALE_CNT gives the count and leaves it at its reset value. Nothing else changes. LO_READ_LATCH and READ_CLEAR
of any register read its dword, or the two dwords of an aligned pair, with a code each. Completes (exec answers a
next state, under hypotheses on state and operands alone): loReadLatch, readClear. (R8, R5.) -/
def Obligations.RegisterReads : Prop :=
  (∀ (s : State) (master : Nat), s.live → s.dev.pageOff 1 = false → 
    Completes (.loReadLatch master 0x104C 4) s fun d =>
      d = (completed { master, internal := false } 0 { s.dev with bus := { s.dev.bus with hiLatch := aset (master, 0x104C) (s.dev.ts % 2 ^ 64 / 2 ^ 32) s.dev.bus.hiLatch } }).emit
        (.readData master 0x104C (s.dev.ts % 2 ^ 32))) ∧
  (∀ (s : State) (master : Nat), s.live → s.dev.pageOff 0 = false → 
    Completes (.readClear master 0x48 4) s fun d =>
      d = (completed { master, internal := false } 0 (s.dev.set Reg.SYS.STALE_CNT.COUNT 0)).emit
        (.readData master 0x48 (s.dev.get Reg.SYS.STALE_CNT.COUNT % 2 ^ 32))) ∧
  (∀ (s : State) (master addr size v code : Nat) (d1 : Dev), s.live → busRead s.fuse { master, internal := false } (addr / 4 * 4) s.dev = (v, code, d1) → ¬(size = 8 ∧ addr % 8 = 0) → 
    Completes (.loReadLatch master addr size) s fun d =>
      d = (completed { master, internal := false } code d1).emit (.readData master addr v)) ∧
  (∀ (s : State) (master addr v code h hcode : Nat) (d1 d2 : Dev), s.live → addr % 8 = 0 → busRead s.fuse { master, internal := false } addr s.dev = (v, code, d1) → busRead s.fuse { master, internal := false } (addr + 4) d1 = (h, hcode, d2) → 
    Completes (.loReadLatch master addr 8) s fun d =>
      d = (completed { master, internal := false } hcode d2).emit (.readData master addr (v + h * 2 ^ 32))) ∧
  (∀ (s : State) (master addr size v code : Nat) (d1 : Dev), s.live → busRead s.fuse { master, internal := false } (addr / 4 * 4) s.dev = (v, code, d1) → ¬(size = 8 ∧ addr % 8 = 0) → 
    Completes (.readClear master addr size) s fun d =>
      d = (completed { master, internal := false } code d1).emit (.readData master addr v)) ∧
  (∀ (s : State) (master addr v code h hcode : Nat) (d1 d2 : Dev), s.live → addr % 8 = 0 → busRead s.fuse { master, internal := false } addr s.dev = (v, code, d1) → busRead s.fuse { master, internal := false } (addr + 4) d1 = (h, hcode, d2) → 
    Completes (.readClear master addr 8) s fun d =>
      d = (completed { master, internal := false } hcode d2).emit (.readData master addr (v + h * 2 ^ 32)))

/-- HOST_BAR2_ACCESS: a write puts the bytes in their places and a read gives them, with a completion, delayed or not;
past the end of Basin it is refused with code 0x11 and with Basin out of service with 0x10. HOST_BAR4_ACCESS reaches
Shallows, reads Sediment, whose window takes no write, and reads and writes the MSI-X table and pending array; a
wrong size is refused, and a write to a reserved range is recorded once. FUNCTION_LEVEL_RESET resets the
configuration space, empties the MSI-X table and the pending array, frees the channels, clears LEVELs and raises
HOST_LINK_DOWN; PROVIDER_LOST raises the fault for the first loss whose ports have all reached their boundary, and
forgets it; with none there is nothing to do. Completes (exec answers a next state, under hypotheses on state and
operands alone): hostBar2Access, hostBar4Access, functionLevelReset, providerLost. (R29, R321, R30, R24.) -/
def Obligations.HostWindows : Prop :=
  (∀ (s : State) (addr : Nat) (data : Bytes), s.live → s.dev.basinUp = true → addr % 32 = 0 → data.length % 32 = 0 → addr + data.length ≤ basinSize → 
    Completes (.hostBar2Access addr data.length true data 0 0) s fun d =>
      d.basin = memWrite 0 addr data s.dev.basin ∧ d.out = s.dev.out ++ [Output.completion 0 0] ∧
        d = { s.dev with basin := d.basin, mem := d.mem, out := d.out }) ∧
  (∀ (s : State) (addr len : Nat), s.live → s.dev.basinUp = true → addr + len ≤ basinSize → s.dev.badSectors addr len = [] → 
    Completes (.hostBar2Access addr len false [] 0 0) s fun d =>
      d.out = s.dev.out ++ [Output.readBytes addr (s.dev.basinRead addr len) false, Output.completion 0 0] ∧
        d = { s.dev with mem := d.mem, out := d.out }) ∧
  (∀ (s : State) (addr v : Nat), s.live → addr % 4 = 0 → addr + 4 ≤ 2 ^ 25 → s.dev.inRun (pg .SHL 0) = true → s.dev.printing = false → 
    Completes (.hostBar4Access addr 4 true v 0) s fun d =>
      d = s.dev.shallowsWrite addr (leBytes 4 v)) ∧
  (∀ (s : State) (addr : Nat), s.live → addr % 4 = 0 → addr + 4 ≤ 2 ^ 25 → s.dev.inRun (pg .SHL 0) = true → s.dev.mem.shlUe.contains (addr / 8) = false → 
    Completes (.hostBar4Access addr 4 false 0 0) s fun d =>
      d = s.dev.emit (.readBytes addr (memRead 0 s.dev.shallows addr 4) false)) ∧
  (∀ (s : State) (down : Bool), s.live → 
    Completes (.functionLevelReset down) s fun d =>
      d.cfg = CfgSpace.init ∧ d.evt.table = [] ∧ d.evt.pba = [] ∧ (∀ n ∈ List.range 32, d.get (Reg.DMA.OWNER.TAG n) = 0) ∧
        (∀ b ∈ Blk.all, ∀ n ∈ List.range b.count, d.is (Reg.HDR.LEVEL (pg b n)) = false) ∧
        (down = true → d.get Reg.PCI.LINK_STAT.STATE = 0 ∧ d.get Reg.PCI.LINK_STAT.WIDTH = 0 ∧ d.get Reg.PCI.LINK_STAT.SPEED = 0) ∧
        d.get Reg.PCI.FLR_CNT.COUNT = min (2 ^ 32 - 1) (s.dev.get Reg.PCI.FLR_CNT.COUNT + 1) ∧ d.evRaw .SYS 0 Kind.SYS.HOST_LINK_DOWN.bit = true) ∧
  (∀ (s : State) (l : Nat × Nat × List Nat), s.live → s.dev.prt.lost.find? (fun x => x.2.2.all s.dev.portAtBoundary) = some l → 
    Completes (.providerLost) s fun d =>
      d = { s.dev with prt := { s.dev.prt with lost := s.dev.prt.lost.erase l } }.raise 0 Kind.PRT.PROVIDER_LOST { arg := l.1, port := l.2.1 }) ∧
  (∀ (s : State) (down : Bool), s.live → 
    Completes (.functionLevelReset down) s fun d =>
      d = ((levelsClear (revokeAll { (if down = true then ((s.dev.set Reg.PCI.LINK_STAT.STATE 0).set Reg.PCI.LINK_STAT.WIDTH 0).set Reg.PCI.LINK_STAT.SPEED 0 else s.dev) with cfg := CfgSpace.init, evt := { s.dev.evt with table := [], pba := [] } })).bump Reg.PCI.FLR_CNT.COUNT 1).raise 0 Kind.SYS.HOST_LINK_DOWN) ∧
  (∀ s : State, s.live → s.dev.prt.lost.find? (fun x => x.2.2.all s.dev.portAtBoundary) = none → 
    Completes (.providerLost) s fun d =>
      d = s.dev) ∧
  (∀ (s : State) (addr len err late : Nat) (write : Bool) (data : Bytes), s.live → basinSize < addr + (if write = true then data.length else len) → 
    Completes (.hostBar2Access addr len write data err late) s fun d =>
      d = refusedAccess 0 0x11 addr write s.dev) ∧
  (∀ (s : State) (addr len err late : Nat) (write : Bool) (data : Bytes), s.live → addr + (if write = true then data.length else len) ≤ basinSize → s.dev.basinUp = false → 
    Completes (.hostBar2Access addr len write data err late) s fun d =>
      d = refusedAccess 0 0x10 addr write s.dev) ∧
  (∀ (s : State) (addr len err late : Nat) (data : Bytes), s.live → addr + data.length ≤ basinSize → s.dev.basinUp = true → 
    Completes (.hostBar2Access addr len true data err late) s fun d =>
      d = ((if addr % 32 = 0 ∧ data.length % 32 = 0 then delayed 0 late s.dev else strike err addr (delayed 0 late s.dev)).basinWrite addr data 2 0).emit (.completion 0 (if late = 0 then 0 else 1))) ∧
  (∀ (s : State) (addr len err late : Nat) (data : Bytes), s.live → addr + len ≤ basinSize → s.dev.basinUp = true → 
    Completes (.hostBar2Access addr len false data err late) s fun d =>
      (let t := (delayed 0 late s.dev).basinLoad 2 0 addr len err; d = (t.emit (.readBytes addr (t.basinRead addr len) (t.badSectors addr len != []))).emit (.completion 0 (if late = 0 then 0 else 1)))) ∧
  (∀ (s : State) (addr size v err : Nat), s.live → size ≠ 4 → size ≠ 8 → 
    Completes (.hostBar4Access addr size true v err) s fun d =>
      d = discarded Kind.SYS.ACCESS_SIZE Party.host true addr s.dev) ∧
  (∀ (s : State) (addr size v err : Nat), s.live → size ≠ 4 → size ≠ 8 → 
    Completes (.hostBar4Access addr size false v err) s fun d =>
      d = s.dev.emit (.completion 0 0x14)) ∧
  (∀ (s : State) (addr size v err : Nat) (write : Bool), s.live → size = 4 ∨ size = 8 → addr < 0x2000000 → 2 ^ 25 < addr + size → 
    Completes (.hostBar4Access addr size write v err) s fun d =>
      d = refusedAccess 0 0x11 addr write s.dev) ∧
  (∀ (s : State) (addr size v err : Nat) (write : Bool), s.live → size = 4 ∨ size = 8 → addr + size ≤ 2 ^ 25 → s.dev.inRun (pg .SHL 0) = false → 
    Completes (.hostBar4Access addr size write v err) s fun d =>
      d = refusedAccess 0 0x10 addr write s.dev) ∧
  (∀ (s : State) (addr size v err : Nat), s.live → size = 4 ∨ size = 8 → addr + size ≤ 2 ^ 25 → s.dev.inRun (pg .SHL 0) = true → 
    Completes (.hostBar4Access addr size true v err) s fun d =>
      d = (if s.dev.shallowsOpen = false then shallowsLocked addr s.dev else s.dev.shallowsWrite addr (leBytes size v))) ∧
  (∀ (s : State) (addr size v err : Nat), s.live → size = 4 ∨ size = 8 → addr + size ≤ 2 ^ 25 → s.dev.inRun (pg .SHL 0) = true → 
    Completes (.hostBar4Access addr size false v err) s fun d =>
      (let t := shallowsStrike 0 (addr / 8) err s.dev; d = t.emit (.readBytes addr (memRead 0 t.shallows addr size) (t.mem.shlUe.contains (addr / 8))))) ∧
  (∀ (s : State) (addr size v err : Nat) (write : Bool), s.live → size = 4 ∨ size = 8 → 0x2000000 ≤ addr → addr < 0x2100000 → 
    Completes (.hostBar4Access addr size write v err) s fun d =>
      d = (if write = true then s.dev else s.dev.emit (.readBytes addr (memRead 0 s.dev.sed.mem (addr - 0x2000000) size) false))) ∧
  (∀ (s : State) (addr v err : Nat), s.live → 0x2100000 ≤ addr → msixAt (addr / 4 * 4) = true → 
    Completes (.hostBar4Access addr 4 true v err) s fun d =>
      d = bar4Put (addr / 4 * 4) (v % 2 ^ 32) s.dev) ∧
  (∀ (s : State) (addr v err : Nat), s.live → 0x2100000 ≤ addr → msixAt (addr / 4 * 4) = true → msixAt (addr / 4 * 4 + 4) = true → 
    Completes (.hostBar4Access addr 8 true v err) s fun d =>
      d = bar4Put (addr / 4 * 4 + 4) (v / 2 ^ 32) (bar4Put (addr / 4 * 4) (v % 2 ^ 32) s.dev)) ∧
  (∀ (s : State) (addr size v err : Nat), s.live → size = 4 ∨ size = 8 → 0x2100000 ≤ addr → msixAt (addr / 4 * 4) = false ∨ (size = 8 ∧ msixAt (addr / 4 * 4 + 4) = false) → 
    Completes (.hostBar4Access addr size true v err) s fun d =>
      d = discarded Kind.SYS.ABSENT_TARGET Party.host true (addr / 4 * 4) s.dev) ∧
  (∀ (s : State) (addr size v err : Nat), s.live → size = 4 ∨ size = 8 → 0x2100000 ≤ addr → 
    Completes (.hostBar4Access addr size false v err) s fun d =>
      d = s.dev.emit (.readBytes (addr / 4 * 4) (leBytes 4 (s.dev.bar4Dword (addr / 4 * 4)) ++ if size = 8 then leBytes 4 (s.dev.bar4Dword (addr / 4 * 4 + 4)) else []) false))

/-- LEVEL_UNLOCK with 0xE7A1 opens a window of 1 ms and with any other key closes it and raises UNLOCK_BAD;
LEVEL_WINDOW_EXPIRY ends it; LEVEL_SET sets LEVEL only while a window is open, and clears it at any time. Where no
window runs, where the page has no block, or where LEVEL already has that value, nothing changes. Completes (exec
answers a next state, under hypotheses on state and operands alone): levelUnlock, levelWindowExpiry, levelSet.
(R36.) -/
def Obligations.LevelWindow : Prop :=
  (∀ s : State, s.live → s.dev.pageOff 0 = false → 
    Completes (.levelUnlock 0xE7A1) s fun d =>
      d = s.dev.arm .levelWindow ms) ∧
  (∀ (s : State) (key : Nat), s.live → s.dev.pageOff 0 = false → key < 2 ^ 32 → key % 65536 ≠ 0xE7A1 → 
    Completes (.levelUnlock key) s fun d =>
      d = (s.dev.disarm .levelWindow).raise 0 Kind.SYS.UNLOCK_BAD { access := 2, master := 0, addr := 0x40 }) ∧
  (∀ (s : State) (t : Nat), s.live → s.dev.due .levelWindow = some t → 
    Completes (.levelWindowExpiry) s fun d =>
      d = (s.dev.advanceTo t).disarm .levelWindow) ∧
  (∀ (s : State) (page : Nat), s.live → (Blk.ofPage page).isSome = true → s.dev.is (Reg.HDR.LEVEL page) = false → s.dev.running .levelWindow = true → 
    Completes (.levelSet page true) s fun d =>
      d = (s.dev.put (Reg.HDR.LEVEL page) true).ev .SYS 0 1) ∧
  (∀ (s : State) (page : Nat), s.live → (Blk.ofPage page).isSome = true → s.dev.is (Reg.HDR.LEVEL page) = true → 
    Completes (.levelSet page false) s fun d =>
      d = (s.dev.put (Reg.HDR.LEVEL page) false).ev .SYS 0 1) ∧
  (∀ (s : State) (page : Nat), s.live → (Blk.ofPage page).isSome = true → s.dev.is (Reg.HDR.LEVEL page) = false → s.dev.running .levelWindow = false → 
    Completes (.levelSet page true) s fun d =>
      d = s.dev.raise 0 Kind.SYS.LEVEL_DENIED { access := 2, master := 0, addr := page * 4096 + 0x008 }) ∧
  (∀ s : State, s.live → s.dev.due .levelWindow = none → 
    Completes (.levelWindowExpiry) s fun d =>
      d = s.dev) ∧
  (∀ (s : State) (page : Nat) (v : Bool), s.live → Blk.ofPage page = none ∨ s.dev.is (Reg.HDR.LEVEL page) = v → 
    Completes (.levelSet page v) s fun d =>
      d = s.dev) ∧
  (∀ (s : State) (key : Nat), s.live → s.dev.pageOff 0 = true → (∀ k ∈ ([(.levelUnlock key, 0x40)] : List (Instr × Nat)),
      Completes k.1 s fun d => d = hostRefused 0x21 k.2 s.dev))

/-- For the pages whose blocks have no work of their own in hand (TRN, DMAC, CMPC, ENCC): ENABLE_CLEAR stops a running
block at IDLE, ENABLE_SET makes it RUN, DRAIN leads to OFFLINE, SOFT_RESET puts every own field and LEVEL at reset
and counts EPOCH, KILL ends its requests and leaves it IDLE, and the drain boundary or the drain timeout ends the
stop in progress. Nothing outside the page, the stops, the timers and the requests changes. For every block: a page
without a block, or whose block never stops, is left as it is; a stop begins only in IDLE, RUN, DRAINING or WAITING,
SOFT_RESET of an OFFLINE block or one in FAULT resets it at once, DRAIN of an OFFLINE block only sets its bit, and
KILL elsewhere does nothing. Completes (exec answers a next state, under hypotheses on state and operands alone):
enableClear, enableSet, drainBoundaryReached, drain, softReset, kill, drainTimeout. (R38, R39, R40.) -/
def Obligations.BlockStops : Prop :=
  (∀ (s : State) (page n : Nat) (b : Blk), s.live → Blk.ofPage page = some (b, n) → b ∈ [Blk.TRN, Blk.DMAC, Blk.CMPC, Blk.ENCC] → s.dev.blk page = 2 → s.dev.enabled page = true → aget page s.dev.stopping = none → 
    Completes (.enableClear page) s fun d =>
      d.enabled page = false ∧ d.blk page = 1 ∧ aget page d.stopping = none ∧ s.dev.Kept d [Reg.HDR.ENABLE page, Reg.HDR.STATE page] ∧
        d = { s.dev with regs := d.regs, stopping := d.stopping, time := d.time, bus := d.bus }) ∧
  (∀ (s : State) (page n : Nat) (b : Blk), s.live → Blk.ofPage page = some (b, n) → b ∈ [Blk.TRN, Blk.DMAC, Blk.CMPC, Blk.ENCC] → s.dev.blk page = 1 → 
    Completes (.enableSet page) s fun d =>
      d.enabled page = true ∧ d.blk page = 2 ∧ aget page d.stopping = none ∧ s.dev.Kept d [Reg.HDR.ENABLE page, Reg.HDR.STATE page] ∧
        d = { s.dev with regs := d.regs, stopping := d.stopping, time := d.time, bus := d.bus }) ∧
  (∀ (s : State) (page n : Nat) (b : Blk), s.live → Blk.ofPage page = some (b, n) → b ∈ [Blk.TRN, Blk.DMAC, Blk.CMPC, Blk.ENCC] → aget page s.dev.stopping = some .enable → 
    Completes (.drainBoundaryReached page) s fun d =>
      d.blk page = 1 ∧ aget page d.stopping = none ∧ s.dev.Kept d [Reg.HDR.STATE page] ∧
        d = { s.dev with regs := d.regs, stopping := d.stopping, time := d.time, bus := d.bus }) ∧
  (∀ (s : State) (page n : Nat) (b : Blk), s.live → Blk.ofPage page = some (b, n) → b ∈ [Blk.TRN, Blk.DMAC, Blk.CMPC, Blk.ENCC] → s.dev.stoppable page = true → aget page s.dev.stopping = none → 
    Completes (.drain page) s fun d =>
      d.is (Reg.HDR.DRAIN page) = true ∧ d.blk page = 6 ∧ aget page d.stopping = none ∧ s.dev.Kept d [Reg.HDR.DRAIN page, Reg.HDR.STATE page] ∧
        d = { s.dev with regs := d.regs, stopping := d.stopping, time := d.time, bus := d.bus }) ∧
  (∀ s : State, s.live → s.dev.stoppable 0x1F = true → aget 0x1F s.dev.stopping = none → 
    Completes (.softReset 0x1F) s fun d =>
      (∀ f ∈ Blk.DMAC.fields 0, d.get f = f.rst) ∧ d.is (Reg.HDR.LEVEL 0x1F) = false ∧ d.get (Reg.HDR.EPOCH 0x1F) = (s.dev.get (Reg.HDR.EPOCH 0x1F) + 1) % 16 ∧
        d.blk 0x1F = (if (Reg.HDR.ENABLE 0x1F).rst = 0 then 1 else 2) ∧
        ({ s.dev with stopping := d.stopping, time := d.time, bus := d.bus } : Dev).FlaggedBut d (Blk.DMAC.fields 0)) ∧
  (∀ (s : State) (page n : Nat) (b : Blk), s.live → Blk.ofPage page = some (b, n) → b ∈ [Blk.TRN, Blk.DMAC, Blk.CMPC, Blk.ENCC] → s.dev.stoppable page = true → aget page s.dev.stopping = none → 
    Completes (.kill page) s fun d =>
      d.blk page = 1 ∧ d.inFlight page = false ∧ d.is (Reg.HDR.ABORTED page) = (s.dev.inFlight page || s.dev.is (Reg.HDR.ABORTED page)) ∧
        s.dev.Kept d [Reg.HDR.DRAIN page, Reg.HDR.SOFT_RESET page, Reg.HDR.ABORTED page, Reg.HDR.STATE page] ∧
        d = { s.dev with regs := d.regs, stopping := d.stopping, time := d.time, bus := d.bus }) ∧
  (∀ (s : State) (page n : Nat) (b : Blk) (t : Nat), s.live → Blk.ofPage page = some (b, n) → b ∈ [Blk.TRN, Blk.DMAC, Blk.CMPC, Blk.ENCC] → aget page s.dev.stopping = some .drain → s.dev.due (.drain page) = some t → 
    Completes (.drainTimeout page) s fun d =>
      d.blk page = 6 ∧ aget page d.stopping = none ∧ d.inFlight page = false ∧ d.running (.drain page) = false ∧ s.dev.Kept d [Reg.HDR.ABORTED page, Reg.HDR.STATE page] ∧
        d = { s.dev with regs := d.regs, stopping := d.stopping, time := d.time, bus := d.bus }) ∧
  (∀ (s : State) (page n : Nat) (b : Blk), s.live → Blk.ofPage page = some (b, n) → b.neverStops = true → 
    Completes (.enableClear page) s fun d =>
      d = s.dev) ∧
  (∀ (s : State) (page : Nat), s.live → ∀ x ∈ Blk.ofPage page, x.1.neverStops = true → 
    Completes (.enableClear page) s fun d =>
      d = s.dev) ∧
  (∀ (s : State) (page : Nat), s.live → ∀ x ∈ Blk.ofPage page, x.1.neverStops = true → 
    Completes (.enableSet page) s fun d =>
      d = s.dev) ∧
  (∀ (s : State) (page : Nat), s.live → ∀ x ∈ Blk.ofPage page, x.1.neverStops = true → 
    Completes (.drain page) s fun d =>
      d = s.dev) ∧
  (∀ (s : State) (page : Nat), s.live → ∀ x ∈ Blk.ofPage page, x.1.neverStops = true → 
    Completes (.softReset page) s fun d =>
      d = s.dev) ∧
  (∀ (s : State) (page : Nat), s.live → ∀ x ∈ Blk.ofPage page, x.1.neverStops = true → 
    Completes (.kill page) s fun d =>
      d = s.dev) ∧
  (∀ (s : State) (page : Nat), s.live → Blk.ofPage page = none ∨ aget page s.dev.stopping = none → 
    Completes (.drainBoundaryReached page) s fun d =>
      d = s.dev) ∧
  (∀ (s : State) (page n : Nat) (b : Blk) (d1 : Dev), s.live → Blk.ofPage page = some (b, n) → b.neverStops = false → portSync b (s.dev.put (Reg.HDR.ENABLE page) false) = d1 → s.dev.enabled page = true → (s.dev.blk page = 1 ∨ s.dev.blk page = 2 ∨ s.dev.blk page = 4) → 
    Completes (.enableClear page) s fun d =>
      d = beginStop b n .enable d1) ∧
  (∀ (s : State) (page n : Nat) (b : Blk) (d1 : Dev), s.live → Blk.ofPage page = some (b, n) → b.neverStops = false → portSync b (s.dev.put (Reg.HDR.ENABLE page) false) = d1 → s.dev.enabled page = false ∨ ¬(s.dev.blk page = 1 ∨ s.dev.blk page = 2 ∨ s.dev.blk page = 4) → 
    Completes (.enableClear page) s fun d =>
      d = d1) ∧
  (∀ (s : State) (page n : Nat) (b : Blk) (d1 : Dev), s.live → Blk.ofPage page = some (b, n) → b.neverStops = false → portSync b (s.dev.put (Reg.HDR.ENABLE page) true) = d1 → s.dev.blk page = 6 → 
    Completes (.enableSet page) s fun d =>
      (let t := d1.put (Reg.HDR.DRAIN page) false; d = if t.wiping b = true then t else onStart b n (t.setBlk page (t.runState n b)))) ∧
  (∀ (s : State) (page n : Nat) (b : Blk) (d1 : Dev), s.live → Blk.ofPage page = some (b, n) → b.neverStops = false → ({ (portSync b (s.dev.put (Reg.HDR.ENABLE page) true)) with stopping := adel page (portSync b (s.dev.put (Reg.HDR.ENABLE page) true)).stopping } : Dev).disarm (.drain page) = d1 → (s.dev.blk page = 1 ∨ s.dev.blk page = 2 ∨ s.dev.blk page = 4) → s.dev.blk page = 2 → s.dev.enabled page = true → aget page s.dev.stopping = none → 
    Completes (.enableSet page) s fun d =>
      d = d1) ∧
  (∀ (s : State) (page n : Nat) (b : Blk) (d1 : Dev), s.live → Blk.ofPage page = some (b, n) → b.neverStops = false → ({ (portSync b (s.dev.put (Reg.HDR.ENABLE page) true)) with stopping := adel page (portSync b (s.dev.put (Reg.HDR.ENABLE page) true)).stopping } : Dev).disarm (.drain page) = d1 → (s.dev.blk page = 1 ∨ s.dev.blk page = 2 ∨ s.dev.blk page = 4) → s.dev.blk page ≠ 2 ∨ s.dev.enabled page = false ∨ (aget page s.dev.stopping).isSome = true → 
    Completes (.enableSet page) s fun d =>
      (let t := d1.setBlk page (d1.runState n b); d = if s.dev.blk page = 1 ∧ s.dev.enabled page = true ∧ (b = Blk.DMA ∨ b = Blk.CMP) then t else onStart b n t)) ∧
  (∀ (s : State) (page n : Nat) (b : Blk) (d1 : Dev), s.live → Blk.ofPage page = some (b, n) → b.neverStops = false → portSync b (s.dev.put (Reg.HDR.ENABLE page) true) = d1 → s.dev.blk page ≠ 6 → ¬(s.dev.blk page = 1 ∨ s.dev.blk page = 2 ∨ s.dev.blk page = 4) → 
    Completes (.enableSet page) s fun d =>
      d = d1) ∧
  (∀ (s : State) (page n : Nat) (b : Blk), s.live → Blk.ofPage page = some (b, n) → b.neverStops = false → s.dev.stoppable page = true → 
    Completes (.drain page) s fun d =>
      d = beginStop b n .drain (s.dev.put (Reg.HDR.DRAIN page) true)) ∧
  (∀ (s : State) (page n : Nat) (b : Blk), s.live → Blk.ofPage page = some (b, n) → b.neverStops = false → s.dev.blk page = 6 → 
    Completes (.drain page) s fun d =>
      d = s.dev.put (Reg.HDR.DRAIN page) true) ∧
  (∀ (s : State) (page n : Nat) (b : Blk), s.live → Blk.ofPage page = some (b, n) → b.neverStops = false → s.dev.stoppable page = false → s.dev.blk page ≠ 6 → 
    Completes (.drain page) s fun d =>
      d = s.dev) ∧
  (∀ (s : State) (page n : Nat) (b : Blk), s.live → Blk.ofPage page = some (b, n) → b.neverStops = false → s.dev.stoppable page = true → 
    Completes (.softReset page) s fun d =>
      d = beginStop b n .reset (s.dev.put (Reg.HDR.SOFT_RESET page) true)) ∧
  (∀ (s : State) (page n : Nat) (b : Blk), s.live → Blk.ofPage page = some (b, n) → b.neverStops = false → s.dev.blk page = 6 ∨ s.dev.blk page = 7 → 
    Completes (.softReset page) s fun d =>
      d = enterReset b n s.dev) ∧
  (∀ (s : State) (page n : Nat) (b : Blk), s.live → Blk.ofPage page = some (b, n) → b.neverStops = false → s.dev.stoppable page = false → s.dev.blk page ≠ 6 → s.dev.blk page ≠ 7 → 
    Completes (.softReset page) s fun d =>
      d = s.dev) ∧
  (∀ (s : State) (page n : Nat) (b : Blk) (d0 d1 : Dev), s.live → Blk.ofPage page = some (b, n) → b.neverStops = false → s.dev.stoppable page = true → ((({ s.dev with stopping := adel page s.dev.stopping } : Dev).disarm (.drain page)).put (Reg.HDR.SOFT_RESET page) false).put (Reg.HDR.DRAIN page) false = d0 → onKill b n (markAborted b n (d0.abortAll page)) = d1 → 
    Completes (.kill page) s fun d =>
      d = (if aget page s.dev.stopping = some Stopping.off then endStop b n .off d1 else if b = Blk.EVT ∧ d1.enabled page = true then d1.setBlk page 2 else moveTo b n 1 d1)) ∧
  (∀ (s : State) (page n : Nat) (b : Blk), s.live → Blk.ofPage page = some (b, n) → b.neverStops = false → s.dev.stoppable page = false → 
    Completes (.kill page) s fun d =>
      d = s.dev) ∧
  (∀ (s : State) (page n : Nat) (b : Blk) (why : Stopping), s.live → Blk.ofPage page = some (b, n) → aget page s.dev.stopping = some why → s.dev.working n b = true ∨ (why = Stopping.off ∧ s.dev.boundTo n b = true) → 
    Completes (.drainBoundaryReached page) s fun d =>
      d = s.dev) ∧
  (∀ (s : State) (page n : Nat) (b : Blk) (why : Stopping), s.live → Blk.ofPage page = some (b, n) → aget page s.dev.stopping = some why → s.dev.working n b = false → why = Stopping.off → s.dev.boundTo n b = false → 
    Completes (.drainBoundaryReached page) s fun d =>
      d = endStop b n why s.dev) ∧
  (∀ (s : State) (page : Nat), s.live → aget page s.dev.stopping = none ∨ s.dev.due (.drain page) = none ∨ Blk.ofPage page = none → 
    Completes (.drainTimeout page) s fun d =>
      d = s.dev) ∧
  (∀ (s : State) (page n : Nat) (b : Blk) (t : Nat) (why : Stopping) (d1 : Dev), s.live → Blk.ofPage page = some (b, n) → aget page s.dev.stopping = some why → s.dev.due (.drain page) = some t → onTimeout b n (markAborted b n (((s.dev.advanceTo t).disarm (.drain page)).abortAll page)) = d1 → 
    Completes (.drainTimeout page) s fun d =>
      d = (match aget page d1.stopping with | none => (if why = Stopping.enable then d1 else endStop b n why d1) | some why => (if (b = Blk.MOT ∨ b = Blk.SEC ∨ b = Blk.PRT) ∧ d1.working n b = true then d1 else endStop b n why d1)))

/-- OWNER_WRITE takes the new TAG only when the old one equals EXPECT and the new one is not 0xFF, and leaves the
machine alone otherwise; a TAG cleared on a channel in a run puts it in WAITING. REVOKE_CLIENT ends the run of every
channel of that client with cause 0x0B, frees it and raises its source, and leaves the other channels; a client of 0
or 0xFF names none. DOMAIN_WAIT_EXPIRY cuts the transfers bound to the domain with cause 0x0D and turns off a block
that waited for them. REPLY_ARRIVAL takes the request away when epoch and sequence number match, and counts a stale
reply otherwise. A TAG cleared in the middle of a burst lets the burst end first; a free channel, or one not in run,
only has its TAG cleared. Completes (exec answers a next state, under hypotheses on state and operands alone):
ownerWrite, revokeClient, domainWaitExpiry, replyArrival. (R45, R41, R42.) -/
def Obligations.ChannelsAndReplies : Prop :=
  (∀ (s : State) (n expect tag : Nat), s.live → n < 32 → expect < 256 → tag < 256 → s.dev.pageOff (0x20 + n) = false → s.dev.get (Reg.DMA.OWNER.TAG n) = expect → tag ≠ 0xFF → tag ≠ 0 → 
    Completes (.ownerWrite n expect tag) s fun d =>
      d = s.dev.set (Reg.DMA.OWNER.TAG n) tag) ∧
  (∀ (s : State) (n expect tag : Nat), s.live → n < 32 → expect < 256 → tag < 256 → s.dev.pageOff (0x20 + n) = false → s.dev.get (Reg.DMA.OWNER.TAG n) ≠ expect → 
    Completes (.ownerWrite n expect tag) s fun d =>
      d = s.dev) ∧
  (∀ (s : State) (client : Nat), s.live → s.dev.pageOff 0x1F = false → client < 256 → client ≠ 0 → client ≠ 255 → 
    Completes (.revokeClient client) s fun d =>
      d = (List.range 32).foldl (fun (d : Dev) n => if d.get (Reg.DMA.OWNER.TAG n) = client then dmaRevoke n d else d) s.dev ∧
        ∀ n ∈ List.range 32,
          (s.dev.get (Reg.DMA.OWNER.TAG n) = client → d.get (Reg.DMA.OWNER.TAG n) = 0 ∧ d.evRaw .DMA n 3 = true ∧ d.dmaRuns n = false ∧
            (s.dev.dmaRuns n = true → (d.dma n).move = none ∧ d.get (Reg.DMA.STAT.CAUSE n) = 0x0B ∧ d.get (Reg.DMA.STAT.CODE n) = dmaCode 0x0B)) ∧
          (s.dev.get (Reg.DMA.OWNER.TAG n) ≠ client → d.get (Reg.DMA.OWNER.TAG n) = s.dev.get (Reg.DMA.OWNER.TAG n) ∧ d.dma n = s.dev.dma n)) ∧
  (∀ (s : State) (dom t : Nat), s.live → s.dev.due (.domainWait dom) = some t → s.dev.stopping = [] → 
    Completes (.domainWaitExpiry dom) s fun d =>
      d = (List.range 32).foldl (fun (d : Dev) n => if d.dmaBound dom n then dmaCut n 0x0D d else d) ((s.dev.advanceTo t).disarm (.domainWait dom)) ∧
        ∀ n ∈ List.range 32, (s.dev.dmaBound dom n = true → d.dmaRuns n = false ∧ d.get (Reg.DMA.STAT.CAUSE n) = 0x0D ∧
          d.get (Reg.DMA.STAT.CODE n) = 0x21 ∧ d.evRaw .DMA n 2 = true) ∧ (s.dev.dmaBound dom n = false → d.dma n = s.dev.dma n)) ∧
  (∀ (s : State) (page seq : Nat), s.live → s.dev.bus.reqs.contains { page, epoch := s.dev.get (Reg.HDR.EPOCH page), seq } = true → 
    Completes (.replyArrival page (s.dev.get (Reg.HDR.EPOCH page)) seq) s fun d =>
      d = { s.dev with bus := { s.dev.bus with reqs := s.dev.bus.reqs.erase { page, epoch := s.dev.get (Reg.HDR.EPOCH page), seq } } }) ∧
  (∀ (s : State) (page epoch seq : Nat), s.live → epoch ≠ s.dev.get (Reg.HDR.EPOCH page) → 
    Completes (.replyArrival page epoch seq) s fun d =>
      d = (s.dev.bump Reg.SYS.STALE_CNT.COUNT 1).ev .SYS 0 3) ∧
  (∀ (s : State) (dom t page n : Nat) (b : Blk), s.live → s.dev.due (.domainWait dom) = some t → Blk.ofPage page = some (b, n) → b ∈ [Blk.TRN, Blk.DMAC, Blk.CMPC, Blk.ENCC] → b.domain n = some dom → s.dev.stopping = [(page, .off)] → (List.range 32).all (fun n => !s.dev.dmaBound dom n) = true → 
    Completes (.domainWaitExpiry dom) s fun d =>
      d = endStop b n .off ((s.dev.advanceTo t).disarm (.domainWait dom)) ∧ d.blk page = 0 ∧ d.stopping = []) ∧
  (∀ (s : State) (n expect : Nat), s.live → n < 32 → expect < 256 → expect ≠ 0 → s.dev.pageOff (0x20 + n) = false → s.dev.get (Reg.DMA.OWNER.TAG n) = expect → s.dev.inRun (0x20 + n) = true → s.dev.dmaInBurst n = false → 
    Completes (.ownerWrite n expect 0) s fun d =>
      d = (dmaUnwait n (s.dev.set (Reg.DMA.OWNER.TAG n) 0)).setBlk (0x20 + n) 4) ∧
  (∀ (s : State) (n expect : Nat), s.live → n < 32 → expect < 256 → s.dev.pageOff (0x20 + n) = false → 
    Completes (.ownerWrite n expect 0xFF) s fun d =>
      d = s.dev) ∧
  (∀ (s : State) (client : Nat), s.live → s.dev.pageOff 0x1F = false → client = 0 ∨ client = 255 → 
    Completes (.revokeClient client) s fun d =>
      d = s.dev) ∧
  (∀ (s : State) (n expect : Nat), s.live → n < 32 → expect < 256 → expect ≠ 0 → s.dev.pageOff (0x20 + n) = false → s.dev.get (Reg.DMA.OWNER.TAG n) = expect → s.dev.inRun (0x20 + n) = true → s.dev.dmaInBurst n = true → 
    Completes (.ownerWrite n expect 0) s fun d =>
      d = { s.dev.set (Reg.DMA.OWNER.TAG n) 0 with stopping := aset (0x20 + n) .enable s.dev.stopping }) ∧
  (∀ (s : State) (n expect : Nat), s.live → n < 32 → expect < 256 → s.dev.pageOff (0x20 + n) = false → s.dev.get (Reg.DMA.OWNER.TAG n) = expect → expect = 0 ∨ s.dev.inRun (0x20 + n) = false → 
    Completes (.ownerWrite n expect 0) s fun d =>
      d = s.dev.set (Reg.DMA.OWNER.TAG n) 0) ∧
  (∀ (s : State) (page seq : Nat), s.live → s.dev.bus.reqs.contains { page, epoch := s.dev.get (Reg.HDR.EPOCH page), seq } = false → 
    Completes (.replyArrival page (s.dev.get (Reg.HDR.EPOCH page)) seq) s fun d =>
      d = (s.dev.bump Reg.SYS.STALE_CNT.COUNT 1).ev .SYS 0 3) ∧
  (∀ (s : State) (dom t : Nat), s.live → s.dev.due (.domainWait dom) = some t → 
    Completes (.domainWaitExpiry dom) s fun d =>
      d = (domainBlocks dom).foldl (fun (d : Dev) (t : Blk × Nat) => if aget (pg t.1 t.2) d.stopping = some Stopping.off then checkStop t.1 t.2 d else d) ((List.range 32).foldl (fun (d : Dev) n => if d.dmaBound dom n then dmaCut n 0x0D d else d) ((s.dev.advanceTo t).disarm (.domainWait dom)))) ∧
  (∀ (s : State) (dom : Nat), s.live → s.dev.due (.domainWait dom) = none → 
    Completes (.domainWaitExpiry dom) s fun d =>
      d = s.dev) ∧
  (∀ (s : State) (i : Nat), s.live → s.dev.pageOff 0x1F = true → (∀ k ∈ ([(.revokeClient i, 0x1F040)] : List (Instr × Nat)),
      Completes k.1 s fun d => d = hostRefused 0x21 k.2 s.dev)) ∧
  (∀ (s : State) (n e t : Nat), s.live → s.dev.pageOff (0x20 + n) = true → n < 32 → (∀ k ∈ ([(.ownerWrite n e t, ((0x20 + n) * 4096 + 0x40))] : List (Instr × Nat)),
      Completes k.1 s fun d => d = hostRefused 0x21 k.2 s.dev))

/-- EV_CLEAR clears the EV_RAW bits given and nothing else; EV_FORCE sets them and raises the sources that rise;
FLT_LOCAL_CLEAR puts the local fault record back to reset; each to a page that no block has is discarded.
VEC_PEND_CLEAR clears the PEND bits given, and is refused while EVT is OFFLINE. MSIX_MESSAGE of a vector that is
raised, not pending and not masked sets PEND and sends the message once the holdoff has passed; masked, it waits in
the pending array; otherwise nothing is sent. Completes (exec answers a next state, under hypotheses on state and
operands alone): evClear, evForce, fltLocalClear, vecPendClear, msixMessage. (R33, R31, R32, R48, R49.) -/
def Obligations.EventsAndVectors : Prop :=
  (∀ (s : State) (page mask : Nat), s.live → (Blk.ofPage page).isSome = true → mask < 2 ^ 32 → 
    Completes (.evClear page mask) s fun d =>
      d = s.dev.set (Reg.HDR.EV_RAW page) (andNot (s.dev.get (Reg.HDR.EV_RAW page)) mask)) ∧
  (∀ (s : State) (page mask : Nat), s.live → (Blk.ofPage page).isSome = true → mask < 2 ^ 32 → 
    Completes (.evForce page mask) s fun d =>
      (s.dev.set (Reg.HDR.EV_RAW page) (s.dev.get (Reg.HDR.EV_RAW page) ||| mask)).Flagged d ∧
        d.get (Reg.HDR.EV_RAW page) = (s.dev.get (Reg.HDR.EV_RAW page) ||| mask) % 2 ^ 32) ∧
  (∀ (s : State) (page : Nat), s.live → (Blk.ofPage page).isSome = true → 
    Completes (.fltLocalClear page) s fun d =>
      d.get (Reg.HDR.F_VALID page) = 0 ∧ d.get (Reg.HDR.F_COUNT page) = 0 ∧ d = { s.dev with regs := d.regs } ∧
        s.dev.Kept d [Reg.HDR.F_TS page, Reg.HDR.F_ADDR page, Reg.HDR.F_VALID page, Reg.HDR.F_SEVERITY page, Reg.HDR.F_KIND page,
          Reg.HDR.F_ACCESS page, Reg.HDR.F_MASTER page, Reg.HDR.F_COUNT page, Reg.HDR.F_ARG page]) ∧
  (∀ (s : State) (mask : Nat), s.live → s.dev.pageOff 4 = false → s.dev.blk 4 ≠ 6 → mask < 2 ^ 64 → 
    Completes (.vecPendClear mask) s fun d =>
      d = { s.dev.set Reg.EVT.VEC_PEND.PEND (andNot (s.dev.get Reg.EVT.VEC_PEND.PEND) mask) with bus := d.bus }) ∧
  (∀ (s : State) (v : Nat), s.live → s.dev.runs (pg .EVT 0) = true → v < 64 → s.dev.bitOf Reg.EVT.VEC_PEND.PEND v = false → s.dev.vecRaised v = true → (tget MsixEntry.init s.dev.evt.table v).masked = false → 
    Completes (.msixMessage v) s fun d =>
      d = ({ (s.dev.advanceTo (s.dev.vecFree v)).setBit Reg.EVT.VEC_PEND.PEND v with evt := { s.dev.evt with lastSent := aset v (s.dev.advanceTo (s.dev.vecFree v)).time.up s.dev.evt.lastSent } }).emit (.msix v)) ∧
  (∀ (s : State) (page n mask : Nat) (b : Blk), s.live → Blk.ofPage page = some (b, n) → mask < 2 ^ 32 → 
    Completes (.evForce page mask) s fun d =>
      d = s.dev.evWrite b n fun (d : Dev) => d.set (Reg.HDR.EV_RAW (pg b n)) (d.get (Reg.HDR.EV_RAW (pg b n)) ||| mask)) ∧
  (∀ (s : State) (page : Nat), s.live → (Blk.ofPage page).isSome = true → 
    Completes (.fltLocalClear page) s fun d =>
      d = s.dev.resetFields [Reg.HDR.F_TS page, Reg.HDR.F_ADDR page, Reg.HDR.F_VALID page, Reg.HDR.F_SEVERITY page, Reg.HDR.F_KIND page, Reg.HDR.F_ACCESS page, Reg.HDR.F_MASTER page, Reg.HDR.F_COUNT page, Reg.HDR.F_ARG page]) ∧
  (∀ (s : State) (v : Nat), s.live → s.dev.vecMay v = false → 
    Completes (.msixMessage v) s fun d =>
      d = s.dev) ∧
  (∀ (s : State) (v : Nat), s.live → s.dev.vecMay v = true → (tget MsixEntry.init s.dev.evt.table v).masked = true → 
    Completes (.msixMessage v) s fun d =>
      d = { s.dev with evt := { s.dev.evt with pba := if s.dev.evt.pba.contains v = true then s.dev.evt.pba else s.dev.evt.pba ++ [v] } }) ∧
  (∀ (s : State) (v : Nat), s.live → s.dev.vecMay v = true → (tget MsixEntry.init s.dev.evt.table v).masked = false → 
    Completes (.msixMessage v) s fun d =>
      (let t := s.dev.advanceTo (s.dev.vecFree v); d = ({ t.setBit Reg.EVT.VEC_PEND.PEND v with evt := { s.dev.evt with lastSent := aset v t.time.up s.dev.evt.lastSent, pba := s.dev.evt.pba.filter (· != v) } }).emit (.msix v))) ∧
  (∀ (s : State) (mask : Nat), s.live → s.dev.blk 4 = 6 → 
    Completes (.vecPendClear mask) s fun d =>
      d = hostRefused 0x10 0x4084 (hostRefused 0x10 0x4080 s.dev)) ∧
  (∀ (s : State) (mask : Nat), s.live → s.dev.pageOff 4 = true → 
    Completes (.vecPendClear mask) s fun d =>
      d = hostRefused 0x21 0x4084 (hostRefused 0x21 0x4080 s.dev)) ∧
  (∀ (s : State) (page mask : Nat), s.live → Blk.ofPage page = none → (∀ k ∈ ([(.evClear page mask, page * 4096 + 0x18), (.evForce page mask, page * 4096 + 0x1C), (.fltLocalClear page, page * 4096 + 0x30)] : List (Instr × Nat)),
      Completes k.1 s fun d => d = discarded Kind.SYS.ABSENT_TARGET Party.host true k.2 s.dev))

/-- MODE_REQ_GO: a request that no precondition refuses sets PENDING and TARGET, one that a precondition refuses shows
its code and raises MODE_REFUSED, a mode that does not exist is refused with code 1; with the current mode it
re-arms a halted device, unless refused, and does nothing to another. MODE_CHANGED of a pending and ready change
enters the target, clears PENDING and HALT and sets SYS EV bit 4. CLOCKS_LOCKED sets every STAT bit of CLK and the
bring-up flag; FUSES_READ shows the lifecycle, the key rows, the trims and every bad key slot, and sets its flag;
PCIE_READY shows the link width and speed. Where the step before is missing or the step is done, nothing changes.
Completes (exec answers a next state, under hypotheses on state and operands alone): modeReqGo, modeChanged,
clocksLocked, fusesRead, pcieReady. (R52, R54, R55, R56, R58, R62.) -/
def Obligations.ModesAndBringUp : Prop :=
  (∀ (s : State) (mode : Nat) (atLine : Bool), s.live → s.dev.pageOff 0 = false → mode < 6 → mode ≠ s.dev.mode → s.dev.mode ≠ 1 → s.dev.sec.cmd = none → s.dev.modeRefusal mode = none → 
    Completes (.modeReqGo mode atLine) s fun d =>
      d.is Reg.SYS.MODE_STAT.PENDING = true ∧ d.get Reg.SYS.MODE_STAT.TARGET = mode ∧
        d = { s.dev with regs := d.regs, sys := d.sys } ∧
        s.dev.Kept d [Reg.SYS.MODE_REQ.MODE, Reg.SYS.MODE_REQ.WHEN, Reg.SYS.MODE_STAT.PENDING, Reg.SYS.MODE_STAT.TARGET]) ∧
  (∀ (s : State) (mode : Nat) (atLine : Bool), s.live → s.dev.pageOff 0 = false → mode = 6 ∨ mode = 7 → s.dev.mode ≠ mode → 
    Completes (.modeReqGo mode atLine) s fun d =>
      d.is Reg.SYS.MODE_STAT.REFUSED = true ∧ d.get Reg.SYS.MODE_STAT.REFUSE = 1 ∧ d.evRaw .SYS 0 Kind.SYS.MODE_REFUSED.bit = true) ∧
  (∀ s : State, s.live → s.dev.is Reg.SYS.MODE_STAT.PENDING = true → s.dev.modeReady = true → s.dev.printing = false → s.dev.get Reg.SYS.MODE_STAT.TARGET < 2 → 
    Completes (.modeChanged) s fun d =>
      d.mode = s.dev.get Reg.SYS.MODE_STAT.TARGET ∧ d.is Reg.SYS.MODE_STAT.PENDING = false ∧ d.halted = false ∧ d.evRaw .SYS 0 4 = true) ∧
  (∀ s : State, s.live → s.dev.is Reg.SYS.BRINGUP.CLOCKS_LOCKED = false → s.dev.pwr.rootLost = false → 
    Completes (.clocksLocked) s fun d =>
      (∀ f ∈ [Reg.CLK.STAT.ROOT, Reg.CLK.STAT.MEM, Reg.CLK.STAT.PCIE, Reg.CLK.STAT.EMR0, Reg.CLK.STAT.EMR1, Reg.CLK.STAT.DLL,
        Reg.CLK.STAT.REF_OK, Reg.SYS.BRINGUP.CLOCKS_LOCKED], d.is f = true)) ∧
  (∀ s : State, s.live → s.dev.is Reg.SYS.BRINGUP.CLOCKS_LOCKED = true → s.dev.is Reg.SYS.BRINGUP.FUSES_READ = false → 
    Completes (.fusesRead) s fun d =>
      d.is Reg.SYS.BRINGUP.FUSES_READ = true ∧ d.get Reg.SEC.LIFECYCLE.STATE = s.fuse.state ∧ d.get Reg.SEC.SPRING_SLOTS.ROWS = s.fuse.rows.length % 16) ∧
  (∀ (s : State) (width speed : Nat), s.live → s.dev.is Reg.CLK.STAT.PCIE = true → 
    Completes (.pcieReady width speed) s fun d =>
      d = ((s.dev.set Reg.PCI.LINK_STAT.STATE 2).set Reg.PCI.LINK_STAT.WIDTH width).set Reg.PCI.LINK_STAT.SPEED speed) ∧
  (∀ (s : State) (mode : Nat) (atLine : Bool) (d0 : Dev), s.live → s.dev.pageOff 0 = false → mode < 8 → (s.dev.set Reg.SYS.MODE_REQ.MODE mode).put Reg.SYS.MODE_REQ.WHEN atLine = d0 → mode = s.dev.mode → s.dev.halted = false → 
    Completes (.modeReqGo mode atLine) s fun d =>
      d = d0) ∧
  (∀ (s : State) (mode : Nat) (atLine : Bool) (d0 : Dev) (c : Nat), s.live → s.dev.pageOff 0 = false → mode < 8 → (s.dev.set Reg.SYS.MODE_REQ.MODE mode).put Reg.SYS.MODE_REQ.WHEN atLine = d0 → mode = s.dev.mode → s.dev.halted = true → d0.rearmRefusal = some c → 
    Completes (.modeReqGo mode atLine) s fun d =>
      d = modeRefused c d0) ∧
  (∀ (s : State) (mode : Nat) (atLine : Bool) (d0 : Dev), s.live → s.dev.pageOff 0 = false → mode < 8 → (s.dev.set Reg.SYS.MODE_REQ.MODE mode).put Reg.SYS.MODE_REQ.WHEN atLine = d0 → mode = s.dev.mode → s.dev.halted = true → d0.rearmRefusal = none → 
    Completes (.modeReqGo mode atLine) s fun d =>
      (let t : Dev := { d0.setHalt false with prt := { d0.prt with stopped := [] } }; d = if t.printing = true then scheduleAll (activatePassed t) else t)) ∧
  (∀ (s : State) (mode : Nat) (atLine : Bool) (d0 : Dev) (c : Nat), s.live → s.dev.pageOff 0 = false → mode < 8 → (s.dev.set Reg.SYS.MODE_REQ.MODE mode).put Reg.SYS.MODE_REQ.WHEN atLine = d0 → mode ≠ s.dev.mode → d0.modeRefusal mode = some c → 
    Completes (.modeReqGo mode atLine) s fun d =>
      d = modeRefused c d0) ∧
  (∀ (s : State) (mode : Nat) (atLine : Bool) (d0 : Dev), s.live → s.dev.pageOff 0 = false → mode < 8 → (s.dev.set Reg.SYS.MODE_REQ.MODE mode).put Reg.SYS.MODE_REQ.WHEN atLine = d0 → mode ≠ s.dev.mode → d0.modeRefusal mode = none → 
    Completes (.modeReqGo mode atLine) s fun d =>
      d = modeAccepted mode atLine d0 ∧ d.is Reg.SYS.MODE_STAT.PENDING = true) ∧
  (∀ s : State, s.live → s.dev.is Reg.SYS.MODE_STAT.PENDING = true → s.dev.modeReady = true → 
    Completes (.modeChanged) s fun d =>
      d = (enterMode (s.dev.get Reg.SYS.MODE_STAT.TARGET) (s.dev.setHalt false)).ev .SYS 0 4) ∧
  (∀ s : State, s.live → s.dev.is Reg.SYS.MODE_STAT.PENDING = false ∨ s.dev.modeReady = false → 
    Completes (.modeChanged) s fun d =>
      d = s.dev) ∧
  (∀ s : State, s.live → s.dev.is Reg.SYS.BRINGUP.CLOCKS_LOCKED = false → s.dev.pwr.rootLost = false → 
    Completes (.clocksLocked) s fun d =>
      d = levelSync (([Reg.CLK.STAT.ROOT, Reg.CLK.STAT.MEM, Reg.CLK.STAT.PCIE, Reg.CLK.STAT.EMR0, Reg.CLK.STAT.EMR1, Reg.CLK.STAT.DLL, Reg.CLK.STAT.REF_OK].foldl (fun (d : Dev) f => d.put f true) s.dev).bringup Reg.SYS.BRINGUP.CLOCKS_LOCKED true)) ∧
  (∀ s : State, s.live → s.dev.is Reg.SYS.BRINGUP.CLOCKS_LOCKED = true ∨ s.dev.pwr.rootLost = true → 
    Completes (.clocksLocked) s fun d =>
      d = s.dev) ∧
  (∀ s : State, s.live → s.dev.is Reg.SYS.BRINGUP.CLOCKS_LOCKED = true → s.dev.is Reg.SYS.BRINGUP.FUSES_READ = false → 
    Completes (.fusesRead) s fun d =>
      d = ((List.range 8).foldl (fun (d : Dev) i => if (s.fuse.slot i).crcOk = true then d else d.raise 0 Kind.SEC.KEYSTORE_BAD { arg := i }) (calFuses s.fuse.trims s.fuse.limits s.fuse.trimsOk (showFuses s.fuse s.dev))).bringup Reg.SYS.BRINGUP.FUSES_READ true) ∧
  (∀ s : State, s.live → s.dev.is Reg.SYS.BRINGUP.CLOCKS_LOCKED = false ∨ s.dev.is Reg.SYS.BRINGUP.FUSES_READ = true → 
    Completes (.fusesRead) s fun d =>
      d = s.dev) ∧
  (∀ (s : State) (width speed : Nat), s.live → s.dev.is Reg.CLK.STAT.PCIE = false → 
    Completes (.pcieReady width speed) s fun d =>
      d = s.dev) ∧
  (∀ (s : State) (m : Nat) (b : Bool), s.live → s.dev.pageOff 0 = true → (∀ k ∈ ([(.modeReqGo m b, 0x50)] : List (Instr × Nat)),
      Completes k.1 s fun d => d = hostRefused 0x21 k.2 s.dev))

/-- SPRING_SCRIPT_START of a script that passes its checks starts the time limit of 10 s and the first entry;
SPRING_WRITE and SPRING_MODIFY write the register of the entry with the access code of internal writers; SPRING_POLL
and SPRING_DELAY start their waits, which SPRING_POLL_MET, SPRING_POLL_TIMEOUT and SPRING_DELAY_END end;
SPRING_END_ENTRY ends the script well, SPRING_TIME_LIMIT stops it. A script that fails its checks is shown with its
result, rejected where the magic or CRC is wrong; a command that does not fit the entry being run, or whose timer
does not run, changes nothing. Completes (exec answers a next state, under hypotheses on state and operands alone):
springScriptStart, springWrite, springModify, springPoll, springPollMet, springPollTimeout, springDelay,
springDelayEnd, springEndEntry, springTimeLimit. (R64, R65, R66.) -/
def Obligations.SpringScript : Prop :=
  (∀ s : State, s.live → s.dev.get Reg.SYS.SPRING_STAT.STATE = 0 → s.dev.is Reg.SYS.BRINGUP.SHALLOWS_READY = true → s.dev.sys.stopAtB3 = false → springCheck s.fuse s.dev (memRead 0xFF s.dev.flash 0 32) = 1 → 
    Completes (.springScriptStart) s fun d =>
      d = springReach (({ s.dev with sys := { s.dev.sys with spring := { script := memRead 0xFF s.dev.flash 0 32 ++ memRead 0xFF s.dev.flash 32 (16 * leAt (memRead 0xFF s.dev.flash 0 32) 8 4), entry := 0, waiting := 0 } } }.set
        Reg.SYS.SPRING_STAT.STATE 1).arm .springLimit (10 * sec))) ∧
  (∀ s : State, s.live → s.dev.springAt 1 = true → 
    Completes (.springWrite) s fun d =>
      d = springWrote s.dev.sys.spring (completed Party.spring (busWrite s.fuse Party.spring (s.dev.sys.spring.part 4 4) (s.dev.sys.spring.part 8 4) s.dev).1
        (busWrite s.fuse Party.spring (s.dev.sys.spring.part 4 4) (s.dev.sys.spring.part 8 4) s.dev).2)) ∧
  (∀ (s : State) (v code : Nat) (d0 : Dev), s.live → s.dev.springAt 2 = true → busRead s.fuse Party.spring (s.dev.sys.spring.part 4 4) s.dev = (v, code, d0) → 
    Completes (.springModify) s fun d =>
      d = springWrote s.dev.sys.spring (completed Party.spring (busWrite s.fuse Party.spring (s.dev.sys.spring.part 4 4) (andNot v (s.dev.sys.spring.part 12 4) ||| ((s.dev.sys.spring.part 8 4) &&& (s.dev.sys.spring.part 12 4))) (completed Party.spring code d0)).1
        (busWrite s.fuse Party.spring (s.dev.sys.spring.part 4 4) (andNot v (s.dev.sys.spring.part 12 4) ||| ((s.dev.sys.spring.part 8 4) &&& (s.dev.sys.spring.part 12 4))) (completed Party.spring code d0)).2)) ∧
  (∀ s : State, s.live → s.dev.springAt 3 = true → 
    Completes (.springPoll) s fun d =>
      d = { s.dev with sys := { s.dev.sys with spring := { s.dev.sys.spring with waiting := 1 } } }.arm .springPoll (s.dev.sys.spring.part 2 2 * 10 * us)) ∧
  (∀ (s : State) (v code : Nat) (d0 : Dev), s.live → s.dev.springWaits 1 = true → busRead s.fuse Party.spring (s.dev.sys.spring.part 4 4) s.dev = (v, code, d0) → v &&& (s.dev.sys.spring.part 12 4) = (s.dev.sys.spring.part 8 4) → 
    Completes (.springPollMet) s fun d =>
      d = springNext (completed Party.spring code d0)) ∧
  (∀ (s : State) (t : Nat), s.live → s.dev.springWaits 1 = true → s.dev.due .springPoll = some t → byteAt s.dev.sys.spring.script 5 / 2 % 2 = 0 → 
    Completes (.springPollTimeout) s fun d =>
      d = springNext ((s.dev.advanceTo t).disarm .springPoll)) ∧
  (∀ s : State, s.live → s.dev.springAt 4 = true → 
    Completes (.springDelay) s fun d =>
      d = { s.dev with sys := { s.dev.sys with spring := { s.dev.sys.spring with waiting := 2 } } }.arm .springDelay (min 1000000 (s.dev.sys.spring.part 8 4) * us)) ∧
  (∀ (s : State) (t : Nat), s.live → s.dev.springWaits 2 = true → s.dev.due .springDelay = some t → 
    Completes (.springDelayEnd) s fun d =>
      d = springNext ((s.dev.advanceTo t).disarm .springDelay)) ∧
  (∀ s : State, s.live → s.dev.springAt 0x0F = true → 
    Completes (.springEndEntry) s fun d =>
      d = springEnds (((s.dev.bump Reg.SYS.SPRING_STAT.EXECUTED 1).set Reg.SYS.SPRING_STAT.STATE 2).set Reg.SYS.SPRING_STAT.ENTRY 0) ∧
        d.get Reg.SYS.SPRING_STAT.STATE = 2 ∧ d.is Reg.SYS.BRINGUP.SPRING_END = true ∧ d.evRaw .SYS 0 8 = true) ∧
  (∀ (s : State) (t : Nat), s.live → s.dev.get Reg.SYS.SPRING_STAT.STATE = 1 → s.dev.due .springLimit = some t → 
    Completes (.springTimeLimit) s fun d =>
      d = springEnds ((((s.dev.advanceTo t).disarm .springLimit).set Reg.SYS.SPRING_STAT.STATE 5).set Reg.SYS.SPRING_STAT.ENTRY s.dev.sys.spring.entry) ∧
        d.get Reg.SYS.SPRING_STAT.STATE = 5 ∧ d.is Reg.SYS.BRINGUP.SPRING_END = true) ∧
  (∀ (s : State) (v code : Nat) (d0 : Dev), s.live → s.dev.springWaits 1 = true → busRead s.fuse Party.spring (s.dev.sys.spring.part 4 4) s.dev = (v, code, d0) → v &&& (s.dev.sys.spring.part 12 4) ≠ (s.dev.sys.spring.part 8 4) → 
    Completes (.springPollMet) s fun d =>
      d = completed Party.spring code d0) ∧
  (∀ (s : State) (t : Nat), s.live → s.dev.springWaits 1 = true → s.dev.due .springPoll = some t → byteAt s.dev.sys.spring.script 5 / 2 % 2 = 1 → 
    Completes (.springPollTimeout) s fun d =>
      d = springStop true ((s.dev.advanceTo t).disarm .springPoll) ∧ d.get Reg.SYS.SPRING_STAT.STATE = 5 ∧ d.evRaw .SYS 0 Kind.SYS.SPRING_STOPPED.bit = true) ∧
  (∀ s : State, s.live → s.dev.get Reg.SYS.SPRING_STAT.STATE = 0 → s.dev.is Reg.SYS.BRINGUP.SHALLOWS_READY = true → s.dev.sys.stopAtB3 = false → springCheck s.fuse s.dev (memRead 0xFF s.dev.flash 0 32) ≠ 1 → 
    Completes (.springScriptStart) s fun d =>
      d.get Reg.SYS.SPRING_STAT.STATE = springCheck s.fuse s.dev (memRead 0xFF s.dev.flash 0 32) ∧ d.is Reg.SYS.BRINGUP.SPRING_END = true ∧
        (springCheck s.fuse s.dev (memRead 0xFF s.dev.flash 0 32) = 4 → d.evRaw .SYS 0 Kind.SYS.SPRING_REJECTED.bit = true)) ∧
  (∀ (s : State) (r : Nat), s.live → s.dev.get Reg.SYS.SPRING_STAT.STATE = 0 → s.dev.is Reg.SYS.BRINGUP.SHALLOWS_READY = true → s.dev.sys.stopAtB3 = false → springCheck s.fuse s.dev (memRead 0xFF s.dev.flash 0 32) = r → r ≠ 1 → 
    Completes (.springScriptStart) s fun d =>
      (let t := springEnds ((({ s.dev with sys := { s.dev.sys with spring := { script := [], entry := 0, waiting := 0 } } } : Dev).set Reg.SYS.SPRING_STAT.STATE r)); d = if r = 4 then t.raise 0 Kind.SYS.SPRING_REJECTED else t)) ∧
  (∀ s : State, s.live → s.dev.get Reg.SYS.SPRING_STAT.STATE ≠ 0 ∨ s.dev.is Reg.SYS.BRINGUP.SHALLOWS_READY = false ∨ s.dev.sys.stopAtB3 = true → 
    Completes (.springScriptStart) s fun d =>
      d = s.dev) ∧
  (∀ s : State, s.live → s.dev.springAt 1 = false → 
    Completes (.springWrite) s fun d =>
      d = s.dev) ∧
  (∀ s : State, s.live → s.dev.springAt 2 = false → 
    Completes (.springModify) s fun d =>
      d = s.dev) ∧
  (∀ s : State, s.live → s.dev.springAt 3 = false → 
    Completes (.springPoll) s fun d =>
      d = s.dev) ∧
  (∀ s : State, s.live → s.dev.springWaits 1 = false → 
    Completes (.springPollMet) s fun d =>
      d = s.dev) ∧
  (∀ s : State, s.live → s.dev.springWaits 1 = false ∨ s.dev.due .springPoll = none → 
    Completes (.springPollTimeout) s fun d =>
      d = s.dev) ∧
  (∀ s : State, s.live → s.dev.springAt 4 = false → 
    Completes (.springDelay) s fun d =>
      d = s.dev) ∧
  (∀ s : State, s.live → s.dev.springWaits 2 = false ∨ s.dev.due .springDelay = none → 
    Completes (.springDelayEnd) s fun d =>
      d = s.dev) ∧
  (∀ s : State, s.live → s.dev.springAt 0x0F = false → 
    Completes (.springEndEntry) s fun d =>
      d = s.dev) ∧
  (∀ s : State, s.live → s.dev.due .springLimit = none → 
    Completes (.springTimeLimit) s fun d =>
      d = s.dev) ∧
  (∀ (s : State) (t : Nat), s.live → s.dev.due .springLimit = some t → 
    Completes (.springTimeLimit) s fun d =>
      d = springStop false ((s.dev.advanceTo t).disarm .springLimit))

/-- GEOM_LOAD outside print modes with no load in progress starts a load of the ports selected, and is refused with code
0x0F otherwise; GEOM_LOAD_DONE ends it: the table of a port that passes the checks is in force with its GEOM_OK bit,
and of one that fails the code, the port and the fault are shown and the old table stays. Q_TAIL_WRITE takes a valid
move and refuses another; Q_CANCEL takes every descriptor up to Q_TAIL, and ends those not yet started in their
turn; Q_HOLD and Q_ENABLE set their bit and leave the other. A geometry load ended without one in progress counts as
a stale reply. Completes (exec answers a next state, under hypotheses on state and operands alone): geomLoad,
geomLoadDone, qTailWrite, qCancel, qHold, qEnable. (R75, R84, R89, R90, R91.) -/
def Obligations.GeometryAndQueues : Prop :=
  (∀ (s : State) (ports : Nat), s.live → s.dev.pageOff 0xB0 = false → s.dev.printing = false → s.dev.prt.loading = none → ports < 2 ^ 64 → 
    Completes (.geomLoad ports) s fun d =>
      d = { ((s.dev.set Reg.PRT.GEOM_STAT.LAST_CODE 0).set Reg.PRT.GEOM_STAT.LAST_PORT 0).put Reg.PRT.GEOM_STAT.BUSY true with prt := { s.dev.prt with loading := some ports }, bus := d.bus } ∧ d.inFlight (pg .PRT 0) = true ∧
        ∀ r ∈ s.dev.bus.reqs, r ∈ d.bus.reqs) ∧
  (∀ (s : State) (ports : Nat), s.live → s.dev.pageOff 0xB0 = false → s.dev.printing = true ∨ s.dev.prt.loading ≠ none → ports < 2 ^ 64 → 
    Completes (.geomLoad ports) s fun d =>
      d = { (((s.dev.set Reg.PRT.GEOM_STAT.LAST_CODE 0x0F).set Reg.PRT.GEOM_STAT.LAST_PORT 0).raise 0 Kind.PRT.GEOM_REFUSED : Dev) with bus := d.bus } ∧
        d.bus.reqs = s.dev.bus.reqs ∧ d.evRaw .PRT 0 Kind.PRT.GEOM_REFUSED.bit = true) ∧
  (∀ (s : State) (n : Nat), s.live → n < 64 → s.dev.prt.loading = some (2 ^ n) → 
    Completes (.geomLoadDone []) s fun d =>
      d.prt.loading = none ∧ d.is Reg.PRT.GEOM_STAT.BUSY = false ∧ d.evRaw .PRT 0 5 = true ∧
        (geomCode (s.dev.basinRead (s.dev.geomAddr n) 65856) n (s.dev.basinFails (s.dev.geomAddr n) 65856) = 0 → d.geom n = some (parseGeom (s.dev.basinRead (s.dev.geomAddr n) 65856)) ∧ d.bitOf Reg.PRT.GEOM_OK.OK n = true ∧
          (d.health n).tableCrc = leAt (s.dev.basinRead (s.dev.geomAddr n) 64) 60 4 + 1) ∧
        (geomCode (s.dev.basinRead (s.dev.geomAddr n) 65856) n (s.dev.basinFails (s.dev.geomAddr n) 65856) ≠ 0 → d.prt.geom = s.dev.prt.geom ∧ d.get Reg.PRT.GEOM_STAT.LAST_CODE = geomCode (s.dev.basinRead (s.dev.geomAddr n) 65856) n (s.dev.basinFails (s.dev.geomAddr n) 65856) ∧
          d.get Reg.PRT.GEOM_STAT.LAST_PORT = n ∧ d.evRaw .PRT 0 Kind.PRT.GEOM_FAILED.bit = true)) ∧
  (∀ (s : State) (p v : Nat), s.live → p < 16 → s.dev.pageOff 0xB0 = false → v < s.dev.qSize p → (s.dev.get (Reg.PRT.Q_TAIL.INDEX p) + s.dev.qSize p - s.dev.get (Reg.PRT.Q_HEAD.INDEX p)) % s.dev.qSize p ≤
      (v + s.dev.qSize p - s.dev.get (Reg.PRT.Q_HEAD.INDEX p)) % s.dev.qSize p → 
    Completes (.qTailWrite p v) s fun d =>
      d = s.dev.set (Reg.PRT.Q_TAIL.INDEX p) v) ∧
  (∀ (s : State) (p v : Nat), s.live → p < 16 → s.dev.pageOff 0xB0 = false → v < 65536 → s.dev.qSize p ≤ v → 
    Completes (.qTailWrite p v) s fun d =>
      d = s.dev.raise 0 Kind.PRT.BAD_DESC { arg := 0xFFFFFFFF }) ∧
  (∀ (s : State) (p : Nat), s.live → p < 16 → s.dev.pageOff 0xB0 = false → (s.dev.plane p).jobs = [] → 
    Completes (.qCancel p) s fun d =>
      d = activatePassed (qCancel p (((s.dev.set (Reg.PRT.Q_CTRL.MARK p) (s.dev.get (Reg.PRT.Q_CTRL.MARK p))).set (Reg.PRT.Q_CTRL.HOLD p)
        (s.dev.get (Reg.PRT.Q_CTRL.HOLD p))).set (Reg.PRT.Q_CTRL.ENABLE p) (s.dev.get (Reg.PRT.Q_CTRL.ENABLE p)))) ∧
        (d.plane p).take = s.dev.get (Reg.PRT.Q_TAIL.INDEX p)) ∧
  (∀ (s : State) (p : Nat) (on : Bool), s.live → p < 16 → s.dev.pageOff 0xB0 = false → s.dev.prt.planes = [] → 
    Completes (.qHold p on) s fun d =>
      d.is (Reg.PRT.Q_CTRL.HOLD p) = on ∧ d.get (Reg.PRT.Q_CTRL.ENABLE p) = s.dev.get (Reg.PRT.Q_CTRL.ENABLE p) % 2 ∧
        d = { s.dev with regs := d.regs } ∧ s.dev.Kept d [Reg.PRT.Q_CTRL.HOLD p, Reg.PRT.Q_CTRL.ENABLE p]) ∧
  (∀ (s : State) (p : Nat) (on : Bool), s.live → p < 16 → s.dev.pageOff 0xB0 = false → s.dev.prt.planes = [] → 
    Completes (.qEnable p on) s fun d =>
      d.is (Reg.PRT.Q_CTRL.ENABLE p) = on ∧ d.get (Reg.PRT.Q_CTRL.HOLD p) = s.dev.get (Reg.PRT.Q_CTRL.HOLD p) % 2 ∧
        d = { s.dev with regs := d.regs } ∧ s.dev.Kept d [Reg.PRT.Q_CTRL.HOLD p, Reg.PRT.Q_CTRL.ENABLE p]) ∧
  (∀ (s : State) (p : Nat) (on : Bool), s.live → p < 16 → s.dev.pageOff 0xB0 = false → 
    Completes (.qHold p on) s fun d =>
      d = activatePassed (((s.dev.set (Reg.PRT.Q_CTRL.MARK p) (s.dev.get (Reg.PRT.Q_CTRL.MARK p))).set (Reg.PRT.Q_CTRL.HOLD p) (b2n on)).set
        (Reg.PRT.Q_CTRL.ENABLE p) (s.dev.get (Reg.PRT.Q_CTRL.ENABLE p)))) ∧
  (∀ (s : State) (p : Nat) (on : Bool), s.live → p < 16 → s.dev.pageOff 0xB0 = false → 
    Completes (.qEnable p on) s fun d =>
      d = activatePassed (((s.dev.set (Reg.PRT.Q_CTRL.MARK p) (s.dev.get (Reg.PRT.Q_CTRL.MARK p))).set (Reg.PRT.Q_CTRL.HOLD p) (s.dev.get (Reg.PRT.Q_CTRL.HOLD p))).set
        (Reg.PRT.Q_CTRL.ENABLE p) (b2n on))) ∧
  (∀ (s : State) (p : Nat), s.live → p < 16 → s.dev.pageOff 0xB0 = false → 
    Completes (.qCancel p) s fun d =>
      d = activatePassed (qCancel p (((s.dev.set (Reg.PRT.Q_CTRL.MARK p) (s.dev.get (Reg.PRT.Q_CTRL.MARK p))).set (Reg.PRT.Q_CTRL.HOLD p)
        (s.dev.get (Reg.PRT.Q_CTRL.HOLD p))).set (Reg.PRT.Q_CTRL.ENABLE p) (s.dev.get (Reg.PRT.Q_CTRL.ENABLE p))))) ∧
  (∀ (s : State) (p : Nat), s.live → p < 16 → s.dev.pageOff 0xB0 = false → (s.dev.plane p).jobs = [] → (s.dev.plane p).take < s.dev.qSize p → s.dev.get (Reg.PRT.Q_TAIL.INDEX p) = ((s.dev.plane p).take + 1) % s.dev.qSize p → 1 < s.dev.qSize p → 
    Completes (.qCancel p) s fun d =>
      (d.plane p).jobs = [] ∧ d.get (Reg.PRT.Q_HEAD.INDEX p) = s.dev.get (Reg.PRT.Q_TAIL.INDEX p)) ∧
  (∀ (s : State) (ports : Nat) (poisoned : List Nat), s.live → s.dev.prt.loading = some ports → 
    Completes (.geomLoadDone poisoned) s fun d =>
      d = (let t := (bitList 64 ports).foldl (fun (d : Dev) n => (let d1 := geomLoadPort poisoned d n; let crc := leAt (d1.basinRead (d1.geomAddr n) 64) 60 4 + 1; if geomCode (d1.basinRead (d1.geomAddr n) 65856) n (d1.basinFails (d1.geomAddr n) 65856) = 0 then (let d2 := if (d1.health n).tableCrc = crc then d1 else forgetPort n (d1.setHealth n { d1.health n with tableCrc := crc }); if d2.headUp n = true then queueCtrl n 0x40 (some (match d2.geom n with | some g => g.dotMode | none => 0)) true (compareHead n d2) else d2) else d1)) (s.dev.answer (pg .PRT 0)); healthSync ((({ t with prt := { t.prt with loading := none } } : Dev).put Reg.PRT.GEOM_STAT.BUSY false).ev .PRT 0 5))) ∧
  (∀ (s : State) (poisoned : List Nat), s.live → s.dev.prt.loading = none → 
    Completes (.geomLoadDone poisoned) s fun d =>
      d = (s.dev.bump Reg.SYS.STALE_CNT.COUNT 1).ev .SYS 0 3) ∧
  (∀ (s : State) (p v : Nat), s.live → p < 16 → s.dev.pageOff 0xB0 = false → v < s.dev.qSize p → v < 65536 → (v + s.dev.qSize p - s.dev.get (Reg.PRT.Q_HEAD.INDEX p)) % s.dev.qSize p < (s.dev.get (Reg.PRT.Q_TAIL.INDEX p) + s.dev.qSize p - s.dev.get (Reg.PRT.Q_HEAD.INDEX p)) % s.dev.qSize p → 
    Completes (.qTailWrite p v) s fun d =>
      d = s.dev.raise 0 Kind.PRT.BAD_DESC { arg := 0xFFFFFFFF }) ∧
  (∀ (s : State) (p v : Nat) (on : Bool), s.live → s.dev.pageOff 0xB0 = true → p < 16 → (∀ k ∈ ([(.qTailWrite p v, (0xB010C + 0x20 * p)), (.qCancel p, (0xB0114 + 0x20 * p)), (.qHold p on, (0xB0114 + 0x20 * p)), (.qEnable p on, (0xB0114 + 0x20 * p))] : List (Instr × Nat)),
      Completes k.1 s fun d => d = hostRefused 0x21 k.2 s.dev)) ∧
  (∀ (s : State) (ports : Nat), s.live → s.dev.pageOff 0xB0 = true → 
    Completes (.geomLoad ports) s fun d =>
      d = hostRefused 0x21 0xB004C (hostRefused 0x21 0xB0048 s.dev))

/-- ENCODER_EDGE toggles its pin; on a quadrature channel that counts it moves the count by one in the direction the
pins give, on a toothed one a rising A edge does so outside a gap, and a channel that does not count keeps its
count. FIX_PERIOD_WRITE sets the period, which a running generator takes at its next boundary and a stopped one at
once; FIXED_GENERATOR_START and SYNTHETIC_LINE_BOUNDARY deliver the next position at its moment; RING_SOURCE_TIMEOUT
loses the position source; SLOWDOWN_REPEAT asks again while cycles are skipped. Where the generator does not run or
the timer is not armed nothing changes, and a timer whose cause is gone only ends; a period written to a stopped
generator before its next boundary, or of zero, is only kept. Completes (exec answers a next state, under hypotheses
on state and operands alone): encoderEdge, fixPeriodWrite, fixedGeneratorStart, syntheticLineBoundary,
ringSourceTimeout, slowdownRepeat. (R258, R116, R117, R110.) -/
def Obligations.EdgesAndFixedRate : Prop :=
  (∀ (s : State) (k dt : Nat) (b : Bool), s.live → k < 4 → (s.dev.advance dt).counts k = true → s.dev.get (Reg.ENC.CFG.MODE k) ≠ 1 → 
    Completes (.encoderEdge k b dt) s fun d =>
      (d.enc k).cnt = (s.dev.enc k).cnt + (if ((if b = true then s.dev.bitOf (Reg.ENC.STAT.PINS k) 3 == !s.dev.bitOf (Reg.ENC.STAT.PINS k) 2
        else (!s.dev.bitOf (Reg.ENC.STAT.PINS k) 3) != s.dev.bitOf (Reg.ENC.STAT.PINS k) 2) != s.dev.is (Reg.ENC.CFG.INVERT k)) = true then 1 else -1) ∧
        d.bitOf (Reg.ENC.STAT.PINS k) (if b = true then 2 else 3) = !s.dev.bitOf (Reg.ENC.STAT.PINS k) (if b = true then 2 else 3)) ∧
  (∀ (s : State) (v : Nat), s.live → s.dev.pageOff 0xB1 = false → v < 2 ^ 32 → s.dev.mode ≠ 5 → 
    Completes (.fixPeriodWrite v) s fun d =>
      d = (s.dev.set Reg.TRG.FIX_PERIOD.TICKS (v / 16)).set Reg.TRG.FIX_PERIOD.PHASE (v % 16)) ∧
  (∀ (s : State) (v : Nat), s.live → s.dev.pageOff 0xB1 = false → v < 2 ^ 32 → s.dev.mode = 5 → s.dev.trg.fixRun = true → 
    Completes (.fixPeriodWrite v) s fun d =>
      d.trg = { s.dev.trg with fixNew := some v } ∧ d.fixPeriod = v) ∧
  (∀ s : State, s.live → s.dev.mode = 5 → s.dev.trg.fixRun = false → s.dev.fixPeriod ≠ 0 → 
    Completes (.fixedGeneratorStart) s fun d =>
      d = trgEdge (s.dev.advanceTo s.dev.trg.fixNext).time.up 0 (s.dev.fixSpeed s.dev.fixPeriod) true ({ s.dev.advanceTo s.dev.trg.fixNext with trg := { s.dev.trg with fixRun := true, fixNext := (s.dev.advanceTo s.dev.trg.fixNext).time.up + s.dev.fixPeriod, fixLine := 0, fixNew := none, phi := 0, pe := 0, need := 0 } }.ev .TRG 0 7)) ∧
  (∀ s : State, s.live → s.dev.mode = 5 → s.dev.trg.fixRun = true → 
    Completes (.syntheticLineBoundary) s fun d =>
      d = trgEdge (s.dev.advanceTo s.dev.trg.fixNext).time.up (s.dev.pitch * ((s.dev.trg.fixLine + 1 : Nat) : Int))
        (s.dev.fixSpeed (s.dev.trg.fixNew.getD s.dev.fixPeriod)) (s.dev.trg.fixNew.getD s.dev.fixPeriod != 0)
        { (if s.dev.trg.fixNew.isSome = true then (s.dev.advanceTo s.dev.trg.fixNext).ev .TRG 0 7 else s.dev.advanceTo s.dev.trg.fixNext) with trg := { s.dev.trg with fixLine := s.dev.trg.fixLine + 1, fixNew := none, fixRun := s.dev.trg.fixNew.getD s.dev.fixPeriod != 0, fixNext := (s.dev.advanceTo s.dev.trg.fixNext).time.up + s.dev.trg.fixNew.getD s.dev.fixPeriod } }) ∧
  (∀ (s : State) (t : Nat), s.live → s.dev.due .ringSource = some t → s.dev.get Reg.TRG.SRC_SEL.SEL = 4 → s.dev.srcChannel = none → 
    Completes (.ringSourceTimeout) s fun d =>
      d = sourceState false ((s.dev.advanceTo t).disarm .ringSource) ∧ d.is Reg.TRG.STAT.SOURCE_OK = false ∧ d.is Reg.SYS.BRINGUP.POS_VALID = false ∧ d.trg.lost = decide (s.dev.mode ≠ 5)) ∧
  (∀ (s : State) (t : Nat), s.live → s.dev.due .slowdown = some t → s.dev.trg.skipping = true → 
    Completes (.slowdownRepeat) s fun d =>
      d = askSlowdown 0x7F ((s.dev.advanceTo t).disarm .slowdown) ∧ d.trg.skipping = false ∧ d.running .slowdown = true) ∧
  (∀ (s : State) (k dt : Nat) (b : Bool), s.live → k < 4 → (s.dev.advance dt).counts k = false → 
    Completes (.encoderEdge k b dt) s fun d =>
      d = (s.dev.advance dt).putBit (Reg.ENC.STAT.PINS k) (if b = true then 2 else 3) (!(s.dev.advance dt).bitOf (Reg.ENC.STAT.PINS k) (if b = true then 2 else 3))) ∧
  (∀ (s : State) (k dt : Nat), s.live → k < 4 → (s.dev.advance dt).counts k = true → s.dev.get (Reg.ENC.CFG.MODE k) = 1 → s.dev.bitOf (Reg.ENC.STAT.PINS k) 3 = false → let up := (!s.dev.is (Reg.ENC.CFG.DIR_SRC k) || !s.dev.bitOf (Reg.ENC.STAT.PINS k) 2) != s.dev.is (Reg.ENC.CFG.INVERT k); ((s.dev.advance dt).putBit (Reg.ENC.STAT.PINS k) 3 true).endsGap k up = false → 
    Completes (.encoderEdge k false dt) s fun d =>
      (d.enc k).cnt = (s.dev.enc k).cnt + (if ((!s.dev.is (Reg.ENC.CFG.DIR_SRC k) || !s.dev.bitOf (Reg.ENC.STAT.PINS k) 2) != s.dev.is (Reg.ENC.CFG.INVERT k)) = true then 1 else -1)) ∧
  (∀ (s : State) (k dt : Nat) (b : Bool), s.live → k < 4 → (s.dev.advance dt).counts k = true → s.dev.get (Reg.ENC.CFG.MODE k) = 1 → b = true ∨ s.dev.bitOf (Reg.ENC.STAT.PINS k) 3 = true → 
    Completes (.encoderEdge k b dt) s fun d =>
      d = (s.dev.advance dt).putBit (Reg.ENC.STAT.PINS k) (if b = true then 2 else 3) (!(s.dev.advance dt).bitOf (Reg.ENC.STAT.PINS k) (if b = true then 2 else 3))) ∧
  (∀ (s : State) (v : Nat), s.live → s.dev.pageOff 0xB1 = false → v < 2 ^ 32 → v ≠ 0 → s.dev.mode = 5 → s.dev.trg.fixRun = false → s.dev.trg.fixNext ≤ s.dev.time.up → 
    Completes (.fixPeriodWrite v) s fun d =>
      d = trgEdge s.dev.time.up (s.dev.pitch * s.dev.trg.fixLine) (s.dev.fixSpeed v) true
        (({ (s.dev.set Reg.TRG.FIX_PERIOD.TICKS (v / 16)).set Reg.TRG.FIX_PERIOD.PHASE (v % 16) with trg := { s.dev.trg with fixRun := true, fixNext := s.dev.time.up + v } } : Dev).ev .TRG 0 7)) ∧
  (∀ (s : State) (k dt : Nat) (b : Bool) (d1 : Dev), s.live → (s.dev.advance dt).putBit (Reg.ENC.STAT.PINS k) (if b = true then 2 else 3) (!(s.dev.advance dt).bitOf (Reg.ENC.STAT.PINS k) (if b = true then 2 else 3)) = d1 → d1.counts k = true → d1.get (Reg.ENC.CFG.MODE k) ≠ 1 → 
    Completes (.encoderEdge k b dt) s fun d =>
      d = countEdge k ((if b = true then d1.bitOf (Reg.ENC.STAT.PINS k) 3 == d1.bitOf (Reg.ENC.STAT.PINS k) 2 else d1.bitOf (Reg.ENC.STAT.PINS k) 3 != d1.bitOf (Reg.ENC.STAT.PINS k) 2) != d1.is (Reg.ENC.CFG.INVERT k)) 1 false d1) ∧
  (∀ (s : State) (k dt : Nat) (d1 : Dev), s.live → (s.dev.advance dt).putBit (Reg.ENC.STAT.PINS k) 3 (!(s.dev.advance dt).bitOf (Reg.ENC.STAT.PINS k) 3) = d1 → d1.counts k = true → d1.get (Reg.ENC.CFG.MODE k) = 1 → d1.bitOf (Reg.ENC.STAT.PINS k) 3 = true → d1.endsGap k ((!d1.is (Reg.ENC.CFG.DIR_SRC k) || !d1.bitOf (Reg.ENC.STAT.PINS k) 2) != d1.is (Reg.ENC.CFG.INVERT k)) = false → 
    Completes (.encoderEdge k false dt) s fun d =>
      d = countEdge k ((!d1.is (Reg.ENC.CFG.DIR_SRC k) || !d1.bitOf (Reg.ENC.STAT.PINS k) 2) != d1.is (Reg.ENC.CFG.INVERT k)) 1 false d1) ∧
  (∀ (s : State) (k dt : Nat) (d1 : Dev), s.live → (s.dev.advance dt).putBit (Reg.ENC.STAT.PINS k) 3 (!(s.dev.advance dt).bitOf (Reg.ENC.STAT.PINS k) 3) = d1 → d1.counts k = true → d1.get (Reg.ENC.CFG.MODE k) = 1 → d1.bitOf (Reg.ENC.STAT.PINS k) 3 = true → d1.endsGap k ((!d1.is (Reg.ENC.CFG.DIR_SRC k) || !d1.bitOf (Reg.ENC.STAT.PINS k) 2) != d1.is (Reg.ENC.CFG.INVERT k)) = true → 
    Completes (.encoderEdge k false dt) s fun d =>
      d = countEdge k ((!d1.is (Reg.ENC.CFG.DIR_SRC k) || !d1.bitOf (Reg.ENC.STAT.PINS k) 2) != d1.is (Reg.ENC.CFG.INVERT k)) (max 1 (d1.get (Reg.ENC.TOOTH.MISSING k)) + 1) true d1) ∧
  (∀ (s : State) (v : Nat), s.live → s.dev.pageOff 0xB1 = false → v < 2 ^ 32 → s.dev.mode = 5 → s.dev.trg.fixRun = true → 
    Completes (.fixPeriodWrite v) s fun d =>
      d = { (s.dev.set Reg.TRG.FIX_PERIOD.TICKS (v / 16)).set Reg.TRG.FIX_PERIOD.PHASE (v % 16) with trg := { s.dev.trg with fixNew := some v } }) ∧
  (∀ (s : State) (v : Nat), s.live → s.dev.pageOff 0xB1 = false → v < 2 ^ 32 → s.dev.mode = 5 → s.dev.trg.fixRun = false → v = 0 ∨ s.dev.time.up < s.dev.trg.fixNext → 
    Completes (.fixPeriodWrite v) s fun d =>
      d = (s.dev.set Reg.TRG.FIX_PERIOD.TICKS (v / 16)).set Reg.TRG.FIX_PERIOD.PHASE (v % 16)) ∧
  (∀ (s : State) (t : Nat), s.live → s.dev.due .ringSource = some t → s.dev.get Reg.TRG.SRC_SEL.SEL ≠ 4 ∨ s.dev.srcChannel.isSome = true → 
    Completes (.ringSourceTimeout) s fun d =>
      d = (s.dev.advanceTo t).disarm .ringSource) ∧
  (∀ (s : State) (t : Nat), s.live → s.dev.due .slowdown = some t → s.dev.trg.skipping = false → 
    Completes (.slowdownRepeat) s fun d =>
      d = (s.dev.advanceTo t).disarm .slowdown) ∧
  (∀ s : State, s.live → s.dev.mode ≠ 5 ∨ s.dev.trg.fixRun = true ∨ s.dev.fixPeriod = 0 → 
    Completes (.fixedGeneratorStart) s fun d =>
      d = s.dev) ∧
  (∀ s : State, s.live → s.dev.mode ≠ 5 ∨ s.dev.trg.fixRun = false → 
    Completes (.syntheticLineBoundary) s fun d =>
      d = s.dev) ∧
  (∀ s : State, s.live → s.dev.due .ringSource = none → 
    Completes (.ringSourceTimeout) s fun d =>
      d = s.dev) ∧
  (∀ s : State, s.live → s.dev.due .slowdown = none → 
    Completes (.slowdownRepeat) s fun d =>
      d = s.dev) ∧
  (∀ (s : State) (v : Nat), s.live → s.dev.pageOff 0xB1 = true → (∀ k ∈ ([(.fixPeriodWrite v, 0xB1090)] : List (Instr × Nat)),
      Completes k.1 s fun d => d = hostRefused 0x21 k.2 s.dev))

/-- SEGMENT_VOTE takes each engine's next segment into its buffers: where the CRCs agree, or nothing is compared, the
segment passes; where they differ the divergence is recorded and the segment passes or, by DIV_POLICY, the cycle
fails; where both engines are flagged the cycle fails. DIGEST_VOTE compares the CRC-32C of the two summaries: equal
ones complete the vote and count the cycle, unequal ones are recorded as segment 0xFF. NOZ_OVR at expert level: code
3 sets the nozzle off by the host and code 0 releases it; codes 1 and 2 raise OVR_BAD and change no map. Without a
built cycle that may be voted on, or room in the buffers, a vote changes nothing; NOZ_OVR at basic level is denied.
A guarded field that the write repeats is no denial (R37). Completes (exec answers a next state, under hypotheses on
state and operands alone): segmentVote, digestVote, nozOvr. (R237, R238, R239, R138.) -/
def Obligations.VotesAndOverride : Prop :=
  (∀ (s : State) (n : Nat) (eA eB : Bytes) (c : Cycle) (p : Nat × Nat) (x y : Seg) (bufs : List (Nat × Seg)), s.live → (s.dev.port n).built = some c → c.waits = false → c.failed = false → segPlace c.frames 0 c.segsVoted = some p → c.room s.dev.activeEngine = some bufs → segOf c.frames p (if s.dev.activeEngine = 0 then eA else eB) = x → segOf c.other p (if s.dev.activeEngine = 0 then eB else eA) = y → s.dev.compared c = false ∨ x.crc = y.crc → 
    Completes (.segmentVote n eA eB) s fun d =>
      d = s.dev.setPort n { s.dev.port n with built := some { c with bufs := (s.dev.activeEngine, x) :: (if c.otherSum = [] then [] else [(1 - s.dev.activeEngine, y)]) ++ bufs, segsVoted := c.segsVoted + 1, frames := setNth (putSeg (nth [] c.frames p.1) x) c.frames p.1 } }) ∧
  (∀ (s : State) (n : Nat) (eA eB : Bytes) (c : Cycle) (p : Nat × Nat) (x y : Seg) (bufs : List (Nat × Seg)), s.live → (s.dev.port n).built = some c → c.waits = false → c.failed = false → segPlace c.frames 0 c.segsVoted = some p → c.room s.dev.activeEngine = some bufs → segOf c.frames p (if s.dev.activeEngine = 0 then eA else eB) = x → segOf c.other p (if s.dev.activeEngine = 0 then eB else eA) = y → n < 64 → s.dev.compared c = true → x.crc ≠ y.crc → c.bothFlagged = false → s.dev.get Reg.ENG.VOTE_CFG.DIV_POLICY ≠ 1 → s.dev.get Reg.ENG.VOTE_CFG.DIV_POLICY ≠ 2 → 
    Completes (.segmentVote n eA eB) s fun d =>
      d = divergence n p.2 (if s.dev.activeEngine = 0 then x.crc else y.crc) (if s.dev.activeEngine = 0 then y.crc else x.crc)
        (s.dev.setPort n { s.dev.port n with built := some { c with bufs := (s.dev.activeEngine, x) :: (if c.otherSum = [] then [] else [(1 - s.dev.activeEngine, y)]) ++ bufs, segsVoted := c.segsVoted + 1, frames := setNth (putSeg (nth [] c.frames p.1) x) c.frames p.1 } }) ∧
        d.is Reg.ENG.LAST_DIV.VALID = true ∧ d.get Reg.ENG.LAST_DIV.PORT = n ∧ d.get Reg.ENG.LAST_DIV.SEG = p.2 % 256) ∧
  (∀ (s : State) (n : Nat) (eA eB : Bytes) (c : Cycle), s.live → (s.dev.port n).built = some c → c.waits = false → c.failed = false → c.segs ≤ c.segsVoted → c.digestVoted = false → s.dev.compared c = false ∨ crc32c (struck c.sum (if s.dev.activeEngine = 0 then eA else eB)) = crc32c (struck c.otherSum (if s.dev.activeEngine = 0 then eB else eA)) → 
    Completes (.digestVote n eA eB) s fun d =>
      d = { s.dev.setPort n { s.dev.port n with built := some { c with digestVoted := true } } with eng := { s.dev.eng with voted := s.dev.eng.voted + (if s.dev.compared c = true then 1 else 0) } }) ∧
  (∀ (s : State) (n noz : Nat), s.live → n < 64 → noz < 2 ^ 14 → s.dev.pageOff 0xB4 = false → s.dev.is (Reg.HDR.LEVEL 0xB4) = true ∨ (s.dev.get Reg.MSK.NOZ_OVR.CODE = 3 ∧ s.dev.get Reg.MSK.NOZ_OVR.PORT = n ∧ s.dev.get Reg.MSK.NOZ_OVR.NOZZLE = noz) → 
    Completes (.nozOvr 3 n noz) s fun d =>
      d = healthSync (mapChange n noz (fun d => d.setPipe n { d.pipe n with hostOff := noz :: (d.pipe n).hostOff.filter (· != noz) })
        (((s.dev.set Reg.MSK.NOZ_OVR.CODE 3).set Reg.MSK.NOZ_OVR.PORT n).set Reg.MSK.NOZ_OVR.NOZZLE noz)) ∧
        (d.pipe n).hostOff = noz :: (s.dev.pipe n).hostOff.filter (· != noz)) ∧
  (∀ (s : State) (n noz : Nat), s.live → n < 64 → noz < 2 ^ 14 → s.dev.pageOff 0xB4 = false → s.dev.is (Reg.HDR.LEVEL 0xB4) = true ∨ (s.dev.get Reg.MSK.NOZ_OVR.CODE = 0 ∧ s.dev.get Reg.MSK.NOZ_OVR.PORT = n ∧ s.dev.get Reg.MSK.NOZ_OVR.NOZZLE = noz) → 
    Completes (.nozOvr 0 n noz) s fun d =>
      d = healthSync (mapChange n noz (fun d => d.setPipe n { d.pipe n with hostOff := (d.pipe n).hostOff.filter (· != noz) })
        (((s.dev.set Reg.MSK.NOZ_OVR.CODE 0).set Reg.MSK.NOZ_OVR.PORT n).set Reg.MSK.NOZ_OVR.NOZZLE noz)) ∧
        (d.pipe n).hostOff = (s.dev.pipe n).hostOff.filter (· != noz)) ∧
  (∀ (s : State) (n noz code : Nat), s.live → n < 64 → noz < 2 ^ 14 → code = 1 ∨ code = 2 → s.dev.pageOff 0xB4 = false → s.dev.is (Reg.HDR.LEVEL 0xB4) = true ∨ (s.dev.get Reg.MSK.NOZ_OVR.CODE = code ∧ s.dev.get Reg.MSK.NOZ_OVR.PORT = n ∧ s.dev.get Reg.MSK.NOZ_OVR.NOZZLE = noz) → 
    Completes (.nozOvr code n noz) s fun d =>
      d = (((s.dev.set Reg.MSK.NOZ_OVR.CODE code).set Reg.MSK.NOZ_OVR.PORT n).set Reg.MSK.NOZ_OVR.NOZZLE noz).raise 0 Kind.MSK.OVR_BAD { port := n, arg := noz }) ∧
  (∀ (s : State) (n : Nat) (eA eB : Bytes) (c : Cycle) (p : Nat × Nat) (x y : Seg) (bufs : List (Nat × Seg)), s.live → (s.dev.port n).built = some c → c.waits = false → c.failed = false → segPlace c.frames 0 c.segsVoted = some p → c.room s.dev.activeEngine = some bufs → segOf c.frames p (if s.dev.activeEngine = 0 then eA else eB) = x → segOf c.other p (if s.dev.activeEngine = 0 then eB else eA) = y → s.dev.compared c = true → x.crc ≠ y.crc → c.bothFlagged = true → 
    Completes (.segmentVote n eA eB) s fun d =>
      d = s.dev.setPort n { s.dev.port n with built := some { c with bufs := (s.dev.activeEngine, x) :: (if c.otherSum = [] then [] else [(1 - s.dev.activeEngine, y)]) ++ bufs, failed := true } }) ∧
  (∀ (s : State) (n : Nat) (eA eB : Bytes) (c : Cycle) (p : Nat × Nat) (x y : Seg) (bufs : List (Nat × Seg)), s.live → (s.dev.port n).built = some c → c.waits = false → c.failed = false → segPlace c.frames 0 c.segsVoted = some p → c.room s.dev.activeEngine = some bufs → segOf c.frames p (if s.dev.activeEngine = 0 then eA else eB) = x → segOf c.other p (if s.dev.activeEngine = 0 then eB else eA) = y → n < 64 → s.dev.compared c = true → x.crc ≠ y.crc → c.bothFlagged = false → s.dev.get Reg.ENG.VOTE_CFG.DIV_POLICY = 1 ∨ s.dev.get Reg.ENG.VOTE_CFG.DIV_POLICY = 2 → 
    Completes (.segmentVote n eA eB) s fun d =>
      d = divergence n p.2 (if s.dev.activeEngine = 0 then x.crc else y.crc) (if s.dev.activeEngine = 0 then y.crc else x.crc)
        (s.dev.setPort n { s.dev.port n with built := some { c with bufs := (s.dev.activeEngine, x) :: (if c.otherSum = [] then [] else [(1 - s.dev.activeEngine, y)]) ++ bufs, failed := true } })) ∧
  (∀ (s : State) (n a b : Nat) (eA eB : Bytes) (c : Cycle), s.live → (s.dev.port n).built = some c → c.waits = false → c.failed = false → c.segs ≤ c.segsVoted → c.digestVoted = false → s.dev.compared c = true → crc32c (struck (if s.dev.activeEngine = 0 then c.sum else c.otherSum) eA) = a → crc32c (struck (if s.dev.activeEngine = 0 then c.otherSum else c.sum) eB) = b → a ≠ b → 
    Completes (.digestVote n eA eB) s fun d =>
      d = if c.bothFlagged = true then s.dev.setPort n { s.dev.port n with built := some { c with failed := true } }
        else divergence n 0xFF a b { s.dev.setPort n { s.dev.port n with built := some { c with digestVoted := true } } with eng := { s.dev.eng with voted := s.dev.eng.voted + 1 } }) ∧
  (∀ (s : State) (n : Nat) (eA eB : Bytes), s.live → ∀ c ∈ (s.dev.port n).built, c.waits = true ∨ c.failed = true ∨ segPlace c.frames 0 c.segsVoted = none ∨ c.room s.dev.activeEngine = none → 
    Completes (.segmentVote n eA eB) s fun d =>
      d = s.dev) ∧
  (∀ (s : State) (n : Nat) (eA eB : Bytes), s.live → ∀ c ∈ (s.dev.port n).built, c.waits = true ∨ c.failed = true ∨ c.segsVoted < c.segs ∨ c.digestVoted = true → 
    Completes (.digestVote n eA eB) s fun d =>
      d = s.dev) ∧
  (∀ (s : State) (code n noz : Nat), s.live → code < 4 → n < 64 → noz < 2 ^ 14 → s.dev.pageOff 0xB4 = false → s.dev.is (Reg.HDR.LEVEL 0xB4) = false → s.dev.get Reg.MSK.NOZ_OVR.CODE ≠ code ∨ s.dev.get Reg.MSK.NOZ_OVR.PORT ≠ n ∨ s.dev.get Reg.MSK.NOZ_OVR.NOZZLE ≠ noz → 
    Completes (.nozOvr code n noz) s fun d =>
      d = discarded Kind.SYS.LEVEL_DENIED Party.host true 0xB4400 s.dev) ∧
  (∀ (s : State) (a b c : Nat), s.live → s.dev.pageOff 0xB4 = true → (∀ k ∈ ([(.nozOvr a b c, 0xB4400)] : List (Instr × Nat)),
      Completes k.1 s fun d => d = hostRefused 0x21 k.2 s.dev))

/-- ENGINE_CHECK with voting: flags of the standby alone are kept and make it FAILED, with its repair timer, or SUSPECT;
flags of the active engine alone fail over; flags of both lose both. Without voting, flags of the active engine lose
it and those of the standby are only kept. ENGINE_WATCHDOG is the same with flag 4 of the slower engine.
SERIALISER_SWITCH takes the port off the list of ports still to switch and after the last starts the overlap;
FAILOVER_OVERLAP_END ends it, puts the old engine in its state and writes a report. ENG_SWITCH with voting makes the
standby active, and without it raises SWITCH_REFUSED and nothing else. Without flags, without the timer and without
an overlap nothing but the end of the timer happens. Completes (exec answers a next state, under hypotheses on state
and operands alone): engineCheck, engineWatchdog, serialiserSwitch, failoverOverlapEnd, engSwitch. (R242, R243,
R245.) -/
def Obligations.EngineFailures : Prop :=
  (∀ (s : State) (n f : Nat), s.live → s.dev.activeEngine < 2 → s.dev.voting = true → f % 32 ≠ 0 → (match (s.dev.port n).built with | some c => nth 0 c.flags s.dev.activeEngine | none => 0) = 0 → 
    Completes (.engineCheck n (if s.dev.activeEngine = 0 then 0 else f) (if s.dev.activeEngine = 0 then f else 0)) s fun d =>
      d = (if f % 8 ≠ 0 then engineFails s.dev.standby else suspect s.dev.standby) (noteFlags n (if s.dev.activeEngine = 0 then 0 else f) (if s.dev.activeEngine = 0 then f else 0) (flagEngine n 1 (if s.dev.activeEngine = 0 then f else 0) (flagEngine n 0 (if s.dev.activeEngine = 0 then 0 else f) s.dev))) ∧
        (f % 8 ≠ 0 → d.estate s.dev.standby = 6 ∧ d.running (.repair s.dev.standby) = true) ∧
        d.get (Reg.ENGX.CHK_STAT.FLAGS s.dev.standby) = (s.dev.get (Reg.ENGX.CHK_STAT.FLAGS s.dev.standby) ||| f % 32) % 32 ∧
        d.evRaw .ENG 0 Kind.ENG.ENGINE_CHECK.bit = true) ∧
  (∀ (s : State) (n f : Nat), s.live → s.dev.activeEngine < 2 → s.dev.voting = true → f % 32 ≠ 0 → (match (s.dev.port n).built with | some c => nth 0 c.flags s.dev.standby | none => 0) = 0 → 
    Completes (.engineCheck n (if s.dev.activeEngine = 0 then f else 0) (if s.dev.activeEngine = 0 then 0 else f)) s fun d =>
      d = failover 6 (noteFlags n (if s.dev.activeEngine = 0 then f else 0) (if s.dev.activeEngine = 0 then 0 else f) (flagEngine n 1 (if s.dev.activeEngine = 0 then 0 else f) (flagEngine n 0 (if s.dev.activeEngine = 0 then f else 0) s.dev))) ∧ d.activeEngine = s.dev.standby ∧ d.estate s.dev.standby = 4) ∧
  (∀ (s : State) (n fA fB : Nat), s.live → s.dev.activeEngine < 2 → s.dev.voting = true → fA % 32 ≠ 0 → fB % 32 ≠ 0 → 
    Completes (.engineCheck n fA fB) s fun d =>
      d = engineLost (engineFails 1 (engineFails 0 (noteFlags n fA fB (flagEngine n 1 fB (flagEngine n 0 fA s.dev))))) ∧ d.estate 0 = 6 ∧ d.estate 1 = 6 ∧ d.evRaw .ENG 0 Kind.ENG.ENGINE_LOST.bit = true) ∧
  (∀ (s : State) (n f : Nat), s.live → s.dev.activeEngine < 2 → s.dev.voting = false → f % 32 ≠ 0 → (match (s.dev.port n).built with | some c => nth 0 c.flags s.dev.standby | none => 0) = 0 → 
    Completes (.engineCheck n (if s.dev.activeEngine = 0 then f else 0) (if s.dev.activeEngine = 0 then 0 else f)) s fun d =>
      d = activeLoses n (noteFlags n (if s.dev.activeEngine = 0 then f else 0) (if s.dev.activeEngine = 0 then 0 else f) (flagEngine n 1 (if s.dev.activeEngine = 0 then 0 else f) (flagEngine n 0 (if s.dev.activeEngine = 0 then f else 0) s.dev))) ∧ d.estate s.dev.activeEngine = 6 ∧ d.evRaw .ENG 0 Kind.ENG.ENGINE_LOST.bit = true) ∧
  (∀ (s : State) (n f : Nat), s.live → s.dev.activeEngine < 2 → s.dev.voting = false → f % 32 ≠ 0 → (match (s.dev.port n).built with | some c => nth 0 c.flags s.dev.activeEngine | none => 0) = 0 → 
    Completes (.engineCheck n (if s.dev.activeEngine = 0 then 0 else f) (if s.dev.activeEngine = 0 then f else 0)) s fun d =>
      d = (noteFlags n (if s.dev.activeEngine = 0 then 0 else f) (if s.dev.activeEngine = 0 then f else 0) (flagEngine n 1 (if s.dev.activeEngine = 0 then f else 0) (flagEngine n 0 (if s.dev.activeEngine = 0 then 0 else f) s.dev)))) ∧
  (∀ (s : State) (n : Nat), s.live → s.dev.activeEngine < 2 → s.dev.voting = true → (match (s.dev.port n).built with | some c => nth 0 c.flags s.dev.activeEngine | none => 0) = 0 → 
    Completes (.engineWatchdog n s.dev.standby) s fun d =>
      d = suspect s.dev.standby (noteFlags n (if s.dev.activeEngine = 0 then 0 else 16) (if s.dev.activeEngine = 0 then 16 else 0) (flagEngine n 1 (if s.dev.activeEngine = 0 then 16 else 0) (flagEngine n 0 (if s.dev.activeEngine = 0 then 0 else 16) s.dev))) ∧ d.evRaw .ENG 0 Kind.ENG.ENGINE_CHECK.bit = true ∧
        (s.dev.is Reg.ENG.CFG.AUTO_RESYNC = false → d.estate s.dev.standby = 5)) ∧
  (∀ (s : State) (n : Nat), s.live → s.dev.activeEngine < 2 → s.dev.voting = true → (match (s.dev.port n).built with | some c => nth 0 c.flags s.dev.standby | none => 0) = 0 → 
    Completes (.engineWatchdog n s.dev.activeEngine) s fun d =>
      d = failover 6 (noteFlags n (if s.dev.activeEngine = 0 then 16 else 0) (if s.dev.activeEngine = 0 then 0 else 16) (flagEngine n 1 (if s.dev.activeEngine = 0 then 0 else 16) (flagEngine n 0 (if s.dev.activeEngine = 0 then 16 else 0) s.dev))) ∧ d.activeEngine = s.dev.standby) ∧
  (∀ (s : State) (n : Nat), s.live → s.dev.activeEngine < 2 → s.dev.voting = false → (match (s.dev.port n).built with | some c => nth 0 c.flags s.dev.standby | none => 0) = 0 → 
    Completes (.engineWatchdog n s.dev.activeEngine) s fun d =>
      d = activeLoses n (noteFlags n (if s.dev.activeEngine = 0 then 16 else 0) (if s.dev.activeEngine = 0 then 0 else 16) (flagEngine n 1 (if s.dev.activeEngine = 0 then 0 else 16) (flagEngine n 0 (if s.dev.activeEngine = 0 then 16 else 0) s.dev)))) ∧
  (∀ (s : State) (n : Nat), s.live → s.dev.eng.switching.contains n = true → 
    Completes (.serialiserSwitch n) s fun d =>
      d = (if s.dev.eng.switching.filter (· != n) = [] then armOverlap else id)
        { s.dev with eng := { s.dev.eng with switching := s.dev.eng.switching.filter (· != n) } } ∧
        (s.dev.eng.switching.filter (· != n) = [] → d.running .failoverOverlap = true)) ∧
  (∀ (s : State) (n : Nat), s.live → s.dev.eng.switching.contains n = false → 
    Completes (.serialiserSwitch n) s fun d =>
      d = s.dev) ∧
  (∀ (s : State) (old fin t : Nat), s.live → s.dev.due .failoverOverlap = some t → s.dev.eng.overlap = some (old, fin) → 
    Completes (.failoverOverlapEnd) s fun d =>
      d = healthReport 2 ((if fin = 6 then engineFails old else if fin = 3 then id else enterState old fin)
        { (s.dev.advanceTo t).disarm .failoverOverlap with eng := { s.dev.eng with overlap := none } }) ∧
        d.eng.overlap = none ∧ d.running .failoverOverlap = false ∧ d.evRaw .ENG 0 5 = true ∧ (fin = 6 → old < 2 → d.estate old = 6)) ∧
  (∀ s : State, s.live → s.dev.pageOff 0xB5 = false → s.dev.voting = true → s.dev.activeEngine < 2 → 
    Completes (.engSwitch) s fun d =>
      d = failover 3 s.dev ∧ d.activeEngine = s.dev.standby ∧ d.estate s.dev.standby = 4 ∧ d.estate s.dev.activeEngine = 3 ∧
        d.evRaw .ENG 0 Kind.ENG.FAILOVER.bit = true) ∧
  (∀ s : State, s.live → s.dev.pageOff 0xB5 = false → s.dev.voting = false → 
    Completes (.engSwitch) s fun d =>
      d = s.dev.raise 0 Kind.ENG.SWITCH_REFUSED) ∧
  (∀ (s : State) (n fA fB : Nat) (fa fs : Nat) (d0 : Dev), s.live → (if s.dev.activeEngine = 0 then fA else fB) = fa → (if s.dev.activeEngine = 0 then fB else fA) = fs → noteFlags n fA fB (flagEngine n 1 fB (flagEngine n 0 fA s.dev)) = d0 → fa % 32 = 0 → fs % 32 = 0 → 
    Completes (.engineCheck n fA fB) s fun d =>
      d = d0) ∧
  (∀ (s : State) (n fA fB : Nat) (fa fs : Nat) (d0 : Dev), s.live → (if s.dev.activeEngine = 0 then fA else fB) = fa → (if s.dev.activeEngine = 0 then fB else fA) = fs → noteFlags n fA fB (flagEngine n 1 fB (flagEngine n 0 fA s.dev)) = d0 → fa % 32 ≠ 0 ∨ fs % 32 ≠ 0 → d0.bothFlagged n = true ∨ (s.dev.voting = true ∧ fa % 32 ≠ 0 ∧ fs % 32 ≠ 0) → 
    Completes (.engineCheck n fA fB) s fun d =>
      d = engineLost (engineFails 1 (engineFails 0 d0))) ∧
  (∀ (s : State) (n fA fB : Nat) (fa fs : Nat) (d0 : Dev), s.live → (if s.dev.activeEngine = 0 then fA else fB) = fa → (if s.dev.activeEngine = 0 then fB else fA) = fs → noteFlags n fA fB (flagEngine n 1 fB (flagEngine n 0 fA s.dev)) = d0 → fa % 32 ≠ 0 → ¬(d0.bothFlagged n = true ∨ (s.dev.voting = true ∧ fa % 32 ≠ 0 ∧ fs % 32 ≠ 0)) → 
    Completes (.engineCheck n fA fB) s fun d =>
      d = activeLoses n d0) ∧
  (∀ (s : State) (n fA fB : Nat) (fa fs : Nat) (d0 : Dev), s.live → (if s.dev.activeEngine = 0 then fA else fB) = fa → (if s.dev.activeEngine = 0 then fB else fA) = fs → noteFlags n fA fB (flagEngine n 1 fB (flagEngine n 0 fA s.dev)) = d0 → fa % 32 = 0 → fs % 8 ≠ 0 → s.dev.voting = true → ¬(d0.bothFlagged n = true ∨ (s.dev.voting = true ∧ fa % 32 ≠ 0 ∧ fs % 32 ≠ 0)) → 
    Completes (.engineCheck n fA fB) s fun d =>
      d = engineFails d0.standby d0) ∧
  (∀ (s : State) (n fA fB : Nat) (fa fs : Nat) (d0 : Dev), s.live → (if s.dev.activeEngine = 0 then fA else fB) = fa → (if s.dev.activeEngine = 0 then fB else fA) = fs → noteFlags n fA fB (flagEngine n 1 fB (flagEngine n 0 fA s.dev)) = d0 → fa % 32 = 0 → fs % 32 ≠ 0 → fs % 8 = 0 → s.dev.voting = true → ¬(d0.bothFlagged n = true ∨ (s.dev.voting = true ∧ fa % 32 ≠ 0 ∧ fs % 32 ≠ 0)) → 
    Completes (.engineCheck n fA fB) s fun d =>
      d = suspect d0.standby d0) ∧
  (∀ (s : State) (n fA fB : Nat) (fa fs : Nat) (d0 : Dev), s.live → (if s.dev.activeEngine = 0 then fA else fB) = fa → (if s.dev.activeEngine = 0 then fB else fA) = fs → noteFlags n fA fB (flagEngine n 1 fB (flagEngine n 0 fA s.dev)) = d0 → fa % 32 = 0 → fs % 32 ≠ 0 → s.dev.voting = false → ¬(d0.bothFlagged n = true ∨ (s.dev.voting = true ∧ fa % 32 ≠ 0 ∧ fs % 32 ≠ 0)) → 
    Completes (.engineCheck n fA fB) s fun d =>
      d = d0) ∧
  (∀ (s : State) (n e : Nat) (fa fs : Nat) (d0 : Dev), s.live → (if s.dev.activeEngine = 0 then (if e = 0 then 16 else 0) else (if e = 0 then 0 else 16)) = fa → (if s.dev.activeEngine = 0 then (if e = 0 then 0 else 16) else (if e = 0 then 16 else 0)) = fs → noteFlags n (if e = 0 then 16 else 0) (if e = 0 then 0 else 16) (flagEngine n 1 (if e = 0 then 0 else 16) (flagEngine n 0 (if e = 0 then 16 else 0) s.dev)) = d0 → fa % 32 ≠ 0 ∨ fs % 32 ≠ 0 → d0.bothFlagged n = true ∨ (s.dev.voting = true ∧ fa % 32 ≠ 0 ∧ fs % 32 ≠ 0) → 
    Completes (.engineWatchdog n e) s fun d =>
      d = engineLost (engineFails 1 (engineFails 0 d0))) ∧
  (∀ (s : State) (n e : Nat) (fa fs : Nat) (d0 : Dev), s.live → (if s.dev.activeEngine = 0 then (if e = 0 then 16 else 0) else (if e = 0 then 0 else 16)) = fa → (if s.dev.activeEngine = 0 then (if e = 0 then 0 else 16) else (if e = 0 then 16 else 0)) = fs → noteFlags n (if e = 0 then 16 else 0) (if e = 0 then 0 else 16) (flagEngine n 1 (if e = 0 then 0 else 16) (flagEngine n 0 (if e = 0 then 16 else 0) s.dev)) = d0 → fa % 32 ≠ 0 → ¬(d0.bothFlagged n = true ∨ (s.dev.voting = true ∧ fa % 32 ≠ 0 ∧ fs % 32 ≠ 0)) → 
    Completes (.engineWatchdog n e) s fun d =>
      d = activeLoses n d0) ∧
  (∀ (s : State) (n e : Nat) (fa fs : Nat) (d0 : Dev), s.live → (if s.dev.activeEngine = 0 then (if e = 0 then 16 else 0) else (if e = 0 then 0 else 16)) = fa → (if s.dev.activeEngine = 0 then (if e = 0 then 0 else 16) else (if e = 0 then 16 else 0)) = fs → noteFlags n (if e = 0 then 16 else 0) (if e = 0 then 0 else 16) (flagEngine n 1 (if e = 0 then 0 else 16) (flagEngine n 0 (if e = 0 then 16 else 0) s.dev)) = d0 → fa % 32 = 0 → fs % 32 ≠ 0 → fs % 8 = 0 → s.dev.voting = true → ¬(d0.bothFlagged n = true ∨ (s.dev.voting = true ∧ fa % 32 ≠ 0 ∧ fs % 32 ≠ 0)) → 
    Completes (.engineWatchdog n e) s fun d =>
      d = suspect d0.standby d0) ∧
  (∀ (s : State) (n e : Nat) (fa fs : Nat) (d0 : Dev), s.live → (if s.dev.activeEngine = 0 then (if e = 0 then 16 else 0) else (if e = 0 then 0 else 16)) = fa → (if s.dev.activeEngine = 0 then (if e = 0 then 0 else 16) else (if e = 0 then 16 else 0)) = fs → noteFlags n (if e = 0 then 16 else 0) (if e = 0 then 0 else 16) (flagEngine n 1 (if e = 0 then 0 else 16) (flagEngine n 0 (if e = 0 then 16 else 0) s.dev)) = d0 → fa % 32 = 0 → fs % 32 ≠ 0 → s.dev.voting = false → ¬(d0.bothFlagged n = true ∨ (s.dev.voting = true ∧ fa % 32 ≠ 0 ∧ fs % 32 ≠ 0)) → 
    Completes (.engineWatchdog n e) s fun d =>
      d = d0) ∧
  (∀ s : State, s.live → s.dev.due .failoverOverlap = none → 
    Completes (.failoverOverlapEnd) s fun d =>
      d = s.dev) ∧
  (∀ (s : State) (t : Nat), s.live → s.dev.due .failoverOverlap = some t → s.dev.eng.overlap = none → 
    Completes (.failoverOverlapEnd) s fun d =>
      d = (s.dev.advanceTo t).disarm .failoverOverlap) ∧
  (∀ s : State, s.live → s.dev.pageOff 0xB5 = true → (∀ k ∈ ([(.engSwitch, 0xB5044)] : List (Instr × Nat)),
      Completes k.1 s fun d => d = hostRefused 0x21 k.2 s.dev))

/-- ENG_RESYNC of a standby that is OFF or SUSPECT starts RESYNC, as RESYNC_START does after bring-up; RESYNC_PORT_COPY
copies the active engine's slice of a port; RESYNC_COMPARE of equal digests marks the port as shadowed, and after
the last port the standby is SHADOW; unequal digests, or more than four cycles since the copy, have the port copied
again, and the third disagreement fails the standby. BIST_WINDOW_START puts the standby in BIST and BIST_WINDOW_END
answers with a resynchronisation or a failure; ENG_REPAIR and AUTO_REPAIR start the self-test of a failed standby.
Where the standby is in another state, the timer does not run or the inputs of the cycles are no longer held,
nothing changes. Completes (exec answers a next state, under hypotheses on state and operands alone): engResync,
engRepair, resyncStart, resyncPortCopy, resyncCompare, bistWindowStart, bistWindowEnd, autoRepair. (R247, R248,
R249, R251, R253.) -/
def Obligations.Resynchronisation : Prop :=
  (∀ s : State, s.live → s.dev.pageOff 0xB5 = false → s.dev.estate s.dev.standby = 0 ∨ s.dev.estate s.dev.standby = 5 → 
    Completes (.engResync) s fun d =>
      d = startResync s.dev.standby s.dev ∧ d.estate s.dev.standby = 2 ∧ (d.engine s.dev.standby).shadowed = [] ∧ d.get (Reg.ENGX.STAT.PORTS_OK s.dev.standby) = 0) ∧
  (∀ s : State, s.live → s.dev.pageOff 0xB5 = false → s.dev.estate s.dev.standby = 6 → s.dev.activeEngine < 2 → 
    Completes (.engRepair) s fun d =>
      d = repairEngine s.dev.standby (s.dev.set (Reg.ENGX.STAT.REPAIRS s.dev.standby) 0) ∧ d.estate s.dev.standby = 1 ∧ d.running .bistEnd = true ∧ (d.engine s.dev.standby).repairing = true) ∧
  (∀ s : State, s.live → s.dev.is Reg.SYS.BRINGUP.HEALTH_KNOWN = true → s.dev.get Reg.PRT.GEOM_OK.OK ≠ 0 → s.dev.enabled (pg .ENGX 1) = true → s.dev.estate 1 = 0 → 
    Completes (.resyncStart) s fun d =>
      d = startResync 1 s.dev ∧ d.estate 1 = 2 ∧ (d.engine 1).shadowed = []) ∧
  (∀ (s : State) (n : Nat), s.live → n < 64 → s.dev.estate s.dev.standby = 2 → (s.dev.engine s.dev.standby).shadowed.contains n = false → aget n (s.dev.engine s.dev.standby).copied = none → 
    Completes (.resyncPortCopy n) s fun d =>
      d = s.dev.setEngine s.dev.standby ({ s.dev.engine s.dev.standby with copied := aset n (s.dev.port n).cycles (s.dev.engine s.dev.standby).copied }.setSlice n (s.dev.pipe n).slice)) ∧
  (∀ (s : State) (n k : Nat) (eA eB : Bytes) (r : Slice × Bytes × Bytes), s.live → s.dev.estate s.dev.standby = 2 → aget n (s.dev.engine s.dev.standby).copied = some k → (s.dev.port n).cycles ≤ k + 4 → (s.dev.port n).cycles - k ≤ ((s.dev.port n).ring.filter fun r => decide (k < r.count)).length → s.dev.resyncSums n k = r → crc32c (struck r.2.1 (if s.dev.standby = 1 then eA else eB)) = crc32c (struck r.2.2 (if s.dev.standby = 1 then eB else eA)) → (s.dev.engine s.dev.standby).shadowed.contains n = false → (s.dev.engine s.dev.standby).shadowed.length < 63 → 
    Completes (.resyncCompare n eA eB) s fun d =>
      d = (s.dev.setEngine s.dev.standby { (s.dev.engine s.dev.standby).setSlice n r.1 with shadowed := (s.dev.engine s.dev.standby).shadowed ++ [n], copied := adel n (s.dev.engine s.dev.standby).copied }).set
        (Reg.ENGX.STAT.PORTS_OK s.dev.standby) ((s.dev.engine s.dev.standby).shadowed.length + 1)) ∧
  (∀ s : State, s.live → s.dev.voting = true → s.dev.is Reg.ENG.BIST_CFG.EN = true → s.dev.is Reg.ENG.BIST_CFG.HOLD = false → 
    Completes (.bistWindowStart) s fun d =>
      d = startBist s.dev.standby (s.dev.advanceTo (max (s.dev.eng.shadowAt + max 1 (s.dev.get Reg.ENG.BIST_CFG.PERIOD) * sec)
        (if s.dev.eng.lastAt = 0 then 0 else s.dev.eng.lastAt + sec))) ∧ d.estate s.dev.standby = 1 ∧ d.running .bistEnd = true) ∧
  (∀ (s : State) (t : Nat), s.live → s.dev.due .bistEnd = some t → s.dev.estate s.dev.standby = 1 → 
    Completes (.bistWindowEnd true) s fun d =>
      d.estate s.dev.standby = 2 ∧ d.is (Reg.ENGX.BIST_STAT.LAST_PASS s.dev.standby) = true ∧ d.evRaw .ENG 0 4 = true) ∧
  (∀ (s : State) (t : Nat), s.live → s.dev.due .bistEnd = some t → s.dev.estate s.dev.standby = 1 → 
    Completes (.bistWindowEnd false) s fun d =>
      d.estate s.dev.standby = 6 ∧ d.is (Reg.ENGX.BIST_STAT.LAST_PASS s.dev.standby) = false ∧ d.evRaw .ENG 0 Kind.ENG.BIST_FAIL.bit = true) ∧
  (∀ (s : State) (e t : Nat), s.live → e < 2 → s.dev.due (.repair e) = some t → s.dev.is Reg.ENG.CFG.AUTO_REPAIR = true → s.dev.get (Reg.ENGX.STAT.REPAIRS e) < max 1 (s.dev.get Reg.ENG.CFG.REPAIR_MAX) → s.dev.estate e = 6 → e ≠ s.dev.activeEngine → 
    Completes (.autoRepair e) s fun d =>
      d = repairEngine e ((s.dev.advanceTo t).disarm (.repair e)) ∧ d.estate e = 1 ∧ d.running .bistEnd = true) ∧
  (∀ (s : State) (n k : Nat) (eA eB : Bytes) (r : Slice × Bytes × Bytes), s.live → s.dev.estate s.dev.standby = 2 → aget n (s.dev.engine s.dev.standby).copied = some k → (s.dev.port n).cycles ≤ k + 4 → (s.dev.port n).cycles - k ≤ ((s.dev.port n).ring.filter fun r => decide (k < r.count)).length → s.dev.resyncSums n k = r → crc32c (struck r.2.1 (if s.dev.standby = 1 then eA else eB)) = crc32c (struck r.2.2 (if s.dev.standby = 1 then eB else eA)) → (s.dev.engine s.dev.standby).shadowed.contains n = false → (s.dev.engine s.dev.standby).shadowed.length = 63 → 
    Completes (.resyncCompare n eA eB) s fun d =>
      d = resyncDone s.dev.standby ((s.dev.setEngine s.dev.standby { (s.dev.engine s.dev.standby).setSlice n r.1 with shadowed := (s.dev.engine s.dev.standby).shadowed ++ [n], copied := adel n (s.dev.engine s.dev.standby).copied }).set
        (Reg.ENGX.STAT.PORTS_OK s.dev.standby) 64) ∧ (s.dev.eng.promote = false → s.dev.estate s.dev.activeEngine ≠ 6 → d.estate s.dev.standby = 3)) ∧
  (∀ (s : State) (n k : Nat) (eA eB : Bytes) (r : Slice × Bytes × Bytes), s.live → s.dev.estate s.dev.standby = 2 → aget n (s.dev.engine s.dev.standby).copied = some k → (s.dev.port n).cycles ≤ k + 4 → (s.dev.port n).cycles - k ≤ ((s.dev.port n).ring.filter fun r => decide (k < r.count)).length → s.dev.resyncSums n k = r → crc32c (struck r.2.1 (if s.dev.standby = 1 then eA else eB)) ≠ crc32c (struck r.2.2 (if s.dev.standby = 1 then eB else eA)) → 
    Completes (.resyncCompare n eA eB) s fun d =>
      d = (if 3 ≤ tget 0 (s.dev.engine s.dev.standby).disagree n + 1 then fun d => endRepair s.dev.standby false ((engineFails s.dev.standby d).raise 0 Kind.ENG.RESYNC_FAIL { port := n }) else id)
        (s.dev.setEngine s.dev.standby { s.dev.engine s.dev.standby with copied := adel n (s.dev.engine s.dev.standby).copied, disagree := tset 0 n (tget 0 (s.dev.engine s.dev.standby).disagree n + 1) (s.dev.engine s.dev.standby).disagree })) ∧
  (∀ (s : State) (n k : Nat) (eA eB : Bytes), s.live → s.dev.estate s.dev.standby = 2 → aget n (s.dev.engine s.dev.standby).copied = some k → k + 4 < (s.dev.port n).cycles → 
    Completes (.resyncCompare n eA eB) s fun d =>
      d = s.dev.setEngine s.dev.standby { s.dev.engine s.dev.standby with copied := adel n (s.dev.engine s.dev.standby).copied }) ∧
  (∀ (s : State) (t : Nat), s.live → s.dev.due .bistEnd = some t → s.dev.estate s.dev.standby = 1 → 
    Completes (.bistWindowEnd true) s fun d =>
      d = healthReport 1 (startResync s.dev.standby ((((((s.dev.advanceTo t).disarm .bistEnd).put (Reg.ENGX.BIST_STAT.LAST_PASS s.dev.standby) true).set (Reg.ENGX.BIST_TS.TS s.dev.standby) ((s.dev.advanceTo t).disarm .bistEnd).ts).ev .ENG 0 4).bump (Reg.ENGX.BIST_STAT.PASSES s.dev.standby) 1))) ∧
  (∀ (s : State) (t : Nat) (d1 : Dev), s.live → s.dev.due .bistEnd = some t → s.dev.estate s.dev.standby = 1 → (((((s.dev.advanceTo t).disarm .bistEnd).put (Reg.ENGX.BIST_STAT.LAST_PASS s.dev.standby) false).set (Reg.ENGX.BIST_TS.TS s.dev.standby) ((s.dev.advanceTo t).disarm .bistEnd).ts).ev .ENG 0 4).bump (Reg.ENGX.BIST_STAT.FAILS s.dev.standby) 1 = d1 → 
    Completes (.bistWindowEnd false) s fun d =>
      d = endRepair s.dev.standby false (healthReport 1 ((engineFails s.dev.standby d1).raise 0 Kind.ENG.BIST_FAIL { master := 0x21 + s.dev.standby }))) ∧
  (∀ (s : State) (t : Nat) (p : Bool), s.live → s.dev.due .bistEnd = some t → s.dev.estate s.dev.standby ≠ 1 → 
    Completes (.bistWindowEnd p) s fun d =>
      d = ((s.dev.advanceTo t).disarm .bistEnd)) ∧
  (∀ (s : State) (e t : Nat), s.live → s.dev.due (.repair e) = some t → s.dev.is Reg.ENG.CFG.AUTO_REPAIR = false ∨ max 1 (s.dev.get Reg.ENG.CFG.REPAIR_MAX) ≤ s.dev.get (Reg.ENGX.STAT.REPAIRS e) ∨ s.dev.estate e ≠ 6 ∨ e = s.dev.activeEngine → 
    Completes (.autoRepair e) s fun d =>
      d = (s.dev.advanceTo t).disarm (.repair e)) ∧
  (∀ (s : State) (p : Bool), s.live → s.dev.due .bistEnd = none → 
    Completes (.bistWindowEnd p) s fun d =>
      d = s.dev) ∧
  (∀ (s : State) (e : Nat), s.live → s.dev.due (.repair e) = none → 
    Completes (.autoRepair e) s fun d =>
      d = s.dev) ∧
  (∀ s : State, s.live → s.dev.pageOff 0xB5 = false → s.dev.estate s.dev.standby ≠ 0 → s.dev.estate s.dev.standby ≠ 5 → 
    Completes (.engResync) s fun d =>
      d = s.dev) ∧
  (∀ s : State, s.live → s.dev.pageOff 0xB5 = false → s.dev.estate s.dev.standby ≠ 6 → 
    Completes (.engRepair) s fun d =>
      d = s.dev) ∧
  (∀ s : State, s.live → s.dev.is Reg.SYS.BRINGUP.HEALTH_KNOWN = false ∨ s.dev.get Reg.PRT.GEOM_OK.OK = 0 ∨ s.dev.enabled (pg .ENGX 1) = false ∨ s.dev.estate 1 ≠ 0 → 
    Completes (.resyncStart) s fun d =>
      d = s.dev) ∧
  (∀ (s : State) (n : Nat), s.live → s.dev.estate s.dev.standby ≠ 2 ∨ 64 ≤ n ∨ (s.dev.engine s.dev.standby).shadowed.contains n = true ∨ (aget n (s.dev.engine s.dev.standby).copied).isSome = true → 
    Completes (.resyncPortCopy n) s fun d =>
      d = s.dev) ∧
  (∀ s : State, s.live → s.dev.voting = false ∨ s.dev.is Reg.ENG.BIST_CFG.EN = false ∨ s.dev.is Reg.ENG.BIST_CFG.HOLD = true → 
    Completes (.bistWindowStart) s fun d =>
      d = s.dev) ∧
  (∀ (s : State) (n : Nat) (eA eB : Bytes), s.live → aget n (s.dev.engine s.dev.standby).copied = none ∨ s.dev.estate s.dev.standby ≠ 2 → 
    Completes (.resyncCompare n eA eB) s fun d =>
      d = s.dev) ∧
  (∀ (s : State) (n k : Nat) (eA eB : Bytes), s.live → s.dev.estate s.dev.standby = 2 → aget n (s.dev.engine s.dev.standby).copied = some k → (s.dev.port n).cycles ≤ k + 4 → ((s.dev.port n).ring.filter fun r => decide (k < r.count)).length < (s.dev.port n).cycles - k → 
    Completes (.resyncCompare n eA eB) s fun d =>
      d = s.dev) ∧
  (∀ (s : State) (n k : Nat) (eA eB : Bytes) (r : Slice × Bytes × Bytes) (d1 : Dev), s.live → s.dev.estate s.dev.standby = 2 → aget n (s.dev.engine s.dev.standby).copied = some k → (s.dev.port n).cycles ≤ k + 4 → (s.dev.port n).cycles - k ≤ ((s.dev.port n).ring.filter fun r => decide (k < r.count)).length → s.dev.resyncSums n k = r → crc32c (struck r.2.1 (if s.dev.standby = 1 then eA else eB)) = crc32c (struck r.2.2 (if s.dev.standby = 1 then eB else eA)) → (s.dev.engine s.dev.standby).shadowed.contains n = true → (s.dev.setEngine s.dev.standby { (s.dev.engine s.dev.standby).setSlice n r.1 with copied := adel n (s.dev.engine s.dev.standby).copied }).set (Reg.ENGX.STAT.PORTS_OK s.dev.standby) (s.dev.engine s.dev.standby).shadowed.length = d1 → 
    Completes (.resyncCompare n eA eB) s fun d =>
      d = (if 64 ≤ (s.dev.engine s.dev.standby).shadowed.length then resyncDone s.dev.standby d1 else d1)) ∧
  (∀ s : State, s.live → s.dev.pageOff 0xB5 = true → (∀ k ∈ ([(.engResync, 0xB5044), (.engRepair, 0xB5044)] : List (Instr × Nat)),
      Completes k.1 s fun d => d = hostRefused 0x21 k.2 s.dev))

/-- FIRE_W_WRITE sets the nominal main width, at most 8000 steps, of class 0, and of a class 1 to 3 at expert level;
TEMPERATURE_SAMPLE keeps a valid temperature in 1/16 °C and clears INVALID, sets INVALID for an open, short,
out-of-range or twice lost reading, and STALE for a channel being calibrated; THM_SLOWDOWN_REPEAT asks again while a
port is warm; WARMING_PULSE of a port that may warm sends a WARM mark and one pulse, and is dropped otherwise;
HOT_REARM of a cooled hot port leaves HOT, and stands for one that has not cooled. A sample of a port whose link is
not UP or while THM is out of service only restarts its period. Completes (exec answers a next state, under
hypotheses on state and operands alone): fireWWrite, temperatureSample, thmSlowdownRepeat, warmingPulse, hotRearm.
(R157, R163, R172, R170, R176.) -/
def Obligations.Temperatures : Prop :=
  (∀ (s : State) (n main : Nat), s.live → n < 64 → s.dev.pageOff (0x100 + n) = false → main < 2 ^ 32 → 
    Completes (.fireWWrite n 0 main) s fun d =>
      d = fireWrite n 0 main s.dev ∧ d.get (Reg.HPT.FIRE_W_0.MAIN n) = min (main % 8192) 8000 ∧ (d.wave n 0).nom.main = min (main % 8192) 8000) ∧
  (∀ (s : State) (n k main : Nat), s.live → n < 64 → 1 ≤ k → k ≤ 3 → s.dev.pageOff (0x100 + n) = false → s.dev.is (Reg.HDR.LEVEL (0x100 + n)) = true → main < 2 ^ 32 → 
    Completes (.fireWWrite n k main) s fun d =>
      d = fireWrite n k main s.dev ∧ (d.wave n k).nom.main = min (main % 8192) 8000) ∧
  (∀ (s : State) (n r : Nat) (t : Int) (d0 : Dev), s.live → n < 64 → s.dev.get (Reg.HPT.LINK_STAT.STATE n) = 6 → s.dev.blk (pg .THM 0) ≠ 0 → s.dev.blk (pg .THM 0) ≠ 5 → s.dev.channelStale (n / 8) = false → takeSample n ((s.dev.advanceTo ((s.dev.due (.temp n)).getD s.dev.time.up)).arm (.temp n) (100 * us)) = d0 → (d0.head n).snsBad < 2 → senseTemp (s.dev.energy n) r = t → -640 ≤ t → t ≤ 2400 → 
    Completes (.temperatureSample n 0 r) s fun d =>
      d = validSample n t (d0.setHead n { d0.head n with snsSent := false, snsBad := 0 }) ∧ d.get (Reg.THM.TEMP.TEMP n) = ofSigned 16 t ∧ d.get (Reg.THM.TEMP.INVALID n) = 0 ∧
        d.get (Reg.THM.TEMP.STALE n) = 0 ∧ (d.heat n).temp = some t) ∧
  (∀ (s : State) (n outcome r : Nat) (d0 : Dev), s.live → n < 64 → s.dev.get (Reg.HPT.LINK_STAT.STATE n) = 6 → s.dev.blk (pg .THM 0) ≠ 0 → s.dev.blk (pg .THM 0) ≠ 5 → s.dev.channelStale (n / 8) = false → takeSample n ((s.dev.advanceTo ((s.dev.due (.temp n)).getD s.dev.time.up)).arm (.temp n) (100 * us)) = d0 → outcome = 1 ∨ 2 ≤ (d0.head n).snsBad ∨ senseTemp (s.dev.energy n) r < -640 ∨ 2400 < senseTemp (s.dev.energy n) r → 
    Completes (.temperatureSample n outcome r) s fun d =>
      d = invalidSample n (d0.setHead n { d0.head n with snsSent := false, snsBad := 0 }) ∧ d.get (Reg.THM.TEMP.INVALID n) = 1 ∧ d.get (Reg.THM.TEMP.TEMP n) = s.dev.get (Reg.THM.TEMP.TEMP n)) ∧
  (∀ (s : State) (n t : Nat), s.live → s.dev.due .thmSlowdown = some t → (List.range 64).find? (fun n => (s.dev.heat n).soft) = some n → 
    Completes (.thmSlowdownRepeat) s fun d =>
      d = (thmSlowdown n ((s.dev.advanceTo t).disarm .thmSlowdown)).arm .thmSlowdown s.dev.thmInterval ∧ d.running .thmSlowdown = true) ∧
  (∀ (s : State) (n t : Nat) (rest : List Nat), s.live → (s.dev.heat n).warm = t :: rest → s.dev.hot n = false → s.dev.runs (pg .THM 0) = true → s.dev.is Reg.SYS.BRINGUP.HEAD_POWER_ARMED = true → s.dev.halted = false → s.dev.runs (pg .HPT n) = true → s.dev.get (Reg.HPT.LINK_STAT.STATE n) = 6 → ((s.dev.port n).firing.map Firing.done).getD true = true → ((s.dev.advanceTo t).setHeat n { s.dev.heat n with warm := rest }).warmRoom n (min (s.dev.get Reg.THM.WARM_W.WIDTH) (s.dev.energy n).warmMax) = true → 
    Completes (.warmingPulse n) s fun d =>
      d = scanFired n (((if s.dev.printing = true then ((s.dev.advanceTo t).setHeat n { s.dev.heat n with warm := rest }) else ((s.dev.advanceTo t).setHeat n { s.dev.heat n with warm := rest }).setPort n { s.dev.port n with portFree := max (s.dev.port n).portFree (((s.dev.advanceTo t).setHeat n { s.dev.heat n with warm := rest }).time.up + clamp 240 320 (s.dev.get (Reg.HPT.LAT_FIRE.STEPS n)) + (min (s.dev.get Reg.THM.WARM_W.WIDTH) (s.dev.energy n).warmMax) + 80) }).emit (.mark n 2 0)).emit
        (.fire n 0 0 0 (min (s.dev.get Reg.THM.WARM_W.WIDTH) (s.dev.energy n).warmMax)))) ∧
  (∀ (s : State) (n : Nat), s.live → n < 64 → s.dev.pageOff 0xB2 = false → s.dev.hot n = true → 2 ≤ (s.dev.heat n).cool → 
    Completes (.hotRearm n) s fun d =>
      d.hot n = false ∧ d.get (Reg.THM.TEMP.STATE n) = 0 ∧ d.evRaw .THM 0 2 = true) ∧
  (∀ (s : State) (n k main : Nat), s.live → n < 64 → 1 ≤ k → k ≤ 3 → s.dev.pageOff (0x100 + n) = false → s.dev.is (Reg.HDR.LEVEL (0x100 + n)) = false → main < 8192 → main ≠ s.dev.get (Reg.HPT.FIRE_W_X.MAIN n (k - 1)) → 
    Completes (.fireWWrite n k main) s fun d =>
      s.dev.Flagged d ∧ d.evRaw .SYS 0 Kind.SYS.LEVEL_DENIED.bit = true) ∧
  (∀ (s : State) (n outcome r : Nat), s.live → n < 64 → s.dev.get (Reg.HPT.LINK_STAT.STATE n) = 6 → s.dev.blk (pg .THM 0) ≠ 0 → s.dev.blk (pg .THM 0) ≠ 5 → s.dev.channelStale (n / 8) = true → 
    Completes (.temperatureSample n outcome r) s fun d =>
      d = staleSample n (countStale ((s.dev.advanceTo ((s.dev.due (.temp n)).getD s.dev.time.up)).arm (.temp n) (100 * us))) ∧ d.get (Reg.THM.TEMP.STALE n) = 1 ∧ d.get (Reg.THM.TEMP.INVALID n) = 0) ∧
  (∀ (s : State) (n t : Nat) (rest : List Nat), s.live → (s.dev.heat n).warm = t :: rest → s.dev.hot n = true ∨ s.dev.runs (pg .THM 0) = false ∨ s.dev.is Reg.SYS.BRINGUP.HEAD_POWER_ARMED = false ∨ s.dev.halted = true ∨
      s.dev.runs (pg .HPT n) = false ∨ s.dev.get (Reg.HPT.LINK_STAT.STATE n) ≠ 6 ∨ ((s.dev.port n).firing.map Firing.done).getD true = false → 
    Completes (.warmingPulse n) s fun d =>
      d = ((s.dev.advanceTo t).setHeat n { s.dev.heat n with warm := rest })) ∧
  (∀ (s : State) (n : Nat), s.live → n < 64 → s.dev.pageOff 0xB2 = false → s.dev.hot n = true → (s.dev.heat n).cool < 2 → 
    Completes (.hotRearm n) s fun d =>
      (d.heat n).rearm = true ∧ d.hot n = true) ∧
  (∀ (s : State) (t : Nat), s.live → s.dev.due .thmSlowdown = some t → (List.range 64).find? (fun n => (s.dev.heat n).soft) = none → 
    Completes (.thmSlowdownRepeat) s fun d =>
      d = (s.dev.advanceTo t).disarm .thmSlowdown) ∧
  (∀ (s : State) (n outcome r : Nat), s.live → s.dev.get (Reg.HPT.LINK_STAT.STATE n) ≠ 6 ∨ s.dev.blk (pg .THM 0) = 0 ∨ s.dev.blk (pg .THM 0) = 5 → 
    Completes (.temperatureSample n outcome r) s fun d =>
      d = ((s.dev.advanceTo ((s.dev.due (.temp n)).getD s.dev.time.up)).arm (.temp n) (100 * us))) ∧
  (∀ (s : State) (n k main : Nat) (d1 : Dev), s.live → n < 64 → k < 4 → s.dev.pageOff (0x100 + n) = false → k = 0 ∨ s.dev.is (Reg.HDR.LEVEL (0x100 + n)) = true → main < 2 ^ 32 → (s.dev.set (fireFields n k).2.2 (min (main % 8192) 8000)).setWave n k { s.dev.wave n k with nom := { pre := min (s.dev.get (fireFields n k).1) 8000, gap := min (s.dev.get (fireFields n k).2.1) 8000, main := min (main % 8192) 8000 } } = d1 → 
    Completes (.fireWWrite n k main) s fun d =>
      d = (if d1.runs (pg .THM 0) = true then retarget n false d1 k else d1)) ∧
  (∀ (s : State) (n k main : Nat), s.live → n < 64 → 1 ≤ k → k ≤ 3 → s.dev.pageOff (0x100 + n) = false → s.dev.is (Reg.HDR.LEVEL (0x100 + n)) = false → main < 8192 → main = s.dev.get (Reg.HPT.FIRE_W_X.MAIN n (k - 1)) → 
    Completes (.fireWWrite n k main) s fun d =>
      d = s.dev) ∧
  (∀ (s : State) (n k main : Nat), s.live → n < 64 → 1 ≤ k → k ≤ 3 → s.dev.pageOff (0x100 + n) = false → s.dev.is (Reg.HDR.LEVEL (0x100 + n)) = false → main < 8192 → main ≠ s.dev.get (Reg.HPT.FIRE_W_X.MAIN n (k - 1)) → 
    Completes (.fireWWrite n k main) s fun d =>
      d = discarded Kind.SYS.LEVEL_DENIED Party.host true ((0x100 + n) * 4096 + 0x604 + 8 * (k - 1)) s.dev) ∧
  (∀ (s : State) (n : Nat), s.live → (s.dev.heat n).warm = [] → 
    Completes (.warmingPulse n) s fun d =>
      d = s.dev) ∧
  (∀ (s : State) (n t : Nat) (rest : List Nat) (d1 : Dev), s.live → (s.dev.heat n).warm = t :: rest → (s.dev.advanceTo t).setHeat n { s.dev.heat n with warm := rest } = d1 → d1.warmRoom n (min (s.dev.get Reg.THM.WARM_W.WIDTH) (s.dev.energy n).warmMax) = false → 
    Completes (.warmingPulse n) s fun d =>
      d = d1) ∧
  (∀ s : State, s.live → s.dev.due .thmSlowdown = none → 
    Completes (.thmSlowdownRepeat) s fun d =>
      d = s.dev) ∧
  (∀ (s : State) (n : Nat) (d0 d1 : Dev), s.live → n < 64 → s.dev.pageOff 0xB2 = false → autoRearm ((s.dev.set Reg.THM.HOT_CTRL.AUTO_REARM (s.dev.get Reg.THM.HOT_CTRL.AUTO_REARM)).set Reg.THM.HOT_CTRL.PORT n) = d0 → d0.hot n = true → d0.setHeat n { d0.heat n with rearm := true } = d1 → 2 ≤ (d0.heat n).cool → 
    Completes (.hotRearm n) s fun d =>
      d = ((((d1.setHeat n { d1.heat n with valid := 0, cool := 0, rearm := false }).clrBit Reg.THM.HOT.HOT n).set (Reg.THM.TEMP.STATE n) 0).ev .THM 0 2)) ∧
  (∀ (s : State) (n : Nat) (d0 : Dev), s.live → n < 64 → s.dev.pageOff 0xB2 = false → autoRearm ((s.dev.set Reg.THM.HOT_CTRL.AUTO_REARM (s.dev.get Reg.THM.HOT_CTRL.AUTO_REARM)).set Reg.THM.HOT_CTRL.PORT n) = d0 → d0.hot n = true → (d0.heat n).cool < 2 → 
    Completes (.hotRearm n) s fun d =>
      d = d0.setHeat n { d0.heat n with rearm := true }) ∧
  (∀ (s : State) (n : Nat) (d0 : Dev), s.live → n < 64 → s.dev.pageOff 0xB2 = false → autoRearm ((s.dev.set Reg.THM.HOT_CTRL.AUTO_REARM (s.dev.get Reg.THM.HOT_CTRL.AUTO_REARM)).set Reg.THM.HOT_CTRL.PORT n) = d0 → d0.hot n = false → 
    Completes (.hotRearm n) s fun d =>
      d = d0) ∧
  (∀ (s : State) (n : Nat), s.live → s.dev.pageOff 0xB2 = true → (∀ k ∈ ([(.hotRearm n, 0xB2044)] : List (Instr × Nat)),
      Completes k.1 s fun d => d = hostRefused 0x21 k.2 s.dev)) ∧
  (∀ (s : State) (n i w : Nat), s.live → s.dev.pageOff (0x100 + n) = true → n < 64 → i < 4 → (∀ k ∈ ([(.fireWWrite n i w, ((0x100 + n) * 4096 + (if i = 0 then 0x204 else 0x604 + 8 * (i - 1))))] : List (Instr × Nat)),
      Completes k.1 s fun d => d = hostRefused 0x21 k.2 s.dev))

/-- TRAINING_START of a port that is asked for and may train takes the link down and enters T1; LINK_TRAIN asks for
training and LINK_CMD_DOWN of a port at its boundary stops the clock, and waits for the boundary otherwise; the
sweeps of T2 and T3 note each step, and the last closes the eyes, going on or failing; the end of the ALIGN sending,
ALIGNED and LINK_RESET move to their next step; a step timeout within the tries waits 2 µs and TRAINING_RETRY starts
again, and past them the link is FAILED. A command that does not belong to the step the training is in, or whose
timer does not run, changes nothing. Completes (exec answers a next state, under hypotheses on state and operands
alone): trainingStart, linkTrain, linkCmdDown, bckSweepStep, laneSweepStep, prbsResult, alignSendEnd, aligned,
trainStepTimeout, trainingRetry, linkReset. (R197, R198, R199, R200, R207.) -/
def Obligations.LinkTraining : Prop :=
  (∀ (s : State) (n : Nat), s.live → n < 64 → (s.dev.head n).step = 0 → (s.dev.head n).want = true → s.dev.mayTrain n = true → 
    Completes (.trainingStart n) s fun d =>
      d = (((((((linkDown n false false s.dev).set (Reg.HPT.LINK_STAT.TRIES n) 1).set (Reg.HPT.LINK_STAT.FAIL_CODE n) 0).set (Reg.HPT.LINK_STAT.LANE_FAIL n) 0).setHead n
        { (linkDown n false false s.dev).head n with want := false, step := 1, clock := false }).setLink n 1).arm (.trainSettle n)
        (s.dev.get (Reg.HPT.LINK_CFG.SETTLE n) * 10 * us)) ∧ d.get (Reg.HPT.LINK_STAT.STATE n) = 1 ∧ (s.dev.headUp n = false → (linkDown n false false s.dev) = s.dev)) ∧
  (∀ (s : State) (n : Nat), s.live → n < 64 → s.dev.pageOff (0x100 + n) = false → 
    Completes (.linkTrain n) s fun d =>
      d = s.dev.setHead n { s.dev.head n with want := true }) ∧
  (∀ (s : State) (n : Nat), s.live → n < 64 → s.dev.pageOff (0x100 + n) = false → s.dev.portAtBoundary n = true → 
    Completes (.linkCmdDown n) s fun d =>
      d = clockStop n true (s.dev.setHead n { s.dev.head n with goDown := false }) ∧ (d.head n).clock = false ∧ (d.head n).step = 0 ∧ d.get (Reg.HPT.LINK_STAT.STATE n) = 0) ∧
  (∀ (s : State) (n t : Nat) (ok : Bool), s.live → (s.dev.head n).step = 2 → s.dev.due (.trainSettle n) = some t → (s.dev.head n).sweep + 1 < 32 → 
    Completes (.bckSweepStep n ok) s fun d =>
      d = (((s.dev.advanceTo t).disarm (.trainSettle n)).setHead n { s.dev.head n with bck := putB (s.dev.head n).bck (s.dev.head n).sweep ok, sweep := (s.dev.head n).sweep + 1 }).arm (.trainSettle n) us) ∧
  (∀ (s : State) (n t : Nat), s.live → (s.dev.head n).step = 3 → s.dev.due (.trainSettle n) = some t → (s.dev.head n).sweep + 1 < 33 → 
    Completes (.laneSweepStep n) s fun d =>
      d = ((((s.dev.advanceTo t).disarm (.trainSettle n)).setHead n { s.dev.head n with sweep := (s.dev.head n).sweep + 1, words := [] }).mark n 0).arm (.trainSettle n) (8192 * 4 + 256)) ∧
  (∀ (s : State) (n lane mism : Nat), s.live → (s.dev.head n).step = 3 → 2 ≤ (s.dev.head n).sweep → (s.dev.head n).sweep < 33 → lane < 4 → (s.dev.head n).words.contains lane = false → 
    Completes (.prbsResult n lane mism) s fun d =>
      d = s.dev.setHead n { s.dev.head n with lanes := setNth (putB (nth 0 (s.dev.head n).lanes lane) ((s.dev.head n).sweep - 2) (mism == 0)) (s.dev.head n).lanes lane, words := (s.dev.head n).words ++ [lane] }) ∧
  (∀ (s : State) (n t : Nat), s.live → (s.dev.head n).step = 4 → s.dev.due (.trainSettle n) = some t → 
    Completes (.alignSendEnd n) s fun d =>
      d = (((s.dev.advanceTo t).disarm (.trainSettle n)).setHead n { s.dev.head n with sweep := 1 }).emit (.lanes n [] lanesZero)) ∧
  (∀ (s : State) (n : Nat), s.live → n < 64 → (s.dev.head n).step = 4 → 
    Completes (.aligned n true) s fun d =>
      d = trainT567 n (((((((s.dev.disarm (.trainStep n)).disarm (.trainSettle n)).emit (.lanes n [] lanesZero)).mark n 0).setHead n
        { s.dev.head n with words := [] }).setLink n 5)) ∧ d.get (Reg.HPT.LINK_STAT.STATE n) = 5 ∧ (d.head n).step = 5 ∧ (d.head n).ctrl.isSome = true ∧ d.running (.ctrl n) = true) ∧
  (∀ (s : State) (n t : Nat), s.live → n < 64 → s.dev.due (.trainStep n) = some t → (s.dev.head n).step ≠ 0 → (s.dev.head n).step < 8 → s.dev.get (Reg.HPT.LINK_STAT.TRIES n) ≤ s.dev.get (Reg.HPT.LINK_CFG.RETRY n) → 
    Completes (.trainStepTimeout n) s fun d =>
      d = trainFail n (s.dev.head n).step ((s.dev.advanceTo t).disarm (.trainStep n)) ∧ d.get (Reg.HPT.LINK_STAT.FAIL_CODE n) = (s.dev.head n).step ∧ (d.head n).step = 8 ∧ d.running (.trainSettle n) = true ∧ d.running (.trainStep n) = false) ∧
  (∀ (s : State) (n t : Nat), s.live → (s.dev.head n).step = 8 → s.dev.due (.trainSettle n) = some t → 
    Completes (.trainingRetry n) s fun d =>
      d = trainT1 n (((s.dev.advanceTo t).disarm (.trainSettle n)).bump (Reg.HPT.LINK_STAT.TRIES n) 1)) ∧
  (∀ (s : State) (n : Nat), s.live → (s.dev.head n).step = 1 → (s.dev.head n).clock = true → 
    Completes (.linkReset n) s fun d =>
      d = (((s.dev.setHead n { s.dev.head n with step := 2, sweep := 0, bck := 0 }).setLink n 2).arm (.trainStep n) (60 * us)).arm (.trainSettle n) us) ∧
  (∀ (s : State) (n : Nat), s.live → n < 64 → s.dev.pageOff (0x100 + n) = false → s.dev.portAtBoundary n = false → 
    Completes (.linkCmdDown n) s fun d =>
      d = s.dev.setHead n { s.dev.head n with goDown := true }) ∧
  (∀ (s : State) (n t : Nat) (ok : Bool), s.live → (s.dev.head n).step = 2 → s.dev.due (.trainSettle n) = some t → (s.dev.head n).sweep = 31 → 1000 ≤ (longestRun (putB (s.dev.head n).bck 31 ok) 32 false).1 * 125 → 
    Completes (.bckSweepStep n ok) s fun d =>
      d = (((((((((s.dev.advanceTo t).disarm (.trainSettle n)).setHead n { s.dev.head n with bck := putB (s.dev.head n).bck 31 ok, sweep := 32 }).set (Reg.HPT.BCK_EYE.WIDTH_PS n) ((longestRun (putB (s.dev.head n).bck 31 ok) 32 false).1 * 125)).set (Reg.HPT.BCK_EYE.CENTRE n) (runCentre (longestRun (putB (s.dev.head n).bck 31 ok) 32 false) 32)).setHead n { s.dev.head n with bck := putB (s.dev.head n).bck 31 ok, step := 3, sweep := 0, words := [] }).setLink n 3).arm (.trainStep n) (330 * us)).arm (.trainSettle n) 256).emit
        (.lanes n [] ((List.range 4).map prbsLane))) ∧
  (∀ (s : State) (n t : Nat) (ok : Bool), s.live → (s.dev.head n).step = 2 → s.dev.due (.trainSettle n) = some t → (s.dev.head n).sweep = 31 → (longestRun (putB (s.dev.head n).bck 31 ok) 32 false).1 * 125 < 1000 → 
    Completes (.bckSweepStep n ok) s fun d =>
      d = trainFail n 2 (((((s.dev.advanceTo t).disarm (.trainSettle n)).setHead n { s.dev.head n with bck := putB (s.dev.head n).bck 31 ok, sweep := 32 }).set (Reg.HPT.BCK_EYE.WIDTH_PS n) ((longestRun (putB (s.dev.head n).bck 31 ok) 32 false).1 * 125)).set (Reg.HPT.BCK_EYE.CENTRE n) (runCentre (longestRun (putB (s.dev.head n).bck 31 ok) 32 false) 32))) ∧
  (∀ (s : State) (n t : Nat), s.live → (s.dev.head n).step = 3 → s.dev.due (.trainSettle n) = some t → (s.dev.head n).sweep = 32 → 
    Completes (.laneSweepStep n) s fun d =>
      d = (((s.dev.advanceTo t).disarm (.trainSettle n)).setHead n { s.dev.head n with sweep := 33, words := [] }).mark n 0) ∧
  (∀ (s : State) (n lane mism : Nat), s.live → (s.dev.head n).step = 3 → (s.dev.head n).sweep = 33 → lane < 4 → (s.dev.head n).words.contains lane = false → 
    Completes (.prbsResult n lane mism) s fun d =>
      d = (if (s.dev.head n).words.length = 3 then lanesDone n else id) (s.dev.setHead n { s.dev.head n with lanes := setNth (putB (nth 0 (s.dev.head n).lanes lane) 31 (mism == 0)) (s.dev.head n).lanes lane, words := (s.dev.head n).words ++ [lane] })) ∧
  (∀ (s : State) (n t : Nat), s.live → n < 64 → s.dev.due (.trainStep n) = some t → (s.dev.head n).step ≠ 0 → (s.dev.head n).step < 8 → s.dev.get (Reg.HPT.LINK_CFG.RETRY n) < s.dev.get (Reg.HPT.LINK_STAT.TRIES n) → 
    Completes (.trainStepTimeout n) s fun d =>
      d = trainFail n (s.dev.head n).step ((s.dev.advanceTo t).disarm (.trainStep n)) ∧ d.get (Reg.HPT.LINK_STAT.STATE n) = 7 ∧ (d.head n).step = 0 ∧ d.evRaw .HPT n Kind.HPT.TRAIN_FAIL.bit = true) ∧
  (∀ (s : State) (n : Nat), s.live → s.dev.headUp n = true → (s.dev.head n).step ≠ 1 → 
    Completes (.linkReset n) s fun d =>
      d = linkDown n true true s.dev) ∧
  (∀ (s : State) (n : Nat), s.live → 
    Completes (.aligned n false) s fun d =>
      d = s.dev) ∧
  (∀ (s : State) (n : Nat), s.live → (s.dev.head n).step ≠ 0 ∨ (s.dev.head n).want = false ∨ s.dev.mayTrain n = false → 
    Completes (.trainingStart n) s fun d =>
      d = s.dev) ∧
  (∀ (s : State) (n : Nat) (ok : Bool), s.live → (s.dev.head n).step ≠ 2 ∨ s.dev.due (.trainSettle n) = none → 
    Completes (.bckSweepStep n ok) s fun d =>
      d = s.dev) ∧
  (∀ (s : State) (n : Nat), s.live → (s.dev.head n).step ≠ 3 ∨ 33 ≤ (s.dev.head n).sweep ∨ s.dev.due (.trainSettle n) = none → 
    Completes (.laneSweepStep n) s fun d =>
      d = s.dev) ∧
  (∀ (s : State) (n lane mism : Nat), s.live → (s.dev.head n).step ≠ 3 ∨ (s.dev.head n).sweep < 2 ∨ 4 ≤ lane ∨ (s.dev.head n).words.contains lane = true → 
    Completes (.prbsResult n lane mism) s fun d =>
      d = s.dev) ∧
  (∀ (s : State) (n : Nat), s.live → (s.dev.head n).step ≠ 4 ∨ s.dev.due (.trainSettle n) = none → 
    Completes (.alignSendEnd n) s fun d =>
      d = s.dev) ∧
  (∀ (s : State) (n : Nat), s.live → (s.dev.head n).step ≠ 4 → 
    Completes (.aligned n true) s fun d =>
      d = s.dev) ∧
  (∀ (s : State) (n : Nat), s.live → s.dev.due (.trainStep n) = none → 
    Completes (.trainStepTimeout n) s fun d =>
      d = s.dev) ∧
  (∀ (s : State) (n : Nat), s.live → (s.dev.head n).step ≠ 8 ∨ s.dev.due (.trainSettle n) = none → 
    Completes (.trainingRetry n) s fun d =>
      d = s.dev) ∧
  (∀ (s : State) (n : Nat), s.live → ((s.dev.head n).step ≠ 1 ∨ (s.dev.head n).clock = false) ∧ s.dev.headUp n = false → 
    Completes (.linkReset n) s fun d =>
      d = s.dev) ∧
  (∀ (s : State) (n t : Nat), s.live → s.dev.due (.trainStep n) = some t → (s.dev.head n).step = 0 ∨ (s.dev.head n).step = 8 → 
    Completes (.trainStepTimeout n) s fun d =>
      d = (s.dev.advanceTo t).disarm (.trainStep n)) ∧
  (∀ (s : State) (n lane mism : Nat) (b : Nat), s.live → (s.dev.head n).step = 3 → 2 ≤ (s.dev.head n).sweep → 33 < (s.dev.head n).sweep → lane < 4 → (s.dev.head n).words.contains lane = false → putB (nth 0 (s.dev.head n).lanes lane) ((s.dev.head n).sweep - 2) (mism == 0) = b → 
    Completes (.prbsResult n lane mism) s fun d =>
      d = s.dev.setHead n { s.dev.head n with lanes := setNth b (s.dev.head n).lanes lane, words := (s.dev.head n).words ++ [lane] }) ∧
  (∀ (s : State) (n : Nat), s.live → s.dev.pageOff (0x100 + n) = true → n < 64 → (∀ k ∈ ([(.linkTrain n, ((0x100 + n) * 4096 + 0x44)), (.linkCmdDown n, ((0x100 + n) * 4096 + 0x44))] : List (Instr × Nat)),
      Completes k.1 s fun d => d = hostRefused 0x21 k.2 s.dev)) ∧
  (∀ (s : State) (n t : Nat), s.live → n < 64 → s.dev.due (.trainStep n) = some t → (s.dev.head n).step ≠ 0 → (s.dev.head n).step ≠ 8 → 
    Completes (.trainStepTimeout n) s fun d =>
      d = trainFail n (s.dev.head n).step ((s.dev.advanceTo t).disarm (.trainStep n)))

/-- LAT_REPORT takes the oldest latch off the list, with BCK_ERR when its tag is another, and counts the rows refused;
the one of T7 brings the link up. FRAME_BAD counts the frame, raises FRAME_BAD, and has a frame of the built cycle
sent once more before LAT; a SENSE frame loses its sample or window, a CTRL frame its transaction. READ_DATA and
WRITE_ACK end the register command in flight, or carry training on; HEAD_STATUS, LAT_ERR and a BCK message that is
dropped raise their faults; a report that stays out counts as missed, the third takes the link down, as silence
does. A report without a latch, a frame or a command it belongs to changes nothing beyond the counters of R202.
Completes (exec answers a next state, under hypotheses on state and operands alone): latReport, frameBad, readData,
writeAck, headStatus, latErr, bckMessageDropped, latReportTimeout, bckSilence. (R187, R192, R196, R202.) -/
def Obligations.LinkReports : Prop :=
  (∀ (s : State) (n tag : Nat) (l : Latched) (rest : List Latched), s.live → (s.dev.head n).t7 = false → (s.dev.head n).lats = l :: rest → tag = l.tag → 
    Completes (.latReport n tag 0) s fun d =>
      d = armReport n (s.dev.setHead n { s.dev.head n with lats := rest, missed := 0 })) ∧
  (∀ (s : State) (n ordinal seg type row : Nat), s.live → type ≠ 3 → type ≠ 4 → (s.dev.head n).sent[ordinal]? = none ∨ (s.dev.port n).built = none ∨ s.dev.is (Reg.HPT.LINK_CFG.RESEND_EN n) = false → 
    Completes (.frameBad n ordinal seg type row) s fun d =>
      d = (((s.dev.bump (Reg.HPT.CRC_ERR_CNT.COUNT n) 1).raise n Kind.HPT.FRAME_BAD
        { port := n, arg := ordinal % 65536 + seg % 256 * 2 ^ 16 + type % 16 * 2 ^ 24 + row % 16 * 2 ^ 28 }).setHead n { s.dev.head n with badFrames := (s.dev.head n).badFrames + 1 })) ∧
  (∀ (s : State) (n tag v : Nat) (c : Ctrl), s.live → (s.dev.head n).ctrl = some c → c.tag = tag → c.data = none → c.training = false → n < 64 → v < 2 ^ 32 → 
    Completes (.readData n tag v) s fun d =>
      d = hregEnd n 0 (s.dev.set (Reg.HPT.HREG_DATA.DATA n) v) ∧ d.get (Reg.HPT.HREG_DATA.DATA n) = v ∧ d.is (Reg.HPT.HREG_STAT.BUSY n) = false ∧ d.get (Reg.HPT.HREG_STAT.RESULT n) = 0 ∧
        (d.head n).ctrl = none ∧ d.evRaw .HPT n 10 = true) ∧
  (∀ (s : State) (n tag : Nat) (refused : Bool) (c : Ctrl), s.live → (s.dev.head n).ctrl = some c → c.tag = tag → c.data ≠ none → c.training = false → n < 64 → 
    Completes (.writeAck n tag refused) s fun d =>
      d = hregEnd n (if refused = true then 2 else 0) s.dev ∧ d.is (Reg.HPT.HREG_STAT.BUSY n) = false ∧ d.get (Reg.HPT.HREG_STAT.RESULT n) = (if refused then 2 else 0) ∧ (d.head n).ctrl = none ∧ d.evRaw .HPT n 10 = true) ∧
  (∀ (s : State) (n code : Nat), s.live → 
    Completes (.headStatus n code) s fun d =>
      d = s.dev.raise n Kind.HPT.HEAD_STATUS { port := n, arg := code % 2 ^ 32 }) ∧
  (∀ (s : State) (n width : Nat), s.live → 
    Completes (.latErr n width) s fun d =>
      d = s.dev.raise n Kind.HPT.LAT_ERR { port := n, arg := width % 256 }) ∧
  (∀ (s : State) (n : Nat) (bs : Bytes) (coded : Bool), s.live → ¬(coded = true ∧ crc8 (bs.take 6) = byteAt bs 6 ∧ 1 ≤ byteAt bs 0 ∧ byteAt bs 0 ≤ 9) → 
    Completes (.bckMessageDropped ⟨n, bs, coded⟩) s fun d =>
      d = (s.dev.bump (Reg.HPT.BCK_ERR_CNT.COUNT n) 1).raise n Kind.HPT.BCK_ERR { port := n }) ∧
  (∀ (s : State) (n t : Nat) (l : Latched) (rest : List Latched), s.live → s.dev.due (.latReport n) = some t → (s.dev.head n).lats = l :: rest → (s.dev.head n).missed < 2 → 
    Completes (.latReportTimeout n) s fun d =>
      d = bckErr n (armReport n (((s.dev.advanceTo t).disarm (.latReport n)).setHead n { s.dev.head n with lats := rest, missed := (s.dev.head n).missed + 1 })) ∧ (d.head n).lats = rest ∧ (d.head n).missed = (s.dev.head n).missed + 1 ∧ d.evRaw .HPT n Kind.HPT.BCK_ERR.bit = true) ∧
  (∀ (s : State) (n : Nat), s.live → n < 64 → s.dev.headUp n = true → 
    Completes (.bckSilence n) s fun d =>
      d = linkDown n true true s.dev ∧ d.get (Reg.HPT.LINK_STAT.STATE n) = 0 ∧ (d.head n).lats = [] ∧ (d.head n).ctrl = none ∧ d.evRaw .HPT n Kind.HPT.LINK_DOWN.bit = true) ∧
  (∀ (s : State) (n : Nat) (bs : Bytes), s.live → crc8 (bs.take 6) = byteAt bs 6 → 1 ≤ byteAt bs 0 → byteAt bs 0 ≤ 9 → 
    Completes (.bckMessageDropped ⟨n, bs, true⟩) s fun d =>
      d = s.dev) ∧
  (∀ (s : State) (n tag refused : Nat), s.live → (s.dev.head n).t7 = true → 
    Completes (.latReport n tag refused) s fun d =>
      d = linkUpNow n s.dev ∧ (n < 64 → d.get (Reg.HPT.LINK_STAT.STATE n) = 6) ∧ d.running (.temp n) = true) ∧
  (∀ (s : State) (n tag : Nat) (l : Latched) (rest : List Latched), s.live → (s.dev.head n).t7 = false → (s.dev.head n).lats = l :: rest → tag ≠ l.tag → 
    Completes (.latReport n tag 0) s fun d =>
      d = bckErr n (armReport n (s.dev.setHead n { s.dev.head n with lats := rest, missed := 0 }))) ∧
  (∀ (s : State) (n refused : Nat) (l : Latched) (rest : List Latched), s.live → n < 64 → (s.dev.head n).t7 = false → (s.dev.head n).lats = l :: rest → l.rows.filter refused.testBit ≠ [] → 
    Completes (.latReport n l.tag refused) s fun d =>
      (d.head n).lats = rest ∧ d.get (Reg.HPT.REFUSED_CNT.COUNT n) = min (2 ^ 32 - 1) (s.dev.get (Reg.HPT.REFUSED_CNT.COUNT n) + (l.rows.filter refused.testBit).length) ∧
        d.evRaw .HPT n Kind.HPT.LINE_REFUSED.bit = true) ∧
  (∀ (s : State) (n ordinal seg type row place : Nat) (c : Cycle), s.live → type ≠ 3 → type ≠ 4 → (s.dev.head n).sent[ordinal]? = some (type, row, place) → (s.dev.port n).built = some c → s.dev.is (Reg.HPT.LINK_CFG.RESEND_EN n) = true → (s.dev.head n).resent.contains place = false → place < c.shipped → s.dev.latNow n = false → 
    Completes (.frameBad n ordinal seg type row) s fun d =>
      d = ((((s.dev.bump (Reg.HPT.CRC_ERR_CNT.COUNT n) 1).raise n Kind.HPT.FRAME_BAD
        { port := n, arg := ordinal % 65536 + seg % 256 * 2 ^ 16 + type % 16 * 2 ^ 24 + row % 16 * 2 ^ 28 }).setHead n { s.dev.head n with badFrames := (s.dev.head n).badFrames + 1 }).setPort n { s.dev.port n with built := some { c with resend := c.resend ++ [place] } }).setHead n
        { s.dev.head n with badFrames := (s.dev.head n).badFrames + 1, resent := place :: (s.dev.head n).resent }) ∧
  (∀ (s : State) (n ordinal seg row : Nat), s.live → 
    Completes (.frameBad n ordinal seg 4 row) s fun d =>
      d = ctrlMissed n (((s.dev.bump (Reg.HPT.CRC_ERR_CNT.COUNT n) 1).raise n Kind.HPT.FRAME_BAD
        { port := n, arg := ordinal % 65536 + seg % 256 * 2 ^ 16 + 4 % 16 * 2 ^ 24 + row % 16 * 2 ^ 28 }).setHead n { s.dev.head n with badFrames := (s.dev.head n).badFrames + 1 })) ∧
  (∀ (s : State) (n ordinal seg row k : Nat), s.live → ((s.dev.head n).sent[ordinal]?).map (fun x => x.2.2) = some k → k = 257 ∨ k = 258 → 
    Completes (.frameBad n ordinal seg 3 row) s fun d =>
      d = (if k = 257 then sampleBad n (((s.dev.bump (Reg.HPT.CRC_ERR_CNT.COUNT n) 1).raise n Kind.HPT.FRAME_BAD
        { port := n, arg := ordinal % 65536 + seg % 256 * 2 ^ 16 + 3 % 16 * 2 ^ 24 + row % 16 * 2 ^ 28 }).setHead n { s.dev.head n with badFrames := (s.dev.head n).badFrames + 1 }) else
        match (s.dev.health n).windows.getLast? with | some w => abandonWhere n (· == w) (((s.dev.bump (Reg.HPT.CRC_ERR_CNT.COUNT n) 1).raise n Kind.HPT.FRAME_BAD
        { port := n, arg := ordinal % 65536 + seg % 256 * 2 ^ 16 + 3 % 16 * 2 ^ 24 + row % 16 * 2 ^ 28 }).setHead n { s.dev.head n with badFrames := (s.dev.head n).badFrames + 1 }) | none => (((s.dev.bump (Reg.HPT.CRC_ERR_CNT.COUNT n) 1).raise n Kind.HPT.FRAME_BAD
        { port := n, arg := ordinal % 65536 + seg % 256 * 2 ^ 16 + 3 % 16 * 2 ^ 24 + row % 16 * 2 ^ 28 }).setHead n { s.dev.head n with badFrames := (s.dev.head n).badFrames + 1 }))) ∧
  (∀ (s : State) (n tag v : Nat) (c : Ctrl), s.live → (s.dev.head n).ctrl = some c → c.tag = tag → c.data = none → c.training = true → (s.dev.head n).step = 5 → v < 2 ^ 32 → 
    Completes (.readData n tag v) s fun d =>
      d = trainT567 n ((s.dev.setHead n { s.dev.head n with ctrl := none, words := (s.dev.head n).words ++ [v] }).disarm (.ctrl n))) ∧
  (∀ (s : State) (n tag : Nat) (refused : Bool) (c : Ctrl), s.live → (s.dev.head n).ctrl = some c → c.tag = tag → c.data ≠ none → c.training = true → 
    Completes (.writeAck n tag refused) s fun d =>
      d = (s.dev.setHead n { s.dev.head n with ctrl := none }).disarm (.ctrl n)) ∧
  (∀ (s : State) (n t : Nat) (l : Latched) (rest : List Latched), s.live → s.dev.due (.latReport n) = some t → (s.dev.head n).lats = l :: rest → 2 ≤ (s.dev.head n).missed → 
    Completes (.latReportTimeout n) s fun d =>
      d = linkDown n true true (bckErr n (armReport n (((s.dev.advanceTo t).disarm (.latReport n)).setHead n { s.dev.head n with lats := rest, missed := (s.dev.head n).missed + 1 })))) ∧
  (∀ (s : State) (n ordinal seg type row t r place : Nat) (c : Cycle), s.live → type ≠ 3 → type ≠ 4 → (s.dev.head n).sent[ordinal]? = some (t, r, place) → (s.dev.port n).built = some c → ¬(s.dev.is (Reg.HPT.LINK_CFG.RESEND_EN n) = true ∧ t = type ∧ r = row ∧ (s.dev.head n).resent.contains place = false ∧ place < c.shipped ∧ s.dev.latNow n = false) → 
    Completes (.frameBad n ordinal seg type row) s fun d =>
      d = ((s.dev.bump (Reg.HPT.CRC_ERR_CNT.COUNT n) 1).raise n Kind.HPT.FRAME_BAD { port := n, arg := ordinal % 65536 + seg % 256 * 2 ^ 16 + type % 16 * 2 ^ 24 + row % 16 * 2 ^ 28 }).setHead n { s.dev.head n with badFrames := (s.dev.head n).badFrames + 1 }) ∧
  (∀ (s : State) (n ordinal seg row : Nat), s.live → ((s.dev.head n).sent[ordinal]?).map (fun x => x.2.2) ≠ some 257 → ((s.dev.head n).sent[ordinal]?).map (fun x => x.2.2) ≠ some 258 → 
    Completes (.frameBad n ordinal seg 3 row) s fun d =>
      d = ((s.dev.bump (Reg.HPT.CRC_ERR_CNT.COUNT n) 1).raise n Kind.HPT.FRAME_BAD { port := n, arg := ordinal % 65536 + seg % 256 * 2 ^ 16 + 3 % 16 * 2 ^ 24 + row % 16 * 2 ^ 28 }).setHead n { s.dev.head n with badFrames := (s.dev.head n).badFrames + 1 }) ∧
  (∀ (s : State) (n tag refused : Nat), s.live → (s.dev.head n).t7 = false → (s.dev.head n).lats = [] → 
    Completes (.latReport n tag refused) s fun d =>
      d = s.dev) ∧
  (∀ (s : State) (n tag refused : Nat) (l : Latched) (rest : List Latched) (d1 d2 : Dev), s.live → (s.dev.head n).t7 = false → (s.dev.head n).lats = l :: rest →  (if tag = l.tag then (armReport n (s.dev.setHead n { s.dev.head n with lats := rest, missed := 0 })) else bckErr n (armReport n (s.dev.setHead n { s.dev.head n with lats := rest, missed := 0 }))) = d1 → wearRefuse n (l.rows.filter refused.testBit) l.fire ((((l.lines.filter fun r => refused.testBit r.row).foldl (fun d r => refuseRow d r) d1).bump (Reg.HPT.REFUSED_CNT.COUNT n) (l.rows.filter refused.testBit).length).raise n Kind.HPT.LINE_REFUSED { port := n, arg := refused % 65536 }) = d2 → 
    Completes (.latReport n tag refused) s fun d =>
      d = (if l.rows.filter refused.testBit = [] then d1 else (let mine := (d2.health n).windows.filter fun (w : Window) => w.asked == l.time && (match (d2.geom n).bind fun g => aget w.noz g.noz with | some e => (l.rows.filter refused.testBit).contains (nozRow e) | none => false); if mine = [] then d2 else (abandonWhere n mine.contains d2).sense n 0 0 0 0))) ∧
  (∀ (s : State) (n tag v : Nat), s.live → ∀ c ∈ (s.dev.head n).ctrl, c.tag ≠ tag ∨ c.data ≠ none → 
    Completes (.readData n tag v) s fun d =>
      d = s.dev) ∧
  (∀ (s : State) (n tag v : Nat) (c : Ctrl), s.live → (s.dev.head n).ctrl = some c → c.tag = tag → c.data = none → c.training = true → (s.dev.head n).step ≠ 5 → 
    Completes (.readData n tag v) s fun d =>
      d = (s.dev.setHead n { s.dev.head n with ctrl := none, words := (s.dev.head n).words ++ [v % 2 ^ 32] }).disarm (.ctrl n)) ∧
  (∀ (s : State) (n tag : Nat) (refused : Bool), s.live → ∀ c ∈ (s.dev.head n).ctrl, c.tag ≠ tag ∨ c.data = none → 
    Completes (.writeAck n tag refused) s fun d =>
      d = s.dev) ∧
  (∀ (s : State) (n : Nat), s.live → s.dev.headUp n = false → 
    Completes (.bckSilence n) s fun d =>
      d = s.dev) ∧
  (∀ (s : State) (n : Nat), s.live → s.dev.due (.latReport n) = none → 
    Completes (.latReportTimeout n) s fun d =>
      d = s.dev) ∧
  (∀ (s : State) (n t : Nat), s.live → s.dev.due (.latReport n) = some t → (s.dev.head n).lats = [] → 
    Completes (.latReportTimeout n) s fun d =>
      d = (s.dev.advanceTo t).disarm (.latReport n))

/-- HREG_CMD_GO of a free command interface with the link up queues the command and sets BUSY; with the link down it
ends at once with result 3, and a write below 0x8000 with result 2; a busy interface takes no second one.
CTRL_TIMEOUT sends the command once more, and the second time ends it with result 1 and CTRL_TIMEOUT;
DEGRADE_INTERVAL raises LINK_DEGRADED when more frames than THRESH were bad, and starts the next count. HREG_CMD at
basic level is denied; a timeout without a command, or of a training command asked again, ends it. A guarded field
that the write repeats is no denial (R37). Completes (exec answers a next state, under hypotheses on state and
operands alone): hregCmdGo, ctrlTimeout, degradeInterval. (R196, R202, R207.) -/
def Obligations.LinkCommands : Prop :=
  (∀ (s : State) (n addr : Nat) (write : Bool), s.live → n < 64 → addr < 65536 → s.dev.pageOff (0x100 + n) = false → s.dev.is (Reg.HDR.LEVEL (0x100 + n)) = true ∨ (s.dev.get (Reg.HPT.HREG_CMD.WRITE n) = b2n write ∧ s.dev.get (Reg.HPT.HREG_CMD.ADDR n) = addr) → s.dev.is (Reg.HPT.HREG_STAT.BUSY n) = false → write = true → 0x8000 ≤ addr → s.dev.headUp n = true → 
    Completes (.hregCmdGo n write addr) s fun d =>
      d = (queueCtrl n addr (if write = true then some (s.dev.get (Reg.HPT.HREG_DATA.DATA n)) else none) false ((s.dev.set (Reg.HPT.HREG_CMD.WRITE n) (b2n write)).set (Reg.HPT.HREG_CMD.ADDR n) addr)).put (Reg.HPT.HREG_STAT.BUSY n) true) ∧
  (∀ (s : State) (n addr : Nat), s.live → n < 64 → addr < 65536 → s.dev.pageOff (0x100 + n) = false → s.dev.is (Reg.HDR.LEVEL (0x100 + n)) = true ∨ (s.dev.get (Reg.HPT.HREG_CMD.WRITE n) = 0 ∧ s.dev.get (Reg.HPT.HREG_CMD.ADDR n) = addr) → s.dev.headUp n = false → s.dev.is (Reg.HPT.HREG_STAT.BUSY n) = false → 
    Completes (.hregCmdGo n false addr) s fun d =>
      d = (((s.dev.set (Reg.HPT.HREG_CMD.WRITE n) 0).set (Reg.HPT.HREG_CMD.ADDR n) addr).set (Reg.HPT.HREG_STAT.RESULT n) 3).ev .HPT n 10) ∧
  (∀ (s : State) (n t : Nat) (c : Ctrl), s.live → s.dev.due (.ctrl n) = some t → (s.dev.head n).ctrl = some c → c.again = false → 
    Completes (.ctrlTimeout n) s fun d =>
      d = ctrlMissed n ((s.dev.advanceTo t).disarm (.ctrl n)) ∧ (d.head n).ctrl = some { c with again := true } ∧ d.running (.ctrl n) = true) ∧
  (∀ (s : State) (n : Nat), s.live → s.dev.get (Reg.HPT.DEGRADE.THRESH n) < (s.dev.head n).badFrames → 
    Completes (.degradeInterval n) s fun d =>
      d = ((((s.dev.advanceTo ((s.dev.due (.degrade n)).getD s.dev.time.up)).arm (.degrade n) sec).setHead n { s.dev.head n with badFrames := 0 }).raise n
        Kind.HPT.LINK_DEGRADED { port := n, arg := (s.dev.head n).badFrames }) ∧ d.running (.degrade n) = true) ∧
  (∀ (s : State) (n addr : Nat), s.live → n < 64 → addr < 65536 → s.dev.pageOff (0x100 + n) = false → s.dev.is (Reg.HDR.LEVEL (0x100 + n)) = true ∨ (s.dev.get (Reg.HPT.HREG_CMD.WRITE n) = 1 ∧ s.dev.get (Reg.HPT.HREG_CMD.ADDR n) = addr) → s.dev.is (Reg.HPT.HREG_STAT.BUSY n) = false → addr < 0x8000 → 
    Completes (.hregCmdGo n true addr) s fun d =>
      d = (((s.dev.set (Reg.HPT.HREG_CMD.WRITE n) 1).set (Reg.HPT.HREG_CMD.ADDR n) addr).set (Reg.HPT.HREG_STAT.RESULT n) 2).ev .HPT n 10) ∧
  (∀ (s : State) (n addr : Nat), s.live → n < 64 → addr < 65536 → s.dev.pageOff (0x100 + n) = false → s.dev.is (Reg.HDR.LEVEL (0x100 + n)) = true ∨ (s.dev.get (Reg.HPT.HREG_CMD.WRITE n) = 1 ∧ s.dev.get (Reg.HPT.HREG_CMD.ADDR n) = addr) → s.dev.is (Reg.HPT.HREG_STAT.BUSY n) = false → 0x8000 ≤ addr → s.dev.headUp n = false → 
    Completes (.hregCmdGo n true addr) s fun d =>
      d = (((s.dev.set (Reg.HPT.HREG_CMD.WRITE n) 1).set (Reg.HPT.HREG_CMD.ADDR n) addr).set (Reg.HPT.HREG_STAT.RESULT n) 3).ev .HPT n 10) ∧
  (∀ (s : State) (n addr : Nat) (write : Bool), s.live → n < 64 → addr < 65536 → s.dev.pageOff (0x100 + n) = false → s.dev.is (Reg.HDR.LEVEL (0x100 + n)) = true ∨ (s.dev.get (Reg.HPT.HREG_CMD.WRITE n) = b2n write ∧ s.dev.get (Reg.HPT.HREG_CMD.ADDR n) = addr) → s.dev.is (Reg.HPT.HREG_STAT.BUSY n) = true → 
    Completes (.hregCmdGo n write addr) s fun d =>
      d = ((s.dev.set (Reg.HPT.HREG_CMD.WRITE n) (b2n write)).set (Reg.HPT.HREG_CMD.ADDR n) addr)) ∧
  (∀ (s : State) (n t : Nat) (c : Ctrl), s.live → s.dev.due (.ctrl n) = some t → (s.dev.head n).ctrl = some c → c.again = true → c.training = false → 
    Completes (.ctrlTimeout n) s fun d =>
      d = (hregEnd n 1 ((s.dev.advanceTo t).disarm (.ctrl n))).raise n Kind.HPT.CTRL_TIMEOUT { port := n, arg := c.addr }) ∧
  (∀ (s : State) (n : Nat), s.live → (s.dev.head n).badFrames ≤ s.dev.get (Reg.HPT.DEGRADE.THRESH n) → 
    Completes (.degradeInterval n) s fun d =>
      d = ((s.dev.advanceTo ((s.dev.due (.degrade n)).getD s.dev.time.up)).arm (.degrade n) sec).setHead n { s.dev.head n with badFrames := 0 }) ∧
  (∀ (s : State) (n : Nat), s.live → s.dev.due (.ctrl n) = none → 
    Completes (.ctrlTimeout n) s fun d =>
      d = s.dev) ∧
  (∀ (s : State) (n t : Nat), s.live → s.dev.due (.ctrl n) = some t → (s.dev.head n).ctrl = none → 
    Completes (.ctrlTimeout n) s fun d =>
      d = (s.dev.advanceTo t).disarm (.ctrl n)) ∧
  (∀ (s : State) (n t : Nat) (c : Ctrl), s.live → s.dev.due (.ctrl n) = some t → (s.dev.head n).ctrl = some c → c.again = true → c.training = true → (s.dev.head n).step = 5 → 
    Completes (.ctrlTimeout n) s fun d =>
      d = trainFail n 5 ((s.dev.advanceTo t).disarm (.ctrl n))) ∧
  (∀ (s : State) (n t : Nat) (c : Ctrl), s.live → s.dev.due (.ctrl n) = some t → (s.dev.head n).ctrl = some c → c.again = true → c.training = true → (s.dev.head n).step ≠ 5 → 
    Completes (.ctrlTimeout n) s fun d =>
      d = (((s.dev.advanceTo t).disarm (.ctrl n)).setHead n { s.dev.head n with ctrl := none }).disarm (.ctrl n)) ∧
  (∀ (s : State) (n addr : Nat) (write : Bool), s.live → n < 64 → addr < 65536 → s.dev.pageOff (0x100 + n) = false → s.dev.is (Reg.HDR.LEVEL (0x100 + n)) = false → s.dev.get (Reg.HPT.HREG_CMD.WRITE n) ≠ b2n write ∨ s.dev.get (Reg.HPT.HREG_CMD.ADDR n) ≠ addr → 
    Completes (.hregCmdGo n write addr) s fun d =>
      d = discarded Kind.SYS.LEVEL_DENIED Party.host true ((0x100 + n) * 4096 + 0x400) s.dev) ∧
  (∀ (s : State) (n a : Nat) (w : Bool), s.live → s.dev.pageOff (0x100 + n) = true → n < 64 → (∀ k ∈ ([(.hregCmdGo n w a, ((0x100 + n) * 4096 + 0x400))] : List (Instr × Nat)),
      Completes k.1 s fun d => d = hostRefused 0x21 k.2 s.dev))

/-- SOUNDING_DECISION closes the window, decides by the distance to the two curves, counts it, and gives the nozzle its
counters and state; on a channel being calibrated the window is abandoned. HEALTH_WRITEBACK writes the next nozzle
waiting to its place in Basin; WEAR_FLUSH adds what a port has gathered to the map, clears it and goes on to the
next port, or waits; SIG_LOAD asks for the table and SIG_LOAD_DONE takes it or raises SIG_TABLE_BAD. SCAN_CMD_GO in
MAINT starts a scan and is refused outside MAINT or while one runs; SCAN_STEP_DONE keeps the resistance measured and
the state it gives, the worse of two heaters; SCAN_STEP_REPEAT asks again up to four times and then gives the nozzle
up; SCAN_CMD_STOP lets the step under way end. Where there is no window, step, entry or load to act on, nothing
changes. Completes (exec answers a next state, under hypotheses on state and operands alone): soundingDecision,
healthWriteback, wearFlush, sigLoad, sigLoadDone, scanCmdGo, scanStepDone, scanStepRepeat, scanCmdStop. (R224, R209,
R228, R229, R213, R214, R216, R218.) -/
def Obligations.ScansSoundingAndWear : Prop :=
  (∀ (s : State) (n de dn : Nat) (rs : List Nat) (full pass miss : Bool) (w : Window) (rest : List Window) (z : Noz), s.live → (s.dev.health n).windows = w :: rest → s.dev.channelStale (n / 8) = false → curveDist (rs.map fun (v : Nat) => (s.dev.advanceTo (w.tc + 10000)).convR n v - (s.dev.advanceTo (w.tc + 10000)).rIdle n (if w.heater = 0 then (s.dev.noz n w.noz).rA else (s.dev.noz n w.noz).rB)) (s.dev.curves n w.cls).1 = de → curveDist (rs.map fun (v : Nat) => (s.dev.advanceTo (w.tc + 10000)).convR n v - (s.dev.advanceTo (w.tc + 10000)).rIdle n (if w.heater = 0 then (s.dev.noz n w.noz).rA else (s.dev.noz n w.noz).rB)) (s.dev.curves n w.cls).2 = dn → (decide (de + s.dev.get Reg.SND.SIG_CFG.MARGIN ≤ dn) && !full) = pass → (decide (dn + s.dev.get Reg.SND.SIG_CFG.MARGIN ≤ de) || full) = miss → { s.dev.noz n w.noz with sounded := min 0xFFFF ((s.dev.noz n w.noz).sounded + 1), pass := if pass = true then min 15 ((s.dev.noz n w.noz).pass + 1) else 0, miss := if pass = false ∧ miss = true then min 15 ((s.dev.noz n w.noz).miss + 1) else 0, inc := if pass = false ∧ miss = false then min 15 ((s.dev.noz n w.noz).inc + 1) else 0 } = z → 
    Completes (.soundingDecision n rs full) s fun d =>
      (d.health n).windows = rest ∧ (d.health n).decides = min 0xFFFFFFFF ((s.dev.health n).decides + 1) ∧
        (d.health n).misses = min 0xFFFFFFFF ((s.dev.health n).misses + b2n (!pass && miss)) ∧ (d.health n).abandons = 0 ∧
        (d.health n).ptr = (w.noz + 1) % 16384 ∧
        d.noz n w.noz = (match s.dev.sigState z with | none => z | some x => { z with state := x.1, cause := x.2, pass := 0, miss := 0, inc := 0 })) ∧
  (∀ (s : State) (n i : Nat) (rest : List (Nat × Nat)), s.live → s.dev.snd.wb = (n, i) :: rest → s.dev.basinUp = true → 
    Completes (.healthWriteback) s fun d =>
      d = { s.dev with snd := { s.dev.snd with wb := rest } }.c4Write (s.dev.addr Reg.SND.HEALTH_BASE.ADDR + (n * 16384 + i) * 8) (nozBytes (s.dev.noz n i))) ∧
  (∀ (s : State) (n : Nat), s.live → s.dev.inRun (pg .TRN 0) = true → s.dev.is Reg.TRN.TASK_EN.WEAR = true → s.dev.basinUp = true → s.dev.is Reg.BAS.STAT.THROTTLED = false → s.dev.snd.wearAt = n → (s.dev.health n).wear = [] → 
    Completes (.wearFlush []) s fun d =>
      d.snd.wearAt = (n + 1) % 64 ∧ (d.health n).wear = [] ∧ d.running .wearFlush = true ∧ d.basin = s.dev.basin) ∧
  (∀ s : State, s.live → s.dev.pageOff 0xB3 = false → 
    Completes (.sigLoad) s fun d =>
      d = { s.dev with snd := { s.dev.snd with loading := true } }.request (pg .SND 0)) ∧
  (∀ (s : State) (poisoned : Bool), s.live → s.dev.snd.loading = true → 
    Completes (.sigLoadDone poisoned) s fun d =>
      d.snd.loading = false ∧ (d.get Reg.SND.SIG_STAT.LAST_CODE = 0 → d.is Reg.SND.SIG_STAT.LOADED = true) ∧
        (d.get Reg.SND.SIG_STAT.LAST_CODE ≠ 0 → d.snd.sig = s.dev.snd.sig ∧ d.evRaw .SND 0 Kind.SND.SIG_TABLE_BAD.bit = true)) ∧
  (∀ (s : State) (g : Geom) (i e : Nat) (rest : List (Nat × Nat)), s.live → s.dev.pageOff 0xB3 = false → s.dev.mode = 1 → s.dev.snd.running = false → s.dev.snd.halting = false → s.dev.runs (pg .SND 0) = true → s.dev.get Reg.SND.SCAN_PORTS.PORTS = 1 → s.dev.geom 0 = some g → g.noz = (i, e) :: rest → s.dev.scanReady 0 = true → s.dev.channelStale 0 = false → 
    Completes (.scanCmdGo) s fun d =>
      d.get Reg.SND.SCAN_STAT.STATE = 1 ∧ (d.chan 0).step = some (0, i, 0) ∧ d.running (.scan 0) = true ∧ d.snd.running = true) ∧
  (∀ s : State, s.live → s.dev.pageOff 0xB3 = false → s.dev.mode ≠ 1 ∨ s.dev.snd.running = true ∨ s.dev.inRun (pg .SND 0) = false → 
    Completes (.scanCmdGo) s fun d =>
      d = (s.dev.set Reg.SND.SCAN_STAT.STATE 4).raise 0 Kind.SND.SCAN_REFUSED) ∧
  (∀ (s : State) (c n i lo hi t : Nat) (g : Geom), s.live → s.dev.due (.scan c) = some t → (s.dev.chan c).step = some (n, i, 0) → s.dev.geom n = some g → g.dotMode ≠ 1 → (s.dev.noz n i).cause ≠ 3 → (s.dev.health n).half = none → 
    Completes (.scanStepDone c lo hi false) s fun d =>
      (d.noz n i).rA = s.dev.scanR n lo hi false ∧ (d.noz n i).state = (s.dev.classifyR (s.dev.scanR n lo hi false)).1 ∧
        (d.noz n i).cause = (s.dev.classifyR (s.dev.scanR n lo hi false)).2) ∧
  (∀ (s : State) (c n i h : Nat), s.live → (s.dev.chan c).step = some (n, i, h) → (s.dev.chan c).repeats < 4 → 
    Completes (.scanStepRepeat c) s fun d =>
      d = (((s.dev.bump Reg.SND.SCAN_REPEAT.COUNT 1).setChan c { s.dev.chan c with repeats := (s.dev.chan c).repeats + 1, began := s.dev.time.up }).sense n (2 + h) i 0 0).arm (.scan c) (20 * us)) ∧
  (∀ (s : State) (c : Nat) (x : Nat × Nat × Nat), s.live → c < 8 → s.dev.pageOff 0xB3 = false → s.dev.snd.running = true → (s.dev.chan c).ended = false → (s.dev.chan c).step = some x → 
    Completes (.scanCmdStop) s fun d =>
      d = scanStop s.dev ∧ d.snd.halting = true ∧ (d.chan c).step = some x ∧ d.snd.running = true) ∧
  (∀ (s : State) (n : Nat) (rs : List Nat) (full : Bool) (w : Window) (rest : List Window), s.live → (s.dev.health n).windows = w :: rest → s.dev.channelStale (n / 8) = true → 
    Completes (.soundingDecision n rs full) s fun d =>
      d = abandon n w.noz ((s.dev.advanceTo (w.tc + 10000)).setHealth n { s.dev.health n with windows := rest })) ∧
  (∀ (s : State) (n i v : Nat), s.live → s.dev.inRun (pg .TRN 0) = true → s.dev.is Reg.TRN.TASK_EN.WEAR = true → s.dev.basinUp = true → s.dev.is Reg.BAS.STAT.THROTTLED = false → s.dev.snd.wearAt = n → (s.dev.health n).wear = [(i, v)] → s.dev.basinFails (s.dev.addr Reg.SND.WEAR_BASE.ADDR + (n * 16384 + i) * 8) 8 = false → 
    Completes (.wearFlush []) s fun d =>
      d = ({ (((s.dev.advanceTo ((s.dev.due .wearFlush).getD s.dev.time.up)).arm .wearFlush (max 1 (s.dev.get Reg.SND.WEAR_CFG.PERIOD) * sec / 64)).basinLoad 4 0xFF (s.dev.addr Reg.SND.WEAR_BASE.ADDR + (n * 16384 + i) * 8) 8 0).basinWrite (s.dev.addr Reg.SND.WEAR_BASE.ADDR + (n * 16384 + i) * 8) (leBytes 8 (leVal (s.dev.basinRead (s.dev.addr Reg.SND.WEAR_BASE.ADDR + (n * 16384 + i) * 8) 8) + v)) 4 with snd := { s.dev.snd with wearAt := (n + 1) % 64 } }).setHealth n { s.dev.health n with wear := [] }) ∧
  (∀ (s : State) (bad : List Nat), s.live → s.dev.inRun (pg .TRN 0) = false ∨ s.dev.is Reg.TRN.TASK_EN.WEAR = false ∨ s.dev.basinUp = false ∨ s.dev.is Reg.BAS.STAT.THROTTLED = true → 
    Completes (.wearFlush bad) s fun d =>
      d = ((s.dev.advanceTo ((s.dev.due .wearFlush).getD s.dev.time.up)).arm .wearFlush (max 1 (s.dev.get Reg.SND.WEAR_CFG.PERIOD) * sec / 64))) ∧
  (∀ s : State, s.live → s.dev.snd.loading = true → 
    Completes (.sigLoadDone false) s fun d =>
      d.get Reg.SND.SIG_STAT.LAST_CODE = sigCode (s.dev.basinRead (s.dev.addr Reg.SND.SIG_BASE.ADDR) 4160) s.dev.mode (s.dev.basinFails (s.dev.addr Reg.SND.SIG_BASE.ADDR) 4160) ∧
        (sigCode (s.dev.basinRead (s.dev.addr Reg.SND.SIG_BASE.ADDR) 4160) s.dev.mode (s.dev.basinFails (s.dev.addr Reg.SND.SIG_BASE.ADDR) 4160) = 0 → d.snd.sig = some (leAt (s.dev.basinRead (s.dev.addr Reg.SND.SIG_BASE.ADDR) 4160) 8 8, ((s.dev.basinRead (s.dev.addr Reg.SND.SIG_BASE.ADDR) 4160).drop 64).take 4096) ∧ d.is Reg.SND.SIG_STAT.LOADED = true)) ∧
  (∀ s : State, s.live → s.dev.pageOff 0xB3 = false → s.dev.mode = 1 → s.dev.snd.running = false → s.dev.inRun (pg .SND 0) = true → 
    Completes (.scanCmdGo) s fun d =>
      d = scanGo s.dev ∧ (d.get Reg.SND.SCAN_STAT.STATE = 1 ∨ d.get Reg.SND.SCAN_STAT.STATE = 2 ∨ d.get Reg.SND.SCAN_STAT.STATE = 3)) ∧
  (∀ (s : State) (c n i lo hi t : Nat) (g : Geom) (full : Bool), s.live → s.dev.due (.scan c) = some t → (s.dev.chan c).step = some (n, i, 0) → s.dev.geom n = some g → g.dotMode = 1 → n < 64 → c = n / 8 → s.dev.scanReady n = true → s.dev.snd.halting = false → (s.dev.health n).scan.drop 1 ≠ [] → 
    Completes (.scanStepDone c lo hi full) s fun d =>
      d.noz n i = { s.dev.noz n i with rA := (s.dev.advanceTo t).scanR n lo hi full } ∧ (d.health n).scan = (s.dev.health n).scan.drop 1 ∧
        (d.health n).half = some (s.dev.classifyR ((s.dev.advanceTo t).scanR n lo hi full))) ∧
  (∀ (s : State) (c n i lo hi t : Nat) (g : Geom) (full : Bool) (a b : Nat × Nat), s.live → s.dev.due (.scan c) = some t → (s.dev.chan c).step = some (n, i, 1) → s.dev.geom n = some g → g.dotMode = 1 → (s.dev.health n).half = some a → s.dev.classifyR ((s.dev.advanceTo t).scanR n lo hi full) = b → (s.dev.noz n i).cause ≠ 3 → 
    Completes (.scanStepDone c lo hi full) s fun d =>
      (d.noz n i).rB = (s.dev.advanceTo t).scanR n lo hi full ∧ (d.noz n i).rA = (s.dev.noz n i).rA ∧ (d.noz n i).state = (if b.1 < a.1 then a else b).1 ∧
        (d.noz n i).cause = (if b.1 < a.1 then a else b).2 ∧ (d.health n).scan = (s.dev.health n).scan.drop 1) ∧
  (∀ (s : State) (c n i lo hi t : Nat) (g : Geom) (full : Bool), s.live → s.dev.due (.scan c) = some t → (s.dev.chan c).step = some (n, i, 0) → s.dev.geom n = some g → g.dotMode ≠ 1 → (s.dev.noz n i).state = 3 → (s.dev.noz n i).cause = 3 → s.dev.is Reg.SND.SCAN_CFG.CLEAR_SIG = false → 
    Completes (.scanStepDone c lo hi full) s fun d =>
      d.noz n i = { s.dev.noz n i with rA := (s.dev.advanceTo t).scanR n lo hi full }) ∧
  (∀ (s : State) (c n i h : Nat), s.live → c < 8 → (s.dev.chan c).step = some (n, i, h) → 4 ≤ (s.dev.chan c).repeats → 
    Completes (.scanStepRepeat c) s fun d =>
      d.get Reg.SND.SCAN_SKIP.COUNT = min (2 ^ 32 - 1) (s.dev.get Reg.SND.SCAN_SKIP.COUNT + 1) ∧ (d.health n).scan = ((s.dev.health n).scan.filter fun (x : Nat × Nat) => x.1 != i) ∧
        ∀ y ∈ (d.chan c).step, ¬(y.1 = n ∧ y.2.1 = i)) ∧
  (∀ s : State, s.live → s.dev.pageOff 0xB3 = false → s.dev.snd.running = false → 
    Completes (.scanCmdStop) s fun d =>
      d = s.dev) ∧
  (∀ (s : State) (poisoned : Bool), s.live → s.dev.snd.loading = false → 
    Completes (.sigLoadDone poisoned) s fun d =>
      d = (s.dev.bump Reg.SYS.STALE_CNT.COUNT 1).ev .SYS 0 3) ∧
  (∀ (s : State) (poisoned : Bool) (code : Nat) (d0 : Dev), s.live → s.dev.snd.loading = true → ((s.dev.answer (pg .SND 0)).basinLoad 1 0xFF (s.dev.addr Reg.SND.SIG_BASE.ADDR) 4160 (if poisoned = true then 2 else 0)) = d0 → sigCode (d0.basinRead (d0.addr Reg.SND.SIG_BASE.ADDR) 4160) d0.mode (d0.basinFails (d0.addr Reg.SND.SIG_BASE.ADDR) 4160) = code → code ≠ 0 → 
    Completes (.sigLoadDone poisoned) s fun d =>
      d = (({ d0 with snd := { d0.snd with loading := false } } : Dev).set Reg.SND.SIG_STAT.LAST_CODE code).raise 0 Kind.SND.SIG_TABLE_BAD { arg := code }) ∧
  (∀ (s : State) (poisoned : Bool) (d0 : Dev), s.live → s.dev.snd.loading = true → ((s.dev.answer (pg .SND 0)).basinLoad 1 0xFF (s.dev.addr Reg.SND.SIG_BASE.ADDR) 4160 (if poisoned = true then 2 else 0)) = d0 → sigCode (d0.basinRead (d0.addr Reg.SND.SIG_BASE.ADDR) 4160) d0.mode (d0.basinFails (d0.addr Reg.SND.SIG_BASE.ADDR) 4160) = 0 → 
    Completes (.sigLoadDone poisoned) s fun d =>
      (let t := (({ d0 with snd := { d0.snd with loading := false } } : Dev).set Reg.SND.SIG_STAT.LAST_CODE 0); d = ({ t with snd := { t.snd with sig := some (leAt (d0.basinRead (d0.addr Reg.SND.SIG_BASE.ADDR) 4160) 8 8, ((d0.basinRead (d0.addr Reg.SND.SIG_BASE.ADDR) 4160).drop 64).take 4096) } } : Dev).put Reg.SND.SIG_STAT.LOADED true)) ∧
  (∀ s : State, s.live → s.dev.snd.wb = [] ∨ s.dev.basinUp = false → 
    Completes (.healthWriteback) s fun d =>
      d = s.dev) ∧
  (∀ (s : State) (n : Nat) (rs : List Nat) (full : Bool), s.live → (s.dev.health n).windows = [] → 
    Completes (.soundingDecision n rs full) s fun d =>
      d = s.dev) ∧
  (∀ (s : State) (c : Nat), s.live → (s.dev.chan c).step = none → 
    Completes (.scanStepRepeat c) s fun d =>
      d = s.dev) ∧
  (∀ (s : State) (c n i h : Nat) (d1 : Dev), s.live → (s.dev.chan c).step = some (n, i, h) → 4 ≤ (s.dev.chan c).repeats → s.dev.setHealth n { s.dev.health n with scan := (s.dev.health n).scan.filter (fun x => x.1 != i), half := none } = d1 → 
    Completes (.scanStepRepeat c) s fun d =>
      d = scanNext c ((((if (d1.health n).scan = [] then scanRelease n d1 else d1).bump Reg.SND.SCAN_SKIP.COUNT 1).disarm (.scan c)).setChan c { s.dev.chan c with step := none, repeats := 0 })) ∧
  (∀ s : State, s.live → s.dev.pageOff 0xB3 = false → s.dev.snd.running = true → 
    Completes (.scanCmdStop) s fun d =>
      d = (List.range 8).foldl (fun (d : Dev) c => scanNext c d) { s.dev with snd := { s.dev.snd with halting := true } }) ∧
  (∀ (s : State) (d1 d2 : Dev), s.live → s.dev.pageOff 0xB3 = false → s.dev.mode = 1 → s.dev.snd.running = false → s.dev.inRun (pg .SND 0) = true → (({ s.dev with snd := { s.dev.snd with running := true } } : Dev).set Reg.SND.SCAN_STAT.STATE 1).set Reg.SND.SCAN_STAT.DONE 0 = d1 → (bitList 64 (d1.get Reg.SND.SCAN_PORTS.PORTS)).foldl (fun (d : Dev) n => match d.geom n with | some g => d.setHealth n { d.health n with scan := scanSteps g, half := none } | none => d) d1 = d2 → 
    Completes (.scanCmdGo) s fun d =>
      d = (List.range 8).foldl (fun (d : Dev) c => scanNext c d) ((List.range 8).foldl (fun (d : Dev) c => d.setChan c { d.chan c with step := none, repeats := 0, rot := 7, ended := false }) d2)) ∧
  (∀ (s : State) (c : Nat) (lo hi : Nat) (full : Bool), s.live → s.dev.due (.scan c) = none → 
    Completes (.scanStepDone c lo hi full) s fun d =>
      d = s.dev) ∧
  (∀ (s : State) (c t : Nat) (lo hi : Nat) (full : Bool), s.live → s.dev.due (.scan c) = some t → (s.dev.chan c).step = none → 
    Completes (.scanStepDone c lo hi full) s fun d =>
      d = (s.dev.advanceTo t).disarm (.scan c)) ∧
  (∀ (s : State) (c t n i h lo hi : Nat) (full two : Bool) (d0 d1 d2 d3 : Dev), s.live → s.dev.due (.scan c) = some t → (s.dev.chan c).step = some (n, i, h) → (s.dev.advanceTo t).disarm (.scan c) = d0 → (match d0.geom n with | some g => g.dotMode == 1 | none => false) = two → (let e := setNoz n i (if h = 0 then { s.dev.noz n i with rA := (d0.scanR n lo hi full) } else { s.dev.noz n i with rB := (d0.scanR n lo hi full) }) d0.drawn; if e.bitOf Reg.THM.CLASSING.EN n = true then reclass n e i else e) = d1 → d1.setHealth n { d1.health n with scan := (d1.health n).scan.drop 1, half := if two = true ∧ h = 0 then some (d1.classifyR (d0.scanR n lo hi full)) else none } = d2 → two = true → h = 0 → d2 = d3 → 
    Completes (.scanStepDone c lo hi full) s fun d =>
      (let e := if (d3.health n).scan = [] then scanRelease n d3 else d3; let f := e.setChan c { e.chan c with step := none }; d = scanNext c (if f.cal.wants = some c then spareTakeover f else f))) ∧
  (∀ (s : State) (c t n i h lo hi : Nat) (full two : Bool) (d0 d1 d2 d3 : Dev) (sc : Nat × Nat), s.live → s.dev.due (.scan c) = some t → (s.dev.chan c).step = some (n, i, h) → (s.dev.advanceTo t).disarm (.scan c) = d0 → (match d0.geom n with | some g => g.dotMode == 1 | none => false) = two → (let e := setNoz n i (if h = 0 then { s.dev.noz n i with rA := (d0.scanR n lo hi full) } else { s.dev.noz n i with rB := (d0.scanR n lo hi full) }) d0.drawn; if e.bitOf Reg.THM.CLASSING.EN n = true then reclass n e i else e) = d1 → d1.setHealth n { d1.health n with scan := (d1.health n).scan.drop 1, half := if two = true ∧ h = 0 then some (d1.classifyR (d0.scanR n lo hi full)) else none } = d2 → two = false ∨ h ≠ 0 → (match (d1.health n).half with | some a => if (d1.classifyR (d0.scanR n lo hi full)).1 < a.1 then a else d1.classifyR (d0.scanR n lo hi full) | none => d1.classifyR (d0.scanR n lo hi full)) = sc → healthSync (coverEnd n (degradeSync n ((scanResult n i sc d2).bump Reg.SND.SCAN_STAT.DONE 1))) = d3 → 
    Completes (.scanStepDone c lo hi full) s fun d =>
      (let e := if (d3.health n).scan = [] then scanRelease n d3 else d3; let f := e.setChan c { e.chan c with step := none }; d = scanNext c (if f.cal.wants = some c then spareTakeover f else f))) ∧
  (∀ (s : State) (n de dn : Nat) (rs : List Nat) (full pass miss : Bool) (w : Window) (rest : List Window) (z : Noz) (d1 : Dev), s.live → (s.dev.health n).windows = w :: rest → s.dev.channelStale (n / 8) = false → curveDist (rs.map fun (v : Nat) => (s.dev.advanceTo (w.tc + 10000)).convR n v - (s.dev.advanceTo (w.tc + 10000)).rIdle n (if w.heater = 0 then (s.dev.noz n w.noz).rA else (s.dev.noz n w.noz).rB)) (s.dev.curves n w.cls).1 = de → curveDist (rs.map fun (v : Nat) => (s.dev.advanceTo (w.tc + 10000)).convR n v - (s.dev.advanceTo (w.tc + 10000)).rIdle n (if w.heater = 0 then (s.dev.noz n w.noz).rA else (s.dev.noz n w.noz).rB)) (s.dev.curves n w.cls).2 = dn → (decide (de + s.dev.get Reg.SND.SIG_CFG.MARGIN ≤ dn) && !full) = pass → (decide (dn + s.dev.get Reg.SND.SIG_CFG.MARGIN ≤ de) || full) = miss → { s.dev.noz n w.noz with sounded := min 0xFFFF ((s.dev.noz n w.noz).sounded + 1), pass := if pass = true then min 15 ((s.dev.noz n w.noz).pass + 1) else 0, miss := if pass = false ∧ miss = true then min 15 ((s.dev.noz n w.noz).miss + 1) else 0, inc := if pass = false ∧ miss = false then min 15 ((s.dev.noz n w.noz).inc + 1) else 0 } = z → (s.dev.advanceTo (w.tc + 10000)).drawn.setHealth n { s.dev.health n with windows := rest, abandons := 0, ptr := (w.noz + 1) % 16384, decides := min 0xFFFFFFFF ((s.dev.health n).decides + 1), misses := min 0xFFFFFFFF ((s.dev.health n).misses + b2n (!pass && miss)) } = d1 → 
    Completes (.soundingDecision n rs full) s fun d =>
      d = coverage n w.noz (match d1.sigState z with | none => setNoz n w.noz z d1 | some x => (let e := stateEvents n w.noz w.line z.state x.1 (setNoz n w.noz { z with state := x.1, cause := x.2, pass := 0, miss := 0, inc := 0 } d1); degradeSync n (e.sediment { eventRec e (if x.1 = 3 then 249 else 250) with kind := (if x.1 = 3 then Kind.SND.NOZZLE_FAILED else Kind.SND.NOZZLE_WEAK).code, line := w.line, arg := x.1 * 2 ^ 62 + x.2 * 2 ^ 60 + w.noz * 2 ^ 32 + min de 65535 * 65536 + min dn 65535, port := n })))) ∧
  (∀ (s : State) (n : Nat) (bad : List Nat) (d1 : Dev), s.live → s.dev.inRun (pg .TRN 0) = true → s.dev.is Reg.TRN.TASK_EN.WEAR = true → s.dev.basinUp = true → s.dev.is Reg.BAS.STAT.THROTTLED = false → s.dev.snd.wearAt = n → (s.dev.health n).wear.foldl (fun (d : Dev) (e : Nat × Nat) => (let a := d.addr Reg.SND.WEAR_BASE.ADDR + (n * 16384 + e.1) * 8; let f := d.basinLoad 4 0xFF a 8 (if bad.contains e.1 = true then 2 else 0); if f.basinFails a 8 = true then (((f.basinWrite (a / 32 * 32) (leBytes 32 0) 4).basinWrite a (leBytes 8 e.2) 4).bump Reg.TRN.WEAR_RESET_CNT.COUNT 1).raise 0 Kind.TRN.WEAR_RESET { port := n, arg := e.1 } else f.basinWrite a (leBytes 8 (leVal (f.basinRead a 8) + e.2)) 4)) (((s.dev.advanceTo ((s.dev.due .wearFlush).getD s.dev.time.up)).arm .wearFlush (max 1 (s.dev.get Reg.SND.WEAR_CFG.PERIOD) * sec / 64))) = d1 → 
    Completes (.wearFlush bad) s fun d =>
      d = ({ d1 with snd := { d1.snd with wearAt := (n + 1) % 64 } } : Dev).setHealth n { d1.health n with wear := [] }) ∧
  (∀ s : State, s.live → s.dev.pageOff 0xB3 = true → (∀ k ∈ ([(.sigLoad, 0xB3058), (.scanCmdGo, 0xB3068), (.scanCmdStop, 0xB3068)] : List (Instr × Nat)),
      Completes k.1 s fun d => d = hostRefused 0x21 k.2 s.dev))

/-- ILLEGAL_CHANGE of a quadrature channel that counts counts it and makes the position uncertain. INDEX accepted: with
a home armed loads the home, the first sets the reference, a later one within the window corrects and one outside it
counts a mismatch; not accepted it only moves its pin. WIRE_FLAG of A or B stops the counting, of Z or SE raises the
flag alone; WIRE_FLAG_CLEAR clears it, and the last of A and B starts the counting again; STANDSTILL clears the
speed; SHEET_EDGE keeps its time and position, and inside the lockout is only counted. An index edge that is not
gated, a sheet edge whose line is flagged, a clear of a flag that is not set, and a timer that does not run change
at most the pin. Completes (exec answers a next state, under hypotheses on state and operands alone): illegalChange,
index, wireFlag, wireFlagClear, standstill, sheetEdge. (R256, R259, R263, R272, R273.) -/
def Obligations.EncoderEvents : Prop :=
  (∀ (s : State) (k dt : Nat), s.live → k < 4 → s.dev.counts k = true → s.dev.get (Reg.ENC.CFG.MODE k) ≠ 1 → 
    Completes (.illegalChange k dt) s fun d =>
      d.get (Reg.ENC.ILLEGAL_CNT.COUNT k) = min 0xFFFFFFFF (s.dev.get (Reg.ENC.ILLEGAL_CNT.COUNT k) + 1) % 2 ^ 32 ∧ d.is (Reg.ENC.STAT.UNCERTAIN k) = true ∧ d.evRaw .ENC k 0 = true) ∧
  (∀ (s : State) (k dt : Nat), s.live → k < 4 → s.dev.counts k = true → s.dev.get (Reg.ENC.CFG.MODE k) ≠ 1 → s.dev.is (Reg.ENC.CFG.IDX_EN k) = true → s.dev.is (Reg.ENC.CFG.IDX_GATE k) = false ∨ (s.dev.bitOf (Reg.ENC.STAT.PINS k) 3 = true ∧ s.dev.bitOf (Reg.ENC.STAT.PINS k) 2 = true) → s.dev.bitOf (Reg.ENC.STAT.WIRE k) 1 = false → (s.dev.enc k).armed = true → 
    Completes (.index k true dt) s fun d =>
      d.is (Reg.ENC.STAT.REF_SET k) = true ∧ (d.enc k).armed = false ∧ (d.enc k).cnt = 0 ∧ (d.enc k).base = s.dev.pos48 (Reg.ENC.HOME.POS k) ∧ d.is (Reg.ENC.STAT.UNCERTAIN k) = false ∧ d.evRaw .ENC k 3 = true) ∧
  (∀ (s : State) (k line dt : Nat), s.live → k < 4 → line < 2 → s.dev.bitOf (Reg.ENC.STAT.WIRE k) (3 - line) = false → 
    Completes (.wireFlag k line dt) s fun d =>
      d = posSync ((setUncertain k true (((s.dev.advance dt).setBit (Reg.ENC.STAT.WIRE k) (3 - line)).put (Reg.ENC.STAT.RUN k) false)).raise k Kind.ENC.WIRE_AB { arg := line }) ∧
        d.is (Reg.ENC.STAT.RUN k) = false ∧ d.is (Reg.ENC.STAT.UNCERTAIN k) = true ∧ d.bitOf (Reg.ENC.STAT.WIRE k) (3 - line) = true ∧ d.evRaw .ENC k Kind.ENC.WIRE_AB.bit = true) ∧
  (∀ (s : State) (k dt : Nat), s.live → k < 4 → s.dev.bitOf (Reg.ENC.STAT.WIRE k) 1 = false → 
    Completes (.wireFlag k 2 dt) s fun d =>
      d = ((s.dev.advance dt).setBit (Reg.ENC.STAT.WIRE k) 1).raise k Kind.ENC.WIRE_Z) ∧
  (∀ (s : State) (k line dt : Nat), s.live → k < 4 → line = 2 ∨ line = 3 → s.dev.bitOf (Reg.ENC.STAT.WIRE k) (3 - line) = true → 
    Completes (.wireFlagClear k line dt) s fun d =>
      d = posSync ((s.dev.advance dt).clrBit (Reg.ENC.STAT.WIRE k) (3 - line)) ∧ d.bitOf (Reg.ENC.STAT.WIRE k) (3 - line) = false) ∧
  (∀ (s : State) (k t : Nat), s.live → k < 4 → s.dev.due (.still k) = some t → 
    Completes (.standstill k) s fun d =>
      d = restartSpeed k (((((s.dev.advanceTo t).disarm (.still k)).set (Reg.ENC.SPEED.V k) 0).put (Reg.ENC.STAT.STILL k) true).ev .ENC k 8) ∧ d.get (Reg.ENC.SPEED.V k) = 0 ∧ d.is (Reg.ENC.STAT.STILL k) = true ∧ d.is (Reg.ENC.STAT.SPEED_VALID k) = false ∧ (d.enc k).hist = [] ∧ d.evRaw .ENC k 8 = true) ∧
  (∀ (s : State) (k dt : Nat) (rising : Bool), s.live → k < 4 → (s.dev.get (Reg.ENC.CFG.SE_EDGE k) = 2 ∨ (s.dev.get (Reg.ENC.CFG.SE_EDGE k) = 0 ∧ rising = true) ∨ (s.dev.get (Reg.ENC.CFG.SE_EDGE k) = 1 ∧ rising = false)) → s.dev.is (Reg.ENC.CFG.SE_DIFF k) = false ∨ s.dev.bitOf (Reg.ENC.STAT.WIRE k) 0 = false → s.dev.inRun (pg .ENC k) = true → ((s.dev.enc k).travel.map fun t => decide (t < s.dev.get (Reg.ENC.SE_LOCK.COUNTS k))).getD false = false → 
    Completes (.sheetEdge k rising dt) s fun d =>
      d.get (Reg.ENC.SE_TS.TS k) = (s.dev.advance dt).ts % 2 ^ 64 ∧ d.get (Reg.ENC.SE_POS.POS k) = s.dev.get (Reg.ENC.POS.POS k) % 2 ^ 48 ∧ (d.enc k).travel = some 0 ∧ d.evRaw .ENC k 9 = true) ∧
  (∀ (s : State) (k dt : Nat), s.live → k < 4 → s.dev.counts k = false ∨ s.dev.get (Reg.ENC.CFG.MODE k) = 1 → 
    Completes (.illegalChange k dt) s fun d =>
      d = ((s.dev.advance dt).putBit (Reg.ENC.STAT.PINS k) 2 (!(s.dev.advance dt).bitOf (Reg.ENC.STAT.PINS k) 2)).putBit (Reg.ENC.STAT.PINS k) 3 (!(s.dev.advance dt).bitOf (Reg.ENC.STAT.PINS k) 3)) ∧
  (∀ (s : State) (k dt : Nat) (rising : Bool), s.live → k < 4 → rising = false ∨ s.dev.counts k = false ∨ s.dev.get (Reg.ENC.CFG.MODE k) = 1 ∨ s.dev.is (Reg.ENC.CFG.IDX_EN k) = false → 
    Completes (.index k rising dt) s fun d =>
      d = (s.dev.advance dt).putBit (Reg.ENC.STAT.PINS k) 1 rising) ∧
  (∀ (s : State) (k dt : Nat), s.live → k < 4 → s.dev.counts k = true → s.dev.get (Reg.ENC.CFG.MODE k) ≠ 1 → s.dev.is (Reg.ENC.CFG.IDX_EN k) = true → s.dev.is (Reg.ENC.CFG.IDX_GATE k) = false ∨ (s.dev.bitOf (Reg.ENC.STAT.PINS k) 3 = true ∧ s.dev.bitOf (Reg.ENC.STAT.PINS k) 2 = true) → s.dev.bitOf (Reg.ENC.STAT.WIRE k) 1 = false → (s.dev.enc k).armed = false → s.dev.is (Reg.ENC.STAT.DIR k) = false → s.dev.saturated k = false → s.dev.get (Reg.ENC.PER_REV.COUNTS k) ≠ 0 → s.dev.is (Reg.ENC.STAT.REF_SET k) = false → 
    Completes (.index k true dt) s fun d =>
      d.get (Reg.ENC.IDX_POS.POS k) = ofSigned 48 (s.dev.pos48 (Reg.ENC.POS.POS k)) ∧ d.get (Reg.ENC.REF.POS k) = ofSigned 48 (s.dev.pos48 (Reg.ENC.POS.POS k)) ∧
        d.is (Reg.ENC.STAT.REF_SET k) = true ∧ d.evRaw .ENC k 3 = true ∧ d.enc k = s.dev.enc k) ∧
  (∀ (s : State) (k dt : Nat) (e err : Int), s.live → k < 4 → s.dev.counts k = true → s.dev.get (Reg.ENC.CFG.MODE k) ≠ 1 → s.dev.is (Reg.ENC.CFG.IDX_EN k) = true → s.dev.is (Reg.ENC.CFG.IDX_GATE k) = false ∨ (s.dev.bitOf (Reg.ENC.STAT.PINS k) 3 = true ∧ s.dev.bitOf (Reg.ENC.STAT.PINS k) 2 = true) → s.dev.bitOf (Reg.ENC.STAT.WIRE k) 1 = false → (s.dev.enc k).armed = false → s.dev.is (Reg.ENC.STAT.DIR k) = false → s.dev.saturated k = false → s.dev.get (Reg.ENC.PER_REV.COUNTS k) ≠ 0 → s.dev.is (Reg.ENC.STAT.REF_SET k) = true → ((s.dev.pos48 (Reg.ENC.REF.POS k) - s.dev.pos48 (Reg.ENC.POS.POS k)) % (s.dev.get (Reg.ENC.PER_REV.COUNTS k) * 256 : Int)) = e → (if 2 * e ≤ (s.dev.get (Reg.ENC.PER_REV.COUNTS k) * 256 : Int) then e else e - (s.dev.get (Reg.ENC.PER_REV.COUNTS k) * 256 : Int)) = err → err.natAbs ≤ s.dev.get (Reg.ENC.CFG.WIN k) * 256 → 
    Completes (.index k true dt) s fun d =>
      d.get (Reg.ENC.IDX_ERR.E k) = ofSigned 32 err ∧ d.get (Reg.ENC.CORR.C k) = ofSigned 32 err ∧ d.get (Reg.ENC.STAT.MIS_RUN k) = 0 ∧
        d.is (Reg.ENC.STAT.UNCERTAIN k) = false ∧ d.evRaw .ENC k 3 = true) ∧
  (∀ (s : State) (k dt : Nat) (e err : Int), s.live → k < 4 → s.dev.counts k = true → s.dev.get (Reg.ENC.CFG.MODE k) ≠ 1 → s.dev.is (Reg.ENC.CFG.IDX_EN k) = true → s.dev.is (Reg.ENC.CFG.IDX_GATE k) = false ∨ (s.dev.bitOf (Reg.ENC.STAT.PINS k) 3 = true ∧ s.dev.bitOf (Reg.ENC.STAT.PINS k) 2 = true) → s.dev.bitOf (Reg.ENC.STAT.WIRE k) 1 = false → (s.dev.enc k).armed = false → s.dev.is (Reg.ENC.STAT.DIR k) = false → s.dev.saturated k = false → s.dev.get (Reg.ENC.PER_REV.COUNTS k) ≠ 0 → s.dev.is (Reg.ENC.STAT.REF_SET k) = true → ((s.dev.pos48 (Reg.ENC.REF.POS k) - s.dev.pos48 (Reg.ENC.POS.POS k)) % (s.dev.get (Reg.ENC.PER_REV.COUNTS k) * 256 : Int)) = e → (if 2 * e ≤ (s.dev.get (Reg.ENC.PER_REV.COUNTS k) * 256 : Int) then e else e - (s.dev.get (Reg.ENC.PER_REV.COUNTS k) * 256 : Int)) = err → s.dev.get (Reg.ENC.CFG.WIN k) * 256 < err.natAbs → 
    Completes (.index k true dt) s fun d =>
      d.get (Reg.ENC.IDX_ERR.E k) = ofSigned 32 err ∧ d.get (Reg.ENC.MISMATCH_CNT.COUNT k) = min (2 ^ 32 - 1) (s.dev.get (Reg.ENC.MISMATCH_CNT.COUNT k) + 1) ∧
        d.get (Reg.ENC.STAT.MIS_RUN k) = min 3 (s.dev.get (Reg.ENC.STAT.MIS_RUN k) + 1) ∧ d.evRaw .ENC k Kind.ENC.INDEX_MISMATCH.bit = true ∧
        (s.dev.get (Reg.ENC.STAT.MIS_RUN k) = 2 → d.evRaw .ENC k Kind.ENC.INDEX_FAULT.bit = true)) ∧
  (∀ (s : State) (k dt : Nat), s.live → k < 4 → s.dev.bitOf (Reg.ENC.STAT.WIRE k) 0 = false → s.dev.is (Reg.ENC.CFG.SE_DIFF k) = true → 
    Completes (.wireFlag k 3 dt) s fun d =>
      d = ((s.dev.advance dt).setBit (Reg.ENC.STAT.WIRE k) 0).raise k Kind.ENC.WIRE_SE) ∧
  (∀ (s : State) (k line dt : Nat), s.live → k < 4 → line < 4 → s.dev.bitOf (Reg.ENC.STAT.WIRE k) (3 - line) = true ∨ (line = 3 ∧ s.dev.is (Reg.ENC.CFG.SE_DIFF k) = false) → 
    Completes (.wireFlag k line dt) s fun d =>
      d = (s.dev.advance dt)) ∧
  (∀ (s : State) (k line dt : Nat), s.live → k < 4 → line < 2 → s.dev.get (Reg.ENC.STAT.WIRE k) / 4 = 2 ^ (1 - line) → s.dev.get (Reg.ENC.STAT.WIRE k) < 16 → s.dev.inRun (pg .ENC k) = true → 
    Completes (.wireFlagClear k line dt) s fun d =>
      d = posSync (armStill k (restartSpeed k (((s.dev.advance dt).clrBit (Reg.ENC.STAT.WIRE k) (3 - line)).put (Reg.ENC.STAT.RUN k) true))) ∧ d.is (Reg.ENC.STAT.RUN k) = true) ∧
  (∀ (s : State) (k dt : Nat) (rising : Bool), s.live → k < 4 → (s.dev.get (Reg.ENC.CFG.SE_EDGE k) = 2 ∨ (s.dev.get (Reg.ENC.CFG.SE_EDGE k) = 0 ∧ rising = true) ∨ (s.dev.get (Reg.ENC.CFG.SE_EDGE k) = 1 ∧ rising = false)) → s.dev.is (Reg.ENC.CFG.SE_DIFF k) = false ∨ s.dev.bitOf (Reg.ENC.STAT.WIRE k) 0 = false → s.dev.inRun (pg .ENC k) = true → ((s.dev.enc k).travel.map fun t => decide (t < s.dev.get (Reg.ENC.SE_LOCK.COUNTS k))).getD false = true → 
    Completes (.sheetEdge k rising dt) s fun d =>
      d = (((s.dev.advance dt).putBit (Reg.ENC.STAT.PINS k) 0 rising).bump (Reg.ENC.SE_REJ.COUNT k) 1).ev .ENC k 9) ∧
  (∀ (s : State) (k dt : Nat) (rising : Bool), s.live → k < 4 → s.dev.inRun (pg .ENC k) = false ∨ (s.dev.get (Reg.ENC.CFG.SE_EDGE k) = 0 ∧ rising = false) ∨ (s.dev.get (Reg.ENC.CFG.SE_EDGE k) = 1 ∧ rising = true) → 
    Completes (.sheetEdge k rising dt) s fun d =>
      d = (s.dev.advance dt).putBit (Reg.ENC.STAT.PINS k) 0 rising) ∧
  (∀ (s : State) (k dt w : Nat) (d1 d2 : Dev), s.live → ((s.dev.advance dt).putBit (Reg.ENC.STAT.PINS k) 2 (!(s.dev.advance dt).bitOf (Reg.ENC.STAT.PINS k) 2)).putBit (Reg.ENC.STAT.PINS k) 3 (!((s.dev.advance dt).putBit (Reg.ENC.STAT.PINS k) 2 (!(s.dev.advance dt).bitOf (Reg.ENC.STAT.PINS k) 2)).bitOf (Reg.ENC.STAT.PINS k) 3) = d1 → d1.counts k = true → d1.get (Reg.ENC.CFG.MODE k) ≠ 1 → (if (d1.enc k).window = d1.ts / 250000 then (d1.enc k).illegal + 1 else 1) = w → setUncertain k true (((d1.setEnc k { d1.enc k with illegal := w, window := d1.ts / 250000 }).bump (Reg.ENC.ILLEGAL_CNT.COUNT k) 1).ev .ENC k 0) = d2 → 
    Completes (.illegalChange k dt) s fun d =>
      d = (if d2.get (Reg.ENC.CFG.ILL_LIMIT k) ≠ 0 ∧ w = d2.get (Reg.ENC.CFG.ILL_LIMIT k) + 1 then d2.raise k Kind.ENC.ILLEGAL_RATE { arg := w } else d2)) ∧
  (∀ (s : State) (k dt : Nat) (rising : Bool) (d1 : Dev), s.live → (s.dev.advance dt).putBit (Reg.ENC.STAT.PINS k) 1 rising = d1 → rising = false ∨ d1.counts k = false ∨ d1.get (Reg.ENC.CFG.MODE k) = 1 ∨ d1.is (Reg.ENC.CFG.IDX_EN k) = false ∨ ¬(d1.is (Reg.ENC.CFG.IDX_GATE k) = false ∨ (d1.bitOf (Reg.ENC.STAT.PINS k) 3 = true ∧ d1.bitOf (Reg.ENC.STAT.PINS k) 2 = true)) → 
    Completes (.index k rising dt) s fun d =>
      d = d1) ∧
  (∀ (s : State) (k dt : Nat) (d1 d2 : Dev) (h : Int) (d3 : Dev), s.live → (s.dev.advance dt).putBit (Reg.ENC.STAT.PINS k) 1 true = d1 → d1.counts k = true → d1.get (Reg.ENC.CFG.MODE k) ≠ 1 → d1.is (Reg.ENC.CFG.IDX_EN k) = true → (d1.is (Reg.ENC.CFG.IDX_GATE k) = false ∨ (d1.bitOf (Reg.ENC.STAT.PINS k) 3 = true ∧ d1.bitOf (Reg.ENC.STAT.PINS k) 2 = true)) → d1.setPos (Reg.ENC.IDX_POS.POS k) (d1.pos48 (Reg.ENC.POS.POS k)) = d2 → (d2.enc k).armed = true → d2.pos48 (Reg.ENC.HOME.POS k) = h → (((loadPos k h (d2.setEnc k { d2.enc k with armed := false })).setPos (Reg.ENC.REF.POS k) h).put (Reg.ENC.STAT.REF_SET k) true).set (Reg.ENC.STAT.MIS_RUN k) 0 = d3 → 
    Completes (.index k true dt) s fun d =>
      d = (restartSpeed k (setUncertain k false d3)).ev .ENC k 3) ∧
  (∀ (s : State) (k dt : Nat) (d1 d2 : Dev), s.live → (s.dev.advance dt).putBit (Reg.ENC.STAT.PINS k) 1 true = d1 → d1.counts k = true → d1.get (Reg.ENC.CFG.MODE k) ≠ 1 → d1.is (Reg.ENC.CFG.IDX_EN k) = true → (d1.is (Reg.ENC.CFG.IDX_GATE k) = false ∨ (d1.bitOf (Reg.ENC.STAT.PINS k) 3 = true ∧ d1.bitOf (Reg.ENC.STAT.PINS k) 2 = true)) → d1.setPos (Reg.ENC.IDX_POS.POS k) (d1.pos48 (Reg.ENC.POS.POS k)) = d2 → (d2.enc k).armed = false → d2.is (Reg.ENC.STAT.DIR k) = true ∨ d2.saturated k = true ∨ d2.bitOf (Reg.ENC.STAT.WIRE k) 1 = true ∨ d2.get (Reg.ENC.PER_REV.COUNTS k) = 0 → 
    Completes (.index k true dt) s fun d =>
      d = d2) ∧
  (∀ (s : State) (k dt : Nat) (d1 d2 : Dev), s.live → (s.dev.advance dt).putBit (Reg.ENC.STAT.PINS k) 1 true = d1 → d1.counts k = true → d1.get (Reg.ENC.CFG.MODE k) ≠ 1 → d1.is (Reg.ENC.CFG.IDX_EN k) = true → (d1.is (Reg.ENC.CFG.IDX_GATE k) = false ∨ (d1.bitOf (Reg.ENC.STAT.PINS k) 3 = true ∧ d1.bitOf (Reg.ENC.STAT.PINS k) 2 = true)) → d1.setPos (Reg.ENC.IDX_POS.POS k) (d1.pos48 (Reg.ENC.POS.POS k)) = d2 → d2.is (Reg.ENC.STAT.DIR k) = false → d2.bitOf (Reg.ENC.STAT.WIRE k) 1 = false → d2.saturated k = false → (d2.enc k).armed = false → d2.get (Reg.ENC.PER_REV.COUNTS k) ≠ 0 → d2.is (Reg.ENC.STAT.REF_SET k) = false → 
    Completes (.index k true dt) s fun d =>
      d = ((d2.setPos (Reg.ENC.REF.POS k) (d1.pos48 (Reg.ENC.POS.POS k))).put (Reg.ENC.STAT.REF_SET k) true).ev .ENC k 3) ∧
  (∀ (s : State) (k dt : Nat) (d1 d2 : Dev) (e err : Int), s.live → (s.dev.advance dt).putBit (Reg.ENC.STAT.PINS k) 1 true = d1 → d1.counts k = true → d1.get (Reg.ENC.CFG.MODE k) ≠ 1 → d1.is (Reg.ENC.CFG.IDX_EN k) = true → (d1.is (Reg.ENC.CFG.IDX_GATE k) = false ∨ (d1.bitOf (Reg.ENC.STAT.PINS k) 3 = true ∧ d1.bitOf (Reg.ENC.STAT.PINS k) 2 = true)) → d1.setPos (Reg.ENC.IDX_POS.POS k) (d1.pos48 (Reg.ENC.POS.POS k)) = d2 → d2.is (Reg.ENC.STAT.DIR k) = false → d2.bitOf (Reg.ENC.STAT.WIRE k) 1 = false → d2.saturated k = false → (d2.enc k).armed = false → d2.get (Reg.ENC.PER_REV.COUNTS k) ≠ 0 → d2.is (Reg.ENC.STAT.REF_SET k) = true → (d2.pos48 (Reg.ENC.REF.POS k) - d1.pos48 (Reg.ENC.POS.POS k)) % (d2.get (Reg.ENC.PER_REV.COUNTS k) * 256 : Int) = e → (if 2 * e ≤ (d2.get (Reg.ENC.PER_REV.COUNTS k) * 256 : Int) then e else e - (d2.get (Reg.ENC.PER_REV.COUNTS k) * 256 : Int)) = err → err.natAbs ≤ d2.get (Reg.ENC.CFG.WIN k) * 256 → 
    Completes (.index k true dt) s fun d =>
      d = (setCorr k err (setUncertain k false ((d2.set (Reg.ENC.IDX_ERR.E k) (ofSigned 32 err)).set (Reg.ENC.STAT.MIS_RUN k) 0))).ev .ENC k 3) ∧
  (∀ (s : State) (k dt : Nat) (d1 d2 : Dev) (e err : Int) (d3 : Dev), s.live → (s.dev.advance dt).putBit (Reg.ENC.STAT.PINS k) 1 true = d1 → d1.counts k = true → d1.get (Reg.ENC.CFG.MODE k) ≠ 1 → d1.is (Reg.ENC.CFG.IDX_EN k) = true → (d1.is (Reg.ENC.CFG.IDX_GATE k) = false ∨ (d1.bitOf (Reg.ENC.STAT.PINS k) 3 = true ∧ d1.bitOf (Reg.ENC.STAT.PINS k) 2 = true)) → d1.setPos (Reg.ENC.IDX_POS.POS k) (d1.pos48 (Reg.ENC.POS.POS k)) = d2 → d2.is (Reg.ENC.STAT.DIR k) = false → d2.bitOf (Reg.ENC.STAT.WIRE k) 1 = false → d2.saturated k = false → (d2.enc k).armed = false → d2.get (Reg.ENC.PER_REV.COUNTS k) ≠ 0 → d2.is (Reg.ENC.STAT.REF_SET k) = true → (d2.pos48 (Reg.ENC.REF.POS k) - d1.pos48 (Reg.ENC.POS.POS k)) % (d2.get (Reg.ENC.PER_REV.COUNTS k) * 256 : Int) = e → (if 2 * e ≤ (d2.get (Reg.ENC.PER_REV.COUNTS k) * 256 : Int) then e else e - (d2.get (Reg.ENC.PER_REV.COUNTS k) * 256 : Int)) = err → d2.get (Reg.ENC.CFG.WIN k) * 256 < err.natAbs → (((d2.set (Reg.ENC.IDX_ERR.E k) (ofSigned 32 err)).bump (Reg.ENC.MISMATCH_CNT.COUNT k) 1).raise k Kind.ENC.INDEX_MISMATCH { arg := ofSigned 32 err }).setEnc k { d2.enc k with lastErr := err } = d3 → 
    Completes (.index k true dt) s fun d =>
      d = (let t := d3.set (Reg.ENC.STAT.MIS_RUN k) (min 3 (d2.get (Reg.ENC.STAT.MIS_RUN k) + 1)); if d2.get (Reg.ENC.STAT.MIS_RUN k) = 2 then t.raise k Kind.ENC.INDEX_FAULT { arg := ofSigned 32 err } else t)) ∧
  (∀ (s : State) (k line dt : Nat), s.live → line < 4 → s.dev.bitOf (Reg.ENC.STAT.WIRE k) (3 - line) = false → 
    Completes (.wireFlagClear k line dt) s fun d =>
      d = (s.dev.advance dt)) ∧
  (∀ (s : State) (k line dt : Nat) (d1 : Dev), s.live → k < 4 → line < 4 → (s.dev.advance dt).clrBit (Reg.ENC.STAT.WIRE k) (3 - line) = d1 → s.dev.bitOf (Reg.ENC.STAT.WIRE k) (3 - line) = true → 
    Completes (.wireFlagClear k line dt) s fun d =>
      d = (if line < 2 ∧ d1.get (Reg.ENC.STAT.WIRE k) / 4 = 0 ∧ d1.inRun (pg .ENC k) = true then posSync (armStill k (restartSpeed k (d1.put (Reg.ENC.STAT.RUN k) true))) else posSync d1)) ∧
  (∀ (s : State) (k : Nat), s.live → s.dev.due (.still k) = none → 
    Completes (.standstill k) s fun d =>
      d = s.dev) ∧
  (∀ (s : State) (k dt : Nat) (rising : Bool), s.live → k < 4 → s.dev.is (Reg.ENC.CFG.SE_DIFF k) = true → s.dev.bitOf (Reg.ENC.STAT.WIRE k) 0 = true → 
    Completes (.sheetEdge k rising dt) s fun d =>
      d = (s.dev.advance dt).putBit (Reg.ENC.STAT.PINS k) 0 rising) ∧
  (∀ (s : State) (k dt : Nat) (rising : Bool) (d1 d2 d3 : Dev), s.live → k < 4 → (s.dev.advance dt).putBit (Reg.ENC.STAT.PINS k) 0 rising = d1 → s.dev.get (Reg.ENC.CFG.SE_EDGE k) = 2 ∨ (s.dev.get (Reg.ENC.CFG.SE_EDGE k) = 0 ∧ rising = true) ∨ (s.dev.get (Reg.ENC.CFG.SE_EDGE k) = 1 ∧ rising = false) → s.dev.is (Reg.ENC.CFG.SE_DIFF k) = false ∨ s.dev.bitOf (Reg.ENC.STAT.WIRE k) 0 = false → s.dev.inRun (pg .ENC k) = true → ((s.dev.enc k).travel.map fun t => decide (t < s.dev.get (Reg.ENC.SE_LOCK.COUNTS k))).getD false = false → (((d1.setEnc k { d1.enc k with travel := some 0 }).set (Reg.ENC.SE_TS.TS k) d1.ts).set (Reg.ENC.SE_POS.POS k) (d1.get (Reg.ENC.POS.POS k))).ev .ENC k 9 = d2 → (if d2.srcChannel = some k ∧ d2.mode = 3 then pushEdge (d2.posAt d2.time.up) d2 else d2) = d3 → 
    Completes (.sheetEdge k rising dt) s fun d =>
      d = (if d3.ringRole = 2 ∧ d3.get Reg.EMR.POS_CFG.CHAN = k then d3.broadcast 0x13 (leBytes 6 d3.ts ++ leBytes 6 (ofSigned 48 (if d3.srcChannel = some k then (d2.posAt d2.time.up).fdiv 65536 else d3.pos48 (Reg.ENC.POS.POS k) + d3.posOff k)) ++ leBytes 1 k ++ leBytes 5 0 ++ leBytes 2 (d3.get Reg.EMR.ROLE_STAT.EPOCH)) else d3))

/-- PRESET loads POS_SET and drops the reference, ARM_HOME arms the home and CLR_REF drops the reference, each unless
the channel is locked, when it only raises ENC_LOCKED; SNAP keeps every position and the time; OUT_EN_SET starts an
output at step 0 and EOUT_STEP sends one step in the direction of its target. An output already enabled is not
restarted by OUT_EN_SET. Completes (exec answers a next state, under hypotheses on state and operands alone):
preset, armHome, clrRef, snap, outEnSet, eoutStep. (R268, R269, R276, R277.) -/
def Obligations.EncoderCommands : Prop :=
  (∀ (s : State) (k : Nat), s.live → k < 4 → s.dev.pageOff (0x91 + k) = false → s.dev.encLocked k = false → 
    Completes (.preset k) s fun d =>
      d = encPreset k s.dev ∧ (d.enc k).cnt = 0 ∧ (d.enc k).base = s.dev.pos48 (Reg.ENC.POS_SET.POS k) ∧ d.is (Reg.ENC.STAT.REF_SET k) = false ∧ d.is (Reg.ENC.STAT.UNCERTAIN k) = false) ∧
  (∀ (s : State) (k : Nat), s.live → k < 4 → s.dev.pageOff (0x91 + k) = false → s.dev.encLocked k = false → 
    Completes (.armHome k) s fun d =>
      d = s.dev.setEnc k { s.dev.enc k with armed := true }) ∧
  (∀ (s : State) (k : Nat), s.live → k < 4 → s.dev.pageOff (0x91 + k) = false → s.dev.encLocked k = false → 
    Completes (.clrRef k) s fun d =>
      d = (s.dev.put (Reg.ENC.STAT.REF_SET k) false).set (Reg.ENC.STAT.MIS_RUN k) 0) ∧
  (∀ (s : State) (k : Nat), s.live → k < 4 → s.dev.pageOff (0x91 + k) = false → s.dev.encLocked k = true → 
    Completes (.preset k) s fun d =>
      d = s.dev.raise k Kind.ENC.ENC_LOCKED) ∧
  (∀ s : State, s.live → s.dev.pageOff 0x90 = false → 
    Completes (.snap) s fun d =>
      d = (((List.range 4).foldl (fun (d : Dev) k => d.set (Reg.ENC.SNAP.POS k) (d.get (Reg.ENC.POS.POS k))) s.dev).set Reg.ENCC.SNAP_TS.TS s.dev.ts).ev .ENCC 0 0 ∧ (∀ k ∈ List.range 4, d.get (Reg.ENC.SNAP.POS k) = s.dev.get (Reg.ENC.POS.POS k) % 2 ^ 48) ∧
        d.get Reg.ENCC.SNAP_TS.TS = s.dev.ts % 2 ^ 64 ∧ d.evRaw .ENCC 0 0 = true) ∧
  (∀ (s : State) (m : Nat), s.live → m < 2 → s.dev.pageOff (0x98 + m) = false → s.dev.is (Reg.EOUT.CFG.OUT_EN m) = false → 
    Completes (.outEnSet m) s fun d =>
      d.is (Reg.EOUT.CFG.OUT_EN m) = true ∧ d.get (Reg.EOUT.STEPS.COUNT m) = 0 ∧ (d.eout m).runs = [] ∧ (d.eout m).n = 0 ∧ (d.eout m).h = (s.dev.eout m).p) ∧
  (∀ (s : State) (m : Nat) (sg : Int) (rest : List Int), s.live → m < 2 → s.dev.enabled (pg .EOUT m) = true → s.dev.is (Reg.EOUT.CFG.OUT_EN m) = true → popStep (s.dev.eout m).runs = some (sg, rest) → 
    Completes (.eoutStep m) s fun d =>
      (d.eout m).runs = rest ∧ (d.eout m).phase = ((((s.dev.eout m).phase : Int) + (if s.dev.is (Reg.EOUT.CFG.INVERT m) = true then -sg else sg)) % 4).toNat ∧
        d.get (Reg.EOUT.STEPS.COUNT m) = ofSigned 48 (toSigned 48 (s.dev.get (Reg.EOUT.STEPS.COUNT m)) + sg) ∧
        (d.eout m).free = (s.dev.advanceTo (s.dev.eout m).free).time.up + max 25 (s.dev.get (Reg.EOUT.MIN_STEP.TICKS m)) * tick ∧
        [Output.pin Pin.eoutA m (if (d.eout m).phase = 1 ∨ (d.eout m).phase = 2 then 1 else 0), Output.pin Pin.eoutB m (if 2 ≤ (d.eout m).phase then 1 else 0)] <+: d.out.drop s.dev.out.length) ∧
  (∀ (s : State) (k : Nat), s.live → k < 4 → s.dev.pageOff (0x91 + k) = false → s.dev.encLocked k = true → 
    Completes (.armHome k) s fun d =>
      d = s.dev.raise k Kind.ENC.ENC_LOCKED) ∧
  (∀ (s : State) (k : Nat), s.live → k < 4 → s.dev.pageOff (0x91 + k) = false → s.dev.encLocked k = true → 
    Completes (.clrRef k) s fun d =>
      d = s.dev.raise k Kind.ENC.ENC_LOCKED) ∧
  (∀ (s : State) (m : Nat), s.live → s.dev.enabled (pg .EOUT m) = false ∨ s.dev.is (Reg.EOUT.CFG.OUT_EN m) = false ∨ popStep (s.dev.eout m).runs = none → 
    Completes (.eoutStep m) s fun d =>
      d = s.dev) ∧
  (∀ (s : State) (m : Nat) (d1 : Dev), s.live → m < 2 → s.dev.pageOff (0x98 + m) = false → s.dev.is (Reg.EOUT.CFG.OUT_EN m) = false → (s.dev.put (Reg.EOUT.CFG.OUT_EN m) true).set (Reg.EOUT.STEPS.COUNT m) 0 = d1 → 
    Completes (.outEnSet m) s fun d =>
      d.eout m = { s.dev.eout m with h := (s.dev.eout m).p, q0 := d1.eoutQ m (s.dev.eout m).p (s.dev.eout m).p, n := 0, runs := [] } ∧ d = { d1 with regs := d.regs, eouts := d.eouts } ∧ s.dev.Kept d (Blk.EOUT.fields m)) ∧
  (∀ (s : State) (m : Nat) (sg : Int) (rest : List Int) (ph st : Nat) (d1 : Dev), s.live → s.dev.enabled (pg .EOUT m) = true → s.dev.is (Reg.EOUT.CFG.OUT_EN m) = true → popStep (s.dev.eout m).runs = some (sg, rest) → ((((s.dev.eout m).phase : Int) + (if s.dev.is (Reg.EOUT.CFG.INVERT m) = true then -sg else sg)) % 4).toNat = ph → ofSigned 48 (toSigned 48 (s.dev.get (Reg.EOUT.STEPS.COUNT m)) + sg) = st → ((((s.dev.advanceTo (s.dev.eout m).free).setEout m { s.dev.eout m with runs := rest, phase := ph, free := (s.dev.advanceTo (s.dev.eout m).free).time.up + max 25 (s.dev.get (Reg.EOUT.MIN_STEP.TICKS m)) * tick }).emit (.pin Pin.eoutA m (if ph = 1 ∨ ph = 2 then 1 else 0))).emit (.pin Pin.eoutB m (if 2 ≤ ph then 1 else 0))).set (Reg.EOUT.STEPS.COUNT m) st = d1 → 
    Completes (.eoutStep m) s fun d =>
      d = (if sg = 1 ∧ d1.is (Reg.EOUT.CFG.Z_EN m) = true ∧ d1.get (Reg.EOUT.Z_CFG.PERIOD m) ≠ 0 ∧ toSigned 48 st % (d1.get (Reg.EOUT.Z_CFG.PERIOD m) : Int) = 0 then (d1.emit (.pin Pin.eoutZ m 1)).arm (.eoutZ m) (d1.get (Reg.EOUT.Z_CFG.WIDTH m) * tick) else d1)) ∧
  (∀ (s : State) (n : Nat), s.live → s.dev.pageOff (0x91 + n) = true → n < 4 → (∀ k ∈ ([(.preset n, ((0x91 + n) * 4096 + 0x58)), (.armHome n, ((0x91 + n) * 4096 + 0x58)), (.clrRef n, ((0x91 + n) * 4096 + 0x58))] : List (Instr × Nat)),
      Completes k.1 s fun d => d = hostRefused 0x21 k.2 s.dev)) ∧
  (∀ s : State, s.live → s.dev.pageOff 0x90 = true → (∀ k ∈ ([(.snap, 0x90040)] : List (Instr × Nat)),
      Completes k.1 s fun d => d = hostRefused 0x21 k.2 s.dev)) ∧
  (∀ (s : State) (m : Nat), s.live → s.dev.pageOff (0x98 + m) = true → m < 2 → (∀ k ∈ ([(.outEnSet m, ((0x98 + m) * 4096 + 0x40))] : List (Instr × Nat)),
      Completes k.1 s fun d => d = hostRefused 0x21 k.2 s.dev)) ∧
  (∀ (s : State) (m : Nat), s.live → m < 2 → s.dev.pageOff (0x98 + m) = false → s.dev.is (Reg.EOUT.CFG.OUT_EN m) = true → 
    Completes (.outEnSet m) s fun d =>
      d = { s.dev with regs := d.regs } ∧ s.dev.Kept d [Reg.EOUT.CFG.Z_EN m, Reg.EOUT.CFG.INVERT m, Reg.EOUT.CFG.REV_MODE m, Reg.EOUT.CFG.OUT_EN m])

/-- BLOCK_LOCK of an enabled link that is not yet locked sends HELLO; HELLO of another member brings it UP, and of this
one's address makes it passive; a lost sync header or a control block that stays out takes it back to SEEK with its
queue empty; the link-up time without UP makes it FAILED and LINK_RETRY seeks again; a CONTROL_BLOCK with a good
CRC-8 keeps the credits given and sends what waited, and a bad CRC-8 is counted. Where the timer does not run, or
the link is not in the state the command needs, nothing but the time changes. Completes (exec answers a next state,
under hypotheses on state and operands alone): blockLock, hello, syncHeaderLoss, controlBlock, controlBlockTimeout,
linkUpTimeout, linkRetry, idle. (R282, R287, R281.) -/
def Obligations.RingLinks : Prop :=
  (∀ (s : State) (l : Nat), s.live → l < 2 → s.dev.enabled (pg .EML l) = true → s.dev.get (Reg.EML.LINK_STAT.STATE l) ≠ 2 → s.dev.get (Reg.EML.LINK_STAT.STATE l) ≠ 3 → 
    Completes (.blockLock l) s fun d =>
      d = (if s.dev.running (.linkUp l) = true then s.dev.set (Reg.EML.LINK_STAT.STATE l) 2 else (s.dev.set (Reg.EML.LINK_STAT.STATE l) 2).arm (.linkUp l) (20 * ms)).emit
        (.cell l (mkCell 1 s.dev.ringAddr 0 0 0 0 (leBytes 1 s.dev.ringAddr ++ leBytes 2 s.dev.emr.epoch ++ leBytes 1 (s.dev.get Reg.EMR.CFG.ROLE) ++
        leBytes 1 (s.dev.get Reg.EMR.CFG.PRIO))))) ∧
  (∀ (s : State) (c : CellIn) (dt : Nat), s.live → c.link < 2 → s.dev.get (Reg.EML.LINK_STAT.STATE c.link) = 2 → leAt c.payload 0 1 < 64 → leAt c.payload 0 1 ≠ s.dev.ringAddr → 
    Completes (.hello c dt) s fun d =>
      d = linkReady c.link { ((s.dev.advance dt).set (Reg.EML.LINK_STAT.PEER c.link) (leAt c.payload 0 1)).put (Reg.EML.LINK_STAT.PEER_VALID c.link) true with emr := { s.dev.emr with epoch := if epochHigher (leAt c.payload 1 2) s.dev.emr.epoch = true then leAt c.payload 1 2 % 65536 else s.dev.emr.epoch } } ∧ d.get (Reg.EML.LINK_STAT.STATE c.link) = 3 ∧ d.get (Reg.EML.LINK_STAT.PEER c.link) = leAt c.payload 0 1 ∧ d.is (Reg.EML.LINK_STAT.PEER_VALID c.link) = true ∧
        d.running (.ctlBlock c.link) = true ∧ d.running (.delayX c.link) = true ∧ d.evRaw .EML c.link 0 = true) ∧
  (∀ (s : State) (l : Nat), s.live → l < 2 → s.dev.linkUp l = true → 
    Completes (.syncHeaderLoss l) s fun d =>
      d = linkSeek l (linkLeave l 1 s.dev) ∧ d.get (Reg.EML.LINK_STAT.STATE l) = 1 ∧ d.is (Reg.EML.LINK_STAT.PEER_VALID l) = false ∧ (d.eml l).txq = [] ∧ d.running (.linkUp l) = true ∧ d.evRaw .EML l Kind.EML.LINK_LOST.bit = true) ∧
  (∀ (s : State) (l : Nat) (bs : Bytes) (crc : Nat), s.live → l < 2 → crc8 bs ≠ crc → 
    Completes (.controlBlock l bs crc) s fun d =>
      d = s.dev.bump (Reg.EML.CTL_ERR_CNT.COUNT l) 1) ∧
  (∀ (s : State) (l : Nat) (bs : Bytes) (crc : Nat), s.live → l < 2 → crc8 bs = crc → byteAt bs 0 = 0x5A → s.dev.linkUp l = true → 
    Completes (.controlBlock l bs crc) s fun d =>
      d = flushLink l ((s.dev.setEml l { s.dev.eml l with freed := (List.range 4).map fun t => byteAt bs (1 + t) }).arm (.ctlBlock l) us) ∧
        (d.eml l).freed = (List.range 4).map (fun t => byteAt bs (1 + t)) ∧ d.due (.ctlBlock l) = some (s.dev.time.up + us) ∧
        ((s.dev.eml l).txq = [] → d.out = s.dev.out)) ∧
  (∀ (s : State) (l t : Nat), s.live → l < 2 → s.dev.due (.ctlBlock l) = some t → s.dev.linkUp l = true → 
    Completes (.controlBlockTimeout l) s fun d =>
      d = linkSeek l (linkLeave l 1 ((s.dev.advanceTo t).disarm (.ctlBlock l))) ∧ d.get (Reg.EML.LINK_STAT.STATE l) = 1 ∧ (d.eml l).txq = [] ∧ d.evRaw .EML l Kind.EML.LINK_LOST.bit = true) ∧
  (∀ (s : State) (l t : Nat), s.live → l < 2 → s.dev.due (.linkUp l) = some t → s.dev.linkUp l = false → 
    Completes (.linkUpTimeout l) s fun d =>
      d = ((((s.dev.advanceTo t).disarm (.linkUp l)).set (Reg.EML.LINK_STAT.STATE l) 4).arm (.linkRetry l) (100 * ms)).raise l Kind.EML.LINK_FAILED ∧ d.get (Reg.EML.LINK_STAT.STATE l) = 4 ∧ d.running (.linkRetry l) = true ∧ d.evRaw .EML l Kind.EML.LINK_FAILED.bit = true) ∧
  (∀ (s : State) (l t : Nat), s.live → l < 2 → s.dev.due (.linkRetry l) = some t → s.dev.enabled (pg .EML l) = true → 
    Completes (.linkRetry l) s fun d =>
      d = linkSeek l ((s.dev.advanceTo t).disarm (.linkRetry l)) ∧ d.get (Reg.EML.LINK_STAT.STATE l) = 1 ∧ d.running (.linkUp l) = true) ∧
  (∀ (s : State) (c : CellIn) (dt : Nat), s.live → 
    Completes (.idle c dt) s fun d =>
      d = s.dev.advance dt) ∧
  (∀ (s : State) (l : Nat), s.live → l < 2 → s.dev.enabled (pg .EML l) = false ∨ s.dev.get (Reg.EML.LINK_STAT.STATE l) = 2 ∨ s.dev.get (Reg.EML.LINK_STAT.STATE l) = 3 → 
    Completes (.blockLock l) s fun d =>
      d = s.dev) ∧
  (∀ (s : State) (c : CellIn) (dt : Nat), s.live → c.link < 2 → s.dev.get (Reg.EML.LINK_STAT.STATE c.link) = 2 → leAt c.payload 0 1 % 64 = s.dev.ringAddr → 
    Completes (.hello c dt) s fun d =>
      d = linkReady c.link (addrConflict { ((s.dev.advance dt).set (Reg.EML.LINK_STAT.PEER c.link) (leAt c.payload 0 1)).put (Reg.EML.LINK_STAT.PEER_VALID c.link) true with emr := { s.dev.emr with epoch := if epochHigher (leAt c.payload 1 2) s.dev.emr.epoch = true then leAt c.payload 1 2 % 65536 else s.dev.emr.epoch } }) ∧ d.ringRole = 3) ∧
  (∀ (s : State) (c : CellIn) (dt : Nat), s.live → c.link < 2 → s.dev.get (Reg.EML.LINK_STAT.STATE c.link) ≠ 2 → 
    Completes (.hello c dt) s fun d =>
      d = (s.dev.advance dt)) ∧
  (∀ (s : State) (l : Nat), s.live → l < 2 → s.dev.linkUp l = false → 
    Completes (.syncHeaderLoss l) s fun d =>
      d = s.dev) ∧
  (∀ (s : State) (l : Nat) (bs : Bytes) (crc : Nat), s.live → l < 2 → crc8 bs = crc → byteAt bs 0 ≠ 0x5A ∨ s.dev.linkUp l = false → 
    Completes (.controlBlock l bs crc) s fun d =>
      d = s.dev) ∧
  (∀ (s : State) (l t : Nat), s.live → l < 2 → s.dev.due (.linkUp l) = some t → s.dev.linkUp l = true → 
    Completes (.linkUpTimeout l) s fun d =>
      d = ((s.dev.advanceTo t).disarm (.linkUp l))) ∧
  (∀ (s : State) (l t : Nat), s.live → l < 2 → s.dev.due (.linkRetry l) = some t → s.dev.enabled (pg .EML l) = false → 
    Completes (.linkRetry l) s fun d =>
      d = ((s.dev.advanceTo t).disarm (.linkRetry l))) ∧
  (∀ (s : State) (l : Nat), s.live → s.dev.due (.ctlBlock l) = none → 
    Completes (.controlBlockTimeout l) s fun d =>
      d = s.dev) ∧
  (∀ (s : State) (l : Nat), s.live → s.dev.due (.linkUp l) = none → 
    Completes (.linkUpTimeout l) s fun d =>
      d = s.dev) ∧
  (∀ (s : State) (l : Nat), s.live → s.dev.due (.linkRetry l) = none → 
    Completes (.linkRetry l) s fun d =>
      d = s.dev) ∧
  (∀ (s : State) (l t : Nat), s.live → l < 2 → s.dev.due (.ctlBlock l) = some t → s.dev.linkUp l = false → 
    Completes (.controlBlockTimeout l) s fun d =>
      d = (s.dev.advanceTo t).disarm (.ctlBlock l)) ∧
  (∀ (s : State) (c : CellIn) (dt : Nat), s.live → c.link < 2 → s.dev.get (Reg.EML.LINK_STAT.STATE c.link) = 2 → leAt c.payload 0 1 % 64 ≠ s.dev.ringAddr → 
    Completes (.hello c dt) s fun d =>
      d = linkReady c.link { ((s.dev.advance dt).set (Reg.EML.LINK_STAT.PEER c.link) (leAt c.payload 0 1)).put (Reg.EML.LINK_STAT.PEER_VALID c.link) true with emr := { s.dev.emr with epoch := if epochHigher (leAt c.payload 1 2) s.dev.emr.epoch = true then leAt c.payload 1 2 % 65536 else s.dev.emr.epoch } })

/-- DELAY_EXCHANGE_TIMER and DLY_REQ send their cells on the link, DLY_RESP counts an exchange; the manager's POSITION,
TIME and HEARTBEAT timers restart themselves; a TIME cell of the manager followed steps the time of a device outside
print modes, and its POSITION cell restarts the source timeout. Completes (exec answers a next state, under
hypotheses on state and operands alone): delayExchangeTimer, dlyReq, dlyResp, positionCellTimer, timeCellTimer,
heartbeatTimer, position, time. (R288, R290, R291, R297.) -/
def Obligations.RingTimeAndDelay : Prop :=
  (∀ (s : State) (l : Nat), s.live → l < 2 → s.dev.linkUp l = true → 
    Completes (.delayExchangeTimer l) s fun d =>
      d = ((s.dev.advanceTo ((s.dev.due (.delayX l)).getD s.dev.time.up)).arm (.delayX l) (if (s.dev.eml l).exch < 15 then us else ms)).emit (.cell l (mkCell 2 s.dev.ringAddr 0 0 0 0 (leBytes 8 (s.dev.advanceTo ((s.dev.due (.delayX l)).getD s.dev.time.up)).time.ts)))) ∧
  (∀ (s : State) (c : CellIn) (dt : Nat), s.live → c.link < 2 → s.dev.linkUp c.link = true → 
    Completes (.dlyReq c dt) s fun d =>
      d = (s.dev.advance dt).emit (.cell c.link (mkCell 3 s.dev.ringAddr 0 0 0 0 (leBytes 8 (leAt c.payload 0 8) ++ leBytes 8 (s.dev.advance dt).time.ts ++ leBytes 4 0)))) ∧
  (∀ (s : State) (c : CellIn) (dt : Nat), s.live → c.link < 2 → s.dev.linkUp c.link = true → 
    Completes (.dlyResp c dt) s fun d =>
      d = dlyResp c.link (leAt c.payload 0 8) (leAt c.payload 16 4) (s.dev.advance dt) ∧ (d.eml c.link).exch = (s.dev.eml c.link).exch + 1 ∧ (d.eml c.link).dlys.length = min 16 ((s.dev.eml c.link).dlys.length + 1)) ∧
  (∀ (s : State) (ts pos speed flags : Nat), s.live → s.dev.ringRole = 2 → s.dev.get (Reg.ENC.EDGE_TS.TS (s.dev.get Reg.EMR.POS_CFG.CHAN)) = ts → ofSigned 48 (toSigned 48 (s.dev.get (Reg.ENC.POS.POS (s.dev.get Reg.EMR.POS_CFG.CHAN))) + s.dev.posOff (s.dev.get Reg.EMR.POS_CFG.CHAN)) = pos → ofSigned 40 (satS 40 (toSigned 48 (s.dev.get (Reg.ENC.SPEED.V (s.dev.get Reg.EMR.POS_CFG.CHAN))))) = speed → s.dev.get (Reg.ENC.STAT.SPEED_VALID (s.dev.get Reg.EMR.POS_CFG.CHAN)) + 2 * s.dev.get (Reg.ENC.STAT.UNCERTAIN (s.dev.get Reg.EMR.POS_CFG.CHAN)) + 4 * b2n (s.dev.saturated (s.dev.get Reg.EMR.POS_CFG.CHAN)) + 8 * b2n (s.dev.emr.lastPos == some (ts, pos)) = flags → 
    Completes (.positionCellTimer) s fun d =>
      d = ({ ((s.dev.advanceTo ((s.dev.due (.posCell)).getD s.dev.time.up)).arm (.posCell) us) with emr := { s.dev.emr with lastPos := some (ts, pos) } }).broadcast 0x10 (leBytes 6 ts ++ leBytes 6 pos ++ leBytes 5 speed ++
        leBytes 1 flags ++ leBytes 2 (s.dev.get Reg.EMR.ROLE_STAT.EPOCH)) ∧ d.running .posCell = true) ∧
  (∀ s : State, s.live → s.dev.ringRole = 2 → 
    Completes (.timeCellTimer) s fun d =>
      d = ((s.dev.advanceTo ((s.dev.due (.timeCell)).getD s.dev.time.up)).arm (.timeCell) (100 * us)).broadcast 0x11 (leBytes 8 ((s.dev.advanceTo ((s.dev.due (.timeCell)).getD s.dev.time.up)).arm (.timeCell) (100 * us)).ts ++ leBytes 2 (s.dev.get Reg.EMR.ROLE_STAT.EPOCH)) ∧ d.running .timeCell = true) ∧
  (∀ s : State, s.live → s.dev.ringRole = 2 → 
    Completes (.heartbeatTimer) s fun d =>
      d = heartbeatSend ((s.dev.advanceTo ((s.dev.due (.heartbeat)).getD s.dev.time.up)).arm (.heartbeat) (100 * us)) ∧ d.running .heartbeat = true) ∧
  (∀ (s : State) (c : CellIn) (dt : Nat), s.live → s.dev.hearsAll 0x10 c → s.dev.ringRole ≠ 2 → s.dev.following = some (c.src, leAt c.payload 18 2) → 
    Completes (.position c dt) s fun d =>
      d.due .ringSource = some (s.dev.time.up + dt + 10 * us)) ∧
  (∀ (s : State) (c : CellIn) (dt : Nat), s.live → s.dev.hearsAll 0x11 c → s.dev.ringRole ≠ 2 → s.dev.following = some (c.src, leAt c.payload 8 2) → s.dev.printing = false → 
    Completes (.time c dt) s fun d =>
      d.time.ts = (leAt c.payload 0 8 * tick + min 0xFFFF (c.corr + s.dev.get (Reg.EML.DELAY.D (c.link % 2)))) % tsWrap / tick * tick ∧ d.emr.slew = 0) ∧
  (∀ (s : State) (l : Nat), s.live → l < 2 → s.dev.linkUp l = false → 
    Completes (.delayExchangeTimer l) s fun d =>
      d = s.dev) ∧
  (∀ s : State, s.live → s.dev.ringRole ≠ 2 → 
    Completes (.positionCellTimer) s fun d =>
      d = s.dev) ∧
  (∀ s : State, s.live → s.dev.ringRole ≠ 2 → 
    Completes (.timeCellTimer) s fun d =>
      d = s.dev) ∧
  (∀ s : State, s.live → s.dev.ringRole ≠ 2 → 
    Completes (.heartbeatTimer) s fun d =>
      d = s.dev) ∧
  (∀ (s : State) (c : CellIn) (dt : Nat), s.live → c.link < 2 → s.dev.get (Reg.EML.LINK_STAT.STATE c.link) ≠ 2 → s.dev.linkUp c.link = false → 
    Completes (.dlyReq c dt) s fun d =>
      d = (s.dev.advance dt)) ∧
  (∀ (s : State) (c : CellIn) (dt : Nat), s.live → c.link < 2 → s.dev.get (Reg.EML.LINK_STAT.STATE c.link) ≠ 2 → s.dev.linkUp c.link = false → 
    Completes (.dlyResp c dt) s fun d =>
      d = (s.dev.advance dt)) ∧
  (∀ (s : State) (c : CellIn) (dt : Nat), s.live → s.dev.hearsAll 0x10 c → 
    Completes (.position c dt) s fun d =>
      d = positionCell c ((seenKey 0x10 c (forwardCell 0x10 c (freeBuffer (c.link % 2) (cellClass 0x10) (s.dev.advance dt)))).2)) ∧
  (∀ (s : State) (c : CellIn) (dt : Nat), s.live → s.dev.hearsAll 0x11 c → 
    Completes (.time c dt) s fun d =>
      d = timeCell c ((seenKey 0x11 c (forwardCell 0x11 c (freeBuffer (c.link % 2) (cellClass 0x11) (s.dev.advance dt)))).2)) ∧
  (∀ (s : State) (c : CellIn) (dt : Nat), s.live → c.link < 2 → s.dev.get (Reg.EML.LINK_STAT.STATE c.link) = 2 → 
    Completes (.dlyReq c dt) s fun d =>
      d = (s.dev.advance dt).sendOn c.link (mkCell 3 s.dev.ringAddr 0 0 0 0 (leBytes 8 (leAt c.payload 0 8) ++ leBytes 8 (s.dev.advance dt).time.ts ++ leBytes 4 0))) ∧
  (∀ (s : State) (c : CellIn) (dt k : Nat) (l : List Nat), s.live → c.link < 2 → s.dev.get (Reg.EML.LINK_STAT.STATE c.link) = 2 ∨ s.dev.get (Reg.EML.LINK_STAT.STATE c.link) = 3 → ((((s.dev.advance dt).time.ts : Int) - leAt c.payload 0 8 - leAt c.payload 16 4) / 2).toNat = k → (k :: (s.dev.eml c.link).dlys).take 16 = l → 
    Completes (.dlyResp c dt) s fun d =>
      (let t := (s.dev.advance dt).setEml c.link { s.dev.eml c.link with exch := (s.dev.eml c.link).exch + 1, dlys := l }; d = if l.length = 16 then t.set (Reg.EML.DELAY.D c.link) (l.foldl (· + ·) 0 / 16) else t))

/-- MANAGER_START of a device configured as manager and HEARTBEAT_LOSS of a candidate, followed by CLAIM_WAIT_END, lead
to the manager role, as TAKEOVER does for the standby; a better CLAIM withdraws the own; HEARTBEAT of the manager
followed gives the census and generation; HANDOVER to a ready standby gives the role up and is refused otherwise. A
timer that does not run ends nothing. Completes (exec answers a next state, under hypotheses on state and operands
alone): managerStart, heartbeat, heartbeatLoss, claim, claimWaitEnd, takeover, handover. (R294, R296, R297, R298.) -/
def Obligations.RingManager : Prop :=
  (∀ (s : State) (t : Nat), s.live → s.dev.due .managerStart = some t → s.dev.get Reg.EMR.CFG.ROLE = 2 → s.dev.ringRole ≠ 3 → 
    Completes (.managerStart) s fun d =>
      d = becomeManager 1 0 ((s.dev.advanceTo t).disarm .managerStart) ∧ d.ringRole = 2 ∧ d.running .heartbeat = true ∧ d.running .posCell = true ∧ d.running .timeCell = true ∧ d.running .managerStart = false) ∧
  (∀ (s : State) (c : CellIn) (dt : Nat), s.live → s.dev.hearsAll 0x12 c → s.dev.ringRole ≠ 2 → s.dev.following = some (c.src, leAt c.payload 0 2) → 
    Completes (.heartbeat c dt) s fun d =>
      d.get Reg.EMR.CENSUS.MAP = leAt c.payload 9 8 % Reg.EMR.CENSUS.MAP.cap ∧ d.get Reg.EMR.GEN.GEN = leAt c.payload 4 2 % Reg.EMR.GEN.GEN.cap ∧ d.get Reg.EMR.RING_STAT.MEMBERS = byteAt c.payload 17 % Reg.EMR.RING_STAT.MEMBERS.cap) ∧
  (∀ (s : State) (t : Nat), s.live → s.dev.due .hbLoss = some t → s.dev.candidate? = true → s.dev.ringRole ≠ 2 → s.dev.ringRole ≠ 3 → 
    Completes (.heartbeatLoss) s fun d =>
      d = (({ ((s.dev.advanceTo t).disarm .hbLoss) with emr := { s.dev.emr with claim := some ((s.dev.emr.epoch + 1) % 65536) } }).broadcast 0x20 (leBytes 2 ((s.dev.emr.epoch + 1) % 65536) ++
        leBytes 1 (s.dev.get Reg.EMR.CFG.PRIO))).arm .claimWait (s.dev.get Reg.EMR.TIMERS.CLAIM_WAIT * 10 * us) ∧ d.emr.claim = some ((s.dev.emr.epoch + 1) % 65536) ∧ d.running .claimWait = true) ∧
  (∀ (s : State) (c : CellIn) (dt : Nat), s.live → s.dev.hearsAll 0x20 c → s.dev.emr.claim.isSome = true → s.dev.get Reg.EMR.CFG.PRIO < byteAt c.payload 2 ∨ (s.dev.get Reg.EMR.CFG.PRIO = byteAt c.payload 2 ∧ c.src < s.dev.ringAddr) → 
    Completes (.claim c dt) s fun d =>
      d.emr.claim = none ∧ d.running .claimWait = false) ∧
  (∀ (s : State) (e t : Nat), s.live → s.dev.due .claimWait = some t → s.dev.emr.claim = some e → 
    Completes (.claimWaitEnd) s fun d =>
      d = becomeManager e 0 ((s.dev.advanceTo t).disarm .claimWait) ∧ d.ringRole = 2 ∧ d.emr.claim = none ∧ d.running .heartbeat = true) ∧
  (∀ (s : State) (t : Nat), s.live → s.dev.due .takeover = some t → s.dev.ringRole = 1 → 
    Completes (.takeover) s fun d =>
      d = becomeManager ((s.dev.get Reg.EMR.ROLE_STAT.EPOCH + 1) % 65536) (toSigned 32 (s.dev.get Reg.EMR.STBY_DIFF.DIFF)) ((s.dev.advanceTo t).disarm .takeover) ∧ d.ringRole = 2 ∧ d.running .heartbeat = true ∧ d.running .takeover = false) ∧
  (∀ s : State, s.live → s.dev.pageOff 0xA0 = false → s.dev.ringRole = 2 → s.dev.is Reg.EMR.ROLE_STAT.STBY_VALID = true → (s.dev.member (s.dev.get Reg.EMR.ROLE_STAT.STANDBY)).ready = true → 
    Completes (.handover) s fun d =>
      d = posSync (armHbLoss (setRole 0 ((((s.dev.disarm .posCell).disarm .timeCell).disarm .heartbeat).disarm .censusWait))) ∧ d.ringRole = 0 ∧ d.running .heartbeat = false ∧ d.running .posCell = false ∧ d.running .timeCell = false) ∧
  (∀ s : State, s.live → s.dev.pageOff 0xA0 = false → s.dev.ringRole ≠ 2 ∨ s.dev.is Reg.EMR.ROLE_STAT.STBY_VALID = false ∨ (s.dev.member (s.dev.get Reg.EMR.ROLE_STAT.STANDBY)).ready = false → 
    Completes (.handover) s fun d =>
      d = s.dev.raise 0 Kind.EMR.HANDOVER_REFUSED) ∧
  (∀ (s : State) (t : Nat), s.live → s.dev.due .managerStart = some t → s.dev.get Reg.EMR.CFG.ROLE ≠ 2 ∨ s.dev.ringRole = 3 → 
    Completes (.managerStart) s fun d =>
      d = ((s.dev.advanceTo t).disarm .managerStart)) ∧
  (∀ (s : State) (t : Nat), s.live → s.dev.due .hbLoss = some t → s.dev.candidate? = false ∨ s.dev.ringRole = 2 ∨ s.dev.ringRole = 3 → 
    Completes (.heartbeatLoss) s fun d =>
      d = ((s.dev.advanceTo t).disarm .hbLoss)) ∧
  (∀ (s : State) (t : Nat), s.live → s.dev.due .claimWait = some t → s.dev.emr.claim = none → 
    Completes (.claimWaitEnd) s fun d =>
      d = ((s.dev.advanceTo t).disarm .claimWait)) ∧
  (∀ (s : State) (t : Nat), s.live → s.dev.due .takeover = some t → s.dev.ringRole ≠ 1 → 
    Completes (.takeover) s fun d =>
      d = ((s.dev.advanceTo t).disarm .takeover)) ∧
  (∀ (s : State) (c : CellIn) (dt : Nat), s.live → s.dev.hearsAll 0x12 c → 
    Completes (.heartbeat c dt) s fun d =>
      d = heartbeatCell c ((seenKey 0x12 c (forwardCell 0x12 c (freeBuffer (c.link % 2) (cellClass 0x12) (s.dev.advance dt)))).2)) ∧
  (∀ (s : State) (c : CellIn) (dt : Nat), s.live → s.dev.hearsAll 0x20 c → 
    Completes (.claim c dt) s fun d =>
      d = claimCell c ((seenKey 0x20 c (forwardCell 0x20 c (freeBuffer (c.link % 2) (cellClass 0x20) (s.dev.advance dt)))).2)) ∧
  (∀ s : State, s.live → s.dev.due .managerStart = none → 
    Completes (.managerStart) s fun d =>
      d = s.dev) ∧
  (∀ s : State, s.live → s.dev.due .hbLoss = none → 
    Completes (.heartbeatLoss) s fun d =>
      d = s.dev) ∧
  (∀ s : State, s.live → s.dev.due .claimWait = none → 
    Completes (.claimWaitEnd) s fun d =>
      d = s.dev) ∧
  (∀ s : State, s.live → s.dev.due .takeover = none → 
    Completes (.takeover) s fun d =>
      d = s.dev) ∧
  (∀ s : State, s.live → s.dev.pageOff 0xA0 = true → (∀ k ∈ ([(.handover, 0xA004C)] : List (Instr × Nat)),
      Completes k.1 s fun d => d = hostRefused 0x21 k.2 s.dev))

/-- JOIN keeps the role and priority of the member, LEAVE notes that it has gone, STATUS keeps its readiness and its
hops by the side it came from, and restarts the timeout of a member of the census, whose end at the manager makes it
not ready; STATUS_TIMER restarts itself once the device has joined; CENSUS_WAIT_END completes the census of a
manager that expects no number; a SHEET_EDGE_CELL of the manager followed enters the edge FIFO of an enabled plane.
Completes (exec answers a next state, under hypotheses on state and operands alone): join, leave, statusTimer,
statusCell, memberTimeout, censusWaitEnd, sheetEdgeCell. (R292, R299, R300.) -/
def Obligations.RingMembers : Prop :=
  (∀ (s : State) (c : CellIn) (dt : Nat), s.live → s.dev.hearsAll 0x21 c → 
    Completes (.join c dt) s fun d =>
      (d.member (c.src % 64)).role = byteAt c.payload 0 ∧ (d.member (c.src % 64)).prio = byteAt c.payload 1 ∧ (s.dev.ringRole = 2 → d.emr.joins.testBit (c.src % 64) = true ∧ d.running (.member (c.src % 64)) = true)) ∧
  (∀ (s : State) (c : CellIn) (dt : Nat), s.live → s.dev.hearsAll 0x22 c → s.dev.ringRole = 2 → 
    Completes (.leave c dt) s fun d =>
      d.emr.leaves.testBit (c.src % 64) = true ∧ d.running (.member (c.src % 64)) = false ∧ d.evRaw .EMR 0 2 = true) ∧
  (∀ s : State, s.live → s.dev.emr.joined = true → 
    Completes (.statusTimer) s fun d =>
      d = statusSend ((s.dev.advanceTo ((s.dev.due (.status)).getD s.dev.time.up)).arm (.status) ms) ∧ d.running .status = true) ∧
  (∀ (s : State) (c : CellIn) (dt : Nat), s.live → s.dev.hearsAll 0x23 c → 
    Completes (.statusCell c dt) s fun d =>
      (d.member (c.src % 64)).ready = (byteAt c.payload 2).testBit 0 ∧ (s.dev.ringRole = 2 → bit (s.dev.get Reg.EMR.CENSUS.MAP ||| s.dev.emr.joins) (c.src % 64) = true → d.due (.member (c.src % 64)) = some (s.dev.time.up + dt + 3 * ms)) ∧
      (if c.link % 2 = 0 then (d.member (c.src % 64)).hopsE = min 0xFE (c.hops + 1) ∧ (d.member (c.src % 64)).hopsW = (s.dev.member (c.src % 64)).hopsW
        else (d.member (c.src % 64)).hopsW = min 0xFE (c.hops + 1) ∧ (d.member (c.src % 64)).hopsE = (s.dev.member (c.src % 64)).hopsE)) ∧
  (∀ (s : State) (a t : Nat), s.live → s.dev.due (.member a) = some t → s.dev.ringRole = 2 → 
    Completes (.memberTimeout a) s fun d =>
      (d.member a).ready = false ∧ d.running (.member a) = false ∧ d.evRaw .EMR 0 Kind.EMR.MEMBER_LOST.bit = true ∧ (d.member a).hopsE = 0xFF ∧ (d.member a).hopsW = 0xFF) ∧
  (∀ (s : State) (t : Nat), s.live → s.dev.due .censusWait = some t → s.dev.ringRole = 2 → s.dev.get Reg.EMR.CFG.EXPECT = 0 → s.dev.is Reg.EMR.RING_STAT.CENSUS_DONE = false → 
    Completes (.censusWaitEnd) s fun d =>
      d = censusDone ((s.dev.advanceTo t).disarm .censusWait) ∧ d.is Reg.EMR.RING_STAT.CENSUS_DONE = true ∧ d.is Reg.SYS.BRINGUP.RING_DONE = true ∧ d.evRaw .EMR 0 3 = true) ∧
  (∀ (s : State) (c : CellIn) (dt p : Nat), s.live → s.dev.hearsAll 0x13 c → s.dev.ringRole ≠ 2 → s.dev.following = some (c.src, leAt c.payload 18 2) → s.dev.get Reg.TRG.SRC_SEL.SEL = 4 → s.dev.mode = 3 → p < 16 → s.dev.is (Reg.PRT.Q_CTRL.ENABLE p) = true → (s.dev.plane p).edges.length < 8 → (s.dev.plane p).jobs = [] → 
    Completes (.sheetEdgeCell c dt) s fun d =>
      (d.plane p).edges = (s.dev.plane p).edges ++ [s.dev.unwrapPos (leAt c.payload 6 6)]) ∧
  (∀ s : State, s.live → s.dev.emr.joined = false → 
    Completes (.statusTimer) s fun d =>
      d = s.dev) ∧
  (∀ (s : State) (t : Nat), s.live → s.dev.due .censusWait = some t → s.dev.ringRole ≠ 2 ∨ s.dev.get Reg.EMR.CFG.EXPECT ≠ 0 ∨ s.dev.is Reg.EMR.RING_STAT.CENSUS_DONE = true → 
    Completes (.censusWaitEnd) s fun d =>
      d = (s.dev.advanceTo t).disarm .censusWait) ∧
  (∀ (s : State) (c : CellIn) (dt : Nat), s.live → s.dev.hearsAll 0x21 c → 
    Completes (.join c dt) s fun d =>
      d = joinCell c ((seenKey 0x21 c (forwardCell 0x21 c (freeBuffer (c.link % 2) (cellClass 0x21) (s.dev.advance dt)))).2)) ∧
  (∀ (s : State) (c : CellIn) (dt : Nat), s.live → s.dev.hearsAll 0x22 c → 
    Completes (.leave c dt) s fun d =>
      d = leaveCell c ((seenKey 0x22 c (forwardCell 0x22 c (freeBuffer (c.link % 2) (cellClass 0x22) (s.dev.advance dt)))).2)) ∧
  (∀ (s : State) (c : CellIn) (dt : Nat), s.live → s.dev.hearsAll 0x23 c → 
    Completes (.statusCell c dt) s fun d =>
      d = Sys2Proof.Machine.statusCell c ((seenKey 0x23 c (forwardCell 0x23 c (freeBuffer (c.link % 2) (cellClass 0x23) (s.dev.advance dt)))).2)) ∧
  (∀ (s : State) (c : CellIn) (dt : Nat), s.live → s.dev.hearsAll 0x13 c → 
    Completes (.sheetEdgeCell c dt) s fun d =>
      d = Sys2Proof.Machine.sheetEdgeCell c ((seenKey 0x13 c (forwardCell 0x13 c (freeBuffer (c.link % 2) (cellClass 0x13) (s.dev.advance dt)))).2)) ∧
  (∀ (s : State) (a t : Nat), s.live → s.dev.due (.member a) = some t → s.dev.ringRole = 2 → 
    Completes (.memberTimeout a) s fun d =>
      d = ({ (((s.dev.advanceTo t).disarm (.member a)).setMember a { s.dev.member a with ready := false, hopsE := 0xFF, hopsW := 0xFF }) with emr := { (((s.dev.advanceTo t).disarm (.member a)).setMember a { s.dev.member a with ready := false, hopsE := 0xFF, hopsW := 0xFF }).emr with leaves := setB s.dev.emr.leaves a } } : Dev).raise 0 Kind.EMR.MEMBER_LOST { arg := a }) ∧
  (∀ (s : State) (a t : Nat), s.live → s.dev.due (.member a) = some t → s.dev.ringRole ≠ 2 → 
    Completes (.memberTimeout a) s fun d =>
      d = (s.dev.advanceTo t).disarm (.member a)) ∧
  (∀ (s : State) (a : Nat), s.live → s.dev.due (.member a) = none → 
    Completes (.memberTimeout a) s fun d =>
      d = s.dev) ∧
  (∀ s : State, s.live → s.dev.due .censusWait = none → 
    Completes (.censusWaitEnd) s fun d =>
      d = s.dev)

/-- A SLOWDOWN command to the manager keeps the request; REG_READ and REG_WRITE with REMOTE_EN serve the register as
master 0x33 and acknowledge; BULK writes its 16 bytes into the window and BULK_END forgets what was gathered; ACK
ends the command it answers, COMMAND_ACK_TIMEOUT sends it again by the other path; RCMD_GO and BULK_CMD_GO set BUSY;
FAULT_CELL and EVENT_CELL show what another member reports. A bulk command whose source fails is refused with result
2. Completes (exec answers a next state, under hypotheses on state and operands alone): slowdown, regRead, regWrite,
bulkEnd, ack, commandAckTimeout, rcmdGo, bulkCmdGo, bulk, faultCell, eventCell. (R303, R304, R305, R306, R307.) -/
def Obligations.RingCommands : Prop :=
  (∀ (s : State) (c : CellIn) (dt : Nat), s.live → s.dev.hearsOwn c → s.dev.ringRole = 2 → 
    Completes (.slowdown c dt) s fun d =>
      d.is Reg.EMR.SLOW_REQ.VALID = true ∧ d.get Reg.EMR.SLOW_REQ.ADDR = c.src % 64 ∧ d.evRaw .EMR 0 4 = true) ∧
  (∀ (s : State) (c : CellIn) (dt : Nat), s.live → s.dev.hearsOwn c → s.dev.is Reg.EMR.CFG.REMOTE_EN = true → leAt c.payload 2 4 % 4 = 0 → leAt c.payload 2 4 < 2 ^ 22 → 
    Completes (.regRead c dt) s fun d =>
      d = ackCmd c (if (busRead s.fuse Party.ring (leAt c.payload 2 4) (freeBuffer (c.link % 2) 1 (s.dev.advance dt))).2.1 = 0 then 0 else 1)
        (busRead s.fuse Party.ring (leAt c.payload 2 4) (freeBuffer (c.link % 2) 1 (s.dev.advance dt))).1 (busRead s.fuse Party.ring (leAt c.payload 2 4) (freeBuffer (c.link % 2) 1 (s.dev.advance dt))).2.2) ∧
  (∀ (s : State) (c : CellIn) (dt : Nat), s.live → s.dev.hearsOwn c → s.dev.is Reg.EMR.CFG.REMOTE_EN = true → leAt c.payload 2 4 % 4 = 0 → leAt c.payload 2 4 < 2 ^ 22 → 
    Completes (.regWrite c dt) s fun d =>
      d = ackCmd c (if (busWrite s.fuse Party.ring (leAt c.payload 2 4) (leAt c.payload 6 4) (freeBuffer (c.link % 2) 1 (s.dev.advance dt))).1 = 0 then 0 else 1) 0
        (busWrite s.fuse Party.ring (leAt c.payload 2 4) (leAt c.payload 6 4) (freeBuffer (c.link % 2) 1 (s.dev.advance dt))).2) ∧
  (∀ (s : State) (c : CellIn) (dt : Nat), s.live → s.dev.hearsOwn c → 
    Completes (.bulkEnd c dt) s fun d =>
      aget (c.src % 64) d.emr.rxBulk = none) ∧
  (∀ (s : State) (c : CellIn) (dt : Nat) (q : RingCmd), s.live → s.dev.hearsOwn c → s.dev.emr.cmds.find? (fun q => q.tag == byteAt c.payload 0 && q.dest == c.src % 64) = some q → q.bulk = false → byteAt q.cell 8 = 2 → 
    Completes (.ack c dt) s fun d =>
      d.is Reg.EMR.RCMD_STAT.BUSY = false ∧ d.get Reg.EMR.RCMD_STAT.RESULT = (if byteAt c.payload 1 = 0 then 0 else 2) ∧ d.evRaw .EMR 0 7 = true) ∧
  (∀ (s : State) (q : RingCmd) (rest : List RingCmd), s.live → s.dev.emr.cmds = q :: rest → q.again = false → 
    Completes (.commandAckTimeout) s fun d =>
      d = { (dropCmd q (s.dev.advanceTo q.due)).sendOn (1 - q.path) q.cell with emr := d.emr } ∧ d.emr.cmds.getLast? = some { q with again := true, path := 1 - q.path, due := d.time.up + 50 * us }) ∧
  (∀ (s : State) (dst : Nat) (write : Bool), s.live → s.dev.pageOff 0xA0 = false → dst < 64 → s.dev.is Reg.EMR.RCMD_STAT.BUSY = false → 
    Completes (.rcmdGo write dst) s fun d =>
      d = (((s.dev.set Reg.EMR.RCMD.WRITE (b2n write)).set Reg.EMR.RCMD.DEST dst).put Reg.EMR.RCMD_STAT.BUSY true).command dst (if write = true then 3 else 2)
        (if write = true then leBytes 4 (s.dev.addr Reg.EMR.RCMD_ADDR.OFFSET) ++ leBytes 4 (s.dev.get Reg.EMR.RCMD_DATA.DATA) else leBytes 4 (s.dev.addr Reg.EMR.RCMD_ADDR.OFFSET))
        false (!write) ∧ d.is Reg.EMR.RCMD_STAT.BUSY = true ∧ d.get Reg.EMR.RCMD.DEST = dst ∧ d.is Reg.EMR.RCMD.WRITE = write) ∧
  (∀ (s : State) (dst : Nat), s.live → s.dev.pageOff 0xA0 = false → dst < 64 → s.dev.is Reg.EMR.BULK_STAT.BUSY = false → s.dev.basinFails (s.dev.addr Reg.EMR.BULK_SRC.ADDR) (16 * (s.dev.get Reg.EMR.BULK_LEN.LEN / 16)) = false → 
    Completes (.bulkCmdGo dst) s fun d =>
      d = bulkGo (s.dev.set Reg.EMR.BULK_CMD.DEST dst) ∧ d.is Reg.EMR.BULK_STAT.BUSY = true ∧ d.get Reg.EMR.BULK_CMD.DEST = dst) ∧
  (∀ (s : State) (c : CellIn) (dt : Nat), s.live → s.dev.hearsOwn c → s.dev.is Reg.EMR.CFG.BULK_RX_EN = true → leAt c.payload 0 4 + 16 ≤ s.dev.bulkWindow → s.dev.basinUp = true → s.dev.mem.ue = [] → 
    Completes (.bulk c dt) s fun d =>
      d.basin = memWrite 0 (s.dev.addr Reg.EMR.BULK_WIN.ADDR + leAt c.payload 0 4) (padTo 16 (c.payload.drop 4)) s.dev.basin) ∧
  (∀ (s : State) (c : CellIn) (dt : Nat), s.live → s.dev.hearsAll 0x30 c → 
    Completes (.faultCell c dt) s fun d =>
      d.is Reg.EMR.REM_FAULT.VALID = true ∧ d.get Reg.EMR.REM_FAULT.KIND = byteAt c.payload 1 % Reg.EMR.REM_FAULT.KIND.cap ∧ d.get Reg.EMR.REM_FAULT.ADDR = c.src % 64 ∧ d.evRaw .EMR 0 Kind.EMR.REMOTE_FAULT.bit = true) ∧
  (∀ (s : State) (c : CellIn) (dt : Nat), s.live → s.dev.hearsAll 0x31 c → 
    Completes (.eventCell c dt) s fun d =>
      d.evRaw .EMR 0 (9 + byteAt c.payload 0 % 4) = true) ∧
  (∀ (s : State) (c : CellIn) (dt : Nat), s.live → s.dev.hearsOwn c → s.dev.is Reg.EMR.CFG.REMOTE_EN = false → 
    Completes (.regRead c dt) s fun d =>
      d = ackCmd c 1 0 (freeBuffer (c.link % 2) 1 (s.dev.advance dt))) ∧
  (∀ (s : State) (c : CellIn) (dt : Nat), s.live → s.dev.hearsOwn c → s.dev.is Reg.EMR.CFG.REMOTE_EN = true → leAt c.payload 2 4 % 4 ≠ 0 ∨ 2 ^ 22 ≤ leAt c.payload 2 4 → 
    Completes (.regRead c dt) s fun d =>
      d = ackCmd c 2 0 (freeBuffer (c.link % 2) 1 (s.dev.advance dt))) ∧
  (∀ (s : State) (c : CellIn) (dt : Nat), s.live → s.dev.hearsOwn c → s.dev.is Reg.EMR.CFG.REMOTE_EN = false → 
    Completes (.regWrite c dt) s fun d =>
      d = ackCmd c 1 0 (freeBuffer (c.link % 2) 1 (s.dev.advance dt))) ∧
  (∀ (s : State) (c : CellIn) (dt : Nat), s.live → s.dev.hearsOwn c → s.dev.is Reg.EMR.CFG.REMOTE_EN = true → leAt c.payload 2 4 % 4 ≠ 0 ∨ 2 ^ 22 ≤ leAt c.payload 2 4 → 
    Completes (.regWrite c dt) s fun d =>
      d = ackCmd c 2 0 (freeBuffer (c.link % 2) 1 (s.dev.advance dt))) ∧
  (∀ (s : State) (q : RingCmd) (rest : List RingCmd), s.live → s.dev.emr.cmds = q :: rest → q.again = true → 
    Completes (.commandAckTimeout) s fun d =>
      d = (endCmd q 1 (s.dev.advanceTo q.due)).raise 0 Kind.EMR.CMD_TIMEOUT { arg := q.dest }) ∧
  (∀ s : State, s.live → s.dev.emr.cmds = [] → 
    Completes (.commandAckTimeout) s fun d =>
      d = s.dev) ∧
  (∀ (s : State) (dst : Nat) (write : Bool), s.live → s.dev.pageOff 0xA0 = false → dst < 64 → s.dev.is Reg.EMR.RCMD_STAT.BUSY = true → 
    Completes (.rcmdGo write dst) s fun d =>
      d = (s.dev.set Reg.EMR.RCMD.WRITE (b2n write)).set Reg.EMR.RCMD.DEST dst) ∧
  (∀ (s : State) (dst : Nat), s.live → s.dev.pageOff 0xA0 = false → dst < 64 → s.dev.is Reg.EMR.BULK_STAT.BUSY = true → 
    Completes (.bulkCmdGo dst) s fun d =>
      d = s.dev.set Reg.EMR.BULK_CMD.DEST dst) ∧
  (∀ (s : State) (dst : Nat), s.live → s.dev.pageOff 0xA0 = false → dst < 64 → s.dev.is Reg.EMR.BULK_STAT.BUSY = false → s.dev.basinUp = false → 
    Completes (.bulkCmdGo dst) s fun d =>
      d = ((s.dev.set Reg.EMR.BULK_CMD.DEST dst).set Reg.EMR.BULK_STAT.RESULT 2).raise 0 Kind.EMR.BULK_FAILED { arg := 2 }) ∧
  (∀ (s : State) (c : CellIn) (dt : Nat), s.live → s.dev.hearsOwn c → s.dev.ringRole ≠ 2 → 
    Completes (.slowdown c dt) s fun d =>
      d = ackCmd c 1 0 (freeBuffer (c.link % 2) 1 (s.dev.advance dt))) ∧
  (∀ (s : State) (c : CellIn) (dt : Nat), s.live → s.dev.hearsOwn c → 
    Completes (.slowdown c dt) s fun d =>
      d = slowdownCell c (freeBuffer (c.link % 2) (cellClass 0x24) (s.dev.advance dt))) ∧
  (∀ (s : State) (c : CellIn) (dt : Nat), s.live → s.dev.hearsOwn c → 
    Completes (.bulkEnd c dt) s fun d =>
      d = Sys2Proof.Machine.bulkEnd c (freeBuffer (c.link % 2) (cellClass 0x24) (s.dev.advance dt))) ∧
  (∀ (s : State) (c : CellIn) (dt : Nat), s.live → s.dev.hearsOwn c → 
    Completes (.ack c dt) s fun d =>
      d = ackCell c (freeBuffer (c.link % 2) (cellClass 0x25) (s.dev.advance dt))) ∧
  (∀ (s : State) (c : CellIn) (dt : Nat), s.live → s.dev.hearsOwn c → 
    Completes (.bulk c dt) s fun d =>
      d = bulkCell c (freeBuffer (c.link % 2) (cellClass 0x40) (s.dev.advance dt))) ∧
  (∀ (s : State) (c : CellIn) (dt : Nat), s.live → s.dev.hearsAll 0x30 c → 
    Completes (.faultCell c dt) s fun d =>
      d = Sys2Proof.Machine.faultCell c ((seenKey 0x30 c (forwardCell 0x30 c (freeBuffer (c.link % 2) (cellClass 0x30) (s.dev.advance dt)))).2)) ∧
  (∀ (s : State) (c : CellIn) (dt : Nat), s.live → s.dev.hearsAll 0x31 c → 
    Completes (.eventCell c dt) s fun d =>
      d = Sys2Proof.Machine.eventCell c ((seenKey 0x31 c (forwardCell 0x31 c (freeBuffer (c.link % 2) (cellClass 0x31) (s.dev.advance dt)))).2)) ∧
  (∀ (s : State) (w : Bool) (n : Nat), s.live → s.dev.pageOff 0xA0 = true → (∀ k ∈ ([(.rcmdGo w n, 0xA0080), (.bulkCmdGo n, 0xA00C0)] : List (Instr × Nat)),
      Completes k.1 s fun d => d = hostRefused 0x21 k.2 s.dev)) ∧
  (∀ (s : State) (dst n : Nat) (d0 : Dev), s.live → s.dev.pageOff 0xA0 = false → dst < 64 → s.dev.is Reg.EMR.BULK_STAT.BUSY = false → s.dev.get Reg.EMR.BULK_LEN.LEN / 16 = n → (s.dev.set Reg.EMR.BULK_CMD.DEST dst).basinLoad 2 0x33 (s.dev.addr Reg.EMR.BULK_SRC.ADDR) (16 * n) 0 = d0 → d0.basinFails (d0.addr Reg.EMR.BULK_SRC.ADDR) (16 * n) = true → 
    Completes (.bulkCmdGo dst) s fun d =>
      d = (d0.set Reg.EMR.BULK_STAT.RESULT 2).raise 0 Kind.EMR.BULK_FAILED { arg := 2 }) ∧
  (∀ (s : State) (dst n : Nat) (d0 : Dev) (data : Bytes), s.live → s.dev.pageOff 0xA0 = false → dst < 64 → s.dev.is Reg.EMR.BULK_STAT.BUSY = false → s.dev.get Reg.EMR.BULK_LEN.LEN / 16 = n → (s.dev.set Reg.EMR.BULK_CMD.DEST dst).basinLoad 2 0x33 (s.dev.addr Reg.EMR.BULK_SRC.ADDR) (16 * n) 0 = d0 → d0.basinFails (d0.addr Reg.EMR.BULK_SRC.ADDR) (16 * n) = false → d0.basinRead (s.dev.addr Reg.EMR.BULK_SRC.ADDR) (16 * n) = data → 
    Completes (.bulkCmdGo dst) s fun d =>
      d = ((List.range n).foldl (fun (d : Dev) i => (d.unicast (d.pathTo dst) 0x40 dst (leBytes 4 (s.dev.get Reg.EMR.BULK_DST.OFFSET + 16 * i) ++ (data.drop (16 * i)).take 16)).2) (d0.put Reg.EMR.BULK_STAT.BUSY true)).command dst 4 (leBytes 4 (16 * n) ++ leBytes 4 (crc32c data)) true false)

/-- JOB_START of a running queue with a descriptor to take and room in its window: where descriptor and directory are
sound and the plane has ports the job is appended to the plane with its start position; where a check fails it ends
with the status of the check (3, 4 or 7), at once or in queue order behind the jobs ahead; the next index is taken
either way, the slices refill, and jobs whose start has been passed become active. Of a queue that may take nothing:
the slices refill only. Completes (exec answers a next state, under hypotheses on state and operands alone):
jobStart. (R83, R82, R85.) -/
def Obligations.Jobs : Prop :=
  (∀ (s : State) (p : Nat) (descBad dirBad : Bool) (bs : Bytes) (d1 d2 d3 : Dev) (j : Job), s.live → s.dev.queueRuns p = true → (s.dev.plane p).take ≠ s.dev.get (Reg.PRT.Q_TAIL.INDEX p) → ((s.dev.plane p).jobs.filter fun k => k.ending.isNone).length < s.dev.window + 1 → s.dev.basinLoad 1 0xFF (s.dev.descAddr p (s.dev.plane p).take) 64 (if descBad then 2 else 0) = d1 → d1.basinRead (d1.descAddr p (s.dev.plane p).take) 64 = bs → (if d1.basinFails (d1.descAddr p (s.dev.plane p).take) 64 = true then d1 else d1.basinLoad 1 0xFF (leAt bs 32 8) 64 (if dirBad then 2 else 0)) = d2 → (if d1.basinFails (d1.descAddr p (s.dev.plane p).take) 64 = true ∨ descOk bs d2.mode = false then some 3
      else if d2.basinFails (leAt bs 32 8) 64 = true ∨ dirOk (d2.basinRead (leAt bs 32 8) 64) (leAt bs 20 4) (leAt bs 16 4) = false then some 4
      else if d1.portsOf p = [] then some 7 else none) = none → startPos p (s.dev.plane p).jobs (mkJob d2.prt.jobSeq (s.dev.plane p).take bs (parseDir (d2.basinRead (leAt bs 32 8) 64)) (d1.portsOf p)) { d2 with prt := { d2.prt with jobSeq := d2.prt.jobSeq + 1 } } = (j, d3) → 
    Completes (.jobStart p descBad dirBad) s fun d =>
      (let t := d3.setPlane p { d3.plane p with jobs := (d3.plane p).jobs ++ [j], take := ((s.dev.plane p).take + 1) % d1.qSize p };
        d = activatePassed ((t.portsOf p).foldl (fun d n => refill n d) t))) ∧
  (∀ (s : State) (p : Nat) (descBad dirBad : Bool) (bs : Bytes) (d1 d2 : Dev) (c : Nat), s.live → s.dev.queueRuns p = true → (s.dev.plane p).take ≠ s.dev.get (Reg.PRT.Q_TAIL.INDEX p) → ((s.dev.plane p).jobs.filter fun k => k.ending.isNone).length < s.dev.window + 1 → s.dev.basinLoad 1 0xFF (s.dev.descAddr p (s.dev.plane p).take) 64 (if descBad then 2 else 0) = d1 → d1.basinRead (d1.descAddr p (s.dev.plane p).take) 64 = bs → (if d1.basinFails (d1.descAddr p (s.dev.plane p).take) 64 = true then d1 else d1.basinLoad 1 0xFF (leAt bs 32 8) 64 (if dirBad then 2 else 0)) = d2 → (if d1.basinFails (d1.descAddr p (s.dev.plane p).take) 64 = true ∨ descOk bs d2.mode = false then some 3
      else if d2.basinFails (leAt bs 32 8) 64 = true ∨ dirOk (d2.basinRead (leAt bs 32 8) 64) (leAt bs 20 4) (leAt bs 16 4) = false then some 4
      else if d1.portsOf p = [] then some 7 else none) = some c → (s.dev.plane p).jobs = [] → 
    Completes (.jobStart p descBad dirBad) s fun d =>
      (let t := finishJob p (s.dev.plane p).take (leAt bs 4 4) c (leAt bs 16 4 * leAt bs 24 2 - 1) 0 0 0 (bits (leAt bs 0 4) 8 8 != 0) (bits (leAt bs 0 4) 7 7 != 0)
          (d2.setPlane p { s.dev.plane p with take := ((s.dev.plane p).take + 1) % d1.qSize p });
        d = activatePassed ((t.portsOf p).foldl (fun d n => refill n d) t))) ∧
  (∀ (s : State) (p : Nat) (descBad dirBad : Bool) (bs : Bytes) (d1 d2 : Dev) (c : Nat), s.live → s.dev.queueRuns p = true → (s.dev.plane p).take ≠ s.dev.get (Reg.PRT.Q_TAIL.INDEX p) → ((s.dev.plane p).jobs.filter fun k => k.ending.isNone).length < s.dev.window + 1 → s.dev.basinLoad 1 0xFF (s.dev.descAddr p (s.dev.plane p).take) 64 (if descBad then 2 else 0) = d1 → d1.basinRead (d1.descAddr p (s.dev.plane p).take) 64 = bs → (if d1.basinFails (d1.descAddr p (s.dev.plane p).take) 64 = true then d1 else d1.basinLoad 1 0xFF (leAt bs 32 8) 64 (if dirBad then 2 else 0)) = d2 → (if d1.basinFails (d1.descAddr p (s.dev.plane p).take) 64 = true ∨ descOk bs d2.mode = false then some 3
      else if d2.basinFails (leAt bs 32 8) 64 = true ∨ dirOk (d2.basinRead (leAt bs 32 8) 64) (leAt bs 20 4) (leAt bs 16 4) = false then some 4
      else if d1.portsOf p = [] then some 7 else none) = some c → (s.dev.plane p).jobs ≠ [] → 
    Completes (.jobStart p descBad dirBad) s fun d =>
      (let j := { mkJob d2.prt.jobSeq (s.dev.plane p).take bs (parseDir (d2.basinRead (leAt bs 32 8) 64)) [] with ending := some c };
        let t := { d2.setPlane p { s.dev.plane p with take := ((s.dev.plane p).take + 1) % d1.qSize p } with prt := { (d2.setPlane p { s.dev.plane p with take := ((s.dev.plane p).take + 1) % d1.qSize p }).prt with jobSeq := d2.prt.jobSeq + 1 } };
        let t := t.setPlane p { t.plane p with jobs := (t.plane p).jobs ++ [j] };
        d = activatePassed ((t.portsOf p).foldl (fun d n => refill n d) t))) ∧
  (∀ (s : State) (p : Nat) (descBad dirBad : Bool), s.live → s.dev.queueRuns p = false ∨ (s.dev.plane p).take = s.dev.get (Reg.PRT.Q_TAIL.INDEX p) ∨ s.dev.window + 1 ≤ ((s.dev.plane p).jobs.filter fun k => k.ending.isNone).length → 
    Completes (.jobStart p descBad dirBad) s fun d =>
      d = activatePassed ((s.dev.portsOf p).foldl (fun d n => refill n d) s.dev))

/-- CYCLE_SCHEDULED_TIME issues a scheduled cycle, or takes it off the schedule when paused or too far ahead; LAT
latches a cycle that may start, of a job or of a spit burst, drops one whose job no longer prints, and waits
otherwise; SLOT_MARK drives the next slot mark with its pulses and after the last slot ends the cycle; CYCLE_SKIP
skips a cycle whose trigger was passed before its job became active, or that a port passes while it cannot fire, or
that is past its deadline (OVERSPEED); CYCLE_BUILD starts the next cycle of a port with the inputs sampled. Where
there is nothing to issue, latch, step, skip or build, each leaves the state as it was. Completes (exec answers a
next state, under hypotheses on state and operands alone): cycleScheduledTime, lat, slotMark, cycleSkip, cycleBuild.
(R105, R107, R109, R110, R113, R125, R126, R188.) -/
def Obligations.Cycles : Prop :=
  (∀ (s : State) (n t g : Nat) (lines : List RowLine) (tp : Int) (d1 d2 : Dev), s.live → (s.dev.port n).sched = some t → s.dev.nextCycle n = some (g, lines) → s.dev.trigPos n g lines = some tp → s.dev.advanceTo t = d1 → d1.is Reg.TRG.STAT.PAUSED = false → d1.dirOf lines * (tp - d1.trg.pe) < d1.clampW → d1.enabled (pg .TRG 0) = true → d1.setPort n { s.dev.port n with issued := true } = d2 → 
    Completes (.cycleScheduledTime n) s fun d =>
      d = (if d2.windowOpen lines = true then (if d2.canFire n = true then activateLines lines (if d1.trg.sigma * d1.trg.phi < d1.trg.sigma * tp then d1.trg.phi else tp - d1.trg.sigma) d2 else d2)
        else if d2.windowFull lines = true then d2.raise 0 Kind.PRT.JOB_WINDOW { port := n } else d2)) ∧
  (∀ (s : State) (n t g : Nat) (lines : List RowLine) (tp : Int) (d1 : Dev), s.live → (s.dev.port n).sched = some t → s.dev.nextCycle n = some (g, lines) → s.dev.trigPos n g lines = some tp → s.dev.advanceTo t = d1 → d1.is Reg.TRG.STAT.PAUSED = true ∨ d1.clampW ≤ d1.dirOf lines * (tp - d1.trg.pe) ∨ d1.enabled (pg .TRG 0) = false → 
    Completes (.cycleScheduledTime n) s fun d =>
      d = d1.setPort n { s.dev.port n with sched := none }) ∧
  (∀ (s : State) (n : Nat), s.live → (s.dev.port n).sched = none ∨ s.dev.nextCycle n = none ∨ (∃ x ∈ s.dev.nextCycle n, s.dev.trigPos n x.1 x.2 = none) → 
    Completes (.cycleScheduledTime n) s fun d =>
      d = s.dev) ∧
  (∀ (s : State) (n t0 t : Nat) (c : Cycle) (tp : Int) (d1 : Dev), s.live → (s.dev.port n).built = some c → c.group ≠ spitGroup → s.dev.barred n = false → (s.dev.port n).sched = some t0 → s.dev.trigPos n c.group c.lines = some tp → s.dev.latTime n = some t → s.dev.advanceTo t = d1 → 
    Completes (.lat n) s fun d =>
      d = latchAt n c (decide (t0 < t)) (if s.dev.trg.sigma * s.dev.trg.phi < s.dev.trg.sigma * tp then s.dev.trg.phi else tp - s.dev.trg.sigma) d1) ∧
  (∀ (s : State) (n : Nat) (c : Cycle), s.live → (s.dev.port n).built = some c → c.group ≠ spitGroup → s.dev.barred n = true → 
    Completes (.lat n) s fun d =>
      d = nextUp n (discardBuilt n s.dev)) ∧
  (∀ (s : State) (n : Nat), s.live → (s.dev.port n).built = none ∨ ((∃ c ∈ (s.dev.port n).built, c.group ≠ spitGroup) ∧ s.dev.barred n = false ∧ s.dev.latTime n = none) → 
    Completes (.lat n) s fun d =>
      d = s.dev) ∧
  (∀ (s : State) (n : Nat) (c : Cycle), s.live → (s.dev.port n).built = some c → c.group = spitGroup → 
    Completes (.lat n) s fun d =>
      d = spitSync (if s.dev.notReady n = true ∨ c.resend ≠ [] ∨ s.dev.spitReady n = false then s.dev else latchAt n c false 0 (s.dev.advanceTo (s.dev.port n).portFree))) ∧
  (∀ (s : State) (n : Nat) (f : Firing) (d1 d2 t : Dev), s.live → (s.dev.port n).firing = some f → f.done = false → f.announced = false → s.dev.headUp n = true → (s.dev.advanceTo (f.t0 + clamp 240 320 (s.dev.get (Reg.HPT.LAT_FIRE.STEPS n)) + f.at_ * f.tSlot - 320)).mark n 1 = d1 → wearMark n (f.at_ / f.slots) (f.at_ % f.slots) (firePulses n f.waves d1) = d2 → windowFired n (f.at_ / f.slots) (f.at_ % f.slots) (scanFired n d2) = t → 
    Completes (.slotMark n) s fun d =>
      d = spitSync (t.setPort n { (t.port n) with firing := (t.port n).firing.map fun (f : Firing) => { f with at_ := f.at_ + 1 } })) ∧
  (∀ (s : State) (n : Nat) (f : Firing), s.live → (s.dev.port n).firing = some f → f.done = false → f.announced = true → s.dev.headUp n = true → 
    Completes (.slotMark n) s fun d =>
      d = spitSync (cycleEnded n (s.dev.advanceTo (s.dev.slotEnd n - 400)))) ∧
  (∀ (s : State) (n : Nat), s.live → (∀ f ∈ (s.dev.port n).firing, f.done = true) ∨ s.dev.headUp n = false → 
    Completes (.slotMark n) s fun d =>
      d = spitSync s.dev) ∧
  (∀ (s : State) (n g : Nat) (lines : List RowLine) (tp : Int), s.live → s.dev.nextCycle n = some (g, lines) → s.dev.trigPos n g lines = some tp → ¬ (s.dev.is Reg.TRG.STAT.PAUSED = true ∨ s.dev.printing = false ∨ s.dev.unstarted n lines = true ∨ (s.dev.mode = 4 ∧ s.dev.hasIdleJob lines = true)) → s.dev.passedAtStart tp lines = true → 
    Completes (.cycleSkip n) s fun d =>
      d = skipCycle n lines s.dev) ∧
  (∀ (s : State) (n g : Nat) (lines : List RowLine) (tp : Int) (t : Nat), s.live → s.dev.nextCycle n = some (g, lines) → s.dev.trigPos n g lines = some tp → ¬ (s.dev.is Reg.TRG.STAT.PAUSED = true ∨ s.dev.printing = false ∨ s.dev.unstarted n lines = true ∨ (s.dev.mode = 4 ∧ s.dev.hasIdleJob lines = true)) → s.dev.passedAtStart tp lines = false → s.dev.canFire n = false → s.dev.passes tp = some t → 
    Completes (.cycleSkip n) s fun d =>
      d = (if s.dev.stalled n = true ∧ s.dev.hasIdleJob lines = true then nextUp n (discardBuilt n s.dev)
        else skipCycle n lines (activateLines lines (tp - s.dev.trg.sigma) (s.dev.advanceTo t)))) ∧
  (∀ (s : State) (n g : Nat) (lines : List RowLine) (tp : Int) (t t0 : Nat) (d1 : Dev), s.live → s.dev.nextCycle n = some (g, lines) → s.dev.trigPos n g lines = some tp → ¬ (s.dev.is Reg.TRG.STAT.PAUSED = true ∨ s.dev.printing = false ∨ s.dev.unstarted n lines = true ∨ (s.dev.mode = 4 ∧ s.dev.hasIdleJob lines = true)) → s.dev.passedAtStart tp lines = false → s.dev.canFire n = true → s.dev.passes (s.dev.deadline tp) = some t → (s.dev.port n).sched = some t0 → ¬ ((s.dev.port n).issued = false ∨ (∃ l ∈ s.dev.latTime n, l ≤ max t t0)) → s.dev.advanceTo (max t t0) = d1 → (∃ c ∈ (d1.port n).built, c.failed = true) → 
    Completes (.cycleSkip n) s fun d =>
      d = skipCycle n lines (activateLines lines (tp - s.dev.trg.sigma) d1)) ∧
  (∀ (s : State) (n g : Nat) (lines : List RowLine) (tp : Int) (t t0 : Nat) (d1 d2 d3 d4 : Dev), s.live → s.dev.nextCycle n = some (g, lines) → s.dev.trigPos n g lines = some tp → ¬ (s.dev.is Reg.TRG.STAT.PAUSED = true ∨ s.dev.printing = false ∨ s.dev.unstarted n lines = true ∨ (s.dev.mode = 4 ∧ s.dev.hasIdleJob lines = true)) → s.dev.passedAtStart tp lines = false → s.dev.canFire n = true → s.dev.passes (s.dev.deadline tp) = some t → (s.dev.port n).sched = some t0 → ¬ ((s.dev.port n).issued = false ∨ (∃ l ∈ s.dev.latTime n, l ≤ max t t0)) → s.dev.advanceTo (max t t0) = d1 → ¬ (∃ c ∈ (d1.port n).built, c.failed = true) → (if d1.windowFull lines = true then (d1.raise 0 Kind.TRG.OVERSPEED { port := n }).raise 0 Kind.PRT.JOB_WINDOW { port := n } else d1.raise 0 Kind.TRG.OVERSPEED { port := n }) = d2 → (if d1.notReady n = true ∧ (d1.hasIdleJob lines = false ∨ d1.windowOpen lines = true) then (pipeCount n 6 1 d2).raise 0 Kind.MSK.LINE_NOT_READY { port := n } else d2) = d3 → (if d3.running .slowdown = true then { d3 with trg := { d3.trg with skipping := true } } else askSlowdown n d3) = d4 → 
    Completes (.cycleSkip n) s fun d =>
      d = skipCycle n lines (activateLines lines (tp - s.dev.trg.sigma) d4)) ∧
  (∀ (s : State) (n g : Nat) (lines : List RowLine) (tp : Int), s.live → s.dev.nextCycle n = some (g, lines) → s.dev.trigPos n g lines = some tp → (s.dev.is Reg.TRG.STAT.PAUSED = true ∨ s.dev.printing = false ∨ s.dev.unstarted n lines = true ∨ (s.dev.mode = 4 ∧ s.dev.hasIdleJob lines = true)) ∨ (s.dev.passedAtStart tp lines = false ∧ s.dev.canFire n = false ∧ s.dev.passes tp = none) ∨
      (s.dev.passedAtStart tp lines = false ∧ s.dev.canFire n = true ∧
        (s.dev.passes (s.dev.deadline tp) = none ∨ (s.dev.port n).sched = none ∨
          (∃ t ∈ s.dev.passes (s.dev.deadline tp), ∃ t0 ∈ (s.dev.port n).sched, ((s.dev.port n).issued = false ∨ (∃ l ∈ s.dev.latTime n, l ≤ max t t0))))) → 
    Completes (.cycleSkip n) s fun d =>
      d = s.dev) ∧
  (∀ (s : State) (n : Nat), s.live → s.dev.nextCycle n = none ∨ (∃ x ∈ s.dev.nextCycle n, s.dev.trigPos n x.1 x.2 = none) → 
    Completes (.cycleSkip n) s fun d =>
      d = s.dev) ∧
  (∀ (s : State) (n g : Nat) (lines : List RowLine) (d0 d1 : Dev), s.live → (s.dev.port n).built = none → s.dev.printing = true → s.dev.canFire n = true → s.dev.pickCycle n = some (g, lines) → s.dev.windowOpen lines = true → (s.dev.classesInUse n).foldl (fun d k => slewStep n d k) s.dev = d0 → lines.foldl (lineStarted n) d0 = d1 → 
    Completes (.cycleBuild n) s fun d =>
      d = buildFinish n (d1.setPort n { d1.port n with built := some { group := g, lines, codes := [], frames := [], shipped := 0, segs := 0, segsVoted := 0, digestVoted := false, failed := false, cand := none, waves := d1.wavesNow n, waits := true, resend := [], rho := d1.rho n, conc := d1.get Reg.MSK.CONCEAL.SUBST_EN + 2 * d1.get Reg.MSK.CONCEAL.BOOST_EN + 4 * d1.get Reg.MSK.CONCEAL.WEAK_SUBST, cls := (d1.heat n).cls, rots := lines.filterMap fun (l : RowLine) => (d0.findJob l.job).map fun (pj : Nat × Job) => (l.row, d0.rotOf pj.2 l.line), map := d0.mapOf n, changes := (d0.pipe n).changes, ver := (d1.pipe n).mapVer, other := [], sum := [], otherSum := [], bufs := [], flags := [0, 0] }, cycles := (d1.port n).cycles + 1 })) ∧
  (∀ (s : State) (n : Nat), s.live → (s.dev.port n).built.isSome = true ∨ s.dev.printing = false ∨ s.dev.canFire n = false ∨ s.dev.pickCycle n = none ∨ (∃ x ∈ s.dev.pickCycle n, s.dev.windowOpen x.2 = false) → 
    Completes (.cycleBuild n) s fun d =>
      d = s.dev)

/-- TILE_FETCH fetches the block of the most urgent tile row of a running lane, writes a blank tile for a blank or bad
entry, and fetches once more after a memory error, then takes the tile as bad; TILE_DECODE_DONE of a sound block
writes its tile and counts it, of a bad one a blank tile with its error, and after a memory error fetches again
once; FILL_LATE of a negative slack is raised once and counted; MASK_LOAD claims a buffer for the first job without
one; MASK_LOAD_DONE puts the mask of a sound set in force, takes the default mask where the set does not hold the
port, and reports MASK_BAD for an unsound set. Completes (exec answers a next state, under hypotheses on state and
operands alone): tileFetch, tileDecodeDone, fillLate, maskLoad, maskLoadDone. (R130, R131, R133, R137, R149, R150.) -/
def Obligations.TilesAndMasks : Prop :=
  (∀ (s : State) (n tc entry : Nat) (poisoned : Bool) (l : Layout) (e : Prefetch) (rest : List (Nat × Nat)) (d1 : Dev), s.live → (s.dev.pipe n).layout = some l → s.dev.laneEntry n = some e → s.dev.runs (pg .DCM n) = true → (s.dev.pipe n).lane.fetched = none → e.cols = (tc, entry) :: rest → entryBad entry = false → entryBlank entry = false → s.dev.basinLoad 0 (laneMaster n) (entryAddr entry) (entryLen entry) (if poisoned then 2 else 0) = d1 → (d1.basinFails (entryAddr entry) (entryLen entry)) = false → 
    Completes (.tileFetch n poisoned) s fun d =>
      d = slackSync n (buildFinish n ((d1.request (pg .DCM n)).setPipe n { s.dev.pipe n with lane := { (s.dev.pipe n).lane with fetched := some (e, d1.basinRead (entryAddr entry) (entryLen entry)), since := (d1.request (pg .DCM n)).time.up } }))) ∧
  (∀ (s : State) (n tc entry : Nat) (poisoned : Bool) (l : Layout) (e : Prefetch) (rest : List (Nat × Nat)), s.live → (s.dev.pipe n).layout = some l → s.dev.laneEntry n = some e → s.dev.runs (pg .DCM n) = true → (s.dev.pipe n).lane.fetched = none → e.cols = (tc, entry) :: rest → entryBad entry = true → 
    Completes (.tileFetch n poisoned) s fun d =>
      d = slackSync n (buildFinish n (tileDone n e (writeTile n l e tc blankTile (tileError n e tc entry 0xFE s.dev))))) ∧
  (∀ (s : State) (n tc entry : Nat) (poisoned : Bool) (l : Layout) (e : Prefetch) (rest : List (Nat × Nat)), s.live → (s.dev.pipe n).layout = some l → s.dev.laneEntry n = some e → s.dev.runs (pg .DCM n) = true → (s.dev.pipe n).lane.fetched = none → e.cols = (tc, entry) :: rest → entryBad entry = false → entryBlank entry = true → 
    Completes (.tileFetch n poisoned) s fun d =>
      d = slackSync n (buildFinish n (tileDone n e ((writeTile n l e tc blankTile s.dev).bump (Reg.DCM.BLANKS.COUNT n) 1)))) ∧
  (∀ (s : State) (n tc entry : Nat) (poisoned : Bool) (l : Layout) (e : Prefetch) (rest : List (Nat × Nat)) (d1 : Dev), s.live → (s.dev.pipe n).layout = some l → s.dev.laneEntry n = some e → s.dev.runs (pg .DCM n) = true → (s.dev.pipe n).lane.fetched = none → e.cols = (tc, entry) :: rest → entryBad entry = false → entryBlank entry = false → s.dev.basinLoad 0 (laneMaster n) (entryAddr entry) (entryLen entry) (if poisoned then 2 else 0) = d1 → (d1.basinFails (entryAddr entry) (entryLen entry)) = true → 
    Completes (.tileFetch n poisoned) s fun d =>
      d = slackSync n (buildFinish n (if (s.dev.pipe n).lane.again = true then tileDone n e (writeTile n l e tc blankTile (tileError n e tc entry 0xFF d1))
        else d1.setPipe n { s.dev.pipe n with lane := { (s.dev.pipe n).lane with again := true } }))) ∧
  (∀ (s : State) (n : Nat) (poisoned : Bool) (l : Layout) (e : Prefetch), s.live → (s.dev.pipe n).layout = some l → s.dev.laneEntry n = some e → s.dev.runs (pg .DCM n) = true → (s.dev.pipe n).lane.fetched = none → e.cols = [] → 
    Completes (.tileFetch n poisoned) s fun d =>
      d = slackSync n (buildFinish n (setPrefetch n e none s.dev))) ∧
  (∀ (s : State) (n : Nat) (poisoned : Bool), s.live → (s.dev.pipe n).layout = none ∨ s.dev.laneEntry n = none ∨ s.dev.runs (pg .DCM n) = false ∨ (s.dev.pipe n).lane.fetched.isSome = true → 
    Completes (.tileFetch n poisoned) s fun d =>
      d = slackSync n (buildFinish n s.dev)) ∧
  (∀ (s : State) (n tc entry : Nat) (l : Layout) (e : Prefetch) (rest : List (Nat × Nat)) (block : Bytes) (tile : Bytes), s.live → (s.dev.pipe n).layout = some l → (s.dev.pipe n).lane.fetched = some (e, block) → e.cols = (tc, entry) :: rest → decodeBlock true ((s.dev.answer (pg .DCM n)).is (Reg.DCM.CFG.CRC_CHECK n)) (entryLen entry) block = .ok tile → 
    Completes (.tileDecodeDone n false) s fun d =>
      d = slackSync n (buildFinish n (tileDone n e ((writeTile n l e tc tile (s.dev.answer (pg .DCM n))).bump (Reg.DCM.TILES.COUNT n) 1)))) ∧
  (∀ (s : State) (n tc entry : Nat) (l : Layout) (e : Prefetch) (rest : List (Nat × Nat)) (block : Bytes) (k : Nat), s.live → (s.dev.pipe n).layout = some l → (s.dev.pipe n).lane.fetched = some (e, block) → e.cols = (tc, entry) :: rest → decodeBlock true ((s.dev.answer (pg .DCM n)).is (Reg.DCM.CFG.CRC_CHECK n)) (entryLen entry) block = .error k → 
    Completes (.tileDecodeDone n false) s fun d =>
      d = slackSync n (buildFinish n (tileDone n e (writeTile n l e tc blankTile (tileError n e tc entry k (s.dev.answer (pg .DCM n))))))) ∧
  (∀ (s : State) (n tc entry : Nat) (l : Layout) (e : Prefetch) (rest : List (Nat × Nat)) (block : Bytes), s.live → (s.dev.pipe n).layout = some l → (s.dev.pipe n).lane.fetched = some (e, block) → e.cols = (tc, entry) :: rest → 
    Completes (.tileDecodeDone n true) s fun d =>
      d = slackSync n (buildFinish n (if (s.dev.pipe n).lane.again = true then tileDone n e (writeTile n l e tc blankTile (tileError n e tc entry 0xFF (s.dev.answer (pg .DCM n))))
        else (s.dev.answer (pg .DCM n)).setPipe n { s.dev.pipe n with lane := { (s.dev.pipe n).lane with again := true, fetched := none } }))) ∧
  (∀ (s : State) (n : Nat) (bad : Bool), s.live → (s.dev.pipe n).layout = none ∨ (∀ x ∈ (s.dev.pipe n).lane.fetched, x.1.cols = []) → 
    Completes (.tileDecodeDone n bad) s fun d =>
      d = slackSync n (buildFinish n s.dev)) ∧
  (∀ (s : State) (n : Nat) (e : Prefetch) (d1 : Dev), s.live → s.dev.laneEntry n = some e → s.dev.slack n < 0 → e.late = false → s.dev.setPipe n { s.dev.pipe n with lane := { (s.dev.pipe n).lane with list := (s.dev.pipe n).lane.list.map fun x => if x.same e = true then { x with late := true } else x, fetched := (s.dev.pipe n).lane.fetched.map fun x => (if x.1.same e = true then { x.1 with late := true } else x.1, x.2) } } = d1 → 
    Completes (.fillLate n) s fun d =>
      d = ((slackSync n d1).bump (Reg.DCM.LATE_CNT.COUNT n) 1).raise n Kind.DCM.FILL_LATE { port := n }) ∧
  (∀ (s : State) (n : Nat), s.live → (∃ e ∈ s.dev.laneEntry n, 0 ≤ s.dev.slack n ∨ e.late = true) → 
    Completes (.fillLate n) s fun d =>
      d = slackSync n s.dev) ∧
  (∀ (s : State) (n : Nat), s.live → s.dev.laneEntry n = none → 
    Completes (.fillLate n) s fun d =>
      d = s.dev) ∧
  (∀ (s : State) (n : Nat) (g : Geom) (j : Job), s.live → s.dev.geom n = some g → ((s.dev.plane g.plane).jobs.find? fun j => j.ports.contains n && j.ending.isNone && !(s.dev.liveMasks n).any fun m => m.job == j.seq) = some j → (s.dev.liveMasks n).length < 4 → 
    Completes (.maskLoad n) s fun d =>
      d = setMasks n (fun _ => s.dev.liveMasks n ++ [({ job := j.seq, mask := none, ready := false } : MaskBuf)]) s.dev) ∧
  (∀ (s : State) (n : Nat), s.live → (∀ g ∈ s.dev.geom n, ((s.dev.plane g.plane).jobs.find? fun j => j.ports.contains n && j.ending.isNone && !(s.dev.liveMasks n).any fun m => m.job == j.seq) = none) ∨
      4 ≤ (s.dev.liveMasks n).length → 
    Completes (.maskLoad n) s fun d =>
      d = s.dev) ∧
  (∀ (s : State) (n a p : Nat) (poisoned : Bool) (m : MaskBuf) (j : Job) (h : Bytes) (d2 : Dev), s.live → (s.dev.pipe n).slice.masks.find? (fun m => !m.ready) = some m → s.dev.findJob m.job = some (p, j) → s.dev.enabled (pg .MSK 0) = true → s.dev.maskAddr j.maskSet = a → (s.dev.basinLoad 1 0xFF a 320 (if poisoned then 2 else 0)).basinLoad 1 0xFF (a + 0x1000 + n * 0x2000) 8192 0 = d2 → d2.basinRead a 320 = h → (d2.basinFails a 320 = false ∧ d2.basinFails (a + 0x1000 + n * 0x2000) 8192 = false ∧ leAt h 0 4 = 0x4B534D50 ∧ byteAt h 4 = 1) → bit (leAt h 8 8) n = true → crc32c (d2.basinRead (a + 0x1000 + n * 0x2000) 8192) = leAt h (64 + 4 * n) 4 → 
    Completes (.maskLoadDone n poisoned) s fun d =>
      d = buildFinish n ((setMasks n (List.map fun x => if x = m then { m with mask := some (d2.basinRead (a + 0x1000 + n * 0x2000) 8192), ready := true } else x) d2).ev .MSK 0 0)) ∧
  (∀ (s : State) (n a p : Nat) (poisoned : Bool) (m : MaskBuf) (j : Job) (h : Bytes) (d2 : Dev), s.live → (s.dev.pipe n).slice.masks.find? (fun m => !m.ready) = some m → s.dev.findJob m.job = some (p, j) → s.dev.enabled (pg .MSK 0) = true → s.dev.maskAddr j.maskSet = a → (s.dev.basinLoad 1 0xFF a 320 (if poisoned then 2 else 0)).basinLoad 1 0xFF (a + 0x1000 + n * 0x2000) 8192 0 = d2 → d2.basinRead a 320 = h → (d2.basinFails a 320 = false ∧ d2.basinFails (a + 0x1000 + n * 0x2000) 8192 = false ∧ leAt h 0 4 = 0x4B534D50 ∧ byteAt h 4 = 1) → bit (leAt h 8 8) n = false → 
    Completes (.maskLoadDone n poisoned) s fun d =>
      d = buildFinish n ((setMasks n (List.map fun x => if x = m then { m with mask := none, ready := true } else x) d2).ev .MSK 0 0)) ∧
  (∀ (s : State) (n a p : Nat) (poisoned : Bool) (m : MaskBuf) (j : Job) (h : Bytes) (d2 : Dev), s.live → (s.dev.pipe n).slice.masks.find? (fun m => !m.ready) = some m → s.dev.findJob m.job = some (p, j) → s.dev.enabled (pg .MSK 0) = true → s.dev.maskAddr j.maskSet = a → (s.dev.basinLoad 1 0xFF a 320 (if poisoned then 2 else 0)).basinLoad 1 0xFF (a + 0x1000 + n * 0x2000) 8192 0 = d2 → d2.basinRead a 320 = h → ¬ (d2.basinFails a 320 = false ∧ d2.basinFails (a + 0x1000 + n * 0x2000) 8192 = false ∧ leAt h 0 4 = 0x4B534D50 ∧ byteAt h 4 = 1) ∨ (bit (leAt h 8 8) n = true ∧ ¬ crc32c (d2.basinRead (a + 0x1000 + n * 0x2000) 8192) = leAt h (64 + 4 * n) 4) → 
    Completes (.maskLoadDone n poisoned) s fun d =>
      d = buildFinish n (((setMasks n (List.map fun x => if x = m then { m with mask := none, ready := true } else x) (((d2.put Reg.MSK.BAD_SET.VALID true).set Reg.MSK.BAD_SET.PORT n).set Reg.MSK.BAD_SET.SET j.maskSet)).ev .MSK 0 0).raise 0 Kind.MSK.MASK_BAD { port := n, arg := j.maskSet })) ∧
  (∀ (s : State) (n p : Nat) (poisoned : Bool) (m : MaskBuf) (j : Job), s.live → (s.dev.pipe n).slice.masks.find? (fun m => !m.ready) = some m → s.dev.findJob m.job = some (p, j) → s.dev.enabled (pg .MSK 0) = false → 
    Completes (.maskLoadDone n poisoned) s fun d =>
      d = buildFinish n ((setMasks n (List.map fun x => if x = m then { m with mask := none, ready := true } else x) s.dev).ev .MSK 0 0)) ∧
  (∀ (s : State) (n : Nat) (poisoned : Bool) (m : MaskBuf), s.live → (s.dev.pipe n).slice.masks.find? (fun m => !m.ready) = some m → s.dev.findJob m.job = none → 
    Completes (.maskLoadDone n poisoned) s fun d =>
      d = buildFinish n (setMasks n (List.filter fun x => x != m) s.dev)) ∧
  (∀ (s : State) (n : Nat) (poisoned : Bool), s.live → (s.dev.pipe n).slice.masks.find? (fun m => !m.ready) = none → 
    Completes (.maskLoadDone n poisoned) s fun d =>
      d = buildFinish n s.dev)

/-- BASIN_REQUEST outside the Basin or while it is down is refused with its code; a class-C5 request under throttle is
dropped, one while a record is held writes the held record; a C4 write under throttle waits; every other one writes
its bytes, or reads them, with the delay it had, and completes. CORRECTED_WRITEBACK takes the oldest corrected
sector. SHALLOWS_ACCESS is refused outside the Shallows or while the block is down, locked for host writes in print
modes, and writes or reads otherwise. THROTTLE_ENGAGE and THROTTLE_RELEASE switch THROTTLED at the slack limit and
its 5/4; C5_DEADLINE_DROP drops a telemetry record that waits. Completes (exec answers a next state, under
hypotheses on state and operands alone): basinRequest, correctedWriteback, shallowsAccess, throttleEngage,
throttleRelease, c5DeadlineDrop. (R316, R318, R319, R320, R326.) -/
def Obligations.Memories : Prop :=
  (∀ (s : State) (master cls addr len err late : Nat) (w : Bool) (data : Bytes), s.live → basinSize < addr + (if w then data.length else len) ∨ s.dev.basinUp = false → 
    Completes (.basinRequest master cls addr len w data err late) s fun d =>
      d = refusedAccess master (if basinSize < addr + (if w then data.length else len) then 0x11 else 0x10) addr w s.dev) ∧
  (∀ (s : State) (master cls addr len err late : Nat) (w : Bool) (data : Bytes), s.live → addr + (if w then data.length else len) ≤ basinSize → s.dev.basinUp = true → cls = 5 → s.dev.is Reg.BAS.STAT.THROTTLED = true → 
    Completes (.basinRequest master cls addr len w data err late) s fun d =>
      d = c5Drop s.dev ∧ d.mem.tel.c5 = s.dev.mem.tel.c5 + 1 ∧ d.mem.tel.held = none) ∧
  (∀ (s : State) (master cls addr len err late : Nat) (w : Bool) (data : Bytes) (r : Nat × Bytes), s.live → addr + (if w then data.length else len) ≤ basinSize → s.dev.basinUp = true → cls = 5 → w = true → s.dev.is Reg.BAS.STAT.THROTTLED = false → s.dev.mem.tel.held = some r → 
    Completes (.basinRequest master cls addr len w data err late) s fun d =>
      d = telemPut r.2 (delayed master late s.dev)) ∧
  (∀ (s : State) (master cls addr len err late : Nat) (w : Bool) (data : Bytes), s.live → addr + (if w then data.length else len) ≤ basinSize → s.dev.basinUp = true → cls = 4 → w = true → s.dev.is Reg.BAS.STAT.THROTTLED = true → 
    Completes (.basinRequest master cls addr len w data err late) s fun d =>
      d = s.dev.c4Write addr data master ∧ d.mem.wait = s.dev.mem.wait ++ [({ since := s.dev.time.up, master, addr, data } : Deferred)] ∧ d.basin = s.dev.basin) ∧
  (∀ (s : State) (master cls addr len err late : Nat) (w : Bool) (data : Bytes), s.live → addr + (if w then data.length else len) ≤ basinSize → s.dev.basinUp = true → w = true → ¬ (cls = 5 ∧ s.dev.is Reg.BAS.STAT.THROTTLED = true) → ¬ (cls = 5 ∧ w = true ∧ s.dev.mem.tel.held.isSome = true) → ¬ (cls = 4 ∧ w = true ∧ s.dev.is Reg.BAS.STAT.THROTTLED = true) → 
    Completes (.basinRequest master cls addr len w data err late) s fun d =>
      d = ((if addr % 32 = 0 ∧ data.length % 32 = 0 then delayed master late s.dev else strike err addr (delayed master late s.dev)).basinWrite addr data cls master).emit (.completion master (if late = 0 then 0 else 1))) ∧
  (∀ (s : State) (master cls addr : Nat) (data : Bytes), s.live → addr + data.length ≤ basinSize → s.dev.basinUp = true → cls < 4 → 
    Completes (.basinRequest master cls addr 0 true data 0 0) s fun d =>
      d = (s.dev.basinWrite addr data cls master).emit (.completion master 0)) ∧
  (∀ (s : State) (master cls addr len err late : Nat) (w : Bool) (data : Bytes) (d1 : Dev), s.live → addr + (if w then data.length else len) ≤ basinSize → s.dev.basinUp = true → w = false → ¬ (cls = 5 ∧ s.dev.is Reg.BAS.STAT.THROTTLED = true) → (delayed master late s.dev).basinLoad cls master addr len err = d1 → 
    Completes (.basinRequest master cls addr len w data err late) s fun d =>
      d = (d1.emit (.readBytes addr (d1.basinRead addr len) (d1.badSectors addr len != []))).emit (.completion master (if late = 0 then 0 else 1))) ∧
  (∀ (s : State) (x : Nat) (rest : List Nat) (bad : Bool) (d1 : Dev), s.live → s.dev.mem.ce = x :: rest → ({ s.dev with mem := { s.dev.mem with ce := rest } } : Dev) = d1 → 
    Completes (.correctedWriteback bad) s fun d =>
      d = (if d1.basinUp = false then d1 else if bad = true then ueFound 0xFF 4 (upset x d1) x else d1.served 4 32)) ∧
  (∀ (s : State) (bad : Bool), s.live → s.dev.mem.ce = [] → 
    Completes (.correctedWriteback bad) s fun d =>
      d = s.dev) ∧
  (∀ (s : State) (master a len err : Nat) (w : Bool) (data : Bytes), s.live → 2 ^ 25 < a + (if w then data.length else len) ∨ s.dev.inRun (pg .SHL 0) = false → 
    Completes (.shallowsAccess master a len w data err) s fun d =>
      d = refusedAccess master (if 2 ^ 25 < a + (if w then data.length else len) then 0x11 else 0x10) a w s.dev) ∧
  (∀ (s : State) (master a len err : Nat) (w : Bool) (data : Bytes), s.live → a + (if w then data.length else len) ≤ 2 ^ 25 → s.dev.inRun (pg .SHL 0) = true → w = true → 
    Completes (.shallowsAccess master a len w data err) s fun d =>
      d = (if master = 0 ∧ s.dev.shallowsOpen = false then shallowsLocked a s.dev else s.dev.shallowsWrite a data)) ∧
  (∀ (s : State) (master a len err : Nat) (w : Bool) (data : Bytes) (d1 : Dev), s.live → a + (if w then data.length else len) ≤ 2 ^ 25 → s.dev.inRun (pg .SHL 0) = true → w = false → shallowsStrike master (a / 8) err s.dev = d1 → 
    Completes (.shallowsAccess master a len w data err) s fun d =>
      d = d1.emit (.readBytes a (memRead 0 d1.shallows a len) (d1.mem.shlUe.contains (a / 8)))) ∧
  (∀ s : State, s.live → s.dev.inRun (pg .BAS 0) = true → s.dev.lowSlack < (s.dev.get Reg.BAS.THROTTLE.SLACK_US : Nat) → 
    Completes (.throttleEngage) s fun d =>
      d = (List.range 64).foldl (fun d n => slackLow n d)
        (if s.dev.is Reg.BAS.STAT.THROTTLED = true then s.dev else ((thrSync s.dev).put Reg.BAS.STAT.THROTTLED true).ev .BAS 0 3) ∧ d.is Reg.BAS.STAT.THROTTLED = true) ∧
  (∀ s : State, s.live → s.dev.inRun (pg .BAS 0) = false ∨ (s.dev.get Reg.BAS.THROTTLE.SLACK_US : Nat) ≤ s.dev.lowSlack → 
    Completes (.throttleEngage) s fun d =>
      d = s.dev) ∧
  (∀ (s : State) (ws : List Deferred), s.live → s.dev.is Reg.BAS.STAT.THROTTLED = true → 5 * (s.dev.get Reg.BAS.THROTTLE.SLACK_US : Nat) ≤ 4 * s.dev.lowSlack → s.dev.mem.wait = ws → 
    Completes (.throttleRelease) s fun d =>
      d = ws.foldl (fun d w => servedLate w d)
        (((thrSync { s.dev with mem := { s.dev.mem with wait := [] } }).put Reg.BAS.STAT.THROTTLED false).ev .BAS 0 3)) ∧
  (∀ s : State, s.live → s.dev.is Reg.BAS.STAT.THROTTLED = false ∨ 4 * s.dev.lowSlack < 5 * (s.dev.get Reg.BAS.THROTTLE.SLACK_US : Nat) → 
    Completes (.throttleRelease) s fun d =>
      d = s.dev) ∧
  (∀ s : State, s.live → 
    Completes (.c5DeadlineDrop) s fun d =>
      d = (if s.dev.mem.tel.held.isSome = true then ({ (s.dev.bump Reg.BAS.C5_LOST.COUNT 1).bump Reg.TRN.TELEM_LOST.COUNT 1 with mem := { s.dev.mem with tel := { s.dev.mem.tel with c5 := s.dev.mem.tel.c5 + 1, held := none } } }).raise 0 Kind.TRN.TELEM_LOST else s.dev))

/-- BASIN_SCRUB_BURST checks the eight sectors of 256 bytes, reports the bad ones, moves the scrub address on and shows
the share done, or ends the pass at the last burst; SCRUB_LATE raises SCRUB_LATE; SHALLOWS_SCRUB_WORD checks and
counts the word, and ends the pass with the last word of every slice; TELEMETRY_RECORD starts the next period and
writes the record of this one, or drops it when the ring is full, the Basin is down or throttled, or holds it;
BASIN_WIPE_DONE and SHALLOWS_WIPE_DONE leave the memory empty, its errors forgotten and its bring-up flag set. Where
nothing is scrubbed, recorded or wiped, nothing changes. Completes (exec answers a next state, under hypotheses on
state and operands alone): basinScrubBurst, scrubLate, shallowsScrubWord, telemetryRecord, basinWipeDone,
shallowsWipeDone. (R323, R324, R325, R327.) -/
def Obligations.Turnover : Prop :=
  (∀ (s : State) (errs : List Nat) (d0 d1 : Dev), s.live → s.dev.task Reg.TRN.TASK_EN.BSCRUB = true → s.dev.basinUp = true → (if s.dev.mem.scrubAt = 0 then ({ s.dev with mem := { s.dev.mem with scrubT := s.dev.time.up } }).arm .scrubB (s.dev.get Reg.TRN.SCRUB_B.PERIOD_S * sec) else s.dev) = d0 → (((((List.range 8).foldl (fun d i => strike (nth 0 errs i) (s.dev.mem.scrubAt + 32 * i) d) d0).served 4 256).badSectors s.dev.mem.scrubAt 256).foldl (ueFound 0xFF 1)
      (((List.range 8).foldl (fun d i => strike (nth 0 errs i) (s.dev.mem.scrubAt + 32 * i) d) d0).served 4 256)) = d1 → s.dev.mem.scrubAt + 256 ≠ basinSize → 
    Completes (.basinScrubBurst errs) s fun d =>
      d = ({ d1 with mem := { d1.mem with scrubAt := s.dev.mem.scrubAt + 256 } }).set Reg.TRN.SCRUB_B_STAT.DONE ((s.dev.mem.scrubAt + 256) * 256 / basinSize)) ∧
  (∀ (s : State) (errs : List Nat) (d0 d1 : Dev), s.live → s.dev.task Reg.TRN.TASK_EN.BSCRUB = true → s.dev.basinUp = true → (if s.dev.mem.scrubAt = 0 then ({ s.dev with mem := { s.dev.mem with scrubT := s.dev.time.up } }).arm .scrubB (s.dev.get Reg.TRN.SCRUB_B.PERIOD_S * sec) else s.dev) = d0 → (((((List.range 8).foldl (fun d i => strike (nth 0 errs i) (s.dev.mem.scrubAt + 32 * i) d) d0).served 4 256).badSectors s.dev.mem.scrubAt 256).foldl (ueFound 0xFF 1)
      (((List.range 8).foldl (fun d i => strike (nth 0 errs i) (s.dev.mem.scrubAt + 32 * i) d) d0).served 4 256)) = d1 → s.dev.mem.scrubAt + 256 = basinSize → 
    Completes (.basinScrubBurst errs) s fun d =>
      d = scrubPassEnd { d1 with mem := { d1.mem with scrubAt := s.dev.mem.scrubAt + 256 } } ∧ d.mem.scrubAt = 0 ∧ d.get Reg.TRN.SCRUB_B_STAT.DONE = 0) ∧
  (∀ (s : State) (errs : List Nat), s.live → s.dev.task Reg.TRN.TASK_EN.BSCRUB = false ∨ s.dev.basinUp = false → 
    Completes (.basinScrubBurst errs) s fun d =>
      d = s.dev) ∧
  (∀ (s : State) (t : Nat), s.live → s.dev.due .scrubB = some t → 
    Completes (.scrubLate) s fun d =>
      d = ((s.dev.advanceTo t).disarm .scrubB).raise 0 Kind.TRN.SCRUB_LATE) ∧
  (∀ s : State, s.live → s.dev.due .scrubB = none → 
    Completes (.scrubLate) s fun d =>
      d = s.dev) ∧
  (∀ (s : State) (slice err : Nat) (d1 : Dev) (l : List (Nat × Nat)), s.live → slice < 64 → s.dev.task Reg.TRN.TASK_EN.SSCRUB = true → s.dev.inRun (pg .SHL 0) = true → tget 0 s.dev.mem.sAt slice < sliceWords → shallowsStrike 0xFF (slice * sliceWords + tget 0 s.dev.mem.sAt slice) err (if s.dev.mem.sAt = [] then { s.dev with mem := { s.dev.mem with sT := s.dev.time.up } } else s.dev) = d1 → tset 0 slice (tget 0 s.dev.mem.sAt slice + 1) s.dev.mem.sAt = l → ¬ (∀ n ∈ List.range 64, tget 0 l n = sliceWords) → 
    Completes (.shallowsScrubWord slice err) s fun d =>
      d = { d1 with mem := { d1.mem with sAt := l } }) ∧
  (∀ (s : State) (slice err took : Nat) (d1 d2 : Dev) (l : List (Nat × Nat)), s.live → slice < 64 → s.dev.task Reg.TRN.TASK_EN.SSCRUB = true → s.dev.inRun (pg .SHL 0) = true → tget 0 s.dev.mem.sAt slice < sliceWords → shallowsStrike 0xFF (slice * sliceWords + tget 0 s.dev.mem.sAt slice) err (if s.dev.mem.sAt = [] then { s.dev with mem := { s.dev.mem with sT := s.dev.time.up } } else s.dev) = d1 → tset 0 slice (tget 0 s.dev.mem.sAt slice + 1) s.dev.mem.sAt = l → (∀ n ∈ List.range 64, tget 0 l n = sliceWords) → (d1.time.up - d1.mem.sT) / ms = took → ((({ d1 with mem := { d1.mem with sAt := [] } }).set Reg.TRN.SCRUB_S_STAT.LAST_MS (min 65535 took)).set Reg.TRN.SCRUB_S_STAT.PASSES (d1.get Reg.TRN.SCRUB_S_STAT.PASSES + 1)).ev .TRN 0 0 = d2 → 
    Completes (.shallowsScrubWord slice err) s fun d =>
      d = (if max 1000 (d2.get Reg.TRN.SCRUB_S.PERIOD_MS) < took then d2.raise 0 Kind.TRN.SCRUB_LATE else d2)) ∧
  (∀ (s : State) (slice err : Nat), s.live → s.dev.task Reg.TRN.TASK_EN.SSCRUB = false ∨ s.dev.inRun (pg .SHL 0) = false ∨ 64 ≤ slice ∨ sliceWords ≤ tget 0 s.dev.mem.sAt slice → 
    Completes (.shallowsScrubWord slice err) s fun d =>
      d = s.dev) ∧
  (∀ (s : State) (waits : Bool) (d1 d2 : Dev), s.live → (s.dev.advanceTo ((s.dev.due .telem).getD s.dev.time.up)).arm .telem (max 1 (s.dev.get Reg.TRN.TELEM_CFG.PERIOD_MS) * ms) = d1 → d1.task Reg.TRN.TASK_EN.TELEM = true → ({ thrSync d1 with mem := { (thrSync d1).mem with tel := Telem.start (thrSync d1).time.up (thrSync d1).mem.tel.held } } : Dev) = d2 → ¬ (d2.get Reg.TRN.TELEM_TAIL.INDEX + 1) % d2.telemSize = d2.get Reg.TRN.TELEM_HEAD.INDEX → ¬ (d2.is Reg.TRN.TELEM_BASE.SPACE = false ∧ (d2.basinUp = false ∨ d2.is Reg.BAS.STAT.THROTTLED = true ∨ waits = true)) → 
    Completes (.telemetryRecord waits) s fun d =>
      d = telemPut (thrSync d1).telemBytes d2) ∧
  (∀ (s : State) (waits : Bool) (d1 d2 : Dev), s.live → (s.dev.advanceTo ((s.dev.due .telem).getD s.dev.time.up)).arm .telem (max 1 (s.dev.get Reg.TRN.TELEM_CFG.PERIOD_MS) * ms) = d1 → d1.task Reg.TRN.TASK_EN.TELEM = true → ({ thrSync d1 with mem := { (thrSync d1).mem with tel := Telem.start (thrSync d1).time.up (thrSync d1).mem.tel.held } } : Dev) = d2 → (d2.get Reg.TRN.TELEM_TAIL.INDEX + 1) % d2.telemSize = d2.get Reg.TRN.TELEM_HEAD.INDEX ∨ (d2.is Reg.TRN.TELEM_BASE.SPACE = false ∧ d2.basinUp = false) → 
    Completes (.telemetryRecord waits) s fun d =>
      d = (d2.bump Reg.TRN.TELEM_LOST.COUNT 1).raise 0 Kind.TRN.TELEM_LOST) ∧
  (∀ (s : State) (waits : Bool) (d1 d2 : Dev), s.live → (s.dev.advanceTo ((s.dev.due .telem).getD s.dev.time.up)).arm .telem (max 1 (s.dev.get Reg.TRN.TELEM_CFG.PERIOD_MS) * ms) = d1 → d1.task Reg.TRN.TASK_EN.TELEM = true → ({ thrSync d1 with mem := { (thrSync d1).mem with tel := Telem.start (thrSync d1).time.up (thrSync d1).mem.tel.held } } : Dev) = d2 → ¬ (d2.get Reg.TRN.TELEM_TAIL.INDEX + 1) % d2.telemSize = d2.get Reg.TRN.TELEM_HEAD.INDEX → d2.is Reg.TRN.TELEM_BASE.SPACE = false → d2.basinUp = true → d2.is Reg.BAS.STAT.THROTTLED = true ∨ waits = true → 
    Completes (.telemetryRecord waits) s fun d =>
      d = (if d2.is Reg.BAS.STAT.THROTTLED = true then c5Drop d2
        else { d2 with mem := { d2.mem with tel := { d2.mem.tel with held := some (d2.get Reg.TRN.TELEM_TAIL.INDEX, (thrSync d1).telemBytes) } } })) ∧
  (∀ (s : State) (waits : Bool) (d1 : Dev), s.live → (s.dev.advanceTo ((s.dev.due .telem).getD s.dev.time.up)).arm .telem (max 1 (s.dev.get Reg.TRN.TELEM_CFG.PERIOD_MS) * ms) = d1 → d1.task Reg.TRN.TASK_EN.TELEM = false → 
    Completes (.telemetryRecord waits) s fun d =>
      d = d1) ∧
  (∀ s : State, s.live → s.dev.is Reg.SYS.BRINGUP.FUSES_READ = true → s.dev.is Reg.BAS.STAT.WIPING = true → 
    Completes (.basinWipeDone) s fun d =>
      d = healthSync (((wipedState (pg .BAS 0) ((({ s.dev with basin := [], mem := { s.dev.mem with ue := [], ce := [], wait := [] } }).put Reg.BAS.STAT.WIPING false).put (Reg.HDR.SOFT_RESET (pg .BAS 0)) false)).bringup Reg.SYS.BRINGUP.BASIN_READY true).ev .BAS 0 2) ∧
        d.basin = [] ∧ d.mem.ue = [] ∧ d.mem.ce = [] ∧ d.is Reg.BAS.STAT.WIPING = false ∧ d.is Reg.SYS.BRINGUP.BASIN_READY = true ∧
        d.evRaw .BAS 0 2 = true) ∧
  (∀ s : State, s.live → s.dev.is Reg.SYS.BRINGUP.FUSES_READ = false ∨ s.dev.is Reg.BAS.STAT.WIPING = false → 
    Completes (.basinWipeDone) s fun d =>
      d = s.dev) ∧
  (∀ (s : State) (d1 : Dev), s.live → s.dev.is Reg.SYS.BRINGUP.FUSES_READ = true → shallowsWipeDone s.dev = d1 → 
    Completes (.shallowsWipeDone) s fun d =>
      d = (if s.dev.is Reg.SYS.BRINGUP.SHALLOWS_READY = false ∧ d1.is Reg.SYS.BRINGUP.SHALLOWS_READY = true ∧ d1.sys.stopAtB3 = false then calB7 d1 else d1)) ∧
  (∀ s : State, s.live → s.dev.is Reg.SYS.BRINGUP.FUSES_READ = true → s.dev.mem.shlWipe = true → s.dev.is Reg.SYS.BRINGUP.SHALLOWS_READY = true → 
    Completes (.shallowsWipeDone) s fun d =>
      d.shallows = [] ∧ d.mem.shlUe = [] ∧ d.mem.shlWipe = false ∧ d.is Reg.SYS.BRINGUP.SHALLOWS_READY = true) ∧
  (∀ s : State, s.live → s.dev.is Reg.SYS.BRINGUP.FUSES_READ = false → 
    Completes (.shallowsWipeDone) s fun d =>
      d = s.dev)

/-- DMA_START of an idle channel sets PC to PROG, resets the channel and runs it, or lets it wait for ENABLE; DMA_RESUME
of an ended channel runs it where it stands and does nothing to one that has not ended; both raise DMA_BUSY on a
channel that is not idle and are refused on a page that is off. INSTRUCTION_FETCH keeps the line and decodes the
instruction of PC, fetches ahead, or ends the run with the cause of the failed fetch. KILL_MAP kills the selected
channels. HALT ends the channel with its argument; a channel whose instruction is no HALT stays as it is. Completes
(exec answers a next state, under hypotheses on state and operands alone): dmaStart, dmaResume, instructionFetch,
halt, killMap. (R340, R329, R331, R342, R344.) -/
def Obligations.DmaChannels : Prop :=
  (∀ (s : State) (n : Nat), s.live → n < 32 → s.dev.pageOff (0x20 + n) = false → s.dev.blk (pg .DMA n) = 1 → 
    Completes (.dmaStart n) s fun d =>
      d = (((((((s.dev.set (Reg.DMA.PC.ADDR n) (s.dev.get (Reg.DMA.PROG.ADDR n))).set (Reg.DMA.PC.SPACE n) (s.dev.get (Reg.DMA.PROG.SPACE n))).setDma n DmaChan.init).resetFields
          [Reg.DMA.STAT.ARG n, Reg.DMA.STAT.CAUSE n, Reg.DMA.STAT.CODE n, Reg.DMA.FLAGS.WAITING n, Reg.DMA.FLAGS.FETCH n, Reg.DMA.FLAGS.DELAYED n,
            Reg.DMA.FLAGS.ENDED n]).set (Reg.DMA.LOOP.DEPTH n) 0)).setDma n { (((((((s.dev.set (Reg.DMA.PC.ADDR n) (s.dev.get (Reg.DMA.PROG.ADDR n))).set (Reg.DMA.PC.SPACE n) (s.dev.get (Reg.DMA.PROG.SPACE n))).setDma n DmaChan.init).resetFields [Reg.DMA.STAT.ARG n, Reg.DMA.STAT.CAUSE n, Reg.DMA.STAT.CODE n, Reg.DMA.FLAGS.WAITING n, Reg.DMA.FLAGS.FETCH n, Reg.DMA.FLAGS.DELAYED n, Reg.DMA.FLAGS.ENDED n]).set (Reg.DMA.LOOP.DEPTH n) 0))).dma n with run := true }).setBlk (pg .DMA n) (if (((((((s.dev.set (Reg.DMA.PC.ADDR n) (s.dev.get (Reg.DMA.PROG.ADDR n))).set (Reg.DMA.PC.SPACE n) (s.dev.get (Reg.DMA.PROG.SPACE n))).setDma n DmaChan.init).resetFields
          [Reg.DMA.STAT.ARG n, Reg.DMA.STAT.CAUSE n, Reg.DMA.STAT.CODE n, Reg.DMA.FLAGS.WAITING n, Reg.DMA.FLAGS.FETCH n, Reg.DMA.FLAGS.DELAYED n,
            Reg.DMA.FLAGS.ENDED n]).set (Reg.DMA.LOOP.DEPTH n) 0))).enabled (pg .DMA n) = true then 2 else 4)) ∧
  (∀ (s : State) (n : Nat), s.live → n < 32 → s.dev.pageOff (0x20 + n) = false → s.dev.blk (pg .DMA n) = 1 → s.dev.enabled (pg .DMA n) = true → 
    Completes (.dmaStart n) s fun d =>
      d.get (Reg.DMA.PC.ADDR n) = s.dev.get (Reg.DMA.PROG.ADDR n) % 2 ^ 60 ∧ d.get (Reg.DMA.PC.SPACE n) = s.dev.get (Reg.DMA.PROG.SPACE n) % 2 ∧
        d.blk (pg .DMA n) = 2 ∧ d.dma n = { DmaChan.init with run := true } ∧ d.is (Reg.DMA.FLAGS.ENDED n) = false ∧ d.get (Reg.DMA.LOOP.DEPTH n) = 0) ∧
  (∀ (s : State) (n : Nat), s.live → n < 32 → s.dev.pageOff (0x20 + n) = false → s.dev.blk (pg .DMA n) = 1 → 
    Completes (.dmaResume n) s fun d =>
      d = (if s.dev.is (Reg.DMA.FLAGS.ENDED n) = true then (s.dev.setDma n { (s.dev).dma n with run := true }).setBlk (pg .DMA n) (if (s.dev).enabled (pg .DMA n) = true then 2 else 4) else s.dev)) ∧
  (∀ (s : State) (n : Nat), s.live → n < 32 → s.dev.pageOff (0x20 + n) = false → s.dev.blk (pg .DMA n) ≠ 1 → 
    Completes (.dmaStart n) s fun d =>
      d = s.dev.raise n Kind.DMA.DMA_BUSY) ∧
  (∀ (s : State) (n : Nat), s.live → n < 32 → s.dev.pageOff (0x20 + n) = false → s.dev.blk (pg .DMA n) ≠ 1 → 
    Completes (.dmaResume n) s fun d =>
      d = s.dev.raise n Kind.DMA.DMA_BUSY) ∧
  (∀ (s : State) (n : Nat), s.live → n < 32 → s.dev.pageOff (0x20 + n) = true → 
    Completes (.dmaStart n) s fun d =>
      d = hostRefused 0x21 ((0x20 + n) * 4096 + 0x4C) s.dev) ∧
  (∀ (s : State) (n : Nat), s.live → n < 32 → s.dev.pageOff (0x20 + n) = true → 
    Completes (.dmaResume n) s fun d =>
      d = hostRefused 0x21 ((0x20 + n) * 4096 + 0x4C) s.dev) ∧
  (∀ (s : State) (n ahead err : Nat) (host : Bytes) (here a cause : Nat) (keep : List (Nat × Bytes)) (d1 : Dev) (got : Bytes), s.live → s.dev.dmaGoes n = true → (s.dev.dma n).cur = none → (s.dev.dma n).move = none → ahead ≤ 2 → s.dev.dmaPc n / 64 = here → ((s.dev.dma n).lines.filter fun l => decide (here ≤ l.1) && decide (l.1 ≤ here + 2)) = keep → (here + ahead) * 64 = a → (if s.dev.is (Reg.DMA.PC.SPACE n) = true ∨ basinSize ≤ a then s.dev else s.dev.basinLoad 2 (dmaMaster n) a 64 err) = d1 → (if s.dev.is (Reg.DMA.PC.SPACE n) = true then (if err = 0 then 0 else 8) else if basinSize ≤ a then 5 else if d1.basinUp = false then 6
      else if d1.badSectors a 64 ≠ [] then 7 else 0) = cause → (if s.dev.is (Reg.DMA.PC.SPACE n) = true then padTo 64 host else d1.basinRead a 64) = got → aget here keep = none → ahead = 0 → cause = 0 → 
    Completes (.instructionFetch n ahead host err) s fun d =>
      d = dmaDecode n got (d1.setDma n { s.dev.dma n with lines := aset here got keep })) ∧
  (∀ (s : State) (n ahead err : Nat) (host : Bytes) (here a cause : Nat) (keep : List (Nat × Bytes)) (d1 : Dev) (got : Bytes), s.live → s.dev.dmaGoes n = true → (s.dev.dma n).cur = none → (s.dev.dma n).move = none → ahead ≤ 2 → s.dev.dmaPc n / 64 = here → ((s.dev.dma n).lines.filter fun l => decide (here ≤ l.1) && decide (l.1 ≤ here + 2)) = keep → (here + ahead) * 64 = a → (if s.dev.is (Reg.DMA.PC.SPACE n) = true ∨ basinSize ≤ a then s.dev else s.dev.basinLoad 2 (dmaMaster n) a 64 err) = d1 → (if s.dev.is (Reg.DMA.PC.SPACE n) = true then (if err = 0 then 0 else 8) else if basinSize ≤ a then 5 else if d1.basinUp = false then 6
      else if d1.badSectors a 64 ≠ [] then 7 else 0) = cause → (if s.dev.is (Reg.DMA.PC.SPACE n) = true then padTo 64 host else d1.basinRead a 64) = got → aget here keep = none → ahead = 0 → cause ≠ 0 → 
    Completes (.instructionFetch n ahead host err) s fun d =>
      d = dmaFail n cause (some (1, if s.dev.is (Reg.DMA.PC.SPACE n) = true then 2 else 0, a)) (d1.put (Reg.DMA.FLAGS.FETCH n) true)) ∧
  (∀ (s : State) (n ahead err : Nat) (host : Bytes) (here a cause : Nat) (keep : List (Nat × Bytes)) (d1 : Dev) (got : Bytes), s.live → s.dev.dmaGoes n = true → (s.dev.dma n).cur = none → (s.dev.dma n).move = none → ahead ≤ 2 → s.dev.dmaPc n / 64 = here → ((s.dev.dma n).lines.filter fun l => decide (here ≤ l.1) && decide (l.1 ≤ here + 2)) = keep → (here + ahead) * 64 = a → (if s.dev.is (Reg.DMA.PC.SPACE n) = true ∨ basinSize ≤ a then s.dev else s.dev.basinLoad 2 (dmaMaster n) a 64 err) = d1 → (if s.dev.is (Reg.DMA.PC.SPACE n) = true then (if err = 0 then 0 else 8) else if basinSize ≤ a then 5 else if d1.basinUp = false then 6
      else if d1.badSectors a 64 ≠ [] then 7 else 0) = cause → (if s.dev.is (Reg.DMA.PC.SPACE n) = true then padTo 64 host else d1.basinRead a 64) = got → aget here keep = none → ahead ≠ 0 → 
    Completes (.instructionFetch n ahead host err) s fun d =>
      d = (if cause = 0 then d1.setDma n { s.dev.dma n with lines := aset (here + ahead) got keep } else d1)) ∧
  (∀ (s : State) (n ahead err : Nat) (host : Bytes) (here a cause : Nat) (keep : List (Nat × Bytes)) (d1 : Dev) (got : Bytes) (l : Bytes), s.live → s.dev.dmaGoes n = true → (s.dev.dma n).cur = none → (s.dev.dma n).move = none → ahead ≤ 2 → s.dev.dmaPc n / 64 = here → ((s.dev.dma n).lines.filter fun l => decide (here ≤ l.1) && decide (l.1 ≤ here + 2)) = keep → (here + ahead) * 64 = a → (if s.dev.is (Reg.DMA.PC.SPACE n) = true ∨ basinSize ≤ a then s.dev else s.dev.basinLoad 2 (dmaMaster n) a 64 err) = d1 → (if s.dev.is (Reg.DMA.PC.SPACE n) = true then (if err = 0 then 0 else 8) else if basinSize ≤ a then 5 else if d1.basinUp = false then 6
      else if d1.badSectors a 64 ≠ [] then 7 else 0) = cause → (if s.dev.is (Reg.DMA.PC.SPACE n) = true then padTo 64 host else d1.basinRead a 64) = got → aget here keep = some l → 
    Completes (.instructionFetch n ahead host err) s fun d =>
      d = dmaDecode n l (d1.setDma n { s.dev.dma n with lines := if ahead = 0 then keep else if cause = 0 then aset (here + ahead) got keep else keep })) ∧
  (∀ (s : State) (n ahead err : Nat) (host : Bytes), s.live → s.dev.dmaGoes n = false ∨ (s.dev.dma n).cur.isSome = true ∨ (s.dev.dma n).move.isSome = true ∨ 2 < ahead → 
    Completes (.instructionFetch n ahead host err) s fun d =>
      d = s.dev) ∧
  (∀ (s : State) (n : Nat), s.live → s.dev.dmaOp n = 0x7F → 
    Completes (.halt n) s fun d =>
      d = dmaEnd n (if s.dev.is (Reg.DMA.FLAGS.DELAYED n) = true then 1 else 0) 0 (dmaNext n (s.dev.set (Reg.DMA.STAT.ARG n) (bits (s.dev.dmaWord n) 15 0))) ∧
        d.is (Reg.DMA.FLAGS.ENDED n) = true ∧ d.get (Reg.DMA.STAT.ARG n) = bits (s.dev.dmaWord n) 15 0 ∧
        d.get (Reg.DMA.STAT.CODE n) = (if s.dev.is (Reg.DMA.FLAGS.DELAYED n) then 1 else 0) ∧ d.evRaw .DMA n 0 = true) ∧
  (∀ (s : State) (n : Nat), s.live → s.dev.dmaOp n ≠ 0x7F → 
    Completes (.halt n) s fun d =>
      d = s.dev) ∧
  (∀ (s : State) (map : Nat), s.live → s.dev.pageOff 0x1F = false → map < 2 ^ 32 → 
    Completes (.killMap map) s fun d =>
      d = (bitList 32 map).foldl (fun d n => blockKill (pg .DMA n) d) s.dev) ∧
  (∀ (s : State) (map : Nat), s.live → s.dev.pageOff 0x1F = true → 
    Completes (.killMap map) s fun d =>
      d = hostRefused 0x21 0x1F050 s.dev)

/-- MOVE of legal addresses starts its transfer, one of length 0 goes on, and one of a bad space, range, alignment or of
a space going off ends the run with its cause; BURST_DONE reads and writes the burst, counts its bytes and goes on,
or ends the run with the cause of the failed access; LOOP_BEGIN opens a level; LOOP_END repeats the body or closes
the level; both end the run with cause 3 out of order; SIGNAL sets the code and EV bit 1; SET writes HOST_BASE, a
whole register or the masked bits of one; NOP goes to the next instruction. On a channel whose instruction is
another, each changes nothing. Completes (exec answers a next state, under hypotheses on state and operands alone):
move, burstDone, loopBegin, loopEnd, signal, set, nop. (R331, R332, R333, R334, R335, R336, R338, R339.) -/
def Obligations.DmaMoves : Prop :=
  (∀ (s : State) (n ssp dsp len : Nat) (a t : Int), s.live → s.dev.dmaOp n = 0x10 → bits (s.dev.dmaWord n) 119 117 = ssp → bits (s.dev.dmaWord n) 116 114 = dsp → bits (s.dev.dmaWord n) 23 0 = len → s.dev.moveAddr n ssp (bits (s.dev.dmaWord n) 111 68) ((s.dev.dma n).loops.map fun l => (l.i : Int) * l.ss) = a → s.dev.moveAddr n dsp (bits (s.dev.dmaWord n) 67 24) ((s.dev.dma n).loops.map fun l => (l.i : Int) * l.ds) = t → sourceSpace ssp = true → destSpace dsp = true → outside ssp a len = false → outside dsp t len = false → misaligned ssp a len = false → misaligned dsp t len = false → len ≠ 0 → s.dev.goingOff ssp a = false → s.dev.goingOff dsp t = false → 
    Completes (.move n) s fun d =>
      d = (s.dev.setDma n { s.dev.dma n with move := some { srcSp := ssp, dstSp := dsp, src := a.toNat, dst := t.toNat, len, at_ := 0 }, edge := false }).request (pg .DMA n)) ∧
  (∀ (s : State) (n ssp dsp len : Nat) (a t : Int), s.live → s.dev.dmaOp n = 0x10 → bits (s.dev.dmaWord n) 119 117 = ssp → bits (s.dev.dmaWord n) 116 114 = dsp → bits (s.dev.dmaWord n) 23 0 = len → s.dev.moveAddr n ssp (bits (s.dev.dmaWord n) 111 68) ((s.dev.dma n).loops.map fun l => (l.i : Int) * l.ss) = a → s.dev.moveAddr n dsp (bits (s.dev.dmaWord n) 67 24) ((s.dev.dma n).loops.map fun l => (l.i : Int) * l.ds) = t → ¬ (sourceSpace ssp = true ∧ destSpace dsp = true ∧ outside ssp a len = false ∧ outside dsp t len = false ∧ misaligned ssp a len = false ∧ misaligned dsp t len = false ∧
      len ≠ 0 ∧ s.dev.goingOff ssp a = false ∧ s.dev.goingOff dsp t = false) → 
    Completes (.move n) s fun d =>
      d = (if (sourceSpace ssp && destSpace dsp) = false then dmaFail n 2 none s.dev else if outside ssp a len = true then dmaFail n 5 (some (1, ssp, ofSigned 64 a)) s.dev
        else if outside dsp t len = true then dmaFail n 5 (some (2, dsp, ofSigned 64 t)) s.dev else if misaligned ssp a len = true then dmaFail n 4 (some (1, ssp, ofSigned 64 a)) s.dev
        else if misaligned dsp t len = true then dmaFail n 4 (some (2, dsp, ofSigned 64 t)) s.dev else if len = 0 then dmaNext n s.dev
        else if s.dev.goingOff ssp a = true then dmaFail n 6 (some (1, ssp, ofSigned 64 a)) s.dev else dmaFail n 6 (some (2, dsp, ofSigned 64 t)) s.dev)) ∧
  (∀ (s : State) (n : Nat), s.live → s.dev.dmaOp n ≠ 0x10 → 
    Completes (.move n) s fun d =>
      d = s.dev) ∧
  (∀ (s : State) (n err late rc : Nat) (m : DmaMove) (host bs : Bytes) (d1 : Dev) (wc : Nat) (d2 : Dev), s.live → (s.dev.dma n).move = some m → (s.dev.dma n).edge = false → s.dev.blk (pg .DMA n) = 2 ∨ s.dev.blk (pg .DMA n) = 3 → s.dev.burstWaits m = false → burstRead s.fuse n m m.unit err host s.dev = (rc, bs, d1) → rc = 0 → burstWrite s.fuse n m (m.data bs) d1 = (wc, d2) → 
    Completes (.burstDone n err late host) s fun d =>
      d = (if wc = 0 then burstEnds n m.unit late m d2 else dmaFail n wc (some (2, m.dstSp, (m.dst + m.at_) % 2 ^ 64)) d2)) ∧
  (∀ (s : State) (n err late rc : Nat) (m : DmaMove) (host bs : Bytes) (d1 : Dev), s.live → (s.dev.dma n).move = some m → (s.dev.dma n).edge = false → s.dev.blk (pg .DMA n) = 2 ∨ s.dev.blk (pg .DMA n) = 3 → s.dev.burstWaits m = false → burstRead s.fuse n m m.unit err host s.dev = (rc, bs, d1) → rc ≠ 0 → 
    Completes (.burstDone n err late host) s fun d =>
      d = dmaFail n rc (some (1, m.srcSp, (m.src + m.at_) % 2 ^ 64)) d1) ∧
  (∀ (s : State) (n err late : Nat) (host : Bytes), s.live → ∀ m ∈ (s.dev.dma n).move, (s.dev.dma n).edge = true ∨ (s.dev.blk (pg .DMA n) ≠ 2 ∧ s.dev.blk (pg .DMA n) ≠ 3) ∨ s.dev.burstWaits m = true → 
    Completes (.burstDone n err late host) s fun d =>
      d = s.dev) ∧
  (∀ (s : State) (n lv : Nat) (ls : List DmaLoop), s.live → s.dev.dmaOp n = 0x20 → (s.dev.dma n).loops = ls → bits (s.dev.dmaWord n) 119 118 = lv → 
    Completes (.loopBegin n) s fun d =>
      d = (if lv ≠ ls.length ∨ 3 ≤ ls.length then dmaFail n 3 none s.dev
        else dmaNext n ((dmaDepth n (ls ++ [({ count := bits (s.dev.dmaWord n) 95 64, ss := toSigned 32 (bits (s.dev.dmaWord n) 63 32), ds := toSigned 32 (bits (s.dev.dmaWord n) 31 0), i := 0, body := s.dev.get (Reg.DMA.PC.ADDR n) + 1 } : DmaLoop)]) s.dev).set (Reg.DMA.IDX.I n lv) 0))) ∧
  (∀ (s : State) (n : Nat), s.live → s.dev.dmaOp n ≠ 0x20 → 
    Completes (.loopBegin n) s fun d =>
      d = s.dev) ∧
  (∀ (s : State) (n lv : Nat) (ls : List DmaLoop) (l : DmaLoop), s.live → s.dev.dmaOp n = 0x21 → (s.dev.dma n).loops = ls ++ [l] → bits (s.dev.dmaWord n) 119 118 = lv → lv = ls.length → l.i + 1 < l.count → 
    Completes (.loopEnd n) s fun d =>
      (let t := dmaDepth n (ls ++ [{ l with i := l.i + 1 }]) (s.dev.set (Reg.DMA.IDX.I n lv) (l.i + 1));
        d = (t.set (Reg.DMA.PC.ADDR n) l.body).setDma n { t.dma n with cur := none }) ∧
        (d.dma n).loops = ls ++ [{ l with i := l.i + 1 }] ∧ d.get (Reg.DMA.PC.ADDR n) = l.body % 2 ^ 60 ∧ (d.dma n).cur = none) ∧
  (∀ (s : State) (n lv : Nat) (ls : List DmaLoop) (l : DmaLoop), s.live → s.dev.dmaOp n = 0x21 → (s.dev.dma n).loops = ls ++ [l] → bits (s.dev.dmaWord n) 119 118 = lv → lv = ls.length → l.count ≤ l.i + 1 → 
    Completes (.loopEnd n) s fun d =>
      d = dmaNext n (dmaDepth n ls (s.dev.set (Reg.DMA.IDX.I n lv) (l.i + 1))) ∧ (d.dma n).loops = ls ∧ d.get (Reg.DMA.PC.ADDR n) = (s.dev.get (Reg.DMA.PC.ADDR n) + 1) % 2 ^ 60 ∧ (d.dma n).cur = none) ∧
  (∀ (s : State) (n : Nat), s.live → s.dev.dmaOp n = 0x21 → (s.dev.dma n).loops = [] ∨ bits (s.dev.dmaWord n) 119 118 + 1 ≠ (s.dev.dma n).loops.length → 
    Completes (.loopEnd n) s fun d =>
      d = dmaFail n 3 none s.dev) ∧
  (∀ (s : State) (n : Nat), s.live → s.dev.dmaOp n ≠ 0x21 → 
    Completes (.loopEnd n) s fun d =>
      d = s.dev) ∧
  (∀ (s : State) (n : Nat), s.live → s.dev.dmaOp n = 0x31 → 
    Completes (.signal n) s fun d =>
      d = dmaNext n ((s.dev.set (Reg.DMA.SIG_CODE.CODE n) (bits (s.dev.dmaWord n) 7 0)).ev .DMA n 1)) ∧
  (∀ (s : State) (n : Nat), s.live → s.dev.dmaOp n ≠ 0x31 → 
    Completes (.signal n) s fun d =>
      d = s.dev) ∧
  (∀ (s : State) (n : Nat), s.live → s.dev.dmaOp n = 0x40 → bits (s.dev.dmaWord n) 119 118 = 1 → 
    Completes (.set n) s fun d =>
      d = dmaNext n (s.dev.set (Reg.DMA.HOST_BASE.ADDR n) (bits (s.dev.dmaWord n) 63 32 * 2 ^ 32 + bits (s.dev.dmaWord n) 31 0))) ∧
  (∀ (s : State) (n : Nat), s.live → s.dev.dmaOp n = 0x40 → bits (s.dev.dmaWord n) 119 118 ≠ 1 → bits (s.dev.dmaWord n) 117 96 % 4 ≠ 0 → 
    Completes (.set n) s fun d =>
      d = dmaFail n 4 (some (2, 3, bits (s.dev.dmaWord n) 117 96)) s.dev) ∧
  (∀ (s : State) (n : Nat), s.live → s.dev.dmaOp n = 0x40 → bits (s.dev.dmaWord n) 119 118 ≠ 1 → bits (s.dev.dmaWord n) 117 96 % 4 = 0 → bits (s.dev.dmaWord n) 63 32 = 0 → 
    Completes (.set n) s fun d =>
      d = dmaNext n s.dev) ∧
  (∀ (s : State) (n code : Nat) (d1 : Dev), s.live → s.dev.dmaOp n = 0x40 → bits (s.dev.dmaWord n) 119 118 ≠ 1 → bits (s.dev.dmaWord n) 117 96 % 4 = 0 → bits (s.dev.dmaWord n) 63 32 = 0xFFFFFFFF → busWrite s.fuse (Party.dma n) (bits (s.dev.dmaWord n) 117 96) (bits (s.dev.dmaWord n) 31 0) s.dev = (code, d1) → 
    Completes (.set n) s fun d =>
      d = (if (d1.dma n).cur ≠ some (s.dev.dmaWord n) then d1
        else if regCause code ≠ 0 then dmaFail n (regCause code) (some (2, 3, bits (s.dev.dmaWord n) 117 96)) d1 else dmaNext n d1)) ∧
  (∀ (s : State) (n x rc code : Nat) (d0 d1 : Dev), s.live → s.dev.dmaOp n = 0x40 → bits (s.dev.dmaWord n) 119 118 ≠ 1 → bits (s.dev.dmaWord n) 117 96 % 4 = 0 → bits (s.dev.dmaWord n) 63 32 ≠ 0 → bits (s.dev.dmaWord n) 63 32 ≠ 0xFFFFFFFF → busRead s.fuse (Party.dma n) (bits (s.dev.dmaWord n) 117 96) s.dev = (x, rc, d0) → (if regCause rc ≠ 0 then (rc, d0) else busWrite s.fuse (Party.dma n) (bits (s.dev.dmaWord n) 117 96) (andNot x (bits (s.dev.dmaWord n) 63 32) ||| (bits (s.dev.dmaWord n) 31 0 &&& bits (s.dev.dmaWord n) 63 32)) d0) = (code, d1) → 
    Completes (.set n) s fun d =>
      d = (if (d1.dma n).cur ≠ some (s.dev.dmaWord n) then d1
        else if regCause code ≠ 0 then dmaFail n (regCause code) (some (2, 3, bits (s.dev.dmaWord n) 117 96)) d1 else dmaNext n d1)) ∧
  (∀ (s : State) (n : Nat), s.live → s.dev.dmaOp n ≠ 0x40 → 
    Completes (.set n) s fun d =>
      d = s.dev) ∧
  (∀ (s : State) (n : Nat), s.live → s.dev.dmaOp n = 0x50 → 
    Completes (.nop n) s fun d =>
      d = dmaNext n s.dev) ∧
  (∀ (s : State) (n : Nat), s.live → s.dev.dmaOp n ≠ 0x50 → 
    Completes (.nop n) s fun d =>
      d = s.dev)

/-- WAIT for an event that has not come sets WAITING, with the time limit of the instruction; WAIT for one that has come
goes on with the next instruction; WAIT for a delay notes the TS of its end; WAIT_RELEASE and WAIT_DELAY_END go on
with the next instruction; WAIT_TIMEOUT ends the channel with cause 0x0C, or goes on where the event has come.
Without a WAIT in force, or with its condition not met, nothing changes. Completes (exec answers a next state, under
hypotheses on state and operands alone): wait, waitRelease, waitTimeout, waitDelayEnd. (R337.) -/
def Obligations.DmaWaits : Prop :=
  (∀ (s : State) (n : Nat), s.live → s.dev.dmaOp n = 0x30 → bits (s.dev.dmaWord n) 119 118 ≠ 2 → s.dev.waitHolds (s.dev.dmaWord n) = false → bits (s.dev.dmaWord n) 31 0 = 0 → 
    Completes (.wait n) s fun d =>
      d = s.dev.put (Reg.DMA.FLAGS.WAITING n) true) ∧
  (∀ (s : State) (n t : Nat), s.live → s.dev.dmaOp n = 0x30 → bits (s.dev.dmaWord n) 119 118 ≠ 2 → s.dev.waitHolds (s.dev.dmaWord n) = false → bits (s.dev.dmaWord n) 31 0 = t → t ≠ 0 → 
    Completes (.wait n) s fun d =>
      d = (s.dev.put (Reg.DMA.FLAGS.WAITING n) true).arm (.dmaWait n) (t * us)) ∧
  (∀ (s : State) (n t : Nat), s.live → s.dev.dmaOp n = 0x30 → bits (s.dev.dmaWord n) 119 118 = 2 → bits (s.dev.dmaWord n) 31 0 = t → 
    Completes (.wait n) s fun d =>
      d = ((s.dev.put (Reg.DMA.FLAGS.WAITING n) true).setDma n { s.dev.dma n with until_ := some ((s.dev.ts + 250 * t) % 2 ^ 64) })) ∧
  (∀ (s : State) (n : Nat), s.live → s.dev.dmaOp n = 0x30 → bits (s.dev.dmaWord n) 119 118 ≠ 2 → s.dev.waitHolds (s.dev.dmaWord n) = true → 
    Completes (.wait n) s fun d =>
      d = waitEnds n s.dev ∧ (d.dma n).cur = none ∧ d.get (Reg.DMA.PC.ADDR n) = (s.dev.get (Reg.DMA.PC.ADDR n) + 1) % 2 ^ 60) ∧
  (∀ (s : State) (n : Nat), s.live → s.dev.dmaOp n ≠ 0x30 → 
    Completes (.wait n) s fun d =>
      d = s.dev) ∧
  (∀ (s : State) (n : Nat), s.live → s.dev.dmaWaits n = true → s.dev.waitHolds (s.dev.dmaWord n) = true → 
    Completes (.waitRelease n) s fun d =>
      d = waitEnds n s.dev ∧ d.is (Reg.DMA.FLAGS.WAITING n) = false ∧ (d.dma n).cur = none ∧ d.get (Reg.DMA.PC.ADDR n) = (s.dev.get (Reg.DMA.PC.ADDR n) + 1) % 2 ^ 60) ∧
  (∀ (s : State) (n : Nat), s.live → s.dev.dmaWaits n = false ∨ s.dev.waitHolds (s.dev.dmaWord n) = false → 
    Completes (.waitRelease n) s fun d =>
      d = s.dev) ∧
  (∀ (s : State) (n t : Nat), s.live → s.dev.dmaWaits n = true → s.dev.due (.dmaWait n) = some t → 
    Completes (.waitTimeout n) s fun d =>
      d = (if ((s.dev.advanceTo t).disarm (.dmaWait n)).waitHolds (((s.dev.advanceTo t).disarm (.dmaWait n)).dmaWord n) = true then waitEnds n ((s.dev.advanceTo t).disarm (.dmaWait n)) else dmaFail n 0x0C none ((s.dev.advanceTo t).disarm (.dmaWait n)))) ∧
  (∀ (s : State) (n t : Nat), s.live → s.dev.dmaWaits n = true → s.dev.due (.dmaWait n) = some t → ((s.dev.advanceTo t).disarm (.dmaWait n)).waitHolds (((s.dev.advanceTo t).disarm (.dmaWait n)).dmaWord n) = false → 
    Completes (.waitTimeout n) s fun d =>
      d.blk (pg .DMA n) = 1 ∧ d.is (Reg.DMA.FLAGS.ENDED n) = true ∧ d.get (Reg.DMA.STAT.CAUSE n) = 0x0C ∧ d.evRaw .DMA n 2 = true) ∧
  (∀ (s : State) (n : Nat), s.live → s.dev.dmaWaits n = false ∨ s.dev.due (.dmaWait n) = none → 
    Completes (.waitTimeout n) s fun d =>
      d = s.dev) ∧
  (∀ (s : State) (n t : Nat), s.live → (s.dev.dma n).until_ = some t → s.dev.inRun (pg .DMA n) = true → 
    Completes (.waitDelayEnd n) s fun d =>
      d = waitEnds n (if (t * tick + tsWrap - s.dev.time.ts) % tsWrap < tsWrap / 2 then s.dev.advance ((t * tick + tsWrap - s.dev.time.ts) % tsWrap) else s.dev)) ∧
  (∀ (s : State) (n : Nat), s.live → (s.dev.dma n).until_ = none ∨ s.dev.inRun (pg .DMA n) = false → 
    Completes (.waitDelayEnd n) s fun d =>
      d = s.dev)

/-- PUSH appends the ENTRY registers to the queue, or counts and raises Q_FULL when the queue is full or takes nothing;
COMPRESSOR_JOB_START takes the oldest entry of an idle engine, shows its tag and starts it, or ends an unsound one
with status 2; COMPRESSOR_JOB_END of a job whose source cannot be read ends it with status 3, and of one that was
read counts its bytes and writes its blocks. With no entry, or no job, nothing changes. Completes (exec answers a
next state, under hypotheses on state and operands alone): push, compressorJobStart, compressorJobEnd. (R358, R359,
R361, R364.) -/
def Obligations.Compressors : Prop :=
  (∀ (s : State) (k : Nat), s.live → k < 4 → s.dev.pageOff (0x41 + k) = false → s.dev.cmpTakes k = true → (s.dev.cmp k).queue.length < 64 → 
    Completes (.push k) s fun d =>
      d = (if (s.dev.setCmp k { s.dev.cmp k with queue := (s.dev.cmp k).queue ++ [s.dev.cmpEntry k] }).enabled (pg .CMP k) = false ∧ (s.dev.setCmp k { s.dev.cmp k with queue := (s.dev.cmp k).queue ++ [s.dev.cmpEntry k] }).blk (pg .CMP k) = 1 then (s.dev.setCmp k { s.dev.cmp k with queue := (s.dev.cmp k).queue ++ [s.dev.cmpEntry k] }).setBlk (pg .CMP k) 4 else (s.dev.setCmp k { s.dev.cmp k with queue := (s.dev.cmp k).queue ++ [s.dev.cmpEntry k] })) ∧
        (d.cmp k).queue = (s.dev.cmp k).queue ++ [s.dev.cmpEntry k] ∧ (d.cmp k).job = (s.dev.cmp k).job) ∧
  (∀ (s : State) (k : Nat), s.live → k < 4 → s.dev.pageOff (0x41 + k) = false → s.dev.cmpTakes k = false ∨ 64 ≤ (s.dev.cmp k).queue.length → 
    Completes (.push k) s fun d =>
      d = (s.dev.bump Reg.CMPC.Q_FULL_CNT.COUNT 1).raise k Kind.CMP.Q_FULL) ∧
  (∀ (s : State) (k : Nat), s.live → k < 4 → s.dev.pageOff (0x41 + k) = true → 
    Completes (.push k) s fun d =>
      d = hostRefused 0x21 ((0x41 + k) * 4096 + 0x44) s.dev) ∧
  (∀ (s : State) (k : Nat) (e : Bytes) (rest : List Bytes), s.live → s.dev.enabled (pg .CMP k) = true → s.dev.blk (pg .CMP k) = 1 ∨ s.dev.blk (pg .CMP k) = 2 → (s.dev.cmp k).job = none → (s.dev.cmp k).queue = e :: rest → 
    Completes (.compressorJobStart k) s fun d =>
      d = (if jobSound e = true then ((((s.dev.setCmp k { queue := rest, job := some e }).setBlk (pg .CMP k) 2).set (Reg.CMP.CUR_TAG.TAG k) (leAt e 4 4)).set (Reg.CMP.CUR_DONE.BYTES k) 0).request (pg .CMP k) else cmpEnd k e 2 0 0 false ((((s.dev.setCmp k { queue := rest, job := some e }).setBlk (pg .CMP k) 2).set (Reg.CMP.CUR_TAG.TAG k) (leAt e 4 4)).set (Reg.CMP.CUR_DONE.BYTES k) 0))) ∧
  (∀ (s : State) (k : Nat), s.live → s.dev.enabled (pg .CMP k) = false ∨ (s.dev.blk (pg .CMP k) ≠ 1 ∧ s.dev.blk (pg .CMP k) ≠ 2) ∨ (s.dev.cmp k).job.isSome = true ∨ (s.dev.cmp k).queue = [] → 
    Completes (.compressorJobStart k) s fun d =>
      d = s.dev) ∧
  (∀ (s : State) (k sp err late : Nat) (host e : Bytes) (d0 d1 : Dev) (whole : Bytes), s.live → (s.dev.cmp k).job = some e → bits (byteAt e 3) 1 0 = sp → (delayed (cmpMaster k) late s.dev).bump (Reg.CMP.DLY_CYC.COUNT k) late = d0 → (if sp = 0 then d0.basinLoad 3 (cmpMaster k) (leAt e 8 8) (leAt e 24 4) err else d0) = d1 → ¬ ((sp = 0 ∧ d1.basinFails (leAt e 8 8) (leAt e 24 4) = true) ∨ (sp = 1 ∧ err ≠ 0)) → (if sp = 0 then d1.basinRead (leAt e 8 8) (leAt e 24 4) else if sp = 1 then padTo (leAt e 24 4) host
      else memRead 0 d1.sed.mem (leAt e 8 8) (leAt e 24 4)) = whole → 
    Completes (.compressorJobEnd k host err late) s fun d =>
      d = cmpFinish k e whole (late != 0)
        ((d1.bump (Reg.CMP.IN_BYTES.COUNT k) (leAt e 24 4)).set (Reg.CMP.CUR_DONE.BYTES k) (leAt e 24 4))) ∧
  (∀ (s : State) (k sp err late : Nat) (host e : Bytes) (d0 d1 : Dev), s.live → (s.dev.cmp k).job = some e → bits (byteAt e 3) 1 0 = sp → (delayed (cmpMaster k) late s.dev).bump (Reg.CMP.DLY_CYC.COUNT k) late = d0 → (if sp = 0 then d0.basinLoad 3 (cmpMaster k) (leAt e 8 8) (leAt e 24 4) err else d0) = d1 → ((sp = 0 ∧ d1.basinFails (leAt e 8 8) (leAt e 24 4) = true) ∨ (sp = 1 ∧ err ≠ 0)) → 
    Completes (.compressorJobEnd k host err late) s fun d =>
      d = cmpFails k e 3 (late != 0) d1) ∧
  (∀ (s : State) (k err late : Nat) (host : Bytes), s.live → (s.dev.cmp k).job = none → 
    Completes (.compressorJobEnd k host err late) s fun d =>
      d = s.dev)

/-- MOT_START without a reason to refuse it begins a move to TARGET and with one is refused; MOT_HOME begins a homing
run, and SET_POS of an axis at rest sets its position, each refused with its reason otherwise; MOT_STOP begins a
stop of a moving axis and QSTOP a quick stop of a moving or stopping one, ending a homing run; STOP_ALL stops every
axis and answers when all are idle. On a page that is off, the write is refused. Completes (exec answers a next
state, under hypotheses on state and operands alone): motStart, motHome, setPos, motStop, qstop, stopAll. (R370,
R373, R374, R376, R383.) -/
def Obligations.MotionCommands : Prop :=
  (∀ (s : State) (a : Nat), s.live → a < 8 → s.dev.pageOff (0x141 + a) = false → s.dev.startReason a = 0 → 
    Completes (.motStart a) s fun d =>
      d = (runCurrent a (((s.dev.put (Reg.MOT.STAT.IN_POS a) false).disarm (.inPos a)).setAxis a { s.dev.axis a with phase := .move, tgt := s.dev.motPos (Reg.MOT.TARGET.POS a), brake := false, kept := false, ends := false, slips := 0, dUse := s.dev.get (Reg.MOT.D_MAX.D a), jUse := max 1 (s.dev.get (Reg.MOT.J_MAX.J a)) }))) ∧
  (∀ (s : State) (a : Nat), s.live → a < 8 → s.dev.pageOff (0x141 + a) = false → s.dev.startReason a ≠ 0 → 
    Completes (.motStart a) s fun d =>
      d = (s.dev.set (Reg.MOT.STAT.REFUSE a) (s.dev.startReason a)).raise a Kind.MOT.MOVE_REFUSED { arg := s.dev.startReason a }) ∧
  (∀ (s : State) (a : Nat), s.live → a < 8 → s.dev.pageOff (0x141 + a) = false → (if s.dev.axisOff a = true then 1 else if s.dev.stopFault = true then 2 else if s.dev.limitAhead a (s.dev.homeDir a) = true then 4 else 0) = 0 → 
    Completes (.motHome a) s fun d =>
      d = (runCurrent a (((s.dev.put (Reg.MOT.STAT.IN_POS a) false).disarm (.inPos a)).setAxis a { s.dev.axis a with phase := .seek, homing := 1, dir := s.dev.homeDir a, from_ := (s.dev.axis a).pos, brake := false, kept := false, ends := false, slips := 0, dUse := s.dev.get (Reg.MOT.D_MAX.D a), jUse := max 1 (s.dev.get (Reg.MOT.J_MAX.J a)) })).put (Reg.MOT.STAT.HOMING a) true ∧ (d.axis a).phase = AxisPhase.seek ∧ (d.axis a).homing = 1 ∧ (d.axis a).from_ = (s.dev.axis a).pos ∧
        (d.axis a).dir = s.dev.homeDir a ∧ d.is (Reg.MOT.STAT.HOMING a) = true) ∧
  (∀ (s : State) (a r : Nat), s.live → a < 8 → s.dev.pageOff (0x141 + a) = false → (if s.dev.axisOff a = true then 1 else if s.dev.stopFault = true then 2 else if s.dev.limitAhead a (s.dev.homeDir a) = true then 4 else 0) = r → r ≠ 0 → 
    Completes (.motHome a) s fun d =>
      d = (s.dev.set (Reg.MOT.STAT.REFUSE a) r).raise a Kind.MOT.MOVE_REFUSED { arg := r }) ∧
  (∀ (s : State) (a : Nat), s.live → a < 8 → s.dev.pageOff (0x141 + a) = false → (if s.dev.axisOff a = true then 1 else if s.dev.stopFault = true then 2 else if (s.dev.axis a).moving = true ∨ (s.dev.axis a).phase ≠ AxisPhase.idle then 7 else 0) = 0 → 
    Completes (.setPos a) s fun d =>
      d = s.dev.setAxis a { s.dev.axis a with pos := s.dev.motPos (Reg.MOT.POS_SET.POS a) }) ∧
  (∀ (s : State) (a r : Nat), s.live → a < 8 → s.dev.pageOff (0x141 + a) = false → (if s.dev.axisOff a = true then 1 else if s.dev.stopFault = true then 2 else if (s.dev.axis a).moving = true ∨ (s.dev.axis a).phase ≠ AxisPhase.idle then 7 else 0) = r → r ≠ 0 → 
    Completes (.setPos a) s fun d =>
      d = (s.dev.set (Reg.MOT.STAT.REFUSE a) r).raise a Kind.MOT.MOVE_REFUSED { arg := r }) ∧
  (∀ (s : State) (a : Nat), s.live → a < 8 → s.dev.pageOff (0x141 + a) = false → 
    Completes (.motStop a) s fun d =>
      d = (if (s.dev.axis a).phase = AxisPhase.idle ∨ (s.dev.axis a).homing = 0 ∧ ((s.dev.axis a).phase = AxisPhase.stop ∨ (s.dev.axis a).phase = AxisPhase.quick) then s.dev
        else homingEnds a (s.dev.setAxis a { s.dev.axis a with phase := (if (s.dev.axis a).phase = AxisPhase.quick then .quick else .stop), ends := true }))) ∧
  (∀ (s : State) (a : Nat), s.live → a < 8 → s.dev.pageOff (0x141 + a) = false → 
    Completes (.qstop a) s fun d =>
      d = (if (s.dev.axis a).phase = AxisPhase.move ∨ (s.dev.axis a).phase = AxisPhase.seek ∨ (s.dev.axis a).phase ≠ AxisPhase.idle ∧ (s.dev.axis a).homing ≠ 0 then homingEnds a (s.dev.setAxis a { s.dev.axis a with phase := .quick, ends := true })
        else if (s.dev.axis a).phase = AxisPhase.stop then s.dev.setAxis a { s.dev.axis a with phase := .quick } else s.dev)) ∧
  (∀ (s : State) (d1 : Dev), s.live → s.dev.pageOff 0x140 = false → (let t := (List.range 8).foldl (fun d a => axisStop a false d) s.dev; { t with motc := { t.motc with stopAll := true } }) = d1 → 
    Completes (.stopAll) s fun d =>
      d = (if (∀ a ∈ List.range 8, (d1.axis a).phase = AxisPhase.idle) then ({ d1 with motc := { d1.motc with stopAll := false } }).ev .MOTC 0 2 else d1)) ∧
  (∀ s : State, s.live → s.dev.pageOff 0x140 = false → ∀ a ∈ List.range 8, (s.dev.axis a).phase = AxisPhase.idle → s.dev.motc.stopAll = false → 
    Completes (.stopAll) s fun d =>
      d = s.dev.ev .MOTC 0 2) ∧
  (∀ s : State, s.live → s.dev.pageOff 0x140 = true → 
    Completes (.stopAll) s fun d =>
      d = hostRefused 0x21 0x140044 s.dev) ∧
  (∀ (s : State) (a : Nat), s.live → a < 8 → s.dev.pageOff (0x141 + a) = true → 
    Completes (.motStart a) s fun d =>
      d = hostRefused 0x21 ((0x141 + a) * 4096 + 0x48) s.dev) ∧
  (∀ (s : State) (a : Nat), s.live → a < 8 → s.dev.pageOff (0x141 + a) = true → 
    Completes (.motHome a) s fun d =>
      d = hostRefused 0x21 ((0x141 + a) * 4096 + 0x48) s.dev) ∧
  (∀ (s : State) (a : Nat), s.live → a < 8 → s.dev.pageOff (0x141 + a) = true → 
    Completes (.setPos a) s fun d =>
      d = hostRefused 0x21 ((0x141 + a) * 4096 + 0x48) s.dev) ∧
  (∀ (s : State) (a : Nat), s.live → a < 8 → s.dev.pageOff (0x141 + a) = true → 
    Completes (.motStop a) s fun d =>
      d = hostRefused 0x21 ((0x141 + a) * 4096 + 0x48) s.dev) ∧
  (∀ (s : State) (a : Nat), s.live → a < 8 → s.dev.pageOff (0x141 + a) = true → 
    Completes (.qstop a) s fun d =>
      d = hostRefused 0x21 ((0x141 + a) * 4096 + 0x48) s.dev)

/-- PLANNER_TICK plans every axis, waits 8 µs more and answers a STOP_ALL whose axes are idle; IN_POS of an axis at rest
sets IN_POS and EV bit 0; HOLD_CURRENT gives the axis its holding current; PWM_PERIOD over the overcurrent limit
stops the axis at once, and otherwise counts periods of an open phase and stops the axis at the sixteenth;
LIMIT_EDGE of a level that does not change the switch does nothing, and any other counts chatter, latches the
position at the first trip, starts the debounce or clears the flag; LIMIT_TRIP acts on a switch still tripped.
SPIT_GO outside SERVICE mode, or while a burst runs or the block is off, only raises SPIT_REFUSED; otherwise every
ready selected port has its cycles and every other one is cut; SPIT_CYCLE of a ready port builds a spit cycle and
counts it, of another cuts it; SPIT_STOP ends the burst and counts the ports cut. Completes (exec answers a next
state, under hypotheses on state and operands alone): plannerTick, inPos, holdCurrent, pwmPeriod, limitEdge,
limitTrip, spitGo, spitCycle, spitStop. (R370, R378, R379, R382, R384, R385, R386, R387.) -/
def Obligations.MotionEvents : Prop :=
  (∀ (s : State) (loads : List Nat) (d1 : Dev), s.live → (List.range 8).foldl (fun d a => axisPlan a (nth 1023 loads a) d) ((s.dev.advanceTo ((s.dev.due .planner).getD s.dev.time.up)).arm .planner (8 * us)) = d1 → 
    Completes (.plannerTick loads) s fun d =>
      d = (if d1.motc.stopAll = true ∧ (∀ a ∈ List.range 8, (d1.axis a).phase = AxisPhase.idle) then ({ d1 with motc := { d1.motc with stopAll := false } }).ev .MOTC 0 2 else d1)) ∧
  (∀ (s : State) (a t : Nat), s.live → s.dev.due (.inPos a) = some t → 
    Completes (.inPos a) s fun d =>
      d = (if (s.dev.axis a).moving = true then ((s.dev.advanceTo t).disarm (.inPos a)) else (((s.dev.advanceTo t).disarm (.inPos a)).put (Reg.MOT.STAT.IN_POS a) true).ev .MOT a 0)) ∧
  (∀ (s : State) (a : Nat), s.live → s.dev.due (.inPos a) = none → 
    Completes (.inPos a) s fun d =>
      d = s.dev) ∧
  (∀ (s : State) (a t : Nat), s.live → s.dev.due (.hold a) = some t → 
    Completes (.holdCurrent a) s fun d =>
      d = (if (s.dev.axis a).moving = true ∨ s.dev.is (Reg.MOT.STAT.OFF a) = true then ((s.dev.advanceTo t).disarm (.hold a)) else ((s.dev.advanceTo t).disarm (.hold a)).set (Reg.MOT.LOAD.I_ACT a) (s.dev.get (Reg.MOT.CURRENT.I_HOLD a)))) ∧
  (∀ (s : State) (a : Nat), s.live → s.dev.due (.hold a) = none → 
    Completes (.holdCurrent a) s fun d =>
      d = s.dev) ∧
  (∀ (s : State) (a phase code : Nat) (c i : Int), s.live → s.dev.is (Reg.MOT.STAT.OFF a) = false → max 0 ((code : Int) + s.dev.trim 13 (2 * a + phase)) = c → c * (s.dev.get (Reg.MOT.SENSE_CFG.FS_MA a) : Nat) / 4095 = i → ((s.dev.get (Reg.MOT.SENSE_CFG.OC_LIM a) : Nat) : Int) < i → 
    Completes (.pwmPeriod a phase code) s fun d =>
      d = overcurrent a s.dev) ∧
  (∀ (s : State) (a phase code q : Nat) (low : Bool) (c i : Int) (d1 : Dev), s.live → s.dev.is (Reg.MOT.STAT.OFF a) = false → max 0 ((code : Int) + s.dev.trim 13 (2 * a + phase)) = c → c * (s.dev.get (Reg.MOT.SENSE_CFG.FS_MA a) : Nat) / 4095 = i → i ≤ ((s.dev.get (Reg.MOT.SENSE_CFG.OC_LIM a) : Nat) : Int) → (decide (s.dev.get (Reg.MOT.CURRENT.I_RUN a) ≤ 4 * (s.dev.setPoint a phase).natAbs) && decide (8 * i < (s.dev.setPoint a phase).natAbs)) = low → (if low then nth 0 (s.dev.axis a).opens phase + 1 else 0) = q → (let x := s.dev.axis a; { s.dev.drawn with axes := tset Axis.init a { x with opens := setNth (if q = 16 then 0 else q) x.opens phase, duty := setNth (Config.freeValue s.dev.free) x.duty phase } s.dev.axes }) = d1 → 
    Completes (.pwmPeriod a phase code) s fun d =>
      d = (if q = 16 then (axisStop a false d1).raise a Kind.MOT.OPEN_PHASE { arg := phase } else d1)) ∧
  (∀ (s : State) (a phase code : Nat), s.live → s.dev.is (Reg.MOT.STAT.OFF a) = true → 
    Completes (.pwmPeriod a phase code) s fun d =>
      d = s.dev) ∧
  (∀ (s : State) (a lim dt : Nat) (high : Bool), s.live → lim < 2 → nth false (s.dev.axis a).raw lim = (high != (s.dev.get (Reg.MOT.CFG.LIM_POL a)).testBit lim) → 
    Completes (.limitEdge a lim high dt) s fun d =>
      d = s.dev.advance dt) ∧
  (∀ (s : State) (a lim dt q : Nat) (high tripped fresh : Bool) (x : Axis) (d0 d1 d2 d3 : Dev), s.live → lim < 2 → (high != (s.dev.get (Reg.MOT.CFG.LIM_POL a)).testBit lim) = tripped → s.dev.advance dt = d0 → nth false (d0.axis a).raw lim ≠ tripped → decide (nth 0 (d0.axis a).winEnd lim ≤ d0.time.up) = fresh → (if fresh then 1 else nth 0 (d0.axis a).edges lim + 1) = q → (let x := d0.axis a; { x with raw := setNth tripped x.raw lim, edges := setNth q x.edges lim, winEnd := if fresh then setNth (d0.time.up + d0.debounce a) x.winEnd lim else x.winEnd }) = x → (if (tripped && fresh && !d0.is (limitFlag a lim)) = true then
      (({ d0 with axes := tset Axis.init a x d0.axes } : Dev).set (Reg.MOT.LATCH_POS.POS a) (d0.get (Reg.MOT.POS.POS a))).set (Reg.MOT.LATCH_SRC.SRC a) lim
    else { d0 with axes := tset Axis.init a x d0.axes }) = d1 → (if tripped = true ∧ x.homing = 1 ∧ d1.get (Reg.MOT.CFG.HOME_MODE a) = lim then homeReference a false d1 else d1) = d2 → (if q = d2.get (Reg.MOT.DEBOUNCE.CHATTER a) + 1 ∧ fresh = false then d2.raise a Kind.MOT.SWITCH_UNRELIABLE { arg := lim } else d2) = d3 → 
    Completes (.limitEdge a lim high dt) s fun d =>
      d = (if tripped = true then (if d3.debounce a = 0 then limitActs a lim d3 else d3.arm (.debounce a lim) (d3.debounce a))
        else (d3.put (limitFlag a lim) false).disarm (.debounce a lim))) ∧
  (∀ (s : State) (a lim : Nat), s.live → lim < 2 → nth false (s.dev.axis a).raw lim = false → (s.dev.get (Reg.MOT.CFG.LIM_POL a)).testBit lim = false → nth 0 (s.dev.axis a).winEnd lim ≤ s.dev.time.up → s.dev.is (limitFlag a lim) = false → (s.dev.axis a).homing = 0 → s.dev.debounce a ≠ 0 → 
    Completes (.limitEdge a lim true 0) s fun d =>
      d.get (Reg.MOT.LATCH_POS.POS a) = s.dev.get (Reg.MOT.POS.POS a) % 2 ^ 32 ∧ d.get (Reg.MOT.LATCH_SRC.SRC a) = lim ∧ d.running (.debounce a lim) = true) ∧
  (∀ (s : State) (a lim t : Nat), s.live → s.dev.due (.debounce a lim) = some t → 
    Completes (.limitTrip a lim) s fun d =>
      d = (if nth false (s.dev.axis a).raw lim = true then limitActs a lim ((s.dev.advanceTo t).disarm (.debounce a lim)) else ((s.dev.advanceTo t).disarm (.debounce a lim)))) ∧
  (∀ (s : State) (a lim t : Nat), s.live → lim < 2 → s.dev.due (.debounce a lim) = some t → nth false (s.dev.axis a).raw lim = true → (s.dev.axis a).vel = 0 → 
    Completes (.limitTrip a lim) s fun d =>
      d = ((s.dev.advanceTo t).disarm (.debounce a lim)).put (limitFlag a lim) true) ∧
  (∀ (s : State) (a lim : Nat), s.live → s.dev.due (.debounce a lim) = none → 
    Completes (.limitTrip a lim) s fun d =>
      d = s.dev) ∧
  (∀ s : State, s.live → s.dev.pageOff 0x140 = false → (s.dev.mode ≠ 1 ∨ s.dev.is Reg.MOTC.SPIT_STAT.BUSY = true ∨ s.dev.enabled (pg .MOTC 0) = false ∨ s.dev.refuses (pg .MOTC 0) = true) → 
    Completes (.spitGo) s fun d =>
      d = s.dev.raise 0 Kind.MOTC.SPIT_REFUSED) ∧
  (∀ (s : State) (d1 : Dev), s.live → s.dev.pageOff 0x140 = false → ¬ (s.dev.mode ≠ 1 ∨ s.dev.is Reg.MOTC.SPIT_STAT.BUSY = true ∨ s.dev.enabled (pg .MOTC 0) = false ∨ s.dev.refuses (pg .MOTC 0) = true) → (let t := s.dev.put Reg.MOTC.SPIT_STAT.BUSY true; { t with motc := { t.motc with ending := false, spits := ((bitList 64 (s.dev.get Reg.MOTC.SPIT_PORTS.PORTS)).filter s.dev.spitReady).map fun n => (n, (max 1 (s.dev.get Reg.MOTC.SPIT_CFG.COUNT), s.dev.time.up)) } }) = d1 → 
    Completes (.spitGo) s fun d =>
      d = spitSync (((bitList 64 (s.dev.get Reg.MOTC.SPIT_PORTS.PORTS)).filter fun n => !d1.spitReady n).foldl spitCut d1)) ∧
  (∀ s : State, s.live → s.dev.pageOff 0x140 = false → s.dev.mode = 1 → s.dev.is Reg.MOTC.SPIT_STAT.BUSY = false → s.dev.enabled (pg .MOTC 0) = true → s.dev.refuses (pg .MOTC 0) = false → ∀ n ∈ bitList 64 (s.dev.get Reg.MOTC.SPIT_PORTS.PORTS), s.dev.spitReady n = true → s.dev.get Reg.MOTC.SPIT_PORTS.PORTS % 2 ^ 64 ≠ 0 → 
    Completes (.spitGo) s fun d =>
      d.is Reg.MOTC.SPIT_STAT.BUSY = true ∧ d.motc.ending = false ∧
        d.motc.spits = (bitList 64 (s.dev.get Reg.MOTC.SPIT_PORTS.PORTS)).map fun n => (n, (max 1 (s.dev.get Reg.MOTC.SPIT_CFG.COUNT), s.dev.time.up))) ∧
  (∀ s : State, s.live → s.dev.pageOff 0x140 = true → 
    Completes (.spitGo) s fun d =>
      d = hostRefused 0x21 0x140054 s.dev) ∧
  (∀ (s : State) (n left due : Nat) (g : Geom) (d1 : Dev), s.live → s.dev.spitOf n = some (left, due) → s.dev.geom n = some g → left ≠ 0 → s.dev.spitting n = false → s.dev.runs (pg .MOTC 0) = true → s.dev.advanceTo due = d1 → d1.spitReady n = true → 
    Completes (.spitCycle n) s fun d =>
      d = spitBuild n g { d1 with motc := { d1.motc with spits := aset n (left - 1, d1.time.up + max (d1.get Reg.MOTC.SPIT_CFG.PERIOD_US * us) (d1.tMin n (d1.wavesNow n))) d1.motc.spits } }) ∧
  (∀ (s : State) (n left due : Nat) (g : Geom) (d1 : Dev), s.live → s.dev.spitOf n = some (left, due) → s.dev.geom n = some g → left ≠ 0 → s.dev.spitting n = false → s.dev.runs (pg .MOTC 0) = true → s.dev.advanceTo due = d1 → d1.spitReady n = false → 
    Completes (.spitCycle n) s fun d =>
      d = spitSync (spitCut d1 n)) ∧
  (∀ (s : State) (n left due : Nat), s.live → s.dev.spitOf n = some (left, due) → s.dev.geom n = none → 
    Completes (.spitCycle n) s fun d =>
      d = spitSync (spitCut s.dev n)) ∧
  (∀ (s : State) (n : Nat), s.live → s.dev.spitOf n = none ∨ ((s.dev.geom n).isSome = true ∧ (∃ x ∈ s.dev.spitOf n, x.1 = 0 ∨ s.dev.spitting n = true ∨ s.dev.runs (pg .MOTC 0) = false)) → 
    Completes (.spitCycle n) s fun d =>
      d = s.dev) ∧
  (∀ (s : State) (l : List (Nat × Nat × Nat)), s.live → s.dev.pageOff 0x140 = false → s.dev.is Reg.MOTC.SPIT_STAT.BUSY = true → s.dev.motc.spits = l → 
    Completes (.spitStop) s fun d =>
      d = spitSync ((l.filter fun (x : Nat × Nat × Nat) => decide (x.2.1 ≠ 0)).foldl (fun (d : Dev) (x : Nat × Nat × Nat) => (d.bump Reg.MOTC.SPIT_STAT.CUT 1).raise 0 Kind.MOTC.SPIT_REFUSED { port := x.1 })
        { s.dev with motc := { s.dev.motc with ending := true, spits := l.map fun (x : Nat × Nat × Nat) => (x.1, (0, x.2.2)) } })) ∧
  (∀ s : State, s.live → s.dev.pageOff 0x140 = false → s.dev.is Reg.MOTC.SPIT_STAT.BUSY = true → s.dev.motc.spits = [] → 
    Completes (.spitStop) s fun d =>
      d.is Reg.MOTC.SPIT_STAT.BUSY = false ∧ d.motc.ending = false ∧ d.evRaw .MOTC 0 0 = true) ∧
  (∀ s : State, s.live → s.dev.pageOff 0x140 = false → s.dev.is Reg.MOTC.SPIT_STAT.BUSY = false → 
    Completes (.spitStop) s fun d =>
      d = s.dev) ∧
  (∀ s : State, s.live → s.dev.pageOff 0x140 = true → 
    Completes (.spitStop) s fun d =>
      d = hostRefused 0x21 0x140054 s.dev)

/-- FAULT_MESSAGE takes the oldest message of the collector; ACK_SLOT frees a freeable slot and no other, ACK_ALL every
freeable one; ACK_MEMO drops the held dump; SAFE_IN, KICK, KICK_MISSED, FLT_INTERNAL and RIPPLE_TOGGLE drive the
collector; QUIET_EXIT frees the slots up to severity 4 where a quiet exit is allowed; INJECT puts a marked message,
of severity 0 where the pair is not known, and is denied without the level bit; POL_QUERY shows the policy;
FAULT_RESET with its key below level 5 restarts at B3. Where their condition does not hold, nothing changes. A
guarded field that the write repeats is no denial (R37). Completes (exec answers a next state, under hypotheses on
state and operands alone): faultMessage, ackSlot, ackAll, ackMemo, safeIn, rippleToggle, kick, kickMissed,
fltInternal, quietExit, inject, polQuery, faultReset. (R393, R394, R404, R405, R406, R407, R408, R409.) -/
def Obligations.FaultMessages : Prop :=
  (∀ (s : State) (m : FaultMsg) (rest : List FaultMsg), s.live → s.dev.flt.inbox = m :: rest → 
    Completes (.faultMessage) s fun d =>
      d = applyMsg m { s.dev with flt := { s.dev.flt with inbox := rest } }) ∧
  (∀ s : State, s.live → s.dev.flt.inbox = [] → 
    Completes (.faultMessage) s fun d =>
      d = s.dev) ∧
  (∀ (s : State) (i : Nat) (x : Slot), s.live → s.dev.pageOff 5 = false → i < 64 → aget i s.dev.flt.slots = some x → s.dev.freeable x.sev = true → 
    Completes (.ackSlot i) s fun d =>
      d = levelSync { s.dev.set Reg.FLT.ACK.SLOT i with flt := { s.dev.flt with slots := adel i s.dev.flt.slots } } ∧ d.flt.slots = adel i s.dev.flt.slots) ∧
  (∀ (s : State) (i : Nat), s.live → s.dev.pageOff 5 = false → i < 64 → ∀ x ∈ aget i s.dev.flt.slots, s.dev.freeable x.sev = false → 
    Completes (.ackSlot i) s fun d =>
      d = s.dev.set Reg.FLT.ACK.SLOT i) ∧
  (∀ s : State, s.live → s.dev.pageOff 5 = false → s.dev.get Reg.FLT.ACK.SLOT < 64 → 
    Completes (.ackAll) s fun d =>
      d = levelSync (freeSlots s.dev.freeable s.dev) ∧ d.flt.slots = s.dev.flt.slots.filter (fun (x : Nat × Slot) => !s.dev.freeable x.2.sev)) ∧
  (∀ s : State, s.live → s.dev.pageOff 5 = false → s.dev.get Reg.FLT.ACK.SLOT < 64 → 
    Completes (.ackMemo) s fun d =>
      d = { s.dev with flt := { s.dev.flt with memoHeld := false } }) ∧
  (∀ s : State, s.live → 
    Completes (.safeIn) s fun d =>
      d = (if s.dev.flt.safeInLow = true then s.dev else ({ s.dev with flt := { s.dev.flt with safeInLow := true } }).raise 0 Kind.FLT.SAFE_IN)) ∧
  (∀ (s : State) (d1 : Dev), s.live → (s.dev.advanceTo ((s.dev.due .ripple).getD s.dev.time.up)).arm .ripple s.dev.rippleHalf = d1 → 
    Completes (.rippleToggle) s fun d =>
      d = (if d1.rippleCause = true then d1 else ({ d1 with flt := { d1.flt with ripple := !d1.flt.ripple } }).emit (.pin Pin.ripple 0 (b2n (!d1.flt.ripple))))) ∧
  (∀ (s : State) (d1 : Dev), s.live → s.dev.pageOff 5 = false → levelSync { s.dev with flt := { s.dev.flt with kickMissed := false } } = d1 → 
    Completes (.kick) s fun d =>
      d = (if d1.is Reg.FLT.RIPPLE.KICK_EN = true then d1.arm .kick (max 1 (d1.get Reg.FLT.RIPPLE.KICK_MS) * ms) else d1.disarm .kick) ∧ d.flt.kickMissed = false) ∧
  (∀ (s : State) (t : Nat), s.live → s.dev.due .kick = some t → 
    Completes (.kickMissed) s fun d =>
      d = (if s.dev.is Reg.FLT.RIPPLE.KICK_EN = true then levelSync (({ ((s.dev.advanceTo t).disarm .kick) with flt := { ((s.dev.advanceTo t).disarm .kick).flt with kickMissed := true } }).raise 0 Kind.FLT.KICK_MISSED) else ((s.dev.advanceTo t).disarm .kick))) ∧
  (∀ s : State, s.live → s.dev.due .kick = none → 
    Completes (.kickMissed) s fun d =>
      d = s.dev) ∧
  (∀ s : State, s.live → 
    Completes (.fltInternal) s fun d =>
      d = levelSync (({ s.dev with flt := { s.dev.flt with selfCheck := true } }).raise 0 Kind.FLT.FLT_INTERNAL)) ∧
  (∀ (s : State) (d1 : Dev), s.live → ¬ (s.dev.quietMs = 0 ∨ s.dev.level ≠ 4 ∨ s.dev.flt.safeInLow = true ∨ s.dev.flt.pfailLow = true ∨
      ¬ (s.dev.get Reg.FLT.QUIET.RECOV_MAX = 0 ∨ s.dev.get Reg.FLT.RECOV_CNT.COUNT < s.dev.get Reg.FLT.QUIET.RECOV_MAX)) → s.dev.advanceTo (s.dev.flt.calmSince + s.dev.quietMs * ms) = d1 → 
    Completes (.quietExit) s fun d =>
      d = levelSync (((freeSlots (fun x => decide (x ≤ 4)) d1).bump Reg.FLT.RECOV_CNT.COUNT 1).ev .FLT 0 5)) ∧
  (∀ s : State, s.live → (s.dev.quietMs = 0 ∨ s.dev.level ≠ 4 ∨ s.dev.flt.safeInLow = true ∨ s.dev.flt.pfailLow = true ∨
      ¬ (s.dev.get Reg.FLT.QUIET.RECOV_MAX = 0 ∨ s.dev.get Reg.FLT.RECOV_CNT.COUNT < s.dev.get Reg.FLT.QUIET.RECOV_MAX)) → 
    Completes (.quietExit) s fun d =>
      d = s.dev) ∧
  (∀ (s : State) (source kind sev page : Nat) (d1 : Dev), s.live → s.dev.pageOff 5 = false → s.dev.is (Reg.HDR.LEVEL 5) = true ∨ (s.dev.get Reg.FLT.INJECT.SOURCE = source ∧ s.dev.get Reg.FLT.INJECT.KIND = kind ∧ s.dev.get Reg.FLT.INJECT.SEV = sev) → source < 256 → kind < 256 → sev < 8 → (match sourceBits source with | t :: _ => pg t.1 t.2.1 | [] => pg .FLT 0) = page → ((s.dev.set Reg.FLT.INJECT.SOURCE source).set Reg.FLT.INJECT.KIND kind).set Reg.FLT.INJECT.SEV sev = d1 → 
    Completes (.inject source kind sev) s fun d =>
      d = { d1 with flt := { d1.flt with inbox := d1.flt.inbox ++ [{ mkMsg page source kind (if d1.pairKnown source kind = true then min 5 sev else 0, (d1.policyOf source kind (defaultSev source kind)).2) {} false with injected := true }] } }) ∧
  (∀ (s : State) (source kind sev : Nat), s.live → s.dev.pageOff 5 = false → s.dev.is (Reg.HDR.LEVEL 5) = true ∨ (s.dev.get Reg.FLT.INJECT.SOURCE = source ∧ s.dev.get Reg.FLT.INJECT.KIND = kind ∧ s.dev.get Reg.FLT.INJECT.SEV = sev) → source < 256 → kind < 256 → sev < 6 → s.dev.pairKnown source kind = true → 
    Completes (.inject source kind sev) s fun d =>
      d.flt.inbox.length = s.dev.flt.inbox.length + 1 ∧ d.flt.inbox.take s.dev.flt.inbox.length = s.dev.flt.inbox ∧
        d.flt.inbox.getLast?.map (fun (m : FaultMsg) => (m.source, m.kind, m.sev, m.injected)) = some (source, kind, sev, true)) ∧
  (∀ (s : State) (source kind sev : Nat), s.live → s.dev.pageOff 5 = false → s.dev.is (Reg.HDR.LEVEL 5) = false → s.dev.get Reg.FLT.INJECT.SOURCE ≠ source ∨ s.dev.get Reg.FLT.INJECT.KIND ≠ kind ∨ s.dev.get Reg.FLT.INJECT.SEV ≠ sev → source < 256 → kind < 256 → sev < 8 → 
    Completes (.inject source kind sev) s fun d =>
      d = discarded Kind.SYS.LEVEL_DENIED Party.host true 0x5400 s.dev) ∧
  (∀ (s : State) (source kind : Nat), s.live → s.dev.pageOff 5 = false → source < 256 → kind < 256 → ¬(source = 152 ∧ kind = 6) → 
    Completes (.polQuery source kind) s fun d =>
      d = (s.dev.set Reg.FLT.POL_QUERY.SOURCE source).set Reg.FLT.POL_QUERY.KIND kind ∧ d.value s.fuse 0 .FLT Reg.FLT.POL_QUERY.SEV = (s.dev.policyOf source kind (defaultSev source kind)).1 ∧
        d.value s.fuse 0 .FLT Reg.FLT.POL_QUERY.CEIL = (s.dev.policyOf source kind (defaultSev source kind)).2) ∧
  (∀ s : State, s.live → s.dev.pageOff 5 = false → 
    Completes (.polQuery 152 6) s fun d =>
      d = (((s.dev.set Reg.FLT.POL_QUERY.SOURCE 152).set Reg.FLT.POL_QUERY.KIND 6).drawn).set Reg.FLT.POL_QUERY.SEV (Config.freeValue s.dev.free) ∧
        d.value s.fuse 0 .FLT Reg.FLT.POL_QUERY.CEIL = s.dev.get Reg.EMR.FAULT_CFG.CAP) ∧
  (∀ (s : State) (key : Nat), s.live → s.dev.pageOff 5 = false → key < 2 ^ 32 → key % 65536 = 0xF4E7 → s.dev.level ≠ 5 → 
    Completes (.faultReset key) s fun d =>
      d = restartB3 false s.dev) ∧
  (∀ (s : State) (key : Nat), s.live → s.dev.pageOff 5 = false → key < 2 ^ 32 → key % 65536 ≠ 0xF4E7 ∨ s.dev.level = 5 → 
    Completes (.faultReset key) s fun d =>
      d = s.dev) ∧
  (∀ (s : State) (i a b : Nat), s.live → s.dev.pageOff 5 = true → (∀ k ∈ ([(.ackSlot i, 0x5044), (.ackAll, 0x5044), (.ackMemo, 0x5044), (.kick, 0x5088), (.inject a b i, 0x5400), (.polQuery a b, 0x509C), (.faultReset i, 0x508C)] : List (Instr × Nat)),
      Completes k.1 s fun d => d = hostRefused 0x21 k.2 s.dev))

/-- SEDIMENT_RECORD stores the oldest waiting record under the next sequence number, or freezes the log before a
protected one; FREEZE_COUNT_END and FREEZE freeze the log, counting the waiting records as lost; RELEASE thaws it;
PFAIL ends a command of the security block that programs no fuse, raises PFAIL and takes the messages that wait;
DUMP_START, DUMP_PAGE and DUMP_END program a dump, or end it where it may not start or a page fails; DUMP_CLEAR and
DUMP_ERASE_DONE clear its region; PFAIL_SHED turns off the domains of the shed mask. Where there is nothing to
store, freeze, program or clear, nothing changes. Completes (exec answers a next state, under hypotheses on state
and operands alone): sedimentRecord, freezeCountEnd, freeze, release, dumpClear, dumpEraseDone, pfail, dumpStart,
dumpPage, dumpEnd, pfailShed. (R414, R415, R417, R418, R419, R470.) -/
def Obligations.SedimentLog : Prop :=
  (∀ (s : State) (r : SedRec) (rest : List SedRec) (d0 d1 : Dev), s.live → s.dev.sed.fifo = r :: rest → s.dev.sed.post ≠ some 0 → s.dev.sedProtected (s.dev.get Reg.SED.HEAD.SEQ) = false → ({ s.dev with sed := { s.dev.sed with fifo := rest } } : Dev) = d0 → (d0.set Reg.SED.HEAD.SEQ ((s.dev.get Reg.SED.HEAD.SEQ + 1) % 65536)).bump Reg.SED.TOTAL.COUNT 1 = d1 → 
    Completes (.sedimentRecord) s fun d =>
      d = { d1 with sed := { d1.sed with mem := memWrite 0 (32 * (s.dev.get Reg.SED.HEAD.SEQ % 32768)) (sedBytes (s.dev.get Reg.SED.HEAD.SEQ) r) s.dev.sed.mem, post := match s.dev.sed.post with | some k => some (k - 1) | none => if r.trigger then some (d1.get Reg.SED.FREEZE_CFG.POST) else none } } ∧
        d.sed.fifo = rest ∧ d.get Reg.SED.HEAD.SEQ = (s.dev.get Reg.SED.HEAD.SEQ + 1) % 65536) ∧
  (∀ (s : State) (r : SedRec) (rest : List SedRec), s.live → s.dev.sed.fifo = r :: rest → s.dev.sed.post ≠ some 0 → s.dev.sedProtected (s.dev.get Reg.SED.HEAD.SEQ) = true → 
    Completes (.sedimentRecord) s fun d =>
      d = sedFreeze (({ s.dev with sed := { s.dev.sed with fifo := rest } } : Dev).bump Reg.SED.LOST.COUNT 1)) ∧
  (∀ s : State, s.live → s.dev.sed.fifo = [] ∨ s.dev.sed.post = some 0 → 
    Completes (.sedimentRecord) s fun d =>
      d = s.dev) ∧
  (∀ s : State, s.live → s.dev.sed.post = some 0 → s.dev.is Reg.SED.STAT.FROZEN = false → 
    Completes (.freezeCountEnd) s fun d =>
      d = (({ (s.dev.put Reg.SED.STAT.FROZEN true).bump Reg.SED.LOST.COUNT s.dev.sed.fifo.length with sed := { s.dev.sed with fifo := [], post := none } } : Dev)).ev .SED 0 0 ∧ d.is Reg.SED.STAT.FROZEN = true ∧ d.sed.fifo = [] ∧ d.sed.post = none ∧ d.evRaw .SED 0 0 = true) ∧
  (∀ s : State, s.live → s.dev.sed.post ≠ some 0 ∨ s.dev.is Reg.SED.STAT.FROZEN = true → 
    Completes (.freezeCountEnd) s fun d =>
      d = s.dev) ∧
  (∀ s : State, s.live → s.dev.pageOff 6 = false → s.dev.is Reg.SED.STAT.FROZEN = false → 
    Completes (.freeze) s fun d =>
      d = (({ (s.dev.put Reg.SED.STAT.FROZEN true).bump Reg.SED.LOST.COUNT s.dev.sed.fifo.length with sed := { s.dev.sed with fifo := [], post := none } } : Dev)).ev .SED 0 0 ∧ d.is Reg.SED.STAT.FROZEN = true ∧ d.sed.fifo = [] ∧ d.sed.post = none ∧ d.evRaw .SED 0 0 = true) ∧
  (∀ s : State, s.live → s.dev.pageOff 6 = false → s.dev.is Reg.SED.STAT.FROZEN = true → 
    Completes (.freeze) s fun d =>
      d = s.dev) ∧
  (∀ s : State, s.live → s.dev.pageOff 6 = false → 
    Completes (.release) s fun d =>
      d = { (s.dev.put Reg.SED.STAT.FROZEN false).put Reg.SED.STAT.PROTECT false with sed := { s.dev.sed with post := none } } ∧ d.is Reg.SED.STAT.FROZEN = false ∧ d.is Reg.SED.STAT.PROTECT = false) ∧
  (∀ s : State, s.live → s.dev.pageOff 6 = false → 
    Completes (.dumpClear) s fun d =>
      d = (if s.dev.is Reg.SED.DUMP_CFG.EN = true ∧ s.dev.sed.region = 2 ∧ s.dev.sed.dump = none then { s.dev with sed := { s.dev.sed with region := 3 } } else s.dev)) ∧
  (∀ s : State, s.live → s.dev.sed.region = 3 → 
    Completes (.dumpEraseDone) s fun d =>
      d = { s.dev with flash := memClear s.dev.dumpBase 262144 s.dev.flash, sed := { s.dev.sed with region := 1 } }) ∧
  (∀ s : State, s.live → s.dev.sed.region ≠ 3 → 
    Completes (.dumpEraseDone) s fun d =>
      d = s.dev) ∧
  (∀ (s : State) (d0 d1 : Dev), s.live → s.dev.flt.pfailLow = false → (if s.dev.sec.cmd.isSome = true ∧ s.dev.fusing = false then
      secEnd 0x10 (dropCopies s.dev) else s.dev) = d0 → ({ d0 with flt := { d0.flt with pfailLow := true } }).raise 0 Kind.FLT.PFAIL = d1 → 
    Completes (.pfail) s fun d =>
      d = (List.range d1.flt.inbox.length).foldl (fun d _ => faultMessage d) d1 ∧ d1.flt.pfailLow = true) ∧
  (∀ s : State, s.live → s.dev.flt.pfailLow = true → 
    Completes (.pfail) s fun d =>
      d = s.dev) ∧
  (∀ (s : State) (x : Dump) (pk : List Bytes) (d1 : Dev), s.live → s.dev.sed.dump = some x → x.started = false → s.dev.spif = none → s.dev.is Reg.SED.DUMP_CFG.EN = true → s.dev.sed.region = 1 → cmpCut 3 5 s.dev = d1 → ((List.range x.blocks.length).map fun b => packBlock 1 (Config.tokens 2 1 4096 0 (x.blocks.flatMap id) b) (nth [] x.blocks b)) = pk → 
    Completes (.dumpStart) s fun d =>
      (let body : Bytes := pk.flatMap id ++ endRecord pk.length (x.blocks.flatMap id).length;
        d = { (d1.shallowsWrite (63 * 524288) body).set Reg.SED.DUMP_STAT.BLOCKS 0 with sed := { d1.sed with dump := some { x with started := true, bytes := x.header ++ List.replicate (256 - x.header.length) 0xFF ++ body, ends := (List.range pk.length).map fun b => 256 + ((pk.take (b + 1)).map List.length).foldl (· + ·) 0 } } })) ∧
  (∀ (s : State) (x : Dump), s.live → s.dev.sed.dump = some x → x.started = false → s.dev.spif = none → ¬ (s.dev.is Reg.SED.DUMP_CFG.EN = true ∧ s.dev.sed.region = 1) → 
    Completes (.dumpStart) s fun d =>
      d = { s.dev.set Reg.SED.DUMP_STAT.CODE 4 with sed := { s.dev.sed with dump := none } }) ∧
  (∀ s : State, s.live → s.dev.sed.dump = none ∨ (∃ x ∈ s.dev.sed.dump, x.started = true ∨ s.dev.spif.isSome = true) → 
    Completes (.dumpStart) s fun d =>
      d = s.dev) ∧
  (∀ (s : State) (x : Dump), s.live → s.dev.sed.dump = some x → x.started = true → x.bytes ≠ [] → 
    Completes (.dumpPage true) s fun d =>
      d = ({ s.dev with flash := memWrite 0xFF (s.dev.dumpBase + x.at_) (x.bytes.take 256) s.dev.flash, sed := { s.dev.sed with region := 2, dump := some { x with bytes := x.bytes.drop 256, at_ := x.at_ + 256 } } } : Dev).set
        Reg.SED.DUMP_STAT.BLOCKS (x.ends.filter fun e => decide (e ≤ x.at_ + 256)).length) ∧
  (∀ (s : State) (x : Dump), s.live → s.dev.sed.dump = some x → x.started = true → x.bytes ≠ [] → 
    Completes (.dumpPage false) s fun d =>
      d = (dumpClose 3 x s.dev).raise 0 Kind.SED.DUMP_FAIL) ∧
  (∀ (s : State) (ok : Bool), s.live → s.dev.sed.dump = none ∨ (∃ x ∈ s.dev.sed.dump, x.started = false ∨ x.bytes = []) → 
    Completes (.dumpPage ok) s fun d =>
      d = s.dev) ∧
  (∀ (s : State) (x : Dump) (d1 : Dev), s.live → s.dev.sed.dump = some x → x.started = true → x.bytes = [] → (({ s.dev with sed := { s.dev.sed with dump := none } } : Dev).set Reg.SED.DUMP_STAT.CODE 1).set Reg.SED.DUMP_TS.TS x.ts = d1 → 
    Completes (.dumpEnd) s fun d =>
      d = (if s.dev.sed.wipeWaits = true then { (sedWipe (d1.ev .SED 0 1)) with sed := { ((sedWipe (d1.ev .SED 0 1))).sed with wipeWaits := false } } else d1.ev .SED 0 1)) ∧
  (∀ s : State, s.live → s.dev.sed.wipeWaits = false → s.dev.sed.dump = none ∨ (∃ x ∈ s.dev.sed.dump, x.started = false ∨ x.bytes ≠ []) → 
    Completes (.dumpEnd) s fun d =>
      d = s.dev) ∧
  (∀ s : State, s.live → 
    Completes (.pfailShed) s fun d =>
      d = (if s.dev.pwr.shedding = true ∧ s.dev.mode = 0 then
          (bitList domains (s.dev.get Reg.PWR.PFAIL_SHED.DOM)).foldl (domOff1 (s.dev.get Reg.PWR.PFAIL_SHED.WAIT_US))
            { s.dev with pwr := { s.dev.pwr with shedding := false } }
        else s.dev)) ∧
  (∀ s : State, s.live → s.dev.pageOff 6 = true → (∀ k ∈ ([(.freeze, 0x6054), (.release, 0x6054), (.dumpClear, 0x6054)] : List (Instr × Nat)),
      Completes k.1 s fun d => d = hostRefused 0x21 k.2 s.dev))

/-- Every critical command goes through the checks of Table 19.1 on its mailbox: the first that fails ends it with its
code, a tag that does not verify counts as a failure, and one that passes is counted as CNT_LAST, passes its own
checks or ends with their code, and is carried out: the commands that program fuses stay in progress,
LIFECYCLE_ADVANCE in STANDBY at once and otherwise after the change to STANDBY; ENERGY_TABLE_COMMIT and
FAULT_POLICY_COMMIT ask for their copies or end with RESULT 0x0E where the mode, the length or the address is not
allowed; HEAD_POWER_ARM, PRINT_ARM, WIPE_NOW and LOCK_CLEAR_POLICY have their effect and end with code 0. Completes
(exec answers a next state, under hypotheses on state and operands alone): lifecycleAdvance, keyLoad, keyRetire,
springCommit, energyTableCommit, faultPolicyCommit, headPowerArm, printArm, wipeNow, lockClearPolicy. (R444, R447,
R449, R450, R451, R453, R445, R325, R396, R161.) -/
def Obligations.CriticalCommands : Prop :=
  (∀ (s : State) (slot cnt tag : Nat) (args : List Nat) (d0 : Dev), s.live → s.dev.mailed 0x01 slot args cnt tag = d0 → s.authorises d0 → 
    Completes (.lifecycleAdvance slot args cnt tag) s fun d =>
      d = (if s.dev.mode = 0 then (secBusy (mailbox d0) d0.counted).put Reg.SYS.MODE_STAT.PENDING false else modeAccepted 0 true (secBusy (mailbox d0) d0.counted)) ∧ (s.dev.mode = 0 → d.fusing = true)) ∧
  (∀ (s : State) (slot cnt tag : Nat) (args : List Nat) (d0 : Dev), s.live → s.dev.mailed 0x02 slot args cnt tag = d0 → s.authorises d0 → 
    Completes (.keyLoad slot args cnt tag) s fun d =>
      d = secBusy (mailbox d0) d0.counted) ∧
  (∀ (s : State) (slot cnt tag : Nat) (args : List Nat) (d0 : Dev), s.live → s.dev.mailed 0x03 slot args cnt tag = d0 → s.authorises d0 → 
    Completes (.keyRetire slot args cnt tag) s fun d =>
      d = secBusy (mailbox d0) d0.counted) ∧
  (∀ (s : State) (slot cnt tag : Nat) (args : List Nat) (d0 : Dev), s.live → s.dev.mailed 0x08 slot args cnt tag = d0 → s.authorises d0 → 
    Completes (.springCommit slot args cnt tag) s fun d =>
      d = secBusy (mailbox d0) d0.counted) ∧
  (∀ (s : State) (slot cnt tag : Nat) (args : List Nat) (d0 : Dev), s.live → s.dev.mailed 0x04 slot args cnt tag = d0 → s.authorises d0 → s.dev.mode ≤ 1 → (mailbox d0).arg 2 = 4160 → (mailbox d0).table % 64 = 0 → 
    Completes (.energyTableCommit slot args cnt tag) s fun d =>
      d = ({ (secBusy (mailbox d0) d0.counted) with thm := { s.dev.thm with copying := some ((mailbox d0).table, (mailbox d0).arg 3) } } : Dev).request (pg .THM 0) ∧
        d.thm.copying = some ((mailbox d0).table, (mailbox d0).arg 3) ∧ d.sec.cmd = some (mailbox d0) ∧ d.is Reg.SEC.CMD_STAT.BUSY = true) ∧
  (∀ (s : State) (slot cnt tag : Nat) (args : List Nat) (d0 : Dev), s.live → s.dev.mailed 0x05 slot args cnt tag = d0 → s.authorises d0 → s.dev.mode ≤ 1 → (mailbox d0).table % 64 = 0 → 
    Completes (.faultPolicyCommit slot args cnt tag) s fun d =>
      d = ({ (secBusy (mailbox d0) d0.counted) with flt := { s.dev.flt with copying := some ((mailbox d0).table, (mailbox d0).arg 2, (mailbox d0).arg 3) } } : Dev).request (pg .FLT 0) ∧
        d.flt.copying = some ((mailbox d0).table, (mailbox d0).arg 2, (mailbox d0).arg 3) ∧ d.sec.cmd = some (mailbox d0) ∧ d.is Reg.SEC.CMD_STAT.BUSY = true) ∧
  (∀ (s : State) (slot cnt tag : Nat) (args : List Nat) (d0 : Dev), s.live → s.dev.mailed 0x06 slot args cnt tag = d0 → s.authorises d0 → 
    Completes (.headPowerArm slot args cnt tag) s fun d =>
      d = secEnd 0 (headPowerArm ((mailbox d0).arg 0) (secBusy (mailbox d0) d0.counted))) ∧
  (∀ (s : State) (slot cnt tag : Nat) (args : List Nat) (d0 : Dev), s.live → s.dev.mailed 0x07 slot args cnt tag = d0 → s.authorises d0 → 
    Completes (.printArm slot args cnt tag) s fun d =>
      d = secEnd 0 ((secBusy (mailbox d0) d0.counted).bringup Reg.SYS.BRINGUP.PRINT_ARMED true) ∧
        d.is Reg.SYS.BRINGUP.PRINT_ARMED = true ∧ d.get Reg.SEC.CMD_STAT.RESULT = 0 ∧ d.sec.cmd = none ∧ d.get Reg.SEC.CNT_LAST.COUNT = (mailbox d0).cnt) ∧
  (∀ (s : State) (slot cnt tag : Nat) (args : List Nat) (d0 : Dev), s.live → s.dev.mailed 0x09 slot args cnt tag = d0 → s.authorises d0 → 
    Completes (.wipeNow slot args cnt tag) s fun d =>
      d = secEnd 0 (wipeNow ((mailbox d0).arg 0) (secBusy (mailbox d0) d0.counted))) ∧
  (∀ (s : State) (slot cnt tag : Nat) (args : List Nat) (d0 : Dev), s.live → s.dev.mailed 0x0A slot args cnt tag = d0 → s.authorises d0 → 
    Completes (.lockClearPolicy slot args cnt tag) s fun d =>
      d = secEnd 0 (lockPolicy ((mailbox d0).arg 0) (secBusy (mailbox d0) d0.counted))) ∧
  (∀ (s : State) (slot cnt tag : Nat) (args : List Nat) (d0 : Dev), s.live → s.dev.mailed 0x07 slot args cnt tag = d0 → mailCheck s.fuse (mailbox d0) d0 = none → s.fuse.verifies (d0.get Reg.SEC.NONCE.NONCE) (mailbox d0) = false → 
    Completes (.printArm slot args cnt tag) s fun d =>
      d = tagFails (mailbox d0) d0) ∧
  (∀ (s : State) (slot cnt tag : Nat) (args : List Nat) (d0 : Dev), s.live → s.dev.mailed 0x04 slot args cnt tag = d0 → s.authorises d0 → 1 < s.dev.mode ∨ (mailbox d0).arg 2 ≠ 4160 ∨ (mailbox d0).table % 64 ≠ 0 → s.dev.thm.copying = none → 
    Completes (.energyTableCommit slot args cnt tag) s fun d =>
      d = (if 1 < s.dev.mode then secEnd 0x0E (energyRefused 1 (secBusy (mailbox d0) d0.counted)) else secEnd 0x0E (energyRefused 2 (secBusy (mailbox d0) d0.counted)))) ∧
  (∀ (s : State) (slot cnt tag : Nat) (args : List Nat) (d0 : Dev), s.live → s.dev.mailed 0x05 slot args cnt tag = d0 → s.authorises d0 → 1 < s.dev.mode ∨ (mailbox d0).table % 64 ≠ 0 → s.dev.flt.copying = none → 
    Completes (.faultPolicyCommit slot args cnt tag) s fun d =>
      d = secEnd 0x0E (policyBad (if 1 < s.dev.mode then 1 else 2) (secBusy (mailbox d0) d0.counted))) ∧
  (∀ (s : State) (slot cnt tag : Nat) (args : List Nat), s.live → (∀ k ∈ ([(.lifecycleAdvance slot args cnt tag, 1), (.keyLoad slot args cnt tag, 2), (.keyRetire slot args cnt tag, 3), (.energyTableCommit slot args cnt tag, 4), (.faultPolicyCommit slot args cnt tag, 5), (.headPowerArm slot args cnt tag, 6), (.printArm slot args cnt tag, 7), (.springCommit slot args cnt tag, 8), (.wipeNow slot args cnt tag, 9), (.lockClearPolicy slot args cnt tag, 10)] : List (Instr × Nat)),
      Completes k.1 s fun d =>
        (let d0 := s.dev.mailed k.2 slot args cnt tag;
        d = match mailCheck s.fuse (mailbox d0) d0 with
          | some code => secResult (mailbox d0).opcode code d0
          | none =>
            if s.fuse.verifies (d0.get Reg.SEC.NONCE.NONCE) (mailbox d0) = false then tagFails (mailbox d0) d0
            else match specificCheck s.fuse (mailbox d0) d0.counted with
              | some code => secResult (mailbox d0).opcode code d0.counted
              | none => carryOut (mailbox d0) d0.counted)))

/-- NONCE_READY draws the nonce of the session, or raises RNG_FAIL, once; LOCKOUT_END ends the lockout;
ENERGY_TABLE_COPY_DONE and POLICY_COPY_DONE of a table that fails its check show its code and end their command with
RESULT 0x0E, and of a sound one put the table in force and end with 0; DISARM_HEAD asks for the drain that
DISARM_HEAD_COMPLETE ends with both arms cleared; DISARM_PRINT clears PRINT_ARMED. FUSE_PROGRAM_DONE with a fuse
command in progress answers a state whose fuses are those of the step with its read-back (R449 to R451), and whose
device shows its end; without one nothing changes. Completes (exec answers a next state, under hypotheses on state
and operands alone): nonceReady, lockoutEnd, energyTableCopyDone, policyCopyDone, disarmHead, disarmHeadComplete,
disarmPrint, fuseProgramDone. (R440, R445, R452, R161, R396, R447, R449, R450, R451.) -/
def Obligations.SecuritySession : Prop :=
  (∀ (s : State) (draw : Nat), s.live → s.dev.sec.rng = none → 
    Completes (.nonceReady true draw) s fun d =>
      d = (((({ s.dev with sec := { s.dev.sec with rng := some true } } : Dev).set Reg.SEC.NONCE.NONCE draw).set Reg.SEC.CNT_LAST.COUNT 0).set Reg.SEC.TAG_FAIL.RUN 0) ∧
        d.sec.rng = some true ∧ d.get Reg.SEC.NONCE.NONCE = draw % 2 ^ 64 ∧ d.get Reg.SEC.CNT_LAST.COUNT = 0 ∧ d.get Reg.SEC.TAG_FAIL.RUN = 0) ∧
  (∀ (s : State) (draw : Nat), s.live → s.dev.sec.rng = none → 
    Completes (.nonceReady false draw) s fun d =>
      d = ({ s.dev with sec := { s.dev.sec with rng := some false } } : Dev).raise 0 Kind.SEC.RNG_FAIL ∧ d.sec.rng = some false ∧ d.evRaw .SEC 0 Kind.SEC.RNG_FAIL.bit = true) ∧
  (∀ (s : State) (t : Nat), s.live → s.dev.due .lockout = some t → 
    Completes (.lockoutEnd) s fun d =>
      d = (s.dev.advanceTo t).disarm .lockout) ∧
  (∀ (s : State) (m : Mail) (addr crc : Nat), s.live → s.dev.thm.copying = some (addr, crc) → s.dev.sec.cmd = some m → leAt (((s.dev.answer (pg .THM 0)).basinLoad 1 0xFF addr 4160 0).basinRead addr 4160) 0 4 = 0 → 
    Completes (.energyTableCopyDone false) s fun d =>
      d.thm.copying = none ∧ d.sec.cmd = none ∧ d.get Reg.SEC.CMD_STAT.RESULT = 0x0E ∧ d.get Reg.THM.TABLE_STAT.LAST_CODE = 3 ∧
        d.thm.table = s.dev.thm.table) ∧
  (∀ (s : State) (m : Mail) (addr crc : Nat) (d1 : Dev) (bs : Bytes), s.live → s.dev.thm.copying = some (addr, crc) → s.dev.sec.cmd = some m → ((s.dev.answer (pg .THM 0)).basinLoad 1 0xFF addr 4160 0) = d1 → d1.basinRead addr 4160 = bs → energyCode bs crc (d1.basinFails addr 4160) = 0 → 
    Completes (.energyTableCopyDone false) s fun d =>
      d.thm.copying = none ∧ d.sec.cmd = none ∧ d.get Reg.SEC.CMD_STAT.RESULT = 0 ∧ d.is Reg.THM.TABLE_STAT.COMMITTED = true ∧
        d.get Reg.THM.TABLE_CRC.CRC = crc % 2 ^ 32) ∧
  (∀ (s : State) (m : Mail) (addr len crc : Nat) (d1 : Dev) (bs : Bytes), s.live → s.dev.flt.copying = some (addr, len, crc) → s.dev.sec.cmd = some m → (s.dev.answer (pg .FLT 0)).basinLoad 1 0xFF addr (max 16 (min 4112 len)) 0 = d1 → d1.basinRead addr (max 16 (min 4112 len)) = bs → policyCode bs len crc (d1.basinFails addr (max 16 (min 4112 len))) = 0 → 
    Completes (.policyCopyDone false) s fun d =>
      d.flt.copying = none ∧ d.sec.cmd = none ∧ d.get Reg.SEC.CMD_STAT.RESULT = 0 ∧ d.is Reg.FLT.POLICY_STAT.COMMITTED = true ∧
        d.flt.policy = (policyEntries (leAt bs 6 2) (bs.drop 16)).filter (fun (e : PolEntry) => !e.barred)) ∧
  (∀ s : State, s.live → s.dev.pageOff 3 = false → 
    Completes (.disarmHead) s fun d =>
      d = { s.dev with sec := { s.dev.sec with disarm := true } }) ∧
  (∀ s : State, s.live → s.dev.sec.disarm = true → s.dev.trgIdle = true → 
    Completes (.disarmHeadComplete) s fun d =>
      d = (List.range 64).foldl (fun d n => clockStop n false (d.setHead n { d.head n with want := false })) (headPowerOff s.dev) ∧
        d.sec.hpwr = 0 ∧ d.sec.disarm = false ∧ d.is Reg.SYS.BRINGUP.HEAD_POWER_ARMED = false ∧ d.is Reg.SYS.BRINGUP.PRINT_ARMED = false) ∧
  (∀ s : State, s.live → s.dev.pageOff 3 = false → 
    Completes (.disarmPrint) s fun d =>
      d = s.dev.bringup Reg.SYS.BRINGUP.PRINT_ARMED false ∧ d.is Reg.SYS.BRINGUP.PRINT_ARMED = false) ∧
  (∀ (s : State) (m : Mail) (ok : Bool), s.live → s.dev.sec.cmd = some m → s.dev.fusing = true → exec (.fuseProgramDone ok) s =
      .next { s with fuse := s.fuse.program m s.dev.sec.step ok, dev := fuseStep (s.fuse.program m s.dev.sec.step ok) m ok s.dev }) ∧
  (∀ (s : State) (ok : Bool), s.live → s.dev.fusing = false → exec (.fuseProgramDone ok) s = .next s) ∧
  (∀ (s : State) (ok : Bool) (draw : Nat), s.live → s.dev.sec.rng.isSome = true → 
    Completes (.nonceReady ok draw) s fun d =>
      d = s.dev) ∧
  (∀ s : State, s.live → s.dev.due .lockout = none → 
    Completes (.lockoutEnd) s fun d =>
      d = s.dev) ∧
  (∀ (s : State) (poisoned : Bool) (addr crc : Nat) (d0 d1 : Dev) (bs : Bytes) (k : Nat), s.live → s.dev.thm.copying = some (addr, crc) → (s.dev.answer (pg .THM 0)).basinLoad 1 0xFF addr 4160 (if poisoned then 2 else 0) = d0 → d0.basinRead addr 4160 = bs → ({ d0 with thm := { d0.thm with copying := none } } : Dev) = d1 → energyCode bs crc (d1.basinFails addr 4160) = k → k ≠ 0 → 
    Completes (.energyTableCopyDone poisoned) s fun d =>
      d = (let t := energyRefused k d1; secEnd (if t.get Reg.THM.TABLE_STAT.LAST_CODE = 0 then 0 else 0x0E) t)) ∧
  (∀ (s : State) (poisoned : Bool) (addr crc : Nat) (d0 d1 : Dev) (bs : Bytes), s.live → s.dev.thm.copying = some (addr, crc) → (s.dev.answer (pg .THM 0)).basinLoad 1 0xFF addr 4160 (if poisoned then 2 else 0) = d0 → d0.basinRead addr 4160 = bs → ({ d0 with thm := { d0.thm with copying := none } } : Dev) = d1 → energyCode bs crc (d1.basinFails addr 4160) = 0 → 
    Completes (.energyTableCopyDone poisoned) s fun d =>
      d = secEnd 0 (reclassAll ((((({ d1 with thm := { d1.thm with table := some (leAt bs 8 8, (List.range 64).foldl (fun t n => tset EnergyEntry.dflt n (parseEnergy (entryBytes bs n)) t) []) } } : Dev).put
        Reg.THM.TABLE_STAT.COMMITTED true).set Reg.THM.TABLE_STAT.LAST_CODE 0).set Reg.THM.TABLE_CRC.CRC crc).ev .THM 0 3))) ∧
  (∀ (s : State) (poisoned : Bool), s.live → s.dev.thm.copying = none → 
    Completes (.energyTableCopyDone poisoned) s fun d =>
      d = (s.dev.bump Reg.SYS.STALE_CNT.COUNT 1).ev .SYS 0 3) ∧
  (∀ (s : State) (poisoned : Bool) (addr len crc : Nat) (d1 : Dev) (bs : Bytes) (k : Nat), s.live → s.dev.flt.copying = some (addr, len, crc) → (s.dev.answer (pg .FLT 0)).basinLoad 1 0xFF addr (max 16 (min 4112 len)) (if poisoned then 2 else 0) = d1 → d1.basinRead addr (max 16 (min 4112 len)) = bs → policyCode bs len crc (d1.basinFails addr (max 16 (min 4112 len))) = k → k ≠ 0 → 
    Completes (.policyCopyDone poisoned) s fun d =>
      d = (let t := policyBad k d1; secEnd (if t.get Reg.FLT.POLICY_STAT.LAST_CODE = 0 then 0 else 0x0E) t)) ∧
  (∀ (s : State) (poisoned : Bool) (addr len crc : Nat) (d1 : Dev) (bs : Bytes) (es : List PolEntry), s.live → s.dev.flt.copying = some (addr, len, crc) → (s.dev.answer (pg .FLT 0)).basinLoad 1 0xFF addr (max 16 (min 4112 len)) (if poisoned then 2 else 0) = d1 → d1.basinRead addr (max 16 (min 4112 len)) = bs → policyCode bs len crc (d1.basinFails addr (max 16 (min 4112 len))) = 0 → policyEntries (leAt bs 6 2) (bs.drop 16) = es → 
    Completes (.policyCopyDone poisoned) s fun d =>
      d = secEnd 0 (((((({ d1 with flt := { d1.flt with policy := es.filter fun (e : PolEntry) => !e.barred, copying := none } } : Dev).put Reg.FLT.POLICY_STAT.COMMITTED true).set
        Reg.FLT.POLICY_STAT.ENTRIES (es.filter fun (e : PolEntry) => !e.barred).length).set Reg.FLT.POLICY_STAT.LAST_CODE 0).set
        Reg.FLT.POLICY_FLOOR.COUNT (es.length - (es.filter fun (e : PolEntry) => !e.barred).length)).ev .FLT 0 7)) ∧
  (∀ (s : State) (poisoned : Bool), s.live → s.dev.flt.copying = none → 
    Completes (.policyCopyDone poisoned) s fun d =>
      d = (s.dev.bump Reg.SYS.STALE_CNT.COUNT 1).ev .SYS 0 3) ∧
  (∀ s : State, s.live → s.dev.sec.disarm = false ∨ s.dev.trgIdle = false → 
    Completes (.disarmHeadComplete) s fun d =>
      d = s.dev) ∧
  (∀ s : State, s.live → s.dev.pageOff 3 = true → (∀ k ∈ ([(.disarmHead, 0x30A8), (.disarmPrint, 0x30A8)] : List (Instr × Nat)),
      Completes k.1 s fun d => d = hostRefused 0x21 k.2 s.dev))

/-- CAL_RUN and RESTORE add their targets to the run, or with one in progress to the next run; TARGET_RUN_END of the
running target takes its result and goes to the next target; SPARE_TAKEOVER and SPARE_HANDBACK switch the spare
channel; TRIM_USER sets the user part of the selected item with its unlock level, and is denied without it;
TRIM_UPDATE_TICK slews the items of a target by their step, the last step to the target itself; DIE_SAMPLE samples
again after 1 ms and raises DIE_HOT and DIE_CRIT at their limits. Where a condition does not hold, the state of the
channel stays as it was. A guarded field that the write repeats is no denial (R37). Completes (exec answers a next
state, under hypotheses on state and operands alone): calRun, restore, targetRunEnd, spareTakeover, spareHandback,
trimUser, trimUpdateTick, dieSample. (R424, R426, R428, R431, R433, R434.) -/
def Obligations.Trims : Prop :=
  (∀ s : State, s.live → s.dev.pageOff 8 = false → s.dev.get Reg.CAL.CMD.CHAN < 64 → 
    Completes (.calRun) s fun d =>
      d = (if s.dev.is Reg.CAL.STAT.BUSY = true then { s.dev with cal := { s.dev.cal with next := s.dev.cal.next ||| andNot (s.dev.get Reg.CAL.CMD_MAP.TARGETS % 2 ^ 15) (andNot s.dev.cal.set s.dev.calRunning) } }
        else calNext 20 { s.dev with cal := { s.dev.cal with set := s.dev.cal.set ||| (s.dev.get Reg.CAL.CMD_MAP.TARGETS % 2 ^ 15) } })) ∧
  (∀ (s : State) (chan : Nat), s.live → s.dev.pageOff 8 = false → chan < 16 → 
    Completes (.restore chan) s fun d =>
      d = (if s.dev.is Reg.CAL.STAT.BUSY = true then { s.dev.set Reg.CAL.CMD.CHAN chan with cal := { s.dev.cal with next := s.dev.cal.next ||| andNot (2 ^ min 8 chan % 2 ^ 15) (andNot s.dev.cal.set s.dev.calRunning) } }
        else calNext 20 { s.dev.set Reg.CAL.CMD.CHAN chan with cal := { s.dev.cal with set := s.dev.cal.set ||| (2 ^ min 8 chan % 2 ^ 15) } })) ∧
  (∀ (s : State) (t quality : Nat) (ms : List Int) (d1 d2 : Dev), s.live → (s.dev.cal.cur = some t ∨ (s.dev.cal.b7 = true ∧ s.dev.cal.cur.isSome = true ∧ t ≤ 8 ∧ s.dev.cal.set.testBit t = true)) → runResult t ms quality s.dev = d1 → (if t = 8 ∧ d1.spare = 3 then d1.set Reg.CAL.STAT.SPARE 0 else d1) = d2 → 
    Completes (.targetRunEnd t ms quality) s fun d =>
      d = (let t := calNext 20 { d2 with cal := { d2.cal with set := clrB d2.cal.set t, wants := none, cur := if d2.cal.cur = some t then none else d2.cal.cur } }; if t.snd.running = true then (List.range 8).foldl (fun d c => scanNext c d) t else t)) ∧
  (∀ (s : State) (t quality : Nat) (ms : List Int), s.live → ¬ (s.dev.cal.cur = some t ∨ (s.dev.cal.b7 = true ∧ s.dev.cal.cur.isSome = true ∧ t ≤ 8 ∧ s.dev.cal.set.testBit t = true)) → 
    Completes (.targetRunEnd t ms quality) s fun d =>
      d = (let t := s.dev; if t.snd.running = true then (List.range 8).foldl (fun d c => scanNext c d) t else t)) ∧
  (∀ (s : State) (c : Nat), s.live → s.dev.cal.wants = some c → s.dev.cal.cur = some c → s.dev.spare = 0 → (tget Chan.init s.dev.snd.chans c).step.isNone = true → 
    Completes (.spareTakeover) s fun d =>
      d = (let t := (({ s.dev with cal := { s.dev.cal with taken := some c, wants := none } }).set Reg.CAL.STAT.SPARE 1).ev .CAL 0 2; if t.snd.running = true then (List.range 8).foldl (fun d c => scanNext c d) t else t)) ∧
  (∀ s : State, s.live → ∀ c ∈ s.dev.cal.wants, s.dev.cal.cur ≠ some c ∨ s.dev.spare ≠ 0 ∨ (tget Chan.init s.dev.snd.chans c).step.isNone = false → 
    Completes (.spareTakeover) s fun d =>
      d = (let t := s.dev; if t.snd.running = true then (List.range 8).foldl (fun d c => scanNext c d) t else t)) ∧
  (∀ (s : State) (c : Nat), s.live → s.dev.cal.taken = some c → s.dev.cal.cur ≠ some c → 
    Completes (.spareHandback) s fun d =>
      d = (let t := (if s.dev.spare = 1 then (({ s.dev with cal := { s.dev.cal with taken := none, wants := none } } : Dev).set Reg.CAL.STAT.SPARE 0).ev .CAL 0 2 else ({ s.dev with cal := { s.dev.cal with taken := none, wants := none } } : Dev)); if t.snd.running = true then (List.range 8).foldl (fun d c => scanNext c d) t else t)) ∧
  (∀ s : State, s.live → s.dev.cal.taken = none → s.dev.spare = 2 → s.dev.bitOf Reg.CAL.FAILED.CHANS (s.dev.get Reg.CAL.STAT.COVER) = false → 
    Completes (.spareHandback) s fun d =>
      d = (let t := ((s.dev.set Reg.CAL.STAT.SPARE 0).set Reg.CAL.STAT.COVER 0xF).ev .CAL 0 2; if t.snd.running = true then (List.range 8).foldl (fun d c => scanNext c d) t else t)) ∧
  (∀ s : State, s.live → (∃ c ∈ s.dev.cal.taken, s.dev.cal.cur = some c) ∨ (s.dev.cal.taken = none ∧ (s.dev.spare ≠ 2 ∨ s.dev.bitOf Reg.CAL.FAILED.CHANS (s.dev.get Reg.CAL.STAT.COVER) = true)) → 
    Completes (.spareHandback) s fun d =>
      d = (let t := s.dev; if t.snd.running = true then (List.range 8).foldl (fun d c => scanNext c d) t else t)) ∧
  (∀ (s : State) (v t i : Nat), s.live → s.dev.pageOff 8 = false → s.dev.is (Reg.HDR.LEVEL 8) = true → v < 65536 → s.dev.calSel = (t, i) → 
    Completes (.trimUser v) s fun d =>
      d = (if i < calItems t then retrim t i false (s.dev.setItem t i { s.dev.item t i with user := toSigned 16 v }) else s.dev)) ∧
  (∀ (s : State) (v t i : Nat), s.live → s.dev.pageOff 8 = false → s.dev.is (Reg.HDR.LEVEL 8) = true → v < 65536 → s.dev.calSel = (t, i) → i < calItems t → 
    Completes (.trimUser v) s fun d =>
      (d.item t i).user = toSigned 16 v) ∧
  (∀ (s : State) (v : Nat), s.live → s.dev.pageOff 8 = false → s.dev.is (Reg.HDR.LEVEL 8) = false → v < 65536 → v ≠ s.dev.value s.fuse 0 .CAL Reg.CAL.USER.VALUE → 
    Completes (.trimUser v) s fun d =>
      d = discarded Kind.SYS.LEVEL_DENIED Party.host true 0x8078 s.dev) ∧
  (∀ (s : State) (t : Nat), s.live → s.dev.slews = true → 
    Completes (.trimUpdateTick t) s fun d =>
      d = (List.range (calItems t)).foldl (fun (d : Dev) (i : Nat) =>
        let x := d.item t i;
        if x.left = 0 ∨ d.slews = false then d else if x.left = 1 then d.setItem t i { x with eff := x.tgt * 256, left := 0 }
        else d.setItem t i { x with eff := x.eff + x.step, left := x.left - 1 }) s.dev) ∧
  (∀ (s : State) (t : Nat), s.live → s.dev.slews = false → 
    Completes (.trimUpdateTick t) s fun d =>
      d = s.dev) ∧
  (∀ (s : State) (t : Int) (hot crit : Bool × Bool) (d1 d2 : Dev), s.live → (s.dev.advanceTo ((s.dev.due .dieSample).getD s.dev.time.up)).arm .dieSample ms = d1 → dieLimit (d1.get Reg.PWR.DIE_LIM.HOT) t d1.pwr.hotRaised = hot → dieLimit (min 125 (d1.get Reg.PWR.DIE_LIM.CRIT)) t d1.pwr.critRaised = crit → (let e := calDie t { d1 with pwr := { d1.pwr with hotRaised := hot.2, critRaised := crit.2 } }; if hot.1 = true then e.raise 0 Kind.PWR.DIE_HOT else e) = d2 → 
    Completes (.dieSample t) s fun d =>
      d = (if crit.1 = true then d2.raise 0 Kind.PWR.DIE_CRIT else d2)) ∧
  (∀ (s : State) (c : Nat), s.live → s.dev.pageOff 8 = true → (∀ k ∈ ([(.calRun, 0x8048), (.restore c, 0x8048), (.trimUser c, 0x8078)] : List (Instr × Nat)),
      Completes k.1 s fun d => d = hostRefused 0x21 k.2 s.dev)) ∧
  (∀ (s : State) (v : Nat), s.live → s.dev.pageOff 8 = false → s.dev.is (Reg.HDR.LEVEL 8) = false → v < 65536 → v = s.dev.value s.fuse 0 .CAL Reg.CAL.USER.VALUE → 
    Completes (.trimUser v) s fun d =>
      d = s.dev)

/-- COLD_RESET, PIN_RESET, SOFTWARE_RESET with its key and BROWN_OUT_RESET leave the device as after reset with their
cause in RST_CAUSE.LAST, the ring address, and, but for a cold or brown-out reset, the fault lock; RESET_ASSERTED
holds the block in reset; a wrong key or LOCK lets SOFTWARE_RESET be discarded. REFCLK_BAD and REFCLK_RECOVERED show
the frequency and the state of REFCLK; PLL_UNLOCK and PLL_RELOCK of each PLL, and DLL_UNLOCK and DLL_RELOCK, show
the clocks in CLK.STAT, raise their faults and take down or bring up what the clock feeds. A clock that does not
change changes nothing. Completes (exec answers a next state, under hypotheses on state and operands alone):
softwareReset, brownOutReset, resetAsserted, refclkBad, refclkRecovered, pllUnlock, pllRelock, dllUnlock, dllRelock,
coldReset, pinReset. (R459, R460, R466, R467, R487.) -/
def Obligations.ResetsAndClocks : Prop :=
  (∀ (s : State) (addr : Nat), Completes (.coldReset addr) s fun d =>
      d = (({ Dev.fresh with flash := (resetPins s.dev).flash, free := (resetPins s.dev).free, out := (resetPins s.dev).out, jtag := Jtag.init, flt := { Dev.fresh.flt with safeInLow := (resetPins s.dev).flt.safeInLow, pfailLow := (resetPins s.dev).flt.pfailLow, lock := none } } : Dev).set Reg.EMR.ADDR.ADDR addr).set Reg.SYS.RST_CAUSE.LAST 1 ∧
      d.get Reg.SYS.RST_CAUSE.LAST = 1 ∧ d.get Reg.EMR.ADDR.ADDR = addr % 64 ∧ d.mode = 0 ∧ d.flt.lock = none ∧ d.basin = [] ∧
        d.flash = s.dev.flash ∧ d.sys.inReset = false) ∧
  (∀ (s : State) (addr : Nat), s.dev.flt.lock = none → Completes (.pinReset addr) s fun d =>
      d.get Reg.SYS.RST_CAUSE.LAST = 2 ∧ d.get Reg.SYS.RST_CAUSE.PREV = s.dev.get Reg.SYS.RST_CAUSE.LAST % 256 ∧ d.get Reg.EMR.ADDR.ADDR = addr % 64 ∧
        d.mode = 0 ∧ d.flash = s.dev.flash ∧ d.sys.inReset = false) ∧
  (∀ (s : State) (key : Nat), s.live → s.dev.pageOff 0 = false → key < 2 ^ 32 → key % 65536 = 0x5E7B → s.dev.level ≠ 5 → s.dev.flt.lock = none → 
    Completes (.softwareReset key) s fun d =>
      d.get Reg.SYS.RST_CAUSE.LAST = 3 ∧ d.mode = 0 ∧ d.flash = s.dev.flash ∧ d.get Reg.EMR.ADDR.ADDR = s.dev.get Reg.EMR.ADDR.ADDR % 64) ∧
  (∀ (s : State) (key : Nat), s.live → s.dev.pageOff 0 = false → key < 2 ^ 32 → key % 65536 ≠ 0x5E7B → 
    Completes (.softwareReset key) s fun d =>
      d = s.dev) ∧
  (∀ (s : State) (t : Nat), s.live → s.dev.due .supply = some t → 
    Completes (.brownOutReset) s fun d =>
      d = (({ Dev.fresh with flash := (resetPins ((s.dev.advanceTo t).disarm .supply)).flash, free := (resetPins ((s.dev.advanceTo t).disarm .supply)).free, out := (resetPins ((s.dev.advanceTo t).disarm .supply)).out, jtag := Jtag.init, flt := { Dev.fresh.flt with safeInLow := (resetPins ((s.dev.advanceTo t).disarm .supply)).flt.safeInLow, pfailLow := (resetPins ((s.dev.advanceTo t).disarm .supply)).flt.pfailLow, lock := none } } : Dev).set Reg.EMR.ADDR.ADDR ((resetPins ((s.dev.advanceTo t).disarm .supply)).get Reg.EMR.ADDR.ADDR)).set Reg.SYS.RST_CAUSE.LAST 5 ∧
        d.get Reg.SYS.RST_CAUSE.LAST = 5 ∧ d.mode = 0 ∧ d.flt.lock = none ∧ d.flash = s.dev.flash) ∧
  (∀ s : State, s.live → 
    Completes (.resetAsserted) s fun d =>
      d.sys.inReset = true ∧ d.is Reg.FLT.STATE.FAULT_N = true ∧ d.is Reg.FLT.STATE.RIPPLE_HELD = true) ∧
  (∀ (s : State) (ppm : Int), s.live → s.dev.is Reg.CLK.STAT.REF_OK = true → s.dev.refTol < ppm.natAbs → 
    Completes (.refclkBad false ppm) s fun d =>
      d.is Reg.CLK.STAT.REF_OK = false ∧ d.get Reg.CLK.REF_PPM.PPM = ofSigned 16 ppm ∧ d.evRaw .CLK 0 Kind.CLK.REFCLK_BAD.bit = true) ∧
  (∀ (s : State) (ppm : Int), s.live → ppm.natAbs ≤ s.dev.refTol → 
    Completes (.refclkRecovered ppm) s fun d =>
      d.is Reg.CLK.STAT.REF_OK = true ∧ d.get Reg.CLK.REF_PPM.PPM = ofSigned 16 ppm) ∧
  (∀ (s : State) (pll : Nat) (f : Fld), s.live → pllBit pll = some f → s.dev.is f = true → ∀ n ∈ List.range 64, s.dev.portAtBoundary n = true → pll = 0 → 
    Completes (.pllUnlock pll) s fun d =>
      d.is f = false ∧ d.pwr.rootLost = true ∧ d.is Reg.SYS.BRINGUP.CLOCKS_LOCKED = false ∧ d.evRaw .CLK 0 Kind.CLK.PLL_UNLOCK.bit = true) ∧
  (∀ (s : State) (pll : Nat) (f : Fld), s.live → pllBit pll = some f → s.dev.is f = false → pll = 0 ∨ pll = 2 → 
    Completes (.pllRelock pll) s fun d =>
      d = (s.dev.put f true).ev .CLK 0 0) ∧
  (∀ s : State, s.live → s.dev.is Reg.CLK.STAT.DLL = true → 
    Completes (.dllUnlock) s fun d =>
      d.is Reg.CLK.STAT.DLL = false ∧ d.pwr.dllWait = true ∧ d.evRaw .CLK 0 Kind.CLK.DLL_UNLOCK.bit = true) ∧
  (∀ s : State, s.live → s.dev.is Reg.CLK.STAT.DLL = false → 
    Completes (.dllRelock) s fun d =>
      d = (s.dev.put Reg.CLK.STAT.DLL true).ev .CLK 0 2) ∧
  (∀ (s : State) (addr : Nat), Completes (.pinReset addr) s fun d =>
      d = lockHold (causeNext 2 s.dev (({ Dev.fresh with flash := (resetPins s.dev).flash, free := (resetPins s.dev).free, out := (resetPins s.dev).out, jtag := (resetPins s.dev).jtag, flt := { Dev.fresh.flt with safeInLow := (resetPins s.dev).flt.safeInLow, pfailLow := (resetPins s.dev).flt.pfailLow, lock := (resetPins s.dev).flt.lock } } : Dev).set Reg.EMR.ADDR.ADDR addr))) ∧
  (∀ (s : State) (key : Nat), s.live → s.dev.pageOff 0 = false → key < 2 ^ 32 → key % 65536 = 0x5E7B → s.dev.level ≠ 5 → 
    Completes (.softwareReset key) s fun d =>
      d = lockHold (causeNext 3 s.dev (({ Dev.fresh with flash := (resetPins s.dev).flash, free := (resetPins s.dev).free, out := (resetPins s.dev).out, jtag := (resetPins s.dev).jtag, flt := { Dev.fresh.flt with safeInLow := (resetPins s.dev).flt.safeInLow, pfailLow := (resetPins s.dev).flt.pfailLow, lock := (resetPins s.dev).flt.lock } } : Dev).set Reg.EMR.ADDR.ADDR (s.dev.get Reg.EMR.ADDR.ADDR)))) ∧
  (∀ (s : State) (key : Nat), s.live → s.dev.pageOff 0 = false → key < 2 ^ 32 → s.dev.level = 5 → 
    Completes (.softwareReset key) s fun d =>
      d = s.dev) ∧
  (∀ s : State, s.live → s.dev.due .supply = none → 
    Completes (.brownOutReset) s fun d =>
      d = s.dev) ∧
  (∀ s : State, s.live → 
    Completes (.resetAsserted) s fun d =>
      (let t := ((resetPins s.dev).put Reg.FLT.STATE.FAULT_N true).put Reg.FLT.STATE.RIPPLE_HELD true;
        d = { t with sys := { t.sys with inReset := true }, flt := { t.flt with ripple := false } })) ∧
  (∀ s : State, s.dev.sys.inReset = true → Completes .resetAsserted s fun d => d = s.dev) ∧
  (∀ (s : State) (missing : Bool) (ppm : Int) (d1 : Dev), s.live → (if missing = true then s.dev else s.dev.set Reg.CLK.REF_PPM.PPM (ofSigned 16 ppm)) = d1 → 
    Completes (.refclkBad missing ppm) s fun d =>
      d = (if d1.is Reg.CLK.STAT.REF_OK = true ∧ (missing = true ∨ d1.refTol < ppm.natAbs) then
          ((d1.put Reg.CLK.STAT.REF_OK false).bump Reg.CLK.LOSS_CNT.COUNT 1).raise 0 Kind.CLK.REFCLK_BAD else d1)) ∧
  (∀ (s : State) (ppm : Int) (d1 : Dev), s.live → s.dev.set Reg.CLK.REF_PPM.PPM (ofSigned 16 ppm) = d1 → 
    Completes (.refclkRecovered ppm) s fun d =>
      d = (if ppm.natAbs ≤ d1.refTol then d1.put Reg.CLK.STAT.REF_OK true else d1)) ∧
  (∀ (s : State) (pll : Nat) (f : Fld) (d1 : Dev), s.live → pllBit pll = some f → s.dev.is f = true → fireLow 10 Kind.CLK.PLL_UNLOCK.code (((s.dev.put f false).bump Reg.CLK.LOSS_CNT.COUNT 1).raise 0 Kind.CLK.PLL_UNLOCK { arg := pll }) = d1 → 
    Completes (.pllUnlock pll) s fun d =>
      d = (if pll = 0 then { d1.bringup Reg.SYS.BRINGUP.CLOCKS_LOCKED false with pwr := { (d1.bringup Reg.SYS.BRINGUP.CLOCKS_LOCKED false).pwr with rootLost := true } }
        else if pll = 1 then pllBlockDown .BAS 0 d1 else if pll = 2 then functionLevelReset true d1
        else pllBlockDown .EML (pll - 3) d1)) ∧
  (∀ (s : State) (pll : Nat), s.live → ∀ f ∈ pllBit pll, s.dev.is f = false → 
    Completes (.pllUnlock pll) s fun d =>
      d = s.dev) ∧
  (∀ (s : State) (pll : Nat) (f : Fld) (d1 : Dev), s.live → pllBit pll = some f → s.dev.is f = false → (s.dev.put f true).ev .CLK 0 0 = d1 → 
    Completes (.pllRelock pll) s fun d =>
      d = (if pll = 1 then pllBlockUp .BAS 0 d1 else if pll = 3 then pllBlockUp .EML 0 d1 else if pll = 4 then pllBlockUp .EML 1 d1 else d1)) ∧
  (∀ (s : State) (pll : Nat), s.live → ∀ f ∈ pllBit pll, s.dev.is f = true → 
    Completes (.pllRelock pll) s fun d =>
      d = s.dev) ∧
  (∀ s : State, s.live → s.dev.is Reg.CLK.STAT.DLL = true → 
    Completes (.dllUnlock) s fun d =>
      (let t := ((s.dev.put Reg.CLK.STAT.DLL false).bump Reg.CLK.LOSS_CNT.COUNT 1).raise 0 Kind.CLK.DLL_UNLOCK; d = { t with pwr := { t.pwr with dllWait := true } })) ∧
  (∀ s : State, s.live → s.dev.is Reg.CLK.STAT.DLL = false → 
    Completes (.dllUnlock) s fun d =>
      d = s.dev) ∧
  (∀ s : State, s.live → s.dev.is Reg.CLK.STAT.DLL = true → 
    Completes (.dllRelock) s fun d =>
      d = s.dev) ∧
  (∀ (s : State) (key : Nat), s.live → s.dev.pageOff 0 = true → (∀ k ∈ ([(.softwareReset key, 0x70)] : List (Instr × Nat)),
      Completes k.1 s fun d => d = hostRefused 0x21 k.2 s.dev))

/-- DOM_ON begins to switch on each selected domain that is off, and refuses one that is busy or while PFAIL is low;
DOM_OFF begins to switch off each that is on and refuses one that prints or is busy; DOMAIN_ON_DONE and
DOMAIN_OFF_DONE end the change with EV bit 0, a head-power enable going low with its domain; SUPPLY_LOW shows the
tripped supplies and starts the 2 µs to the brown-out reset. Completes (exec answers a next state, under hypotheses
on state and operands alone): domOn, domOff, domainOnDone, domainOffDone, supplyLow. (R462, R466.) -/
def Obligations.PowerDomains : Prop :=
  (∀ (s : State) (mask : Nat), s.live → s.dev.pageOff 2 = false → mask < 2 ^ 32 → 
    Completes (.domOn mask) s fun d =>
      d = (bitList domains mask).foldl (fun (d : Dev) x =>
        if d.flt.pfailLow = true then domRefuse x 3 d else if d.domBusy x = true then domRefuse x 2 d else if d.domOn x = true then d
        else (let t := (d.setBit Reg.PWR.DOM_BUSY.BUSY x).setBit Reg.PWR.DOM_STAT.ON x; { t with pwr := { t.pwr with goingOn := t.pwr.goingOn ++ [x] } })) s.dev) ∧
  (∀ (s : State) (mask on : Nat), s.live → 
    Completes (.domOff mask on) s fun d =>
      d = (bitList domains (andNot on mask)).foldl (fun (d : Dev) x =>
        if d.flt.pfailLow = true then domRefuse x 3 d else if d.domBusy x = true then domRefuse x 2 d else if d.domOn x = true then d
        else (let t := (d.setBit Reg.PWR.DOM_BUSY.BUSY x).setBit Reg.PWR.DOM_STAT.ON x; { t with pwr := { t.pwr with goingOn := t.pwr.goingOn ++ [x] } }))
        ((bitList domains mask).foldl (fun (d : Dev) x =>
        if d.domPrints x = true then domRefuse x 1 d else if d.domBusy x = true then domRefuse x 2 d else if d.domOn x = false then d
        else (domainBlocks x).foldl (fun d t => blockOff t d)
          (let t := d.setBit Reg.PWR.DOM_BUSY.BUSY x; ({ t with pwr := { t.pwr with goingOff := t.pwr.goingOff ++ [x] } } : Dev).arm (.domainWait x) (max 1 (s.dev.get Reg.PWR.WAIT.US) * us))) s.dev)) ∧
  (∀ (s : State) (dom : Nat) (d1 : Dev), s.live → s.dev.pwr.goingOn.contains dom = true → (domainBlocks dom).foldl blockOn s.dev = d1 → 
    Completes (.domainOnDone dom) s fun d =>
      d = ({ d1 with pwr := { d1.pwr with goingOn := d1.pwr.goingOn.filter (· != dom) } }.clrBit Reg.PWR.DOM_BUSY.BUSY dom).ev .PWR 0 0) ∧
  (∀ (s : State) (dom : Nat), s.live → s.dev.pwr.goingOff.contains dom = true → dom < 10 → (domainBlocks dom).all (fun t => s.dev.blk (pg t.1 t.2) == 0) = true → 
    Completes (.domainOffDone dom) s fun d =>
      d.domOn dom = false ∧ d.domBusy dom = false ∧ d.pwr.goingOff = s.dev.pwr.goingOff.filter (· != dom) ∧ d.evRaw .PWR 0 0 = true) ∧
  (∀ (s : State) (which : Nat), s.live → which % 8 ≠ 0 → 
    Completes (.supplyLow which) s fun d =>
      d.pwr.tripped = true ∧ d.running .supply = true ∧ d.evRaw .PWR 0 Kind.PWR.SUPPLY_LOW.bit = true ∧
        (∀ i ∈ List.range 3, which.testBit i = true → d.is (nth Reg.PWR.SUPPLY.CORE [Reg.PWR.SUPPLY.CORE, Reg.PWR.SUPPLY.SRAM, Reg.PWR.SUPPLY.AN] i) = true)) ∧
  (∀ (s : State) (dom : Nat) (d0 d1 : Dev), s.live → s.dev.pwr.goingOff.contains dom = true → (domainBlocks dom).all (fun t => s.dev.blk (pg t.1 t.2) == 0) = true → ((s.dev.clrBit Reg.PWR.DOM_STAT.ON dom).clrBit Reg.PWR.DOM_BUSY.BUSY dom).disarm (.domainWait dom) = d0 → ({ d0 with pwr := { d0.pwr with goingOff := d0.pwr.goingOff.filter (· != dom) } } : Dev) = d1 → dom < 10 ∨ s.dev.sec.hpwr.testBit (dom - 10) = false → 
    Completes (.domainOffDone dom) s fun d =>
      d = d1.ev .PWR 0 0) ∧
  (∀ (s : State) (dom : Nat) (d0 d1 : Dev), s.live → s.dev.pwr.goingOff.contains dom = true → (domainBlocks dom).all (fun t => s.dev.blk (pg t.1 t.2) == 0) = true → ((s.dev.clrBit Reg.PWR.DOM_STAT.ON dom).clrBit Reg.PWR.DOM_BUSY.BUSY dom).disarm (.domainWait dom) = d0 → ({ d0 with pwr := { d0.pwr with goingOff := d0.pwr.goingOff.filter (· != dom) } } : Dev) = d1 → 10 ≤ dom → s.dev.sec.hpwr.testBit (dom - 10) = true → 
    Completes (.domainOffDone dom) s fun d =>
      d = (let t := ({ d1.emit (.pin Pin.hpwr (dom - 10) 0) with sec := { d1.sec with hpwr := clrB d1.sec.hpwr (dom - 10) } } : Dev); if t.sec.hpwr = 0 then t.bringup Reg.SYS.BRINGUP.HEAD_POWER_ARMED false else t).ev .PWR 0 0) ∧
  (∀ (s : State) (dom : Nat), s.live → s.dev.pwr.goingOff.contains dom = false ∨ (domainBlocks dom).all (fun t => s.dev.blk (pg t.1 t.2) == 0) = false → 
    Completes (.domainOffDone dom) s fun d =>
      d = s.dev) ∧
  (∀ (s : State) (dom : Nat), s.live → s.dev.pwr.goingOn.contains dom = false → 
    Completes (.domainOnDone dom) s fun d =>
      d = s.dev) ∧
  (∀ (s : State) (which : Nat) (d1 : Dev), s.live → which % 8 ≠ 0 → (let t := (bitList 3 (which % 8)).foldl (fun (d : Dev) i => d.put (nth Reg.PWR.SUPPLY.CORE [Reg.PWR.SUPPLY.CORE, Reg.PWR.SUPPLY.SRAM, Reg.PWR.SUPPLY.AN] i) true) s.dev; { t with pwr := { t.pwr with tripped := true } }) = d1 → 
    Completes (.supplyLow which) s fun d =>
      d = (if d1.running .supply = true then d1 else d1.arm .supply (2 * us)).raise 0 Kind.PWR.SUPPLY_LOW { arg := which % 8 }) ∧
  (∀ (s : State) (which : Nat), s.live → which % 8 = 0 → 
    Completes (.supplyLow which) s fun d =>
      d = s.dev) ∧
  (∀ (s : State) (mask : Nat), s.live → s.dev.pageOff 2 = true → (∀ k ∈ ([(.domOn mask, 0x2040)] : List (Instr × Nat)),
      Completes k.1 s fun d => d = hostRefused 0x21 k.2 s.dev))

/-- SMB_SET_PTR, SMB_READ and SMB_WRITE set the pointer, read and write the register under it and step it by 4, or
answer no acknowledge; SPIF_READ, SPIF_PROGRAM and SPIF_ERASE of a legal request start the operation, and end with
RESULT 1 or 4 where the interface is taken or the request is not legal; SPIF_DONE ends it with the bytes moved, with
RESULT 2 when the flash fails and 3 when the Basin does or PFAIL cuts it; SAFE_IN_RELEASE and PFAIL_RELEASE note the
rise of their pins. Completes (exec answers a next state, under hypotheses on state and operands alone): smbSetPtr,
smbRead, smbWrite, spifRead, spifProgram, spifErase, spifDone, safeInRelease, pfailRelease. (R478, R479, R404, R470,
R474.) -/
def Obligations.ServicePorts : Prop :=
  (∀ (s : State) (offset : Nat), s.live → offset % 4 = 0 → 
    Completes (.smbSetPtr offset true) s fun d =>
      d = (s.dev.set Reg.SMB.PTR.OFFSET offset).emit (.smbus true 0)) ∧
  (∀ (s : State) (v cc : Nat) (d1 : Dev), s.live → busRead s.fuse Party.inner (s.dev.get Reg.SMB.PTR.OFFSET) s.dev = (v, cc, d1) → 
    Completes (.smbRead true) s fun d =>
      d = (smbNext (d1.emit (.completion Party.inner.master cc))).emit (.smbus true v)) ∧
  (∀ (s : State) (value cc : Nat) (d1 : Dev), s.live → s.dev.is Reg.SMB.CFG.WR_EN = true → busWrite s.fuse Party.inner (s.dev.get Reg.SMB.PTR.OFFSET) value s.dev = (cc, d1) → 
    Completes (.smbWrite value true) s fun d =>
      d = (smbNext (d1.emit (.completion Party.inner.master cc))).emit (.smbus true 0)) ∧
  (∀ s : State, s.live → s.dev.pageOff 0x152 = false → s.dev.spif = none → s.dev.get Reg.SYS.SPRING_STAT.STATE ≠ 1 → s.dev.sed.dump = none → s.dev.spifFields 0 = true → 
    Completes (.spifRead) s fun d =>
      d = { (s.dev.set Reg.SPIF.OP.OPCODE 0).put Reg.SPIF.STAT.BUSY true with spif := d.spif } ∧ d.spif = some ({ op := 0, flash := (s.dev.spifRange 0).1, basin := s.dev.get Reg.SPIF.BASIN_ADDR.ADDR, len := (s.dev.spifRange 0).2 } : SpifOp) ∧
        d.is Reg.SPIF.STAT.BUSY = true) ∧
  (∀ s : State, s.live → s.dev.pageOff 0x152 = false → s.dev.spif = none → s.dev.get Reg.SYS.SPRING_STAT.STATE ≠ 1 → s.dev.sed.dump = none → s.dev.spifFields 1 = true → s.dev.inDump (s.dev.spifRange 1).1 (s.dev.spifRange 1).2 = false → 
    Completes (.spifProgram) s fun d =>
      d = { (s.dev.set Reg.SPIF.OP.OPCODE 1).put Reg.SPIF.STAT.BUSY true with spif := d.spif } ∧ d.spif = some ({ op := 1, flash := (s.dev.spifRange 1).1, basin := s.dev.get Reg.SPIF.BASIN_ADDR.ADDR, len := (s.dev.spifRange 1).2 } : SpifOp) ∧
        d.is Reg.SPIF.STAT.BUSY = true) ∧
  (∀ s : State, s.live → s.dev.pageOff 0x152 = false → s.dev.spif = none → s.dev.get Reg.SYS.SPRING_STAT.STATE ≠ 1 → s.dev.sed.dump = none → s.dev.spifFields 2 = true → s.dev.inDump (s.dev.spifRange 2).1 (s.dev.spifRange 2).2 = false → 
    Completes (.spifErase) s fun d =>
      d = { (s.dev.set Reg.SPIF.OP.OPCODE 2).put Reg.SPIF.STAT.BUSY true with spif := d.spif } ∧ d.spif = some ({ op := 2, flash := (s.dev.spifRange 2).1, basin := s.dev.get Reg.SPIF.BASIN_ADDR.ADDR, len := (s.dev.spifRange 2).2 } : SpifOp) ∧
        d.is Reg.SPIF.STAT.BUSY = true) ∧
  (∀ (s : State) (x : SpifOp) (moved : Nat), s.live → s.dev.spif = some x → x.op = 2 → 
    Completes (.spifDone true moved) s fun d =>
      d = { (s.dev.put Reg.SPIF.STAT.BUSY false).set Reg.SPIF.STAT.RESULT 0 with spif := none, flash := memClear x.flash x.len s.dev.flash }) ∧
  (∀ s : State, s.live → s.dev.flt.safeInLow = true → 
    Completes (.safeInRelease) s fun d =>
      d = { s.dev with flt := { s.dev.flt with safeInLow := false, calmSince := s.dev.time.up } }) ∧
  (∀ s : State, s.live → s.dev.flt.pfailLow = true → 
    Completes (.pfailRelease) s fun d =>
      d = { s.dev with flt := { s.dev.flt with pfailLow := false, powerfail := false, calmSince := s.dev.time.up } }) ∧
  (∀ s : State, s.live → s.dev.pageOff 0x152 = false → (s.dev.spif.isSome = true ∨ s.dev.get Reg.SYS.SPRING_STAT.STATE = 1 ∨ s.dev.sed.dump.isSome = true) → 
    Completes (.spifRead) s fun d =>
      d = (s.dev.set Reg.SPIF.OP.OPCODE 0).set Reg.SPIF.STAT.RESULT 1) ∧
  (∀ s : State, s.live → s.dev.pageOff 0x152 = false → (s.dev.spif.isSome = true ∨ s.dev.get Reg.SYS.SPRING_STAT.STATE = 1 ∨ s.dev.sed.dump.isSome = true ∨ s.dev.inDump (s.dev.spifRange 1).1 (s.dev.spifRange 1).2 = true) → 
    Completes (.spifProgram) s fun d =>
      d = (s.dev.set Reg.SPIF.OP.OPCODE 1).set Reg.SPIF.STAT.RESULT 1) ∧
  (∀ s : State, s.live → s.dev.pageOff 0x152 = false → (s.dev.spif.isSome = true ∨ s.dev.get Reg.SYS.SPRING_STAT.STATE = 1 ∨ s.dev.sed.dump.isSome = true ∨ s.dev.inDump (s.dev.spifRange 2).1 (s.dev.spifRange 2).2 = true) → 
    Completes (.spifErase) s fun d =>
      d = (s.dev.set Reg.SPIF.OP.OPCODE 2).set Reg.SPIF.STAT.RESULT 1) ∧
  (∀ s : State, s.live → s.dev.pageOff 0x152 = false → ¬ (s.dev.spif.isSome = true ∨ s.dev.get Reg.SYS.SPRING_STAT.STATE = 1 ∨ s.dev.sed.dump.isSome = true) → s.dev.spifFields 0 = false → 
    Completes (.spifRead) s fun d =>
      d = (s.dev.set Reg.SPIF.OP.OPCODE 0).set Reg.SPIF.STAT.RESULT 4) ∧
  (∀ s : State, s.live → s.dev.pageOff 0x152 = false → ¬ (s.dev.spif.isSome = true ∨ s.dev.get Reg.SYS.SPRING_STAT.STATE = 1 ∨ s.dev.sed.dump.isSome = true ∨ s.dev.inDump (s.dev.spifRange 1).1 (s.dev.spifRange 1).2 = true) → s.dev.spifFields 1 = false → 
    Completes (.spifProgram) s fun d =>
      d = (s.dev.set Reg.SPIF.OP.OPCODE 1).set Reg.SPIF.STAT.RESULT 4) ∧
  (∀ s : State, s.live → s.dev.pageOff 0x152 = false → ¬ (s.dev.spif.isSome = true ∨ s.dev.get Reg.SYS.SPRING_STAT.STATE = 1 ∨ s.dev.sed.dump.isSome = true ∨ s.dev.inDump (s.dev.spifRange 2).1 (s.dev.spifRange 2).2 = true) → s.dev.spifFields 2 = false → 
    Completes (.spifErase) s fun d =>
      d = (s.dev.set Reg.SPIF.OP.OPCODE 2).set Reg.SPIF.STAT.RESULT 4) ∧
  (∀ (s : State) (offset : Nat) (ok : Bool), s.live → ok = false ∨ offset % 4 ≠ 0 → 
    Completes (.smbSetPtr offset ok) s fun d =>
      d = s.dev.emit (.smbus false 0)) ∧
  (∀ s : State, s.live → 
    Completes (.smbRead false) s fun d =>
      d = s.dev.emit (.smbus false 0)) ∧
  (∀ (s : State) (value : Nat) (ok : Bool), s.live → ok = false ∨ s.dev.is Reg.SMB.CFG.WR_EN = false → 
    Completes (.smbWrite value ok) s fun d =>
      d = s.dev.emit (.smbus false 0)) ∧
  (∀ (s : State) (x : SpifOp) (moved n : Nat) (d1 : Dev), s.live → s.dev.spif = some x → ({ s.dev.put Reg.SPIF.STAT.BUSY false with spif := none } : Dev) = d1 → x.op = 0 → d1.basinUp = true → (if s.dev.flt.pfailLow = true then min x.len (ceilDiv (x.flash + min moved x.len) 256 * 256 - x.flash) else x.len) = n → 
    Completes (.spifDone true moved) s fun d =>
      d = (d1.basinWrite x.basin (memRead 0xFF s.dev.flash x.flash n) 2 spifMaster).set Reg.SPIF.STAT.RESULT (if s.dev.flt.pfailLow = true then 3 else 0)) ∧
  (∀ (s : State) (x : SpifOp) (moved : Nat) (d1 : Dev), s.live → s.dev.spif = some x → ({ s.dev.put Reg.SPIF.STAT.BUSY false with spif := none } : Dev) = d1 → x.op = 1 → d1.basinUp = true → d1.basinFails x.basin x.len = false → 
    Completes (.spifDone true moved) s fun d =>
      d = ({ d1.served 2 x.len with flash := memWrite 0xFF x.flash (d1.basinRead x.basin x.len) s.dev.flash } : Dev).set Reg.SPIF.STAT.RESULT (if s.dev.flt.pfailLow = true then 3 else 0)) ∧
  (∀ (s : State) (x : SpifOp) (moved : Nat) (d1 : Dev), s.live → s.dev.spif = some x → ({ s.dev.put Reg.SPIF.STAT.BUSY false with spif := none } : Dev) = d1 → x.op ≠ 2 → d1.basinUp = false ∨ (x.op = 1 ∧ d1.basinFails x.basin x.len = true) → x.op ≤ 2 → 
    Completes (.spifDone true moved) s fun d =>
      d = d1.set Reg.SPIF.STAT.RESULT 3) ∧
  (∀ (s : State) (x : SpifOp) (moved : Nat) (d1 : Dev), s.live → s.dev.spif = some x → ({ s.dev.put Reg.SPIF.STAT.BUSY false with spif := none } : Dev) = d1 → 
    Completes (.spifDone false moved) s fun d =>
      d = (if x.op = 0 then d1 else ({ d1 with flash := memWrite 0xFF x.flash (d1.freeBytes x.len) s.dev.flash } : Dev).drawn).set Reg.SPIF.STAT.RESULT 2) ∧
  (∀ (s : State) (ok : Bool) (moved : Nat), s.live → s.dev.spif = none → 
    Completes (.spifDone ok moved) s fun d =>
      d = s.dev) ∧
  (∀ s : State, s.live → s.dev.flt.safeInLow = false → 
    Completes (.safeInRelease) s fun d =>
      d = s.dev) ∧
  (∀ s : State, s.live → s.dev.flt.pfailLow = false → 
    Completes (.pfailRelease) s fun d =>
      d = s.dev) ∧
  (∀ s : State, s.live → s.dev.pageOff 0x152 = true → (∀ k ∈ ([(.spifRead, 0x152048), (.spifProgram, 0x152048), (.spifErase, 0x152048)] : List (Instr × Nat)),
      Completes k.1 s fun d => d = hostRefused 0x21 k.2 s.dev))

/-- FRAME_SHIPPED on a link that is UP ships, after the sample frame that is due, a frame asked for again, or the next
voted frame of the built cycle behind the blank rows of a withheld one, or a control block when no frame is ready;
TRAIN_SETTLE_END starts training step T1; CELL_CRC_ERROR counts an error of the link and raises LINK_DEGRADED at the
threshold of one second; UNKNOWN_CELL counts a cell of an unknown type that the device consumes, and forwards the
others; EOUT_Z_END ends the index pulse. Completes (exec answers a next state, under hypotheses on state and
operands alone): frameShipped, trainSettleEnd, cellCrcError, unknownCell, eoutZEnd. (R185, R187, R197, R240, R286,
R284, R277.) -/
def Obligations.FramesAndCells : Prop :=
  (∀ (s : State) (n : Nat) (c : Cycle) (f : Bytes) (d0 d1 : Dev), s.live → s.dev.headUp n = true → sampleBoundary n s.dev = d0 → (d0.port n).built = some c → c.resend = [] → c.waits = false → c.frames[c.shipped]? = some f → c.failed = false → (((c.frames.take (c.shipped + 1)).map frameSegs).foldl (· + ·) 0) ≤ c.segsVoted → (let t := (s.dev.head n).blanks.foldl (fun (d : Dev) r => d.ship n (lineFrame r (byteAt f 2) (List.replicate (match d.geom n with | some g => (g.row r).length | none => 0) 0)) 0x200) d0;
      if (s.dev.head n).blanks = [] then d0 else t.setHead n { t.head n with blanks := [] }) = d1 → 
    Completes (.frameShipped n) s fun d =>
      d = (onBuilt n (fun c => { c with shipped := c.shipped + 1, bufs := c.bufs.filter fun b => b.2.frame != c.shipped }) d1).ship n f c.shipped) ∧
  (∀ (s : State) (n k : Nat) (c : Cycle) (rest : List Nat) (d0 : Dev), s.live → s.dev.headUp n = true → sampleBoundary n s.dev = d0 → (d0.port n).built = some c → c.resend = k :: rest → 
    Completes (.frameShipped n) s fun d =>
      d = ((onBuilt n (fun c => { c with resend := rest }) d0).ship n (resendFrame (nth [] c.frames k)) k).bump (Reg.HPT.RESEND_CNT.COUNT n) 1) ∧
  (∀ (s : State) (n : Nat) (c : Cycle) (f : Bytes) (d0 : Dev), s.live → s.dev.headUp n = true → sampleBoundary n s.dev = d0 → (d0.port n).built = some c → c.resend = [] → c.waits = false → c.frames[c.shipped]? = some f → c.failed = true ∨ c.segsVoted < (((c.frames.take (c.shipped + 1)).map frameSegs).foldl (· + ·) 0) → 
    Completes (.frameShipped n) s fun d =>
      d = d0) ∧
  (∀ (s : State) (n : Nat) (d0 : Dev), s.live → s.dev.headUp n = true → sampleBoundary n s.dev = d0 → ∀ c ∈ (d0.port n).built, c.resend = [] ∧ (c.waits = true ∨ c.frames[c.shipped]? = none) → 
    Completes (.frameShipped n) s fun d =>
      d = (match (d0.head n).ctrl, (d0.head n).queue with
        | none, q :: rest => ((d0.setHead n { d0.head n with ctrl := some q, queue := rest }).ship n (ctrlFrame q) 0).arm (.ctrl n) (20 * us)
        | _, _ => d0)) ∧
  (∀ (s : State) (n : Nat), s.live → s.dev.headUp n = false → 
    Completes (.frameShipped n) s fun d =>
      d = s.dev) ∧
  (∀ (s : State) (n t : Nat), s.live → (s.dev.head n).step = 1 → s.dev.due (.trainSettle n) = some t → 
    Completes (.trainSettleEnd n) s fun d =>
      d = trainT1 n ((s.dev.advanceTo t).disarm (.trainSettle n))) ∧
  (∀ (s : State) (n : Nat), s.live → (s.dev.head n).step ≠ 1 ∨ s.dev.due (.trainSettle n) = none → 
    Completes (.trainSettleEnd n) s fun d =>
      d = s.dev) ∧
  (∀ (s : State) (l k : Nat), s.live → l < 2 → (if (s.dev.eml l).errSec = s.dev.time.up / sec then (s.dev.eml l).errs + 1 else 1) = k → 
    Completes (.cellCrcError l) s fun d =>
      d = (if k = max 1 (s.dev.get (Reg.EML.DEGRADE.THRESH l)) then (((freeBuffer l (Config.freeValue s.dev.free % 5) s.dev.drawn).setEml l { (freeBuffer l (Config.freeValue s.dev.free % 5) s.dev.drawn).eml l with errs := k, errSec := s.dev.time.up / sec }).bump (Reg.EML.CRC_ERR_CNT.COUNT l) 1).raise l Kind.EML.LINK_DEGRADED else (((freeBuffer l (Config.freeValue s.dev.free % 5) s.dev.drawn).setEml l { (freeBuffer l (Config.freeValue s.dev.free % 5) s.dev.drawn).eml l with errs := k, errSec := s.dev.time.up / sec }).bump (Reg.EML.CRC_ERR_CNT.COUNT l) 1))) ∧
  (∀ (s : State) (type : Nat) (c : CellIn) (dt : Nat), s.live → cellClass type ≠ 4 → s.dev.hearsAll type c → 
    Completes (.unknownCell type c dt) s fun d =>
      (let t := (seenKey type c (forwardCell type c (freeBuffer (c.link % 2) (cellClass type) (s.dev.advance dt)))).2; d = { t with emr := { t.emr with unknown := t.emr.unknown + 1 } })) ∧
  (∀ (s : State) (type : Nat) (c : CellIn) (dt : Nat), s.live → cellClass type ≠ 4 → s.dev.hearsOwn c → 
    Completes (.unknownCell type c dt) s fun d =>
      (let t := (freeBuffer (c.link % 2) (cellClass type) (s.dev.advance dt)); d = { t with emr := { t.emr with unknown := t.emr.unknown + 1 } })) ∧
  (∀ (s : State) (type : Nat) (c : CellIn) (dt : Nat), s.live → cellClass type ≠ 4 → s.dev.linkUp (c.link % 2) = true → c.src % 64 ≠ s.dev.ringAddr → c.dst < 128 → c.dst % 64 ≠ s.dev.ringAddr → 
    Completes (.unknownCell type c dt) s fun d =>
      d = forwardCell type c (freeBuffer (c.link % 2) (cellClass type) (s.dev.advance dt))) ∧
  (∀ (s : State) (type : Nat) (c : CellIn) (dt : Nat), s.live → cellClass type ≠ 4 → s.dev.linkUp (c.link % 2) = true → c.src % 64 ≠ s.dev.ringAddr → 128 ≤ c.dst → s.dev.emr.seen.contains (c.src, type, c.seq) = true ∨ s.dev.inRun (pg .EMR 0) = false → 
    Completes (.unknownCell type c dt) s fun d =>
      d = (seenKey type c (forwardCell type c (freeBuffer (c.link % 2) (cellClass type) (s.dev.advance dt)))).2) ∧
  (∀ (s : State) (type : Nat) (c : CellIn) (dt : Nat), s.live → cellClass type ≠ 4 → type ≠ 0x24 → s.dev.linkUp (c.link % 2) = true → c.src % 64 = s.dev.ringAddr → 
    Completes (.unknownCell type c dt) s fun d =>
      d = (freeBuffer (c.link % 2) (cellClass type) (s.dev.advance dt))) ∧
  (∀ (s : State) (type : Nat) (c : CellIn) (dt : Nat), s.live → (cellClass type ≠ 4 ∧ s.dev.linkUp (c.link % 2) = false) ∨ (cellClass type = 4 ∧ s.dev.get (Reg.EML.LINK_STAT.STATE (c.link % 2)) ≠ 2 ∧ s.dev.get (Reg.EML.LINK_STAT.STATE (c.link % 2)) ≠ 3) → 
    Completes (.unknownCell type c dt) s fun d =>
      d = s.dev.advance dt) ∧
  (∀ (s : State) (type : Nat) (c : CellIn) (dt : Nat), s.live → cellClass type = 4 → s.dev.get (Reg.EML.LINK_STAT.STATE (c.link % 2)) = 2 ∨ s.dev.get (Reg.EML.LINK_STAT.STATE (c.link % 2)) = 3 → 
    Completes (.unknownCell type c dt) s fun d =>
      (let t := s.dev.advance dt; d = { t with emr := { t.emr with unknown := t.emr.unknown + 1 } })) ∧
  (∀ (s : State) (m t : Nat), s.live → s.dev.due (.eoutZ m) = some t → 
    Completes (.eoutZEnd m) s fun d =>
      d = ((s.dev.advanceTo t).disarm (.eoutZ m)).emit (.pin Pin.eoutZ m 0)) ∧
  (∀ (s : State) (m : Nat), s.live → s.dev.due (.eoutZ m) = none → 
    Completes (.eoutZEnd m) s fun d =>
      d = s.dev)

/-- For every command c and state s, a step with c at the front of the queue is exec of c on s with the rest of the
queue. On an empty queue the step answers the idle state, in which one step of time passes unless the block is held
in reset; that is the choice of the model (notes/assumptions/7.md). (R37.) -/
def Obligations.StepRunsTheFront : Prop :=
  (∀ (c : Instr) (s : State), step { s with pending := c :: s.pending } = exec c s) ∧
  ∀ s : State, s.pending = [] → step s = .next s.idle

/-- After reset no command waits, every register field reads its reset value, the memories list no byte and are
canonical, no slot of the collector is occupied, LEVEL is 0, the mode is STANDBY and the FIFOs are empty. The reset
values of fields for which the manual states none are those of the log entries of NOTES.md. (R7, R461, R467.) -/
def Obligations.Reset : Prop :=
  State.reset.pending = [] ∧ (∀ f : Fld, State.reset.dev.get f = f.rst) ∧ State.reset.dev.basin = [] ∧ State.reset.dev.shallows = [] ∧
  State.reset.dev.sed.mem = [] ∧ Memory.wf 0 State.reset.dev.basin = true ∧ State.reset.dev.level = 0 ∧ State.reset.dev.mode = 0 ∧
  State.reset.dev.flt.inbox = [] ∧ State.reset.dev.sed.fifo = [] ∧ State.reset.dev.get Reg.PWR.DOM_STAT.ON = 2 ^ 18 - 1 ∧ State.reset.live

/-- In every state held in reset, every command but COLD_RESET and PIN_RESET answers that very state. (R466, R487.) -/
def Obligations.HeldInReset : Prop :=
  ∀ (c : Instr) (s : State), s.dev.sys.inReset = true → (∀ a, c ≠ .coldReset a) → (∀ a, c ≠ .pinReset a) → exec c s = .next s

/-- Every command answers a next state with the queue as it was; after k steps, with k at most the length of the queue,
the first k commands are gone, and as many steps as commands wait leave an empty queue. (R2, R43.) -/
def Obligations.EveryCommandAnswers : Prop :=
  (∀ (c : Instr) (s : State), ∃ t, exec c s = .next t ∧ t.pending = s.pending) ∧
  (∀ (k : Nat) (s : State), k ≤ s.pending.length → ∃ t, runs k s = .next t ∧ t.pending = s.pending.drop k) ∧
  ∀ s : State, ∃ t, runs s.pending.length s = .next t ∧ t.pending = []

/-- Whatever a command other than FUSE_PROGRAM_DONE answers, the fuses are as before; FUSE_PROGRAM_DONE without a
command that programs fuses leaves them too. (R446, R448, R449.) -/
def Obligations.FusesOnlyProgrammed : Prop :=
  (∀ (c : Instr) (s t : State), (∀ ok, c ≠ .fuseProgramDone ok) → exec c s = .next t → t.fuse = s.fuse) ∧
  ∀ (ok : Bool) (s t : State), s.dev.fusing = false → exec (.fuseProgramDone ok) s = .next t → t.fuse = s.fuse

/-- For every reference u of fuses: if the lifecycle bits blown in u are blown in a state and the rows of u come first
among its rows, the same holds after every step, with any command at the front of the queue or none. (R446, R447,
R451.) -/
def Obligations.FusesNeverRevert : Prop :=
  ∀ (u : Fuses) (s t : State), u.keptIn s.fuse → step s = .next t → u.keptIn t.fuse

/-- At reset the fuses are those of a blank device, so that the invariant of FusesNeverRevert holds there. (R446, R447.) -/
def Obligations.FusesAtReset : Prop :=
  State.reset.fuse = Fuses.blank ∧ Fuses.blank.keptIn State.reset.fuse ∧ State.reset.fuse.state = 0

/-- A host write through BAR2 that reaches a Basin without uncorrectable errors, and a Shallows write outside print
modes: every byte of the range reads as written, every other byte as before, and the canonical form is kept.
Completes (exec answers a next state, under hypotheses on state and operands alone): hostBar2Access, shallowsAccess.
(R29, R318, R319.) -/
def Obligations.MemoryBytes : Prop :=
  (∀ (s : State) (addr : Nat) (data : Bytes), s.live → s.dev.basinUp = true → s.dev.mem.ue = [] → addr + data.length ≤ basinSize → 
    Completes (.hostBar2Access addr data.length true data 0 0) s fun d =>
      (∀ i < data.length, memGet 0 d.basin (addr + i) = nth 0 data i) ∧
        (∀ a, a < addr ∨ addr + data.length ≤ a → memGet 0 d.basin a = memGet 0 s.dev.basin a) ∧
        (Memory.wf 0 s.dev.basin = true → Memory.wf 0 d.basin = true) ∧ d.shallows = s.dev.shallows ∧ d.flash = s.dev.flash) ∧
  (∀ (s : State) (master a len err : Nat) (data : Bytes), s.live → a + data.length ≤ 2 ^ 25 → s.dev.inRun (pg .SHL 0) = true → s.dev.shallowsOpen = true → 
    Completes (.shallowsAccess master a len true data err) s fun d =>
      (∀ i < data.length, memGet 0 d.shallows (a + i) = nth 0 data i) ∧
        (∀ b, b < a ∨ a + data.length ≤ b → memGet 0 d.shallows b = memGet 0 s.dev.shallows b) ∧
        (Memory.wf 0 s.dev.shallows = true → Memory.wf 0 d.shallows = true) ∧ d.basin = s.dev.basin ∧ d.flash = s.dev.flash)

/-- SIGNAL copies CODE into SIG_CODE and sets EV_RAW bit 1 of the page of channel n, whether the bit was set or not, and
source 160 + n is raised when the mask bit is 0; the channel goes on with the next instruction. Completes (exec
answers a next state, under hypotheses on state and operands alone): signal. (R338.) -/
def Obligations.SignalRule : Prop :=
  (∀ (s : State) (n : Nat), s.live → n < 32 → s.dev.dmaOp n = 0x31 → 
    Completes (.signal n) s fun d =>
      d.get (Reg.DMA.SIG_CODE.CODE n) = bits (s.dev.dmaWord n) 7 0 ∧ d.evRaw .DMA n 1 = true ∧
        ((s.dev.get (Reg.HDR.EV_MASK (pg .DMA n))).testBit 1 = false → d.srcRaised (160 + n) = true) ∧
        d = dmaNext n ((s.dev.set (Reg.DMA.SIG_CODE.CODE n) (bits (s.dev.dmaWord n) 7 0)).ev .DMA n 1))

/-- A write of FIRE_P_k sets its own fields, at most 8000 each, and changes no waveform and nothing else; a write of
FIRE_W_k makes the held PRE and GAP and the written MAIN together the nominal waveform of class k. Completes (exec
answers a next state, under hypotheses on state and operands alone): registerWrite, fireWWrite. (R157.) -/
def Obligations.HeldWaveform : Prop :=
  (∀ (s : State) (n k master v : Nat) (internal : Bool), s.live → n < 64 → k < 4 → s.dev.pageOff (0x100 + n) = false → k ≠ 0 → s.dev.is (Reg.HDR.LEVEL (0x100 + n)) = true → v < 2 ^ 32 → 
    Completes (.registerWrite master internal ((0x100 + n) * 4096 + (if k = 0 then 0x200 else 0x600 + 8 * (k - 1))) 4 v) s fun d =>
      d = completed { master, internal } 0 { s.dev with regs := d.regs } ∧ d.get (fireFields n k).1 = min (bits v 12 0) 8000 ∧ d.get (fireFields n k).2.1 = min (bits v 28 16) 8000 ∧
        s.dev.Kept d [(fireFields n k).1, (fireFields n k).2.1]) ∧
  (∀ (s : State) (n k main : Nat), s.live → n < 64 → k < 4 → s.dev.pageOff (0x100 + n) = false → k ≠ 0 → s.dev.is (Reg.HDR.LEVEL (0x100 + n)) = true → main < 2 ^ 32 → 
    Completes (.fireWWrite n k main) s fun d =>
      (d.wave n k).nom = ({ pre := min (s.dev.get (fireFields n k).1) 8000, gap := min (s.dev.get (fireFields n k).2.1) 8000, main := min (main % 8192) 8000 } : Wave))

/-- While VALID of the page is 1, a further fault adds 1 to COUNT below its maximum and leaves the other FLT_LOCAL
fields as they are; every fault, first or not, appends to the inbox of the collector one message with the source,
the kind code and the page of the fault. (R32.) -/
def Obligations.FaultCapture : Prop :=
  ∀ (d : Dev) (n : Nat) (k : FKind) (a : FArg),
    (d.is (Reg.HDR.F_VALID (pg k.blk n)) = true →
      (d.get (Reg.HDR.F_COUNT (pg k.blk n)) < 2 ^ 32 - 1 →
        (d.raise n k a).get (Reg.HDR.F_COUNT (pg k.blk n)) = d.get (Reg.HDR.F_COUNT (pg k.blk n)) + 1) ∧
      ∀ f ∈ [Reg.HDR.F_VALID (pg k.blk n), Reg.HDR.F_TS (pg k.blk n), Reg.HDR.F_ADDR (pg k.blk n), Reg.HDR.F_SEVERITY (pg k.blk n),
        Reg.HDR.F_KIND (pg k.blk n), Reg.HDR.F_ACCESS (pg k.blk n), Reg.HDR.F_MASTER (pg k.blk n), Reg.HDR.F_ARG (pg k.blk n)],
        (d.raise n k a).get f = d.get f) ∧
    ∃ m : FaultMsg, (d.raise n k a).flt.inbox = d.flt.inbox ++ [m] ∧ m.kind = k.code ∧ m.page = pg k.blk n ∧
      m.source = (k.blk.source n k.bit).getD 0 ∧ m.first = !d.is (Reg.HDR.F_VALID (pg k.blk n))

/-- For every cell class above the link: a cell for another member is forwarded on the opposite link with HOPS + 1; a
broadcast heard before is forwarded again and not consumed; a cell of this device's own that has come full circle is
taken off the ring; on a link that is not UP nothing happens. A cell for this device while EMR is not in run frees
its buffer and is not consumed. (R286, R289.) -/
def Obligations.CellsInTransit : Prop :=
  (∀ (s : State) (c : CellIn) (dt : Nat), s.live → s.dev.linkUp (c.link % 2) = true → c.src % 64 ≠ s.dev.ringAddr → c.dst < 128 → c.dst % 64 ≠ s.dev.ringAddr → (∀ k ∈ ([(0x10, Instr.position), (0x11, .time), (0x12, .heartbeat), (0x13, .sheetEdgeCell), (0x20, .claim), (0x21, .join), (0x22, .leave),
      (0x23, .statusCell), (0x24, .slowdown), (0x24, .regRead), (0x24, .regWrite), (0x24, .bulkEnd), (0x25, .ack), (0x30, .faultCell), (0x31, .eventCell),
      (0x40, .bulk)] : List (Nat × (CellIn → Nat → Instr))),
      Completes (k.2 c dt) s fun d => d = forwardCell k.1 c (freeBuffer (c.link % 2) (cellClass k.1) (s.dev.advance dt)))) ∧
  (∀ (s : State) (c : CellIn) (dt : Nat), s.live → s.dev.linkUp (c.link % 2) = true → c.src % 64 ≠ s.dev.ringAddr → 128 ≤ c.dst → s.dev.emr.seen.contains (c.src, 0x10, c.seq) = true → (∀ k ∈ ([(0x10, Instr.position), (0x11, .time), (0x12, .heartbeat), (0x13, .sheetEdgeCell), (0x20, .claim), (0x21, .join), (0x22, .leave),
      (0x23, .statusCell), (0x24, .slowdown), (0x24, .regRead), (0x24, .regWrite), (0x24, .bulkEnd), (0x25, .ack), (0x30, .faultCell), (0x31, .eventCell),
      (0x40, .bulk)] : List (Nat × (CellIn → Nat → Instr))),
      Completes (k.2 c dt) s fun d => k.1 = 0x10 → d = forwardCell k.1 c (freeBuffer (c.link % 2) (cellClass k.1) (s.dev.advance dt)))) ∧
  (∀ (s : State) (c : CellIn) (dt : Nat), s.live → s.dev.linkUp (c.link % 2) = true → c.src % 64 = s.dev.ringAddr → (∀ k ∈ ([(0x10, Instr.position), (0x11, .time), (0x12, .heartbeat), (0x13, .sheetEdgeCell), (0x20, .claim), (0x21, .join), (0x22, .leave),
      (0x23, .statusCell), (0x24, .slowdown), (0x24, .regRead), (0x24, .regWrite), (0x24, .bulkEnd), (0x25, .ack), (0x30, .faultCell), (0x31, .eventCell),
      (0x40, .bulk)] : List (Nat × (CellIn → Nat → Instr))),
      Completes (k.2 c dt) s fun d => d = cameBack k.1 c (freeBuffer (c.link % 2) (cellClass k.1) (s.dev.advance dt)))) ∧
  (∀ (s : State) (c : CellIn) (dt : Nat), s.live → s.dev.linkUp (c.link % 2) = false → (∀ k ∈ ([(0x10, Instr.position), (0x11, .time), (0x12, .heartbeat), (0x13, .sheetEdgeCell), (0x20, .claim), (0x21, .join), (0x22, .leave),
      (0x23, .statusCell), (0x24, .slowdown), (0x24, .regRead), (0x24, .regWrite), (0x24, .bulkEnd), (0x25, .ack), (0x30, .faultCell), (0x31, .eventCell),
      (0x40, .bulk)] : List (Nat × (CellIn → Nat → Instr))),
      Completes (k.2 c dt) s fun d => d = s.dev.advance dt)) ∧
  (∀ (s : State) (c : CellIn) (dt : Nat), s.live → s.dev.linkUp (c.link % 2) = true → c.src % 64 ≠ s.dev.ringAddr → 128 ≤ c.dst → (∀ k ∈ ([(0x10, Instr.position), (0x11, .time), (0x12, .heartbeat), (0x13, .sheetEdgeCell), (0x20, .claim), (0x21, .join), (0x22, .leave),
      (0x23, .statusCell), (0x24, .slowdown), (0x24, .regRead), (0x24, .regWrite), (0x24, .bulkEnd), (0x25, .ack), (0x30, .faultCell), (0x31, .eventCell),
      (0x40, .bulk)] : List (Nat × (CellIn → Nat → Instr))),
      Completes (k.2 c dt) s fun d => (s.dev.emr.seen.contains (c.src, k.1, c.seq) = true ∨ s.dev.inRun (pg .EMR 0) = false) →
        d = (seenKey k.1 c (forwardCell k.1 c (freeBuffer (c.link % 2) (cellClass k.1) (s.dev.advance dt)))).2)) ∧
  (∀ (s : State) (c : CellIn) (dt : Nat), s.live → s.dev.linkUp (c.link % 2) = true → c.src % 64 ≠ s.dev.ringAddr → c.dst < 128 → c.dst % 64 = s.dev.ringAddr → s.dev.inRun (pg .EMR 0) = false → (∀ k ∈ ([(0x10, Instr.position), (0x11, .time), (0x12, .heartbeat), (0x13, .sheetEdgeCell), (0x20, .claim), (0x21, .join), (0x22, .leave),
      (0x23, .statusCell), (0x24, .slowdown), (0x24, .regRead), (0x24, .regWrite), (0x24, .bulkEnd), (0x25, .ack), (0x30, .faultCell), (0x31, .eventCell),
      (0x40, .bulk)] : List (Nat × (CellIn → Nat → Instr))),
      Completes (k.2 c dt) s fun d => d = freeBuffer (c.link % 2) (cellClass k.1) (s.dev.advance dt)))
end

