-- ==== Sys2Proof/Laws/Tbl.lean ====
section
/-!
SUPPORT. What the sparse tables do: a key that was set reads the value set, every other key reads as before, and the
canonical form is kept.
-/
namespace Sys2Proof.Machine

variable {α : Type}

theorem tget_tdel_same (d : α) (k : Nat) (t : List (Nat × α)) : tget d (tdel k t) k = d := by
  induction t with
  | nil => rfl
  | cons e t ih =>
    obtain ⟨k', v⟩ := e
    by_cases h : k' = k
    · simpa [tdel, h] using ih
    · simpa [tdel, h, tget] using ih

theorem tget_tdel_ne (d : α) {k j : Nat} (h : j ≠ k) (t : List (Nat × α)) : tget d (tdel k t) j = tget d t j := by
  induction t with
  | nil => rfl
  | cons e t ih =>
    obtain ⟨k', v⟩ := e
    by_cases hk : k' = k
    · subst hk
      simpa [tdel, tget, Ne.symm h] using ih
    · by_cases hj : k' = j
      · subst hj
        simp [tdel, tget, hk]
      · simpa [tdel, hk, tget, hj] using ih

theorem tget_tins_ne (d : α) {k j : Nat} (h : j ≠ k) (v : α) (t : List (Nat × α)) :
    tget d (tins k v t) j = tget d t j := by
  induction t with
  | nil => simp [tins, tget, Ne.symm h]
  | cons e t ih =>
    obtain ⟨k', v'⟩ := e
    by_cases hl : k' < k
    · by_cases hj : k' = j
      · subst hj
        simp [tins, hl, tget]
      · simpa [tins, hl, tget, hj] using ih
    · simp [tins, hl, tget, Ne.symm h]

theorem tget_tins_same (d v : α) {k : Nat} {t : List (Nat × α)} (h : ∀ e ∈ t, e.1 ≠ k) :
    tget d (tins k v t) k = v := by
  induction t with
  | nil => simp [tins, tget]
  | cons e t ih =>
    obtain ⟨k', v'⟩ := e
    have hk : k' ≠ k := h (k', v') (by simp)
    by_cases hl : k' < k
    · simpa [tins, hl, tget, hk] using ih fun e he => h e (by simp [he])
    · simp [tins, hl, tget]

theorem ne_of_mem_tdel {k : Nat} {t : List (Nat × α)} {e : Nat × α} (h : e ∈ tdel k t) : e.1 ≠ k := by
  have := (List.mem_filter.mp h).2
  simpa using this

theorem mem_tins {k : Nat} {v : α} {t : List (Nat × α)} {e : Nat × α} (h : e ∈ tins k v t) : e = (k, v) ∨ e ∈ t := by
  induction t with
  | nil => simpa [tins] using h
  | cons e' t ih =>
    obtain ⟨k', v'⟩ := e'
    by_cases hl : k' < k
    · simp only [tins, hl, if_true, List.mem_cons] at h ⊢
      rcases h with h | h
      · exact .inr (.inl h)
      · exact (ih h).imp_right .inr
    · simpa [tins, hl] using h

variable [DecidableEq α]

/-- The key that was set reads the value it was set to. -/
@[simp] theorem tget_tset_same (d v : α) (k : Nat) (t : List (Nat × α)) : tget d (tset d k v t) k = v := by
  by_cases h : v = d
  · simp [tset, h, tget_tdel_same]
  · simpa [tset, h] using tget_tins_same d v fun e he => ne_of_mem_tdel he

/-- Every other key reads as before, under any default. -/
theorem tget_tset_ne (d d' v : α) {k j : Nat} (h : j ≠ k) (t : List (Nat × α)) :
    tget d' (tset d k v t) j = tget d' t j := by
  by_cases hv : v = d
  · simp [tset, hv, tget_tdel_ne d' h]
  · simp [tset, hv, tget_tins_ne d' h, tget_tdel_ne d' h]

/-- The canonical form, as facts about the entries. -/
theorem twf_iff (d : α) (t : List (Nat × α)) :
    twf d t = true ↔ (∀ e ∈ t, e.2 ≠ d) ∧ (t.map Prod.fst).Pairwise (· < ·) := by
  induction t with
  | nil => simp [twf]
  | cons e t ih =>
    obtain ⟨k, v⟩ := e
    cases t with
    | nil => simp [twf]
    | cons e' t' =>
      obtain ⟨k', v'⟩ := e'
      rw [twf, Bool.and_eq_true, Bool.and_eq_true, ih]
      simp only [decide_eq_true_eq, List.map_cons, List.pairwise_cons, List.mem_cons, forall_eq_or_imp]
      constructor
      · rintro ⟨⟨hv, hk⟩, ⟨hv', hr⟩, hk', hp⟩
        exact ⟨⟨hv, hv', hr⟩, ⟨hk, fun a ha => hk.trans (hk' a ha)⟩, hk', hp⟩
      · rintro ⟨⟨hv, hv', hr⟩, ⟨hk, -⟩, hk', hp⟩
        exact ⟨⟨hv, hk⟩, ⟨hv', hr⟩, hk', hp⟩

/-- Keeping some of the entries keeps the canonical form. -/
theorem twf_filter {d : α} {t : List (Nat × α)} (p : Nat × α → Bool) (h : twf d t = true) : twf d (t.filter p) = true := by
  rw [twf_iff] at h ⊢
  refine ⟨fun e he => h.1 e (List.mem_of_mem_filter he), ?_⟩
  exact h.2.sublist (List.filter_sublist.map _)

theorem twf_tins {d v : α} {k : Nat} {t : List (Nat × α)} (hv : v ≠ d) (hk : ∀ e ∈ t, e.1 ≠ k) (h : twf d t = true) :
    twf d (tins k v t) = true := by
  rw [twf_iff] at h ⊢
  refine ⟨fun e he => (mem_tins he).elim (fun h => h ▸ hv) (h.1 e), ?_⟩
  induction t with
  | nil => simp [tins]
  | cons e t ih =>
    obtain ⟨k', v'⟩ := e
    simp only [List.map_cons, List.pairwise_cons] at h
    have hk' : k' ≠ k := hk (k', v') (by simp)
    by_cases hl : k' < k
    · simp only [tins, hl, if_true, List.map_cons, List.pairwise_cons]
      refine ⟨fun a ha => ?_, ih (fun e he => hk e (by simp [he])) ⟨fun e he => h.1 e (by simp [he]), h.2.2⟩⟩
      obtain ⟨e, he, rfl⟩ := List.mem_map.mp ha
      rcases mem_tins he with rfl | he
      · exact hl
      · exact h.2.1 _ (List.mem_map_of_mem he)
    · simp only [tins, hl, if_false, List.map_cons, List.pairwise_cons, List.mem_cons, forall_eq_or_imp]
      have : k < k' := by omega
      exact ⟨⟨this, fun a ha => this.trans (h.2.1 a ha)⟩, h.2.1, h.2.2⟩

/-- Setting a key keeps the canonical form. -/
theorem twf_tset {d : α} (k : Nat) (v : α) {t : List (Nat × α)} (h : twf d t = true) : twf d (tset d k v t) = true := by
  by_cases hv : v = d
  · simpa [tset, hv, tdel] using twf_filter (fun e => e.1 != k) h
  · simpa [tset, hv] using twf_tins hv (fun e he => ne_of_mem_tdel he) (twf_filter (fun e => e.1 != k) h)

end Sys2Proof.Machine
end

