-- ==== Sys2Proof/Laws/State.lean ====
section
/-!
SUPPORT. What the shared updates of the device do, one lemma per field and update, true by rfl: no proof needs to unfold
a record update.  Then the register file: a field that was set reads the value set, cut to its width, and any other field
reads as before.
-/
namespace Sys2Proof.Machine

/-! ### Dev.set -/

@[simp] theorem Dev.set_time (d : Dev) (g : Fld) (v : Nat) : (d.set g v).time = d.time := rfl
@[simp] theorem Dev.set_bus (d : Dev) (g : Fld) (v : Nat) : (d.set g v).bus = d.bus := rfl
@[simp] theorem Dev.set_evt (d : Dev) (g : Fld) (v : Nat) : (d.set g v).evt = d.evt := rfl
@[simp] theorem Dev.set_flt (d : Dev) (g : Fld) (v : Nat) : (d.set g v).flt = d.flt := rfl
@[simp] theorem Dev.set_sed (d : Dev) (g : Fld) (v : Nat) : (d.set g v).sed = d.sed := rfl
@[simp] theorem Dev.set_sys (d : Dev) (g : Fld) (v : Nat) : (d.set g v).sys = d.sys := rfl
@[simp] theorem Dev.set_sec (d : Dev) (g : Fld) (v : Nat) : (d.set g v).sec = d.sec := rfl
@[simp] theorem Dev.set_pwr (d : Dev) (g : Fld) (v : Nat) : (d.set g v).pwr = d.pwr := rfl
@[simp] theorem Dev.set_stopping (d : Dev) (g : Fld) (v : Nat) : (d.set g v).stopping = d.stopping := rfl
@[simp] theorem Dev.set_basin (d : Dev) (g : Fld) (v : Nat) : (d.set g v).basin = d.basin := rfl
@[simp] theorem Dev.set_shallows (d : Dev) (g : Fld) (v : Nat) : (d.set g v).shallows = d.shallows := rfl
@[simp] theorem Dev.set_flash (d : Dev) (g : Fld) (v : Nat) : (d.set g v).flash = d.flash := rfl
@[simp] theorem Dev.set_prt (d : Dev) (g : Fld) (v : Nat) : (d.set g v).prt = d.prt := rfl
@[simp] theorem Dev.set_trg (d : Dev) (g : Fld) (v : Nat) : (d.set g v).trg = d.trg := rfl
@[simp] theorem Dev.set_pipes (d : Dev) (g : Fld) (v : Nat) : (d.set g v).pipes = d.pipes := rfl
@[simp] theorem Dev.set_thm (d : Dev) (g : Fld) (v : Nat) : (d.set g v).thm = d.thm := rfl
@[simp] theorem Dev.set_heads (d : Dev) (g : Fld) (v : Nat) : (d.set g v).heads = d.heads := rfl
@[simp] theorem Dev.set_snd (d : Dev) (g : Fld) (v : Nat) : (d.set g v).snd = d.snd := rfl
@[simp] theorem Dev.set_eng (d : Dev) (g : Fld) (v : Nat) : (d.set g v).eng = d.eng := rfl
@[simp] theorem Dev.set_cal (d : Dev) (g : Fld) (v : Nat) : (d.set g v).cal = d.cal := rfl
@[simp] theorem Dev.set_emr (d : Dev) (g : Fld) (v : Nat) : (d.set g v).emr = d.emr := rfl
@[simp] theorem Dev.set_emls (d : Dev) (g : Fld) (v : Nat) : (d.set g v).emls = d.emls := rfl
@[simp] theorem Dev.set_encs (d : Dev) (g : Fld) (v : Nat) : (d.set g v).encs = d.encs := rfl
@[simp] theorem Dev.set_eouts (d : Dev) (g : Fld) (v : Nat) : (d.set g v).eouts = d.eouts := rfl
@[simp] theorem Dev.set_mem (d : Dev) (g : Fld) (v : Nat) : (d.set g v).mem = d.mem := rfl
@[simp] theorem Dev.set_dmas (d : Dev) (g : Fld) (v : Nat) : (d.set g v).dmas = d.dmas := rfl
@[simp] theorem Dev.set_cmps (d : Dev) (g : Fld) (v : Nat) : (d.set g v).cmps = d.cmps := rfl
@[simp] theorem Dev.set_axes (d : Dev) (g : Fld) (v : Nat) : (d.set g v).axes = d.axes := rfl
@[simp] theorem Dev.set_motc (d : Dev) (g : Fld) (v : Nat) : (d.set g v).motc = d.motc := rfl
@[simp] theorem Dev.set_spif (d : Dev) (g : Fld) (v : Nat) : (d.set g v).spif = d.spif := rfl
@[simp] theorem Dev.set_cfg (d : Dev) (g : Fld) (v : Nat) : (d.set g v).cfg = d.cfg := rfl
@[simp] theorem Dev.set_jtag (d : Dev) (g : Fld) (v : Nat) : (d.set g v).jtag = d.jtag := rfl
@[simp] theorem Dev.set_free (d : Dev) (g : Fld) (v : Nat) : (d.set g v).free = d.free := rfl
@[simp] theorem Dev.set_out (d : Dev) (g : Fld) (v : Nat) : (d.set g v).out = d.out := rfl

/-! ### Dev.arm -/

@[simp] theorem Dev.arm_regs (d : Dev) (k : TimerKey) (n : Nat) : (d.arm k n).regs = d.regs := rfl
@[simp] theorem Dev.arm_bus (d : Dev) (k : TimerKey) (n : Nat) : (d.arm k n).bus = d.bus := rfl
@[simp] theorem Dev.arm_evt (d : Dev) (k : TimerKey) (n : Nat) : (d.arm k n).evt = d.evt := rfl
@[simp] theorem Dev.arm_flt (d : Dev) (k : TimerKey) (n : Nat) : (d.arm k n).flt = d.flt := rfl
@[simp] theorem Dev.arm_sed (d : Dev) (k : TimerKey) (n : Nat) : (d.arm k n).sed = d.sed := rfl
@[simp] theorem Dev.arm_sys (d : Dev) (k : TimerKey) (n : Nat) : (d.arm k n).sys = d.sys := rfl
@[simp] theorem Dev.arm_sec (d : Dev) (k : TimerKey) (n : Nat) : (d.arm k n).sec = d.sec := rfl
@[simp] theorem Dev.arm_pwr (d : Dev) (k : TimerKey) (n : Nat) : (d.arm k n).pwr = d.pwr := rfl
@[simp] theorem Dev.arm_stopping (d : Dev) (k : TimerKey) (n : Nat) : (d.arm k n).stopping = d.stopping := rfl
@[simp] theorem Dev.arm_basin (d : Dev) (k : TimerKey) (n : Nat) : (d.arm k n).basin = d.basin := rfl
@[simp] theorem Dev.arm_shallows (d : Dev) (k : TimerKey) (n : Nat) : (d.arm k n).shallows = d.shallows := rfl
@[simp] theorem Dev.arm_flash (d : Dev) (k : TimerKey) (n : Nat) : (d.arm k n).flash = d.flash := rfl
@[simp] theorem Dev.arm_prt (d : Dev) (k : TimerKey) (n : Nat) : (d.arm k n).prt = d.prt := rfl
@[simp] theorem Dev.arm_trg (d : Dev) (k : TimerKey) (n : Nat) : (d.arm k n).trg = d.trg := rfl
@[simp] theorem Dev.arm_pipes (d : Dev) (k : TimerKey) (n : Nat) : (d.arm k n).pipes = d.pipes := rfl
@[simp] theorem Dev.arm_thm (d : Dev) (k : TimerKey) (n : Nat) : (d.arm k n).thm = d.thm := rfl
@[simp] theorem Dev.arm_heads (d : Dev) (k : TimerKey) (n : Nat) : (d.arm k n).heads = d.heads := rfl
@[simp] theorem Dev.arm_snd (d : Dev) (k : TimerKey) (n : Nat) : (d.arm k n).snd = d.snd := rfl
@[simp] theorem Dev.arm_eng (d : Dev) (k : TimerKey) (n : Nat) : (d.arm k n).eng = d.eng := rfl
@[simp] theorem Dev.arm_cal (d : Dev) (k : TimerKey) (n : Nat) : (d.arm k n).cal = d.cal := rfl
@[simp] theorem Dev.arm_emr (d : Dev) (k : TimerKey) (n : Nat) : (d.arm k n).emr = d.emr := rfl
@[simp] theorem Dev.arm_emls (d : Dev) (k : TimerKey) (n : Nat) : (d.arm k n).emls = d.emls := rfl
@[simp] theorem Dev.arm_encs (d : Dev) (k : TimerKey) (n : Nat) : (d.arm k n).encs = d.encs := rfl
@[simp] theorem Dev.arm_eouts (d : Dev) (k : TimerKey) (n : Nat) : (d.arm k n).eouts = d.eouts := rfl
@[simp] theorem Dev.arm_mem (d : Dev) (k : TimerKey) (n : Nat) : (d.arm k n).mem = d.mem := rfl
@[simp] theorem Dev.arm_dmas (d : Dev) (k : TimerKey) (n : Nat) : (d.arm k n).dmas = d.dmas := rfl
@[simp] theorem Dev.arm_cmps (d : Dev) (k : TimerKey) (n : Nat) : (d.arm k n).cmps = d.cmps := rfl
@[simp] theorem Dev.arm_axes (d : Dev) (k : TimerKey) (n : Nat) : (d.arm k n).axes = d.axes := rfl
@[simp] theorem Dev.arm_motc (d : Dev) (k : TimerKey) (n : Nat) : (d.arm k n).motc = d.motc := rfl
@[simp] theorem Dev.arm_spif (d : Dev) (k : TimerKey) (n : Nat) : (d.arm k n).spif = d.spif := rfl
@[simp] theorem Dev.arm_cfg (d : Dev) (k : TimerKey) (n : Nat) : (d.arm k n).cfg = d.cfg := rfl
@[simp] theorem Dev.arm_jtag (d : Dev) (k : TimerKey) (n : Nat) : (d.arm k n).jtag = d.jtag := rfl
@[simp] theorem Dev.arm_free (d : Dev) (k : TimerKey) (n : Nat) : (d.arm k n).free = d.free := rfl
@[simp] theorem Dev.arm_out (d : Dev) (k : TimerKey) (n : Nat) : (d.arm k n).out = d.out := rfl

/-! ### Dev.disarm -/

@[simp] theorem Dev.disarm_regs (d : Dev) (k : TimerKey) : (d.disarm k).regs = d.regs := rfl
@[simp] theorem Dev.disarm_bus (d : Dev) (k : TimerKey) : (d.disarm k).bus = d.bus := rfl
@[simp] theorem Dev.disarm_evt (d : Dev) (k : TimerKey) : (d.disarm k).evt = d.evt := rfl
@[simp] theorem Dev.disarm_flt (d : Dev) (k : TimerKey) : (d.disarm k).flt = d.flt := rfl
@[simp] theorem Dev.disarm_sed (d : Dev) (k : TimerKey) : (d.disarm k).sed = d.sed := rfl
@[simp] theorem Dev.disarm_sys (d : Dev) (k : TimerKey) : (d.disarm k).sys = d.sys := rfl
@[simp] theorem Dev.disarm_sec (d : Dev) (k : TimerKey) : (d.disarm k).sec = d.sec := rfl
@[simp] theorem Dev.disarm_pwr (d : Dev) (k : TimerKey) : (d.disarm k).pwr = d.pwr := rfl
@[simp] theorem Dev.disarm_stopping (d : Dev) (k : TimerKey) : (d.disarm k).stopping = d.stopping := rfl
@[simp] theorem Dev.disarm_basin (d : Dev) (k : TimerKey) : (d.disarm k).basin = d.basin := rfl
@[simp] theorem Dev.disarm_shallows (d : Dev) (k : TimerKey) : (d.disarm k).shallows = d.shallows := rfl
@[simp] theorem Dev.disarm_flash (d : Dev) (k : TimerKey) : (d.disarm k).flash = d.flash := rfl
@[simp] theorem Dev.disarm_prt (d : Dev) (k : TimerKey) : (d.disarm k).prt = d.prt := rfl
@[simp] theorem Dev.disarm_trg (d : Dev) (k : TimerKey) : (d.disarm k).trg = d.trg := rfl
@[simp] theorem Dev.disarm_pipes (d : Dev) (k : TimerKey) : (d.disarm k).pipes = d.pipes := rfl
@[simp] theorem Dev.disarm_thm (d : Dev) (k : TimerKey) : (d.disarm k).thm = d.thm := rfl
@[simp] theorem Dev.disarm_heads (d : Dev) (k : TimerKey) : (d.disarm k).heads = d.heads := rfl
@[simp] theorem Dev.disarm_snd (d : Dev) (k : TimerKey) : (d.disarm k).snd = d.snd := rfl
@[simp] theorem Dev.disarm_eng (d : Dev) (k : TimerKey) : (d.disarm k).eng = d.eng := rfl
@[simp] theorem Dev.disarm_cal (d : Dev) (k : TimerKey) : (d.disarm k).cal = d.cal := rfl
@[simp] theorem Dev.disarm_emr (d : Dev) (k : TimerKey) : (d.disarm k).emr = d.emr := rfl
@[simp] theorem Dev.disarm_emls (d : Dev) (k : TimerKey) : (d.disarm k).emls = d.emls := rfl
@[simp] theorem Dev.disarm_encs (d : Dev) (k : TimerKey) : (d.disarm k).encs = d.encs := rfl
@[simp] theorem Dev.disarm_eouts (d : Dev) (k : TimerKey) : (d.disarm k).eouts = d.eouts := rfl
@[simp] theorem Dev.disarm_mem (d : Dev) (k : TimerKey) : (d.disarm k).mem = d.mem := rfl
@[simp] theorem Dev.disarm_dmas (d : Dev) (k : TimerKey) : (d.disarm k).dmas = d.dmas := rfl
@[simp] theorem Dev.disarm_cmps (d : Dev) (k : TimerKey) : (d.disarm k).cmps = d.cmps := rfl
@[simp] theorem Dev.disarm_axes (d : Dev) (k : TimerKey) : (d.disarm k).axes = d.axes := rfl
@[simp] theorem Dev.disarm_motc (d : Dev) (k : TimerKey) : (d.disarm k).motc = d.motc := rfl
@[simp] theorem Dev.disarm_spif (d : Dev) (k : TimerKey) : (d.disarm k).spif = d.spif := rfl
@[simp] theorem Dev.disarm_cfg (d : Dev) (k : TimerKey) : (d.disarm k).cfg = d.cfg := rfl
@[simp] theorem Dev.disarm_jtag (d : Dev) (k : TimerKey) : (d.disarm k).jtag = d.jtag := rfl
@[simp] theorem Dev.disarm_free (d : Dev) (k : TimerKey) : (d.disarm k).free = d.free := rfl
@[simp] theorem Dev.disarm_out (d : Dev) (k : TimerKey) : (d.disarm k).out = d.out := rfl

/-! ### Dev.advance -/

@[simp] theorem Dev.advance_regs (d : Dev) (n : Nat) : (d.advance n).regs = d.regs := rfl
@[simp] theorem Dev.advance_bus (d : Dev) (n : Nat) : (d.advance n).bus = d.bus := rfl
@[simp] theorem Dev.advance_evt (d : Dev) (n : Nat) : (d.advance n).evt = d.evt := rfl
@[simp] theorem Dev.advance_flt (d : Dev) (n : Nat) : (d.advance n).flt = d.flt := rfl
@[simp] theorem Dev.advance_sed (d : Dev) (n : Nat) : (d.advance n).sed = d.sed := rfl
@[simp] theorem Dev.advance_sys (d : Dev) (n : Nat) : (d.advance n).sys = d.sys := rfl
@[simp] theorem Dev.advance_sec (d : Dev) (n : Nat) : (d.advance n).sec = d.sec := rfl
@[simp] theorem Dev.advance_pwr (d : Dev) (n : Nat) : (d.advance n).pwr = d.pwr := rfl
@[simp] theorem Dev.advance_stopping (d : Dev) (n : Nat) : (d.advance n).stopping = d.stopping := rfl
@[simp] theorem Dev.advance_basin (d : Dev) (n : Nat) : (d.advance n).basin = d.basin := rfl
@[simp] theorem Dev.advance_shallows (d : Dev) (n : Nat) : (d.advance n).shallows = d.shallows := rfl
@[simp] theorem Dev.advance_flash (d : Dev) (n : Nat) : (d.advance n).flash = d.flash := rfl
@[simp] theorem Dev.advance_prt (d : Dev) (n : Nat) : (d.advance n).prt = d.prt := rfl
@[simp] theorem Dev.advance_trg (d : Dev) (n : Nat) : (d.advance n).trg = d.trg := rfl
@[simp] theorem Dev.advance_pipes (d : Dev) (n : Nat) : (d.advance n).pipes = d.pipes := rfl
@[simp] theorem Dev.advance_thm (d : Dev) (n : Nat) : (d.advance n).thm = d.thm := rfl
@[simp] theorem Dev.advance_heads (d : Dev) (n : Nat) : (d.advance n).heads = d.heads := rfl
@[simp] theorem Dev.advance_snd (d : Dev) (n : Nat) : (d.advance n).snd = d.snd := rfl
@[simp] theorem Dev.advance_eng (d : Dev) (n : Nat) : (d.advance n).eng = d.eng := rfl
@[simp] theorem Dev.advance_cal (d : Dev) (n : Nat) : (d.advance n).cal = d.cal := rfl
@[simp] theorem Dev.advance_emls (d : Dev) (n : Nat) : (d.advance n).emls = d.emls := rfl
@[simp] theorem Dev.advance_encs (d : Dev) (n : Nat) : (d.advance n).encs = d.encs := rfl
@[simp] theorem Dev.advance_eouts (d : Dev) (n : Nat) : (d.advance n).eouts = d.eouts := rfl
@[simp] theorem Dev.advance_mem (d : Dev) (n : Nat) : (d.advance n).mem = d.mem := rfl
@[simp] theorem Dev.advance_dmas (d : Dev) (n : Nat) : (d.advance n).dmas = d.dmas := rfl
@[simp] theorem Dev.advance_cmps (d : Dev) (n : Nat) : (d.advance n).cmps = d.cmps := rfl
@[simp] theorem Dev.advance_axes (d : Dev) (n : Nat) : (d.advance n).axes = d.axes := rfl
@[simp] theorem Dev.advance_motc (d : Dev) (n : Nat) : (d.advance n).motc = d.motc := rfl
@[simp] theorem Dev.advance_spif (d : Dev) (n : Nat) : (d.advance n).spif = d.spif := rfl
@[simp] theorem Dev.advance_cfg (d : Dev) (n : Nat) : (d.advance n).cfg = d.cfg := rfl
@[simp] theorem Dev.advance_jtag (d : Dev) (n : Nat) : (d.advance n).jtag = d.jtag := rfl
@[simp] theorem Dev.advance_free (d : Dev) (n : Nat) : (d.advance n).free = d.free := rfl
@[simp] theorem Dev.advance_out (d : Dev) (n : Nat) : (d.advance n).out = d.out := rfl

/-! ### Dev.emit -/

@[simp] theorem Dev.emit_regs (d : Dev) (x : Output) : (d.emit x).regs = d.regs := rfl
@[simp] theorem Dev.emit_time (d : Dev) (x : Output) : (d.emit x).time = d.time := rfl
@[simp] theorem Dev.emit_bus (d : Dev) (x : Output) : (d.emit x).bus = d.bus := rfl
@[simp] theorem Dev.emit_evt (d : Dev) (x : Output) : (d.emit x).evt = d.evt := rfl
@[simp] theorem Dev.emit_flt (d : Dev) (x : Output) : (d.emit x).flt = d.flt := rfl
@[simp] theorem Dev.emit_sed (d : Dev) (x : Output) : (d.emit x).sed = d.sed := rfl
@[simp] theorem Dev.emit_sys (d : Dev) (x : Output) : (d.emit x).sys = d.sys := rfl
@[simp] theorem Dev.emit_sec (d : Dev) (x : Output) : (d.emit x).sec = d.sec := rfl
@[simp] theorem Dev.emit_pwr (d : Dev) (x : Output) : (d.emit x).pwr = d.pwr := rfl
@[simp] theorem Dev.emit_stopping (d : Dev) (x : Output) : (d.emit x).stopping = d.stopping := rfl
@[simp] theorem Dev.emit_basin (d : Dev) (x : Output) : (d.emit x).basin = d.basin := rfl
@[simp] theorem Dev.emit_shallows (d : Dev) (x : Output) : (d.emit x).shallows = d.shallows := rfl
@[simp] theorem Dev.emit_flash (d : Dev) (x : Output) : (d.emit x).flash = d.flash := rfl
@[simp] theorem Dev.emit_prt (d : Dev) (x : Output) : (d.emit x).prt = d.prt := rfl
@[simp] theorem Dev.emit_trg (d : Dev) (x : Output) : (d.emit x).trg = d.trg := rfl
@[simp] theorem Dev.emit_pipes (d : Dev) (x : Output) : (d.emit x).pipes = d.pipes := rfl
@[simp] theorem Dev.emit_thm (d : Dev) (x : Output) : (d.emit x).thm = d.thm := rfl
@[simp] theorem Dev.emit_heads (d : Dev) (x : Output) : (d.emit x).heads = d.heads := rfl
@[simp] theorem Dev.emit_snd (d : Dev) (x : Output) : (d.emit x).snd = d.snd := rfl
@[simp] theorem Dev.emit_eng (d : Dev) (x : Output) : (d.emit x).eng = d.eng := rfl
@[simp] theorem Dev.emit_cal (d : Dev) (x : Output) : (d.emit x).cal = d.cal := rfl
@[simp] theorem Dev.emit_emr (d : Dev) (x : Output) : (d.emit x).emr = d.emr := rfl
@[simp] theorem Dev.emit_emls (d : Dev) (x : Output) : (d.emit x).emls = d.emls := rfl
@[simp] theorem Dev.emit_encs (d : Dev) (x : Output) : (d.emit x).encs = d.encs := rfl
@[simp] theorem Dev.emit_eouts (d : Dev) (x : Output) : (d.emit x).eouts = d.eouts := rfl
@[simp] theorem Dev.emit_mem (d : Dev) (x : Output) : (d.emit x).mem = d.mem := rfl
@[simp] theorem Dev.emit_dmas (d : Dev) (x : Output) : (d.emit x).dmas = d.dmas := rfl
@[simp] theorem Dev.emit_cmps (d : Dev) (x : Output) : (d.emit x).cmps = d.cmps := rfl
@[simp] theorem Dev.emit_axes (d : Dev) (x : Output) : (d.emit x).axes = d.axes := rfl
@[simp] theorem Dev.emit_motc (d : Dev) (x : Output) : (d.emit x).motc = d.motc := rfl
@[simp] theorem Dev.emit_spif (d : Dev) (x : Output) : (d.emit x).spif = d.spif := rfl
@[simp] theorem Dev.emit_cfg (d : Dev) (x : Output) : (d.emit x).cfg = d.cfg := rfl
@[simp] theorem Dev.emit_jtag (d : Dev) (x : Output) : (d.emit x).jtag = d.jtag := rfl
@[simp] theorem Dev.emit_free (d : Dev) (x : Output) : (d.emit x).free = d.free := rfl

/-! ### Dev.drawn -/

@[simp] theorem Dev.drawn_regs (d : Dev)  : (d.drawn).regs = d.regs := rfl
@[simp] theorem Dev.drawn_time (d : Dev)  : (d.drawn).time = d.time := rfl
@[simp] theorem Dev.drawn_bus (d : Dev)  : (d.drawn).bus = d.bus := rfl
@[simp] theorem Dev.drawn_evt (d : Dev)  : (d.drawn).evt = d.evt := rfl
@[simp] theorem Dev.drawn_flt (d : Dev)  : (d.drawn).flt = d.flt := rfl
@[simp] theorem Dev.drawn_sed (d : Dev)  : (d.drawn).sed = d.sed := rfl
@[simp] theorem Dev.drawn_sys (d : Dev)  : (d.drawn).sys = d.sys := rfl
@[simp] theorem Dev.drawn_sec (d : Dev)  : (d.drawn).sec = d.sec := rfl
@[simp] theorem Dev.drawn_pwr (d : Dev)  : (d.drawn).pwr = d.pwr := rfl
@[simp] theorem Dev.drawn_stopping (d : Dev)  : (d.drawn).stopping = d.stopping := rfl
@[simp] theorem Dev.drawn_basin (d : Dev)  : (d.drawn).basin = d.basin := rfl
@[simp] theorem Dev.drawn_shallows (d : Dev)  : (d.drawn).shallows = d.shallows := rfl
@[simp] theorem Dev.drawn_flash (d : Dev)  : (d.drawn).flash = d.flash := rfl
@[simp] theorem Dev.drawn_prt (d : Dev)  : (d.drawn).prt = d.prt := rfl
@[simp] theorem Dev.drawn_trg (d : Dev)  : (d.drawn).trg = d.trg := rfl
@[simp] theorem Dev.drawn_pipes (d : Dev)  : (d.drawn).pipes = d.pipes := rfl
@[simp] theorem Dev.drawn_thm (d : Dev)  : (d.drawn).thm = d.thm := rfl
@[simp] theorem Dev.drawn_heads (d : Dev)  : (d.drawn).heads = d.heads := rfl
@[simp] theorem Dev.drawn_snd (d : Dev)  : (d.drawn).snd = d.snd := rfl
@[simp] theorem Dev.drawn_eng (d : Dev)  : (d.drawn).eng = d.eng := rfl
@[simp] theorem Dev.drawn_cal (d : Dev)  : (d.drawn).cal = d.cal := rfl
@[simp] theorem Dev.drawn_emr (d : Dev)  : (d.drawn).emr = d.emr := rfl
@[simp] theorem Dev.drawn_emls (d : Dev)  : (d.drawn).emls = d.emls := rfl
@[simp] theorem Dev.drawn_encs (d : Dev)  : (d.drawn).encs = d.encs := rfl
@[simp] theorem Dev.drawn_eouts (d : Dev)  : (d.drawn).eouts = d.eouts := rfl
@[simp] theorem Dev.drawn_mem (d : Dev)  : (d.drawn).mem = d.mem := rfl
@[simp] theorem Dev.drawn_dmas (d : Dev)  : (d.drawn).dmas = d.dmas := rfl
@[simp] theorem Dev.drawn_cmps (d : Dev)  : (d.drawn).cmps = d.cmps := rfl
@[simp] theorem Dev.drawn_axes (d : Dev)  : (d.drawn).axes = d.axes := rfl
@[simp] theorem Dev.drawn_motc (d : Dev)  : (d.drawn).motc = d.motc := rfl
@[simp] theorem Dev.drawn_spif (d : Dev)  : (d.drawn).spif = d.spif := rfl
@[simp] theorem Dev.drawn_cfg (d : Dev)  : (d.drawn).cfg = d.cfg := rfl
@[simp] theorem Dev.drawn_jtag (d : Dev)  : (d.drawn).jtag = d.jtag := rfl
@[simp] theorem Dev.drawn_out (d : Dev)  : (d.drawn).out = d.out := rfl

/-! ### Updates that are updates of one field of a register -/

theorem Dev.put_eq (d : Dev) (f : Fld) (b : Bool) : d.put f b = d.set f (b2n b) := rfl
theorem Dev.bump_eq (d : Dev) (f : Fld) (k : Nat) : d.bump f k = d.set f (satAdd (f.hi + 1 - f.lo) (d.get f) k) := rfl
theorem Dev.setBit_eq (d : Dev) (f : Fld) (i : Nat) : d.setBit f i = d.set f (setB (d.get f) i) := rfl
theorem Dev.clrBit_eq (d : Dev) (f : Fld) (i : Nat) : d.clrBit f i = d.set f (clrB (d.get f) i) := rfl
theorem Dev.putBit_eq (d : Dev) (f : Fld) (i : Nat) (b : Bool) : d.putBit f i b = d.set f (putB (d.get f) i b) := rfl
theorem Dev.setBlk_eq (d : Dev) (page s : Nat) : d.setBlk page s = d.set (Reg.HDR.STATE page) s := rfl
theorem Dev.advanceTo_eq (d : Dev) (t : Nat) : d.advanceTo t = d.advance (t - d.time.up) := rfl
theorem Dev.blk_eq (d : Dev) (page : Nat) : d.blk page = d.get (Reg.HDR.STATE page) := rfl
theorem Dev.is_eq (d : Dev) (f : Fld) : d.is f = (d.get f != 0) := rfl

/-! ### Reading back -/

/-- The field that was set reads the value, cut to the field's width. -/
@[simp] theorem Dev.get_set_same (d : Dev) (f : Fld) (v : Nat) : (d.set f v).get f = v % f.cap := by
  simp [Dev.get, Dev.set, RegFile.get, RegFile.set]

/-- Any field at another place reads as before. -/
theorem Dev.get_set_ne (d : Dev) {f g : Fld} (v : Nat) (h : g.key ≠ f.key) : (d.set f v).get g = d.get g :=
  tget_tset_ne _ _ _ h _

/-- A field read by its register file alone. -/
theorem Dev.get_of_regs {d d' : Dev} (h : d'.regs = d.regs) (f : Fld) : d'.get f = d.get f := by
  simp [Dev.get, h]

@[simp] theorem Dev.get_arm (d : Dev) (k : TimerKey) (n : Nat) (f : Fld) : (d.arm k n).get f = d.get f := rfl
@[simp] theorem Dev.get_disarm (d : Dev) (k : TimerKey) (f : Fld) : (d.disarm k).get f = d.get f := rfl
@[simp] theorem Dev.get_advance (d : Dev) (n : Nat) (f : Fld) : (d.advance n).get f = d.get f := rfl
@[simp] theorem Dev.get_advanceTo (d : Dev) (n : Nat) (f : Fld) : (d.advanceTo n).get f = d.get f := rfl
@[simp] theorem Dev.get_emit (d : Dev) (x : Output) (f : Fld) : (d.emit x).get f = d.get f := rfl
@[simp] theorem Dev.get_drawn (d : Dev) (f : Fld) : d.drawn.get f = d.get f := rfl

/-! ### Timers -/

theorem aget_aset_same {κ α : Type} [DecidableEq κ] (k : κ) (v : α) (t : List (κ × α)) : aget k (aset k v t) = some v := by
  simp [aset, aget]

theorem aget_adel_same {κ α : Type} [DecidableEq κ] (k : κ) (t : List (κ × α)) : aget k (adel k t) = none := by
  induction t with
  | nil => rfl
  | cons e t ih => by_cases h : e.1 = k <;> simp_all [adel, aget]

theorem aget_adel_ne {κ α : Type} [DecidableEq κ] {k j : κ} (h : j ≠ k) (t : List (κ × α)) :
    aget j (adel k t) = aget j t := by
  induction t with
  | nil => rfl
  | cons e t ih =>
    by_cases hk : e.1 = k
    · have : e.1 ≠ j := fun hj => h (hj.symm.trans hk)
      simp_all [adel, aget]
    · by_cases hj : e.1 = j <;> simp_all [adel, aget]

theorem aget_aset_ne {κ α : Type} [DecidableEq κ] {k j : κ} (h : j ≠ k) (v : α) (t : List (κ × α)) :
    aget j (aset k v t) = aget j t := by
  simp [aset, aget, Ne.symm h, aget_adel_ne h]

/-- A timer just armed ends that many steps from now. -/
@[simp] theorem Dev.due_arm_same (d : Dev) (k : TimerKey) (n : Nat) : (d.arm k n).due k = some (d.time.up + n) :=
  aget_aset_same ..

theorem Dev.due_arm_ne (d : Dev) {k j : TimerKey} (h : j ≠ k) (n : Nat) : (d.arm k n).due j = d.due j :=
  aget_aset_ne h _ _

@[simp] theorem Dev.due_disarm_same (d : Dev) (k : TimerKey) : (d.disarm k).due k = none := aget_adel_same ..

theorem Dev.due_disarm_ne (d : Dev) {k j : TimerKey} (h : j ≠ k) : (d.disarm k).due j = d.due j := aget_adel_ne h _

@[simp] theorem Dev.due_set (d : Dev) (f : Fld) (v : Nat) (k : TimerKey) : (d.set f v).due k = d.due k := rfl

/-- The end of a timer that runs. -/
theorem Dev.onTimer_some {d : Dev} {k : TimerKey} {t : Nat} (h : d.due k = some t) (act : Dev → Dev) :
    d.onTimer k act = act ((d.advanceTo t).disarm k) := by simp [Dev.onTimer, h]

/-- Without the timer its end finds nothing. -/
theorem Dev.onTimer_none {d : Dev} {k : TimerKey} (h : d.due k = none) (act : Dev → Dev) : d.onTimer k act = d := by
  simp [Dev.onTimer, h]

end Sys2Proof.Machine
end

