-- ==== Sys2Proof/Laws/Bus.lean ====
section
/-!
SUPPORT. What the shared operations of commands and register writes come to: a command on a live block, a host write of one
register, and a write of a register without guarded fields.
-/
namespace Sys2Proof.Machine

/-- A command on a live block answers the device its operation gives. -/
theorem State.on_live {s : State} (h : s.live) (f : Fuses → Dev → Dev) : s.on f = .next { s with dev := f s.fuse s.dev } := by
  simp only [State.live] at h; simp [State.on, h]

/-- A command held in reset changes nothing. -/
theorem State.on_reset {s : State} (h : s.dev.sys.inReset = true) (f : Fuses → Dev → Dev) : s.on f = .next s := by
  simp [State.on, h]

/-- Completion of a command whose meaning is `s.on f`. -/
theorem completes_on {s : State} (h : s.live) (f : Fuses → Dev → Dev) {c : Instr} {e : Dev → Prop}
    (hc : exec c s = s.on f) (he : e (f s.fuse s.dev)) : Completes c s e :=
  ⟨f s.fuse s.dev, by rw [hc, State.on_live h], he⟩

/-- Completion of a reset, whose meaning is `s.always f`. -/
theorem completes_always {s : State} (f : Fuses → Dev → Dev) {c : Instr} {e : Dev → Prop}
    (hc : exec c s = s.always f) (he : e (f s.fuse s.dev)) : Completes c s e :=
  ⟨f s.fuse s.dev, by rw [hc, State.always], he⟩

/-- A write of a block's own register, when its page is served. -/
theorem busWrite_own {u : Fuses} {w : Party} {addr v : Nat} {d : Dev} {b : Blk} {n : Nat}
    (hp : Blk.ofPage (addr / 4096) = some (b, n)) (ho : d.pageOff (addr / 4096) = false)
    (h1 : 0x40 ≤ addr % 4096 / 4 * 4) (h2 : addr % 4096 / 4 * 4 < 0xF00) (he : b ≠ .EVT) :
    busWrite u w addr v d = blockWrite u w b n (addr % 4096 / 4 * 4) (v % 2 ^ 32) d := by
  simp only [busWrite, hp, ho]
  rw [if_neg (by omega), if_neg (by omega)]
  simp [he]

/-- A write of a header register. -/
theorem busWrite_header {u : Fuses} {w : Party} {addr v : Nat} {d : Dev} {b : Blk} {n : Nat}
    (hp : Blk.ofPage (addr / 4096) = some (b, n)) (h1 : addr % 4096 / 4 * 4 < 0x40) :
    busWrite u w addr v d = (0, headerWrite w b n (addr % 4096 / 4 * 4) (v % 2 ^ 32) d) := by
  simp only [busWrite, hp]
  rw [if_neg (by omega), if_pos (by omega)]

/-- A write of a register that is no pair, outside the TRG page. -/
theorem blockWrite_single {u : Fuses} {w : Party} {b : Blk} {n off v : Nat} {d : Dev} (hb : b ≠ .TRG)
    (hl : isLo (b.fieldsAt n off) off = false) (hh : isHi (b.fieldsAt n off) off = false) :
    blockWrite u w b n off v d = fieldsWrite u w b n off v (b.fieldsAt n off) { raw := v, whole := some v } d := by
  simp [blockWrite, hb, hl, hh]

/-- Nothing is denied where no field is guarded by its access code. -/
theorem Dev.denied_nil {d : Dev} {u : Fuses} {n : Nat} {b : Blk} {fs : List Fld} {o : Offer}
    (h : fs.all (fun f => d.guarded (pg b n) f == false) = true) : d.denied u n b fs o = [] := by
  simp only [Dev.denied, List.filter_eq_nil_iff, Bool.and_eq_true, not_and, Bool.not_eq_true]
  intro f hf hg
  simp_all

/-- A write that is not denied: the fields take their values and the block acts. -/
theorem fieldsWrite_ok {u : Fuses} {w : Party} {b : Blk} {n off v : Nat} {fs : List Fld} {o : Offer} {d : Dev}
    (h : d.denied u n b fs o = []) (he : b ≠ .ENC) :
    (fieldsWrite u w b n off v fs o d).2 =
      instanceActs b n off v true d (blockActs u w b off v o true d (fs.foldl (fieldWrite n b o) d)) := by
  simp [fieldsWrite, h, he]

/-- A field that a write never sets. -/
theorem fieldWrite_skip {n : Nat} {b : Blk} {o : Offer} {d : Dev} {f : Fld}
    (h : f.acc ≠ .rw ∧ f.acc ≠ .rwx ∧ f.acc ≠ .w1c) : fieldWrite n b o d f = d := by
  unfold fieldWrite
  split_ifs
  · rfl
  · obtain ⟨h1, h2, h3⟩ := h
    split <;> simp_all

end Sys2Proof.Machine
end

