-- ==== Sys2Proof/Laws/Command.lean ====
section
/-!
SUPPORT. What each command answers on a live block: the next state in which its operation has acted on the device.  A proof
about a command starts here and never unfolds `exec`.
-/
namespace Sys2Proof.Machine

/-! ### Host -/

theorem exec_registerWrite {s : State} (h : s.live) (master : Nat) (internal : Bool) (addr size value : Nat) :
    exec (.registerWrite master internal addr size value) s = .next { s with dev := registerWrite { master, internal } addr size value s.fuse s.dev } := State.on_live h (fun u d => registerWrite { master, internal } addr size value u d)
theorem exec_loReadLatch {s : State} (h : s.live) (master addr size : Nat) :
    exec (.loReadLatch master addr size) s = .next { s with dev := registerRead { master, internal := false } addr size s.fuse s.dev } := State.on_live h (fun u d => registerRead { master, internal := false } addr size u d)
theorem exec_readClear {s : State} (h : s.live) (master addr size : Nat) :
    exec (.readClear master addr size) s = .next { s with dev := registerRead { master, internal := false } addr size s.fuse s.dev } := State.on_live h (fun u d => registerRead { master, internal := false } addr size u d)
theorem exec_hostBar2Access {s : State} (h : s.live) (addr len : Nat) (write : Bool) (data : Bytes) (err late : Nat) :
    exec (.hostBar2Access addr len write data err late) s = .next { s with dev := basinRequest 0 2 addr len write data err late s.dev } := State.on_live h (fun _ d => basinRequest 0 2 addr len write data err late d)
theorem exec_hostBar4Access {s : State} (h : s.live) (addr size : Nat) (write : Bool) (value err : Nat) :
    exec (.hostBar4Access addr size write value err) s = .next { s with dev := bar4Access addr size write value err s.dev } := State.on_live h (fun _ d => bar4Access addr size write value err d)
theorem exec_functionLevelReset {s : State} (h : s.live) (down : Bool) :
    exec (.functionLevelReset down) s = .next { s with dev := functionLevelReset down s.dev } := State.on_live h (fun _ d => functionLevelReset down d)
theorem exec_levelUnlock {s : State} (h : s.live) (key : Nat) :
    exec (.levelUnlock key) s = .next { s with dev := hostWrite s.fuse 0x40 key s.dev } := State.on_live h (fun u d => hostWrite u 0x40 key d)
theorem exec_levelWindowExpiry {s : State} (h : s.live) :
    exec (.levelWindowExpiry) s = .next { s with dev := levelExpiry s.dev } := State.on_live h (fun _ d => levelExpiry d)
theorem exec_levelSet {s : State} (h : s.live) (page : Nat) (v : Bool) :
    exec (.levelSet page v) s = .next { s with dev := levelSet 2 0 page v s.dev } := State.on_live h (fun _ d => levelSet 2 0 page v d)
theorem exec_enableClear {s : State} (h : s.live) (page : Nat) :
    exec (.enableClear page) s = .next { s with dev := enableClear page s.dev } := State.on_live h (fun _ d => enableClear page d)
theorem exec_enableSet {s : State} (h : s.live) (page : Nat) :
    exec (.enableSet page) s = .next { s with dev := enableSet page s.dev } := State.on_live h (fun _ d => enableSet page d)
theorem exec_drainBoundaryReached {s : State} (h : s.live) (page : Nat) :
    exec (.drainBoundaryReached page) s = .next { s with dev := drainBoundary page s.dev } := State.on_live h (fun _ d => drainBoundary page d)
theorem exec_drain {s : State} (h : s.live) (page : Nat) :
    exec (.drain page) s = .next { s with dev := drainSet page s.dev } := State.on_live h (fun _ d => drainSet page d)
theorem exec_softReset {s : State} (h : s.live) (page : Nat) :
    exec (.softReset page) s = .next { s with dev := softReset page s.dev } := State.on_live h (fun _ d => softReset page d)
theorem exec_kill {s : State} (h : s.live) (page : Nat) :
    exec (.kill page) s = .next { s with dev := blockKill page s.dev } := State.on_live h (fun _ d => blockKill page d)
theorem exec_drainTimeout {s : State} (h : s.live) (page : Nat) :
    exec (.drainTimeout page) s = .next { s with dev := drainTimeout page s.dev } := State.on_live h (fun _ d => drainTimeout page d)
theorem exec_domainWaitExpiry {s : State} (h : s.live) (dom : Nat) :
    exec (.domainWaitExpiry dom) s = .next { s with dev := domainWaitExpiry dom s.dev } := State.on_live h (fun _ d => domainWaitExpiry dom d)
theorem exec_replyArrival {s : State} (h : s.live) (page epoch seq : Nat) :
    exec (.replyArrival page epoch seq) s = .next { s with dev := replyArrival page epoch seq s.dev } := State.on_live h (fun _ d => replyArrival page epoch seq d)
theorem exec_evClear {s : State} (h : s.live) (page mask : Nat) :
    exec (.evClear page mask) s = .next { s with dev := hostWrite s.fuse (page * 4096 + 0x18) mask s.dev } := State.on_live h (fun u d => hostWrite u (page * 4096 + 0x18) mask d)
theorem exec_evForce {s : State} (h : s.live) (page mask : Nat) :
    exec (.evForce page mask) s = .next { s with dev := hostWrite s.fuse (page * 4096 + 0x1C) mask s.dev } := State.on_live h (fun u d => hostWrite u (page * 4096 + 0x1C) mask d)
theorem exec_fltLocalClear {s : State} (h : s.live) (page : Nat) :
    exec (.fltLocalClear page) s = .next { s with dev := hostWrite s.fuse (page * 4096 + 0x30) 0x80000000 s.dev } := State.on_live h (fun u d => hostWrite u (page * 4096 + 0x30) 0x80000000 d)
theorem exec_ownerWrite {s : State} (h : s.live) (n expect tag : Nat) :
    exec (.ownerWrite n expect tag) s = .next { s with dev := hostWrite s.fuse ((0x20 + n) * 4096 + 0x40) (expect * 256 + tag) s.dev } := State.on_live h (fun u d => hostWrite u ((0x20 + n) * 4096 + 0x40) (expect * 256 + tag) d)
theorem exec_revokeClient {s : State} (h : s.live) (client : Nat) :
    exec (.revokeClient client) s = .next { s with dev := hostWrite s.fuse 0x1F040 client s.dev } := State.on_live h (fun u d => hostWrite u 0x1F040 client d)
theorem exec_vecPendClear {s : State} (h : s.live) (mask : Nat) :
    exec (.vecPendClear mask) s = .next { s with dev := hostWrite s.fuse 0x4084 (mask / 2 ^ 32) (hostWrite s.fuse 0x4080 mask s.dev) } := State.on_live h (fun u d => hostWrite u 0x4084 (mask / 2 ^ 32) (hostWrite u 0x4080 mask d))
theorem exec_msixMessage {s : State} (h : s.live) (v : Nat) :
    exec (.msixMessage v) s = .next { s with dev := msixMessage v s.dev } := State.on_live h (fun _ d => msixMessage v d)
theorem exec_providerLost {s : State} (h : s.live) :
    exec (.providerLost) s = .next { s with dev := providerLost s.dev } := State.on_live h (fun _ d => providerLost d)

/-! ### Modes -/

theorem exec_modeReqGo {s : State} (h : s.live) (mode : Nat) (atLine : Bool) :
    exec (.modeReqGo mode atLine) s = .next { s with dev := hostWrite s.fuse 0x50 (0x80000000 + b2n atLine * 256 + mode) s.dev } := State.on_live h (fun u d => hostWrite u 0x50 (0x80000000 + b2n atLine * 256 + mode) d)
theorem exec_modeChanged {s : State} (h : s.live) :
    exec (.modeChanged) s = .next { s with dev := modeChanged s.dev } := State.on_live h (fun _ d => modeChanged d)
theorem exec_clocksLocked {s : State} (h : s.live) :
    exec (.clocksLocked) s = .next { s with dev := clocksLocked s.dev } := State.on_live h (fun _ d => clocksLocked d)
theorem exec_fusesRead {s : State} (h : s.live) :
    exec (.fusesRead) s = .next { s with dev := fusesRead s.fuse s.dev } := State.on_live h (fun u d => fusesRead u d)
theorem exec_pcieReady {s : State} (h : s.live) (width speed : Nat) :
    exec (.pcieReady width speed) s = .next { s with dev := pcieReady width speed s.dev } := State.on_live h (fun _ d => pcieReady width speed d)
theorem exec_springScriptStart {s : State} (h : s.live) :
    exec (.springScriptStart) s = .next { s with dev := springStart s.fuse s.dev } := State.on_live h (fun u d => springStart u d)
theorem exec_springWrite {s : State} (h : s.live) :
    exec (.springWrite) s = .next { s with dev := springWrite s.fuse s.dev } := State.on_live h (fun u d => springWrite u d)
theorem exec_springModify {s : State} (h : s.live) :
    exec (.springModify) s = .next { s with dev := springModify s.fuse s.dev } := State.on_live h (fun u d => springModify u d)
theorem exec_springPoll {s : State} (h : s.live) :
    exec (.springPoll) s = .next { s with dev := springPoll s.dev } := State.on_live h (fun _ d => springPoll d)
theorem exec_springPollMet {s : State} (h : s.live) :
    exec (.springPollMet) s = .next { s with dev := springPollMet s.fuse s.dev } := State.on_live h (fun u d => springPollMet u d)
theorem exec_springPollTimeout {s : State} (h : s.live) :
    exec (.springPollTimeout) s = .next { s with dev := springPollTimeout s.dev } := State.on_live h (fun _ d => springPollTimeout d)
theorem exec_springDelay {s : State} (h : s.live) :
    exec (.springDelay) s = .next { s with dev := springDelay s.dev } := State.on_live h (fun _ d => springDelay d)
theorem exec_springDelayEnd {s : State} (h : s.live) :
    exec (.springDelayEnd) s = .next { s with dev := springDelayEnd s.dev } := State.on_live h (fun _ d => springDelayEnd d)
theorem exec_springEndEntry {s : State} (h : s.live) :
    exec (.springEndEntry) s = .next { s with dev := springEndEntry s.dev } := State.on_live h (fun _ d => springEndEntry d)
theorem exec_springTimeLimit {s : State} (h : s.live) :
    exec (.springTimeLimit) s = .next { s with dev := springTimeLimit s.dev } := State.on_live h (fun _ d => springTimeLimit d)

/-! ### Jobs -/

theorem exec_geomLoad {s : State} (h : s.live) (ports : Nat) :
    exec (.geomLoad ports) s = .next { s with dev := hostWrite s.fuse 0xB004C (ports / 2 ^ 32) (hostWrite s.fuse 0xB0048 ports s.dev) } := State.on_live h (fun u d => hostWrite u 0xB004C (ports / 2 ^ 32) (hostWrite u 0xB0048 ports d))
theorem exec_geomLoadDone {s : State} (h : s.live) (poisoned : List Nat) :
    exec (.geomLoadDone poisoned) s = .next { s with dev := geomLoadDone poisoned s.dev } := State.on_live h (fun _ d => geomLoadDone poisoned d)
theorem exec_qTailWrite {s : State} (h : s.live) (p v : Nat) :
    exec (.qTailWrite p v) s = .next { s with dev := hostWrite s.fuse (0xB010C + 0x20 * p) v s.dev } := State.on_live h (fun u d => hostWrite u (0xB010C + 0x20 * p) v d)
theorem exec_jobStart {s : State} (h : s.live) (p : Nat) (descBad dirBad : Bool) :
    exec (.jobStart p descBad dirBad) s = .next { s with dev := jobTaken p descBad dirBad s.dev } := State.on_live h (fun _ d => jobTaken p descBad dirBad d)
theorem exec_qCancel {s : State} (h : s.live) (p : Nat) :
    exec (.qCancel p) s = .next { s with dev := hostPatch s.fuse (0xB0114 + 0x20 * p) 4 4 s.dev } := State.on_live h (fun u d => hostPatch u (0xB0114 + 0x20 * p) 4 4 d)
theorem exec_qHold {s : State} (h : s.live) (p : Nat) (on : Bool) :
    exec (.qHold p on) s = .next { s with dev := hostPatch s.fuse (0xB0114 + 0x20 * p) 2 (b2n on * 2) s.dev } := State.on_live h (fun u d => hostPatch u (0xB0114 + 0x20 * p) 2 (b2n on * 2) d)
theorem exec_qEnable {s : State} (h : s.live) (p : Nat) (on : Bool) :
    exec (.qEnable p on) s = .next { s with dev := hostPatch s.fuse (0xB0114 + 0x20 * p) 1 (b2n on) s.dev } := State.on_live h (fun u d => hostPatch u (0xB0114 + 0x20 * p) 1 (b2n on) d)

/-! ### Firing -/

theorem exec_encoderEdge {s : State} (h : s.live) (k : Nat) (b : Bool) (dt : Nat) :
    exec (.encoderEdge k b dt) s = .next { s with dev := encEdge k b (s.dev.advance dt) } := State.on_live h (fun _ d => encEdge k b (d.advance dt))
theorem exec_cycleScheduledTime {s : State} (h : s.live) (n : Nat) :
    exec (.cycleScheduledTime n) s = .next { s with dev := cycleTime n s.dev } := State.on_live h (fun _ d => cycleTime n d)
theorem exec_lat {s : State} (h : s.live) (n : Nat) :
    exec (.lat n) s = .next { s with dev := latPort n s.dev } := State.on_live h (fun _ d => latPort n d)
theorem exec_slotMark {s : State} (h : s.live) (n : Nat) :
    exec (.slotMark n) s = .next { s with dev := slotMarkPort n s.dev } := State.on_live h (fun _ d => slotMarkPort n d)
theorem exec_cycleSkip {s : State} (h : s.live) (n : Nat) :
    exec (.cycleSkip n) s = .next { s with dev := cycleSkip n s.dev } := State.on_live h (fun _ d => cycleSkip n d)
theorem exec_slowdownRepeat {s : State} (h : s.live) :
    exec (.slowdownRepeat) s = .next { s with dev := slowdownRepeat s.dev } := State.on_live h (fun _ d => slowdownRepeat d)
theorem exec_fixPeriodWrite {s : State} (h : s.live) (v : Nat) :
    exec (.fixPeriodWrite v) s = .next { s with dev := hostWrite s.fuse 0xB1090 v s.dev } := State.on_live h (fun u d => hostWrite u 0xB1090 v d)
theorem exec_fixedGeneratorStart {s : State} (h : s.live) :
    exec (.fixedGeneratorStart) s = .next { s with dev := fixedStart s.dev } := State.on_live h (fun _ d => fixedStart d)
theorem exec_syntheticLineBoundary {s : State} (h : s.live) :
    exec (.syntheticLineBoundary) s = .next { s with dev := fixedBoundary s.dev } := State.on_live h (fun _ d => fixedBoundary d)
theorem exec_ringSourceTimeout {s : State} (h : s.live) :
    exec (.ringSourceTimeout) s = .next { s with dev := ringSourceTimeout s.dev } := State.on_live h (fun _ d => ringSourceTimeout d)

/-! ### Dots -/

theorem exec_cycleBuild {s : State} (h : s.live) (n : Nat) :
    exec (.cycleBuild n) s = .next { s with dev := cycleBuild n s.dev } := State.on_live h (fun _ d => cycleBuild n d)
theorem exec_tileFetch {s : State} (h : s.live) (n : Nat) (poisoned : Bool) :
    exec (.tileFetch n poisoned) s = .next { s with dev := tileFetchStep n poisoned s.dev } := State.on_live h (fun _ d => tileFetchStep n poisoned d)
theorem exec_tileDecodeDone {s : State} (h : s.live) (n : Nat) (bad : Bool) :
    exec (.tileDecodeDone n bad) s = .next { s with dev := tileDecodeStep n bad s.dev } := State.on_live h (fun _ d => tileDecodeStep n bad d)
theorem exec_fillLate {s : State} (h : s.live) (n : Nat) :
    exec (.fillLate n) s = .next { s with dev := fillLate n s.dev } := State.on_live h (fun _ d => fillLate n d)
theorem exec_maskLoad {s : State} (h : s.live) (n : Nat) :
    exec (.maskLoad n) s = .next { s with dev := maskLoad n s.dev } := State.on_live h (fun _ d => maskLoad n d)
theorem exec_maskLoadDone {s : State} (h : s.live) (n : Nat) (poisoned : Bool) :
    exec (.maskLoadDone n poisoned) s = .next { s with dev := maskLoadStep n poisoned s.dev } := State.on_live h (fun _ d => maskLoadStep n poisoned d)
theorem exec_nozOvr {s : State} (h : s.live) (code n noz : Nat) :
    exec (.nozOvr code n noz) s = .next { s with dev := hostWrite s.fuse 0xB4400 (0x80000000 + code * 2 ^ 22 + n * 65536 + noz) s.dev } := State.on_live h (fun u d => hostWrite u 0xB4400 (0x80000000 + code * 2 ^ 22 + n * 65536 + noz) d)

/-! ### Engines -/

theorem exec_segmentVote {s : State} (h : s.live) (n : Nat) (errA errB : Bytes) :
    exec (.segmentVote n errA errB) s = .next { s with dev := segmentVote n errA errB s.dev } := State.on_live h (fun _ d => segmentVote n errA errB d)
theorem exec_digestVote {s : State} (h : s.live) (n : Nat) (errA errB : Bytes) :
    exec (.digestVote n errA errB) s = .next { s with dev := digestVote n errA errB s.dev } := State.on_live h (fun _ d => digestVote n errA errB d)
theorem exec_engineCheck {s : State} (h : s.live) (n flagsA flagsB : Nat) :
    exec (.engineCheck n flagsA flagsB) s = .next { s with dev := engineCheck n flagsA flagsB s.dev } := State.on_live h (fun _ d => engineCheck n flagsA flagsB d)
theorem exec_engineWatchdog {s : State} (h : s.live) (n e : Nat) :
    exec (.engineWatchdog n e) s = .next { s with dev := engineCheck n (if e = 0 then 16 else 0) (if e = 0 then 0 else 16) s.dev } := State.on_live h (fun _ d => engineCheck n (if e = 0 then 16 else 0) (if e = 0 then 0 else 16) d)
theorem exec_serialiserSwitch {s : State} (h : s.live) (n : Nat) :
    exec (.serialiserSwitch n) s = .next { s with dev := serialiserSwitch n s.dev } := State.on_live h (fun _ d => serialiserSwitch n d)
theorem exec_failoverOverlapEnd {s : State} (h : s.live) :
    exec (.failoverOverlapEnd) s = .next { s with dev := overlapEnd s.dev } := State.on_live h (fun _ d => overlapEnd d)
theorem exec_engSwitch {s : State} (h : s.live) :
    exec (.engSwitch) s = .next { s with dev := hostWrite s.fuse 0xB5044 1 s.dev } := State.on_live h (fun u d => hostWrite u 0xB5044 1 d)
theorem exec_engResync {s : State} (h : s.live) :
    exec (.engResync) s = .next { s with dev := hostWrite s.fuse 0xB5044 2 s.dev } := State.on_live h (fun u d => hostWrite u 0xB5044 2 d)
theorem exec_engRepair {s : State} (h : s.live) :
    exec (.engRepair) s = .next { s with dev := hostWrite s.fuse 0xB5044 4 s.dev } := State.on_live h (fun u d => hostWrite u 0xB5044 4 d)
theorem exec_resyncStart {s : State} (h : s.live) :
    exec (.resyncStart) s = .next { s with dev := resyncStart s.dev } := State.on_live h (fun _ d => resyncStart d)
theorem exec_resyncPortCopy {s : State} (h : s.live) (n : Nat) :
    exec (.resyncPortCopy n) s = .next { s with dev := portCopy n s.dev } := State.on_live h (fun _ d => portCopy n d)
theorem exec_resyncCompare {s : State} (h : s.live) (n : Nat) (errA errB : Bytes) :
    exec (.resyncCompare n errA errB) s = .next { s with dev := resyncCompare n errA errB s.dev } := State.on_live h (fun _ d => resyncCompare n errA errB d)
theorem exec_bistWindowStart {s : State} (h : s.live) :
    exec (.bistWindowStart) s = .next { s with dev := bistStart s.dev } := State.on_live h (fun _ d => bistStart d)
theorem exec_bistWindowEnd {s : State} (h : s.live) (pass : Bool) :
    exec (.bistWindowEnd pass) s = .next { s with dev := bistEnd pass s.dev } := State.on_live h (fun _ d => bistEnd pass d)
theorem exec_autoRepair {s : State} (h : s.live) (e : Nat) :
    exec (.autoRepair e) s = .next { s with dev := autoRepair e s.dev } := State.on_live h (fun _ d => autoRepair e d)

/-! ### Heat -/

theorem exec_fireWWrite {s : State} (h : s.live) (n k main : Nat) :
    exec (.fireWWrite n k main) s = .next { s with dev := hostWrite s.fuse ((0x100 + n) * 4096 + (if k = 0 then 0x204 else 0x604 + 8 * (k - 1))) main s.dev } := State.on_live h (fun u d => hostWrite u ((0x100 + n) * 4096 + (if k = 0 then 0x204 else 0x604 + 8 * (k - 1))) main d)
theorem exec_temperatureSample {s : State} (h : s.live) (n outcome r : Nat) :
    exec (.temperatureSample n outcome r) s = .next { s with dev := temperatureSample n outcome r s.dev } := State.on_live h (fun _ d => temperatureSample n outcome r d)
theorem exec_thmSlowdownRepeat {s : State} (h : s.live) :
    exec (.thmSlowdownRepeat) s = .next { s with dev := thmSlowdownRepeat s.dev } := State.on_live h (fun _ d => thmSlowdownRepeat d)
theorem exec_warmingPulse {s : State} (h : s.live) (n : Nat) :
    exec (.warmingPulse n) s = .next { s with dev := warmingPulse n s.dev } := State.on_live h (fun _ d => warmingPulse n d)
theorem exec_hotRearm {s : State} (h : s.live) (n : Nat) :
    exec (.hotRearm n) s = .next { s with dev := hostPatch s.fuse 0xB2044 0x13F (0x100 + n) s.dev } := State.on_live h (fun u d => hostPatch u 0xB2044 0x13F (0x100 + n) d)
theorem exec_energyTableCommit {s : State} (h : s.live) (slot : Nat) (args : List Nat) (cnt tag : Nat) :
    exec (.energyTableCommit slot args cnt tag) s = .next { s with dev := critical 0x04 slot args cnt tag s.fuse s.dev } := State.on_live h (fun u d => critical 0x04 slot args cnt tag u d)
theorem exec_energyTableCopyDone {s : State} (h : s.live) (poisoned : Bool) :
    exec (.energyTableCopyDone poisoned) s = .next { s with dev := energyCopyDone poisoned s.dev } := State.on_live h (fun _ d => energyCopyDone poisoned d)

/-! ### Links -/

theorem exec_trainingStart {s : State} (h : s.live) (n : Nat) :
    exec (.trainingStart n) s = .next { s with dev := trainingStart n s.dev } := State.on_live h (fun _ d => trainingStart n d)
theorem exec_linkTrain {s : State} (h : s.live) (n : Nat) :
    exec (.linkTrain n) s = .next { s with dev := hostWrite s.fuse ((0x100 + n) * 4096 + 0x44) 1 s.dev } := State.on_live h (fun u d => hostWrite u ((0x100 + n) * 4096 + 0x44) 1 d)
theorem exec_linkCmdDown {s : State} (h : s.live) (n : Nat) :
    exec (.linkCmdDown n) s = .next { s with dev := hostWrite s.fuse ((0x100 + n) * 4096 + 0x44) 2 s.dev } := State.on_live h (fun u d => hostWrite u ((0x100 + n) * 4096 + 0x44) 2 d)
theorem exec_bckSweepStep {s : State} (h : s.live) (n : Nat) (ok : Bool) :
    exec (.bckSweepStep n ok) s = .next { s with dev := bckSweepStep n ok s.dev } := State.on_live h (fun _ d => bckSweepStep n ok d)
theorem exec_laneSweepStep {s : State} (h : s.live) (n : Nat) :
    exec (.laneSweepStep n) s = .next { s with dev := laneSweepStep n s.dev } := State.on_live h (fun _ d => laneSweepStep n d)
theorem exec_alignSendEnd {s : State} (h : s.live) (n : Nat) :
    exec (.alignSendEnd n) s = .next { s with dev := alignEnd n s.dev } := State.on_live h (fun _ d => alignEnd n d)
theorem exec_trainStepTimeout {s : State} (h : s.live) (n : Nat) :
    exec (.trainStepTimeout n) s = .next { s with dev := trainTimeout n s.dev } := State.on_live h (fun _ d => trainTimeout n d)
theorem exec_trainingRetry {s : State} (h : s.live) (n : Nat) :
    exec (.trainingRetry n) s = .next { s with dev := trainRetry n s.dev } := State.on_live h (fun _ d => trainRetry n d)
theorem exec_linkReset {s : State} (h : s.live) (n : Nat) :
    exec (.linkReset n) s = .next { s with dev := linkReset n s.dev } := State.on_live h (fun _ d => linkReset n d)
theorem exec_latReport {s : State} (h : s.live) (n tag refused : Nat) :
    exec (.latReport n tag refused) s = .next { s with dev := latReport n tag refused s.dev } := State.on_live h (fun _ d => latReport n tag refused d)
theorem exec_frameBad {s : State} (h : s.live) (n ordinal seg type row : Nat) :
    exec (.frameBad n ordinal seg type row) s = .next { s with dev := frameBad n ordinal seg type row s.dev } := State.on_live h (fun _ d => frameBad n ordinal seg type row d)
theorem exec_readData {s : State} (h : s.live) (n tag value : Nat) :
    exec (.readData n tag value) s = .next { s with dev := readData n tag value s.dev } := State.on_live h (fun _ d => readData n tag value d)
theorem exec_writeAck {s : State} (h : s.live) (n tag : Nat) (refused : Bool) :
    exec (.writeAck n tag refused) s = .next { s with dev := writeAck n tag refused s.dev } := State.on_live h (fun _ d => writeAck n tag refused d)
theorem exec_headStatus {s : State} (h : s.live) (n code : Nat) :
    exec (.headStatus n code) s = .next { s with dev := headStatus n code s.dev } := State.on_live h (fun _ d => headStatus n code d)
theorem exec_latErr {s : State} (h : s.live) (n width : Nat) :
    exec (.latErr n width) s = .next { s with dev := latErr n width s.dev } := State.on_live h (fun _ d => latErr n width d)
theorem exec_prbsResult {s : State} (h : s.live) (n lane mism : Nat) :
    exec (.prbsResult n lane mism) s = .next { s with dev := prbsResult n lane mism s.dev } := State.on_live h (fun _ d => prbsResult n lane mism d)
theorem exec_aligned {s : State} (h : s.live) (n : Nat) (ok : Bool) :
    exec (.aligned n ok) s = .next { s with dev := aligned n ok s.dev } := State.on_live h (fun _ d => aligned n ok d)
theorem exec_bckMessageDropped {s : State} (h : s.live) (m : BckMessage) :
    exec (.bckMessageDropped m) s = .next { s with dev := bckMessage m s.dev } := State.on_live h (fun _ d => bckMessage m d)
theorem exec_latReportTimeout {s : State} (h : s.live) (n : Nat) :
    exec (.latReportTimeout n) s = .next { s with dev := latReportTimeout n s.dev } := State.on_live h (fun _ d => latReportTimeout n d)
theorem exec_bckSilence {s : State} (h : s.live) (n : Nat) :
    exec (.bckSilence n) s = .next { s with dev := bckSilence n s.dev } := State.on_live h (fun _ d => bckSilence n d)
theorem exec_degradeInterval {s : State} (h : s.live) (n : Nat) :
    exec (.degradeInterval n) s = .next { s with dev := degradeInterval n s.dev } := State.on_live h (fun _ d => degradeInterval n d)
theorem exec_hregCmdGo {s : State} (h : s.live) (n : Nat) (write : Bool) (addr : Nat) :
    exec (.hregCmdGo n write addr) s = .next { s with dev := hostWrite s.fuse ((0x100 + n) * 4096 + 0x400) (0x80000000 + b2n write * 0x40000000 + addr) s.dev } := State.on_live h (fun u d => hostWrite u ((0x100 + n) * 4096 + 0x400) (0x80000000 + b2n write * 0x40000000 + addr) d)
theorem exec_ctrlTimeout {s : State} (h : s.live) (n : Nat) :
    exec (.ctrlTimeout n) s = .next { s with dev := ctrlTimeout n s.dev } := State.on_live h (fun _ d => ctrlTimeout n d)

/-! ### Nozzles -/

theorem exec_scanCmdGo {s : State} (h : s.live) :
    exec (.scanCmdGo) s = .next { s with dev := hostWrite s.fuse 0xB3068 1 s.dev } := State.on_live h (fun u d => hostWrite u 0xB3068 1 d)
theorem exec_scanCmdStop {s : State} (h : s.live) :
    exec (.scanCmdStop) s = .next { s with dev := hostWrite s.fuse 0xB3068 2 s.dev } := State.on_live h (fun u d => hostWrite u 0xB3068 2 d)
theorem exec_scanStepDone {s : State} (h : s.live) (c sumLo sumHi : Nat) (full : Bool) :
    exec (.scanStepDone c sumLo sumHi full) s = .next { s with dev := scanStepDone c sumLo sumHi full s.dev } := State.on_live h (fun _ d => scanStepDone c sumLo sumHi full d)
theorem exec_scanStepRepeat {s : State} (h : s.live) (c : Nat) :
    exec (.scanStepRepeat c) s = .next { s with dev := scanStepRepeat c s.dev } := State.on_live h (fun _ d => scanStepRepeat c d)
theorem exec_soundingDecision {s : State} (h : s.live) (n : Nat) (rs : List Nat) (full : Bool) :
    exec (.soundingDecision n rs full) s = .next { s with dev := soundingDecision n rs full s.dev } := State.on_live h (fun _ d => soundingDecision n rs full d)
theorem exec_healthWriteback {s : State} (h : s.live) :
    exec (.healthWriteback) s = .next { s with dev := healthWriteback s.dev } := State.on_live h (fun _ d => healthWriteback d)
theorem exec_wearFlush {s : State} (h : s.live) (bad : List Nat) :
    exec (.wearFlush bad) s = .next { s with dev := wearFlush bad s.dev } := State.on_live h (fun _ d => wearFlush bad d)
theorem exec_sigLoad {s : State} (h : s.live) :
    exec (.sigLoad) s = .next { s with dev := hostWrite s.fuse 0xB3058 1 s.dev } := State.on_live h (fun u d => hostWrite u 0xB3058 1 d)
theorem exec_sigLoadDone {s : State} (h : s.live) (poisoned : Bool) :
    exec (.sigLoadDone poisoned) s = .next { s with dev := sigLoadDone poisoned s.dev } := State.on_live h (fun _ d => sigLoadDone poisoned d)

/-! ### Position -/

theorem exec_illegalChange {s : State} (h : s.live) (k dt : Nat) :
    exec (.illegalChange k dt) s = .next { s with dev := illegalChange k (s.dev.advance dt) } := State.on_live h (fun _ d => illegalChange k (d.advance dt))
theorem exec_index {s : State} (h : s.live) (k : Nat) (rising : Bool) (dt : Nat) :
    exec (.index k rising dt) s = .next { s with dev := zEdge k rising (s.dev.advance dt) } := State.on_live h (fun _ d => zEdge k rising (d.advance dt))
theorem exec_wireFlag {s : State} (h : s.live) (k line dt : Nat) :
    exec (.wireFlag k line dt) s = .next { s with dev := wireFlag k line (s.dev.advance dt) } := State.on_live h (fun _ d => wireFlag k line (d.advance dt))
theorem exec_wireFlagClear {s : State} (h : s.live) (k line dt : Nat) :
    exec (.wireFlagClear k line dt) s = .next { s with dev := wireClear k line (s.dev.advance dt) } := State.on_live h (fun _ d => wireClear k line (d.advance dt))
theorem exec_preset {s : State} (h : s.live) (k : Nat) :
    exec (.preset k) s = .next { s with dev := hostWrite s.fuse ((0x91 + k) * 4096 + 0x58) 2 s.dev } := State.on_live h (fun u d => hostWrite u ((0x91 + k) * 4096 + 0x58) 2 d)
theorem exec_armHome {s : State} (h : s.live) (k : Nat) :
    exec (.armHome k) s = .next { s with dev := hostWrite s.fuse ((0x91 + k) * 4096 + 0x58) 4 s.dev } := State.on_live h (fun u d => hostWrite u ((0x91 + k) * 4096 + 0x58) 4 d)
theorem exec_clrRef {s : State} (h : s.live) (k : Nat) :
    exec (.clrRef k) s = .next { s with dev := hostWrite s.fuse ((0x91 + k) * 4096 + 0x58) 1 s.dev } := State.on_live h (fun u d => hostWrite u ((0x91 + k) * 4096 + 0x58) 1 d)
theorem exec_snap {s : State} (h : s.live) :
    exec (.snap) s = .next { s with dev := hostWrite s.fuse 0x90040 1 s.dev } := State.on_live h (fun u d => hostWrite u 0x90040 1 d)
theorem exec_standstill {s : State} (h : s.live) (k : Nat) :
    exec (.standstill k) s = .next { s with dev := standstill k s.dev } := State.on_live h (fun _ d => standstill k d)
theorem exec_sheetEdge {s : State} (h : s.live) (k : Nat) (rising : Bool) (dt : Nat) :
    exec (.sheetEdge k rising dt) s = .next { s with dev := sheetEdge k rising (s.dev.advance dt) } := State.on_live h (fun _ d => sheetEdge k rising (d.advance dt))
theorem exec_outEnSet {s : State} (h : s.live) (m : Nat) :
    exec (.outEnSet m) s = .next { s with dev := hostPatch s.fuse ((0x98 + m) * 4096 + 0x40) 0x80000000 0x80000000 s.dev } := State.on_live h (fun u d => hostPatch u ((0x98 + m) * 4096 + 0x40) 0x80000000 0x80000000 d)
theorem exec_eoutStep {s : State} (h : s.live) (m : Nat) :
    exec (.eoutStep m) s = .next { s with dev := eoutStep m s.dev } := State.on_live h (fun _ d => eoutStep m d)

/-! ### Emriub -/

theorem exec_blockLock {s : State} (h : s.live) (l : Nat) :
    exec (.blockLock l) s = .next { s with dev := blockLock l s.dev } := State.on_live h (fun _ d => blockLock l d)
theorem exec_syncHeaderLoss {s : State} (h : s.live) (l : Nat) :
    exec (.syncHeaderLoss l) s = .next { s with dev := syncLoss l s.dev } := State.on_live h (fun _ d => syncLoss l d)
theorem exec_controlBlock {s : State} (h : s.live) (l : Nat) (bs : Bytes) (crc : Nat) :
    exec (.controlBlock l bs crc) s = .next { s with dev := controlBlock l bs crc s.dev } := State.on_live h (fun _ d => controlBlock l bs crc d)
theorem exec_controlBlockTimeout {s : State} (h : s.live) (l : Nat) :
    exec (.controlBlockTimeout l) s = .next { s with dev := controlTimeout l s.dev } := State.on_live h (fun _ d => controlTimeout l d)
theorem exec_linkUpTimeout {s : State} (h : s.live) (l : Nat) :
    exec (.linkUpTimeout l) s = .next { s with dev := linkUpTimeout l s.dev } := State.on_live h (fun _ d => linkUpTimeout l d)
theorem exec_linkRetry {s : State} (h : s.live) (l : Nat) :
    exec (.linkRetry l) s = .next { s with dev := linkRetry l s.dev } := State.on_live h (fun _ d => linkRetry l d)
theorem exec_idle {s : State} (h : s.live) (c : CellIn) (dt : Nat) :
    exec (.idle c dt) s = .next { s with dev := receiveLocal c (fun d => d) (s.dev.advance dt) } := State.on_live h (fun _ d => receiveLocal c (fun d => d) (d.advance dt))
theorem exec_hello {s : State} (h : s.live) (c : CellIn) (dt : Nat) :
    exec (.hello c dt) s = .next { s with dev := receiveLocal c (hello c.link (leAt c.payload 0 1) (leAt c.payload 1 2)) (s.dev.advance dt) } := State.on_live h (fun _ d => receiveLocal c (hello c.link (leAt c.payload 0 1) (leAt c.payload 1 2)) (d.advance dt))
theorem exec_delayExchangeTimer {s : State} (h : s.live) (l : Nat) :
    exec (.delayExchangeTimer l) s = .next { s with dev := delayTimer l s.dev } := State.on_live h (fun _ d => delayTimer l d)
theorem exec_dlyReq {s : State} (h : s.live) (c : CellIn) (dt : Nat) :
    exec (.dlyReq c dt) s = .next { s with dev := receiveLocal c (dlyReq c.link (leAt c.payload 0 8)) (s.dev.advance dt) } := State.on_live h (fun _ d => receiveLocal c (dlyReq c.link (leAt c.payload 0 8)) (d.advance dt))
theorem exec_dlyResp {s : State} (h : s.live) (c : CellIn) (dt : Nat) :
    exec (.dlyResp c dt) s = .next { s with dev := receiveLocal c (dlyResp c.link (leAt c.payload 0 8) (leAt c.payload 16 4)) (s.dev.advance dt) } := State.on_live h (fun _ d => receiveLocal c (dlyResp c.link (leAt c.payload 0 8) (leAt c.payload 16 4)) (d.advance dt))
theorem exec_positionCellTimer {s : State} (h : s.live) :
    exec (.positionCellTimer) s = .next { s with dev := positionTimer s.dev } := State.on_live h (fun _ d => positionTimer d)
theorem exec_position {s : State} (h : s.live) (c : CellIn) (dt : Nat) :
    exec (.position c dt) s = .next { s with dev := receive 0x10 c (positionCell c) (s.dev.advance dt) } := State.on_live h (fun _ d => receive 0x10 c (positionCell c) (d.advance dt))
theorem exec_timeCellTimer {s : State} (h : s.live) :
    exec (.timeCellTimer) s = .next { s with dev := timeTimer s.dev } := State.on_live h (fun _ d => timeTimer d)
theorem exec_time {s : State} (h : s.live) (c : CellIn) (dt : Nat) :
    exec (.time c dt) s = .next { s with dev := receive 0x11 c (timeCell c) (s.dev.advance dt) } := State.on_live h (fun _ d => receive 0x11 c (timeCell c) (d.advance dt))
theorem exec_heartbeatTimer {s : State} (h : s.live) :
    exec (.heartbeatTimer) s = .next { s with dev := heartbeatTimer s.dev } := State.on_live h (fun _ d => heartbeatTimer d)
theorem exec_heartbeat {s : State} (h : s.live) (c : CellIn) (dt : Nat) :
    exec (.heartbeat c dt) s = .next { s with dev := receive 0x12 c (heartbeatCell c) (s.dev.advance dt) } := State.on_live h (fun _ d => receive 0x12 c (heartbeatCell c) (d.advance dt))
theorem exec_sheetEdgeCell {s : State} (h : s.live) (c : CellIn) (dt : Nat) :
    exec (.sheetEdgeCell c dt) s = .next { s with dev := receive 0x13 c (sheetEdgeCell c) (s.dev.advance dt) } := State.on_live h (fun _ d => receive 0x13 c (sheetEdgeCell c) (d.advance dt))
theorem exec_managerStart {s : State} (h : s.live) :
    exec (.managerStart) s = .next { s with dev := managerStart s.dev } := State.on_live h (fun _ d => managerStart d)
theorem exec_heartbeatLoss {s : State} (h : s.live) :
    exec (.heartbeatLoss) s = .next { s with dev := hbLoss s.dev } := State.on_live h (fun _ d => hbLoss d)
theorem exec_claim {s : State} (h : s.live) (c : CellIn) (dt : Nat) :
    exec (.claim c dt) s = .next { s with dev := receive 0x20 c (claimCell c) (s.dev.advance dt) } := State.on_live h (fun _ d => receive 0x20 c (claimCell c) (d.advance dt))
theorem exec_claimWaitEnd {s : State} (h : s.live) :
    exec (.claimWaitEnd) s = .next { s with dev := claimWaitEnd s.dev } := State.on_live h (fun _ d => claimWaitEnd d)
theorem exec_takeover {s : State} (h : s.live) :
    exec (.takeover) s = .next { s with dev := takeover s.dev } := State.on_live h (fun _ d => takeover d)
theorem exec_handover {s : State} (h : s.live) :
    exec (.handover) s = .next { s with dev := hostWrite s.fuse 0xA004C 1 s.dev } := State.on_live h (fun u d => hostWrite u 0xA004C 1 d)
theorem exec_join {s : State} (h : s.live) (c : CellIn) (dt : Nat) :
    exec (.join c dt) s = .next { s with dev := receive 0x21 c (joinCell c) (s.dev.advance dt) } := State.on_live h (fun _ d => receive 0x21 c (joinCell c) (d.advance dt))
theorem exec_leave {s : State} (h : s.live) (c : CellIn) (dt : Nat) :
    exec (.leave c dt) s = .next { s with dev := receive 0x22 c (leaveCell c) (s.dev.advance dt) } := State.on_live h (fun _ d => receive 0x22 c (leaveCell c) (d.advance dt))
theorem exec_statusTimer {s : State} (h : s.live) :
    exec (.statusTimer) s = .next { s with dev := statusTimer s.dev } := State.on_live h (fun _ d => statusTimer d)
theorem exec_statusCell {s : State} (h : s.live) (c : CellIn) (dt : Nat) :
    exec (.statusCell c dt) s = .next { s with dev := receive 0x23 c (statusCell c) (s.dev.advance dt) } := State.on_live h (fun _ d => receive 0x23 c (statusCell c) (d.advance dt))
theorem exec_memberTimeout {s : State} (h : s.live) (a : Nat) :
    exec (.memberTimeout a) s = .next { s with dev := memberTimeout a s.dev } := State.on_live h (fun _ d => memberTimeout a d)
theorem exec_censusWaitEnd {s : State} (h : s.live) :
    exec (.censusWaitEnd) s = .next { s with dev := censusWaitEnd s.dev } := State.on_live h (fun _ d => censusWaitEnd d)
theorem exec_slowdown {s : State} (h : s.live) (c : CellIn) (dt : Nat) :
    exec (.slowdown c dt) s = .next { s with dev := receive 0x24 c (slowdownCell c) (s.dev.advance dt) } := State.on_live h (fun _ d => receive 0x24 c (slowdownCell c) (d.advance dt))
theorem exec_regRead {s : State} (h : s.live) (c : CellIn) (dt : Nat) :
    exec (.regRead c dt) s = .next { s with dev := receive 0x24 c (regReadCell c s.fuse) (s.dev.advance dt) } := State.on_live h (fun u d => receive 0x24 c (regReadCell c u) (d.advance dt))
theorem exec_regWrite {s : State} (h : s.live) (c : CellIn) (dt : Nat) :
    exec (.regWrite c dt) s = .next { s with dev := receive 0x24 c (regWriteCell c s.fuse) (s.dev.advance dt) } := State.on_live h (fun u d => receive 0x24 c (regWriteCell c u) (d.advance dt))
theorem exec_bulkEnd {s : State} (h : s.live) (c : CellIn) (dt : Nat) :
    exec (.bulkEnd c dt) s = .next { s with dev := receive 0x24 c (bulkEnd c) (s.dev.advance dt) } := State.on_live h (fun _ d => receive 0x24 c (bulkEnd c) (d.advance dt))
theorem exec_ack {s : State} (h : s.live) (c : CellIn) (dt : Nat) :
    exec (.ack c dt) s = .next { s with dev := receive 0x25 c (ackCell c) (s.dev.advance dt) } := State.on_live h (fun _ d => receive 0x25 c (ackCell c) (d.advance dt))
theorem exec_commandAckTimeout {s : State} (h : s.live) :
    exec (.commandAckTimeout) s = .next { s with dev := cmdTimeout s.dev } := State.on_live h (fun _ d => cmdTimeout d)
theorem exec_rcmdGo {s : State} (h : s.live) (write : Bool) (dst : Nat) :
    exec (.rcmdGo write dst) s = .next { s with dev := hostWrite s.fuse 0xA0080 (0x80000000 + b2n write * 0x40000000 + dst) s.dev } := State.on_live h (fun u d => hostWrite u 0xA0080 (0x80000000 + b2n write * 0x40000000 + dst) d)
theorem exec_bulkCmdGo {s : State} (h : s.live) (dst : Nat) :
    exec (.bulkCmdGo dst) s = .next { s with dev := hostWrite s.fuse 0xA00C0 (0x80000000 + dst) s.dev } := State.on_live h (fun u d => hostWrite u 0xA00C0 (0x80000000 + dst) d)
theorem exec_bulk {s : State} (h : s.live) (c : CellIn) (dt : Nat) :
    exec (.bulk c dt) s = .next { s with dev := receive 0x40 c (bulkCell c) (s.dev.advance dt) } := State.on_live h (fun _ d => receive 0x40 c (bulkCell c) (d.advance dt))
theorem exec_faultCell {s : State} (h : s.live) (c : CellIn) (dt : Nat) :
    exec (.faultCell c dt) s = .next { s with dev := receive 0x30 c (faultCell c) (s.dev.advance dt) } := State.on_live h (fun _ d => receive 0x30 c (faultCell c) (d.advance dt))
theorem exec_eventCell {s : State} (h : s.live) (c : CellIn) (dt : Nat) :
    exec (.eventCell c dt) s = .next { s with dev := receive 0x31 c (eventCell c) (s.dev.advance dt) } := State.on_live h (fun _ d => receive 0x31 c (eventCell c) (d.advance dt))

/-! ### Stores -/

theorem exec_basinRequest {s : State} (h : s.live) (master cls addr len : Nat) (write : Bool) (data : Bytes) (err late : Nat) :
    exec (.basinRequest master cls addr len write data err late) s = .next { s with dev := basinRequest master cls addr len write data err late s.dev } := State.on_live h (fun _ d => basinRequest master cls addr len write data err late d)
theorem exec_correctedWriteback {s : State} (h : s.live) (bad : Bool) :
    exec (.correctedWriteback bad) s = .next { s with dev := correctedWriteback bad s.dev } := State.on_live h (fun _ d => correctedWriteback bad d)
theorem exec_shallowsAccess {s : State} (h : s.live) (master addr len : Nat) (write : Bool) (data : Bytes) (err : Nat) :
    exec (.shallowsAccess master addr len write data err) s = .next { s with dev := shallowsAccess master addr len write data err s.dev } := State.on_live h (fun _ d => shallowsAccess master addr len write data err d)
theorem exec_throttleEngage {s : State} (h : s.live) :
    exec (.throttleEngage) s = .next { s with dev := throttleEngage s.dev } := State.on_live h (fun _ d => throttleEngage d)
theorem exec_throttleRelease {s : State} (h : s.live) :
    exec (.throttleRelease) s = .next { s with dev := throttleRelease s.dev } := State.on_live h (fun _ d => throttleRelease d)
theorem exec_c5DeadlineDrop {s : State} (h : s.live) :
    exec (.c5DeadlineDrop) s = .next { s with dev := c5Deadline s.dev } := State.on_live h (fun _ d => c5Deadline d)
theorem exec_basinScrubBurst {s : State} (h : s.live) (errs : List Nat) :
    exec (.basinScrubBurst errs) s = .next { s with dev := scrubBurst errs s.dev } := State.on_live h (fun _ d => scrubBurst errs d)
theorem exec_scrubLate {s : State} (h : s.live) :
    exec (.scrubLate) s = .next { s with dev := scrubLate s.dev } := State.on_live h (fun _ d => scrubLate d)
theorem exec_shallowsScrubWord {s : State} (h : s.live) (slice err : Nat) :
    exec (.shallowsScrubWord slice err) s = .next { s with dev := scrubWord slice err s.dev } := State.on_live h (fun _ d => scrubWord slice err d)
theorem exec_telemetryRecord {s : State} (h : s.live) (waits : Bool) :
    exec (.telemetryRecord waits) s = .next { s with dev := telemetryRecord waits s.dev } := State.on_live h (fun _ d => telemetryRecord waits d)
theorem exec_basinWipeDone {s : State} (h : s.live) :
    exec (.basinWipeDone) s = .next { s with dev := basinWiped s.dev } := State.on_live h (fun _ d => basinWiped d)
theorem exec_shallowsWipeDone {s : State} (h : s.live) :
    exec (.shallowsWipeDone) s = .next { s with dev := shallowsWiped s.dev } := State.on_live h (fun _ d => shallowsWiped d)

/-! ### Transfers -/

theorem exec_dmaStart {s : State} (h : s.live) (n : Nat) :
    exec (.dmaStart n) s = .next { s with dev := hostWrite s.fuse ((0x20 + n) * 4096 + 0x4C) 1 s.dev } := State.on_live h (fun u d => hostWrite u ((0x20 + n) * 4096 + 0x4C) 1 d)
theorem exec_dmaResume {s : State} (h : s.live) (n : Nat) :
    exec (.dmaResume n) s = .next { s with dev := hostWrite s.fuse ((0x20 + n) * 4096 + 0x4C) 2 s.dev } := State.on_live h (fun u d => hostWrite u ((0x20 + n) * 4096 + 0x4C) 2 d)
theorem exec_instructionFetch {s : State} (h : s.live) (n ahead : Nat) (host : Bytes) (err : Nat) :
    exec (.instructionFetch n ahead host err) s = .next { s with dev := instructionFetch n ahead host err s.dev } := State.on_live h (fun _ d => instructionFetch n ahead host err d)
theorem exec_move {s : State} (h : s.live) (n : Nat) :
    exec (.move n) s = .next { s with dev := dmaMove n s.dev } := State.on_live h (fun _ d => dmaMove n d)
theorem exec_burstDone {s : State} (h : s.live) (n err late : Nat) (host : Bytes) :
    exec (.burstDone n err late host) s = .next { s with dev := burstDone n err late host s.fuse s.dev } := State.on_live h (fun u d => burstDone n err late host u d)
theorem exec_loopBegin {s : State} (h : s.live) (n : Nat) :
    exec (.loopBegin n) s = .next { s with dev := loopBegin n s.dev } := State.on_live h (fun _ d => loopBegin n d)
theorem exec_loopEnd {s : State} (h : s.live) (n : Nat) :
    exec (.loopEnd n) s = .next { s with dev := loopEnd n s.dev } := State.on_live h (fun _ d => loopEnd n d)
theorem exec_wait {s : State} (h : s.live) (n : Nat) :
    exec (.wait n) s = .next { s with dev := dmaWait n s.dev } := State.on_live h (fun _ d => dmaWait n d)
theorem exec_waitRelease {s : State} (h : s.live) (n : Nat) :
    exec (.waitRelease n) s = .next { s with dev := waitRelease n s.dev } := State.on_live h (fun _ d => waitRelease n d)
theorem exec_waitTimeout {s : State} (h : s.live) (n : Nat) :
    exec (.waitTimeout n) s = .next { s with dev := waitTimeout n s.dev } := State.on_live h (fun _ d => waitTimeout n d)
theorem exec_waitDelayEnd {s : State} (h : s.live) (n : Nat) :
    exec (.waitDelayEnd n) s = .next { s with dev := waitDelayEnd n s.dev } := State.on_live h (fun _ d => waitDelayEnd n d)
theorem exec_signal {s : State} (h : s.live) (n : Nat) :
    exec (.signal n) s = .next { s with dev := dmaSignal n s.dev } := State.on_live h (fun _ d => dmaSignal n d)
theorem exec_set {s : State} (h : s.live) (n : Nat) :
    exec (.set n) s = .next { s with dev := dmaSet n s.fuse s.dev } := State.on_live h (fun u d => dmaSet n u d)
theorem exec_nop {s : State} (h : s.live) (n : Nat) :
    exec (.nop n) s = .next { s with dev := dmaNop n s.dev } := State.on_live h (fun _ d => dmaNop n d)
theorem exec_halt {s : State} (h : s.live) (n : Nat) :
    exec (.halt n) s = .next { s with dev := dmaHalt n s.dev } := State.on_live h (fun _ d => dmaHalt n d)
theorem exec_killMap {s : State} (h : s.live) (map : Nat) :
    exec (.killMap map) s = .next { s with dev := hostWrite s.fuse 0x1F050 map s.dev } := State.on_live h (fun u d => hostWrite u 0x1F050 map d)

/-! ### Squeeze -/

theorem exec_push {s : State} (h : s.live) (k : Nat) :
    exec (.push k) s = .next { s with dev := hostWrite s.fuse ((0x41 + k) * 4096 + 0x44) 1 s.dev } := State.on_live h (fun u d => hostWrite u ((0x41 + k) * 4096 + 0x44) 1 d)
theorem exec_compressorJobStart {s : State} (h : s.live) (k : Nat) :
    exec (.compressorJobStart k) s = .next { s with dev := cmpJobStart k s.dev } := State.on_live h (fun _ d => cmpJobStart k d)
theorem exec_compressorJobEnd {s : State} (h : s.live) (k : Nat) (host : Bytes) (err late : Nat) :
    exec (.compressorJobEnd k host err late) s = .next { s with dev := cmpJobEnd k host err late s.dev } := State.on_live h (fun _ d => cmpJobEnd k host err late d)

/-! ### Service -/

theorem exec_motStart {s : State} (h : s.live) (a : Nat) :
    exec (.motStart a) s = .next { s with dev := hostWrite s.fuse ((0x141 + a) * 4096 + 0x48) 1 s.dev } := State.on_live h (fun u d => hostWrite u ((0x141 + a) * 4096 + 0x48) 1 d)
theorem exec_motHome {s : State} (h : s.live) (a : Nat) :
    exec (.motHome a) s = .next { s with dev := hostWrite s.fuse ((0x141 + a) * 4096 + 0x48) 2 s.dev } := State.on_live h (fun u d => hostWrite u ((0x141 + a) * 4096 + 0x48) 2 d)
theorem exec_setPos {s : State} (h : s.live) (a : Nat) :
    exec (.setPos a) s = .next { s with dev := hostWrite s.fuse ((0x141 + a) * 4096 + 0x48) 16 s.dev } := State.on_live h (fun u d => hostWrite u ((0x141 + a) * 4096 + 0x48) 16 d)
theorem exec_motStop {s : State} (h : s.live) (a : Nat) :
    exec (.motStop a) s = .next { s with dev := hostWrite s.fuse ((0x141 + a) * 4096 + 0x48) 4 s.dev } := State.on_live h (fun u d => hostWrite u ((0x141 + a) * 4096 + 0x48) 4 d)
theorem exec_qstop {s : State} (h : s.live) (a : Nat) :
    exec (.qstop a) s = .next { s with dev := hostWrite s.fuse ((0x141 + a) * 4096 + 0x48) 8 s.dev } := State.on_live h (fun u d => hostWrite u ((0x141 + a) * 4096 + 0x48) 8 d)
theorem exec_stopAll {s : State} (h : s.live) :
    exec (.stopAll) s = .next { s with dev := hostWrite s.fuse 0x140044 1 s.dev } := State.on_live h (fun u d => hostWrite u 0x140044 1 d)
theorem exec_plannerTick {s : State} (h : s.live) (loads : List Nat) :
    exec (.plannerTick loads) s = .next { s with dev := plannerTick loads s.dev } := State.on_live h (fun _ d => plannerTick loads d)
theorem exec_inPos {s : State} (h : s.live) (a : Nat) :
    exec (.inPos a) s = .next { s with dev := inPos a s.dev } := State.on_live h (fun _ d => inPos a d)
theorem exec_holdCurrent {s : State} (h : s.live) (a : Nat) :
    exec (.holdCurrent a) s = .next { s with dev := holdCurrent a s.dev } := State.on_live h (fun _ d => holdCurrent a d)
theorem exec_pwmPeriod {s : State} (h : s.live) (a phase code : Nat) :
    exec (.pwmPeriod a phase code) s = .next { s with dev := pwmPeriod a phase code s.dev } := State.on_live h (fun _ d => pwmPeriod a phase code d)
theorem exec_limitEdge {s : State} (h : s.live) (a lim : Nat) (high : Bool) (dt : Nat) :
    exec (.limitEdge a lim high dt) s = .next { s with dev := limitEdge a lim high (s.dev.advance dt) } := State.on_live h (fun _ d => limitEdge a lim high (d.advance dt))
theorem exec_limitTrip {s : State} (h : s.live) (a lim : Nat) :
    exec (.limitTrip a lim) s = .next { s with dev := limitTrip a lim s.dev } := State.on_live h (fun _ d => limitTrip a lim d)
theorem exec_spitGo {s : State} (h : s.live) :
    exec (.spitGo) s = .next { s with dev := hostWrite s.fuse 0x140054 1 s.dev } := State.on_live h (fun u d => hostWrite u 0x140054 1 d)
theorem exec_spitCycle {s : State} (h : s.live) (n : Nat) :
    exec (.spitCycle n) s = .next { s with dev := spitCycle n s.dev } := State.on_live h (fun _ d => spitCycle n d)
theorem exec_spitStop {s : State} (h : s.live) :
    exec (.spitStop) s = .next { s with dev := hostWrite s.fuse 0x140054 2 s.dev } := State.on_live h (fun u d => hostWrite u 0x140054 2 d)

/-! ### Alarms -/

theorem exec_faultMessage {s : State} (h : s.live) :
    exec (.faultMessage) s = .next { s with dev := faultMessage s.dev } := State.on_live h (fun _ d => faultMessage d)
theorem exec_ackSlot {s : State} (h : s.live) (slot : Nat) :
    exec (.ackSlot slot) s = .next { s with dev := hostWrite s.fuse 0x5044 (0x100 + slot) s.dev } := State.on_live h (fun u d => hostWrite u 0x5044 (0x100 + slot) d)
theorem exec_ackAll {s : State} (h : s.live) :
    exec (.ackAll) s = .next { s with dev := hostPatch s.fuse 0x5044 0x80000000 0x80000000 s.dev } := State.on_live h (fun u d => hostPatch u 0x5044 0x80000000 0x80000000 d)
theorem exec_ackMemo {s : State} (h : s.live) :
    exec (.ackMemo) s = .next { s with dev := hostPatch s.fuse 0x5044 0x40000000 0x40000000 s.dev } := State.on_live h (fun u d => hostPatch u 0x5044 0x40000000 0x40000000 d)
theorem exec_quietExit {s : State} (h : s.live) :
    exec (.quietExit) s = .next { s with dev := quietExit s.dev } := State.on_live h (fun _ d => quietExit d)
theorem exec_safeIn {s : State} (h : s.live) :
    exec (.safeIn) s = .next { s with dev := safeIn s.dev } := State.on_live h (fun _ d => safeIn d)
theorem exec_rippleToggle {s : State} (h : s.live) :
    exec (.rippleToggle) s = .next { s with dev := rippleToggle s.dev } := State.on_live h (fun _ d => rippleToggle d)
theorem exec_kick {s : State} (h : s.live) :
    exec (.kick) s = .next { s with dev := hostWrite s.fuse 0x5088 1 s.dev } := State.on_live h (fun u d => hostWrite u 0x5088 1 d)
theorem exec_kickMissed {s : State} (h : s.live) :
    exec (.kickMissed) s = .next { s with dev := kickMissed s.dev } := State.on_live h (fun _ d => kickMissed d)
theorem exec_fltInternal {s : State} (h : s.live) :
    exec (.fltInternal) s = .next { s with dev := fltInternal s.dev } := State.on_live h (fun _ d => fltInternal d)
theorem exec_faultReset {s : State} (h : s.live) (key : Nat) :
    exec (.faultReset key) s = .next { s with dev := hostWrite s.fuse 0x508C key s.dev } := State.on_live h (fun u d => hostWrite u 0x508C key d)
theorem exec_inject {s : State} (h : s.live) (source kind sev : Nat) :
    exec (.inject source kind sev) s = .next { s with dev := hostWrite s.fuse 0x5400 (0x80000000 + kind * 0x10000 + source * 0x100 + sev) s.dev } := State.on_live h (fun u d => hostWrite u 0x5400 (0x80000000 + kind * 0x10000 + source * 0x100 + sev) d)
theorem exec_polQuery {s : State} (h : s.live) (source kind : Nat) :
    exec (.polQuery source kind) s = .next { s with dev := hostWrite s.fuse 0x509C (source * 0x1000000 + kind * 0x10000) s.dev } := State.on_live h (fun u d => hostWrite u 0x509C (source * 0x1000000 + kind * 0x10000) d)
theorem exec_faultPolicyCommit {s : State} (h : s.live) (slot : Nat) (args : List Nat) (cnt tag : Nat) :
    exec (.faultPolicyCommit slot args cnt tag) s = .next { s with dev := critical 0x05 slot args cnt tag s.fuse s.dev } := State.on_live h (fun u d => critical 0x05 slot args cnt tag u d)
theorem exec_policyCopyDone {s : State} (h : s.live) (poisoned : Bool) :
    exec (.policyCopyDone poisoned) s = .next { s with dev := policyCopyDone poisoned s.dev } := State.on_live h (fun _ d => policyCopyDone poisoned d)
theorem exec_lockClearPolicy {s : State} (h : s.live) (slot : Nat) (args : List Nat) (cnt tag : Nat) :
    exec (.lockClearPolicy slot args cnt tag) s = .next { s with dev := critical 0x0A slot args cnt tag s.fuse s.dev } := State.on_live h (fun u d => critical 0x0A slot args cnt tag u d)
theorem exec_sedimentRecord {s : State} (h : s.live) :
    exec (.sedimentRecord) s = .next { s with dev := sedimentRecord s.dev } := State.on_live h (fun _ d => sedimentRecord d)
theorem exec_freezeCountEnd {s : State} (h : s.live) :
    exec (.freezeCountEnd) s = .next { s with dev := freezeCountEnd s.dev } := State.on_live h (fun _ d => freezeCountEnd d)
theorem exec_freeze {s : State} (h : s.live) :
    exec (.freeze) s = .next { s with dev := hostWrite s.fuse 0x6054 1 s.dev } := State.on_live h (fun u d => hostWrite u 0x6054 1 d)
theorem exec_release {s : State} (h : s.live) :
    exec (.release) s = .next { s with dev := hostWrite s.fuse 0x6054 2 s.dev } := State.on_live h (fun u d => hostWrite u 0x6054 2 d)
theorem exec_dumpClear {s : State} (h : s.live) :
    exec (.dumpClear) s = .next { s with dev := hostWrite s.fuse 0x6054 4 s.dev } := State.on_live h (fun u d => hostWrite u 0x6054 4 d)
theorem exec_dumpEraseDone {s : State} (h : s.live) :
    exec (.dumpEraseDone) s = .next { s with dev := dumpErased s.dev } := State.on_live h (fun _ d => dumpErased d)
theorem exec_pfail {s : State} (h : s.live) :
    exec (.pfail) s = .next { s with dev := pfailFalls s.dev } := State.on_live h (fun _ d => pfailFalls d)
theorem exec_dumpStart {s : State} (h : s.live) :
    exec (.dumpStart) s = .next { s with dev := dumpStart s.dev } := State.on_live h (fun _ d => dumpStart d)
theorem exec_dumpPage {s : State} (h : s.live) (ok : Bool) :
    exec (.dumpPage ok) s = .next { s with dev := dumpPage ok s.dev } := State.on_live h (fun _ d => dumpPage ok d)
theorem exec_dumpEnd {s : State} (h : s.live) :
    exec (.dumpEnd) s = .next { s with dev := dumpEnds s.dev } := State.on_live h (fun _ d => dumpEnds d)
theorem exec_pfailShed {s : State} (h : s.live) :
    exec (.pfailShed) s = .next { s with dev := pfailShed s.dev } := State.on_live h (fun _ d => pfailShed d)

/-! ### Trims -/

theorem exec_dieSample {s : State} (h : s.live) (t : Int) :
    exec (.dieSample t) s = .next { s with dev := dieSample t s.dev } := State.on_live h (fun _ d => dieSample t d)
theorem exec_calRun {s : State} (h : s.live) :
    exec (.calRun) s = .next { s with dev := hostPatch s.fuse 0x8048 1 1 s.dev } := State.on_live h (fun u d => hostPatch u 0x8048 1 1 d)
theorem exec_restore {s : State} (h : s.live) (chan : Nat) :
    exec (.restore chan) s = .next { s with dev := hostWrite s.fuse 0x8048 (chan * 256 + 2) s.dev } := State.on_live h (fun u d => hostWrite u 0x8048 (chan * 256 + 2) d)
theorem exec_targetRunEnd {s : State} (h : s.live) (t : Nat) (ms : List Int) (quality : Nat) :
    exec (.targetRunEnd t ms quality) s = .next { s with dev := scanResume (targetRunEnd t ms quality s.dev) } := State.on_live h (fun _ d => scanResume (targetRunEnd t ms quality d))
theorem exec_spareTakeover {s : State} (h : s.live) :
    exec (.spareTakeover) s = .next { s with dev := scanResume (spareTakeover s.dev) } := State.on_live h (fun _ d => scanResume (spareTakeover d))
theorem exec_spareHandback {s : State} (h : s.live) :
    exec (.spareHandback) s = .next { s with dev := scanResume (spareHandback s.dev) } := State.on_live h (fun _ d => scanResume (spareHandback d))
theorem exec_trimUser {s : State} (h : s.live) (v : Nat) :
    exec (.trimUser v) s = .next { s with dev := hostWrite s.fuse 0x8078 v s.dev } := State.on_live h (fun u d => hostWrite u 0x8078 v d)

/-! ### Keys -/

theorem exec_lifecycleAdvance {s : State} (h : s.live) (slot : Nat) (args : List Nat) (cnt tag : Nat) :
    exec (.lifecycleAdvance slot args cnt tag) s = .next { s with dev := critical 0x01 slot args cnt tag s.fuse s.dev } := State.on_live h (fun u d => critical 0x01 slot args cnt tag u d)
theorem exec_keyLoad {s : State} (h : s.live) (slot : Nat) (args : List Nat) (cnt tag : Nat) :
    exec (.keyLoad slot args cnt tag) s = .next { s with dev := critical 0x02 slot args cnt tag s.fuse s.dev } := State.on_live h (fun u d => critical 0x02 slot args cnt tag u d)
theorem exec_keyRetire {s : State} (h : s.live) (slot : Nat) (args : List Nat) (cnt tag : Nat) :
    exec (.keyRetire slot args cnt tag) s = .next { s with dev := critical 0x03 slot args cnt tag s.fuse s.dev } := State.on_live h (fun u d => critical 0x03 slot args cnt tag u d)
theorem exec_headPowerArm {s : State} (h : s.live) (slot : Nat) (args : List Nat) (cnt tag : Nat) :
    exec (.headPowerArm slot args cnt tag) s = .next { s with dev := critical 0x06 slot args cnt tag s.fuse s.dev } := State.on_live h (fun u d => critical 0x06 slot args cnt tag u d)
theorem exec_printArm {s : State} (h : s.live) (slot : Nat) (args : List Nat) (cnt tag : Nat) :
    exec (.printArm slot args cnt tag) s = .next { s with dev := critical 0x07 slot args cnt tag s.fuse s.dev } := State.on_live h (fun u d => critical 0x07 slot args cnt tag u d)
theorem exec_springCommit {s : State} (h : s.live) (slot : Nat) (args : List Nat) (cnt tag : Nat) :
    exec (.springCommit slot args cnt tag) s = .next { s with dev := critical 0x08 slot args cnt tag s.fuse s.dev } := State.on_live h (fun u d => critical 0x08 slot args cnt tag u d)
theorem exec_wipeNow {s : State} (h : s.live) (slot : Nat) (args : List Nat) (cnt tag : Nat) :
    exec (.wipeNow slot args cnt tag) s = .next { s with dev := critical 0x09 slot args cnt tag s.fuse s.dev } := State.on_live h (fun u d => critical 0x09 slot args cnt tag u d)
theorem exec_lockoutEnd {s : State} (h : s.live) :
    exec (.lockoutEnd) s = .next { s with dev := lockoutEnd s.dev } := State.on_live h (fun _ d => lockoutEnd d)
theorem exec_disarmHead {s : State} (h : s.live) :
    exec (.disarmHead) s = .next { s with dev := hostWrite s.fuse 0x30A8 1 s.dev } := State.on_live h (fun u d => hostWrite u 0x30A8 1 d)
theorem exec_disarmHeadComplete {s : State} (h : s.live) :
    exec (.disarmHeadComplete) s = .next { s with dev := disarmComplete s.dev } := State.on_live h (fun _ d => disarmComplete d)
theorem exec_disarmPrint {s : State} (h : s.live) :
    exec (.disarmPrint) s = .next { s with dev := hostWrite s.fuse 0x30A8 2 s.dev } := State.on_live h (fun u d => hostWrite u 0x30A8 2 d)

/-! ### Supply -/

theorem exec_coldReset (s : State) (addr : Nat) : exec (.coldReset addr) s = .next { s with dev := coldReset addr s.dev } := rfl
theorem exec_pinReset (s : State) (addr : Nat) : exec (.pinReset addr) s = .next { s with dev := pinReset addr s.dev } := rfl
theorem exec_softwareReset {s : State} (h : s.live) (key : Nat) :
    exec (.softwareReset key) s = .next { s with dev := hostWrite s.fuse 0x70 key s.dev } := State.on_live h (fun u d => hostWrite u 0x70 key d)
theorem exec_refclkBad {s : State} (h : s.live) (missing : Bool) (ppm : Int) :
    exec (.refclkBad missing ppm) s = .next { s with dev := refclkBad missing ppm s.dev } := State.on_live h (fun _ d => refclkBad missing ppm d)
theorem exec_pllUnlock {s : State} (h : s.live) (pll : Nat) :
    exec (.pllUnlock pll) s = .next { s with dev := pllUnlock pll s.dev } := State.on_live h (fun _ d => pllUnlock pll d)
theorem exec_pllRelock {s : State} (h : s.live) (pll : Nat) :
    exec (.pllRelock pll) s = .next { s with dev := pllRelock pll s.dev } := State.on_live h (fun _ d => pllRelock pll d)
theorem exec_dllUnlock {s : State} (h : s.live) :
    exec (.dllUnlock) s = .next { s with dev := dllUnlock s.dev } := State.on_live h (fun _ d => dllUnlock d)
theorem exec_dllRelock {s : State} (h : s.live) :
    exec (.dllRelock) s = .next { s with dev := dllRelock s.dev } := State.on_live h (fun _ d => dllRelock d)
theorem exec_domOn {s : State} (h : s.live) (mask : Nat) :
    exec (.domOn mask) s = .next { s with dev := hostWrite s.fuse 0x2040 mask s.dev } := State.on_live h (fun u d => hostWrite u 0x2040 mask d)
theorem exec_domOff {s : State} (h : s.live) (mask on : Nat) :
    exec (.domOff mask on) s = .next { s with dev := domOff mask on s.dev } := State.on_live h (fun _ d => domOff mask on d)
theorem exec_domainOffDone {s : State} (h : s.live) (dom : Nat) :
    exec (.domainOffDone dom) s = .next { s with dev := domainOffDone dom s.dev } := State.on_live h (fun _ d => domainOffDone dom d)
theorem exec_domainOnDone {s : State} (h : s.live) (dom : Nat) :
    exec (.domainOnDone dom) s = .next { s with dev := domainOnDone dom s.dev } := State.on_live h (fun _ d => domainOnDone dom d)
theorem exec_supplyLow {s : State} (h : s.live) (which : Nat) :
    exec (.supplyLow which) s = .next { s with dev := supplyLow which s.dev } := State.on_live h (fun _ d => supplyLow which d)
theorem exec_brownOutReset {s : State} (h : s.live) :
    exec (.brownOutReset) s = .next { s with dev := brownOut s.dev } := State.on_live h (fun _ d => brownOut d)

/-! ### Pins -/

theorem exec_smbSetPtr {s : State} (h : s.live) (offset : Nat) (ok : Bool) :
    exec (.smbSetPtr offset ok) s = .next { s with dev := smbSetPtr offset ok s.dev } := State.on_live h (fun _ d => smbSetPtr offset ok d)
theorem exec_smbRead {s : State} (h : s.live) (ok : Bool) :
    exec (.smbRead ok) s = .next { s with dev := smbRead ok s.fuse s.dev } := State.on_live h (fun u d => smbRead ok u d)
theorem exec_smbWrite {s : State} (h : s.live) (value : Nat) (ok : Bool) :
    exec (.smbWrite value ok) s = .next { s with dev := smbWrite value ok s.fuse s.dev } := State.on_live h (fun u d => smbWrite value ok u d)
theorem exec_spifRead {s : State} (h : s.live) :
    exec (.spifRead) s = .next { s with dev := hostWrite s.fuse 0x152048 0x80000000 s.dev } := State.on_live h (fun u d => hostWrite u 0x152048 0x80000000 d)
theorem exec_spifProgram {s : State} (h : s.live) :
    exec (.spifProgram) s = .next { s with dev := hostWrite s.fuse 0x152048 0x80000001 s.dev } := State.on_live h (fun u d => hostWrite u 0x152048 0x80000001 d)
theorem exec_spifErase {s : State} (h : s.live) :
    exec (.spifErase) s = .next { s with dev := hostWrite s.fuse 0x152048 0x80000002 s.dev } := State.on_live h (fun u d => hostWrite u 0x152048 0x80000002 d)
theorem exec_spifDone {s : State} (h : s.live) (ok : Bool) (moved : Nat) :
    exec (.spifDone ok moved) s = .next { s with dev := spifDone ok moved s.dev } := State.on_live h (fun _ d => spifDone ok moved d)
theorem exec_safeInRelease {s : State} (h : s.live) :
    exec (.safeInRelease) s = .next { s with dev := safeInRelease s.dev } := State.on_live h (fun _ d => safeInRelease d)
theorem exec_pfailRelease {s : State} (h : s.live) :
    exec (.pfailRelease) s = .next { s with dev := pfailRelease s.dev } := State.on_live h (fun _ d => pfailRelease d)
theorem exec_refclkRecovered {s : State} (h : s.live) (ppm : Int) :
    exec (.refclkRecovered ppm) s = .next { s with dev := refclkRecovered ppm s.dev } := State.on_live h (fun _ d => refclkRecovered ppm d)
theorem exec_resetAsserted (s : State) : exec (.resetAsserted) s = .next { s with dev := resetAsserted s.dev } := rfl
theorem exec_nonceReady {s : State} (h : s.live) (ok : Bool) (draw : Nat) :
    exec (.nonceReady ok draw) s = .next { s with dev := nonceReady ok draw s.dev } := State.on_live h (fun _ d => nonceReady ok draw d)
theorem exec_frameShipped {s : State} (h : s.live) (n : Nat) :
    exec (.frameShipped n) s = .next { s with dev := frameShipped n s.dev } := State.on_live h (fun _ d => frameShipped n d)
theorem exec_trainSettleEnd {s : State} (h : s.live) (n : Nat) :
    exec (.trainSettleEnd n) s = .next { s with dev := settleEnd n s.dev } := State.on_live h (fun _ d => settleEnd n d)
theorem exec_trimUpdateTick {s : State} (h : s.live) (t : Nat) :
    exec (.trimUpdateTick t) s = .next { s with dev := trimTicks t s.dev } := State.on_live h (fun _ d => trimTicks t d)
theorem exec_cellCrcError {s : State} (h : s.live) (l : Nat) :
    exec (.cellCrcError l) s = .next { s with dev := cellCrcError l s.dev } := State.on_live h (fun _ d => cellCrcError l d)
theorem exec_unknownCell {s : State} (h : s.live) (type : Nat) (c : CellIn) (dt : Nat) :
    exec (.unknownCell type c dt) s = .next { s with dev := unknownCell type c (s.dev.advance dt) } := State.on_live h (fun _ d => unknownCell type c (d.advance dt))
theorem exec_eoutZEnd {s : State} (h : s.live) (m : Nat) :
    exec (.eoutZEnd m) s = .next { s with dev := eoutZEnd m s.dev } := State.on_live h (fun _ d => eoutZEnd m d)

end Sys2Proof.Machine
end

