-- ==== Sys2Proof/Laws/Flags.lean ====
section
/-!
SUPPORT. What setting an event flag and raising a fault can do: they touch the register file, the collector's inbox,
the Sediment FIFO, the ring's queues and the record of outputs, and of the registers only the page headers and
SED.LOST.
-/
namespace Sys2Proof.Machine

theorem Dev.Flagged.refl (d : Dev) : d.Flagged d := ⟨⟨_, _, _, _, _, _, rfl⟩, fun _ _ _ _ _ => rfl⟩

theorem Dev.Flagged.trans {a b c : Dev} (h : a.Flagged b) (k : b.Flagged c) : a.Flagged c := by
  obtain ⟨⟨r, f, s, e, l, o, rfl⟩, h⟩ := h
  obtain ⟨⟨r', f', s', e', l', o', rfl⟩, k⟩ := k
  exact ⟨⟨r', f', s', e', l', o', rfl⟩, fun g h1 h2 h3 h4 => (k g h1 h2 h3 h4).trans (h g h1 h2 h3 h4)⟩

theorem Dev.Flagged.but {a b : Dev} (h : a.Flagged b) (fs : List Fld) : a.FlaggedBut b fs :=
  ⟨h.1, fun g h1 h2 h3 h4 _ => h.2 g h1 h2 h3 h4⟩

theorem Dev.FlaggedBut.trans {a b c : Dev} {fs : List Fld} (h : a.FlaggedBut b fs) (k : b.FlaggedBut c fs) : a.FlaggedBut c fs := by
  obtain ⟨⟨r, f, s, e, l, o, rfl⟩, h⟩ := h
  obtain ⟨⟨r', f', s', e', l', o', rfl⟩, k⟩ := k
  exact ⟨⟨r', f', s', e', l', o', rfl⟩, fun g h1 h2 h3 h4 h5 => (k g h1 h2 h3 h4 h5).trans (h g h1 h2 h3 h4 h5)⟩

/-- A field past the header has another place than a header field. -/
theorem key_ne_of_header {f g : Fld} (hf : f.off < 0x40) (hl : f.lo < 64) (h1 : 0x40 ≤ g.off) (h2 : g.off < 4096)
    (h3 : g.lo < 64) : g.key ≠ f.key := by
  simp only [Fld.key]; omega

theorem Dev.flagged_set {d : Dev} {f : Fld} (v : Nat) (hf : f.off < 0x40) (hl : f.lo < 64) : d.Flagged (d.set f v) :=
  ⟨⟨_, _, _, _, _, _, rfl⟩, fun _ h1 h2 h3 _ => d.get_set_ne v (key_ne_of_header hf hl h1 h2 h3)⟩

theorem Dev.flagged_of_regs {d d' : Dev} (h : d'.regs = d.regs)
    (h' : ∃ f s e l o, d' = { d with flt := f, sed := s, emr := e, emls := l, out := o }) : d.Flagged d' := by
  obtain ⟨f, s, e, l, o, rfl⟩ := h'
  exact ⟨⟨_, f, s, e, l, o, rfl⟩, fun _ _ _ _ _ => rfl⟩

theorem Dev.flagged_sendOn (d : Dev) (l : Nat) (c : Bytes) : d.Flagged (d.sendOn l c) := by
  unfold Dev.sendOn
  dsimp only
  split_ifs <;> exact Dev.flagged_of_regs rfl ⟨_, _, _, _, _, rfl⟩

theorem Dev.flagged_broadcast (d : Dev) (t : Nat) (p : Bytes) : d.Flagged (d.broadcast t p) := by
  unfold Dev.broadcast
  dsimp only
  split_ifs
  · refine Dev.Flagged.trans ?_ ((Dev.flagged_sendOn _ 0 _).trans (Dev.flagged_sendOn _ 1 _))
    exact Dev.flagged_of_regs rfl ⟨_, _, _, _, _, rfl⟩
  · exact .refl d

theorem Dev.flagged_foldl {α : Type} (f : Dev → α → Dev) (h : ∀ (d : Dev) (a : α), d.Flagged (f d a)) (l : List α) (d : Dev) :
    d.Flagged (l.foldl f d) := by
  induction l generalizing d with
  | nil => exact .refl d
  | cons a l ih => exact (h d a).trans (ih _)

theorem Dev.flagged_forwardEvent (d : Dev) (s : Nat) : d.Flagged (d.forwardEvent s) :=
  Dev.flagged_foldl _ (fun d i => by
    split_ifs
    · exact d.flagged_broadcast _ _
    · exact .refl d) _ d

theorem Dev.flagged_sedOffer (d : Dev) (r : SedRec) : d.Flagged (d.sedOffer r) := by
  unfold Dev.sedOffer
  split_ifs
  · exact Dev.flagged_of_regs rfl ⟨_, _, _, _, _, rfl⟩
  · refine Dev.Flagged.trans (b := d.bump Reg.SED.LOST.COUNT 1) ?_ (Dev.flagged_set _ (by decide) (by decide))
    exact ⟨⟨_, _, _, _, _, _, rfl⟩, fun g _ _ _ h4 => d.get_set_ne _ h4⟩

theorem Dev.flagged_fltLocal (d : Dev) (page kind sev : Nat) (a : FArg) : d.Flagged (d.fltLocal page kind sev a) := by
  unfold Dev.fltLocal
  dsimp only
  have hs : ∀ (e : Dev) (f : Fld) (v : Nat), d.Flagged e → f.off < 0x40 → f.lo < 64 → d.Flagged (e.set f v) :=
    fun e f v h h1 h2 => h.trans (Dev.flagged_set v h1 h2)
  have hb : d.Flagged (d.bump (Reg.HDR.F_COUNT page) 1) := hs _ _ _ (.refl d) (by simp [Reg.HDR.F_COUNT]) (by simp [Reg.HDR.F_COUNT])
  split_ifs
  · exact hb
  · iterate 7 refine hs _ _ _ ?_ (by simp [Reg.HDR.F_ARG, Reg.HDR.F_MASTER, Reg.HDR.F_ACCESS, Reg.HDR.F_KIND, Reg.HDR.F_SEVERITY, Reg.HDR.F_ADDR, Reg.HDR.F_TS]) (by simp [Reg.HDR.F_ARG, Reg.HDR.F_MASTER, Reg.HDR.F_ACCESS, Reg.HDR.F_KIND, Reg.HDR.F_SEVERITY, Reg.HDR.F_ADDR, Reg.HDR.F_TS])
    exact hs _ _ _ hb (by simp [Reg.HDR.F_VALID]) (by simp [Reg.HDR.F_VALID])

/-- A fault in its page and in the collector's inbox. -/
theorem Dev.flagged_post (d : Dev) (n : Nat) (k : FKind) (sev : Nat) (a : FArg) : d.Flagged (d.post n k sev a) := by
  unfold Dev.post
  dsimp only
  exact (d.flagged_fltLocal _ _ _ _).trans (Dev.flagged_of_regs rfl ⟨_, _, _, _, _, rfl⟩)

theorem Dev.flagged_riseRecord (d : Dev) (s : Nat) : d.Flagged (d.riseRecord s) := by
  unfold Dev.riseRecord
  dsimp only
  split_ifs
  · exact ((d.flagged_sedOffer _).trans (Dev.flagged_post _ _ _ _ _)).trans (Dev.flagged_forwardEvent _ _)
  · exact (d.flagged_sedOffer _).trans (Dev.flagged_post _ _ _ _ _)
  · exact d.flagged_sedOffer _

theorem Dev.flagged_onRise (d : Dev) (s : Nat) : d.Flagged (d.onRise s) := by
  unfold Dev.onRise
  split_ifs
  · exact (d.flagged_riseRecord s).trans (Dev.flagged_forwardEvent _ s)
  · exact d.flagged_forwardEvent s

theorem Dev.flagged_rising {d : Dev} (b : Blk) (n bit : Nat) {f : Dev → Dev} (h : d.Flagged (f d)) :
    d.Flagged (d.rising b n bit f) := by
  unfold Dev.rising
  split
  · exact h
  · split_ifs
    · exact h.trans (Dev.flagged_onRise _ _)
    · exact h

/-- Setting an EV_RAW bit. -/
theorem Dev.flagged_ev (d : Dev) (b : Blk) (n bit : Nat) : d.Flagged (d.ev b n bit) :=
  Dev.flagged_rising b n bit (Dev.flagged_set _ (by simp [Reg.HDR.EV_RAW]) (by simp [Reg.HDR.EV_RAW]))

/-- Raising a fault. -/
theorem Dev.flagged_raiseAs (d : Dev) (n : Nat) (k : FKind) (sev : Nat) (a : FArg) : d.Flagged (d.raiseAs n k sev a) :=
  (d.flagged_ev k.blk n k.bit).trans (Dev.flagged_post _ n k sev a)

/-- Raising a fault of its default severity. -/
theorem Dev.flagged_raise (d : Dev) (n : Nat) (k : FKind) (a : FArg) : d.Flagged (d.raise n k a) :=
  d.flagged_raiseAs n k k.sev a

end Sys2Proof.Machine
end

