-- ==== Sys2Proof/Laws/Memory.lean ====
section
/-!
SUPPORT. What the memory operations do: a byte written reads back, every other byte reads as before, and every
operation keeps the canonical form.
-/
namespace Sys2Proof.Machine

/-- A byte that no entry lists reads as the default. -/
theorem tget_of_not_mem {α : Type} (d : α) {t : List (Nat × α)} {a : Nat} (h : ∀ e ∈ t, e.1 ≠ a) : tget d t a = d := by
  induction t with
  | nil => rfl
  | cons e t ih =>
    have h1 : e.1 ≠ a := h e (by simp)
    simp [tget, h1, ih fun e he => h e (by simp [he])]

theorem tget_append {α : Type} (d : α) (t u : List (Nat × α)) (a : Nat) :
    tget d (t ++ u) a = tget (tget d u a) t a := by
  induction t with
  | nil => rfl
  | cons e t ih => by_cases h : e.1 = a <;> simp [tget, h, ih]

/-- Entries kept by a test that holds of `a` leave what `a` reads as. -/
theorem tget_filter {α : Type} (d : α) (p : Nat × α → Bool) {a : Nat} (hp : ∀ v, p (a, v) = true) (t : List (Nat × α)) :
    tget d (t.filter p) a = tget d t a := by
  induction t with
  | nil => rfl
  | cons e t ih =>
    obtain ⟨k, v⟩ := e
    by_cases hk : k = a
    · subst hk; simp [hp, tget]
    · by_cases hq : p (k, v) = true <;> simp [hq, tget, hk, ih]

theorem mem_memCells {d : Byte} {a : Nat} {bs : Bytes} {e : Host.Cell} (h : e ∈ memCells d a bs) :
    a ≤ e.1 ∧ e.1 < a + bs.length ∧ e.2 ≠ d := by
  induction bs generalizing a with
  | nil => simp [memCells] at h
  | cons b t ih =>
    by_cases hb : b = d
    · simp only [memCells, hb, if_true] at h
      have := ih h
      simp only [List.length_cons]; exact ⟨by omega, by omega, this.2.2⟩
    · simp only [memCells, hb, if_false, List.mem_cons] at h
      rcases h with rfl | h
      · simp [hb]
      · have := ih h
        simp only [List.length_cons]; exact ⟨by omega, by omega, this.2.2⟩

theorem tget_memCells (d : Byte) (a : Nat) (bs : Bytes) (i : Nat) (h : i < bs.length) :
    tget d (memCells d a bs) (a + i) = bs[i] := by
  induction bs generalizing a i with
  | nil => simp at h
  | cons b t ih =>
    cases i with
    | zero =>
      by_cases hb : b = d
      · simp only [memCells, hb, if_true]
        exact tget_of_not_mem d fun e he => by have := (mem_memCells he).1; simp; omega
      · simp [memCells, hb, tget]
    | succ i =>
      have hi : i < t.length := by simpa using h
      have := ih (a + 1) i hi
      rw [show a + 1 + i = a + (i + 1) by omega] at this
      by_cases hb : b = d
      · simpa [memCells, hb] using this
      · simpa [memCells, hb, tget] using this

theorem pairwise_memCells (d : Byte) (a : Nat) (bs : Bytes) :
    ((memCells d a bs).map Prod.fst).Pairwise (· < ·) := by
  induction bs generalizing a with
  | nil => simp [memCells]
  | cons b t ih =>
    by_cases hb : b = d
    · simpa [memCells, hb] using ih (a + 1)
    · simp only [memCells, hb, if_false, List.map_cons, List.pairwise_cons]
      refine ⟨fun x hx => ?_, ih (a + 1)⟩
      obtain ⟨e, he, rfl⟩ := List.mem_map.mp hx
      have := (mem_memCells he).1
      omega

/-- A byte inside the string written reads as the string has it. -/
theorem memGet_memWrite_in (d : Byte) (a : Nat) (bs : Bytes) (m : List Host.Cell) (i : Nat) (h : i < bs.length) :
    memGet d (memWrite d a bs m) (a + i) = bs[i] := by
  rw [memGet, memWrite, List.append_assoc, tget_append, tget_append, tget_of_not_mem (t := m.filter _)]
  · rw [tget_of_not_mem _ (t := m.filter _), tget_memCells d a bs i h]
    intro e he
    have := (List.mem_filter.mp he).2
    simp at this; omega
  · intro e he
    have := (List.mem_filter.mp he).2
    simp at this; omega

/-- A byte outside the string written reads as before. -/
theorem memGet_memWrite_out (d : Byte) (a : Nat) (bs : Bytes) (m : List Host.Cell) (b : Nat)
    (h : b < a ∨ a + bs.length ≤ b) : memGet d (memWrite d a bs m) b = memGet d m b := by
  have hc : ∀ e ∈ memCells d a bs, e.1 ≠ b := fun e he => by have := mem_memCells he; omega
  rw [memGet, memGet, memWrite, List.append_assoc, tget_append, tget_append]
  rcases h with h | h
  · rw [tget_of_not_mem d (t := m.filter fun c => decide (a + bs.length ≤ c.1)), tget_of_not_mem _ hc,
      tget_filter d _ (by simp [h])]
    intro e he
    have := (List.mem_filter.mp he).2
    simp at this; omega
  · rw [tget_filter d _ (by simp [h]), tget_of_not_mem _ hc, tget_of_not_mem]
    intro e he
    have := (List.mem_filter.mp he).2
    simp at this; omega

/-- A cleared byte reads as the default, every other one as before. -/
theorem memGet_memClear (d : Byte) (a n : Nat) (m : List Host.Cell) (b : Nat) :
    memGet d (memClear a n m) b = if a ≤ b ∧ b < a + n then d else memGet d m b := by
  by_cases h : a ≤ b ∧ b < a + n
  · rw [if_pos h, memGet, memClear, tget_of_not_mem]
    intro e he
    have := (List.mem_filter.mp he).2
    simp at this; omega
  · rw [if_neg h, memGet, memClear, tget_filter]
    · rfl
    · simp; omega

/-- A write keeps the canonical form. -/
theorem memWrite_wf {d : Byte} {m : List Host.Cell} (a : Nat) (bs : Bytes) (h : Memory.wf d m = true) :
    Memory.wf d (memWrite d a bs m) = true := by
  rw [Memory.wf, twf_iff] at *
  have hp : ∀ p : Host.Cell → Bool, ((m.filter p).map Prod.fst).Pairwise (· < ·) := fun p =>
    h.2.sublist (List.filter_sublist.map _)
  constructor
  · intro e he
    simp only [memWrite, List.mem_append] at he
    rcases he with (he | he) | he
    · exact h.1 e (List.mem_of_mem_filter he)
    · exact (mem_memCells he).2.2
    · exact h.1 e (List.mem_of_mem_filter he)
  · simp only [memWrite, List.map_append, List.pairwise_append]
    refine ⟨⟨hp _, pairwise_memCells d a bs, ?_⟩, hp _, ?_⟩
    · rintro _ hx _ hy
      obtain ⟨e, he, rfl⟩ := List.mem_map.mp hx
      obtain ⟨f, hf, rfl⟩ := List.mem_map.mp hy
      have h1 := (List.mem_filter.mp he).2
      have h2 := mem_memCells hf
      simp at h1; omega
    · rintro _ hx _ hy
      obtain ⟨f, hf, rfl⟩ := List.mem_map.mp hy
      have h2 := (List.mem_filter.mp hf).2
      rw [List.mem_append] at hx
      rcases hx with hx | hx <;> obtain ⟨e, he, rfl⟩ := List.mem_map.mp hx
      · have h1 := (List.mem_filter.mp he).2
        simp at h1 h2; omega
      · have h1 := mem_memCells he
        simp at h2; omega

/-- Clearing a range keeps the canonical form. -/
theorem memClear_wf {d : Byte} {m : List Host.Cell} (a n : Nat) (h : Memory.wf d m = true) :
    Memory.wf d (memClear a n m) = true := twf_filter _ h

/-- A read of `n` bytes is `n` bytes long. -/
@[simp] theorem length_memRun (d : Byte) (n : Nat) (m : List Host.Cell) (a : Nat) : (memRun d n m a).length = n := by
  induction n generalizing m a with
  | zero => rfl
  | succ n ih =>
    cases m with
    | nil => simp [memRun, ih]
    | cons e t => by_cases h : e.1 = a <;> simp [memRun, h, ih]

@[simp] theorem length_memRead (d : Byte) (m : List Host.Cell) (a n : Nat) : (memRead d m a n).length = n :=
  length_memRun ..

/-- Byte `i` of a read is the byte at that address, when the memory is canonical. -/
theorem memRun_getElem (d : Byte) (n : Nat) (m : List Host.Cell) (a i : Nat) (hs : (m.map Prod.fst).Pairwise (· < ·))
    (ha : ∀ e ∈ m, a ≤ e.1) (h : i < (memRun d n m a).length) : (memRun d n m a)[i] = tget d m (a + i) := by
  induction n generalizing m a i with
  | zero => simp at h
  | succ n ih =>
    cases m with
    | nil =>
      cases i with
      | zero => simp [memRun, tget]
      | succ i =>
        have := ih [] (a + 1) i (by simp) (by simp) (by simp at h ⊢; omega)
        simpa [memRun, tget] using this
    | cons e t =>
      obtain ⟨k, v⟩ := e
      simp only [List.map_cons, List.pairwise_cons] at hs
      by_cases hk : k = a
      · subst hk
        cases i with
        | zero => simp [memRun, tget]
        | succ i =>
          have ht : ∀ e ∈ t, k + 1 ≤ e.1 := fun e he => hs.1 e.1 (List.mem_map_of_mem he)
          have := ih t (k + 1) i hs.2 ht (by simp at h ⊢; omega)
          have hne : k ≠ k + (i + 1) := by omega
          simp only [memRun, if_true, List.getElem_cons_succ, tget, hne, if_false]
          rw [this, show k + 1 + i = k + (i + 1) by omega]
      · have hlt : a < k := by have := ha (k, v) (by simp); omega
        cases i with
        | zero =>
          simp only [memRun, hk, if_false, List.getElem_cons_zero, Nat.add_zero]
          exact (tget_of_not_mem d fun e he => by
            rcases List.mem_cons.mp he with rfl | he
            · exact hk
            · have := hs.1 e.1 (List.mem_map_of_mem he); omega).symm
        | succ i =>
          have ht : ∀ e ∈ (k, v) :: t, a + 1 ≤ e.1 := fun e he => by
            rcases List.mem_cons.mp he with rfl | he
            · exact hlt
            · have := hs.1 e.1 (List.mem_map_of_mem he); omega
          have := ih ((k, v) :: t) (a + 1) i (by simp only [List.map_cons, List.pairwise_cons]; exact hs) ht
            (by simp at h ⊢; omega)
          simp only [memRun, hk, if_false, List.getElem_cons_succ]
          rw [this, show a + 1 + i = a + (i + 1) by omega]

/-- Byte `i` of a read is the byte the memory holds at that address. -/
theorem memRead_getElem {d : Byte} {m : List Host.Cell} (a n i : Nat) (hw : Memory.wf d m = true)
    (h : i < (memRead d m a n).length) : (memRead d m a n)[i] = memGet d m (a + i) := by
  rw [Memory.wf, twf_iff] at hw
  have hi : i < n := by simpa using h
  rw [memGet, ← tget_filter d (fun c => decide (a ≤ c.1) && decide (c.1 < a + n)) (a := a + i) (by simp; omega) m]
  exact memRun_getElem d n _ a i (hw.2.sublist (List.filter_sublist.map _))
    (fun e he => by have := (List.mem_filter.mp he).2; simp at this; omega) h

end Sys2Proof.Machine
end

