-- ==== Sys2Proof/WellFormed.lean ====
section
/-!
DEFINITION. Which commands are well-formed: every number names a port, plane, channel, page, bit field or address that
exists.
-/
namespace Sys2Proof

/-- Does Table 21.1 list a page? -/
def pageListed (page : Nat) : Bool := (Machine.Blk.ofPage page).isSome

/-- Do a cell's fields fit Table 12.2? -/
def cellWf (c : CellIn) : Bool :=
  decide (c.link < 2) && decide (c.src < 64) && decide (c.dst < 256) && decide (c.hops < 256) && decide (c.seq < 65536) &&
  decide (c.corr < 65536) && c.payload.length == 20

/-- Is a command well-formed? -/
def Instr.wf : Instr → Bool
  | .registerWrite master _ addr size value => master < 256 && (addr < 0x200000 && value < 2 ^ (8 * size))
  | .loReadLatch master addr size => master < 256 && addr < 0x200000 && size ≤ 8
  | .readClear master addr size => master < 256 && addr < 0x200000 && size ≤ 8
  | .hostBar2Access addr len write data _ _ => addr + len ≤ 0x800000000 && (write == false || data.length == len)
  | .hostBar4Access addr size _ value _ => addr < 0x4000000 && value < 2 ^ (8 * size)
  | .functionLevelReset _ => true
  | .levelUnlock key => key < 2 ^ 32
  | .levelWindowExpiry => true
  | .levelSet page _ => pageListed page
  | .enableClear page => pageListed page
  | .enableSet page => pageListed page
  | .drainBoundaryReached page => pageListed page
  | .drain page => pageListed page
  | .softReset page => pageListed page
  | .kill page => pageListed page
  | .drainTimeout page => pageListed page
  | .domainWaitExpiry dom => dom < 18
  | .replyArrival page epoch seq => pageListed page && epoch < 16 && seq < 4096
  | .evClear page mask => pageListed page && mask < 2 ^ 32
  | .evForce page mask => pageListed page && mask < 2 ^ 32
  | .fltLocalClear page => pageListed page
  | .ownerWrite n expect tag => n < 32 && expect < 256 && tag < 256
  | .revokeClient client => client < 256
  | .vecPendClear mask => mask < 2 ^ 64
  | .msixMessage v => v < 64
  | .providerLost => true
  | .modeReqGo mode _ => mode < 256
  | .modeChanged => true
  | .clocksLocked => true
  | .fusesRead => true
  | .pcieReady width speed => width < 64 && speed < 16
  | .springScriptStart => true
  | .springWrite => true
  | .springModify => true
  | .springPoll => true
  | .springPollMet => true
  | .springPollTimeout => true
  | .springDelay => true
  | .springDelayEnd => true
  | .springEndEntry => true
  | .springTimeLimit => true
  | .geomLoad ports => ports < 2 ^ 64
  | .geomLoadDone poisoned => poisoned.all (· < 64)
  | .qTailWrite p v => p < 16 && v < 65536
  | .jobStart p _ _ => p < 16
  | .qCancel p => p < 16
  | .qHold p _ => p < 16
  | .qEnable p _ => p < 16
  | .encoderEdge k _ _ => k < 4
  | .cycleScheduledTime n => n < 64
  | .lat n => n < 64
  | .slotMark n => n < 64
  | .cycleSkip n => n < 64
  | .slowdownRepeat => true
  | .fixPeriodWrite v => v < 2 ^ 32
  | .fixedGeneratorStart => true
  | .syntheticLineBoundary => true
  | .ringSourceTimeout => true
  | .cycleBuild n => n < 64
  | .tileFetch n _ => n < 64
  | .tileDecodeDone n _ => n < 64
  | .fillLate n => n < 64
  | .maskLoad n => n < 64
  | .maskLoadDone n _ => n < 64
  | .nozOvr code n noz => code < 4 && n < 64 && noz < 2 ^ 14
  | .segmentVote n errA errB => n < 64 && errA.length ≤ 520 && errB.length ≤ 520
  | .digestVote n errA errB => n < 64 && errA.length ≤ 32 && errB.length ≤ 32
  | .engineCheck n flagsA flagsB => n < 64 && flagsA < 16 && flagsB < 16
  | .engineWatchdog n e => n < 64 && e < 2
  | .serialiserSwitch n => n < 64
  | .failoverOverlapEnd => true
  | .engSwitch => true
  | .engResync => true
  | .engRepair => true
  | .resyncStart => true
  | .resyncPortCopy n => n < 64
  | .resyncCompare n errA errB => n < 64 && errA.length ≤ 32 && errB.length ≤ 32
  | .bistWindowStart => true
  | .bistWindowEnd _ => true
  | .autoRepair e => e < 2
  | .fireWWrite n k main => n < 64 && k < 4 && main < 8192
  | .temperatureSample n outcome _ => n < 64 && outcome < 2
  | .thmSlowdownRepeat => true
  | .warmingPulse n => n < 64
  | .hotRearm n => n < 64
  | .energyTableCommit slot args cnt tag => slot < 8 && args.length == 8 && args.all (· < 2 ^ 32) && cnt < 2 ^ 64 && tag < 2 ^ 128
  | .energyTableCopyDone _ => true
  | .trainingStart n => n < 64
  | .linkTrain n => n < 64
  | .linkCmdDown n => n < 64
  | .bckSweepStep n _ => n < 64
  | .laneSweepStep n => n < 64
  | .alignSendEnd n => n < 64
  | .trainStepTimeout n => n < 64
  | .trainingRetry n => n < 64
  | .linkReset n => n < 64
  | .latReport n tag refused => n < 64 && tag < 256 && refused < 65536
  | .frameBad n ordinal seg type row => n < 64 && ordinal < 65536 && seg < 256 && type < 16 && row < 16
  | .readData n tag value => n < 64 && tag < 256 && value < 2 ^ 32
  | .writeAck n tag _ => n < 64 && tag < 256
  | .headStatus n code => n < 64 && code < 256
  | .latErr n width => n < 64 && width < 256
  | .prbsResult n lane mism => n < 64 && lane < 4 && mism < 2 ^ 16
  | .aligned n _ => n < 64
  | .bckMessageDropped m => m.port < 64 && m.bytes.length == 7
  | .latReportTimeout n => n < 64
  | .bckSilence n => n < 64
  | .degradeInterval n => n < 64
  | .hregCmdGo n _ addr => n < 64 && addr < 65536
  | .ctrlTimeout n => n < 64
  | .scanCmdGo => true
  | .scanCmdStop => true
  | .scanStepDone c _ _ _ => c < 8
  | .scanStepRepeat c => c < 8
  | .soundingDecision n _ _ => n < 64
  | .healthWriteback => true
  | .wearFlush bad => bad.all (· < 2 ^ 27)
  | .sigLoad => true
  | .sigLoadDone _ => true
  | .illegalChange k _ => k < 4
  | .index k _ _ => k < 4
  | .wireFlag k line _ => k < 4 && line < 4
  | .wireFlagClear k line _ => k < 4 && line < 4
  | .preset k => k < 4
  | .armHome k => k < 4
  | .clrRef k => k < 4
  | .snap => true
  | .standstill k => k < 4
  | .sheetEdge k _ _ => k < 4
  | .outEnSet m => m < 2
  | .eoutStep m => m < 2
  | .blockLock l => l < 2
  | .syncHeaderLoss l => l < 2
  | .controlBlock l bytes crc => l < 2 && bytes.length == 7 && crc < 256
  | .controlBlockTimeout l => l < 2
  | .linkUpTimeout l => l < 2
  | .linkRetry l => l < 2
  | .idle c _ => cellWf c
  | .hello c _ => cellWf c
  | .delayExchangeTimer l => l < 2
  | .dlyReq c _ => cellWf c
  | .dlyResp c _ => cellWf c
  | .positionCellTimer => true
  | .position c _ => cellWf c
  | .timeCellTimer => true
  | .time c _ => cellWf c
  | .heartbeatTimer => true
  | .heartbeat c _ => cellWf c
  | .sheetEdgeCell c _ => cellWf c
  | .managerStart => true
  | .heartbeatLoss => true
  | .claim c _ => cellWf c
  | .claimWaitEnd => true
  | .takeover => true
  | .handover => true
  | .join c _ => cellWf c
  | .leave c _ => cellWf c
  | .statusTimer => true
  | .statusCell c _ => cellWf c
  | .memberTimeout a => a < 64
  | .censusWaitEnd => true
  | .slowdown c _ => cellWf c
  | .regRead c _ => cellWf c
  | .regWrite c _ => cellWf c
  | .bulkEnd c _ => cellWf c
  | .ack c _ => cellWf c
  | .commandAckTimeout => true
  | .rcmdGo _ dst => dst < 64
  | .bulkCmdGo dst => dst < 64
  | .bulk c _ => cellWf c
  | .faultCell c _ => cellWf c
  | .eventCell c _ => cellWf c
  | .basinRequest master cls addr len write data _ _ => master < 256 && cls < 6 && addr + len ≤ 0x800000000 && (write == false || data.length == len)
  | .correctedWriteback _ => true
  | .shallowsAccess master addr len write data _ => master < 256 && addr + len ≤ 0x2000000 && (write == false || data.length == len)
  | .throttleEngage => true
  | .throttleRelease => true
  | .c5DeadlineDrop => true
  | .basinScrubBurst errs => errs.all (· < 3)
  | .scrubLate => true
  | .shallowsScrubWord slice err => slice < 64 && err < 3
  | .telemetryRecord _ => true
  | .basinWipeDone => true
  | .shallowsWipeDone => true
  | .dmaStart n => n < 32
  | .dmaResume n => n < 32
  | .instructionFetch n _ _ _ => n < 32
  | .move n => n < 32
  | .burstDone n _ _ _ => n < 32
  | .loopBegin n => n < 32
  | .loopEnd n => n < 32
  | .wait n => n < 32
  | .waitRelease n => n < 32
  | .waitTimeout n => n < 32
  | .waitDelayEnd n => n < 32
  | .signal n => n < 32
  | .set n => n < 32
  | .nop n => n < 32
  | .halt n => n < 32
  | .killMap map => map < 2 ^ 32
  | .push k => k < 4
  | .compressorJobStart k => k < 4
  | .compressorJobEnd k _ _ _ => k < 4
  | .motStart a => a < 8
  | .motHome a => a < 8
  | .setPos a => a < 8
  | .motStop a => a < 8
  | .qstop a => a < 8
  | .stopAll => true
  | .plannerTick loads => loads.all (· < 1024)
  | .inPos a => a < 8
  | .holdCurrent a => a < 8
  | .pwmPeriod a phase _ => a < 8 && phase < 2
  | .limitEdge a lim _ _ => a < 8 && lim < 2
  | .limitTrip a lim => a < 8 && lim < 2
  | .spitGo => true
  | .spitCycle n => n < 64
  | .spitStop => true
  | .faultMessage => true
  | .ackSlot slot => slot < 64
  | .ackAll => true
  | .ackMemo => true
  | .quietExit => true
  | .safeIn => true
  | .rippleToggle => true
  | .kick => true
  | .kickMissed => true
  | .fltInternal => true
  | .faultReset key => key < 2 ^ 32
  | .inject source kind sev => source < 256 && kind < 256 && sev < 8
  | .polQuery source kind => source < 256 && kind < 256
  | .faultPolicyCommit slot args cnt tag => slot < 8 && args.length == 8 && args.all (· < 2 ^ 32) && cnt < 2 ^ 64 && tag < 2 ^ 128
  | .policyCopyDone _ => true
  | .lockClearPolicy slot args cnt tag => slot < 8 && args.length == 8 && args.all (· < 2 ^ 32) && cnt < 2 ^ 64 && tag < 2 ^ 128
  | .sedimentRecord => true
  | .freezeCountEnd => true
  | .freeze => true
  | .release => true
  | .dumpClear => true
  | .dumpEraseDone => true
  | .pfail => true
  | .dumpStart => true
  | .dumpPage _ => true
  | .dumpEnd => true
  | .pfailShed => true
  | .dieSample t => -32768 ≤ t && t < 32768
  | .calRun => true
  | .restore chan => chan < 16
  | .targetRunEnd t _ _ => t < 15
  | .spareTakeover => true
  | .spareHandback => true
  | .trimUser v => v < 65536
  | .lifecycleAdvance slot args cnt tag => slot < 8 && args.length == 8 && args.all (· < 2 ^ 32) && cnt < 2 ^ 64 && tag < 2 ^ 128
  | .keyLoad slot args cnt tag => slot < 8 && args.length == 8 && args.all (· < 2 ^ 32) && cnt < 2 ^ 64 && tag < 2 ^ 128
  | .keyRetire slot args cnt tag => slot < 8 && args.length == 8 && args.all (· < 2 ^ 32) && cnt < 2 ^ 64 && tag < 2 ^ 128
  | .headPowerArm slot args cnt tag => slot < 8 && args.length == 8 && args.all (· < 2 ^ 32) && cnt < 2 ^ 64 && tag < 2 ^ 128
  | .printArm slot args cnt tag => slot < 8 && args.length == 8 && args.all (· < 2 ^ 32) && cnt < 2 ^ 64 && tag < 2 ^ 128
  | .springCommit slot args cnt tag => slot < 8 && args.length == 8 && args.all (· < 2 ^ 32) && cnt < 2 ^ 64 && tag < 2 ^ 128
  | .wipeNow slot args cnt tag => slot < 8 && args.length == 8 && args.all (· < 2 ^ 32) && cnt < 2 ^ 64 && tag < 2 ^ 128
  | .lockoutEnd => true
  | .fuseProgramDone _ => true
  | .disarmHead => true
  | .disarmHeadComplete => true
  | .disarmPrint => true
  | .coldReset addr => addr < 64
  | .pinReset addr => addr < 64
  | .softwareReset key => key < 2 ^ 32
  | .refclkBad _ _ => true
  | .pllUnlock pll => pll < 5
  | .pllRelock pll => pll < 5
  | .dllUnlock => true
  | .dllRelock => true
  | .domOn mask => mask < 2 ^ 18
  | .domOff mask on => mask < 2 ^ 18 && on < 2 ^ 18
  | .domainOffDone dom => dom < 18
  | .domainOnDone dom => dom < 18
  | .supplyLow which => which < 8
  | .brownOutReset => true
  | .smbSetPtr offset _ => offset < 2 ^ 24
  | .smbRead _ => true
  | .smbWrite value _ => value < 2 ^ 32
  | .spifRead => true
  | .spifProgram => true
  | .spifErase => true
  | .spifDone _ _ => true
  | .safeInRelease => true
  | .pfailRelease => true
  | .refclkRecovered _ => true
  | .resetAsserted => true
  | .nonceReady _ _ => true
  | .frameShipped n => n < 64
  | .trainSettleEnd n => n < 64
  | .trimUpdateTick t => t < 15
  | .cellCrcError l => l < 2
  | .unknownCell type c _ => type < 256 && cellWf c
  | .eoutZEnd m => m < 2

end Sys2Proof
end

