-- ==== Sys2Proof/Tests/Slice0.lean ====
section
/-!
SUPPORT. Small tests: well-formedness refuses ill-formed commands, worked values of the manual, and for every statement
with hypotheses a state and operands that meet them.
-/
namespace Sys2Proof.Tests
open Sys2Proof Sys2Proof.Machine
set_option linter.unusedVariables false
set_option Elab.async false
set_option linter.unreachableTactic false
set_option linter.unusedTactic false
set_option linter.unusedSimpArgs false

/-- A state with some register fields set and the rest as after reset. -/
def st (l : List (Fld × Nat)) (f : Dev → Dev := id) : State :=
  { State.reset with dev := f (l.foldl (fun d x => d.set x.1 x.2) State.reset.dev) }
/-- The Spring script of one END entry, with its header and CRC (Tables 3.8, 3.9). -/
def scriptEnd : Bytes :=
  let body : Bytes := 0x0F :: List.replicate 15 0
  let head : Bytes := [0x53, 0x50, 0x52, 0x47, 1, 0, 0, 0] ++ leBytes 4 1 ++ leBytes 4 0
  head ++ leBytes 4 (crc32c (head ++ body)) ++ List.replicate 12 0 ++ body
/-- Frames of one segment each. -/
def testFrames (k : Nat) : List Bytes := List.replicate k (lineFrame 0 1 [1, 2])
/-- A built cycle of three segments, none voted. -/
def testCycle : Cycle :=
  { group := 0, lines := [], codes := [], frames := testFrames 3, shipped := 0, segs := 3, segsVoted := 0, digestVoted := false, failed := false,
    cand := none, waves := [], waits := false, rho := 0, conc := 0, cls := [], rots := [], map := [], changes := [], ver := 0,
    other := [], sum := [], otherSum := [], bufs := [], flags := [0, 0], resend := [] }
/-- A geometry of one row and one nozzle of index 3. -/
def testGeom : Geom :=
  { plane := 0, rows := 1, nozzles := 4, slots := 4, groupSize := 1, dotMode := 0, colBase := 0, stitchXw := 0, stitchDw := 0,
    rowOff := [0], noz := [(3, 0x10000)] }
/-- A register read in flight over the ring. -/
def testCmd : RingCmd :=
  { tag := 7, dest := 5, cell := [0, 0, 0, 0, 0, 0, 0, 0, 2], path := 0, due := 0, again := false, bulk := false, read := true }
/-- A job descriptor of one line whose directory stands at Basin address 64 (Table 4.6). -/
def testDesc : Bytes :=
  leBytes 4 0x80000000 ++ leBytes 4 7 ++ leBytes 8 0 ++ leBytes 4 1 ++ leBytes 4 0 ++ leBytes 2 1 ++ [0, 0] ++ leBytes 4 0 ++
  leBytes 8 64 ++ List.replicate 24 0
/-- Its tile directory header (Table 4.7). -/
def testDir : Bytes :=
  let h := leBytes 4 0x52494454 ++ [1, 1] ++ leBytes 2 1 ++ [0, 1, 0, 0] ++ leBytes 4 1 ++ leBytes 4 1 ++ List.replicate 40 0
  h ++ leBytes 4 (crc32c h)
/-- An active job of plane 0, taken as number 0, that prints on port 2 from position 0. -/
def testJob : Job := { mkJob 0 0 testDesc (parseDir testDir) [2] with s0 := some 0, active := true }
/-- Plane 0 prints the test job on port 2, which has the test geometry and phase group. -/
def jobbed (p : PortFire) (d : Dev) : Dev :=
  ({ d with prt := { d.prt with geom := [(2, some testGeom)], planes := [(0, { Plane.init with jobs := [testJob] })] } }).setPort 2
    { p with groups := [[(0, 0)]] }
/-- A cycle of the test job's first line. -/
def lineCycle : Cycle := { testCycle with lines := [{ row := 0, job := 0, line := 0 }], frames := [], segs := 0 }
/-- A slice of one band of one line buffer. -/
def testLayout : Layout := { cLo := 0, width := 2048, bands := [[0]], slots := 2, span := 1 }
/-- A tile row to fetch: column 0, whose block of 33 bytes stands at Basin address 32. -/
def testFetch : Prefetch := { band := 0, slot := 0, job := 0, tr := 0, cols := [(0, 33 * 2 ^ 46 + 2)], line := 0, late := false }
/-- A slice with one tile row to fetch. -/
def testPipe : Pipe := { Pipe.init with layout := some testLayout, lane := { Pipe.init.lane with list := [testFetch] } }
/-- A raw block of one tile of zeros (Table 15.1). -/
def testBlock : Bytes := [0xB7, 1, 1, 0] ++ leBytes 4 32768 ++ leBytes 4 32768 ++ List.replicate 32772 0

def WJ0 : State := st [(Reg.HDR.ENABLE 0x102, 1), (Reg.HDR.STATE 0x102, 2), (Reg.HPT.LINK_STAT.STATE 2, 6), (Reg.SYS.MODE_STAT.MODE, 2), (Reg.SYS.BRINGUP.BASIN_READY, 1), (Reg.HDR.STATE (pg .BAS 0), 2), (Reg.PRT.Q_CTRL.ENABLE 0, 1), (Reg.SYS.BRINGUP.PRINT_ARMED, 1), (Reg.SYS.BRINGUP.HEAD_POWER_ARMED, 1), (Reg.PRT.Q_TAIL.INDEX 0, 1), (Reg.PRT.GEOM_OK.OK, 4)] fun d => { (jobbed PortFire.init d) with basin := memWrite 0 0 (testDesc ++ testDir) [], prt := { (jobbed PortFire.init d).prt with planes := [] } }
def WJ1 : Dev := WJ0.dev.basinLoad 1 0xFF 0 64 0
def WJ2 : Dev := WJ1.basinLoad 1 0xFF 64 64 0
def WJ3 : Job × Dev := startPos 0 [] (mkJob WJ2.prt.jobSeq 0 testDesc (parseDir testDir) (WJ1.portsOf 0)) { WJ2 with prt := { WJ2.prt with jobSeq := WJ2.prt.jobSeq + 1 } }
def WLAT : State := st [(Reg.HDR.ENABLE 0x102, 1), (Reg.HDR.STATE 0x102, 2), (Reg.HPT.LINK_STAT.STATE 2, 6), (Reg.SYS.MODE_STAT.MODE, 2), (Reg.SYS.BRINGUP.BASIN_READY, 1), (Reg.HDR.STATE (pg .BAS 0), 2), (Reg.PRT.Q_CTRL.ENABLE 0, 1), (Reg.SYS.BRINGUP.PRINT_ARMED, 1), (Reg.SYS.BRINGUP.HEAD_POWER_ARMED, 1)] (fun d => (jobbed { PortFire.init with built := some { lineCycle with digestVoted := true }, sched := some 5, issued := true } d).setHeat 2 { ThmPort.init with valid := 2 } |>.setPipe 2 testPipe)
def WSPIT : State := st [(Reg.HDR.ENABLE 0x102, 1), (Reg.HDR.STATE 0x102, 2), (Reg.HPT.LINK_STAT.STATE 2, 6), (Reg.SYS.MODE_STAT.MODE, 2), (Reg.SYS.BRINGUP.BASIN_READY, 1), (Reg.HDR.STATE (pg .BAS 0), 2), (Reg.PRT.Q_CTRL.ENABLE 0, 1), (Reg.SYS.BRINGUP.PRINT_ARMED, 1), (Reg.SYS.BRINGUP.HEAD_POWER_ARMED, 1)] (fun d => (jobbed { PortFire.init with built := some { testCycle with segs := 0, frames := [], group := spitGroup, digestVoted := true } } d).setHeat 2 { ThmPort.init with valid := 2 })
def testFiring (k : Nat) : Firing := { lines := [], group := 16, codes := [], t0 := 0, tSlot := 1000, subs := 1, slots := 2, at_ := k, waves := [], refused := [], cand := none }
def WSM (k : Nat) : State := st [(Reg.HDR.ENABLE 0x102, 1), (Reg.HDR.STATE 0x102, 2), (Reg.HPT.LINK_STAT.STATE 2, 6), (Reg.SYS.MODE_STAT.MODE, 2), (Reg.SYS.BRINGUP.BASIN_READY, 1), (Reg.HDR.STATE (pg .BAS 0), 2), (Reg.PRT.Q_CTRL.ENABLE 0, 1), (Reg.SYS.BRINGUP.PRINT_ARMED, 1), (Reg.SYS.BRINGUP.HEAD_POWER_ARMED, 1)] (fun d => d.setPort 2 { PortFire.init with firing := some (testFiring k) })
def WD1 (k : Nat) : Dev := ((WSM k).dev.advanceTo (clamp 240 320 ((WSM k).dev.get (Reg.HPT.LAT_FIRE.STEPS 2)) + k * 1000 - 320)).mark 2 1
def WD2 (k : Nat) : Dev := wearMark 2 (k / 2) (k % 2) (firePulses 2 [] (WD1 k))
def WSKIP : State := st [(Reg.HDR.ENABLE 0x102, 1), (Reg.HDR.STATE 0x102, 2), (Reg.HPT.LINK_STAT.STATE 2, 6), (Reg.SYS.MODE_STAT.MODE, 2), (Reg.SYS.BRINGUP.BASIN_READY, 1), (Reg.HDR.STATE (pg .BAS 0), 2), (Reg.PRT.Q_CTRL.ENABLE 0, 1), (Reg.SYS.BRINGUP.PRINT_ARMED, 1), (Reg.SYS.BRINGUP.HEAD_POWER_ARMED, 1)] (fun d => let d := jobbed { PortFire.init with built := some lineCycle } d; { d with prt := { d.prt with planes := [(0, { Plane.init with jobs := [{ testJob with phiAct := some 100000000 }] })] } })
def WBUILD : State := st [(Reg.HDR.ENABLE 0x102, 1), (Reg.HDR.STATE 0x102, 2), (Reg.HPT.LINK_STAT.STATE 2, 6), (Reg.SYS.MODE_STAT.MODE, 2), (Reg.SYS.BRINGUP.BASIN_READY, 1), (Reg.HDR.STATE (pg .BAS 0), 2), (Reg.PRT.Q_CTRL.ENABLE 0, 1), (Reg.SYS.BRINGUP.PRINT_ARMED, 1), (Reg.SYS.BRINGUP.HEAD_POWER_ARMED, 1)] (fun d => (jobbed PortFire.init d).setHeat 2 { ThmPort.init with valid := 2 } |>.setPipe 2 testPipe)
def WTF (e : Nat) (f : Option (Prefetch × Bytes)) : State := st [(Reg.HDR.ENABLE 0x102, 1), (Reg.HDR.STATE 0x102, 2), (Reg.HPT.LINK_STAT.STATE 2, 6), (Reg.SYS.MODE_STAT.MODE, 2), (Reg.SYS.BRINGUP.BASIN_READY, 1), (Reg.HDR.STATE (pg .BAS 0), 2), (Reg.PRT.Q_CTRL.ENABLE 0, 1), (Reg.SYS.BRINGUP.PRINT_ARMED, 1), (Reg.SYS.BRINGUP.HEAD_POWER_ARMED, 1)] (fun d => jobbed PortFire.init (d.setPipe 2 { testPipe with lane := { testPipe.lane with list := [{ testFetch with cols := [(0, e)] }], fetched := f } }))
def WTD : State := st [(Reg.HDR.ENABLE 0x102, 1), (Reg.HDR.STATE 0x102, 2), (Reg.HPT.LINK_STAT.STATE 2, 6), (Reg.SYS.MODE_STAT.MODE, 2), (Reg.SYS.BRINGUP.BASIN_READY, 1), (Reg.HDR.STATE (pg .BAS 0), 2), (Reg.PRT.Q_CTRL.ENABLE 0, 1), (Reg.SYS.BRINGUP.PRINT_ARMED, 1), (Reg.SYS.BRINGUP.HEAD_POWER_ARMED, 1), (Reg.DCM.CFG.CRC_CHECK 2, 0)] (fun d => d.setPipe 2 { testPipe with lane := { testPipe.lane with list := [{ testFetch with cols := [(0, 32784 * 2 ^ 46 + 2)] }], fetched := some ({ testFetch with cols := [(0, 32784 * 2 ^ 46 + 2)] }, testBlock) } })
def WFL : State := st [(Reg.HDR.ENABLE 0x102, 1), (Reg.HDR.STATE 0x102, 2), (Reg.HPT.LINK_STAT.STATE 2, 6), (Reg.SYS.MODE_STAT.MODE, 2), (Reg.SYS.BRINGUP.BASIN_READY, 1), (Reg.HDR.STATE (pg .BAS 0), 2), (Reg.PRT.Q_CTRL.ENABLE 0, 1), (Reg.SYS.BRINGUP.PRINT_ARMED, 1), (Reg.SYS.BRINGUP.HEAD_POWER_ARMED, 1)] (fun d => { jobbed PortFire.init (d.setPipe 2 testPipe) with trg := { d.trg with vok := true, need := 0, v := 65536, sigma := 1, pe := 100000 * 65536 } })
def testMask : MaskBuf := { job := 0, mask := none, ready := false }
def WML : State := st [(Reg.HDR.ENABLE 0x102, 1), (Reg.HDR.STATE 0x102, 2), (Reg.HPT.LINK_STAT.STATE 2, 6), (Reg.SYS.MODE_STAT.MODE, 2), (Reg.SYS.BRINGUP.BASIN_READY, 1), (Reg.HDR.STATE (pg .BAS 0), 2), (Reg.PRT.Q_CTRL.ENABLE 0, 1), (Reg.SYS.BRINGUP.PRINT_ARMED, 1), (Reg.SYS.BRINGUP.HEAD_POWER_ARMED, 1)] (fun d => { (jobbed PortFire.init d).setPipe 2 { testPipe with slice := { testPipe.slice with masks := [testMask] } } with basin := memWrite 0 0 ([0x50, 0x4D, 0x53, 0x4B, 1]) [] })

def WTEL : State := st [(Reg.SYS.BRINGUP.BASIN_READY, 1), (Reg.HDR.STATE (pg .BAS 0), 2), (Reg.HDR.STATE (pg .SHL 0), 2), (Reg.HDR.STATE (pg .TRN 0), 2), (Reg.TRN.TASK_EN.TELEM, 1), (Reg.TRN.TELEM_BASE.SPACE, 1)]

def testMove : DmaMove := { srcSp := 0, dstSp := 1, src := 128, dst := 64, len := 4, at_ := 0 }
/-- A stream of four bytes at Basin address 0 (Table 15.6). -/
def testEntry : Bytes := [2, 0, 0, 0] ++ leBytes 4 77 ++ leBytes 8 0 ++ leBytes 8 4096 ++ leBytes 4 4 ++ leBytes 4 4096 ++ leBytes 4 1024 ++ List.replicate 28 0
def WBD : State := st [(Reg.HDR.STATE (pg .DMA 2), 2), (Reg.HDR.ENABLE (pg .DMA 2), 1), (Reg.HDR.STATE (pg .DMAC 0), 2), (Reg.HDR.STATE (pg .BAS 0), 2), (Reg.SYS.BRINGUP.BASIN_READY, 1), (Reg.HDR.STATE (pg .SHL 0), 2)] fun d => d.setDma 2 { DmaChan.init with cur := some 0, move := some testMove }
def WSET : State := st [(Reg.HDR.STATE (pg .DMA 2), 2), (Reg.HDR.ENABLE (pg .DMA 2), 1), (Reg.HDR.STATE (pg .DMAC 0), 2)] fun d => d.setDma 2 { DmaChan.init with cur := some (0x40 * 2 ^ 120 + 0x141044 * 2 ^ 96 + 0xFFFFFFFF * 2 ^ 32 + 9) }

def WSPC : State := st [(Reg.HDR.STATE (pg .MOTC 0), 2), (Reg.HDR.ENABLE (pg .MOTC 0), 1), (Reg.HPT.LINK_STAT.STATE 2, 6), (Reg.SYS.BRINGUP.HEAD_POWER_ARMED, 1), (Reg.SYS.MODE_STAT.MODE, 1)] fun d => { (jobbed PortFire.init d).setHeat 2 { ThmPort.init with valid := 2 } with motc := { d.motc with spits := [(2, (3, 5))] } }

def WMSG : FaultMsg := mkMsg 0 0 0 (0, 0) {} false
def WSLOT (v : Nat) : Slot := { source := 22, kind := 1, sev := v, base := v, count := 1, ts := 0 }
def WSL (v : Nat) : State := st [] fun d => { d with flt := { d.flt with slots := [(5, WSLOT v), (6, WSLOT 4)] } }
def WKICK : State := st [(Reg.FLT.RIPPLE.KICK_EN, 1)] (·.arm .kick 9)
def WQ : State := st [(Reg.FLT.QUIET.MS, 10), (Reg.FLT.QUIET.RECOV_MAX, 0)] fun d => { d with flt := { d.flt with slots := [(5, WSLOT 4)] } }
def WREC : SedRec := { ts := 1, source := 22, kind := 1, severity := 3, master := 0, mode := 0, flags := 0, line := 0, arg := 0, port := 0 }
def WDUMP : Dump := { reason := 1, ts := 3, blocks := [], header := [], started := false, bytes := [], at_ := 0, ends := [] }

def key0 : Bytes := List.replicate 16 7
def WSEC : State := { State.reset with
  fuse := { State.reset.fuse with p := true, slots := [(0, { key := key0, mask := 0xFFFF, state := .active, crcOk := true }), (1, { key := key0, mask := 0, state := .active, crcOk := true })] }
  dev := { State.reset.dev with sec := { State.reset.dev.sec with rng := some true } } }
def WMAIL : Mail := { opcode := 8, slot := 0, args := [3], cnt := 1, tag := 0 }
def WFUS : State := { WSEC with dev := { WSEC.dev with sec := { WSEC.dev.sec with cmd := some WMAIL } } }
def WCOP : State := st [] fun d => { d with thm := { d.thm with copying := some (64, 5) }, sec := { d.sec with cmd := some WMAIL } }
def WTAB0 : Bytes := [0x45, 0x54, 0x42, 0x4C, 1, 0, 0, 0] ++ List.replicate 52 0
def WCRC : Nat := crc32c (WTAB0 ++ List.replicate 4096 0)
def tab (h : Bytes) : Bytes := h ++ leBytes 4 (crc32c (h ++ List.replicate 4096 0)) ++ List.replicate 4096 0
def WTAB : Bytes := tab WTAB0
def WETB : State := st [(Reg.SYS.BRINGUP.BASIN_READY, 1)] fun d => { d.setBlk (pg .BAS 0) 2 with basin := memWrite 0 0 (WTAB.take 64) [], thm := { d.thm with copying := some (0, WCRC) }, sec := { d.sec with cmd := some WMAIL } }
def WP0 : Bytes := [0x46, 0x50, 0x4F, 0x4C, 1, 0, 1, 0, 0, 0, 0, 0]
def WPE : Bytes := [22, 1, 0x52, 0]
def WPCRC : Nat := crc32c (WP0 ++ WPE)
def WPTAB : Bytes := WP0 ++ leBytes 4 WPCRC ++ WPE
def WPOL : State := st [(Reg.SYS.BRINGUP.BASIN_READY, 1)] fun d => { d.setBlk (pg .BAS 0) 2 with basin := memWrite 0 0 WPTAB [], flt := { d.flt with copying := some (0, 20, WPCRC) }, sec := { d.sec with cmd := some WMAIL } }
def WPOL5 : State := { WPOL with dev := { WPOL.dev with flt := { WPOL.dev.flt with copying := some (0, 20, 5) } } }

def WCAL (t : Nat) : State := st [(Reg.CAL.STAT.BUSY, 1)] fun d => { d with cal := { d.cal with cur := some t, set := 2 ^ t } }
def WDOM : State := st ([(Reg.PWR.DOM_BUSY.BUSY, 8), (Reg.PWR.DOM_STAT.ON, 8)] ++ (domainBlocks 3).map fun t => (Reg.HDR.STATE (pg t.1 t.2), 0)) fun d => { d with pwr := { d.pwr with goingOff := [3] } }
def WCYC : Cycle := { testCycle with frames := [[1, 2]], segsVoted := 9 }

def WRES : State := st [] fun d => { d with sys := { d.sys with inReset := true } }

def WSP (op : Bytes) (w : Nat) : State := st [(Reg.SYS.SPRING_STAT.STATE, 1)] fun d => { d with sys := { d.sys with spring := { script := List.replicate 32 0 ++ op ++ List.replicate 32 0, entry := 0, waiting := w } } }
def WSPM : State := WSP [0x02, 0, 0, 0, 0, 0x14, 0, 0, 5, 0, 0, 0, 7, 0, 0, 0] 0
def WSPP : State := WSP [0x03, 0, 5, 0, 0, 0x14, 0, 0, 4, 0, 0, 0, 0x0F, 0, 0, 0] 1
def WSPQ : State := WSP [0x03, 0, 5, 0, 0, 0x14, 0, 0, 5, 0, 0, 0, 0x0F, 0, 0, 0] 1

def WRC : State := st [(Reg.ENGX.STAT.ESTATE 1, 2)] fun d => d.setEngine 1 { Engine.init with copied := [(2, 0)] }
def WRD : State := st [(Reg.ENGX.STAT.ESTATE 1, 2)] fun d => d.setEngine 1 { Engine.init with copied := [(2, 0)], shadowed := (List.range 64).filter (· != 2) }
def WRE : State := st [(Reg.ENGX.STAT.ESTATE 1, 2)] fun d => (d.setEngine 1 { Engine.init with copied := [(2, 0)] }).setPort 2 { PortFire.init with cycles := 5 }

def WTS : State := st [(Reg.HPT.LINK_STAT.STATE 2, 6), (Reg.HDR.STATE (pg .THM 0), 2)]
def WTS0 : Dev := takeSample 2 ((WTS.dev.advanceTo ((WTS.dev.due (.temp 2)).getD WTS.dev.time.up)).arm (.temp 2) (100 * us))

def WWP : State := st [(Reg.HPT.LINK_STAT.STATE 2, 6), (Reg.HDR.STATE (pg .THM 0), 2), (Reg.HDR.ENABLE (pg .THM 0), 1), (Reg.SYS.BRINGUP.HEAD_POWER_ARMED, 1), (Reg.HDR.STATE (pg .HPT 2), 2), (Reg.HDR.ENABLE (pg .HPT 2), 1)] fun d => d.setHeat 2 { ThmPort.init with warm := [40] }

def WLB : State := st [(Reg.HDR.STATE 0x102, 2)] fun d => d.setPort 2 { PortFire.init with firing := some { lines := [], group := 0, codes := [], t0 := 0, tSlot := 1, subs := 1, slots := 4, at_ := 0, waves := [], refused := [], cand := none } }

def WLRl : Latched := { tag := 3, lines := [], rows := [0, 1], time := 0, fire := none }
def WLR : State := st [] fun d => (d.setHead 2 { Head.init with lats := [WLRl] })
def WLR7 : State := st [] fun d => (d.setHead 2 { Head.init with lats := [WLRl], missed := 2 }).arm (.latReport 2) 7
def WFBD : State := st [(Reg.HPT.LINK_CFG.RESEND_EN 2, 1)] fun d => (d.setHead 2 { Head.init with sent := [(1, 5, 1)] }).setPort 2 { PortFire.init with built := some { testCycle with shipped := 2 } }

def WSND : State := st [] fun d => d.setHealth 2 { SndPort.init with windows := [{ noz := 3, line := 0, cls := 0, heater := 0, tc := 0, asked := 0 }] }

def WSNS : State := st [] fun d => ({ d with cal := { d.cal with cur := some 0, b7 := false } }).setHealth 2 { SndPort.init with windows := [{ noz := 3, line := 0, cls := 0, heater := 0, tc := 0, asked := 0 }] }
def WWEAR : State := st [(Reg.HDR.STATE (pg .BAS 0), 2), (Reg.SYS.BRINGUP.BASIN_READY, 1), (Reg.HDR.STATE (pg .TRN 0), 2), (Reg.TRN.TASK_EN.WEAR, 1)] fun d => d.setHealth 0 { SndPort.init with wear := [(3, 5)] }
def WSC (g : Geom) (h : Nat) (q : SndPort) (r : Nat) : State := st [(Reg.SND.SCAN_CFG.I_HI, 200), (Reg.SND.SCAN_CFG.I_LO, 100)] fun d => (({ d.setChan 0 { Chan.init with step := some (2, 3, h), repeats := r, ended := false } with prt := { d.prt with geom := [(2, some g)] } }).setHealth 2 q).arm (.scan 0) 7
def WSCD : State :=
  let s := WSC { testGeom with dotMode := 1 } 0 { SndPort.init with scan := [(3, 0), (3, 1)] } 0
  { s with dev := (((s.dev.set Reg.PRT.GEOM_OK.OK 4).set (Reg.HPT.LINK_STAT.STATE 2) 6).put Reg.SYS.BRINGUP.HEAD_POWER_ARMED true).setHeat 2 { ThmPort.init with temp := some 400 } }
def WSCE : State := WSC { testGeom with dotMode := 1 } 1 { SndPort.init with half := some (2, 2) } 0
def WSCF : State := WSC testGeom 0 { SndPort.init with noz := [(3, { Noz.init with state := 3, cause := 3 })] } 0
def WSCG : State := WSC testGeom 0 { SndPort.init with scan := [(3, 0)] } 4

def WCAT : State := st [] fun d => { d with emr := { d.emr with cmds := [{ testCmd with again := true }] } }

def WJ0q : State := { WJ0 with dev := { WJ0.dev with prt := { WJ0.dev.prt with planes := [(0, { Plane.init with jobs := [{ testJob with seq := 9, idx := 3 }] })] } } }
def WJ0r : State := { WJ0q with dev := { WJ0q.dev with basin := memWrite 0 0 testDesc [] } }
def WSKP2 : State := st [(Reg.HDR.ENABLE 0x102, 1), (Reg.HDR.STATE 0x102, 2), (Reg.HPT.LINK_STAT.STATE 2, 6), (Reg.SYS.MODE_STAT.MODE, 2), (Reg.SYS.BRINGUP.BASIN_READY, 1), (Reg.HDR.STATE (pg .BAS 0), 2), (Reg.PRT.Q_CTRL.ENABLE 0, 1), (Reg.SYS.BRINGUP.PRINT_ARMED, 1), (Reg.SYS.BRINGUP.HEAD_POWER_ARMED, 1), (Reg.PRT.Q_CTRL.HOLD 0, 1)] (fun d => jobbed { PortFire.init with built := some lineCycle } { d with trg := { d.trg with sigma := 1, pe := 1000 * 65536 } })
def WSKP3 (w : Bool) : State := st [(Reg.HDR.ENABLE 0x102, 1), (Reg.HDR.STATE 0x102, 2), (Reg.HPT.LINK_STAT.STATE 2, 6), (Reg.SYS.MODE_STAT.MODE, 2), (Reg.SYS.BRINGUP.BASIN_READY, 1), (Reg.HDR.STATE (pg .BAS 0), 2), (Reg.PRT.Q_CTRL.ENABLE 0, 1), (Reg.SYS.BRINGUP.PRINT_ARMED, 1), (Reg.SYS.BRINGUP.HEAD_POWER_ARMED, 1)] (fun d => (jobbed { PortFire.init with built := some { lineCycle with failed := w, waits := !w }, sched := some 5, issued := true } { d with trg := { d.trg with sigma := 1, pe := 1000 * 65536 } }).setHeat 2 { ThmPort.init with valid := 2 } |>.setPipe 2 testPipe)
def WK1 : Dev := (WSKP3 false).dev.advanceTo 5
def WK2 : Dev := if WK1.windowFull lineCycle.lines = true then (WK1.raise 0 Kind.TRG.OVERSPEED { port := 2 }).raise 0 Kind.PRT.JOB_WINDOW { port := 2 } else WK1.raise 0 Kind.TRG.OVERSPEED { port := 2 }
def WK3 : Dev := if WK1.notReady 2 = true ∧ (WK1.hasIdleJob lineCycle.lines = false ∨ WK1.windowOpen lineCycle.lines = true) then (pipeCount 2 6 1 WK2).raise 0 Kind.MSK.LINE_NOT_READY { port := 2 } else WK2
def WTFE : State := st [(Reg.HDR.ENABLE 0x102, 1), (Reg.HDR.STATE 0x102, 2), (Reg.HPT.LINK_STAT.STATE 2, 6), (Reg.SYS.MODE_STAT.MODE, 2), (Reg.SYS.BRINGUP.BASIN_READY, 1), (Reg.HDR.STATE (pg .BAS 0), 2), (Reg.PRT.Q_CTRL.ENABLE 0, 1), (Reg.SYS.BRINGUP.PRINT_ARMED, 1), (Reg.SYS.BRINGUP.HEAD_POWER_ARMED, 1)] (fun d => jobbed PortFire.init (d.setPipe 2 { testPipe with lane := { testPipe.lane with list := [{ testFetch with cols := [] }] } }))
def WTDB : State := st [(Reg.HDR.ENABLE 0x102, 1), (Reg.HDR.STATE 0x102, 2), (Reg.HPT.LINK_STAT.STATE 2, 6), (Reg.SYS.MODE_STAT.MODE, 2), (Reg.SYS.BRINGUP.BASIN_READY, 1), (Reg.HDR.STATE (pg .BAS 0), 2), (Reg.PRT.Q_CTRL.ENABLE 0, 1), (Reg.SYS.BRINGUP.PRINT_ARMED, 1), (Reg.SYS.BRINGUP.HEAD_POWER_ARMED, 1)] (fun d => jobbed PortFire.init (d.setPipe 2 { testPipe with lane := { testPipe.lane with fetched := some (testFetch, []) } }))
def MHB : Bytes := ([0x50, 0x4D, 0x53, 0x4B, 1, 0, 0, 0, 4] ++ List.replicate 63 0) ++ leBytes 4 (crc32c (List.replicate 8192 0))
def WMLC : State := st [(Reg.HDR.ENABLE 0x102, 1), (Reg.HDR.STATE 0x102, 2), (Reg.HPT.LINK_STAT.STATE 2, 6), (Reg.SYS.MODE_STAT.MODE, 2), (Reg.SYS.BRINGUP.BASIN_READY, 1), (Reg.HDR.STATE (pg .BAS 0), 2), (Reg.PRT.Q_CTRL.ENABLE 0, 1), (Reg.SYS.BRINGUP.PRINT_ARMED, 1), (Reg.SYS.BRINGUP.HEAD_POWER_ARMED, 1)] (fun d => { (jobbed PortFire.init d).setPipe 2 { testPipe with slice := { testPipe.slice with masks := [testMask] } } with basin := memWrite 0 0 MHB [] })
def WMLZ : State := { WML with dev := { WML.dev with basin := [] } }

def WSB (a : Nat) : State := st [(Reg.SYS.BRINGUP.BASIN_READY, 1), (Reg.HDR.STATE (pg .BAS 0), 2), (Reg.HDR.STATE (pg .SHL 0), 2), (Reg.HDR.STATE (pg .TRN 0), 2), (Reg.TRN.TASK_EN.BSCRUB, 1)] fun d => { d with mem := { d.mem with scrubAt := a } }
def WSB1 (a : Nat) (e : List Nat) : Dev := let d := ((List.range 8).foldl (fun d i => strike (nth 0 e i) (a + 32 * i) d) (WSB a).dev).served 4 256; (d.badSectors a 256).foldl (ueFound 0xFF 1) d

def WSW (l : List (Nat × Nat)) : State := st [(Reg.SYS.BRINGUP.BASIN_READY, 1), (Reg.HDR.STATE (pg .BAS 0), 2), (Reg.HDR.STATE (pg .SHL 0), 2), (Reg.HDR.STATE (pg .TRN 0), 2), (Reg.TRN.TASK_EN.SSCRUB, 1)] fun d => { d with mem := { d.mem with sAt := l } }

def WTELB (f : List (Fld × Nat)) : State := st ([(Reg.SYS.BRINGUP.BASIN_READY, 1), (Reg.HDR.STATE (pg .BAS 0), 2), (Reg.HDR.STATE (pg .SHL 0), 2), (Reg.HDR.STATE (pg .TRN 0), 2), (Reg.TRN.TASK_EN.TELEM, 1)] ++ f)
def WTB1 (f : List (Fld × Nat)) : Dev := ((WTELB f).dev.advanceTo 0).arm .telem (max 1 ((WTELB f).dev.get Reg.TRN.TELEM_CFG.PERIOD_MS) * ms)

def WBDX : State := { WBD with dev := WBD.dev.set Reg.SYS.BRINGUP.BASIN_READY 0 }
def WBDL : State := { WBD with dev := WBD.dev.set Reg.SYS.BRINGUP.PRINT_ARMED 1 |>.set Reg.SYS.MODE_STAT.MODE 2 }
def WSETM : State := st [(Reg.HDR.STATE (pg .DMA 2), 2), (Reg.HDR.ENABLE (pg .DMA 2), 1), (Reg.HDR.STATE (pg .DMAC 0), 2)] fun d => d.setDma 2 { DmaChan.init with cur := some (0x40 * 2 ^ 120 + 0x141044 * 2 ^ 96 + 0xFF * 2 ^ 32 + 9) }

def WCJ : State := st [(Reg.HDR.STATE (pg .CMP 1), 2), (Reg.HDR.ENABLE (pg .CMP 1), 1), (Reg.HDR.STATE (pg .BAS 0), 2), (Reg.SYS.BRINGUP.BASIN_READY, 1)] fun d => d.setCmp 1 { CmpEng.init with job := some testEntry }
def WCJ0 (l : Nat) : Dev := (delayed (cmpMaster 1) l WCJ.dev).bump (Reg.CMP.DLY_CYC.COUNT 1) l

def WLM : State := st [(Reg.HDR.STATE (pg .MOT 2), 2), (Reg.HDR.ENABLE (pg .MOT 2), 1), (Reg.HDR.STATE (pg .MOTC 0), 2), (Reg.MOT.DEBOUNCE.US 2, 10)] fun d => (d.setAxis 2 Axis.init)
def WLMX : Axis := let x := WLM.dev.axis 2; { x with raw := setNth true x.raw 1, edges := setNth 1 x.edges 1, winEnd := setNth (10 * us) x.winEnd 1 }
def WLM1 : Dev := (({ WLM.dev with axes := tset Axis.init 2 WLMX WLM.dev.axes } : Dev).set (Reg.MOT.LATCH_POS.POS 2) 0).set (Reg.MOT.LATCH_SRC.SRC 2) 1

def WPW : State := st [(Reg.HDR.STATE (pg .MOT 2), 2), (Reg.HDR.ENABLE (pg .MOT 2), 1), (Reg.HDR.STATE (pg .MOTC 0), 2), (Reg.MOT.STAT.OFF 2, 0), (Reg.MOT.SENSE_CFG.FS_MA 2, 4000), (Reg.MOT.SENSE_CFG.OC_LIM 2, 4001)] fun d => (d.setAxis 2 { Axis.init with phase := .move, vel := 5000, tgt := 100000000 })
def WPWL : Bool := decide (WPW.dev.get (Reg.MOT.CURRENT.I_RUN 2) ≤ 4 * (WPW.dev.setPoint 2 0).natAbs) &&
  decide (8 * ((max 0 ((4000 : Int) + WPW.dev.trim 13 4)) * 4000 / 4095) < (WPW.dev.setPoint 2 0).natAbs)
def WPWQ : Nat := if WPWL = true then nth 0 (WPW.dev.axis 2).opens 0 + 1 else 0

def WSPG (p : Nat) : State := st [(Reg.HDR.STATE (pg .MOTC 0), 2), (Reg.HDR.ENABLE (pg .MOTC 0), 1), (Reg.HPT.LINK_STAT.STATE 2, 6), (Reg.SYS.BRINGUP.HEAD_POWER_ARMED, 1), (Reg.SYS.MODE_STAT.MODE, 1), (Reg.MOTC.SPIT_PORTS.PORTS, p)] fun d => (jobbed PortFire.init d).setHeat 2 { ThmPort.init with valid := 2 }
def WSPCH : State := st [(Reg.HDR.STATE (pg .MOTC 0), 2), (Reg.HDR.ENABLE (pg .MOTC 0), 1), (Reg.HPT.LINK_STAT.STATE 2, 6), (Reg.SYS.BRINGUP.HEAD_POWER_ARMED, 1), (Reg.SYS.MODE_STAT.MODE, 1)] fun d => { (jobbed PortFire.init d) with motc := { d.motc with spits := [(2, (3, 5))] } }

def WSR : State := st [] fun d => { d with sed := { d.sed with fifo := [WREC] } }
def WDE : State := st [] fun d => { d with sed := { d.sed with dump := some { WDUMP with started := true } } }

def WSECF : State := { WSEC with dev := WSEC.dev.set Reg.SYS.MODE_STAT.MODE 2 }

def WDOM2 : State := { st ([(Reg.PWR.DOM_BUSY.BUSY, 2048), (Reg.PWR.DOM_STAT.ON, 2048), (Reg.SYS.BRINGUP.HEAD_POWER_ARMED, 1)] ++ (domainBlocks 11).map fun t => (Reg.HDR.STATE (pg t.1 t.2), 0)) fun d => { d with pwr := { d.pwr with goingOff := [11] }, sec := { d.sec with hpwr := 2 } } with pending := [] }
def WDOM0 : Dev := ((WDOM2.dev.clrBit Reg.PWR.DOM_STAT.ON 11).clrBit Reg.PWR.DOM_BUSY.BUSY 11).disarm (.domainWait 11)
def WDOM1 : Dev := { WDOM0 with pwr := { WDOM0.pwr with goingOff := [] } }

def WSH (c : Cycle) (b : List Nat) : State := st [(Reg.HPT.LINK_STAT.STATE 2, 6)] fun d => (d.setPort 2 { PortFire.init with built := some c }).setHead 2 { d.head 2 with blanks := b }
def WSHB : Dev := let d := (WSH WCYC [1]).dev.ship 2 (lineFrame 1 0 []) 0x200; d.setHead 2 { d.head 2 with blanks := [] }

def WHLT : State := st [(Reg.SYS.MODE_STAT.MODE, 2), (Reg.SYS.MODE_STAT.HALT, 1)]
def WHL0 : State := st [(Reg.SYS.MODE_STAT.MODE, 0), (Reg.SYS.MODE_STAT.HALT, 1)]
def WM2 : State := st [(Reg.SYS.MODE_STAT.MODE, 2)]

def WSS : State := st [(Reg.SYS.BRINGUP.SHALLOWS_READY, 1)]

def WEQ : State := st [(Reg.ENC.STAT.RUN 0, 1)]
def WET : State := st [(Reg.ENC.STAT.RUN 0, 1), (Reg.ENC.CFG.MODE 0, 1)]
def WEG : State := st [(Reg.ENC.STAT.RUN 0, 1), (Reg.ENC.CFG.MODE 0, 1), (Reg.ENC.TOOTH.MISSING 0, 2), (Reg.ENC.TOOTH.GAP_RATIO 0, 40)] fun d => d.setEnc 0 { Enc.init with normal := [0, 0], hist := [(0, 0)] }

def WVE : State := st [(Reg.ENGX.STAT.ESTATE 1, 3), (Reg.ENGX.STAT.ESTATE 0, 4), (Reg.ENG.STAT.VOTING, 1)]
def WVB : State := st [(Reg.ENGX.STAT.ESTATE 1, 3), (Reg.ENGX.STAT.ESTATE 0, 4), (Reg.ENG.STAT.VOTING, 1)] fun d => d.setPort 2 { PortFire.init with built := some { testCycle with flags := [1, 0] } }

def WBW : State := st [(Reg.ENGX.STAT.ESTATE 1, 1)] (·.arm .bistEnd 7)

def WRN : State := st [(Reg.ENGX.STAT.ESTATE 1, 2)] fun d => (d.setEngine 1 { d.engine 1 with copied := [(2, 0)] }).setPort 2 { PortFire.init with cycles := 2 }
def WRS : State := st [(Reg.ENGX.STAT.ESTATE 1, 2)] fun d => (d.setEngine 1 { d.engine 1 with copied := [(2, 0)], shadowed := [2] })

def WHR : State := st [(Reg.HDR.STATE 0xB2, 2), (Reg.THM.HOT.HOT, 4)] fun d => d.setHeat 2 { ThmPort.init with cool := 2 }
def WHRc : State := st [(Reg.HDR.STATE 0xB2, 2), (Reg.THM.HOT.HOT, 4)]
def WHRn : State := st [(Reg.HDR.STATE 0xB2, 2)]
def hrD (s : State) : Dev := autoRearm ((s.dev.set Reg.THM.HOT_CTRL.AUTO_REARM (s.dev.get Reg.THM.HOT_CTRL.AUTO_REARM)).set Reg.THM.HOT_CTRL.PORT 2)
def WHRd : Dev := hrD WHR
def WHRcd : Dev := hrD WHRc
def WHRnd : Dev := hrD WHRn
def WFW : State := st [(Reg.HDR.STATE 0x102, 2), (Reg.HDR.LEVEL 0x102, 1)]
def WWN : State := st [(Reg.SYS.MODE_STAT.MODE, 2)] fun d => (d.setHeat 2 { ThmPort.init with warm := [40] }).setPort 2 { PortFire.init with sched := some 50 }

def WPR : State := st [] fun d => d.setHead 2 { Head.init with step := 3, sweep := 35 }

def WLRd1 : Dev := armReport 2 (WLR.dev.setHead 2 { WLR.dev.head 2 with lats := [], missed := 0 })

def WBS : State := st [(Reg.HDR.STATE 0x1F, 2), (Reg.HDR.ENABLE 0x1F, 1)]
def WBI : State := st [(Reg.HDR.STATE 0x1F, 1), (Reg.HDR.ENABLE 0x1F, 1)]
def WBO : State := st [(Reg.HDR.STATE 0x1F, 6)]
def WB5 : State := st [(Reg.HDR.STATE 0x1F, 5)]
def WBK : State := st [(Reg.HDR.STATE 0x1F, 3)] fun d => { d with stopping := [(0x1F, .drain)] }

def WBT : State := st [(Reg.HDR.STATE 0x1F, 3)] fun d => { d with stopping := [(0x1F, .drain)] }.arm (.drain 0x1F) 9
def WBW2 : State := st [(Reg.HDR.STATE 0x22, 3)] fun d => { (d.setDma 2 { DmaChan.init with run := true, move := some { srcSp := 0, dstSp := 1, src := 128, dst := 64, len := 4, at_ := 2 } }) with stopping := [(0x22, .drain)] }

def WSGL : State := st [] fun d => { d with snd := { d.snd with loading := true } }
def WSGd : Dev := (WSGL.dev.answer (pg .SND 0)).basinLoad 1 0xFF (WSGL.dev.addr Reg.SND.SIG_BASE.ADDR) 4160 0

def WSGO : State := st [(Reg.HDR.STATE 0xB3, 2), (Reg.SYS.MODE_STAT.MODE, 1)]
def STAB0 : Bytes := [0x53, 0x53, 0x49, 0x47, 1] ++ List.replicate 55 0
def WSGT : State := st [(Reg.HDR.STATE (pg .BAS 0), 2), (Reg.SYS.BRINGUP.BASIN_READY, 1)] fun d => { d with snd := { d.snd with loading := true }, basin := memWrite 0 0 ((tab STAB0).take 64) [] }
def WSGTd : Dev := (WSGT.dev.answer (pg .SND 0)).basinLoad 1 0xFF (WSGT.dev.addr Reg.SND.SIG_BASE.ADDR) 4160 0

def WSQ0 : Dev := ((WSCD.dev.advanceTo 7).disarm (.scan 0))
def WSQ1 : Dev := let e := setNoz 2 3 (if 0 = 0 then { WSCD.dev.noz 2 3 with rA := (((WSCD.dev.advanceTo 7).disarm (.scan 0)).scanR 2 100 900 false) } else { WSCD.dev.noz 2 3 with rB := (((WSCD.dev.advanceTo 7).disarm (.scan 0)).scanR 2 100 900 false) }) WSQ0.drawn; if e.bitOf Reg.THM.CLASSING.EN 2 = true then reclass 2 e 3 else e
def WSQ2 : Dev := WSQ1.setHealth 2 { WSQ1.health 2 with scan := (WSQ1.health 2).scan.drop 1, half := if true = true ∧ 0 = 0 then some (WSQ1.classifyR (((WSCD.dev.advanceTo 7).disarm (.scan 0)).scanR 2 100 900 false)) else none }

def WSR_0 : Dev := ((WSCE.dev.advanceTo 7).disarm (.scan 0))
def WSR_1 : Dev := let e := setNoz 2 3 (if 1 = 0 then { WSCE.dev.noz 2 3 with rA := (((WSCE.dev.advanceTo 7).disarm (.scan 0)).scanR 2 100 900 false) } else { WSCE.dev.noz 2 3 with rB := (((WSCE.dev.advanceTo 7).disarm (.scan 0)).scanR 2 100 900 false) }) WSR_0.drawn; if e.bitOf Reg.THM.CLASSING.EN 2 = true then reclass 2 e 3 else e
def WSR_2 : Dev := WSR_1.setHealth 2 { WSR_1.health 2 with scan := (WSR_1.health 2).scan.drop 1, half := if true = true ∧ 1 = 0 then some (WSR_1.classifyR (((WSCE.dev.advanceTo 7).disarm (.scan 0)).scanR 2 100 900 false)) else none }

def WSR_s : Nat × Nat := match (WSR_1.health 2).half with | some a => if (WSR_1.classifyR (WSR_0.scanR 2 100 900 false)).1 < a.1 then a else WSR_1.classifyR (WSR_0.scanR 2 100 900 false) | none => WSR_1.classifyR (WSR_0.scanR 2 100 900 false)

def WWF : State := st [(Reg.HDR.STATE (pg .BAS 0), 2), (Reg.SYS.BRINGUP.BASIN_READY, 1), (Reg.HDR.STATE (pg .TRN 0), 2), (Reg.TRN.TASK_EN.WEAR, 1)]
def WSNDd : Dev := (WSND.dev.advanceTo 10000).drawn.setHealth 2 { WSND.dev.health 2 with windows := [], abandons := 0, ptr := 4, decides := 1, misses := 1 }

def WIC : State := st [(Reg.ENC.STAT.RUN 0, 1)]
def WICd : Dev := let d := WIC.dev.advance 100; let e := d.putBit (Reg.ENC.STAT.PINS 0) 2 (!d.bitOf (Reg.ENC.STAT.PINS 0) 2); e.putBit (Reg.ENC.STAT.PINS 0) 3 (!e.bitOf (Reg.ENC.STAT.PINS 0) 3)

def WIX0 : State := st [(Reg.ENC.STAT.RUN 0, 1), (Reg.ENC.CFG.IDX_EN 0, 1), (Reg.ENC.CFG.IDX_GATE 0, 0), (Reg.ENC.HOME.POS 0, 512)] fun d => d.setEnc 0 { Enc.init with armed := true }
def WIX1 : State := st [(Reg.ENC.STAT.RUN 0, 1), (Reg.ENC.CFG.IDX_EN 0, 1), (Reg.ENC.CFG.IDX_GATE 0, 0), (Reg.ENC.STAT.DIR 0, 1)]
def WIX2 : State := st [(Reg.ENC.STAT.RUN 0, 1), (Reg.ENC.CFG.IDX_EN 0, 1), (Reg.ENC.CFG.IDX_GATE 0, 0), (Reg.ENC.PER_REV.COUNTS 0, 1000)]
def WIX3 : State := st [(Reg.ENC.STAT.RUN 0, 1), (Reg.ENC.CFG.IDX_EN 0, 1), (Reg.ENC.CFG.IDX_GATE 0, 0), (Reg.ENC.PER_REV.COUNTS 0, 1000), (Reg.ENC.STAT.REF_SET 0, 1), (Reg.ENC.CFG.WIN 0, 4)]
def WIX4 : State := st [(Reg.ENC.STAT.RUN 0, 1), (Reg.ENC.CFG.IDX_EN 0, 1), (Reg.ENC.CFG.IDX_GATE 0, 0), (Reg.ENC.PER_REV.COUNTS 0, 1000), (Reg.ENC.STAT.REF_SET 0, 1), (Reg.ENC.CFG.WIN 0, 0), (Reg.ENC.POS.POS 0, 512)]

def WWC : State := st [(Reg.ENC.STAT.WIRE 0, 8), (Reg.HDR.STATE (pg .ENC 0), 2)]
def WSE : State := st [(Reg.HDR.STATE (pg .ENC 0), 2), (Reg.ENC.CFG.SE_DIFF 0, 0), (Reg.ENC.CFG.SE_EDGE 0, 0)]
def WSE1 : Dev := (WSE.dev.advance 100).putBit (Reg.ENC.STAT.PINS 0) 0 true
def WSE2 : Dev := (((WSE1.setEnc 0 { WSE1.enc 0 with travel := some 0 }).set (Reg.ENC.SE_TS.TS 0) WSE1.ts).set (Reg.ENC.SE_POS.POS 0) (WSE1.get (Reg.ENC.POS.POS 0))).ev .ENC 0 9

def WOE : State := st [(Reg.HDR.STATE 0x98, 2)]
def WEO : State := st [(Reg.HDR.ENABLE 0x98, 1), (Reg.EOUT.CFG.OUT_EN 0, 1), (Reg.EOUT.CFG.INVERT 0, 0)] fun d => d.setEout 0 { Eout.init with runs := [2] }
def WEOp : Nat := ((((WEO.dev.eout 0).phase : Int) + 1) % 4).toNat
def WEOs : Nat := ofSigned 48 (toSigned 48 (WEO.dev.get (Reg.EOUT.STEPS.COUNT 0)) + 1)
def WEOd : Dev := ((((WEO.dev.advanceTo (WEO.dev.eout 0).free).setEout 0 { WEO.dev.eout 0 with runs := [1], phase := WEOp, free := (WEO.dev.advanceTo (WEO.dev.eout 0).free).time.up + max 25 (WEO.dev.get (Reg.EOUT.MIN_STEP.TICKS 0)) * tick }).emit (.pin Pin.eoutA 0 (if WEOp = 1 ∨ WEOp = 2 then 1 else 0))).emit (.pin Pin.eoutB 0 (if 2 ≤ WEOp then 1 else 0))).set (Reg.EOUT.STEPS.COUNT 0) WEOs

def WBG : State := st [(Reg.HDR.STATE 0xA0, 2), (Reg.HDR.ENABLE 0xA0, 1), (Reg.EML.LINK_STAT.STATE 0, 3), (Reg.HDR.STATE (pg .BAS 0), 2), (Reg.SYS.BRINGUP.BASIN_READY, 1), (Reg.EMR.BULK_LEN.LEN, 16)]
def WBGd : Dev := (WBG.dev.set Reg.EMR.BULK_CMD.DEST 5).basinLoad 2 0x33 (WBG.dev.addr Reg.EMR.BULK_SRC.ADDR) 16 0


/-! ### Well-formedness -/

/-- A cell whose fields fit Table 12.2. -/
def okCell : CellIn := { link := 0, src := 0, dst := 0, hops := 0, seq := 0, corr := 0, payload := List.replicate 20 0 }
/-- A cell whose payload is short. -/
def badCell : CellIn := { okCell with payload := [] }

theorem test_wf_takes_0 :
    ([.registerWrite 0 false 0 0 0, .loReadLatch 0 0 0, .readClear 0 0 0, .hostBar2Access 0 0 false [] 0 0, .hostBar4Access 0 0 false 0 0,
     .functionLevelReset false, .levelUnlock 0, .levelWindowExpiry, .levelSet 0 false, .enableClear 0,
     .enableSet 0, .drainBoundaryReached 0, .drain 0, .softReset 0, .kill 0,
     .drainTimeout 0, .domainWaitExpiry 0, .replyArrival 0 0 0, .evClear 0 0, .evForce 0 0,
     .fltLocalClear 0, .ownerWrite 0 0 0, .revokeClient 0, .vecPendClear 0, .msixMessage 0,
     .providerLost, .modeReqGo 0 false, .modeChanged, .clocksLocked, .fusesRead,
     .pcieReady 0 0, .springScriptStart, .springWrite, .springModify, .springPoll,
     .springPollMet, .springPollTimeout, .springDelay, .springDelayEnd, .springEndEntry] : List Instr).all Instr.wf = true := by decide +kernel

theorem test_wf_takes_1 :
    ([.springTimeLimit, .geomLoad 0, .geomLoadDone [], .qTailWrite 0 0, .jobStart 0 false false,
     .qCancel 0, .qHold 0 false, .qEnable 0 false, .encoderEdge 0 false 0, .cycleScheduledTime 0,
     .lat 0, .slotMark 0, .cycleSkip 0, .slowdownRepeat, .fixPeriodWrite 0,
     .fixedGeneratorStart, .syntheticLineBoundary, .ringSourceTimeout, .cycleBuild 0, .tileFetch 0 false,
     .tileDecodeDone 0 false, .fillLate 0, .maskLoad 0, .maskLoadDone 0 false, .nozOvr 0 0 0,
     .segmentVote 0 [] [], .digestVote 0 [] [], .engineCheck 0 0 0, .engineWatchdog 0 0, .serialiserSwitch 0,
     .failoverOverlapEnd, .engSwitch, .engResync, .engRepair, .resyncStart,
     .resyncPortCopy 0, .resyncCompare 0 [] [], .bistWindowStart, .bistWindowEnd false, .autoRepair 0] : List Instr).all Instr.wf = true := by decide +kernel

theorem test_wf_takes_2 :
    ([.fireWWrite 0 0 0, .temperatureSample 0 0 0, .thmSlowdownRepeat, .warmingPulse 0, .hotRearm 0,
     .energyTableCommit 0 (List.replicate 8 0) 0 0, .energyTableCopyDone false, .trainingStart 0, .linkTrain 0, .linkCmdDown 0,
     .bckSweepStep 0 false, .laneSweepStep 0, .alignSendEnd 0, .trainStepTimeout 0, .trainingRetry 0,
     .linkReset 0, .latReport 0 0 0, .frameBad 0 0 0 0 0, .readData 0 0 0, .writeAck 0 0 false,
     .headStatus 0 0, .latErr 0 0, .prbsResult 0 0 0, .aligned 0 false, .bckMessageDropped ⟨0, [0, 0, 0, 0, 0, 0, 0], false⟩,
     .latReportTimeout 0, .bckSilence 0, .degradeInterval 0, .hregCmdGo 0 false 0, .ctrlTimeout 0,
     .scanCmdGo, .scanCmdStop, .scanStepDone 0 0 0 false, .scanStepRepeat 0, .soundingDecision 0 [] false,
     .healthWriteback, .wearFlush [], .sigLoad, .sigLoadDone false, .illegalChange 0 0] : List Instr).all Instr.wf = true := by decide +kernel

theorem test_wf_takes_3 :
    ([.index 0 false 0, .wireFlag 0 0 0, .wireFlagClear 0 0 0, .preset 0, .armHome 0,
     .clrRef 0, .snap, .standstill 0, .sheetEdge 0 false 0, .outEnSet 0,
     .eoutStep 0, .blockLock 0, .syncHeaderLoss 0, .controlBlock 0 [0, 0, 0, 0, 0, 0, 0] 0, .controlBlockTimeout 0,
     .linkUpTimeout 0, .linkRetry 0, .idle okCell 0, .hello okCell 0, .delayExchangeTimer 0,
     .dlyReq okCell 0, .dlyResp okCell 0, .positionCellTimer, .position okCell 0, .timeCellTimer,
     .time okCell 0, .heartbeatTimer, .heartbeat okCell 0, .sheetEdgeCell okCell 0, .managerStart,
     .heartbeatLoss, .claim okCell 0, .claimWaitEnd, .takeover, .handover,
     .join okCell 0, .leave okCell 0, .statusTimer, .statusCell okCell 0, .memberTimeout 0] : List Instr).all Instr.wf = true := by decide +kernel

theorem test_wf_takes_4 :
    ([.censusWaitEnd, .slowdown okCell 0, .regRead okCell 0, .regWrite okCell 0, .bulkEnd okCell 0,
     .ack okCell 0, .commandAckTimeout, .rcmdGo false 0, .bulkCmdGo 0, .bulk okCell 0,
     .faultCell okCell 0, .eventCell okCell 0, .basinRequest 0 0 0 0 false [] 0 0, .correctedWriteback false, .shallowsAccess 0 0 0 false [] 0,
     .throttleEngage, .throttleRelease, .c5DeadlineDrop, .basinScrubBurst [], .scrubLate,
     .shallowsScrubWord 0 0, .telemetryRecord false, .basinWipeDone, .shallowsWipeDone, .dmaStart 0,
     .dmaResume 0, .instructionFetch 0 0 [] 0, .move 0, .burstDone 0 0 0 [], .loopBegin 0,
     .loopEnd 0, .wait 0, .waitRelease 0, .waitTimeout 0, .waitDelayEnd 0,
     .signal 0, .set 0, .nop 0, .halt 0, .killMap 0] : List Instr).all Instr.wf = true := by decide +kernel

theorem test_wf_takes_5 :
    ([.push 0, .compressorJobStart 0, .compressorJobEnd 0 [] 0 0, .motStart 0, .motHome 0,
     .setPos 0, .motStop 0, .qstop 0, .stopAll, .plannerTick [],
     .inPos 0, .holdCurrent 0, .pwmPeriod 0 0 0, .limitEdge 0 0 false 0, .limitTrip 0 0,
     .spitGo, .spitCycle 0, .spitStop, .faultMessage, .ackSlot 0,
     .ackAll, .ackMemo, .quietExit, .safeIn, .rippleToggle,
     .kick, .kickMissed, .fltInternal, .faultReset 0, .inject 0 0 0,
     .polQuery 0 0, .faultPolicyCommit 0 (List.replicate 8 0) 0 0, .policyCopyDone false, .lockClearPolicy 0 (List.replicate 8 0) 0 0, .sedimentRecord,
     .freezeCountEnd, .freeze, .release, .dumpClear, .dumpEraseDone] : List Instr).all Instr.wf = true := by decide +kernel

theorem test_wf_takes_6 :
    ([.pfail, .dumpStart, .dumpPage false, .dumpEnd, .pfailShed,
     .dieSample 0, .calRun, .restore 0, .targetRunEnd 0 [] 0, .spareTakeover,
     .spareHandback, .trimUser 0, .lifecycleAdvance 0 (List.replicate 8 0) 0 0, .keyLoad 0 (List.replicate 8 0) 0 0, .keyRetire 0 (List.replicate 8 0) 0 0,
     .headPowerArm 0 (List.replicate 8 0) 0 0, .printArm 0 (List.replicate 8 0) 0 0, .springCommit 0 (List.replicate 8 0) 0 0, .wipeNow 0 (List.replicate 8 0) 0 0, .lockoutEnd,
     .fuseProgramDone false, .disarmHead, .disarmHeadComplete, .disarmPrint, .coldReset 0,
     .pinReset 0, .softwareReset 0, .refclkBad false 0, .pllUnlock 0, .pllRelock 0,
     .dllUnlock, .dllRelock, .domOn 0, .domOff 0 0, .domainOffDone 0,
     .domainOnDone 0, .supplyLow 0, .brownOutReset, .smbSetPtr 0 false, .smbRead false] : List Instr).all Instr.wf = true := by decide +kernel

theorem test_wf_takes_7 :
    ([.smbWrite 0 false, .spifRead, .spifProgram, .spifErase, .spifDone false 0,
     .safeInRelease, .pfailRelease, .refclkRecovered 0, .resetAsserted, .nonceReady false 0,
     .frameShipped 0, .trainSettleEnd 0, .trimUpdateTick 0, .cellCrcError 0, .unknownCell 0 okCell 0,
     .eoutZEnd 0] : List Instr).all Instr.wf = true := by decide +kernel

theorem test_wf_refuses_0 :
    ([.registerWrite (256) false 0 0 0, .registerWrite 0 false (0x200000) 0 0, .registerWrite 0 false 0 0 1, .loReadLatch (256) 0 0, .loReadLatch 0 (0x200000) 0,
     .loReadLatch 0 0 9, .readClear (256) 0 0, .readClear 0 (0x200000) 0, .readClear 0 0 9, .hostBar2Access 0x800000000 1 false [] 0 0,
     .hostBar2Access 0 1 true [] 0 0, .hostBar4Access (0x4000000) 0 false 0 0, .hostBar4Access 0 0 false 1 0, .levelUnlock (2 ^ 32), .levelSet 0x45 false,
     .enableClear 0x45, .enableSet 0x45, .drainBoundaryReached 0x45, .drain 0x45, .softReset 0x45,
     .kill 0x45, .drainTimeout 0x45, .domainWaitExpiry (18), .replyArrival 0x45 0 0, .replyArrival 0 (16) 0,
     .replyArrival 0 0 (4096), .evClear 0x45 0, .evClear 0 (2 ^ 32), .evForce 0x45 0, .evForce 0 (2 ^ 32),
     .fltLocalClear 0x45, .ownerWrite (32) 0 0, .ownerWrite 0 (256) 0, .ownerWrite 0 0 (256), .revokeClient (256),
     .vecPendClear (2 ^ 64), .msixMessage (64), .modeReqGo (256) false, .pcieReady (64) 0, .pcieReady 0 (16)] : List Instr).all (fun c => !c.wf) = true := by decide +kernel

theorem test_wf_refuses_1 :
    ([.geomLoad (2 ^ 64), .geomLoadDone [(64)], .qTailWrite (16) 0, .qTailWrite 0 (65536), .jobStart (16) false false,
     .qCancel (16), .qHold (16) false, .qEnable (16) false, .encoderEdge (4) false 0, .cycleScheduledTime (64),
     .lat (64), .slotMark (64), .cycleSkip (64), .fixPeriodWrite (2 ^ 32), .cycleBuild (64),
     .tileFetch (64) false, .tileDecodeDone (64) false, .fillLate (64), .maskLoad (64), .maskLoadDone (64) false,
     .nozOvr (4) 0 0, .nozOvr 0 (64) 0, .nozOvr 0 0 (2 ^ 14), .segmentVote (64) [] [], .segmentVote 0 (List.replicate 521 0) [],
     .segmentVote 0 [] (List.replicate 521 0), .digestVote (64) [] [], .digestVote 0 (List.replicate 33 0) [], .digestVote 0 [] (List.replicate 33 0), .engineCheck (64) 0 0,
     .engineCheck 0 (16) 0, .engineCheck 0 0 (16), .engineWatchdog (64) 0, .engineWatchdog 0 (2), .serialiserSwitch (64),
     .resyncPortCopy (64), .resyncCompare (64) [] [], .resyncCompare 0 (List.replicate 33 0) [], .resyncCompare 0 [] (List.replicate 33 0), .autoRepair (2)] : List Instr).all (fun c => !c.wf) = true := by decide +kernel

theorem test_wf_refuses_2 :
    ([.fireWWrite (64) 0 0, .fireWWrite 0 (4) 0, .fireWWrite 0 0 (8192), .temperatureSample (64) 0 0, .temperatureSample 0 (2) 0,
     .warmingPulse (64), .hotRearm (64), .energyTableCommit (8) (List.replicate 8 0) 0 0, .energyTableCommit 0 [] 0 0, .energyTableCommit 0 (List.replicate 8 (2 ^ 32)) 0 0,
     .energyTableCommit 0 (List.replicate 8 0) (2 ^ 64) 0, .energyTableCommit 0 (List.replicate 8 0) 0 (2 ^ 128), .trainingStart (64), .linkTrain (64), .linkCmdDown (64),
     .bckSweepStep (64) false, .laneSweepStep (64), .alignSendEnd (64), .trainStepTimeout (64), .trainingRetry (64),
     .linkReset (64), .latReport (64) 0 0, .latReport 0 (256) 0, .latReport 0 0 (65536), .frameBad (64) 0 0 0 0,
     .frameBad 0 (65536) 0 0 0, .frameBad 0 0 (256) 0 0, .frameBad 0 0 0 (16) 0, .frameBad 0 0 0 0 (16), .readData (64) 0 0,
     .readData 0 (256) 0, .readData 0 0 (2 ^ 32), .writeAck (64) 0 false, .writeAck 0 (256) false, .headStatus (64) 0,
     .headStatus 0 (256), .latErr (64) 0, .latErr 0 (256), .prbsResult (64) 0 0, .prbsResult 0 (4) 0] : List Instr).all (fun c => !c.wf) = true := by decide +kernel

theorem test_wf_refuses_3 :
    ([.prbsResult 0 0 (2 ^ 16), .aligned (64) false, .bckMessageDropped ⟨64, [0, 0, 0, 0, 0, 0, 0], false⟩, .bckMessageDropped ⟨0, [], false⟩, .latReportTimeout (64), .bckSilence (64),
     .degradeInterval (64), .hregCmdGo (64) false 0, .hregCmdGo 0 false (65536), .ctrlTimeout (64), .scanStepDone (8) 0 0 false,
     .scanStepRepeat (8), .soundingDecision (64) [] false, .wearFlush [(2 ^ 27)], .illegalChange (4) 0, .index (4) false 0,
     .wireFlag (4) 0 0, .wireFlag 0 (4) 0, .wireFlagClear (4) 0 0, .wireFlagClear 0 (4) 0, .preset (4),
     .armHome (4), .clrRef (4), .standstill (4), .sheetEdge (4) false 0, .outEnSet (2),
     .eoutStep (2), .blockLock (2), .syncHeaderLoss (2), .controlBlock (2) [0, 0, 0, 0, 0, 0, 0] 0, .controlBlock 0 [] 0, .controlBlock 0 [0, 0, 0, 0, 0, 0, 0] 256, .controlBlockTimeout (2),
     .linkUpTimeout (2), .linkRetry (2), .idle badCell 0, .hello badCell 0, .delayExchangeTimer (2),
     .dlyReq badCell 0, .dlyResp badCell 0, .position badCell 0, .time badCell 0, .heartbeat badCell 0] : List Instr).all (fun c => !c.wf) = true := by decide +kernel

theorem test_wf_refuses_4 :
    ([.sheetEdgeCell badCell 0, .claim badCell 0, .join badCell 0, .leave badCell 0, .statusCell badCell 0,
     .memberTimeout (64), .slowdown badCell 0, .regRead badCell 0, .regWrite badCell 0, .bulkEnd badCell 0,
     .ack badCell 0, .rcmdGo false (64), .bulkCmdGo (64), .bulk badCell 0, .faultCell badCell 0,
     .eventCell badCell 0, .basinRequest (256) 0 0 0 false [] 0 0, .basinRequest 0 (6) 0 0 false [] 0 0, .basinRequest 0 0 0x800000000 1 false [] 0 0, .basinRequest 0 0 0 1 true [] 0 0,
     .shallowsAccess (256) 0 0 false [] 0, .shallowsAccess 0 0x2000000 1 false [] 0, .shallowsAccess 0 0 1 true [] 0, .basinScrubBurst [(3)], .shallowsScrubWord (64) 0,
     .shallowsScrubWord 0 (3), .dmaStart (32), .dmaResume (32), .instructionFetch (32) 0 [] 0, .move (32),
     .burstDone (32) 0 0 [], .loopBegin (32), .loopEnd (32), .wait (32), .waitRelease (32),
     .waitTimeout (32), .waitDelayEnd (32), .signal (32), .set (32), .nop (32)] : List Instr).all (fun c => !c.wf) = true := by decide +kernel

theorem test_wf_refuses_5 :
    ([.halt (32), .killMap (2 ^ 32), .push (4), .compressorJobStart (4), .compressorJobEnd (4) [] 0 0,
     .motStart (8), .motHome (8), .setPos (8), .motStop (8), .qstop (8),
     .plannerTick [(1024)], .inPos (8), .holdCurrent (8), .pwmPeriod (8) 0 0, .pwmPeriod 0 (2) 0,
     .limitEdge (8) 0 false 0, .limitEdge 0 (2) false 0, .limitTrip (8) 0, .limitTrip 0 (2), .spitCycle (64),
     .ackSlot (64), .faultReset (2 ^ 32), .inject (256) 0 0, .inject 0 (256) 0, .inject 0 0 (8),
     .polQuery (256) 0, .polQuery 0 (256), .faultPolicyCommit (8) (List.replicate 8 0) 0 0, .faultPolicyCommit 0 [] 0 0, .faultPolicyCommit 0 (List.replicate 8 (2 ^ 32)) 0 0,
     .faultPolicyCommit 0 (List.replicate 8 0) (2 ^ 64) 0, .faultPolicyCommit 0 (List.replicate 8 0) 0 (2 ^ 128), .lockClearPolicy (8) (List.replicate 8 0) 0 0, .lockClearPolicy 0 [] 0 0, .lockClearPolicy 0 (List.replicate 8 (2 ^ 32)) 0 0,
     .lockClearPolicy 0 (List.replicate 8 0) (2 ^ 64) 0, .lockClearPolicy 0 (List.replicate 8 0) 0 (2 ^ 128), .dieSample (-32769), .dieSample (32768), .restore (16)] : List Instr).all (fun c => !c.wf) = true := by decide +kernel

theorem test_wf_refuses_6 :
    ([.targetRunEnd (15) [] 0, .trimUser (65536), .lifecycleAdvance (8) (List.replicate 8 0) 0 0, .lifecycleAdvance 0 [] 0 0, .lifecycleAdvance 0 (List.replicate 8 (2 ^ 32)) 0 0,
     .lifecycleAdvance 0 (List.replicate 8 0) (2 ^ 64) 0, .lifecycleAdvance 0 (List.replicate 8 0) 0 (2 ^ 128), .keyLoad (8) (List.replicate 8 0) 0 0, .keyLoad 0 [] 0 0, .keyLoad 0 (List.replicate 8 (2 ^ 32)) 0 0,
     .keyLoad 0 (List.replicate 8 0) (2 ^ 64) 0, .keyLoad 0 (List.replicate 8 0) 0 (2 ^ 128), .keyRetire (8) (List.replicate 8 0) 0 0, .keyRetire 0 [] 0 0, .keyRetire 0 (List.replicate 8 (2 ^ 32)) 0 0,
     .keyRetire 0 (List.replicate 8 0) (2 ^ 64) 0, .keyRetire 0 (List.replicate 8 0) 0 (2 ^ 128), .headPowerArm (8) (List.replicate 8 0) 0 0, .headPowerArm 0 [] 0 0, .headPowerArm 0 (List.replicate 8 (2 ^ 32)) 0 0,
     .headPowerArm 0 (List.replicate 8 0) (2 ^ 64) 0, .headPowerArm 0 (List.replicate 8 0) 0 (2 ^ 128), .printArm (8) (List.replicate 8 0) 0 0, .printArm 0 [] 0 0, .printArm 0 (List.replicate 8 (2 ^ 32)) 0 0,
     .printArm 0 (List.replicate 8 0) (2 ^ 64) 0, .printArm 0 (List.replicate 8 0) 0 (2 ^ 128), .springCommit (8) (List.replicate 8 0) 0 0, .springCommit 0 [] 0 0, .springCommit 0 (List.replicate 8 (2 ^ 32)) 0 0,
     .springCommit 0 (List.replicate 8 0) (2 ^ 64) 0, .springCommit 0 (List.replicate 8 0) 0 (2 ^ 128), .wipeNow (8) (List.replicate 8 0) 0 0, .wipeNow 0 [] 0 0, .wipeNow 0 (List.replicate 8 (2 ^ 32)) 0 0,
     .wipeNow 0 (List.replicate 8 0) (2 ^ 64) 0, .wipeNow 0 (List.replicate 8 0) 0 (2 ^ 128), .coldReset (64), .pinReset (64), .softwareReset (2 ^ 32)] : List Instr).all (fun c => !c.wf) = true := by decide +kernel

theorem test_wf_refuses_7 :
    ([.pllUnlock (5), .pllRelock (5), .domOn (2 ^ 18), .domOff (2 ^ 18) 0, .domOff 0 (2 ^ 18),
     .domainOffDone (18), .domainOnDone (18), .supplyLow (8), .smbSetPtr (2 ^ 24) false, .smbWrite (2 ^ 32) false,
     .frameShipped (64), .trainSettleEnd (64), .trimUpdateTick (15), .cellCrcError (2), .unknownCell (256) okCell 0,
     .unknownCell 0 badCell 0, .eoutZEnd (2)] : List Instr).all (fun c => !c.wf) = true := by decide +kernel

theorem test_cellWf_refuses :
    [{ okCell with link := 2 }, { okCell with src := 64 }, { okCell with dst := 256 }, { okCell with hops := 256 },
     { okCell with seq := 65536 }, { okCell with corr := 65536 }, badCell].all (fun c => !cellWf c) = true := by decide +kernel

theorem test_pageListed : pageListed 0x111 = true ∧ pageListed 0x45 = false := by decide

theorem test_no_word_decodes (nbits w : Nat) : decodeTableWord nbits w = none := rfl

/-! ### Values the manual and the standards it cites work out -/

/-- The published check value of CRC-32C. -/
theorem test_crc32c : crc32c [0x31, 0x32, 0x33, 0x34, 0x35, 0x36, 0x37, 0x38, 0x39] = 0xE3069283 := by decide +kernel

/-- The published check value of the CRC-8 of R499 (generator 0x07, start 0, MSB first). -/
theorem test_crc8 : crc8 [0x31, 0x32, 0x33, 0x34, 0x35, 0x36, 0x37, 0x38, 0x39] = 0xF4 := by decide +kernel

/-- The published check value of CRC-32. -/
theorem test_crc32 : crc32 [0x31, 0x32, 0x33, 0x34, 0x35, 0x36, 0x37, 0x38, 0x39] = 0xCBF43926 := by decide +kernel

/-- The key of the examples of NIST SP 800-38B (R443). -/
def nistKey : List Nat :=
  [0x2B, 0x7E, 0x15, 0x16, 0x28, 0xAE, 0xD2, 0xA6, 0xAB, 0xF7, 0x15, 0x88, 0x09, 0xCF, 0x4F, 0x3C]

/-- NIST SP 800-38B, AES-128, example 1: the empty message. -/
theorem test_cmac_empty : cmac nistKey [] =
    [0xBB, 0x1D, 0x69, 0x29, 0xE9, 0x59, 0x37, 0x28, 0x7F, 0xA3, 0x7D, 0x12, 0x9B, 0x75, 0x67, 0x46] := by decide +kernel

/-- NIST SP 800-38B, AES-128, example 2: a message of one block. -/
theorem test_cmac_block : cmac nistKey
    [0x6B, 0xC1, 0xBE, 0xE2, 0x2E, 0x40, 0x9F, 0x96, 0xE9, 0x3D, 0x7E, 0x11, 0x73, 0x93, 0x17, 0x2A] =
    [0x07, 0x0A, 0x16, 0xB4, 0x6B, 0x4D, 0x41, 0x44, 0xF7, 0x9B, 0xDD, 0x9D, 0xD0, 0x4A, 0x28, 0x7C] := by decide +kernel

/-- The message of the example of chapter 19: head power for groups 0 to 3 with slot 2 and counter 5 (R443). -/
theorem test_tagMessage : tagMessage 0x1F2E3D4C5B6A7988 { opcode := 6, slot := 2, args := [0xF, 0, 0, 0, 0, 0, 0, 0], cnt := 5, tag := 0 } =
    [0x88, 0x79, 0x6A, 0x5B, 0x4C, 0x3D, 0x2E, 0x1F, 5, 0, 0, 0, 0, 0, 0, 0, 6, 2, 0, 0, 0xF, 0, 0, 0] ++ List.replicate 28 0 := by
  decide

/-- The tokens of the example of chapter 15: four literal bytes and 252 bytes from four back. -/
theorem test_tokens : decodeTokens 256 [0x03, 1, 2, 3, 4, 0xDF, 0xDA, 0x03, 0x00, 0xF0] =
    .ok ((List.replicate 64 [1, 2, 3, 4]).flatten) := by decide +kernel

/-- BLK_ID of ENG_B (the example of chapter 21). -/
theorem test_blkId : blkId .ENGX 1 = 0x80B801B0 := by decide

/-- The nozzle entry of the example of chapter 4, here after 10 absent nozzles. -/
theorem test_nozzleEntry : nozzleEntries 0 (List.replicate 40 0 ++ leBytes 4 0x944001F4) = [(10, 0x944001F4)] := by decide

/-- The slot time of the derating example of chapter 7: 1.2635 µs in steps of 250 ps. -/
theorem test_slotTime : slotTime [(0, { pre := 800, gap := 1200, main := 2654 })] = 5054 := by decide

/-- A ring of four seen from member 0, with a break between members 1 and 2. -/
def brokenRing (west2 : Bool) : Dev :=
  let m := fun e w he hw => { Member.init with east := e, west := w, hopsE := he, hopsW := hw }
  (((((st [(Reg.EML.LINK_STAT.STATE 0, 3), (Reg.EML.LINK_STAT.STATE 1, 3)]).dev.setMember 1 (m false true 1 3)).setMember 2 (m true false 2 2)).setMember 3
    (m true west2 3 1)).set Reg.EMR.RING_STAT.STATE 2).set Reg.EMR.RING_STAT.BREAK_A 1 |>.set Reg.EMR.RING_STAT.BREAK_B 2

/-- One break leaves the ring OPEN between its two members; a second one, at member 3, cuts member 2 off (R302). -/
theorem test_ringState : (brokenRing true).ringState 15 = (2, 1, 2) ∧ (brokenRing false).ringState 15 = (3, 1, 2) := by decide +kernel

/-- An OPEN ring reaches each member by the one path that avoids the break (R303). -/
theorem test_hopsOpen : (List.range 4).map (fun a => ((brokenRing true).hopsTo 0 a, (brokenRing true).hopsTo 1 a)) =
    [(0, 0), (1, 0xFF), (0xFF, 2), (0xFF, 1)] ∧ (brokenRing true).pathTo 1 = 0 ∧ (brokenRing true).pathTo 2 = 1 := by decide +kernel

/-- A step takes the front of the queue and leaves the rest. -/
theorem test_step_queue :
    (match step { State.reset with pending := [.snap, .safeIn] } with
     | .next t => t.pending
     | _ => []) = [.safeIn] := by decide +kernel

/-! ### States and operands that meet the hypotheses of the statements -/

/-- A reflected CRC step keeps the register within 32 bits. -/
theorem crcSteps_lt (p : Nat) (hp : p < 2 ^ 32) : ∀ n c : Nat, c < 2 ^ 32 → crcSteps p n c < 2 ^ 32
  | 0, _, h => h
  | n + 1, c, h => by
    refine crcSteps_lt p hp n _ ?_
    split
    · exact Nat.xor_lt_two_pow (by omega) hp
    · omega

/-- A CRC-32C fits 32 bits. -/
theorem crc32c_lt (bs : Bytes) : crc32c bs < 2 ^ 32 := by
  have h : ∀ (l : Bytes) (c : Nat), c < 2 ^ 32 →
      l.foldl (fun c b => crcSteps 0x82F63B78 8 (c ^^^ b.toNat)) c < 2 ^ 32 := by
    intro l
    induction l with
    | nil => exact fun c h => h
    | cons b t ih =>
      intro c h
      exact ih _ (crcSteps_lt _ (by decide) _ _ (Nat.xor_lt_two_pow h (by have := b.isLt; omega)))
  exact Nat.xor_lt_two_pow (h bs _ (by decide)) (by decide)

theorem leVal_leBytes : ∀ n v : Nat, v < 256 ^ n → leVal (leBytes n v) = v
  | 0, v, h => by simp at h; simp [leBytes, leVal, h]
  | n + 1, v, h => by
    have : v / 256 < 256 ^ n := Nat.div_lt_of_lt_mul (by rw [Nat.pow_succ] at h; omega)
    simp only [leBytes, leVal, leVal_leBytes n _ this, BitVec.toNat_ofNat]
    omega

theorem leBytes_length : ∀ n v : Nat, (leBytes n v).length = n
  | 0, _ => rfl
  | n + 1, v => by simp [leBytes, leBytes_length n]

theorem tab_crc (h : Bytes) (hl : h.length = 60) : leAt (tab h) 60 4 = crc32c (h ++ List.replicate 4096 0) := by
  have e : ((tab h).drop 60).take 4 = leBytes 4 (crc32c (h ++ List.replicate 4096 0)) := by
    rw [tab, List.append_assoc, List.drop_left' hl, List.take_left' (leBytes_length 4 _)]
  rw [leAt, e, leVal_leBytes 4 _ (by have := crc32c_lt (h ++ List.replicate 4096 0); omega)]

theorem tab_body (h : Bytes) (hl : h.length = 60) :
    (tab h).take 60 ++ ((tab h).drop 64).take 4096 = h ++ List.replicate 4096 0 := by
  have h1 : (tab h).take 60 = h := by rw [tab, List.append_assoc, List.take_left' hl]
  have h2 : (tab h).drop 64 = List.replicate 4096 0 := by
    rw [tab, List.drop_left' (by rw [List.length_append, hl, leBytes_length])]
  rw [h1, h2, List.take_of_length_le (by rw [List.length_replicate])]

/-- Bytes written to empty memory read back, with zeros behind them. -/
theorem read_written (bs : Bytes) (n : Nat) (hb : bs.length ≤ n) (hs : bs.length < 2 ^ 30) :
    memRead 0 (memWrite 0 0 bs []) 0 n = bs ++ List.replicate (n - bs.length) 0 := by
  apply List.ext_getElem (by simp [hb])
  intro i h1 h2
  rw [memRead_getElem _ _ _ (memWrite_wf _ _ (by decide))]
  by_cases h : i < bs.length
  · rw [memGet_memWrite_in 0 0 _ _ i (by omega), List.getElem_append_left h]
  · rw [memGet_memWrite_out 0 0 _ _ _ (by omega), List.getElem_append_right (by omega), List.getElem_replicate]; rfl

theorem read_behind (bs : Bytes) (a n : Nat) (hb : bs.length ≤ a) :
    memRead 0 (memWrite 0 0 bs []) a n = List.replicate n 0 := by
  apply List.ext_getElem (by simp)
  intro i h1 h2
  rw [memRead_getElem _ _ _ (memWrite_wf _ _ (by decide)), memGet_memWrite_out 0 0 _ _ _ (by omega), List.getElem_replicate]
  rfl

theorem tab_read (h : Bytes) (hl : h.length = 60) : memRead 0 (memWrite 0 0 ((tab h).take 64) []) 0 4160 = tab h := by
  have e : (tab h).take 64 = h ++ leBytes 4 (crc32c (h ++ List.replicate 4096 0)) := by
    rw [tab, List.take_left' (by rw [List.length_append, hl, leBytes_length])]
  have el : ((tab h).take 64).length = 64 := by rw [e, List.length_append, hl, leBytes_length]
  rw [read_written _ _ (by omega) (by omega), el, e]
  rfl

theorem WTAB_code : energyCode WTAB WCRC false = 0 := by
  have h0 : leAt WTAB 0 4 = 0x4C425445 := by decide +kernel
  have h4 : byteAt WTAB 4 = 1 := by decide +kernel
  have h8 : leAt WTAB 8 8 = 0 := by decide +kernel
  have hm : bitList 64 0 = [] := by decide
  have hc : leAt WTAB 60 4 = WCRC := tab_crc _ rfl
  have hb : crc32c (WTAB.take 60 ++ (WTAB.drop 64).take 4096) = WCRC := congrArg crc32c (tab_body _ rfl)
  simp only [energyCode, h0, h4, h8, hm, hb, hc, List.all_nil]
  simp

theorem WTAB_read : memRead 0 (memWrite 0 0 (WTAB.take 64) []) 0 4160 = WTAB := tab_read _ rfl

theorem STAB_code : sigCode (tab STAB0) 0 false = 0 := by
  have h0 : leAt (tab STAB0) 0 4 = 0x47495353 := by decide +kernel
  have h4 : byteAt (tab STAB0) 4 = 1 := by decide +kernel
  have h8 : leAt (tab STAB0) 8 8 = 0 := by decide +kernel
  have hz : (zeroRange (tab STAB0) 5 3 && zeroRange (tab STAB0) 16 44) = true := by decide +kernel
  have hm : bitList 64 0 = [] := by decide
  have hc : leAt (tab STAB0) 60 4 = crc32c ((tab STAB0).take 60 ++ ((tab STAB0).drop 64).take 4096) := by
    rw [tab_body STAB0 rfl, tab_crc STAB0 rfl]
  simp only [sigCode, h0, h4, h8, hz, hm, hc, List.all_nil]
  simp

theorem MHB_read : memRead 0 (memWrite 0 0 MHB []) 0 320 = MHB ++ List.replicate 244 0 :=
  read_written MHB 320 (by decide +kernel) (by decide +kernel)

theorem MHB_crc : leAt (MHB ++ List.replicate 244 0) 72 4 = crc32c (List.replicate 8192 0) := by
  have e : ((MHB ++ List.replicate 244 0).drop 72).take 4 = leBytes 4 (crc32c (List.replicate 8192 0)) := by
    rw [MHB, List.append_assoc, List.drop_left' (by decide : _ = 72), List.take_left' (leBytes_length 4 _)]
  rw [leAt, e, leVal_leBytes 4 _ (by have := crc32c_lt (List.replicate 8192 0); omega)]

theorem testBlock_payload : (testBlock.drop 12).take 32768 = List.replicate 32768 0 := by
  have h : testBlock.drop 12 = List.replicate 32772 0 := by
    rw [testBlock, List.drop_left' (by rfl)]
  rw [h, List.take_replicate]; rfl

theorem testBlock_decodes : decodeBlock true false 32784 testBlock = .ok (List.replicate 32768 0) := by
  have h1 : headerCode testBlock true 32784 = 0 := by decide +kernel
  have h2 : leAt testBlock 4 4 = 32768 := by decide +kernel
  have h3 : leAt testBlock 8 4 = 32768 := by decide +kernel
  have h4 : byteAt testBlock 2 % 2 = 1 := by decide +kernel
  simp only [decodeBlock, h1, h2, h3, h4, testBlock_payload]
  rfl

theorem witness_RegisterWriteGuarded_0 :
    (fun (s : State) (master v : Nat) (internal : Bool) => (s.live) ∧ (s.dev.pageOff 1 = false) ∧ (s.dev.is (Reg.HDR.LEVEL 1) = true) ∧ (v < 2 ^ 32)) (st [(Reg.HDR.LEVEL 1, 1)]) 2 300 false := by decide +kernel

theorem witness_RegisterWriteGuarded_1 :
    (fun (s : State) (master v : Nat) (internal : Bool) => (s.live) ∧ (s.dev.pageOff 1 = false) ∧ (s.dev.is (Reg.HDR.LEVEL 1) = false) ∧ (v < 2 ^ 32) ∧ (bits v 15 0 ≠ s.dev.get Reg.CLK.REF_TOL.PPM)) (State.reset) 2 300 false := by decide +kernel

theorem witness_RegisterWriteGuarded_2 :
    (fun (s : State) (master page v : Nat) (internal : Bool) => (s.live) ∧ (Blk.ofPage page = none)) (State.reset) 2 0x1E0 5 false := by decide +kernel

theorem witness_RegisterWriteGuarded_3 :
    (fun (s : State) (master v : Nat) (internal : Bool) => (s.live) ∧ (s.dev.pageOff 1 = true) ∧ (master ≠ 0 ∨ internal = true)) (st [(Reg.HDR.STATE 1, 0)]) 2 300 false := by decide +kernel

theorem witness_RegisterWriteGuarded_4 :
    (fun (s : State) (master addr v : Nat) (internal : Bool) => (s.live) ∧ (addr % 4 = 0)) (State.reset) 33 0x1400 500 true := by decide +kernel

theorem witness_RegisterWriteGuarded_5 :
    (fun (s : State) (master addr v : Nat) (internal : Bool) (d1 : Dev) => (s.live) ∧ (addr % 8 = 0) ∧ (completed { master, internal } (busWrite s.fuse { master, internal } addr (v % 2 ^ 32) s.dev).1 (busWrite s.fuse { master, internal } addr (v % 2 ^ 32) s.dev).2 = d1)) (st [(Reg.HDR.STATE 1, 0)]) 33 0x1400 500 true ((st [(Reg.HDR.STATE 1, 0)]).dev.emit (.completion 33 0x21)) := by decide +kernel

theorem witness_RegisterWriteGuarded_6 :
    (fun (s : State) (master addr size v : Nat) (internal : Bool) => (s.live) ∧ (¬(size = 4 ∧ addr % 4 = 0) ∧ ¬(size = 8 ∧ addr % 8 = 0))) (State.reset) 33 0x1401 4 5 true := by decide +kernel

theorem witness_RegisterReads_0 :
    (fun (s : State) (master : Nat) => (s.live) ∧ (s.dev.pageOff 1 = false)) (State.reset) 2 := by decide +kernel

theorem witness_RegisterReads_1 :
    (fun (s : State) (master : Nat) => (s.live) ∧ (s.dev.pageOff 0 = false)) (st [(Reg.SYS.STALE_CNT.COUNT, 7)]) 2 := by decide +kernel

theorem witness_RegisterReads_2 :
    (fun (s : State) (master addr size v code : Nat) (d1 : Dev) => (s.live) ∧ (busRead s.fuse { master, internal := false } (addr / 4 * 4) s.dev = (v, code, d1)) ∧ (¬(size = 8 ∧ addr % 8 = 0))) (st [(Reg.HDR.STATE 1, 0)]) 33 0x1400 4 0 0 (st [(Reg.HDR.STATE 1, 0)]).dev := by decide +kernel

theorem witness_RegisterReads_3 :
    (fun (s : State) (master addr v code h hcode : Nat) (d1 d2 : Dev) => (s.live) ∧ (addr % 8 = 0) ∧ (busRead s.fuse { master, internal := false } addr s.dev = (v, code, d1)) ∧ (busRead s.fuse { master, internal := false } (addr + 4) d1 = (h, hcode, d2))) (st [(Reg.HDR.STATE 1, 0)]) 33 0x1400 0 0 0 0 (st [(Reg.HDR.STATE 1, 0)]).dev (st [(Reg.HDR.STATE 1, 0)]).dev := by decide +kernel

theorem witness_RegisterReads_4 :
    (fun (s : State) (master addr size v code : Nat) (d1 : Dev) => (s.live) ∧ (busRead s.fuse { master, internal := false } (addr / 4 * 4) s.dev = (v, code, d1)) ∧ (¬(size = 8 ∧ addr % 8 = 0))) (st [(Reg.HDR.STATE 1, 0)]) 33 0x1400 4 0 0 (st [(Reg.HDR.STATE 1, 0)]).dev := by decide +kernel

theorem witness_RegisterReads_5 :
    (fun (s : State) (master addr v code h hcode : Nat) (d1 d2 : Dev) => (s.live) ∧ (addr % 8 = 0) ∧ (busRead s.fuse { master, internal := false } addr s.dev = (v, code, d1)) ∧ (busRead s.fuse { master, internal := false } (addr + 4) d1 = (h, hcode, d2))) (st [(Reg.HDR.STATE 1, 0)]) 33 0x1400 0 0 0 0 (st [(Reg.HDR.STATE 1, 0)]).dev (st [(Reg.HDR.STATE 1, 0)]).dev := by decide +kernel

theorem witness_HostWindows_0 :
    (fun (s : State) (addr : Nat) (data : Bytes) => (s.live) ∧ (s.dev.basinUp = true) ∧ (addr % 32 = 0) ∧ (data.length % 32 = 0) ∧ (addr + data.length ≤ basinSize)) (st [(Reg.HDR.STATE (pg .BAS 0), 2), (Reg.SYS.BRINGUP.BASIN_READY, 1)]) 64 (List.replicate 32 5) := by decide +kernel

theorem witness_HostWindows_1 :
    (fun (s : State) (addr len : Nat) => (s.live) ∧ (s.dev.basinUp = true) ∧ (addr + len ≤ basinSize) ∧ (s.dev.badSectors addr len = [])) (st [(Reg.HDR.STATE (pg .BAS 0), 2), (Reg.SYS.BRINGUP.BASIN_READY, 1)]) 64 40 := by decide +kernel

theorem witness_HostWindows_2 :
    (fun (s : State) (addr v : Nat) => (s.live) ∧ (addr % 4 = 0) ∧ (addr + 4 ≤ 2 ^ 25) ∧ (s.dev.inRun (pg .SHL 0) = true) ∧ (s.dev.printing = false)) (st [(Reg.HDR.STATE (pg .SHL 0), 2)]) 8 0x12345678 := by decide +kernel

theorem witness_HostWindows_3 :
    (fun (s : State) (addr : Nat) => (s.live) ∧ (addr % 4 = 0) ∧ (addr + 4 ≤ 2 ^ 25) ∧ (s.dev.inRun (pg .SHL 0) = true) ∧ (s.dev.mem.shlUe.contains (addr / 8) = false)) (st [(Reg.HDR.STATE (pg .SHL 0), 2)]) 8 := by decide +kernel

theorem witness_HostWindows_4 :
    (fun (s : State) (down : Bool) => (s.live)) (State.reset) true := by decide +kernel

theorem witness_HostWindows_5 :
    (fun (s : State) (l : Nat × Nat × List Nat) => (s.live) ∧ (s.dev.prt.lost.find? (fun x => x.2.2.all s.dev.portAtBoundary) = some l)) (st [] fun d => { d with prt := { d.prt with lost := [(0x10, 0, [0])] } }) (0x10, 0, [0]) := by decide +kernel

theorem witness_HostWindows_6 :
    (fun (s : State) (down : Bool) => (s.live)) (State.reset) true := by decide +kernel

theorem witness_HostWindows_7 :
    (fun (s : State)  => (s.live) ∧ (s.dev.prt.lost.find? (fun x => x.2.2.all s.dev.portAtBoundary) = none)) (State.reset) := by decide +kernel

theorem witness_HostWindows_8 :
    (fun (s : State) (addr len err late : Nat) (write : Bool) (data : Bytes) => (s.live) ∧ (basinSize < addr + (if write = true then data.length else len))) (State.reset) basinSize 1 0 0 true [1] := by decide +kernel

theorem witness_HostWindows_9 :
    (fun (s : State) (addr len err late : Nat) (write : Bool) (data : Bytes) => (s.live) ∧ (addr + (if write = true then data.length else len) ≤ basinSize) ∧ (s.dev.basinUp = false)) (State.reset) 64 1 0 0 false [1] := by decide +kernel

theorem witness_HostWindows_10 :
    (fun (s : State) (addr len err late : Nat) (data : Bytes) => (s.live) ∧ (addr + data.length ≤ basinSize) ∧ (s.dev.basinUp = true)) (st [(Reg.HDR.STATE (pg .BAS 0), 2), (Reg.SYS.BRINGUP.BASIN_READY, 1)]) 64 1 0 3 [1] := by decide +kernel

theorem witness_HostWindows_11 :
    (fun (s : State) (addr len err late : Nat) (data : Bytes) => (s.live) ∧ (addr + len ≤ basinSize) ∧ (s.dev.basinUp = true)) (st [(Reg.HDR.STATE (pg .BAS 0), 2), (Reg.SYS.BRINGUP.BASIN_READY, 1)]) 64 40 2 3 [] := by decide +kernel

theorem witness_HostWindows_12 :
    (fun (s : State) (addr size v err : Nat) => (s.live) ∧ (size ≠ 4) ∧ (size ≠ 8)) (State.reset) 8 2 5 0 := by decide +kernel

theorem witness_HostWindows_13 :
    (fun (s : State) (addr size v err : Nat) => (s.live) ∧ (size ≠ 4) ∧ (size ≠ 8)) (State.reset) 8 2 5 0 := by decide +kernel

theorem witness_HostWindows_14 :
    (fun (s : State) (addr size v err : Nat) (write : Bool) => (s.live) ∧ (size = 4 ∨ size = 8) ∧ (addr < 0x2000000) ∧ (2 ^ 25 < addr + size)) (State.reset) 0x1FFFFFD 8 5 0 true := by decide +kernel

theorem witness_HostWindows_15 :
    (fun (s : State) (addr size v err : Nat) (write : Bool) => (s.live) ∧ (size = 4 ∨ size = 8) ∧ (addr + size ≤ 2 ^ 25) ∧ (s.dev.inRun (pg .SHL 0) = false)) (st [(Reg.HDR.STATE (pg .SHL 0), 0)]) 8 8 5 0 true := by decide +kernel

theorem witness_HostWindows_16 :
    (fun (s : State) (addr size v err : Nat) => (s.live) ∧ (size = 4 ∨ size = 8) ∧ (addr + size ≤ 2 ^ 25) ∧ (s.dev.inRun (pg .SHL 0) = true)) (st [(Reg.HDR.STATE (pg .SHL 0), 2)]) 8 8 5 0 := by decide +kernel

theorem witness_HostWindows_17 :
    (fun (s : State) (addr size v err : Nat) => (s.live) ∧ (size = 4 ∨ size = 8) ∧ (addr + size ≤ 2 ^ 25) ∧ (s.dev.inRun (pg .SHL 0) = true)) (st [(Reg.HDR.STATE (pg .SHL 0), 2)]) 8 8 5 2 := by decide +kernel

theorem witness_HostWindows_18 :
    (fun (s : State) (addr size v err : Nat) (write : Bool) => (s.live) ∧ (size = 4 ∨ size = 8) ∧ (0x2000000 ≤ addr) ∧ (addr < 0x2100000)) (State.reset) 0x2000040 8 0 0 false := by decide +kernel

theorem witness_HostWindows_19 :
    (fun (s : State) (addr v err : Nat) => (s.live) ∧ (0x2100000 ≤ addr) ∧ (msixAt (addr / 4 * 4) = true)) (State.reset) 0x3FF0004 77 0 := by decide +kernel

theorem witness_HostWindows_20 :
    (fun (s : State) (addr v err : Nat) => (s.live) ∧ (0x2100000 ≤ addr) ∧ (msixAt (addr / 4 * 4) = true) ∧ (msixAt (addr / 4 * 4 + 4) = true)) (State.reset) 0x3FF0000 77 0 := by decide +kernel

theorem witness_HostWindows_21 :
    (fun (s : State) (addr size v err : Nat) => (s.live) ∧ (size = 4 ∨ size = 8) ∧ (0x2100000 ≤ addr) ∧ (msixAt (addr / 4 * 4) = false ∨ (size = 8 ∧ msixAt (addr / 4 * 4 + 4) = false))) (State.reset) 0x3000000 8 77 0 := by decide +kernel

theorem witness_HostWindows_22 :
    (fun (s : State) (addr size v err : Nat) => (s.live) ∧ (size = 4 ∨ size = 8) ∧ (0x2100000 ≤ addr)) (State.reset) 0x3FF0000 8 77 0 := by decide +kernel

theorem witness_LevelWindow_0 :
    (fun (s : State)  => (s.live) ∧ (s.dev.pageOff 0 = false)) (State.reset) := by decide +kernel

theorem witness_LevelWindow_1 :
    (fun (s : State) (key : Nat) => (s.live) ∧ (s.dev.pageOff 0 = false) ∧ (key < 2 ^ 32) ∧ (key % 65536 ≠ 0xE7A1)) (State.reset) 5 := by decide +kernel

theorem witness_LevelWindow_2 :
    (fun (s : State) (t : Nat) => (s.live) ∧ (s.dev.due .levelWindow = some t)) (st [] (·.arm .levelWindow ms)) ms := by decide +kernel

theorem witness_LevelWindow_3 :
    (fun (s : State) (page : Nat) => (s.live) ∧ ((Blk.ofPage page).isSome = true) ∧ (s.dev.is (Reg.HDR.LEVEL page) = false) ∧ (s.dev.running .levelWindow = true)) (st [] (·.arm .levelWindow ms)) 1 := by decide +kernel

theorem witness_LevelWindow_4 :
    (fun (s : State) (page : Nat) => (s.live) ∧ ((Blk.ofPage page).isSome = true) ∧ (s.dev.is (Reg.HDR.LEVEL page) = true)) (st [(Reg.HDR.LEVEL 1, 1)]) 1 := by decide +kernel

theorem witness_LevelWindow_5 :
    (fun (s : State) (page : Nat) => (s.live) ∧ ((Blk.ofPage page).isSome = true) ∧ (s.dev.is (Reg.HDR.LEVEL page) = false) ∧ (s.dev.running .levelWindow = false)) (State.reset) 1 := by decide +kernel

theorem witness_LevelWindow_6 :
    (fun (s : State)  => (s.live) ∧ (s.dev.due .levelWindow = none)) (State.reset) := by decide +kernel

theorem witness_LevelWindow_7 :
    (fun (s : State) (page : Nat) (v : Bool) => (s.live) ∧ (Blk.ofPage page = none ∨ s.dev.is (Reg.HDR.LEVEL page) = v)) (State.reset) 1 false := by decide +kernel

theorem witness_LevelWindow_8 :
    (fun (s : State) (key : Nat) => (s.live) ∧ (s.dev.pageOff 0 = true)) (st [(Reg.HDR.STATE 0, 0)]) 5 := by decide +kernel

theorem witness_BlockStops_0 :
    (fun (s : State) (page n : Nat) (b : Blk) => (s.live) ∧ (Blk.ofPage page = some (b, n)) ∧ (b ∈ [Blk.TRN, Blk.DMAC, Blk.CMPC, Blk.ENCC]) ∧ (s.dev.blk page = 2) ∧ (s.dev.enabled page = true) ∧ (aget page s.dev.stopping = none)) (st [(Reg.HDR.STATE 0x1F, 2), (Reg.HDR.ENABLE 0x1F, 1), (Reg.HDR.EPOCH 0x1F, 15), (Reg.HDR.LEVEL 0x1F, 1)]) 0x1F 0 .DMAC := by decide +kernel

theorem witness_BlockStops_1 :
    (fun (s : State) (page n : Nat) (b : Blk) => (s.live) ∧ (Blk.ofPage page = some (b, n)) ∧ (b ∈ [Blk.TRN, Blk.DMAC, Blk.CMPC, Blk.ENCC]) ∧ (s.dev.blk page = 1)) (st [(Reg.HDR.STATE 0x1F, 1)]) 0x1F 0 .DMAC := by decide +kernel

theorem witness_BlockStops_2 :
    (fun (s : State) (page n : Nat) (b : Blk) => (s.live) ∧ (Blk.ofPage page = some (b, n)) ∧ (b ∈ [Blk.TRN, Blk.DMAC, Blk.CMPC, Blk.ENCC]) ∧ (aget page s.dev.stopping = some .enable)) (st [(Reg.HDR.STATE 0x1F, 2)] fun d => { d with stopping := [(0x1F, .enable)] }) 0x1F 0 .DMAC := by decide +kernel

theorem witness_BlockStops_3 :
    (fun (s : State) (page n : Nat) (b : Blk) => (s.live) ∧ (Blk.ofPage page = some (b, n)) ∧ (b ∈ [Blk.TRN, Blk.DMAC, Blk.CMPC, Blk.ENCC]) ∧ (s.dev.stoppable page = true) ∧ (aget page s.dev.stopping = none)) (st [(Reg.HDR.STATE 0x1F, 2), (Reg.HDR.ENABLE 0x1F, 1), (Reg.HDR.EPOCH 0x1F, 15), (Reg.HDR.LEVEL 0x1F, 1)]) 0x1F 0 .DMAC := by decide +kernel

theorem witness_BlockStops_4 :
    (fun (s : State)  => (s.live) ∧ (s.dev.stoppable 0x1F = true) ∧ (aget 0x1F s.dev.stopping = none)) (st [(Reg.HDR.STATE 0x1F, 2), (Reg.HDR.ENABLE 0x1F, 1), (Reg.HDR.EPOCH 0x1F, 15), (Reg.HDR.LEVEL 0x1F, 1)]) := by decide +kernel

theorem witness_BlockStops_5 :
    (fun (s : State) (page n : Nat) (b : Blk) => (s.live) ∧ (Blk.ofPage page = some (b, n)) ∧ (b ∈ [Blk.TRN, Blk.DMAC, Blk.CMPC, Blk.ENCC]) ∧ (s.dev.stoppable page = true) ∧ (aget page s.dev.stopping = none)) ({ st [(Reg.HDR.STATE 0x1F, 2), (Reg.HDR.ENABLE 0x1F, 1), (Reg.HDR.EPOCH 0x1F, 15), (Reg.HDR.LEVEL 0x1F, 1)] with dev := (st [(Reg.HDR.STATE 0x1F, 2), (Reg.HDR.ENABLE 0x1F, 1), (Reg.HDR.EPOCH 0x1F, 15), (Reg.HDR.LEVEL 0x1F, 1)]).dev.request 0x1F }) 0x1F 0 .DMAC := by decide +kernel

theorem witness_BlockStops_6 :
    (fun (s : State) (page n : Nat) (b : Blk) (t : Nat) => (s.live) ∧ (Blk.ofPage page = some (b, n)) ∧ (b ∈ [Blk.TRN, Blk.DMAC, Blk.CMPC, Blk.ENCC]) ∧ (aget page s.dev.stopping = some .drain) ∧ (s.dev.due (.drain page) = some t)) (st [(Reg.HDR.STATE 0x1F, 3)] fun d => { d with stopping := [(0x1F, .drain)] }.arm (.drain 0x1F) ms) 0x1F 0 .DMAC ms := by decide +kernel

theorem witness_BlockStops_7 :
    (fun (s : State) (page n : Nat) (b : Blk) => (s.live) ∧ (Blk.ofPage page = some (b, n)) ∧ (b.neverStops = true)) (State.reset) 0 0 .SYS := by decide +kernel

theorem witness_BlockStops_8 :
    (fun (s : State) (page : Nat) => (s.live) ∧ (∀ x ∈ Blk.ofPage page, x.1.neverStops = true)) (State.reset) 0 := by decide +kernel

theorem witness_BlockStops_9 :
    (fun (s : State) (page : Nat) => (s.live) ∧ (∀ x ∈ Blk.ofPage page, x.1.neverStops = true)) (State.reset) 0 := by decide +kernel

theorem witness_BlockStops_10 :
    (fun (s : State) (page : Nat) => (s.live) ∧ (∀ x ∈ Blk.ofPage page, x.1.neverStops = true)) (State.reset) 0 := by decide +kernel

theorem witness_BlockStops_11 :
    (fun (s : State) (page : Nat) => (s.live) ∧ (∀ x ∈ Blk.ofPage page, x.1.neverStops = true)) (State.reset) 0 := by decide +kernel

theorem witness_BlockStops_12 :
    (fun (s : State) (page : Nat) => (s.live) ∧ (∀ x ∈ Blk.ofPage page, x.1.neverStops = true)) (State.reset) 0 := by decide +kernel

theorem witness_BlockStops_13 :
    (fun (s : State) (page : Nat) => (s.live) ∧ (Blk.ofPage page = none ∨ aget page s.dev.stopping = none)) (State.reset) 0 := by decide +kernel

theorem witness_BlockStops_14 :
    (fun (s : State) (page n : Nat) (b : Blk) (d1 : Dev) => (s.live) ∧ (Blk.ofPage page = some (b, n)) ∧ (b.neverStops = false) ∧ (portSync b (s.dev.put (Reg.HDR.ENABLE page) false) = d1) ∧ (s.dev.enabled page = true) ∧ ((s.dev.blk page = 1 ∨ s.dev.blk page = 2 ∨ s.dev.blk page = 4))) (WBS) 0x1F 0 .DMAC (portSync .DMAC (WBS.dev.put (Reg.HDR.ENABLE 0x1F) false)) := by decide +kernel

theorem witness_BlockStops_15 :
    (fun (s : State) (page n : Nat) (b : Blk) (d1 : Dev) => (s.live) ∧ (Blk.ofPage page = some (b, n)) ∧ (b.neverStops = false) ∧ (portSync b (s.dev.put (Reg.HDR.ENABLE page) false) = d1) ∧ (s.dev.enabled page = false ∨ ¬(s.dev.blk page = 1 ∨ s.dev.blk page = 2 ∨ s.dev.blk page = 4))) (WBO) 0x1F 0 .DMAC (portSync .DMAC (WBO.dev.put (Reg.HDR.ENABLE 0x1F) false)) := by decide +kernel

theorem witness_BlockStops_16 :
    (fun (s : State) (page n : Nat) (b : Blk) (d1 : Dev) => (s.live) ∧ (Blk.ofPage page = some (b, n)) ∧ (b.neverStops = false) ∧ (portSync b (s.dev.put (Reg.HDR.ENABLE page) true) = d1) ∧ (s.dev.blk page = 6)) (WBO) 0x1F 0 .DMAC (portSync .DMAC (WBO.dev.put (Reg.HDR.ENABLE 0x1F) true)) := by decide +kernel

theorem witness_BlockStops_17 :
    (fun (s : State) (page n : Nat) (b : Blk) (d1 : Dev) => (s.live) ∧ (Blk.ofPage page = some (b, n)) ∧ (b.neverStops = false) ∧ (({ (portSync b (s.dev.put (Reg.HDR.ENABLE page) true)) with stopping := adel page (portSync b (s.dev.put (Reg.HDR.ENABLE page) true)).stopping } : Dev).disarm (.drain page) = d1) ∧ ((s.dev.blk page = 1 ∨ s.dev.blk page = 2 ∨ s.dev.blk page = 4)) ∧ (s.dev.blk page = 2) ∧ (s.dev.enabled page = true) ∧ (aget page s.dev.stopping = none)) (WBS) 0x1F 0 .DMAC (({ (portSync .DMAC (WBS.dev.put (Reg.HDR.ENABLE 0x1F) true)) with stopping := [] } : Dev).disarm (.drain 0x1F)) := by decide +kernel

theorem witness_BlockStops_18 :
    (fun (s : State) (page n : Nat) (b : Blk) (d1 : Dev) => (s.live) ∧ (Blk.ofPage page = some (b, n)) ∧ (b.neverStops = false) ∧ (({ (portSync b (s.dev.put (Reg.HDR.ENABLE page) true)) with stopping := adel page (portSync b (s.dev.put (Reg.HDR.ENABLE page) true)).stopping } : Dev).disarm (.drain page) = d1) ∧ ((s.dev.blk page = 1 ∨ s.dev.blk page = 2 ∨ s.dev.blk page = 4)) ∧ (s.dev.blk page ≠ 2 ∨ s.dev.enabled page = false ∨ (aget page s.dev.stopping).isSome = true)) (WBI) 0x1F 0 .DMAC (({ (portSync .DMAC (WBI.dev.put (Reg.HDR.ENABLE 0x1F) true)) with stopping := [] } : Dev).disarm (.drain 0x1F)) := by decide +kernel

theorem witness_BlockStops_19 :
    (fun (s : State) (page n : Nat) (b : Blk) (d1 : Dev) => (s.live) ∧ (Blk.ofPage page = some (b, n)) ∧ (b.neverStops = false) ∧ (portSync b (s.dev.put (Reg.HDR.ENABLE page) true) = d1) ∧ (s.dev.blk page ≠ 6) ∧ (¬(s.dev.blk page = 1 ∨ s.dev.blk page = 2 ∨ s.dev.blk page = 4))) (WB5) 0x1F 0 .DMAC (portSync .DMAC (WB5.dev.put (Reg.HDR.ENABLE 0x1F) true)) := by decide +kernel

theorem witness_BlockStops_20 :
    (fun (s : State) (page n : Nat) (b : Blk) => (s.live) ∧ (Blk.ofPage page = some (b, n)) ∧ (b.neverStops = false) ∧ (s.dev.stoppable page = true)) (WBS) 0x1F 0 .DMAC := by decide +kernel

theorem witness_BlockStops_21 :
    (fun (s : State) (page n : Nat) (b : Blk) => (s.live) ∧ (Blk.ofPage page = some (b, n)) ∧ (b.neverStops = false) ∧ (s.dev.blk page = 6)) (WBO) 0x1F 0 .DMAC := by decide +kernel

theorem witness_BlockStops_22 :
    (fun (s : State) (page n : Nat) (b : Blk) => (s.live) ∧ (Blk.ofPage page = some (b, n)) ∧ (b.neverStops = false) ∧ (s.dev.stoppable page = false) ∧ (s.dev.blk page ≠ 6)) (WB5) 0x1F 0 .DMAC := by decide +kernel

theorem witness_BlockStops_23 :
    (fun (s : State) (page n : Nat) (b : Blk) => (s.live) ∧ (Blk.ofPage page = some (b, n)) ∧ (b.neverStops = false) ∧ (s.dev.stoppable page = true)) (WBS) 0x1F 0 .DMAC := by decide +kernel

theorem witness_BlockStops_24 :
    (fun (s : State) (page n : Nat) (b : Blk) => (s.live) ∧ (Blk.ofPage page = some (b, n)) ∧ (b.neverStops = false) ∧ (s.dev.blk page = 6 ∨ s.dev.blk page = 7)) (WBO) 0x1F 0 .DMAC := by decide +kernel

theorem witness_BlockStops_25 :
    (fun (s : State) (page n : Nat) (b : Blk) => (s.live) ∧ (Blk.ofPage page = some (b, n)) ∧ (b.neverStops = false) ∧ (s.dev.stoppable page = false) ∧ (s.dev.blk page ≠ 6) ∧ (s.dev.blk page ≠ 7)) (WB5) 0x1F 0 .DMAC := by decide +kernel

theorem witness_BlockStops_26 :
    (fun (s : State) (page n : Nat) (b : Blk) (d0 d1 : Dev) => (s.live) ∧ (Blk.ofPage page = some (b, n)) ∧ (b.neverStops = false) ∧ (s.dev.stoppable page = true) ∧ (((({ s.dev with stopping := adel page s.dev.stopping } : Dev).disarm (.drain page)).put (Reg.HDR.SOFT_RESET page) false).put (Reg.HDR.DRAIN page) false = d0) ∧ (onKill b n (markAborted b n (d0.abortAll page)) = d1)) (WBS) 0x1F 0 .DMAC (((({ WBS.dev with stopping := [] } : Dev).disarm (.drain 0x1F)).put (Reg.HDR.SOFT_RESET 0x1F) false).put (Reg.HDR.DRAIN 0x1F) false) (onKill .DMAC 0 (markAborted .DMAC 0 ((((({ WBS.dev with stopping := [] } : Dev).disarm (.drain 0x1F)).put (Reg.HDR.SOFT_RESET 0x1F) false).put (Reg.HDR.DRAIN 0x1F) false).abortAll 0x1F))) := by decide +kernel

theorem witness_BlockStops_27 :
    (fun (s : State) (page n : Nat) (b : Blk) => (s.live) ∧ (Blk.ofPage page = some (b, n)) ∧ (b.neverStops = false) ∧ (s.dev.stoppable page = false)) (WBO) 0x1F 0 .DMAC := by decide +kernel

theorem witness_BlockStops_28 :
    (fun (s : State) (page n : Nat) (b : Blk) (why : Stopping) => (s.live) ∧ (Blk.ofPage page = some (b, n)) ∧ (aget page s.dev.stopping = some why) ∧ (s.dev.working n b = true ∨ (why = Stopping.off ∧ s.dev.boundTo n b = true))) (WBW2) 0x22 2 .DMA .drain := by decide +kernel

theorem witness_BlockStops_29 :
    (fun (s : State) (page n : Nat) (b : Blk) (why : Stopping) => (s.live) ∧ (Blk.ofPage page = some (b, n)) ∧ (aget page s.dev.stopping = some why) ∧ (s.dev.working n b = false) ∧ (why = Stopping.off → s.dev.boundTo n b = false)) (WBK) 0x1F 0 .DMAC .drain := by decide +kernel

theorem witness_BlockStops_30 :
    (fun (s : State) (page : Nat) => (s.live) ∧ (aget page s.dev.stopping = none ∨ s.dev.due (.drain page) = none ∨ Blk.ofPage page = none)) (State.reset) 0x1F := by decide +kernel

theorem witness_BlockStops_31 :
    (fun (s : State) (page n : Nat) (b : Blk) (t : Nat) (why : Stopping) (d1 : Dev) => (s.live) ∧ (Blk.ofPage page = some (b, n)) ∧ (aget page s.dev.stopping = some why) ∧ (s.dev.due (.drain page) = some t) ∧ (onTimeout b n (markAborted b n (((s.dev.advanceTo t).disarm (.drain page)).abortAll page)) = d1)) (WBT) 0x1F 0 .DMAC 9 .drain (onTimeout .DMAC 0 (markAborted .DMAC 0 (((WBT.dev.advanceTo 9).disarm (.drain 0x1F)).abortAll 0x1F))) := by decide +kernel

theorem witness_ChannelsAndReplies_0 :
    (fun (s : State) (n expect tag : Nat) => (s.live) ∧ (n < 32) ∧ (expect < 256) ∧ (tag < 256) ∧ (s.dev.pageOff (0x20 + n) = false) ∧ (s.dev.get (Reg.DMA.OWNER.TAG n) = expect) ∧ (tag ≠ 0xFF) ∧ (tag ≠ 0)) (State.reset) 3 0 5 := by decide +kernel

theorem witness_ChannelsAndReplies_1 :
    (fun (s : State) (n expect tag : Nat) => (s.live) ∧ (n < 32) ∧ (expect < 256) ∧ (tag < 256) ∧ (s.dev.pageOff (0x20 + n) = false) ∧ (s.dev.get (Reg.DMA.OWNER.TAG n) ≠ expect)) (State.reset) 3 1 5 := by decide +kernel

theorem witness_ChannelsAndReplies_2 :
    (fun (s : State) (client : Nat) => (s.live) ∧ (s.dev.pageOff 0x1F = false) ∧ (client < 256) ∧ (client ≠ 0) ∧ (client ≠ 255)) (st [(Reg.HDR.STATE 0x1F, 2), (Reg.DMA.OWNER.TAG 2, 5), (Reg.DMA.OWNER.TAG 3, 6), (Reg.HDR.STATE 0x22, 2)] fun d => d.setDma 2 { DmaChan.init with run := true }) 5 := by decide +kernel

theorem witness_ChannelsAndReplies_3 :
    (fun (s : State) (dom t : Nat) => (s.live) ∧ (s.dev.due (.domainWait dom) = some t) ∧ (s.dev.stopping = [])) (st [(Reg.HDR.STATE 0x22, 2)] fun d => (d.setDma 2 { DmaChan.init with run := true, move := some { srcSp := 0, dstSp := 1, src := 128, dst := 64, len := 4, at_ := 0 } }).arm (.domainWait 0) ms) 0 ms := by decide +kernel

theorem witness_ChannelsAndReplies_4 :
    (fun (s : State) (page seq : Nat) => (s.live) ∧ (s.dev.bus.reqs.contains { page, epoch := s.dev.get (Reg.HDR.EPOCH page), seq } = true)) (st [] (·.request 0x20)) 0x20 0 := by decide +kernel

theorem witness_ChannelsAndReplies_5 :
    (fun (s : State) (page epoch seq : Nat) => (s.live) ∧ (epoch ≠ s.dev.get (Reg.HDR.EPOCH page))) (State.reset) 0x20 4 0 := by decide +kernel

theorem witness_ChannelsAndReplies_6 :
    (fun (s : State) (dom t page n : Nat) (b : Blk) => (s.live) ∧ (s.dev.due (.domainWait dom) = some t) ∧ (Blk.ofPage page = some (b, n)) ∧ (b ∈ [Blk.TRN, Blk.DMAC, Blk.CMPC, Blk.ENCC]) ∧ (b.domain n = some dom) ∧ (s.dev.stopping = [(page, .off)]) ∧ ((List.range 32).all (fun n => !s.dev.dmaBound dom n) = true)) (st [(Reg.HDR.STATE (pg .CMPC 0), 3)] fun d => ({ d with stopping := [(pg .CMPC 0, .off)] }).arm (.domainWait 8) ms) 8 ms (pg .CMPC 0) 0 .CMPC := by decide +kernel

theorem witness_ChannelsAndReplies_7 :
    (fun (s : State) (n expect : Nat) => (s.live) ∧ (n < 32) ∧ (expect < 256) ∧ (expect ≠ 0) ∧ (s.dev.pageOff (0x20 + n) = false) ∧ (s.dev.get (Reg.DMA.OWNER.TAG n) = expect) ∧ (s.dev.inRun (0x20 + n) = true) ∧ (s.dev.dmaInBurst n = false)) (st [(Reg.DMA.OWNER.TAG 2, 5), (Reg.HDR.STATE 0x22, 2)]) 2 5 := by decide +kernel

theorem witness_ChannelsAndReplies_8 :
    (fun (s : State) (n expect : Nat) => (s.live) ∧ (n < 32) ∧ (expect < 256) ∧ (s.dev.pageOff (0x20 + n) = false)) (State.reset) 2 5 := by decide +kernel

theorem witness_ChannelsAndReplies_9 :
    (fun (s : State) (client : Nat) => (s.live) ∧ (s.dev.pageOff 0x1F = false) ∧ (client = 0 ∨ client = 255)) (st [(Reg.HDR.STATE 0x1F, 2)]) 255 := by decide +kernel

theorem witness_ChannelsAndReplies_10 :
    (fun (s : State) (n expect : Nat) => (s.live) ∧ (n < 32) ∧ (expect < 256) ∧ (expect ≠ 0) ∧ (s.dev.pageOff (0x20 + n) = false) ∧ (s.dev.get (Reg.DMA.OWNER.TAG n) = expect) ∧ (s.dev.inRun (0x20 + n) = true) ∧ (s.dev.dmaInBurst n = true)) (st [(Reg.HDR.STATE 0x22, 2), (Reg.DMA.OWNER.TAG 2, 5)] fun d => d.setDma 2 { DmaChan.init with run := true, move := some { srcSp := 0, dstSp := 1, src := 128, dst := 64, len := 4, at_ := 2 } }) 2 5 := by decide +kernel

theorem witness_ChannelsAndReplies_11 :
    (fun (s : State) (n expect : Nat) => (s.live) ∧ (n < 32) ∧ (expect < 256) ∧ (s.dev.pageOff (0x20 + n) = false) ∧ (s.dev.get (Reg.DMA.OWNER.TAG n) = expect) ∧ (expect = 0 ∨ s.dev.inRun (0x20 + n) = false)) (State.reset) 3 0 := by decide +kernel

theorem witness_ChannelsAndReplies_12 :
    (fun (s : State) (page seq : Nat) => (s.live) ∧ (s.dev.bus.reqs.contains { page, epoch := s.dev.get (Reg.HDR.EPOCH page), seq } = false)) (State.reset) 0x20 0 := by decide +kernel

theorem witness_ChannelsAndReplies_13 :
    (fun (s : State) (dom t : Nat) => (s.live) ∧ (s.dev.due (.domainWait dom) = some t)) (st [(Reg.HDR.STATE (pg .CMPC 0), 3)] fun d => ({ d with stopping := [(pg .CMPC 0, .off)] }).arm (.domainWait 8) ms) 8 ms := by decide +kernel

theorem witness_ChannelsAndReplies_14 :
    (fun (s : State) (dom : Nat) => (s.live) ∧ (s.dev.due (.domainWait dom) = none)) (State.reset) 8 := by decide +kernel

theorem witness_ChannelsAndReplies_15 :
    (fun (s : State) (i : Nat) => (s.live) ∧ (s.dev.pageOff 0x1F = true)) (st [(Reg.HDR.STATE 0x1F, 0)]) 5 := by decide +kernel

theorem witness_ChannelsAndReplies_16 :
    (fun (s : State) (n e t : Nat) => (s.live) ∧ (s.dev.pageOff (0x20 + n) = true) ∧ (n < 32)) (st [(Reg.HDR.STATE 0x22, 0)]) 2 5 7 := by decide +kernel

theorem witness_EventsAndVectors_0 :
    (fun (s : State) (page mask : Nat) => (s.live) ∧ ((Blk.ofPage page).isSome = true) ∧ (mask < 2 ^ 32)) (st [(Reg.HDR.EV_RAW 0, 7)]) 0 5 := by decide +kernel

theorem witness_EventsAndVectors_1 :
    (fun (s : State) (page mask : Nat) => (s.live) ∧ ((Blk.ofPage page).isSome = true) ∧ (mask < 2 ^ 32)) (State.reset) 0 5 := by decide +kernel

theorem witness_EventsAndVectors_2 :
    (fun (s : State) (page : Nat) => (s.live) ∧ ((Blk.ofPage page).isSome = true)) (st [(Reg.HDR.F_VALID 0, 1), (Reg.HDR.F_COUNT 0, 1)]) 0 := by decide +kernel

theorem witness_EventsAndVectors_3 :
    (fun (s : State) (mask : Nat) => (s.live) ∧ (s.dev.pageOff 4 = false) ∧ (s.dev.blk 4 ≠ 6) ∧ (mask < 2 ^ 64)) (st [(Reg.EVT.VEC_PEND.PEND, 0x300000007)]) 0x200000003 := by decide +kernel

theorem witness_EventsAndVectors_4 :
    (fun (s : State) (v : Nat) => (s.live) ∧ (s.dev.runs (pg .EVT 0) = true) ∧ (v < 64) ∧ (s.dev.bitOf Reg.EVT.VEC_PEND.PEND v = false) ∧ (s.dev.vecRaised v = true) ∧ ((tget MsixEntry.init s.dev.evt.table v).masked = false)) (st [(Reg.HDR.STATE 4, 2), (Reg.HDR.ENABLE 4, 1), (Reg.EVT.VEC_MAP.EN 0 0, 1), (Reg.EVT.SRC_MASK.MASK 0, 0), (Reg.HDR.EV_RAW 0, 1), (Reg.HDR.EV_MASK 0, 0)] fun d => { d with evt := { d.evt with table := [(0, { MsixEntry.init with masked := false })] } }) 0 := by decide +kernel

theorem witness_EventsAndVectors_5 :
    (fun (s : State) (page n mask : Nat) (b : Blk) => (s.live) ∧ (Blk.ofPage page = some (b, n)) ∧ (mask < 2 ^ 32)) (State.reset) 0x20 0 5 .DMA := by decide +kernel

theorem witness_EventsAndVectors_6 :
    (fun (s : State) (page : Nat) => (s.live) ∧ ((Blk.ofPage page).isSome = true)) (st [(Reg.HDR.F_VALID 0, 1), (Reg.HDR.F_COUNT 0, 1)]) 0 := by decide +kernel

theorem witness_EventsAndVectors_7 :
    (fun (s : State) (v : Nat) => (s.live) ∧ (s.dev.vecMay v = false)) (State.reset) 3 := by decide +kernel

theorem witness_EventsAndVectors_8 :
    (fun (s : State) (v : Nat) => (s.live) ∧ (s.dev.vecMay v = true) ∧ ((tget MsixEntry.init s.dev.evt.table v).masked = true)) (st [(Reg.HDR.STATE 4, 2), (Reg.HDR.ENABLE 4, 1), (Reg.EVT.VEC_MAP.EN 0 0, 1), (Reg.EVT.SRC_MASK.MASK 0, 0), (Reg.HDR.EV_RAW 0, 1), (Reg.HDR.EV_MASK 0, 0)]) 0 := by decide +kernel

theorem witness_EventsAndVectors_9 :
    (fun (s : State) (v : Nat) => (s.live) ∧ (s.dev.vecMay v = true) ∧ ((tget MsixEntry.init s.dev.evt.table v).masked = false)) (st [(Reg.HDR.STATE 4, 2), (Reg.HDR.ENABLE 4, 1), (Reg.EVT.VEC_MAP.EN 0 0, 1), (Reg.EVT.SRC_MASK.MASK 0, 0), (Reg.HDR.EV_RAW 0, 1), (Reg.HDR.EV_MASK 0, 0)] fun d => { d with evt := { d.evt with table := [(0, { MsixEntry.init with masked := false })] } }) 0 := by decide +kernel

theorem witness_EventsAndVectors_10 :
    (fun (s : State) (mask : Nat) => (s.live) ∧ (s.dev.blk 4 = 6)) (st [(Reg.HDR.STATE 4, 6)]) 5 := by decide +kernel

theorem witness_EventsAndVectors_11 :
    (fun (s : State) (mask : Nat) => (s.live) ∧ (s.dev.pageOff 4 = true)) (st [(Reg.HDR.STATE 4, 0)]) 5 := by decide +kernel

theorem witness_EventsAndVectors_12 :
    (fun (s : State) (page mask : Nat) => (s.live) ∧ (Blk.ofPage page = none)) (State.reset) 0x3F0 5 := by decide +kernel

theorem witness_ModesAndBringUp_0 :
    (fun (s : State) (mode : Nat) (atLine : Bool) => (s.live) ∧ (s.dev.pageOff 0 = false) ∧ (mode < 6) ∧ (mode ≠ s.dev.mode) ∧ (s.dev.mode ≠ 1) ∧ (s.dev.sec.cmd = none) ∧ (s.dev.modeRefusal mode = none)) (st [(Reg.SYS.MODE_STAT.MODE, 2)]) 0 true := by decide +kernel

theorem witness_ModesAndBringUp_1 :
    (fun (s : State) (mode : Nat) (atLine : Bool) => (s.live) ∧ (s.dev.pageOff 0 = false) ∧ (mode = 6 ∨ mode = 7) ∧ (s.dev.mode ≠ mode)) (State.reset) 7 false := by decide +kernel

theorem witness_ModesAndBringUp_2 :
    (fun (s : State)  => (s.live) ∧ (s.dev.is Reg.SYS.MODE_STAT.PENDING = true) ∧ (s.dev.modeReady = true) ∧ (s.dev.printing = false) ∧ (s.dev.get Reg.SYS.MODE_STAT.TARGET < 2)) (st [(Reg.SYS.MODE_STAT.PENDING, 1), (Reg.SYS.MODE_STAT.TARGET, 1)]) := by decide +kernel

theorem witness_ModesAndBringUp_3 :
    (fun (s : State)  => (s.live) ∧ (s.dev.is Reg.SYS.BRINGUP.CLOCKS_LOCKED = false) ∧ (s.dev.pwr.rootLost = false)) (State.reset) := by decide +kernel

theorem witness_ModesAndBringUp_4 :
    (fun (s : State)  => (s.live) ∧ (s.dev.is Reg.SYS.BRINGUP.CLOCKS_LOCKED = true) ∧ (s.dev.is Reg.SYS.BRINGUP.FUSES_READ = false)) (st [(Reg.SYS.BRINGUP.CLOCKS_LOCKED, 1)]) := by decide +kernel

theorem witness_ModesAndBringUp_5 :
    (fun (s : State) (width speed : Nat) => (s.live) ∧ (s.dev.is Reg.CLK.STAT.PCIE = true)) (st [(Reg.CLK.STAT.PCIE, 1)]) 8 3 := by decide +kernel

theorem witness_ModesAndBringUp_6 :
    (fun (s : State) (mode : Nat) (atLine : Bool) (d0 : Dev) => (s.live) ∧ (s.dev.pageOff 0 = false) ∧ (mode < 8) ∧ ((s.dev.set Reg.SYS.MODE_REQ.MODE mode).put Reg.SYS.MODE_REQ.WHEN atLine = d0) ∧ (mode = s.dev.mode) ∧ (s.dev.halted = false)) (State.reset) 0 true ((State.reset.dev.set Reg.SYS.MODE_REQ.MODE 0).put Reg.SYS.MODE_REQ.WHEN true) := by decide +kernel

theorem witness_ModesAndBringUp_7 :
    (fun (s : State) (mode : Nat) (atLine : Bool) (d0 : Dev) (c : Nat) => (s.live) ∧ (s.dev.pageOff 0 = false) ∧ (mode < 8) ∧ ((s.dev.set Reg.SYS.MODE_REQ.MODE mode).put Reg.SYS.MODE_REQ.WHEN atLine = d0) ∧ (mode = s.dev.mode) ∧ (s.dev.halted = true) ∧ (d0.rearmRefusal = some c)) (WHLT) 2 false ((WHLT.dev.set Reg.SYS.MODE_REQ.MODE 2).put Reg.SYS.MODE_REQ.WHEN false) (((WHLT.dev.set Reg.SYS.MODE_REQ.MODE 2).put Reg.SYS.MODE_REQ.WHEN false).rearmRefusal.getD 0) := by decide +kernel

theorem witness_ModesAndBringUp_8 :
    (fun (s : State) (mode : Nat) (atLine : Bool) (d0 : Dev) => (s.live) ∧ (s.dev.pageOff 0 = false) ∧ (mode < 8) ∧ ((s.dev.set Reg.SYS.MODE_REQ.MODE mode).put Reg.SYS.MODE_REQ.WHEN atLine = d0) ∧ (mode = s.dev.mode) ∧ (s.dev.halted = true) ∧ (d0.rearmRefusal = none)) (WHL0) 0 false ((WHL0.dev.set Reg.SYS.MODE_REQ.MODE 0).put Reg.SYS.MODE_REQ.WHEN false) := by decide +kernel

theorem witness_ModesAndBringUp_9 :
    (fun (s : State) (mode : Nat) (atLine : Bool) (d0 : Dev) (c : Nat) => (s.live) ∧ (s.dev.pageOff 0 = false) ∧ (mode < 8) ∧ ((s.dev.set Reg.SYS.MODE_REQ.MODE mode).put Reg.SYS.MODE_REQ.WHEN atLine = d0) ∧ (mode ≠ s.dev.mode) ∧ (d0.modeRefusal mode = some c)) (State.reset) 2 false ((State.reset.dev.set Reg.SYS.MODE_REQ.MODE 2).put Reg.SYS.MODE_REQ.WHEN false) ((((State.reset.dev.set Reg.SYS.MODE_REQ.MODE 2).put Reg.SYS.MODE_REQ.WHEN false).modeRefusal 2).getD 0) := by decide +kernel

theorem witness_ModesAndBringUp_10 :
    (fun (s : State) (mode : Nat) (atLine : Bool) (d0 : Dev) => (s.live) ∧ (s.dev.pageOff 0 = false) ∧ (mode < 8) ∧ ((s.dev.set Reg.SYS.MODE_REQ.MODE mode).put Reg.SYS.MODE_REQ.WHEN atLine = d0) ∧ (mode ≠ s.dev.mode) ∧ (d0.modeRefusal mode = none)) (WM2) 0 true ((WM2.dev.set Reg.SYS.MODE_REQ.MODE 0).put Reg.SYS.MODE_REQ.WHEN true) := by decide +kernel

theorem witness_ModesAndBringUp_11 :
    (fun (s : State)  => (s.live) ∧ (s.dev.is Reg.SYS.MODE_STAT.PENDING = true) ∧ (s.dev.modeReady = true)) (st [(Reg.SYS.MODE_STAT.PENDING, 1), (Reg.SYS.MODE_STAT.TARGET, 1)]) := by decide +kernel

theorem witness_ModesAndBringUp_12 :
    (fun (s : State)  => (s.live) ∧ (s.dev.is Reg.SYS.MODE_STAT.PENDING = false ∨ s.dev.modeReady = false)) (State.reset) := by decide +kernel

theorem witness_ModesAndBringUp_13 :
    (fun (s : State)  => (s.live) ∧ (s.dev.is Reg.SYS.BRINGUP.CLOCKS_LOCKED = false) ∧ (s.dev.pwr.rootLost = false)) (State.reset) := by decide +kernel

theorem witness_ModesAndBringUp_14 :
    (fun (s : State)  => (s.live) ∧ (s.dev.is Reg.SYS.BRINGUP.CLOCKS_LOCKED = true ∨ s.dev.pwr.rootLost = true)) (st [(Reg.SYS.BRINGUP.CLOCKS_LOCKED, 1)]) := by decide +kernel

theorem witness_ModesAndBringUp_15 :
    (fun (s : State)  => (s.live) ∧ (s.dev.is Reg.SYS.BRINGUP.CLOCKS_LOCKED = true) ∧ (s.dev.is Reg.SYS.BRINGUP.FUSES_READ = false)) (st [(Reg.SYS.BRINGUP.CLOCKS_LOCKED, 1)]) := by decide +kernel

theorem witness_ModesAndBringUp_16 :
    (fun (s : State)  => (s.live) ∧ (s.dev.is Reg.SYS.BRINGUP.CLOCKS_LOCKED = false ∨ s.dev.is Reg.SYS.BRINGUP.FUSES_READ = true)) (State.reset) := by decide +kernel

theorem witness_ModesAndBringUp_17 :
    (fun (s : State) (width speed : Nat) => (s.live) ∧ (s.dev.is Reg.CLK.STAT.PCIE = false)) (State.reset) 8 3 := by decide +kernel

theorem witness_ModesAndBringUp_18 :
    (fun (s : State) (m : Nat) (b : Bool) => (s.live) ∧ (s.dev.pageOff 0 = true)) (st [(Reg.HDR.STATE 0, 0)]) 2 true := by decide +kernel

theorem witness_SpringScript_0 :
    (fun (s : State)  => (s.live) ∧ (s.dev.get Reg.SYS.SPRING_STAT.STATE = 0) ∧ (s.dev.is Reg.SYS.BRINGUP.SHALLOWS_READY = true) ∧ (s.dev.sys.stopAtB3 = false) ∧ (springCheck s.fuse s.dev (memRead 0xFF s.dev.flash 0 32) = 1)) (st [(Reg.SYS.BRINGUP.SHALLOWS_READY, 1)] fun d => { d with flash := memWrite 0xFF 0 scriptEnd d.flash }) := by decide +kernel

theorem witness_SpringScript_1 :
    (fun (s : State)  => (s.live) ∧ (s.dev.springAt 1 = true)) (st [(Reg.SYS.SPRING_STAT.STATE, 1)] fun d => { d with sys := { d.sys with spring := { script := List.replicate 32 0 ++ [0x01, 0, 0, 0, 0, 0x14, 0, 0, 5, 0, 0, 0, 0, 0, 0, 0] ++ List.replicate 32 0, entry := 0, waiting := 0 } } }) := by decide +kernel

theorem witness_SpringScript_2 :
    (fun (s : State) (v code : Nat) (d0 : Dev) => (s.live) ∧ (s.dev.springAt 2 = true) ∧ (busRead s.fuse Party.spring (s.dev.sys.spring.part 4 4) s.dev = (v, code, d0))) (WSPM) 500 0 WSPM.dev := by decide +kernel

theorem witness_SpringScript_3 :
    (fun (s : State)  => (s.live) ∧ (s.dev.springAt 3 = true)) (st [(Reg.SYS.SPRING_STAT.STATE, 1)] fun d => { d with sys := { d.sys with spring := { script := List.replicate 32 0 ++ [0x03, 0, 5, 0, 0, 0x14, 0, 0, 5, 0, 0, 0, 7, 0, 0, 0] ++ List.replicate 32 0, entry := 0, waiting := 0 } } }) := by decide +kernel

theorem witness_SpringScript_4 :
    (fun (s : State) (v code : Nat) (d0 : Dev) => (s.live) ∧ (s.dev.springWaits 1 = true) ∧ (busRead s.fuse Party.spring (s.dev.sys.spring.part 4 4) s.dev = (v, code, d0)) ∧ (v &&& (s.dev.sys.spring.part 12 4) = (s.dev.sys.spring.part 8 4))) (WSPP) 500 0 WSPP.dev := by decide +kernel

theorem witness_SpringScript_5 :
    (fun (s : State) (t : Nat) => (s.live) ∧ (s.dev.springWaits 1 = true) ∧ (s.dev.due .springPoll = some t) ∧ (byteAt s.dev.sys.spring.script 5 / 2 % 2 = 0)) (st [(Reg.SYS.SPRING_STAT.STATE, 1)] fun d => { d with sys := { d.sys with spring := { script := List.replicate 32 0 ++ [0x03, 0, 5, 0, 0, 0x14, 0, 0, 4, 0, 0, 0, 0x0F, 0, 0, 0] ++ List.replicate 32 0, entry := 0, waiting := 1 } } }.arm .springPoll 7) 7 := by decide +kernel

theorem witness_SpringScript_6 :
    (fun (s : State)  => (s.live) ∧ (s.dev.springAt 4 = true)) (st [(Reg.SYS.SPRING_STAT.STATE, 1)] fun d => { d with sys := { d.sys with spring := { script := List.replicate 32 0 ++ [0x04, 0, 0, 0, 0, 0, 0, 0, 4, 0, 0, 0, 0, 0, 0, 0] ++ List.replicate 32 0, entry := 0, waiting := 0 } } }) := by decide +kernel

theorem witness_SpringScript_7 :
    (fun (s : State) (t : Nat) => (s.live) ∧ (s.dev.springWaits 2 = true) ∧ (s.dev.due .springDelay = some t)) (st [(Reg.SYS.SPRING_STAT.STATE, 1)] fun d => { d with sys := { d.sys with spring := { script := List.replicate 32 0 ++ [0x04, 0, 0, 0, 0, 0, 0, 0, 4, 0, 0, 0, 0, 0, 0, 0] ++ List.replicate 32 0, entry := 0, waiting := 2 } } }.arm .springDelay 7) 7 := by decide +kernel

theorem witness_SpringScript_8 :
    (fun (s : State)  => (s.live) ∧ (s.dev.springAt 0x0F = true)) (st [(Reg.SYS.SPRING_STAT.STATE, 1)] fun d => { d with sys := { d.sys with spring := { script := List.replicate 32 0 ++ [0x0F, 0, 0, 0, 0, 0, 0, 0, 4, 0, 0, 0, 0, 0, 0, 0] ++ List.replicate 32 0, entry := 0, waiting := 0 } } }) := by decide +kernel

theorem witness_SpringScript_9 :
    (fun (s : State) (t : Nat) => (s.live) ∧ (s.dev.get Reg.SYS.SPRING_STAT.STATE = 1) ∧ (s.dev.due .springLimit = some t)) (st [(Reg.SYS.SPRING_STAT.STATE, 1)] fun d => { d with sys := { d.sys with spring := { script := List.replicate 32 0 ++ [0x04, 0, 0, 0, 0, 0, 0, 0, 4, 0, 0, 0, 0, 0, 0, 0] ++ List.replicate 32 0, entry := 0, waiting := 0 } } }.arm .springLimit 7) 7 := by decide +kernel

theorem witness_SpringScript_10 :
    (fun (s : State) (v code : Nat) (d0 : Dev) => (s.live) ∧ (s.dev.springWaits 1 = true) ∧ (busRead s.fuse Party.spring (s.dev.sys.spring.part 4 4) s.dev = (v, code, d0)) ∧ (v &&& (s.dev.sys.spring.part 12 4) ≠ (s.dev.sys.spring.part 8 4))) (WSPQ) 500 0 WSPQ.dev := by decide +kernel

theorem witness_SpringScript_11 :
    (fun (s : State) (t : Nat) => (s.live) ∧ (s.dev.springWaits 1 = true) ∧ (s.dev.due .springPoll = some t) ∧ (byteAt s.dev.sys.spring.script 5 / 2 % 2 = 1)) (st [(Reg.SYS.SPRING_STAT.STATE, 1)] fun d => { d with sys := { d.sys with spring := { script := List.replicate 5 0 ++ [2] ++ List.replicate 26 0 ++ [0x03, 0, 5, 0, 0, 0x14, 0, 0, 4, 0, 0, 0, 0x0F, 0, 0, 0], entry := 0, waiting := 1 } } }.arm .springPoll 7) 7 := by decide +kernel

theorem witness_SpringScript_12 :
    (fun (s : State)  => (s.live) ∧ (s.dev.get Reg.SYS.SPRING_STAT.STATE = 0) ∧ (s.dev.is Reg.SYS.BRINGUP.SHALLOWS_READY = true) ∧ (s.dev.sys.stopAtB3 = false) ∧ (springCheck s.fuse s.dev (memRead 0xFF s.dev.flash 0 32) ≠ 1)) (st [(Reg.SYS.BRINGUP.SHALLOWS_READY, 1)]) := by decide +kernel

theorem witness_SpringScript_13 :
    (fun (s : State) (r : Nat) => (s.live) ∧ (s.dev.get Reg.SYS.SPRING_STAT.STATE = 0) ∧ (s.dev.is Reg.SYS.BRINGUP.SHALLOWS_READY = true) ∧ (s.dev.sys.stopAtB3 = false) ∧ (springCheck s.fuse s.dev (memRead 0xFF s.dev.flash 0 32) = r) ∧ (r ≠ 1)) (WSS) (springCheck WSS.fuse WSS.dev (memRead 0xFF WSS.dev.flash 0 32)) := by decide +kernel

theorem witness_SpringScript_14 :
    (fun (s : State)  => (s.live) ∧ (s.dev.get Reg.SYS.SPRING_STAT.STATE ≠ 0 ∨ s.dev.is Reg.SYS.BRINGUP.SHALLOWS_READY = false ∨ s.dev.sys.stopAtB3 = true)) (State.reset) := by decide +kernel

theorem witness_SpringScript_15 :
    (fun (s : State)  => (s.live) ∧ (s.dev.springAt 1 = false)) (State.reset) := by decide +kernel

theorem witness_SpringScript_16 :
    (fun (s : State)  => (s.live) ∧ (s.dev.springAt 2 = false)) (State.reset) := by decide +kernel

theorem witness_SpringScript_17 :
    (fun (s : State)  => (s.live) ∧ (s.dev.springAt 3 = false)) (State.reset) := by decide +kernel

theorem witness_SpringScript_18 :
    (fun (s : State)  => (s.live) ∧ (s.dev.springWaits 1 = false)) (State.reset) := by decide +kernel

theorem witness_SpringScript_19 :
    (fun (s : State)  => (s.live) ∧ (s.dev.springWaits 1 = false ∨ s.dev.due .springPoll = none)) (State.reset) := by decide +kernel

theorem witness_SpringScript_20 :
    (fun (s : State)  => (s.live) ∧ (s.dev.springAt 4 = false)) (State.reset) := by decide +kernel

theorem witness_SpringScript_21 :
    (fun (s : State)  => (s.live) ∧ (s.dev.springWaits 2 = false ∨ s.dev.due .springDelay = none)) (State.reset) := by decide +kernel

theorem witness_SpringScript_22 :
    (fun (s : State)  => (s.live) ∧ (s.dev.springAt 0x0F = false)) (State.reset) := by decide +kernel

theorem witness_SpringScript_23 :
    (fun (s : State)  => (s.live) ∧ (s.dev.due .springLimit = none)) (State.reset) := by decide +kernel

theorem witness_SpringScript_24 :
    (fun (s : State) (t : Nat) => (s.live) ∧ (s.dev.due .springLimit = some t)) (st [] (·.arm .springLimit 7)) 7 := by decide +kernel

theorem witness_GeometryAndQueues_0 :
    (fun (s : State) (ports : Nat) => (s.live) ∧ (s.dev.pageOff 0xB0 = false) ∧ (s.dev.printing = false) ∧ (s.dev.prt.loading = none) ∧ (ports < 2 ^ 64)) (st [(Reg.HDR.STATE 0xB0, 2)]) 0x100000001 := by decide +kernel

theorem witness_GeometryAndQueues_1 :
    (fun (s : State) (ports : Nat) => (s.live) ∧ (s.dev.pageOff 0xB0 = false) ∧ (s.dev.printing = true ∨ s.dev.prt.loading ≠ none) ∧ (ports < 2 ^ 64)) (st [(Reg.HDR.STATE 0xB0, 2), (Reg.SYS.MODE_STAT.MODE, 2)]) 1 := by decide +kernel

theorem witness_GeometryAndQueues_2 :
    (fun (s : State) (n : Nat) => (s.live) ∧ (n < 64) ∧ (s.dev.prt.loading = some (2 ^ n))) (st [] fun d => { d with prt := { d.prt with loading := some 4 } }) 2 := by decide +kernel

theorem witness_GeometryAndQueues_3 :
    (fun (s : State) (p v : Nat) => (s.live) ∧ (p < 16) ∧ (s.dev.pageOff 0xB0 = false) ∧ (v < s.dev.qSize p) ∧ ((s.dev.get (Reg.PRT.Q_TAIL.INDEX p) + s.dev.qSize p - s.dev.get (Reg.PRT.Q_HEAD.INDEX p)) % s.dev.qSize p ≤
      (v + s.dev.qSize p - s.dev.get (Reg.PRT.Q_HEAD.INDEX p)) % s.dev.qSize p)) (st [(Reg.HDR.STATE 0xB0, 2)]) 1 2 := by decide +kernel

theorem witness_GeometryAndQueues_4 :
    (fun (s : State) (p v : Nat) => (s.live) ∧ (p < 16) ∧ (s.dev.pageOff 0xB0 = false) ∧ (v < 65536) ∧ (s.dev.qSize p ≤ v)) (st [(Reg.HDR.STATE 0xB0, 2)]) 1 20 := by decide +kernel

theorem witness_GeometryAndQueues_5 :
    (fun (s : State) (p : Nat) => (s.live) ∧ (p < 16) ∧ (s.dev.pageOff 0xB0 = false) ∧ ((s.dev.plane p).jobs = [])) (st [(Reg.HDR.STATE 0xB0, 2), (Reg.PRT.Q_TAIL.INDEX 1, 1)]) 1 := by decide +kernel

theorem witness_GeometryAndQueues_6 :
    (fun (s : State) (p : Nat) (on : Bool) => (s.live) ∧ (p < 16) ∧ (s.dev.pageOff 0xB0 = false) ∧ (s.dev.prt.planes = [])) (st [(Reg.HDR.STATE 0xB0, 2)]) 1 true := by decide +kernel

theorem witness_GeometryAndQueues_7 :
    (fun (s : State) (p : Nat) (on : Bool) => (s.live) ∧ (p < 16) ∧ (s.dev.pageOff 0xB0 = false) ∧ (s.dev.prt.planes = [])) (st [(Reg.HDR.STATE 0xB0, 2)]) 1 true := by decide +kernel

theorem witness_GeometryAndQueues_8 :
    (fun (s : State) (p : Nat) (on : Bool) => (s.live) ∧ (p < 16) ∧ (s.dev.pageOff 0xB0 = false)) (st [(Reg.HDR.STATE 0xB0, 2)]) 1 true := by decide +kernel

theorem witness_GeometryAndQueues_9 :
    (fun (s : State) (p : Nat) (on : Bool) => (s.live) ∧ (p < 16) ∧ (s.dev.pageOff 0xB0 = false)) (st [(Reg.HDR.STATE 0xB0, 2)]) 1 true := by decide +kernel

theorem witness_GeometryAndQueues_10 :
    (fun (s : State) (p : Nat) => (s.live) ∧ (p < 16) ∧ (s.dev.pageOff 0xB0 = false)) (st [(Reg.HDR.STATE 0xB0, 2), (Reg.PRT.Q_TAIL.INDEX 1, 1)]) 1 := by decide +kernel

theorem witness_GeometryAndQueues_11 :
    (fun (s : State) (p : Nat) => (s.live) ∧ (p < 16) ∧ (s.dev.pageOff 0xB0 = false) ∧ ((s.dev.plane p).jobs = []) ∧ ((s.dev.plane p).take < s.dev.qSize p) ∧ (s.dev.get (Reg.PRT.Q_TAIL.INDEX p) = ((s.dev.plane p).take + 1) % s.dev.qSize p) ∧ (1 < s.dev.qSize p)) (st [(Reg.HDR.STATE 0xB0, 2), (Reg.PRT.Q_SIZE.LOG2 1, 4), (Reg.PRT.Q_TAIL.INDEX 1, 1)]) 1 := by decide +kernel

theorem witness_GeometryAndQueues_12 :
    (fun (s : State) (ports : Nat) (poisoned : List Nat) => (s.live) ∧ (s.dev.prt.loading = some ports)) (st [] fun d => { d with prt := { d.prt with loading := some 4 } }) 4 [] := by decide +kernel

theorem witness_GeometryAndQueues_13 :
    (fun (s : State) (poisoned : List Nat) => (s.live) ∧ (s.dev.prt.loading = none)) (State.reset) [] := by decide +kernel

theorem witness_GeometryAndQueues_14 :
    (fun (s : State) (p v : Nat) => (s.live) ∧ (p < 16) ∧ (s.dev.pageOff 0xB0 = false) ∧ (v < s.dev.qSize p) ∧ (v < 65536) ∧ ((v + s.dev.qSize p - s.dev.get (Reg.PRT.Q_HEAD.INDEX p)) % s.dev.qSize p < (s.dev.get (Reg.PRT.Q_TAIL.INDEX p) + s.dev.qSize p - s.dev.get (Reg.PRT.Q_HEAD.INDEX p)) % s.dev.qSize p)) (st [(Reg.HDR.STATE 0xB0, 2), (Reg.PRT.Q_TAIL.INDEX 1, 1), (Reg.PRT.Q_SIZE.LOG2 1, 4)]) 1 0 := by decide +kernel

theorem witness_GeometryAndQueues_15 :
    (fun (s : State) (p v : Nat) (on : Bool) => (s.live) ∧ (s.dev.pageOff 0xB0 = true) ∧ (p < 16)) (st [(Reg.HDR.STATE 0xB0, 0)]) 1 2 true := by decide +kernel

theorem witness_GeometryAndQueues_16 :
    (fun (s : State) (ports : Nat) => (s.live) ∧ (s.dev.pageOff 0xB0 = true)) (st [(Reg.HDR.STATE 0xB0, 0)]) 5 := by decide +kernel

theorem witness_EdgesAndFixedRate_0 :
    (fun (s : State) (k dt : Nat) (b : Bool) => (s.live) ∧ (k < 4) ∧ ((s.dev.advance dt).counts k = true) ∧ (s.dev.get (Reg.ENC.CFG.MODE k) ≠ 1)) (st [(Reg.ENC.STAT.RUN 0, 1)]) 0 100 false := by decide +kernel

theorem witness_EdgesAndFixedRate_1 :
    (fun (s : State) (v : Nat) => (s.live) ∧ (s.dev.pageOff 0xB1 = false) ∧ (v < 2 ^ 32) ∧ (s.dev.mode ≠ 5)) (st [(Reg.HDR.STATE 0xB1, 2)]) 4003 := by decide +kernel

theorem witness_EdgesAndFixedRate_2 :
    (fun (s : State) (v : Nat) => (s.live) ∧ (s.dev.pageOff 0xB1 = false) ∧ (v < 2 ^ 32) ∧ (s.dev.mode = 5) ∧ (s.dev.trg.fixRun = true)) (st [(Reg.HDR.STATE 0xB1, 2), (Reg.SYS.MODE_STAT.MODE, 5)] fun d => { d with trg := { d.trg with fixRun := true } }) 4003 := by decide +kernel

theorem witness_EdgesAndFixedRate_3 :
    (fun (s : State)  => (s.live) ∧ (s.dev.mode = 5) ∧ (s.dev.trg.fixRun = false) ∧ (s.dev.fixPeriod ≠ 0)) (st [(Reg.SYS.MODE_STAT.MODE, 5), (Reg.TRG.FIX_PERIOD.TICKS, 25000)]) := by decide +kernel

theorem witness_EdgesAndFixedRate_4 :
    (fun (s : State)  => (s.live) ∧ (s.dev.mode = 5) ∧ (s.dev.trg.fixRun = true)) (st [(Reg.SYS.MODE_STAT.MODE, 5), (Reg.TRG.FIX_PERIOD.TICKS, 25000)] fun d => { d with trg := { d.trg with fixRun := true } }) := by decide +kernel

theorem witness_EdgesAndFixedRate_5 :
    (fun (s : State) (t : Nat) => (s.live) ∧ (s.dev.due .ringSource = some t) ∧ (s.dev.get Reg.TRG.SRC_SEL.SEL = 4) ∧ (s.dev.srcChannel = none)) (st [(Reg.TRG.SRC_SEL.SEL, 4), (Reg.TRG.STAT.SOURCE_OK, 1)] (·.arm .ringSource 7)) 7 := by decide +kernel

theorem witness_EdgesAndFixedRate_6 :
    (fun (s : State) (t : Nat) => (s.live) ∧ (s.dev.due .slowdown = some t) ∧ (s.dev.trg.skipping = true)) (st [] fun d => { d with trg := { d.trg with skipping := true } }.arm .slowdown 7) 7 := by decide +kernel

theorem witness_EdgesAndFixedRate_7 :
    (fun (s : State) (k dt : Nat) (b : Bool) => (s.live) ∧ (k < 4) ∧ ((s.dev.advance dt).counts k = false)) (State.reset) 1 100 true := by decide +kernel

theorem witness_EdgesAndFixedRate_8 :
    (fun (s : State) (k dt : Nat) => (s.live) ∧ (k < 4) ∧ ((s.dev.advance dt).counts k = true) ∧ (s.dev.get (Reg.ENC.CFG.MODE k) = 1) ∧ (s.dev.bitOf (Reg.ENC.STAT.PINS k) 3 = false) ∧ (let up := (!s.dev.is (Reg.ENC.CFG.DIR_SRC k) || !s.dev.bitOf (Reg.ENC.STAT.PINS k) 2) != s.dev.is (Reg.ENC.CFG.INVERT k); ((s.dev.advance dt).putBit (Reg.ENC.STAT.PINS k) 3 true).endsGap k up = false)) (st [(Reg.ENC.STAT.RUN 0, 1), (Reg.ENC.CFG.MODE 0, 1)]) 0 100 := by decide +kernel

theorem witness_EdgesAndFixedRate_9 :
    (fun (s : State) (k dt : Nat) (b : Bool) => (s.live) ∧ (k < 4) ∧ ((s.dev.advance dt).counts k = true) ∧ (s.dev.get (Reg.ENC.CFG.MODE k) = 1) ∧ (b = true ∨ s.dev.bitOf (Reg.ENC.STAT.PINS k) 3 = true)) (st [(Reg.ENC.STAT.RUN 0, 1), (Reg.ENC.CFG.MODE 0, 1)]) 0 100 true := by decide +kernel

theorem witness_EdgesAndFixedRate_10 :
    (fun (s : State) (v : Nat) => (s.live) ∧ (s.dev.pageOff 0xB1 = false) ∧ (v < 2 ^ 32) ∧ (v ≠ 0) ∧ (s.dev.mode = 5) ∧ (s.dev.trg.fixRun = false) ∧ (s.dev.trg.fixNext ≤ s.dev.time.up)) (st [(Reg.HDR.STATE 0xB1, 2), (Reg.SYS.MODE_STAT.MODE, 5)]) 4003 := by decide +kernel

theorem witness_EdgesAndFixedRate_11 :
    (fun (s : State) (k dt : Nat) (b : Bool) (d1 : Dev) => (s.live) ∧ ((s.dev.advance dt).putBit (Reg.ENC.STAT.PINS k) (if b = true then 2 else 3) (!(s.dev.advance dt).bitOf (Reg.ENC.STAT.PINS k) (if b = true then 2 else 3)) = d1) ∧ (d1.counts k = true) ∧ (d1.get (Reg.ENC.CFG.MODE k) ≠ 1)) (WEQ) 0 100 false ((WEQ.dev.advance 100).putBit (Reg.ENC.STAT.PINS 0) 3 (!(WEQ.dev.advance 100).bitOf (Reg.ENC.STAT.PINS 0) 3)) := by decide +kernel

theorem witness_EdgesAndFixedRate_12 :
    (fun (s : State) (k dt : Nat) (d1 : Dev) => (s.live) ∧ ((s.dev.advance dt).putBit (Reg.ENC.STAT.PINS k) 3 (!(s.dev.advance dt).bitOf (Reg.ENC.STAT.PINS k) 3) = d1) ∧ (d1.counts k = true) ∧ (d1.get (Reg.ENC.CFG.MODE k) = 1) ∧ (d1.bitOf (Reg.ENC.STAT.PINS k) 3 = true) ∧ (d1.endsGap k ((!d1.is (Reg.ENC.CFG.DIR_SRC k) || !d1.bitOf (Reg.ENC.STAT.PINS k) 2) != d1.is (Reg.ENC.CFG.INVERT k)) = false)) (WET) 0 100 ((WET.dev.advance 100).putBit (Reg.ENC.STAT.PINS 0) 3 (!(WET.dev.advance 100).bitOf (Reg.ENC.STAT.PINS 0) 3)) := by decide +kernel

theorem witness_EdgesAndFixedRate_13 :
    (fun (s : State) (k dt : Nat) (d1 : Dev) => (s.live) ∧ ((s.dev.advance dt).putBit (Reg.ENC.STAT.PINS k) 3 (!(s.dev.advance dt).bitOf (Reg.ENC.STAT.PINS k) 3) = d1) ∧ (d1.counts k = true) ∧ (d1.get (Reg.ENC.CFG.MODE k) = 1) ∧ (d1.bitOf (Reg.ENC.STAT.PINS k) 3 = true) ∧ (d1.endsGap k ((!d1.is (Reg.ENC.CFG.DIR_SRC k) || !d1.bitOf (Reg.ENC.STAT.PINS k) 2) != d1.is (Reg.ENC.CFG.INVERT k)) = true)) (WEG) 0 100 ((WEG.dev.advance 100).putBit (Reg.ENC.STAT.PINS 0) 3 (!(WEG.dev.advance 100).bitOf (Reg.ENC.STAT.PINS 0) 3)) := by decide +kernel

theorem witness_EdgesAndFixedRate_14 :
    (fun (s : State) (v : Nat) => (s.live) ∧ (s.dev.pageOff 0xB1 = false) ∧ (v < 2 ^ 32) ∧ (s.dev.mode = 5) ∧ (s.dev.trg.fixRun = true)) (st [(Reg.HDR.STATE 0xB1, 2), (Reg.SYS.MODE_STAT.MODE, 5)] fun d => { d with trg := { d.trg with fixRun := true } }) 4003 := by decide +kernel

theorem witness_EdgesAndFixedRate_15 :
    (fun (s : State) (v : Nat) => (s.live) ∧ (s.dev.pageOff 0xB1 = false) ∧ (v < 2 ^ 32) ∧ (s.dev.mode = 5) ∧ (s.dev.trg.fixRun = false) ∧ (v = 0 ∨ s.dev.time.up < s.dev.trg.fixNext)) (st [(Reg.HDR.STATE 0xB1, 2), (Reg.SYS.MODE_STAT.MODE, 5)]) 0 := by decide +kernel

theorem witness_EdgesAndFixedRate_16 :
    (fun (s : State) (t : Nat) => (s.live) ∧ (s.dev.due .ringSource = some t) ∧ (s.dev.get Reg.TRG.SRC_SEL.SEL ≠ 4 ∨ s.dev.srcChannel.isSome = true)) (st [] (·.arm .ringSource 7)) 7 := by decide +kernel

theorem witness_EdgesAndFixedRate_17 :
    (fun (s : State) (t : Nat) => (s.live) ∧ (s.dev.due .slowdown = some t) ∧ (s.dev.trg.skipping = false)) (st [] (·.arm .slowdown 7)) 7 := by decide +kernel

theorem witness_EdgesAndFixedRate_18 :
    (fun (s : State)  => (s.live) ∧ (s.dev.mode ≠ 5 ∨ s.dev.trg.fixRun = true ∨ s.dev.fixPeriod = 0)) (State.reset) := by decide +kernel

theorem witness_EdgesAndFixedRate_19 :
    (fun (s : State)  => (s.live) ∧ (s.dev.mode ≠ 5 ∨ s.dev.trg.fixRun = false)) (State.reset) := by decide +kernel

theorem witness_EdgesAndFixedRate_20 :
    (fun (s : State)  => (s.live) ∧ (s.dev.due .ringSource = none)) (State.reset) := by decide +kernel

theorem witness_EdgesAndFixedRate_21 :
    (fun (s : State)  => (s.live) ∧ (s.dev.due .slowdown = none)) (State.reset) := by decide +kernel

theorem witness_EdgesAndFixedRate_22 :
    (fun (s : State) (v : Nat) => (s.live) ∧ (s.dev.pageOff 0xB1 = true)) (st [(Reg.HDR.STATE 0xB1, 0)]) 5 := by decide +kernel

theorem witness_VotesAndOverride_0 :
    (fun (s : State) (n : Nat) (eA eB : Bytes) (c : Cycle) (p : Nat × Nat) (x y : Seg) (bufs : List (Nat × Seg)) => (s.live) ∧ ((s.dev.port n).built = some c) ∧ (c.waits = false) ∧ (c.failed = false) ∧ (segPlace c.frames 0 c.segsVoted = some p) ∧ (c.room s.dev.activeEngine = some bufs) ∧ (segOf c.frames p (if s.dev.activeEngine = 0 then eA else eB) = x) ∧ (segOf c.other p (if s.dev.activeEngine = 0 then eB else eA) = y) ∧ (s.dev.compared c = false ∨ x.crc = y.crc)) (st [(Reg.ENGX.STAT.ESTATE 1, 3), (Reg.ENGX.STAT.ESTATE 0, 4), (Reg.ENG.STAT.VOTING, 1)] fun d => (d).setPort 2 { PortFire.init with built := some { testCycle with other := testFrames 3, sum := [1], otherSum := [1] } }) 2 [] [] ({ testCycle with other := testFrames 3, sum := [1], otherSum := [1] }) (0, 0) (segOf ({ testCycle with other := testFrames 3, sum := [1], otherSum := [1] }).frames (0, 0) []) (segOf ({ testCycle with other := testFrames 3, sum := [1], otherSum := [1] }).other (0, 0) []) [] := by decide +kernel

theorem witness_VotesAndOverride_1 :
    (fun (s : State) (n : Nat) (eA eB : Bytes) (c : Cycle) (p : Nat × Nat) (x y : Seg) (bufs : List (Nat × Seg)) => (s.live) ∧ ((s.dev.port n).built = some c) ∧ (c.waits = false) ∧ (c.failed = false) ∧ (segPlace c.frames 0 c.segsVoted = some p) ∧ (c.room s.dev.activeEngine = some bufs) ∧ (segOf c.frames p (if s.dev.activeEngine = 0 then eA else eB) = x) ∧ (segOf c.other p (if s.dev.activeEngine = 0 then eB else eA) = y) ∧ (n < 64) ∧ (s.dev.compared c = true) ∧ (x.crc ≠ y.crc) ∧ (c.bothFlagged = false) ∧ (s.dev.get Reg.ENG.VOTE_CFG.DIV_POLICY ≠ 1) ∧ (s.dev.get Reg.ENG.VOTE_CFG.DIV_POLICY ≠ 2)) (st [(Reg.ENGX.STAT.ESTATE 1, 3), (Reg.ENGX.STAT.ESTATE 0, 4), (Reg.ENG.STAT.VOTING, 1)] fun d => (d).setPort 2 { PortFire.init with built := some { testCycle with other := testFrames 3, sum := [1], otherSum := [1] } }) 2 [] [1] ({ testCycle with other := testFrames 3, sum := [1], otherSum := [1] }) (0, 0) (segOf ({ testCycle with other := testFrames 3, sum := [1], otherSum := [1] }).frames (0, 0) []) (segOf ({ testCycle with other := testFrames 3, sum := [1], otherSum := [1] }).other (0, 0) [1]) [] := by decide +kernel

theorem witness_VotesAndOverride_2 :
    (fun (s : State) (n : Nat) (eA eB : Bytes) (c : Cycle) => (s.live) ∧ ((s.dev.port n).built = some c) ∧ (c.waits = false) ∧ (c.failed = false) ∧ (c.segs ≤ c.segsVoted) ∧ (c.digestVoted = false) ∧ (s.dev.compared c = false ∨ crc32c (struck c.sum (if s.dev.activeEngine = 0 then eA else eB)) = crc32c (struck c.otherSum (if s.dev.activeEngine = 0 then eB else eA)))) (st [(Reg.ENGX.STAT.ESTATE 1, 3), (Reg.ENGX.STAT.ESTATE 0, 4), (Reg.ENG.STAT.VOTING, 1)] fun d => (d).setPort 2 { PortFire.init with built := some { testCycle with segsVoted := 3, other := testFrames 3, sum := [1], otherSum := [1] } }) 2 [] [] { testCycle with segsVoted := 3, other := testFrames 3, sum := [1], otherSum := [1] } := by decide +kernel

theorem witness_VotesAndOverride_3 :
    (fun (s : State) (n noz : Nat) => (s.live) ∧ (n < 64) ∧ (noz < 2 ^ 14) ∧ (s.dev.pageOff 0xB4 = false) ∧ (s.dev.is (Reg.HDR.LEVEL 0xB4) = true ∨ (s.dev.get Reg.MSK.NOZ_OVR.CODE = 3 ∧ s.dev.get Reg.MSK.NOZ_OVR.PORT = n ∧ s.dev.get Reg.MSK.NOZ_OVR.NOZZLE = noz))) (st [(Reg.HDR.STATE 0xB4, 2), (Reg.HDR.LEVEL 0xB4, 1)]) 2 7 := by decide +kernel

theorem witness_VotesAndOverride_4 :
    (fun (s : State) (n noz : Nat) => (s.live) ∧ (n < 64) ∧ (noz < 2 ^ 14) ∧ (s.dev.pageOff 0xB4 = false) ∧ (s.dev.is (Reg.HDR.LEVEL 0xB4) = true ∨ (s.dev.get Reg.MSK.NOZ_OVR.CODE = 0 ∧ s.dev.get Reg.MSK.NOZ_OVR.PORT = n ∧ s.dev.get Reg.MSK.NOZ_OVR.NOZZLE = noz))) (st [(Reg.HDR.STATE 0xB4, 2), (Reg.HDR.LEVEL 0xB4, 1)]) 2 7 := by decide +kernel

theorem witness_VotesAndOverride_5 :
    (fun (s : State) (n noz code : Nat) => (s.live) ∧ (n < 64) ∧ (noz < 2 ^ 14) ∧ (code = 1 ∨ code = 2) ∧ (s.dev.pageOff 0xB4 = false) ∧ (s.dev.is (Reg.HDR.LEVEL 0xB4) = true ∨ (s.dev.get Reg.MSK.NOZ_OVR.CODE = code ∧ s.dev.get Reg.MSK.NOZ_OVR.PORT = n ∧ s.dev.get Reg.MSK.NOZ_OVR.NOZZLE = noz))) (st [(Reg.HDR.STATE 0xB4, 2), (Reg.HDR.LEVEL 0xB4, 1)]) 2 7 1 := by decide +kernel

theorem witness_VotesAndOverride_6 :
    (fun (s : State) (n : Nat) (eA eB : Bytes) (c : Cycle) (p : Nat × Nat) (x y : Seg) (bufs : List (Nat × Seg)) => (s.live) ∧ ((s.dev.port n).built = some c) ∧ (c.waits = false) ∧ (c.failed = false) ∧ (segPlace c.frames 0 c.segsVoted = some p) ∧ (c.room s.dev.activeEngine = some bufs) ∧ (segOf c.frames p (if s.dev.activeEngine = 0 then eA else eB) = x) ∧ (segOf c.other p (if s.dev.activeEngine = 0 then eB else eA) = y) ∧ (s.dev.compared c = true) ∧ (x.crc ≠ y.crc) ∧ (c.bothFlagged = true)) (st [(Reg.ENGX.STAT.ESTATE 1, 3), (Reg.ENGX.STAT.ESTATE 0, 4), (Reg.ENG.STAT.VOTING, 1)] fun d => (d).setPort 2 { PortFire.init with built := some { testCycle with other := testFrames 3, sum := [1], otherSum := [1], flags := [1, 2] } }) 2 [] [1] ({ testCycle with other := testFrames 3, sum := [1], otherSum := [1], flags := [1, 2] }) (0, 0) (segOf ({ testCycle with other := testFrames 3, sum := [1], otherSum := [1], flags := [1, 2] }).frames (0, 0) []) (segOf ({ testCycle with other := testFrames 3, sum := [1], otherSum := [1], flags := [1, 2] }).other (0, 0) [1]) [] := by decide +kernel

theorem witness_VotesAndOverride_7 :
    (fun (s : State) (n : Nat) (eA eB : Bytes) (c : Cycle) (p : Nat × Nat) (x y : Seg) (bufs : List (Nat × Seg)) => (s.live) ∧ ((s.dev.port n).built = some c) ∧ (c.waits = false) ∧ (c.failed = false) ∧ (segPlace c.frames 0 c.segsVoted = some p) ∧ (c.room s.dev.activeEngine = some bufs) ∧ (segOf c.frames p (if s.dev.activeEngine = 0 then eA else eB) = x) ∧ (segOf c.other p (if s.dev.activeEngine = 0 then eB else eA) = y) ∧ (n < 64) ∧ (s.dev.compared c = true) ∧ (x.crc ≠ y.crc) ∧ (c.bothFlagged = false) ∧ (s.dev.get Reg.ENG.VOTE_CFG.DIV_POLICY = 1 ∨ s.dev.get Reg.ENG.VOTE_CFG.DIV_POLICY = 2)) (st [(Reg.ENGX.STAT.ESTATE 1, 3), (Reg.ENGX.STAT.ESTATE 0, 4), (Reg.ENG.STAT.VOTING, 1), (Reg.ENG.VOTE_CFG.DIV_POLICY, 1)] fun d => (d).setPort 2 { PortFire.init with built := some { testCycle with other := testFrames 3, sum := [1], otherSum := [1] } }) 2 [] [1] ({ testCycle with other := testFrames 3, sum := [1], otherSum := [1] }) (0, 0) (segOf ({ testCycle with other := testFrames 3, sum := [1], otherSum := [1] }).frames (0, 0) []) (segOf ({ testCycle with other := testFrames 3, sum := [1], otherSum := [1] }).other (0, 0) [1]) [] := by decide +kernel

theorem witness_VotesAndOverride_8 :
    (fun (s : State) (n a b : Nat) (eA eB : Bytes) (c : Cycle) => (s.live) ∧ ((s.dev.port n).built = some c) ∧ (c.waits = false) ∧ (c.failed = false) ∧ (c.segs ≤ c.segsVoted) ∧ (c.digestVoted = false) ∧ (s.dev.compared c = true) ∧ (crc32c (struck (if s.dev.activeEngine = 0 then c.sum else c.otherSum) eA) = a) ∧ (crc32c (struck (if s.dev.activeEngine = 0 then c.otherSum else c.sum) eB) = b) ∧ (a ≠ b)) (st [(Reg.ENGX.STAT.ESTATE 1, 3), (Reg.ENGX.STAT.ESTATE 0, 4), (Reg.ENG.STAT.VOTING, 1)] fun d => (d).setPort 2 { PortFire.init with built := some { testCycle with segsVoted := 3, other := testFrames 3, sum := [1], otherSum := [1] } }) 2 (crc32c [1]) (crc32c [3]) [] [2] { testCycle with segsVoted := 3, other := testFrames 3, sum := [1], otherSum := [1] } := by decide +kernel

theorem witness_VotesAndOverride_9 :
    (fun (s : State) (n : Nat) (eA eB : Bytes) => (s.live) ∧ (∀ c ∈ (s.dev.port n).built, c.waits = true ∨ c.failed = true ∨ segPlace c.frames 0 c.segsVoted = none ∨ c.room s.dev.activeEngine = none)) (State.reset) 2 [] [] := by decide +kernel

theorem witness_VotesAndOverride_10 :
    (fun (s : State) (n : Nat) (eA eB : Bytes) => (s.live) ∧ (∀ c ∈ (s.dev.port n).built, c.waits = true ∨ c.failed = true ∨ c.segsVoted < c.segs ∨ c.digestVoted = true)) (State.reset) 2 [] [] := by decide +kernel

theorem witness_VotesAndOverride_11 :
    (fun (s : State) (code n noz : Nat) => (s.live) ∧ (code < 4) ∧ (n < 64) ∧ (noz < 2 ^ 14) ∧ (s.dev.pageOff 0xB4 = false) ∧ (s.dev.is (Reg.HDR.LEVEL 0xB4) = false) ∧ (s.dev.get Reg.MSK.NOZ_OVR.CODE ≠ code ∨ s.dev.get Reg.MSK.NOZ_OVR.PORT ≠ n ∨ s.dev.get Reg.MSK.NOZ_OVR.NOZZLE ≠ noz)) (st [(Reg.HDR.STATE 0xB4, 2)]) 3 2 7 := by decide +kernel

theorem witness_VotesAndOverride_12 :
    (fun (s : State) (a b c : Nat) => (s.live) ∧ (s.dev.pageOff 0xB4 = true)) (st [(Reg.HDR.STATE 0xB4, 0)]) 3 2 7 := by decide +kernel

theorem witness_EngineFailures_0 :
    (fun (s : State) (n f : Nat) => (s.live) ∧ (s.dev.activeEngine < 2) ∧ (s.dev.voting = true) ∧ (f % 32 ≠ 0) ∧ ((match (s.dev.port n).built with | some c => nth 0 c.flags s.dev.activeEngine | none => 0) = 0)) (st [(Reg.ENGX.STAT.ESTATE 1, 3), (Reg.ENGX.STAT.ESTATE 0, 4), (Reg.ENG.STAT.VOTING, 1)]) 2 3 := by decide +kernel

theorem witness_EngineFailures_1 :
    (fun (s : State) (n f : Nat) => (s.live) ∧ (s.dev.activeEngine < 2) ∧ (s.dev.voting = true) ∧ (f % 32 ≠ 0) ∧ ((match (s.dev.port n).built with | some c => nth 0 c.flags s.dev.standby | none => 0) = 0)) (st [(Reg.ENGX.STAT.ESTATE 1, 3), (Reg.ENGX.STAT.ESTATE 0, 4), (Reg.ENG.STAT.VOTING, 1)]) 2 3 := by decide +kernel

theorem witness_EngineFailures_2 :
    (fun (s : State) (n fA fB : Nat) => (s.live) ∧ (s.dev.activeEngine < 2) ∧ (s.dev.voting = true) ∧ (fA % 32 ≠ 0) ∧ (fB % 32 ≠ 0)) (st [(Reg.ENGX.STAT.ESTATE 1, 3), (Reg.ENGX.STAT.ESTATE 0, 4), (Reg.ENG.STAT.VOTING, 1)]) 2 3 4 := by decide +kernel

theorem witness_EngineFailures_3 :
    (fun (s : State) (n f : Nat) => (s.live) ∧ (s.dev.activeEngine < 2) ∧ (s.dev.voting = false) ∧ (f % 32 ≠ 0) ∧ ((match (s.dev.port n).built with | some c => nth 0 c.flags s.dev.standby | none => 0) = 0)) (st []) 2 3 := by decide +kernel

theorem witness_EngineFailures_4 :
    (fun (s : State) (n f : Nat) => (s.live) ∧ (s.dev.activeEngine < 2) ∧ (s.dev.voting = false) ∧ (f % 32 ≠ 0) ∧ ((match (s.dev.port n).built with | some c => nth 0 c.flags s.dev.activeEngine | none => 0) = 0)) (st []) 2 3 := by decide +kernel

theorem witness_EngineFailures_5 :
    (fun (s : State) (n : Nat) => (s.live) ∧ (s.dev.activeEngine < 2) ∧ (s.dev.voting = true) ∧ ((match (s.dev.port n).built with | some c => nth 0 c.flags s.dev.activeEngine | none => 0) = 0)) (st [(Reg.ENGX.STAT.ESTATE 1, 3), (Reg.ENGX.STAT.ESTATE 0, 4), (Reg.ENG.STAT.VOTING, 1), (Reg.ENG.CFG.AUTO_RESYNC, 0)]) 2 := by decide +kernel

theorem witness_EngineFailures_6 :
    (fun (s : State) (n : Nat) => (s.live) ∧ (s.dev.activeEngine < 2) ∧ (s.dev.voting = true) ∧ ((match (s.dev.port n).built with | some c => nth 0 c.flags s.dev.standby | none => 0) = 0)) (st [(Reg.ENGX.STAT.ESTATE 1, 3), (Reg.ENGX.STAT.ESTATE 0, 4), (Reg.ENG.STAT.VOTING, 1)]) 2 := by decide +kernel

theorem witness_EngineFailures_7 :
    (fun (s : State) (n : Nat) => (s.live) ∧ (s.dev.activeEngine < 2) ∧ (s.dev.voting = false) ∧ ((match (s.dev.port n).built with | some c => nth 0 c.flags s.dev.standby | none => 0) = 0)) (st []) 2 := by decide +kernel

theorem witness_EngineFailures_8 :
    (fun (s : State) (n : Nat) => (s.live) ∧ (s.dev.eng.switching.contains n = true)) (st [] fun d => { d with eng := { d.eng with switching := [2] } }) 2 := by decide +kernel

theorem witness_EngineFailures_9 :
    (fun (s : State) (n : Nat) => (s.live) ∧ (s.dev.eng.switching.contains n = false)) (State.reset) 2 := by decide +kernel

theorem witness_EngineFailures_10 :
    (fun (s : State) (old fin t : Nat) => (s.live) ∧ (s.dev.due .failoverOverlap = some t) ∧ (s.dev.eng.overlap = some (old, fin))) (st [] fun d => { d with eng := { d.eng with overlap := some (0, 3) } }.arm .failoverOverlap 7) 0 3 7 := by decide +kernel

theorem witness_EngineFailures_11 :
    (fun (s : State)  => (s.live) ∧ (s.dev.pageOff 0xB5 = false) ∧ (s.dev.voting = true) ∧ (s.dev.activeEngine < 2)) (st [(Reg.HDR.STATE 0xB5, 2), (Reg.ENGX.STAT.ESTATE 1, 3), (Reg.ENGX.STAT.ESTATE 0, 4), (Reg.ENG.STAT.VOTING, 1)]) := by decide +kernel

theorem witness_EngineFailures_12 :
    (fun (s : State)  => (s.live) ∧ (s.dev.pageOff 0xB5 = false) ∧ (s.dev.voting = false)) (st [(Reg.HDR.STATE 0xB5, 2)]) := by decide +kernel

theorem witness_EngineFailures_13 :
    (fun (s : State) (n fA fB : Nat) (fa fs : Nat) (d0 : Dev) => (s.live) ∧ ((if s.dev.activeEngine = 0 then fA else fB) = fa) ∧ ((if s.dev.activeEngine = 0 then fB else fA) = fs) ∧ (noteFlags n fA fB (flagEngine n 1 fB (flagEngine n 0 fA s.dev)) = d0) ∧ (fa % 32 = 0) ∧ (fs % 32 = 0)) (WVE) 2 0 0 0 0 (noteFlags 2 0 0 (flagEngine 2 1 0 (flagEngine 2 0 0 WVE.dev))) := by decide +kernel

theorem witness_EngineFailures_14 :
    (fun (s : State) (n fA fB : Nat) (fa fs : Nat) (d0 : Dev) => (s.live) ∧ ((if s.dev.activeEngine = 0 then fA else fB) = fa) ∧ ((if s.dev.activeEngine = 0 then fB else fA) = fs) ∧ (noteFlags n fA fB (flagEngine n 1 fB (flagEngine n 0 fA s.dev)) = d0) ∧ (fa % 32 ≠ 0 ∨ fs % 32 ≠ 0) ∧ (d0.bothFlagged n = true ∨ (s.dev.voting = true ∧ fa % 32 ≠ 0 ∧ fs % 32 ≠ 0))) (WVB) 2 0 3 0 3 (noteFlags 2 0 3 (flagEngine 2 1 3 (flagEngine 2 0 0 WVB.dev))) := by decide +kernel

theorem witness_EngineFailures_15 :
    (fun (s : State) (n fA fB : Nat) (fa fs : Nat) (d0 : Dev) => (s.live) ∧ ((if s.dev.activeEngine = 0 then fA else fB) = fa) ∧ ((if s.dev.activeEngine = 0 then fB else fA) = fs) ∧ (noteFlags n fA fB (flagEngine n 1 fB (flagEngine n 0 fA s.dev)) = d0) ∧ (fa % 32 ≠ 0) ∧ (¬(d0.bothFlagged n = true ∨ (s.dev.voting = true ∧ fa % 32 ≠ 0 ∧ fs % 32 ≠ 0)))) (WVE) 2 3 0 3 0 (noteFlags 2 3 0 (flagEngine 2 1 0 (flagEngine 2 0 3 WVE.dev))) := by decide +kernel

theorem witness_EngineFailures_16 :
    (fun (s : State) (n fA fB : Nat) (fa fs : Nat) (d0 : Dev) => (s.live) ∧ ((if s.dev.activeEngine = 0 then fA else fB) = fa) ∧ ((if s.dev.activeEngine = 0 then fB else fA) = fs) ∧ (noteFlags n fA fB (flagEngine n 1 fB (flagEngine n 0 fA s.dev)) = d0) ∧ (fa % 32 = 0) ∧ (fs % 8 ≠ 0) ∧ (s.dev.voting = true) ∧ (¬(d0.bothFlagged n = true ∨ (s.dev.voting = true ∧ fa % 32 ≠ 0 ∧ fs % 32 ≠ 0)))) (WVE) 2 0 3 0 3 (noteFlags 2 0 3 (flagEngine 2 1 3 (flagEngine 2 0 0 WVE.dev))) := by decide +kernel

theorem witness_EngineFailures_17 :
    (fun (s : State) (n fA fB : Nat) (fa fs : Nat) (d0 : Dev) => (s.live) ∧ ((if s.dev.activeEngine = 0 then fA else fB) = fa) ∧ ((if s.dev.activeEngine = 0 then fB else fA) = fs) ∧ (noteFlags n fA fB (flagEngine n 1 fB (flagEngine n 0 fA s.dev)) = d0) ∧ (fa % 32 = 0) ∧ (fs % 32 ≠ 0) ∧ (fs % 8 = 0) ∧ (s.dev.voting = true) ∧ (¬(d0.bothFlagged n = true ∨ (s.dev.voting = true ∧ fa % 32 ≠ 0 ∧ fs % 32 ≠ 0)))) (WVE) 2 0 16 0 16 (noteFlags 2 0 16 (flagEngine 2 1 16 (flagEngine 2 0 0 WVE.dev))) := by decide +kernel

theorem witness_EngineFailures_18 :
    (fun (s : State) (n fA fB : Nat) (fa fs : Nat) (d0 : Dev) => (s.live) ∧ ((if s.dev.activeEngine = 0 then fA else fB) = fa) ∧ ((if s.dev.activeEngine = 0 then fB else fA) = fs) ∧ (noteFlags n fA fB (flagEngine n 1 fB (flagEngine n 0 fA s.dev)) = d0) ∧ (fa % 32 = 0) ∧ (fs % 32 ≠ 0) ∧ (s.dev.voting = false) ∧ (¬(d0.bothFlagged n = true ∨ (s.dev.voting = true ∧ fa % 32 ≠ 0 ∧ fs % 32 ≠ 0)))) (State.reset) 2 0 3 0 3 (noteFlags 2 0 3 (flagEngine 2 1 3 (flagEngine 2 0 0 State.reset.dev))) := by decide +kernel

theorem witness_EngineFailures_19 :
    (fun (s : State) (n e : Nat) (fa fs : Nat) (d0 : Dev) => (s.live) ∧ ((if s.dev.activeEngine = 0 then (if e = 0 then 16 else 0) else (if e = 0 then 0 else 16)) = fa) ∧ ((if s.dev.activeEngine = 0 then (if e = 0 then 0 else 16) else (if e = 0 then 16 else 0)) = fs) ∧ (noteFlags n (if e = 0 then 16 else 0) (if e = 0 then 0 else 16) (flagEngine n 1 (if e = 0 then 0 else 16) (flagEngine n 0 (if e = 0 then 16 else 0) s.dev)) = d0) ∧ (fa % 32 ≠ 0 ∨ fs % 32 ≠ 0) ∧ (d0.bothFlagged n = true ∨ (s.dev.voting = true ∧ fa % 32 ≠ 0 ∧ fs % 32 ≠ 0))) (WVB) 2 1 0 16 (noteFlags 2 0 16 (flagEngine 2 1 16 (flagEngine 2 0 0 WVB.dev))) := by decide +kernel

theorem witness_EngineFailures_20 :
    (fun (s : State) (n e : Nat) (fa fs : Nat) (d0 : Dev) => (s.live) ∧ ((if s.dev.activeEngine = 0 then (if e = 0 then 16 else 0) else (if e = 0 then 0 else 16)) = fa) ∧ ((if s.dev.activeEngine = 0 then (if e = 0 then 0 else 16) else (if e = 0 then 16 else 0)) = fs) ∧ (noteFlags n (if e = 0 then 16 else 0) (if e = 0 then 0 else 16) (flagEngine n 1 (if e = 0 then 0 else 16) (flagEngine n 0 (if e = 0 then 16 else 0) s.dev)) = d0) ∧ (fa % 32 ≠ 0) ∧ (¬(d0.bothFlagged n = true ∨ (s.dev.voting = true ∧ fa % 32 ≠ 0 ∧ fs % 32 ≠ 0)))) (WVE) 2 0 16 0 (noteFlags 2 16 0 (flagEngine 2 1 0 (flagEngine 2 0 16 WVE.dev))) := by decide +kernel

theorem witness_EngineFailures_21 :
    (fun (s : State) (n e : Nat) (fa fs : Nat) (d0 : Dev) => (s.live) ∧ ((if s.dev.activeEngine = 0 then (if e = 0 then 16 else 0) else (if e = 0 then 0 else 16)) = fa) ∧ ((if s.dev.activeEngine = 0 then (if e = 0 then 0 else 16) else (if e = 0 then 16 else 0)) = fs) ∧ (noteFlags n (if e = 0 then 16 else 0) (if e = 0 then 0 else 16) (flagEngine n 1 (if e = 0 then 0 else 16) (flagEngine n 0 (if e = 0 then 16 else 0) s.dev)) = d0) ∧ (fa % 32 = 0) ∧ (fs % 32 ≠ 0) ∧ (fs % 8 = 0) ∧ (s.dev.voting = true) ∧ (¬(d0.bothFlagged n = true ∨ (s.dev.voting = true ∧ fa % 32 ≠ 0 ∧ fs % 32 ≠ 0)))) (WVE) 2 1 0 16 (noteFlags 2 0 16 (flagEngine 2 1 16 (flagEngine 2 0 0 WVE.dev))) := by decide +kernel

theorem witness_EngineFailures_22 :
    (fun (s : State) (n e : Nat) (fa fs : Nat) (d0 : Dev) => (s.live) ∧ ((if s.dev.activeEngine = 0 then (if e = 0 then 16 else 0) else (if e = 0 then 0 else 16)) = fa) ∧ ((if s.dev.activeEngine = 0 then (if e = 0 then 0 else 16) else (if e = 0 then 16 else 0)) = fs) ∧ (noteFlags n (if e = 0 then 16 else 0) (if e = 0 then 0 else 16) (flagEngine n 1 (if e = 0 then 0 else 16) (flagEngine n 0 (if e = 0 then 16 else 0) s.dev)) = d0) ∧ (fa % 32 = 0) ∧ (fs % 32 ≠ 0) ∧ (s.dev.voting = false) ∧ (¬(d0.bothFlagged n = true ∨ (s.dev.voting = true ∧ fa % 32 ≠ 0 ∧ fs % 32 ≠ 0)))) (State.reset) 2 1 0 16 (noteFlags 2 0 16 (flagEngine 2 1 16 (flagEngine 2 0 0 State.reset.dev))) := by decide +kernel

theorem witness_EngineFailures_23 :
    (fun (s : State)  => (s.live) ∧ (s.dev.due .failoverOverlap = none)) (State.reset) := by decide +kernel

theorem witness_EngineFailures_24 :
    (fun (s : State) (t : Nat) => (s.live) ∧ (s.dev.due .failoverOverlap = some t) ∧ (s.dev.eng.overlap = none)) (st [] (·.arm .failoverOverlap 7)) 7 := by decide +kernel

theorem witness_EngineFailures_25 :
    (fun (s : State)  => (s.live) ∧ (s.dev.pageOff 0xB5 = true)) (st [(Reg.HDR.STATE 0xB5, 0)]) := by decide +kernel

theorem witness_Resynchronisation_0 :
    (fun (s : State)  => (s.live) ∧ (s.dev.pageOff 0xB5 = false) ∧ (s.dev.estate s.dev.standby = 0 ∨ s.dev.estate s.dev.standby = 5)) (st [(Reg.HDR.STATE 0xB5, 2)]) := by decide +kernel

theorem witness_Resynchronisation_1 :
    (fun (s : State)  => (s.live) ∧ (s.dev.pageOff 0xB5 = false) ∧ (s.dev.estate s.dev.standby = 6) ∧ (s.dev.activeEngine < 2)) (st [(Reg.HDR.STATE 0xB5, 2), (Reg.ENGX.STAT.ESTATE 1, 6)]) := by decide +kernel

theorem witness_Resynchronisation_2 :
    (fun (s : State)  => (s.live) ∧ (s.dev.is Reg.SYS.BRINGUP.HEALTH_KNOWN = true) ∧ (s.dev.get Reg.PRT.GEOM_OK.OK ≠ 0) ∧ (s.dev.enabled (pg .ENGX 1) = true) ∧ (s.dev.estate 1 = 0)) (st [(Reg.SYS.BRINGUP.HEALTH_KNOWN, 1), (Reg.PRT.GEOM_OK.OK, 1), (Reg.HDR.ENABLE (pg .ENGX 1), 1)]) := by decide +kernel

theorem witness_Resynchronisation_3 :
    (fun (s : State) (n : Nat) => (s.live) ∧ (n < 64) ∧ (s.dev.estate s.dev.standby = 2) ∧ ((s.dev.engine s.dev.standby).shadowed.contains n = false) ∧ (aget n (s.dev.engine s.dev.standby).copied = none)) (st [(Reg.ENGX.STAT.ESTATE 1, 2)]) 2 := by decide +kernel

theorem witness_Resynchronisation_4 :
    (fun (s : State) (n k : Nat) (eA eB : Bytes) (r : Slice × Bytes × Bytes) => (s.live) ∧ (s.dev.estate s.dev.standby = 2) ∧ (aget n (s.dev.engine s.dev.standby).copied = some k) ∧ ((s.dev.port n).cycles ≤ k + 4) ∧ ((s.dev.port n).cycles - k ≤ ((s.dev.port n).ring.filter fun r => decide (k < r.count)).length) ∧ (s.dev.resyncSums n k = r) ∧ (crc32c (struck r.2.1 (if s.dev.standby = 1 then eA else eB)) = crc32c (struck r.2.2 (if s.dev.standby = 1 then eB else eA))) ∧ ((s.dev.engine s.dev.standby).shadowed.contains n = false) ∧ ((s.dev.engine s.dev.standby).shadowed.length < 63)) (WRC) 2 0 [] [] (WRC.dev.resyncSums 2 0) := by decide +kernel

theorem witness_Resynchronisation_5 :
    (fun (s : State)  => (s.live) ∧ (s.dev.voting = true) ∧ (s.dev.is Reg.ENG.BIST_CFG.EN = true) ∧ (s.dev.is Reg.ENG.BIST_CFG.HOLD = false)) (st [(Reg.ENGX.STAT.ESTATE 1, 3), (Reg.ENGX.STAT.ESTATE 0, 4), (Reg.ENG.STAT.VOTING, 1), (Reg.ENG.BIST_CFG.EN, 1)]) := by decide +kernel

theorem witness_Resynchronisation_6 :
    (fun (s : State) (t : Nat) => (s.live) ∧ (s.dev.due .bistEnd = some t) ∧ (s.dev.estate s.dev.standby = 1)) (st [(Reg.ENGX.STAT.ESTATE 1, 1)] (·.arm .bistEnd 7)) 7 := by decide +kernel

theorem witness_Resynchronisation_7 :
    (fun (s : State) (t : Nat) => (s.live) ∧ (s.dev.due .bistEnd = some t) ∧ (s.dev.estate s.dev.standby = 1)) (st [(Reg.ENGX.STAT.ESTATE 1, 1)] (·.arm .bistEnd 7)) 7 := by decide +kernel

theorem witness_Resynchronisation_8 :
    (fun (s : State) (e t : Nat) => (s.live) ∧ (e < 2) ∧ (s.dev.due (.repair e) = some t) ∧ (s.dev.is Reg.ENG.CFG.AUTO_REPAIR = true) ∧ (s.dev.get (Reg.ENGX.STAT.REPAIRS e) < max 1 (s.dev.get Reg.ENG.CFG.REPAIR_MAX)) ∧ (s.dev.estate e = 6) ∧ (e ≠ s.dev.activeEngine)) (st [(Reg.ENGX.STAT.ESTATE 1, 6), (Reg.ENG.CFG.AUTO_REPAIR, 1)] (·.arm (.repair 1) 7)) 1 7 := by decide +kernel

theorem witness_Resynchronisation_9 :
    (fun (s : State) (n k : Nat) (eA eB : Bytes) (r : Slice × Bytes × Bytes) => (s.live) ∧ (s.dev.estate s.dev.standby = 2) ∧ (aget n (s.dev.engine s.dev.standby).copied = some k) ∧ ((s.dev.port n).cycles ≤ k + 4) ∧ ((s.dev.port n).cycles - k ≤ ((s.dev.port n).ring.filter fun r => decide (k < r.count)).length) ∧ (s.dev.resyncSums n k = r) ∧ (crc32c (struck r.2.1 (if s.dev.standby = 1 then eA else eB)) = crc32c (struck r.2.2 (if s.dev.standby = 1 then eB else eA))) ∧ ((s.dev.engine s.dev.standby).shadowed.contains n = false) ∧ ((s.dev.engine s.dev.standby).shadowed.length = 63)) (WRD) 2 0 [] [] (WRD.dev.resyncSums 2 0) := by decide +kernel

theorem witness_Resynchronisation_10 :
    (fun (s : State) (n k : Nat) (eA eB : Bytes) (r : Slice × Bytes × Bytes) => (s.live) ∧ (s.dev.estate s.dev.standby = 2) ∧ (aget n (s.dev.engine s.dev.standby).copied = some k) ∧ ((s.dev.port n).cycles ≤ k + 4) ∧ ((s.dev.port n).cycles - k ≤ ((s.dev.port n).ring.filter fun r => decide (k < r.count)).length) ∧ (s.dev.resyncSums n k = r) ∧ (crc32c (struck r.2.1 (if s.dev.standby = 1 then eA else eB)) ≠ crc32c (struck r.2.2 (if s.dev.standby = 1 then eB else eA)))) (WRC) 2 0 [] [1] (WRC.dev.resyncSums 2 0) := by decide +kernel

theorem witness_Resynchronisation_11 :
    (fun (s : State) (n k : Nat) (eA eB : Bytes) => (s.live) ∧ (s.dev.estate s.dev.standby = 2) ∧ (aget n (s.dev.engine s.dev.standby).copied = some k) ∧ (k + 4 < (s.dev.port n).cycles)) (WRE) 2 0 [] [] := by decide +kernel

theorem witness_Resynchronisation_12 :
    (fun (s : State) (t : Nat) => (s.live) ∧ (s.dev.due .bistEnd = some t) ∧ (s.dev.estate s.dev.standby = 1)) (st [(Reg.ENGX.STAT.ESTATE 1, 1)] (·.arm .bistEnd 7)) 7 := by decide +kernel

theorem witness_Resynchronisation_13 :
    (fun (s : State) (t : Nat) (d1 : Dev) => (s.live) ∧ (s.dev.due .bistEnd = some t) ∧ (s.dev.estate s.dev.standby = 1) ∧ ((((((s.dev.advanceTo t).disarm .bistEnd).put (Reg.ENGX.BIST_STAT.LAST_PASS s.dev.standby) false).set (Reg.ENGX.BIST_TS.TS s.dev.standby) ((s.dev.advanceTo t).disarm .bistEnd).ts).ev .ENG 0 4).bump (Reg.ENGX.BIST_STAT.FAILS s.dev.standby) 1 = d1)) (WBW) 7 (((((WBW.dev.advanceTo 7).disarm .bistEnd).put (Reg.ENGX.BIST_STAT.LAST_PASS 1) false).set (Reg.ENGX.BIST_TS.TS 1) (WBW.dev.advanceTo 7).ts).ev .ENG 0 4 |>.bump (Reg.ENGX.BIST_STAT.FAILS 1) 1) := by decide +kernel

theorem witness_Resynchronisation_14 :
    (fun (s : State) (t : Nat) (p : Bool) => (s.live) ∧ (s.dev.due .bistEnd = some t) ∧ (s.dev.estate s.dev.standby ≠ 1)) (st [] (·.arm .bistEnd 7)) 7 true := by decide +kernel

theorem witness_Resynchronisation_15 :
    (fun (s : State) (e t : Nat) => (s.live) ∧ (s.dev.due (.repair e) = some t) ∧ (s.dev.is Reg.ENG.CFG.AUTO_REPAIR = false ∨ max 1 (s.dev.get Reg.ENG.CFG.REPAIR_MAX) ≤ s.dev.get (Reg.ENGX.STAT.REPAIRS e) ∨ s.dev.estate e ≠ 6 ∨ e = s.dev.activeEngine)) (st [(Reg.ENG.CFG.AUTO_REPAIR, 0)] (·.arm (.repair 1) 7)) 1 7 := by decide +kernel

theorem witness_Resynchronisation_16 :
    (fun (s : State) (p : Bool) => (s.live) ∧ (s.dev.due .bistEnd = none)) (State.reset) true := by decide +kernel

theorem witness_Resynchronisation_17 :
    (fun (s : State) (e : Nat) => (s.live) ∧ (s.dev.due (.repair e) = none)) (State.reset) 1 := by decide +kernel

theorem witness_Resynchronisation_18 :
    (fun (s : State)  => (s.live) ∧ (s.dev.pageOff 0xB5 = false) ∧ (s.dev.estate s.dev.standby ≠ 0) ∧ (s.dev.estate s.dev.standby ≠ 5)) (st [(Reg.HDR.STATE 0xB5, 2), (Reg.ENGX.STAT.ESTATE 1, 3)]) := by decide +kernel

theorem witness_Resynchronisation_19 :
    (fun (s : State)  => (s.live) ∧ (s.dev.pageOff 0xB5 = false) ∧ (s.dev.estate s.dev.standby ≠ 6)) (st [(Reg.HDR.STATE 0xB5, 2)]) := by decide +kernel

theorem witness_Resynchronisation_20 :
    (fun (s : State)  => (s.live) ∧ (s.dev.is Reg.SYS.BRINGUP.HEALTH_KNOWN = false ∨ s.dev.get Reg.PRT.GEOM_OK.OK = 0 ∨ s.dev.enabled (pg .ENGX 1) = false ∨ s.dev.estate 1 ≠ 0)) (State.reset) := by decide +kernel

theorem witness_Resynchronisation_21 :
    (fun (s : State) (n : Nat) => (s.live) ∧ (s.dev.estate s.dev.standby ≠ 2 ∨ 64 ≤ n ∨ (s.dev.engine s.dev.standby).shadowed.contains n = true ∨ (aget n (s.dev.engine s.dev.standby).copied).isSome = true)) (State.reset) 2 := by decide +kernel

theorem witness_Resynchronisation_22 :
    (fun (s : State)  => (s.live) ∧ (s.dev.voting = false ∨ s.dev.is Reg.ENG.BIST_CFG.EN = false ∨ s.dev.is Reg.ENG.BIST_CFG.HOLD = true)) (State.reset) := by decide +kernel

theorem witness_Resynchronisation_23 :
    (fun (s : State) (n : Nat) (eA eB : Bytes) => (s.live) ∧ (aget n (s.dev.engine s.dev.standby).copied = none ∨ s.dev.estate s.dev.standby ≠ 2)) (State.reset) 2 [] [] := by decide +kernel

theorem witness_Resynchronisation_24 :
    (fun (s : State) (n k : Nat) (eA eB : Bytes) => (s.live) ∧ (s.dev.estate s.dev.standby = 2) ∧ (aget n (s.dev.engine s.dev.standby).copied = some k) ∧ ((s.dev.port n).cycles ≤ k + 4) ∧ (((s.dev.port n).ring.filter fun r => decide (k < r.count)).length < (s.dev.port n).cycles - k)) (WRN) 2 0 [] [] := by decide +kernel

theorem witness_Resynchronisation_25 :
    (fun (s : State) (n k : Nat) (eA eB : Bytes) (r : Slice × Bytes × Bytes) (d1 : Dev) => (s.live) ∧ (s.dev.estate s.dev.standby = 2) ∧ (aget n (s.dev.engine s.dev.standby).copied = some k) ∧ ((s.dev.port n).cycles ≤ k + 4) ∧ ((s.dev.port n).cycles - k ≤ ((s.dev.port n).ring.filter fun r => decide (k < r.count)).length) ∧ (s.dev.resyncSums n k = r) ∧ (crc32c (struck r.2.1 (if s.dev.standby = 1 then eA else eB)) = crc32c (struck r.2.2 (if s.dev.standby = 1 then eB else eA))) ∧ ((s.dev.engine s.dev.standby).shadowed.contains n = true) ∧ ((s.dev.setEngine s.dev.standby { (s.dev.engine s.dev.standby).setSlice n r.1 with copied := adel n (s.dev.engine s.dev.standby).copied }).set (Reg.ENGX.STAT.PORTS_OK s.dev.standby) (s.dev.engine s.dev.standby).shadowed.length = d1)) (WRS) 2 0 [] [] (WRS.dev.resyncSums 2 0) ((WRS.dev.setEngine 1 { (WRS.dev.engine 1).setSlice 2 (WRS.dev.resyncSums 2 0).1 with copied := [] }).set (Reg.ENGX.STAT.PORTS_OK 1) 1) := by decide +kernel

theorem witness_Resynchronisation_26 :
    (fun (s : State)  => (s.live) ∧ (s.dev.pageOff 0xB5 = true)) (st [(Reg.HDR.STATE 0xB5, 0)]) := by decide +kernel

theorem witness_Temperatures_0 :
    (fun (s : State) (n main : Nat) => (s.live) ∧ (n < 64) ∧ (s.dev.pageOff (0x100 + n) = false) ∧ (main < 2 ^ 32)) (st [(Reg.HDR.STATE 0x102, 2)]) 2 8190 := by decide +kernel

theorem witness_Temperatures_1 :
    (fun (s : State) (n k main : Nat) => (s.live) ∧ (n < 64) ∧ (1 ≤ k) ∧ (k ≤ 3) ∧ (s.dev.pageOff (0x100 + n) = false) ∧ (s.dev.is (Reg.HDR.LEVEL (0x100 + n)) = true) ∧ (main < 2 ^ 32)) (st [(Reg.HDR.STATE 0x102, 2), (Reg.HDR.LEVEL 0x102, 1)]) 2 1 500 := by decide +kernel

theorem witness_Temperatures_2 :
    (fun (s : State) (n r : Nat) (t : Int) (d0 : Dev) => (s.live) ∧ (n < 64) ∧ (s.dev.get (Reg.HPT.LINK_STAT.STATE n) = 6) ∧ (s.dev.blk (pg .THM 0) ≠ 0) ∧ (s.dev.blk (pg .THM 0) ≠ 5) ∧ (s.dev.channelStale (n / 8) = false) ∧ (takeSample n ((s.dev.advanceTo ((s.dev.due (.temp n)).getD s.dev.time.up)).arm (.temp n) (100 * us)) = d0) ∧ ((d0.head n).snsBad < 2) ∧ (senseTemp (s.dev.energy n) r = t) ∧ (-640 ≤ t) ∧ (t ≤ 2400)) (WTS) 2 (EnergyEntry.dflt.snsR) (senseTemp EnergyEntry.dflt EnergyEntry.dflt.snsR) WTS0 := by decide +kernel

theorem witness_Temperatures_3 :
    (fun (s : State) (n outcome r : Nat) (d0 : Dev) => (s.live) ∧ (n < 64) ∧ (s.dev.get (Reg.HPT.LINK_STAT.STATE n) = 6) ∧ (s.dev.blk (pg .THM 0) ≠ 0) ∧ (s.dev.blk (pg .THM 0) ≠ 5) ∧ (s.dev.channelStale (n / 8) = false) ∧ (takeSample n ((s.dev.advanceTo ((s.dev.due (.temp n)).getD s.dev.time.up)).arm (.temp n) (100 * us)) = d0) ∧ (outcome = 1 ∨ 2 ≤ (d0.head n).snsBad ∨ senseTemp (s.dev.energy n) r < -640 ∨ 2400 < senseTemp (s.dev.energy n) r)) (WTS) 2 1 0 WTS0 := by decide +kernel

theorem witness_Temperatures_4 :
    (fun (s : State) (n t : Nat) => (s.live) ∧ (s.dev.due .thmSlowdown = some t) ∧ ((List.range 64).find? (fun n => (s.dev.heat n).soft) = some n)) (st [] fun d => (d.setHeat 2 { ThmPort.init with soft := true }).arm .thmSlowdown 7) 2 7 := by decide +kernel

theorem witness_Temperatures_5 :
    (fun (s : State) (n t : Nat) (rest : List Nat) => (s.live) ∧ ((s.dev.heat n).warm = t :: rest) ∧ (s.dev.hot n = false) ∧ (s.dev.runs (pg .THM 0) = true) ∧ (s.dev.is Reg.SYS.BRINGUP.HEAD_POWER_ARMED = true) ∧ (s.dev.halted = false) ∧ (s.dev.runs (pg .HPT n) = true) ∧ (s.dev.get (Reg.HPT.LINK_STAT.STATE n) = 6) ∧ (((s.dev.port n).firing.map Firing.done).getD true = true) ∧ (((s.dev.advanceTo t).setHeat n { s.dev.heat n with warm := rest }).warmRoom n (min (s.dev.get Reg.THM.WARM_W.WIDTH) (s.dev.energy n).warmMax) = true)) (WWP) 2 40 [] := by decide +kernel

theorem witness_Temperatures_6 :
    (fun (s : State) (n : Nat) => (s.live) ∧ (n < 64) ∧ (s.dev.pageOff 0xB2 = false) ∧ (s.dev.hot n = true) ∧ (2 ≤ (s.dev.heat n).cool)) (st [(Reg.HDR.STATE 0xB2, 2), (Reg.THM.HOT.HOT, 4)] fun d => d.setHeat 2 { ThmPort.init with cool := 2 }) 2 := by decide +kernel

theorem witness_Temperatures_7 :
    (fun (s : State) (n k main : Nat) => (s.live) ∧ (n < 64) ∧ (1 ≤ k) ∧ (k ≤ 3) ∧ (s.dev.pageOff (0x100 + n) = false) ∧ (s.dev.is (Reg.HDR.LEVEL (0x100 + n)) = false) ∧ (main < 8192) ∧ (main ≠ s.dev.get (Reg.HPT.FIRE_W_X.MAIN n (k - 1)))) (st [(Reg.HDR.STATE 0x102, 2)]) 2 1 500 := by decide +kernel

theorem witness_Temperatures_8 :
    (fun (s : State) (n outcome r : Nat) => (s.live) ∧ (n < 64) ∧ (s.dev.get (Reg.HPT.LINK_STAT.STATE n) = 6) ∧ (s.dev.blk (pg .THM 0) ≠ 0) ∧ (s.dev.blk (pg .THM 0) ≠ 5) ∧ (s.dev.channelStale (n / 8) = true)) (st [(Reg.HPT.LINK_STAT.STATE 2, 6), (Reg.HDR.STATE (pg .THM 0), 2)] fun d => { d with cal := { d.cal with cur := some 0, b7 := false } }) 2 0 0 := by decide +kernel

theorem witness_Temperatures_9 :
    (fun (s : State) (n t : Nat) (rest : List Nat) => (s.live) ∧ ((s.dev.heat n).warm = t :: rest) ∧ (s.dev.hot n = true ∨ s.dev.runs (pg .THM 0) = false ∨ s.dev.is Reg.SYS.BRINGUP.HEAD_POWER_ARMED = false ∨ s.dev.halted = true ∨
      s.dev.runs (pg .HPT n) = false ∨ s.dev.get (Reg.HPT.LINK_STAT.STATE n) ≠ 6 ∨ ((s.dev.port n).firing.map Firing.done).getD true = false)) (st [] fun d => d.setHeat 2 { ThmPort.init with warm := [40] }) 2 40 [] := by decide +kernel

theorem witness_Temperatures_10 :
    (fun (s : State) (n : Nat) => (s.live) ∧ (n < 64) ∧ (s.dev.pageOff 0xB2 = false) ∧ (s.dev.hot n = true) ∧ ((s.dev.heat n).cool < 2)) (st [(Reg.HDR.STATE 0xB2, 2), (Reg.THM.HOT.HOT, 4)]) 2 := by decide +kernel

theorem witness_Temperatures_11 :
    (fun (s : State) (t : Nat) => (s.live) ∧ (s.dev.due .thmSlowdown = some t) ∧ ((List.range 64).find? (fun n => (s.dev.heat n).soft) = none)) (st [] (·.arm .thmSlowdown 7)) 7 := by decide +kernel

theorem witness_Temperatures_12 :
    (fun (s : State) (n outcome r : Nat) => (s.live) ∧ (s.dev.get (Reg.HPT.LINK_STAT.STATE n) ≠ 6 ∨ s.dev.blk (pg .THM 0) = 0 ∨ s.dev.blk (pg .THM 0) = 5)) (State.reset) 2 0 0 := by decide +kernel

theorem witness_Temperatures_13 :
    (fun (s : State) (n k main : Nat) (d1 : Dev) => (s.live) ∧ (n < 64) ∧ (k < 4) ∧ (s.dev.pageOff (0x100 + n) = false) ∧ (k = 0 ∨ s.dev.is (Reg.HDR.LEVEL (0x100 + n)) = true) ∧ (main < 2 ^ 32) ∧ ((s.dev.set (fireFields n k).2.2 (min (main % 8192) 8000)).setWave n k { s.dev.wave n k with nom := { pre := min (s.dev.get (fireFields n k).1) 8000, gap := min (s.dev.get (fireFields n k).2.1) 8000, main := min (main % 8192) 8000 } } = d1)) (WFW) 2 1 500 ((WFW.dev.set (fireFields 2 1).2.2 500).setWave 2 1 { WFW.dev.wave 2 1 with nom := { pre := min (WFW.dev.get (fireFields 2 1).1) 8000, gap := min (WFW.dev.get (fireFields 2 1).2.1) 8000, main := 500 } }) := by decide +kernel

theorem witness_Temperatures_14 :
    (fun (s : State) (n k main : Nat) => (s.live) ∧ (n < 64) ∧ (1 ≤ k) ∧ (k ≤ 3) ∧ (s.dev.pageOff (0x100 + n) = false) ∧ (s.dev.is (Reg.HDR.LEVEL (0x100 + n)) = false) ∧ (main < 8192) ∧ (main = s.dev.get (Reg.HPT.FIRE_W_X.MAIN n (k - 1)))) (st [(Reg.HDR.STATE 0x102, 2)]) 2 1 0 := by decide +kernel

theorem witness_Temperatures_15 :
    (fun (s : State) (n k main : Nat) => (s.live) ∧ (n < 64) ∧ (1 ≤ k) ∧ (k ≤ 3) ∧ (s.dev.pageOff (0x100 + n) = false) ∧ (s.dev.is (Reg.HDR.LEVEL (0x100 + n)) = false) ∧ (main < 8192) ∧ (main ≠ s.dev.get (Reg.HPT.FIRE_W_X.MAIN n (k - 1)))) (st [(Reg.HDR.STATE 0x102, 2)]) 2 1 500 := by decide +kernel

theorem witness_Temperatures_16 :
    (fun (s : State) (n : Nat) => (s.live) ∧ ((s.dev.heat n).warm = [])) (State.reset) 2 := by decide +kernel

theorem witness_Temperatures_17 :
    (fun (s : State) (n t : Nat) (rest : List Nat) (d1 : Dev) => (s.live) ∧ ((s.dev.heat n).warm = t :: rest) ∧ ((s.dev.advanceTo t).setHeat n { s.dev.heat n with warm := rest } = d1) ∧ (d1.warmRoom n (min (s.dev.get Reg.THM.WARM_W.WIDTH) (s.dev.energy n).warmMax) = false)) (WWN) 2 40 [] ((WWN.dev.advanceTo 40).setHeat 2 { WWN.dev.heat 2 with warm := [] }) := by decide +kernel

theorem witness_Temperatures_18 :
    (fun (s : State)  => (s.live) ∧ (s.dev.due .thmSlowdown = none)) (State.reset) := by decide +kernel

theorem witness_Temperatures_19 :
    (fun (s : State) (n : Nat) (d0 d1 : Dev) => (s.live) ∧ (n < 64) ∧ (s.dev.pageOff 0xB2 = false) ∧ (autoRearm ((s.dev.set Reg.THM.HOT_CTRL.AUTO_REARM (s.dev.get Reg.THM.HOT_CTRL.AUTO_REARM)).set Reg.THM.HOT_CTRL.PORT n) = d0) ∧ (d0.hot n = true) ∧ (d0.setHeat n { d0.heat n with rearm := true } = d1) ∧ (2 ≤ (d0.heat n).cool)) (WHR) 2 WHRd (WHRd.setHeat 2 { WHRd.heat 2 with rearm := true }) := by decide +kernel

theorem witness_Temperatures_20 :
    (fun (s : State) (n : Nat) (d0 : Dev) => (s.live) ∧ (n < 64) ∧ (s.dev.pageOff 0xB2 = false) ∧ (autoRearm ((s.dev.set Reg.THM.HOT_CTRL.AUTO_REARM (s.dev.get Reg.THM.HOT_CTRL.AUTO_REARM)).set Reg.THM.HOT_CTRL.PORT n) = d0) ∧ (d0.hot n = true) ∧ ((d0.heat n).cool < 2)) (WHRc) 2 WHRcd := by decide +kernel

theorem witness_Temperatures_21 :
    (fun (s : State) (n : Nat) (d0 : Dev) => (s.live) ∧ (n < 64) ∧ (s.dev.pageOff 0xB2 = false) ∧ (autoRearm ((s.dev.set Reg.THM.HOT_CTRL.AUTO_REARM (s.dev.get Reg.THM.HOT_CTRL.AUTO_REARM)).set Reg.THM.HOT_CTRL.PORT n) = d0) ∧ (d0.hot n = false)) (WHRn) 2 WHRnd := by decide +kernel

theorem witness_Temperatures_22 :
    (fun (s : State) (n : Nat) => (s.live) ∧ (s.dev.pageOff 0xB2 = true)) (st [(Reg.HDR.STATE 0xB2, 0)]) 2 := by decide +kernel

theorem witness_Temperatures_23 :
    (fun (s : State) (n i w : Nat) => (s.live) ∧ (s.dev.pageOff (0x100 + n) = true) ∧ (n < 64) ∧ (i < 4)) (st [(Reg.HDR.STATE 0x102, 0)]) 2 1 5 := by decide +kernel

theorem witness_LinkTraining_0 :
    (fun (s : State) (n : Nat) => (s.live) ∧ (n < 64) ∧ ((s.dev.head n).step = 0) ∧ ((s.dev.head n).want = true) ∧ (s.dev.mayTrain n = true)) (st [] fun d => (d.setHead 2 { Head.init with want := true })) 2 := by decide +kernel

theorem witness_LinkTraining_1 :
    (fun (s : State) (n : Nat) => (s.live) ∧ (n < 64) ∧ (s.dev.pageOff (0x100 + n) = false)) (st [(Reg.HDR.STATE 0x102, 2)]) 2 := by decide +kernel

theorem witness_LinkTraining_2 :
    (fun (s : State) (n : Nat) => (s.live) ∧ (n < 64) ∧ (s.dev.pageOff (0x100 + n) = false) ∧ (s.dev.portAtBoundary n = true)) (st [(Reg.HDR.STATE 0x102, 2), (Reg.HPT.LINK_STAT.STATE 2, 6)] fun d => (d.setHead 2 { Head.init with clock := true })) 2 := by decide +kernel

theorem witness_LinkTraining_3 :
    (fun (s : State) (n t : Nat) (ok : Bool) => (s.live) ∧ ((s.dev.head n).step = 2) ∧ (s.dev.due (.trainSettle n) = some t) ∧ ((s.dev.head n).sweep + 1 < 32)) (st [] fun d => (d.setHead 2 { Head.init with step := 2 }).arm (.trainSettle 2) 7) 2 7 true := by decide +kernel

theorem witness_LinkTraining_4 :
    (fun (s : State) (n t : Nat) => (s.live) ∧ ((s.dev.head n).step = 3) ∧ (s.dev.due (.trainSettle n) = some t) ∧ ((s.dev.head n).sweep + 1 < 33)) (st [] fun d => (d.setHead 2 { Head.init with step := 3 }).arm (.trainSettle 2) 7) 2 7 := by decide +kernel

theorem witness_LinkTraining_5 :
    (fun (s : State) (n lane mism : Nat) => (s.live) ∧ ((s.dev.head n).step = 3) ∧ (2 ≤ (s.dev.head n).sweep) ∧ ((s.dev.head n).sweep < 33) ∧ (lane < 4) ∧ ((s.dev.head n).words.contains lane = false)) (st [] fun d => (d.setHead 2 { Head.init with step := 3, sweep := 4 })) 2 1 0 := by decide +kernel

theorem witness_LinkTraining_6 :
    (fun (s : State) (n t : Nat) => (s.live) ∧ ((s.dev.head n).step = 4) ∧ (s.dev.due (.trainSettle n) = some t)) (st [] fun d => (d.setHead 2 { Head.init with step := 4 }).arm (.trainSettle 2) 7) 2 7 := by decide +kernel

theorem witness_LinkTraining_7 :
    (fun (s : State) (n : Nat) => (s.live) ∧ (n < 64) ∧ ((s.dev.head n).step = 4)) (st [] fun d => (d.setHead 2 { Head.init with step := 4 })) 2 := by decide +kernel

theorem witness_LinkTraining_8 :
    (fun (s : State) (n t : Nat) => (s.live) ∧ (n < 64) ∧ (s.dev.due (.trainStep n) = some t) ∧ ((s.dev.head n).step ≠ 0) ∧ ((s.dev.head n).step < 8) ∧ (s.dev.get (Reg.HPT.LINK_STAT.TRIES n) ≤ s.dev.get (Reg.HPT.LINK_CFG.RETRY n))) (st [(Reg.HPT.LINK_CFG.RETRY 2, 3)] fun d => (d.setHead 2 { Head.init with step := 3 }).arm (.trainStep 2) 7) 2 7 := by decide +kernel

theorem witness_LinkTraining_9 :
    (fun (s : State) (n t : Nat) => (s.live) ∧ ((s.dev.head n).step = 8) ∧ (s.dev.due (.trainSettle n) = some t)) (st [] fun d => (d.setHead 2 { Head.init with step := 8 }).arm (.trainSettle 2) 7) 2 7 := by decide +kernel

theorem witness_LinkTraining_10 :
    (fun (s : State) (n : Nat) => (s.live) ∧ ((s.dev.head n).step = 1) ∧ ((s.dev.head n).clock = true)) (st [] fun d => (d.setHead 2 { Head.init with step := 1, clock := true })) 2 := by decide +kernel

theorem witness_LinkTraining_11 :
    (fun (s : State) (n : Nat) => (s.live) ∧ (n < 64) ∧ (s.dev.pageOff (0x100 + n) = false) ∧ (s.dev.portAtBoundary n = false)) (WLB) 2 := by decide +kernel

theorem witness_LinkTraining_12 :
    (fun (s : State) (n t : Nat) (ok : Bool) => (s.live) ∧ ((s.dev.head n).step = 2) ∧ (s.dev.due (.trainSettle n) = some t) ∧ ((s.dev.head n).sweep = 31) ∧ (1000 ≤ (longestRun (putB (s.dev.head n).bck 31 ok) 32 false).1 * 125)) (st [] fun d => (d.setHead 2 { Head.init with step := 2, sweep := 31, bck := 0xFFFF }).arm (.trainSettle 2) 7) 2 7 true := by decide +kernel

theorem witness_LinkTraining_13 :
    (fun (s : State) (n t : Nat) (ok : Bool) => (s.live) ∧ ((s.dev.head n).step = 2) ∧ (s.dev.due (.trainSettle n) = some t) ∧ ((s.dev.head n).sweep = 31) ∧ ((longestRun (putB (s.dev.head n).bck 31 ok) 32 false).1 * 125 < 1000)) (st [] fun d => (d.setHead 2 { Head.init with step := 2, sweep := 31 }).arm (.trainSettle 2) 7) 2 7 true := by decide +kernel

theorem witness_LinkTraining_14 :
    (fun (s : State) (n t : Nat) => (s.live) ∧ ((s.dev.head n).step = 3) ∧ (s.dev.due (.trainSettle n) = some t) ∧ ((s.dev.head n).sweep = 32)) (st [] fun d => (d.setHead 2 { Head.init with step := 3, sweep := 32 }).arm (.trainSettle 2) 7) 2 7 := by decide +kernel

theorem witness_LinkTraining_15 :
    (fun (s : State) (n lane mism : Nat) => (s.live) ∧ ((s.dev.head n).step = 3) ∧ ((s.dev.head n).sweep = 33) ∧ (lane < 4) ∧ ((s.dev.head n).words.contains lane = false)) (st [] fun d => (d.setHead 2 { Head.init with step := 3, sweep := 33, words := [0, 1, 2] })) 2 3 0 := by decide +kernel

theorem witness_LinkTraining_16 :
    (fun (s : State) (n t : Nat) => (s.live) ∧ (n < 64) ∧ (s.dev.due (.trainStep n) = some t) ∧ ((s.dev.head n).step ≠ 0) ∧ ((s.dev.head n).step < 8) ∧ (s.dev.get (Reg.HPT.LINK_CFG.RETRY n) < s.dev.get (Reg.HPT.LINK_STAT.TRIES n))) (st [(Reg.HPT.LINK_STAT.TRIES 2, 4), (Reg.HPT.LINK_CFG.RETRY 2, 1)] fun d => (d.setHead 2 { Head.init with step := 3 }).arm (.trainStep 2) 7) 2 7 := by decide +kernel

theorem witness_LinkTraining_17 :
    (fun (s : State) (n : Nat) => (s.live) ∧ (s.dev.headUp n = true) ∧ ((s.dev.head n).step ≠ 1)) (st [(Reg.HPT.LINK_STAT.STATE 2, 6)]) 2 := by decide +kernel

theorem witness_LinkTraining_18 :
    (fun (s : State) (n : Nat) => (s.live)) (State.reset) 2 := by decide +kernel

theorem witness_LinkTraining_19 :
    (fun (s : State) (n : Nat) => (s.live) ∧ ((s.dev.head n).step ≠ 0 ∨ (s.dev.head n).want = false ∨ s.dev.mayTrain n = false)) (State.reset) 2 := by decide +kernel

theorem witness_LinkTraining_20 :
    (fun (s : State) (n : Nat) (ok : Bool) => (s.live) ∧ ((s.dev.head n).step ≠ 2 ∨ s.dev.due (.trainSettle n) = none)) (State.reset) 2 true := by decide +kernel

theorem witness_LinkTraining_21 :
    (fun (s : State) (n : Nat) => (s.live) ∧ ((s.dev.head n).step ≠ 3 ∨ 33 ≤ (s.dev.head n).sweep ∨ s.dev.due (.trainSettle n) = none)) (State.reset) 2 := by decide +kernel

theorem witness_LinkTraining_22 :
    (fun (s : State) (n lane mism : Nat) => (s.live) ∧ ((s.dev.head n).step ≠ 3 ∨ (s.dev.head n).sweep < 2 ∨ 4 ≤ lane ∨ (s.dev.head n).words.contains lane = true)) (State.reset) 2 1 0 := by decide +kernel

theorem witness_LinkTraining_23 :
    (fun (s : State) (n : Nat) => (s.live) ∧ ((s.dev.head n).step ≠ 4 ∨ s.dev.due (.trainSettle n) = none)) (State.reset) 2 := by decide +kernel

theorem witness_LinkTraining_24 :
    (fun (s : State) (n : Nat) => (s.live) ∧ ((s.dev.head n).step ≠ 4)) (State.reset) 2 := by decide +kernel

theorem witness_LinkTraining_25 :
    (fun (s : State) (n : Nat) => (s.live) ∧ (s.dev.due (.trainStep n) = none)) (State.reset) 2 := by decide +kernel

theorem witness_LinkTraining_26 :
    (fun (s : State) (n : Nat) => (s.live) ∧ ((s.dev.head n).step ≠ 8 ∨ s.dev.due (.trainSettle n) = none)) (State.reset) 2 := by decide +kernel

theorem witness_LinkTraining_27 :
    (fun (s : State) (n : Nat) => (s.live) ∧ (((s.dev.head n).step ≠ 1 ∨ (s.dev.head n).clock = false) ∧ s.dev.headUp n = false)) (State.reset) 2 := by decide +kernel

theorem witness_LinkTraining_28 :
    (fun (s : State) (n t : Nat) => (s.live) ∧ (s.dev.due (.trainStep n) = some t) ∧ ((s.dev.head n).step = 0 ∨ (s.dev.head n).step = 8)) (st [] (·.arm (.trainStep 2) 7)) 2 7 := by decide +kernel

theorem witness_LinkTraining_29 :
    (fun (s : State) (n lane mism : Nat) (b : Nat) => (s.live) ∧ ((s.dev.head n).step = 3) ∧ (2 ≤ (s.dev.head n).sweep) ∧ (33 < (s.dev.head n).sweep) ∧ (lane < 4) ∧ ((s.dev.head n).words.contains lane = false) ∧ (putB (nth 0 (s.dev.head n).lanes lane) ((s.dev.head n).sweep - 2) (mism == 0) = b)) (WPR) 2 1 0 (putB (nth 0 (WPR.dev.head 2).lanes 1) 33 true) := by decide +kernel

theorem witness_LinkTraining_30 :
    (fun (s : State) (n : Nat) => (s.live) ∧ (s.dev.pageOff (0x100 + n) = true) ∧ (n < 64)) (st [(Reg.HDR.STATE 0x102, 0)]) 2 := by decide +kernel

theorem witness_LinkTraining_31 :
    (fun (s : State) (n t : Nat) => (s.live) ∧ (n < 64) ∧ (s.dev.due (.trainStep n) = some t) ∧ ((s.dev.head n).step ≠ 0) ∧ ((s.dev.head n).step ≠ 8)) (st [(Reg.HPT.LINK_CFG.RETRY 2, 3)] fun d => (d.setHead 2 { Head.init with step := 3 }).arm (.trainStep 2) 7) 2 7 := by decide +kernel

theorem witness_LinkReports_0 :
    (fun (s : State) (n tag : Nat) (l : Latched) (rest : List Latched) => (s.live) ∧ ((s.dev.head n).t7 = false) ∧ ((s.dev.head n).lats = l :: rest) ∧ (tag = l.tag)) (st [] fun d => (d.setHead 2 { Head.init with lats := [{ tag := 4, lines := [], time := 0, rows := [], fire := none }] })) 2 4 { tag := 4, lines := [], time := 0, rows := [], fire := none } [] := by decide +kernel

theorem witness_LinkReports_1 :
    (fun (s : State) (n ordinal seg type row : Nat) => (s.live) ∧ (type ≠ 3) ∧ (type ≠ 4) ∧ ((s.dev.head n).sent[ordinal]? = none ∨ (s.dev.port n).built = none ∨ s.dev.is (Reg.HPT.LINK_CFG.RESEND_EN n) = false)) (State.reset) 2 1 0 1 5 := by decide +kernel

theorem witness_LinkReports_2 :
    (fun (s : State) (n tag v : Nat) (c : Ctrl) => (s.live) ∧ ((s.dev.head n).ctrl = some c) ∧ (c.tag = tag) ∧ (c.data = none) ∧ (c.training = false) ∧ (n < 64) ∧ (v < 2 ^ 32)) (st [] fun d => (d.setHead 2 { Head.init with ctrl := some { tag := 4, addr := 0x8000, data := none, training := false, again := false } })) 2 4 99 { tag := 4, addr := 0x8000, data := none, training := false, again := false } := by decide +kernel

theorem witness_LinkReports_3 :
    (fun (s : State) (n tag : Nat) (refused : Bool) (c : Ctrl) => (s.live) ∧ ((s.dev.head n).ctrl = some c) ∧ (c.tag = tag) ∧ (c.data ≠ none) ∧ (c.training = false) ∧ (n < 64)) (st [] fun d => (d.setHead 2 { Head.init with ctrl := some { tag := 4, addr := 0x8000, data := some 1, training := false, again := false } })) 2 4 true { tag := 4, addr := 0x8000, data := some 1, training := false, again := false } := by decide +kernel

theorem witness_LinkReports_4 :
    (fun (s : State) (n code : Nat) => (s.live)) (State.reset) 2 5 := by decide +kernel

theorem witness_LinkReports_5 :
    (fun (s : State) (n width : Nat) => (s.live)) (State.reset) 2 5 := by decide +kernel

theorem witness_LinkReports_6 :
    (fun (s : State) (n : Nat) (bs : Bytes) (coded : Bool) => (s.live) ∧ (¬(coded = true ∧ crc8 (bs.take 6) = byteAt bs 6 ∧ 1 ≤ byteAt bs 0 ∧ byteAt bs 0 ≤ 9))) (State.reset) 2 [] false := by decide +kernel

theorem witness_LinkReports_7 :
    (fun (s : State) (n t : Nat) (l : Latched) (rest : List Latched) => (s.live) ∧ (s.dev.due (.latReport n) = some t) ∧ ((s.dev.head n).lats = l :: rest) ∧ ((s.dev.head n).missed < 2)) (st [] fun d => (d.setHead 2 { Head.init with lats := [{ tag := 4, lines := [], time := 0, rows := [], fire := none }] }).arm (.latReport 2) 7) 2 7 { tag := 4, lines := [], time := 0, rows := [], fire := none } [] := by decide +kernel

theorem witness_LinkReports_8 :
    (fun (s : State) (n : Nat) => (s.live) ∧ (n < 64) ∧ (s.dev.headUp n = true)) (st [(Reg.HPT.LINK_STAT.STATE 2, 6)]) 2 := by decide +kernel

theorem witness_LinkReports_9 :
    (fun (s : State) (n : Nat) (bs : Bytes) => (s.live) ∧ (crc8 (bs.take 6) = byteAt bs 6) ∧ (1 ≤ byteAt bs 0) ∧ (byteAt bs 0 ≤ 9)) (State.reset) 2 [1, 0, 0, 0, 0, 0, crc8 [1, 0, 0, 0, 0, 0]] := by decide +kernel

theorem witness_LinkReports_10 :
    (fun (s : State) (n tag refused : Nat) => (s.live) ∧ ((s.dev.head n).t7 = true)) (st [] fun d => (d.setHead 2 { Head.init with step := 7, t7 := true })) 2 0 0 := by decide +kernel

theorem witness_LinkReports_11 :
    (fun (s : State) (n tag : Nat) (l : Latched) (rest : List Latched) => (s.live) ∧ ((s.dev.head n).t7 = false) ∧ ((s.dev.head n).lats = l :: rest) ∧ (tag ≠ l.tag)) (WLR) 2 4 WLRl [] := by decide +kernel

theorem witness_LinkReports_12 :
    (fun (s : State) (n refused : Nat) (l : Latched) (rest : List Latched) => (s.live) ∧ (n < 64) ∧ ((s.dev.head n).t7 = false) ∧ ((s.dev.head n).lats = l :: rest) ∧ (l.rows.filter refused.testBit ≠ [])) (WLR) 2 2 WLRl [] := by decide +kernel

theorem witness_LinkReports_13 :
    (fun (s : State) (n ordinal seg type row place : Nat) (c : Cycle) => (s.live) ∧ (type ≠ 3) ∧ (type ≠ 4) ∧ ((s.dev.head n).sent[ordinal]? = some (type, row, place)) ∧ ((s.dev.port n).built = some c) ∧ (s.dev.is (Reg.HPT.LINK_CFG.RESEND_EN n) = true) ∧ ((s.dev.head n).resent.contains place = false) ∧ (place < c.shipped) ∧ (s.dev.latNow n = false)) (WFBD) 2 0 0 1 5 1 { testCycle with shipped := 2 } := by decide +kernel

theorem witness_LinkReports_14 :
    (fun (s : State) (n ordinal seg row : Nat) => (s.live)) (State.reset) 2 0 0 0 := by decide +kernel

theorem witness_LinkReports_15 :
    (fun (s : State) (n ordinal seg row k : Nat) => (s.live) ∧ (((s.dev.head n).sent[ordinal]?).map (fun x => x.2.2) = some k) ∧ (k = 257 ∨ k = 258)) (st [] fun d => (d.setHead 2 { Head.init with sent := [(3, 0, 257)] })) 2 0 0 0 257 := by decide +kernel

theorem witness_LinkReports_16 :
    (fun (s : State) (n tag v : Nat) (c : Ctrl) => (s.live) ∧ ((s.dev.head n).ctrl = some c) ∧ (c.tag = tag) ∧ (c.data = none) ∧ (c.training = true) ∧ ((s.dev.head n).step = 5) ∧ (v < 2 ^ 32)) (st [] fun d => (d.setHead 2 { Head.init with step := 5, ctrl := some { tag := 1, addr := 0x10, data := none, training := true, again := false } })) 2 1 5 { tag := 1, addr := 0x10, data := none, training := true, again := false } := by decide +kernel

theorem witness_LinkReports_17 :
    (fun (s : State) (n tag : Nat) (refused : Bool) (c : Ctrl) => (s.live) ∧ ((s.dev.head n).ctrl = some c) ∧ (c.tag = tag) ∧ (c.data ≠ none) ∧ (c.training = true)) (st [] fun d => (d.setHead 2 { Head.init with ctrl := some { tag := 1, addr := 0x40, data := some 0, training := true, again := false } })) 2 1 false { tag := 1, addr := 0x40, data := some 0, training := true, again := false } := by decide +kernel

theorem witness_LinkReports_18 :
    (fun (s : State) (n t : Nat) (l : Latched) (rest : List Latched) => (s.live) ∧ (s.dev.due (.latReport n) = some t) ∧ ((s.dev.head n).lats = l :: rest) ∧ (2 ≤ (s.dev.head n).missed)) (WLR7) 2 7 WLRl [] := by decide +kernel

theorem witness_LinkReports_19 :
    (fun (s : State) (n ordinal seg type row t r place : Nat) (c : Cycle) => (s.live) ∧ (type ≠ 3) ∧ (type ≠ 4) ∧ ((s.dev.head n).sent[ordinal]? = some (t, r, place)) ∧ ((s.dev.port n).built = some c) ∧ (¬(s.dev.is (Reg.HPT.LINK_CFG.RESEND_EN n) = true ∧ t = type ∧ r = row ∧ (s.dev.head n).resent.contains place = false ∧ place < c.shipped ∧ s.dev.latNow n = false))) (WFBD) 2 0 0 2 5 1 5 1 { testCycle with shipped := 2 } := by decide +kernel

theorem witness_LinkReports_20 :
    (fun (s : State) (n ordinal seg row : Nat) => (s.live) ∧ (((s.dev.head n).sent[ordinal]?).map (fun x => x.2.2) ≠ some 257) ∧ (((s.dev.head n).sent[ordinal]?).map (fun x => x.2.2) ≠ some 258)) (State.reset) 2 0 0 0 := by decide +kernel

theorem witness_LinkReports_21 :
    (fun (s : State) (n tag refused : Nat) => (s.live) ∧ ((s.dev.head n).t7 = false) ∧ ((s.dev.head n).lats = [])) (State.reset) 2 0 0 := by decide +kernel

theorem witness_LinkReports_22 :
    (fun (s : State) (n tag refused : Nat) (l : Latched) (rest : List Latched) (d1 d2 : Dev) => (s.live) ∧ ((s.dev.head n).t7 = false) ∧ ((s.dev.head n).lats = l :: rest) ∧ ( (if tag = l.tag then (armReport n (s.dev.setHead n { s.dev.head n with lats := rest, missed := 0 })) else bckErr n (armReport n (s.dev.setHead n { s.dev.head n with lats := rest, missed := 0 }))) = d1) ∧ (wearRefuse n (l.rows.filter refused.testBit) l.fire ((((l.lines.filter fun r => refused.testBit r.row).foldl (fun d r => refuseRow d r) d1).bump (Reg.HPT.REFUSED_CNT.COUNT n) (l.rows.filter refused.testBit).length).raise n Kind.HPT.LINE_REFUSED { port := n, arg := refused % 65536 }) = d2)) (WLR) 2 WLRl.tag 0 WLRl [] WLRd1 (wearRefuse 2 [] WLRl.fire ((WLRd1.bump (Reg.HPT.REFUSED_CNT.COUNT 2) 0).raise 2 Kind.HPT.LINE_REFUSED { port := 2, arg := 0 })) := by decide +kernel

theorem witness_LinkReports_23 :
    (fun (s : State) (n tag v : Nat) => (s.live) ∧ (∀ c ∈ (s.dev.head n).ctrl, c.tag ≠ tag ∨ c.data ≠ none)) (State.reset) 2 0 0 := by decide +kernel

theorem witness_LinkReports_24 :
    (fun (s : State) (n tag v : Nat) (c : Ctrl) => (s.live) ∧ ((s.dev.head n).ctrl = some c) ∧ (c.tag = tag) ∧ (c.data = none) ∧ (c.training = true) ∧ ((s.dev.head n).step ≠ 5)) (st [] fun d => (d.setHead 2 { Head.init with step := 6, ctrl := some { tag := 1, addr := 0x10, data := none, training := true, again := false } })) 2 1 5 { tag := 1, addr := 0x10, data := none, training := true, again := false } := by decide +kernel

theorem witness_LinkReports_25 :
    (fun (s : State) (n tag : Nat) (refused : Bool) => (s.live) ∧ (∀ c ∈ (s.dev.head n).ctrl, c.tag ≠ tag ∨ c.data = none)) (State.reset) 2 0 true := by decide +kernel

theorem witness_LinkReports_26 :
    (fun (s : State) (n : Nat) => (s.live) ∧ (s.dev.headUp n = false)) (State.reset) 2 := by decide +kernel

theorem witness_LinkReports_27 :
    (fun (s : State) (n : Nat) => (s.live) ∧ (s.dev.due (.latReport n) = none)) (State.reset) 2 := by decide +kernel

theorem witness_LinkReports_28 :
    (fun (s : State) (n t : Nat) => (s.live) ∧ (s.dev.due (.latReport n) = some t) ∧ ((s.dev.head n).lats = [])) (st [] (·.arm (.latReport 2) 7)) 2 7 := by decide +kernel

theorem witness_LinkCommands_0 :
    (fun (s : State) (n addr : Nat) (write : Bool) => (s.live) ∧ (n < 64) ∧ (addr < 65536) ∧ (s.dev.pageOff (0x100 + n) = false) ∧ (s.dev.is (Reg.HDR.LEVEL (0x100 + n)) = true ∨ (s.dev.get (Reg.HPT.HREG_CMD.WRITE n) = b2n write ∧ s.dev.get (Reg.HPT.HREG_CMD.ADDR n) = addr)) ∧ (s.dev.is (Reg.HPT.HREG_STAT.BUSY n) = false) ∧ (write = true → 0x8000 ≤ addr) ∧ (s.dev.headUp n = true)) (st [(Reg.HDR.STATE 0x102, 2), (Reg.HDR.LEVEL 0x102, 1), (Reg.HPT.LINK_STAT.STATE 2, 6)]) 2 0x8004 true := by decide +kernel

theorem witness_LinkCommands_1 :
    (fun (s : State) (n addr : Nat) => (s.live) ∧ (n < 64) ∧ (addr < 65536) ∧ (s.dev.pageOff (0x100 + n) = false) ∧ (s.dev.is (Reg.HDR.LEVEL (0x100 + n)) = true ∨ (s.dev.get (Reg.HPT.HREG_CMD.WRITE n) = 0 ∧ s.dev.get (Reg.HPT.HREG_CMD.ADDR n) = addr)) ∧ (s.dev.headUp n = false) ∧ (s.dev.is (Reg.HPT.HREG_STAT.BUSY n) = false)) (st [(Reg.HDR.STATE 0x102, 2), (Reg.HDR.LEVEL 0x102, 1)]) 2 4 := by decide +kernel

theorem witness_LinkCommands_2 :
    (fun (s : State) (n t : Nat) (c : Ctrl) => (s.live) ∧ (s.dev.due (.ctrl n) = some t) ∧ ((s.dev.head n).ctrl = some c) ∧ (c.again = false)) (st [] fun d => (d.setHead 2 { Head.init with ctrl := some { tag := 4, addr := 0x8000, data := none, training := false, again := false } }).arm (.ctrl 2) 7) 2 7 { tag := 4, addr := 0x8000, data := none, training := false, again := false } := by decide +kernel

theorem witness_LinkCommands_3 :
    (fun (s : State) (n : Nat) => (s.live) ∧ (s.dev.get (Reg.HPT.DEGRADE.THRESH n) < (s.dev.head n).badFrames)) (st [(Reg.HPT.DEGRADE.THRESH 2, 1)] fun d => (d.setHead 2 { Head.init with badFrames := 2 })) 2 := by decide +kernel

theorem witness_LinkCommands_4 :
    (fun (s : State) (n addr : Nat) => (s.live) ∧ (n < 64) ∧ (addr < 65536) ∧ (s.dev.pageOff (0x100 + n) = false) ∧ (s.dev.is (Reg.HDR.LEVEL (0x100 + n)) = true ∨ (s.dev.get (Reg.HPT.HREG_CMD.WRITE n) = 1 ∧ s.dev.get (Reg.HPT.HREG_CMD.ADDR n) = addr)) ∧ (s.dev.is (Reg.HPT.HREG_STAT.BUSY n) = false) ∧ (addr < 0x8000)) (st [(Reg.HDR.STATE 0x102, 2), (Reg.HDR.LEVEL 0x102, 1)]) 2 4 := by decide +kernel

theorem witness_LinkCommands_5 :
    (fun (s : State) (n addr : Nat) => (s.live) ∧ (n < 64) ∧ (addr < 65536) ∧ (s.dev.pageOff (0x100 + n) = false) ∧ (s.dev.is (Reg.HDR.LEVEL (0x100 + n)) = true ∨ (s.dev.get (Reg.HPT.HREG_CMD.WRITE n) = 1 ∧ s.dev.get (Reg.HPT.HREG_CMD.ADDR n) = addr)) ∧ (s.dev.is (Reg.HPT.HREG_STAT.BUSY n) = false) ∧ (0x8000 ≤ addr) ∧ (s.dev.headUp n = false)) (st [(Reg.HDR.STATE 0x102, 2), (Reg.HDR.LEVEL 0x102, 1)]) 2 0x8004 := by decide +kernel

theorem witness_LinkCommands_6 :
    (fun (s : State) (n addr : Nat) (write : Bool) => (s.live) ∧ (n < 64) ∧ (addr < 65536) ∧ (s.dev.pageOff (0x100 + n) = false) ∧ (s.dev.is (Reg.HDR.LEVEL (0x100 + n)) = true ∨ (s.dev.get (Reg.HPT.HREG_CMD.WRITE n) = b2n write ∧ s.dev.get (Reg.HPT.HREG_CMD.ADDR n) = addr)) ∧ (s.dev.is (Reg.HPT.HREG_STAT.BUSY n) = true)) (st [(Reg.HDR.STATE 0x102, 2), (Reg.HDR.LEVEL 0x102, 1), (Reg.HPT.HREG_STAT.BUSY 2, 1)]) 2 0x8004 true := by decide +kernel

theorem witness_LinkCommands_7 :
    (fun (s : State) (n t : Nat) (c : Ctrl) => (s.live) ∧ (s.dev.due (.ctrl n) = some t) ∧ ((s.dev.head n).ctrl = some c) ∧ (c.again = true) ∧ (c.training = false)) (st [] fun d => (d.setHead 2 { Head.init with ctrl := some { tag := 1, addr := 0x8040, data := none, training := false, again := true } }).arm (.ctrl 2) 7) 2 7 { tag := 1, addr := 0x8040, data := none, training := false, again := true } := by decide +kernel

theorem witness_LinkCommands_8 :
    (fun (s : State) (n : Nat) => (s.live) ∧ ((s.dev.head n).badFrames ≤ s.dev.get (Reg.HPT.DEGRADE.THRESH n))) (State.reset) 2 := by decide +kernel

theorem witness_LinkCommands_9 :
    (fun (s : State) (n : Nat) => (s.live) ∧ (s.dev.due (.ctrl n) = none)) (State.reset) 2 := by decide +kernel

theorem witness_LinkCommands_10 :
    (fun (s : State) (n t : Nat) => (s.live) ∧ (s.dev.due (.ctrl n) = some t) ∧ ((s.dev.head n).ctrl = none)) (st [] (·.arm (.ctrl 2) 7)) 2 7 := by decide +kernel

theorem witness_LinkCommands_11 :
    (fun (s : State) (n t : Nat) (c : Ctrl) => (s.live) ∧ (s.dev.due (.ctrl n) = some t) ∧ ((s.dev.head n).ctrl = some c) ∧ (c.again = true) ∧ (c.training = true) ∧ ((s.dev.head n).step = 5)) (st [] fun d => (d.setHead 2 { Head.init with step := 5, ctrl := some { tag := 1, addr := 0x10, data := none, training := true, again := true } }).arm (.ctrl 2) 7) 2 7 { tag := 1, addr := 0x10, data := none, training := true, again := true } := by decide +kernel

theorem witness_LinkCommands_12 :
    (fun (s : State) (n t : Nat) (c : Ctrl) => (s.live) ∧ (s.dev.due (.ctrl n) = some t) ∧ ((s.dev.head n).ctrl = some c) ∧ (c.again = true) ∧ (c.training = true) ∧ ((s.dev.head n).step ≠ 5)) (st [] fun d => (d.setHead 2 { Head.init with step := 6, ctrl := some { tag := 1, addr := 0x10, data := none, training := true, again := true } }).arm (.ctrl 2) 7) 2 7 { tag := 1, addr := 0x10, data := none, training := true, again := true } := by decide +kernel

theorem witness_LinkCommands_13 :
    (fun (s : State) (n addr : Nat) (write : Bool) => (s.live) ∧ (n < 64) ∧ (addr < 65536) ∧ (s.dev.pageOff (0x100 + n) = false) ∧ (s.dev.is (Reg.HDR.LEVEL (0x100 + n)) = false) ∧ (s.dev.get (Reg.HPT.HREG_CMD.WRITE n) ≠ b2n write ∨ s.dev.get (Reg.HPT.HREG_CMD.ADDR n) ≠ addr)) (st [(Reg.HDR.STATE 0x102, 2)]) 2 0x8004 true := by decide +kernel

theorem witness_LinkCommands_14 :
    (fun (s : State) (n a : Nat) (w : Bool) => (s.live) ∧ (s.dev.pageOff (0x100 + n) = true) ∧ (n < 64)) (st [(Reg.HDR.STATE 0x102, 0)]) 2 5 true := by decide +kernel

theorem witness_ScansSoundingAndWear_0 :
    (fun (s : State) (n de dn : Nat) (rs : List Nat) (full pass miss : Bool) (w : Window) (rest : List Window) (z : Noz) => (s.live) ∧ ((s.dev.health n).windows = w :: rest) ∧ (s.dev.channelStale (n / 8) = false) ∧ (curveDist (rs.map fun (v : Nat) => (s.dev.advanceTo (w.tc + 10000)).convR n v - (s.dev.advanceTo (w.tc + 10000)).rIdle n (if w.heater = 0 then (s.dev.noz n w.noz).rA else (s.dev.noz n w.noz).rB)) (s.dev.curves n w.cls).1 = de) ∧ (curveDist (rs.map fun (v : Nat) => (s.dev.advanceTo (w.tc + 10000)).convR n v - (s.dev.advanceTo (w.tc + 10000)).rIdle n (if w.heater = 0 then (s.dev.noz n w.noz).rA else (s.dev.noz n w.noz).rB)) (s.dev.curves n w.cls).2 = dn) ∧ ((decide (de + s.dev.get Reg.SND.SIG_CFG.MARGIN ≤ dn) && !full) = pass) ∧ ((decide (dn + s.dev.get Reg.SND.SIG_CFG.MARGIN ≤ de) || full) = miss) ∧ ({ s.dev.noz n w.noz with sounded := min 0xFFFF ((s.dev.noz n w.noz).sounded + 1), pass := if pass = true then min 15 ((s.dev.noz n w.noz).pass + 1) else 0, miss := if pass = false ∧ miss = true then min 15 ((s.dev.noz n w.noz).miss + 1) else 0, inc := if pass = false ∧ miss = false then min 15 ((s.dev.noz n w.noz).inc + 1) else 0 } = z)) (WSND) 2 0 0 [] true false true { noz := 3, line := 0, cls := 0, heater := 0, tc := 0, asked := 0 } [] { Noz.init with sounded := 1, miss := 1 } := by decide +kernel

theorem witness_ScansSoundingAndWear_1 :
    (fun (s : State) (n i : Nat) (rest : List (Nat × Nat)) => (s.live) ∧ (s.dev.snd.wb = (n, i) :: rest) ∧ (s.dev.basinUp = true)) (st [(Reg.HDR.STATE (pg .BAS 0), 2), (Reg.SYS.BRINGUP.BASIN_READY, 1)] fun d => { d with snd := { d.snd with wb := [(2, 3)] } }) 2 3 [] := by decide +kernel

theorem witness_ScansSoundingAndWear_2 :
    (fun (s : State) (n : Nat) => (s.live) ∧ (s.dev.inRun (pg .TRN 0) = true) ∧ (s.dev.is Reg.TRN.TASK_EN.WEAR = true) ∧ (s.dev.basinUp = true) ∧ (s.dev.is Reg.BAS.STAT.THROTTLED = false) ∧ (s.dev.snd.wearAt = n) ∧ ((s.dev.health n).wear = [])) (st [(Reg.HDR.STATE (pg .BAS 0), 2), (Reg.SYS.BRINGUP.BASIN_READY, 1), (Reg.HDR.STATE (pg .TRN 0), 2), (Reg.TRN.TASK_EN.WEAR, 1)]) 0 := by decide +kernel

theorem witness_ScansSoundingAndWear_3 :
    (fun (s : State)  => (s.live) ∧ (s.dev.pageOff 0xB3 = false)) (st [(Reg.HDR.STATE 0xB3, 2)]) := by decide +kernel

theorem witness_ScansSoundingAndWear_4 :
    (fun (s : State) (poisoned : Bool) => (s.live) ∧ (s.dev.snd.loading = true)) (st [] fun d => { d with snd := { d.snd with loading := true } }) false := by decide +kernel

theorem witness_ScansSoundingAndWear_5 :
    (fun (s : State) (g : Geom) (i e : Nat) (rest : List (Nat × Nat)) => (s.live) ∧ (s.dev.pageOff 0xB3 = false) ∧ (s.dev.mode = 1) ∧ (s.dev.snd.running = false) ∧ (s.dev.snd.halting = false) ∧ (s.dev.runs (pg .SND 0) = true) ∧ (s.dev.get Reg.SND.SCAN_PORTS.PORTS = 1) ∧ (s.dev.geom 0 = some g) ∧ (g.noz = (i, e) :: rest) ∧ (s.dev.scanReady 0 = true) ∧ (s.dev.channelStale 0 = false)) (st [(Reg.HDR.STATE 0xB3, 2), (Reg.HDR.ENABLE 0xB3, 1), (Reg.SYS.MODE_STAT.MODE, 1), (Reg.SND.SCAN_PORTS.PORTS, 1), (Reg.PRT.GEOM_OK.OK, 1), (Reg.HPT.LINK_STAT.STATE 0, 6), (Reg.SYS.BRINGUP.HEAD_POWER_ARMED, 1), (Reg.THM.TEMP.INVALID 0, 0), (Reg.THM.TEMP.STALE 0, 0), (Reg.HPT.LINK_STAT.MISMATCH 0, 0)] fun d => { d.setHeat 0 { ThmPort.init with temp := some 400 } with prt := { d.prt with geom := [(0, some testGeom)] } }) testGeom 3 0x10000 [] := by decide +kernel

theorem witness_ScansSoundingAndWear_6 :
    (fun (s : State)  => (s.live) ∧ (s.dev.pageOff 0xB3 = false) ∧ (s.dev.mode ≠ 1 ∨ s.dev.snd.running = true ∨ s.dev.inRun (pg .SND 0) = false)) (st [(Reg.HDR.STATE 0xB3, 2)]) := by decide +kernel

theorem witness_ScansSoundingAndWear_7 :
    (fun (s : State) (c n i lo hi t : Nat) (g : Geom) => (s.live) ∧ (s.dev.due (.scan c) = some t) ∧ ((s.dev.chan c).step = some (n, i, 0)) ∧ (s.dev.geom n = some g) ∧ (g.dotMode ≠ 1) ∧ ((s.dev.noz n i).cause ≠ 3) ∧ ((s.dev.health n).half = none)) (st [(Reg.SND.SCAN_CFG.I_HI, 200), (Reg.SND.SCAN_CFG.I_LO, 100)] fun d => ({ d.setChan 0 { Chan.init with step := some (2, 3, 0), ended := false } with prt := { d.prt with geom := [(2, some testGeom)] } }).arm (.scan 0) 7) 0 2 3 100 900 7 testGeom := by decide +kernel

theorem witness_ScansSoundingAndWear_8 :
    (fun (s : State) (c n i h : Nat) => (s.live) ∧ ((s.dev.chan c).step = some (n, i, h)) ∧ ((s.dev.chan c).repeats < 4)) (st [] fun d => d.setChan 0 { Chan.init with step := some (2, 3, 0), ended := false }) 0 2 3 0 := by decide +kernel

theorem witness_ScansSoundingAndWear_9 :
    (fun (s : State) (c : Nat) (x : Nat × Nat × Nat) => (s.live) ∧ (c < 8) ∧ (s.dev.pageOff 0xB3 = false) ∧ (s.dev.snd.running = true) ∧ ((s.dev.chan c).ended = false) ∧ ((s.dev.chan c).step = some x)) (st [(Reg.HDR.STATE 0xB3, 2)] fun d => { d.setChan 0 { Chan.init with step := some (2, 3, 0), ended := false } with snd := { (d.setChan 0 { Chan.init with step := some (2, 3, 0), ended := false }).snd with running := true } }) 0 (2, 3, 0) := by decide +kernel

theorem witness_ScansSoundingAndWear_10 :
    (fun (s : State) (n : Nat) (rs : List Nat) (full : Bool) (w : Window) (rest : List Window) => (s.live) ∧ ((s.dev.health n).windows = w :: rest) ∧ (s.dev.channelStale (n / 8) = true)) (WSNS) 2 [] true { noz := 3, line := 0, cls := 0, heater := 0, tc := 0, asked := 0 } [] := by decide +kernel

theorem witness_ScansSoundingAndWear_11 :
    (fun (s : State) (n i v : Nat) => (s.live) ∧ (s.dev.inRun (pg .TRN 0) = true) ∧ (s.dev.is Reg.TRN.TASK_EN.WEAR = true) ∧ (s.dev.basinUp = true) ∧ (s.dev.is Reg.BAS.STAT.THROTTLED = false) ∧ (s.dev.snd.wearAt = n) ∧ ((s.dev.health n).wear = [(i, v)]) ∧ (s.dev.basinFails (s.dev.addr Reg.SND.WEAR_BASE.ADDR + (n * 16384 + i) * 8) 8 = false)) (WWEAR) 0 3 5 := by decide +kernel

theorem witness_ScansSoundingAndWear_12 :
    (fun (s : State) (bad : List Nat) => (s.live) ∧ (s.dev.inRun (pg .TRN 0) = false ∨ s.dev.is Reg.TRN.TASK_EN.WEAR = false ∨ s.dev.basinUp = false ∨ s.dev.is Reg.BAS.STAT.THROTTLED = true)) (State.reset) [] := by decide +kernel

theorem witness_ScansSoundingAndWear_13 :
    (fun (s : State)  => (s.live) ∧ (s.dev.snd.loading = true)) (st [] fun d => { d with snd := { d.snd with loading := true } }) := by decide +kernel

theorem witness_ScansSoundingAndWear_14 :
    (fun (s : State)  => (s.live) ∧ (s.dev.pageOff 0xB3 = false) ∧ (s.dev.mode = 1) ∧ (s.dev.snd.running = false) ∧ (s.dev.inRun (pg .SND 0) = true)) (st [(Reg.HDR.STATE 0xB3, 2), (Reg.SYS.MODE_STAT.MODE, 1)]) := by decide +kernel

theorem witness_ScansSoundingAndWear_15 :
    (fun (s : State) (c n i lo hi t : Nat) (g : Geom) (full : Bool) => (s.live) ∧ (s.dev.due (.scan c) = some t) ∧ ((s.dev.chan c).step = some (n, i, 0)) ∧ (s.dev.geom n = some g) ∧ (g.dotMode = 1) ∧ (n < 64) ∧ (c = n / 8) ∧ (s.dev.scanReady n = true) ∧ (s.dev.snd.halting = false) ∧ ((s.dev.health n).scan.drop 1 ≠ [])) (WSCD) 0 2 3 100 900 7 { testGeom with dotMode := 1 } false := by decide +kernel

theorem witness_ScansSoundingAndWear_16 :
    (fun (s : State) (c n i lo hi t : Nat) (g : Geom) (full : Bool) (a b : Nat × Nat) => (s.live) ∧ (s.dev.due (.scan c) = some t) ∧ ((s.dev.chan c).step = some (n, i, 1)) ∧ (s.dev.geom n = some g) ∧ (g.dotMode = 1) ∧ ((s.dev.health n).half = some a) ∧ (s.dev.classifyR ((s.dev.advanceTo t).scanR n lo hi full) = b) ∧ ((s.dev.noz n i).cause ≠ 3)) (WSCE) 0 2 3 100 900 7 { testGeom with dotMode := 1 } false (2, 2) (WSCE.dev.classifyR ((WSCE.dev.advanceTo 7).scanR 2 100 900 false)) := by decide +kernel

theorem witness_ScansSoundingAndWear_17 :
    (fun (s : State) (c n i lo hi t : Nat) (g : Geom) (full : Bool) => (s.live) ∧ (s.dev.due (.scan c) = some t) ∧ ((s.dev.chan c).step = some (n, i, 0)) ∧ (s.dev.geom n = some g) ∧ (g.dotMode ≠ 1) ∧ ((s.dev.noz n i).state = 3) ∧ ((s.dev.noz n i).cause = 3) ∧ (s.dev.is Reg.SND.SCAN_CFG.CLEAR_SIG = false)) (WSCF) 0 2 3 100 900 7 testGeom true := by decide +kernel

theorem witness_ScansSoundingAndWear_18 :
    (fun (s : State) (c n i h : Nat) => (s.live) ∧ (c < 8) ∧ ((s.dev.chan c).step = some (n, i, h)) ∧ (4 ≤ (s.dev.chan c).repeats)) (WSCG) 0 2 3 0 := by decide +kernel

theorem witness_ScansSoundingAndWear_19 :
    (fun (s : State)  => (s.live) ∧ (s.dev.pageOff 0xB3 = false) ∧ (s.dev.snd.running = false)) (st [(Reg.HDR.STATE 0xB3, 2)]) := by decide +kernel

theorem witness_ScansSoundingAndWear_20 :
    (fun (s : State) (poisoned : Bool) => (s.live) ∧ (s.dev.snd.loading = false)) (State.reset) true := by decide +kernel

theorem witness_ScansSoundingAndWear_21 :
    (fun (s : State) (poisoned : Bool) (code : Nat) (d0 : Dev) => (s.live) ∧ (s.dev.snd.loading = true) ∧ (((s.dev.answer (pg .SND 0)).basinLoad 1 0xFF (s.dev.addr Reg.SND.SIG_BASE.ADDR) 4160 (if poisoned = true then 2 else 0)) = d0) ∧ (sigCode (d0.basinRead (d0.addr Reg.SND.SIG_BASE.ADDR) 4160) d0.mode (d0.basinFails (d0.addr Reg.SND.SIG_BASE.ADDR) 4160) = code) ∧ (code ≠ 0)) (WSGL) false (sigCode (WSGd.basinRead (WSGd.addr Reg.SND.SIG_BASE.ADDR) 4160) WSGd.mode (WSGd.basinFails (WSGd.addr Reg.SND.SIG_BASE.ADDR) 4160)) WSGd := by decide +kernel

theorem witness_ScansSoundingAndWear_22 :
    (fun (s : State) (poisoned : Bool) (d0 : Dev) => (s.live) ∧ (s.dev.snd.loading = true) ∧ (((s.dev.answer (pg .SND 0)).basinLoad 1 0xFF (s.dev.addr Reg.SND.SIG_BASE.ADDR) 4160 (if poisoned = true then 2 else 0)) = d0) ∧ (sigCode (d0.basinRead (d0.addr Reg.SND.SIG_BASE.ADDR) 4160) d0.mode (d0.basinFails (d0.addr Reg.SND.SIG_BASE.ADDR) 4160) = 0)) (WSGT) false WSGTd := by
  refine ⟨rfl, rfl, rfl, ?_⟩
  have hr : WSGTd.basinRead (WSGTd.addr Reg.SND.SIG_BASE.ADDR) 4160 = tab STAB0 := tab_read STAB0 rfl
  have hm : WSGTd.mode = 0 := by decide +kernel
  have hf : WSGTd.basinFails (WSGTd.addr Reg.SND.SIG_BASE.ADDR) 4160 = false := by decide +kernel
  rw [hr, hm, hf]
  exact STAB_code

theorem witness_ScansSoundingAndWear_23 :
    (fun (s : State)  => (s.live) ∧ (s.dev.snd.wb = [] ∨ s.dev.basinUp = false)) (State.reset) := by decide +kernel

theorem witness_ScansSoundingAndWear_24 :
    (fun (s : State) (n : Nat) (rs : List Nat) (full : Bool) => (s.live) ∧ ((s.dev.health n).windows = [])) (State.reset) 2 [] true := by decide +kernel

theorem witness_ScansSoundingAndWear_25 :
    (fun (s : State) (c : Nat) => (s.live) ∧ ((s.dev.chan c).step = none)) (State.reset) 2 := by decide +kernel

theorem witness_ScansSoundingAndWear_26 :
    (fun (s : State) (c n i h : Nat) (d1 : Dev) => (s.live) ∧ ((s.dev.chan c).step = some (n, i, h)) ∧ (4 ≤ (s.dev.chan c).repeats) ∧ (s.dev.setHealth n { s.dev.health n with scan := (s.dev.health n).scan.filter (fun x => x.1 != i), half := none } = d1)) (WSCG) 0 2 3 0 (WSCG.dev.setHealth 2 { WSCG.dev.health 2 with scan := (WSCG.dev.health 2).scan.filter (fun x => x.1 != 3), half := none }) := by decide +kernel

theorem witness_ScansSoundingAndWear_27 :
    (fun (s : State)  => (s.live) ∧ (s.dev.pageOff 0xB3 = false) ∧ (s.dev.snd.running = true)) (st [(Reg.HDR.STATE 0xB3, 2)] fun d => { d.setChan 0 { Chan.init with step := some (2, 3, 0), ended := false } with snd := { (d.setChan 0 { Chan.init with step := some (2, 3, 0), ended := false }).snd with running := true } }) := by decide +kernel

theorem witness_ScansSoundingAndWear_28 :
    (fun (s : State) (d1 d2 : Dev) => (s.live) ∧ (s.dev.pageOff 0xB3 = false) ∧ (s.dev.mode = 1) ∧ (s.dev.snd.running = false) ∧ (s.dev.inRun (pg .SND 0) = true) ∧ ((({ s.dev with snd := { s.dev.snd with running := true } } : Dev).set Reg.SND.SCAN_STAT.STATE 1).set Reg.SND.SCAN_STAT.DONE 0 = d1) ∧ ((bitList 64 (d1.get Reg.SND.SCAN_PORTS.PORTS)).foldl (fun (d : Dev) n => match d.geom n with | some g => d.setHealth n { d.health n with scan := scanSteps g, half := none } | none => d) d1 = d2)) (WSGO) ((({ WSGO.dev with snd := { WSGO.dev.snd with running := true } } : Dev).set Reg.SND.SCAN_STAT.STATE 1).set Reg.SND.SCAN_STAT.DONE 0) ((({ WSGO.dev with snd := { WSGO.dev.snd with running := true } } : Dev).set Reg.SND.SCAN_STAT.STATE 1).set Reg.SND.SCAN_STAT.DONE 0) := by decide +kernel

theorem witness_ScansSoundingAndWear_29 :
    (fun (s : State) (c : Nat) (lo hi : Nat) (full : Bool) => (s.live) ∧ (s.dev.due (.scan c) = none)) (State.reset) 2 0 0 true := by decide +kernel

theorem witness_ScansSoundingAndWear_30 :
    (fun (s : State) (c t : Nat) (lo hi : Nat) (full : Bool) => (s.live) ∧ (s.dev.due (.scan c) = some t) ∧ ((s.dev.chan c).step = none)) (st [] (·.arm (.scan 2) 7)) 2 7 0 0 true := by decide +kernel

theorem witness_ScansSoundingAndWear_31 :
    (fun (s : State) (c t n i h lo hi : Nat) (full two : Bool) (d0 d1 d2 d3 : Dev) => (s.live) ∧ (s.dev.due (.scan c) = some t) ∧ ((s.dev.chan c).step = some (n, i, h)) ∧ ((s.dev.advanceTo t).disarm (.scan c) = d0) ∧ ((match d0.geom n with | some g => g.dotMode == 1 | none => false) = two) ∧ ((let e := setNoz n i (if h = 0 then { s.dev.noz n i with rA := (d0.scanR n lo hi full) } else { s.dev.noz n i with rB := (d0.scanR n lo hi full) }) d0.drawn; if e.bitOf Reg.THM.CLASSING.EN n = true then reclass n e i else e) = d1) ∧ (d1.setHealth n { d1.health n with scan := (d1.health n).scan.drop 1, half := if two = true ∧ h = 0 then some (d1.classifyR (d0.scanR n lo hi full)) else none } = d2) ∧ (two = true) ∧ (h = 0) ∧ (d2 = d3)) (WSCD) 0 7 2 3 0 100 900 false true WSQ0 WSQ1 WSQ2 WSQ2 := by decide +kernel

theorem witness_ScansSoundingAndWear_32 :
    (fun (s : State) (c t n i h lo hi : Nat) (full two : Bool) (d0 d1 d2 d3 : Dev) (sc : Nat × Nat) => (s.live) ∧ (s.dev.due (.scan c) = some t) ∧ ((s.dev.chan c).step = some (n, i, h)) ∧ ((s.dev.advanceTo t).disarm (.scan c) = d0) ∧ ((match d0.geom n with | some g => g.dotMode == 1 | none => false) = two) ∧ ((let e := setNoz n i (if h = 0 then { s.dev.noz n i with rA := (d0.scanR n lo hi full) } else { s.dev.noz n i with rB := (d0.scanR n lo hi full) }) d0.drawn; if e.bitOf Reg.THM.CLASSING.EN n = true then reclass n e i else e) = d1) ∧ (d1.setHealth n { d1.health n with scan := (d1.health n).scan.drop 1, half := if two = true ∧ h = 0 then some (d1.classifyR (d0.scanR n lo hi full)) else none } = d2) ∧ (two = false ∨ h ≠ 0) ∧ ((match (d1.health n).half with | some a => if (d1.classifyR (d0.scanR n lo hi full)).1 < a.1 then a else d1.classifyR (d0.scanR n lo hi full) | none => d1.classifyR (d0.scanR n lo hi full)) = sc) ∧ (healthSync (coverEnd n (degradeSync n ((scanResult n i sc d2).bump Reg.SND.SCAN_STAT.DONE 1))) = d3)) (WSCE) 0 7 2 3 1 100 900 false true WSR_0 WSR_1 WSR_2 (healthSync (coverEnd 2 (degradeSync 2 ((scanResult 2 3 WSR_s WSR_2).bump Reg.SND.SCAN_STAT.DONE 1)))) WSR_s := by decide +kernel

theorem witness_ScansSoundingAndWear_33 :
    (fun (s : State) (n de dn : Nat) (rs : List Nat) (full pass miss : Bool) (w : Window) (rest : List Window) (z : Noz) (d1 : Dev) => (s.live) ∧ ((s.dev.health n).windows = w :: rest) ∧ (s.dev.channelStale (n / 8) = false) ∧ (curveDist (rs.map fun (v : Nat) => (s.dev.advanceTo (w.tc + 10000)).convR n v - (s.dev.advanceTo (w.tc + 10000)).rIdle n (if w.heater = 0 then (s.dev.noz n w.noz).rA else (s.dev.noz n w.noz).rB)) (s.dev.curves n w.cls).1 = de) ∧ (curveDist (rs.map fun (v : Nat) => (s.dev.advanceTo (w.tc + 10000)).convR n v - (s.dev.advanceTo (w.tc + 10000)).rIdle n (if w.heater = 0 then (s.dev.noz n w.noz).rA else (s.dev.noz n w.noz).rB)) (s.dev.curves n w.cls).2 = dn) ∧ ((decide (de + s.dev.get Reg.SND.SIG_CFG.MARGIN ≤ dn) && !full) = pass) ∧ ((decide (dn + s.dev.get Reg.SND.SIG_CFG.MARGIN ≤ de) || full) = miss) ∧ ({ s.dev.noz n w.noz with sounded := min 0xFFFF ((s.dev.noz n w.noz).sounded + 1), pass := if pass = true then min 15 ((s.dev.noz n w.noz).pass + 1) else 0, miss := if pass = false ∧ miss = true then min 15 ((s.dev.noz n w.noz).miss + 1) else 0, inc := if pass = false ∧ miss = false then min 15 ((s.dev.noz n w.noz).inc + 1) else 0 } = z) ∧ ((s.dev.advanceTo (w.tc + 10000)).drawn.setHealth n { s.dev.health n with windows := rest, abandons := 0, ptr := (w.noz + 1) % 16384, decides := min 0xFFFFFFFF ((s.dev.health n).decides + 1), misses := min 0xFFFFFFFF ((s.dev.health n).misses + b2n (!pass && miss)) } = d1)) (WSND) 2 0 0 [] true false true { noz := 3, line := 0, cls := 0, heater := 0, tc := 0, asked := 0 } [] { Noz.init with sounded := 1, miss := 1 } WSNDd := by decide +kernel

theorem witness_ScansSoundingAndWear_34 :
    (fun (s : State) (n : Nat) (bad : List Nat) (d1 : Dev) => (s.live) ∧ (s.dev.inRun (pg .TRN 0) = true) ∧ (s.dev.is Reg.TRN.TASK_EN.WEAR = true) ∧ (s.dev.basinUp = true) ∧ (s.dev.is Reg.BAS.STAT.THROTTLED = false) ∧ (s.dev.snd.wearAt = n) ∧ ((s.dev.health n).wear.foldl (fun (d : Dev) (e : Nat × Nat) => (let a := d.addr Reg.SND.WEAR_BASE.ADDR + (n * 16384 + e.1) * 8; let f := d.basinLoad 4 0xFF a 8 (if bad.contains e.1 = true then 2 else 0); if f.basinFails a 8 = true then (((f.basinWrite (a / 32 * 32) (leBytes 32 0) 4).basinWrite a (leBytes 8 e.2) 4).bump Reg.TRN.WEAR_RESET_CNT.COUNT 1).raise 0 Kind.TRN.WEAR_RESET { port := n, arg := e.1 } else f.basinWrite a (leBytes 8 (leVal (f.basinRead a 8) + e.2)) 4)) (((s.dev.advanceTo ((s.dev.due .wearFlush).getD s.dev.time.up)).arm .wearFlush (max 1 (s.dev.get Reg.SND.WEAR_CFG.PERIOD) * sec / 64))) = d1)) (WWF) 0 [] (((WWF.dev.advanceTo ((WWF.dev.due .wearFlush).getD WWF.dev.time.up)).arm .wearFlush (max 1 (WWF.dev.get Reg.SND.WEAR_CFG.PERIOD) * sec / 64))) := by decide +kernel

theorem witness_ScansSoundingAndWear_35 :
    (fun (s : State)  => (s.live) ∧ (s.dev.pageOff 0xB3 = true)) (st [(Reg.HDR.STATE 0xB3, 0)]) := by decide +kernel

theorem witness_EncoderEvents_0 :
    (fun (s : State) (k dt : Nat) => (s.live) ∧ (k < 4) ∧ (s.dev.counts k = true) ∧ (s.dev.get (Reg.ENC.CFG.MODE k) ≠ 1)) (st [(Reg.ENC.STAT.RUN 0, 1)]) 0 100 := by decide +kernel

theorem witness_EncoderEvents_1 :
    (fun (s : State) (k dt : Nat) => (s.live) ∧ (k < 4) ∧ (s.dev.counts k = true) ∧ (s.dev.get (Reg.ENC.CFG.MODE k) ≠ 1) ∧ (s.dev.is (Reg.ENC.CFG.IDX_EN k) = true) ∧ (s.dev.is (Reg.ENC.CFG.IDX_GATE k) = false ∨ (s.dev.bitOf (Reg.ENC.STAT.PINS k) 3 = true ∧ s.dev.bitOf (Reg.ENC.STAT.PINS k) 2 = true)) ∧ (s.dev.bitOf (Reg.ENC.STAT.WIRE k) 1 = false) ∧ ((s.dev.enc k).armed = true)) (st [(Reg.ENC.STAT.RUN 0, 1), (Reg.ENC.CFG.IDX_EN 0, 1), (Reg.ENC.CFG.IDX_GATE 0, 0), (Reg.ENC.HOME.POS 0, 512)] fun d => d.setEnc 0 { Enc.init with armed := true }) 0 100 := by decide +kernel

theorem witness_EncoderEvents_2 :
    (fun (s : State) (k line dt : Nat) => (s.live) ∧ (k < 4) ∧ (line < 2) ∧ (s.dev.bitOf (Reg.ENC.STAT.WIRE k) (3 - line) = false)) (st [(Reg.ENC.STAT.RUN 0, 1)]) 0 0 100 := by decide +kernel

theorem witness_EncoderEvents_3 :
    (fun (s : State) (k dt : Nat) => (s.live) ∧ (k < 4) ∧ (s.dev.bitOf (Reg.ENC.STAT.WIRE k) 1 = false)) (State.reset) 0 100 := by decide +kernel

theorem witness_EncoderEvents_4 :
    (fun (s : State) (k line dt : Nat) => (s.live) ∧ (k < 4) ∧ (line = 2 ∨ line = 3) ∧ (s.dev.bitOf (Reg.ENC.STAT.WIRE k) (3 - line) = true)) (st [(Reg.ENC.STAT.WIRE 0, 2)]) 0 2 100 := by decide +kernel

theorem witness_EncoderEvents_5 :
    (fun (s : State) (k t : Nat) => (s.live) ∧ (k < 4) ∧ (s.dev.due (.still k) = some t)) (st [] (·.arm (.still 0) 7)) 0 7 := by decide +kernel

theorem witness_EncoderEvents_6 :
    (fun (s : State) (k dt : Nat) (rising : Bool) => (s.live) ∧ (k < 4) ∧ ((s.dev.get (Reg.ENC.CFG.SE_EDGE k) = 2 ∨ (s.dev.get (Reg.ENC.CFG.SE_EDGE k) = 0 ∧ rising = true) ∨ (s.dev.get (Reg.ENC.CFG.SE_EDGE k) = 1 ∧ rising = false))) ∧ (s.dev.is (Reg.ENC.CFG.SE_DIFF k) = false ∨ s.dev.bitOf (Reg.ENC.STAT.WIRE k) 0 = false) ∧ (s.dev.inRun (pg .ENC k) = true) ∧ (((s.dev.enc k).travel.map fun t => decide (t < s.dev.get (Reg.ENC.SE_LOCK.COUNTS k))).getD false = false)) (st [(Reg.HDR.STATE (pg .ENC 0), 2), (Reg.ENC.CFG.SE_DIFF 0, 0), (Reg.ENC.CFG.SE_EDGE 0, 0)]) 0 100 true := by decide +kernel

theorem witness_EncoderEvents_7 :
    (fun (s : State) (k dt : Nat) => (s.live) ∧ (k < 4) ∧ (s.dev.counts k = false ∨ s.dev.get (Reg.ENC.CFG.MODE k) = 1)) (State.reset) 0 100 := by decide +kernel

theorem witness_EncoderEvents_8 :
    (fun (s : State) (k dt : Nat) (rising : Bool) => (s.live) ∧ (k < 4) ∧ (rising = false ∨ s.dev.counts k = false ∨ s.dev.get (Reg.ENC.CFG.MODE k) = 1 ∨ s.dev.is (Reg.ENC.CFG.IDX_EN k) = false)) (State.reset) 0 100 true := by decide +kernel

theorem witness_EncoderEvents_9 :
    (fun (s : State) (k dt : Nat) => (s.live) ∧ (k < 4) ∧ (s.dev.counts k = true) ∧ (s.dev.get (Reg.ENC.CFG.MODE k) ≠ 1) ∧ (s.dev.is (Reg.ENC.CFG.IDX_EN k) = true) ∧ (s.dev.is (Reg.ENC.CFG.IDX_GATE k) = false ∨ (s.dev.bitOf (Reg.ENC.STAT.PINS k) 3 = true ∧ s.dev.bitOf (Reg.ENC.STAT.PINS k) 2 = true)) ∧ (s.dev.bitOf (Reg.ENC.STAT.WIRE k) 1 = false) ∧ ((s.dev.enc k).armed = false) ∧ (s.dev.is (Reg.ENC.STAT.DIR k) = false) ∧ (s.dev.saturated k = false) ∧ (s.dev.get (Reg.ENC.PER_REV.COUNTS k) ≠ 0) ∧ (s.dev.is (Reg.ENC.STAT.REF_SET k) = false)) (st [(Reg.ENC.STAT.RUN 0, 1), (Reg.ENC.CFG.IDX_EN 0, 1), (Reg.ENC.CFG.IDX_GATE 0, 0), (Reg.ENC.PER_REV.COUNTS 0, 1000)]) 0 100 := by decide +kernel

theorem witness_EncoderEvents_10 :
    (fun (s : State) (k dt : Nat) (e err : Int) => (s.live) ∧ (k < 4) ∧ (s.dev.counts k = true) ∧ (s.dev.get (Reg.ENC.CFG.MODE k) ≠ 1) ∧ (s.dev.is (Reg.ENC.CFG.IDX_EN k) = true) ∧ (s.dev.is (Reg.ENC.CFG.IDX_GATE k) = false ∨ (s.dev.bitOf (Reg.ENC.STAT.PINS k) 3 = true ∧ s.dev.bitOf (Reg.ENC.STAT.PINS k) 2 = true)) ∧ (s.dev.bitOf (Reg.ENC.STAT.WIRE k) 1 = false) ∧ ((s.dev.enc k).armed = false) ∧ (s.dev.is (Reg.ENC.STAT.DIR k) = false) ∧ (s.dev.saturated k = false) ∧ (s.dev.get (Reg.ENC.PER_REV.COUNTS k) ≠ 0) ∧ (s.dev.is (Reg.ENC.STAT.REF_SET k) = true) ∧ (((s.dev.pos48 (Reg.ENC.REF.POS k) - s.dev.pos48 (Reg.ENC.POS.POS k)) % (s.dev.get (Reg.ENC.PER_REV.COUNTS k) * 256 : Int)) = e) ∧ ((if 2 * e ≤ (s.dev.get (Reg.ENC.PER_REV.COUNTS k) * 256 : Int) then e else e - (s.dev.get (Reg.ENC.PER_REV.COUNTS k) * 256 : Int)) = err) ∧ (err.natAbs ≤ s.dev.get (Reg.ENC.CFG.WIN k) * 256)) (st [(Reg.ENC.STAT.RUN 0, 1), (Reg.ENC.CFG.IDX_EN 0, 1), (Reg.ENC.CFG.IDX_GATE 0, 0), (Reg.ENC.PER_REV.COUNTS 0, 1000), (Reg.ENC.STAT.REF_SET 0, 1), (Reg.ENC.CFG.WIN 0, 4)]) 0 100 0 0 := by decide +kernel

theorem witness_EncoderEvents_11 :
    (fun (s : State) (k dt : Nat) (e err : Int) => (s.live) ∧ (k < 4) ∧ (s.dev.counts k = true) ∧ (s.dev.get (Reg.ENC.CFG.MODE k) ≠ 1) ∧ (s.dev.is (Reg.ENC.CFG.IDX_EN k) = true) ∧ (s.dev.is (Reg.ENC.CFG.IDX_GATE k) = false ∨ (s.dev.bitOf (Reg.ENC.STAT.PINS k) 3 = true ∧ s.dev.bitOf (Reg.ENC.STAT.PINS k) 2 = true)) ∧ (s.dev.bitOf (Reg.ENC.STAT.WIRE k) 1 = false) ∧ ((s.dev.enc k).armed = false) ∧ (s.dev.is (Reg.ENC.STAT.DIR k) = false) ∧ (s.dev.saturated k = false) ∧ (s.dev.get (Reg.ENC.PER_REV.COUNTS k) ≠ 0) ∧ (s.dev.is (Reg.ENC.STAT.REF_SET k) = true) ∧ (((s.dev.pos48 (Reg.ENC.REF.POS k) - s.dev.pos48 (Reg.ENC.POS.POS k)) % (s.dev.get (Reg.ENC.PER_REV.COUNTS k) * 256 : Int)) = e) ∧ ((if 2 * e ≤ (s.dev.get (Reg.ENC.PER_REV.COUNTS k) * 256 : Int) then e else e - (s.dev.get (Reg.ENC.PER_REV.COUNTS k) * 256 : Int)) = err) ∧ (s.dev.get (Reg.ENC.CFG.WIN k) * 256 < err.natAbs)) (st [(Reg.ENC.STAT.RUN 0, 1), (Reg.ENC.CFG.IDX_EN 0, 1), (Reg.ENC.CFG.IDX_GATE 0, 0), (Reg.ENC.PER_REV.COUNTS 0, 1000), (Reg.ENC.STAT.REF_SET 0, 1), (Reg.ENC.CFG.WIN 0, 0), (Reg.ENC.POS.POS 0, 512)]) 0 100 255488 (-512) := by decide +kernel

theorem witness_EncoderEvents_12 :
    (fun (s : State) (k dt : Nat) => (s.live) ∧ (k < 4) ∧ (s.dev.bitOf (Reg.ENC.STAT.WIRE k) 0 = false) ∧ (s.dev.is (Reg.ENC.CFG.SE_DIFF k) = true)) (st [(Reg.ENC.CFG.SE_DIFF 0, 1)]) 0 100 := by decide +kernel

theorem witness_EncoderEvents_13 :
    (fun (s : State) (k line dt : Nat) => (s.live) ∧ (k < 4) ∧ (line < 4) ∧ (s.dev.bitOf (Reg.ENC.STAT.WIRE k) (3 - line) = true ∨ (line = 3 ∧ s.dev.is (Reg.ENC.CFG.SE_DIFF k) = false))) (st [(Reg.ENC.STAT.WIRE 0, 8)]) 0 0 100 := by decide +kernel

theorem witness_EncoderEvents_14 :
    (fun (s : State) (k line dt : Nat) => (s.live) ∧ (k < 4) ∧ (line < 2) ∧ (s.dev.get (Reg.ENC.STAT.WIRE k) / 4 = 2 ^ (1 - line)) ∧ (s.dev.get (Reg.ENC.STAT.WIRE k) < 16) ∧ (s.dev.inRun (pg .ENC k) = true)) (st [(Reg.ENC.STAT.WIRE 0, 8), (Reg.HDR.STATE (pg .ENC 0), 2)]) 0 0 100 := by decide +kernel

theorem witness_EncoderEvents_15 :
    (fun (s : State) (k dt : Nat) (rising : Bool) => (s.live) ∧ (k < 4) ∧ ((s.dev.get (Reg.ENC.CFG.SE_EDGE k) = 2 ∨ (s.dev.get (Reg.ENC.CFG.SE_EDGE k) = 0 ∧ rising = true) ∨ (s.dev.get (Reg.ENC.CFG.SE_EDGE k) = 1 ∧ rising = false))) ∧ (s.dev.is (Reg.ENC.CFG.SE_DIFF k) = false ∨ s.dev.bitOf (Reg.ENC.STAT.WIRE k) 0 = false) ∧ (s.dev.inRun (pg .ENC k) = true) ∧ (((s.dev.enc k).travel.map fun t => decide (t < s.dev.get (Reg.ENC.SE_LOCK.COUNTS k))).getD false = true)) (st [(Reg.HDR.STATE (pg .ENC 0), 2), (Reg.ENC.CFG.SE_DIFF 0, 0), (Reg.ENC.CFG.SE_EDGE 0, 0), (Reg.ENC.SE_LOCK.COUNTS 0, 100)] fun d => d.setEnc 0 { Enc.init with travel := some 5 }) 0 100 true := by decide +kernel

theorem witness_EncoderEvents_16 :
    (fun (s : State) (k dt : Nat) (rising : Bool) => (s.live) ∧ (k < 4) ∧ (s.dev.inRun (pg .ENC k) = false ∨ (s.dev.get (Reg.ENC.CFG.SE_EDGE k) = 0 ∧ rising = false) ∨ (s.dev.get (Reg.ENC.CFG.SE_EDGE k) = 1 ∧ rising = true))) (State.reset) 0 100 false := by decide +kernel

theorem witness_EncoderEvents_17 :
    (fun (s : State) (k dt w : Nat) (d1 d2 : Dev) => (s.live) ∧ (((s.dev.advance dt).putBit (Reg.ENC.STAT.PINS k) 2 (!(s.dev.advance dt).bitOf (Reg.ENC.STAT.PINS k) 2)).putBit (Reg.ENC.STAT.PINS k) 3 (!((s.dev.advance dt).putBit (Reg.ENC.STAT.PINS k) 2 (!(s.dev.advance dt).bitOf (Reg.ENC.STAT.PINS k) 2)).bitOf (Reg.ENC.STAT.PINS k) 3) = d1) ∧ (d1.counts k = true) ∧ (d1.get (Reg.ENC.CFG.MODE k) ≠ 1) ∧ ((if (d1.enc k).window = d1.ts / 250000 then (d1.enc k).illegal + 1 else 1) = w) ∧ (setUncertain k true (((d1.setEnc k { d1.enc k with illegal := w, window := d1.ts / 250000 }).bump (Reg.ENC.ILLEGAL_CNT.COUNT k) 1).ev .ENC k 0) = d2)) (WIC) 0 100 1 WICd (setUncertain 0 true (((WICd.setEnc 0 { WICd.enc 0 with illegal := 1, window := WICd.ts / 250000 }).bump (Reg.ENC.ILLEGAL_CNT.COUNT 0) 1).ev .ENC 0 0)) := by decide +kernel

theorem witness_EncoderEvents_18 :
    (fun (s : State) (k dt : Nat) (rising : Bool) (d1 : Dev) => (s.live) ∧ ((s.dev.advance dt).putBit (Reg.ENC.STAT.PINS k) 1 rising = d1) ∧ (rising = false ∨ d1.counts k = false ∨ d1.get (Reg.ENC.CFG.MODE k) = 1 ∨ d1.is (Reg.ENC.CFG.IDX_EN k) = false ∨ ¬(d1.is (Reg.ENC.CFG.IDX_GATE k) = false ∨ (d1.bitOf (Reg.ENC.STAT.PINS k) 3 = true ∧ d1.bitOf (Reg.ENC.STAT.PINS k) 2 = true)))) (State.reset) 0 100 false ((State.reset.dev.advance 100).putBit (Reg.ENC.STAT.PINS 0) 1 false) := by decide +kernel

theorem witness_EncoderEvents_19 :
    (fun (s : State) (k dt : Nat) (d1 d2 : Dev) (h : Int) (d3 : Dev) => (s.live) ∧ ((s.dev.advance dt).putBit (Reg.ENC.STAT.PINS k) 1 true = d1) ∧ (d1.counts k = true) ∧ (d1.get (Reg.ENC.CFG.MODE k) ≠ 1) ∧ (d1.is (Reg.ENC.CFG.IDX_EN k) = true) ∧ ((d1.is (Reg.ENC.CFG.IDX_GATE k) = false ∨ (d1.bitOf (Reg.ENC.STAT.PINS k) 3 = true ∧ d1.bitOf (Reg.ENC.STAT.PINS k) 2 = true))) ∧ (d1.setPos (Reg.ENC.IDX_POS.POS k) (d1.pos48 (Reg.ENC.POS.POS k)) = d2) ∧ ((d2.enc k).armed = true) ∧ (d2.pos48 (Reg.ENC.HOME.POS k) = h) ∧ ((((loadPos k h (d2.setEnc k { d2.enc k with armed := false })).setPos (Reg.ENC.REF.POS k) h).put (Reg.ENC.STAT.REF_SET k) true).set (Reg.ENC.STAT.MIS_RUN k) 0 = d3)) (WIX0) 0 100 ((WIX0.dev.advance 100).putBit (Reg.ENC.STAT.PINS 0) 1 true) (((WIX0.dev.advance 100).putBit (Reg.ENC.STAT.PINS 0) 1 true).setPos (Reg.ENC.IDX_POS.POS 0) (((WIX0.dev.advance 100).putBit (Reg.ENC.STAT.PINS 0) 1 true).pos48 (Reg.ENC.POS.POS 0))) 512 ((((loadPos 0 512 ((((WIX0.dev.advance 100).putBit (Reg.ENC.STAT.PINS 0) 1 true).setPos (Reg.ENC.IDX_POS.POS 0) (((WIX0.dev.advance 100).putBit (Reg.ENC.STAT.PINS 0) 1 true).pos48 (Reg.ENC.POS.POS 0))).setEnc 0 { (((WIX0.dev.advance 100).putBit (Reg.ENC.STAT.PINS 0) 1 true).setPos (Reg.ENC.IDX_POS.POS 0) (((WIX0.dev.advance 100).putBit (Reg.ENC.STAT.PINS 0) 1 true).pos48 (Reg.ENC.POS.POS 0))).enc 0 with armed := false })).setPos (Reg.ENC.REF.POS 0) 512).put (Reg.ENC.STAT.REF_SET 0) true).set (Reg.ENC.STAT.MIS_RUN 0) 0) := by decide +kernel

theorem witness_EncoderEvents_20 :
    (fun (s : State) (k dt : Nat) (d1 d2 : Dev) => (s.live) ∧ ((s.dev.advance dt).putBit (Reg.ENC.STAT.PINS k) 1 true = d1) ∧ (d1.counts k = true) ∧ (d1.get (Reg.ENC.CFG.MODE k) ≠ 1) ∧ (d1.is (Reg.ENC.CFG.IDX_EN k) = true) ∧ ((d1.is (Reg.ENC.CFG.IDX_GATE k) = false ∨ (d1.bitOf (Reg.ENC.STAT.PINS k) 3 = true ∧ d1.bitOf (Reg.ENC.STAT.PINS k) 2 = true))) ∧ (d1.setPos (Reg.ENC.IDX_POS.POS k) (d1.pos48 (Reg.ENC.POS.POS k)) = d2) ∧ ((d2.enc k).armed = false) ∧ (d2.is (Reg.ENC.STAT.DIR k) = true ∨ d2.saturated k = true ∨ d2.bitOf (Reg.ENC.STAT.WIRE k) 1 = true ∨ d2.get (Reg.ENC.PER_REV.COUNTS k) = 0)) (WIX1) 0 100 ((WIX1.dev.advance 100).putBit (Reg.ENC.STAT.PINS 0) 1 true) (((WIX1.dev.advance 100).putBit (Reg.ENC.STAT.PINS 0) 1 true).setPos (Reg.ENC.IDX_POS.POS 0) (((WIX1.dev.advance 100).putBit (Reg.ENC.STAT.PINS 0) 1 true).pos48 (Reg.ENC.POS.POS 0))) := by decide +kernel

theorem witness_EncoderEvents_21 :
    (fun (s : State) (k dt : Nat) (d1 d2 : Dev) => (s.live) ∧ ((s.dev.advance dt).putBit (Reg.ENC.STAT.PINS k) 1 true = d1) ∧ (d1.counts k = true) ∧ (d1.get (Reg.ENC.CFG.MODE k) ≠ 1) ∧ (d1.is (Reg.ENC.CFG.IDX_EN k) = true) ∧ ((d1.is (Reg.ENC.CFG.IDX_GATE k) = false ∨ (d1.bitOf (Reg.ENC.STAT.PINS k) 3 = true ∧ d1.bitOf (Reg.ENC.STAT.PINS k) 2 = true))) ∧ (d1.setPos (Reg.ENC.IDX_POS.POS k) (d1.pos48 (Reg.ENC.POS.POS k)) = d2) ∧ (d2.is (Reg.ENC.STAT.DIR k) = false) ∧ (d2.bitOf (Reg.ENC.STAT.WIRE k) 1 = false) ∧ (d2.saturated k = false) ∧ ((d2.enc k).armed = false) ∧ (d2.get (Reg.ENC.PER_REV.COUNTS k) ≠ 0) ∧ (d2.is (Reg.ENC.STAT.REF_SET k) = false)) (WIX2) 0 100 ((WIX2.dev.advance 100).putBit (Reg.ENC.STAT.PINS 0) 1 true) (((WIX2.dev.advance 100).putBit (Reg.ENC.STAT.PINS 0) 1 true).setPos (Reg.ENC.IDX_POS.POS 0) (((WIX2.dev.advance 100).putBit (Reg.ENC.STAT.PINS 0) 1 true).pos48 (Reg.ENC.POS.POS 0))) := by decide +kernel

theorem witness_EncoderEvents_22 :
    (fun (s : State) (k dt : Nat) (d1 d2 : Dev) (e err : Int) => (s.live) ∧ ((s.dev.advance dt).putBit (Reg.ENC.STAT.PINS k) 1 true = d1) ∧ (d1.counts k = true) ∧ (d1.get (Reg.ENC.CFG.MODE k) ≠ 1) ∧ (d1.is (Reg.ENC.CFG.IDX_EN k) = true) ∧ ((d1.is (Reg.ENC.CFG.IDX_GATE k) = false ∨ (d1.bitOf (Reg.ENC.STAT.PINS k) 3 = true ∧ d1.bitOf (Reg.ENC.STAT.PINS k) 2 = true))) ∧ (d1.setPos (Reg.ENC.IDX_POS.POS k) (d1.pos48 (Reg.ENC.POS.POS k)) = d2) ∧ (d2.is (Reg.ENC.STAT.DIR k) = false) ∧ (d2.bitOf (Reg.ENC.STAT.WIRE k) 1 = false) ∧ (d2.saturated k = false) ∧ ((d2.enc k).armed = false) ∧ (d2.get (Reg.ENC.PER_REV.COUNTS k) ≠ 0) ∧ (d2.is (Reg.ENC.STAT.REF_SET k) = true) ∧ ((d2.pos48 (Reg.ENC.REF.POS k) - d1.pos48 (Reg.ENC.POS.POS k)) % (d2.get (Reg.ENC.PER_REV.COUNTS k) * 256 : Int) = e) ∧ ((if 2 * e ≤ (d2.get (Reg.ENC.PER_REV.COUNTS k) * 256 : Int) then e else e - (d2.get (Reg.ENC.PER_REV.COUNTS k) * 256 : Int)) = err) ∧ (err.natAbs ≤ d2.get (Reg.ENC.CFG.WIN k) * 256)) (WIX3) 0 100 ((WIX3.dev.advance 100).putBit (Reg.ENC.STAT.PINS 0) 1 true) (((WIX3.dev.advance 100).putBit (Reg.ENC.STAT.PINS 0) 1 true).setPos (Reg.ENC.IDX_POS.POS 0) (((WIX3.dev.advance 100).putBit (Reg.ENC.STAT.PINS 0) 1 true).pos48 (Reg.ENC.POS.POS 0))) 0 0 := by decide +kernel

theorem witness_EncoderEvents_23 :
    (fun (s : State) (k dt : Nat) (d1 d2 : Dev) (e err : Int) (d3 : Dev) => (s.live) ∧ ((s.dev.advance dt).putBit (Reg.ENC.STAT.PINS k) 1 true = d1) ∧ (d1.counts k = true) ∧ (d1.get (Reg.ENC.CFG.MODE k) ≠ 1) ∧ (d1.is (Reg.ENC.CFG.IDX_EN k) = true) ∧ ((d1.is (Reg.ENC.CFG.IDX_GATE k) = false ∨ (d1.bitOf (Reg.ENC.STAT.PINS k) 3 = true ∧ d1.bitOf (Reg.ENC.STAT.PINS k) 2 = true))) ∧ (d1.setPos (Reg.ENC.IDX_POS.POS k) (d1.pos48 (Reg.ENC.POS.POS k)) = d2) ∧ (d2.is (Reg.ENC.STAT.DIR k) = false) ∧ (d2.bitOf (Reg.ENC.STAT.WIRE k) 1 = false) ∧ (d2.saturated k = false) ∧ ((d2.enc k).armed = false) ∧ (d2.get (Reg.ENC.PER_REV.COUNTS k) ≠ 0) ∧ (d2.is (Reg.ENC.STAT.REF_SET k) = true) ∧ ((d2.pos48 (Reg.ENC.REF.POS k) - d1.pos48 (Reg.ENC.POS.POS k)) % (d2.get (Reg.ENC.PER_REV.COUNTS k) * 256 : Int) = e) ∧ ((if 2 * e ≤ (d2.get (Reg.ENC.PER_REV.COUNTS k) * 256 : Int) then e else e - (d2.get (Reg.ENC.PER_REV.COUNTS k) * 256 : Int)) = err) ∧ (d2.get (Reg.ENC.CFG.WIN k) * 256 < err.natAbs) ∧ ((((d2.set (Reg.ENC.IDX_ERR.E k) (ofSigned 32 err)).bump (Reg.ENC.MISMATCH_CNT.COUNT k) 1).raise k Kind.ENC.INDEX_MISMATCH { arg := ofSigned 32 err }).setEnc k { d2.enc k with lastErr := err } = d3)) (WIX4) 0 100 ((WIX4.dev.advance 100).putBit (Reg.ENC.STAT.PINS 0) 1 true) (((WIX4.dev.advance 100).putBit (Reg.ENC.STAT.PINS 0) 1 true).setPos (Reg.ENC.IDX_POS.POS 0) (((WIX4.dev.advance 100).putBit (Reg.ENC.STAT.PINS 0) 1 true).pos48 (Reg.ENC.POS.POS 0))) 255488 (-512) (((((((WIX4.dev.advance 100).putBit (Reg.ENC.STAT.PINS 0) 1 true).setPos (Reg.ENC.IDX_POS.POS 0) (((WIX4.dev.advance 100).putBit (Reg.ENC.STAT.PINS 0) 1 true).pos48 (Reg.ENC.POS.POS 0))).set (Reg.ENC.IDX_ERR.E 0) (ofSigned 32 (-512))).bump (Reg.ENC.MISMATCH_CNT.COUNT 0) 1).raise 0 Kind.ENC.INDEX_MISMATCH { arg := ofSigned 32 (-512) }).setEnc 0 { (((WIX4.dev.advance 100).putBit (Reg.ENC.STAT.PINS 0) 1 true).setPos (Reg.ENC.IDX_POS.POS 0) (((WIX4.dev.advance 100).putBit (Reg.ENC.STAT.PINS 0) 1 true).pos48 (Reg.ENC.POS.POS 0))).enc 0 with lastErr := -512 }) := by decide +kernel

theorem witness_EncoderEvents_24 :
    (fun (s : State) (k line dt : Nat) => (s.live) ∧ (line < 4) ∧ (s.dev.bitOf (Reg.ENC.STAT.WIRE k) (3 - line) = false)) (State.reset) 0 1 100 := by decide +kernel

theorem witness_EncoderEvents_25 :
    (fun (s : State) (k line dt : Nat) (d1 : Dev) => (s.live) ∧ (k < 4) ∧ (line < 4) ∧ ((s.dev.advance dt).clrBit (Reg.ENC.STAT.WIRE k) (3 - line) = d1) ∧ (s.dev.bitOf (Reg.ENC.STAT.WIRE k) (3 - line) = true)) (WWC) 0 0 100 ((WWC.dev.advance 100).clrBit (Reg.ENC.STAT.WIRE 0) 3) := by decide +kernel

theorem witness_EncoderEvents_26 :
    (fun (s : State) (k : Nat) => (s.live) ∧ (s.dev.due (.still k) = none)) (State.reset) 0 := by decide +kernel

theorem witness_EncoderEvents_27 :
    (fun (s : State) (k dt : Nat) (rising : Bool) => (s.live) ∧ (k < 4) ∧ (s.dev.is (Reg.ENC.CFG.SE_DIFF k) = true) ∧ (s.dev.bitOf (Reg.ENC.STAT.WIRE k) 0 = true)) (st [(Reg.ENC.CFG.SE_DIFF 0, 1), (Reg.ENC.STAT.WIRE 0, 1)]) 0 100 true := by decide +kernel

theorem witness_EncoderEvents_28 :
    (fun (s : State) (k dt : Nat) (rising : Bool) (d1 d2 d3 : Dev) => (s.live) ∧ (k < 4) ∧ ((s.dev.advance dt).putBit (Reg.ENC.STAT.PINS k) 0 rising = d1) ∧ (s.dev.get (Reg.ENC.CFG.SE_EDGE k) = 2 ∨ (s.dev.get (Reg.ENC.CFG.SE_EDGE k) = 0 ∧ rising = true) ∨ (s.dev.get (Reg.ENC.CFG.SE_EDGE k) = 1 ∧ rising = false)) ∧ (s.dev.is (Reg.ENC.CFG.SE_DIFF k) = false ∨ s.dev.bitOf (Reg.ENC.STAT.WIRE k) 0 = false) ∧ (s.dev.inRun (pg .ENC k) = true) ∧ (((s.dev.enc k).travel.map fun t => decide (t < s.dev.get (Reg.ENC.SE_LOCK.COUNTS k))).getD false = false) ∧ ((((d1.setEnc k { d1.enc k with travel := some 0 }).set (Reg.ENC.SE_TS.TS k) d1.ts).set (Reg.ENC.SE_POS.POS k) (d1.get (Reg.ENC.POS.POS k))).ev .ENC k 9 = d2) ∧ ((if d2.srcChannel = some k ∧ d2.mode = 3 then pushEdge (d2.posAt d2.time.up) d2 else d2) = d3)) (WSE) 0 100 true WSE1 WSE2 WSE2 := by decide +kernel

theorem witness_EncoderCommands_0 :
    (fun (s : State) (k : Nat) => (s.live) ∧ (k < 4) ∧ (s.dev.pageOff (0x91 + k) = false) ∧ (s.dev.encLocked k = false)) (st [(Reg.HDR.STATE 0x91, 2), (Reg.ENC.STAT.REF_SET 0, 1)]) 0 := by decide +kernel

theorem witness_EncoderCommands_1 :
    (fun (s : State) (k : Nat) => (s.live) ∧ (k < 4) ∧ (s.dev.pageOff (0x91 + k) = false) ∧ (s.dev.encLocked k = false)) (st [(Reg.HDR.STATE 0x91, 2)]) 0 := by decide +kernel

theorem witness_EncoderCommands_2 :
    (fun (s : State) (k : Nat) => (s.live) ∧ (k < 4) ∧ (s.dev.pageOff (0x91 + k) = false) ∧ (s.dev.encLocked k = false)) (st [(Reg.HDR.STATE 0x91, 2), (Reg.ENC.STAT.REF_SET 0, 1)]) 0 := by decide +kernel

theorem witness_EncoderCommands_3 :
    (fun (s : State) (k : Nat) => (s.live) ∧ (k < 4) ∧ (s.dev.pageOff (0x91 + k) = false) ∧ (s.dev.encLocked k = true)) (st [(Reg.HDR.STATE 0x91, 2), (Reg.SYS.MODE_STAT.MODE, 2), (Reg.TRG.SRC_SEL.SEL, 0)]) 0 := by decide +kernel

theorem witness_EncoderCommands_4 :
    (fun (s : State)  => (s.live) ∧ (s.dev.pageOff 0x90 = false)) (st [(Reg.HDR.STATE 0x90, 2), (Reg.ENC.POS.POS 1, 9)]) := by decide +kernel

theorem witness_EncoderCommands_5 :
    (fun (s : State) (m : Nat) => (s.live) ∧ (m < 2) ∧ (s.dev.pageOff (0x98 + m) = false) ∧ (s.dev.is (Reg.EOUT.CFG.OUT_EN m) = false)) (st [(Reg.HDR.STATE 0x98, 2)]) 0 := by decide +kernel

theorem witness_EncoderCommands_6 :
    (fun (s : State) (m : Nat) (sg : Int) (rest : List Int) => (s.live) ∧ (m < 2) ∧ (s.dev.enabled (pg .EOUT m) = true) ∧ (s.dev.is (Reg.EOUT.CFG.OUT_EN m) = true) ∧ (popStep (s.dev.eout m).runs = some (sg, rest))) (st [(Reg.HDR.ENABLE 0x98, 1), (Reg.EOUT.CFG.OUT_EN 0, 1), (Reg.EOUT.CFG.INVERT 0, 0)] fun d => d.setEout 0 { Eout.init with runs := [2] }) 0 1 [1] := by decide +kernel

theorem witness_EncoderCommands_7 :
    (fun (s : State) (k : Nat) => (s.live) ∧ (k < 4) ∧ (s.dev.pageOff (0x91 + k) = false) ∧ (s.dev.encLocked k = true)) (st [(Reg.HDR.STATE 0x91, 2), (Reg.SYS.MODE_STAT.MODE, 2), (Reg.TRG.SRC_SEL.SEL, 0)]) 0 := by decide +kernel

theorem witness_EncoderCommands_8 :
    (fun (s : State) (k : Nat) => (s.live) ∧ (k < 4) ∧ (s.dev.pageOff (0x91 + k) = false) ∧ (s.dev.encLocked k = true)) (st [(Reg.HDR.STATE 0x91, 2), (Reg.SYS.MODE_STAT.MODE, 2), (Reg.TRG.SRC_SEL.SEL, 0)]) 0 := by decide +kernel

theorem witness_EncoderCommands_9 :
    (fun (s : State) (m : Nat) => (s.live) ∧ (s.dev.enabled (pg .EOUT m) = false ∨ s.dev.is (Reg.EOUT.CFG.OUT_EN m) = false ∨ popStep (s.dev.eout m).runs = none)) (State.reset) 0 := by decide +kernel

theorem witness_EncoderCommands_10 :
    (fun (s : State) (m : Nat) (d1 : Dev) => (s.live) ∧ (m < 2) ∧ (s.dev.pageOff (0x98 + m) = false) ∧ (s.dev.is (Reg.EOUT.CFG.OUT_EN m) = false) ∧ ((s.dev.put (Reg.EOUT.CFG.OUT_EN m) true).set (Reg.EOUT.STEPS.COUNT m) 0 = d1)) (WOE) 0 ((WOE.dev.put (Reg.EOUT.CFG.OUT_EN 0) true).set (Reg.EOUT.STEPS.COUNT 0) 0) := by decide +kernel

theorem witness_EncoderCommands_11 :
    (fun (s : State) (m : Nat) (sg : Int) (rest : List Int) (ph st : Nat) (d1 : Dev) => (s.live) ∧ (s.dev.enabled (pg .EOUT m) = true) ∧ (s.dev.is (Reg.EOUT.CFG.OUT_EN m) = true) ∧ (popStep (s.dev.eout m).runs = some (sg, rest)) ∧ (((((s.dev.eout m).phase : Int) + (if s.dev.is (Reg.EOUT.CFG.INVERT m) = true then -sg else sg)) % 4).toNat = ph) ∧ (ofSigned 48 (toSigned 48 (s.dev.get (Reg.EOUT.STEPS.COUNT m)) + sg) = st) ∧ (((((s.dev.advanceTo (s.dev.eout m).free).setEout m { s.dev.eout m with runs := rest, phase := ph, free := (s.dev.advanceTo (s.dev.eout m).free).time.up + max 25 (s.dev.get (Reg.EOUT.MIN_STEP.TICKS m)) * tick }).emit (.pin Pin.eoutA m (if ph = 1 ∨ ph = 2 then 1 else 0))).emit (.pin Pin.eoutB m (if 2 ≤ ph then 1 else 0))).set (Reg.EOUT.STEPS.COUNT m) st = d1)) (WEO) 0 1 [1] WEOp WEOs WEOd := by decide +kernel

theorem witness_EncoderCommands_12 :
    (fun (s : State) (n : Nat) => (s.live) ∧ (s.dev.pageOff (0x91 + n) = true) ∧ (n < 4)) (st [(Reg.HDR.STATE 0x91, 0)]) 0 := by decide +kernel

theorem witness_EncoderCommands_13 :
    (fun (s : State)  => (s.live) ∧ (s.dev.pageOff 0x90 = true)) (st [(Reg.HDR.STATE 0x90, 0)]) := by decide +kernel

theorem witness_EncoderCommands_14 :
    (fun (s : State) (m : Nat) => (s.live) ∧ (s.dev.pageOff (0x98 + m) = true) ∧ (m < 2)) (st [(Reg.HDR.STATE 0x98, 0)]) 0 := by decide +kernel

theorem witness_EncoderCommands_15 :
    (fun (s : State) (m : Nat) => (s.live) ∧ (m < 2) ∧ (s.dev.pageOff (0x98 + m) = false) ∧ (s.dev.is (Reg.EOUT.CFG.OUT_EN m) = true)) (st [(Reg.HDR.STATE 0x98, 2), (Reg.EOUT.CFG.OUT_EN 0, 1)]) 0 := by decide +kernel

theorem witness_RingLinks_0 :
    (fun (s : State) (l : Nat) => (s.live) ∧ (l < 2) ∧ (s.dev.enabled (pg .EML l) = true) ∧ (s.dev.get (Reg.EML.LINK_STAT.STATE l) ≠ 2) ∧ (s.dev.get (Reg.EML.LINK_STAT.STATE l) ≠ 3)) (st [(Reg.HDR.STATE (pg .EML 0), 2), (Reg.HDR.ENABLE (pg .EML 0), 1), (Reg.EML.LINK_STAT.STATE 0, 1)]) 0 := by decide +kernel

theorem witness_RingLinks_1 :
    (fun (s : State) (c : CellIn) (dt : Nat) => (s.live) ∧ (c.link < 2) ∧ (s.dev.get (Reg.EML.LINK_STAT.STATE c.link) = 2) ∧ (leAt c.payload 0 1 < 64) ∧ (leAt c.payload 0 1 ≠ s.dev.ringAddr)) (st [(Reg.HDR.STATE (pg .EML 0), 2), (Reg.HDR.ENABLE (pg .EML 0), 1), (Reg.EML.LINK_STAT.STATE 0, 2), (Reg.EMR.ADDR.ADDR, 2)]) { link := 0, src := 5, dst := 128, hops := 0, seq := 1, corr := 0, payload := [5, 0, 0, 0, 0] } 100 := by decide +kernel

theorem witness_RingLinks_2 :
    (fun (s : State) (l : Nat) => (s.live) ∧ (l < 2) ∧ (s.dev.linkUp l = true)) (st [(Reg.EML.LINK_STAT.STATE 0, 3)]) 0 := by decide +kernel

theorem witness_RingLinks_3 :
    (fun (s : State) (l : Nat) (bs : Bytes) (crc : Nat) => (s.live) ∧ (l < 2) ∧ (crc8 bs ≠ crc)) (State.reset) 0 [0x5A, 0, 0, 0, 0, 0, 0] 1 := by decide +kernel

theorem witness_RingLinks_4 :
    (fun (s : State) (l : Nat) (bs : Bytes) (crc : Nat) => (s.live) ∧ (l < 2) ∧ (crc8 bs = crc) ∧ (byteAt bs 0 = 0x5A) ∧ (s.dev.linkUp l = true)) (st [(Reg.EML.LINK_STAT.STATE 0, 3)]) 0 [0x5A, 1, 2, 0, 0, 0, 0] (crc8 [0x5A, 1, 2, 0, 0, 0, 0]) := by decide +kernel

theorem witness_RingLinks_5 :
    (fun (s : State) (l t : Nat) => (s.live) ∧ (l < 2) ∧ (s.dev.due (.ctlBlock l) = some t) ∧ (s.dev.linkUp l = true)) (st [(Reg.EML.LINK_STAT.STATE 0, 3)] (·.arm (.ctlBlock 0) 7)) 0 7 := by decide +kernel

theorem witness_RingLinks_6 :
    (fun (s : State) (l t : Nat) => (s.live) ∧ (l < 2) ∧ (s.dev.due (.linkUp l) = some t) ∧ (s.dev.linkUp l = false)) (st [] (·.arm (.linkUp 0) 7)) 0 7 := by decide +kernel

theorem witness_RingLinks_7 :
    (fun (s : State) (l t : Nat) => (s.live) ∧ (l < 2) ∧ (s.dev.due (.linkRetry l) = some t) ∧ (s.dev.enabled (pg .EML l) = true)) (st [(Reg.HDR.STATE (pg .EML 0), 2), (Reg.HDR.ENABLE (pg .EML 0), 1)] (·.arm (.linkRetry 0) 7)) 0 7 := by decide +kernel

theorem witness_RingLinks_8 :
    (fun (s : State) (c : CellIn) (dt : Nat) => (s.live)) (State.reset) { link := 0, src := 5, dst := 128, hops := 0, seq := 1, corr := 0, payload := List.replicate 20 0 } 100 := by decide +kernel

theorem witness_RingLinks_9 :
    (fun (s : State) (l : Nat) => (s.live) ∧ (l < 2) ∧ (s.dev.enabled (pg .EML l) = false ∨ s.dev.get (Reg.EML.LINK_STAT.STATE l) = 2 ∨ s.dev.get (Reg.EML.LINK_STAT.STATE l) = 3)) (st [(Reg.EML.LINK_STAT.STATE 0, 3)]) 0 := by decide +kernel

theorem witness_RingLinks_10 :
    (fun (s : State) (c : CellIn) (dt : Nat) => (s.live) ∧ (c.link < 2) ∧ (s.dev.get (Reg.EML.LINK_STAT.STATE c.link) = 2) ∧ (leAt c.payload 0 1 % 64 = s.dev.ringAddr)) (st [(Reg.EML.LINK_STAT.STATE 0, 2), (Reg.EMR.ADDR.ADDR, 2)]) { link := 0, src := 5, dst := 128, hops := 0, seq := 1, corr := 0, payload := 2 :: List.replicate 19 0 } 10 := by decide +kernel

theorem witness_RingLinks_11 :
    (fun (s : State) (c : CellIn) (dt : Nat) => (s.live) ∧ (c.link < 2) ∧ (s.dev.get (Reg.EML.LINK_STAT.STATE c.link) ≠ 2)) (State.reset) { link := 0, src := 5, dst := 128, hops := 0, seq := 1, corr := 0, payload := List.replicate 20 0 } 10 := by decide +kernel

theorem witness_RingLinks_12 :
    (fun (s : State) (l : Nat) => (s.live) ∧ (l < 2) ∧ (s.dev.linkUp l = false)) (State.reset) 0 := by decide +kernel

theorem witness_RingLinks_13 :
    (fun (s : State) (l : Nat) (bs : Bytes) (crc : Nat) => (s.live) ∧ (l < 2) ∧ (crc8 bs = crc) ∧ (byteAt bs 0 ≠ 0x5A ∨ s.dev.linkUp l = false)) (State.reset) 0 [0x5A, 1, 2, 0, 0, 0, 0] (crc8 [0x5A, 1, 2, 0, 0, 0, 0]) := by decide +kernel

theorem witness_RingLinks_14 :
    (fun (s : State) (l t : Nat) => (s.live) ∧ (l < 2) ∧ (s.dev.due (.linkUp l) = some t) ∧ (s.dev.linkUp l = true)) (st [(Reg.EML.LINK_STAT.STATE 0, 3)] (·.arm (.linkUp 0) 7)) 0 7 := by decide +kernel

theorem witness_RingLinks_15 :
    (fun (s : State) (l t : Nat) => (s.live) ∧ (l < 2) ∧ (s.dev.due (.linkRetry l) = some t) ∧ (s.dev.enabled (pg .EML l) = false)) (st [(Reg.HDR.ENABLE (pg .EML 0), 0)] (·.arm (.linkRetry 0) 7)) 0 7 := by decide +kernel

theorem witness_RingLinks_16 :
    (fun (s : State) (l : Nat) => (s.live) ∧ (s.dev.due (.ctlBlock l) = none)) (State.reset) 0 := by decide +kernel

theorem witness_RingLinks_17 :
    (fun (s : State) (l : Nat) => (s.live) ∧ (s.dev.due (.linkUp l) = none)) (State.reset) 0 := by decide +kernel

theorem witness_RingLinks_18 :
    (fun (s : State) (l : Nat) => (s.live) ∧ (s.dev.due (.linkRetry l) = none)) (State.reset) 0 := by decide +kernel

theorem witness_RingLinks_19 :
    (fun (s : State) (l t : Nat) => (s.live) ∧ (l < 2) ∧ (s.dev.due (.ctlBlock l) = some t) ∧ (s.dev.linkUp l = false)) (st [] (·.arm (.ctlBlock 0) 7)) 0 7 := by decide +kernel

theorem witness_RingLinks_20 :
    (fun (s : State) (c : CellIn) (dt : Nat) => (s.live) ∧ (c.link < 2) ∧ (s.dev.get (Reg.EML.LINK_STAT.STATE c.link) = 2) ∧ (leAt c.payload 0 1 % 64 ≠ s.dev.ringAddr)) (st [(Reg.EML.LINK_STAT.STATE 0, 2), (Reg.EMR.ADDR.ADDR, 2)]) { link := 0, src := 5, dst := 128, hops := 0, seq := 1, corr := 0, payload := [69, 0, 0, 0, 0] } 100 := by decide +kernel

theorem witness_RingTimeAndDelay_0 :
    (fun (s : State) (l : Nat) => (s.live) ∧ (l < 2) ∧ (s.dev.linkUp l = true)) (st [(Reg.EML.LINK_STAT.STATE 0, 3)]) 0 := by decide +kernel

theorem witness_RingTimeAndDelay_1 :
    (fun (s : State) (c : CellIn) (dt : Nat) => (s.live) ∧ (c.link < 2) ∧ (s.dev.linkUp c.link = true)) (st [(Reg.EML.LINK_STAT.STATE 0, 3)]) { link := 0, src := 5, dst := 128, hops := 0, seq := 1, corr := 0, payload := List.replicate 20 0 } 100 := by decide +kernel

theorem witness_RingTimeAndDelay_2 :
    (fun (s : State) (c : CellIn) (dt : Nat) => (s.live) ∧ (c.link < 2) ∧ (s.dev.linkUp c.link = true)) (st [(Reg.EML.LINK_STAT.STATE 0, 3)]) { link := 0, src := 5, dst := 128, hops := 0, seq := 1, corr := 0, payload := List.replicate 20 0 } 100 := by decide +kernel

theorem witness_RingTimeAndDelay_3 :
    (fun (s : State) (ts pos speed flags : Nat) => (s.live) ∧ (s.dev.ringRole = 2) ∧ (s.dev.get (Reg.ENC.EDGE_TS.TS (s.dev.get Reg.EMR.POS_CFG.CHAN)) = ts) ∧ (ofSigned 48 (toSigned 48 (s.dev.get (Reg.ENC.POS.POS (s.dev.get Reg.EMR.POS_CFG.CHAN))) + s.dev.posOff (s.dev.get Reg.EMR.POS_CFG.CHAN)) = pos) ∧ (ofSigned 40 (satS 40 (toSigned 48 (s.dev.get (Reg.ENC.SPEED.V (s.dev.get Reg.EMR.POS_CFG.CHAN))))) = speed) ∧ (s.dev.get (Reg.ENC.STAT.SPEED_VALID (s.dev.get Reg.EMR.POS_CFG.CHAN)) + 2 * s.dev.get (Reg.ENC.STAT.UNCERTAIN (s.dev.get Reg.EMR.POS_CFG.CHAN)) + 4 * b2n (s.dev.saturated (s.dev.get Reg.EMR.POS_CFG.CHAN)) + 8 * b2n (s.dev.emr.lastPos == some (ts, pos)) = flags)) (st [(Reg.EMR.ROLE_STAT.ROLE, 2)]) 0 0 0 0 := by decide +kernel

theorem witness_RingTimeAndDelay_4 :
    (fun (s : State)  => (s.live) ∧ (s.dev.ringRole = 2)) (st [(Reg.EMR.ROLE_STAT.ROLE, 2)]) := by decide +kernel

theorem witness_RingTimeAndDelay_5 :
    (fun (s : State)  => (s.live) ∧ (s.dev.ringRole = 2)) (st [(Reg.EMR.ROLE_STAT.ROLE, 2)]) := by decide +kernel

theorem witness_RingTimeAndDelay_6 :
    (fun (s : State) (c : CellIn) (dt : Nat) => (s.live) ∧ (s.dev.hearsAll 0x10 c) ∧ (s.dev.ringRole ≠ 2) ∧ (s.dev.following = some (c.src, leAt c.payload 18 2))) (st [(Reg.HDR.STATE (pg .EMR 0), 2), (Reg.HDR.ENABLE (pg .EMR 0), 1), (Reg.EML.LINK_STAT.STATE 0, 3), (Reg.EMR.ADDR.ADDR, 2), (Reg.EMR.ROLE_STAT.MGR_VALID, 1), (Reg.EMR.ROLE_STAT.MANAGER, 5), (Reg.EMR.ROLE_STAT.EPOCH, 0)]) { link := 0, src := 5, dst := 128, hops := 0, seq := 1, corr := 0, payload := List.replicate 20 0 } 100 := by decide +kernel

theorem witness_RingTimeAndDelay_7 :
    (fun (s : State) (c : CellIn) (dt : Nat) => (s.live) ∧ (s.dev.hearsAll 0x11 c) ∧ (s.dev.ringRole ≠ 2) ∧ (s.dev.following = some (c.src, leAt c.payload 8 2)) ∧ (s.dev.printing = false)) (st [(Reg.HDR.STATE (pg .EMR 0), 2), (Reg.HDR.ENABLE (pg .EMR 0), 1), (Reg.EML.LINK_STAT.STATE 0, 3), (Reg.EMR.ADDR.ADDR, 2), (Reg.EMR.ROLE_STAT.MGR_VALID, 1), (Reg.EMR.ROLE_STAT.MANAGER, 5), (Reg.EMR.ROLE_STAT.EPOCH, 0)]) { link := 0, src := 5, dst := 128, hops := 0, seq := 1, corr := 0, payload := [9, 1, 0, 0, 0, 0, 0, 0, 0, 0] } 100 := by decide +kernel

theorem witness_RingTimeAndDelay_8 :
    (fun (s : State) (l : Nat) => (s.live) ∧ (l < 2) ∧ (s.dev.linkUp l = false)) (State.reset) 0 := by decide +kernel

theorem witness_RingTimeAndDelay_9 :
    (fun (s : State)  => (s.live) ∧ (s.dev.ringRole ≠ 2)) (State.reset) := by decide +kernel

theorem witness_RingTimeAndDelay_10 :
    (fun (s : State)  => (s.live) ∧ (s.dev.ringRole ≠ 2)) (State.reset) := by decide +kernel

theorem witness_RingTimeAndDelay_11 :
    (fun (s : State)  => (s.live) ∧ (s.dev.ringRole ≠ 2)) (State.reset) := by decide +kernel

theorem witness_RingTimeAndDelay_12 :
    (fun (s : State) (c : CellIn) (dt : Nat) => (s.live) ∧ (c.link < 2) ∧ (s.dev.get (Reg.EML.LINK_STAT.STATE c.link) ≠ 2) ∧ (s.dev.linkUp c.link = false)) (State.reset) { link := 0, src := 5, dst := 128, hops := 0, seq := 1, corr := 0, payload := List.replicate 20 0 } 10 := by decide +kernel

theorem witness_RingTimeAndDelay_13 :
    (fun (s : State) (c : CellIn) (dt : Nat) => (s.live) ∧ (c.link < 2) ∧ (s.dev.get (Reg.EML.LINK_STAT.STATE c.link) ≠ 2) ∧ (s.dev.linkUp c.link = false)) (State.reset) { link := 0, src := 5, dst := 128, hops := 0, seq := 1, corr := 0, payload := List.replicate 20 0 } 10 := by decide +kernel

theorem witness_RingTimeAndDelay_14 :
    (fun (s : State) (c : CellIn) (dt : Nat) => (s.live) ∧ (s.dev.hearsAll 0x10 c)) (st [(Reg.HDR.STATE (pg .EMR 0), 2), (Reg.HDR.ENABLE (pg .EMR 0), 1), (Reg.EML.LINK_STAT.STATE 0, 3), (Reg.EMR.ADDR.ADDR, 2), (Reg.EMR.ROLE_STAT.MGR_VALID, 1), (Reg.EMR.ROLE_STAT.MANAGER, 5), (Reg.EMR.ROLE_STAT.EPOCH, 0)]) { link := 0, src := 5, dst := 128, hops := 0, seq := 1, corr := 0, payload := List.replicate 20 0 } 100 := by decide +kernel

theorem witness_RingTimeAndDelay_15 :
    (fun (s : State) (c : CellIn) (dt : Nat) => (s.live) ∧ (s.dev.hearsAll 0x11 c)) (st [(Reg.HDR.STATE (pg .EMR 0), 2), (Reg.HDR.ENABLE (pg .EMR 0), 1), (Reg.EML.LINK_STAT.STATE 0, 3), (Reg.EMR.ADDR.ADDR, 2), (Reg.EMR.ROLE_STAT.MGR_VALID, 1), (Reg.EMR.ROLE_STAT.MANAGER, 5), (Reg.EMR.ROLE_STAT.EPOCH, 0)]) { link := 0, src := 5, dst := 128, hops := 0, seq := 1, corr := 0, payload := [9, 1, 0, 0, 0, 0, 0, 0, 0, 0] } 100 := by decide +kernel

theorem witness_RingTimeAndDelay_16 :
    (fun (s : State) (c : CellIn) (dt : Nat) => (s.live) ∧ (c.link < 2) ∧ (s.dev.get (Reg.EML.LINK_STAT.STATE c.link) = 2)) (st [(Reg.EML.LINK_STAT.STATE 0, 2)]) { link := 0, src := 5, dst := 128, hops := 0, seq := 1, corr := 0, payload := [69, 0, 0, 0, 0] } 100 := by decide +kernel

theorem witness_RingTimeAndDelay_17 :
    (fun (s : State) (c : CellIn) (dt k : Nat) (l : List Nat) => (s.live) ∧ (c.link < 2) ∧ (s.dev.get (Reg.EML.LINK_STAT.STATE c.link) = 2 ∨ s.dev.get (Reg.EML.LINK_STAT.STATE c.link) = 3) ∧ (((((s.dev.advance dt).time.ts : Int) - leAt c.payload 0 8 - leAt c.payload 16 4) / 2).toNat = k) ∧ ((k :: (s.dev.eml c.link).dlys).take 16 = l)) (st [(Reg.EML.LINK_STAT.STATE 0, 2)]) { link := 0, src := 5, dst := 128, hops := 0, seq := 1, corr := 0, payload := [69, 0, 0, 0, 0] } 100 ((((State.reset.dev.advance 100).time.ts : Int) - 69) / 2).toNat [((((State.reset.dev.advance 100).time.ts : Int) - 69) / 2).toNat] := by decide +kernel

theorem witness_RingManager_0 :
    (fun (s : State) (t : Nat) => (s.live) ∧ (s.dev.due .managerStart = some t) ∧ (s.dev.get Reg.EMR.CFG.ROLE = 2) ∧ (s.dev.ringRole ≠ 3)) (st [(Reg.EMR.CFG.ROLE, 2)] (·.arm .managerStart 7)) 7 := by decide +kernel

theorem witness_RingManager_1 :
    (fun (s : State) (c : CellIn) (dt : Nat) => (s.live) ∧ (s.dev.hearsAll 0x12 c) ∧ (s.dev.ringRole ≠ 2) ∧ (s.dev.following = some (c.src, leAt c.payload 0 2))) (st [(Reg.HDR.STATE (pg .EMR 0), 2), (Reg.HDR.ENABLE (pg .EMR 0), 1), (Reg.EML.LINK_STAT.STATE 0, 3), (Reg.EMR.ADDR.ADDR, 2), (Reg.EMR.ROLE_STAT.MGR_VALID, 1), (Reg.EMR.ROLE_STAT.MANAGER, 5), (Reg.EMR.ROLE_STAT.EPOCH, 0)]) { link := 0, src := 5, dst := 128, hops := 0, seq := 1, corr := 0, payload := [0, 0, 0, 0, 7, 0, 0, 0, 0, 36, 0, 0, 0, 0, 0, 0, 0, 2, 0, 0] } 100 := by decide +kernel

theorem witness_RingManager_2 :
    (fun (s : State) (t : Nat) => (s.live) ∧ (s.dev.due .hbLoss = some t) ∧ (s.dev.candidate? = true) ∧ (s.dev.ringRole ≠ 2) ∧ (s.dev.ringRole ≠ 3)) (st [(Reg.EMR.CFG.ROLE, 1)] (·.arm .hbLoss 7)) 7 := by decide +kernel

theorem witness_RingManager_3 :
    (fun (s : State) (c : CellIn) (dt : Nat) => (s.live) ∧ (s.dev.hearsAll 0x20 c) ∧ (s.dev.emr.claim.isSome = true) ∧ (s.dev.get Reg.EMR.CFG.PRIO < byteAt c.payload 2 ∨ (s.dev.get Reg.EMR.CFG.PRIO = byteAt c.payload 2 ∧ c.src < s.dev.ringAddr))) (st [(Reg.HDR.STATE (pg .EMR 0), 2), (Reg.HDR.ENABLE (pg .EMR 0), 1), (Reg.EML.LINK_STAT.STATE 0, 3), (Reg.EMR.ADDR.ADDR, 2)] fun d => { d with emr := { d.emr with claim := some 1 } }) { link := 0, src := 5, dst := 128, hops := 0, seq := 1, corr := 0, payload := [1, 0, 200] } 100 := by decide +kernel

theorem witness_RingManager_4 :
    (fun (s : State) (e t : Nat) => (s.live) ∧ (s.dev.due .claimWait = some t) ∧ (s.dev.emr.claim = some e)) (st [] fun d => { d with emr := { d.emr with claim := some 1 } }.arm .claimWait 7) 1 7 := by decide +kernel

theorem witness_RingManager_5 :
    (fun (s : State) (t : Nat) => (s.live) ∧ (s.dev.due .takeover = some t) ∧ (s.dev.ringRole = 1)) (st [(Reg.EMR.ROLE_STAT.ROLE, 1)] (·.arm .takeover 7)) 7 := by decide +kernel

theorem witness_RingManager_6 :
    (fun (s : State)  => (s.live) ∧ (s.dev.pageOff 0xA0 = false) ∧ (s.dev.ringRole = 2) ∧ (s.dev.is Reg.EMR.ROLE_STAT.STBY_VALID = true) ∧ ((s.dev.member (s.dev.get Reg.EMR.ROLE_STAT.STANDBY)).ready = true)) (st [(Reg.HDR.STATE 0xA0, 2), (Reg.EMR.ROLE_STAT.ROLE, 2), (Reg.EMR.ROLE_STAT.STBY_VALID, 1), (Reg.EMR.ROLE_STAT.STANDBY, 5)] fun d => (d.setMember 5 { Member.init with ready := true }).arm .heartbeat 7) := by decide +kernel

theorem witness_RingManager_7 :
    (fun (s : State)  => (s.live) ∧ (s.dev.pageOff 0xA0 = false) ∧ (s.dev.ringRole ≠ 2 ∨ s.dev.is Reg.EMR.ROLE_STAT.STBY_VALID = false ∨ (s.dev.member (s.dev.get Reg.EMR.ROLE_STAT.STANDBY)).ready = false)) (st [(Reg.HDR.STATE 0xA0, 2)]) := by decide +kernel

theorem witness_RingManager_8 :
    (fun (s : State) (t : Nat) => (s.live) ∧ (s.dev.due .managerStart = some t) ∧ (s.dev.get Reg.EMR.CFG.ROLE ≠ 2 ∨ s.dev.ringRole = 3)) (st [] (·.arm .managerStart 7)) 7 := by decide +kernel

theorem witness_RingManager_9 :
    (fun (s : State) (t : Nat) => (s.live) ∧ (s.dev.due .hbLoss = some t) ∧ (s.dev.candidate? = false ∨ s.dev.ringRole = 2 ∨ s.dev.ringRole = 3)) (st [] (·.arm .hbLoss 7)) 7 := by decide +kernel

theorem witness_RingManager_10 :
    (fun (s : State) (t : Nat) => (s.live) ∧ (s.dev.due .claimWait = some t) ∧ (s.dev.emr.claim = none)) (st [] (·.arm .claimWait 7)) 7 := by decide +kernel

theorem witness_RingManager_11 :
    (fun (s : State) (t : Nat) => (s.live) ∧ (s.dev.due .takeover = some t) ∧ (s.dev.ringRole ≠ 1)) (st [] (·.arm .takeover 7)) 7 := by decide +kernel

theorem witness_RingManager_12 :
    (fun (s : State) (c : CellIn) (dt : Nat) => (s.live) ∧ (s.dev.hearsAll 0x12 c)) (st [(Reg.HDR.STATE (pg .EMR 0), 2), (Reg.HDR.ENABLE (pg .EMR 0), 1), (Reg.EML.LINK_STAT.STATE 0, 3), (Reg.EMR.ADDR.ADDR, 2), (Reg.EMR.ROLE_STAT.MGR_VALID, 1), (Reg.EMR.ROLE_STAT.MANAGER, 5), (Reg.EMR.ROLE_STAT.EPOCH, 0)]) { link := 0, src := 5, dst := 128, hops := 0, seq := 1, corr := 0, payload := [0, 0, 0, 0, 7, 0, 0, 0, 0, 36, 0, 0, 0, 0, 0, 0, 0, 2, 0, 0] } 100 := by decide +kernel

theorem witness_RingManager_13 :
    (fun (s : State) (c : CellIn) (dt : Nat) => (s.live) ∧ (s.dev.hearsAll 0x20 c)) (st [(Reg.HDR.STATE (pg .EMR 0), 2), (Reg.HDR.ENABLE (pg .EMR 0), 1), (Reg.EML.LINK_STAT.STATE 0, 3), (Reg.EMR.ADDR.ADDR, 2)] fun d => { d with emr := { d.emr with claim := some 1 } }) { link := 0, src := 5, dst := 128, hops := 0, seq := 1, corr := 0, payload := [1, 0, 200] } 100 := by decide +kernel

theorem witness_RingManager_14 :
    (fun (s : State)  => (s.live) ∧ (s.dev.due .managerStart = none)) (State.reset) := by decide +kernel

theorem witness_RingManager_15 :
    (fun (s : State)  => (s.live) ∧ (s.dev.due .hbLoss = none)) (State.reset) := by decide +kernel

theorem witness_RingManager_16 :
    (fun (s : State)  => (s.live) ∧ (s.dev.due .claimWait = none)) (State.reset) := by decide +kernel

theorem witness_RingManager_17 :
    (fun (s : State)  => (s.live) ∧ (s.dev.due .takeover = none)) (State.reset) := by decide +kernel

theorem witness_RingManager_18 :
    (fun (s : State)  => (s.live) ∧ (s.dev.pageOff 0xA0 = true)) (st [(Reg.HDR.STATE 0xA0, 0)]) := by decide +kernel

theorem witness_RingMembers_0 :
    (fun (s : State) (c : CellIn) (dt : Nat) => (s.live) ∧ (s.dev.hearsAll 0x21 c)) (st [(Reg.HDR.STATE (pg .EMR 0), 2), (Reg.HDR.ENABLE (pg .EMR 0), 1), (Reg.EML.LINK_STAT.STATE 0, 3), (Reg.EMR.ADDR.ADDR, 2), (Reg.EMR.ROLE_STAT.ROLE, 2)]) { link := 0, src := 5, dst := 128, hops := 0, seq := 1, corr := 0, payload := [1, 9] } 100 := by decide +kernel

theorem witness_RingMembers_1 :
    (fun (s : State) (c : CellIn) (dt : Nat) => (s.live) ∧ (s.dev.hearsAll 0x22 c) ∧ (s.dev.ringRole = 2)) (st [(Reg.HDR.STATE (pg .EMR 0), 2), (Reg.HDR.ENABLE (pg .EMR 0), 1), (Reg.EML.LINK_STAT.STATE 0, 3), (Reg.EMR.ADDR.ADDR, 2), (Reg.EMR.ROLE_STAT.ROLE, 2)]) { link := 0, src := 5, dst := 128, hops := 0, seq := 1, corr := 0, payload := List.replicate 20 0 } 100 := by decide +kernel

theorem witness_RingMembers_2 :
    (fun (s : State)  => (s.live) ∧ (s.dev.emr.joined = true)) (st [] fun d => { d with emr := { d.emr with joined := true } }) := by decide +kernel

theorem witness_RingMembers_3 :
    (fun (s : State) (c : CellIn) (dt : Nat) => (s.live) ∧ (s.dev.hearsAll 0x23 c)) (st [(Reg.HDR.STATE (pg .EMR 0), 2), (Reg.HDR.ENABLE (pg .EMR 0), 1), (Reg.EML.LINK_STAT.STATE 0, 3), (Reg.EMR.ADDR.ADDR, 2), (Reg.EMR.ROLE_STAT.ROLE, 2)]) { link := 0, src := 5, dst := 128, hops := 0, seq := 1, corr := 0, payload := [0, 0, 1] } 100 := by decide +kernel

theorem witness_RingMembers_4 :
    (fun (s : State) (a t : Nat) => (s.live) ∧ (s.dev.due (.member a) = some t) ∧ (s.dev.ringRole = 2)) (st [(Reg.EMR.ROLE_STAT.ROLE, 2)] (·.arm (.member 5) 7)) 5 7 := by decide +kernel

theorem witness_RingMembers_5 :
    (fun (s : State) (t : Nat) => (s.live) ∧ (s.dev.due .censusWait = some t) ∧ (s.dev.ringRole = 2) ∧ (s.dev.get Reg.EMR.CFG.EXPECT = 0) ∧ (s.dev.is Reg.EMR.RING_STAT.CENSUS_DONE = false)) (st [(Reg.EMR.ROLE_STAT.ROLE, 2)] (·.arm .censusWait 7)) 7 := by decide +kernel

theorem witness_RingMembers_6 :
    (fun (s : State) (c : CellIn) (dt p : Nat) => (s.live) ∧ (s.dev.hearsAll 0x13 c) ∧ (s.dev.ringRole ≠ 2) ∧ (s.dev.following = some (c.src, leAt c.payload 18 2)) ∧ (s.dev.get Reg.TRG.SRC_SEL.SEL = 4) ∧ (s.dev.mode = 3) ∧ (p < 16) ∧ (s.dev.is (Reg.PRT.Q_CTRL.ENABLE p) = true) ∧ ((s.dev.plane p).edges.length < 8) ∧ ((s.dev.plane p).jobs = [])) (st [(Reg.HDR.STATE (pg .EMR 0), 2), (Reg.HDR.ENABLE (pg .EMR 0), 1), (Reg.EML.LINK_STAT.STATE 0, 3), (Reg.EMR.ADDR.ADDR, 2), (Reg.EMR.ROLE_STAT.MGR_VALID, 1), (Reg.EMR.ROLE_STAT.MANAGER, 5), (Reg.EMR.ROLE_STAT.EPOCH, 0), (Reg.TRG.SRC_SEL.SEL, 4), (Reg.SYS.MODE_STAT.MODE, 3), (Reg.PRT.Q_CTRL.ENABLE 1, 1)]) { link := 0, src := 5, dst := 128, hops := 0, seq := 1, corr := 0, payload := List.replicate 20 0 } 100 1 := by decide +kernel

theorem witness_RingMembers_7 :
    (fun (s : State)  => (s.live) ∧ (s.dev.emr.joined = false)) (State.reset) := by decide +kernel

theorem witness_RingMembers_8 :
    (fun (s : State) (t : Nat) => (s.live) ∧ (s.dev.due .censusWait = some t) ∧ (s.dev.ringRole ≠ 2 ∨ s.dev.get Reg.EMR.CFG.EXPECT ≠ 0 ∨ s.dev.is Reg.EMR.RING_STAT.CENSUS_DONE = true)) (st [] (·.arm .censusWait 7)) 7 := by decide +kernel

theorem witness_RingMembers_9 :
    (fun (s : State) (c : CellIn) (dt : Nat) => (s.live) ∧ (s.dev.hearsAll 0x21 c)) (st [(Reg.HDR.STATE (pg .EMR 0), 2), (Reg.HDR.ENABLE (pg .EMR 0), 1), (Reg.EML.LINK_STAT.STATE 0, 3), (Reg.EMR.ADDR.ADDR, 2), (Reg.EMR.ROLE_STAT.ROLE, 2)]) { link := 0, src := 5, dst := 128, hops := 0, seq := 1, corr := 0, payload := [1, 9] } 100 := by decide +kernel

theorem witness_RingMembers_10 :
    (fun (s : State) (c : CellIn) (dt : Nat) => (s.live) ∧ (s.dev.hearsAll 0x22 c)) (st [(Reg.HDR.STATE (pg .EMR 0), 2), (Reg.HDR.ENABLE (pg .EMR 0), 1), (Reg.EML.LINK_STAT.STATE 0, 3), (Reg.EMR.ADDR.ADDR, 2), (Reg.EMR.ROLE_STAT.ROLE, 2)]) { link := 0, src := 5, dst := 128, hops := 0, seq := 1, corr := 0, payload := List.replicate 20 0 } 100 := by decide +kernel

theorem witness_RingMembers_11 :
    (fun (s : State) (c : CellIn) (dt : Nat) => (s.live) ∧ (s.dev.hearsAll 0x23 c)) (st [(Reg.HDR.STATE (pg .EMR 0), 2), (Reg.HDR.ENABLE (pg .EMR 0), 1), (Reg.EML.LINK_STAT.STATE 0, 3), (Reg.EMR.ADDR.ADDR, 2), (Reg.EMR.ROLE_STAT.ROLE, 2)]) { link := 0, src := 5, dst := 128, hops := 0, seq := 1, corr := 0, payload := [0, 0, 1] } 100 := by decide +kernel

theorem witness_RingMembers_12 :
    (fun (s : State) (c : CellIn) (dt : Nat) => (s.live) ∧ (s.dev.hearsAll 0x13 c)) (st [(Reg.HDR.STATE (pg .EMR 0), 2), (Reg.HDR.ENABLE (pg .EMR 0), 1), (Reg.EML.LINK_STAT.STATE 0, 3), (Reg.EMR.ADDR.ADDR, 2), (Reg.EMR.ROLE_STAT.MGR_VALID, 1), (Reg.EMR.ROLE_STAT.MANAGER, 5), (Reg.EMR.ROLE_STAT.EPOCH, 0), (Reg.TRG.SRC_SEL.SEL, 4), (Reg.SYS.MODE_STAT.MODE, 3), (Reg.PRT.Q_CTRL.ENABLE 1, 1)]) { link := 0, src := 5, dst := 128, hops := 0, seq := 1, corr := 0, payload := List.replicate 20 0 } 100 := by decide +kernel

theorem witness_RingMembers_13 :
    (fun (s : State) (a t : Nat) => (s.live) ∧ (s.dev.due (.member a) = some t) ∧ (s.dev.ringRole = 2)) (st [(Reg.EMR.ROLE_STAT.ROLE, 2)] (·.arm (.member 5) 7)) 5 7 := by decide +kernel

theorem witness_RingMembers_14 :
    (fun (s : State) (a t : Nat) => (s.live) ∧ (s.dev.due (.member a) = some t) ∧ (s.dev.ringRole ≠ 2)) (st [] (·.arm (.member 5) 7)) 5 7 := by decide +kernel

theorem witness_RingMembers_15 :
    (fun (s : State) (a : Nat) => (s.live) ∧ (s.dev.due (.member a) = none)) (State.reset) 5 := by decide +kernel

theorem witness_RingMembers_16 :
    (fun (s : State)  => (s.live) ∧ (s.dev.due .censusWait = none)) (State.reset) := by decide +kernel

theorem witness_RingCommands_0 :
    (fun (s : State) (c : CellIn) (dt : Nat) => (s.live) ∧ (s.dev.hearsOwn c) ∧ (s.dev.ringRole = 2)) (st [(Reg.HDR.STATE (pg .EMR 0), 2), (Reg.HDR.ENABLE (pg .EMR 0), 1), (Reg.EML.LINK_STAT.STATE 0, 3), (Reg.EMR.ADDR.ADDR, 2), (Reg.EMR.ROLE_STAT.ROLE, 2)]) { link := 0, src := 5, dst := 2, hops := 0, seq := 1, corr := 0, payload := List.replicate 20 0 } 100 := by decide +kernel

theorem witness_RingCommands_1 :
    (fun (s : State) (c : CellIn) (dt : Nat) => (s.live) ∧ (s.dev.hearsOwn c) ∧ (s.dev.is Reg.EMR.CFG.REMOTE_EN = true) ∧ (leAt c.payload 2 4 % 4 = 0) ∧ (leAt c.payload 2 4 < 2 ^ 22)) (st [(Reg.HDR.STATE (pg .EMR 0), 2), (Reg.HDR.ENABLE (pg .EMR 0), 1), (Reg.EML.LINK_STAT.STATE 0, 3), (Reg.EMR.ADDR.ADDR, 2), (Reg.EMR.CFG.REMOTE_EN, 1)]) { link := 0, src := 5, dst := 2, hops := 0, seq := 1, corr := 0, payload := [2, 1, 0, 20, 0, 0] } 100 := by decide +kernel

theorem witness_RingCommands_2 :
    (fun (s : State) (c : CellIn) (dt : Nat) => (s.live) ∧ (s.dev.hearsOwn c) ∧ (s.dev.is Reg.EMR.CFG.REMOTE_EN = true) ∧ (leAt c.payload 2 4 % 4 = 0) ∧ (leAt c.payload 2 4 < 2 ^ 22)) (st [(Reg.HDR.STATE (pg .EMR 0), 2), (Reg.HDR.ENABLE (pg .EMR 0), 1), (Reg.EML.LINK_STAT.STATE 0, 3), (Reg.EMR.ADDR.ADDR, 2), (Reg.EMR.CFG.REMOTE_EN, 1)]) { link := 0, src := 5, dst := 2, hops := 0, seq := 1, corr := 0, payload := [3, 1, 0, 20, 0, 0, 5, 0, 0, 0] } 100 := by decide +kernel

theorem witness_RingCommands_3 :
    (fun (s : State) (c : CellIn) (dt : Nat) => (s.live) ∧ (s.dev.hearsOwn c)) (st [(Reg.HDR.STATE (pg .EMR 0), 2), (Reg.HDR.ENABLE (pg .EMR 0), 1), (Reg.EML.LINK_STAT.STATE 0, 3), (Reg.EMR.ADDR.ADDR, 2)] fun d => { d with emr := { d.emr with rxBulk := [(5, [1])] } }) { link := 0, src := 5, dst := 2, hops := 0, seq := 1, corr := 0, payload := List.replicate 20 0 } 100 := by decide +kernel

theorem witness_RingCommands_4 :
    (fun (s : State) (c : CellIn) (dt : Nat) (q : RingCmd) => (s.live) ∧ (s.dev.hearsOwn c) ∧ (s.dev.emr.cmds.find? (fun q => q.tag == byteAt c.payload 0 && q.dest == c.src % 64) = some q) ∧ (q.bulk = false) ∧ (byteAt q.cell 8 = 2)) (st [(Reg.HDR.STATE (pg .EMR 0), 2), (Reg.HDR.ENABLE (pg .EMR 0), 1), (Reg.EML.LINK_STAT.STATE 0, 3), (Reg.EMR.ADDR.ADDR, 2)] fun d => { d with emr := { d.emr with cmds := [testCmd] } }) { link := 0, src := 5, dst := 2, hops := 0, seq := 1, corr := 0, payload := [7, 0] } 100 testCmd := by decide +kernel

theorem witness_RingCommands_5 :
    (fun (s : State) (q : RingCmd) (rest : List RingCmd) => (s.live) ∧ (s.dev.emr.cmds = q :: rest) ∧ (q.again = false)) (st [] fun d => { d with emr := { d.emr with cmds := [testCmd] } }) testCmd [] := by decide +kernel

theorem witness_RingCommands_6 :
    (fun (s : State) (dst : Nat) (write : Bool) => (s.live) ∧ (s.dev.pageOff 0xA0 = false) ∧ (dst < 64) ∧ (s.dev.is Reg.EMR.RCMD_STAT.BUSY = false)) (st [(Reg.HDR.STATE 0xA0, 2), (Reg.HDR.ENABLE 0xA0, 1), (Reg.EML.LINK_STAT.STATE 0, 3)]) 5 true := by decide +kernel

theorem witness_RingCommands_7 :
    (fun (s : State) (dst : Nat) => (s.live) ∧ (s.dev.pageOff 0xA0 = false) ∧ (dst < 64) ∧ (s.dev.is Reg.EMR.BULK_STAT.BUSY = false) ∧ (s.dev.basinFails (s.dev.addr Reg.EMR.BULK_SRC.ADDR) (16 * (s.dev.get Reg.EMR.BULK_LEN.LEN / 16)) = false)) (st [(Reg.HDR.STATE 0xA0, 2), (Reg.HDR.ENABLE 0xA0, 1), (Reg.EML.LINK_STAT.STATE 0, 3), (Reg.HDR.STATE (pg .BAS 0), 2), (Reg.SYS.BRINGUP.BASIN_READY, 1), (Reg.EMR.BULK_LEN.LEN, 16)]) 5 := by decide +kernel

theorem witness_RingCommands_8 :
    (fun (s : State) (c : CellIn) (dt : Nat) => (s.live) ∧ (s.dev.hearsOwn c) ∧ (s.dev.is Reg.EMR.CFG.BULK_RX_EN = true) ∧ (leAt c.payload 0 4 + 16 ≤ s.dev.bulkWindow) ∧ (s.dev.basinUp = true) ∧ (s.dev.mem.ue = [])) (st [(Reg.HDR.STATE (pg .EMR 0), 2), (Reg.HDR.ENABLE (pg .EMR 0), 1), (Reg.EML.LINK_STAT.STATE 0, 3), (Reg.EMR.ADDR.ADDR, 2), (Reg.EMR.CFG.BULK_RX_EN, 1), (Reg.HDR.STATE (pg .BAS 0), 2), (Reg.SYS.BRINGUP.BASIN_READY, 1), (Reg.EMR.BULK_WIN_SIZE.LOG2, 12)]) { link := 0, src := 5, dst := 2, hops := 0, seq := 1, corr := 0, payload := [0, 0, 0, 0, 9, 9, 9] } 100 := by decide +kernel

theorem witness_RingCommands_9 :
    (fun (s : State) (c : CellIn) (dt : Nat) => (s.live) ∧ (s.dev.hearsAll 0x30 c)) (st [(Reg.HDR.STATE (pg .EMR 0), 2), (Reg.HDR.ENABLE (pg .EMR 0), 1), (Reg.EML.LINK_STAT.STATE 0, 3), (Reg.EMR.ADDR.ADDR, 2)]) { link := 0, src := 5, dst := 128, hops := 0, seq := 1, corr := 0, payload := [2, 9, 1, 0] } 100 := by decide +kernel

theorem witness_RingCommands_10 :
    (fun (s : State) (c : CellIn) (dt : Nat) => (s.live) ∧ (s.dev.hearsAll 0x31 c)) (st [(Reg.HDR.STATE (pg .EMR 0), 2), (Reg.HDR.ENABLE (pg .EMR 0), 1), (Reg.EML.LINK_STAT.STATE 0, 3), (Reg.EMR.ADDR.ADDR, 2)]) { link := 0, src := 5, dst := 128, hops := 0, seq := 1, corr := 0, payload := [2] } 100 := by decide +kernel

theorem witness_RingCommands_11 :
    (fun (s : State) (c : CellIn) (dt : Nat) => (s.live) ∧ (s.dev.hearsOwn c) ∧ (s.dev.is Reg.EMR.CFG.REMOTE_EN = false)) (st [(Reg.HDR.STATE (pg .EMR 0), 2), (Reg.HDR.ENABLE (pg .EMR 0), 1), (Reg.EML.LINK_STAT.STATE 0, 3), (Reg.EMR.ADDR.ADDR, 2), (Reg.EMR.CFG.REMOTE_EN, 0)]) { link := 0, src := 5, dst := 2, hops := 0, seq := 1, corr := 0, payload := [2, 1, 0, 20, 0, 0] } 100 := by decide +kernel

theorem witness_RingCommands_12 :
    (fun (s : State) (c : CellIn) (dt : Nat) => (s.live) ∧ (s.dev.hearsOwn c) ∧ (s.dev.is Reg.EMR.CFG.REMOTE_EN = true) ∧ (leAt c.payload 2 4 % 4 ≠ 0 ∨ 2 ^ 22 ≤ leAt c.payload 2 4)) (st [(Reg.HDR.STATE (pg .EMR 0), 2), (Reg.HDR.ENABLE (pg .EMR 0), 1), (Reg.EML.LINK_STAT.STATE 0, 3), (Reg.EMR.ADDR.ADDR, 2), (Reg.EMR.CFG.REMOTE_EN, 1)]) { link := 0, src := 5, dst := 2, hops := 0, seq := 1, corr := 0, payload := [7, 1, 1] ++ List.replicate 17 0 } 10 := by decide +kernel

theorem witness_RingCommands_13 :
    (fun (s : State) (c : CellIn) (dt : Nat) => (s.live) ∧ (s.dev.hearsOwn c) ∧ (s.dev.is Reg.EMR.CFG.REMOTE_EN = false)) (st [(Reg.HDR.STATE (pg .EMR 0), 2), (Reg.HDR.ENABLE (pg .EMR 0), 1), (Reg.EML.LINK_STAT.STATE 0, 3), (Reg.EMR.ADDR.ADDR, 2), (Reg.EMR.CFG.REMOTE_EN, 0)]) { link := 0, src := 5, dst := 2, hops := 0, seq := 1, corr := 0, payload := [3, 1, 0, 20, 0, 0, 5, 0, 0, 0] } 100 := by decide +kernel

theorem witness_RingCommands_14 :
    (fun (s : State) (c : CellIn) (dt : Nat) => (s.live) ∧ (s.dev.hearsOwn c) ∧ (s.dev.is Reg.EMR.CFG.REMOTE_EN = true) ∧ (leAt c.payload 2 4 % 4 ≠ 0 ∨ 2 ^ 22 ≤ leAt c.payload 2 4)) (st [(Reg.HDR.STATE (pg .EMR 0), 2), (Reg.HDR.ENABLE (pg .EMR 0), 1), (Reg.EML.LINK_STAT.STATE 0, 3), (Reg.EMR.ADDR.ADDR, 2), (Reg.EMR.CFG.REMOTE_EN, 1)]) { link := 0, src := 5, dst := 2, hops := 0, seq := 1, corr := 0, payload := [7, 1, 1] ++ List.replicate 17 0 } 10 := by decide +kernel

theorem witness_RingCommands_15 :
    (fun (s : State) (q : RingCmd) (rest : List RingCmd) => (s.live) ∧ (s.dev.emr.cmds = q :: rest) ∧ (q.again = true)) (WCAT) { testCmd with again := true } [] := by decide +kernel

theorem witness_RingCommands_16 :
    (fun (s : State)  => (s.live) ∧ (s.dev.emr.cmds = [])) (State.reset) := by decide +kernel

theorem witness_RingCommands_17 :
    (fun (s : State) (dst : Nat) (write : Bool) => (s.live) ∧ (s.dev.pageOff 0xA0 = false) ∧ (dst < 64) ∧ (s.dev.is Reg.EMR.RCMD_STAT.BUSY = true)) (st [(Reg.HDR.STATE 0xA0, 2), (Reg.EMR.RCMD_STAT.BUSY, 1)]) 3 true := by decide +kernel

theorem witness_RingCommands_18 :
    (fun (s : State) (dst : Nat) => (s.live) ∧ (s.dev.pageOff 0xA0 = false) ∧ (dst < 64) ∧ (s.dev.is Reg.EMR.BULK_STAT.BUSY = true)) (st [(Reg.HDR.STATE 0xA0, 2), (Reg.EMR.BULK_STAT.BUSY, 1)]) 3 := by decide +kernel

theorem witness_RingCommands_19 :
    (fun (s : State) (dst : Nat) => (s.live) ∧ (s.dev.pageOff 0xA0 = false) ∧ (dst < 64) ∧ (s.dev.is Reg.EMR.BULK_STAT.BUSY = false) ∧ (s.dev.basinUp = false)) (st [(Reg.HDR.STATE 0xA0, 2)]) 3 := by decide +kernel

theorem witness_RingCommands_20 :
    (fun (s : State) (c : CellIn) (dt : Nat) => (s.live) ∧ (s.dev.hearsOwn c) ∧ (s.dev.ringRole ≠ 2)) (st [(Reg.HDR.STATE (pg .EMR 0), 2), (Reg.HDR.ENABLE (pg .EMR 0), 1), (Reg.EML.LINK_STAT.STATE 0, 3), (Reg.EMR.ADDR.ADDR, 2)] fun d => { d with emr := { d.emr with rxBulk := [(5, [1])] } }) { link := 0, src := 5, dst := 2, hops := 0, seq := 1, corr := 0, payload := List.replicate 20 0 } 100 := by decide +kernel

theorem witness_RingCommands_21 :
    (fun (s : State) (c : CellIn) (dt : Nat) => (s.live) ∧ (s.dev.hearsOwn c)) (st [(Reg.HDR.STATE (pg .EMR 0), 2), (Reg.HDR.ENABLE (pg .EMR 0), 1), (Reg.EML.LINK_STAT.STATE 0, 3), (Reg.EMR.ADDR.ADDR, 2), (Reg.EMR.ROLE_STAT.ROLE, 2)]) { link := 0, src := 5, dst := 2, hops := 0, seq := 1, corr := 0, payload := List.replicate 20 0 } 100 := by decide +kernel

theorem witness_RingCommands_22 :
    (fun (s : State) (c : CellIn) (dt : Nat) => (s.live) ∧ (s.dev.hearsOwn c)) (st [(Reg.HDR.STATE (pg .EMR 0), 2), (Reg.HDR.ENABLE (pg .EMR 0), 1), (Reg.EML.LINK_STAT.STATE 0, 3), (Reg.EMR.ADDR.ADDR, 2)] fun d => { d with emr := { d.emr with rxBulk := [(5, [1])] } }) { link := 0, src := 5, dst := 2, hops := 0, seq := 1, corr := 0, payload := List.replicate 20 0 } 100 := by decide +kernel

theorem witness_RingCommands_23 :
    (fun (s : State) (c : CellIn) (dt : Nat) => (s.live) ∧ (s.dev.hearsOwn c)) (st [(Reg.HDR.STATE (pg .EMR 0), 2), (Reg.HDR.ENABLE (pg .EMR 0), 1), (Reg.EML.LINK_STAT.STATE 0, 3), (Reg.EMR.ADDR.ADDR, 2)] fun d => { d with emr := { d.emr with cmds := [testCmd] } }) { link := 0, src := 5, dst := 2, hops := 0, seq := 1, corr := 0, payload := [7, 0] } 100 := by decide +kernel

theorem witness_RingCommands_24 :
    (fun (s : State) (c : CellIn) (dt : Nat) => (s.live) ∧ (s.dev.hearsOwn c)) (st [(Reg.HDR.STATE (pg .EMR 0), 2), (Reg.HDR.ENABLE (pg .EMR 0), 1), (Reg.EML.LINK_STAT.STATE 0, 3), (Reg.EMR.ADDR.ADDR, 2), (Reg.EMR.CFG.BULK_RX_EN, 1), (Reg.HDR.STATE (pg .BAS 0), 2), (Reg.SYS.BRINGUP.BASIN_READY, 1), (Reg.EMR.BULK_WIN_SIZE.LOG2, 12)]) { link := 0, src := 5, dst := 2, hops := 0, seq := 1, corr := 0, payload := [0, 0, 0, 0, 9, 9, 9] } 100 := by decide +kernel

theorem witness_RingCommands_25 :
    (fun (s : State) (c : CellIn) (dt : Nat) => (s.live) ∧ (s.dev.hearsAll 0x30 c)) (st [(Reg.HDR.STATE (pg .EMR 0), 2), (Reg.HDR.ENABLE (pg .EMR 0), 1), (Reg.EML.LINK_STAT.STATE 0, 3), (Reg.EMR.ADDR.ADDR, 2)]) { link := 0, src := 5, dst := 128, hops := 0, seq := 1, corr := 0, payload := [2, 9, 1, 0] } 100 := by decide +kernel

theorem witness_RingCommands_26 :
    (fun (s : State) (c : CellIn) (dt : Nat) => (s.live) ∧ (s.dev.hearsAll 0x31 c)) (st [(Reg.HDR.STATE (pg .EMR 0), 2), (Reg.HDR.ENABLE (pg .EMR 0), 1), (Reg.EML.LINK_STAT.STATE 0, 3), (Reg.EMR.ADDR.ADDR, 2)]) { link := 0, src := 5, dst := 128, hops := 0, seq := 1, corr := 0, payload := [2] } 100 := by decide +kernel

theorem witness_RingCommands_27 :
    (fun (s : State) (w : Bool) (n : Nat) => (s.live) ∧ (s.dev.pageOff 0xA0 = true)) (st [(Reg.HDR.STATE 0xA0, 0)]) true 3 := by decide +kernel

theorem witness_RingCommands_28 :
    (fun (s : State) (dst n : Nat) (d0 : Dev) => (s.live) ∧ (s.dev.pageOff 0xA0 = false) ∧ (dst < 64) ∧ (s.dev.is Reg.EMR.BULK_STAT.BUSY = false) ∧ (s.dev.get Reg.EMR.BULK_LEN.LEN / 16 = n) ∧ ((s.dev.set Reg.EMR.BULK_CMD.DEST dst).basinLoad 2 0x33 (s.dev.addr Reg.EMR.BULK_SRC.ADDR) (16 * n) 0 = d0) ∧ (d0.basinFails (d0.addr Reg.EMR.BULK_SRC.ADDR) (16 * n) = true)) (st [(Reg.HDR.STATE 0xA0, 2)]) 3 0 ((st [(Reg.HDR.STATE 0xA0, 2)]).dev.set Reg.EMR.BULK_CMD.DEST 3 |>.basinLoad 2 0x33 ((st [(Reg.HDR.STATE 0xA0, 2)]).dev.addr Reg.EMR.BULK_SRC.ADDR) 0 0) := by decide +kernel

theorem witness_RingCommands_29 :
    (fun (s : State) (dst n : Nat) (d0 : Dev) (data : Bytes) => (s.live) ∧ (s.dev.pageOff 0xA0 = false) ∧ (dst < 64) ∧ (s.dev.is Reg.EMR.BULK_STAT.BUSY = false) ∧ (s.dev.get Reg.EMR.BULK_LEN.LEN / 16 = n) ∧ ((s.dev.set Reg.EMR.BULK_CMD.DEST dst).basinLoad 2 0x33 (s.dev.addr Reg.EMR.BULK_SRC.ADDR) (16 * n) 0 = d0) ∧ (d0.basinFails (d0.addr Reg.EMR.BULK_SRC.ADDR) (16 * n) = false) ∧ (d0.basinRead (s.dev.addr Reg.EMR.BULK_SRC.ADDR) (16 * n) = data)) (WBG) 5 1 WBGd (WBGd.basinRead (WBG.dev.addr Reg.EMR.BULK_SRC.ADDR) 16) := by decide +kernel

theorem witness_Jobs_0 :
    (fun (s : State) (p : Nat) (descBad dirBad : Bool) (bs : Bytes) (d1 d2 d3 : Dev) (j : Job) => (s.live) ∧ (s.dev.queueRuns p = true) ∧ ((s.dev.plane p).take ≠ s.dev.get (Reg.PRT.Q_TAIL.INDEX p)) ∧ (((s.dev.plane p).jobs.filter fun k => k.ending.isNone).length < s.dev.window + 1) ∧ (s.dev.basinLoad 1 0xFF (s.dev.descAddr p (s.dev.plane p).take) 64 (if descBad then 2 else 0) = d1) ∧ (d1.basinRead (d1.descAddr p (s.dev.plane p).take) 64 = bs) ∧ ((if d1.basinFails (d1.descAddr p (s.dev.plane p).take) 64 = true then d1 else d1.basinLoad 1 0xFF (leAt bs 32 8) 64 (if dirBad then 2 else 0)) = d2) ∧ ((if d1.basinFails (d1.descAddr p (s.dev.plane p).take) 64 = true ∨ descOk bs d2.mode = false then some 3
      else if d2.basinFails (leAt bs 32 8) 64 = true ∨ dirOk (d2.basinRead (leAt bs 32 8) 64) (leAt bs 20 4) (leAt bs 16 4) = false then some 4
      else if d1.portsOf p = [] then some 7 else none) = none) ∧ (startPos p (s.dev.plane p).jobs (mkJob d2.prt.jobSeq (s.dev.plane p).take bs (parseDir (d2.basinRead (leAt bs 32 8) 64)) (d1.portsOf p)) { d2 with prt := { d2.prt with jobSeq := d2.prt.jobSeq + 1 } } = (j, d3))) (WJ0) 0 false false testDesc WJ1 WJ2 WJ3.2 WJ3.1 := by decide +kernel

theorem witness_Jobs_1 :
    (fun (s : State) (p : Nat) (descBad dirBad : Bool) (bs : Bytes) (d1 d2 : Dev) (c : Nat) => (s.live) ∧ (s.dev.queueRuns p = true) ∧ ((s.dev.plane p).take ≠ s.dev.get (Reg.PRT.Q_TAIL.INDEX p)) ∧ (((s.dev.plane p).jobs.filter fun k => k.ending.isNone).length < s.dev.window + 1) ∧ (s.dev.basinLoad 1 0xFF (s.dev.descAddr p (s.dev.plane p).take) 64 (if descBad then 2 else 0) = d1) ∧ (d1.basinRead (d1.descAddr p (s.dev.plane p).take) 64 = bs) ∧ ((if d1.basinFails (d1.descAddr p (s.dev.plane p).take) 64 = true then d1 else d1.basinLoad 1 0xFF (leAt bs 32 8) 64 (if dirBad then 2 else 0)) = d2) ∧ ((if d1.basinFails (d1.descAddr p (s.dev.plane p).take) 64 = true ∨ descOk bs d2.mode = false then some 3
      else if d2.basinFails (leAt bs 32 8) 64 = true ∨ dirOk (d2.basinRead (leAt bs 32 8) 64) (leAt bs 20 4) (leAt bs 16 4) = false then some 4
      else if d1.portsOf p = [] then some 7 else none) = some c) ∧ ((s.dev.plane p).jobs = [])) (WJ0) 0 true false ((WJ0.dev.basinLoad 1 0xFF 0 64 2).basinRead 0 64) (WJ0.dev.basinLoad 1 0xFF 0 64 2) (WJ0.dev.basinLoad 1 0xFF 0 64 2) 3 := by
  refine ⟨?_, ?_, ?_, ?_, ?_, ?_, ?_, ?_, ?_⟩ <;> first | exact rfl | decide +kernel

theorem witness_Jobs_2 :
    (fun (s : State) (p : Nat) (descBad dirBad : Bool) (bs : Bytes) (d1 d2 : Dev) (c : Nat) => (s.live) ∧ (s.dev.queueRuns p = true) ∧ ((s.dev.plane p).take ≠ s.dev.get (Reg.PRT.Q_TAIL.INDEX p)) ∧ (((s.dev.plane p).jobs.filter fun k => k.ending.isNone).length < s.dev.window + 1) ∧ (s.dev.basinLoad 1 0xFF (s.dev.descAddr p (s.dev.plane p).take) 64 (if descBad then 2 else 0) = d1) ∧ (d1.basinRead (d1.descAddr p (s.dev.plane p).take) 64 = bs) ∧ ((if d1.basinFails (d1.descAddr p (s.dev.plane p).take) 64 = true then d1 else d1.basinLoad 1 0xFF (leAt bs 32 8) 64 (if dirBad then 2 else 0)) = d2) ∧ ((if d1.basinFails (d1.descAddr p (s.dev.plane p).take) 64 = true ∨ descOk bs d2.mode = false then some 3
      else if d2.basinFails (leAt bs 32 8) 64 = true ∨ dirOk (d2.basinRead (leAt bs 32 8) 64) (leAt bs 20 4) (leAt bs 16 4) = false then some 4
      else if d1.portsOf p = [] then some 7 else none) = some c) ∧ ((s.dev.plane p).jobs ≠ [])) (WJ0r) 0 false false testDesc (WJ0r.dev.basinLoad 1 0xFF 0 64 0) ((WJ0r.dev.basinLoad 1 0xFF 0 64 0).basinLoad 1 0xFF 64 64 0) 4 := by
  refine ⟨?_, ?_, ?_, ?_, ?_, ?_, ?_, ?_, ?_⟩ <;> first | exact rfl | decide +kernel

theorem witness_Jobs_3 :
    (fun (s : State) (p : Nat) (descBad dirBad : Bool) => (s.live) ∧ (s.dev.queueRuns p = false ∨ (s.dev.plane p).take = s.dev.get (Reg.PRT.Q_TAIL.INDEX p) ∨ s.dev.window + 1 ≤ ((s.dev.plane p).jobs.filter fun k => k.ending.isNone).length)) (State.reset) 0 false false := by decide +kernel

theorem witness_Cycles_0 :
    (fun (s : State) (n t g : Nat) (lines : List RowLine) (tp : Int) (d1 d2 : Dev) => (s.live) ∧ ((s.dev.port n).sched = some t) ∧ (s.dev.nextCycle n = some (g, lines)) ∧ (s.dev.trigPos n g lines = some tp) ∧ (s.dev.advanceTo t = d1) ∧ (d1.is Reg.TRG.STAT.PAUSED = false) ∧ (d1.dirOf lines * (tp - d1.trg.pe) < d1.clampW) ∧ (d1.enabled (pg .TRG 0) = true) ∧ (d1.setPort n { s.dev.port n with issued := true } = d2)) (st [(Reg.HDR.ENABLE 0x102, 1), (Reg.HDR.STATE 0x102, 2), (Reg.HPT.LINK_STAT.STATE 2, 6), (Reg.SYS.MODE_STAT.MODE, 2), (Reg.SYS.BRINGUP.BASIN_READY, 1), (Reg.HDR.STATE (pg .BAS 0), 2), (Reg.PRT.Q_CTRL.ENABLE 0, 1), (Reg.SYS.BRINGUP.PRINT_ARMED, 1), (Reg.SYS.BRINGUP.HEAD_POWER_ARMED, 1)] (jobbed { PortFire.init with built := some lineCycle, sched := some 5, issued := false })) 2 5 0 lineCycle.lines (((st [(Reg.HDR.ENABLE 0x102, 1), (Reg.HDR.STATE 0x102, 2), (Reg.HPT.LINK_STAT.STATE 2, 6), (Reg.SYS.MODE_STAT.MODE, 2), (Reg.SYS.BRINGUP.BASIN_READY, 1), (Reg.HDR.STATE (pg .BAS 0), 2), (Reg.PRT.Q_CTRL.ENABLE 0, 1), (Reg.SYS.BRINGUP.PRINT_ARMED, 1), (Reg.SYS.BRINGUP.HEAD_POWER_ARMED, 1)] (jobbed { PortFire.init with built := some lineCycle, sched := some 5, issued := false })).dev.trigPos 2 0 lineCycle.lines).getD 0) ((st [(Reg.HDR.ENABLE 0x102, 1), (Reg.HDR.STATE 0x102, 2), (Reg.HPT.LINK_STAT.STATE 2, 6), (Reg.SYS.MODE_STAT.MODE, 2), (Reg.SYS.BRINGUP.BASIN_READY, 1), (Reg.HDR.STATE (pg .BAS 0), 2), (Reg.PRT.Q_CTRL.ENABLE 0, 1), (Reg.SYS.BRINGUP.PRINT_ARMED, 1), (Reg.SYS.BRINGUP.HEAD_POWER_ARMED, 1)] (jobbed { PortFire.init with built := some lineCycle, sched := some 5, issued := false })).dev.advanceTo 5) (((st [(Reg.HDR.ENABLE 0x102, 1), (Reg.HDR.STATE 0x102, 2), (Reg.HPT.LINK_STAT.STATE 2, 6), (Reg.SYS.MODE_STAT.MODE, 2), (Reg.SYS.BRINGUP.BASIN_READY, 1), (Reg.HDR.STATE (pg .BAS 0), 2), (Reg.PRT.Q_CTRL.ENABLE 0, 1), (Reg.SYS.BRINGUP.PRINT_ARMED, 1), (Reg.SYS.BRINGUP.HEAD_POWER_ARMED, 1)] (jobbed { PortFire.init with built := some lineCycle, sched := some 5, issued := false })).dev.advanceTo 5).setPort 2 { (st [(Reg.HDR.ENABLE 0x102, 1), (Reg.HDR.STATE 0x102, 2), (Reg.HPT.LINK_STAT.STATE 2, 6), (Reg.SYS.MODE_STAT.MODE, 2), (Reg.SYS.BRINGUP.BASIN_READY, 1), (Reg.HDR.STATE (pg .BAS 0), 2), (Reg.PRT.Q_CTRL.ENABLE 0, 1), (Reg.SYS.BRINGUP.PRINT_ARMED, 1), (Reg.SYS.BRINGUP.HEAD_POWER_ARMED, 1)] (jobbed { PortFire.init with built := some lineCycle, sched := some 5, issued := false })).dev.port 2 with issued := true }) := by decide +kernel

theorem witness_Cycles_1 :
    (fun (s : State) (n t g : Nat) (lines : List RowLine) (tp : Int) (d1 : Dev) => (s.live) ∧ ((s.dev.port n).sched = some t) ∧ (s.dev.nextCycle n = some (g, lines)) ∧ (s.dev.trigPos n g lines = some tp) ∧ (s.dev.advanceTo t = d1) ∧ (d1.is Reg.TRG.STAT.PAUSED = true ∨ d1.clampW ≤ d1.dirOf lines * (tp - d1.trg.pe) ∨ d1.enabled (pg .TRG 0) = false)) (st [(Reg.HDR.ENABLE 0x102, 1), (Reg.HDR.STATE 0x102, 2), (Reg.HPT.LINK_STAT.STATE 2, 6), (Reg.SYS.MODE_STAT.MODE, 2), (Reg.SYS.BRINGUP.BASIN_READY, 1), (Reg.HDR.STATE (pg .BAS 0), 2), (Reg.PRT.Q_CTRL.ENABLE 0, 1), (Reg.SYS.BRINGUP.PRINT_ARMED, 1), (Reg.SYS.BRINGUP.HEAD_POWER_ARMED, 1), (Reg.TRG.STAT.PAUSED, 1)] (jobbed { PortFire.init with built := some lineCycle, sched := some 5, issued := false })) 2 5 0 lineCycle.lines (((st [(Reg.HDR.ENABLE 0x102, 1), (Reg.HDR.STATE 0x102, 2), (Reg.HPT.LINK_STAT.STATE 2, 6), (Reg.SYS.MODE_STAT.MODE, 2), (Reg.SYS.BRINGUP.BASIN_READY, 1), (Reg.HDR.STATE (pg .BAS 0), 2), (Reg.PRT.Q_CTRL.ENABLE 0, 1), (Reg.SYS.BRINGUP.PRINT_ARMED, 1), (Reg.SYS.BRINGUP.HEAD_POWER_ARMED, 1)] (jobbed { PortFire.init with built := some lineCycle, sched := some 5, issued := false })).dev.trigPos 2 0 lineCycle.lines).getD 0) ((st [(Reg.HDR.ENABLE 0x102, 1), (Reg.HDR.STATE 0x102, 2), (Reg.HPT.LINK_STAT.STATE 2, 6), (Reg.SYS.MODE_STAT.MODE, 2), (Reg.SYS.BRINGUP.BASIN_READY, 1), (Reg.HDR.STATE (pg .BAS 0), 2), (Reg.PRT.Q_CTRL.ENABLE 0, 1), (Reg.SYS.BRINGUP.PRINT_ARMED, 1), (Reg.SYS.BRINGUP.HEAD_POWER_ARMED, 1), (Reg.TRG.STAT.PAUSED, 1)] (jobbed { PortFire.init with built := some lineCycle, sched := some 5, issued := false })).dev.advanceTo 5) := by decide +kernel

theorem witness_Cycles_2 :
    (fun (s : State) (n : Nat) => (s.live) ∧ ((s.dev.port n).sched = none ∨ s.dev.nextCycle n = none ∨ (∃ x ∈ s.dev.nextCycle n, s.dev.trigPos n x.1 x.2 = none))) (State.reset) 2 := by decide +kernel

theorem witness_Cycles_3 :
    (fun (s : State) (n t0 t : Nat) (c : Cycle) (tp : Int) (d1 : Dev) => (s.live) ∧ ((s.dev.port n).built = some c) ∧ (c.group ≠ spitGroup) ∧ (s.dev.barred n = false) ∧ ((s.dev.port n).sched = some t0) ∧ (s.dev.trigPos n c.group c.lines = some tp) ∧ (s.dev.latTime n = some t) ∧ (s.dev.advanceTo t = d1)) (WLAT) 2 5 ((WLAT.dev.latTime 2).getD 0) { lineCycle with digestVoted := true } ((WLAT.dev.trigPos 2 0 lineCycle.lines).getD 0) (WLAT.dev.advanceTo ((WLAT.dev.latTime 2).getD 0)) := by decide +kernel

theorem witness_Cycles_4 :
    (fun (s : State) (n : Nat) (c : Cycle) => (s.live) ∧ ((s.dev.port n).built = some c) ∧ (c.group ≠ spitGroup) ∧ (s.dev.barred n = true)) (st [(Reg.HDR.ENABLE 0x102, 1), (Reg.HDR.STATE 0x102, 2), (Reg.HPT.LINK_STAT.STATE 2, 6), (Reg.SYS.MODE_STAT.MODE, 2), (Reg.SYS.BRINGUP.BASIN_READY, 1), (Reg.HDR.STATE (pg .BAS 0), 2), (Reg.PRT.Q_CTRL.ENABLE 0, 1), (Reg.SYS.BRINGUP.PRINT_ARMED, 1), (Reg.SYS.BRINGUP.HEAD_POWER_ARMED, 1)] (fun d => d.setPort 2 { PortFire.init with built := some lineCycle })) 2 lineCycle := by decide +kernel

theorem witness_Cycles_5 :
    (fun (s : State) (n : Nat) => (s.live) ∧ ((s.dev.port n).built = none ∨ ((∃ c ∈ (s.dev.port n).built, c.group ≠ spitGroup) ∧ s.dev.barred n = false ∧ s.dev.latTime n = none))) (st [(Reg.HDR.ENABLE 0x102, 1), (Reg.HDR.STATE 0x102, 2), (Reg.HPT.LINK_STAT.STATE 2, 6), (Reg.SYS.MODE_STAT.MODE, 2), (Reg.SYS.BRINGUP.BASIN_READY, 1), (Reg.HDR.STATE (pg .BAS 0), 2), (Reg.PRT.Q_CTRL.ENABLE 0, 1), (Reg.SYS.BRINGUP.PRINT_ARMED, 1), (Reg.SYS.BRINGUP.HEAD_POWER_ARMED, 1)] (jobbed { PortFire.init with built := some lineCycle, sched := some 5, issued := false })) 2 := by decide +kernel

theorem witness_Cycles_6 :
    (fun (s : State) (n : Nat) (c : Cycle) => (s.live) ∧ ((s.dev.port n).built = some c) ∧ (c.group = spitGroup)) (WSPIT) 2 { testCycle with segs := 0, frames := [], group := spitGroup, digestVoted := true } := by decide +kernel

theorem witness_Cycles_7 :
    (fun (s : State) (n : Nat) (f : Firing) (d1 d2 t : Dev) => (s.live) ∧ ((s.dev.port n).firing = some f) ∧ (f.done = false) ∧ (f.announced = false) ∧ (s.dev.headUp n = true) ∧ ((s.dev.advanceTo (f.t0 + clamp 240 320 (s.dev.get (Reg.HPT.LAT_FIRE.STEPS n)) + f.at_ * f.tSlot - 320)).mark n 1 = d1) ∧ (wearMark n (f.at_ / f.slots) (f.at_ % f.slots) (firePulses n f.waves d1) = d2) ∧ (windowFired n (f.at_ / f.slots) (f.at_ % f.slots) (scanFired n d2) = t)) (WSM 1) 2 (testFiring 1) (WD1 1) (WD2 1) (windowFired 2 0 1 (scanFired 2 (WD2 1))) := by decide +kernel

theorem witness_Cycles_8 :
    (fun (s : State) (n : Nat) (f : Firing) => (s.live) ∧ ((s.dev.port n).firing = some f) ∧ (f.done = false) ∧ (f.announced = true) ∧ (s.dev.headUp n = true)) (WSM 2) 2 (testFiring 2) := by decide +kernel

theorem witness_Cycles_9 :
    (fun (s : State) (n : Nat) => (s.live) ∧ ((∀ f ∈ (s.dev.port n).firing, f.done = true) ∨ s.dev.headUp n = false)) (State.reset) 2 := by decide +kernel

theorem witness_Cycles_10 :
    (fun (s : State) (n g : Nat) (lines : List RowLine) (tp : Int) => (s.live) ∧ (s.dev.nextCycle n = some (g, lines)) ∧ (s.dev.trigPos n g lines = some tp) ∧ (¬ (s.dev.is Reg.TRG.STAT.PAUSED = true ∨ s.dev.printing = false ∨ s.dev.unstarted n lines = true ∨ (s.dev.mode = 4 ∧ s.dev.hasIdleJob lines = true))) ∧ (s.dev.passedAtStart tp lines = true)) (WSKIP) 2 0 lineCycle.lines ((WSKIP.dev.trigPos 2 0 lineCycle.lines).getD 0) := by decide +kernel

theorem witness_Cycles_11 :
    (fun (s : State) (n g : Nat) (lines : List RowLine) (tp : Int) (t : Nat) => (s.live) ∧ (s.dev.nextCycle n = some (g, lines)) ∧ (s.dev.trigPos n g lines = some tp) ∧ (¬ (s.dev.is Reg.TRG.STAT.PAUSED = true ∨ s.dev.printing = false ∨ s.dev.unstarted n lines = true ∨ (s.dev.mode = 4 ∧ s.dev.hasIdleJob lines = true))) ∧ (s.dev.passedAtStart tp lines = false) ∧ (s.dev.canFire n = false) ∧ (s.dev.passes tp = some t)) (WSKP2) 2 0 lineCycle.lines ((WSKP2.dev.trigPos 2 0 lineCycle.lines).getD 0) WSKP2.dev.trg.te := by decide +kernel

theorem witness_Cycles_12 :
    (fun (s : State) (n g : Nat) (lines : List RowLine) (tp : Int) (t t0 : Nat) (d1 : Dev) => (s.live) ∧ (s.dev.nextCycle n = some (g, lines)) ∧ (s.dev.trigPos n g lines = some tp) ∧ (¬ (s.dev.is Reg.TRG.STAT.PAUSED = true ∨ s.dev.printing = false ∨ s.dev.unstarted n lines = true ∨ (s.dev.mode = 4 ∧ s.dev.hasIdleJob lines = true))) ∧ (s.dev.passedAtStart tp lines = false) ∧ (s.dev.canFire n = true) ∧ (s.dev.passes (s.dev.deadline tp) = some t) ∧ ((s.dev.port n).sched = some t0) ∧ (¬ ((s.dev.port n).issued = false ∨ (∃ l ∈ s.dev.latTime n, l ≤ max t t0))) ∧ (s.dev.advanceTo (max t t0) = d1) ∧ ((∃ c ∈ (d1.port n).built, c.failed = true))) (WSKP3 true) 2 0 lineCycle.lines (((WSKP3 true).dev.trigPos 2 0 lineCycle.lines).getD 0) (WSKP3 true).dev.trg.te 5 ((WSKP3 true).dev.advanceTo 5) := by decide +kernel

theorem witness_Cycles_13 :
    (fun (s : State) (n g : Nat) (lines : List RowLine) (tp : Int) (t t0 : Nat) (d1 d2 d3 d4 : Dev) => (s.live) ∧ (s.dev.nextCycle n = some (g, lines)) ∧ (s.dev.trigPos n g lines = some tp) ∧ (¬ (s.dev.is Reg.TRG.STAT.PAUSED = true ∨ s.dev.printing = false ∨ s.dev.unstarted n lines = true ∨ (s.dev.mode = 4 ∧ s.dev.hasIdleJob lines = true))) ∧ (s.dev.passedAtStart tp lines = false) ∧ (s.dev.canFire n = true) ∧ (s.dev.passes (s.dev.deadline tp) = some t) ∧ ((s.dev.port n).sched = some t0) ∧ (¬ ((s.dev.port n).issued = false ∨ (∃ l ∈ s.dev.latTime n, l ≤ max t t0))) ∧ (s.dev.advanceTo (max t t0) = d1) ∧ (¬ (∃ c ∈ (d1.port n).built, c.failed = true)) ∧ ((if d1.windowFull lines = true then (d1.raise 0 Kind.TRG.OVERSPEED { port := n }).raise 0 Kind.PRT.JOB_WINDOW { port := n } else d1.raise 0 Kind.TRG.OVERSPEED { port := n }) = d2) ∧ ((if d1.notReady n = true ∧ (d1.hasIdleJob lines = false ∨ d1.windowOpen lines = true) then (pipeCount n 6 1 d2).raise 0 Kind.MSK.LINE_NOT_READY { port := n } else d2) = d3) ∧ ((if d3.running .slowdown = true then { d3 with trg := { d3.trg with skipping := true } } else askSlowdown n d3) = d4)) (WSKP3 false) 2 0 lineCycle.lines (((WSKP3 false).dev.trigPos 2 0 lineCycle.lines).getD 0) (WSKP3 false).dev.trg.te 5 ((WSKP3 false).dev.advanceTo 5) WK2 WK3 (if WK3.running .slowdown = true then { WK3 with trg := { WK3.trg with skipping := true } } else askSlowdown 2 WK3) := by decide +kernel

theorem witness_Cycles_14 :
    (fun (s : State) (n g : Nat) (lines : List RowLine) (tp : Int) => (s.live) ∧ (s.dev.nextCycle n = some (g, lines)) ∧ (s.dev.trigPos n g lines = some tp) ∧ ((s.dev.is Reg.TRG.STAT.PAUSED = true ∨ s.dev.printing = false ∨ s.dev.unstarted n lines = true ∨ (s.dev.mode = 4 ∧ s.dev.hasIdleJob lines = true)) ∨ (s.dev.passedAtStart tp lines = false ∧ s.dev.canFire n = false ∧ s.dev.passes tp = none) ∨
      (s.dev.passedAtStart tp lines = false ∧ s.dev.canFire n = true ∧
        (s.dev.passes (s.dev.deadline tp) = none ∨ (s.dev.port n).sched = none ∨
          (∃ t ∈ s.dev.passes (s.dev.deadline tp), ∃ t0 ∈ (s.dev.port n).sched, ((s.dev.port n).issued = false ∨ (∃ l ∈ s.dev.latTime n, l ≤ max t t0))))))) (st [(Reg.HDR.ENABLE 0x102, 1), (Reg.HDR.STATE 0x102, 2), (Reg.HPT.LINK_STAT.STATE 2, 6), (Reg.SYS.MODE_STAT.MODE, 2), (Reg.SYS.BRINGUP.BASIN_READY, 1), (Reg.HDR.STATE (pg .BAS 0), 2), (Reg.PRT.Q_CTRL.ENABLE 0, 1), (Reg.SYS.BRINGUP.PRINT_ARMED, 1), (Reg.SYS.BRINGUP.HEAD_POWER_ARMED, 1), (Reg.TRG.STAT.PAUSED, 1)] (jobbed { PortFire.init with built := some lineCycle, sched := some 5, issued := false })) 2 0 lineCycle.lines (((st [(Reg.HDR.ENABLE 0x102, 1), (Reg.HDR.STATE 0x102, 2), (Reg.HPT.LINK_STAT.STATE 2, 6), (Reg.SYS.MODE_STAT.MODE, 2), (Reg.SYS.BRINGUP.BASIN_READY, 1), (Reg.HDR.STATE (pg .BAS 0), 2), (Reg.PRT.Q_CTRL.ENABLE 0, 1), (Reg.SYS.BRINGUP.PRINT_ARMED, 1), (Reg.SYS.BRINGUP.HEAD_POWER_ARMED, 1)] (jobbed { PortFire.init with built := some lineCycle, sched := some 5, issued := false })).dev.trigPos 2 0 lineCycle.lines).getD 0) := by decide +kernel

theorem witness_Cycles_15 :
    (fun (s : State) (n : Nat) => (s.live) ∧ (s.dev.nextCycle n = none ∨ (∃ x ∈ s.dev.nextCycle n, s.dev.trigPos n x.1 x.2 = none))) (State.reset) 2 := by decide +kernel

theorem witness_Cycles_16 :
    (fun (s : State) (n g : Nat) (lines : List RowLine) (d0 d1 : Dev) => (s.live) ∧ ((s.dev.port n).built = none) ∧ (s.dev.printing = true) ∧ (s.dev.canFire n = true) ∧ (s.dev.pickCycle n = some (g, lines)) ∧ (s.dev.windowOpen lines = true) ∧ ((s.dev.classesInUse n).foldl (fun d k => slewStep n d k) s.dev = d0) ∧ (lines.foldl (lineStarted n) d0 = d1)) (WBUILD) 2 0 lineCycle.lines ((WBUILD.dev.classesInUse 2).foldl (fun d k => slewStep 2 d k) WBUILD.dev) (lineCycle.lines.foldl (lineStarted 2) ((WBUILD.dev.classesInUse 2).foldl (fun d k => slewStep 2 d k) WBUILD.dev)) := by decide +kernel

theorem witness_Cycles_17 :
    (fun (s : State) (n : Nat) => (s.live) ∧ ((s.dev.port n).built.isSome = true ∨ s.dev.printing = false ∨ s.dev.canFire n = false ∨ s.dev.pickCycle n = none ∨ (∃ x ∈ s.dev.pickCycle n, s.dev.windowOpen x.2 = false))) (State.reset) 2 := by decide +kernel

theorem witness_TilesAndMasks_0 :
    (fun (s : State) (n tc entry : Nat) (poisoned : Bool) (l : Layout) (e : Prefetch) (rest : List (Nat × Nat)) (d1 : Dev) => (s.live) ∧ ((s.dev.pipe n).layout = some l) ∧ (s.dev.laneEntry n = some e) ∧ (s.dev.runs (pg .DCM n) = true) ∧ ((s.dev.pipe n).lane.fetched = none) ∧ (e.cols = (tc, entry) :: rest) ∧ (entryBad entry = false) ∧ (entryBlank entry = false) ∧ (s.dev.basinLoad 0 (laneMaster n) (entryAddr entry) (entryLen entry) (if poisoned then 2 else 0) = d1) ∧ ((d1.basinFails (entryAddr entry) (entryLen entry)) = false)) (WTF (33 * 2 ^ 46 + 2) none) 2 0 (33 * 2 ^ 46 + 2) false testLayout testFetch [] ((WTF (33 * 2 ^ 46 + 2) none).dev.basinLoad 0 (laneMaster 2) 32 33 0) := by decide +kernel

theorem witness_TilesAndMasks_1 :
    (fun (s : State) (n tc entry : Nat) (poisoned : Bool) (l : Layout) (e : Prefetch) (rest : List (Nat × Nat)) => (s.live) ∧ ((s.dev.pipe n).layout = some l) ∧ (s.dev.laneEntry n = some e) ∧ (s.dev.runs (pg .DCM n) = true) ∧ ((s.dev.pipe n).lane.fetched = none) ∧ (e.cols = (tc, entry) :: rest) ∧ (entryBad entry = true)) (WTF (2 ^ 63) none) 2 0 (2 ^ 63) false testLayout { testFetch with cols := [(0, 2 ^ 63)] } [] := by decide +kernel

theorem witness_TilesAndMasks_2 :
    (fun (s : State) (n tc entry : Nat) (poisoned : Bool) (l : Layout) (e : Prefetch) (rest : List (Nat × Nat)) => (s.live) ∧ ((s.dev.pipe n).layout = some l) ∧ (s.dev.laneEntry n = some e) ∧ (s.dev.runs (pg .DCM n) = true) ∧ ((s.dev.pipe n).lane.fetched = none) ∧ (e.cols = (tc, entry) :: rest) ∧ (entryBad entry = false) ∧ (entryBlank entry = true)) (WTF (2 ^ 62) none) 2 0 (2 ^ 62) false testLayout { testFetch with cols := [(0, 2 ^ 62)] } [] := by decide +kernel

theorem witness_TilesAndMasks_3 :
    (fun (s : State) (n tc entry : Nat) (poisoned : Bool) (l : Layout) (e : Prefetch) (rest : List (Nat × Nat)) (d1 : Dev) => (s.live) ∧ ((s.dev.pipe n).layout = some l) ∧ (s.dev.laneEntry n = some e) ∧ (s.dev.runs (pg .DCM n) = true) ∧ ((s.dev.pipe n).lane.fetched = none) ∧ (e.cols = (tc, entry) :: rest) ∧ (entryBad entry = false) ∧ (entryBlank entry = false) ∧ (s.dev.basinLoad 0 (laneMaster n) (entryAddr entry) (entryLen entry) (if poisoned then 2 else 0) = d1) ∧ ((d1.basinFails (entryAddr entry) (entryLen entry)) = true)) (WTF (33 * 2 ^ 46 + 2) none) 2 0 (33 * 2 ^ 46 + 2) true testLayout testFetch [] ((WTF (33 * 2 ^ 46 + 2) none).dev.basinLoad 0 (laneMaster 2) 32 33 2) := by
  refine ⟨?_, ?_, ?_, ?_, ?_, ?_, ?_, ?_, ?_, ?_⟩ <;> first | exact rfl | decide +kernel

theorem witness_TilesAndMasks_4 :
    (fun (s : State) (n : Nat) (poisoned : Bool) (l : Layout) (e : Prefetch) => (s.live) ∧ ((s.dev.pipe n).layout = some l) ∧ (s.dev.laneEntry n = some e) ∧ (s.dev.runs (pg .DCM n) = true) ∧ ((s.dev.pipe n).lane.fetched = none) ∧ (e.cols = [])) (WTFE) 2 false testLayout { testFetch with cols := [] } := by decide +kernel

theorem witness_TilesAndMasks_5 :
    (fun (s : State) (n : Nat) (poisoned : Bool) => (s.live) ∧ ((s.dev.pipe n).layout = none ∨ s.dev.laneEntry n = none ∨ s.dev.runs (pg .DCM n) = false ∨ (s.dev.pipe n).lane.fetched.isSome = true)) (State.reset) 2 false := by decide +kernel

theorem witness_TilesAndMasks_6 :
    (fun (s : State) (n tc entry : Nat) (l : Layout) (e : Prefetch) (rest : List (Nat × Nat)) (block : Bytes) (tile : Bytes) => (s.live) ∧ ((s.dev.pipe n).layout = some l) ∧ ((s.dev.pipe n).lane.fetched = some (e, block)) ∧ (e.cols = (tc, entry) :: rest) ∧ (decodeBlock true ((s.dev.answer (pg .DCM n)).is (Reg.DCM.CFG.CRC_CHECK n)) (entryLen entry) block = .ok tile)) (WTD) 2 0 (32784 * 2 ^ 46 + 2) testLayout { testFetch with cols := [(0, 32784 * 2 ^ 46 + 2)] } [] testBlock (List.replicate 32768 0) := by
  have hc : (WTD.dev.answer (pg .DCM 2)).is (Reg.DCM.CFG.CRC_CHECK 2) = false := by decide +kernel
  have hl : entryLen (32784 * 2 ^ 46 + 2) = 32784 := by decide +kernel
  refine ⟨rfl, by rfl, by rfl, rfl, ?_⟩
  simp only [hc, hl]
  exact testBlock_decodes

theorem witness_TilesAndMasks_7 :
    (fun (s : State) (n tc entry : Nat) (l : Layout) (e : Prefetch) (rest : List (Nat × Nat)) (block : Bytes) (k : Nat) => (s.live) ∧ ((s.dev.pipe n).layout = some l) ∧ ((s.dev.pipe n).lane.fetched = some (e, block)) ∧ (e.cols = (tc, entry) :: rest) ∧ (decodeBlock true ((s.dev.answer (pg .DCM n)).is (Reg.DCM.CFG.CRC_CHECK n)) (entryLen entry) block = .error k)) (WTDB) 2 0 (33 * 2 ^ 46 + 2) testLayout testFetch [] [] (match decodeBlock true true 33 [] with | .error c => c | .ok _ => 0) := by decide +kernel

theorem witness_TilesAndMasks_8 :
    (fun (s : State) (n tc entry : Nat) (l : Layout) (e : Prefetch) (rest : List (Nat × Nat)) (block : Bytes) => (s.live) ∧ ((s.dev.pipe n).layout = some l) ∧ ((s.dev.pipe n).lane.fetched = some (e, block)) ∧ (e.cols = (tc, entry) :: rest)) (WTDB) 2 0 (33 * 2 ^ 46 + 2) testLayout testFetch [] [] := by decide +kernel

theorem witness_TilesAndMasks_9 :
    (fun (s : State) (n : Nat) (bad : Bool) => (s.live) ∧ ((s.dev.pipe n).layout = none ∨ (∀ x ∈ (s.dev.pipe n).lane.fetched, x.1.cols = []))) (State.reset) 2 false := by decide +kernel

theorem witness_TilesAndMasks_10 :
    (fun (s : State) (n : Nat) (e : Prefetch) (d1 : Dev) => (s.live) ∧ (s.dev.laneEntry n = some e) ∧ (s.dev.slack n < 0) ∧ (e.late = false) ∧ (s.dev.setPipe n { s.dev.pipe n with lane := { (s.dev.pipe n).lane with list := (s.dev.pipe n).lane.list.map fun x => if x.same e = true then { x with late := true } else x, fetched := (s.dev.pipe n).lane.fetched.map fun x => (if x.1.same e = true then { x.1 with late := true } else x.1, x.2) } } = d1)) (WFL) 2 testFetch (WFL.dev.setPipe 2 { WFL.dev.pipe 2 with lane := { (WFL.dev.pipe 2).lane with list := [{ testFetch with late := true }] } }) := by decide +kernel

theorem witness_TilesAndMasks_11 :
    (fun (s : State) (n : Nat) => (s.live) ∧ ((∃ e ∈ s.dev.laneEntry n, 0 ≤ s.dev.slack n ∨ e.late = true))) (WTF (33 * 2 ^ 46 + 2) none) 2 := by decide +kernel

theorem witness_TilesAndMasks_12 :
    (fun (s : State) (n : Nat) => (s.live) ∧ (s.dev.laneEntry n = none)) (State.reset) 2 := by decide +kernel

theorem witness_TilesAndMasks_13 :
    (fun (s : State) (n : Nat) (g : Geom) (j : Job) => (s.live) ∧ (s.dev.geom n = some g) ∧ (((s.dev.plane g.plane).jobs.find? fun j => j.ports.contains n && j.ending.isNone && !(s.dev.liveMasks n).any fun m => m.job == j.seq) = some j) ∧ ((s.dev.liveMasks n).length < 4)) (st [(Reg.HDR.ENABLE 0x102, 1), (Reg.HDR.STATE 0x102, 2), (Reg.HPT.LINK_STAT.STATE 2, 6), (Reg.SYS.MODE_STAT.MODE, 2), (Reg.SYS.BRINGUP.BASIN_READY, 1), (Reg.HDR.STATE (pg .BAS 0), 2), (Reg.PRT.Q_CTRL.ENABLE 0, 1), (Reg.SYS.BRINGUP.PRINT_ARMED, 1), (Reg.SYS.BRINGUP.HEAD_POWER_ARMED, 1)] (jobbed PortFire.init)) 2 testGeom testJob := by decide +kernel

theorem witness_TilesAndMasks_14 :
    (fun (s : State) (n : Nat) => (s.live) ∧ ((∀ g ∈ s.dev.geom n, ((s.dev.plane g.plane).jobs.find? fun j => j.ports.contains n && j.ending.isNone && !(s.dev.liveMasks n).any fun m => m.job == j.seq) = none) ∨
      4 ≤ (s.dev.liveMasks n).length)) (State.reset) 2 := by decide +kernel

theorem witness_TilesAndMasks_15 :
    (fun (s : State) (n a p : Nat) (poisoned : Bool) (m : MaskBuf) (j : Job) (h : Bytes) (d2 : Dev) => (s.live) ∧ ((s.dev.pipe n).slice.masks.find? (fun m => !m.ready) = some m) ∧ (s.dev.findJob m.job = some (p, j)) ∧ (s.dev.enabled (pg .MSK 0) = true) ∧ (s.dev.maskAddr j.maskSet = a) ∧ ((s.dev.basinLoad 1 0xFF a 320 (if poisoned then 2 else 0)).basinLoad 1 0xFF (a + 0x1000 + n * 0x2000) 8192 0 = d2) ∧ (d2.basinRead a 320 = h) ∧ ((d2.basinFails a 320 = false ∧ d2.basinFails (a + 0x1000 + n * 0x2000) 8192 = false ∧ leAt h 0 4 = 0x4B534D50 ∧ byteAt h 4 = 1)) ∧ (bit (leAt h 8 8) n = true) ∧ (crc32c (d2.basinRead (a + 0x1000 + n * 0x2000) 8192) = leAt h (64 + 4 * n) 4)) (WMLC) 2 0 0 false testMask testJob (WMLC.dev.basinRead 0 320) ((WMLC.dev.basinLoad 1 0xFF 0 320 0).basinLoad 1 0xFF 0x5000 8192 0) := by
  have hr : WMLC.dev.basinRead 0 320 = MHB ++ List.replicate 244 0 := MHB_read
  have hd : ((WMLC.dev.basinLoad 1 0xFF 0 320 0).basinLoad 1 0xFF 0x5000 8192 0).basinRead 0 320 = MHB ++ List.replicate 244 0 :=
    MHB_read
  have hz : ((WMLC.dev.basinLoad 1 0xFF 0 320 0).basinLoad 1 0xFF 0x5000 8192 0).basinRead 0x5000 8192 = List.replicate 8192 0 :=
    read_behind MHB 0x5000 8192 (by decide +kernel)
  refine ⟨rfl, by decide +kernel, by decide +kernel, by decide +kernel, by decide +kernel, rfl, hd.trans hr.symm, ⟨by decide +kernel, by decide +kernel, ?_, ?_⟩, ?_, ?_⟩
  · rw [hr]; decide +kernel
  · rw [hr]; decide +kernel
  · rw [hr]; decide +kernel
  · rw [hr]
    exact (congrArg crc32c hz).trans MHB_crc.symm

theorem witness_TilesAndMasks_16 :
    (fun (s : State) (n a p : Nat) (poisoned : Bool) (m : MaskBuf) (j : Job) (h : Bytes) (d2 : Dev) => (s.live) ∧ ((s.dev.pipe n).slice.masks.find? (fun m => !m.ready) = some m) ∧ (s.dev.findJob m.job = some (p, j)) ∧ (s.dev.enabled (pg .MSK 0) = true) ∧ (s.dev.maskAddr j.maskSet = a) ∧ ((s.dev.basinLoad 1 0xFF a 320 (if poisoned then 2 else 0)).basinLoad 1 0xFF (a + 0x1000 + n * 0x2000) 8192 0 = d2) ∧ (d2.basinRead a 320 = h) ∧ ((d2.basinFails a 320 = false ∧ d2.basinFails (a + 0x1000 + n * 0x2000) 8192 = false ∧ leAt h 0 4 = 0x4B534D50 ∧ byteAt h 4 = 1)) ∧ (bit (leAt h 8 8) n = false)) (WML) 2 0 0 false testMask testJob (WML.dev.basinRead 0 320) ((WML.dev.basinLoad 1 0xFF 0 320 0).basinLoad 1 0xFF 0x5000 8192 0) := by decide +kernel

theorem witness_TilesAndMasks_17 :
    (fun (s : State) (n a p : Nat) (poisoned : Bool) (m : MaskBuf) (j : Job) (h : Bytes) (d2 : Dev) => (s.live) ∧ ((s.dev.pipe n).slice.masks.find? (fun m => !m.ready) = some m) ∧ (s.dev.findJob m.job = some (p, j)) ∧ (s.dev.enabled (pg .MSK 0) = true) ∧ (s.dev.maskAddr j.maskSet = a) ∧ ((s.dev.basinLoad 1 0xFF a 320 (if poisoned then 2 else 0)).basinLoad 1 0xFF (a + 0x1000 + n * 0x2000) 8192 0 = d2) ∧ (d2.basinRead a 320 = h) ∧ (¬ (d2.basinFails a 320 = false ∧ d2.basinFails (a + 0x1000 + n * 0x2000) 8192 = false ∧ leAt h 0 4 = 0x4B534D50 ∧ byteAt h 4 = 1) ∨ (bit (leAt h 8 8) n = true ∧ ¬ crc32c (d2.basinRead (a + 0x1000 + n * 0x2000) 8192) = leAt h (64 + 4 * n) 4))) (WMLZ) 2 0 0 false testMask testJob (WMLZ.dev.basinRead 0 320) ((WMLZ.dev.basinLoad 1 0xFF 0 320 0).basinLoad 1 0xFF 0x5000 8192 0) := by
  refine ⟨by decide +kernel, by decide +kernel, by decide +kernel, by decide +kernel, by decide +kernel, rfl, by decide +kernel, by decide +kernel⟩

theorem witness_TilesAndMasks_18 :
    (fun (s : State) (n p : Nat) (poisoned : Bool) (m : MaskBuf) (j : Job) => (s.live) ∧ ((s.dev.pipe n).slice.masks.find? (fun m => !m.ready) = some m) ∧ (s.dev.findJob m.job = some (p, j)) ∧ (s.dev.enabled (pg .MSK 0) = false)) (st [(Reg.HDR.ENABLE (pg .MSK 0), 0)] fun d => (jobbed PortFire.init d).setPipe 2 { testPipe with slice := { testPipe.slice with masks := [testMask] } }) 2 0 false testMask testJob := by decide +kernel

theorem witness_TilesAndMasks_19 :
    (fun (s : State) (n : Nat) (poisoned : Bool) (m : MaskBuf) => (s.live) ∧ ((s.dev.pipe n).slice.masks.find? (fun m => !m.ready) = some m) ∧ (s.dev.findJob m.job = none)) (st [] fun d => d.setPipe 2 { testPipe with slice := { testPipe.slice with masks := [testMask] } }) 2 false testMask := by decide +kernel

theorem witness_TilesAndMasks_20 :
    (fun (s : State) (n : Nat) (poisoned : Bool) => (s.live) ∧ ((s.dev.pipe n).slice.masks.find? (fun m => !m.ready) = none)) (State.reset) 2 false := by decide +kernel

theorem witness_Memories_0 :
    (fun (s : State) (master cls addr len err late : Nat) (w : Bool) (data : Bytes) => (s.live) ∧ (basinSize < addr + (if w then data.length else len) ∨ s.dev.basinUp = false)) (st [(Reg.SYS.BRINGUP.BASIN_READY, 1), (Reg.HDR.STATE (pg .BAS 0), 2), (Reg.HDR.STATE (pg .SHL 0), 2), (Reg.HDR.STATE (pg .TRN 0), 2)]) 0 1 (2 ^ 40) 0 0 0 true [1] := by decide +kernel

theorem witness_Memories_1 :
    (fun (s : State) (master cls addr len err late : Nat) (w : Bool) (data : Bytes) => (s.live) ∧ (addr + (if w then data.length else len) ≤ basinSize) ∧ (s.dev.basinUp = true) ∧ (cls = 5) ∧ (s.dev.is Reg.BAS.STAT.THROTTLED = true)) (st [(Reg.SYS.BRINGUP.BASIN_READY, 1), (Reg.HDR.STATE (pg .BAS 0), 2), (Reg.HDR.STATE (pg .SHL 0), 2), (Reg.HDR.STATE (pg .TRN 0), 2), (Reg.BAS.STAT.THROTTLED, 1)]) 3 5 0 0 0 0 true [1] := by decide +kernel

theorem witness_Memories_2 :
    (fun (s : State) (master cls addr len err late : Nat) (w : Bool) (data : Bytes) (r : Nat × Bytes) => (s.live) ∧ (addr + (if w then data.length else len) ≤ basinSize) ∧ (s.dev.basinUp = true) ∧ (cls = 5) ∧ (w = true) ∧ (s.dev.is Reg.BAS.STAT.THROTTLED = false) ∧ (s.dev.mem.tel.held = some r)) (st [(Reg.SYS.BRINGUP.BASIN_READY, 1), (Reg.HDR.STATE (pg .BAS 0), 2), (Reg.HDR.STATE (pg .SHL 0), 2), (Reg.HDR.STATE (pg .TRN 0), 2)] fun d => { d with mem := { d.mem with tel := { d.mem.tel with held := some (0, [5]) } } }) 3 5 0 0 0 2 true [1] (0, [5]) := by decide +kernel

theorem witness_Memories_3 :
    (fun (s : State) (master cls addr len err late : Nat) (w : Bool) (data : Bytes) => (s.live) ∧ (addr + (if w then data.length else len) ≤ basinSize) ∧ (s.dev.basinUp = true) ∧ (cls = 4) ∧ (w = true) ∧ (s.dev.is Reg.BAS.STAT.THROTTLED = true)) (st [(Reg.SYS.BRINGUP.BASIN_READY, 1), (Reg.HDR.STATE (pg .BAS 0), 2), (Reg.HDR.STATE (pg .SHL 0), 2), (Reg.HDR.STATE (pg .TRN 0), 2), (Reg.BAS.STAT.THROTTLED, 1)]) 3 4 0 0 0 0 true [1] := by decide +kernel

theorem witness_Memories_4 :
    (fun (s : State) (master cls addr len err late : Nat) (w : Bool) (data : Bytes) => (s.live) ∧ (addr + (if w then data.length else len) ≤ basinSize) ∧ (s.dev.basinUp = true) ∧ (w = true) ∧ (¬ (cls = 5 ∧ s.dev.is Reg.BAS.STAT.THROTTLED = true)) ∧ (¬ (cls = 5 ∧ w = true ∧ s.dev.mem.tel.held.isSome = true)) ∧ (¬ (cls = 4 ∧ w = true ∧ s.dev.is Reg.BAS.STAT.THROTTLED = true))) (st [(Reg.SYS.BRINGUP.BASIN_READY, 1), (Reg.HDR.STATE (pg .BAS 0), 2), (Reg.HDR.STATE (pg .SHL 0), 2), (Reg.HDR.STATE (pg .TRN 0), 2)]) 0x22 1 30 0 1 3 true [1, 2, 3] := by decide +kernel

theorem witness_Memories_5 :
    (fun (s : State) (master cls addr : Nat) (data : Bytes) => (s.live) ∧ (addr + data.length ≤ basinSize) ∧ (s.dev.basinUp = true) ∧ (cls < 4)) (st [(Reg.SYS.BRINGUP.BASIN_READY, 1), (Reg.HDR.STATE (pg .BAS 0), 2), (Reg.HDR.STATE (pg .SHL 0), 2), (Reg.HDR.STATE (pg .TRN 0), 2)]) 3 1 30 [1, 2, 3] := by decide +kernel

theorem witness_Memories_6 :
    (fun (s : State) (master cls addr len err late : Nat) (w : Bool) (data : Bytes) (d1 : Dev) => (s.live) ∧ (addr + (if w then data.length else len) ≤ basinSize) ∧ (s.dev.basinUp = true) ∧ (w = false) ∧ (¬ (cls = 5 ∧ s.dev.is Reg.BAS.STAT.THROTTLED = true)) ∧ ((delayed master late s.dev).basinLoad cls master addr len err = d1)) (st [(Reg.SYS.BRINGUP.BASIN_READY, 1), (Reg.HDR.STATE (pg .BAS 0), 2), (Reg.HDR.STATE (pg .SHL 0), 2), (Reg.HDR.STATE (pg .TRN 0), 2)] fun d => { d with basin := [⟨31, 7⟩] }) 3 1 30 4 0 0 false [] ((st [(Reg.SYS.BRINGUP.BASIN_READY, 1), (Reg.HDR.STATE (pg .BAS 0), 2), (Reg.HDR.STATE (pg .SHL 0), 2), (Reg.HDR.STATE (pg .TRN 0), 2)] fun d => { d with basin := [⟨31, 7⟩] }).dev.basinLoad 1 3 30 4 0) := by decide +kernel

theorem witness_Memories_7 :
    (fun (s : State) (x : Nat) (rest : List Nat) (bad : Bool) (d1 : Dev) => (s.live) ∧ (s.dev.mem.ce = x :: rest) ∧ (({ s.dev with mem := { s.dev.mem with ce := rest } } : Dev) = d1)) (st [(Reg.SYS.BRINGUP.BASIN_READY, 1), (Reg.HDR.STATE (pg .BAS 0), 2), (Reg.HDR.STATE (pg .SHL 0), 2), (Reg.HDR.STATE (pg .TRN 0), 2)] fun d => { d with mem := { d.mem with ce := [4] } }) 4 [] true (st [(Reg.SYS.BRINGUP.BASIN_READY, 1), (Reg.HDR.STATE (pg .BAS 0), 2), (Reg.HDR.STATE (pg .SHL 0), 2), (Reg.HDR.STATE (pg .TRN 0), 2)]).dev := by decide +kernel

theorem witness_Memories_8 :
    (fun (s : State) (bad : Bool) => (s.live) ∧ (s.dev.mem.ce = [])) (State.reset) false := by decide +kernel

theorem witness_Memories_9 :
    (fun (s : State) (master a len err : Nat) (w : Bool) (data : Bytes) => (s.live) ∧ (2 ^ 25 < a + (if w then data.length else len) ∨ s.dev.inRun (pg .SHL 0) = false)) (st [(Reg.SYS.BRINGUP.BASIN_READY, 1), (Reg.HDR.STATE (pg .BAS 0), 2), (Reg.HDR.STATE (pg .SHL 0), 2), (Reg.HDR.STATE (pg .TRN 0), 2)]) 0 (2 ^ 26) 0 0 true [1, 2] := by decide +kernel

theorem witness_Memories_10 :
    (fun (s : State) (master a len err : Nat) (w : Bool) (data : Bytes) => (s.live) ∧ (a + (if w then data.length else len) ≤ 2 ^ 25) ∧ (s.dev.inRun (pg .SHL 0) = true) ∧ (w = true)) (st [(Reg.SYS.BRINGUP.BASIN_READY, 1), (Reg.HDR.STATE (pg .BAS 0), 2), (Reg.HDR.STATE (pg .SHL 0), 2), (Reg.HDR.STATE (pg .TRN 0), 2)]) 0 64 0 0 true [1, 2] := by decide +kernel

theorem witness_Memories_11 :
    (fun (s : State) (master a len err : Nat) (w : Bool) (data : Bytes) (d1 : Dev) => (s.live) ∧ (a + (if w then data.length else len) ≤ 2 ^ 25) ∧ (s.dev.inRun (pg .SHL 0) = true) ∧ (w = false) ∧ (shallowsStrike master (a / 8) err s.dev = d1)) (st [(Reg.SYS.BRINGUP.BASIN_READY, 1), (Reg.HDR.STATE (pg .BAS 0), 2), (Reg.HDR.STATE (pg .SHL 0), 2), (Reg.HDR.STATE (pg .TRN 0), 2)] fun d => { d with shallows := [⟨64, 9⟩] }) 0 64 2 2 false [] (shallowsStrike 0 8 2 (st [(Reg.SYS.BRINGUP.BASIN_READY, 1), (Reg.HDR.STATE (pg .BAS 0), 2), (Reg.HDR.STATE (pg .SHL 0), 2), (Reg.HDR.STATE (pg .TRN 0), 2)] fun d => { d with shallows := [⟨64, 9⟩] }).dev) := by
  refine ⟨?_, ?_, ?_, ?_, ?_⟩ <;> first | exact rfl | decide +kernel

theorem witness_Memories_12 :
    (fun (s : State)  => (s.live) ∧ (s.dev.inRun (pg .BAS 0) = true) ∧ (s.dev.lowSlack < (s.dev.get Reg.BAS.THROTTLE.SLACK_US : Nat))) (st [(Reg.SYS.BRINGUP.BASIN_READY, 1), (Reg.HDR.STATE (pg .BAS 0), 2), (Reg.HDR.STATE (pg .SHL 0), 2), (Reg.HDR.STATE (pg .TRN 0), 2), (Reg.BAS.THROTTLE.SLACK_US, 32768)]) := by decide +kernel

theorem witness_Memories_13 :
    (fun (s : State)  => (s.live) ∧ (s.dev.inRun (pg .BAS 0) = false ∨ (s.dev.get Reg.BAS.THROTTLE.SLACK_US : Nat) ≤ s.dev.lowSlack)) (State.reset) := by decide +kernel

theorem witness_Memories_14 :
    (fun (s : State) (ws : List Deferred) => (s.live) ∧ (s.dev.is Reg.BAS.STAT.THROTTLED = true) ∧ (5 * (s.dev.get Reg.BAS.THROTTLE.SLACK_US : Nat) ≤ 4 * s.dev.lowSlack) ∧ (s.dev.mem.wait = ws)) (st [(Reg.SYS.BRINGUP.BASIN_READY, 1), (Reg.HDR.STATE (pg .BAS 0), 2), (Reg.HDR.STATE (pg .SHL 0), 2), (Reg.HDR.STATE (pg .TRN 0), 2), (Reg.BAS.STAT.THROTTLED, 1)] fun d => { d with mem := { d.mem with wait := [{ since := 0, master := 3, addr := 64, data := [7] }] } }) [{ since := 0, master := 3, addr := 64, data := [7] }] := by decide +kernel

theorem witness_Memories_15 :
    (fun (s : State)  => (s.live) ∧ (s.dev.is Reg.BAS.STAT.THROTTLED = false ∨ 4 * s.dev.lowSlack < 5 * (s.dev.get Reg.BAS.THROTTLE.SLACK_US : Nat))) (State.reset) := by decide +kernel

theorem witness_Memories_16 :
    (fun (s : State)  => (s.live)) (st [(Reg.SYS.BRINGUP.BASIN_READY, 1), (Reg.HDR.STATE (pg .BAS 0), 2), (Reg.HDR.STATE (pg .SHL 0), 2), (Reg.HDR.STATE (pg .TRN 0), 2)] fun d => { d with mem := { d.mem with tel := { d.mem.tel with held := some (0, []) } } }) := by decide +kernel

theorem witness_Turnover_0 :
    (fun (s : State) (errs : List Nat) (d0 d1 : Dev) => (s.live) ∧ (s.dev.task Reg.TRN.TASK_EN.BSCRUB = true) ∧ (s.dev.basinUp = true) ∧ ((if s.dev.mem.scrubAt = 0 then ({ s.dev with mem := { s.dev.mem with scrubT := s.dev.time.up } }).arm .scrubB (s.dev.get Reg.TRN.SCRUB_B.PERIOD_S * sec) else s.dev) = d0) ∧ ((((((List.range 8).foldl (fun d i => strike (nth 0 errs i) (s.dev.mem.scrubAt + 32 * i) d) d0).served 4 256).badSectors s.dev.mem.scrubAt 256).foldl (ueFound 0xFF 1)
      (((List.range 8).foldl (fun d i => strike (nth 0 errs i) (s.dev.mem.scrubAt + 32 * i) d) d0).served 4 256)) = d1) ∧ (s.dev.mem.scrubAt + 256 ≠ basinSize)) (WSB 512) [0, 2] (WSB 512).dev (WSB1 512 [0, 2]) := by
  refine ⟨?_, ?_, ?_, ?_, ?_, ?_⟩ <;> first | exact rfl | decide +kernel

theorem witness_Turnover_1 :
    (fun (s : State) (errs : List Nat) (d0 d1 : Dev) => (s.live) ∧ (s.dev.task Reg.TRN.TASK_EN.BSCRUB = true) ∧ (s.dev.basinUp = true) ∧ ((if s.dev.mem.scrubAt = 0 then ({ s.dev with mem := { s.dev.mem with scrubT := s.dev.time.up } }).arm .scrubB (s.dev.get Reg.TRN.SCRUB_B.PERIOD_S * sec) else s.dev) = d0) ∧ ((((((List.range 8).foldl (fun d i => strike (nth 0 errs i) (s.dev.mem.scrubAt + 32 * i) d) d0).served 4 256).badSectors s.dev.mem.scrubAt 256).foldl (ueFound 0xFF 1)
      (((List.range 8).foldl (fun d i => strike (nth 0 errs i) (s.dev.mem.scrubAt + 32 * i) d) d0).served 4 256)) = d1) ∧ (s.dev.mem.scrubAt + 256 = basinSize)) (WSB (basinSize - 256)) [] (WSB (basinSize - 256)).dev (WSB1 (basinSize - 256) []) := by decide +kernel

theorem witness_Turnover_2 :
    (fun (s : State) (errs : List Nat) => (s.live) ∧ (s.dev.task Reg.TRN.TASK_EN.BSCRUB = false ∨ s.dev.basinUp = false)) (State.reset) [] := by decide +kernel

theorem witness_Turnover_3 :
    (fun (s : State) (t : Nat) => (s.live) ∧ (s.dev.due .scrubB = some t)) (st [] (·.arm .scrubB 9)) 9 := by decide +kernel

theorem witness_Turnover_4 :
    (fun (s : State)  => (s.live) ∧ (s.dev.due .scrubB = none)) (State.reset) := by decide +kernel

theorem witness_Turnover_5 :
    (fun (s : State) (slice err : Nat) (d1 : Dev) (l : List (Nat × Nat)) => (s.live) ∧ (slice < 64) ∧ (s.dev.task Reg.TRN.TASK_EN.SSCRUB = true) ∧ (s.dev.inRun (pg .SHL 0) = true) ∧ (tget 0 s.dev.mem.sAt slice < sliceWords) ∧ (shallowsStrike 0xFF (slice * sliceWords + tget 0 s.dev.mem.sAt slice) err (if s.dev.mem.sAt = [] then { s.dev with mem := { s.dev.mem with sT := s.dev.time.up } } else s.dev) = d1) ∧ (tset 0 slice (tget 0 s.dev.mem.sAt slice + 1) s.dev.mem.sAt = l) ∧ (¬ (∀ n ∈ List.range 64, tget 0 l n = sliceWords))) (WSW [(2, 5)]) 2 2 (shallowsStrike 0xFF (2 * sliceWords + 5) 2 (WSW [(2, 5)]).dev) (tset 0 2 6 [(2, 5)]) := by
  refine ⟨?_, ?_, ?_, ?_, ?_, ?_, ?_, ?_⟩ <;> first | exact rfl | decide +kernel

theorem witness_Turnover_6 :
    (fun (s : State) (slice err took : Nat) (d1 d2 : Dev) (l : List (Nat × Nat)) => (s.live) ∧ (slice < 64) ∧ (s.dev.task Reg.TRN.TASK_EN.SSCRUB = true) ∧ (s.dev.inRun (pg .SHL 0) = true) ∧ (tget 0 s.dev.mem.sAt slice < sliceWords) ∧ (shallowsStrike 0xFF (slice * sliceWords + tget 0 s.dev.mem.sAt slice) err (if s.dev.mem.sAt = [] then { s.dev with mem := { s.dev.mem with sT := s.dev.time.up } } else s.dev) = d1) ∧ (tset 0 slice (tget 0 s.dev.mem.sAt slice + 1) s.dev.mem.sAt = l) ∧ ((∀ n ∈ List.range 64, tget 0 l n = sliceWords)) ∧ ((d1.time.up - d1.mem.sT) / ms = took) ∧ (((({ d1 with mem := { d1.mem with sAt := [] } }).set Reg.TRN.SCRUB_S_STAT.LAST_MS (min 65535 took)).set Reg.TRN.SCRUB_S_STAT.PASSES (d1.get Reg.TRN.SCRUB_S_STAT.PASSES + 1)).ev .TRN 0 0 = d2)) (WSW ((List.range 64).map fun n => (n, if n = 2 then sliceWords - 1 else sliceWords))) 2 0 0 (WSW ((List.range 64).map fun n => (n, if n = 2 then sliceWords - 1 else sliceWords))).dev (((({ (WSW ((List.range 64).map fun n => (n, if n = 2 then sliceWords - 1 else sliceWords))).dev with mem := { (WSW ((List.range 64).map fun n => (n, if n = 2 then sliceWords - 1 else sliceWords))).dev.mem with sAt := [] } }).set Reg.TRN.SCRUB_S_STAT.LAST_MS 0).set Reg.TRN.SCRUB_S_STAT.PASSES 1).ev .TRN 0 0) (tset 0 2 sliceWords ((List.range 64).map fun n => (n, if n = 2 then sliceWords - 1 else sliceWords))) := by decide +kernel

theorem witness_Turnover_7 :
    (fun (s : State) (slice err : Nat) => (s.live) ∧ (s.dev.task Reg.TRN.TASK_EN.SSCRUB = false ∨ s.dev.inRun (pg .SHL 0) = false ∨ 64 ≤ slice ∨ sliceWords ≤ tget 0 s.dev.mem.sAt slice)) (State.reset) 2 0 := by decide +kernel

theorem witness_Turnover_8 :
    (fun (s : State) (waits : Bool) (d1 d2 : Dev) => (s.live) ∧ ((s.dev.advanceTo ((s.dev.due .telem).getD s.dev.time.up)).arm .telem (max 1 (s.dev.get Reg.TRN.TELEM_CFG.PERIOD_MS) * ms) = d1) ∧ (d1.task Reg.TRN.TASK_EN.TELEM = true) ∧ (({ thrSync d1 with mem := { (thrSync d1).mem with tel := Telem.start (thrSync d1).time.up (thrSync d1).mem.tel.held } } : Dev) = d2) ∧ (¬ (d2.get Reg.TRN.TELEM_TAIL.INDEX + 1) % d2.telemSize = d2.get Reg.TRN.TELEM_HEAD.INDEX) ∧ (¬ (d2.is Reg.TRN.TELEM_BASE.SPACE = false ∧ (d2.basinUp = false ∨ d2.is Reg.BAS.STAT.THROTTLED = true ∨ waits = true)))) (WTELB [(Reg.TRN.TELEM_BASE.SPACE, 1)]) true (WTB1 [(Reg.TRN.TELEM_BASE.SPACE, 1)]) ({ thrSync (WTB1 [(Reg.TRN.TELEM_BASE.SPACE, 1)]) with mem := { (thrSync (WTB1 [(Reg.TRN.TELEM_BASE.SPACE, 1)])).mem with tel := Telem.start (thrSync (WTB1 [(Reg.TRN.TELEM_BASE.SPACE, 1)])).time.up (thrSync (WTB1 [(Reg.TRN.TELEM_BASE.SPACE, 1)])).mem.tel.held } }) := by decide +kernel

theorem witness_Turnover_9 :
    (fun (s : State) (waits : Bool) (d1 d2 : Dev) => (s.live) ∧ ((s.dev.advanceTo ((s.dev.due .telem).getD s.dev.time.up)).arm .telem (max 1 (s.dev.get Reg.TRN.TELEM_CFG.PERIOD_MS) * ms) = d1) ∧ (d1.task Reg.TRN.TASK_EN.TELEM = true) ∧ (({ thrSync d1 with mem := { (thrSync d1).mem with tel := Telem.start (thrSync d1).time.up (thrSync d1).mem.tel.held } } : Dev) = d2) ∧ ((d2.get Reg.TRN.TELEM_TAIL.INDEX + 1) % d2.telemSize = d2.get Reg.TRN.TELEM_HEAD.INDEX ∨ (d2.is Reg.TRN.TELEM_BASE.SPACE = false ∧ d2.basinUp = false))) (WTELB [(Reg.TRN.TELEM_HEAD.INDEX, 1)]) false (WTB1 [(Reg.TRN.TELEM_HEAD.INDEX, 1)]) ({ thrSync (WTB1 [(Reg.TRN.TELEM_HEAD.INDEX, 1)]) with mem := { (thrSync (WTB1 [(Reg.TRN.TELEM_HEAD.INDEX, 1)])).mem with tel := Telem.start (thrSync (WTB1 [(Reg.TRN.TELEM_HEAD.INDEX, 1)])).time.up (thrSync (WTB1 [(Reg.TRN.TELEM_HEAD.INDEX, 1)])).mem.tel.held } }) := by decide +kernel

theorem witness_Turnover_10 :
    (fun (s : State) (waits : Bool) (d1 d2 : Dev) => (s.live) ∧ ((s.dev.advanceTo ((s.dev.due .telem).getD s.dev.time.up)).arm .telem (max 1 (s.dev.get Reg.TRN.TELEM_CFG.PERIOD_MS) * ms) = d1) ∧ (d1.task Reg.TRN.TASK_EN.TELEM = true) ∧ (({ thrSync d1 with mem := { (thrSync d1).mem with tel := Telem.start (thrSync d1).time.up (thrSync d1).mem.tel.held } } : Dev) = d2) ∧ (¬ (d2.get Reg.TRN.TELEM_TAIL.INDEX + 1) % d2.telemSize = d2.get Reg.TRN.TELEM_HEAD.INDEX) ∧ (d2.is Reg.TRN.TELEM_BASE.SPACE = false) ∧ (d2.basinUp = true) ∧ (d2.is Reg.BAS.STAT.THROTTLED = true ∨ waits = true)) (WTELB []) true (WTB1 []) ({ thrSync (WTB1 []) with mem := { (thrSync (WTB1 [])).mem with tel := Telem.start (thrSync (WTB1 [])).time.up (thrSync (WTB1 [])).mem.tel.held } }) := by decide +kernel

theorem witness_Turnover_11 :
    (fun (s : State) (waits : Bool) (d1 : Dev) => (s.live) ∧ ((s.dev.advanceTo ((s.dev.due .telem).getD s.dev.time.up)).arm .telem (max 1 (s.dev.get Reg.TRN.TELEM_CFG.PERIOD_MS) * ms) = d1) ∧ (d1.task Reg.TRN.TASK_EN.TELEM = false)) (State.reset) true (((State.reset.dev).advanceTo 0).arm .telem (max 1 (State.reset.dev.get Reg.TRN.TELEM_CFG.PERIOD_MS) * ms)) := by decide +kernel

theorem witness_Turnover_12 :
    (fun (s : State)  => (s.live) ∧ (s.dev.is Reg.SYS.BRINGUP.FUSES_READ = true) ∧ (s.dev.is Reg.BAS.STAT.WIPING = true)) (st [(Reg.SYS.BRINGUP.FUSES_READ, 1), (Reg.BAS.STAT.WIPING, 1)] fun d => { d with basin := [⟨3, 1⟩] }) := by decide +kernel

theorem witness_Turnover_13 :
    (fun (s : State)  => (s.live) ∧ (s.dev.is Reg.SYS.BRINGUP.FUSES_READ = false ∨ s.dev.is Reg.BAS.STAT.WIPING = false)) (State.reset) := by decide +kernel

theorem witness_Turnover_14 :
    (fun (s : State) (d1 : Dev) => (s.live) ∧ (s.dev.is Reg.SYS.BRINGUP.FUSES_READ = true) ∧ (shallowsWipeDone s.dev = d1)) (st [(Reg.SYS.BRINGUP.FUSES_READ, 1)] fun d => { d with shallows := [⟨3, 1⟩], mem := { d.mem with shlWipe := true } }) (shallowsWipeDone (st [(Reg.SYS.BRINGUP.FUSES_READ, 1)] fun d => { d with shallows := [⟨3, 1⟩], mem := { d.mem with shlWipe := true } }).dev) := by decide +kernel

theorem witness_Turnover_15 :
    (fun (s : State)  => (s.live) ∧ (s.dev.is Reg.SYS.BRINGUP.FUSES_READ = true) ∧ (s.dev.mem.shlWipe = true) ∧ (s.dev.is Reg.SYS.BRINGUP.SHALLOWS_READY = true)) (st [(Reg.SYS.BRINGUP.FUSES_READ, 1), (Reg.SYS.BRINGUP.SHALLOWS_READY, 1)] fun d => { d with shallows := [⟨3, 1⟩], mem := { d.mem with shlWipe := true } }) := by decide +kernel

theorem witness_Turnover_16 :
    (fun (s : State)  => (s.live) ∧ (s.dev.is Reg.SYS.BRINGUP.FUSES_READ = false)) (st [(Reg.SYS.BRINGUP.FUSES_READ, 0)]) := by decide +kernel

theorem witness_DmaChannels_0 :
    (fun (s : State) (n : Nat) => (s.live) ∧ (n < 32) ∧ (s.dev.pageOff (0x20 + n) = false) ∧ (s.dev.blk (pg .DMA n) = 1)) (st [(Reg.HDR.STATE (pg .DMA 2), 1), (Reg.HDR.ENABLE (pg .DMA 2), 1), (Reg.DMA.PROG.ADDR 2, 9), (Reg.DMA.FLAGS.ENDED 2, 1)]) 2 := by decide +kernel

theorem witness_DmaChannels_1 :
    (fun (s : State) (n : Nat) => (s.live) ∧ (n < 32) ∧ (s.dev.pageOff (0x20 + n) = false) ∧ (s.dev.blk (pg .DMA n) = 1) ∧ (s.dev.enabled (pg .DMA n) = true)) (st [(Reg.HDR.STATE (pg .DMA 2), 1), (Reg.HDR.ENABLE (pg .DMA 2), 1), (Reg.DMA.PROG.ADDR 2, 9), (Reg.DMA.FLAGS.ENDED 2, 1)]) 2 := by decide +kernel

theorem witness_DmaChannels_2 :
    (fun (s : State) (n : Nat) => (s.live) ∧ (n < 32) ∧ (s.dev.pageOff (0x20 + n) = false) ∧ (s.dev.blk (pg .DMA n) = 1)) (st [(Reg.HDR.STATE (pg .DMA 2), 1), (Reg.HDR.ENABLE (pg .DMA 2), 1), (Reg.DMA.FLAGS.ENDED 2, 1)]) 2 := by decide +kernel

theorem witness_DmaChannels_3 :
    (fun (s : State) (n : Nat) => (s.live) ∧ (n < 32) ∧ (s.dev.pageOff (0x20 + n) = false) ∧ (s.dev.blk (pg .DMA n) ≠ 1)) (st [(Reg.HDR.STATE (pg .DMA 2), 2)]) 2 := by decide +kernel

theorem witness_DmaChannels_4 :
    (fun (s : State) (n : Nat) => (s.live) ∧ (n < 32) ∧ (s.dev.pageOff (0x20 + n) = false) ∧ (s.dev.blk (pg .DMA n) ≠ 1)) (st [(Reg.HDR.STATE (pg .DMA 2), 2)]) 2 := by decide +kernel

theorem witness_DmaChannels_5 :
    (fun (s : State) (n : Nat) => (s.live) ∧ (n < 32) ∧ (s.dev.pageOff (0x20 + n) = true)) (st [(Reg.HDR.STATE (pg .DMA 2), 0)]) 2 := by decide +kernel

theorem witness_DmaChannels_6 :
    (fun (s : State) (n : Nat) => (s.live) ∧ (n < 32) ∧ (s.dev.pageOff (0x20 + n) = true)) (st [(Reg.HDR.STATE (pg .DMA 2), 0)]) 2 := by decide +kernel

theorem witness_DmaChannels_7 :
    (fun (s : State) (n ahead err : Nat) (host : Bytes) (here a cause : Nat) (keep : List (Nat × Bytes)) (d1 : Dev) (got : Bytes) => (s.live) ∧ (s.dev.dmaGoes n = true) ∧ ((s.dev.dma n).cur = none) ∧ ((s.dev.dma n).move = none) ∧ (ahead ≤ 2) ∧ (s.dev.dmaPc n / 64 = here) ∧ (((s.dev.dma n).lines.filter fun l => decide (here ≤ l.1) && decide (l.1 ≤ here + 2)) = keep) ∧ ((here + ahead) * 64 = a) ∧ ((if s.dev.is (Reg.DMA.PC.SPACE n) = true ∨ basinSize ≤ a then s.dev else s.dev.basinLoad 2 (dmaMaster n) a 64 err) = d1) ∧ ((if s.dev.is (Reg.DMA.PC.SPACE n) = true then (if err = 0 then 0 else 8) else if basinSize ≤ a then 5 else if d1.basinUp = false then 6
      else if d1.badSectors a 64 ≠ [] then 7 else 0) = cause) ∧ ((if s.dev.is (Reg.DMA.PC.SPACE n) = true then padTo 64 host else d1.basinRead a 64) = got) ∧ (aget here keep = none) ∧ (ahead = 0) ∧ (cause = 0)) (st [(Reg.HDR.STATE (pg .DMA 2), 2), (Reg.HDR.ENABLE (pg .DMA 2), 1), (Reg.HDR.STATE (pg .DMAC 0), 2), (Reg.DMA.PC.SPACE 2, 1)] fun d => d.setDma 2 { DmaChan.init with cur := none }) 2 0 0 (List.replicate 15 0 ++ [0x50]) 0 0 0 [] (st [(Reg.HDR.STATE (pg .DMA 2), 2), (Reg.HDR.ENABLE (pg .DMA 2), 1), (Reg.HDR.STATE (pg .DMAC 0), 2), (Reg.DMA.PC.SPACE 2, 1)] fun d => d.setDma 2 { DmaChan.init with cur := none }).dev (padTo 64 (List.replicate 15 0 ++ [0x50])) := by decide +kernel

theorem witness_DmaChannels_8 :
    (fun (s : State) (n ahead err : Nat) (host : Bytes) (here a cause : Nat) (keep : List (Nat × Bytes)) (d1 : Dev) (got : Bytes) => (s.live) ∧ (s.dev.dmaGoes n = true) ∧ ((s.dev.dma n).cur = none) ∧ ((s.dev.dma n).move = none) ∧ (ahead ≤ 2) ∧ (s.dev.dmaPc n / 64 = here) ∧ (((s.dev.dma n).lines.filter fun l => decide (here ≤ l.1) && decide (l.1 ≤ here + 2)) = keep) ∧ ((here + ahead) * 64 = a) ∧ ((if s.dev.is (Reg.DMA.PC.SPACE n) = true ∨ basinSize ≤ a then s.dev else s.dev.basinLoad 2 (dmaMaster n) a 64 err) = d1) ∧ ((if s.dev.is (Reg.DMA.PC.SPACE n) = true then (if err = 0 then 0 else 8) else if basinSize ≤ a then 5 else if d1.basinUp = false then 6
      else if d1.badSectors a 64 ≠ [] then 7 else 0) = cause) ∧ ((if s.dev.is (Reg.DMA.PC.SPACE n) = true then padTo 64 host else d1.basinRead a 64) = got) ∧ (aget here keep = none) ∧ (ahead = 0) ∧ (cause ≠ 0)) (st [(Reg.HDR.STATE (pg .DMA 2), 2), (Reg.HDR.ENABLE (pg .DMA 2), 1), (Reg.HDR.STATE (pg .DMAC 0), 2), (Reg.HDR.STATE (pg .BAS 0), 2), (Reg.SYS.BRINGUP.BASIN_READY, 1)] fun d => d.setDma 2 { DmaChan.init with cur := none }) 2 0 2 [] 0 0 7 [] ((st [(Reg.HDR.STATE (pg .DMA 2), 2), (Reg.HDR.ENABLE (pg .DMA 2), 1), (Reg.HDR.STATE (pg .DMAC 0), 2), (Reg.HDR.STATE (pg .BAS 0), 2), (Reg.SYS.BRINGUP.BASIN_READY, 1)] fun d => d.setDma 2 { DmaChan.init with cur := none }).dev.basinLoad 2 (dmaMaster 2) 0 64 2) (((st [(Reg.HDR.STATE (pg .DMA 2), 2), (Reg.HDR.ENABLE (pg .DMA 2), 1), (Reg.HDR.STATE (pg .DMAC 0), 2), (Reg.HDR.STATE (pg .BAS 0), 2), (Reg.SYS.BRINGUP.BASIN_READY, 1)] fun d => d.setDma 2 { DmaChan.init with cur := none }).dev.basinLoad 2 (dmaMaster 2) 0 64 2).basinRead 0 64) := by
  refine ⟨?_, ?_, ?_, ?_, ?_, ?_, ?_, ?_, ?_, ?_, ?_, ?_, ?_, ?_⟩ <;> first | exact rfl | decide +kernel

theorem witness_DmaChannels_9 :
    (fun (s : State) (n ahead err : Nat) (host : Bytes) (here a cause : Nat) (keep : List (Nat × Bytes)) (d1 : Dev) (got : Bytes) => (s.live) ∧ (s.dev.dmaGoes n = true) ∧ ((s.dev.dma n).cur = none) ∧ ((s.dev.dma n).move = none) ∧ (ahead ≤ 2) ∧ (s.dev.dmaPc n / 64 = here) ∧ (((s.dev.dma n).lines.filter fun l => decide (here ≤ l.1) && decide (l.1 ≤ here + 2)) = keep) ∧ ((here + ahead) * 64 = a) ∧ ((if s.dev.is (Reg.DMA.PC.SPACE n) = true ∨ basinSize ≤ a then s.dev else s.dev.basinLoad 2 (dmaMaster n) a 64 err) = d1) ∧ ((if s.dev.is (Reg.DMA.PC.SPACE n) = true then (if err = 0 then 0 else 8) else if basinSize ≤ a then 5 else if d1.basinUp = false then 6
      else if d1.badSectors a 64 ≠ [] then 7 else 0) = cause) ∧ ((if s.dev.is (Reg.DMA.PC.SPACE n) = true then padTo 64 host else d1.basinRead a 64) = got) ∧ (aget here keep = none) ∧ (ahead ≠ 0)) (st [(Reg.HDR.STATE (pg .DMA 2), 2), (Reg.HDR.ENABLE (pg .DMA 2), 1), (Reg.HDR.STATE (pg .DMAC 0), 2), (Reg.DMA.PC.SPACE 2, 1)] fun d => d.setDma 2 { DmaChan.init with cur := none }) 2 1 0 (List.replicate 15 0 ++ [0x50]) 0 64 0 [] (st [(Reg.HDR.STATE (pg .DMA 2), 2), (Reg.HDR.ENABLE (pg .DMA 2), 1), (Reg.HDR.STATE (pg .DMAC 0), 2), (Reg.DMA.PC.SPACE 2, 1)] fun d => d.setDma 2 { DmaChan.init with cur := none }).dev (padTo 64 (List.replicate 15 0 ++ [0x50])) := by decide +kernel

theorem witness_DmaChannels_10 :
    (fun (s : State) (n ahead err : Nat) (host : Bytes) (here a cause : Nat) (keep : List (Nat × Bytes)) (d1 : Dev) (got : Bytes) (l : Bytes) => (s.live) ∧ (s.dev.dmaGoes n = true) ∧ ((s.dev.dma n).cur = none) ∧ ((s.dev.dma n).move = none) ∧ (ahead ≤ 2) ∧ (s.dev.dmaPc n / 64 = here) ∧ (((s.dev.dma n).lines.filter fun l => decide (here ≤ l.1) && decide (l.1 ≤ here + 2)) = keep) ∧ ((here + ahead) * 64 = a) ∧ ((if s.dev.is (Reg.DMA.PC.SPACE n) = true ∨ basinSize ≤ a then s.dev else s.dev.basinLoad 2 (dmaMaster n) a 64 err) = d1) ∧ ((if s.dev.is (Reg.DMA.PC.SPACE n) = true then (if err = 0 then 0 else 8) else if basinSize ≤ a then 5 else if d1.basinUp = false then 6
      else if d1.badSectors a 64 ≠ [] then 7 else 0) = cause) ∧ ((if s.dev.is (Reg.DMA.PC.SPACE n) = true then padTo 64 host else d1.basinRead a 64) = got) ∧ (aget here keep = some l)) (st [(Reg.HDR.STATE (pg .DMA 2), 2), (Reg.HDR.ENABLE (pg .DMA 2), 1), (Reg.HDR.STATE (pg .DMAC 0), 2), (Reg.DMA.PC.SPACE 2, 1)] fun d => d.setDma 2 { DmaChan.init with cur := none, lines := [(0, padTo 64 (List.replicate 15 0 ++ [0x50]))] }) 2 2 0 [] 0 128 0 [(0, padTo 64 (List.replicate 15 0 ++ [0x50]))] (st [(Reg.HDR.STATE (pg .DMA 2), 2), (Reg.HDR.ENABLE (pg .DMA 2), 1), (Reg.HDR.STATE (pg .DMAC 0), 2), (Reg.DMA.PC.SPACE 2, 1)] fun d => d.setDma 2 { DmaChan.init with cur := none, lines := [(0, padTo 64 (List.replicate 15 0 ++ [0x50]))] }).dev (padTo 64 []) (padTo 64 (List.replicate 15 0 ++ [0x50])) := by decide +kernel

theorem witness_DmaChannels_11 :
    (fun (s : State) (n ahead err : Nat) (host : Bytes) => (s.live) ∧ (s.dev.dmaGoes n = false ∨ (s.dev.dma n).cur.isSome = true ∨ (s.dev.dma n).move.isSome = true ∨ 2 < ahead)) (State.reset) 2 0 0 [] := by decide +kernel

theorem witness_DmaChannels_12 :
    (fun (s : State) (n : Nat) => (s.live) ∧ (s.dev.dmaOp n = 0x7F)) (st [(Reg.HDR.STATE (pg .DMA 2), 2), (Reg.HDR.ENABLE (pg .DMA 2), 1), (Reg.HDR.STATE (pg .DMAC 0), 2)] fun d => d.setDma 2 { DmaChan.init with cur := some (0x7F * 2 ^ 120 + 5) }) 2 := by decide +kernel

theorem witness_DmaChannels_13 :
    (fun (s : State) (n : Nat) => (s.live) ∧ (s.dev.dmaOp n ≠ 0x7F)) (State.reset) 2 := by decide +kernel

theorem witness_DmaChannels_14 :
    (fun (s : State) (map : Nat) => (s.live) ∧ (s.dev.pageOff 0x1F = false) ∧ (map < 2 ^ 32)) (st [(Reg.HDR.STATE (pg .DMA 2), 2), (Reg.HDR.ENABLE (pg .DMA 2), 1), (Reg.HDR.STATE (pg .DMAC 0), 2)] fun d => d.setDma 2 { DmaChan.init with cur := some 0 }) 4 := by decide +kernel

theorem witness_DmaChannels_15 :
    (fun (s : State) (map : Nat) => (s.live) ∧ (s.dev.pageOff 0x1F = true)) (st [(Reg.HDR.STATE (pg .DMAC 0), 0)]) 4 := by decide +kernel

theorem witness_DmaMoves_0 :
    (fun (s : State) (n ssp dsp len : Nat) (a t : Int) => (s.live) ∧ (s.dev.dmaOp n = 0x10) ∧ (bits (s.dev.dmaWord n) 119 117 = ssp) ∧ (bits (s.dev.dmaWord n) 116 114 = dsp) ∧ (bits (s.dev.dmaWord n) 23 0 = len) ∧ (s.dev.moveAddr n ssp (bits (s.dev.dmaWord n) 111 68) ((s.dev.dma n).loops.map fun l => (l.i : Int) * l.ss) = a) ∧ (s.dev.moveAddr n dsp (bits (s.dev.dmaWord n) 67 24) ((s.dev.dma n).loops.map fun l => (l.i : Int) * l.ds) = t) ∧ (sourceSpace ssp = true) ∧ (destSpace dsp = true) ∧ (outside ssp a len = false) ∧ (outside dsp t len = false) ∧ (misaligned ssp a len = false) ∧ (misaligned dsp t len = false) ∧ (len ≠ 0) ∧ (s.dev.goingOff ssp a = false) ∧ (s.dev.goingOff dsp t = false)) (st [(Reg.HDR.STATE (pg .DMA 2), 2), (Reg.HDR.ENABLE (pg .DMA 2), 1), (Reg.HDR.STATE (pg .DMAC 0), 2)] fun d => d.setDma 2 { DmaChan.init with cur := some (0x10 * 2 ^ 120 + 128 * 2 ^ 68 + 64 * 2 ^ 24 + 4) }) 2 0 0 4 128 64 := by decide +kernel

theorem witness_DmaMoves_1 :
    (fun (s : State) (n ssp dsp len : Nat) (a t : Int) => (s.live) ∧ (s.dev.dmaOp n = 0x10) ∧ (bits (s.dev.dmaWord n) 119 117 = ssp) ∧ (bits (s.dev.dmaWord n) 116 114 = dsp) ∧ (bits (s.dev.dmaWord n) 23 0 = len) ∧ (s.dev.moveAddr n ssp (bits (s.dev.dmaWord n) 111 68) ((s.dev.dma n).loops.map fun l => (l.i : Int) * l.ss) = a) ∧ (s.dev.moveAddr n dsp (bits (s.dev.dmaWord n) 67 24) ((s.dev.dma n).loops.map fun l => (l.i : Int) * l.ds) = t) ∧ (¬ (sourceSpace ssp = true ∧ destSpace dsp = true ∧ outside ssp a len = false ∧ outside dsp t len = false ∧ misaligned ssp a len = false ∧ misaligned dsp t len = false ∧
      len ≠ 0 ∧ s.dev.goingOff ssp a = false ∧ s.dev.goingOff dsp t = false))) (st [(Reg.HDR.STATE (pg .DMA 2), 2), (Reg.HDR.ENABLE (pg .DMA 2), 1), (Reg.HDR.STATE (pg .DMAC 0), 2)] fun d => d.setDma 2 { DmaChan.init with cur := some (0x10 * 2 ^ 120 + 128 * 2 ^ 68 + 64 * 2 ^ 24) }) 2 0 0 0 128 64 := by decide +kernel

theorem witness_DmaMoves_2 :
    (fun (s : State) (n : Nat) => (s.live) ∧ (s.dev.dmaOp n ≠ 0x10)) (State.reset) 2 := by decide +kernel

theorem witness_DmaMoves_3 :
    (fun (s : State) (n err late rc : Nat) (m : DmaMove) (host bs : Bytes) (d1 : Dev) (wc : Nat) (d2 : Dev) => (s.live) ∧ ((s.dev.dma n).move = some m) ∧ ((s.dev.dma n).edge = false) ∧ (s.dev.blk (pg .DMA n) = 2 ∨ s.dev.blk (pg .DMA n) = 3) ∧ (s.dev.burstWaits m = false) ∧ (burstRead s.fuse n m m.unit err host s.dev = (rc, bs, d1)) ∧ (rc = 0) ∧ (burstWrite s.fuse n m (m.data bs) d1 = (wc, d2))) (WBD) 2 0 0 0 testMove [] [0, 0, 0, 0] (burstRead State.reset.fuse 2 testMove 4 0 [] WBD.dev).2.2 0 (burstWrite State.reset.fuse 2 testMove [0, 0, 0, 0] (burstRead State.reset.fuse 2 testMove 4 0 [] WBD.dev).2.2).2 := by decide +kernel

theorem witness_DmaMoves_4 :
    (fun (s : State) (n err late rc : Nat) (m : DmaMove) (host bs : Bytes) (d1 : Dev) => (s.live) ∧ ((s.dev.dma n).move = some m) ∧ ((s.dev.dma n).edge = false) ∧ (s.dev.blk (pg .DMA n) = 2 ∨ s.dev.blk (pg .DMA n) = 3) ∧ (s.dev.burstWaits m = false) ∧ (burstRead s.fuse n m m.unit err host s.dev = (rc, bs, d1)) ∧ (rc ≠ 0)) (WBDX) 2 0 0 6 testMove [] [] WBDX.dev := by decide +kernel

theorem witness_DmaMoves_5 :
    (fun (s : State) (n err late : Nat) (host : Bytes) => (s.live) ∧ (∀ m ∈ (s.dev.dma n).move, (s.dev.dma n).edge = true ∨ (s.dev.blk (pg .DMA n) ≠ 2 ∧ s.dev.blk (pg .DMA n) ≠ 3) ∨ s.dev.burstWaits m = true)) (State.reset) 2 0 0 [] := by decide +kernel

theorem witness_DmaMoves_6 :
    (fun (s : State) (n lv : Nat) (ls : List DmaLoop) => (s.live) ∧ (s.dev.dmaOp n = 0x20) ∧ ((s.dev.dma n).loops = ls) ∧ (bits (s.dev.dmaWord n) 119 118 = lv)) (st [(Reg.HDR.STATE (pg .DMA 2), 2), (Reg.HDR.ENABLE (pg .DMA 2), 1), (Reg.HDR.STATE (pg .DMAC 0), 2)] fun d => d.setDma 2 { DmaChan.init with cur := some (0x20 * 2 ^ 120 + 2 * 2 ^ 64) }) 2 0 [] := by decide +kernel

theorem witness_DmaMoves_7 :
    (fun (s : State) (n : Nat) => (s.live) ∧ (s.dev.dmaOp n ≠ 0x20)) (State.reset) 2 := by decide +kernel

theorem witness_DmaMoves_8 :
    (fun (s : State) (n lv : Nat) (ls : List DmaLoop) (l : DmaLoop) => (s.live) ∧ (s.dev.dmaOp n = 0x21) ∧ ((s.dev.dma n).loops = ls ++ [l]) ∧ (bits (s.dev.dmaWord n) 119 118 = lv) ∧ (lv = ls.length) ∧ (l.i + 1 < l.count)) (st [(Reg.HDR.STATE (pg .DMA 2), 2), (Reg.HDR.ENABLE (pg .DMA 2), 1), (Reg.HDR.STATE (pg .DMAC 0), 2)] fun d => d.setDma 2 { DmaChan.init with cur := some (0x21 * 2 ^ 120), loops := [{ count := 2, ss := 0, ds := 0, i := 0, body := 1 }] }) 2 0 [] { count := 2, ss := 0, ds := 0, i := 0, body := 1 } := by decide +kernel

theorem witness_DmaMoves_9 :
    (fun (s : State) (n lv : Nat) (ls : List DmaLoop) (l : DmaLoop) => (s.live) ∧ (s.dev.dmaOp n = 0x21) ∧ ((s.dev.dma n).loops = ls ++ [l]) ∧ (bits (s.dev.dmaWord n) 119 118 = lv) ∧ (lv = ls.length) ∧ (l.count ≤ l.i + 1)) (st [(Reg.HDR.STATE (pg .DMA 2), 2), (Reg.HDR.ENABLE (pg .DMA 2), 1), (Reg.HDR.STATE (pg .DMAC 0), 2)] fun d => d.setDma 2 { DmaChan.init with cur := some (0x21 * 2 ^ 120), loops := [{ count := 1, ss := 0, ds := 0, i := 0, body := 1 }] }) 2 0 [] { count := 1, ss := 0, ds := 0, i := 0, body := 1 } := by decide +kernel

theorem witness_DmaMoves_10 :
    (fun (s : State) (n : Nat) => (s.live) ∧ (s.dev.dmaOp n = 0x21) ∧ ((s.dev.dma n).loops = [] ∨ bits (s.dev.dmaWord n) 119 118 + 1 ≠ (s.dev.dma n).loops.length)) (st [(Reg.HDR.STATE (pg .DMA 2), 2), (Reg.HDR.ENABLE (pg .DMA 2), 1), (Reg.HDR.STATE (pg .DMAC 0), 2)] fun d => d.setDma 2 { DmaChan.init with cur := some (0x21 * 2 ^ 120) }) 2 := by decide +kernel

theorem witness_DmaMoves_11 :
    (fun (s : State) (n : Nat) => (s.live) ∧ (s.dev.dmaOp n ≠ 0x21)) (State.reset) 2 := by decide +kernel

theorem witness_DmaMoves_12 :
    (fun (s : State) (n : Nat) => (s.live) ∧ (s.dev.dmaOp n = 0x31)) (st [(Reg.HDR.STATE (pg .DMA 2), 2), (Reg.HDR.ENABLE (pg .DMA 2), 1), (Reg.HDR.STATE (pg .DMAC 0), 2)] fun d => d.setDma 2 { DmaChan.init with cur := some (0x31 * 2 ^ 120 + 9) }) 2 := by decide +kernel

theorem witness_DmaMoves_13 :
    (fun (s : State) (n : Nat) => (s.live) ∧ (s.dev.dmaOp n ≠ 0x31)) (State.reset) 2 := by decide +kernel

theorem witness_DmaMoves_14 :
    (fun (s : State) (n : Nat) => (s.live) ∧ (s.dev.dmaOp n = 0x40) ∧ (bits (s.dev.dmaWord n) 119 118 = 1)) (st [(Reg.HDR.STATE (pg .DMA 2), 2), (Reg.HDR.ENABLE (pg .DMA 2), 1), (Reg.HDR.STATE (pg .DMAC 0), 2)] fun d => d.setDma 2 { DmaChan.init with cur := some (0x40 * 2 ^ 120 + 2 ^ 118 + 9) }) 2 := by decide +kernel

theorem witness_DmaMoves_15 :
    (fun (s : State) (n : Nat) => (s.live) ∧ (s.dev.dmaOp n = 0x40) ∧ (bits (s.dev.dmaWord n) 119 118 ≠ 1) ∧ (bits (s.dev.dmaWord n) 117 96 % 4 ≠ 0)) (st [(Reg.HDR.STATE (pg .DMA 2), 2), (Reg.HDR.ENABLE (pg .DMA 2), 1), (Reg.HDR.STATE (pg .DMAC 0), 2)] fun d => d.setDma 2 { DmaChan.init with cur := some (0x40 * 2 ^ 120 + 2 * 2 ^ 96 + 9) }) 2 := by decide +kernel

theorem witness_DmaMoves_16 :
    (fun (s : State) (n : Nat) => (s.live) ∧ (s.dev.dmaOp n = 0x40) ∧ (bits (s.dev.dmaWord n) 119 118 ≠ 1) ∧ (bits (s.dev.dmaWord n) 117 96 % 4 = 0) ∧ (bits (s.dev.dmaWord n) 63 32 = 0)) (st [(Reg.HDR.STATE (pg .DMA 2), 2), (Reg.HDR.ENABLE (pg .DMA 2), 1), (Reg.HDR.STATE (pg .DMAC 0), 2)] fun d => d.setDma 2 { DmaChan.init with cur := some (0x40 * 2 ^ 120 + 4 * 2 ^ 96 + 9) }) 2 := by decide +kernel

theorem witness_DmaMoves_17 :
    (fun (s : State) (n code : Nat) (d1 : Dev) => (s.live) ∧ (s.dev.dmaOp n = 0x40) ∧ (bits (s.dev.dmaWord n) 119 118 ≠ 1) ∧ (bits (s.dev.dmaWord n) 117 96 % 4 = 0) ∧ (bits (s.dev.dmaWord n) 63 32 = 0xFFFFFFFF) ∧ (busWrite s.fuse (Party.dma n) (bits (s.dev.dmaWord n) 117 96) (bits (s.dev.dmaWord n) 31 0) s.dev = (code, d1))) (WSET) 2 0 (busWrite State.reset.fuse (Party.dma 2) 0x141044 9 WSET.dev).2 := by decide +kernel

theorem witness_DmaMoves_18 :
    (fun (s : State) (n x rc code : Nat) (d0 d1 : Dev) => (s.live) ∧ (s.dev.dmaOp n = 0x40) ∧ (bits (s.dev.dmaWord n) 119 118 ≠ 1) ∧ (bits (s.dev.dmaWord n) 117 96 % 4 = 0) ∧ (bits (s.dev.dmaWord n) 63 32 ≠ 0) ∧ (bits (s.dev.dmaWord n) 63 32 ≠ 0xFFFFFFFF) ∧ (busRead s.fuse (Party.dma n) (bits (s.dev.dmaWord n) 117 96) s.dev = (x, rc, d0)) ∧ ((if regCause rc ≠ 0 then (rc, d0) else busWrite s.fuse (Party.dma n) (bits (s.dev.dmaWord n) 117 96) (andNot x (bits (s.dev.dmaWord n) 63 32) ||| (bits (s.dev.dmaWord n) 31 0 &&& bits (s.dev.dmaWord n) 63 32)) d0) = (code, d1))) (WSETM) 2 0 0 0 (busRead State.reset.fuse (Party.dma 2) 0x141044 WSETM.dev).2.2 (busWrite State.reset.fuse (Party.dma 2) 0x141044 9 (busRead State.reset.fuse (Party.dma 2) 0x141044 WSETM.dev).2.2).2 := by decide +kernel

theorem witness_DmaMoves_19 :
    (fun (s : State) (n : Nat) => (s.live) ∧ (s.dev.dmaOp n ≠ 0x40)) (State.reset) 2 := by decide +kernel

theorem witness_DmaMoves_20 :
    (fun (s : State) (n : Nat) => (s.live) ∧ (s.dev.dmaOp n = 0x50)) (st [(Reg.HDR.STATE (pg .DMA 2), 2), (Reg.HDR.ENABLE (pg .DMA 2), 1), (Reg.HDR.STATE (pg .DMAC 0), 2)] fun d => d.setDma 2 { DmaChan.init with cur := some (0x50 * 2 ^ 120) }) 2 := by decide +kernel

theorem witness_DmaMoves_21 :
    (fun (s : State) (n : Nat) => (s.live) ∧ (s.dev.dmaOp n ≠ 0x50)) (State.reset) 2 := by decide +kernel

theorem witness_DmaWaits_0 :
    (fun (s : State) (n : Nat) => (s.live) ∧ (s.dev.dmaOp n = 0x30) ∧ (bits (s.dev.dmaWord n) 119 118 ≠ 2) ∧ (s.dev.waitHolds (s.dev.dmaWord n) = false) ∧ (bits (s.dev.dmaWord n) 31 0 = 0)) (st [(Reg.HDR.STATE (pg .DMA 2), 2), (Reg.HDR.ENABLE (pg .DMA 2), 1), (Reg.HDR.STATE (pg .DMAC 0), 2)] fun d => d.setDma 2 { DmaChan.init with cur := some (0x30 * 2 ^ 120) }) 2 := by decide +kernel

theorem witness_DmaWaits_1 :
    (fun (s : State) (n t : Nat) => (s.live) ∧ (s.dev.dmaOp n = 0x30) ∧ (bits (s.dev.dmaWord n) 119 118 ≠ 2) ∧ (s.dev.waitHolds (s.dev.dmaWord n) = false) ∧ (bits (s.dev.dmaWord n) 31 0 = t) ∧ (t ≠ 0)) (st [(Reg.HDR.STATE (pg .DMA 2), 2), (Reg.HDR.ENABLE (pg .DMA 2), 1), (Reg.HDR.STATE (pg .DMAC 0), 2)] fun d => d.setDma 2 { DmaChan.init with cur := some (0x30 * 2 ^ 120 + 3) }) 2 3 := by decide +kernel

theorem witness_DmaWaits_2 :
    (fun (s : State) (n t : Nat) => (s.live) ∧ (s.dev.dmaOp n = 0x30) ∧ (bits (s.dev.dmaWord n) 119 118 = 2) ∧ (bits (s.dev.dmaWord n) 31 0 = t)) (st [(Reg.HDR.STATE (pg .DMA 2), 2), (Reg.HDR.ENABLE (pg .DMA 2), 1), (Reg.HDR.STATE (pg .DMAC 0), 2)] fun d => d.setDma 2 { DmaChan.init with cur := some (0x30 * 2 ^ 120 + 2 * 2 ^ 118 + 3) }) 2 3 := by decide +kernel

theorem witness_DmaWaits_3 :
    (fun (s : State) (n : Nat) => (s.live) ∧ (s.dev.dmaOp n = 0x30) ∧ (bits (s.dev.dmaWord n) 119 118 ≠ 2) ∧ (s.dev.waitHolds (s.dev.dmaWord n) = true)) (st [(Reg.HDR.STATE (pg .DMA 2), 2), (Reg.HDR.ENABLE (pg .DMA 2), 1), (Reg.HDR.STATE (pg .DMAC 0), 2)] fun d => d.setDma 2 { DmaChan.init with cur := some (0x30 * 2 ^ 120 + 2 ^ 118 + 8 * 2 ^ 96) }) 2 := by decide +kernel

theorem witness_DmaWaits_4 :
    (fun (s : State) (n : Nat) => (s.live) ∧ (s.dev.dmaOp n ≠ 0x30)) (State.reset) 2 := by decide +kernel

theorem witness_DmaWaits_5 :
    (fun (s : State) (n : Nat) => (s.live) ∧ (s.dev.dmaWaits n = true) ∧ (s.dev.waitHolds (s.dev.dmaWord n) = true)) (st [(Reg.HDR.STATE (pg .DMA 2), 2), (Reg.HDR.ENABLE (pg .DMA 2), 1), (Reg.HDR.STATE (pg .DMAC 0), 2), (Reg.DMA.FLAGS.WAITING 2, 1)] fun d => d.setDma 2 { DmaChan.init with cur := some (0x30 * 2 ^ 120 + 2 ^ 118 + 8 * 2 ^ 96) }) 2 := by decide +kernel

theorem witness_DmaWaits_6 :
    (fun (s : State) (n : Nat) => (s.live) ∧ (s.dev.dmaWaits n = false ∨ s.dev.waitHolds (s.dev.dmaWord n) = false)) (State.reset) 2 := by decide +kernel

theorem witness_DmaWaits_7 :
    (fun (s : State) (n t : Nat) => (s.live) ∧ (s.dev.dmaWaits n = true) ∧ (s.dev.due (.dmaWait n) = some t)) (st [(Reg.HDR.STATE (pg .DMA 2), 2), (Reg.HDR.ENABLE (pg .DMA 2), 1), (Reg.HDR.STATE (pg .DMAC 0), 2), (Reg.DMA.FLAGS.WAITING 2, 1)] fun d => (d.setDma 2 { DmaChan.init with cur := some (0x30 * 2 ^ 120) }).arm (.dmaWait 2) 9) 2 9 := by decide +kernel

theorem witness_DmaWaits_8 :
    (fun (s : State) (n t : Nat) => (s.live) ∧ (s.dev.dmaWaits n = true) ∧ (s.dev.due (.dmaWait n) = some t) ∧ (((s.dev.advanceTo t).disarm (.dmaWait n)).waitHolds (((s.dev.advanceTo t).disarm (.dmaWait n)).dmaWord n) = false)) (st [(Reg.HDR.STATE (pg .DMA 2), 2), (Reg.HDR.ENABLE (pg .DMA 2), 1), (Reg.HDR.STATE (pg .DMAC 0), 2), (Reg.DMA.FLAGS.WAITING 2, 1)] fun d => (d.setDma 2 { DmaChan.init with cur := some (0x30 * 2 ^ 120) }).arm (.dmaWait 2) 9) 2 9 := by decide +kernel

theorem witness_DmaWaits_9 :
    (fun (s : State) (n : Nat) => (s.live) ∧ (s.dev.dmaWaits n = false ∨ s.dev.due (.dmaWait n) = none)) (State.reset) 2 := by decide +kernel

theorem witness_DmaWaits_10 :
    (fun (s : State) (n t : Nat) => (s.live) ∧ ((s.dev.dma n).until_ = some t) ∧ (s.dev.inRun (pg .DMA n) = true)) (st [(Reg.HDR.STATE (pg .DMA 2), 2), (Reg.HDR.ENABLE (pg .DMA 2), 1), (Reg.HDR.STATE (pg .DMAC 0), 2), (Reg.DMA.FLAGS.WAITING 2, 1)] fun d => d.setDma 2 { DmaChan.init with cur := some (0x30 * 2 ^ 120 + 2 * 2 ^ 118 + 3), until_ := some 9 }) 2 9 := by decide +kernel

theorem witness_DmaWaits_11 :
    (fun (s : State) (n : Nat) => (s.live) ∧ ((s.dev.dma n).until_ = none ∨ s.dev.inRun (pg .DMA n) = false)) (State.reset) 2 := by decide +kernel

theorem witness_Compressors_0 :
    (fun (s : State) (k : Nat) => (s.live) ∧ (k < 4) ∧ (s.dev.pageOff (0x41 + k) = false) ∧ (s.dev.cmpTakes k = true) ∧ ((s.dev.cmp k).queue.length < 64)) (st [(Reg.HDR.STATE (pg .CMP 1), 2), (Reg.HDR.ENABLE (pg .CMP 1), 1), (Reg.HDR.STATE (pg .BAS 0), 2), (Reg.SYS.BRINGUP.BASIN_READY, 1), (Reg.CMP.ENTRY.DATA 1 1, 5)]) 1 := by decide +kernel

theorem witness_Compressors_1 :
    (fun (s : State) (k : Nat) => (s.live) ∧ (k < 4) ∧ (s.dev.pageOff (0x41 + k) = false) ∧ (s.dev.cmpTakes k = false ∨ 64 ≤ (s.dev.cmp k).queue.length)) (st [(Reg.HDR.STATE (pg .CMP 1), 2), (Reg.HDR.ENABLE (pg .CMP 1), 1), (Reg.HDR.STATE (pg .BAS 0), 2), (Reg.SYS.BRINGUP.BASIN_READY, 1)] fun d => d.setCmp 1 { CmpEng.init with queue := List.replicate 64 [] }) 1 := by decide +kernel

theorem witness_Compressors_2 :
    (fun (s : State) (k : Nat) => (s.live) ∧ (k < 4) ∧ (s.dev.pageOff (0x41 + k) = true)) (st [(Reg.HDR.STATE (pg .CMP 1), 0)]) 1 := by decide +kernel

theorem witness_Compressors_3 :
    (fun (s : State) (k : Nat) (e : Bytes) (rest : List Bytes) => (s.live) ∧ (s.dev.enabled (pg .CMP k) = true) ∧ (s.dev.blk (pg .CMP k) = 1 ∨ s.dev.blk (pg .CMP k) = 2) ∧ ((s.dev.cmp k).job = none) ∧ ((s.dev.cmp k).queue = e :: rest)) (st [(Reg.HDR.STATE (pg .CMP 1), 2), (Reg.HDR.ENABLE (pg .CMP 1), 1), (Reg.HDR.STATE (pg .BAS 0), 2), (Reg.SYS.BRINGUP.BASIN_READY, 1)] fun d => d.setCmp 1 { CmpEng.init with queue := [testEntry] }) 1 testEntry [] := by decide +kernel

theorem witness_Compressors_4 :
    (fun (s : State) (k : Nat) => (s.live) ∧ (s.dev.enabled (pg .CMP k) = false ∨ (s.dev.blk (pg .CMP k) ≠ 1 ∧ s.dev.blk (pg .CMP k) ≠ 2) ∨ (s.dev.cmp k).job.isSome = true ∨ (s.dev.cmp k).queue = [])) (State.reset) 1 := by decide +kernel

theorem witness_Compressors_5 :
    (fun (s : State) (k sp err late : Nat) (host e : Bytes) (d0 d1 : Dev) (whole : Bytes) => (s.live) ∧ ((s.dev.cmp k).job = some e) ∧ (bits (byteAt e 3) 1 0 = sp) ∧ ((delayed (cmpMaster k) late s.dev).bump (Reg.CMP.DLY_CYC.COUNT k) late = d0) ∧ ((if sp = 0 then d0.basinLoad 3 (cmpMaster k) (leAt e 8 8) (leAt e 24 4) err else d0) = d1) ∧ (¬ ((sp = 0 ∧ d1.basinFails (leAt e 8 8) (leAt e 24 4) = true) ∨ (sp = 1 ∧ err ≠ 0))) ∧ ((if sp = 0 then d1.basinRead (leAt e 8 8) (leAt e 24 4) else if sp = 1 then padTo (leAt e 24 4) host
      else memRead 0 d1.sed.mem (leAt e 8 8) (leAt e 24 4)) = whole)) (WCJ) 1 0 0 0 [] testEntry (WCJ0 0) ((WCJ0 0).basinLoad 3 (cmpMaster 1) 0 4 0) (((WCJ0 0).basinLoad 3 (cmpMaster 1) 0 4 0).basinRead 0 4) := by decide +kernel

theorem witness_Compressors_6 :
    (fun (s : State) (k sp err late : Nat) (host e : Bytes) (d0 d1 : Dev) => (s.live) ∧ ((s.dev.cmp k).job = some e) ∧ (bits (byteAt e 3) 1 0 = sp) ∧ ((delayed (cmpMaster k) late s.dev).bump (Reg.CMP.DLY_CYC.COUNT k) late = d0) ∧ ((if sp = 0 then d0.basinLoad 3 (cmpMaster k) (leAt e 8 8) (leAt e 24 4) err else d0) = d1) ∧ (((sp = 0 ∧ d1.basinFails (leAt e 8 8) (leAt e 24 4) = true) ∨ (sp = 1 ∧ err ≠ 0)))) (WCJ) 1 0 2 3 [] testEntry (WCJ0 3) ((WCJ0 3).basinLoad 3 (cmpMaster 1) 0 4 2) := by
  refine ⟨?_, ?_, ?_, ?_, ?_, ?_⟩ <;> first | exact rfl | decide +kernel

theorem witness_Compressors_7 :
    (fun (s : State) (k err late : Nat) (host : Bytes) => (s.live) ∧ ((s.dev.cmp k).job = none)) (State.reset) 1 0 0 [] := by decide +kernel

theorem witness_MotionCommands_0 :
    (fun (s : State) (a : Nat) => (s.live) ∧ (a < 8) ∧ (s.dev.pageOff (0x141 + a) = false) ∧ (s.dev.startReason a = 0)) (st [(Reg.HDR.STATE (pg .MOT 2), 2), (Reg.HDR.ENABLE (pg .MOT 2), 1), (Reg.HDR.STATE (pg .MOTC 0), 2), (Reg.MOT.TARGET.POS 2, 4096), (Reg.MOT.CFG.REQUIRE_HOME 2, 0)] fun d => (d.setAxis 2 Axis.init)) 2 := by decide +kernel

theorem witness_MotionCommands_1 :
    (fun (s : State) (a : Nat) => (s.live) ∧ (a < 8) ∧ (s.dev.pageOff (0x141 + a) = false) ∧ (s.dev.startReason a ≠ 0)) (st [(Reg.HDR.STATE (pg .MOT 2), 2), (Reg.HDR.ENABLE (pg .MOT 2), 1), (Reg.HDR.STATE (pg .MOTC 0), 2)] fun d => (d.setAxis 2 { Axis.init with locked := true })) 2 := by decide +kernel

theorem witness_MotionCommands_2 :
    (fun (s : State) (a : Nat) => (s.live) ∧ (a < 8) ∧ (s.dev.pageOff (0x141 + a) = false) ∧ ((if s.dev.axisOff a = true then 1 else if s.dev.stopFault = true then 2 else if s.dev.limitAhead a (s.dev.homeDir a) = true then 4 else 0) = 0)) (st [(Reg.HDR.STATE (pg .MOT 2), 2), (Reg.HDR.ENABLE (pg .MOT 2), 1), (Reg.HDR.STATE (pg .MOTC 0), 2)] fun d => (d.setAxis 2 Axis.init)) 2 := by decide +kernel

theorem witness_MotionCommands_3 :
    (fun (s : State) (a r : Nat) => (s.live) ∧ (a < 8) ∧ (s.dev.pageOff (0x141 + a) = false) ∧ ((if s.dev.axisOff a = true then 1 else if s.dev.stopFault = true then 2 else if s.dev.limitAhead a (s.dev.homeDir a) = true then 4 else 0) = r) ∧ (r ≠ 0)) (st [(Reg.HDR.STATE (pg .MOT 2), 2), (Reg.HDR.ENABLE (pg .MOT 2), 1), (Reg.HDR.STATE (pg .MOTC 0), 2)] fun d => (d.setAxis 2 { Axis.init with locked := true })) 2 1 := by decide +kernel

theorem witness_MotionCommands_4 :
    (fun (s : State) (a : Nat) => (s.live) ∧ (a < 8) ∧ (s.dev.pageOff (0x141 + a) = false) ∧ ((if s.dev.axisOff a = true then 1 else if s.dev.stopFault = true then 2 else if (s.dev.axis a).moving = true ∨ (s.dev.axis a).phase ≠ AxisPhase.idle then 7 else 0) = 0)) (st [(Reg.HDR.STATE (pg .MOT 2), 2), (Reg.HDR.ENABLE (pg .MOT 2), 1), (Reg.HDR.STATE (pg .MOTC 0), 2), (Reg.MOT.POS_SET.POS 2, 77)] fun d => (d.setAxis 2 Axis.init)) 2 := by decide +kernel

theorem witness_MotionCommands_5 :
    (fun (s : State) (a r : Nat) => (s.live) ∧ (a < 8) ∧ (s.dev.pageOff (0x141 + a) = false) ∧ ((if s.dev.axisOff a = true then 1 else if s.dev.stopFault = true then 2 else if (s.dev.axis a).moving = true ∨ (s.dev.axis a).phase ≠ AxisPhase.idle then 7 else 0) = r) ∧ (r ≠ 0)) (st [(Reg.HDR.STATE (pg .MOT 2), 2), (Reg.HDR.ENABLE (pg .MOT 2), 1), (Reg.HDR.STATE (pg .MOTC 0), 2)] fun d => (d.setAxis 2 { Axis.init with phase := .move, vel := 5000, tgt := 100000000 })) 2 7 := by decide +kernel

theorem witness_MotionCommands_6 :
    (fun (s : State) (a : Nat) => (s.live) ∧ (a < 8) ∧ (s.dev.pageOff (0x141 + a) = false)) (st [(Reg.HDR.STATE (pg .MOT 2), 2), (Reg.HDR.ENABLE (pg .MOT 2), 1), (Reg.HDR.STATE (pg .MOTC 0), 2)] fun d => (d.setAxis 2 { Axis.init with phase := .move, vel := 5000, tgt := 100000000 })) 2 := by decide +kernel

theorem witness_MotionCommands_7 :
    (fun (s : State) (a : Nat) => (s.live) ∧ (a < 8) ∧ (s.dev.pageOff (0x141 + a) = false)) (st [(Reg.HDR.STATE (pg .MOT 2), 2), (Reg.HDR.ENABLE (pg .MOT 2), 1), (Reg.HDR.STATE (pg .MOTC 0), 2)] fun d => (d.setAxis 2 { Axis.init with phase := .move, vel := 5000, tgt := 100000000 })) 2 := by decide +kernel

theorem witness_MotionCommands_8 :
    (fun (s : State) (d1 : Dev) => (s.live) ∧ (s.dev.pageOff 0x140 = false) ∧ ((let t := (List.range 8).foldl (fun d a => axisStop a false d) s.dev; { t with motc := { t.motc with stopAll := true } }) = d1)) (st [(Reg.HDR.STATE (pg .MOT 2), 2), (Reg.HDR.ENABLE (pg .MOT 2), 1), (Reg.HDR.STATE (pg .MOTC 0), 2)] fun d => (d.setAxis 2 { Axis.init with phase := .move, vel := 5000, tgt := 100000000 })) (let t := (List.range 8).foldl (fun d a => axisStop a false d) (st [(Reg.HDR.STATE (pg .MOT 2), 2), (Reg.HDR.ENABLE (pg .MOT 2), 1), (Reg.HDR.STATE (pg .MOTC 0), 2)] fun d => (d.setAxis 2 { Axis.init with phase := .move, vel := 5000, tgt := 100000000 })).dev; { t with motc := { t.motc with stopAll := true } }) := by decide +kernel

theorem witness_MotionCommands_9 :
    (fun (s : State)  => (s.live) ∧ (s.dev.pageOff 0x140 = false) ∧ (∀ a ∈ List.range 8, (s.dev.axis a).phase = AxisPhase.idle) ∧ (s.dev.motc.stopAll = false)) (st [(Reg.HDR.STATE (pg .MOT 2), 2), (Reg.HDR.ENABLE (pg .MOT 2), 1), (Reg.HDR.STATE (pg .MOTC 0), 2)] fun d => (d.setAxis 2 Axis.init)) := by decide +kernel

theorem witness_MotionCommands_10 :
    (fun (s : State)  => (s.live) ∧ (s.dev.pageOff 0x140 = true)) (st [(Reg.HDR.STATE (pg .MOTC 0), 0)]) := by decide +kernel

theorem witness_MotionCommands_11 :
    (fun (s : State) (a : Nat) => (s.live) ∧ (a < 8) ∧ (s.dev.pageOff (0x141 + a) = true)) (st [(Reg.HDR.STATE (pg .MOT 2), 0)]) 2 := by decide +kernel

theorem witness_MotionCommands_12 :
    (fun (s : State) (a : Nat) => (s.live) ∧ (a < 8) ∧ (s.dev.pageOff (0x141 + a) = true)) (st [(Reg.HDR.STATE (pg .MOT 2), 0)]) 2 := by decide +kernel

theorem witness_MotionCommands_13 :
    (fun (s : State) (a : Nat) => (s.live) ∧ (a < 8) ∧ (s.dev.pageOff (0x141 + a) = true)) (st [(Reg.HDR.STATE (pg .MOT 2), 0)]) 2 := by decide +kernel

theorem witness_MotionCommands_14 :
    (fun (s : State) (a : Nat) => (s.live) ∧ (a < 8) ∧ (s.dev.pageOff (0x141 + a) = true)) (st [(Reg.HDR.STATE (pg .MOT 2), 0)]) 2 := by decide +kernel

theorem witness_MotionCommands_15 :
    (fun (s : State) (a : Nat) => (s.live) ∧ (a < 8) ∧ (s.dev.pageOff (0x141 + a) = true)) (st [(Reg.HDR.STATE (pg .MOT 2), 0)]) 2 := by decide +kernel

theorem witness_MotionEvents_0 :
    (fun (s : State) (loads : List Nat) (d1 : Dev) => (s.live) ∧ ((List.range 8).foldl (fun d a => axisPlan a (nth 1023 loads a) d) ((s.dev.advanceTo ((s.dev.due .planner).getD s.dev.time.up)).arm .planner (8 * us)) = d1)) (st [(Reg.HDR.STATE (pg .MOT 2), 2), (Reg.HDR.ENABLE (pg .MOT 2), 1), (Reg.HDR.STATE (pg .MOTC 0), 2)] fun d => (d.setAxis 2 Axis.init)) [] ((List.range 8).foldl (fun d a => axisPlan a 1023 d) ((st [(Reg.HDR.STATE (pg .MOT 2), 2), (Reg.HDR.ENABLE (pg .MOT 2), 1), (Reg.HDR.STATE (pg .MOTC 0), 2)] fun d => (d.setAxis 2 Axis.init)).dev.arm .planner (8 * us))) := by decide +kernel

theorem witness_MotionEvents_1 :
    (fun (s : State) (a t : Nat) => (s.live) ∧ (s.dev.due (.inPos a) = some t)) (st [(Reg.HDR.STATE (pg .MOT 2), 2), (Reg.HDR.ENABLE (pg .MOT 2), 1), (Reg.HDR.STATE (pg .MOTC 0), 2)] fun d => (d.setAxis 2 Axis.init).arm (.inPos 2) 9) 2 9 := by decide +kernel

theorem witness_MotionEvents_2 :
    (fun (s : State) (a : Nat) => (s.live) ∧ (s.dev.due (.inPos a) = none)) (State.reset) 2 := by decide +kernel

theorem witness_MotionEvents_3 :
    (fun (s : State) (a t : Nat) => (s.live) ∧ (s.dev.due (.hold a) = some t)) (st [(Reg.HDR.STATE (pg .MOT 2), 2), (Reg.HDR.ENABLE (pg .MOT 2), 1), (Reg.HDR.STATE (pg .MOTC 0), 2), (Reg.MOT.CURRENT.I_HOLD 2, 300), (Reg.MOT.STAT.OFF 2, 0)] fun d => (d.setAxis 2 Axis.init).arm (.hold 2) 9) 2 9 := by decide +kernel

theorem witness_MotionEvents_4 :
    (fun (s : State) (a : Nat) => (s.live) ∧ (s.dev.due (.hold a) = none)) (State.reset) 2 := by decide +kernel

theorem witness_MotionEvents_5 :
    (fun (s : State) (a phase code : Nat) (c i : Int) => (s.live) ∧ (s.dev.is (Reg.MOT.STAT.OFF a) = false) ∧ (max 0 ((code : Int) + s.dev.trim 13 (2 * a + phase)) = c) ∧ (c * (s.dev.get (Reg.MOT.SENSE_CFG.FS_MA a) : Nat) / 4095 = i) ∧ (((s.dev.get (Reg.MOT.SENSE_CFG.OC_LIM a) : Nat) : Int) < i)) (st [(Reg.HDR.STATE (pg .MOT 2), 2), (Reg.HDR.ENABLE (pg .MOT 2), 1), (Reg.HDR.STATE (pg .MOTC 0), 2), (Reg.MOT.STAT.OFF 2, 0), (Reg.MOT.SENSE_CFG.FS_MA 2, 4000), (Reg.MOT.SENSE_CFG.OC_LIM 2, 100)] fun d => (d.setAxis 2 { Axis.init with phase := .move, vel := 5000, tgt := 100000000 })) 2 0 4000 (max 0 ((4000 : Int) + (st [(Reg.HDR.STATE (pg .MOT 2), 2), (Reg.HDR.ENABLE (pg .MOT 2), 1), (Reg.HDR.STATE (pg .MOTC 0), 2), (Reg.MOT.STAT.OFF 2, 0), (Reg.MOT.SENSE_CFG.FS_MA 2, 4000), (Reg.MOT.SENSE_CFG.OC_LIM 2, 100)] fun d => (d.setAxis 2 { Axis.init with phase := .move, vel := 5000, tgt := 100000000 })).dev.trim 13 4)) ((max 0 ((4000 : Int) + (st [(Reg.HDR.STATE (pg .MOT 2), 2), (Reg.HDR.ENABLE (pg .MOT 2), 1), (Reg.HDR.STATE (pg .MOTC 0), 2), (Reg.MOT.STAT.OFF 2, 0), (Reg.MOT.SENSE_CFG.FS_MA 2, 4000), (Reg.MOT.SENSE_CFG.OC_LIM 2, 100)] fun d => (d.setAxis 2 { Axis.init with phase := .move, vel := 5000, tgt := 100000000 })).dev.trim 13 4)) * 4000 / 4095) := by decide +kernel

theorem witness_MotionEvents_6 :
    (fun (s : State) (a phase code q : Nat) (low : Bool) (c i : Int) (d1 : Dev) => (s.live) ∧ (s.dev.is (Reg.MOT.STAT.OFF a) = false) ∧ (max 0 ((code : Int) + s.dev.trim 13 (2 * a + phase)) = c) ∧ (c * (s.dev.get (Reg.MOT.SENSE_CFG.FS_MA a) : Nat) / 4095 = i) ∧ (i ≤ ((s.dev.get (Reg.MOT.SENSE_CFG.OC_LIM a) : Nat) : Int)) ∧ ((decide (s.dev.get (Reg.MOT.CURRENT.I_RUN a) ≤ 4 * (s.dev.setPoint a phase).natAbs) && decide (8 * i < (s.dev.setPoint a phase).natAbs)) = low) ∧ ((if low then nth 0 (s.dev.axis a).opens phase + 1 else 0) = q) ∧ ((let x := s.dev.axis a; { s.dev.drawn with axes := tset Axis.init a { x with opens := setNth (if q = 16 then 0 else q) x.opens phase, duty := setNth (Config.freeValue s.dev.free) x.duty phase } s.dev.axes }) = d1)) (WPW) 2 0 4000 WPWQ WPWL (max 0 ((4000 : Int) + WPW.dev.trim 13 4)) ((max 0 ((4000 : Int) + WPW.dev.trim 13 4)) * 4000 / 4095) (let x := WPW.dev.axis 2; { WPW.dev.drawn with axes := tset Axis.init 2 { x with opens := setNth (if WPWQ = 16 then 0 else WPWQ) x.opens 0, duty := setNth (Config.freeValue WPW.dev.free) x.duty 0 } WPW.dev.axes }) := by
  refine ⟨by decide +kernel, by decide +kernel, by decide +kernel, by decide +kernel, by decide +kernel, rfl, rfl, rfl⟩

theorem witness_MotionEvents_7 :
    (fun (s : State) (a phase code : Nat) => (s.live) ∧ (s.dev.is (Reg.MOT.STAT.OFF a) = true)) (st [(Reg.MOT.STAT.OFF 2, 1)]) 2 0 9 := by decide +kernel

theorem witness_MotionEvents_8 :
    (fun (s : State) (a lim dt : Nat) (high : Bool) => (s.live) ∧ (lim < 2) ∧ (nth false (s.dev.axis a).raw lim = (high != (s.dev.get (Reg.MOT.CFG.LIM_POL a)).testBit lim))) (st [(Reg.HDR.STATE (pg .MOT 2), 2), (Reg.HDR.ENABLE (pg .MOT 2), 1), (Reg.HDR.STATE (pg .MOTC 0), 2)] fun d => (d.setAxis 2 Axis.init)) 2 1 5 false := by decide +kernel

theorem witness_MotionEvents_9 :
    (fun (s : State) (a lim dt q : Nat) (high tripped fresh : Bool) (x : Axis) (d0 d1 d2 d3 : Dev) => (s.live) ∧ (lim < 2) ∧ ((high != (s.dev.get (Reg.MOT.CFG.LIM_POL a)).testBit lim) = tripped) ∧ (s.dev.advance dt = d0) ∧ (nth false (d0.axis a).raw lim ≠ tripped) ∧ (decide (nth 0 (d0.axis a).winEnd lim ≤ d0.time.up) = fresh) ∧ ((if fresh then 1 else nth 0 (d0.axis a).edges lim + 1) = q) ∧ ((let x := d0.axis a; { x with raw := setNth tripped x.raw lim, edges := setNth q x.edges lim, winEnd := if fresh then setNth (d0.time.up + d0.debounce a) x.winEnd lim else x.winEnd }) = x) ∧ ((if (tripped && fresh && !d0.is (limitFlag a lim)) = true then
      (({ d0 with axes := tset Axis.init a x d0.axes } : Dev).set (Reg.MOT.LATCH_POS.POS a) (d0.get (Reg.MOT.POS.POS a))).set (Reg.MOT.LATCH_SRC.SRC a) lim
    else { d0 with axes := tset Axis.init a x d0.axes }) = d1) ∧ ((if tripped = true ∧ x.homing = 1 ∧ d1.get (Reg.MOT.CFG.HOME_MODE a) = lim then homeReference a false d1 else d1) = d2) ∧ ((if q = d2.get (Reg.MOT.DEBOUNCE.CHATTER a) + 1 ∧ fresh = false then d2.raise a Kind.MOT.SWITCH_UNRELIABLE { arg := lim } else d2) = d3)) (WLM) 2 1 0 1 true true true WLMX WLM.dev WLM1 WLM1 WLM1 := by decide +kernel

theorem witness_MotionEvents_10 :
    (fun (s : State) (a lim : Nat) => (s.live) ∧ (lim < 2) ∧ (nth false (s.dev.axis a).raw lim = false) ∧ ((s.dev.get (Reg.MOT.CFG.LIM_POL a)).testBit lim = false) ∧ (nth 0 (s.dev.axis a).winEnd lim ≤ s.dev.time.up) ∧ (s.dev.is (limitFlag a lim) = false) ∧ ((s.dev.axis a).homing = 0) ∧ (s.dev.debounce a ≠ 0)) (st [(Reg.HDR.STATE (pg .MOT 2), 2), (Reg.HDR.ENABLE (pg .MOT 2), 1), (Reg.HDR.STATE (pg .MOTC 0), 2), (Reg.MOT.DEBOUNCE.US 2, 10)] fun d => (d.setAxis 2 Axis.init)) 2 1 := by decide +kernel

theorem witness_MotionEvents_11 :
    (fun (s : State) (a lim t : Nat) => (s.live) ∧ (s.dev.due (.debounce a lim) = some t)) (st [(Reg.HDR.STATE (pg .MOT 2), 2), (Reg.HDR.ENABLE (pg .MOT 2), 1), (Reg.HDR.STATE (pg .MOTC 0), 2)] fun d => (d.setAxis 2 { Axis.init with raw := [false, true], vel := 5 }).arm (.debounce 2 1) 9) 2 1 9 := by decide +kernel

theorem witness_MotionEvents_12 :
    (fun (s : State) (a lim t : Nat) => (s.live) ∧ (lim < 2) ∧ (s.dev.due (.debounce a lim) = some t) ∧ (nth false (s.dev.axis a).raw lim = true) ∧ ((s.dev.axis a).vel = 0)) (st [(Reg.HDR.STATE (pg .MOT 2), 2), (Reg.HDR.ENABLE (pg .MOT 2), 1), (Reg.HDR.STATE (pg .MOTC 0), 2)] fun d => (d.setAxis 2 { Axis.init with raw := [false, true] }).arm (.debounce 2 1) 9) 2 1 9 := by decide +kernel

theorem witness_MotionEvents_13 :
    (fun (s : State) (a lim : Nat) => (s.live) ∧ (s.dev.due (.debounce a lim) = none)) (State.reset) 2 1 := by decide +kernel

theorem witness_MotionEvents_14 :
    (fun (s : State)  => (s.live) ∧ (s.dev.pageOff 0x140 = false) ∧ ((s.dev.mode ≠ 1 ∨ s.dev.is Reg.MOTC.SPIT_STAT.BUSY = true ∨ s.dev.enabled (pg .MOTC 0) = false ∨ s.dev.refuses (pg .MOTC 0) = true))) (st [(Reg.HDR.STATE (pg .MOTC 0), 2)]) := by decide +kernel

theorem witness_MotionEvents_15 :
    (fun (s : State) (d1 : Dev) => (s.live) ∧ (s.dev.pageOff 0x140 = false) ∧ (¬ (s.dev.mode ≠ 1 ∨ s.dev.is Reg.MOTC.SPIT_STAT.BUSY = true ∨ s.dev.enabled (pg .MOTC 0) = false ∨ s.dev.refuses (pg .MOTC 0) = true)) ∧ ((let t := s.dev.put Reg.MOTC.SPIT_STAT.BUSY true; { t with motc := { t.motc with ending := false, spits := ((bitList 64 (s.dev.get Reg.MOTC.SPIT_PORTS.PORTS)).filter s.dev.spitReady).map fun n => (n, (max 1 (s.dev.get Reg.MOTC.SPIT_CFG.COUNT), s.dev.time.up)) } }) = d1)) (WSPG 6) (let t := (WSPG 6).dev.put Reg.MOTC.SPIT_STAT.BUSY true; { t with motc := { t.motc with ending := false, spits := ((bitList 64 6).filter (WSPG 6).dev.spitReady).map fun n => (n, (max 1 ((WSPG 6).dev.get Reg.MOTC.SPIT_CFG.COUNT), (WSPG 6).dev.time.up)) } }) := by decide +kernel

theorem witness_MotionEvents_16 :
    (fun (s : State)  => (s.live) ∧ (s.dev.pageOff 0x140 = false) ∧ (s.dev.mode = 1) ∧ (s.dev.is Reg.MOTC.SPIT_STAT.BUSY = false) ∧ (s.dev.enabled (pg .MOTC 0) = true) ∧ (s.dev.refuses (pg .MOTC 0) = false) ∧ (∀ n ∈ bitList 64 (s.dev.get Reg.MOTC.SPIT_PORTS.PORTS), s.dev.spitReady n = true) ∧ (s.dev.get Reg.MOTC.SPIT_PORTS.PORTS % 2 ^ 64 ≠ 0)) (WSPG 4) := by decide +kernel

theorem witness_MotionEvents_17 :
    (fun (s : State)  => (s.live) ∧ (s.dev.pageOff 0x140 = true)) (st [(Reg.HDR.STATE (pg .MOTC 0), 0)]) := by decide +kernel

theorem witness_MotionEvents_18 :
    (fun (s : State) (n left due : Nat) (g : Geom) (d1 : Dev) => (s.live) ∧ (s.dev.spitOf n = some (left, due)) ∧ (s.dev.geom n = some g) ∧ (left ≠ 0) ∧ (s.dev.spitting n = false) ∧ (s.dev.runs (pg .MOTC 0) = true) ∧ (s.dev.advanceTo due = d1) ∧ (d1.spitReady n = true)) (WSPC) 2 3 5 testGeom (WSPC.dev.advanceTo 5) := by decide +kernel

theorem witness_MotionEvents_19 :
    (fun (s : State) (n left due : Nat) (g : Geom) (d1 : Dev) => (s.live) ∧ (s.dev.spitOf n = some (left, due)) ∧ (s.dev.geom n = some g) ∧ (left ≠ 0) ∧ (s.dev.spitting n = false) ∧ (s.dev.runs (pg .MOTC 0) = true) ∧ (s.dev.advanceTo due = d1) ∧ (d1.spitReady n = false)) (WSPCH) 2 3 5 testGeom (WSPCH.dev.advanceTo 5) := by decide +kernel

theorem witness_MotionEvents_20 :
    (fun (s : State) (n left due : Nat) => (s.live) ∧ (s.dev.spitOf n = some (left, due)) ∧ (s.dev.geom n = none)) (st [] fun d => { d with motc := { d.motc with spits := [(2, (3, 5))] } }) 2 3 5 := by decide +kernel

theorem witness_MotionEvents_21 :
    (fun (s : State) (n : Nat) => (s.live) ∧ (s.dev.spitOf n = none ∨ ((s.dev.geom n).isSome = true ∧ (∃ x ∈ s.dev.spitOf n, x.1 = 0 ∨ s.dev.spitting n = true ∨ s.dev.runs (pg .MOTC 0) = false)))) (State.reset) 2 := by decide +kernel

theorem witness_MotionEvents_22 :
    (fun (s : State) (l : List (Nat × Nat × Nat)) => (s.live) ∧ (s.dev.pageOff 0x140 = false) ∧ (s.dev.is Reg.MOTC.SPIT_STAT.BUSY = true) ∧ (s.dev.motc.spits = l)) (st [(Reg.HDR.STATE (pg .MOTC 0), 2), (Reg.HDR.ENABLE (pg .MOTC 0), 1), (Reg.HPT.LINK_STAT.STATE 2, 6), (Reg.SYS.BRINGUP.HEAD_POWER_ARMED, 1), (Reg.SYS.MODE_STAT.MODE, 1), (Reg.MOTC.SPIT_STAT.BUSY, 1)] fun d => { d with motc := { d.motc with spits := [(2, (3, 5)), (4, (0, 6))] } }) [(2, (3, 5)), (4, (0, 6))] := by decide +kernel

theorem witness_MotionEvents_23 :
    (fun (s : State)  => (s.live) ∧ (s.dev.pageOff 0x140 = false) ∧ (s.dev.is Reg.MOTC.SPIT_STAT.BUSY = true) ∧ (s.dev.motc.spits = [])) (st [(Reg.HDR.STATE (pg .MOTC 0), 2), (Reg.HDR.ENABLE (pg .MOTC 0), 1), (Reg.HPT.LINK_STAT.STATE 2, 6), (Reg.SYS.BRINGUP.HEAD_POWER_ARMED, 1), (Reg.SYS.MODE_STAT.MODE, 1), (Reg.MOTC.SPIT_STAT.BUSY, 1)]) := by decide +kernel

theorem witness_MotionEvents_24 :
    (fun (s : State)  => (s.live) ∧ (s.dev.pageOff 0x140 = false) ∧ (s.dev.is Reg.MOTC.SPIT_STAT.BUSY = false)) (st [(Reg.HDR.STATE (pg .MOTC 0), 2), (Reg.HDR.ENABLE (pg .MOTC 0), 1), (Reg.HPT.LINK_STAT.STATE 2, 6), (Reg.SYS.BRINGUP.HEAD_POWER_ARMED, 1), (Reg.SYS.MODE_STAT.MODE, 1)]) := by decide +kernel

theorem witness_MotionEvents_25 :
    (fun (s : State)  => (s.live) ∧ (s.dev.pageOff 0x140 = true)) (st [(Reg.HDR.STATE (pg .MOTC 0), 0)]) := by decide +kernel

theorem witness_FaultMessages_0 :
    (fun (s : State) (m : FaultMsg) (rest : List FaultMsg) => (s.live) ∧ (s.dev.flt.inbox = m :: rest)) (st [] fun d => d.raise 0 Kind.FLT.SAFE_IN) ((st [] fun d => d.raise 0 Kind.FLT.SAFE_IN).dev.flt.inbox.getD 0 WMSG) [] := by decide +kernel

theorem witness_FaultMessages_1 :
    (fun (s : State)  => (s.live) ∧ (s.dev.flt.inbox = [])) (State.reset) := by decide +kernel

theorem witness_FaultMessages_2 :
    (fun (s : State) (i : Nat) (x : Slot) => (s.live) ∧ (s.dev.pageOff 5 = false) ∧ (i < 64) ∧ (aget i s.dev.flt.slots = some x) ∧ (s.dev.freeable x.sev = true)) (WSL 3) 5 (WSLOT 3) := by decide +kernel

theorem witness_FaultMessages_3 :
    (fun (s : State) (i : Nat) => (s.live) ∧ (s.dev.pageOff 5 = false) ∧ (i < 64) ∧ (∀ x ∈ aget i s.dev.flt.slots, s.dev.freeable x.sev = false)) (WSL 5) 5 := by decide +kernel

theorem witness_FaultMessages_4 :
    (fun (s : State)  => (s.live) ∧ (s.dev.pageOff 5 = false) ∧ (s.dev.get Reg.FLT.ACK.SLOT < 64)) (WSL 3) := by decide +kernel

theorem witness_FaultMessages_5 :
    (fun (s : State)  => (s.live) ∧ (s.dev.pageOff 5 = false) ∧ (s.dev.get Reg.FLT.ACK.SLOT < 64)) (st [] fun d => { d with flt := { d.flt with memoHeld := true } }) := by decide +kernel

theorem witness_FaultMessages_6 :
    (fun (s : State)  => (s.live)) (State.reset) := by decide +kernel

theorem witness_FaultMessages_7 :
    (fun (s : State) (d1 : Dev) => (s.live) ∧ ((s.dev.advanceTo ((s.dev.due .ripple).getD s.dev.time.up)).arm .ripple s.dev.rippleHalf = d1)) (State.reset) ((State.reset.dev.advanceTo 0).arm .ripple State.reset.dev.rippleHalf) := by decide +kernel

theorem witness_FaultMessages_8 :
    (fun (s : State) (d1 : Dev) => (s.live) ∧ (s.dev.pageOff 5 = false) ∧ (levelSync { s.dev with flt := { s.dev.flt with kickMissed := false } } = d1)) (st [(Reg.FLT.RIPPLE.KICK_EN, 1)] fun d => { d with flt := { d.flt with kickMissed := true } }) (levelSync { (st [(Reg.FLT.RIPPLE.KICK_EN, 1)]).dev with flt := { State.reset.dev.flt with kickMissed := false } }) := by decide +kernel

theorem witness_FaultMessages_9 :
    (fun (s : State) (t : Nat) => (s.live) ∧ (s.dev.due .kick = some t)) (WKICK) 9 := by decide +kernel

theorem witness_FaultMessages_10 :
    (fun (s : State)  => (s.live) ∧ (s.dev.due .kick = none)) (State.reset) := by decide +kernel

theorem witness_FaultMessages_11 :
    (fun (s : State)  => (s.live)) (State.reset) := by decide +kernel

theorem witness_FaultMessages_12 :
    (fun (s : State) (d1 : Dev) => (s.live) ∧ (¬ (s.dev.quietMs = 0 ∨ s.dev.level ≠ 4 ∨ s.dev.flt.safeInLow = true ∨ s.dev.flt.pfailLow = true ∨
      ¬ (s.dev.get Reg.FLT.QUIET.RECOV_MAX = 0 ∨ s.dev.get Reg.FLT.RECOV_CNT.COUNT < s.dev.get Reg.FLT.QUIET.RECOV_MAX))) ∧ (s.dev.advanceTo (s.dev.flt.calmSince + s.dev.quietMs * ms) = d1)) (WQ) (WQ.dev.advanceTo (WQ.dev.flt.calmSince + WQ.dev.quietMs * ms)) := by decide +kernel

theorem witness_FaultMessages_13 :
    (fun (s : State)  => (s.live) ∧ ((s.dev.quietMs = 0 ∨ s.dev.level ≠ 4 ∨ s.dev.flt.safeInLow = true ∨ s.dev.flt.pfailLow = true ∨
      ¬ (s.dev.get Reg.FLT.QUIET.RECOV_MAX = 0 ∨ s.dev.get Reg.FLT.RECOV_CNT.COUNT < s.dev.get Reg.FLT.QUIET.RECOV_MAX)))) (State.reset) := by decide +kernel

theorem witness_FaultMessages_14 :
    (fun (s : State) (source kind sev page : Nat) (d1 : Dev) => (s.live) ∧ (s.dev.pageOff 5 = false) ∧ (s.dev.is (Reg.HDR.LEVEL 5) = true ∨ (s.dev.get Reg.FLT.INJECT.SOURCE = source ∧ s.dev.get Reg.FLT.INJECT.KIND = kind ∧ s.dev.get Reg.FLT.INJECT.SEV = sev)) ∧ (source < 256) ∧ (kind < 256) ∧ (sev < 8) ∧ ((match sourceBits source with | t :: _ => pg t.1 t.2.1 | [] => pg .FLT 0) = page) ∧ (((s.dev.set Reg.FLT.INJECT.SOURCE source).set Reg.FLT.INJECT.KIND kind).set Reg.FLT.INJECT.SEV sev = d1)) (st [(Reg.HDR.LEVEL 5, 1)]) 24 6 3 (match sourceBits 24 with | t :: _ => pg t.1 t.2.1 | [] => pg .FLT 0) (((((st [(Reg.HDR.LEVEL 5, 1)]).dev.set Reg.FLT.INJECT.SOURCE 24).set Reg.FLT.INJECT.KIND 6).set Reg.FLT.INJECT.SEV 3)) := by decide +kernel

theorem witness_FaultMessages_15 :
    (fun (s : State) (source kind sev : Nat) => (s.live) ∧ (s.dev.pageOff 5 = false) ∧ (s.dev.is (Reg.HDR.LEVEL 5) = true ∨ (s.dev.get Reg.FLT.INJECT.SOURCE = source ∧ s.dev.get Reg.FLT.INJECT.KIND = kind ∧ s.dev.get Reg.FLT.INJECT.SEV = sev)) ∧ (source < 256) ∧ (kind < 256) ∧ (sev < 6) ∧ (s.dev.pairKnown source kind = true)) (st [(Reg.HDR.LEVEL 5, 1)]) 24 6 3 := by decide +kernel

theorem witness_FaultMessages_16 :
    (fun (s : State) (source kind sev : Nat) => (s.live) ∧ (s.dev.pageOff 5 = false) ∧ (s.dev.is (Reg.HDR.LEVEL 5) = false) ∧ (s.dev.get Reg.FLT.INJECT.SOURCE ≠ source ∨ s.dev.get Reg.FLT.INJECT.KIND ≠ kind ∨ s.dev.get Reg.FLT.INJECT.SEV ≠ sev) ∧ (source < 256) ∧ (kind < 256) ∧ (sev < 8)) (State.reset) 24 6 3 := by decide +kernel

theorem witness_FaultMessages_17 :
    (fun (s : State) (source kind : Nat) => (s.live) ∧ (s.dev.pageOff 5 = false) ∧ (source < 256) ∧ (kind < 256) ∧ (¬(source = 152 ∧ kind = 6))) (State.reset) 22 1 := by decide +kernel

theorem witness_FaultMessages_18 :
    (fun (s : State)  => (s.live) ∧ (s.dev.pageOff 5 = false)) (State.reset) := by decide +kernel

theorem witness_FaultMessages_19 :
    (fun (s : State) (key : Nat) => (s.live) ∧ (s.dev.pageOff 5 = false) ∧ (key < 2 ^ 32) ∧ (key % 65536 = 0xF4E7) ∧ (s.dev.level ≠ 5)) (State.reset) 0xF4E7 := by decide +kernel

theorem witness_FaultMessages_20 :
    (fun (s : State) (key : Nat) => (s.live) ∧ (s.dev.pageOff 5 = false) ∧ (key < 2 ^ 32) ∧ (key % 65536 ≠ 0xF4E7 ∨ s.dev.level = 5)) (State.reset) 5 := by decide +kernel

theorem witness_FaultMessages_21 :
    (fun (s : State) (i a b : Nat) => (s.live) ∧ (s.dev.pageOff 5 = true)) (st [(Reg.HDR.STATE 5, 0)]) 1 2 3 := by decide +kernel

theorem witness_SedimentLog_0 :
    (fun (s : State) (r : SedRec) (rest : List SedRec) (d0 d1 : Dev) => (s.live) ∧ (s.dev.sed.fifo = r :: rest) ∧ (s.dev.sed.post ≠ some 0) ∧ (s.dev.sedProtected (s.dev.get Reg.SED.HEAD.SEQ) = false) ∧ (({ s.dev with sed := { s.dev.sed with fifo := rest } } : Dev) = d0) ∧ ((d0.set Reg.SED.HEAD.SEQ ((s.dev.get Reg.SED.HEAD.SEQ + 1) % 65536)).bump Reg.SED.TOTAL.COUNT 1 = d1)) (WSR) WREC [] ({ WSR.dev with sed := { WSR.dev.sed with fifo := [] } }) ((({ WSR.dev with sed := { WSR.dev.sed with fifo := [] } } : Dev).set Reg.SED.HEAD.SEQ 1).bump Reg.SED.TOTAL.COUNT 1) := by decide +kernel

theorem witness_SedimentLog_1 :
    (fun (s : State) (r : SedRec) (rest : List SedRec) => (s.live) ∧ (s.dev.sed.fifo = r :: rest) ∧ (s.dev.sed.post ≠ some 0) ∧ (s.dev.sedProtected (s.dev.get Reg.SED.HEAD.SEQ) = true)) (st [(Reg.SED.STAT.PROTECT, 1), (Reg.SED.PROT.FIRST, 32760), (Reg.SED.PROT.LAST, 32770)] fun d => { d with sed := { d.sed with fifo := [WREC] } }) WREC [] := by decide +kernel

theorem witness_SedimentLog_2 :
    (fun (s : State)  => (s.live) ∧ (s.dev.sed.fifo = [] ∨ s.dev.sed.post = some 0)) (State.reset) := by decide +kernel

theorem witness_SedimentLog_3 :
    (fun (s : State)  => (s.live) ∧ (s.dev.sed.post = some 0) ∧ (s.dev.is Reg.SED.STAT.FROZEN = false)) (st [] fun d => { d with sed := { d.sed with fifo := [WREC], post := some 0 } }) := by decide +kernel

theorem witness_SedimentLog_4 :
    (fun (s : State)  => (s.live) ∧ (s.dev.sed.post ≠ some 0 ∨ s.dev.is Reg.SED.STAT.FROZEN = true)) (State.reset) := by decide +kernel

theorem witness_SedimentLog_5 :
    (fun (s : State)  => (s.live) ∧ (s.dev.pageOff 6 = false) ∧ (s.dev.is Reg.SED.STAT.FROZEN = false)) (st [] fun d => { d with sed := { d.sed with fifo := [WREC] } }) := by decide +kernel

theorem witness_SedimentLog_6 :
    (fun (s : State)  => (s.live) ∧ (s.dev.pageOff 6 = false) ∧ (s.dev.is Reg.SED.STAT.FROZEN = true)) (st [(Reg.SED.STAT.FROZEN, 1)]) := by decide +kernel

theorem witness_SedimentLog_7 :
    (fun (s : State)  => (s.live) ∧ (s.dev.pageOff 6 = false)) (st [(Reg.SED.STAT.FROZEN, 1)]) := by decide +kernel

theorem witness_SedimentLog_8 :
    (fun (s : State)  => (s.live) ∧ (s.dev.pageOff 6 = false)) (st [(Reg.SED.DUMP_CFG.EN, 1)] fun d => { d with sed := { d.sed with region := 2 } }) := by decide +kernel

theorem witness_SedimentLog_9 :
    (fun (s : State)  => (s.live) ∧ (s.dev.sed.region = 3)) (st [] fun d => { d with sed := { d.sed with region := 3 }, flash := [⟨5, 1⟩] }) := by decide +kernel

theorem witness_SedimentLog_10 :
    (fun (s : State)  => (s.live) ∧ (s.dev.sed.region ≠ 3)) (State.reset) := by decide +kernel

theorem witness_SedimentLog_11 :
    (fun (s : State) (d0 d1 : Dev) => (s.live) ∧ (s.dev.flt.pfailLow = false) ∧ ((if s.dev.sec.cmd.isSome = true ∧ s.dev.fusing = false then
      secEnd 0x10 (dropCopies s.dev) else s.dev) = d0) ∧ (({ d0 with flt := { d0.flt with pfailLow := true } }).raise 0 Kind.FLT.PFAIL = d1)) (State.reset) State.reset.dev (({ State.reset.dev with flt := { State.reset.dev.flt with pfailLow := true } }).raise 0 Kind.FLT.PFAIL) := by decide +kernel

theorem witness_SedimentLog_12 :
    (fun (s : State)  => (s.live) ∧ (s.dev.flt.pfailLow = true)) (st [] fun d => { d with flt := { d.flt with pfailLow := true } }) := by decide +kernel

theorem witness_SedimentLog_13 :
    (fun (s : State) (x : Dump) (pk : List Bytes) (d1 : Dev) => (s.live) ∧ (s.dev.sed.dump = some x) ∧ (x.started = false) ∧ (s.dev.spif = none) ∧ (s.dev.is Reg.SED.DUMP_CFG.EN = true) ∧ (s.dev.sed.region = 1) ∧ (cmpCut 3 5 s.dev = d1) ∧ (((List.range x.blocks.length).map fun b => packBlock 1 (Config.tokens 2 1 4096 0 (x.blocks.flatMap id) b) (nth [] x.blocks b)) = pk)) (st [(Reg.SED.DUMP_CFG.EN, 1)] fun d => { d with sed := { d.sed with region := 1, dump := some WDUMP } }) WDUMP [] (st [(Reg.SED.DUMP_CFG.EN, 1)] fun d => { d with sed := { d.sed with region := 1, dump := some WDUMP } }).dev := by decide +kernel

theorem witness_SedimentLog_14 :
    (fun (s : State) (x : Dump) => (s.live) ∧ (s.dev.sed.dump = some x) ∧ (x.started = false) ∧ (s.dev.spif = none) ∧ (¬ (s.dev.is Reg.SED.DUMP_CFG.EN = true ∧ s.dev.sed.region = 1))) (st [] fun d => { d with sed := { d.sed with dump := some WDUMP } }) WDUMP := by decide +kernel

theorem witness_SedimentLog_15 :
    (fun (s : State)  => (s.live) ∧ (s.dev.sed.dump = none ∨ (∃ x ∈ s.dev.sed.dump, x.started = true ∨ s.dev.spif.isSome = true))) (State.reset) := by decide +kernel

theorem witness_SedimentLog_16 :
    (fun (s : State) (x : Dump) => (s.live) ∧ (s.dev.sed.dump = some x) ∧ (x.started = true) ∧ (x.bytes ≠ [])) (st [] fun d => { d with sed := { d.sed with region := 1, dump := some { WDUMP with started := true, bytes := [1, 2] } } }) { WDUMP with started := true, bytes := [1, 2] } := by decide +kernel

theorem witness_SedimentLog_17 :
    (fun (s : State) (x : Dump) => (s.live) ∧ (s.dev.sed.dump = some x) ∧ (x.started = true) ∧ (x.bytes ≠ [])) (st [] fun d => { d with sed := { d.sed with region := 1, dump := some { WDUMP with started := true, bytes := [1, 2] } } }) { WDUMP with started := true, bytes := [1, 2] } := by decide +kernel

theorem witness_SedimentLog_18 :
    (fun (s : State) (ok : Bool) => (s.live) ∧ (s.dev.sed.dump = none ∨ (∃ x ∈ s.dev.sed.dump, x.started = false ∨ x.bytes = []))) (State.reset) true := by decide +kernel

theorem witness_SedimentLog_19 :
    (fun (s : State) (x : Dump) (d1 : Dev) => (s.live) ∧ (s.dev.sed.dump = some x) ∧ (x.started = true) ∧ (x.bytes = []) ∧ ((({ s.dev with sed := { s.dev.sed with dump := none } } : Dev).set Reg.SED.DUMP_STAT.CODE 1).set Reg.SED.DUMP_TS.TS x.ts = d1)) (WDE) { WDUMP with started := true } ((({ WDE.dev with sed := { WDE.dev.sed with dump := none } } : Dev).set Reg.SED.DUMP_STAT.CODE 1).set Reg.SED.DUMP_TS.TS 3) := by decide +kernel

theorem witness_SedimentLog_20 :
    (fun (s : State)  => (s.live) ∧ (s.dev.sed.wipeWaits = false) ∧ (s.dev.sed.dump = none ∨ (∃ x ∈ s.dev.sed.dump, x.started = false ∨ x.bytes ≠ []))) (State.reset) := by decide +kernel

theorem witness_SedimentLog_21 :
    (fun (s : State)  => (s.live)) (st [(Reg.PWR.PFAIL_SHED.DOM, 8)] fun d => { d with pwr := { d.pwr with shedding := true } }) := by decide +kernel

theorem witness_SedimentLog_22 :
    (fun (s : State)  => (s.live) ∧ (s.dev.pageOff 6 = true)) (st [(Reg.HDR.STATE 6, 0)]) := by decide +kernel

theorem witness_CriticalCommands_0 :
    (fun (s : State) (slot cnt tag : Nat) (args : List Nat) (d0 : Dev) => (s.live) ∧ (s.dev.mailed 0x01 slot args cnt tag = d0) ∧ (s.authorises d0)) (WSEC) 0 1 297290862776838367708827690102523977465 [2] (WSEC.dev.mailed 1 0 [2] 1 297290862776838367708827690102523977465) := by decide +kernel

theorem witness_CriticalCommands_1 :
    (fun (s : State) (slot cnt tag : Nat) (args : List Nat) (d0 : Dev) => (s.live) ∧ (s.dev.mailed 0x02 slot args cnt tag = d0) ∧ (s.authorises d0)) (WSEC) 0 1 3341108532843851068170515072820542113 [1, 2, 3, 4, 2, 1853506130, 7] (WSEC.dev.mailed 2 0 [1, 2, 3, 4, 2, 1853506130, 7] 1 3341108532843851068170515072820542113) := by decide +kernel

theorem witness_CriticalCommands_2 :
    (fun (s : State) (slot cnt tag : Nat) (args : List Nat) (d0 : Dev) => (s.live) ∧ (s.dev.mailed 0x03 slot args cnt tag = d0) ∧ (s.authorises d0)) (WSEC) 0 1 37681041686559133354067350580791235170 [1] (WSEC.dev.mailed 3 0 [1] 1 37681041686559133354067350580791235170) := by decide +kernel

theorem witness_CriticalCommands_3 :
    (fun (s : State) (slot cnt tag : Nat) (args : List Nat) (d0 : Dev) => (s.live) ∧ (s.dev.mailed 0x08 slot args cnt tag = d0) ∧ (s.authorises d0)) (WSEC) 0 1 149405216701094208537670680830086163576 [1] (WSEC.dev.mailed 8 0 [1] 1 149405216701094208537670680830086163576) := by decide +kernel

theorem witness_CriticalCommands_4 :
    (fun (s : State) (slot cnt tag : Nat) (args : List Nat) (d0 : Dev) => (s.live) ∧ (s.dev.mailed 0x04 slot args cnt tag = d0) ∧ (s.authorises d0) ∧ (s.dev.mode ≤ 1) ∧ ((mailbox d0).arg 2 = 4160) ∧ ((mailbox d0).table % 64 = 0)) (WSEC) 0 1 127857330746604286035493205451185290213 [0, 0, 4160, 5] (WSEC.dev.mailed 4 0 [0, 0, 4160, 5] 1 127857330746604286035493205451185290213) := by decide +kernel

theorem witness_CriticalCommands_5 :
    (fun (s : State) (slot cnt tag : Nat) (args : List Nat) (d0 : Dev) => (s.live) ∧ (s.dev.mailed 0x05 slot args cnt tag = d0) ∧ (s.authorises d0) ∧ (s.dev.mode ≤ 1) ∧ ((mailbox d0).table % 64 = 0)) (WSEC) 0 1 235572744887848445670718599860165113979 [0, 0, 20, 5] (WSEC.dev.mailed 5 0 [0, 0, 20, 5] 1 235572744887848445670718599860165113979) := by decide +kernel

theorem witness_CriticalCommands_6 :
    (fun (s : State) (slot cnt tag : Nat) (args : List Nat) (d0 : Dev) => (s.live) ∧ (s.dev.mailed 0x06 slot args cnt tag = d0) ∧ (s.authorises d0)) (WSEC) 0 1 185210800018735049226008961425452412622 [1] (WSEC.dev.mailed 6 0 [1] 1 185210800018735049226008961425452412622) := by decide +kernel

theorem witness_CriticalCommands_7 :
    (fun (s : State) (slot cnt tag : Nat) (args : List Nat) (d0 : Dev) => (s.live) ∧ (s.dev.mailed 0x07 slot args cnt tag = d0) ∧ (s.authorises d0)) (WSEC) 0 1 228221217485905846856612328970085402381 [] (WSEC.dev.mailed 7 0 [] 1 228221217485905846856612328970085402381) := by decide +kernel

theorem witness_CriticalCommands_8 :
    (fun (s : State) (slot cnt tag : Nat) (args : List Nat) (d0 : Dev) => (s.live) ∧ (s.dev.mailed 0x09 slot args cnt tag = d0) ∧ (s.authorises d0)) (WSEC) 0 1 121960891276977478951948757110660559038 [4] (WSEC.dev.mailed 9 0 [4] 1 121960891276977478951948757110660559038) := by decide +kernel

theorem witness_CriticalCommands_9 :
    (fun (s : State) (slot cnt tag : Nat) (args : List Nat) (d0 : Dev) => (s.live) ∧ (s.dev.mailed 0x0A slot args cnt tag = d0) ∧ (s.authorises d0)) (WSEC) 0 1 128094763253636994017222685814425167609 [3] (WSEC.dev.mailed 10 0 [3] 1 128094763253636994017222685814425167609) := by decide +kernel

theorem witness_CriticalCommands_10 :
    (fun (s : State) (slot cnt tag : Nat) (args : List Nat) (d0 : Dev) => (s.live) ∧ (s.dev.mailed 0x07 slot args cnt tag = d0) ∧ (mailCheck s.fuse (mailbox d0) d0 = none) ∧ (s.fuse.verifies (d0.get Reg.SEC.NONCE.NONCE) (mailbox d0) = false)) (WSEC) 0 1 5 [] (WSEC.dev.mailed 7 0 [] 1 5) := by decide +kernel

theorem witness_CriticalCommands_11 :
    (fun (s : State) (slot cnt tag : Nat) (args : List Nat) (d0 : Dev) => (s.live) ∧ (s.dev.mailed 0x04 slot args cnt tag = d0) ∧ (s.authorises d0) ∧ (1 < s.dev.mode ∨ (mailbox d0).arg 2 ≠ 4160 ∨ (mailbox d0).table % 64 ≠ 0) ∧ (s.dev.thm.copying = none)) (WSECF) 0 1 127857330746604286035493205451185290213 [0, 0, 4160, 5] (WSECF.dev.mailed 4 0 [0, 0, 4160, 5] 1 127857330746604286035493205451185290213) := by decide +kernel

theorem witness_CriticalCommands_12 :
    (fun (s : State) (slot cnt tag : Nat) (args : List Nat) (d0 : Dev) => (s.live) ∧ (s.dev.mailed 0x05 slot args cnt tag = d0) ∧ (s.authorises d0) ∧ (1 < s.dev.mode ∨ (mailbox d0).table % 64 ≠ 0) ∧ (s.dev.flt.copying = none)) (WSECF) 0 1 235572744887848445670718599860165113979 [0, 0, 20, 5] (WSECF.dev.mailed 5 0 [0, 0, 20, 5] 1 235572744887848445670718599860165113979) := by decide +kernel

theorem witness_CriticalCommands_13 :
    (fun (s : State) (slot cnt tag : Nat) (args : List Nat) => (s.live)) (WSEC) 0 1 77 [] := by decide +kernel

theorem witness_SecuritySession_0 :
    (fun (s : State) (draw : Nat) => (s.live) ∧ (s.dev.sec.rng = none)) (State.reset) 77 := by decide +kernel

theorem witness_SecuritySession_1 :
    (fun (s : State) (draw : Nat) => (s.live) ∧ (s.dev.sec.rng = none)) (State.reset) 77 := by decide +kernel

theorem witness_SecuritySession_2 :
    (fun (s : State) (t : Nat) => (s.live) ∧ (s.dev.due .lockout = some t)) (st [] (·.arm .lockout 9)) 9 := by decide +kernel

theorem witness_SecuritySession_3 :
    (fun (s : State) (m : Mail) (addr crc : Nat) => (s.live) ∧ (s.dev.thm.copying = some (addr, crc)) ∧ (s.dev.sec.cmd = some m) ∧ (leAt (((s.dev.answer (pg .THM 0)).basinLoad 1 0xFF addr 4160 0).basinRead addr 4160) 0 4 = 0)) (WCOP) WMAIL 64 5 := by decide +kernel

theorem witness_SecuritySession_4 :
    (fun (s : State) (m : Mail) (addr crc : Nat) (d1 : Dev) (bs : Bytes) => (s.live) ∧ (s.dev.thm.copying = some (addr, crc)) ∧ (s.dev.sec.cmd = some m) ∧ (((s.dev.answer (pg .THM 0)).basinLoad 1 0xFF addr 4160 0) = d1) ∧ (d1.basinRead addr 4160 = bs) ∧ (energyCode bs crc (d1.basinFails addr 4160) = 0)) (WETB) WMAIL 0 WCRC ((WETB.dev.answer (pg .THM 0)).basinLoad 1 0xFF 0 4160 0) WTAB := by
  refine ⟨rfl, rfl, rfl, rfl, WTAB_read, ?_⟩
  exact (congrArg (energyCode WTAB WCRC) (by decide +kernel : _ = false)).trans WTAB_code

theorem witness_SecuritySession_5 :
    (fun (s : State) (m : Mail) (addr len crc : Nat) (d1 : Dev) (bs : Bytes) => (s.live) ∧ (s.dev.flt.copying = some (addr, len, crc)) ∧ (s.dev.sec.cmd = some m) ∧ ((s.dev.answer (pg .FLT 0)).basinLoad 1 0xFF addr (max 16 (min 4112 len)) 0 = d1) ∧ (d1.basinRead addr (max 16 (min 4112 len)) = bs) ∧ (policyCode bs len crc (d1.basinFails addr (max 16 (min 4112 len))) = 0)) (WPOL) WMAIL 0 20 WPCRC ((WPOL.dev.answer (pg .FLT 0)).basinLoad 1 0xFF 0 20 0) WPTAB := by decide +kernel

theorem witness_SecuritySession_6 :
    (fun (s : State)  => (s.live) ∧ (s.dev.pageOff 3 = false)) (State.reset) := by decide +kernel

theorem witness_SecuritySession_7 :
    (fun (s : State)  => (s.live) ∧ (s.dev.sec.disarm = true) ∧ (s.dev.trgIdle = true)) (st [(Reg.SYS.BRINGUP.PRINT_ARMED, 1)] fun d => { d with sec := { d.sec with disarm := true, hpwr := 5 } }) := by decide +kernel

theorem witness_SecuritySession_8 :
    (fun (s : State)  => (s.live) ∧ (s.dev.pageOff 3 = false)) (st [(Reg.SYS.BRINGUP.PRINT_ARMED, 1)]) := by decide +kernel

theorem witness_SecuritySession_9 :
    (fun (s : State) (m : Mail) (ok : Bool) => (s.live) ∧ (s.dev.sec.cmd = some m) ∧ (s.dev.fusing = true)) (WFUS) WMAIL true := by decide +kernel

theorem witness_SecuritySession_10 :
    (fun (s : State) (ok : Bool) => (s.live) ∧ (s.dev.fusing = false)) (State.reset) true := by decide +kernel

theorem witness_SecuritySession_11 :
    (fun (s : State) (ok : Bool) (draw : Nat) => (s.live) ∧ (s.dev.sec.rng.isSome = true)) (st [] fun d => { d with sec := { d.sec with rng := some true } }) true 77 := by decide +kernel

theorem witness_SecuritySession_12 :
    (fun (s : State)  => (s.live) ∧ (s.dev.due .lockout = none)) (State.reset) := by decide +kernel

theorem witness_SecuritySession_13 :
    (fun (s : State) (poisoned : Bool) (addr crc : Nat) (d0 d1 : Dev) (bs : Bytes) (k : Nat) => (s.live) ∧ (s.dev.thm.copying = some (addr, crc)) ∧ ((s.dev.answer (pg .THM 0)).basinLoad 1 0xFF addr 4160 (if poisoned then 2 else 0) = d0) ∧ (d0.basinRead addr 4160 = bs) ∧ (({ d0 with thm := { d0.thm with copying := none } } : Dev) = d1) ∧ (energyCode bs crc (d1.basinFails addr 4160) = k) ∧ (k ≠ 0)) (WCOP) true 64 5 ((WCOP.dev.answer (pg .THM 0)).basinLoad 1 0xFF 64 4160 2) ({ ((WCOP.dev.answer (pg .THM 0)).basinLoad 1 0xFF 64 4160 2) with thm := { (((WCOP.dev.answer (pg .THM 0)).basinLoad 1 0xFF 64 4160 2)).thm with copying := none } }) (((WCOP.dev.answer (pg .THM 0)).basinLoad 1 0xFF 64 4160 2).basinRead 64 4160) 3 := by
  refine ⟨?_, ?_, ?_, ?_, ?_, ?_, ?_⟩ <;> first | exact rfl | decide +kernel

theorem witness_SecuritySession_14 :
    (fun (s : State) (poisoned : Bool) (addr crc : Nat) (d0 d1 : Dev) (bs : Bytes) => (s.live) ∧ (s.dev.thm.copying = some (addr, crc)) ∧ ((s.dev.answer (pg .THM 0)).basinLoad 1 0xFF addr 4160 (if poisoned then 2 else 0) = d0) ∧ (d0.basinRead addr 4160 = bs) ∧ (({ d0 with thm := { d0.thm with copying := none } } : Dev) = d1) ∧ (energyCode bs crc (d1.basinFails addr 4160) = 0)) (WETB) false 0 WCRC ((WETB.dev.answer (pg .THM 0)).basinLoad 1 0xFF 0 4160 0) ({ ((WETB.dev.answer (pg .THM 0)).basinLoad 1 0xFF 0 4160 0) with thm := { (((WETB.dev.answer (pg .THM 0)).basinLoad 1 0xFF 0 4160 0)).thm with copying := none } }) WTAB := by
  refine ⟨rfl, rfl, rfl, WTAB_read, rfl, ?_⟩
  exact (congrArg (energyCode WTAB WCRC) (by decide +kernel : _ = false)).trans WTAB_code

theorem witness_SecuritySession_15 :
    (fun (s : State) (poisoned : Bool) => (s.live) ∧ (s.dev.thm.copying = none)) (State.reset) false := by decide +kernel

theorem witness_SecuritySession_16 :
    (fun (s : State) (poisoned : Bool) (addr len crc : Nat) (d1 : Dev) (bs : Bytes) (k : Nat) => (s.live) ∧ (s.dev.flt.copying = some (addr, len, crc)) ∧ ((s.dev.answer (pg .FLT 0)).basinLoad 1 0xFF addr (max 16 (min 4112 len)) (if poisoned then 2 else 0) = d1) ∧ (d1.basinRead addr (max 16 (min 4112 len)) = bs) ∧ (policyCode bs len crc (d1.basinFails addr (max 16 (min 4112 len))) = k) ∧ (k ≠ 0)) (WPOL5) false 0 20 5 (((WPOL5.dev.answer (pg .FLT 0)).basinLoad 1 0xFF 0 20 0)) WPTAB 4 := by
  refine ⟨by decide +kernel, by decide +kernel, rfl, by decide +kernel, by decide +kernel, by decide +kernel⟩

theorem witness_SecuritySession_17 :
    (fun (s : State) (poisoned : Bool) (addr len crc : Nat) (d1 : Dev) (bs : Bytes) (es : List PolEntry) => (s.live) ∧ (s.dev.flt.copying = some (addr, len, crc)) ∧ ((s.dev.answer (pg .FLT 0)).basinLoad 1 0xFF addr (max 16 (min 4112 len)) (if poisoned then 2 else 0) = d1) ∧ (d1.basinRead addr (max 16 (min 4112 len)) = bs) ∧ (policyCode bs len crc (d1.basinFails addr (max 16 (min 4112 len))) = 0) ∧ (policyEntries (leAt bs 6 2) (bs.drop 16) = es)) (WPOL) false 0 20 WPCRC ((WPOL.dev.answer (pg .FLT 0)).basinLoad 1 0xFF 0 20 0) WPTAB (policyEntries 1 WPE) := by decide +kernel

theorem witness_SecuritySession_18 :
    (fun (s : State) (poisoned : Bool) => (s.live) ∧ (s.dev.flt.copying = none)) (State.reset) false := by decide +kernel

theorem witness_SecuritySession_19 :
    (fun (s : State)  => (s.live) ∧ (s.dev.sec.disarm = false ∨ s.dev.trgIdle = false)) (State.reset) := by decide +kernel

theorem witness_SecuritySession_20 :
    (fun (s : State)  => (s.live) ∧ (s.dev.pageOff 3 = true)) (st [(Reg.HDR.STATE 3, 0)]) := by decide +kernel

theorem witness_Trims_0 :
    (fun (s : State)  => (s.live) ∧ (s.dev.pageOff 8 = false) ∧ (s.dev.get Reg.CAL.CMD.CHAN < 64)) (st [(Reg.CAL.STAT.BUSY, 1), (Reg.CAL.CMD_MAP.TARGETS, 3)]) := by decide +kernel

theorem witness_Trims_1 :
    (fun (s : State) (chan : Nat) => (s.live) ∧ (s.dev.pageOff 8 = false) ∧ (chan < 16)) (State.reset) 3 := by decide +kernel

theorem witness_Trims_2 :
    (fun (s : State) (t quality : Nat) (ms : List Int) (d1 d2 : Dev) => (s.live) ∧ ((s.dev.cal.cur = some t ∨ (s.dev.cal.b7 = true ∧ s.dev.cal.cur.isSome = true ∧ t ≤ 8 ∧ s.dev.cal.set.testBit t = true))) ∧ (runResult t ms quality s.dev = d1) ∧ ((if t = 8 ∧ d1.spare = 3 then d1.set Reg.CAL.STAT.SPARE 0 else d1) = d2)) (WCAL 9) 9 5 [0] (runResult 9 [0] 5 (WCAL 9).dev) (runResult 9 [0] 5 (WCAL 9).dev) := by decide +kernel

theorem witness_Trims_3 :
    (fun (s : State) (t quality : Nat) (ms : List Int) => (s.live) ∧ (¬ (s.dev.cal.cur = some t ∨ (s.dev.cal.b7 = true ∧ s.dev.cal.cur.isSome = true ∧ t ≤ 8 ∧ s.dev.cal.set.testBit t = true)))) (State.reset) 9 5 [0] := by decide +kernel

theorem witness_Trims_4 :
    (fun (s : State) (c : Nat) => (s.live) ∧ (s.dev.cal.wants = some c) ∧ (s.dev.cal.cur = some c) ∧ (s.dev.spare = 0) ∧ ((tget Chan.init s.dev.snd.chans c).step.isNone = true)) (st [] fun d => { d with cal := { d.cal with wants := some 2, cur := some 2 } }) 2 := by decide +kernel

theorem witness_Trims_5 :
    (fun (s : State)  => (s.live) ∧ (∀ c ∈ s.dev.cal.wants, s.dev.cal.cur ≠ some c ∨ s.dev.spare ≠ 0 ∨ (tget Chan.init s.dev.snd.chans c).step.isNone = false)) (State.reset) := by decide +kernel

theorem witness_Trims_6 :
    (fun (s : State) (c : Nat) => (s.live) ∧ (s.dev.cal.taken = some c) ∧ (s.dev.cal.cur ≠ some c)) (st [(Reg.CAL.STAT.SPARE, 1)] fun d => { d with cal := { d.cal with taken := some 2 } }) 2 := by decide +kernel

theorem witness_Trims_7 :
    (fun (s : State)  => (s.live) ∧ (s.dev.cal.taken = none) ∧ (s.dev.spare = 2) ∧ (s.dev.bitOf Reg.CAL.FAILED.CHANS (s.dev.get Reg.CAL.STAT.COVER) = false)) (st [(Reg.CAL.STAT.SPARE, 2), (Reg.CAL.STAT.COVER, 3)]) := by decide +kernel

theorem witness_Trims_8 :
    (fun (s : State)  => (s.live) ∧ ((∃ c ∈ s.dev.cal.taken, s.dev.cal.cur = some c) ∨ (s.dev.cal.taken = none ∧ (s.dev.spare ≠ 2 ∨ s.dev.bitOf Reg.CAL.FAILED.CHANS (s.dev.get Reg.CAL.STAT.COVER) = true)))) (State.reset) := by decide +kernel

theorem witness_Trims_9 :
    (fun (s : State) (v t i : Nat) => (s.live) ∧ (s.dev.pageOff 8 = false) ∧ (s.dev.is (Reg.HDR.LEVEL 8) = true) ∧ (v < 65536) ∧ (s.dev.calSel = (t, i))) (st [(Reg.HDR.LEVEL 8, 1)]) 7 0 0 := by decide +kernel

theorem witness_Trims_10 :
    (fun (s : State) (v t i : Nat) => (s.live) ∧ (s.dev.pageOff 8 = false) ∧ (s.dev.is (Reg.HDR.LEVEL 8) = true) ∧ (v < 65536) ∧ (s.dev.calSel = (t, i)) ∧ (i < calItems t)) (st [(Reg.HDR.LEVEL 8, 1)]) 7 0 0 := by decide +kernel

theorem witness_Trims_11 :
    (fun (s : State) (v : Nat) => (s.live) ∧ (s.dev.pageOff 8 = false) ∧ (s.dev.is (Reg.HDR.LEVEL 8) = false) ∧ (v < 65536) ∧ (v ≠ s.dev.value s.fuse 0 .CAL Reg.CAL.USER.VALUE)) (State.reset) 7 := by decide +kernel

theorem witness_Trims_12 :
    (fun (s : State) (t : Nat) => (s.live) ∧ (s.dev.slews = true)) (st [(Reg.HDR.STATE 8, 2)]) 3 := by decide +kernel

theorem witness_Trims_13 :
    (fun (s : State) (t : Nat) => (s.live) ∧ (s.dev.slews = false)) (st [(Reg.HDR.STATE 8, 6)]) 3 := by decide +kernel

theorem witness_Trims_14 :
    (fun (s : State) (t : Int) (hot crit : Bool × Bool) (d1 d2 : Dev) => (s.live) ∧ ((s.dev.advanceTo ((s.dev.due .dieSample).getD s.dev.time.up)).arm .dieSample ms = d1) ∧ (dieLimit (d1.get Reg.PWR.DIE_LIM.HOT) t d1.pwr.hotRaised = hot) ∧ (dieLimit (min 125 (d1.get Reg.PWR.DIE_LIM.CRIT)) t d1.pwr.critRaised = crit) ∧ ((let e := calDie t { d1 with pwr := { d1.pwr with hotRaised := hot.2, critRaised := crit.2 } }; if hot.1 = true then e.raise 0 Kind.PWR.DIE_HOT else e) = d2)) (State.reset) 300 (false, false) (false, false) ((State.reset.dev.advanceTo 0).arm .dieSample ms) (calDie 300 ((State.reset.dev.advanceTo 0).arm .dieSample ms)) := by decide +kernel

theorem witness_Trims_15 :
    (fun (s : State) (c : Nat) => (s.live) ∧ (s.dev.pageOff 8 = true)) (st [(Reg.HDR.STATE 8, 0)]) 3 := by decide +kernel

theorem witness_Trims_16 :
    (fun (s : State) (v : Nat) => (s.live) ∧ (s.dev.pageOff 8 = false) ∧ (s.dev.is (Reg.HDR.LEVEL 8) = false) ∧ (v < 65536) ∧ (v = s.dev.value s.fuse 0 .CAL Reg.CAL.USER.VALUE)) (State.reset) 0 := by decide +kernel

theorem witness_ResetsAndClocks_0 :
    (fun (s : State) (addr : Nat) => True) (State.reset) 5 := by decide +kernel

theorem witness_ResetsAndClocks_1 :
    (fun (s : State) (addr : Nat) => (s.dev.flt.lock = none)) (State.reset) 5 := by decide +kernel

theorem witness_ResetsAndClocks_2 :
    (fun (s : State) (key : Nat) => (s.live) ∧ (s.dev.pageOff 0 = false) ∧ (key < 2 ^ 32) ∧ (key % 65536 = 0x5E7B) ∧ (s.dev.level ≠ 5) ∧ (s.dev.flt.lock = none)) (State.reset) 0x5E7B := by decide +kernel

theorem witness_ResetsAndClocks_3 :
    (fun (s : State) (key : Nat) => (s.live) ∧ (s.dev.pageOff 0 = false) ∧ (key < 2 ^ 32) ∧ (key % 65536 ≠ 0x5E7B)) (State.reset) 5 := by decide +kernel

theorem witness_ResetsAndClocks_4 :
    (fun (s : State) (t : Nat) => (s.live) ∧ (s.dev.due .supply = some t)) (st [] (·.arm .supply 9)) 9 := by decide +kernel

theorem witness_ResetsAndClocks_5 :
    (fun (s : State)  => (s.live)) (State.reset) := by decide +kernel

theorem witness_ResetsAndClocks_6 :
    (fun (s : State) (ppm : Int) => (s.live) ∧ (s.dev.is Reg.CLK.STAT.REF_OK = true) ∧ (s.dev.refTol < ppm.natAbs)) (st [(Reg.CLK.STAT.REF_OK, 1)]) 5000 := by decide +kernel

theorem witness_ResetsAndClocks_7 :
    (fun (s : State) (ppm : Int) => (s.live) ∧ (ppm.natAbs ≤ s.dev.refTol)) (State.reset) 50 := by decide +kernel

theorem witness_ResetsAndClocks_8 :
    (fun (s : State) (pll : Nat) (f : Fld) => (s.live) ∧ (pllBit pll = some f) ∧ (s.dev.is f = true) ∧ (∀ n ∈ List.range 64, s.dev.portAtBoundary n = true) ∧ (pll = 0)) (st [(Reg.CLK.STAT.ROOT, 1)]) 0 Reg.CLK.STAT.ROOT := by decide +kernel

theorem witness_ResetsAndClocks_9 :
    (fun (s : State) (pll : Nat) (f : Fld) => (s.live) ∧ (pllBit pll = some f) ∧ (s.dev.is f = false) ∧ (pll = 0 ∨ pll = 2)) (State.reset) 2 Reg.CLK.STAT.PCIE := by decide +kernel

theorem witness_ResetsAndClocks_10 :
    (fun (s : State)  => (s.live) ∧ (s.dev.is Reg.CLK.STAT.DLL = true)) (st [(Reg.CLK.STAT.DLL, 1)]) := by decide +kernel

theorem witness_ResetsAndClocks_11 :
    (fun (s : State)  => (s.live) ∧ (s.dev.is Reg.CLK.STAT.DLL = false)) (State.reset) := by decide +kernel

theorem witness_ResetsAndClocks_12 :
    (fun (s : State) (addr : Nat) => True) (State.reset) 5 := by decide +kernel

theorem witness_ResetsAndClocks_13 :
    (fun (s : State) (key : Nat) => (s.live) ∧ (s.dev.pageOff 0 = false) ∧ (key < 2 ^ 32) ∧ (key % 65536 = 0x5E7B) ∧ (s.dev.level ≠ 5)) (State.reset) 0x5E7B := by decide +kernel

theorem witness_ResetsAndClocks_14 :
    (fun (s : State) (key : Nat) => (s.live) ∧ (s.dev.pageOff 0 = false) ∧ (key < 2 ^ 32) ∧ (s.dev.level = 5)) (st [] fun d => { d with flt := { d.flt with slots := [(5, WSLOT 5)] } }) 0x5E7B := by decide +kernel

theorem witness_ResetsAndClocks_15 :
    (fun (s : State)  => (s.live) ∧ (s.dev.due .supply = none)) (State.reset) := by decide +kernel

theorem witness_ResetsAndClocks_16 :
    (fun (s : State)  => (s.live)) (State.reset) := by decide +kernel

theorem witness_ResetsAndClocks_17 :
    (fun (s : State)  => (s.dev.sys.inReset = true)) (st [] fun d => { d with sys := { d.sys with inReset := true } }) := by decide +kernel

theorem witness_ResetsAndClocks_18 :
    (fun (s : State) (missing : Bool) (ppm : Int) (d1 : Dev) => (s.live) ∧ ((if missing = true then s.dev else s.dev.set Reg.CLK.REF_PPM.PPM (ofSigned 16 ppm)) = d1)) (st [(Reg.CLK.STAT.REF_OK, 1)]) true 5000 (st [(Reg.CLK.STAT.REF_OK, 1)]).dev := by decide +kernel

theorem witness_ResetsAndClocks_19 :
    (fun (s : State) (ppm : Int) (d1 : Dev) => (s.live) ∧ (s.dev.set Reg.CLK.REF_PPM.PPM (ofSigned 16 ppm) = d1)) (State.reset) 50 (State.reset.dev.set Reg.CLK.REF_PPM.PPM 50) := by decide +kernel

theorem witness_ResetsAndClocks_20 :
    (fun (s : State) (pll : Nat) (f : Fld) (d1 : Dev) => (s.live) ∧ (pllBit pll = some f) ∧ (s.dev.is f = true) ∧ (fireLow 10 Kind.CLK.PLL_UNLOCK.code (((s.dev.put f false).bump Reg.CLK.LOSS_CNT.COUNT 1).raise 0 Kind.CLK.PLL_UNLOCK { arg := pll }) = d1)) (st [(Reg.CLK.STAT.MEM, 1)]) 1 Reg.CLK.STAT.MEM (fireLow 10 Kind.CLK.PLL_UNLOCK.code ((((st [(Reg.CLK.STAT.MEM, 1)]).dev.put Reg.CLK.STAT.MEM false).bump Reg.CLK.LOSS_CNT.COUNT 1).raise 0 Kind.CLK.PLL_UNLOCK { arg := 1 })) := by decide +kernel

theorem witness_ResetsAndClocks_21 :
    (fun (s : State) (pll : Nat) => (s.live) ∧ (∀ f ∈ pllBit pll, s.dev.is f = false)) (State.reset) 7 := by decide +kernel

theorem witness_ResetsAndClocks_22 :
    (fun (s : State) (pll : Nat) (f : Fld) (d1 : Dev) => (s.live) ∧ (pllBit pll = some f) ∧ (s.dev.is f = false) ∧ ((s.dev.put f true).ev .CLK 0 0 = d1)) (st [(Reg.CLK.STAT.MEM, 0)]) 1 Reg.CLK.STAT.MEM ((((st [(Reg.CLK.STAT.MEM, 0)]).dev.put Reg.CLK.STAT.MEM true).ev .CLK 0 0)) := by decide +kernel

theorem witness_ResetsAndClocks_23 :
    (fun (s : State) (pll : Nat) => (s.live) ∧ (∀ f ∈ pllBit pll, s.dev.is f = true)) (State.reset) 7 := by decide +kernel

theorem witness_ResetsAndClocks_24 :
    (fun (s : State)  => (s.live) ∧ (s.dev.is Reg.CLK.STAT.DLL = true)) (st [(Reg.CLK.STAT.DLL, 1)]) := by decide +kernel

theorem witness_ResetsAndClocks_25 :
    (fun (s : State)  => (s.live) ∧ (s.dev.is Reg.CLK.STAT.DLL = false)) (st [(Reg.CLK.STAT.DLL, 0)]) := by decide +kernel

theorem witness_ResetsAndClocks_26 :
    (fun (s : State)  => (s.live) ∧ (s.dev.is Reg.CLK.STAT.DLL = true)) (st [(Reg.CLK.STAT.DLL, 1)]) := by decide +kernel

theorem witness_ResetsAndClocks_27 :
    (fun (s : State) (key : Nat) => (s.live) ∧ (s.dev.pageOff 0 = true)) (st [(Reg.HDR.STATE 0, 0)]) 3 := by decide +kernel

theorem witness_PowerDomains_0 :
    (fun (s : State) (mask : Nat) => (s.live) ∧ (s.dev.pageOff 2 = false) ∧ (mask < 2 ^ 32)) (State.reset) 8 := by decide +kernel

theorem witness_PowerDomains_1 :
    (fun (s : State) (mask on : Nat) => (s.live)) (State.reset) 8 4 := by decide +kernel

theorem witness_PowerDomains_2 :
    (fun (s : State) (dom : Nat) (d1 : Dev) => (s.live) ∧ (s.dev.pwr.goingOn.contains dom = true) ∧ ((domainBlocks dom).foldl blockOn s.dev = d1)) (st [(Reg.PWR.DOM_BUSY.BUSY, 8)] fun d => { d with pwr := { d.pwr with goingOn := [3] } }) 3 ((domainBlocks 3).foldl blockOn ((st [(Reg.PWR.DOM_BUSY.BUSY, 8)] fun d => { d with pwr := { d.pwr with goingOn := [3] } }).dev)) := by decide +kernel

theorem witness_PowerDomains_3 :
    (fun (s : State) (dom : Nat) => (s.live) ∧ (s.dev.pwr.goingOff.contains dom = true) ∧ (dom < 10) ∧ ((domainBlocks dom).all (fun t => s.dev.blk (pg t.1 t.2) == 0) = true)) (WDOM) 3 := by decide +kernel

theorem witness_PowerDomains_4 :
    (fun (s : State) (which : Nat) => (s.live) ∧ (which % 8 ≠ 0)) (State.reset) 2 := by decide +kernel

theorem witness_PowerDomains_5 :
    (fun (s : State) (dom : Nat) (d0 d1 : Dev) => (s.live) ∧ (s.dev.pwr.goingOff.contains dom = true) ∧ ((domainBlocks dom).all (fun t => s.dev.blk (pg t.1 t.2) == 0) = true) ∧ (((s.dev.clrBit Reg.PWR.DOM_STAT.ON dom).clrBit Reg.PWR.DOM_BUSY.BUSY dom).disarm (.domainWait dom) = d0) ∧ (({ d0 with pwr := { d0.pwr with goingOff := d0.pwr.goingOff.filter (· != dom) } } : Dev) = d1) ∧ (dom < 10 ∨ s.dev.sec.hpwr.testBit (dom - 10) = false)) (WDOM) 3 (((WDOM.dev.clrBit Reg.PWR.DOM_STAT.ON 3).clrBit Reg.PWR.DOM_BUSY.BUSY 3).disarm (.domainWait 3)) { ((WDOM.dev.clrBit Reg.PWR.DOM_STAT.ON 3).clrBit Reg.PWR.DOM_BUSY.BUSY 3).disarm (.domainWait 3) with pwr := { WDOM.dev.pwr with goingOff := [] } } := by decide +kernel

theorem witness_PowerDomains_6 :
    (fun (s : State) (dom : Nat) (d0 d1 : Dev) => (s.live) ∧ (s.dev.pwr.goingOff.contains dom = true) ∧ ((domainBlocks dom).all (fun t => s.dev.blk (pg t.1 t.2) == 0) = true) ∧ (((s.dev.clrBit Reg.PWR.DOM_STAT.ON dom).clrBit Reg.PWR.DOM_BUSY.BUSY dom).disarm (.domainWait dom) = d0) ∧ (({ d0 with pwr := { d0.pwr with goingOff := d0.pwr.goingOff.filter (· != dom) } } : Dev) = d1) ∧ (10 ≤ dom) ∧ (s.dev.sec.hpwr.testBit (dom - 10) = true)) (WDOM2) 11 WDOM0 WDOM1 := by decide +kernel

theorem witness_PowerDomains_7 :
    (fun (s : State) (dom : Nat) => (s.live) ∧ (s.dev.pwr.goingOff.contains dom = false ∨ (domainBlocks dom).all (fun t => s.dev.blk (pg t.1 t.2) == 0) = false)) (State.reset) 3 := by decide +kernel

theorem witness_PowerDomains_8 :
    (fun (s : State) (dom : Nat) => (s.live) ∧ (s.dev.pwr.goingOn.contains dom = false)) (State.reset) 3 := by decide +kernel

theorem witness_PowerDomains_9 :
    (fun (s : State) (which : Nat) (d1 : Dev) => (s.live) ∧ (which % 8 ≠ 0) ∧ ((let t := (bitList 3 (which % 8)).foldl (fun (d : Dev) i => d.put (nth Reg.PWR.SUPPLY.CORE [Reg.PWR.SUPPLY.CORE, Reg.PWR.SUPPLY.SRAM, Reg.PWR.SUPPLY.AN] i) true) s.dev; { t with pwr := { t.pwr with tripped := true } }) = d1)) (State.reset) 2 (let t := (bitList 3 2).foldl (fun (d : Dev) i => d.put (nth Reg.PWR.SUPPLY.CORE [Reg.PWR.SUPPLY.CORE, Reg.PWR.SUPPLY.SRAM, Reg.PWR.SUPPLY.AN] i) true) State.reset.dev; { t with pwr := { t.pwr with tripped := true } }) := by decide +kernel

theorem witness_PowerDomains_10 :
    (fun (s : State) (which : Nat) => (s.live) ∧ (which % 8 = 0)) (State.reset) 8 := by decide +kernel

theorem witness_PowerDomains_11 :
    (fun (s : State) (mask : Nat) => (s.live) ∧ (s.dev.pageOff 2 = true)) (st [(Reg.HDR.STATE 2, 0)]) 3 := by decide +kernel

theorem witness_ServicePorts_0 :
    (fun (s : State) (offset : Nat) => (s.live) ∧ (offset % 4 = 0)) (State.reset) 64 := by decide +kernel

theorem witness_ServicePorts_1 :
    (fun (s : State) (v cc : Nat) (d1 : Dev) => (s.live) ∧ (busRead s.fuse Party.inner (s.dev.get Reg.SMB.PTR.OFFSET) s.dev = (v, cc, d1))) (State.reset) (busRead State.reset.fuse Party.inner 0 State.reset.dev).1 (busRead State.reset.fuse Party.inner 0 State.reset.dev).2.1 (busRead State.reset.fuse Party.inner 0 State.reset.dev).2.2 := by decide +kernel

theorem witness_ServicePorts_2 :
    (fun (s : State) (value cc : Nat) (d1 : Dev) => (s.live) ∧ (s.dev.is Reg.SMB.CFG.WR_EN = true) ∧ (busWrite s.fuse Party.inner (s.dev.get Reg.SMB.PTR.OFFSET) value s.dev = (cc, d1))) (st [(Reg.SMB.CFG.WR_EN, 1)]) 7 (busWrite State.reset.fuse Party.inner 0 7 (st [(Reg.SMB.CFG.WR_EN, 1)]).dev).1 (busWrite State.reset.fuse Party.inner 0 7 (st [(Reg.SMB.CFG.WR_EN, 1)]).dev).2 := by decide +kernel

theorem witness_ServicePorts_3 :
    (fun (s : State)  => (s.live) ∧ (s.dev.pageOff 0x152 = false) ∧ (s.dev.spif = none) ∧ (s.dev.get Reg.SYS.SPRING_STAT.STATE ≠ 1) ∧ (s.dev.sed.dump = none) ∧ (s.dev.spifFields 0 = true)) (st [(Reg.HDR.STATE 0x152, 2), (Reg.SPIF.LEN.BYTES, 256)]) := by decide +kernel

theorem witness_ServicePorts_4 :
    (fun (s : State)  => (s.live) ∧ (s.dev.pageOff 0x152 = false) ∧ (s.dev.spif = none) ∧ (s.dev.get Reg.SYS.SPRING_STAT.STATE ≠ 1) ∧ (s.dev.sed.dump = none) ∧ (s.dev.spifFields 1 = true) ∧ (s.dev.inDump (s.dev.spifRange 1).1 (s.dev.spifRange 1).2 = false)) (st [(Reg.HDR.STATE 0x152, 2), (Reg.SPIF.LEN.BYTES, 256)]) := by decide +kernel

theorem witness_ServicePorts_5 :
    (fun (s : State)  => (s.live) ∧ (s.dev.pageOff 0x152 = false) ∧ (s.dev.spif = none) ∧ (s.dev.get Reg.SYS.SPRING_STAT.STATE ≠ 1) ∧ (s.dev.sed.dump = none) ∧ (s.dev.spifFields 2 = true) ∧ (s.dev.inDump (s.dev.spifRange 2).1 (s.dev.spifRange 2).2 = false)) (st [(Reg.HDR.STATE 0x152, 2), (Reg.SPIF.LEN.BYTES, 256), (Reg.SPIF.LEN.BYTES, 4096)]) := by decide +kernel

theorem witness_ServicePorts_6 :
    (fun (s : State) (x : SpifOp) (moved : Nat) => (s.live) ∧ (s.dev.spif = some x) ∧ (x.op = 2)) (st [(Reg.SPIF.STAT.BUSY, 1)] fun d => { d with spif := some { op := 2, flash := 0, basin := 0, len := 4096 }, flash := [⟨5, 1⟩] }) { op := 2, flash := 0, basin := 0, len := 4096 } 0 := by decide +kernel

theorem witness_ServicePorts_7 :
    (fun (s : State)  => (s.live) ∧ (s.dev.flt.safeInLow = true)) (st [] fun d => { d with flt := { d.flt with safeInLow := true } }) := by decide +kernel

theorem witness_ServicePorts_8 :
    (fun (s : State)  => (s.live) ∧ (s.dev.flt.pfailLow = true)) (st [] fun d => { d with flt := { d.flt with pfailLow := true } }) := by decide +kernel

theorem witness_ServicePorts_9 :
    (fun (s : State)  => (s.live) ∧ (s.dev.pageOff 0x152 = false) ∧ ((s.dev.spif.isSome = true ∨ s.dev.get Reg.SYS.SPRING_STAT.STATE = 1 ∨ s.dev.sed.dump.isSome = true))) (st [(Reg.HDR.STATE 0x152, 2), (Reg.SYS.SPRING_STAT.STATE, 1)]) := by decide +kernel

theorem witness_ServicePorts_10 :
    (fun (s : State)  => (s.live) ∧ (s.dev.pageOff 0x152 = false) ∧ ((s.dev.spif.isSome = true ∨ s.dev.get Reg.SYS.SPRING_STAT.STATE = 1 ∨ s.dev.sed.dump.isSome = true ∨ s.dev.inDump (s.dev.spifRange 1).1 (s.dev.spifRange 1).2 = true))) (st [(Reg.HDR.STATE 0x152, 2), (Reg.SYS.SPRING_STAT.STATE, 1)]) := by decide +kernel

theorem witness_ServicePorts_11 :
    (fun (s : State)  => (s.live) ∧ (s.dev.pageOff 0x152 = false) ∧ ((s.dev.spif.isSome = true ∨ s.dev.get Reg.SYS.SPRING_STAT.STATE = 1 ∨ s.dev.sed.dump.isSome = true ∨ s.dev.inDump (s.dev.spifRange 2).1 (s.dev.spifRange 2).2 = true))) (st [(Reg.HDR.STATE 0x152, 2), (Reg.SYS.SPRING_STAT.STATE, 1)]) := by decide +kernel

theorem witness_ServicePorts_12 :
    (fun (s : State)  => (s.live) ∧ (s.dev.pageOff 0x152 = false) ∧ (¬ (s.dev.spif.isSome = true ∨ s.dev.get Reg.SYS.SPRING_STAT.STATE = 1 ∨ s.dev.sed.dump.isSome = true)) ∧ (s.dev.spifFields 0 = false)) (st [(Reg.HDR.STATE 0x152, 2), (Reg.SPIF.LEN.BYTES, 0), (Reg.SPIF.FLASH_ADDR.ADDR, 2 ^ 30)]) := by decide +kernel

theorem witness_ServicePorts_13 :
    (fun (s : State)  => (s.live) ∧ (s.dev.pageOff 0x152 = false) ∧ (¬ (s.dev.spif.isSome = true ∨ s.dev.get Reg.SYS.SPRING_STAT.STATE = 1 ∨ s.dev.sed.dump.isSome = true ∨ s.dev.inDump (s.dev.spifRange 1).1 (s.dev.spifRange 1).2 = true)) ∧ (s.dev.spifFields 1 = false)) (st [(Reg.HDR.STATE 0x152, 2), (Reg.SPIF.LEN.BYTES, 0), (Reg.SPIF.FLASH_ADDR.ADDR, 2 ^ 30)]) := by decide +kernel

theorem witness_ServicePorts_14 :
    (fun (s : State)  => (s.live) ∧ (s.dev.pageOff 0x152 = false) ∧ (¬ (s.dev.spif.isSome = true ∨ s.dev.get Reg.SYS.SPRING_STAT.STATE = 1 ∨ s.dev.sed.dump.isSome = true ∨ s.dev.inDump (s.dev.spifRange 2).1 (s.dev.spifRange 2).2 = true)) ∧ (s.dev.spifFields 2 = false)) (st [(Reg.HDR.STATE 0x152, 2), (Reg.SPIF.LEN.BYTES, 0), (Reg.SPIF.FLASH_ADDR.ADDR, 2 ^ 30)]) := by decide +kernel

theorem witness_ServicePorts_15 :
    (fun (s : State) (offset : Nat) (ok : Bool) => (s.live) ∧ (ok = false ∨ offset % 4 ≠ 0)) (State.reset) 3 true := by decide +kernel

theorem witness_ServicePorts_16 :
    (fun (s : State)  => (s.live)) (State.reset) := by decide +kernel

theorem witness_ServicePorts_17 :
    (fun (s : State) (value : Nat) (ok : Bool) => (s.live) ∧ (ok = false ∨ s.dev.is Reg.SMB.CFG.WR_EN = false)) (st [(Reg.SMB.CFG.WR_EN, 0)]) 3 true := by decide +kernel

theorem witness_ServicePorts_18 :
    (fun (s : State) (x : SpifOp) (moved n : Nat) (d1 : Dev) => (s.live) ∧ (s.dev.spif = some x) ∧ (({ s.dev.put Reg.SPIF.STAT.BUSY false with spif := none } : Dev) = d1) ∧ (x.op = 0) ∧ (d1.basinUp = true) ∧ ((if s.dev.flt.pfailLow = true then min x.len (ceilDiv (x.flash + min moved x.len) 256 * 256 - x.flash) else x.len) = n)) (st [(Reg.SYS.BRINGUP.BASIN_READY, 1), (Reg.HDR.STATE (pg .BAS 0), 2), (Reg.SPIF.STAT.BUSY, 1)] fun d => { d with spif := some { op := 0, flash := 0, basin := 0, len := 64 }, flash := [⟨5, 1⟩] }) { op := 0, flash := 0, basin := 0, len := 64 } 9 64 { (st [(Reg.SYS.BRINGUP.BASIN_READY, 1), (Reg.HDR.STATE (pg .BAS 0), 2), (Reg.SPIF.STAT.BUSY, 1)] fun d => { d with spif := some { op := 0, flash := 0, basin := 0, len := 64 }, flash := [⟨5, 1⟩] }).dev.put Reg.SPIF.STAT.BUSY false with spif := none } := by decide +kernel

theorem witness_ServicePorts_19 :
    (fun (s : State) (x : SpifOp) (moved : Nat) (d1 : Dev) => (s.live) ∧ (s.dev.spif = some x) ∧ (({ s.dev.put Reg.SPIF.STAT.BUSY false with spif := none } : Dev) = d1) ∧ (x.op = 1) ∧ (d1.basinUp = true) ∧ (d1.basinFails x.basin x.len = false)) (st [(Reg.SYS.BRINGUP.BASIN_READY, 1), (Reg.HDR.STATE (pg .BAS 0), 2), (Reg.SPIF.STAT.BUSY, 1)] fun d => { d with spif := some { op := 1, flash := 0, basin := 0, len := 64 }, flash := [⟨5, 1⟩] }) { op := 1, flash := 0, basin := 0, len := 64 } 9 { (st [(Reg.SYS.BRINGUP.BASIN_READY, 1), (Reg.HDR.STATE (pg .BAS 0), 2), (Reg.SPIF.STAT.BUSY, 1)] fun d => { d with spif := some { op := 1, flash := 0, basin := 0, len := 64 }, flash := [⟨5, 1⟩] }).dev.put Reg.SPIF.STAT.BUSY false with spif := none } := by decide +kernel

theorem witness_ServicePorts_20 :
    (fun (s : State) (x : SpifOp) (moved : Nat) (d1 : Dev) => (s.live) ∧ (s.dev.spif = some x) ∧ (({ s.dev.put Reg.SPIF.STAT.BUSY false with spif := none } : Dev) = d1) ∧ (x.op ≠ 2) ∧ (d1.basinUp = false ∨ (x.op = 1 ∧ d1.basinFails x.basin x.len = true)) ∧ (x.op ≤ 2)) (st [(Reg.SPIF.STAT.BUSY, 1)] fun d => { d with spif := some { op := 1, flash := 0, basin := 0, len := 64 }, flash := [⟨5, 1⟩] }) { op := 1, flash := 0, basin := 0, len := 64 } 9 { (st [(Reg.SPIF.STAT.BUSY, 1)] fun d => { d with spif := some { op := 1, flash := 0, basin := 0, len := 64 }, flash := [⟨5, 1⟩] }).dev.put Reg.SPIF.STAT.BUSY false with spif := none } := by decide +kernel

theorem witness_ServicePorts_21 :
    (fun (s : State) (x : SpifOp) (moved : Nat) (d1 : Dev) => (s.live) ∧ (s.dev.spif = some x) ∧ (({ s.dev.put Reg.SPIF.STAT.BUSY false with spif := none } : Dev) = d1)) (st [(Reg.SYS.BRINGUP.BASIN_READY, 1), (Reg.HDR.STATE (pg .BAS 0), 2), (Reg.SPIF.STAT.BUSY, 1)] fun d => { d with spif := some { op := 1, flash := 0, basin := 0, len := 64 }, flash := [⟨5, 1⟩] }) { op := 1, flash := 0, basin := 0, len := 64 } 9 { (st [(Reg.SYS.BRINGUP.BASIN_READY, 1), (Reg.HDR.STATE (pg .BAS 0), 2), (Reg.SPIF.STAT.BUSY, 1)] fun d => { d with spif := some { op := 1, flash := 0, basin := 0, len := 64 }, flash := [⟨5, 1⟩] }).dev.put Reg.SPIF.STAT.BUSY false with spif := none } := by decide +kernel

theorem witness_ServicePorts_22 :
    (fun (s : State) (ok : Bool) (moved : Nat) => (s.live) ∧ (s.dev.spif = none)) (State.reset) true 9 := by decide +kernel

theorem witness_ServicePorts_23 :
    (fun (s : State)  => (s.live) ∧ (s.dev.flt.safeInLow = false)) (State.reset) := by decide +kernel

theorem witness_ServicePorts_24 :
    (fun (s : State)  => (s.live) ∧ (s.dev.flt.pfailLow = false)) (State.reset) := by decide +kernel

theorem witness_ServicePorts_25 :
    (fun (s : State)  => (s.live) ∧ (s.dev.pageOff 0x152 = true)) (st [(Reg.HDR.STATE 0x152, 0)]) := by decide +kernel

theorem witness_FramesAndCells_0 :
    (fun (s : State) (n : Nat) (c : Cycle) (f : Bytes) (d0 d1 : Dev) => (s.live) ∧ (s.dev.headUp n = true) ∧ (sampleBoundary n s.dev = d0) ∧ ((d0.port n).built = some c) ∧ (c.resend = []) ∧ (c.waits = false) ∧ (c.frames[c.shipped]? = some f) ∧ (c.failed = false) ∧ ((((c.frames.take (c.shipped + 1)).map frameSegs).foldl (· + ·) 0) ≤ c.segsVoted) ∧ ((let t := (s.dev.head n).blanks.foldl (fun (d : Dev) r => d.ship n (lineFrame r (byteAt f 2) (List.replicate (match d.geom n with | some g => (g.row r).length | none => 0) 0)) 0x200) d0;
      if (s.dev.head n).blanks = [] then d0 else t.setHead n { t.head n with blanks := [] }) = d1)) (WSH WCYC [1]) 2 WCYC [1, 2] (WSH WCYC [1]).dev WSHB := by decide +kernel

theorem witness_FramesAndCells_1 :
    (fun (s : State) (n k : Nat) (c : Cycle) (rest : List Nat) (d0 : Dev) => (s.live) ∧ (s.dev.headUp n = true) ∧ (sampleBoundary n s.dev = d0) ∧ ((d0.port n).built = some c) ∧ (c.resend = k :: rest)) (WSH { WCYC with resend := [0, 1] } []) 2 0 { WCYC with resend := [0, 1] } [1] (WSH { WCYC with resend := [0, 1] } []).dev := by decide +kernel

theorem witness_FramesAndCells_2 :
    (fun (s : State) (n : Nat) (c : Cycle) (f : Bytes) (d0 : Dev) => (s.live) ∧ (s.dev.headUp n = true) ∧ (sampleBoundary n s.dev = d0) ∧ ((d0.port n).built = some c) ∧ (c.resend = []) ∧ (c.waits = false) ∧ (c.frames[c.shipped]? = some f) ∧ (c.failed = true ∨ c.segsVoted < (((c.frames.take (c.shipped + 1)).map frameSegs).foldl (· + ·) 0))) (WSH { WCYC with segsVoted := 0, frames := testFrames 1 } []) 2 { WCYC with segsVoted := 0, frames := testFrames 1 } (lineFrame 0 1 [1, 2]) (WSH { WCYC with segsVoted := 0, frames := testFrames 1 } []).dev := by decide +kernel

theorem witness_FramesAndCells_3 :
    (fun (s : State) (n : Nat) (d0 : Dev) => (s.live) ∧ (s.dev.headUp n = true) ∧ (sampleBoundary n s.dev = d0) ∧ (∀ c ∈ (d0.port n).built, c.resend = [] ∧ (c.waits = true ∨ c.frames[c.shipped]? = none))) (WSH { WCYC with waits := true } []) 2 (WSH { WCYC with waits := true } []).dev := by decide +kernel

theorem witness_FramesAndCells_4 :
    (fun (s : State) (n : Nat) => (s.live) ∧ (s.dev.headUp n = false)) (State.reset) 2 := by decide +kernel

theorem witness_FramesAndCells_5 :
    (fun (s : State) (n t : Nat) => (s.live) ∧ ((s.dev.head n).step = 1) ∧ (s.dev.due (.trainSettle n) = some t)) (st [] fun d => (d.setHead 2 { d.head 2 with step := 1 }).arm (.trainSettle 2) 9) 2 9 := by decide +kernel

theorem witness_FramesAndCells_6 :
    (fun (s : State) (n : Nat) => (s.live) ∧ ((s.dev.head n).step ≠ 1 ∨ s.dev.due (.trainSettle n) = none)) (State.reset) 2 := by decide +kernel

theorem witness_FramesAndCells_7 :
    (fun (s : State) (l k : Nat) => (s.live) ∧ (l < 2) ∧ ((if (s.dev.eml l).errSec = s.dev.time.up / sec then (s.dev.eml l).errs + 1 else 1) = k)) (st [(Reg.EML.DEGRADE.THRESH 1, 9)]) 1 1 := by decide +kernel

theorem witness_FramesAndCells_8 :
    (fun (s : State) (type : Nat) (c : CellIn) (dt : Nat) => (s.live) ∧ (cellClass type ≠ 4) ∧ (s.dev.hearsAll type c)) (st [(Reg.HDR.STATE (pg .EMR 0), 2), (Reg.HDR.ENABLE (pg .EMR 0), 1), (Reg.EML.LINK_STAT.STATE 0, 3), (Reg.EMR.ADDR.ADDR, 2)]) 0x7F { link := 0, src := 5, dst := 0x80, hops := 0, seq := 1, corr := 0, payload := [] } 10 := by decide +kernel

theorem witness_FramesAndCells_9 :
    (fun (s : State) (type : Nat) (c : CellIn) (dt : Nat) => (s.live) ∧ (cellClass type ≠ 4) ∧ (s.dev.hearsOwn c)) (st [(Reg.HDR.STATE (pg .EMR 0), 2), (Reg.HDR.ENABLE (pg .EMR 0), 1), (Reg.EML.LINK_STAT.STATE 0, 3), (Reg.EMR.ADDR.ADDR, 2)]) 0x7F { link := 0, src := 5, dst := 2, hops := 0, seq := 1, corr := 0, payload := [] } 10 := by decide +kernel

theorem witness_FramesAndCells_10 :
    (fun (s : State) (type : Nat) (c : CellIn) (dt : Nat) => (s.live) ∧ (cellClass type ≠ 4) ∧ (s.dev.linkUp (c.link % 2) = true) ∧ (c.src % 64 ≠ s.dev.ringAddr) ∧ (c.dst < 128) ∧ (c.dst % 64 ≠ s.dev.ringAddr)) (st [(Reg.HDR.STATE (pg .EMR 0), 2), (Reg.HDR.ENABLE (pg .EMR 0), 1), (Reg.EML.LINK_STAT.STATE 0, 3), (Reg.EMR.ADDR.ADDR, 2)]) 0x7F { link := 0, src := 5, dst := 9, hops := 0, seq := 1, corr := 0, payload := [] } 10 := by decide +kernel

theorem witness_FramesAndCells_11 :
    (fun (s : State) (type : Nat) (c : CellIn) (dt : Nat) => (s.live) ∧ (cellClass type ≠ 4) ∧ (s.dev.linkUp (c.link % 2) = true) ∧ (c.src % 64 ≠ s.dev.ringAddr) ∧ (128 ≤ c.dst) ∧ (s.dev.emr.seen.contains (c.src, type, c.seq) = true ∨ s.dev.inRun (pg .EMR 0) = false)) (st [(Reg.HDR.STATE (pg .EMR 0), 2), (Reg.HDR.ENABLE (pg .EMR 0), 1), (Reg.EML.LINK_STAT.STATE 0, 3), (Reg.EMR.ADDR.ADDR, 2)] fun d => { d with emr := { d.emr with seen := [(5, 0x7F, 1)] } }) 0x7F { link := 0, src := 5, dst := 0x80, hops := 0, seq := 1, corr := 0, payload := [] } 10 := by decide +kernel

theorem witness_FramesAndCells_12 :
    (fun (s : State) (type : Nat) (c : CellIn) (dt : Nat) => (s.live) ∧ (cellClass type ≠ 4) ∧ (type ≠ 0x24) ∧ (s.dev.linkUp (c.link % 2) = true) ∧ (c.src % 64 = s.dev.ringAddr)) (st [(Reg.HDR.STATE (pg .EMR 0), 2), (Reg.HDR.ENABLE (pg .EMR 0), 1), (Reg.EML.LINK_STAT.STATE 0, 3), (Reg.EMR.ADDR.ADDR, 2)]) 0x7F { link := 0, src := 2, dst := 0x80, hops := 0, seq := 1, corr := 0, payload := [] } 10 := by decide +kernel

theorem witness_FramesAndCells_13 :
    (fun (s : State) (type : Nat) (c : CellIn) (dt : Nat) => (s.live) ∧ ((cellClass type ≠ 4 ∧ s.dev.linkUp (c.link % 2) = false) ∨ (cellClass type = 4 ∧ s.dev.get (Reg.EML.LINK_STAT.STATE (c.link % 2)) ≠ 2 ∧ s.dev.get (Reg.EML.LINK_STAT.STATE (c.link % 2)) ≠ 3))) (State.reset) 0x7F { link := 0, src := 5, dst := 0x80, hops := 0, seq := 1, corr := 0, payload := [] } 10 := by decide +kernel

theorem witness_FramesAndCells_14 :
    (fun (s : State) (type : Nat) (c : CellIn) (dt : Nat) => (s.live) ∧ (cellClass type = 4) ∧ (s.dev.get (Reg.EML.LINK_STAT.STATE (c.link % 2)) = 2 ∨ s.dev.get (Reg.EML.LINK_STAT.STATE (c.link % 2)) = 3)) (st [(Reg.HDR.STATE (pg .EMR 0), 2), (Reg.HDR.ENABLE (pg .EMR 0), 1), (Reg.EML.LINK_STAT.STATE 0, 3), (Reg.EMR.ADDR.ADDR, 2)]) 9 { link := 0, src := 5, dst := 0x80, hops := 0, seq := 1, corr := 0, payload := [] } 10 := by decide +kernel

theorem witness_FramesAndCells_15 :
    (fun (s : State) (m t : Nat) => (s.live) ∧ (s.dev.due (.eoutZ m) = some t)) (st [] (·.arm (.eoutZ 1) 9)) 1 9 := by decide +kernel

theorem witness_FramesAndCells_16 :
    (fun (s : State) (m : Nat) => (s.live) ∧ (s.dev.due (.eoutZ m) = none)) (State.reset) 1 := by decide +kernel

theorem witness_StepRunsTheFront_0 :
    State.reset.pending = [] := by decide +kernel

theorem witness_HeldInReset_0 :
    WRES.dev.sys.inReset = true ∧ (∀ a, Instr.safeIn ≠ .coldReset a) ∧ (∀ a, Instr.safeIn ≠ .pinReset a) := ⟨rfl, nofun, nofun⟩

theorem witness_EveryCommandAnswers_0 :
    1 ≤ ({ State.reset with pending := [.safeIn] } : State).pending.length := by decide +kernel

theorem witness_FusesOnlyProgrammed_0 :
    (∀ ok, Instr.safeIn ≠ .fuseProgramDone ok) ∧ ∃ t, exec .safeIn State.reset = .next t := ⟨nofun, _, rfl⟩

theorem witness_FusesOnlyProgrammed_1 :
    State.reset.dev.fusing = false ∧ ∃ t, exec (.fuseProgramDone true) State.reset = .next t := ⟨rfl, _, rfl⟩

theorem witness_FusesNeverRevert_0 :
    Fuses.blank.keptIn State.reset.fuse ∧ ∃ t, step State.reset = .next t := ⟨⟨id, id, id, id, [], rfl⟩, _, rfl⟩

theorem witness_MemoryBytes_0 :
    (fun (s : State) (addr : Nat) (data : Bytes) => (s.live) ∧ (s.dev.basinUp = true) ∧ (s.dev.mem.ue = []) ∧ (addr + data.length ≤ basinSize)) (st [(Reg.HDR.STATE (pg .BAS 0), 2), (Reg.SYS.BRINGUP.BASIN_READY, 1)]) (basinSize - 2) [1, 2] := by decide +kernel

theorem witness_MemoryBytes_1 :
    (fun (s : State) (master a len err : Nat) (data : Bytes) => (s.live) ∧ (a + data.length ≤ 2 ^ 25) ∧ (s.dev.inRun (pg .SHL 0) = true) ∧ (s.dev.shallowsOpen = true)) (st [(Reg.HDR.STATE (pg .SHL 0), 2)]) 0 (2 ^ 25 - 1) 0 0 [7] := by decide +kernel

theorem witness_SignalRule_0 :
    (fun (s : State) (n : Nat) => (s.live) ∧ (n < 32) ∧ (s.dev.dmaOp n = 0x31)) (st [(Reg.HDR.STATE (pg .DMA 2), 2), (Reg.HDR.ENABLE (pg .DMA 2), 1), (Reg.HDR.EV_MASK (pg .DMA 2), 0)] fun d => d.setDma 2 { DmaChan.init with cur := some (0x31 * 2 ^ 120 + 9) }) 2 := by decide +kernel

theorem witness_HeldWaveform_0 :
    (fun (s : State) (n k master v : Nat) (internal : Bool) => (s.live) ∧ (n < 64) ∧ (k < 4) ∧ (s.dev.pageOff (0x100 + n) = false) ∧ (k ≠ 0 → s.dev.is (Reg.HDR.LEVEL (0x100 + n)) = true) ∧ (v < 2 ^ 32)) (st [(Reg.HDR.STATE 0x102, 2)]) 2 0 1 (8190 + 400 * 65536) false := by decide +kernel

theorem witness_HeldWaveform_1 :
    (fun (s : State) (n k main : Nat) => (s.live) ∧ (n < 64) ∧ (k < 4) ∧ (s.dev.pageOff (0x100 + n) = false) ∧ (k ≠ 0 → s.dev.is (Reg.HDR.LEVEL (0x100 + n)) = true) ∧ (main < 2 ^ 32)) (st [(Reg.HDR.STATE 0x102, 2), (Reg.HPT.FIRE_P_0.PRE 2, 300)]) 2 0 8190 := by decide +kernel

theorem witness_FaultCapture_0 :
    (st [(Reg.HDR.F_VALID (pg .CLK 0), 1)]).dev.is (Reg.HDR.F_VALID (pg Kind.CLK.REFCLK_BAD.blk 0)) = true ∧ (st [(Reg.HDR.F_VALID (pg .CLK 0), 1)]).dev.get (Reg.HDR.F_COUNT (pg Kind.CLK.REFCLK_BAD.blk 0)) < 2 ^ 32 - 1 := by decide +kernel

theorem witness_CellsInTransit_0 :
    (fun (s : State) (c : CellIn) (dt : Nat) => (s.live) ∧ (s.dev.linkUp (c.link % 2) = true) ∧ (c.src % 64 ≠ s.dev.ringAddr) ∧ (c.dst < 128) ∧ (c.dst % 64 ≠ s.dev.ringAddr)) (st [(Reg.HDR.STATE (pg .EMR 0), 2), (Reg.HDR.ENABLE (pg .EMR 0), 1), (Reg.EML.LINK_STAT.STATE 0, 3), (Reg.EMR.ADDR.ADDR, 2)]) { link := 0, src := 5, dst := 9, hops := 0, seq := 1, corr := 0, payload := List.replicate 20 0 } 10 := by decide +kernel

theorem witness_CellsInTransit_1 :
    (fun (s : State) (c : CellIn) (dt : Nat) => (s.live) ∧ (s.dev.linkUp (c.link % 2) = true) ∧ (c.src % 64 ≠ s.dev.ringAddr) ∧ (128 ≤ c.dst) ∧ (s.dev.emr.seen.contains (c.src, 0x10, c.seq) = true)) (st [(Reg.HDR.STATE (pg .EMR 0), 2), (Reg.HDR.ENABLE (pg .EMR 0), 1), (Reg.EML.LINK_STAT.STATE 0, 3), (Reg.EMR.ADDR.ADDR, 2)] fun d => { d with emr := { d.emr with seen := [(5, 0x10, 1)] } }) { link := 0, src := 5, dst := 128, hops := 0, seq := 1, corr := 0, payload := List.replicate 20 0 } 10 := by decide +kernel

theorem witness_CellsInTransit_2 :
    (fun (s : State) (c : CellIn) (dt : Nat) => (s.live) ∧ (s.dev.linkUp (c.link % 2) = true) ∧ (c.src % 64 = s.dev.ringAddr)) (st [(Reg.HDR.STATE (pg .EMR 0), 2), (Reg.HDR.ENABLE (pg .EMR 0), 1), (Reg.EML.LINK_STAT.STATE 0, 3), (Reg.EMR.ADDR.ADDR, 2)]) { link := 0, src := 2, dst := 128, hops := 0, seq := 1, corr := 0, payload := List.replicate 20 0 } 10 := by decide +kernel

theorem witness_CellsInTransit_3 :
    (fun (s : State) (c : CellIn) (dt : Nat) => (s.live) ∧ (s.dev.linkUp (c.link % 2) = false)) (State.reset) { link := 0, src := 5, dst := 128, hops := 0, seq := 1, corr := 0, payload := List.replicate 20 0 } 10 := by decide +kernel

theorem witness_CellsInTransit_4 :
    (fun (s : State) (c : CellIn) (dt : Nat) => (s.live) ∧ (s.dev.linkUp (c.link % 2) = true) ∧ (c.src % 64 ≠ s.dev.ringAddr) ∧ (128 ≤ c.dst)) (st [(Reg.EML.LINK_STAT.STATE 0, 3), (Reg.EMR.ADDR.ADDR, 2)]) { link := 0, src := 5, dst := 128, hops := 0, seq := 1, corr := 0, payload := List.replicate 20 0 } 10 := by decide +kernel

theorem witness_CellsInTransit_5 :
    (fun (s : State) (c : CellIn) (dt : Nat) => (s.live) ∧ (s.dev.linkUp (c.link % 2) = true) ∧ (c.src % 64 ≠ s.dev.ringAddr) ∧ (c.dst < 128) ∧ (c.dst % 64 = s.dev.ringAddr) ∧ (s.dev.inRun (pg .EMR 0) = false)) (st [(Reg.EML.LINK_STAT.STATE 0, 3), (Reg.EMR.ADDR.ADDR, 2), (Reg.HDR.STATE (pg .EMR 0), 6)]) { link := 0, src := 5, dst := 2, hops := 0, seq := 1, corr := 0, payload := List.replicate 20 0 } 10 := by decide +kernel

end Sys2Proof.Tests
end

section
/-!
PROOF. Every command answers a next state (O50). The one fact about `exec` is its shape: what a command does is an
operation on the device, which has no effect while the device is held in reset, or one of the resets, which act at any
time, or FUSE_PROGRAM_DONE, which alone answers fuses of its own. None of these touches the queue.
-/
namespace Sys2Proof.Machine

/-- The commands that act on a device held in reset too (R466, R467, R487). -/
def actsInReset : Instr → Prop
  | .coldReset _ | .pinReset _ | .resetAsserted => True
  | _ => False

/-- What a command can answer: a device that is as before while it is held in reset; of a command that acts in reset, any
device; and of FUSE_PROGRAM_DONE the fuses and the device that `fuseDone` gives. The queue is never touched. -/
theorem exec_cases (c : Instr) (s : State) :
    (∃ d, exec c s = .next { s with dev := if s.dev.sys.inReset then s.dev else d }) ∨
      (actsInReset c ∧ ∃ d, exec c s = .next { s with dev := d }) ∨
      ∃ ok, c = .fuseProgramDone ok ∧ exec c s = s.onFuse fun u d => fuseDone ok u d := by
  cases c
  case coldReset addr => exact .inr (.inl ⟨trivial, _, rfl⟩)
  case pinReset addr => exact .inr (.inl ⟨trivial, _, rfl⟩)
  case resetAsserted => exact .inr (.inl ⟨trivial, _, rfl⟩)
  case fuseProgramDone ok => exact .inr (.inr ⟨ok, rfl, rfl⟩)
  all_goals exact .inl ⟨_, rfl⟩

/-- Every command answers a next state, and its queue is the one before (notes/assumptions/8.md). -/
theorem exec_next (c : Instr) (s : State) : ∃ t, exec c s = .next t ∧ t.pending = s.pending := by
  obtain ⟨d, h⟩ | ⟨-, d, h⟩ | ⟨ok, -, h⟩ := exec_cases c s
  · exact ⟨_, h, rfl⟩
  · exact ⟨_, h, rfl⟩
  · exact ⟨_, h, rfl⟩

/-- A step takes the front of the queue, if there is one, and leaves the rest. -/
theorem step_next (s : State) : ∃ t, step s = .next t ∧ t.pending = s.pending.tail := by
  cases hp : s.pending with
  | nil => exact ⟨s.idle, by simp only [step, hp], by simp [State.idle, hp]⟩
  | cons c rest =>
    obtain ⟨t, ht, hq⟩ := exec_next c { s with pending := rest }
    exact ⟨t, by simpa only [step, hp] using ht, hq⟩

/-- The first of several steps goes on to the others. -/
theorem runs_succ {s t : State} (h : step s = .next t) (k : Nat) : runs (k + 1) s = runs k t := by
  simp only [runs, h]

/-- Any number of steps answers a next state, in which that many commands are gone from the front of the queue. -/
theorem runs_next (k : Nat) (s : State) : ∃ t, runs k s = .next t ∧ t.pending = s.pending.drop k := by
  induction k generalizing s with
  | zero => exact ⟨s, rfl, rfl⟩
  | succ k ih =>
    obtain ⟨s', hs', hq'⟩ := step_next s
    obtain ⟨t, ht, hq⟩ := ih s'
    exact ⟨t, (runs_succ hs' k).trans ht, by rw [hq, hq', List.drop_tail]⟩

/-- Settles O50. That every command answers a next state is the choice of the model (notes/assumptions/8.md); the rest is
induction on the number of steps. -/
theorem everyCommandAnswers : Obligations.EveryCommandAnswers := by
  refine ⟨exec_next, fun k s _ => runs_next k s, fun s => ?_⟩
  obtain ⟨t, ht, hq⟩ := runs_next s.pending.length s
  exact ⟨t, ht, by rw [hq, List.drop_length]⟩

end Sys2Proof.Machine
end

section
/-!
PROOF. Register reads (O2). A read of one dword is one `busRead`, a read of an aligned pair is two; on a page that is
served, `busRead` of a register is what its fields show, with the latch of a `_LO` half (R8) or the clear of the RC fields
(R5) as its only effect.
-/
namespace Sys2Proof.Machine

/-- A read of 4 bytes, or one of another size or alignment, is a read of the containing dword (R28). -/
theorem registerRead_dword {u : Fuses} {w : Party} {addr size v code : Nat} {d d1 : Dev}
    (hr : busRead u w (addr / 4 * 4) d = (v, code, d1)) (hs : ¬(size = 8 ∧ addr % 8 = 0)) :
    registerRead w addr size u d = (completed w code d1).emit (.readData w.master addr v) := by
  simp only [registerRead, if_neg hs, hr]

/-- An aligned read of 8 bytes is a read of the low dword and then of the high one (R28). -/
theorem registerRead_pair {u : Fuses} {w : Party} {addr v code h hcode : Nat} {d d1 d2 : Dev} (ha : addr % 8 = 0)
    (hl : busRead u w addr d = (v, code, d1)) (hh : busRead u w (addr + 4) d1 = (h, hcode, d2)) :
    registerRead w addr 8 u d = (completed w hcode d2).emit (.readData w.master addr (v + h * 2 ^ 32)) := by
  have hd : addr / 4 * 4 = addr := by omega
  simp only [registerRead, ha, hd, hl, hh, and_self, if_true]

/-- A read of a block's own register on a served page, outside the `_HI` halves and the pins of GPIO. -/
theorem busRead_own {u : Fuses} {w : Party} {addr v : Nat} {d d' : Dev} {b : Blk} {n off : Nat} {fs : List Fld}
    (hp : Blk.ofPage (addr / 4096) = some (b, n)) (ho : d.pageOff (addr / 4096) = false)
    (hoff : addr % 4096 / 4 * 4 = off) (h1 : 0x40 ≤ off) (h2 : off < 0xF00) (hfs : b.fieldsAt n off = fs)
    (hh : isHi fs off = false) (hg : fs.contains Reg.GPIO.IN.LEVEL = false)
    (hr : pairRead w.halves (addr / 4096 * 4096 + off) (isLo fs off) false (shownSum (d.value u n b) fs off)
      (shownSum (d.value u n b) fs (off + 4)) d = (v, d')) :
    busRead u w addr d = (v, 0, fs.foldl (clearRead b) d') := by
  have h3 : ¬0xF00 ≤ off := by omega
  have h4 : ¬off < 0x40 := by omega
  simp only [busRead, hp, hoff, h3, h4, ho, hfs, hh, hg, hr, if_false, Bool.false_eq_true]

/-- A `_LO` half reads its value and latches the other half for the reader. -/
theorem pairRead_lo (m a : Nat) (hi : Bool) (low high : Nat) (d : Dev) :
    pairRead m a true hi low high d = (low, { d with bus := { d.bus with hiLatch := aset (m, a) high d.bus.hiLatch } }) := rfl

/-- A register that is no half of a pair reads its value. -/
theorem pairRead_single (m a low high : Nat) (d : Dev) : pairRead m a false false low high d = (low, d) := rfl

theorem shownSum_singleton (val : Fld → Nat) (f : Fld) (off : Nat) : shownSum val [f] off = f.shown (val f) off := by
  simp [shownSum]

/-- A field from bit 0 up shows its low 32 bits in its own register. -/
theorem Fld.shown_own {f : Fld} (ha : f.acc ≠ .wo) (hl : f.lo = 0) (v : Nat) : f.shown v f.off = v % f.cap % 2 ^ 32 := by
  simp [Fld.shown, ha, hl]

/-- A field from bit 0 up shows what lies above its low 32 bits in the `_HI` register of its pair. -/
theorem Fld.shown_above {f : Fld} (ha : f.acc ≠ .wo) (hl : f.lo = 0) (v : Nat) :
    f.shown v (f.off + 4) = v % f.cap / 2 ^ 32 := by
  simp [Fld.shown, ha, hl]

/-- A read clears no field but an RC one. -/
theorem clearRead_of_ne_rc {b : Blk} {f : Fld} (h : f.acc ≠ .rc) (d : Dev) : clearRead b d f = d := by
  simp [clearRead, h]

/-- TS alone lies at CLK offset 0x4C, as the low half of its pair. -/
theorem fieldsAt_clk_ts : Blk.fieldsAt 0 0x4C .CLK = [Reg.CLK.TS.TS] := by decide

/-- STALE_CNT.COUNT alone lies at SYS offset 0x48. -/
theorem fieldsAt_sys_staleCnt : Blk.fieldsAt 0 0x48 .SYS = [Reg.SYS.STALE_CNT.COUNT] := by decide

/-- TS_LO reads the low half of TS and latches the high half for the reader (R8, R44). -/
theorem busRead_ts_lo (u : Fuses) (w : Party) {d : Dev} (ho : d.pageOff 1 = false) :
    busRead u w 0x104C d = (d.ts % 2 ^ 32, 0,
      { d with bus := { d.bus with hiLatch := aset (w.halves, 0x104C) (d.ts % 2 ^ 64 / 2 ^ 32) d.bus.hiLatch } }) := by
  have hv : d.value u 0 .CLK Reg.CLK.TS.TS = d.ts := rfl
  have hlo : shownSum (d.value u 0 .CLK) [Reg.CLK.TS.TS] 0x4C = d.ts % 2 ^ 32 := by
    rw [shownSum_singleton, hv]
    exact (Fld.shown_own (f := Reg.CLK.TS.TS) (by decide) rfl _).trans (Nat.mod_mod_of_dvd _ (by decide))
  have hhi : shownSum (d.value u 0 .CLK) [Reg.CLK.TS.TS] (0x4C + 4) = d.ts % 2 ^ 64 / 2 ^ 32 := by
    rw [shownSum_singleton, hv]
    exact Fld.shown_above (f := Reg.CLK.TS.TS) (by decide) rfl _
  have hl : isLo [Reg.CLK.TS.TS] 0x4C = true := by decide
  rw [busRead_own (b := .CLK) (n := 0) (off := 0x4C) (by decide) ho rfl (by decide) (by decide) fieldsAt_clk_ts
    (by decide) (by decide) (by rw [hlo, hhi, hl, pairRead_lo]), List.foldl_cons, List.foldl_nil,
    clearRead_of_ne_rc (by decide)]

/-- STALE_CNT reads its count and is left at its reset value (R5). -/
theorem busRead_staleCnt (u : Fuses) (w : Party) {d : Dev} (ho : d.pageOff 0 = false) :
    busRead u w 0x48 d = (d.get Reg.SYS.STALE_CNT.COUNT % 2 ^ 32, 0, d.set Reg.SYS.STALE_CNT.COUNT 0) := by
  have hv : d.value u 0 .SYS Reg.SYS.STALE_CNT.COUNT = d.get Reg.SYS.STALE_CNT.COUNT := rfl
  have hs : shownSum (d.value u 0 .SYS) [Reg.SYS.STALE_CNT.COUNT] 0x48 = d.get Reg.SYS.STALE_CNT.COUNT % 2 ^ 32 := by
    rw [shownSum_singleton, hv]
    exact (Fld.shown_own (f := Reg.SYS.STALE_CNT.COUNT) (by decide) rfl _).trans (Nat.mod_mod _ _)
  have hl : isLo [Reg.SYS.STALE_CNT.COUNT] 0x48 = false := by decide
  have hc : clearRead .SYS d Reg.SYS.STALE_CNT.COUNT = d.set Reg.SYS.STALE_CNT.COUNT 0 := rfl
  rw [busRead_own (b := .SYS) (n := 0) (off := 0x48) (by decide) ho rfl (by decide) (by decide) fieldsAt_sys_staleCnt
    (by decide) (by decide) (by rw [hs, hl, pairRead_single]), List.foldl_cons, List.foldl_nil, hc]

/-- Settles O2. The latch of each master (notes/assumptions/10.md) and the reset value of a counter cleared by a read
(notes/assumptions/52.md) are readings of the model. -/
theorem registerReads : Obligations.RegisterReads := by
  refine ⟨fun s m hs ho => ?_, fun s m hs ho => ?_, fun s m addr size v code d1 hs hr hn => ?_,
    fun s m addr v code h hcode d1 d2 hs ha hl hh => ?_, fun s m addr size v code d1 hs hr hn => ?_,
    fun s m addr v code h hcode d1 d2 hs ha hl hh => ?_⟩
  · exact ⟨_, exec_loReadLatch hs .., registerRead_dword (busRead_ts_lo _ _ ho) (by decide)⟩
  · exact ⟨_, exec_readClear hs .., registerRead_dword (busRead_staleCnt _ _ ho) (by decide)⟩
  · exact ⟨_, exec_loReadLatch hs .., registerRead_dword hr hn⟩
  · exact ⟨_, exec_loReadLatch hs .., registerRead_pair ha hl hh⟩
  · exact ⟨_, exec_readClear hs .., registerRead_dword hr hn⟩
  · exact ⟨_, exec_readClear hs .., registerRead_pair ha hl hh⟩

end Sys2Proof.Machine
end

section
/-!
PROOF. What a step runs (O47).
-/
namespace Sys2Proof.Machine

/-- Settles O47: a step is defined by its queue. That time passes on an empty queue is the choice of the model
(notes/assumptions/7.md). -/
theorem stepRunsTheFront : Obligations.StepRunsTheFront :=
  ⟨fun _ _ => rfl, fun s h => by simp only [step, h]⟩

end Sys2Proof.Machine
end

section
/-!
PROOF. The bytes that a write to Basin or Shallows changes (O54). A write that is served comes down to one `memWrite`; what
`memWrite` does to each byte is said in Laws/Memory.
-/
namespace Sys2Proof.Machine

/-- What one `memWrite` does to a memory: the bytes of the range, the other bytes, the canonical form. -/
def Memory.WrittenAt (a : Nat) (bs : Bytes) (m m' : List Host.Cell) : Prop :=
  (∀ i < bs.length, memGet 0 m' (a + i) = nth 0 bs i) ∧
    (∀ b, b < a ∨ a + bs.length ≤ b → memGet 0 m' b = memGet 0 m b) ∧ (Memory.wf 0 m = true → Memory.wf 0 m' = true)

theorem nth_eq_getElem {α : Type} (d : α) : ∀ (l : List α) (i : Nat) (h : i < l.length), nth d l i = l[i]
  | _ :: _, 0, _ => rfl
  | _ :: t, i + 1, h => nth_eq_getElem d t i (Nat.lt_of_succ_lt_succ h)

theorem memWrite_writtenAt (a : Nat) (bs : Bytes) (m : List Host.Cell) : Memory.WrittenAt a bs m (memWrite 0 a bs m) :=
  ⟨fun i hi => (memGet_memWrite_in 0 a bs m i hi).trans (nth_eq_getElem 0 bs i hi).symm,
    fun b hb => memGet_memWrite_out 0 a bs m b hb, memWrite_wf a bs⟩

/-- Writing no bytes leaves every byte as it was. -/
theorem Memory.writtenAt_nil (a : Nat) (m : List Host.Cell) : Memory.WrittenAt a [] m m :=
  ⟨fun _ hi => absurd hi (Nat.not_lt_zero _), fun _ _ => rfl, id⟩

theorem Dev.badSectors_of_no_ue {d : Dev} (h : d.mem.ue = []) (a n : Nat) : d.badSectors a n = [] := by
  simp [Dev.badSectors, h, sortBy]

/-- A write to a range without uncorrectable sectors changes the bytes of that range of Basin and what the arbiter keeps. -/
theorem Dev.basinWrite_sound {d : Dev} {a : Nat} {bs : Bytes} (h : d.badSectors a bs.length = []) (hne : bs ≠ [])
    (cls master : Nat) :
    ∃ m, d.basinWrite a bs cls master = { d with basin := memWrite 0 a bs d.basin, mem := m } := by
  simp only [Dev.basinWrite, if_neg hne, h, List.filter_nil, List.foldl_nil]
  exact ⟨_, rfl⟩

/-- A host write that Basin serves, with nothing striking it and no delay (R319). -/
theorem basinRequest_write {d : Dev} {a len : Nat} {data : Bytes} (hup : d.basinUp = true) (ha : a + data.length ≤ basinSize) :
    basinRequest 0 2 a len true data 0 0 d = (d.basinWrite a data 2 0).emit (.completion 0 0) := by
  have hin : ¬basinSize < a + data.length := Nat.not_lt.mpr ha
  simp [basinRequest, hin, hup, delayed, strike]

/-- A write that Shallows takes: by another master than the host, or outside print modes (R318). -/
theorem shallowsAccess_write {d : Dev} {master a len err : Nat} {data : Bytes} (ha : a + data.length ≤ 2 ^ 25)
    (hr : d.inRun (pg .SHL 0) = true) (ho : d.shallowsOpen = true) :
    shallowsAccess master a len true data err d = d.shallowsWrite a data := by
  have hin : ¬2 ^ 25 < a + data.length := Nat.not_lt.mpr ha
  simp only [shallowsAccess, if_true, if_neg hin, hr, ho, Bool.true_eq_false, and_false, if_false]

/-- Settles O54, by the bytes of one `memWrite`. -/
theorem memoryBytes : Obligations.MemoryBytes := by
  refine ⟨fun s addr data hs hup hue ha => ?_, fun s master a len err data hs ha hr ho => ?_⟩
  · refine ⟨_, (exec_hostBar2Access hs ..).trans (by rw [basinRequest_write hup ha]), ?_⟩
    by_cases hne : data = []
    · obtain ⟨hin, hout, hwf⟩ := Memory.writtenAt_nil addr s.dev.basin
      subst hne
      exact ⟨hin, hout, hwf, rfl, rfl⟩
    · obtain ⟨m, hw⟩ := Dev.basinWrite_sound (Dev.badSectors_of_no_ue hue addr data.length) hne 2 0
      obtain ⟨hin, hout, hwf⟩ := memWrite_writtenAt addr data s.dev.basin
      rw [hw]
      exact ⟨hin, hout, hwf, rfl, rfl⟩
  · refine ⟨_, (exec_shallowsAccess hs ..).trans (by rw [shallowsAccess_write ha hr ho]), ?_⟩
    obtain ⟨hin, hout, hwf⟩ := memWrite_writtenAt a data s.dev.shallows
    exact ⟨hin, hout, hwf, rfl, rfl⟩

end Sys2Proof.Machine
end

section
/-!
PROOF. Three statements that the model refutes, each by a state that it evaluates: O57, O3 and O7.
-/
namespace Sys2Proof.Machine

/-- A command answers one device: what its completion says holds of that device. -/
theorem Completes.effect {c : Instr} {s : State} {e : Dev → Prop} {d : Dev} (h : Completes c s e)
    (hx : exec c s = .next { s with dev := d }) : e d := by
  obtain ⟨d', hd', he⟩ := h
  rw [hx] at hd'
  cases hd'
  exact he

/-! ### Faults while the Sediment FIFO is full -/

/-- A device whose Sediment FIFO is full (R414), with SYS source 0 unmasked and its rises recorded. -/
def devSedimentFull : Dev :=
  { ((State.reset.dev.set (Reg.SED.EV_REC.SRC 0) 1).set (Reg.HDR.EV_MASK (pg .SYS 0)) 0) with
    sed := { State.reset.dev.sed with fifo := List.replicate 1024 (eventRec State.reset.dev 0) } }

/-- A fault there sends two messages: SED_LOST for the event record that the FIFO drops, then its own. -/
theorem raise_devSedimentFull_inbox :
    (devSedimentFull.raise 0 Kind.SYS.ACCESS_SIZE).flt.inbox.map (fun m => (m.page, m.kind)) =
      [(pg .SED 0, Kind.SED.SED_LOST.code), (pg .SYS 0, Kind.SYS.ACCESS_SIZE.code)] := by decide +kernel

/-- Refutes O57: a fault whose event record a full Sediment FIFO drops sends the message of SED_LOST as well (R414), so that
the inbox does not grow by one message alone. -/
theorem not_faultCapture : ¬Obligations.FaultCapture := by
  intro h
  obtain ⟨-, m, hm, -⟩ := h devSedimentFull 0 Kind.SYS.ACCESS_SIZE {}
  have hnil : devSedimentFull.flt.inbox = [] := rfl
  have htwo := raise_devSedimentFull_inbox
  rw [hm, hnil] at htwo
  exact absurd htwo (by simp)

/-! ### A write of no bytes -/

/-- A state in which Basin serves requests and whose byte table is not in the canonical form: address 64 before address 0. -/
def stateBasinUnsorted : State :=
  { State.reset with dev :=
    { (State.reset.dev.setBlk (pg .BAS 0) 2).put Reg.SYS.BRINGUP.BASIN_READY true with basin := [(64, 1), (0, 1)] } }

/-- Refutes O3: its first part has no hypothesis on the form of Basin's table. A write of no bytes leaves the table as it is,
while `memWrite` of no bytes moves the entry at 0 before the one at 64. -/
theorem not_hostWindows : ¬Obligations.HostWindows := by
  intro h
  have hup : stateBasinUnsorted.dev.basinUp = true := by decide
  have hw := (h.1 stateBasinUnsorted 32 [] (by decide) hup (by decide) (by decide) (by decide)).effect
    ((exec_hostBar2Access (by decide) ..).trans (by rw [basinRequest_write hup (by decide)]))
  exact absurd hw.1 (by decide)

/-! ### A message held for a vector that has been unmasked -/

/-- A state in which vector 0 is unmasked in the MSI-X table with its message still held in the pending array, and SYS source
0 is raised and mapped to it. -/
def stateVectorHeld : State :=
  { State.reset with dev :=
    { ((((State.reset.dev.put (Reg.EVT.VEC_MAP.EN 0 0) true).set (Reg.EVT.SRC_MASK.MASK 0) 0).set
        (Reg.HDR.EV_MASK (pg .SYS 0)) 0).setBit (Reg.HDR.EV_RAW (pg .SYS 0)) 0) with
      evt := { State.reset.dev.evt with table := [(0, { MsixEntry.init with masked := false })], pba := [0] } } }

/-- Refutes O7: its fifth part says that a message sent leaves the pending array as it was. The message of a vector that the
array holds takes it out of the array. -/
theorem not_eventsAndVectors : ¬Obligations.EventsAndVectors := by
  intro h
  obtain ⟨-, -, -, -, hmsix, -⟩ := h
  have hd := (hmsix stateVectorHeld 0 (by decide) (by decide) (by decide) (by decide) (by decide +kernel) (by decide)).effect
    (exec_msixMessage (by decide) 0)
  have hsent : (msixMessage 0 stateVectorHeld.dev).evt.pba = [] := by decide +kernel
  rw [hd] at hsent
  exact absurd hsent (by decide)

end Sys2Proof.Machine
end

section
/-!
PROOF. What flags and faults leave alone in the page headers, beyond Laws/Flags: the fields of the header that are neither
EV_RAW nor FLT_LOCAL read as before, and no EV_RAW bit falls.
-/
namespace Sys2Proof.Machine

/-- A field that no flag and no fault touches: neither in EV_RAW or FLT_LOCAL of a page (Tables 2.3, 2.6), nor SED.LOST. -/
def Fld.Steady (g : Fld) : Prop :=
  g.off ∉ [0x010, 0x020, 0x028, 0x030, 0x034, 0x038] ∧ g.off < 4096 ∧ g.lo < 64 ∧ g.key ≠ Reg.SED.LOST.COUNT.key

/-- From `d` to `d'` flags have only risen and faults only been recorded: steady fields read as before, and an EV_RAW bit that
was set is set. -/
def Dev.OnlyRises (d d' : Dev) : Prop :=
  (∀ g : Fld, g.Steady → d'.get g = d.get g) ∧
    ∀ page, ∀ i < 32, (d.get (Reg.HDR.EV_RAW page)).testBit i = true → (d'.get (Reg.HDR.EV_RAW page)).testBit i = true

theorem Dev.OnlyRises.refl (d : Dev) : d.OnlyRises d := ⟨fun _ _ => rfl, fun _ _ _ h => h⟩

theorem Dev.OnlyRises.trans {a b c : Dev} (h : a.OnlyRises b) (k : b.OnlyRises c) : a.OnlyRises c :=
  ⟨fun g hg => (k.1 g hg).trans (h.1 g hg), fun page i hi hb => k.2 page i hi (h.2 page i hi hb)⟩

theorem Dev.onlyRises_of_regs {d d' : Dev} (h : d'.regs = d.regs) : d.OnlyRises d' :=
  ⟨fun g _ => Dev.get_of_regs h g, fun page i _ hb => by rwa [Dev.get_of_regs h]⟩

/-- Fields of registers at different page offsets lie at different places. -/
theorem key_ne_of_off {f g : Fld} (h : g.off ≠ f.off) (hf : f.off < 4096) (hg : g.off < 4096) (hf' : f.lo < 64)
    (hg' : g.lo < 64) : g.key ≠ f.key := by
  simp only [Fld.key]; omega

/-- The fields of FLT_LOCAL of a page (Table 2.6). -/
def fltLocalFields (page : Nat) : List Fld :=
  [Reg.HDR.F_TS page, Reg.HDR.F_ADDR page, Reg.HDR.F_VALID page, Reg.HDR.F_SEVERITY page, Reg.HDR.F_KIND page,
    Reg.HDR.F_ACCESS page, Reg.HDR.F_MASTER page, Reg.HDR.F_COUNT page, Reg.HDR.F_ARG page]

theorem off_of_mem_fltLocalFields {page : Nat} {f : Fld} (h : f ∈ fltLocalFields page) :
    f.off ∈ [0x020, 0x028, 0x030, 0x034, 0x038] ∧ f.lo < 64 := by
  have hall : (fltLocalFields page).all
      (fun f => decide (f.off ∈ [0x020, 0x028, 0x030, 0x034, 0x038] ∧ f.lo < 64)) = true := rfl
  exact of_decide_eq_true (List.all_eq_true.mp hall f h)

/-- A FLT_LOCAL field takes a value. -/
theorem Dev.onlyRises_set {d : Dev} {page : Nat} {f : Fld} (v : Nat) (h : f ∈ fltLocalFields page) :
    d.OnlyRises (d.set f v) := by
  obtain ⟨hf, hl⟩ := off_of_mem_fltLocalFields h
  have hlt : f.off < 4096 ∧ f.off ≠ 0x010 := by
    simp only [List.mem_cons, List.not_mem_nil, or_false] at hf; omega
  refine ⟨fun g hg => ?_, fun page i _ hb => ?_⟩
  · obtain ⟨hoff, hg1, hg2, -⟩ := hg
    refine d.get_set_ne v (key_ne_of_off (fun h => hoff ?_) hlt.1 hg1 hl hg2)
    rw [h]
    exact List.mem_cons_of_mem _ hf
  · rwa [d.get_set_ne v (key_ne_of_off (Ne.symm hlt.2) hlt.1 (by decide : 0x010 < 4096) hl (by decide : 0 < 64))]

/-- SED.LOST takes a value. -/
theorem Dev.onlyRises_set_lost (d : Dev) (v : Nat) : d.OnlyRises (d.set Reg.SED.LOST.COUNT v) := by
  refine ⟨fun g hg => d.get_set_ne v hg.2.2.2, fun page i _ hb => ?_⟩
  rwa [d.get_set_ne v (key_ne_of_off (f := Reg.SED.LOST.COUNT) (g := Reg.HDR.EV_RAW page) (by decide : 0x010 ≠ _) (by decide)
    (by decide : 0x010 < 4096) (by decide) (by decide : 0 < 64))]

theorem evRaw_key_ne {p q : Nat} (h : p ≠ q) : (Reg.HDR.EV_RAW p).key ≠ (Reg.HDR.EV_RAW q).key := by
  simp only [Fld.key, Reg.HDR.EV_RAW]; omega

/-- What an EV_RAW register reads after one of its bits has been set. -/
theorem Dev.testBit_setBit_evRaw (d : Dev) (page j : Nat) {i : Nat} (hi : i < 32) :
    ((d.setBit (Reg.HDR.EV_RAW page) j).get (Reg.HDR.EV_RAW page)).testBit i =
      ((d.get (Reg.HDR.EV_RAW page)).testBit i || decide (j = i)) := by
  rw [Dev.setBit_eq, Dev.get_set_same, show (Reg.HDR.EV_RAW page).cap = 2 ^ 32 from rfl, Nat.testBit_mod_two_pow, setB,
    Nat.testBit_or, Nat.testBit_two_pow]
  simp [hi]

/-- An EV_RAW bit is set. -/
theorem Dev.onlyRises_setBit (d : Dev) (page j : Nat) : d.OnlyRises (d.setBit (Reg.HDR.EV_RAW page) j) := by
  refine ⟨fun g hg => ?_, fun p i hi hb => ?_⟩
  · obtain ⟨hoff, hg1, hg2, -⟩ := hg
    refine d.get_set_ne _ (key_ne_of_off (fun h => hoff ?_) (by decide : 0x010 < 4096) hg1 (by decide : 0 < 64) hg2)
    rw [h]
    exact List.mem_cons_self
  · by_cases hp : p = page
    · subst hp
      rw [d.testBit_setBit_evRaw p j hi, hb, Bool.true_or]
    · rwa [Dev.setBit_eq, d.get_set_ne _ (evRaw_key_ne hp)]

theorem Dev.sendOn_regs (d : Dev) (l : Nat) (c : Bytes) : (d.sendOn l c).regs = d.regs := by
  unfold Dev.sendOn
  dsimp only
  split_ifs <;> rfl

theorem Dev.broadcast_regs (d : Dev) (t : Nat) (p : Bytes) : (d.broadcast t p).regs = d.regs := by
  unfold Dev.broadcast
  dsimp only
  split_ifs
  · exact (Dev.sendOn_regs ..).trans (Dev.sendOn_regs ..)
  · rfl

theorem Dev.onlyRises_foldl {α : Type} (f : Dev → α → Dev) (h : ∀ (d : Dev) (a : α), d.OnlyRises (f d a)) (l : List α)
    (d : Dev) : d.OnlyRises (l.foldl f d) := by
  induction l generalizing d with
  | nil => exact .refl d
  | cons a l ih => exact (h d a).trans (ih _)

theorem Dev.onlyRises_forwardEvent (d : Dev) (s : Nat) : d.OnlyRises (d.forwardEvent s) :=
  Dev.onlyRises_foldl _ (fun d i => by
    split_ifs
    · exact Dev.onlyRises_of_regs (d.broadcast_regs _ _)
    · exact .refl d) _ d

theorem Dev.onlyRises_sedOffer (d : Dev) (r : SedRec) : d.OnlyRises (d.sedOffer r) := by
  unfold Dev.sedOffer
  split_ifs
  · exact Dev.onlyRises_of_regs rfl
  · exact (d.onlyRises_set_lost _).trans (Dev.onlyRises_setBit _ _ _)

theorem Dev.onlyRises_fltLocal (d : Dev) (page kind sev : Nat) (a : FArg) : d.OnlyRises (d.fltLocal page kind sev a) := by
  have hc : d.OnlyRises (d.bump (Reg.HDR.F_COUNT page) 1) :=
    Dev.onlyRises_set _ (page := page) (by simp [fltLocalFields])
  unfold Dev.fltLocal
  dsimp only
  split_ifs
  · exact hc
  · iterate 8 refine Dev.OnlyRises.trans ?_ (Dev.onlyRises_set _ (page := page) (by simp [fltLocalFields]))
    exact hc

theorem Dev.onlyRises_post (d : Dev) (n : Nat) (k : FKind) (sev : Nat) (a : FArg) : d.OnlyRises (d.post n k sev a) :=
  (d.onlyRises_fltLocal _ _ _ a).trans (Dev.onlyRises_of_regs rfl)

theorem Dev.onlyRises_riseRecord (d : Dev) (s : Nat) : d.OnlyRises (d.riseRecord s) := by
  unfold Dev.riseRecord
  dsimp only
  split_ifs
  · exact ((d.onlyRises_sedOffer _).trans (Dev.onlyRises_post _ _ _ _ _)).trans (Dev.onlyRises_forwardEvent _ _)
  · exact (d.onlyRises_sedOffer _).trans (Dev.onlyRises_post _ _ _ _ _)
  · exact d.onlyRises_sedOffer _

theorem Dev.onlyRises_onRise (d : Dev) (s : Nat) : d.OnlyRises (d.onRise s) := by
  unfold Dev.onRise
  split_ifs
  · exact (d.onlyRises_riseRecord s).trans (Dev.onlyRises_forwardEvent _ s)
  · exact d.onlyRises_forwardEvent s

/-- The rises that a change brings about only add to it. -/
theorem Dev.onlyRises_rising (d : Dev) (b : Blk) (n bit : Nat) (f : Dev → Dev) : (f d).OnlyRises (d.rising b n bit f) := by
  unfold Dev.rising
  split
  · exact .refl _
  · split_ifs
    · exact (f d).onlyRises_onRise _
    · exact .refl _

/-- Setting an EV_RAW bit. -/
theorem Dev.onlyRises_ev (d : Dev) (b : Blk) (n bit : Nat) : d.OnlyRises (d.ev b n bit) :=
  (d.onlyRises_setBit _ _).trans (d.onlyRises_rising ..)

/-- The bit that a block sets is set. -/
theorem Dev.evRaw_ev (d : Dev) (b : Blk) (n : Nat) {bit : Nat} (h : bit < 32) : (d.ev b n bit).evRaw b n bit = true :=
  (d.onlyRises_rising ..).2 _ bit h (by rw [d.testBit_setBit_evRaw _ bit h, decide_eq_true rfl, Bool.or_true])

/-- Raising a fault. -/
theorem Dev.onlyRises_raise (d : Dev) (n : Nat) (k : FKind) (a : FArg) : d.OnlyRises (d.raise n k a) :=
  (d.onlyRises_ev ..).trans (Dev.onlyRises_post ..)

/-- A fault raised shows in EV_RAW of its page. -/
theorem Dev.evRaw_raise (d : Dev) (n : Nat) (k : FKind) (a : FArg) (h : k.bit < 32) :
    (d.raise n k a).evRaw k.blk n k.bit = true :=
  (Dev.onlyRises_post ..).2 _ k.bit h (d.evRaw_ev k.blk n h)

end Sys2Proof.Machine
end

section
/-!
PROOF. Register writes (O1) and the level window (O4). A write goes to the fields of its register and then acts in its
block; what follows says so once for the registers whose own fields a write never sets, and for CLK.REF_TOL.
-/
namespace Sys2Proof.Machine

/-- Completion of a command from what `exec` answers. -/
theorem completes_of_exec {c : Instr} {s : State} {d : Dev} {e : Dev → Prop} (hx : exec c s = .next { s with dev := d })
    (he : e d) : Completes c s e :=
  ⟨d, hx, he⟩

/-! ### Writes that reach no register -/

/-- A write to a page that no block has (R35). -/
theorem busWrite_absent {u : Fuses} {w : Party} {addr v : Nat} {d : Dev} (hp : Blk.ofPage (addr / 4096) = none) :
    busWrite u w addr v d = (0x11, discarded Kind.SYS.ABSENT_TARGET w true addr d) := by
  simp only [busWrite, hp]

/-- A write of an own register on a page whose block is off. -/
theorem busWrite_off {u : Fuses} {w : Party} {addr v : Nat} {d : Dev} (ho : d.pageOff (addr / 4096) = true)
    (h1 : 0x40 ≤ addr % 4096 / 4 * 4) (h2 : addr % 4096 / 4 * 4 < 0xF00) :
    busWrite u w addr v d = (0x21, if w.isHost then hostRefused 0x21 addr d else d) := by
  have hp : (Blk.ofPage (addr / 4096)).isSome = true := (Bool.and_eq_true_iff.mp ho).1
  obtain ⟨⟨b, n⟩, hbn⟩ := Option.isSome_iff_exists.mp hp
  have h3 : ¬0xF00 ≤ addr % 4096 / 4 * 4 := Nat.not_le.mpr h2
  have h4 : ¬addr % 4096 / 4 * 4 < 0x40 := Nat.not_lt.mpr h1
  simp only [busWrite, hbn, ho, h3, h4, if_false, if_true]

theorem hostWrite_off {u : Fuses} {addr v : Nat} {d : Dev} (ho : d.pageOff (addr / 4096) = true)
    (h1 : 0x40 ≤ addr % 4096 / 4 * 4) (h2 : addr % 4096 / 4 * 4 < 0xF00) :
    hostWrite u addr v d = hostRefused 0x21 addr d := by
  rw [hostWrite, busWrite_off ho h1 h2]; rfl

/-! ### Writes of registers whose fields only act -/

/-- A field that a write leaves to its block: write-only, or set by an operation of its own. -/
def Fld.ActsOnly (n : Nat) (b : Blk) (f : Fld) : Prop :=
  f.pair = false ∧ (f.acc = .wo ∨ (f.acc = .rw ∧ ownWriter n b f = true))

theorem Fld.ActsOnly.not_guarded {n : Nat} {b : Blk} {f : Fld} (h : f.ActsOnly n b) (d : Dev) (page : Nat) :
    d.guarded page f = false := by
  obtain ⟨-, hw | ⟨hw, -⟩⟩ := h <;> simp [Dev.guarded, hw]

theorem Fld.ActsOnly.fieldWrite_eq {n : Nat} {b : Blk} {f : Fld} (h : f.ActsOnly n b) (o : Offer) (d : Dev) :
    fieldWrite n b o d f = d := by
  obtain ⟨-, hw | ⟨-, how⟩⟩ := h
  · exact fieldWrite_skip ⟨by simp [hw], by simp [hw], by simp [hw]⟩
  · simp [fieldWrite, how]

theorem foldl_fieldWrite_actsOnly {n : Nat} {b : Blk} {fs : List Fld} (h : ∀ f ∈ fs, f.ActsOnly n b) (o : Offer) (d : Dev) :
    fs.foldl (fieldWrite n b o) d = d := by
  induction fs generalizing d with
  | nil => rfl
  | cons f fs ih =>
    rw [List.foldl_cons, (h f List.mem_cons_self).fieldWrite_eq, ih fun g hg => h g (List.mem_cons_of_mem _ hg)]

/-- A host write of a register whose fields only act: the block acts, and nothing else happens. -/
theorem hostWrite_actsOnly {u : Fuses} {addr v : Nat} {d : Dev} {b : Blk} {n off : Nat} {fs : List Fld}
    (hp : Blk.ofPage (addr / 4096) = some (b, n)) (ho : d.pageOff (addr / 4096) = false) (hoff : addr % 4096 / 4 * 4 = off)
    (h1 : 0x40 ≤ off) (h2 : off < 0xF00) (hb : b ≠ .EVT ∧ b ≠ .TRG ∧ b ≠ .ENC) (hfs : b.fieldsAt n off = fs)
    (ha : ∀ f ∈ fs, f.ActsOnly n b) :
    hostWrite u addr v d = instanceActs b n off (v % 2 ^ 32) true d
      (blockActs u Party.host b off (v % 2 ^ 32) { raw := v % 2 ^ 32, whole := some (v % 2 ^ 32) } true d d) := by
  obtain ⟨he, ht, hc⟩ := hb
  subst hoff hfs
  have hlo : isLo (b.fieldsAt n (addr % 4096 / 4 * 4)) (addr % 4096 / 4 * 4) = false :=
    List.any_eq_false.mpr fun f hf => by simp [(ha f hf).1]
  have hhi : isHi (b.fieldsAt n (addr % 4096 / 4 * 4)) (addr % 4096 / 4 * 4) = false :=
    List.any_eq_false.mpr fun f hf => by simp [(ha f hf).1]
  rw [hostWrite, busWrite_own hp ho h1 h2 he, blockWrite_single ht hlo hhi, fieldsWrite_ok (Dev.denied_nil _) hc,
    foldl_fieldWrite_actsOnly ha]
  exact List.all_eq_true.mpr fun f hf => by rw [(ha f hf).not_guarded]; rfl

/-! ### CLK.REF_TOL -/

/-- PPM alone lies at CLK offset 0x400. -/
theorem fieldsAt_clk_refTol : Blk.fieldsAt 0 0x400 .CLK = [Reg.CLK.REF_TOL.PPM] := by decide

/-- A write of REF_TOL is a write of PPM, by any master. -/
theorem busWrite_refTol (u : Fuses) (w : Party) (v : Nat) {d : Dev} (ho : d.pageOff 1 = false) :
    busWrite u w 0x1400 v d = fieldsWrite u w .CLK 0 0x400 (v % 2 ^ 32) [Reg.CLK.REF_TOL.PPM]
      { raw := v % 2 ^ 32, whole := some (v % 2 ^ 32) } d := by
  rw [busWrite_own (b := .CLK) (n := 0) (by decide) ho (by decide) (by decide) (by decide),
    blockWrite_single (by decide) (by decide) (by decide), fieldsAt_clk_refTol]

/-- PPM is guarded exactly at basic level (R37). -/
theorem guarded_refTol (d : Dev) : d.guarded 1 Reg.CLK.REF_TOL.PPM = !d.is (Reg.HDR.LEVEL 1) := by
  simp [Dev.guarded, Reg.CLK.REF_TOL.PPM]

/-- At expert level PPM takes the value written, clamped to its range (notes/assumptions/61.md). -/
theorem busWrite_refTol_expert (u : Fuses) (w : Party) {v : Nat} {d : Dev} (ho : d.pageOff 1 = false)
    (hl : d.is (Reg.HDR.LEVEL 1) = true) (hv : v < 2 ^ 32) :
    busWrite u w 0x1400 v d = (0, d.set Reg.CLK.REF_TOL.PPM (clamp 100 2000 (bits v 15 0))) := by
  have hg : d.guarded (pg .CLK 0) Reg.CLK.REF_TOL.PPM = false := (guarded_refTol d).trans (by rw [hl]; rfl)
  have hden : d.denied u 0 .CLK [Reg.CLK.REF_TOL.PPM] { raw := v, whole := some v } = [] :=
    Dev.denied_nil (by rw [List.all_cons, hg]; rfl)
  have hset : fieldWrite 0 .CLK { raw := v, whole := some v } d Reg.CLK.REF_TOL.PPM =
      d.set Reg.CLK.REF_TOL.PPM (clamp 100 2000 (bits v 15 0)) := by
    rw [fieldWrite, if_neg (by simp [ownWriter, hg])]
    rfl
  rw [busWrite_refTol u w v ho, Nat.mod_eq_of_lt hv]
  refine Prod.ext ?_ ?_
  · rw [fieldsWrite, hden]; rfl
  · rw [fieldsWrite_ok hden (by decide), List.foldl_cons, List.foldl_nil, hset]; rfl

/-- At basic level a value other than the one held is denied (notes/assumptions/11.md). -/
theorem busWrite_refTol_basic (u : Fuses) (w : Party) {v : Nat} {d : Dev} (ho : d.pageOff 1 = false)
    (hl : d.is (Reg.HDR.LEVEL 1) = false) (hv : v < 2 ^ 32) (hne : bits v 15 0 ≠ d.get Reg.CLK.REF_TOL.PPM) :
    busWrite u w 0x1400 v d = (0x12, discarded Kind.SYS.LEVEL_DENIED w true 0x1400 d) := by
  have hg : d.guarded (pg .CLK 0) Reg.CLK.REF_TOL.PPM = true := (guarded_refTol d).trans (by rw [hl]; rfl)
  have hval : d.value u 0 .CLK Reg.CLK.REF_TOL.PPM = d.get Reg.CLK.REF_TOL.PPM := rfl
  have hbad : d.denied u 0 .CLK [Reg.CLK.REF_TOL.PPM] { raw := v, whole := some v } = [Reg.CLK.REF_TOL.PPM] := by
    have hoffer : ({ raw := v, whole := some v } : Offer).value Reg.CLK.REF_TOL.PPM = some (bits v 15 0) := rfl
    simp [Dev.denied, hg, hoffer, hval, hne]
  -- the fault leaves LEVEL, so that PPM is guarded still
  have hg' : (discarded Kind.SYS.LEVEL_DENIED w true 0x1400 d).guarded (pg .CLK 0) Reg.CLK.REF_TOL.PPM = true := by
    refine (guarded_refTol _).trans ?_
    rw [Dev.is_eq, discarded, (Dev.onlyRises_raise ..).1 (Reg.HDR.LEVEL 1) ⟨by decide, by decide, by decide, by decide⟩,
      ← Dev.is_eq, hl]
    rfl
  rw [busWrite_refTol u w v ho, Nat.mod_eq_of_lt hv]
  have hnot : (Reg.CLK.REF_TOL.PPM.acc == Acc.rwa) = false := rfl
  have ha : pg .CLK 0 * 4096 + 0x400 = 0x1400 := rfl
  simp [fieldsWrite, hbad, hnot, ha, fieldWrite, hg', blockActs, instanceActs]

/-! ### Accesses of one size or another (R28) -/

theorem registerWrite_dword {u : Fuses} {w : Party} {addr v : Nat} {d : Dev} (ha : addr % 4 = 0) :
    registerWrite w addr 4 v u d = completed w (busWrite u w addr (v % 2 ^ 32) d).1 (busWrite u w addr (v % 2 ^ 32) d).2 := by
  simp [registerWrite, bar0Ok, ha]

theorem registerWrite_pair {u : Fuses} {w : Party} {addr v : Nat} {d d1 : Dev} (ha : addr % 8 = 0)
    (h1 : completed w (busWrite u w addr (v % 2 ^ 32) d).1 (busWrite u w addr (v % 2 ^ 32) d).2 = d1) :
    registerWrite w addr 8 v u d =
      completed w (busWrite u w (addr + 4) (v / 2 ^ 32) d1).1 (busWrite u w (addr + 4) (v / 2 ^ 32) d1).2 := by
  subst h1
  simp [registerWrite, bar0Ok, ha]

theorem registerWrite_refused {u : Fuses} {w : Party} {addr size v : Nat} {d : Dev}
    (h : ¬(size = 4 ∧ addr % 4 = 0) ∧ ¬(size = 8 ∧ addr % 8 = 0)) :
    registerWrite w addr size v u d = completed w 0x14 (discarded Kind.SYS.ACCESS_SIZE w true addr d) := by
  have hb : bar0Ok addr size = false := by
    rw [bar0Ok, Bool.or_eq_false_iff]
    simpa using h
  simp [registerWrite, hb]

/-- A writer inside the device is told the completion code. -/
theorem completed_internal {w : Party} (h : w.master ≠ 0 ∨ w.internal = true) (code : Nat) (d : Dev) :
    completed w code d = d.emit (.completion w.master code) := by
  have hw : w.isHost = false := by
    rw [Party.isHost, Bool.and_eq_false_iff]
    simpa using h
  simp [completed, hw]

theorem flagged_completed (w : Party) (code : Nat) (d : Dev) : d.Flagged (completed w code d) := by
  unfold completed
  split_ifs
  · exact .refl d
  · exact Dev.flagged_of_regs rfl ⟨_, _, _, _, _, rfl⟩

theorem completed_get (w : Party) (code : Nat) (d : Dev) (f : Fld) : (completed w code d).get f = d.get f := by
  unfold completed
  split_ifs <;> rfl

/-- What a refused and recorded access leaves: flags and faults, its bit of SYS, and the code for a writer inside. -/
theorem completed_discarded {k : FKind} (hb : k.blk = .SYS) (hi : k.bit < 32) (w : Party) (code addr : Nat) (d : Dev) :
    d.Flagged (completed w code (discarded k w true addr d)) ∧
      (completed w code (discarded k w true addr d)).evRaw .SYS 0 k.bit = true ∧
        (w.master ≠ 0 ∨ w.internal = true →
          Output.completion w.master code ∈ (completed w code (discarded k w true addr d)).out) := by
  refine ⟨(d.flagged_raise ..).trans (flagged_completed ..), ?_, fun hw => ?_⟩
  · rw [Dev.evRaw, completed_get, ← hb]
    exact d.evRaw_raise 0 k _ hi
  · rw [completed_internal hw]
    exact List.mem_append_right _ List.mem_cons_self

/-- Settles O1. The clamped value (notes/assumptions/61.md), the denial of the one guarded field (notes/assumptions/11.md)
and the discards (notes/assumptions/12.md) are readings of the model. -/
theorem registerWriteGuarded : Obligations.RegisterWriteGuarded := by
  refine ⟨fun s m v i hs ho hl hv => ?_, fun s m v i hs ho hl hv hne => ?_, fun s m page v i hs hp => ?_,
    fun s m v i hs ho hm => ?_, fun s m addr v i hs ha => ?_, fun s m addr v i d1 hs ha h1 => ?_,
    fun s m addr size v i hs h => ?_⟩ <;> refine completes_of_exec (exec_registerWrite hs ..) ?_
  · rw [registerWrite_dword (by decide), Nat.mod_eq_of_lt hv, busWrite_refTol_expert _ _ ho hl hv]
  · rw [registerWrite_dword (by decide), Nat.mod_eq_of_lt hv, busWrite_refTol_basic _ _ ho hl hv hne]
    exact completed_discarded rfl (by decide) ..
  · rw [registerWrite_dword (by omega), busWrite_absent (by rwa [show (page * 4096 + 0x40) / 4096 = page by omega])]
    exact completed_discarded rfl (by decide) ..
  · rw [registerWrite_dword (by decide), busWrite_off ho (by decide) (by decide), completed_internal hm]
    have hw : ({ master := m, internal := i } : Party).isHost = false := by
      rw [Party.isHost, Bool.and_eq_false_iff]
      simpa using hm
    rw [hw]
    rfl
  · exact registerWrite_dword ha
  · exact registerWrite_pair ha h1
  · exact registerWrite_refused h

/-! ### The level window -/

/-- A host write of LEVEL_UNLOCK is an unlock with the low 16 bits of the value (R36). -/
theorem hostWrite_levelUnlock (u : Fuses) (key : Nat) {d : Dev} (ho : d.pageOff 0 = false) :
    hostWrite u 0x40 key d = levelUnlock 2 0 (bits (key % 2 ^ 32) 15 0) d :=
  hostWrite_actsOnly (b := .SYS) (n := 0) (fs := [Reg.SYS.LEVEL_UNLOCK.KEY]) (by decide) ho rfl (by decide) (by decide)
    (by decide) (by decide) (by simp [Fld.ActsOnly, Reg.SYS.LEVEL_UNLOCK.KEY])

theorem levelUnlock_of_key {access master key : Nat} {d : Dev} (h : key % 65536 = 0xE7A1) :
    levelUnlock access master key d = d.arm .levelWindow ms := if_pos h

theorem levelUnlock_of_other {access master key : Nat} {d : Dev} (h : key % 65536 ≠ 0xE7A1) :
    levelUnlock access master key d =
      (d.disarm .levelWindow).raise 0 Kind.SYS.UNLOCK_BAD { access, master, addr := 0x040 } := if_neg h

/-- LEVEL of a page without a block, or LEVEL as it is already, is left (notes/assumptions/8.md, 12.md). -/
theorem levelSet_none {access master page : Nat} {v : Bool} {d : Dev}
    (h : Blk.ofPage page = none ∨ d.is (Reg.HDR.LEVEL page) = v) : levelSet access master page v d = d :=
  if_pos (by rwa [Option.isNone_iff_eq_none])

/-- LEVEL takes another value: to fall at any time, to rise while a window is open. -/
theorem levelSet_changes {access master page : Nat} {v : Bool} {d : Dev} (hp : (Blk.ofPage page).isSome = true)
    (hl : d.is (Reg.HDR.LEVEL page) = !v) (hw : v = true → d.running .levelWindow = true) :
    levelSet access master page v d = (d.put (Reg.HDR.LEVEL page) v).ev .SYS 0 1 := by
  have hn : ¬((Blk.ofPage page).isNone = true ∨ d.is (Reg.HDR.LEVEL page) = v) := by
    rw [hl, Option.isNone_iff_eq_none]
    exact not_or.mpr ⟨Option.isSome_iff_ne_none.mp hp, (Bool.not_eq_self v).mp⟩
  have hd : ¬(v = true ∧ d.running .levelWindow = false) := fun ⟨hv, hr⟩ => by simp [hw hv] at hr
  rw [levelSet, if_neg hn, if_neg hd]

/-- LEVEL does not rise without a window. -/
theorem levelSet_denied {access master page : Nat} {d : Dev} (hp : (Blk.ofPage page).isSome = true)
    (hl : d.is (Reg.HDR.LEVEL page) = false) (hw : d.running .levelWindow = false) :
    levelSet access master page true d =
      d.raise 0 Kind.SYS.LEVEL_DENIED { access, master, addr := page * 4096 + 0x008 } := by
  simp [levelSet, hl, hw, Option.isSome_iff_ne_none.mp hp]

theorem bits_low16 (key : Nat) : bits (key % 2 ^ 32) 15 0 % 65536 = key % 65536 := by
  simp only [bits]; omega

/-- Settles O4. That nothing changes where no window runs (notes/assumptions/56.md) and where the page has no block
(notes/assumptions/8.md, 12.md) is the choice of the model. -/
theorem levelWindow : Obligations.LevelWindow := by
  refine ⟨fun s hs ho => ?_, fun s key hs ho _ hne => ?_, fun s t hs ht => ?_, fun s page hs hp hl hw => ?_,
    fun s page hs hp hl => ?_, fun s page hs hp hl hw => ?_, fun s hs ht => ?_, fun s page v hs h => ?_,
    fun s key hs ho => ?_⟩
  · refine completes_of_exec (exec_levelUnlock hs _) ?_
    rw [hostWrite_levelUnlock _ _ ho, levelUnlock_of_key (by decide)]
  · refine completes_of_exec (exec_levelUnlock hs _) ?_
    rw [hostWrite_levelUnlock _ _ ho, levelUnlock_of_other (by rwa [bits_low16])]
  · exact completes_of_exec (exec_levelWindowExpiry hs) (Dev.onTimer_some ht id)
  · exact completes_of_exec (exec_levelSet hs ..) (levelSet_changes hp hl fun _ => hw)
  · exact completes_of_exec (exec_levelSet hs ..) (levelSet_changes hp hl nofun)
  · exact completes_of_exec (exec_levelSet hs ..) (levelSet_denied hp hl hw)
  · exact completes_of_exec (exec_levelWindowExpiry hs) (Dev.onTimer_none ht id)
  · exact completes_of_exec (exec_levelSet hs ..) (levelSet_none h)
  · intro k hk
    obtain rfl := List.mem_singleton.mp hk
    exact completes_of_exec (exec_levelUnlock hs key) (hostWrite_off ho (by decide) (by decide))

end Sys2Proof.Machine
end

section
/-!
PROOF. The DMA channels (O6). What an operation does to its own channel, and that it leaves every other one: what a channel
shows (`Dev.ChanKept`) is kept by all that OWNER, REVOKE and the expiry of a domain's wait do to the others, so a pass over
the 32 channels acts on each of them once.
-/
namespace Sys2Proof.Machine

/-! ### Pages and their blocks -/

/-- The page of a block's `n`-th copy belongs to it. -/
theorem ofPage_pg {b : Blk} {n : Nat} (h : n < b.count) : Blk.ofPage (pg b n) = some (b, n) := by
  revert n
  cases b <;> decide +kernel

/-- A page with a block is the page of a copy of it that exists. -/
theorem pg_of_ofPage {page n : Nat} {b : Blk} (h : Blk.ofPage page = some (b, n)) : page = pg b n ∧ n < b.count := by
  simp only [Blk.ofPage, Option.map_eq_some_iff, Prod.mk.injEq] at h
  obtain ⟨b', hf, rfl, rfl⟩ := h
  have hb := List.find?_some hf
  simp only [Bool.and_eq_true, decide_eq_true_eq] at hb
  obtain ⟨h1, h2⟩ := hb
  simp only [pg, Blk.page]
  omega

theorem mem_domainBlocks {dom : Nat} {t : Blk × Nat} :
    t ∈ domainBlocks dom ↔ t.2 < t.1.count ∧ t.1.domain t.2 = some dom := by
  have hall : ∀ b : Blk, b ∈ Blk.all := fun b => by cases b <;> decide
  obtain ⟨b, n⟩ := t
  simp [domainBlocks, hall]

/-! ### What a flag leaves of the device -/

theorem Dev.Flagged.dmas_eq {d d' : Dev} (h : d.Flagged d') : d'.dmas = d.dmas := by
  obtain ⟨⟨r, f, s, e, l, o, rfl⟩, -⟩ := h; rfl

theorem Dev.Flagged.stopping_eq {d d' : Dev} (h : d.Flagged d') : d'.stopping = d.stopping := by
  obtain ⟨⟨r, f, s, e, l, o, rfl⟩, -⟩ := h; rfl

/-! ### What a channel shows -/

/-- The fields of a channel that tell its owner and how its run ended. -/
def chanFields (n : Nat) : List Fld := [Reg.DMA.OWNER.TAG n, Reg.DMA.STAT.CAUSE n, Reg.DMA.STAT.CODE n]

/-- A channel is as it was: its run, its owner, its last completion, and no event bit of it has fallen. -/
def Dev.ChanKept (n : Nat) (d d' : Dev) : Prop :=
  d'.dma n = d.dma n ∧ (∀ f ∈ chanFields n, d'.get f = d.get f) ∧
    ∀ i < 32, d.evRaw .DMA n i = true → d'.evRaw .DMA n i = true

namespace Dev.ChanKept

variable {n : Nat} {a b c d d' : Dev}

theorem refl (n : Nat) (d : Dev) : ChanKept n d d := ⟨rfl, fun _ _ => rfl, fun _ _ h => h⟩

theorem trans (h : ChanKept n a b) (k : ChanKept n b c) : ChanKept n a c :=
  ⟨k.1.trans h.1, fun f hf => (k.2.1 f hf).trans (h.2.1 f hf), fun i hi hb => k.2.2 i hi (h.2.2 i hi hb)⟩

/-- A step that may happen or not. -/
theorem ite {p : Prop} [Decidable p] (h : ChanKept n a b) (k : ChanKept n b c) : ChanKept n a (if p then c else b) := by
  split_ifs
  · exact h.trans k
  · exact h

theorem of_regs (hr : d'.regs = d.regs) (hd : d'.dma n = d.dma n) : ChanKept n d d' :=
  ⟨hd, fun f _ => Dev.get_of_regs hr f, fun i _ hb => by rwa [Dev.evRaw, Dev.get_of_regs hr]⟩

theorem runs (h : ChanKept n d d') : d'.dmaRuns n = d.dmaRuns n := by rw [Dev.dmaRuns, Dev.dmaRuns, h.1]

theorem tag (h : ChanKept n d d') : d'.get (Reg.DMA.OWNER.TAG n) = d.get (Reg.DMA.OWNER.TAG n) :=
  h.2.1 _ (by simp [chanFields])

theorem cause (h : ChanKept n d d') : d'.get (Reg.DMA.STAT.CAUSE n) = d.get (Reg.DMA.STAT.CAUSE n) :=
  h.2.1 _ (by simp [chanFields])

theorem code (h : ChanKept n d d') : d'.get (Reg.DMA.STAT.CODE n) = d.get (Reg.DMA.STAT.CODE n) :=
  h.2.1 _ (by simp [chanFields])

end Dev.ChanKept

/-- A field apart from what channel `n` shows. -/
def Fld.ChanFree (n : Nat) (f : Fld) : Prop :=
  (Reg.HDR.EV_RAW (pg .DMA n)).key ≠ f.key ∧ ∀ g ∈ chanFields n, g.key ≠ f.key

/-- The fields of other registers than EV_RAW, OWNER and STAT, on any page. -/
theorem Fld.chanFree_of_off {n : Nat} {f : Fld} (h : f.off ∉ [0x010, 0x040, 0x058]) (h1 : f.off < 4096) (h2 : f.lo < 64) :
    f.ChanFree n := by
  simp only [List.mem_cons, List.not_mem_nil, or_false, not_or] at h
  simp only [Fld.ChanFree, chanFields, List.forall_mem_cons, Fld.key, Reg.HDR.EV_RAW, Reg.DMA.OWNER.TAG, Reg.DMA.STAT.CAUSE,
    Reg.DMA.STAT.CODE]
  refine ⟨by omega, by omega, by omega, by omega, by simp⟩

/-- The fields of other pages. -/
theorem Fld.chanFree_of_page {n : Nat} {f : Fld} (h : f.page ≠ 0x20 + n) (h1 : f.off < 4096) (h2 : f.lo < 64) :
    f.ChanFree n := by
  simp only [Fld.ChanFree, chanFields, List.forall_mem_cons, Fld.key, Reg.HDR.EV_RAW, Reg.DMA.OWNER.TAG, Reg.DMA.STAT.CAUSE,
    Reg.DMA.STAT.CODE, pg, Blk.page, Blk.base]
  refine ⟨by omega, by omega, by omega, by omega, by simp⟩

namespace Dev

theorem chanKept_set {n : Nat} {d : Dev} {f : Fld} (h : f.ChanFree n) (v : Nat) : d.ChanKept n (d.set f v) :=
  ⟨rfl, fun g hg => d.get_set_ne v (h.2 g hg), fun i _ hb => by rwa [evRaw, d.get_set_ne v h.1]⟩

/-- The fields in which the control of channel `m` shows itself beside `chanFields`. -/
def chanStatus (m : Nat) : List Fld :=
  [Reg.DMA.FLAGS.WAITING m, Reg.DMA.FLAGS.ENDED m, Reg.DMAC.END_MAP.ENDED, Reg.DMAC.ERR_MAP.ERR, Reg.HDR.STATE (pg .DMA m),
    Reg.HDR.ABORTED (pg .DMA m), Reg.HDR.SOFT_RESET (pg .DMA m), Reg.HDR.DRAIN (pg .DMA m)]

/-- Status fields of any channel lie apart from what a channel shows. -/
theorem chanKept_status {n m : Nat} {d : Dev} {f : Fld} (v : Nat) (h : f ∈ chanStatus m) : d.ChanKept n (d.set f v) := by
  have hall : (chanStatus m).all (fun f => decide (f.off ∉ [0x010, 0x040, 0x058] ∧ f.off < 4096 ∧ f.lo < 64)) = true := rfl
  obtain ⟨h0, h1, h2⟩ := of_decide_eq_true (List.all_eq_true.mp hall f h)
  exact chanKept_set (Fld.chanFree_of_off h0 h1 h2) v

/-- What another channel shows lies apart. -/
theorem chanKept_other {n m : Nat} (hnm : n ≠ m) {d : Dev} {f : Fld} (v : Nat) (h : f ∈ chanFields m) :
    d.ChanKept n (d.set f v) := by
  have hall : (chanFields m).all (fun f => decide (f.page = 0x20 + m ∧ f.off < 4096 ∧ f.lo < 64)) = true := by
    simp [chanFields, Reg.DMA.OWNER.TAG, Reg.DMA.STAT.CAUSE, Reg.DMA.STAT.CODE]
  obtain ⟨h0, h1, h2⟩ := of_decide_eq_true (List.all_eq_true.mp hall f h)
  exact chanKept_set (Fld.chanFree_of_page (by omega) h1 h2) v

theorem chanKept_setDma {n m : Nat} (h : n ≠ m) (d : Dev) (c : DmaChan) : d.ChanKept n (d.setDma m c) :=
  .of_regs rfl (tget_tset_ne _ _ _ h _)

theorem steady_of_mem_chanFields {n : Nat} {f : Fld} (h : f ∈ chanFields n) : f.Steady := by
  simp only [chanFields, List.mem_cons, List.not_mem_nil, or_false] at h
  rcases h with rfl | rfl | rfl <;>
  · refine ⟨by simp [Reg.DMA.OWNER.TAG, Reg.DMA.STAT.CAUSE, Reg.DMA.STAT.CODE], ?_⟩
    simp only [Fld.key, Reg.DMA.OWNER.TAG, Reg.DMA.STAT.CAUSE, Reg.DMA.STAT.CODE, Reg.SED.LOST.COUNT]
    omega

theorem chanKept_ev (n : Nat) (d : Dev) (b : Blk) (m bit : Nat) : d.ChanKept n (d.ev b m bit) :=
  ⟨by rw [dma, (d.flagged_ev b m bit).dmas_eq, dma],
    fun _ hf => (d.onlyRises_ev b m bit).1 _ (steady_of_mem_chanFields hf),
    fun i hi hb => (d.onlyRises_ev b m bit).2 _ i hi hb⟩

end Dev

/-! ### The end of a run -/

/-- A run taken from its channel. -/
def dmaUnloaded (n : Nat) (d : Dev) : Dev :=
  let c := d.dma n
  let d := ((d.forget (pg .DMA n)).setDma n
    { c with run := false, lines := [], cur := none, move := none, edge := false, until_ := none }).disarm (.dmaWait n)
  if aget (pg .DMA n) d.stopping = some .enable then { d with stopping := adel (pg .DMA n) d.stopping } else d

/-- A run taken from its channel, with its code and cause: what `dmaEnd` does before it shows that the run has ended. -/
def dmaHalted (n code cause : Nat) (d : Dev) : Dev :=
  ((dmaUnloaded n d).set (Reg.DMA.STAT.CODE n) code).set (Reg.DMA.STAT.CAUSE n) cause

/-- A run shown as ended: what `dmaEnd` does after code and cause are set. -/
def dmaShown (n cause : Nat) (d : Dev) : Dev :=
  let d := d.put (Reg.DMA.FLAGS.WAITING n) false
  let d := if d.blk (pg .DMA n) = 2 ∨ d.blk (pg .DMA n) = 4 then d.setBlk (pg .DMA n) 1 else d
  let d := (d.put (Reg.DMA.FLAGS.ENDED n) true).setBit Reg.DMAC.END_MAP.ENDED n
  if cause = 0 then d.ev .DMA n 0 else (d.setBit Reg.DMAC.ERR_MAP.ERR n).ev .DMA n 2

theorem dmaEnd_eq (n code cause : Nat) (d : Dev) : dmaEnd n code cause d = dmaShown n cause (dmaHalted n code cause d) := rfl

theorem dmaHalted_dma (n code cause : Nat) (d : Dev) : (dmaHalted n code cause d).dma n =
    { d.dma n with run := false, lines := [], cur := none, move := none, edge := false, until_ := none } := by
  change (dmaUnloaded n d).dma n = _
  unfold dmaUnloaded
  dsimp only
  split_ifs <;> exact tget_tset_same ..

theorem dmaHalted_cause (n code : Nat) {cause : Nat} (h : cause < 256) (d : Dev) :
    (dmaHalted n code cause d).get (Reg.DMA.STAT.CAUSE n) = cause :=
  (Dev.get_set_same ..).trans (Nat.mod_eq_of_lt h)

theorem dmaHalted_code (n cause : Nat) {code : Nat} (h : code < 256) (d : Dev) :
    (dmaHalted n code cause d).get (Reg.DMA.STAT.CODE n) = code := by
  have hne : (Reg.DMA.STAT.CODE n).key ≠ (Reg.DMA.STAT.CAUSE n).key := by
    simp only [Fld.key, Reg.DMA.STAT.CODE, Reg.DMA.STAT.CAUSE]; omega
  exact (Dev.get_set_ne _ _ hne).trans ((Dev.get_set_same ..).trans (Nat.mod_eq_of_lt h))

theorem chanKept_dmaUnloaded {n m : Nat} (h : n ≠ m) (d : Dev) : d.ChanKept n (dmaUnloaded m d) := by
  unfold dmaUnloaded
  refine .ite ?_ (.of_regs rfl rfl)
  exact (Dev.ChanKept.of_regs rfl rfl).trans ((Dev.chanKept_setDma h (d.forget _) _).trans (.of_regs rfl rfl))

theorem chanKept_dmaHalted {n m : Nat} (h : n ≠ m) (code cause : Nat) (d : Dev) : d.ChanKept n (dmaHalted m code cause d) :=
  (chanKept_dmaUnloaded h d).trans ((Dev.chanKept_other h code (by simp [chanFields])).trans
    (Dev.chanKept_other h cause (by simp [chanFields])))

theorem dmaHalted_stopping {n code cause : Nat} {d : Dev} (h : d.stopping = []) :
    (dmaHalted n code cause d).stopping = [] := by
  change (dmaUnloaded n d).stopping = []
  unfold dmaUnloaded
  dsimp only
  split_ifs
  · exact (congrArg (adel _) h).trans rfl
  · exact h

/-- Showing the end of any run leaves what a channel shows beside it. -/
theorem chanKept_dmaShown (n m cause : Nat) (d : Dev) : d.ChanKept n (dmaShown m cause d) := by
  have hwait : d.ChanKept n (d.put (Reg.DMA.FLAGS.WAITING m) false) := Dev.chanKept_status (m := m) _ (by simp [Dev.chanStatus])
  have hblk (e : Dev) : e.ChanKept n (if e.blk (pg .DMA m) = 2 ∨ e.blk (pg .DMA m) = 4 then e.setBlk (pg .DMA m) 1 else e) :=
    .ite (.refl n e) (Dev.chanKept_status (m := m) _ (by simp [Dev.chanStatus]))
  have hend (e : Dev) : e.ChanKept n ((e.put (Reg.DMA.FLAGS.ENDED m) true).setBit Reg.DMAC.END_MAP.ENDED m) :=
    .trans (b := e.put (Reg.DMA.FLAGS.ENDED m) true) (Dev.chanKept_status (m := m) _ (by simp [Dev.chanStatus]))
      (Dev.chanKept_status (m := m) _ (by simp [Dev.chanStatus]))
  have herr (e : Dev) : e.ChanKept n (e.setBit Reg.DMAC.ERR_MAP.ERR m) :=
    Dev.chanKept_status (m := m) _ (by simp [Dev.chanStatus])
  have h := (hwait.trans (hblk _)).trans (hend _)
  unfold dmaShown
  by_cases hc : cause = 0
  · rw [if_pos hc]
    exact h.trans (Dev.chanKept_ev ..)
  · rw [if_neg hc]
    exact (h.trans (herr _)).trans (Dev.chanKept_ev ..)

theorem dmaShown_stopping (n cause : Nat) (d : Dev) : (dmaShown n cause d).stopping = d.stopping := by
  have hev (e : Dev) (bit : Nat) : (e.ev .DMA n bit).stopping = e.stopping := (e.flagged_ev ..).stopping_eq
  unfold dmaShown
  dsimp only
  split_ifs <;> exact (hev _ _).trans rfl

/-- A run that ends with a cause sets the event bit of errors. -/
theorem dmaShown_evRaw {n cause : Nat} (h : cause ≠ 0) (d : Dev) : (dmaShown n cause d).evRaw .DMA n 2 = true := by
  unfold dmaShown
  rw [if_neg h]
  exact Dev.evRaw_ev _ _ _ (by decide)

/-- The end of a run leaves every other channel. -/
theorem chanKept_dmaEnd {n m : Nat} (h : n ≠ m) (code cause : Nat) (d : Dev) : d.ChanKept n (dmaEnd m code cause d) :=
  (chanKept_dmaHalted h code cause d).trans (chanKept_dmaShown n m cause _)

/-- A run that ended with a cause: the channel rests, and shows the cause, its code and the event. -/
def Dev.EndedWith (d : Dev) (n cause : Nat) : Prop :=
  d.dmaRuns n = false ∧ (d.dma n).move = none ∧ d.get (Reg.DMA.STAT.CAUSE n) = cause ∧
    d.get (Reg.DMA.STAT.CODE n) = dmaCode cause ∧ d.evRaw .DMA n 2 = true

theorem Dev.EndedWith.kept {n cause : Nat} {d d' : Dev} (h : d.EndedWith n cause) (k : d.ChanKept n d') :
    d'.EndedWith n cause := by
  obtain ⟨hr, hm, hca, hco, hev⟩ := h
  exact ⟨k.runs.trans hr, by rw [k.1, hm], k.cause.trans hca, k.code.trans hco, k.2.2 2 (by decide) hev⟩

/-- A new owner does not change how the last run ended. -/
theorem Dev.EndedWith.set_tag {n cause : Nat} {d : Dev} (h : d.EndedWith n cause) (v : Nat) :
    (d.set (Reg.DMA.OWNER.TAG n) v).EndedWith n cause := by
  have hne (f : Fld) (hf : 0x040 ≠ f.off) (h1 : f.off < 4096) (h2 : f.lo < 64) :
      (d.set (Reg.DMA.OWNER.TAG n) v).get f = d.get f :=
    d.get_set_ne v (key_ne_of_off (f := Reg.DMA.OWNER.TAG n) hf.symm (by decide : 0x040 < 4096) h1 (by decide : 0 < 64) h2)
  obtain ⟨hr, hm, hca, hco, hev⟩ := h
  refine ⟨hr, hm, (hne (Reg.DMA.STAT.CAUSE n) ?_ ?_ ?_).trans hca, (hne (Reg.DMA.STAT.CODE n) ?_ ?_ ?_).trans hco, ?_⟩
  on_goal 7 => rwa [Dev.evRaw, hne (Reg.HDR.EV_RAW (pg .DMA n))]
  all_goals simp [Reg.DMA.STAT.CAUSE, Reg.DMA.STAT.CODE, Reg.HDR.EV_RAW]

theorem dmaCode_lt (cause : Nat) : dmaCode cause < 256 := by
  unfold dmaCode
  split_ifs <;> decide

/-- The end of a run in its own channel. -/
theorem dmaEnd_ended {n cause : Nat} (h0 : cause ≠ 0) (h1 : cause < 256) (d : Dev) :
    (dmaEnd n (dmaCode cause) cause d).EndedWith n cause := by
  have hk := chanKept_dmaShown n n cause (dmaHalted n (dmaCode cause) cause d)
  have hd := dmaHalted_dma n (dmaCode cause) cause d
  rw [dmaEnd_eq]
  exact ⟨hk.runs.trans (by rw [Dev.dmaRuns, hd]), by rw [hk.1, hd], hk.cause.trans (dmaHalted_cause n _ h1 d),
    hk.code.trans (dmaHalted_code n _ (dmaCode_lt cause) d), dmaShown_evRaw h0 _⟩

/-! ### A run cut from outside, and the kill of a channel that rests -/

/-- A channel without a run is not cut. -/
theorem dmaCut_rest {n : Nat} {d : Dev} (h : d.dmaRuns n = false) (cause : Nat) : dmaCut n cause d = d := by
  simp [dmaCut, h]

theorem dmaCut_run {n : Nat} {d : Dev} (h : d.dmaRuns n = true) (cause : Nat) :
    dmaCut n cause d = dmaEnd n (dmaCode cause) cause
      (if (d.dma n).move.isSome then d.put (Reg.HDR.ABORTED (pg .DMA n)) true else d) := by
  simp [dmaCut, h]

theorem chanKept_dmaCut {n m : Nat} (h : n ≠ m) (cause : Nat) (d : Dev) : d.ChanKept n (dmaCut m cause d) := by
  cases hr : d.dmaRuns m with
  | false => rw [dmaCut_rest hr]; exact .refl n d
  | true =>
    rw [dmaCut_run hr]
    exact .trans (.ite (.refl n d) (Dev.chanKept_status (m := m) _ (by simp [Dev.chanStatus]))) (chanKept_dmaEnd h ..)

theorem dmaCut_ended {n cause : Nat} {d : Dev} (h : d.dmaRuns n = true) (h0 : cause ≠ 0) (h1 : cause < 256) :
    (dmaCut n cause d).EndedWith n cause := by
  rw [dmaCut_run h]
  exact dmaEnd_ended h0 h1 _

theorem dmaRuns_dmaCut {n cause : Nat} (d : Dev) (h0 : cause ≠ 0) (h1 : cause < 256) :
    (dmaCut n cause d).dmaRuns n = false := by
  cases hr : d.dmaRuns n with
  | false => rw [dmaCut_rest hr, hr]
  | true => exact (dmaCut_ended hr h0 h1).1

theorem dmaCut_stopping {n cause : Nat} {d : Dev} (h : d.stopping = []) : (dmaCut n cause d).stopping = [] := by
  cases hr : d.dmaRuns n with
  | false => rw [dmaCut_rest hr, h]
  | true =>
    rw [dmaCut_run hr, dmaEnd_eq, dmaShown_stopping]
    refine dmaHalted_stopping ?_
    split_ifs <;> exact h

/-- The blocks without work of their own at a power-down: nothing but their state, and the stop itself. -/
theorem endStop_off {b : Blk} (hb : b ∈ [Blk.DMA, .TRN, .DMAC, .CMPC, .ENCC]) (n : Nat) (d : Dev) :
    endStop b n .off d =
      (({ d with stopping := adel (pg b n) d.stopping } : Dev).disarm (.drain (pg b n))).setBlk (pg b n) 0 := by
  simp only [List.mem_cons, List.not_mem_nil, or_false] at hb
  rcases hb with rfl | rfl | rfl | rfl | rfl <;> rfl

/-- A channel's stop given up and its requests ended: what KILL does before the channel's own part. -/
def dmaGivenUp (m : Nat) (d : Dev) : Dev :=
  (((({ d with stopping := adel (pg .DMA m) d.stopping } : Dev).disarm (.drain (pg .DMA m))).put
    (Reg.HDR.SOFT_RESET (pg .DMA m)) false).put (Reg.HDR.DRAIN (pg .DMA m)) false).abortAll (pg .DMA m)

theorem chanKept_dmaGivenUp (n m : Nat) (d : Dev) : d.ChanKept n (dmaGivenUp m d) := by
  have hst (e : Dev) (f : Fld) (hf : f ∈ Dev.chanStatus m) (v : Nat) : e.ChanKept n (e.set f v) := Dev.chanKept_status v hf
  have habort (e : Dev) : e.ChanKept n (e.abortAll (pg .DMA m)) :=
    .trans (.ite (.refl n e) (hst _ _ (by simp [Dev.chanStatus]) _)) (.of_regs rfl rfl)
  exact .trans (.of_regs rfl rfl) (.trans (hst _ (Reg.HDR.SOFT_RESET (pg .DMA m)) (by simp [Dev.chanStatus]) _)
    (.trans (hst _ (Reg.HDR.DRAIN (pg .DMA m)) (by simp [Dev.chanStatus]) _) (habort _)))

/-- KILL of a channel without a run has only its requests and its stop to end (R40). -/
theorem blockKill_dma_rest {m : Nat} (hm : m < 32) {d : Dev} (hs : d.stoppable (pg .DMA m) = true)
    (hr : d.dmaRuns m = false) :
    blockKill (pg .DMA m) d =
      if aget (pg .DMA m) d.stopping = some .off then endStop .DMA m .off (dmaGivenUp m d)
      else (dmaGivenUp m d).setBlk (pg .DMA m) 1 := by
  have hkill : onKill .DMA m (markAborted .DMA m (dmaGivenUp m d)) = dmaGivenUp m d :=
    dmaCut_rest ((chanKept_dmaGivenUp m m d).runs.trans hr) 9
  have hoff : Blk.ofPage (pg .DMA m) = some (.DMA, m) := ofPage_pg hm
  simp only [blockKill, hoff, hs, Blk.neverStops, Bool.false_eq_true, Bool.true_eq_false, or_self, if_false,
    decide_eq_true_eq]
  rw [← dmaGivenUp, hkill]
  rfl

/-- KILL of any channel without a run changes no channel. -/
theorem chanKept_blockKill (n : Nat) {m : Nat} (hm : m < 32) {d : Dev} (hr : d.dmaRuns m = false) :
    d.ChanKept n (blockKill (pg .DMA m) d) := by
  have hblk (e : Dev) (v : Nat) : e.ChanKept n (e.setBlk (pg .DMA m) v) :=
    Dev.chanKept_status (m := m) v (by simp [Dev.chanStatus])
  have hgive := chanKept_dmaGivenUp n m d
  cases hs : d.stoppable (pg .DMA m) with
  | false =>
    have hoff : Blk.ofPage (pg .DMA m) = some (.DMA, m) := ofPage_pg hm
    simp only [blockKill, hoff, hs, or_true, if_true]
    exact .refl n d
  | true =>
    rw [blockKill_dma_rest hm hs hr]
    split_ifs
    · rw [endStop_off List.mem_cons_self]
      exact hgive.trans (.trans (.of_regs rfl rfl) (hblk _ 0))
    · exact hgive.trans (hblk _ 1)

/-! ### Revoking (R45) -/

/-- What a channel shows that has been taken from its owner: no owner, no run, its event set, and of a run it had cause 0x0B. -/
def Dev.Revoked (d d' : Dev) (n : Nat) : Prop :=
  d'.get (Reg.DMA.OWNER.TAG n) = 0 ∧ d'.evRaw .DMA n 3 = true ∧ d'.dmaRuns n = false ∧
    (d.dmaRuns n = true → d'.EndedWith n 0x0B)

theorem dmaRevoke_self {n : Nat} (hn : n < 32) (d : Dev) : d.Revoked (dmaRevoke n d) n := by
  have hrest := dmaRuns_dmaCut (n := n) (cause := 0x0B) d (by decide) (by decide)
  have hkill := chanKept_blockKill n hn hrest
  have hev : ((blockKill (pg .DMA n) (dmaCut n 0x0B d)).set (Reg.DMA.OWNER.TAG n) 0).ChanKept n (dmaRevoke n d) :=
    Dev.chanKept_ev ..
  exact ⟨hev.tag.trans (Dev.get_set_same ..), Dev.evRaw_ev _ _ _ (by decide), hev.runs.trans (hkill.runs.trans hrest),
    fun hr => (((dmaCut_ended hr (by decide) (by decide)).kept hkill).set_tag 0).kept hev⟩

/-- Revoking a channel leaves every other one. -/
theorem chanKept_dmaRevoke {n m : Nat} (h : n ≠ m) (hm : m < 32) (d : Dev) : d.ChanKept n (dmaRevoke m d) :=
  (chanKept_dmaCut h 0x0B d).trans ((chanKept_blockKill n hm (dmaRuns_dmaCut d (by decide) (by decide))).trans
    ((Dev.chanKept_other h 0 (by simp [chanFields])).trans (Dev.chanKept_ev ..)))

/-! ### A pass over the channels -/

theorem foldl_chanKept {n : Nat} {f : Dev → Nat → Dev} {l : List Nat} (h : ∀ m ∈ l, ∀ d, Dev.ChanKept n d (f d m))
    (d : Dev) : d.ChanKept n (l.foldl f d) := by
  induction l generalizing d with
  | nil => exact .refl n d
  | cons m l ih =>
    exact (h m List.mem_cons_self d).trans (ih (fun k hk => h k (List.mem_cons_of_mem _ hk)) _)

/-- A pass that changes one channel at a time acts on channel `n` once, as it was at the start, and leaves what it did. -/
theorem foldl_range_chan {n : Nat} (hn : n < 32) {f : Dev → Nat → Dev}
    (h : ∀ m < 32, n ≠ m → ∀ d, Dev.ChanKept n d (f d m)) (d : Dev) :
    ∃ e, d.ChanKept n e ∧ (f e n).ChanKept n ((List.range 32).foldl f d) := by
  obtain ⟨l, r, hlr⟩ := List.append_of_mem (List.mem_range.mpr hn)
  have hnd : (l ++ n :: r).Nodup := hlr ▸ List.nodup_range
  have hlt : ∀ m ∈ l ++ n :: r, m < 32 := fun m hm => List.mem_range.mp (hlr ▸ hm)
  rw [List.nodup_append, List.nodup_cons] at hnd
  obtain ⟨-, ⟨hr, -⟩, hl⟩ := hnd
  refine ⟨l.foldl f d, foldl_chanKept (fun m hm => ?_) d, ?_⟩
  · exact h m (hlt m (List.mem_append_left _ hm)) fun hnm => hl m hm n List.mem_cons_self hnm.symm
  · rw [hlr, List.foldl_append, List.foldl_cons]
    refine foldl_chanKept (fun m hm => ?_) _
    exact h m (hlt m (List.mem_append_right _ (List.mem_cons_of_mem _ hm))) fun hnm => hr (hnm ▸ hm)

/-- One channel in the pass of REVOKE. -/
def dmaRevokeOf (client : Nat) (d : Dev) (n : Nat) : Dev := if d.get (Reg.DMA.OWNER.TAG n) = client then dmaRevoke n d else d

/-- The pass of REVOKE: a channel of the client is revoked, any other is left. -/
theorem foldl_dmaRevokeOf (client : Nat) (d : Dev) {n : Nat} (hn : n < 32) :
    (d.get (Reg.DMA.OWNER.TAG n) = client → d.Revoked ((List.range 32).foldl (dmaRevokeOf client) d) n) ∧
    (d.get (Reg.DMA.OWNER.TAG n) ≠ client → d.ChanKept n ((List.range 32).foldl (dmaRevokeOf client) d)) := by
  obtain ⟨e, he, hd⟩ := foldl_range_chan hn (f := dmaRevokeOf client)
    (fun m hm hnm d => .ite (.refl n d) (chanKept_dmaRevoke hnm hm d)) d
  constructor
  · intro hc
    rw [dmaRevokeOf, if_pos (he.tag.trans hc)] at hd
    obtain ⟨htag, hev, hrun, hend⟩ := dmaRevoke_self hn e
    exact ⟨hd.tag.trans htag, hd.2.2 3 (by decide) hev, hd.runs.trans hrun,
      fun hr => (hend (he.runs.trans hr)).kept hd⟩
  · intro hc
    rw [dmaRevokeOf, if_neg fun h => hc (he.tag.symm.trans h)] at hd
    exact he.trans hd

/-! ### A domain that turns off (R41) -/

theorem Dev.ChanKept.bound {n : Nat} {d d' : Dev} (h : d.ChanKept n d') (dom : Nat) : d'.dmaBound dom n = d.dmaBound dom n := by
  rw [Dev.dmaBound, Dev.dmaBound, h.1, h.runs]

theorem dmaRuns_of_bound {n dom : Nat} {d : Dev} (h : d.dmaBound dom n = true) : d.dmaRuns n = true := by
  unfold Dev.dmaBound at h
  split at h
  · exact (Bool.and_eq_true_iff.mp h).1
  · exact absurd h (by decide)

/-- The cut of one transfer at the end of a domain's wait. -/
def dmaUnbind (dom : Nat) (d : Dev) (n : Nat) : Dev := if d.dmaBound dom n then dmaCut n 0x0D d else d

/-- The pass over the channels at the end of a domain's wait: a transfer bound to the domain is cut, any other is left. -/
theorem foldl_dmaUnbind (dom : Nat) (d : Dev) {n : Nat} (hn : n < 32) :
    (d.dmaBound dom n = true → ((List.range 32).foldl (dmaUnbind dom) d).EndedWith n 0x0D) ∧
    (d.dmaBound dom n = false → d.ChanKept n ((List.range 32).foldl (dmaUnbind dom) d)) := by
  obtain ⟨e, he, hd⟩ := foldl_range_chan hn (f := dmaUnbind dom)
    (fun m _ hnm d => .ite (.refl n d) (chanKept_dmaCut hnm 0x0D d)) d
  constructor
  · intro hb
    have hbe := (he.bound dom).trans hb
    rw [dmaUnbind, if_pos hbe] at hd
    exact (dmaCut_ended (dmaRuns_of_bound hbe) (by decide) (by decide)).kept hd
  · intro hb
    rw [dmaUnbind, (he.bound dom).trans hb] at hd
    exact he.trans hd

theorem foldl_dmaUnbind_stopping {dom : Nat} {d : Dev} (l : List Nat) (h : d.stopping = []) :
    (l.foldl (dmaUnbind dom) d).stopping = [] := by
  induction l generalizing d with
  | nil => exact h
  | cons n l ih =>
    refine ih ?_
    unfold dmaUnbind
    split_ifs
    · exact dmaCut_stopping h
    · exact h

theorem foldl_dmaUnbind_none {dom : Nat} {d : Dev} (l : List Nat) (h : l.all (fun n => !d.dmaBound dom n) = true) :
    l.foldl (dmaUnbind dom) d = d := by
  induction l with
  | nil => rfl
  | cons n l ih =>
    rw [List.all_cons, Bool.and_eq_true, Bool.not_eq_true'] at h
    rw [List.foldl_cons, dmaUnbind, h.1]
    exact ih h.2

/-- A block of the domain that waits for its power-down is looked at once more. -/
def stopAgain (d : Dev) (t : Blk × Nat) : Dev := if aget (pg t.1 t.2) d.stopping = some .off then checkStop t.1 t.2 d else d

theorem domainWaitExpiry_due {dom t : Nat} {d : Dev} (h : d.due (.domainWait dom) = some t) :
    domainWaitExpiry dom d = (domainBlocks dom).foldl stopAgain
      ((List.range 32).foldl (dmaUnbind dom) ((d.advanceTo t).disarm (.domainWait dom))) :=
  Dev.onTimer_some h _

theorem foldl_stopAgain_none {d : Dev} (l : List (Blk × Nat)) (h : d.stopping = []) : l.foldl stopAgain d = d := by
  induction l with
  | nil => rfl
  | cons t l ih => rwa [List.foldl_cons, stopAgain, h, if_neg (by simp [aget])]

/-- Where one block alone is stopping, the pass over the blocks looks at it alone. -/
theorem foldl_stopAgain_one {d : Dev} {b : Blk} {n : Nat} (hn : n < b.count) (hs : d.stopping = [(pg b n, .off)])
    (hend : (checkStop b n d).stopping = []) (l : List (Blk × Nat)) (hl : (b, n) ∈ l) (hc : ∀ t ∈ l, t.2 < t.1.count) :
    l.foldl stopAgain d = checkStop b n d := by
  induction l with
  | nil => exact absurd hl List.not_mem_nil
  | cons t l ih =>
    rw [List.foldl_cons, stopAgain, hs]
    by_cases ht : pg b n = pg t.1 t.2
    · have hbt : (b, n) = t := by
        have h1 := ofPage_pg (hc t List.mem_cons_self)
        rw [← ht, ofPage_pg hn] at h1
        exact Option.some.inj h1
      subst hbt
      rw [if_pos (by simp [aget])]
      exact foldl_stopAgain_none l hend
    · rw [if_neg (by simp [aget, ht])]
      refine ih ?_ fun k hk => hc k (List.mem_cons_of_mem _ hk)
      rcases List.mem_cons.mp hl with rfl | h
      · exact absurd rfl ht
      · exact h

/-- A block without work of its own that waits for its power-down alone goes off when no transfer is bound. -/
theorem checkStop_unbound {b : Blk} {n dom : Nat} {d : Dev} (hb : b ∈ [Blk.TRN, .DMAC, .CMPC, .ENCC])
    (hd : b.domain n = some dom) (hs : d.stopping = [(pg b n, .off)])
    (hu : (List.range 32).all (fun n => !d.dmaBound dom n) = true) : checkStop b n d = endStop b n .off d := by
  have hstop : aget (pg b n) d.stopping = some .off := by rw [hs]; simp [aget]
  have hwork : d.working n b = false := by
    simp only [List.mem_cons, List.not_mem_nil, or_false] at hb
    rcases hb with rfl | rfl | rfl | rfl <;> rfl
  have hbound : d.boundTo n b = false := by
    rw [Dev.boundTo, hd]
    refine List.any_eq_false.mpr fun m hm => ?_
    simpa using List.all_eq_true.mp hu m hm
  simp only [checkStop, hstop, hwork, hbound, Bool.false_eq_true, and_false, or_self, if_false]

/-! ### The writes of OWNER and REVOKE -/

theorem hostWrite_revoke (u : Fuses) {client : Nat} {d : Dev} (ho : d.pageOff 0x1F = false) (hc : client < 256) :
    hostWrite u 0x1F040 client d = revokeClient client d := by
  have hv : bits (client % 2 ^ 32) 7 0 = client := by simp only [bits]; omega
  refine (hostWrite_actsOnly (b := .DMAC) (n := 0) (fs := [Reg.DMAC.REVOKE.CLIENT]) (by decide) ho rfl (by decide) (by decide)
    (by decide) (by decide) (by simp [Fld.ActsOnly, Reg.DMAC.REVOKE.CLIENT])).trans ?_
  exact congrArg (fun c => revokeClient c d) hv

theorem hostWrite_owner (u : Fuses) {n expect tag : Nat} {d : Dev} (hn : n < 32) (he : expect < 256) (ht : tag < 256)
    (ho : d.pageOff (0x20 + n) = false) :
    hostWrite u ((0x20 + n) * 4096 + 0x40) (expect * 256 + tag) d = ownerWrite n expect tag d := by
  have hpage : ((0x20 + n) * 4096 + 0x40) / 4096 = 0x20 + n := by omega
  have hv : bits ((expect * 256 + tag) % 2 ^ 32) 15 8 = expect ∧ bits ((expect * 256 + tag) % 2 ^ 32) 7 0 = tag := by
    simp only [bits]; omega
  exact (hostWrite_actsOnly (b := .DMA) (n := n) (off := 0x40) (fs := [Reg.DMA.OWNER.EXPECT n, Reg.DMA.OWNER.TAG n])
    (by rw [hpage]; exact ofPage_pg (b := .DMA) hn) (by rwa [hpage]) (by omega) (by decide) (by decide) (by decide) rfl
    (by simp [Fld.ActsOnly, Reg.DMA.OWNER.EXPECT, Reg.DMA.OWNER.TAG, ownWriter])).trans
    (congrArg₂ (fun e t => ownerWrite n e t d) hv.1 hv.2)

theorem ownerWrite_refused {n expect tag : Nat} {d : Dev} (h : d.get (Reg.DMA.OWNER.TAG n) ≠ expect ∨ tag = 0xFF) :
    ownerWrite n expect tag d = d := if_pos h

theorem inRun_set_tag (d : Dev) (n v : Nat) : (d.set (Reg.DMA.OWNER.TAG n) v).inRun (pg .DMA n) = d.inRun (pg .DMA n) := by
  have hne : (Reg.HDR.STATE (pg .DMA n)).key ≠ (Reg.DMA.OWNER.TAG n).key := by
    simp only [Fld.key, Reg.HDR.STATE, Reg.DMA.OWNER.TAG]; omega
  rw [Dev.inRun, Dev.blk, d.get_set_ne v hne]
  rfl

/-- A new owner is taken, and that is all unless it releases a running channel (R45). -/
theorem ownerWrite_taken {n expect tag : Nat} {d : Dev} (h : d.get (Reg.DMA.OWNER.TAG n) = expect) (hf : tag ≠ 0xFF)
    (hr : tag ≠ 0 ∨ expect = 0 ∨ d.inRun (pg .DMA n) = false) :
    ownerWrite n expect tag d = d.set (Reg.DMA.OWNER.TAG n) tag := by
  have hrel : ¬(tag = 0 ∧ expect ≠ 0 ∧ (d.set (Reg.DMA.OWNER.TAG n) tag).inRun (pg .DMA n) = true) := by
    rw [inRun_set_tag]
    rintro ⟨h0, he, hi⟩
    rcases hr with h1 | h1 | h1
    · exact h1 h0
    · exact he h1
    · exact absurd (h1.symm.trans hi) (by decide)
  simp only [ownerWrite, h, ne_eq, not_true_eq_false, hf, or_self, if_false, hrel]

/-- A release while the channel runs: the burst in flight ends first (notes/assumptions/37.md). -/
theorem ownerWrite_release {n expect : Nat} {d : Dev} (h : d.get (Reg.DMA.OWNER.TAG n) = expect) (he : expect ≠ 0)
    (hr : d.inRun (pg .DMA n) = true) :
    ownerWrite n expect 0 d =
      if d.dmaInBurst n then { d.set (Reg.DMA.OWNER.TAG n) 0 with stopping := aset (0x20 + n) .enable d.stopping }
      else (dmaUnwait n (d.set (Reg.DMA.OWNER.TAG n) 0)).setBlk (0x20 + n) 4 := by
  have hrel : 0 = 0 ∧ expect ≠ 0 ∧ (d.set (Reg.DMA.OWNER.TAG n) 0).inRun (pg .DMA n) = true :=
    ⟨rfl, he, (inRun_set_tag d n 0).trans hr⟩
  rw [ownerWrite, if_neg (by simp [h])]
  exact if_pos hrel

/-! ### The parts of the statement -/

/-- Replies (R42): one whose epoch and number match takes its request away, any other is stale. -/
theorem replyArrival_accepted {page seq : Nat} {d : Dev}
    (h : d.bus.reqs.contains { page, epoch := d.get (Reg.HDR.EPOCH page), seq } = true) :
    replyArrival page (d.get (Reg.HDR.EPOCH page)) seq d =
      { d with bus := { d.bus with reqs := d.bus.reqs.erase { page, epoch := d.get (Reg.HDR.EPOCH page), seq } } } :=
  if_pos ⟨rfl, h⟩

theorem replyArrival_stale {page epoch seq : Nat} {d : Dev}
    (h : ¬(epoch = d.get (Reg.HDR.EPOCH page) ∧ d.bus.reqs.contains { page, epoch, seq } = true)) :
    replyArrival page epoch seq d = (d.bump Reg.SYS.STALE_CNT.COUNT 1).ev .SYS 0 3 := if_neg h

theorem revokeClient_none {client : Nat} (h : client = 0 ∨ client = 255) (d : Dev) : revokeClient client d = d := if_pos h

theorem revokeClient_some {client : Nat} (h0 : client ≠ 0) (h255 : client ≠ 255) (d : Dev) :
    revokeClient client d =
      (List.range 32).foldl (dmaRevokeOf client) d :=
  if_neg (not_or.mpr ⟨h0, h255⟩)

/-- A block without work of its own that alone is stopping, in a domain to which no transfer is bound, goes off. -/
theorem foldl_stopAgain_off {dom n : Nat} {b : Blk} {d : Dev} (hn : n < b.count) (hb : b ∈ [Blk.TRN, .DMAC, .CMPC, .ENCC])
    (hd : b.domain n = some dom) (hs : d.stopping = [(pg b n, .off)])
    (hu : (List.range 32).all (fun n => !d.dmaBound dom n) = true) :
    (domainBlocks dom).foldl stopAgain ((List.range 32).foldl (dmaUnbind dom) d) = endStop b n .off d ∧
      (endStop b n .off d).blk (pg b n) = 0 ∧ (endStop b n .off d).stopping = [] := by
  have hcheck := checkStop_unbound hb hd hs hu
  have hend := endStop_off (List.mem_cons_of_mem .DMA hb) n d
  have hstop : (endStop b n .off d).stopping = [] := by
    rw [hend]
    exact (congrArg (adel _) hs).trans (by simp [adel])
  refine ⟨?_, ?_, hstop⟩
  · rw [foldl_dmaUnbind_none _ hu, foldl_stopAgain_one hn hs (by rw [hcheck, hstop]) _ (mem_domainBlocks.mpr ⟨hn, hd⟩)
      (fun k hk => (mem_domainBlocks.mp hk).1), hcheck]
  · rw [hend, Dev.blk, Dev.setBlk, Dev.get_set_same, Nat.zero_mod]

/-- Settles O6. The release at a burst's end (notes/assumptions/37.md), the refused pages (notes/assumptions/12.md) and that
nothing changes where no wait runs (notes/assumptions/56.md) are readings of the model. -/
theorem channelsAndReplies : Obligations.ChannelsAndReplies := by
  refine ⟨fun s n x tag hs hn he ht ho htag hf h0 => ?_, fun s n x tag hs hn he ht ho htag => ?_,
    fun s c hs ho hc h0 hf => ?_, fun s dom t hs ht hst => ?_, fun s page seq hs h => ?_, fun s page epoch seq hs h => ?_,
    fun s dom t page n b hs ht hp hb hd hst hu => ?_, fun s n x hs hn he h0 ho htag hr hi => ?_,
    fun s n x hs hn he ho => ?_, fun s c hs ho hc => ?_, fun s n x hs hn he h0 ho htag hr hi => ?_,
    fun s n x hs hn he ho htag hr => ?_, fun s page seq hs h => ?_, fun s dom t hs ht => ?_, fun s dom hs ht => ?_,
    fun s i hs ho => ?_, fun s n x t hs ho hn => ?_⟩
  · refine completes_of_exec (exec_ownerWrite hs ..) ?_
    rw [hostWrite_owner _ hn he ht ho, ownerWrite_taken htag hf (.inl h0)]
  · refine completes_of_exec (exec_ownerWrite hs ..) ?_
    rw [hostWrite_owner _ hn he ht ho, ownerWrite_refused (.inl htag)]
  · refine completes_of_exec (exec_revokeClient hs c) ?_
    rw [hostWrite_revoke _ ho hc, revokeClient_some h0 hf]
    refine ⟨rfl, fun n hn => ?_⟩
    obtain ⟨howned, hother⟩ := foldl_dmaRevokeOf c s.dev (List.mem_range.mp hn)
    refine ⟨fun h => ?_, fun h => ⟨(hother h).tag, (hother h).1⟩⟩
    obtain ⟨htag, hev, hrun, hend⟩ := howned h
    refine ⟨htag, hev, hrun, fun hr => ?_⟩
    obtain ⟨-, hmove, hcause, hcode, -⟩ := hend hr
    exact ⟨hmove, hcause, hcode⟩
  · refine completes_of_exec (exec_domainWaitExpiry hs dom) ?_
    have hnone := foldl_dmaUnbind_stopping (dom := dom) (d := (s.dev.advanceTo t).disarm (.domainWait dom)) (List.range 32) hst
    rw [domainWaitExpiry_due ht, foldl_stopAgain_none _ hnone]
    refine ⟨rfl, fun n hn => ?_⟩
    obtain ⟨hbound, hother⟩ :=
      foldl_dmaUnbind dom ((s.dev.advanceTo t).disarm (.domainWait dom)) (List.mem_range.mp hn)
    refine ⟨fun h => ?_, fun h => (hother h).1⟩
    obtain ⟨hrun, -, hcause, hcode, hev⟩ := hbound h
    exact ⟨hrun, hcause, hcode, hev⟩
  · exact completes_of_exec (exec_replyArrival hs ..) (replyArrival_accepted h)
  · exact completes_of_exec (exec_replyArrival hs ..) (replyArrival_stale fun hc => h hc.1)
  · obtain ⟨rfl, hn⟩ := pg_of_ofPage hp
    obtain ⟨hoff, hblk, hstop⟩ :=
      foldl_stopAgain_off (d := (s.dev.advanceTo t).disarm (.domainWait dom)) hn hb hd hst hu
    refine completes_of_exec (exec_domainWaitExpiry hs dom) ?_
    rw [domainWaitExpiry_due ht, hoff]
    exact ⟨rfl, hblk, hstop⟩
  · refine completes_of_exec (exec_ownerWrite hs ..) ?_
    rw [hostWrite_owner _ hn he (by decide) ho, ownerWrite_release htag h0 hr, hi]
    rfl
  · refine completes_of_exec (exec_ownerWrite hs ..) ?_
    rw [hostWrite_owner _ hn he (by decide) ho, ownerWrite_refused (.inr rfl)]
  · refine completes_of_exec (exec_revokeClient hs c) ?_
    rw [hostWrite_revoke _ ho (by omega), revokeClient_none hc]
  · refine completes_of_exec (exec_ownerWrite hs ..) ?_
    rw [hostWrite_owner _ hn he (by decide) ho, ownerWrite_release htag h0 hr, hi]
    rfl
  · refine completes_of_exec (exec_ownerWrite hs ..) ?_
    rw [hostWrite_owner _ hn he (by decide) ho, ownerWrite_taken htag (by decide) (.inr hr)]
  · refine completes_of_exec (exec_replyArrival hs ..) (replyArrival_stale fun hc => ?_)
    exact absurd (h.symm.trans hc.2) (by decide)
  · exact completes_of_exec (exec_domainWaitExpiry hs dom) (domainWaitExpiry_due ht)
  · exact completes_of_exec (exec_domainWaitExpiry hs dom) (Dev.onTimer_none ht _)
  · intro k hk
    obtain rfl := List.mem_singleton.mp hk
    exact completes_of_exec (exec_revokeClient hs i) (hostWrite_off ho (by decide) (by decide))
  · intro k hk
    obtain rfl := List.mem_singleton.mp hk
    have hpage : ((0x20 + n) * 4096 + 0x40) / 4096 = 0x20 + n := by omega
    exact completes_of_exec (exec_ownerWrite hs ..) (hostWrite_off (by rwa [hpage]) (by omega) (by omega))

end Sys2Proof.Machine
end

section
/-!
PROOF. The Spring script (O9). Each entry is one operation of Machine/Spring, which acts where the script is at that entry and
leaves the device otherwise; what the end of the script shows (R67) follows from what `Dev.bringup` leaves.
-/
namespace Sys2Proof.Machine

/-! ### A bring-up flag -/

theorem Dev.bringup_same {d : Dev} {f : Fld} {v : Bool} (h : d.is f = v) : d.bringup f v = d := if_pos h

/-- A bring-up flag that takes another value: beyond the flag, events only rise. -/
theorem Dev.bringup_changes {d : Dev} {f : Fld} {v : Bool} (h : d.is f ≠ v) : (d.put f v).OnlyRises (d.bringup f v) := by
  unfold Dev.bringup
  rw [if_neg h]
  dsimp only
  split_ifs
  · exact (Dev.onlyRises_ev ..).trans (Dev.onlyRises_ev ..)
  · exact (Dev.onlyRises_ev ..).trans (Dev.onlyRises_ev ..)
  · exact Dev.onlyRises_ev ..

/-- Any other steady field reads as before. -/
theorem Dev.get_bringup_ne (d : Dev) {f g : Fld} (v : Bool) (hg : g.Steady) (hk : g.key ≠ f.key) :
    (d.bringup f v).get g = d.get g := by
  by_cases h : d.is f = v
  · rw [Dev.bringup_same h]
  · rw [(Dev.bringup_changes h).1 g hg, Dev.put_eq, d.get_set_ne _ hk]

/-- A flag of one bit reads the value it was put to. -/
theorem Dev.is_put_same (d : Dev) {f : Fld} (v : Bool) (hc : f.cap = 2) : (d.put f v).is f = v := by
  rw [Dev.is_eq, Dev.put_eq, Dev.get_set_same, hc]
  cases v <;> rfl

/-- The flag reads its value. -/
theorem Dev.is_bringup_same (d : Dev) {f : Fld} (v : Bool) (hf : f.Steady) (hc : f.cap = 2) : (d.bringup f v).is f = v := by
  by_cases h : d.is f = v
  · rw [Dev.bringup_same h, h]
  · rw [Dev.is_eq, (Dev.bringup_changes h).1 f hf, ← Dev.is_eq, d.is_put_same v hc]

/-- No event falls when a flag outside EV_RAW changes. -/
theorem Dev.evRaw_bringup {d : Dev} {f : Fld} (v : Bool) {b : Blk} {n bit : Nat} (hi : bit < 32)
    (hk : (Reg.HDR.EV_RAW (pg b n)).key ≠ f.key) (hb : d.evRaw b n bit = true) : (d.bringup f v).evRaw b n bit = true := by
  by_cases h : d.is f = v
  · rwa [Dev.bringup_same h]
  · refine (Dev.bringup_changes h).2 _ bit hi ?_
    rwa [Dev.put_eq, d.get_set_ne _ hk]

/-- A fault raised leaves steady flags. -/
theorem Dev.is_raise (d : Dev) (n : Nat) (k : FKind) (a : FArg) {f : Fld} (hf : f.Steady) :
    (d.raise n k a).is f = d.is f := by
  rw [Dev.is_eq, (d.onlyRises_raise n k a).1 f hf, ← Dev.is_eq]

theorem steady_springState : Reg.SYS.SPRING_STAT.STATE.Steady := ⟨by decide, by decide, by decide, by decide⟩

theorem steady_springEnd : Reg.SYS.BRINGUP.SPRING_END.Steady := ⟨by decide, by decide, by decide, by decide⟩

/-! ### The end of the script (R66, R67) -/

/-- The end of the script changes no steady field but SPRING_END and RING_DONE. -/
theorem get_springEnds (d : Dev) {g : Fld} (hg : g.Steady) (he : g.key ≠ Reg.SYS.BRINGUP.SPRING_END.key)
    (hr : g.key ≠ Reg.SYS.BRINGUP.RING_DONE.key) : (springEnds d).get g = d.get g := by
  rw [springEnds, ringDoneSync, Dev.get_bringup_ne _ _ hg hr, (Dev.onlyRises_ev ..).1 g hg, Dev.get_bringup_ne _ _ hg he]
  rfl

theorem springState_springEnds (d : Dev) :
    (springEnds d).get Reg.SYS.SPRING_STAT.STATE = d.get Reg.SYS.SPRING_STAT.STATE :=
  get_springEnds d steady_springState (by decide) (by decide)

theorem springEnd_springEnds (d : Dev) : (springEnds d).is Reg.SYS.BRINGUP.SPRING_END = true := by
  rw [springEnds, ringDoneSync, Dev.is_eq, Dev.get_bringup_ne _ _ steady_springEnd (by decide),
    (Dev.onlyRises_ev ..).1 _ steady_springEnd, ← Dev.is_eq, Dev.is_bringup_same _ _ steady_springEnd (by decide)]

theorem evRaw_springEnds (d : Dev) : (springEnds d).evRaw .SYS 0 8 = true :=
  Dev.evRaw_bringup _ (by decide) (by decide) (Dev.evRaw_ev _ _ _ (by decide))

/-- What SPRING_STAT.STATE shows once the script has ended with outcome `v` and its entry. -/
theorem springState_springEnds_set (d : Dev) {v : Nat} (hv : v < 16) (e : Nat) :
    (springEnds ((d.set Reg.SYS.SPRING_STAT.STATE v).set Reg.SYS.SPRING_STAT.ENTRY e)).get Reg.SYS.SPRING_STAT.STATE = v := by
  rw [springState_springEnds, Dev.get_set_ne _ _ (by decide), Dev.get_set_same]
  exact Nat.mod_eq_of_lt hv

/-- A script that runs is stopped at its entry with STATE 5; a stop for a fault raises SPRING_STOPPED. -/
theorem springStop_running {d : Dev} (h : d.get Reg.SYS.SPRING_STAT.STATE = 1) (fault : Bool) :
    springStop fault d =
      if fault then
        (springEnds ((d.set Reg.SYS.SPRING_STAT.STATE 5).set Reg.SYS.SPRING_STAT.ENTRY d.sys.spring.entry)).raise 0
          Kind.SYS.SPRING_STOPPED
      else springEnds ((d.set Reg.SYS.SPRING_STAT.STATE 5).set Reg.SYS.SPRING_STAT.ENTRY d.sys.spring.entry) :=
  if_neg (not_not_intro h)

theorem springStop_fault_shows {d : Dev} (h : d.get Reg.SYS.SPRING_STAT.STATE = 1) :
    (springStop true d).get Reg.SYS.SPRING_STAT.STATE = 5 ∧
      (springStop true d).evRaw .SYS 0 Kind.SYS.SPRING_STOPPED.bit = true := by
  rw [springStop_running h, if_pos rfl]
  refine ⟨?_, Dev.evRaw_raise _ 0 Kind.SYS.SPRING_STOPPED _ (by decide)⟩
  rw [(Dev.onlyRises_raise ..).1 _ steady_springState, springState_springEnds_set d (by decide)]

/-! ### The start (R65) -/

/-- B6 does not start: it has started before, Shallows is not ready, or bring-up stops at B3. -/
theorem springStart_not {u : Fuses} {d : Dev} (h : d.get Reg.SYS.SPRING_STAT.STATE ≠ 0 ∨
    d.is Reg.SYS.BRINGUP.SHALLOWS_READY = false ∨ d.sys.stopAtB3 = true) : springStart u d = d := if_pos h

/-- The script in flash runs: from its first entry, for 10 s at most. -/
def springBegun (d : Dev) : Dev :=
  springReach (({ d with sys := { d.sys with spring := {
    script := memRead 0xFF d.flash 0 32 ++ memRead 0xFF d.flash 32 (16 * leAt (memRead 0xFF d.flash 0 32) 8 4)
    entry := 0, waiting := 0 } } }.set Reg.SYS.SPRING_STAT.STATE 1).arm .springLimit (10 * sec))

/-- B6 ends with a script whose checks gave `r`: 4 is a rejected one. -/
def springFailed (r : Nat) (d : Dev) : Dev :=
  let t := springEnds ({ d with sys := { d.sys with spring := { script := [], entry := 0, waiting := 0 } } }.set
    Reg.SYS.SPRING_STAT.STATE r)
  if r = 4 then t.raise 0 Kind.SYS.SPRING_REJECTED else t

/-- B6 starts: the outcome of the checks decides. -/
theorem springStart_checks {u : Fuses} {d : Dev} (h0 : d.get Reg.SYS.SPRING_STAT.STATE = 0)
    (hr : d.is Reg.SYS.BRINGUP.SHALLOWS_READY = true) (hb : d.sys.stopAtB3 = false) :
    springStart u d = if springCheck u d (memRead 0xFF d.flash 0 32) = 1 then springBegun d
      else springFailed (springCheck u d (memRead 0xFF d.flash 0 32)) d :=
  if_neg (by simp [h0, hr, hb])

/-- The outcomes of the checks: the script runs, is absent, or is rejected. -/
theorem springCheck_cases (u : Fuses) (d : Dev) (head : Bytes) :
    springCheck u d head = 1 ∨ springCheck u d head = 3 ∨ springCheck u d head = 4 := by
  unfold springCheck
  dsimp only
  split_ifs <;> simp

/-- What B6 shows after a script that failed its checks. -/
theorem springFailed_shows (d : Dev) {r : Nat} (hr : r < 16) :
    (springFailed r d).get Reg.SYS.SPRING_STAT.STATE = r ∧ (springFailed r d).is Reg.SYS.BRINGUP.SPRING_END = true ∧
      (r = 4 → (springFailed r d).evRaw .SYS 0 Kind.SYS.SPRING_REJECTED.bit = true) := by
  have hstate (e : Dev) : (springEnds (e.set Reg.SYS.SPRING_STAT.STATE r)).get Reg.SYS.SPRING_STAT.STATE = r := by
    rw [springState_springEnds, Dev.get_set_same]
    exact Nat.mod_eq_of_lt hr
  unfold springFailed
  dsimp only
  split_ifs with h4
  · refine ⟨?_, ?_, fun _ => Dev.evRaw_raise _ 0 Kind.SYS.SPRING_REJECTED _ (by decide)⟩
    · rw [(Dev.onlyRises_raise ..).1 _ steady_springState, hstate]
    · rw [Dev.is_raise _ _ _ _ steady_springEnd, springEnd_springEnds]
  · exact ⟨hstate _, springEnd_springEnds _, fun h => absurd h h4⟩

/-! ### The entries (R66) -/

theorem springWrite_at {u : Fuses} {d : Dev} (h : d.springAt 1 = true) :
    springWrite u d = springWrote d.sys.spring
      (completed Party.spring (busWrite u Party.spring (d.sys.spring.part 4 4) (d.sys.spring.part 8 4) d).1
        (busWrite u Party.spring (d.sys.spring.part 4 4) (d.sys.spring.part 8 4) d).2) := if_pos h

theorem springWrite_not {u : Fuses} {d : Dev} (h : d.springAt 1 = false) : springWrite u d = d := if_neg (by simp [h])

theorem springModify_at {u : Fuses} {d d0 : Dev} {v code : Nat} (h : d.springAt 2 = true)
    (hr : busRead u Party.spring (d.sys.spring.part 4 4) d = (v, code, d0)) :
    springModify u d =
      (let w := busWrite u Party.spring (d.sys.spring.part 4 4)
        (andNot v (d.sys.spring.part 12 4) ||| (d.sys.spring.part 8 4 &&& d.sys.spring.part 12 4))
        (completed Party.spring code d0)
      springWrote d.sys.spring (completed Party.spring w.1 w.2)) := by
  simp only [springModify, h, hr, if_true]

theorem springModify_not {u : Fuses} {d : Dev} (h : d.springAt 2 = false) : springModify u d = d := if_neg (by simp [h])

theorem springPoll_at {d : Dev} (h : d.springAt 3 = true) :
    springPoll d = { d with sys := { d.sys with spring := { d.sys.spring with waiting := 1 } } }.arm .springPoll
      (d.sys.spring.part 2 2 * 10 * us) := if_pos h

theorem springPoll_not {d : Dev} (h : d.springAt 3 = false) : springPoll d = d := if_neg (by simp [h])

/-- The register polled is read once more: the script goes on if its condition holds. -/
theorem springPollMet_waiting {u : Fuses} {d d0 : Dev} {v code : Nat} (h : d.springWaits 1 = true)
    (hr : busRead u Party.spring (d.sys.spring.part 4 4) d = (v, code, d0)) :
    springPollMet u d =
      if v &&& d.sys.spring.part 12 4 = d.sys.spring.part 8 4 then springNext (completed Party.spring code d0)
      else completed Party.spring code d0 := by
  simp only [springPollMet, h, hr, if_true]

theorem springPollMet_not {u : Fuses} {d : Dev} (h : d.springWaits 1 = false) : springPollMet u d = d := if_neg (by simp [h])

/-- The time of a POLL is over: STOP_ON_TIMEOUT, bit 1 of byte 5 of the script, decides. -/
theorem springPollTimeout_due {d : Dev} {t : Nat} (h : d.springWaits 1 = true) (ht : d.due .springPoll = some t) :
    springPollTimeout d =
      if byteAt d.sys.spring.script 5 / 2 % 2 = 1 then springStop true ((d.advanceTo t).disarm .springPoll)
      else springNext ((d.advanceTo t).disarm .springPoll) :=
  (if_pos h).trans (Dev.onTimer_some ht _)

theorem springPollTimeout_not {d : Dev} (h : d.springWaits 1 = false ∨ d.due .springPoll = none) :
    springPollTimeout d = d := by
  unfold springPollTimeout
  rcases h with h | h
  · rw [h]; rfl
  · rw [Dev.onTimer_none h, ite_self]

theorem springDelay_at {d : Dev} (h : d.springAt 4 = true) :
    springDelay d = { d with sys := { d.sys with spring := { d.sys.spring with waiting := 2 } } }.arm .springDelay
      (min 1000000 (d.sys.spring.part 8 4) * us) := if_pos h

theorem springDelay_not {d : Dev} (h : d.springAt 4 = false) : springDelay d = d := if_neg (by simp [h])

theorem springDelayEnd_due {d : Dev} {t : Nat} (h : d.springWaits 2 = true) (ht : d.due .springDelay = some t) :
    springDelayEnd d = springNext ((d.advanceTo t).disarm .springDelay) :=
  (if_pos h).trans (Dev.onTimer_some ht _)

theorem springDelayEnd_not {d : Dev} (h : d.springWaits 2 = false ∨ d.due .springDelay = none) : springDelayEnd d = d := by
  unfold springDelayEnd
  rcases h with h | h
  · rw [h]; rfl
  · rw [Dev.onTimer_none h, ite_self]

theorem springEndEntry_at {d : Dev} (h : d.springAt 0x0F = true) :
    springEndEntry d = springDone (d.bump Reg.SYS.SPRING_STAT.EXECUTED 1) := if_pos h

theorem springEndEntry_not {d : Dev} (h : d.springAt 0x0F = false) : springEndEntry d = d := if_neg (by simp [h])

/-- A script that waits is running. -/
theorem springState_of_waits {d : Dev} {w : Nat} (h : d.springWaits w = true) : d.get Reg.SYS.SPRING_STAT.STATE = 1 := by
  simp only [Dev.springWaits, Bool.and_eq_true, beq_iff_eq] at h
  exact h.1

/-- Settles O9. The order of the checks, what EXECUTED and ENTRY count and the alignment of OFFSET (notes/assumptions/18.md),
and that a command which does not fit the entry changes nothing (notes/assumptions/56.md), are readings of the model. -/
theorem springScript : Obligations.SpringScript := by
  refine ⟨fun s hs h0 hr hb hc => ?_, fun s hs h => ?_, fun s v code d0 hs h hr => ?_, fun s hs h => ?_,
    fun s v code d0 hs h hr hm => ?_, fun s t hs h ht hb => ?_, fun s hs h => ?_, fun s t hs h ht => ?_, fun s hs h => ?_,
    fun s t hs h ht => ?_, fun s v code d0 hs h hr hm => ?_, fun s t hs h ht hb => ?_, fun s hs h0 hr hb hc => ?_,
    fun s r hs h0 hr hb hc h1 => ?_, fun s hs h => ?_, fun s hs h => ?_, fun s hs h => ?_, fun s hs h => ?_,
    fun s hs h => ?_, fun s hs h => ?_, fun s hs h => ?_, fun s hs h => ?_, fun s hs h => ?_, fun s hs ht => ?_,
    fun s t hs ht => ?_⟩
  · refine completes_of_exec (exec_springScriptStart hs) ?_
    rw [springStart_checks h0 hr hb, if_pos hc]
    rfl
  · exact completes_of_exec (exec_springWrite hs) (springWrite_at h)
  · exact completes_of_exec (exec_springModify hs) (springModify_at h hr)
  · exact completes_of_exec (exec_springPoll hs) (springPoll_at h)
  · exact completes_of_exec (exec_springPollMet hs) ((springPollMet_waiting h hr).trans (if_pos hm))
  · exact completes_of_exec (exec_springPollTimeout hs) ((springPollTimeout_due h ht).trans (if_neg (by simp [hb])))
  · exact completes_of_exec (exec_springDelay hs) (springDelay_at h)
  · exact completes_of_exec (exec_springDelayEnd hs) (springDelayEnd_due h ht)
  · refine completes_of_exec (exec_springEndEntry hs) ?_
    rw [springEndEntry_at h]
    exact ⟨rfl, springState_springEnds_set _ (by decide) 0, springEnd_springEnds _, evRaw_springEnds _⟩
  · refine completes_of_exec (exec_springTimeLimit hs) ?_
    rw [springTimeLimit, Dev.onTimer_some ht, springStop_running (d := (s.dev.advanceTo t).disarm .springLimit) h]
    exact ⟨rfl, springState_springEnds_set _ (by decide) _, springEnd_springEnds _⟩
  · exact completes_of_exec (exec_springPollMet hs) ((springPollMet_waiting h hr).trans (if_neg hm))
  · refine completes_of_exec (exec_springPollTimeout hs) ?_
    rw [springPollTimeout_due h ht, if_pos hb]
    exact ⟨rfl, springStop_fault_shows (springState_of_waits h)⟩
  · refine completes_of_exec (exec_springScriptStart hs) ?_
    rw [springStart_checks h0 hr hb, if_neg hc]
    refine springFailed_shows _ ?_
    have := springCheck_cases s.fuse s.dev (memRead 0xFF s.dev.flash 0 32)
    omega
  · refine completes_of_exec (exec_springScriptStart hs) ?_
    rw [springStart_checks h0 hr hb, hc, if_neg h1]
    rfl
  · exact completes_of_exec (exec_springScriptStart hs) (springStart_not h)
  · exact completes_of_exec (exec_springWrite hs) (springWrite_not h)
  · exact completes_of_exec (exec_springModify hs) (springModify_not h)
  · exact completes_of_exec (exec_springPoll hs) (springPoll_not h)
  · exact completes_of_exec (exec_springPollMet hs) (springPollMet_not h)
  · exact completes_of_exec (exec_springPollTimeout hs) (springPollTimeout_not h)
  · exact completes_of_exec (exec_springDelay hs) (springDelay_not h)
  · exact completes_of_exec (exec_springDelayEnd hs) (springDelayEnd_not h)
  · exact completes_of_exec (exec_springEndEntry hs) (springEndEntry_not h)
  · exact completes_of_exec (exec_springTimeLimit hs) (Dev.onTimer_none ht _)
  · exact completes_of_exec (exec_springTimeLimit hs) (Dev.onTimer_some ht _)

end Sys2Proof.Machine
end

section
/-!
PROOF. A mode request on a register file out of order (O8), by a state that the model evaluates.
-/
namespace Sys2Proof.Machine

/-- A state in SERVICE, not halted, whose register file is not in the canonical form: MODE_REQ.WHEN stands before STALE_CNT,
a field of a lower address. -/
def stateModeReqUnsorted : State :=
  { State.reset with dev :=
    { State.reset.dev with
      regs := [(Reg.SYS.MODE_REQ.WHEN.key, 1), (Reg.SYS.STALE_CNT.COUNT.key, 1), (Reg.SYS.MODE_STAT.MODE.key, 1)] } }

/-- Refutes O8: its seventh part has no hypothesis on the form of the register file. The request for the present mode takes
WHEN before MODE, in the order of the register's fields (Table 3.4), and the statement MODE before WHEN. Each field reads the
same either way, but a field that a file out of order already holds is moved to its place when it is set, and what MODE then
stands before depends on which came first. -/
theorem not_modesAndBringUp : ¬Obligations.ModesAndBringUp := by
  intro h
  obtain ⟨-, -, -, -, -, -, hpresent, -⟩ := h
  have hd := (hpresent stateModeReqUnsorted 1 true _ (by decide) (by decide) (by decide) rfl (by decide) (by decide)).effect
    (exec_modeReqGo (by decide) 1 true)
  have hregs : (hostWrite stateModeReqUnsorted.fuse 0x50 (0x80000000 + b2n true * 256 + 1) stateModeReqUnsorted.dev).regs =
      [(Reg.SYS.STALE_CNT.COUNT.key, 1), (Reg.SYS.MODE_REQ.MODE.key, 1), (Reg.SYS.MODE_REQ.WHEN.key, 1),
        (Reg.SYS.MODE_STAT.MODE.key, 1)] := by decide +kernel
  rw [hd] at hregs
  exact absurd hregs (by decide)

end Sys2Proof.Machine
end

section
/-!
PROOF. The jobs of a plane (O27). JOB_START takes a descriptor where its queue may; the outcome of the checks of R83 decides
whether it becomes a job or ends, at once or behind the jobs ahead; the slices and the start of jobs follow in every case.
-/
namespace Sys2Proof.Machine

/-! ### The device at each point of the taking of a descriptor (R83) -/

/-- The device once descriptor `i` has been read. -/
def descRead (p i : Nat) (poisoned : Bool) (d : Dev) : Dev := d.basinLoad 1 0xFF (d.descAddr p i) 64 (if poisoned then 2 else 0)

/-- The device once the directory that descriptor `bs` names has been read, which is not done for a descriptor that could not
be read. -/
def dirRead (p i : Nat) (bs : Bytes) (poisoned : Bool) (d : Dev) : Dev :=
  if d.basinFails (d.descAddr p i) 64 = true then d else d.basinLoad 1 0xFF (leAt bs 32 8) 64 (if poisoned then 2 else 0)

/-- The status with which the checks end descriptor `i`; none where it becomes a job. `d1` is the device once the descriptor
`bs` has been read, `d2` the device once its directory has. -/
def takeCode (p i : Nat) (bs : Bytes) (d1 d2 : Dev) : Option Nat :=
  if d1.basinFails (d1.descAddr p i) 64 = true ∨ descOk bs d2.mode = false then some 3
  else if d2.basinFails (leAt bs 32 8) 64 = true ∨ dirOk (d2.basinRead (leAt bs 32 8) 64) (leAt bs 20 4) (leAt bs 16 4) = false
    then some 4
  else if d1.portsOf p = [] then some 7 else none

/-- The next descriptor passes the checks: a job with its start position stands behind the others. -/
def takeAppended (p : Nat) (q : Plane) (bs : Bytes) (d1 d2 : Dev) : Dev :=
  let r := startPos p q.jobs (mkJob d2.prt.jobSeq q.take bs (parseDir (d2.basinRead (leAt bs 32 8) 64)) (d1.portsOf p))
    { d2 with prt := { d2.prt with jobSeq := d2.prt.jobSeq + 1 } }
  r.2.setPlane p { r.2.plane p with jobs := (r.2.plane p).jobs ++ [r.1], take := (q.take + 1) % d1.qSize p }

/-- The next descriptor fails a check with status `c` and no job is ahead: it ends at once. -/
def takeEnded (p c : Nat) (q : Plane) (bs : Bytes) (d1 d2 : Dev) : Dev :=
  finishJob p q.take (leAt bs 4 4) c (leAt bs 16 4 * leAt bs 24 2 - 1) 0 0 0 (bits (leAt bs 0 4) 8 8 != 0)
    (bits (leAt bs 0 4) 7 7 != 0) (d2.setPlane p { q with take := (q.take + 1) % d1.qSize p })

/-- The next descriptor fails a check with status `c` and jobs are ahead: it waits behind them with its status (R85). -/
def takeWaits (p c : Nat) (q : Plane) (bs : Bytes) (d1 d2 : Dev) : Dev :=
  let t := d2.setPlane p { q with take := (q.take + 1) % d1.qSize p }
  let t := { t with prt := { t.prt with jobSeq := d2.prt.jobSeq + 1 } }
  t.setPlane p { t.plane p with jobs := (t.plane p).jobs ++
    [{ mkJob d2.prt.jobSeq q.take bs (parseDir (d2.basinRead (leAt bs 32 8) 64)) [] with ending := some c }] }

/-- What follows the taking in every case: the slices refill (R130), and jobs whose start has been passed become active. -/
def afterTake (p : Nat) (d : Dev) : Dev := activatePassed ((d.portsOf p).foldl (fun d n => refill n d) d)

theorem jobTaken_eq (p : Nat) (descBad dirBad : Bool) (d : Dev) :
    jobTaken p descBad dirBad d = afterTake p (jobStart p descBad dirBad d) := rfl

/-! ### What JOB_START does -/

/-- A queue takes nothing: it does not run, has no descriptor left, or has no room in its window. -/
theorem jobStart_rests {p : Nat} {d : Dev} (h : d.queueRuns p = false ∨ (d.plane p).take = d.get (Reg.PRT.Q_TAIL.INDEX p) ∨
      d.window + 1 ≤ ((d.plane p).jobs.filter fun k => k.ending.isNone).length) (descBad dirBad : Bool) :
    jobStart p descBad dirBad d = d := if_pos h

section
variable {p : Nat} {descBad dirBad : Bool} {bs : Bytes} {d d1 d2 : Dev}
  (hrun : d.queueRuns p = true) (htail : (d.plane p).take ≠ d.get (Reg.PRT.Q_TAIL.INDEX p))
  (hroom : ((d.plane p).jobs.filter fun k => k.ending.isNone).length < d.window + 1)
  (h1 : descRead p (d.plane p).take descBad d = d1) (hbs : d1.basinRead (d1.descAddr p (d.plane p).take) 64 = bs)
  (h2 : dirRead p (d.plane p).take bs dirBad d1 = d2)
include hrun htail hroom h1 hbs h2

/-- A descriptor is taken: the checks decide what becomes of it. -/
theorem jobStart_takes : jobStart p descBad dirBad d =
    (takeCode p (d.plane p).take bs d1 d2).elim (takeAppended p (d.plane p) bs d1 d2)
      fun c => if (d.plane p).jobs = [] then takeEnded p c (d.plane p) bs d1 d2 else takeWaits p c (d.plane p) bs d1 d2 := by
  have hmay : ¬(d.queueRuns p = false ∨ (d.plane p).take = d.get (Reg.PRT.Q_TAIL.INDEX p) ∨
      d.window + 1 ≤ ((d.plane p).jobs.filter fun k => k.ending.isNone).length) := by
    rw [hrun]
    exact not_or.mpr ⟨nofun, not_or.mpr ⟨htail, Nat.not_le.mpr hroom⟩⟩
  subst h1 hbs h2
  rw [jobStart, if_neg hmay]
  dsimp only [descRead, dirRead]
  split
  · next c hc =>
    rw [show takeCode p (d.plane p).take _ _ _ = some c from hc]
    rfl
  · next hc =>
    rw [show takeCode p (d.plane p).take _ _ _ = none from hc]
    rfl

theorem jobStart_sound (hc : takeCode p (d.plane p).take bs d1 d2 = none) :
    jobStart p descBad dirBad d = takeAppended p (d.plane p) bs d1 d2 := by
  rw [jobStart_takes hrun htail hroom h1 hbs h2, hc]; rfl

theorem jobStart_fails_alone {c : Nat} (hc : takeCode p (d.plane p).take bs d1 d2 = some c) (hj : (d.plane p).jobs = []) :
    jobStart p descBad dirBad d = takeEnded p c (d.plane p) bs d1 d2 := by
  rw [jobStart_takes hrun htail hroom h1 hbs h2, hc]
  exact if_pos hj

theorem jobStart_fails_behind {c : Nat} (hc : takeCode p (d.plane p).take bs d1 d2 = some c) (hj : (d.plane p).jobs ≠ []) :
    jobStart p descBad dirBad d = takeWaits p c (d.plane p) bs d1 d2 := by
  rw [jobStart_takes hrun htail hroom h1 hbs h2, hc]
  exact if_neg hj

end

/-- Settles O27. The start positions, that a descriptor failing its checks waits behind the jobs ahead, and the last line that
its JOB_END record names are readings of the model (notes/assumptions/19.md). -/
theorem jobs : Obligations.Jobs := by
  refine ⟨fun s p descBad dirBad bs d1 d2 d3 j hs hrun htail hroom h1 hbs h2 hc hstart => ?_,
    fun s p descBad dirBad bs d1 d2 c hs hrun htail hroom h1 hbs h2 hc hj => ?_,
    fun s p descBad dirBad bs d1 d2 c hs hrun htail hroom h1 hbs h2 hc hj => ?_, fun s p descBad dirBad hs h => ?_⟩
  all_goals
    refine completes_of_exec (exec_jobStart hs ..) ?_
    rw [jobTaken_eq]
  · rw [jobStart_sound hrun htail hroom h1 hbs h2 hc, takeAppended, hstart]
    rfl
  · rw [jobStart_fails_alone hrun htail hroom h1 hbs h2 hc hj]
    rfl
  · rw [jobStart_fails_behind hrun htail hroom h1 hbs h2 hc hj]
    rfl
  · rw [jobStart_rests h]
    rfl

end Sys2Proof.Machine
end

section
/-!
PROOF. A queue cancelled while its next descriptor is not the one that Q_HEAD names (O10), by a state that the model evaluates.
-/
namespace Sys2Proof.Machine

/-- A state in which the ring of plane 1 holds 16 descriptors, the next one to take is the first, and Q_TAIL stands behind it,
while Q_HEAD names the sixth. -/
def stateHeadApart : State :=
  let d := (State.reset.dev.setBlk 0xB0 2).set (Reg.PRT.Q_SIZE.LOG2 1) 4
  { State.reset with dev := (d.set (Reg.PRT.Q_TAIL.INDEX 1) 1).set (Reg.PRT.Q_HEAD.INDEX 1) 5 }

/-- The descriptor that CANCEL ends moves Q_HEAD on from where it stands (R86). -/
theorem qCancel_stateHeadApart :
    (hostPatch stateHeadApart.fuse (0xB0114 + 0x20 * 1) 4 4 stateHeadApart.dev).get (Reg.PRT.Q_HEAD.INDEX 1) = 6 := by
  decide +kernel

/-- Refutes O10: its twelfth part, that CANCEL with one descriptor left to take brings Q_HEAD to Q_TAIL, has no hypothesis that
Q_HEAD names that descriptor. Each descriptor that ends moves Q_HEAD on by one, so that Q_HEAD gets to Q_TAIL only from there. -/
theorem not_geometryAndQueues : ¬Obligations.GeometryAndQueues := by
  intro h
  obtain ⟨-, -, -, -, -, -, -, -, -, -, -, hcancel, -⟩ := h
  obtain ⟨-, hhead⟩ := (hcancel stateHeadApart 1 (by decide) (by decide) (by decide) (by decide) (by decide) (by decide)
    (by decide)).effect (exec_qCancel (by decide) 1)
  rw [qCancel_stateHeadApart] at hhead
  exact absurd hhead (by decide)

end Sys2Proof.Machine
end

section
/-!
PROOF. The cycles of a port (O28). A command of a cycle first finds the cycle it speaks of; where it finds none the device stays
as it was, and where it finds one a short list of conditions, in the order of the chapter, decides what becomes of it.
-/
namespace Sys2Proof.Machine

/-- A port has no next cycle, or one whose trigger position is not known yet. -/
abbrev Dev.noTrigger (d : Dev) (n : Nat) : Prop :=
  d.nextCycle n = none ∨ ∃ x ∈ d.nextCycle n, d.trigPos n x.1 x.2 = none

/-! ### The issue of a scheduled cycle (R105) -/

theorem cycleTime_rests {n : Nat} {d : Dev} (h : (d.port n).sched = none ∨ d.noTrigger n) : cycleTime n d = d := by
  rw [cycleTime]
  rcases h with hsched | hnone | ⟨⟨g, lines⟩, hnext, htrig⟩
  · rw [hsched]
  · rw [hnone]
    cases (d.port n).sched <;> rfl
  · cases hsched : (d.port n).sched with
    | none => rfl
    | some t => simp only [Option.mem_def.mp hnext, htrig]

section
variable {n t g : Nat} {lines : List RowLine} {tp : Int} {d d1 : Dev}
  (hsched : (d.port n).sched = some t) (hnext : d.nextCycle n = some (g, lines)) (htrig : d.trigPos n g lines = some tp)
  (hadv : d.advanceTo t = d1)
include hsched hnext htrig hadv

theorem cycleTime_withdraws (hw : d1.is Reg.TRG.STAT.PAUSED = true ∨ d1.clampW ≤ d1.dirOf lines * (tp - d1.trg.pe) ∨
      d1.enabled (pg .TRG 0) = false) :
    cycleTime n d = d1.setPort n { d.port n with sched := none } := by
  subst hadv
  simp only [cycleTime, hsched, hnext, htrig]
  exact if_pos hw

theorem cycleTime_issues (hpaused : d1.is Reg.TRG.STAT.PAUSED = false) (hwin : d1.dirOf lines * (tp - d1.trg.pe) < d1.clampW)
    (hen : d1.enabled (pg .TRG 0) = true) {d2 : Dev} (hissued : d1.setPort n { d.port n with issued := true } = d2) :
    cycleTime n d =
      if d2.windowOpen lines = true then
        if d2.canFire n = true then
          activateLines lines (if d1.trg.sigma * d1.trg.phi < d1.trg.sigma * tp then d1.trg.phi else tp - d1.trg.sigma) d2
        else d2
      else if d2.windowFull lines = true then d2.raise 0 Kind.PRT.JOB_WINDOW { port := n } else d2 := by
  subst hadv hissued
  have hstays : ¬((d.advanceTo t).is Reg.TRG.STAT.PAUSED = true ∨
      (d.advanceTo t).clampW ≤ (d.advanceTo t).dirOf lines * (tp - (d.advanceTo t).trg.pe) ∨
      (d.advanceTo t).enabled (pg .TRG 0) = false) := by
    rw [hpaused, hen]
    exact not_or.mpr ⟨nofun, not_or.mpr ⟨Int.not_le.mpr hwin, nofun⟩⟩
  simp only [cycleTime, hsched, hnext, htrig]
  exact if_neg hstays

end

/-! ### The LAT of a port (R107, R386) -/

@[simp] theorem Dev.port_setPort_same (d : Dev) (n : Nat) (q : PortFire) : (d.setPort n q).port n = q :=
  tget_tset_same ..

/-- Scheduling a port's next cycle touches its scheduled time only. -/
theorem built_schedule (n : Nat) (d : Dev) : ((schedule n d).port n).built = (d.port n).built := by
  rw [schedule]
  dsimp only
  split_ifs
  · rfl
  · split
    · simp
    · split
      · rfl
      · split_ifs <;> simp

/-- A port that goes on to its next cycle holds none built. -/
theorem built_nextUp (n : Nat) (d : Dev) : ((nextUp n d).port n).built = none := by
  rw [nextUp, built_schedule, Dev.port_setPort_same]

theorem Dev.barred_of_unbuilt {d : Dev} {n : Nat} (h : (d.port n).built = none) : d.barred n = false := by
  rw [Dev.barred, h]

theorem dropBarred_of_barred {d : Dev} {n : Nat} (h : d.barred n = true) :
    dropBarred n d = nextUp n (discardBuilt n d) := if_pos h

theorem dropBarred_of_not_barred {d : Dev} {n : Nat} (h : d.barred n = false) : dropBarred n d = d :=
  if_neg (Bool.eq_false_iff.mp h)

/-- With no cycle built there is nothing to latch. -/
theorem lat_unbuilt {n : Nat} {d : Dev} (h : ((dropBarred n d).port n).built = none) : lat n d = dropBarred n d := by
  simp only [lat, h]

theorem lat_drops {n : Nat} {d : Dev} (h : d.barred n = true) : lat n d = nextUp n (discardBuilt n d) := by
  rw [← dropBarred_of_barred h]
  refine lat_unbuilt ?_
  rw [dropBarred_of_barred h, built_nextUp]

theorem lat_waits {n : Nat} {d : Dev} (hbar : d.barred n = false) (htime : d.latTime n = none) : lat n d = d := by
  simp only [lat, dropBarred_of_not_barred hbar, htime]
  split
  · next c t0 _ _ => cases d.trigPos n c.group c.lines <;> rfl
  · rfl

theorem lat_latches {n t0 t : Nat} {c : Cycle} {tp : Int} {d : Dev} (hbuilt : (d.port n).built = some c)
    (hbar : d.barred n = false) (hsched : (d.port n).sched = some t0) (htrig : d.trigPos n c.group c.lines = some tp)
    (htime : d.latTime n = some t) :
    lat n d = latchAt n c (decide (t0 < t)) (if d.trg.sigma * d.trg.phi < d.trg.sigma * tp then d.trg.phi else tp - d.trg.sigma)
      (d.advanceTo t) := by
  simp only [lat, dropBarred_of_not_barred hbar, hbuilt, hsched, htrig, htime]

theorem latPort_unbuilt {n : Nat} {d : Dev} (h : (d.port n).built = none) : latPort n d = d := by
  have hdrop : dropBarred n d = d := dropBarred_of_not_barred (Dev.barred_of_unbuilt h)
  have hlat : lat n d = d := by rw [lat_unbuilt (by rw [hdrop, h]), hdrop]
  simp only [latPort, h, hlat]

theorem latPort_print {n : Nat} {c : Cycle} {d : Dev} (hbuilt : (d.port n).built = some c) (hgroup : c.group ≠ spitGroup) :
    latPort n d = lat n d := by
  simp only [latPort, hbuilt, if_neg hgroup]

theorem latPort_spit {n : Nat} {c : Cycle} {d : Dev} (hbuilt : (d.port n).built = some c) (hgroup : c.group = spitGroup) :
    latPort n d = spitSync (spitLat n c d) := by
  simp only [latPort, hbuilt, if_pos hgroup]

/-! ### The SLOT marks of a firing cycle (R188, R206) -/

theorem slotMark_rests {n : Nat} {d : Dev} (h : (∀ f ∈ (d.port n).firing, f.done = true) ∨ d.headUp n = false) :
    slotMark n d = d := by
  rw [slotMark]
  cases hf : (d.port n).firing with
  | none => rfl
  | some f =>
    rcases h with hdone | hdown
    · exact if_pos (hdone f hf)
    · dsimp only
      rw [if_pos hdown, ite_self]

section
variable {n : Nat} {f : Firing} {d : Dev} (hf : (d.port n).firing = some f) (hdone : f.done = false) (hup : d.headUp n = true)
include hf hdone hup

theorem slotMark_ends (hall : f.announced = true) : slotMark n d = cycleEnded n (d.advanceTo (d.slotEnd n - 400)) := by
  simp [slotMark, hf, hdone, hup, hall]

theorem slotMark_marks (hleft : f.announced = false) {d1 d2 t : Dev}
    (h1 : (d.advanceTo (f.t0 + clamp 240 320 (d.get (Reg.HPT.LAT_FIRE.STEPS n)) + f.at_ * f.tSlot - 320)).mark n 1 = d1)
    (h2 : wearMark n (f.at_ / f.slots) (f.at_ % f.slots) (firePulses n f.waves d1) = d2)
    (ht : windowFired n (f.at_ / f.slots) (f.at_ % f.slots) (scanFired n d2) = t) :
    slotMark n d =
      t.setPort n { (t.port n) with firing := (t.port n).firing.map fun (f : Firing) => { f with at_ := f.at_ + 1 } } := by
  subst h1 h2 ht
  simp [slotMark, hf, hdone, hup, hleft]

end

/-! ### Skipping (R108, R113, R126) -/

/-- A port's next cycle may not be skipped now: triggers are paused, the device does not print, its queue starts no job, or its
pass has still to come. -/
abbrev Dev.skipHeld (d : Dev) (n : Nat) (lines : List RowLine) : Prop :=
  d.is Reg.TRG.STAT.PAUSED = true ∨ d.printing = false ∨ d.unstarted n lines = true ∨ (d.mode = 4 ∧ d.hasIdleJob lines = true)

/-- A cycle is not issued, or may still be latched by `t`: it is not skipped for lateness. -/
abbrev Dev.inTime (d : Dev) (n t : Nat) : Prop := (d.port n).issued = false ∨ ∃ l ∈ d.latTime n, l ≤ t

/-- The records of an issued cycle past its deadline: OVERSPEED and what came with it (R85, R108, R148). -/
def reportOverspeed (n : Nat) (lines : List RowLine) (d : Dev) : Dev :=
  let late := d.notReady n && !(d.hasIdleJob lines && !d.windowOpen lines)
  let t := d.raise 0 Kind.TRG.OVERSPEED { port := n }
  let t := if d.windowFull lines = true then t.raise 0 Kind.PRT.JOB_WINDOW { port := n } else t
  if late = true then (pipeCount n 6 1 t).raise 0 Kind.MSK.LINE_NOT_READY { port := n } else t

/-- The carriage is asked to slow down, or within the interval of a request it is noted that skips continue (R110). -/
def noteSkip (n : Nat) (d : Dev) : Dev :=
  if d.running .slowdown = true then { d with trg := { d.trg with skipping := true } } else askSlowdown n d

/-- What an issued cycle past its deadline leaves behind before it is skipped; one whose LATCH is withheld leaves nothing. -/
def deadlineMissed (n : Nat) (lines : List RowLine) (d : Dev) : Dev :=
  if ∃ c ∈ (d.port n).built, c.failed = true then d else noteSkip n (reportOverspeed n lines d)

theorem Dev.Flagged.trg_eq {d d' : Dev} (h : d.Flagged d') : d'.trg = d.trg := by
  obtain ⟨⟨r, f, s, e, l, o, rfl⟩, -⟩ := h; rfl

@[simp] theorem Dev.trg_raise (d : Dev) (n : Nat) (k : FKind) (a : FArg) : (d.raise n k a).trg = d.trg :=
  (d.flagged_raise n k a).trg_eq

@[simp] theorem Dev.trg_ev (d : Dev) (b : Blk) (n bit : Nat) : (d.ev b n bit).trg = d.trg := (d.flagged_ev b n bit).trg_eq

@[simp] theorem Dev.trg_pipeCount (n k v : Nat) (d : Dev) : (pipeCount n k v d).trg = d.trg := rfl

@[simp] theorem Dev.trg_unicast (d : Dev) (l type dest : Nat) (p : Bytes) : (d.unicast l type dest p).2.trg = d.trg := by
  rw [Dev.unicast]
  split_ifs
  · exact (Dev.flagged_sendOn _ l _).trg_eq
  · rfl

/-- A slow-down request is a command to the manager of the ring: the triggers stay as they are. -/
@[simp] theorem Dev.trg_slowdown (d : Dev) (cause port : Nat) : (d.slowdown cause port).trg = d.trg := by
  rw [Dev.slowdown]
  split_ifs
  · exact Dev.trg_unicast ..
  · rfl

theorem sigma_askSlowdown (n : Nat) (d : Dev) : (askSlowdown n d).trg.sigma = d.trg.sigma := by
  rw [askSlowdown]
  dsimp only
  split_ifs <;> simp

theorem trg_reportOverspeed (n : Nat) (lines : List RowLine) (d : Dev) : (reportOverspeed n lines d).trg = d.trg := by
  rw [reportOverspeed]
  split_ifs <;> simp

theorem sigma_noteSkip (n : Nat) (d : Dev) : (noteSkip n d).trg.sigma = d.trg.sigma := by
  rw [noteSkip]
  split_ifs
  · rfl
  · exact sigma_askSlowdown n d

/-- A line that was not ready is reported unless its job may not become active yet (R148). -/
theorem reportOverspeed_eq (n : Nat) (lines : List RowLine) (d : Dev) {t : Dev}
    (ht : (if d.windowFull lines = true then
        (d.raise 0 Kind.TRG.OVERSPEED { port := n }).raise 0 Kind.PRT.JOB_WINDOW { port := n }
      else d.raise 0 Kind.TRG.OVERSPEED { port := n }) = t) :
    reportOverspeed n lines d =
      if d.notReady n = true ∧ (d.hasIdleJob lines = false ∨ d.windowOpen lines = true) then
        (pipeCount n 6 1 t).raise 0 Kind.MSK.LINE_NOT_READY { port := n } else t := by
  subst ht
  rw [reportOverspeed]
  simp

theorem cycleSkip_untriggered {n : Nat} {d : Dev} (h : d.noTrigger n) : cycleSkip n d = d := by
  rw [cycleSkip]
  rcases h with hnone | ⟨⟨g, lines⟩, hnext, htrig⟩
  · rw [hnone]
  · simp only [Option.mem_def.mp hnext, htrig]

section
variable {n g : Nat} {lines : List RowLine} {tp : Int} {d : Dev}
  (hnext : d.nextCycle n = some (g, lines)) (htrig : d.trigPos n g lines = some tp)
include hnext htrig

theorem cycleSkip_held (hheld : d.skipHeld n lines) : cycleSkip n d = d := by
  simp only [cycleSkip, hnext, htrig]
  exact if_pos hheld

section
variable (hfree : ¬d.skipHeld n lines)
include hfree

theorem cycleSkip_passedAtStart (hpassed : d.passedAtStart tp lines = true) : cycleSkip n d = skipCycle n lines d := by
  simp only [cycleSkip, hnext, htrig]
  rw [if_neg hfree, if_pos hpassed]

variable (hahead : d.passedAtStart tp lines = false)
include hahead

theorem cycleSkip_cannotFire (hfire : d.canFire n = false) {t : Nat} (hpass : d.passes tp = some t) :
    cycleSkip n d = if d.stalled n = true ∧ d.hasIdleJob lines = true then nextUp n (discardBuilt n d)
      else skipCycle n lines (activateLines lines (tp - d.trg.sigma) (d.advanceTo t)) := by
  simp only [cycleSkip, hnext, htrig, hpass]
  rw [if_neg hfree, if_neg (Bool.eq_false_iff.mp hahead), if_pos hfire]

theorem cycleSkip_notPassed (hfire : d.canFire n = false) (hpass : d.passes tp = none) : cycleSkip n d = d := by
  simp only [cycleSkip, hnext, htrig, hpass]
  rw [if_neg hfree, if_neg (Bool.eq_false_iff.mp hahead), if_pos hfire]

variable (hfire : d.canFire n = true)
include hfire

theorem cycleSkip_undue (hdue : d.passes (d.deadline tp) = none ∨ (d.port n).sched = none) : cycleSkip n d = d := by
  simp only [cycleSkip, hnext, htrig]
  rw [if_neg hfree, if_neg (Bool.eq_false_iff.mp hahead), if_neg (by rw [hfire]; nofun)]
  obtain h | h := hdue <;> rw [h]
  cases d.passes (d.deadline tp) <;> rfl

variable {t t0 : Nat} (hpass : d.passes (d.deadline tp) = some t) (hsched : (d.port n).sched = some t0)
include hpass hsched

theorem cycleSkip_inTime (htime : d.inTime n (max t t0)) : cycleSkip n d = d := by
  simp only [cycleSkip, hnext, htrig, hpass, hsched]
  rw [if_neg hfree, if_neg (Bool.eq_false_iff.mp hahead), if_neg (by rw [hfire]; nofun)]
  refine if_pos ?_
  obtain h | ⟨l, hl, hle⟩ := htime
  · exact .inl h
  · rw [Option.mem_def.mp hl]
    exact .inr (decide_eq_true hle)

theorem cycleSkip_overdue (htime : ¬d.inTime n (max t t0)) {d1 : Dev} (hadv : d.advanceTo (max t t0) = d1) :
    cycleSkip n d = skipCycle n lines (activateLines lines (tp - d.trg.sigma) (deadlineMissed n lines d1)) := by
  have hsigma : d1.trg.sigma = d.trg.sigma := by rw [← hadv]; rfl
  simp only [cycleSkip, hnext, htrig, hpass, hsched, hadv]
  rw [if_neg hfree, if_neg (Bool.eq_false_iff.mp hahead), if_neg (by rw [hfire]; nofun), ← hsigma, deadlineMissed]
  refine (if_neg ?_).trans ?_
  · rintro (h | h)
    · exact htime (.inl h)
    · split at h
      · next l hl => exact htime (.inr ⟨l, hl, of_decide_eq_true h⟩)
      · nomatch h
  · by_cases hfailed : ∃ c ∈ (d1.port n).built, c.failed = true
    · rw [if_pos hfailed]
      obtain ⟨c, hbuilt, hc⟩ := hfailed
      rw [Option.mem_def.mp hbuilt]
      exact if_pos hc
    · rw [if_neg hfailed, ← trg_reportOverspeed n lines d1, ← sigma_noteSkip n]
      refine if_neg fun h => hfailed ?_
      split at h
      · next c hbuilt => exact ⟨c, hbuilt, h⟩
      · nomatch h

end
end

/-! ### The start of a cycle (R125, R126) -/

/-- The cycle a slice starts: `d0` is the device once the waveforms have taken their slew step, `d1` the device once the rows
have started their lines. -/
def startedCycle (n g : Nat) (lines : List RowLine) (d0 d1 : Dev) : Cycle :=
  { group := g, lines, codes := [], frames := [], shipped := 0, segs := 0, segsVoted := 0, digestVoted := false,
    failed := false, cand := none, waves := d1.wavesNow n, waits := true, resend := [], rho := d1.rho n,
    conc := d1.get Reg.MSK.CONCEAL.SUBST_EN + 2 * d1.get Reg.MSK.CONCEAL.BOOST_EN + 4 * d1.get Reg.MSK.CONCEAL.WEAK_SUBST,
    cls := (d1.heat n).cls,
    rots := lines.filterMap fun (l : RowLine) => (d0.findJob l.job).map fun (pj : Nat × Job) => (l.row, d0.rotOf pj.2 l.line),
    map := d0.mapOf n, changes := (d0.pipe n).changes, ver := (d1.pipe n).mapVer, other := [], sum := [], otherSum := [],
    bufs := [], flags := [0, 0] }

theorem cycleBuild_rests {n : Nat} {d : Dev} (h : (d.port n).built.isSome = true ∨ d.printing = false ∨ d.canFire n = false ∨
      d.pickCycle n = none ∨ ∃ x ∈ d.pickCycle n, d.windowOpen x.2 = false) : cycleBuild n d = d := by
  rw [cycleBuild]
  split_ifs with hno
  · rfl
  · obtain h | h | h | hpick | ⟨x, hpick, hshut⟩ := h
    · exact absurd (.inl h) hno
    · exact absurd (.inr (.inl h)) hno
    · exact absurd (.inr (.inr h)) hno
    · rw [hpick]
    · rw [Option.mem_def.mp hpick]
      exact if_pos hshut

theorem cycleBuild_starts {n g : Nat} {lines : List RowLine} {d d0 d1 : Dev} (hbuilt : (d.port n).built = none)
    (hprint : d.printing = true) (hfire : d.canFire n = true) (hpick : d.pickCycle n = some (g, lines))
    (hopen : d.windowOpen lines = true) (h0 : (d.classesInUse n).foldl (fun d k => slewStep n d k) d = d0)
    (h1 : lines.foldl (lineStarted n) d0 = d1) :
    cycleBuild n d = buildFinish n
      (d1.setPort n { d1.port n with built := some (startedCycle n g lines d0 d1), cycles := (d1.port n).cycles + 1 }) := by
  subst h0 h1
  have hmay : ¬((d.port n).built.isSome = true ∨ d.printing = false ∨ d.canFire n = false) := by simp [hbuilt, hprint, hfire]
  rw [cycleBuild, if_neg hmay, hpick]
  exact if_neg (by rw [hopen]; nofun)

/-- Settles O28. It rests on these readings of the model: a command that finds nothing to do changes nothing
(notes/assumptions/56.md), only an issued cycle is late, and one whose LATCH is withheld is skipped without OVERSPEED
(notes/assumptions/65.md), times truncate to a step (notes/assumptions/22.md), the last pulse of a cycle ends at the SLOT_MARK
after its last slot (notes/assumptions/62.md), and spit cycles have a group of their own (notes/assumptions/41.md). -/
theorem cycles : Obligations.Cycles := by
  refine ⟨fun s n t g lines tp d1 d2 hs hsched hnext htrig hadv hp hw hen h2 => ?_,
    fun s n t g lines tp d1 hs hsched hnext htrig hadv h => ?_, fun s n hs h => ?_,
    fun s n t0 t c tp d1 hs hb hg hbar hsched htrig htime hadv => ?_, fun s n c hs hb hg hbar => ?_, fun s n hs h => ?_,
    fun s n c hs hb hg => ?_, fun s n f d1 d2 t hs hf hdone hleft hup h1 h2 ht => ?_,
    fun s n f hs hf hdone hall hup => ?_, fun s n hs h => ?_, fun s n g lines tp hs hnext htrig hfree hpassed => ?_,
    fun s n g lines tp t hs hnext htrig hfree hahead hfire hpass => ?_,
    fun s n g lines tp t t0 d1 hs hnext htrig hfree hahead hfire hpass hsched htime hadv hfailed => ?_,
    fun s n g lines tp t t0 d1 d2 d3 d4 hs hnext htrig hfree hahead hfire hpass hsched htime hadv hsound h2 h3 h4 => ?_,
    fun s n g lines tp hs hnext htrig h => ?_, fun s n hs h => ?_,
    fun s n g lines d0 d1 hs hb hprint hfire hpick hopen h0 h1 => ?_, fun s n hs h => ?_⟩
  · exact completes_of_exec (exec_cycleScheduledTime hs n) (cycleTime_issues hsched hnext htrig hadv hp hw hen h2)
  · exact completes_of_exec (exec_cycleScheduledTime hs n) (cycleTime_withdraws hsched hnext htrig hadv h)
  · exact completes_of_exec (exec_cycleScheduledTime hs n) (cycleTime_rests h)
  · subst hadv
    exact completes_of_exec (exec_lat hs n) ((latPort_print hb hg).trans (lat_latches hb hbar hsched htrig htime))
  · exact completes_of_exec (exec_lat hs n) ((latPort_print hb hg).trans (lat_drops hbar))
  · refine completes_of_exec (exec_lat hs n) ?_
    obtain hb | ⟨⟨c, hb, hg⟩, hbar, htime⟩ := h
    · exact latPort_unbuilt hb
    · exact (latPort_print hb hg).trans (lat_waits hbar htime)
  · exact completes_of_exec (exec_lat hs n) (latPort_spit hb hg)
  · exact completes_of_exec (exec_slotMark hs n) (congrArg spitSync (slotMark_marks hf hdone hup hleft h1 h2 ht))
  · exact completes_of_exec (exec_slotMark hs n) (congrArg spitSync (slotMark_ends hf hdone hup hall))
  · exact completes_of_exec (exec_slotMark hs n) (congrArg spitSync (slotMark_rests h))
  · exact completes_of_exec (exec_cycleSkip hs n) (cycleSkip_passedAtStart hnext htrig hfree hpassed)
  · exact completes_of_exec (exec_cycleSkip hs n) (cycleSkip_cannotFire hnext htrig hfree hahead hfire hpass)
  · refine completes_of_exec (exec_cycleSkip hs n) ?_
    rw [cycleSkip_overdue hnext htrig hfree hahead hfire hpass hsched htime hadv, deadlineMissed, if_pos hfailed]
  · refine completes_of_exec (exec_cycleSkip hs n) ?_
    rw [cycleSkip_overdue hnext htrig hfree hahead hfire hpass hsched htime hadv, deadlineMissed, if_neg hsound,
      reportOverspeed_eq n lines d1 h2, h3, noteSkip, h4]
  · refine completes_of_exec (exec_cycleSkip hs n) ?_
    by_cases hheld : s.dev.skipHeld n lines
    · exact cycleSkip_held hnext htrig hheld
    obtain h | ⟨hahead, hfire, hpass⟩ | ⟨hahead, hfire, h⟩ := h
    · exact absurd h hheld
    · exact cycleSkip_notPassed hnext htrig hheld hahead hfire hpass
    · obtain hpass | hsched | ⟨t, hpass, t0, hsched, htime⟩ := h
      · exact cycleSkip_undue hnext htrig hheld hahead hfire (.inl hpass)
      · exact cycleSkip_undue hnext htrig hheld hahead hfire (.inr hsched)
      · exact cycleSkip_inTime hnext htrig hheld hahead hfire hpass hsched htime
  · exact completes_of_exec (exec_cycleSkip hs n) (cycleSkip_untriggered h)
  · exact completes_of_exec (exec_cycleBuild hs n) (cycleBuild_starts hb hprint hfire hpick hopen h0 h1)
  · exact completes_of_exec (exec_cycleBuild hs n) (cycleBuild_rests h)

end Sys2Proof.Machine
end

section
/-!
PROOF. Tiles and masks (O29). A lane works on one entry of its list and on the first tile column left of it; the entry of that
column in the tile directory, and what reading and decoding its block show, decide how the tile ends. A mask load ends by the
checks on the mask set, in the order of the chapter.
-/
namespace Sys2Proof.Machine

/-! ### Fetching a tile (R130, R132, R133) -/

/-- After the fetch itself, a cycle that waited for the tile may finish, and then the slack is brought up to date. -/
theorem completes_tileFetch {s : State} (hs : s.live) {n : Nat} {poisoned : Bool} {t : Dev}
    (h : tileFetch n poisoned s.dev = t) :
    Completes (.tileFetch n poisoned) s fun d => d = slackSync n (buildFinish n t) :=
  completes_of_exec (exec_tileFetch hs ..) (congrArg (fun d => slackSync n (buildFinish n d)) h)

/-- A tile in error: its error is recorded with `code`, and its columns are written blank. -/
def tileFailed (n : Nat) (l : Layout) (e : Prefetch) (tc entry code : Nat) (d : Dev) : Dev :=
  tileDone n e (writeTile n l e tc blankTile (tileError n e tc entry code d))

/-- A lane whose pipe was `q` and whose block could not be read fetches once more; the second time its tile is in error. -/
def tileUnread (n : Nat) (l : Layout) (e : Prefetch) (tc entry : Nat) (q : Pipe) (d : Dev) : Dev :=
  if q.lane.again = true then tileFailed n l e tc entry 0xFF d
  else d.setPipe n { q with lane := { q.lane with again := true } }

/-- A lane whose pipe was `q` holds the block that it has read, until it is decoded. -/
def blockFetched (n : Nat) (e : Prefetch) (entry : Nat) (q : Pipe) (d : Dev) : Dev :=
  (d.request (pg .DCM n)).setPipe n { q with lane := { q.lane with
    fetched := some (e, d.basinRead (entryAddr entry) (entryLen entry)), since := (d.request (pg .DCM n)).time.up } }

theorem tileFetch_rests {n : Nat} {d : Dev} (h : (d.pipe n).layout = none ∨ d.laneEntry n = none ∨
      d.runs (pg .DCM n) = false ∨ (d.pipe n).lane.fetched.isSome = true) (poisoned : Bool) : tileFetch n poisoned d = d := by
  rw [tileFetch]
  cases hlayout : (d.pipe n).layout with
  | none => rfl
  | some l =>
    cases hentry : d.laneEntry n with
    | none => rfl
    | some e =>
      obtain h | h | h := h.resolve_left (by simp [hlayout])
      · simp [hentry] at h
      · exact if_pos (.inl h)
      · exact if_pos (.inr h)

section
variable {n : Nat} {l : Layout} {e : Prefetch} {d : Dev} (hlayout : (d.pipe n).layout = some l)
  (hentry : d.laneEntry n = some e) (hruns : d.runs (pg .DCM n) = true) (hfree : (d.pipe n).lane.fetched = none)
  (poisoned : Bool)
include hlayout hentry hruns hfree

theorem tileFetch_no_column (hcols : e.cols = []) : tileFetch n poisoned d = setPrefetch n e none d := by
  simp [tileFetch, hlayout, hentry, hruns, hfree, hcols]

variable {tc entry : Nat} {rest : List (Nat × Nat)} (hcols : e.cols = (tc, entry) :: rest)
include hcols

/-- The entry of the column in the directory decides, and for a block what reading it from Basin shows. -/
theorem tileFetch_column {d1 : Dev}
    (hload : d.basinLoad 0 (laneMaster n) (entryAddr entry) (entryLen entry) (if poisoned then 2 else 0) = d1) :
    tileFetch n poisoned d =
      if entryBad entry = true then tileFailed n l e tc entry 0xFE d
      else if entryBlank entry = true then
        tileDone n e ((writeTile n l e tc blankTile d).bump (Reg.DCM.BLANKS.COUNT n) 1)
      else if d1.basinFails (entryAddr entry) (entryLen entry) = true then tileUnread n l e tc entry (d.pipe n) d1
      else blockFetched n e entry (d.pipe n) d1 := by
  have hmay : ¬(d.runs (pg .DCM n) = false ∨ (d.pipe n).lane.fetched.isSome = true) := by simp [hruns, hfree]
  subst hload
  simp only [tileFetch, tileFailed, tileUnread, blockFetched, hlayout, hentry, if_neg hmay, hcols]
  rfl

theorem tileFetch_bad (hbad : entryBad entry = true) : tileFetch n poisoned d = tileFailed n l e tc entry 0xFE d :=
  (tileFetch_column hlayout hentry hruns hfree poisoned hcols rfl).trans (if_pos hbad)

variable (hsound : entryBad entry = false)
include hsound

theorem tileFetch_blank (hblank : entryBlank entry = true) :
    tileFetch n poisoned d = tileDone n e ((writeTile n l e tc blankTile d).bump (Reg.DCM.BLANKS.COUNT n) 1) := by
  rw [tileFetch_column hlayout hentry hruns hfree poisoned hcols rfl, if_neg (by simp [hsound]), if_pos hblank]

variable (hblock : entryBlank entry = false) {d1 : Dev}
  (hload : d.basinLoad 0 (laneMaster n) (entryAddr entry) (entryLen entry) (if poisoned then 2 else 0) = d1)
include hblock hload

theorem tileFetch_fetches (hread : d1.basinFails (entryAddr entry) (entryLen entry) = false) :
    tileFetch n poisoned d = blockFetched n e entry (d.pipe n) d1 := by
  rw [tileFetch_column hlayout hentry hruns hfree poisoned hcols hload, if_neg (by simp [hsound]), if_neg (by simp [hblock]),
    if_neg (by simp [hread])]

theorem tileFetch_unread (hread : d1.basinFails (entryAddr entry) (entryLen entry) = true) :
    tileFetch n poisoned d = tileUnread n l e tc entry (d.pipe n) d1 := by
  rw [tileFetch_column hlayout hentry hruns hfree poisoned hcols hload, if_neg (by simp [hsound]), if_neg (by simp [hblock]),
    if_pos hread]

end

/-! ### Decoding a tile (R131, R133) -/

/-- After the decode itself, a cycle that waited for the tile may finish, and then the slack is brought up to date. -/
theorem completes_tileDecodeDone {s : State} (hs : s.live) {n : Nat} {bad : Bool} {t : Dev} (h : tileDecode n bad s.dev = t) :
    Completes (.tileDecodeDone n bad) s fun d => d = slackSync n (buildFinish n t) :=
  completes_of_exec (exec_tileDecodeDone hs ..) (congrArg (fun d => slackSync n (buildFinish n d)) h)

theorem tileDecode_rests {n : Nat} {d : Dev} (h : (d.pipe n).layout = none ∨ ∀ x ∈ (d.pipe n).lane.fetched, x.1.cols = [])
    (bad : Bool) : tileDecode n bad d = d := by
  rw [tileDecode]
  cases hlayout : (d.pipe n).layout with
  | none => rfl
  | some l =>
    cases hfetched : (d.pipe n).lane.fetched with
    | none => rfl
    | some x =>
      have hcols : x.1.cols = [] := h.resolve_left (by simp [hlayout]) x hfetched
      simp only [hcols]

section
variable {n tc entry : Nat} {l : Layout} {e : Prefetch} {rest : List (Nat × Nat)} {block : Bytes} {d : Dev}
  (hlayout : (d.pipe n).layout = some l) (hfetched : (d.pipe n).lane.fetched = some (e, block))
  (hcols : e.cols = (tc, entry) :: rest)
include hlayout hfetched hcols

theorem tileDecode_ok {tile : Bytes}
    (hdec : decodeBlock true ((d.answer (pg .DCM n)).is (Reg.DCM.CFG.CRC_CHECK n)) (entryLen entry) block = .ok tile) :
    tileDecode n false d =
      tileDone n e ((writeTile n l e tc tile (d.answer (pg .DCM n))).bump (Reg.DCM.TILES.COUNT n) 1) := by
  simp [tileDecode, hlayout, hfetched, hcols, hdec]

theorem tileDecode_error {k : Nat}
    (hdec : decodeBlock true ((d.answer (pg .DCM n)).is (Reg.DCM.CFG.CRC_CHECK n)) (entryLen entry) block = .error k) :
    tileDecode n false d = tileFailed n l e tc entry k (d.answer (pg .DCM n)) := by
  simp [tileDecode, tileFailed, hlayout, hfetched, hcols, hdec]

theorem tileDecode_memory_error :
    tileDecode n true d = if (d.pipe n).lane.again = true then tileFailed n l e tc entry 0xFF (d.answer (pg .DCM n))
      else (d.answer (pg .DCM n)).setPipe n
        { d.pipe n with lane := { (d.pipe n).lane with again := true, fetched := none } } := by
  simp [tileDecode, tileFailed, hlayout, hfetched, hcols]

end

/-! ### Late fills (R150) -/

theorem fillLate_unlisted {n : Nat} {d : Dev} (hentry : d.laneEntry n = none) : fillLate n d = d := by
  simp only [fillLate, hentry]

theorem fillLate_not_late {n : Nat} {e : Prefetch} {d : Dev} (hentry : d.laneEntry n = some e)
    (h : 0 ≤ d.slack n ∨ e.late = true) : fillLate n d = slackSync n d := by
  have hnot : ¬(d.slack n < 0 ∧ e.late = false) := fun ⟨hneg, hlate⟩ =>
    h.elim (fun hpos => absurd hneg (not_lt.mpr hpos)) (fun htrue => Bool.false_ne_true (hlate.symm.trans htrue))
  simp only [fillLate, hentry, if_neg hnot]

/-- The mark that its late fill has been raised, on an entry that names the tile row of `e`. -/
def markLate (e x : Prefetch) : Prefetch := if x.same e = true then { x with late := true } else x

theorem fillLate_late {n : Nat} {e : Prefetch} {d d1 : Dev} (hentry : d.laneEntry n = some e) (hneg : d.slack n < 0)
    (hfirst : e.late = false) (h1 : d.setPipe n { d.pipe n with lane := { (d.pipe n).lane with
      list := (d.pipe n).lane.list.map (markLate e)
      fetched := (d.pipe n).lane.fetched.map fun x => (markLate e x.1, x.2) } } = d1) :
    fillLate n d = ((slackSync n d1).bump (Reg.DCM.LATE_CNT.COUNT n) 1).raise n Kind.DCM.FILL_LATE { port := n } := by
  subst h1
  simp only [fillLate, hentry]
  exact if_pos ⟨hneg, hfirst⟩

/-! ### Claiming a mask buffer (R137) -/

/-- The first job of a plane that prints on a port and has no mask buffer there. -/
abbrev Dev.maskDue (d : Dev) (n : Nat) (g : Geom) : Option Job :=
  (d.plane g.plane).jobs.find? fun j => j.ports.contains n && j.ending.isNone && !(d.liveMasks n).any fun m => m.job == j.seq

theorem maskLoad_claims {n : Nat} {g : Geom} {j : Job} {d : Dev} (hgeom : d.geom n = some g) (hdue : d.maskDue n g = some j)
    (hroom : (d.liveMasks n).length < 4) :
    maskLoad n d = setMasks n (fun _ => d.liveMasks n ++ [({ job := j.seq, mask := none, ready := false } : MaskBuf)]) d := by
  simp only [maskLoad, hgeom, hdue]
  exact if_pos hroom

theorem maskLoad_rests {n : Nat} {d : Dev} (h : (∀ g ∈ d.geom n, d.maskDue n g = none) ∨ 4 ≤ (d.liveMasks n).length) :
    maskLoad n d = d := by
  rw [maskLoad]
  cases hgeom : d.geom n with
  | none => rfl
  | some g =>
    cases hdue : d.maskDue n g with
    | none => simp only [hdue]
    | some j =>
      have hfull : 4 ≤ (d.liveMasks n).length := h.resolve_left fun hnone => by simp [hnone g hgeom] at hdue
      simp only [hdue]
      exact if_neg (not_lt.mpr hfull)

/-! ### The end of a mask load (R137) -/

/-- After the load itself, a cycle that waited for the mask may finish. -/
theorem completes_maskLoadDone {s : State} (hs : s.live) {n : Nat} {poisoned : Bool} {t : Dev}
    (h : maskLoadDone n poisoned s.dev = t) : Completes (.maskLoadDone n poisoned) s fun d => d = buildFinish n t :=
  completes_of_exec (exec_maskLoadDone hs ..) (congrArg (buildFinish n) h)

/-- Buffer `m` is ready with a mask, or with the default mask. -/
def maskReadied (n : Nat) (m : MaskBuf) (mask : Option Bytes) (d : Dev) : Dev :=
  (setMasks n (List.map fun x => if x = m then { m with mask, ready := true } else x) d).ev .MSK 0 0

/-- Mask set `set` is recorded as unsound and reported, and buffer `m` takes the default mask. -/
def maskRejected (n : Nat) (m : MaskBuf) (set : Nat) (d : Dev) : Dev :=
  (maskReadied n m none (((d.put Reg.MSK.BAD_SET.VALID true).set Reg.MSK.BAD_SET.PORT n).set Reg.MSK.BAD_SET.SET set)).raise 0
    Kind.MSK.MASK_BAD { port := n, arg := set }

/-- The device once the header of the mask set at `a` and the mask of port `n` in it have been read. -/
def maskSetRead (n a : Nat) (poisoned : Bool) (d : Dev) : Dev :=
  (d.basinLoad 1 0xFF a 320 (if poisoned then 2 else 0)).basinLoad 1 0xFF (a + 0x1000 + n * 0x2000) 8192 0

/-- The mask of a port in the mask set at `a`. -/
abbrev Dev.maskBody (d : Dev) (n a : Nat) : Bytes := d.basinRead (a + 0x1000 + n * 0x2000) 8192

/-- A mask set with header `h` could be read and has the right magic number and version. -/
abbrev Dev.maskSetOk (d : Dev) (n a : Nat) (h : Bytes) : Prop :=
  d.basinFails a 320 = false ∧ d.basinFails (a + 0x1000 + n * 0x2000) 8192 = false ∧ leAt h 0 4 = 0x4B534D50 ∧ byteAt h 4 = 1

theorem maskLoadDone_rests {n : Nat} {d : Dev} (h : (d.pipe n).slice.masks.find? (fun m => !m.ready) = none) (poisoned : Bool) :
    maskLoadDone n poisoned d = d := by
  simp only [maskLoadDone, h]

section
variable {n : Nat} {m : MaskBuf} {d : Dev} (hbuf : (d.pipe n).slice.masks.find? (fun m => !m.ready) = some m) (poisoned : Bool)
include hbuf

theorem maskLoadDone_no_job (hjob : d.findJob m.job = none) :
    maskLoadDone n poisoned d = setMasks n (List.filter fun x => x != m) d := by
  simp only [maskLoadDone, hbuf, hjob]

variable {p : Nat} {j : Job} (hjob : d.findJob m.job = some (p, j))
include hjob

theorem maskLoadDone_disabled (hoff : d.enabled (pg .MSK 0) = false) : maskLoadDone n poisoned d = maskReadied n m none d := by
  simp only [maskLoadDone, hbuf, hjob]
  exact if_pos hoff

variable (hon : d.enabled (pg .MSK 0) = true) {a : Nat} {h : Bytes} {d2 : Dev} (haddr : d.maskAddr j.maskSet = a)
  (hread : maskSetRead n a poisoned d = d2) (hhead : d2.basinRead a 320 = h)
include hon haddr hread hhead

/-- With MSK enabled the mask set decides: sound without the port, sound with a mask of the right checksum, or else unsound. -/
theorem maskLoadDone_checks :
    maskLoadDone n poisoned d =
      if d2.maskSetOk n a h ∧ bit (leAt h 8 8) n = false then maskReadied n m none d2
      else if d2.maskSetOk n a h ∧ crc32c (d2.maskBody n a) = leAt h (64 + 4 * n) 4 then
        maskReadied n m (some (d2.maskBody n a)) d2
      else maskRejected n m j.maskSet d2 := by
  subst haddr hread hhead
  simp only [maskLoadDone, hbuf, hjob, hon, Bool.and_eq_true, Bool.not_eq_true', beq_iff_eq, and_assoc]
  rfl

theorem maskLoadDone_sound (hok : d2.maskSetOk n a h) (hport : bit (leAt h 8 8) n = true)
    (hcrc : crc32c (d2.maskBody n a) = leAt h (64 + 4 * n) 4) :
    maskLoadDone n poisoned d = maskReadied n m (some (d2.maskBody n a)) d2 := by
  rw [maskLoadDone_checks hbuf poisoned hjob hon haddr hread hhead, if_neg (by simp [hport]), if_pos ⟨hok, hcrc⟩]

theorem maskLoadDone_port_not_held (hok : d2.maskSetOk n a h) (hport : bit (leAt h 8 8) n = false) :
    maskLoadDone n poisoned d = maskReadied n m none d2 := by
  rw [maskLoadDone_checks hbuf poisoned hjob hon haddr hread hhead, if_pos ⟨hok, hport⟩]

theorem maskLoadDone_unsound (hbad : ¬d2.maskSetOk n a h ∨
      (bit (leAt h 8 8) n = true ∧ ¬crc32c (d2.maskBody n a) = leAt h (64 + 4 * n) 4)) :
    maskLoadDone n poisoned d = maskRejected n m j.maskSet d2 := by
  rw [maskLoadDone_checks hbuf poisoned hjob hon haddr hread hhead]
  obtain hno | ⟨hport, hcrc⟩ := hbad
  · rw [if_neg fun hc => hno hc.1, if_neg fun hc => hno hc.1]
  · rw [if_neg (by simp [hport]), if_neg fun hc => hcrc hc.2]

end

/-- Settles O29. It rests on these readings of the model: a command whose condition does not hold changes nothing
(notes/assumptions/56.md), slack and the order of a lane's entries go by the cycle that first reads them
(notes/assumptions/24.md, 73.md), and a lane has a master ID of its own (notes/assumptions/73.md). -/
theorem tilesAndMasks : Obligations.TilesAndMasks := by
  refine ⟨fun s n tc entry poisoned l e rest d1 hs hl he hr hf hc hsound hblock h1 hread => ?_,
    fun s n tc entry poisoned l e rest hs hl he hr hf hc hbad => ?_,
    fun s n tc entry poisoned l e rest hs hl he hr hf hc hsound hblank => ?_,
    fun s n tc entry poisoned l e rest d1 hs hl he hr hf hc hsound hblock h1 hread => ?_,
    fun s n poisoned l e hs hl he hr hf hc => ?_, fun s n poisoned hs h => ?_,
    fun s n tc entry l e rest block tile hs hl hf hc hdec => ?_, fun s n tc entry l e rest block k hs hl hf hc hdec => ?_,
    fun s n tc entry l e rest block hs hl hf hc => ?_, fun s n bad hs h => ?_,
    fun s n e d1 hs he hneg hfirst h1 => ?_, fun s n hs ⟨e, he, h⟩ => ?_, fun s n hs he => ?_,
    fun s n g j hs hg hdue hroom => ?_, fun s n hs h => ?_,
    fun s n a p poisoned m j h d2 hs hm hj hon ha h2 hh hok hport hcrc => ?_,
    fun s n a p poisoned m j h d2 hs hm hj hon ha h2 hh hok hport => ?_,
    fun s n a p poisoned m j h d2 hs hm hj hon ha h2 hh hbad => ?_, fun s n p poisoned m j hs hm hj hoff => ?_,
    fun s n poisoned m hs hm hj => ?_, fun s n poisoned hs hm => ?_⟩
  · exact completes_tileFetch hs (tileFetch_fetches hl he hr hf poisoned hc hsound hblock h1 hread)
  · exact completes_tileFetch hs (tileFetch_bad hl he hr hf poisoned hc hbad)
  · exact completes_tileFetch hs (tileFetch_blank hl he hr hf poisoned hc hsound hblank)
  · exact completes_tileFetch hs (tileFetch_unread hl he hr hf poisoned hc hsound hblock h1 hread)
  · exact completes_tileFetch hs (tileFetch_no_column hl he hr hf poisoned hc)
  · exact completes_tileFetch hs (tileFetch_rests h poisoned)
  · exact completes_tileDecodeDone hs (tileDecode_ok hl hf hc hdec)
  · exact completes_tileDecodeDone hs (tileDecode_error hl hf hc hdec)
  · exact completes_tileDecodeDone hs (tileDecode_memory_error hl hf hc)
  · exact completes_tileDecodeDone hs (tileDecode_rests h bad)
  · exact completes_of_exec (exec_fillLate hs n) (fillLate_late he hneg hfirst h1)
  · exact completes_of_exec (exec_fillLate hs n) (fillLate_not_late he h)
  · exact completes_of_exec (exec_fillLate hs n) (fillLate_unlisted he)
  · exact completes_of_exec (exec_maskLoad hs n) (maskLoad_claims hg hdue hroom)
  · exact completes_of_exec (exec_maskLoad hs n) (maskLoad_rests h)
  · exact completes_maskLoadDone hs (maskLoadDone_sound hm poisoned hj hon ha h2 hh hok hport hcrc)
  · exact completes_maskLoadDone hs (maskLoadDone_port_not_held hm poisoned hj hon ha h2 hh hok hport)
  · exact completes_maskLoadDone hs (maskLoadDone_unsound hm poisoned hj hon ha h2 hh hbad)
  · exact completes_maskLoadDone hs (maskLoadDone_disabled hm poisoned hj hoff)
  · exact completes_maskLoadDone hs (maskLoadDone_no_job hm poisoned hj)
  · exact completes_maskLoadDone hs (maskLoadDone_rests hm poisoned)

end Sys2Proof.Machine
end

section
/-!
PROOF. The writes of the class waveforms (R157). MAIN of FIRE_W_k alone lies in its register and is set by an operation of
its own; a write at basic level of a class 1 to 3 is checked against the value held (R37).
-/
namespace Sys2Proof.Machine

/-! ### A waveform takes its new nominal -/

@[simp] theorem Dev.heat_setHeat_same (d : Dev) (n : Nat) (q : ThmPort) : (d.setHeat n q).heat n = q := tget_tset_same ..

theorem Dev.heat_setHeat_ne (d : Dev) {n m : Nat} (h : n ≠ m) (q : ThmPort) : (d.setHeat m q).heat n = d.heat n :=
  tget_tset_ne _ _ _ h _

@[simp] theorem Dev.get_setHeat (d : Dev) (n : Nat) (q : ThmPort) (f : Fld) : (d.setHeat n q).get f = d.get f := rfl

@[simp] theorem Dev.wave_setWave_same (d : Dev) (n k : Nat) (c : ClassWave) : (d.setWave n k c).wave n k = c := by
  simp [Dev.wave, Dev.setWave]

/-- A class that takes its target is left with another waveform of the same nominal, and nothing else changes. -/
theorem retarget_eq (n : Nat) (now : Bool) (d : Dev) (k : Nat) :
    ∃ c : ClassWave, c.nom = (d.wave n k).nom ∧ retarget n now d k = d.setWave n k c := by
  rw [retarget]
  dsimp only
  split_ifs <;> refine ⟨_, ?_, rfl⟩ <;> rfl

/-- The fields of one class of a port lie at different places. -/
theorem fireFields_key_ne (n k : Nat) :
    (fireFields n k).1.key ≠ (fireFields n k).2.2.key ∧ (fireFields n k).2.1.key ≠ (fireFields n k).2.2.key := by
  rw [fireFields]
  split_ifs <;> simp only [Fld.key, Reg.HPT.FIRE_P_0.PRE, Reg.HPT.FIRE_P_0.GAP, Reg.HPT.FIRE_W_0.MAIN, Reg.HPT.FIRE_P_X.PRE,
    Reg.HPT.FIRE_P_X.GAP, Reg.HPT.FIRE_W_X.MAIN] <;> omega

/-- FIRE_W of a class: MAIN as it is kept, at most 8000 steps (R156). -/
def mainWidth (main : Nat) : Nat := min (main % 8192) 8000

/-- The device whose class `k` has MAIN and its new nominal, before the class takes its target. -/
def fireHeld (n k main : Nat) (d : Dev) : Dev :=
  (d.set (fireFields n k).2.2 (mainWidth main)).setWave n k { d.wave n k with nom :=
    { pre := min (d.get (fireFields n k).1) 8000, gap := min (d.get (fireFields n k).2.1) 8000, main := mainWidth main } }

theorem fireWrite_eq (n k main : Nat) (d : Dev) :
    fireWrite n k main d =
      if (fireHeld n k main d).runs (pg .THM 0) = true then retarget n false (fireHeld n k main d) k else fireHeld n k main d := by
  obtain ⟨hpre, hgap⟩ := fireFields_key_ne n k
  rw [fireWrite]
  dsimp only
  rw [d.get_set_ne _ hpre, d.get_set_ne _ hgap]
  rfl

/-- A write of FIRE_W leaves the registers and the nominal of the class as `fireHeld` has them. -/
theorem fireWrite_shows (n k main : Nat) (d : Dev) :
    ((fireWrite n k main d).wave n k).nom.main = mainWidth main ∧
      ∀ f, (fireWrite n k main d).get f = (d.set (fireFields n k).2.2 (mainWidth main)).get f := by
  obtain ⟨c, hc, hr⟩ := retarget_eq n false (fireHeld n k main d) k
  rw [fireWrite_eq, hr]
  split_ifs
  · exact ⟨by rw [Dev.wave_setWave_same, hc, fireHeld, Dev.wave_setWave_same], fun f => rfl⟩
  · exact ⟨by rw [fireHeld, Dev.wave_setWave_same], fun f => rfl⟩

/-! ### The registers FIRE_W_k -/

theorem pg_hpt (n : Nat) : pg .HPT n = 0x100 + n := rfl

/-- MAIN of a class 1 to 3 (Table 7.5). -/
theorem fireFields_main (n : Nat) {k : Nat} (h1 : 1 ≤ k) : (fireFields n k).2.2 = Reg.HPT.FIRE_W_X.MAIN n (k - 1) := by
  rw [fireFields, if_neg (by omega)]

/-- The page offset of FIRE_W_k (Table 7.5). -/
def fireOff (k : Nat) : Nat := if k = 0 then 0x204 else 0x604 + 8 * (k - 1)

theorem fireOff_bounds {k : Nat} (hk : k < 4) : 0x204 ≤ fireOff k ∧ fireOff k ≤ 0x614 ∧ fireOff k % 4 = 0 := by
  rw [fireOff]
  split_ifs <;> omega

theorem fieldsAt_fireOff (n : Nat) {k : Nat} (hk : k < 4) : Blk.fieldsAt n (fireOff k) .HPT = [(fireFields n k).2.2] := by
  interval_cases k <;> rfl

theorem ownWriter_main (n k : Nat) : ownWriter n .HPT (fireFields n k).2.2 = true := by
  rw [fireFields]
  split_ifs
  · simp [ownWriter]
  · have hi : (0x604 + 8 * (k - 1) - 0x600) / 8 = k - 1 := by omega
    simp [ownWriter, Reg.HPT.FIRE_W_X.MAIN, hi]

theorem fieldWrite_main (n k : Nat) (o : Offer) (d : Dev) : fieldWrite n .HPT o d (fireFields n k).2.2 = d :=
  if_pos (.inl (ownWriter_main n k))

/-- MAIN of class 0 is never guarded, that of another class at basic level (Table 7.5). -/
theorem guarded_main (n k page : Nat) (d : Dev) :
    d.guarded page (fireFields n k).2.2 = (decide (k ≠ 0) && !d.is (Reg.HDR.LEVEL page)) := by
  rw [fireFields]
  split_ifs with h
  · simp [Dev.guarded, Reg.HPT.FIRE_W_0.MAIN, h]
  · simp [Dev.guarded, Reg.HPT.FIRE_W_X.MAIN, h]

/-- A write of FIRE_W_k acts on class 0, and on another class at expert level. -/
theorem instanceActs_fireOff {k : Nat} (hk : k < 4) (n v : Nat) (ok : Bool) (old d : Dev) :
    instanceActs .HPT n (fireOff k) v ok old d =
      if k = 0 ∨ d.is (Reg.HDR.LEVEL (pg .HPT n)) = true then fireWrite n k (bits v 12 0) d else d := by
  interval_cases k <;> simp [instanceActs, fireOff]

/-- A host write of FIRE_W_k on a page that is served is a write of the one field. -/
theorem hostWrite_fireOff (u : Fuses) {n k : Nat} (v : Nat) {d : Dev} (hn : n < 64) (hk : k < 4)
    (ho : d.pageOff (0x100 + n) = false) :
    hostWrite u ((0x100 + n) * 4096 + fireOff k) v d =
      (fieldsWrite u Party.host .HPT n (fireOff k) (v % 2 ^ 32) [(fireFields n k).2.2]
        { raw := v % 2 ^ 32, whole := some (v % 2 ^ 32) } d).2 := by
  obtain ⟨h1, h2, h3⟩ := fireOff_bounds hk
  have hpage : ((0x100 + n) * 4096 + fireOff k) / 4096 = 0x100 + n := by omega
  have hoff : ((0x100 + n) * 4096 + fireOff k) % 4096 / 4 * 4 = fireOff k := by omega
  have hpair : (fireFields n k).2.2.pair = false := by rw [fireFields]; split_ifs <;> rfl
  rw [hostWrite, busWrite_own (b := .HPT) (n := n) (by rw [hpage]; exact ofPage_pg (b := .HPT) hn) (by rwa [hpage]) (by omega)
    (by omega) (by decide), hoff, blockWrite_single (by decide) (by rw [fieldsAt_fireOff n hk]; simp [isLo, hpair])
    (by rw [fieldsAt_fireOff n hk]; simp [isHi, hpair]), fieldsAt_fireOff n hk]

theorem fireWrite_bits (n k main : Nat) (d : Dev) :
    fireWrite n k (bits (main % 2 ^ 32) 12 0) d = fireWrite n k main d := by
  have hb : bits (main % 2 ^ 32) 12 0 % 8192 = main % 8192 := by simp only [bits]; omega
  rw [fireWrite, fireWrite, hb]

/-- A write that is not guarded gives the class its nominal. -/
theorem hostWrite_fireW {n k main : Nat} {d : Dev} (u : Fuses) (hn : n < 64) (hk : k < 4) (ho : d.pageOff (0x100 + n) = false)
    (hl : k = 0 ∨ d.is (Reg.HDR.LEVEL (0x100 + n)) = true) :
    hostWrite u ((0x100 + n) * 4096 + fireOff k) main d = fireWrite n k main d := by
  have hg : d.guarded (pg .HPT n) (fireFields n k).2.2 = false := by
    rw [guarded_main]
    obtain rfl | hl := hl
    · rfl
    · exact Bool.and_eq_false_iff.mpr (.inr (by rw [pg_hpt, hl]; rfl))
  rw [hostWrite_fireOff u main hn hk ho, fieldsWrite_ok (Dev.denied_nil (by simp [hg])) (by decide), List.foldl_cons,
    List.foldl_nil, fieldWrite_main, instanceActs_fireOff hk, show blockActs u _ .HPT _ _ _ _ d d = d from rfl,
    if_pos (by exact hl), fireWrite_bits]

/-- A write that is denied its one field is recorded, and its block is told of the denial (R37). -/
theorem fieldsWrite_level_denied {u : Fuses} {w : Party} {b : Blk} {n off v : Nat} {f : Fld} {o : Offer} {d : Dev}
    (hden : d.denied u n b [f] o = [f]) (ha : f.acc = .rwx) (hb : b ≠ .ENC) :
    (fieldsWrite u w b n off v [f] o d).2 = instanceActs b n off v false d (blockActs u w b off v o false d
      (fieldWrite n b o (discarded Kind.SYS.LEVEL_DENIED w true (pg b n * 4096 + off) d) f)) := by
  simp [fieldsWrite, hden, ha, hb]

/-- What FIRE_W_k of a class 1 to 3 is denied at basic level: a value other than it holds (R37, notes/assumptions/11.md). -/
theorem denied_main {n k main : Nat} {d : Dev} (u : Fuses) (h1 : 1 ≤ k) (hl : d.is (Reg.HDR.LEVEL (0x100 + n)) = false)
    (hv : main < 8192) :
    d.denied u n .HPT [(fireFields n k).2.2] { raw := main, whole := some main } =
      if main = d.get (Reg.HPT.FIRE_W_X.MAIN n (k - 1)) then [] else [(fireFields n k).2.2] := by
  have hg : d.guarded (pg .HPT n) (fireFields n k).2.2 = true := by
    rw [guarded_main, pg_hpt, hl, decide_eq_true (Nat.one_le_iff_ne_zero.mp h1)]
    rfl
  rw [fireFields_main n h1] at hg ⊢
  have hoffer : ({ raw := main, whole := some main } : Offer).value (Reg.HPT.FIRE_W_X.MAIN n (k - 1)) = some main := by
    simp [Offer.value, Reg.HPT.FIRE_W_X.MAIN, bits, Nat.mod_eq_of_lt hv]
  have hval : d.value u n .HPT (Reg.HPT.FIRE_W_X.MAIN n (k - 1)) = d.get (Reg.HPT.FIRE_W_X.MAIN n (k - 1)) := rfl
  simp only [Dev.denied, List.filter_cons, List.filter_nil, hg, hoffer, hval, Bool.true_and, bne_iff_ne, ne_eq, ite_not]

/-- At basic level the waveform of a class 1 to 3 stays as it is: the value held is let pass, any other is denied. -/
theorem hostWrite_fireW_basic {n k main : Nat} {d : Dev} (u : Fuses) (hn : n < 64) (h1 : 1 ≤ k) (hk : k ≤ 3)
    (ho : d.pageOff (0x100 + n) = false) (hl : d.is (Reg.HDR.LEVEL (0x100 + n)) = false) (hv : main < 8192) :
    hostWrite u ((0x100 + n) * 4096 + fireOff k) main d =
      if main = d.get (Reg.HPT.FIRE_W_X.MAIN n (k - 1)) then d
      else discarded Kind.SYS.LEVEL_DENIED Party.host true ((0x100 + n) * 4096 + fireOff k) d := by
  have hk0 : k ≠ 0 := Nat.one_le_iff_ne_zero.mp h1
  have hbasic : ∀ (ok : Bool) (e : Dev), e.get (Reg.HDR.LEVEL (0x100 + n)) = d.get (Reg.HDR.LEVEL (0x100 + n)) →
      instanceActs .HPT n (fireOff k) main ok d e = e := by
    intro ok e he
    have hle : e.is (Reg.HDR.LEVEL (pg .HPT n)) = false := by rw [Dev.is_eq, pg_hpt, he, ← Dev.is_eq, hl]
    rw [instanceActs_fireOff (by omega), if_neg (by simp [hk0, hle])]
  have hden := denied_main u h1 hl hv
  rw [hostWrite_fireOff u main hn (by omega) ho, Nat.mod_eq_of_lt (by omega : main < 2 ^ 32)]
  split_ifs at hden ⊢
  · rw [fieldsWrite_ok hden (by decide), List.foldl_cons, List.foldl_nil, fieldWrite_main]
    exact hbasic _ _ rfl
  · have hacc : (fireFields n k).2.2.acc = .rwx := by rw [fireFields_main n h1]; rfl
    have hsteady : (Reg.HDR.LEVEL (0x100 + n)).Steady := by
      simp only [Fld.Steady, Fld.key, Reg.HDR.LEVEL, Reg.SED.LOST.COUNT, List.mem_cons, List.not_mem_nil, or_false]
      omega
    rw [fieldsWrite_level_denied hden hacc (by decide), fieldWrite_main]
    exact hbasic _ _ ((Dev.onlyRises_raise ..).1 _ hsteady)

end Sys2Proof.Machine
end

section
/-!
PROOF. Temperature samples (R163, R164). A sample writes TEMP, STALE and INVALID of its port first; what follows from it, up
to the entry to HOT, leaves these fields and the kept temperature alone (`Dev.SampleKept`).
-/
namespace Sys2Proof.Machine

theorem Dev.Flagged.thm_eq {d d' : Dev} (h : d.Flagged d') : d'.thm = d.thm := by
  obtain ⟨⟨r, f, s, e, l, o, rfl⟩, -⟩ := h; rfl

/-! ### What a sample shows -/

/-- The fields in which a port shows its latest sample. -/
def sampleFields (n : Nat) : List Fld := [Reg.THM.TEMP.TEMP n, Reg.THM.TEMP.STALE n, Reg.THM.TEMP.INVALID n]

/-- The latest sample of a port shows as before, and its temperature is kept. -/
def Dev.SampleKept (n : Nat) (d d' : Dev) : Prop :=
  (∀ f ∈ sampleFields n, d'.get f = d.get f) ∧ (d'.heat n).temp = (d.heat n).temp

/-- Registers at offsets where no sample shows. -/
theorem key_ne_sampleFields {n : Nat} {f g : Fld} (hg : g ∈ sampleFields n) (hf : f.lo < 64)
    (h : f.page * 4096 + f.off ≠ 0xB2 * 4096 + 0x100 + 4 * n) : g.key ≠ f.key := by
  simp only [sampleFields, List.mem_cons, List.not_mem_nil, or_false] at hg
  obtain rfl | rfl | rfl := hg <;>
    simp only [Fld.key, Reg.THM.TEMP.TEMP, Reg.THM.TEMP.STALE, Reg.THM.TEMP.INVALID] <;> omega

theorem sampleFields_key_ne (n : Nat) :
    (Reg.THM.TEMP.TEMP n).key ≠ (Reg.THM.TEMP.INVALID n).key ∧ (Reg.THM.TEMP.TEMP n).key ≠ (Reg.THM.TEMP.STALE n).key ∧
      (Reg.THM.TEMP.STALE n).key ≠ (Reg.THM.TEMP.INVALID n).key := by
  simp only [Fld.key, Reg.THM.TEMP.TEMP, Reg.THM.TEMP.STALE, Reg.THM.TEMP.INVALID]
  omega

theorem sampleFields_past_header {n : Nat} (hn : n < 64) {g : Fld} (hg : g ∈ sampleFields n) :
    0x40 ≤ g.off ∧ g.off < 4096 ∧ g.lo < 64 := by
  simp only [sampleFields, List.mem_cons, List.not_mem_nil, or_false] at hg
  obtain rfl | rfl | rfl := hg <;> simp [Reg.THM.TEMP.TEMP, Reg.THM.TEMP.STALE, Reg.THM.TEMP.INVALID] <;> omega

namespace Dev.SampleKept

variable {n : Nat} {a b c d d' : Dev}

theorem refl (n : Nat) (d : Dev) : SampleKept n d d := ⟨fun _ _ => rfl, rfl⟩

theorem trans (h : SampleKept n a b) (k : SampleKept n b c) : SampleKept n a c :=
  ⟨fun f hf => (k.1 f hf).trans (h.1 f hf), k.2.trans h.2⟩

theorem of_regs (hr : d'.regs = d.regs) (ht : (d'.heat n).temp = (d.heat n).temp) : SampleKept n d d' :=
  ⟨fun f _ => Dev.get_of_regs hr f, ht⟩

theorem temp (h : SampleKept n d d') : d'.get (Reg.THM.TEMP.TEMP n) = d.get (Reg.THM.TEMP.TEMP n) :=
  h.1 _ (by simp [sampleFields])

theorem stale (h : SampleKept n d d') : d'.get (Reg.THM.TEMP.STALE n) = d.get (Reg.THM.TEMP.STALE n) :=
  h.1 _ (by simp [sampleFields])

theorem invalid (h : SampleKept n d d') : d'.get (Reg.THM.TEMP.INVALID n) = d.get (Reg.THM.TEMP.INVALID n) :=
  h.1 _ (by simp [sampleFields])

end Dev.SampleKept

namespace Dev

variable {n : Nat}

theorem sampleKept_setHeat {d : Dev} {q : ThmPort} (h : q.temp = (d.heat n).temp) : d.SampleKept n (d.setHeat n q) :=
  .of_regs rfl (by rw [heat_setHeat_same, h])

/-- Flags and faults. -/
theorem Flagged.sampleKept {d d' : Dev} (hn : n < 64) (h : d.Flagged d') : d.SampleKept n d' := by
  refine ⟨fun g hg => ?_, by rw [heat, heat, h.thm_eq]⟩
  obtain ⟨h1, h2, h3⟩ := sampleFields_past_header hn hg
  exact h.2 g h1 h2 h3 (key_ne_sampleFields hg (by decide) (by simp [Reg.SED.LOST.COUNT]; omega))

/-- Another register. -/
theorem sampleKept_set (d : Dev) {f : Fld} (v : Nat) (hf : f.lo < 64)
    (h : f.page * 4096 + f.off ≠ 0xB2 * 4096 + 0x100 + 4 * n) : d.SampleKept n (d.set f v) :=
  ⟨fun _ hg => d.get_set_ne v (key_ne_sampleFields hg hf h), rfl⟩

/-- STATE, beside them in the register. -/
theorem sampleKept_set_state (d : Dev) (v : Nat) : d.SampleKept n (d.set (Reg.THM.TEMP.STATE n) v) := by
  refine ⟨fun g hg => d.get_set_ne v ?_, rfl⟩
  simp only [sampleFields, List.mem_cons, List.not_mem_nil, or_false] at hg
  obtain rfl | rfl | rfl := hg <;>
    simp only [Fld.key, Reg.THM.TEMP.TEMP, Reg.THM.TEMP.STALE, Reg.THM.TEMP.INVALID, Reg.THM.TEMP.STATE] <;> omega

/-- HOT of any port. -/
theorem sampleKept_set_hot (d : Dev) (v : Nat) : d.SampleKept n (d.set Reg.THM.HOT.HOT v) :=
  d.sampleKept_set v (by decide) (by simp only [Reg.THM.HOT.HOT]; omega)

end Dev

namespace Dev.SampleKept

variable {n : Nat} {a d : Dev}

theorem setHeat (h : a.SampleKept n d) {q : ThmPort} (hq : q.temp = (d.heat n).temp) : a.SampleKept n (d.setHeat n q) :=
  h.trans (sampleKept_setHeat hq)

theorem setHot {v : Nat} (h : a.SampleKept n d) : a.SampleKept n (d.set Reg.THM.HOT.HOT v) := h.trans (d.sampleKept_set_hot v)

theorem setState {v : Nat} (h : a.SampleKept n d) : a.SampleKept n (d.set (Reg.THM.TEMP.STATE n) v) :=
  h.trans (d.sampleKept_set_state v)

theorem arm {k : TimerKey} {t : Nat} (h : a.SampleKept n d) : a.SampleKept n (d.arm k t) := h.trans (.of_regs rfl rfl)

theorem raise {m : Nat} {k : FKind} {x : FArg} (hn : n < 64) (h : a.SampleKept n d) : a.SampleKept n (d.raise m k x) :=
  h.trans ((d.flagged_raise m k x).sampleKept hn)

theorem ev {b : Blk} {m bit : Nat} (hn : n < 64) (h : a.SampleKept n d) : a.SampleKept n (d.ev b m bit) :=
  h.trans ((d.flagged_ev b m bit).sampleKept hn)

end Dev.SampleKept

namespace Dev

variable {n : Nat}

/-- What happens at a moment ahead. -/
theorem sampleKept_atMoment {f : Dev → Dev} (h : ∀ e : Dev, e.SampleKept n (f e)) (d : Dev) (t : Nat) :
    d.SampleKept n (d.atMoment t f) :=
  .trans (b := d.advanceTo t) (.of_regs rfl rfl) (.trans (h _) (.of_regs rfl rfl))

/-! ### Requests and records -/

theorem flagged_unicast (d : Dev) (l type dest : Nat) (p : Bytes) : d.Flagged (d.unicast l type dest p).2 := by
  rw [unicast]
  split_ifs
  · exact (flagged_of_regs rfl ⟨_, _, _, _, _, rfl⟩).trans (flagged_sendOn (d.nextSeq _).2 l _)
  · exact .refl d

theorem flagged_slowdown (d : Dev) (cause port : Nat) : d.Flagged (d.slowdown cause port) := by
  rw [slowdown]
  split_ifs
  · exact (flagged_unicast ..).trans (flagged_of_regs rfl ⟨_, _, _, _, _, rfl⟩)
  · exact .refl d

theorem flagged_sediment (d : Dev) (r : SedRec) : d.Flagged (d.sediment r) := by
  rw [sediment]
  split_ifs
  · exact (d.flagged_sedOffer r).trans (flagged_raise ..)
  · exact d.flagged_sedOffer r

end Dev

/-! ### HOT (R174, R176) -/

theorem foldl_abandon_keeps (n : Nat) (ws : List Window) (d : Dev) :
    (ws.foldl (fun d w => abandon n w.noz d) d).regs = d.regs ∧ (ws.foldl (fun d w => abandon n w.noz d) d).thm = d.thm := by
  induction ws generalizing d with
  | nil => exact ⟨rfl, rfl⟩
  | cons w ws ih => exact ih (abandon n w.noz d)

/-- The abandoning of windows is a matter of SND. -/
theorem sampleKept_cutWindow (m n : Nat) (g : Geom) (f : Firing) (d : Dev) : d.SampleKept m (cutWindow n g f d) := by
  obtain ⟨hregs, hthm⟩ : (cutWindow n g f d).regs = d.regs ∧ (cutWindow n g f d).thm = d.thm := foldl_abandon_keeps ..
  exact .of_regs hregs (by rw [Dev.heat, Dev.heat, hthm])

/-- The cut of a cycle writes records and ends the cycle. -/
theorem sampleKept_cutFiring {n source kind : Nat} {all : Bool} {d : Dev} (hn : n < 64) :
    d.SampleKept n (cutFiring n source kind all d).1 := by
  rw [cutFiring]
  split
  · split_ifs
    · exact .of_regs rfl rfl
    · refine .trans ?_ (sampleKept_cutWindow ..)
      refine .trans ?_ (.of_regs (d := List.foldl _ d _) rfl rfl)
      exact (Dev.flagged_foldl _ (fun d r => d.flagged_sediment _) _ d).sampleKept hn
  · exact .refl n d

/-- The entry to HOT. -/
theorem sampleKept_enterHot {n : Nat} (hn : n < 64) (cause : Nat) (d : Dev) : d.SampleKept n (enterHot n cause d) := by
  by_cases hhot : d.hot n = true
  · rw [enterHot, if_pos hhot]
    exact .refl n d
  · rw [enterHot, if_neg hhot]
    refine Dev.sampleKept_atMoment (fun e => ?_) d _
    refine .raise hn ?_
    split_ifs
    · exact .setState (.setHot (.setHeat (sampleKept_cutFiring hn) rfl))
    · exact .raise hn (.setState (.setHot (.setHeat (sampleKept_cutFiring hn) rfl)))

/-- The device as a port leaves HOT. -/
def leftHot (n : Nat) (d : Dev) : Dev :=
  (((d.setHeat n { d.heat n with valid := 0, cool := 0, rearm := false }).clrBit Reg.THM.HOT.HOT n).set
    (Reg.THM.TEMP.STATE n) 0).ev .THM 0 2

theorem leaveHot_eq (n : Nat) (d : Dev) : leaveHot n d =
    if d.hot n = true ∧ 2 ≤ (d.heat n).cool ∧ ((d.heat n).rearm = true ∨ d.is Reg.THM.HOT_CTRL.AUTO_REARM = true) then leftHot n d
    else d := rfl

theorem sampleKept_leaveHot {n : Nat} (hn : n < 64) (d : Dev) : d.SampleKept n (leaveHot n d) := by
  rw [leaveHot_eq]
  split_ifs
  · exact .ev hn (.setState (.setHot (.setHeat (.refl n d) rfl)))
  · exact .refl n d

/-! ### What follows a sample -/

theorem sampleKept_retargetAll (n : Nat) (now : Bool) (d : Dev) : d.SampleKept n (retargetAll n now d) := by
  have hone : ∀ (d : Dev) (k : Nat), d.SampleKept n (retarget n now d k) := fun d k => by
    obtain ⟨c, -, hr⟩ := retarget_eq n now d k
    rw [hr]
    exact .setHeat (.refl n d) rfl
  rw [retargetAll]
  split_ifs
  · exact .trans (hone ..) (.trans (hone ..) (.trans (hone ..) (hone ..)))
  · exact .refl n d

theorem flagged_thmSlowdown (n : Nat) (d : Dev) : d.Flagged (thmSlowdown n d) := by
  rw [thmSlowdown]
  split_ifs
  · exact (d.flagged_slowdown 2 n).trans (Dev.flagged_ev ..)
  · exact .refl d

theorem sampleKept_softRegion {n : Nat} (hn : n < 64) (t : Int) (d : Dev) : d.SampleKept n (softRegion n t d) := by
  have hleft : ∀ {e : Dev}, d.SampleKept n e → d.SampleKept n (softLeft e) := fun h => by
    rw [softLeft]
    split_ifs
    · exact h
    · exact h.trans (.of_regs rfl rfl)
  rw [softRegion]
  split_ifs
  · exact hleft (.ev hn (.setHeat (.refl n d) rfl))
  · exact .setHeat (.refl n d) rfl
  · have hwarm : d.SampleKept n (thmSlowdown n ((d.setHeat n { d.heat n with soft := true, rho := some (d.rhoAt n t) }).raise 0
        Kind.THM.HEAD_WARM { port := n })) := by
      refine .trans ?_ ((flagged_thmSlowdown ..).sampleKept hn)
      exact .raise hn (.setHeat (.refl n d) rfl)
    dsimp only
    split_ifs
    · exact hwarm
    · exact .arm hwarm
  · exact .refl n d

theorem sampleKept_showState (n : Nat) (d : Dev) : d.SampleKept n (showState n d) := d.sampleKept_set_state _

theorem sampleKept_planWarming (n : Nat) (t : Int) (d : Dev) : d.SampleKept n (planWarming n t d) :=
  .setHeat (.refl n d) rfl

/-! ### Samples -/

/-- A valid sample shows, and the port keeps it. -/
def sampleShown (n : Nat) (t : Int) (d : Dev) : Dev :=
  let d := ((d.set (Reg.THM.TEMP.TEMP n) (ofSigned 16 t)).set (Reg.THM.TEMP.STALE n) 0).set (Reg.THM.TEMP.INVALID n) 0
  d.setHeat n { d.heat n with temp := some t, bad := 0, stale := 0, warm := [],
                              tRef := d.get Reg.THM.DERATE.T_REF, dPre := d.is Reg.THM.DERATE.DERATE_PRE }

/-- A valid sample after the soft region has been looked at; `q` is the port before the sample. -/
def sampleActs (n : Nat) (t : Int) (q : ThmPort) (d : Dev) : Dev :=
  if d.hot n then
    leaveHot n (retargetAll n false (d.setHeat n { d.heat n with cool := if t < d.tResume n then min 2 (q.cool + 1) else 0 }))
  else
    let d := retargetAll n (q.valid == 0) (d.setHeat n { d.heat n with valid := min 2 (q.valid + 1) })
    if d.tHard n ≤ t then enterHot n 0 d else planWarming n t (showState n d)

theorem validSample_eq (n : Nat) (t : Int) (d : Dev) :
    validSample n t d = sampleActs n t (d.heat n) (softRegion n t (sampleShown n t d)) := rfl

theorem sampleKept_sampleActs {n : Nat} (hn : n < 64) (t : Int) (q : ThmPort) (d : Dev) :
    d.SampleKept n (sampleActs n t q d) := by
  have htarget : ∀ {now : Bool} {q : ThmPort}, q.temp = (d.heat n).temp →
      d.SampleKept n (retargetAll n now (d.setHeat n q)) := fun h =>
    .trans (Dev.sampleKept_setHeat h) (sampleKept_retargetAll ..)
  rw [sampleActs]
  dsimp only
  split
  · refine .trans ?_ (sampleKept_leaveHot hn _)
    exact htarget rfl
  · split
    · refine .trans ?_ (sampleKept_enterHot hn 0 _)
      exact htarget rfl
    · refine .trans (.trans ?_ (sampleKept_showState ..)) (sampleKept_planWarming ..)
      exact htarget rfl

/-- A valid sample shows its temperature, and the port keeps it. -/
theorem validSample_shows {n : Nat} (hn : n < 64) (t : Int) (d : Dev) :
    (validSample n t d).get (Reg.THM.TEMP.TEMP n) = ofSigned 16 t ∧ (validSample n t d).get (Reg.THM.TEMP.INVALID n) = 0 ∧
      (validSample n t d).get (Reg.THM.TEMP.STALE n) = 0 ∧ ((validSample n t d).heat n).temp = some t := by
  have hkept : (sampleShown n t d).SampleKept n (validSample n t d) := by
    rw [validSample_eq]
    exact (sampleKept_softRegion hn ..).trans (sampleKept_sampleActs hn ..)
  have hcap : ofSigned 16 t % (Reg.THM.TEMP.TEMP n).cap = ofSigned 16 t := by
    refine Nat.mod_eq_of_lt ?_
    simp only [ofSigned, Fld.cap, Reg.THM.TEMP.TEMP]
    omega
  obtain ⟨hti, hts, hsi⟩ := sampleFields_key_ne n
  refine ⟨?_, ?_, ?_, ?_⟩
  · rw [hkept.temp, sampleShown, Dev.get_setHeat, Dev.get_set_ne _ _ hti, Dev.get_set_ne _ _ hts, Dev.get_set_same, hcap]
  · rw [hkept.invalid, sampleShown, Dev.get_setHeat, Dev.get_set_same, Nat.zero_mod]
  · rw [hkept.stale, sampleShown, Dev.get_setHeat, Dev.get_set_ne _ _ hsi, Dev.get_set_same, Nat.zero_mod]
  · rw [hkept.2, sampleShown, Dev.heat_setHeat_same]

/-- An invalid sample shows as such, beside the temperature before. -/
theorem invalidSample_shows {n : Nat} (hn : n < 64) (d : Dev) :
    (invalidSample n d).get (Reg.THM.TEMP.INVALID n) = 1 ∧
      (invalidSample n d).get (Reg.THM.TEMP.TEMP n) = d.get (Reg.THM.TEMP.TEMP n) := by
  have hkept : ((d.set (Reg.THM.TEMP.INVALID n) 1).set (Reg.THM.TEMP.STALE n) 0).SampleKept n (invalidSample n d) := by
    rw [invalidSample]
    split
    · refine .trans ?_ (sampleKept_enterHot hn 1 _)
      exact .setHeat (.refl n _) rfl
    · exact .setHeat (.refl n _) rfl
  obtain ⟨hti, hts, hsi⟩ := sampleFields_key_ne n
  rw [hkept.invalid, hkept.temp, Dev.get_set_ne _ _ hsi.symm, Dev.get_set_same, Dev.get_set_ne _ _ hts, Dev.get_set_ne _ _ hti]
  exact ⟨rfl, rfl⟩

/-- A stale sample shows as such. -/
theorem staleSample_shows {n : Nat} (hn : n < 64) (d : Dev) :
    (staleSample n d).get (Reg.THM.TEMP.STALE n) = 1 ∧ (staleSample n d).get (Reg.THM.TEMP.INVALID n) = 0 := by
  have hkept : ((d.set (Reg.THM.TEMP.STALE n) 1).set (Reg.THM.TEMP.INVALID n) 0).SampleKept n (staleSample n d) := by
    rw [staleSample]
    dsimp only
    split
    · refine .trans ?_ (sampleKept_enterHot hn 1 _)
      refine .setHeat ?_ rfl
      exact .setHeat (.refl n _) rfl
    · exact .setHeat (.refl n _) rfl
  obtain ⟨-, -, hsi⟩ := sampleFields_key_ne n
  rw [hkept.stale, hkept.invalid, Dev.get_set_ne _ _ hsi, Dev.get_set_same, Dev.get_set_same]
  exact ⟨rfl, rfl⟩

/-! ### TEMPERATURE_SAMPLE -/

/-- The moment of a port's sample, with its next turn set. -/
def sampleTurn (n : Nat) (d : Dev) : Dev := (d.advanceTo ((d.due (.temp n)).getD d.time.up)).arm (.temp n) (100 * us)

/-- The SENSE frame of a sample that is taken has been answered. -/
def sampleAnswered (n : Nat) (d : Dev) : Dev := d.setHead n { d.head n with snsSent := false, snsBad := 0 }

/-- The taking of a sample is a matter of the head and of the channel. -/
theorem takeSample_keeps (n : Nat) (d : Dev) : (takeSample n d).regs = d.regs ∧ (takeSample n d).thm = d.thm := by
  have hframe : (sampleFrame n d).regs = d.regs ∧ (sampleFrame n d).thm = d.thm := by
    rw [sampleFrame]
    split_ifs
    · exact ⟨rfl, rfl⟩
    · simp only [Dev.sense, Dev.ship, Dev.emit_regs, Dev.emit_thm]
      exact ⟨rfl, rfl⟩
  rw [takeSample, Dev.advanceTo_eq]
  generalize d.sampleSlot (n / 8) = slot
  generalize sampleFrame n d = e at *
  split
  · split_ifs <;> exact hframe
  · exact hframe

theorem temperatureSample_rests {n : Nat} {d : Dev} (h : d.get (Reg.HPT.LINK_STAT.STATE n) ≠ 6 ∨ d.blk (pg .THM 0) = 0 ∨
    d.blk (pg .THM 0) = 5) (outcome r : Nat) : temperatureSample n outcome r d = sampleTurn n d := if_pos h

section

variable {n : Nat} {d : Dev} (hup : d.get (Reg.HPT.LINK_STAT.STATE n) = 6) (hreset : d.blk (pg .THM 0) ≠ 0)
  (hoff : d.blk (pg .THM 0) ≠ 5)

include hup hreset hoff

theorem temperatureSample_stale (hstale : d.channelStale (n / 8) = true) (outcome r : Nat) :
    temperatureSample n outcome r d = staleSample n (countStale (sampleTurn n d)) :=
  (if_neg (not_or.mpr ⟨not_not.mpr hup, not_or.mpr ⟨hreset, hoff⟩⟩)).trans (if_pos hstale)

theorem temperatureSample_taken (hstale : d.channelStale (n / 8) = false) (outcome r : Nat) {d0 : Dev}
    (htake : takeSample n (sampleTurn n d) = d0) :
    temperatureSample n outcome r d =
      if outcome = 1 ∨ 2 ≤ (d0.head n).snsBad ∨ senseTemp (d.energy n) r < -640 ∨ 2400 < senseTemp (d.energy n) r then
        invalidSample n (sampleAnswered n d0)
      else validSample n (senseTemp (d.energy n) r) (sampleAnswered n d0) := by
  have henergy : (sampleAnswered n d0).energy n = d.energy n := by
    have hthm : (sampleAnswered n d0).thm = d.thm := by rw [← htake]; exact (takeSample_keeps ..).2
    rw [Dev.energy, Dev.energy, hthm]
  have heq : temperatureSample n outcome r d =
      if outcome = 1 ∨ 2 ≤ (d0.head n).snsBad then invalidSample n (sampleAnswered n d0)
      else if senseTemp ((sampleAnswered n d0).energy n) r < -640 ∨ 2400 < senseTemp ((sampleAnswered n d0).energy n) r then
        invalidSample n (sampleAnswered n d0)
      else validSample n (senseTemp ((sampleAnswered n d0).energy n) r) (sampleAnswered n d0) := by
    rw [← htake]
    exact (if_neg (not_or.mpr ⟨not_not.mpr hup, not_or.mpr ⟨hreset, hoff⟩⟩)).trans (if_neg (Bool.eq_false_iff.mp hstale))
  simp only [heq, henergy, ← or_assoc, ite_or]

end

end Sys2Proof.Machine
end

section
/-!
PROOF. HOT (R174, R176). The pass over the ports that a write of HOT_CTRL makes takes a port out of HOT or leaves it; what
another port's leaving HOT changes is nothing of this one (`Dev.HotKept`).
-/
namespace Sys2Proof.Machine

/-! ### A bit cleared -/

/-- Subtracting the value of a set bit clears that bit alone. -/
theorem testBit_sub_two_pow {v i : Nat} (h : v.testBit i = true) (j : Nat) :
    (v - 2 ^ i).testBit j = (v.testBit j && decide (j ≠ i)) := by
  induction i generalizing v j with
  | zero =>
    rw [Nat.testBit_zero, decide_eq_true_eq] at h
    cases j with
    | zero => simp only [Nat.testBit_zero, ne_eq, not_true_eq_false, decide_false, Bool.and_false, decide_eq_false_iff_not]; omega
    | succ j => rw [Nat.testBit_succ, Nat.testBit_succ, show (v - 2 ^ 0) / 2 = v / 2 by omega]; simp
  | succ i ih =>
    have hle := Nat.ge_two_pow_of_testBit h
    rw [Nat.testBit_succ] at h
    cases j with
    | zero => simp only [Nat.testBit_zero, Nat.pow_succ] at hle ⊢; simp; omega
    | succ j =>
      rw [Nat.testBit_succ, Nat.testBit_succ, show (v - 2 ^ (i + 1)) / 2 = v / 2 - 2 ^ i by omega, ih h]
      simp

theorem testBit_clrB (v i j : Nat) : (clrB v i).testBit j = (v.testBit j && decide (j ≠ i)) := by
  rw [clrB]
  split_ifs with h
  · exact testBit_sub_two_pow h j
  · by_cases hj : j = i
    · subst hj; simp [h]
    · simp [hj]

/-! ### What a port shows of HOT -/

/-- A port is as it was: its thermal state, its HOT bit, its STATE, and the event of leaving HOT has not fallen. -/
def Dev.HotKept (n : Nat) (d d' : Dev) : Prop :=
  d'.heat n = d.heat n ∧ d'.hot n = d.hot n ∧ d'.get (Reg.THM.TEMP.STATE n) = d.get (Reg.THM.TEMP.STATE n) ∧
    (d.evRaw .THM 0 2 = true → d'.evRaw .THM 0 2 = true)

/-- A port has left HOT (R176). -/
def Dev.LeftHot (n : Nat) (d : Dev) : Prop :=
  d.hot n = false ∧ d.get (Reg.THM.TEMP.STATE n) = 0 ∧ d.evRaw .THM 0 2 = true

theorem Dev.LeftHot.kept {n : Nat} {d d' : Dev} (h : d.LeftHot n) (k : d.HotKept n d') : d'.LeftHot n := by
  obtain ⟨hhot, hstate, hev⟩ := h
  obtain ⟨-, khot, kstate, kev⟩ := k
  exact ⟨khot.trans hhot, kstate.trans hstate, kev hev⟩

theorem steady_hot : Reg.THM.HOT.HOT.Steady := ⟨by decide, by decide, by decide, by decide⟩

theorem steady_tempState {n : Nat} (hn : n < 64) : (Reg.THM.TEMP.STATE n).Steady := by
  simp only [Fld.Steady, Fld.key, Reg.THM.TEMP.STATE, Reg.SED.LOST.COUNT, List.mem_cons, List.not_mem_nil, or_false]
  omega

theorem hot_key_ne_tempState (n : Nat) : Reg.THM.HOT.HOT.key ≠ (Reg.THM.TEMP.STATE n).key := by
  simp only [Fld.key, Reg.THM.HOT.HOT, Reg.THM.TEMP.STATE]
  omega

theorem tempState_key_ne {n m : Nat} (h : n ≠ m) : (Reg.THM.TEMP.STATE n).key ≠ (Reg.THM.TEMP.STATE m).key := by
  simp only [Fld.key, Reg.THM.TEMP.STATE]
  omega

/-! ### Leaving HOT -/

theorem leftHot_hot {n m : Nat} (hn : n < 64) (d : Dev) : (leftHot m d).hot n = (d.hot n && decide (n ≠ m)) := by
  rw [Dev.hot, Dev.bitOf, leftHot, (Dev.onlyRises_ev ..).1 _ steady_hot, Dev.get_set_ne _ _ (hot_key_ne_tempState m),
    Dev.clrBit_eq, Dev.get_set_same, show Reg.THM.HOT.HOT.cap = 2 ^ 64 from rfl, Nat.testBit_mod_two_pow, testBit_clrB,
    decide_eq_true hn, Bool.true_and]
  rfl

theorem leftHot_heat (n : Nat) (d : Dev) {m : Nat} : (leftHot m d).heat n =
    (d.setHeat m { d.heat m with valid := 0, cool := 0, rearm := false }).heat n := by
  rw [Dev.heat, leftHot, (Dev.flagged_ev ..).thm_eq]
  rfl

/-- The port that leaves HOT shows it. -/
theorem leftHot_leaves {n : Nat} (hn : n < 64) (d : Dev) : (leftHot n d).LeftHot n := by
  refine ⟨by simp [leftHot_hot hn], ?_, Dev.evRaw_ev _ .THM 0 (by decide)⟩
  rw [leftHot, (Dev.onlyRises_ev ..).1 _ (steady_tempState hn), Dev.get_set_same, Nat.zero_mod]

/-- Another port's leaving HOT. -/
theorem hotKept_leftHot {n m : Nat} (hn : n < 64) (h : n ≠ m) (d : Dev) : d.HotKept n (leftHot m d) := by
  refine ⟨?_, by simp [leftHot_hot hn, h], ?_, fun _ => Dev.evRaw_ev _ .THM 0 (by decide)⟩
  · rw [leftHot_heat, Dev.heat_setHeat_ne _ h]
  · rw [leftHot, (Dev.onlyRises_ev ..).1 _ (steady_tempState hn), Dev.get_set_ne _ _ (tempState_key_ne h), Dev.clrBit_eq,
      Dev.get_set_ne _ _ (hot_key_ne_tempState n).symm, Dev.get_setHeat]

theorem hotKept_leaveHot {n m : Nat} (hn : n < 64) (h : n ≠ m) (d : Dev) : d.HotKept n (leaveHot m d) := by
  rw [leaveHot_eq]
  split_ifs
  · exact hotKept_leftHot hn h d
  · exact ⟨rfl, rfl, rfl, id⟩

theorem leaveHot_warm {n : Nat} {d : Dev} (h : (d.heat n).cool < 2) : leaveHot n d = d := by
  rw [leaveHot_eq, if_neg (by omega)]

/-! ### The pass over the ports -/

/-- What every port's turn keeps holds after the pass. -/
theorem autoRearm_induction {P : Dev → Prop} (h : ∀ m d, P d → P (leaveHot m d)) {d : Dev} (hd : P d) :
    P (autoRearm d) :=
  List.foldlRecOn (motive := P) _ _ hd fun d hd m _ => h m d hd

/-- A hot port that has not cooled is left. -/
theorem autoRearm_warm {n : Nat} (hn : n < 64) {d : Dev} (hhot : d.hot n = true) (hcool : (d.heat n).cool < 2) :
    (autoRearm d).hot n = true ∧ (autoRearm d).heat n = d.heat n := by
  refine autoRearm_induction (P := fun e => e.hot n = true ∧ e.heat n = d.heat n) (fun m e he => ?_) ⟨hhot, rfl⟩
  obtain ⟨hh, hq⟩ := he
  by_cases hnm : n = m
  · subst hnm
    rw [leaveHot_warm (by rwa [hq])]
    exact ⟨hh, hq⟩
  · obtain ⟨kheat, khot, -⟩ := hotKept_leaveHot hn hnm e
    exact ⟨khot.trans hh, kheat.trans hq⟩

/-- A hot port that has cooled is left, or leaves HOT. -/
theorem autoRearm_cooled {n : Nat} (hn : n < 64) {d : Dev} (hhot : d.hot n = true) (hcool : 2 ≤ (d.heat n).cool) :
    (autoRearm d).LeftHot n ∨ ((autoRearm d).hot n = true ∧ 2 ≤ ((autoRearm d).heat n).cool) := by
  refine autoRearm_induction (P := fun e => e.LeftHot n ∨ (e.hot n = true ∧ 2 ≤ (e.heat n).cool)) (fun m e he => ?_)
    (.inr ⟨hhot, hcool⟩)
  by_cases hnm : n = m
  · subst hnm
    rw [leaveHot_eq]
    split_ifs
    · exact .inl (leftHot_leaves hn e)
    · exact he
  · have hkept := hotKept_leaveHot hn hnm e
    obtain ⟨kheat, khot, -⟩ := id hkept
    exact he.imp (·.kept hkept) fun ⟨hh, hc⟩ => ⟨khot.trans hh, by rwa [kheat]⟩

/-! ### HOT_REARM -/

theorem hotRearm_cold {n : Nat} {d : Dev} (h : d.hot n = false) : hotRearm n d = d := if_neg (by simp [h])

theorem hotRearm_cooled {n : Nat} {d : Dev} (hhot : d.hot n = true) (hcool : 2 ≤ (d.heat n).cool) :
    hotRearm n d = leftHot n (d.setHeat n { d.heat n with rearm := true }) := by
  have hcond : (d.setHeat n { d.heat n with rearm := true }).hot n = true := hhot
  rw [hotRearm, if_pos hhot, leaveHot_eq, if_pos ⟨hcond, by simpa using hcool, by simp⟩]

theorem hotRearm_warm {n : Nat} {d : Dev} (hhot : d.hot n = true) (hcool : (d.heat n).cool < 2) :
    hotRearm n d = d.setHeat n { d.heat n with rearm := true } := by
  rw [hotRearm, if_pos hhot, leaveHot_warm (by simpa using hcool)]

/-- HOT_CTRL with its fields written: PORT takes `n`, AUTO_REARM stays. -/
def hotCtrlWritten (n : Nat) (d : Dev) : Dev :=
  (d.set Reg.THM.HOT_CTRL.AUTO_REARM (d.get Reg.THM.HOT_CTRL.AUTO_REARM)).set Reg.THM.HOT_CTRL.PORT n

/-- The word that HOT_REARM writes: AUTO_REARM as it is held, REARM, and the port. -/
theorem hotCtrl_word {a p n : Nat} (ha : a < 2) (hp : p < 64) (hn : n < 64) :
    andNot (a * 2 ^ 31 + p) 0x13F ||| (0x100 + n) = 2 ^ 31 * a + (0x100 + n) := by
  have hclear : ∀ a < 2, ∀ p < 64, andNot (a * 2 ^ 31 + p) 0x13F = 2 ^ 31 * a := by decide
  rw [hclear a ha p hp, Nat.two_pow_add_eq_or_of_lt (by omega)]

theorem fieldsAt_hotCtrl : Blk.fieldsAt 0 0x44 .THM = [Reg.THM.HOT_CTRL.AUTO_REARM, Reg.THM.HOT_CTRL.REARM, Reg.THM.HOT_CTRL.PORT] := by
  decide

theorem held_hotCtrl (u : Fuses) (d : Dev) :
    d.held u 0xB2044 = d.get Reg.THM.HOT_CTRL.AUTO_REARM % 2 * 2 ^ 31 + d.get Reg.THM.HOT_CTRL.PORT % 64 := by
  have hfilter : (Blk.fieldsAt 0 0x44 .THM).filter (fun f => f.acc == .rw || f.acc == .rwx) =
      [Reg.THM.HOT_CTRL.AUTO_REARM, Reg.THM.HOT_CTRL.PORT] := by decide
  have hval : ∀ f ∈ [Reg.THM.HOT_CTRL.AUTO_REARM, Reg.THM.HOT_CTRL.PORT], d.value u 0 .THM f = d.get f := by
    simp only [List.forall_mem_cons]
    exact ⟨rfl, rfl, nofun⟩
  have hheld : d.held u 0xB2044 = shownSum (d.value u 0 .THM) [Reg.THM.HOT_CTRL.AUTO_REARM, Reg.THM.HOT_CTRL.PORT] 0x44 :=
    congrArg (fun fs => shownSum (d.value u 0 .THM) fs 0x44) hfilter
  rw [hheld, shownSum, List.foldl_cons, List.foldl_cons, List.foldl_nil, hval _ (by simp), hval _ (by simp)]
  simp only [Fld.shown, Fld.cap, Reg.THM.HOT_CTRL.AUTO_REARM, Reg.THM.HOT_CTRL.PORT]
  simp
  omega

/-- The fields of HOT_CTRL take what a write offers them: AUTO_REARM bit 31, PORT bits 5:0, REARM nothing. -/
theorem foldl_fieldWrite_hotCtrl (v : Nat) (d : Dev) :
    [Reg.THM.HOT_CTRL.AUTO_REARM, Reg.THM.HOT_CTRL.REARM, Reg.THM.HOT_CTRL.PORT].foldl
        (fieldWrite 0 .THM { raw := v, whole := some v }) d =
      (d.set Reg.THM.HOT_CTRL.AUTO_REARM (bits v 31 31)).set Reg.THM.HOT_CTRL.PORT (bits v 5 0) := rfl

/-- HOT_REARM on a page that is served: HOT_CTRL is written, the standing re-arms act, then the one for the port. -/
theorem hostPatch_hotRearm (u : Fuses) {n : Nat} {d : Dev} (hn : n < 64) (ho : d.pageOff 0xB2 = false) :
    hostPatch u 0xB2044 0x13F (0x100 + n) d = hotRearm n (autoRearm (hotCtrlWritten n d)) := by
  have ha : d.get Reg.THM.HOT_CTRL.AUTO_REARM % 2 < 2 := Nat.mod_lt _ (by decide)
  have hp : d.get Reg.THM.HOT_CTRL.PORT % 64 < 64 := Nat.mod_lt _ (by decide)
  rw [hostPatch, held_hotCtrl, hotCtrl_word ha hp hn]
  generalize hv : 2 ^ 31 * (d.get Reg.THM.HOT_CTRL.AUTO_REARM % 2) + (0x100 + n) = v
  have hmod : v % 2 ^ 32 = v := Nat.mod_eq_of_lt (by omega)
  have hauto : d.set Reg.THM.HOT_CTRL.AUTO_REARM (bits v 31 31) =
      d.set Reg.THM.HOT_CTRL.AUTO_REARM (d.get Reg.THM.HOT_CTRL.AUTO_REARM) := by
    have hb : bits v 31 31 = d.get Reg.THM.HOT_CTRL.AUTO_REARM % 2 := by simp only [bits]; omega
    simp only [Dev.set, RegFile.set, hb, show Reg.THM.HOT_CTRL.AUTO_REARM.cap = 2 from rfl, Nat.mod_mod]
  have hport : bits v 5 0 = n := by simp only [bits]; omega
  have hrearm : bit v 8 = true := by rw [bit, Nat.testBit_eq_decide_div_mod_eq, decide_eq_true_eq]; omega
  rw [hostWrite, busWrite_own (b := .THM) (n := 0) (by decide) ho (by decide) (by decide) (by decide), hmod,
    blockWrite_single (by decide) (by decide) (by decide), fieldsAt_hotCtrl, fieldsWrite_ok (Dev.denied_nil (by rfl)) (by decide),
    foldl_fieldWrite_hotCtrl, hauto, hport]
  have hacts : ∀ (o : Offer) (e : Dev), blockActs u Party.host .THM 0x44 v o true d e = hotRearm n (autoRearm e) := fun o e =>
    (if_pos hrearm).trans (by rw [hport])
  exact hacts { raw := v, whole := some v } _

end Sys2Proof.Machine
end

section
/-!
PROOF. The slow-down requests and the warming pulses of THM (R169, R170, R172), and with them the statement on waveforms,
samples and thermal timers (O15).
-/
namespace Sys2Proof.Machine

/-! ### THM_SLOWDOWN_REPEAT (R172) -/

theorem thmSlowdownRepeat_stands {n t : Nat} {d : Dev} (hdue : d.due .thmSlowdown = some t)
    (hsoft : (List.range 64).find? (fun n => (d.heat n).soft) = some n) :
    thmSlowdownRepeat d = (thmSlowdown n ((d.advanceTo t).disarm .thmSlowdown)).arm .thmSlowdown d.thmInterval := by
  rw [thmSlowdownRepeat, Dev.onTimer_some hdue]
  have hfind : (List.range 64).find? (fun m => (((d.advanceTo t).disarm .thmSlowdown).heat m).soft) = some n := hsoft
  rw [hfind]
  rfl

theorem thmSlowdownRepeat_ends {t : Nat} {d : Dev} (hdue : d.due .thmSlowdown = some t)
    (hcold : (List.range 64).find? (fun n => (d.heat n).soft) = none) :
    thmSlowdownRepeat d = (d.advanceTo t).disarm .thmSlowdown := by
  have hfind : (List.range 64).find? (fun m => (((d.advanceTo t).disarm .thmSlowdown).heat m).soft) = none := hcold
  rw [thmSlowdownRepeat, Dev.onTimer_some hdue, hfind]

/-! ### WARMING_PULSE (R169, R170) -/

/-- A port may not warm at present: it is hot, or its pulse is barred by THM, by HALT, by its link or by a cycle that fires. -/
def Dev.warmBarred (d : Dev) (n : Nat) : Prop :=
  d.hot n = true ∨ d.runs (pg .THM 0) = false ∨ d.is Reg.SYS.BRINGUP.HEAD_POWER_ARMED = false ∨ d.halted = true ∨
    d.runs (pg .HPT n) = false ∨ d.get (Reg.HPT.LINK_STAT.STATE n) ≠ 6 ∨ ((d.port n).firing.map Firing.done).getD true = false

/-- The width of a warming pulse. -/
def Dev.warmWidth (d : Dev) (n : Nat) : Nat := min (d.get Reg.THM.WARM_W.WIDTH) (d.energy n).warmMax

/-- The moment of a warming pulse, with `rest` still to send. -/
def warmTaken (n t : Nat) (rest : List Nat) (d : Dev) : Dev := (d.advanceTo t).setHeat n { d.heat n with warm := rest }

/-- A warming pulse of width `w` goes out. -/
def warmSent (n w : Nat) (d : Dev) : Dev :=
  scanFired n (((if d.printing = true then d else d.setPort n { d.port n with
    portFree := max (d.port n).portFree (d.time.up + clamp 240 320 (d.get (Reg.HPT.LAT_FIRE.STEPS n)) + w + 80) }).emit
      (.mark n 2 0)).emit (.fire n 0 0 0 w))

theorem warmingPulse_rests {n : Nat} {d : Dev} (h : (d.heat n).warm = []) : warmingPulse n d = d := by
  rw [warmingPulse, h]

theorem firing_done_eq (o : Option Firing) :
    (match o with | some f => f.done | none => true) = (o.map Firing.done).getD true := by
  cases o <;> rfl

section

variable {n t : Nat} {rest : List Nat} {d : Dev} (h : (d.heat n).warm = t :: rest)

include h

theorem warmingPulse_drops
    (hd : d.warmBarred n ∨ (warmTaken n t rest d).warmRoom n (d.warmWidth n) = false) :
    warmingPulse n d = warmTaken n t rest d := by
  rw [Dev.warmBarred, ← firing_done_eq] at hd
  simp only [or_assoc] at hd
  rw [warmingPulse, h]
  exact if_pos hd

theorem warmingPulse_sends (hb : ¬d.warmBarred n) (hr : (warmTaken n t rest d).warmRoom n (d.warmWidth n) = true) :
    warmingPulse n d = warmSent n (d.warmWidth n) (warmTaken n t rest d) := by
  have hd : ¬(d.warmBarred n ∨ (warmTaken n t rest d).warmRoom n (d.warmWidth n) = false) :=
    not_or.mpr ⟨hb, by simp [hr]⟩
  rw [Dev.warmBarred, ← firing_done_eq] at hd
  simp only [or_assoc] at hd
  rw [warmingPulse, h]
  exact if_neg hd

end

/-! ### The parts of the statement -/

theorem mainWidth_mod_cap (n k main : Nat) : mainWidth main % (fireFields n k).2.2.cap = mainWidth main := by
  have hcap : (fireFields n k).2.2.cap = 8192 := by rw [fireFields]; split_ifs <;> rfl
  rw [hcap, mainWidth]
  omega

/-- A write of HOT_CTRL leaves the HOT bits. -/
theorem hotCtrlWritten_hot (n m : Nat) (d : Dev) : (hotCtrlWritten n d).hot m = d.hot m := by
  rw [Dev.hot, Dev.bitOf, hotCtrlWritten, Dev.get_set_ne _ _ (by decide), Dev.get_set_ne _ _ (by decide)]
  rfl

/-- HOT_REARM of a cooled hot port leaves HOT (R176). -/
theorem hotRearm_leaves {n : Nat} (hn : n < 64) {d : Dev} (hhot : d.hot n = true) (hcool : 2 ≤ (d.heat n).cool) :
    (hotRearm n (autoRearm (hotCtrlWritten n d))).LeftHot n := by
  obtain hleft | ⟨hh, hc⟩ := autoRearm_cooled (d := hotCtrlWritten n d) hn (by rwa [hotCtrlWritten_hot]) hcool
  · rwa [hotRearm_cold hleft.1]
  · rw [hotRearm_cooled hh hc]
    exact leftHot_leaves hn _

/-- HOT_REARM stands for a hot port that has not cooled. -/
theorem hotRearm_stands {n : Nat} (hn : n < 64) {d : Dev} (hhot : d.hot n = true) (hcool : (d.heat n).cool < 2) :
    ((hotRearm n (autoRearm (hotCtrlWritten n d))).heat n).rearm = true ∧
      (hotRearm n (autoRearm (hotCtrlWritten n d))).hot n = true := by
  obtain ⟨hh, hq⟩ := autoRearm_warm (d := hotCtrlWritten n d) hn (by rwa [hotCtrlWritten_hot]) hcool
  rw [hotRearm_warm hh (by rw [hq]; exact hcool)]
  exact ⟨by rw [Dev.heat_setHeat_same], hh⟩

/-- A host write of FIRE_W_k while the page is off. -/
theorem hostWrite_fireOff_off (u : Fuses) {n k : Nat} (v : Nat) {d : Dev} (hk : k < 4) (ho : d.pageOff (0x100 + n) = true) :
    hostWrite u ((0x100 + n) * 4096 + fireOff k) v d = hostRefused 0x21 ((0x100 + n) * 4096 + fireOff k) d := by
  obtain ⟨h1, h2, -⟩ := fireOff_bounds hk
  exact hostWrite_off (by rwa [show ((0x100 + n) * 4096 + fireOff k) / 4096 = 0x100 + n by omega]) (by omega) (by omega)

theorem completes_fireWWrite {s : State} (hs : s.live) {n k main : Nat} {t : Dev} {e : Dev → Prop}
    (h : hostWrite s.fuse ((0x100 + n) * 4096 + fireOff k) main s.dev = t) (he : e t) : Completes (.fireWWrite n k main) s e :=
  completes_of_exec (exec_fireWWrite hs ..) (by subst h; exact he)

theorem completes_hotRearm {s : State} (hs : s.live) {n : Nat} (hn : n < 64) (ho : s.dev.pageOff 0xB2 = false) {e : Dev → Prop}
    (he : e (hotRearm n (autoRearm (hotCtrlWritten n s.dev)))) : Completes (.hotRearm n) s e :=
  completes_of_exec (exec_hotRearm hs n) (by rwa [hostPatch_hotRearm _ hn ho])

/-- Settles O15. Warming pulses and what is dropped of them (notes/assumptions/25.md, 74.md), that nothing changes where no
timer runs (notes/assumptions/56.md), the silent repeat of a guarded value (notes/assumptions/11.md) and the refused pages
(notes/assumptions/12.md) are readings of the model. -/
theorem temperatures : Obligations.Temperatures := by
  refine ⟨fun s n main hs hn ho _ => ?_, fun s n k main hs hn h1 hk ho hl _ => ?_,
    fun s n r t d0 hs hn hup h0 h5 hst ht hbad hr hlo hhi => ?_, fun s n outcome r d0 hs hn hup h0 h5 hst ht hinv => ?_,
    fun s n t hs hdue hsoft => ?_, fun s n t rest hs hw hh hthm harm hhalt hhpt hup hidle hroom => ?_,
    fun s n hs hn ho hh hc => ?_, fun s n k main hs hn h1 hk ho hl hv hne => ?_,
    fun s n outcome r hs hn hup h0 h5 hst => ?_, fun s n t rest hs hw hb => ?_, fun s n hs hn ho hh hc => ?_,
    fun s t hs hdue hcold => ?_, fun s n outcome r hs h => ?_, fun s n k main d1 hs hn hk ho hl _ h1 => ?_,
    fun s n k main hs hn h1 hk ho hl hv heq => ?_, fun s n k main hs hn h1 hk ho hl hv hne => ?_, fun s n hs hw => ?_,
    fun s n t rest d1 hs hw h1 hroom => ?_, fun s hs hdue => ?_, fun s n d0 d1 hs hn ho h0 hh h1 hc => ?_,
    fun s n d0 hs hn ho h0 hh hc => ?_, fun s n d0 hs hn ho h0 hh => ?_, fun s n hs ho => ?_, fun s n i w hs ho hn hi => ?_⟩
  · obtain ⟨hmain, hget⟩ := fireWrite_shows n 0 main s.dev
    refine completes_fireWWrite hs (hostWrite_fireW s.fuse hn (by decide) ho (.inl rfl)) ⟨rfl, ?_, hmain⟩
    exact (hget _).trans ((Dev.get_set_same ..).trans (mainWidth_mod_cap n 0 main))
  · exact completes_fireWWrite hs (hostWrite_fireW s.fuse hn (by omega) ho (.inr hl)) ⟨rfl, (fireWrite_shows n k main s.dev).1⟩
  · refine completes_of_exec (exec_temperatureSample hs ..) ?_
    rw [temperatureSample_taken hup h0 h5 hst 0 r ht, hr, if_neg (by omega)]
    exact ⟨rfl, validSample_shows hn t _⟩
  · refine completes_of_exec (exec_temperatureSample hs ..) ?_
    rw [temperatureSample_taken hup h0 h5 hst outcome r ht, if_pos hinv]
    obtain ⟨hi, htemp⟩ := invalidSample_shows hn (sampleAnswered n d0)
    refine ⟨rfl, hi, htemp.trans ?_⟩
    rw [← ht]
    exact Dev.get_of_regs (takeSample_keeps n (sampleTurn n s.dev)).1 _
  · refine completes_of_exec (exec_thmSlowdownRepeat hs) ?_
    rw [thmSlowdownRepeat_stands hdue hsoft]
    exact ⟨rfl, by rw [Dev.running, Dev.due_arm_same]; rfl⟩
  · refine completes_of_exec (exec_warmingPulse hs n) (warmingPulse_sends hw ?_ hroom)
    simp [Dev.warmBarred, hh, hthm, harm, hhalt, hhpt, hup, hidle]
  · exact completes_hotRearm hs hn ho (hotRearm_leaves hn hh hc)
  · refine completes_fireWWrite hs ((hostWrite_fireW_basic s.fuse hn h1 hk ho hl hv).trans (if_neg hne)) ?_
    exact ⟨Dev.flagged_raise .., Dev.evRaw_raise _ 0 Kind.SYS.LEVEL_DENIED _ (by decide)⟩
  · refine completes_of_exec (exec_temperatureSample hs ..) ?_
    rw [temperatureSample_stale hup h0 h5 hst]
    exact ⟨rfl, staleSample_shows hn _⟩
  · exact completes_of_exec (exec_warmingPulse hs n) (warmingPulse_drops hw (.inl hb))
  · exact completes_hotRearm hs hn ho (hotRearm_stands hn hh hc)
  · exact completes_of_exec (exec_thmSlowdownRepeat hs) (thmSlowdownRepeat_ends hdue hcold)
  · exact completes_of_exec (exec_temperatureSample hs ..) (temperatureSample_rests h outcome r)
  · subst h1
    exact completes_fireWWrite hs (hostWrite_fireW s.fuse hn hk ho hl) (fireWrite_eq n k main s.dev)
  · exact completes_fireWWrite hs ((hostWrite_fireW_basic s.fuse hn h1 hk ho hl hv).trans (if_pos heq)) rfl
  · have hoff : (0x100 + n) * 4096 + fireOff k = (0x100 + n) * 4096 + 0x604 + 8 * (k - 1) := by
      rw [fireOff, if_neg (by omega), Nat.add_assoc]
    refine completes_fireWWrite hs ((hostWrite_fireW_basic s.fuse hn h1 hk ho hl hv).trans (if_neg hne)) ?_
    rw [hoff]
  · exact completes_of_exec (exec_warmingPulse hs n) (warmingPulse_rests hw)
  · subst h1
    exact completes_of_exec (exec_warmingPulse hs n) (warmingPulse_drops hw (.inr hroom))
  · exact completes_of_exec (exec_thmSlowdownRepeat hs) (Dev.onTimer_none hdue _)
  · subst h0 h1
    exact completes_hotRearm hs hn ho (hotRearm_cooled hh hc)
  · subst h0
    exact completes_hotRearm hs hn ho (hotRearm_warm hh hc)
  · subst h0
    exact completes_hotRearm hs hn ho (hotRearm_cold hh)
  · intro k hk
    obtain rfl := List.mem_singleton.mp hk
    exact completes_of_exec (exec_hotRearm hs n) (hostWrite_off ho (by decide) (by decide))
  · intro k hk
    obtain rfl := List.mem_singleton.mp hk
    exact completes_fireWWrite hs (hostWrite_fireOff_off s.fuse w hi ho) rfl

end Sys2Proof.Machine
end

section
/-!
PROOF. The link of a head port (R204, R206): what its store keeps, what a link that goes DOWN leaves of the registers of the
head ports (`Dev.HeadKept`), and what a stopped clock shows.
-/
namespace Sys2Proof.Machine

/-! ### The store of a link -/

theorem tdel_tins_same {α : Type} (k : Nat) (v : α) (t : List (Nat × α)) : tdel k (tins k v t) = tdel k t := by
  induction t with
  | nil => simp [tins, tdel]
  | cons e t ih =>
    rw [tins]
    split_ifs
    · simp only [tdel, List.filter_cons] at ih ⊢
      rw [ih]
    · simp [tdel]

theorem tdel_tset_same {α : Type} [DecidableEq α] (d v : α) (k : Nat) (t : List (Nat × α)) :
    tdel k (tset d k v t) = tdel k t := by
  have hdel : tdel k (tdel k t) = tdel k t := by simp [tdel]
  rw [tset]
  split_ifs
  · exact hdel
  · rw [tdel_tins_same, hdel]

/-- Of two values set at one key the second stands. -/
theorem tset_tset_same {α : Type} [DecidableEq α] (d v w : α) (k : Nat) (t : List (Nat × α)) :
    tset d k w (tset d k v t) = tset d k w t := by
  rw [tset, tdel_tset_same, ← tset]

@[simp] theorem Dev.head_setHead_same (d : Dev) (n : Nat) (h : Head) : (d.setHead n h).head n = h := tget_tset_same ..

@[simp] theorem Dev.setHead_setHead_same (d : Dev) (n : Nat) (g h : Head) : (d.setHead n g).setHead n h = d.setHead n h :=
  congrArg (fun t => ({ d with heads := t } : Dev)) (tset_tset_same ..)

@[simp] theorem Dev.head_set (d : Dev) (f : Fld) (v n : Nat) : (d.set f v).head n = d.head n := rfl

@[simp] theorem Dev.head_setLink (d : Dev) (m s n : Nat) : (d.setLink m s).head n = d.head n := rfl

@[simp] theorem Dev.head_arm (d : Dev) (k : TimerKey) (t n : Nat) : (d.arm k t).head n = d.head n := rfl

@[simp] theorem Dev.head_disarm (d : Dev) (k : TimerKey) (n : Nat) : (d.disarm k).head n = d.head n := rfl

@[simp] theorem Dev.head_advanceTo (d : Dev) (t n : Nat) : (d.advanceTo t).head n = d.head n := rfl

@[simp] theorem Dev.head_emit (d : Dev) (x : Output) (n : Nat) : (d.emit x).head n = d.head n := rfl

@[simp] theorem Dev.head_mark (d : Dev) (m k n : Nat) : (d.mark m k).head n = d.head n := rfl

@[simp] theorem Dev.get_setHead (d : Dev) (n : Nat) (h : Head) (f : Fld) : (d.setHead n h).get f = d.get f := rfl

@[simp] theorem Dev.due_setHead (d : Dev) (n : Nat) (h : Head) (k : TimerKey) : (d.setHead n h).due k = d.due k := rfl

@[simp] theorem Dev.get_ship (d : Dev) (n : Nat) (f : Bytes) (place : Nat) (g : Fld) : (d.ship n f place).get g = d.get g := rfl

/-- A frame that goes out is noted as sent, and nothing else of the link changes. -/
theorem Dev.head_ship (d : Dev) (n : Nat) (f : Bytes) (place : Nat) :
    (d.ship n f place).head n =
      { d.head n with sent := (d.head n).sent ++ [(byteAt f 1 / 16, byteAt f 1 % 16, place)] } := tget_tset_same ..

theorem Dev.Flagged.heads_eq {d d' : Dev} (h : d.Flagged d') : d'.heads = d.heads := by
  obtain ⟨⟨r, f, s, e, l, o, rfl⟩, -⟩ := h; rfl

@[simp] theorem Dev.head_raise (d : Dev) (n m : Nat) (k : FKind) (a : FArg) : (d.raise m k a).head n = d.head n := by
  rw [head, head, (d.flagged_raise m k a).heads_eq]

/-! ### LINK_STAT -/

/-- FAIL_CODE is another field than those that decide on a repetition (Table 8.11). -/
theorem tries_key_ne_failCode (n : Nat) :
    (Reg.HPT.LINK_STAT.TRIES n).key ≠ (Reg.HPT.LINK_STAT.FAIL_CODE n).key ∧
      (Reg.HPT.LINK_CFG.RETRY n).key ≠ (Reg.HPT.LINK_STAT.FAIL_CODE n).key := by
  simp only [Fld.key, Reg.HPT.LINK_STAT.FAIL_CODE, Reg.HPT.LINK_STAT.TRIES, Reg.HPT.LINK_CFG.RETRY]
  omega

theorem Dev.get_setLink (d : Dev) (n : Nat) {v : Nat} (h : v < 16) : (d.setLink n v).get (Reg.HPT.LINK_STAT.STATE n) = v :=
  (Dev.get_set_same ..).trans (Nat.mod_eq_of_lt h)

theorem steady_linkState {n : Nat} (hn : n < 64) : (Reg.HPT.LINK_STAT.STATE n).Steady := by
  simp only [Fld.Steady, Fld.key, Reg.HPT.LINK_STAT.STATE, Reg.SED.LOST.COUNT, List.mem_cons, List.not_mem_nil, or_false]
  omega

/-! ### A link goes DOWN (R204, R206) -/

/-- A field of a head port that its link does not show itself in: steady, and neither of LINK_STAT nor of HREG_STAT. -/
def Fld.HeadKept (f : Fld) : Prop := f.Steady ∧ 0x100 ≤ f.page ∧ f.off ∉ [0x048, 0x408]

/-- The fields of the head ports that no link shows itself in read as before. -/
structure Dev.HeadKept (d d' : Dev) : Prop where
  get_eq : ∀ f : Fld, f.HeadKept → d'.get f = d.get f

namespace Dev.HeadKept

variable {a b c d d' : Dev}

theorem refl (d : Dev) : d.HeadKept d := ⟨fun _ _ => rfl⟩

theorem trans (h : a.HeadKept b) (k : b.HeadKept c) : a.HeadKept c := ⟨fun f hf => (k.get_eq f hf).trans (h.get_eq f hf)⟩

theorem regs (h : a.HeadKept d) (hr : d'.regs = d.regs) : a.HeadKept d' :=
  h.trans ⟨fun f _ => Dev.get_of_regs hr f⟩

theorem onlyRises (h : a.HeadKept d) (hr : d.OnlyRises d') : a.HeadKept d' := h.trans ⟨fun f hf => hr.1 f hf.1⟩

/-- A field of a page below those of the head ports takes a value. -/
theorem set_below (h : a.HeadKept d) {g : Fld} {v : Nat} (hp : g.page < 0x100) (ho : g.off < 4096) (hl : g.lo < 64) :
    a.HeadKept (d.set g v) := by
  refine h.trans ⟨fun f hf => d.get_set_ne v ?_⟩
  obtain ⟨⟨-, hfo, hfl, -⟩, hfp, -⟩ := hf
  simp only [Fld.key]
  omega

/-- A field of LINK_STAT or of HREG_STAT takes a value, of any port. -/
theorem set_shown (h : a.HeadKept d) {g : Fld} {v : Nat} (ho : g.off = 0x048 ∨ g.off = 0x408) (hl : g.lo < 64) :
    a.HeadKept (d.set g v) := by
  refine h.trans ⟨fun f hf => ?_⟩
  obtain ⟨⟨-, hfo, hfl, -⟩, -, hoff⟩ := hf
  simp only [List.mem_cons, List.not_mem_nil, or_false, not_or] at hoff
  exact d.get_set_ne v (key_ne_of_off (by omega) (by omega) hfo hl hfl)

theorem ev {b : Blk} {m bit : Nat} (h : a.HeadKept d) : a.HeadKept (d.ev b m bit) := h.onlyRises (d.onlyRises_ev ..)

theorem raise {m : Nat} {k : FKind} {x : FArg} (h : a.HeadKept d) : a.HeadKept (d.raise m k x) :=
  h.onlyRises (d.onlyRises_raise ..)

/-- A bring-up flag of SYS takes a value. -/
theorem bringup (h : a.HeadKept d) {g : Fld} {v : Bool} (hp : g.page < 0x100) (ho : g.off < 4096) (hl : g.lo < 64) :
    a.HeadKept (d.bringup g v) := by
  by_cases hv : d.is g = v
  · rwa [Dev.bringup_same hv]
  · exact (h.set_below hp ho hl).onlyRises (Dev.bringup_changes hv)

theorem setHealth {m : Nat} {q : SndPort} (h : a.HeadKept d) : a.HeadKept (d.setHealth m q) := h.regs rfl

theorem setPort {m : Nat} {q : PortFire} (h : a.HeadKept d) : a.HeadKept (d.setPort m q) := h.regs rfl

theorem setHeat {m : Nat} {q : ThmPort} (h : a.HeadKept d) : a.HeadKept (d.setHeat m q) := h.regs rfl

theorem setChan {m : Nat} {x : Chan} (h : a.HeadKept d) : a.HeadKept (d.setChan m x) := h.regs rfl

theorem sense {m target noz dwell delay : Nat} (h : a.HeadKept d) : a.HeadKept (d.sense m target noz dwell delay) := h.regs rfl

theorem arm {k : TimerKey} {t : Nat} (h : a.HeadKept d) : a.HeadKept (d.arm k t) := h.regs rfl

theorem disarm {k : TimerKey} (h : a.HeadKept d) : a.HeadKept (d.disarm k) := h.regs rfl

theorem healthSync (h : a.HeadKept d) : a.HeadKept (healthSync d) := h.bringup (by decide) (by decide) (by decide)

theorem linksSync (h : a.HeadKept d) : a.HeadKept (linksSync d) := h.bringup (by decide) (by decide) (by decide)

theorem scanRelease {n : Nat} (h : a.HeadKept d) : a.HeadKept (scanRelease n d) := by
  rw [Machine.scanRelease]
  dsimp only
  split_ifs
  · exact h.setHealth.sense
  · exact h.setHealth
  · exact h

theorem setSnd {q : Snd} (h : a.HeadKept d) : a.HeadKept { d with snd := q } := h.regs rfl

theorem scanOver (h : a.HeadKept d) : a.HeadKept (scanOver d) := by
  have hstate {e : Dev} {v : Nat} (he : a.HeadKept e) : a.HeadKept ((e.set Reg.SND.SCAN_STAT.STATE v).ev .SND 0 0) :=
    (he.set_below (by decide) (by decide) (by decide)).ev
  rw [Machine.scanOver]
  split
  · exact h
  · split
    · exact hstate h.setSnd
    · dsimp only
      split
      · exact (hstate h).setSnd.healthSync.raise
      · exact (hstate h).setSnd.healthSync

theorem scanPartEnd {c skip : Nat} (h : a.HeadKept d) : a.HeadKept (scanPartEnd c skip d) := by
  rw [Machine.scanPartEnd]
  refine .scanOver (.setChan (.set_below ?_ (by decide) (by decide) (by decide)))
  exact List.foldlRecOn (motive := fun e => a.HeadKept e) _ _ h fun e he k _ => he.setHealth.scanRelease

theorem scanNext {c : Nat} (h : a.HeadKept d) : a.HeadKept (scanNext c d) := by
  rw [Machine.scanNext]
  dsimp only
  split
  · exact h
  · split
    · exact h.scanPartEnd
    · split
      · exact h
      · split
        · split
          · exact h
          · exact h.setChan.setHealth.sense.arm
        · exact h.scanPartEnd

/-- The head of a port leaves SNS. -/
theorem scanLost {n : Nat} (h : a.HeadKept d) : a.HeadKept (scanLost n d) := by
  have hconn : a.HeadKept (if (d.health n).conn then d.setHealth n { d.health n with conn := false } else d) := by
    split
    · exact h.setHealth
    · exact h
  rw [Machine.scanLost]
  dsimp only
  split
  · split
    · exact (hconn.set_below (by decide) (by decide) (by decide)).disarm.setChan.scanNext
    · exact hconn
  · exact hconn

theorem abandonWindow {n : Nat} (h : a.HeadKept d) : a.HeadKept (abandonWindow n d) := h.regs (foldl_abandon_keeps ..).1

theorem showState {n : Nat} (hn : n < 64) (h : a.HeadKept d) : a.HeadKept (showState n d) := by
  refine h.set_below ?_ ?_ ?_ <;> simp only [Reg.THM.TEMP.STATE] <;> omega

end Dev.HeadKept

/-- A link that is not UP cannot go DOWN. -/
theorem linkDown_rests {n : Nat} {d : Dev} (h : d.headUp n = false) (fault again : Bool) : linkDown n fault again d = d :=
  if_pos h

/-- The store of a link that was UP is emptied, and its timers stop. -/
def linkEmptied (n : Nat) (again : Bool) (d : Dev) : Dev :=
  let h := d.head n
  let d := (d.setLink n 0).ev .HPT n 0
  let d := d.setHead n { h with
    lats := [], sent := [], resent := [], missed := 0, snsSent := false, snsBad := 0, ctrl := none, queue := [], goDown := false,
    want := h.want || (again && d.printing && d.is (Reg.HPT.LINK_CFG.AUTO_TRAIN n)) }
  ((d.disarm (.latReport n)).disarm (.ctrl n)).disarm (.temp n)

/-- A head command under way ends with result 3 (R207). -/
def hregCut (n : Nat) (d : Dev) : Dev :=
  if d.is (Reg.HPT.HREG_STAT.BUSY n) then
    ((d.put (Reg.HPT.HREG_STAT.BUSY n) false).set (Reg.HPT.HREG_STAT.RESULT n) 3).ev .HPT n 10
  else d

/-- The port without its head: no window and no scan step, its cycle over, no valid sample. -/
def headLost (n : Nat) (d : Dev) : Dev :=
  let d := scanLost n (abandonWindow n d)
  let q := d.port n
  let d := d.setPort n { q with firing := q.firing.map Firing.over }
  showState n (d.setHeat n { d.heat n with valid := 0, warm := [] })

theorem linkDown_up {n : Nat} {d : Dev} (h : d.headUp n = true) (fault again : Bool) :
    linkDown n fault again d = healthSync (linksSync
      (if fault then (headLost n (hregCut n (linkEmptied n again d))).raise n Kind.HPT.LINK_DOWN { port := n }
        else headLost n (hregCut n (linkEmptied n again d)))) :=
  if_neg (by simp [h])

theorem headKept_linkEmptied (n : Nat) (again : Bool) (d : Dev) : d.HeadKept (linkEmptied n again d) := by
  have hlink : d.HeadKept ((d.setLink n 0).ev .HPT n 0) := (Dev.HeadKept.set_shown (.refl d) (.inl rfl) (by decide : 28 < 64)).ev
  exact hlink.regs rfl

theorem headKept_hregCut (n : Nat) (d : Dev) : d.HeadKept (hregCut n d) := by
  rw [hregCut]
  split
  · refine .ev (.set_shown (.set_shown (.refl d) (.inr rfl) ?_) (.inr rfl) ?_)
    · exact (by decide : 31 < 64)
    · exact (by decide : 0 < 64)
  · exact .refl d

theorem headKept_headLost {n : Nat} (hn : n < 64) (d : Dev) : d.HeadKept (headLost n d) := by
  have hscan : d.HeadKept (scanLost n (abandonWindow n d)) := (Dev.HeadKept.refl d).abandonWindow.scanLost
  rw [headLost]
  exact hscan.setPort.setHeat.showState hn

/-- A link that goes DOWN shows itself in LINK_STAT and HREG_STAT of its port alone. -/
theorem headKept_linkDown {n : Nat} (hn : n < 64) (fault again : Bool) (d : Dev) : d.HeadKept (linkDown n fault again d) := by
  cases hup : d.headUp n with
  | false => rw [linkDown_rests hup]; exact .refl d
  | true =>
    have hlost : d.HeadKept (headLost n (hregCut n (linkEmptied n again d))) :=
      ((headKept_linkEmptied n again d).trans (headKept_hregCut n _)).trans (headKept_headLost hn _)
    rw [linkDown_up hup]
    split
    · exact hlost.raise.linksSync.healthSync
    · exact hlost.linksSync.healthSync

/-- The clock of a port that is stopped: its link is DOWN, outside training (R206). -/
theorem clockStop_shows (n : Nat) (again : Bool) (d : Dev) :
    ((clockStop n again d).head n).clock = false ∧ ((clockStop n again d).head n).step = 0 ∧
      (clockStop n again d).get (Reg.HPT.LINK_STAT.STATE n) = 0 := by
  rw [clockStop]
  generalize linkDown n false again d = e
  dsimp only
  split
  · next h => exact ⟨by simp, by simp, h⟩
  · exact ⟨by simp, by simp, Dev.get_setLink _ n (by decide)⟩

end Sys2Proof.Machine
end

section
/-!
PROOF. The training of a head link (O16; R197 to R200, R207). A command of a step acts where the training is in that step and the
step's timer runs, and leaves the device otherwise; one lemma per step says what it does there.
-/
namespace Sys2Proof.Machine

/-! ### LINK_CMD (R207) -/

/-- A host write of LINK_CMD on a page that is served. -/
theorem hostWrite_linkCmd (u : Fuses) {n v : Nat} {d : Dev} (hn : n < 64) (ho : d.pageOff (0x100 + n) = false) :
    hostWrite u ((0x100 + n) * 4096 + 0x44) v d = linkCmd n (v % 2 ^ 32) d := by
  have hpage : ((0x100 + n) * 4096 + 0x44) / 4096 = 0x100 + n := by omega
  exact hostWrite_actsOnly (b := .HPT) (n := n) (off := 0x44) (fs := [Reg.HPT.LINK_CMD.DOWN n, Reg.HPT.LINK_CMD.TRAIN n])
    (by rw [hpage]; exact ofPage_pg (b := .HPT) hn) (by rwa [hpage]) (by omega) (by decide) (by decide) (by decide) rfl
    (by simp [Fld.ActsOnly, Reg.HPT.LINK_CMD.DOWN, Reg.HPT.LINK_CMD.TRAIN])

/-- A host write of LINK_CMD while the page is off. -/
theorem hostWrite_linkCmd_off (u : Fuses) {n v : Nat} {d : Dev} (ho : d.pageOff (0x100 + n) = true) :
    hostWrite u ((0x100 + n) * 4096 + 0x44) v d = hostRefused 0x21 ((0x100 + n) * 4096 + 0x44) d :=
  hostWrite_off (by rwa [show ((0x100 + n) * 4096 + 0x44) / 4096 = 0x100 + n by omega]) (by omega) (by omega)

theorem linkCmd_train (n : Nat) (d : Dev) : linkCmd n 1 d = linkTrain n d := rfl

theorem linkCmd_down (n : Nat) (d : Dev) : linkCmd n 2 d = linkCmdDown n d := rfl

/-- LINK_CMD.DOWN at the drain boundary stops the clock. -/
theorem linkCmdDown_boundary {n : Nat} {d : Dev} (h : d.portAtBoundary n = true) :
    linkCmdDown n d = clockStop n true (d.setHead n { d.head n with goDown := false }) := by
  have hdown : ((d.setHead n { d.head n with goDown := true }).head n).goDown = true ∧
      (d.setHead n { d.head n with goDown := true }).portAtBoundary n = true := ⟨by simp, h⟩
  rw [linkCmdDown, checkDown, if_pos hdown, Dev.head_setHead_same, Dev.setHead_setHead_same]

/-- Before it the link waits. -/
theorem linkCmdDown_waits {n : Nat} {d : Dev} (h : d.portAtBoundary n = false) :
    linkCmdDown n d = d.setHead n { d.head n with goDown := true } :=
  if_neg fun hdown => Bool.false_ne_true (h.symm.trans hdown.2)

theorem completes_linkCmd {s : State} {c : Instr} {n v : Nat} (hn : n < 64) (ho : s.dev.pageOff (0x100 + n) = false)
    (hc : exec c s = .next { s with dev := hostWrite s.fuse ((0x100 + n) * 4096 + 0x44) v s.dev }) {t : Dev}
    (ht : linkCmd n (v % 2 ^ 32) s.dev = t) {e : Dev → Prop} (he : e t) : Completes c s e :=
  completes_of_exec (by rwa [hostWrite_linkCmd s.fuse hn ho, ht] at hc) he

/-! ### The start (R197) -/

theorem settle_headKept {n : Nat} (hn : n < 64) : (Reg.HPT.LINK_CFG.SETTLE n).HeadKept := by
  simp only [Fld.HeadKept, Fld.Steady, Fld.key, Reg.HPT.LINK_CFG.SETTLE, Reg.SED.LOST.COUNT, List.mem_cons, List.not_mem_nil,
    or_false]
  omega

theorem trainingStart_rests {n : Nat} {d : Dev} (h : (d.head n).step ≠ 0 ∨ (d.head n).want = false ∨ d.mayTrain n = false) :
    trainingStart n d = d := by
  refine if_neg fun ⟨hstep, hwant, hmay⟩ => ?_
  simp [hstep, hwant, hmay] at h

/-- Training starts: the link is taken down, the first try counts, and the settle wait of T1 runs. -/
theorem trainingStart_starts {n : Nat} (hn : n < 64) {d : Dev} (hstep : (d.head n).step = 0) (hwant : (d.head n).want = true)
    (hmay : d.mayTrain n = true) {e : Dev} (he : linkDown n false false d = e) :
    trainingStart n d =
      ((((((e.set (Reg.HPT.LINK_STAT.TRIES n) 1).set (Reg.HPT.LINK_STAT.FAIL_CODE n) 0).set
        (Reg.HPT.LINK_STAT.LANE_FAIL n) 0).setHead n { e.head n with want := false, step := 1, clock := false }).setLink n 1).arm
          (.trainSettle n) (d.get (Reg.HPT.LINK_CFG.SETTLE n) * 10 * us)) := by
  have hset : (((e.set (Reg.HPT.LINK_STAT.TRIES n) 1).set (Reg.HPT.LINK_STAT.FAIL_CODE n) 0).set
      (Reg.HPT.LINK_STAT.LANE_FAIL n) 0).get (Reg.HPT.LINK_CFG.SETTLE n) = d.get (Reg.HPT.LINK_CFG.SETTLE n) := by
    have hdown := headKept_linkDown hn false false d
    rw [he] at hdown
    have hshown := ((hdown.set_shown (g := Reg.HPT.LINK_STAT.TRIES n) (v := 1) (.inl rfl) (by decide : 0 < 64)).set_shown
      (g := Reg.HPT.LINK_STAT.FAIL_CODE n) (v := 0) (.inl rfl) (by decide : 16 < 64)).set_shown
      (g := Reg.HPT.LINK_STAT.LANE_FAIL n) (v := 0) (.inl rfl) (by decide : 8 < 64)
    exact hshown.get_eq _ (settle_headKept hn)
  rw [trainingStart, if_pos ⟨hstep, hwant, hmay⟩, he]
  simp only [Dev.head_set, Dev.get_setHead, hset]

/-! ### T1 and its repetition (R195, R200) -/

theorem linkReset_passes {n : Nat} {d : Dev} (hstep : (d.head n).step = 1) (hclock : (d.head n).clock = true) :
    linkReset n d =
      (((d.setHead n { d.head n with step := 2, sweep := 0, bck := 0 }).setLink n 2).arm (.trainStep n) (60 * us)).arm
        (.trainSettle n) us :=
  if_pos ⟨hstep, hclock⟩

theorem linkReset_other {n : Nat} {d : Dev} (h : (d.head n).step ≠ 1 ∨ (d.head n).clock = false) :
    linkReset n d = if d.headUp n then linkDown n true true d else d :=
  if_neg fun ⟨hstep, hclock⟩ => by simp [hstep, hclock] at h

theorem trainRetry_repeats {n t : Nat} {d : Dev} (hstep : (d.head n).step = 8) (hdue : d.due (.trainSettle n) = some t) :
    trainRetry n d = trainT1 n (((d.advanceTo t).disarm (.trainSettle n)).bump (Reg.HPT.LINK_STAT.TRIES n) 1) := by
  rw [trainRetry, if_pos hstep, Dev.onTimer_some hdue]

theorem trainRetry_rests {n : Nat} {d : Dev} (h : (d.head n).step ≠ 8 ∨ d.due (.trainSettle n) = none) :
    trainRetry n d = d := by
  rw [trainRetry]
  split_ifs with hstep
  · exact Dev.onTimer_none (h.resolve_left (not_not.mpr hstep)) _
  · rfl

/-! ### The sweep of T2 (R198) -/

/-- The eye that T2 has found when its last step has been sampled. -/
def Head.bckEye (h : Head) (ok : Bool) : Nat × Nat := longestRun (putB h.bck 31 ok) 32 false

/-- The device once the last step of T2 has been noted and the eye shows. -/
def bckSwept (n : Nat) (ok : Bool) (d : Dev) : Dev :=
  let r := (d.head n).bckEye ok
  ((d.setHead n { d.head n with bck := putB (d.head n).bck 31 ok, sweep := 32 }).set (Reg.HPT.BCK_EYE.WIDTH_PS n)
    (r.1 * 125)).set (Reg.HPT.BCK_EYE.CENTRE n) (runCentre r 32)

theorem bckSweepStep_rests {n : Nat} {d : Dev} (h : (d.head n).step ≠ 2 ∨ d.due (.trainSettle n) = none) (ok : Bool) :
    bckSweepStep n ok d = d := by
  by_cases hstep : (d.head n).step ≠ 2
  · exact if_pos hstep
  · exact (if_neg hstep).trans (Dev.onTimer_none (h.resolve_left hstep) _)

section

variable {n t : Nat} {ok : Bool} {d : Dev} (hstep : (d.head n).step = 2) (hdue : d.due (.trainSettle n) = some t)

include hstep hdue

theorem bckSweepStep_moves (hmore : (d.head n).sweep + 1 < 32) :
    bckSweepStep n ok d = (((d.advanceTo t).disarm (.trainSettle n)).setHead n
      { d.head n with bck := putB (d.head n).bck (d.head n).sweep ok, sweep := (d.head n).sweep + 1 }).arm
        (.trainSettle n) us := by
  rw [bckSweepStep]
  dsimp only
  rw [if_neg (not_not.mpr hstep), Dev.onTimer_some hdue, if_pos hmore]

/-- The last step of T2 closes the eye: T3 follows, or T2 has failed. -/
theorem bckSweepStep_last (hlast : (d.head n).sweep = 31) {e : Dev}
    (he : bckSwept n ok ((d.advanceTo t).disarm (.trainSettle n)) = e) :
    bckSweepStep n ok d =
      if 1000 ≤ ((d.head n).bckEye ok).1 * 125 then
        ((((e.setHead n { d.head n with bck := putB (d.head n).bck 31 ok, step := 3, sweep := 0, words := [] }).setLink n 3).arm
          (.trainStep n) (330 * us)).arm (.trainSettle n) 256).emit (.lanes n [] ((List.range 4).map prbsLane))
      else trainFail n 2 e := by
  subst he
  rw [bckSweepStep]
  dsimp only
  rw [if_neg (not_not.mpr hstep), Dev.onTimer_some hdue, if_neg (by omega), hlast]
  rfl

end

/-! ### The sweep of T3 (R198) -/

theorem laneSweepStep_rests {n : Nat} {d : Dev}
    (h : (d.head n).step ≠ 3 ∨ 33 ≤ (d.head n).sweep ∨ d.due (.trainSettle n) = none) : laneSweepStep n d = d := by
  by_cases hout : (d.head n).step ≠ 3 ∨ 33 ≤ (d.head n).sweep
  · exact if_pos hout
  · exact (if_neg hout).trans (Dev.onTimer_none ((or_assoc.mpr h).resolve_left hout) _)

/-- A step of T3 moves the delays and marks the window; the last leaves no timer. -/
theorem laneSweepStep_moves {n t : Nat} {d : Dev} (hstep : (d.head n).step = 3) (hdue : d.due (.trainSettle n) = some t)
    (hsweep : (d.head n).sweep < 33) {e : Dev}
    (he : (((d.advanceTo t).disarm (.trainSettle n)).setHead n
      { d.head n with sweep := (d.head n).sweep + 1, words := [] }).mark n 0 = e) :
    laneSweepStep n d = if (d.head n).sweep + 1 < 33 then e.arm (.trainSettle n) (8192 * 4 + 256) else e := by
  have hin : ¬((d.head n).step ≠ 3 ∨ 33 ≤ (d.head n).sweep) := not_or.mpr ⟨not_not.mpr hstep, by omega⟩
  rw [laneSweepStep]
  dsimp only
  rw [if_neg hin, Dev.onTimer_some hdue, he]

/-- The store of a link with a lane's result of window `k`. -/
def Head.laneNoted (h : Head) (k lane mism : Nat) : Head :=
  { h with
    lanes := setNth (putB (nth 0 h.lanes lane) k (mism == 0)) h.lanes lane
    words := h.words ++ [lane] }

theorem prbsResult_rests {n lane : Nat} {d : Dev} (h : (d.head n).step ≠ 3 ∨ (d.head n).sweep < 2 ∨ 4 ≤ lane ∨
    (d.head n).words.contains lane = true) (mism : Nat) : prbsResult n lane mism d = d := if_pos h

section

variable {n lane : Nat} {d : Dev} (hstep : (d.head n).step = 3) (hlane : lane < 4)
  (hnew : (d.head n).words.contains lane = false) (mism : Nat)

include hstep hlane hnew

theorem prbsResult_notes (hsweep : 2 ≤ (d.head n).sweep) {e : Dev}
    (he : d.setHead n ((d.head n).laneNoted ((d.head n).sweep - 2) lane mism) = e) :
    prbsResult n lane mism d = if (d.head n).sweep = 33 ∧ (d.head n).words.length = 3 then lanesDone n e else e := by
  have hin : ¬((d.head n).step ≠ 3 ∨ (d.head n).sweep < 2 ∨ 4 ≤ lane ∨ (d.head n).words.contains lane = true) := by
    rintro (hout | hout | hout | hout)
    · exact hout hstep
    · omega
    · omega
    · exact Bool.false_ne_true (hnew.symm.trans hout)
  have hlen : ((d.head n).words ++ [lane]).length = 4 ↔ (d.head n).words.length = 3 := by simp
  subst he
  refine (if_neg hin).trans ?_
  simp only [hlen]
  rfl

/-- A result before the last window is noted, and that is all. -/
theorem prbsResult_only_notes (hsweep : 2 ≤ (d.head n).sweep) (hlast : (d.head n).sweep ≠ 33) :
    prbsResult n lane mism d = d.setHead n ((d.head n).laneNoted ((d.head n).sweep - 2) lane mism) :=
  (prbsResult_notes hstep hlane hnew mism hsweep rfl).trans (if_neg fun h => hlast h.1)

/-- In the last window the fourth result completes the eyes. -/
theorem prbsResult_last (hlast : (d.head n).sweep = 33) :
    prbsResult n lane mism d =
      (if (d.head n).words.length = 3 then lanesDone n else id) (d.setHead n ((d.head n).laneNoted 31 lane mism)) := by
  rw [prbsResult_notes hstep hlane hnew mism (by omega) rfl, hlast]
  by_cases hall : (d.head n).words.length = 3
  · rw [if_pos ⟨rfl, hall⟩, if_pos hall]
  · rw [if_neg fun h => hall h.2, if_neg hall, id]

end

/-! ### T4 and T5 (R199, R201) -/

theorem alignEnd_ends {n t : Nat} {d : Dev} (hstep : (d.head n).step = 4) (hdue : d.due (.trainSettle n) = some t) :
    alignEnd n d =
      (((d.advanceTo t).disarm (.trainSettle n)).setHead n { d.head n with sweep := 1 }).emit (.lanes n [] lanesZero) := by
  rw [alignEnd, if_pos hstep, Dev.onTimer_some hdue]
  rfl

theorem alignEnd_rests {n : Nat} {d : Dev} (h : (d.head n).step ≠ 4 ∨ d.due (.trainSettle n) = none) : alignEnd n d = d := by
  rw [alignEnd]
  split_ifs with hstep
  · exact Dev.onTimer_none (h.resolve_left (not_not.mpr hstep)) _
  · rfl

theorem aligned_rests {n : Nat} {ok : Bool} {d : Dev} (h : (d.head n).step ≠ 4 ∨ ok = false) : aligned n ok d = d := if_pos h

theorem aligned_passes {n : Nat} {d : Dev} (hstep : (d.head n).step = 4) :
    aligned n true d =
      trainT567 n (((((((d.disarm (.trainStep n)).disarm (.trainSettle n)).emit (.lanes n [] lanesZero)).mark n 0).setHead n
        { d.head n with words := [] }).setLink n 5)) :=
  if_neg (by simp [hstep])

/-- With nothing in flight the CTRL frame that waits goes out. -/
theorem sendCtrl_sends {n : Nat} {d : Dev} {c : Ctrl} {rest : List Ctrl} (hidle : (d.head n).ctrl = none)
    (hq : (d.head n).queue = c :: rest) :
    sendCtrl n d =
      ((d.setHead n { d.head n with ctrl := some c, queue := rest }).ship n (ctrlFrame c) 0).arm (.ctrl n) (20 * us) := by
  rw [sendCtrl]
  simp only [hidle, hq]

/-- A CTRL read of the training waits before all others. -/
theorem head_queueCtrl_training (n addr : Nat) (d : Dev) :
    (queueCtrl n addr none true d).head n = { d.head n with
      tag := ((d.head n).tag + 1) % 256
      queue := { tag := (d.head n).tag, addr, data := none, training := true, again := false } :: (d.head n).queue } :=
  Dev.head_setHead_same ..

/-- T5 asks the head for its next word: the step is 5, and a CTRL read is in flight. -/
theorem trainT567_asks {n : Nat} {d : Dev} (h : (d.head n).words.length < 12) :
    ((trainT567 n d).head n).step = 5 ∧ ((trainT567 n d).head n).ctrl.isSome = true ∧
      (trainT567 n d).running (.ctrl n) = true ∧ ∀ f, (trainT567 n d).get f = d.get f := by
  have hasks : trainT567 n d = sendCtrl n (queueCtrl n (t5Addr (d.head n).words.length) none true
      (d.setHead n { d.head n with step := 5, ctrl := none })) := if_pos h
  have hhead := head_queueCtrl_training n (t5Addr (d.head n).words.length) (d.setHead n { d.head n with step := 5, ctrl := none })
  rw [Dev.head_setHead_same] at hhead
  rw [hasks, sendCtrl_sends (by rw [hhead]) (by rw [hhead])]
  exact ⟨by simp [Dev.head_ship, hhead], by simp [Dev.head_ship], by simp [Dev.running], fun f => by simp [queueCtrl]⟩

/-! ### A step that fails (R200) -/

/-- The device as a step fails, before it is known whether the training repeats. -/
def trainCut (n code : Nat) (d : Dev) : Dev :=
  (((d.set (Reg.HPT.LINK_STAT.FAIL_CODE n) code).setHead n
    { d.head n with clock := false, ctrl := none, queue := [], t7 := false }).disarm (.trainStep n)).disarm (.ctrl n)

theorem trainFail_eq (n code : Nat) (d : Dev) : trainFail n code d =
    if d.get (Reg.HPT.LINK_STAT.TRIES n) ≤ d.get (Reg.HPT.LINK_CFG.RETRY n) then
      ((trainCut n code d).setHead n { (trainCut n code d).head n with step := 8 }).arm (.trainSettle n) (2 * us)
    else ((((trainCut n code d).setHead n { (trainCut n code d).head n with step := 0 }).disarm (.trainSettle n)).setLink n
      7).raise n Kind.HPT.TRAIN_FAIL { port := n, arg := code } := by
  obtain ⟨htries, hretry⟩ := tries_key_ne_failCode n
  rw [← d.get_set_ne code htries, ← d.get_set_ne code hretry]
  rfl

/-- Within the tries the training waits for its repetition. -/
theorem trainFail_waits {n code : Nat} (hc : code < 256) {d : Dev}
    (h : d.get (Reg.HPT.LINK_STAT.TRIES n) ≤ d.get (Reg.HPT.LINK_CFG.RETRY n)) :
    (trainFail n code d).get (Reg.HPT.LINK_STAT.FAIL_CODE n) = code ∧ ((trainFail n code d).head n).step = 8 ∧
      (trainFail n code d).running (.trainSettle n) = true ∧ (trainFail n code d).running (.trainStep n) = false := by
  rw [trainFail_eq, if_pos h]
  refine ⟨?_, by simp, by simp [Dev.running], ?_⟩
  · exact (Dev.get_set_same ..).trans (Nat.mod_eq_of_lt hc)
  · rw [Dev.running, Dev.due_arm_ne _ (by simp), Dev.due_setHead, trainCut, Dev.due_disarm_ne _ (by simp), Dev.due_disarm_same]
    rfl

/-- Past them the link is FAILED. -/
theorem trainFail_fails {n : Nat} (hn : n < 64) (code : Nat) {d : Dev}
    (h : d.get (Reg.HPT.LINK_CFG.RETRY n) < d.get (Reg.HPT.LINK_STAT.TRIES n)) :
    (trainFail n code d).get (Reg.HPT.LINK_STAT.STATE n) = 7 ∧ ((trainFail n code d).head n).step = 0 ∧
      (trainFail n code d).evRaw .HPT n Kind.HPT.TRAIN_FAIL.bit = true := by
  rw [trainFail_eq, if_neg (Nat.not_le.mpr h)]
  refine ⟨?_, by simp, Dev.evRaw_raise _ n Kind.HPT.TRAIN_FAIL _ (by decide)⟩
  rw [(Dev.onlyRises_raise ..).1 _ (steady_linkState hn), Dev.get_setLink _ n (by decide)]

theorem trainTimeout_none {n : Nat} {d : Dev} (h : d.due (.trainStep n) = none) : trainTimeout n d = d := Dev.onTimer_none h _

/-- The time of a step is over: it fails, where training is in a step. -/
theorem trainTimeout_due {n t : Nat} {d : Dev} (h : d.due (.trainStep n) = some t) :
    trainTimeout n d =
      if (d.head n).step = 0 ∨ (d.head n).step = 8 then (d.advanceTo t).disarm (.trainStep n)
      else trainFail n (d.head n).step ((d.advanceTo t).disarm (.trainStep n)) := Dev.onTimer_some h _

theorem trainTimeout_fails {n t : Nat} {d : Dev} (hdue : d.due (.trainStep n) = some t) (h0 : (d.head n).step ≠ 0)
    (h8 : (d.head n).step ≠ 8) :
    trainTimeout n d = trainFail n (d.head n).step ((d.advanceTo t).disarm (.trainStep n)) :=
  (trainTimeout_due hdue).trans (if_neg (not_or.mpr ⟨h0, h8⟩))

/-! ### The statement -/

/-- Settles O16. The time limits of the steps (notes/assumptions/26.md), the requests and LINK_CMD.DOWN
(notes/assumptions/64.md), the phase of the PRBS (notes/assumptions/77.md), that nothing changes where training is not in the
step or no timer runs (notes/assumptions/56.md) and the refused page (notes/assumptions/12.md) are readings of the model. -/
theorem linkTraining : Obligations.LinkTraining := by
  refine ⟨fun s n hs hn hstep hwant hmay => ?_, fun s n hs hn ho => ?_, fun s n hs hn ho hb => ?_,
    fun s n t ok hs hstep hdue hmore => ?_, fun s n t hs hstep hdue hmore => ?_,
    fun s n lane mism hs hstep h2 h33 hlane hnew => ?_, fun s n t hs hstep hdue => ?_, fun s n hs hn hstep => ?_,
    fun s n t hs hn hdue h0 h8 htries => ?_, fun s n t hs hstep hdue => ?_, fun s n hs hstep hclock => ?_,
    fun s n hs hn ho hb => ?_, fun s n t ok hs hstep hdue h31 hwide => ?_, fun s n t ok hs hstep hdue h31 hnarrow => ?_,
    fun s n t hs hstep hdue h32 => ?_, fun s n lane mism hs hstep h33 hlane hnew => ?_,
    fun s n t hs hn hdue h0 h8 htries => ?_, fun s n hs hup hstep => ?_, fun s n hs => ?_, fun s n hs h => ?_,
    fun s n ok hs h => ?_, fun s n hs h => ?_, fun s n lane mism hs h => ?_, fun s n hs h => ?_, fun s n hs h => ?_,
    fun s n hs h => ?_, fun s n hs h => ?_, fun s n hs h => ?_, fun s n t hs hdue h => ?_,
    fun s n lane mism b hs hstep h2 h33 hlane hnew hb => ?_, fun s n hs ho hn => ?_, fun s n t hs hn hdue h0 h8 => ?_⟩
  · refine completes_of_exec (exec_trainingStart hs n) ⟨trainingStart_starts hn hstep hwant hmay rfl, ?_, fun hdown => ?_⟩
    · rw [trainingStart_starts hn hstep hwant hmay rfl, Dev.get_arm, Dev.get_setLink _ n (by decide)]
    · exact linkDown_rests hdown ..
  · exact completes_linkCmd hn ho (exec_linkTrain hs n) (linkCmd_train n s.dev) rfl
  · exact completes_linkCmd hn ho (exec_linkCmdDown hs n) ((linkCmd_down n s.dev).trans (linkCmdDown_boundary hb))
      ⟨rfl, clockStop_shows ..⟩
  · exact completes_of_exec (exec_bckSweepStep hs ..) (bckSweepStep_moves hstep hdue hmore)
  · exact completes_of_exec (exec_laneSweepStep hs n) ((laneSweepStep_moves hstep hdue (by omega) rfl).trans (if_pos hmore))
  · exact completes_of_exec (exec_prbsResult hs ..) (prbsResult_only_notes hstep hlane hnew mism h2 (by omega))
  · exact completes_of_exec (exec_alignSendEnd hs n) (alignEnd_ends hstep hdue)
  · refine completes_of_exec (exec_aligned hs n true) ⟨aligned_passes hstep, ?_⟩
    rw [aligned_passes hstep]
    obtain ⟨hfive, hctrl, htimer, hget⟩ := trainT567_asks (n := n)
      (d := (((((s.dev.disarm (.trainStep n)).disarm (.trainSettle n)).emit (.lanes n [] lanesZero)).mark n 0).setHead n
        { s.dev.head n with words := [] }).setLink n 5) (by simp)
    exact ⟨(hget _).trans (Dev.get_setLink _ n (by decide)), hfive, hctrl, htimer⟩
  · refine completes_of_exec (exec_trainStepTimeout hs n) ⟨trainTimeout_fails hdue h0 (by omega), ?_⟩
    rw [trainTimeout_fails hdue h0 (by omega)]
    exact trainFail_waits (by omega) htries
  · exact completes_of_exec (exec_trainingRetry hs n) (trainRetry_repeats hstep hdue)
  · exact completes_of_exec (exec_linkReset hs n) (linkReset_passes hstep hclock)
  · exact completes_linkCmd hn ho (exec_linkCmdDown hs n) ((linkCmd_down n s.dev).trans (linkCmdDown_waits hb)) rfl
  · exact completes_of_exec (exec_bckSweepStep hs ..) ((bckSweepStep_last hstep hdue h31 rfl).trans (if_pos hwide))
  · exact completes_of_exec (exec_bckSweepStep hs ..)
      ((bckSweepStep_last hstep hdue h31 rfl).trans (if_neg (Nat.not_le.mpr hnarrow)))
  · exact completes_of_exec (exec_laneSweepStep hs n) ((laneSweepStep_moves hstep hdue (by omega) rfl).trans
      ((if_neg (by omega)).trans (by rw [h32])))
  · exact completes_of_exec (exec_prbsResult hs ..) (prbsResult_last hstep hlane hnew mism h33)
  · refine completes_of_exec (exec_trainStepTimeout hs n) ⟨trainTimeout_fails hdue h0 (by omega), ?_⟩
    rw [trainTimeout_fails hdue h0 (by omega)]
    exact trainFail_fails hn _ htries
  · exact completes_of_exec (exec_linkReset hs n) ((linkReset_other (.inl hstep)).trans (if_pos hup))
  · exact completes_of_exec (exec_aligned hs n false) (aligned_rests (.inr rfl))
  · exact completes_of_exec (exec_trainingStart hs n) (trainingStart_rests h)
  · exact completes_of_exec (exec_bckSweepStep hs ..) (bckSweepStep_rests h ok)
  · exact completes_of_exec (exec_laneSweepStep hs n) (laneSweepStep_rests h)
  · exact completes_of_exec (exec_prbsResult hs ..) (prbsResult_rests h mism)
  · exact completes_of_exec (exec_alignSendEnd hs n) (alignEnd_rests h)
  · exact completes_of_exec (exec_aligned hs n true) (aligned_rests (.inl h))
  · exact completes_of_exec (exec_trainStepTimeout hs n) (trainTimeout_none h)
  · exact completes_of_exec (exec_trainingRetry hs n) (trainRetry_rests h)
  · obtain ⟨hout, hdown⟩ := h
    exact completes_of_exec (exec_linkReset hs n) ((linkReset_other hout).trans (if_neg (Bool.eq_false_iff.mp hdown)))
  · exact completes_of_exec (exec_trainStepTimeout hs n) ((trainTimeout_due hdue).trans (if_pos h))
  · subst hb
    exact completes_of_exec (exec_prbsResult hs ..) (prbsResult_only_notes hstep hlane hnew mism h2 (by omega))
  · intro k hk
    simp only [List.mem_cons, List.not_mem_nil, or_false] at hk
    obtain rfl | rfl := hk
    · exact completes_of_exec (exec_linkTrain hs n) (hostWrite_linkCmd_off s.fuse ho)
    · exact completes_of_exec (exec_linkCmdDown hs n) (hostWrite_linkCmd_off s.fuse ho)
  · exact completes_of_exec (exec_trainStepTimeout hs n) (trainTimeout_fails hdue h0 h8)

end Sys2Proof.Machine
end

section
/-!
PROOF. A head command that repeats its guarded fields, on a register file out of order (O18), by a state that the model
evaluates.
-/
namespace Sys2Proof.Machine

/-- A state in which port 0 is in RUN at basic level, its command interface is busy, and HREG_CMD.ADDR is 4; the register file
is not in the canonical form: BUSY stands before ADDR, a field of a lower address. -/
def stateHregUnsorted : State :=
  { State.reset with dev :=
    { State.reset.dev with
      regs := [((Reg.HDR.STATE 0x100).key, 2), ((Reg.HPT.HREG_STAT.BUSY 0).key, 1), ((Reg.HPT.HREG_CMD.ADDR 0).key, 4)] } }

/-- Refutes O18: its seventh part has no hypothesis on the form of the register file. A write at basic level that repeats WRITE
and ADDR leaves these guarded fields alone (R37, notes/assumptions/11.md), where the statement sets them to what they hold.
Each field reads the same either way, but a file out of order has ADDR moved to its place when it is set. -/
theorem not_linkCommands : ¬Obligations.LinkCommands := by
  intro h
  obtain ⟨-, -, -, -, -, -, hbusy, -⟩ := h
  have hd := (hbusy stateHregUnsorted 0 4 false (by decide) (by decide) (by decide) (by decide) (.inr (by decide))
    (by decide)).effect (exec_hregCmdGo (by decide) 0 false 4)
  have hregs : (hostWrite stateHregUnsorted.fuse ((0x100 + 0) * 4096 + 0x400) (0x80000000 + b2n false * 0x40000000 + 4)
      stateHregUnsorted.dev).regs = stateHregUnsorted.dev.regs := by decide +kernel
  rw [hd] at hregs
  exact absurd hregs (by decide)

end Sys2Proof.Machine
end

section
/-!
PROOF. A scan step that is given up while the scan is to stop (O19), by a state that the model evaluates.
-/
namespace Sys2Proof.Machine

/-- A device in which a scan runs that SCAN_CMD.STOP has told to end: channel 0 is in a step of nozzle 3 of port 0, repeated four
times already, and nozzle 4 of the port waits for its step. -/
def devScanStopping : Dev :=
  ({ State.reset.dev with snd := { State.reset.dev.snd with running := true, halting := true } }.setChan 0
    { Chan.init with step := some (0, 3, 0), repeats := 4, ended := false }).setHealth 0
    { SndPort.init with scan := [(3, 0), (4, 0)] }

/-- The reset state with the stopping scan of `devScanStopping`. -/
def stateScanStopping : State := { State.reset with dev := devScanStopping }

/-- Refutes O19: its nineteenth part says that a step given up after four repeats (R216) leaves the port the other nozzles' steps.
With SCAN_CMD.STOP written during that step, the end of the step is where the channel's part of the scan ends (R213), and the steps
that waited are dropped with it: nozzle 4, which the statement keeps, has no step left. -/
theorem not_scansSoundingAndWear : ¬Obligations.ScansSoundingAndWear := by
  intro h
  obtain ⟨-, -, -, -, -, -, -, -, -, -, -, -, -, -, -, -, -, -, hgiveUp, -⟩ := h
  obtain ⟨-, hscan, -⟩ := (hgiveUp stateScanStopping 0 0 3 0 (by decide) (by decide) (by decide) (by decide)).effect
    (exec_scanStepRepeat (by decide) 0)
  have hkept : ((stateScanStopping.dev.health 0).scan.filter fun x => x.1 != 3) = [(4, 0)] := by decide
  have hdropped : ((scanStepRepeat 0 stateScanStopping.dev).health 0).scan = [] := by decide
  rw [hkept, hdropped] at hscan
  exact absurd hscan (by decide)

end Sys2Proof.Machine
end

section
/-!
PROOF. The registers of the firing engines (chapter 10): what the operations of ENG leave of ENG.STAT.ACTIVE and of the pages of
engines A and B (`Dev.EngineKept`), and what they leave beside the registers (`Dev.EngStoresKept`).
-/
namespace Sys2Proof.Machine

/-! ### Fields and their places -/

/-- Is a field one of a block's own registers, past the page header? -/
def Fld.own (f : Fld) : Bool := decide (0x40 ≤ f.off) && decide (f.off < 4096) && decide (f.lo < 64)

theorem Fld.own_iff {f : Fld} : f.own = true ↔ 0x40 ≤ f.off ∧ f.off < 4096 ∧ f.lo < 64 := by
  simp [Fld.own, and_assoc]

/-- Fields at different places of their pages are different. -/
theorem key_ne_of_place {f g : Fld} (hf : f.own = true) (hg : g.own = true)
    (h : (decide (g.off = f.off) && decide (g.lo = f.lo)) = false) : g.key ≠ f.key := by
  rw [Fld.own_iff] at hf hg
  simp only [Bool.and_eq_false_iff, decide_eq_false_iff_not] at h
  simp only [Fld.key]
  omega

/-- Fields of different pages are different. -/
theorem key_ne_of_page {f g : Fld} (hf : f.own = true) (hg : g.own = true) (h : g.page ≠ f.page) : g.key ≠ f.key := by
  rw [Fld.own_iff] at hf hg
  simp only [Fld.key]
  omega

/-- A field that says which engine acts and how a standby behaves: ENG.STAT.ACTIVE, ENG.CFG.AUTO_RESYNC, or one of the page of
engine A or B (Tables 10.7, 10.8). -/
def Fld.OfEngines (g : Fld) : Prop :=
  g.own = true ∧ (g.page = 0xB8 ∨ g.page = 0xB9 ∨ g = Reg.ENG.STAT.ACTIVE ∨ g = Reg.ENG.CFG.AUTO_RESYNC)

/-- Another own field of a block whose page is before the engines'. -/
abbrev Fld.BesideEngines (f : Fld) : Prop :=
  f.own = true ∧ f.page < 0xB8 ∧ f.key ≠ Reg.ENG.STAT.ACTIVE.key ∧ f.key ≠ Reg.ENG.CFG.AUTO_RESYNC.key

theorem ofEngines_active : Reg.ENG.STAT.ACTIVE.OfEngines := ⟨rfl, .inr (.inr (.inl rfl))⟩

theorem ofEngines_autoResync : Reg.ENG.CFG.AUTO_RESYNC.OfEngines := ⟨rfl, .inr (.inr (.inr rfl))⟩

theorem ofEngines_of_page {g : Fld} {e : Nat} (he : e < 2) (hp : g.page = 0xB8 + e) (ho : g.own = true) : g.OfEngines :=
  ⟨ho, by omega⟩

theorem ofEngines_estate {e : Nat} (he : e < 2) : (Reg.ENGX.STAT.ESTATE e).OfEngines := ofEngines_of_page he rfl rfl

theorem Fld.OfEngines.steady {g : Fld} (hg : g.OfEngines) : g.Steady := by
  obtain ⟨ho, hpage⟩ := hg
  rw [Fld.own_iff] at ho
  have hlow : 0xB5 ≤ g.page := by
    obtain h | h | rfl | rfl := hpage
    · omega
    · omega
    · decide
    · decide
  simp only [Fld.Steady, Fld.key, Reg.SED.LOST.COUNT, List.mem_cons, List.not_mem_nil, or_false]
  omega

theorem Fld.OfEngines.key_ne {f g : Fld} (hg : g.OfEngines) (hf : f.BesideEngines) : g.key ≠ f.key := by
  obtain ⟨ho, hpage⟩ := hg
  obtain ⟨hfo, hfp, hactive, hauto⟩ := hf
  obtain h | h | rfl | rfl := hpage
  · exact key_ne_of_page hfo ho (by omega)
  · exact key_ne_of_page hfo ho (by omega)
  · exact hactive.symm
  · exact hauto.symm

/-- ENG.STAT.ACTIVE is no field of an engine's page. -/
theorem active_key_ne {f : Fld} {e : Nat} (hp : f.page = 0xB8 + e) (hf : f.own = true) : Reg.ENG.STAT.ACTIVE.key ≠ f.key := by
  have hpage : 0xB5 ≠ f.page := by omega
  exact key_ne_of_page hf rfl hpage

theorem steady_estate (e : Nat) : (Reg.ENGX.STAT.ESTATE e).Steady := by
  simp only [Fld.Steady, Fld.key, Reg.ENGX.STAT.ESTATE, Reg.SED.LOST.COUNT, List.mem_cons, List.not_mem_nil, or_false]
  omega

theorem estate_key_ne {e x : Nat} (h : e ≠ x) : (Reg.ENGX.STAT.ESTATE e).key ≠ (Reg.ENGX.STAT.ESTATE x).key :=
  key_ne_of_page rfl rfl (by simpa [Reg.ENGX.STAT.ESTATE] using h)

theorem portsOk_key_ne_estate (e x : Nat) : (Reg.ENGX.STAT.PORTS_OK e).key ≠ (Reg.ENGX.STAT.ESTATE x).key :=
  key_ne_of_place rfl rfl rfl

theorem autoResync_key_ne_estate (e : Nat) : Reg.ENG.CFG.AUTO_RESYNC.key ≠ (Reg.ENGX.STAT.ESTATE e).key :=
  key_ne_of_place rfl rfl rfl

theorem standby_lt (d : Dev) : d.standby < 2 := by rw [Dev.standby]; omega

theorem standby_ne_active {d : Dev} (h : d.activeEngine < 2) : d.standby ≠ d.activeEngine := by rw [Dev.standby]; omega

/-! ### Registers of the engines left alone -/

/-- The engines' field `g` reads as before, and no EV_RAW bit has fallen. -/
structure Dev.EngineKept (g : Fld) (d d' : Dev) : Prop where
  get_eq : d'.get g = d.get g
  raised : ∀ page, ∀ i < 32, (d.get (Reg.HDR.EV_RAW page)).testBit i = true →
    (d'.get (Reg.HDR.EV_RAW page)).testBit i = true

namespace Dev.EngineKept

variable {g f : Fld} {a b c d d' : Dev} {e v : Nat}

theorem refl (g : Fld) (d : Dev) : d.EngineKept g d := ⟨rfl, fun _ _ _ h => h⟩

theorem trans (h : a.EngineKept g b) (k : b.EngineKept g c) : a.EngineKept g c :=
  ⟨k.get_eq.trans h.get_eq, fun page i hi hb => k.raised page i hi (h.raised page i hi hb)⟩

theorem regs (h : a.EngineKept g d) (hr : d'.regs = d.regs) : a.EngineKept g d' :=
  h.trans ⟨Dev.get_of_regs hr g, fun page i _ hb => by rwa [Dev.get_of_regs hr]⟩

theorem evRaw {m : Blk} {n bit : Nat} (h : a.EngineKept g d) (hi : bit < 32) (hb : a.evRaw m n bit = true) :
    d.evRaw m n bit = true := h.raised _ bit hi hb

/-- Another own field takes a value. -/
theorem set (h : a.EngineKept g d) (hf : f.own = true) (hk : g.key ≠ f.key) : a.EngineKept g (d.set f v) := by
  refine h.trans ⟨d.get_set_ne v hk, fun page i _ hb => ?_⟩
  obtain ⟨hlow, hoff, hlo⟩ := Fld.own_iff.mp hf
  have hevRaw : (Reg.HDR.EV_RAW page).key ≠ f.key :=
    key_ne_of_off (by omega : 0x010 ≠ f.off) hoff (by decide : 0x010 < 4096) hlo (by decide : 0 < 64)
  rwa [d.get_set_ne v hevRaw]

theorem setEngine {x : Engine} (h : a.EngineKept g d) : a.EngineKept g (d.setEngine e x) := h.regs rfl

theorem setEng {x : Eng} (h : a.EngineKept g d) : a.EngineKept g { d with eng := x } := h.regs rfl

theorem setPrt {x : Prt} (h : a.EngineKept g d) : a.EngineKept g { d with prt := x } := h.regs rfl

theorem noteFlags {n fA fB : Nat} (h : a.EngineKept g d) : a.EngineKept g (noteFlags n fA fB d) := h.regs rfl

theorem arm {k : TimerKey} {t : Nat} (h : a.EngineKept g d) : a.EngineKept g (d.arm k t) := h.regs rfl

theorem foldl {α : Type} {op : Dev → α → Dev} {l : List α} (hop : ∀ d x, a.EngineKept g d → a.EngineKept g (op d x))
    (h : a.EngineKept g d) : a.EngineKept g (l.foldl op d) :=
  List.foldlRecOn (motive := fun e => a.EngineKept g e) l op h fun e he x _ => hop e x he

theorem loseProvider {arg port : Nat} {ports : List Nat} (h : a.EngineKept g d) :
    a.EngineKept g (loseProvider arg port ports d) := by
  rw [Machine.loseProvider]
  split
  · exact h.regs rfl
  · exact h

variable (hg : g.OfEngines)
include hg

theorem beside (h : a.EngineKept g d) (hf : f.BesideEngines) : a.EngineKept g (d.set f v) := h.set hf.1 (hg.key_ne hf)

theorem onlyRises (h : a.EngineKept g d) (k : d.OnlyRises d') : a.EngineKept g d' := h.trans ⟨k.1 g hg.steady, k.2⟩

theorem ev {m : Blk} {n bit : Nat} (h : a.EngineKept g d) : a.EngineKept g (d.ev m n bit) := h.onlyRises hg (d.onlyRises_ev ..)

theorem raise {n : Nat} {k : FKind} {x : FArg} (h : a.EngineKept g d) : a.EngineKept g (d.raise n k x) :=
  h.onlyRises hg (d.onlyRises_raise ..)

theorem bringup {on : Bool} (h : a.EngineKept g d) (hf : f.BesideEngines) : a.EngineKept g (d.bringup f on) := by
  by_cases hv : d.is f = on
  · rwa [Dev.bringup_same hv]
  · exact (h.beside hg hf).onlyRises hg (Dev.bringup_changes hv)

/-! ### Basin -/

theorem ueFound {master access s : Nat} (h : a.EngineKept g d) : a.EngineKept g (ueFound master access d s) := by
  rw [Machine.ueFound]
  have hcount : a.EngineKept g (d.bump Reg.BAS.UE_CNT.COUNT 1) := h.beside hg (by decide)
  split
  · exact hcount.raise hg
  · exact (((hcount.beside hg (by decide)).beside hg (by decide)).beside hg (by decide)).raise hg

theorem basinWrite {addr cls master : Nat} {bs : Bytes} (h : a.EngineKept g d) :
    a.EngineKept g (d.basinWrite addr bs cls master) := by
  rw [Dev.basinWrite]
  split
  · exact h
  · exact (foldl (fun _ _ he => he.ueFound hg) h).regs rfl

theorem c4Write {addr : Nat} {bs : Bytes} (h : a.EngineKept g d) : a.EngineKept g (d.c4Write addr bs) := by
  rw [Dev.c4Write]
  split
  · exact h
  · split
    · exact h.regs rfl
    · exact h.basinWrite hg

/-! ### The operations of ENG -/

theorem engSync (h : a.EngineKept g d) : a.EngineKept g (engSync d) := by
  rw [Machine.engSync]
  refine .bringup hg ?_ (by decide)
  split
  · exact h
  · exact .ev hg (.beside hg (h.regs rfl) (by decide))

theorem enterState {s : Nat} (h : a.EngineKept g (d.set (Reg.ENGX.STAT.ESTATE e) s)) : a.EngineKept g (enterState e s d) := by
  rw [Machine.enterState]
  dsimp only
  split
  · exact (h.engSync hg).regs rfl
  · exact h.engSync hg

theorem healthReport {reason : Nat} (h : a.EngineKept g d) : a.EngineKept g (healthReport reason d) := by
  rw [Machine.healthReport]
  exact (((h.c4Write hg).beside hg (by decide)).ev hg).regs rfl

theorem endRepair {pass : Bool} (h : a.EngineKept g d) (hk : g.key ≠ (Reg.ENGX.STAT.REPAIRS e).key) :
    a.EngineKept g (endRepair e pass d) := by
  rw [Machine.endRepair]
  dsimp only
  split
  · refine .healthReport hg ?_
    split
    · exact .set h.setEngine rfl hk
    · exact .set h.setEngine rfl hk
  · exact h

theorem engineFails (h : a.EngineKept g (d.set (Reg.ENGX.STAT.ESTATE e) 6)) : a.EngineKept g (engineFails e d) :=
  (h.enterState hg).arm

theorem startResync (h : a.EngineKept g d) (hs : g.key ≠ (Reg.ENGX.STAT.ESTATE e).key)
    (hp : g.key ≠ (Reg.ENGX.STAT.PORTS_OK e).key) : a.EngineKept g (startResync e d) := by
  rw [Machine.startResync]
  exact .enterState hg (.set (.set h.setEngine rfl hp) rfl hs)

theorem suspect (h : a.EngineKept g d) (hs : g.key ≠ (Reg.ENGX.STAT.ESTATE e).key)
    (hp : g.key ≠ (Reg.ENGX.STAT.PORTS_OK e).key) : a.EngineKept g (suspect e d) := by
  have hsus : a.EngineKept g (Machine.enterState e 5 d) := .enterState hg (h.set rfl hs)
  rw [Machine.suspect]
  split
  · exact hsus.startResync hg hs hp
  · exact hsus

theorem engineLost (h : a.EngineKept g d) : a.EngineKept g (engineLost d) := by
  rw [Machine.engineLost]
  exact .loseProvider (.raise hg h.setEng)

theorem flagEngine {n flags : Nat} (h : a.EngineKept g d) (hf : g.key ≠ (Reg.ENGX.CHK_STAT.FLAGS e).key)
    (hp : g.key ≠ (Reg.ENGX.STAT.FLAG_PORT e).key) : a.EngineKept g (flagEngine n e flags d) := by
  rw [Machine.flagEngine]
  split
  · exact h
  · exact .raise hg (.set (.set h.setEngine rfl hf) rfl hp)

/-- A completion record, written or lost. -/
theorem cplWriteBy {engine plane kind job line arg status : Nat} (h : a.EngineKept g d) :
    a.EngineKept g (cplWriteBy engine plane kind job line arg status d) := by
  rw [Machine.cplWriteBy]
  dsimp only
  split
  · exact .raise hg (.beside hg h (by decide))
  · refine .setPrt (.beside hg ?_ (by decide))
    split
    · exact h.regs rfl
    · exact h.basinWrite hg

theorem cplMayRepeat {engine plane kind job line arg status : Nat} (h : a.EngineKept g d) :
    a.EngineKept g (cplMayRepeat engine plane kind job line arg status d) := by
  rw [Machine.cplMayRepeat]
  split
  · exact .cplWriteBy hg (h.regs rfl)
  · exact h.regs rfl

end Dev.EngineKept

end Sys2Proof.Machine
end

section
/-!
PROOF. What the operations of ENG leave beside the registers (`Dev.EngStoresKept`), and what each of them shows: the state it
puts an engine in, and the timer it starts.
-/
namespace Sys2Proof.Machine

/-! ### The store of ENG left alone -/

/-- The engines beside their registers, the failover under way and the timers are as before. -/
structure Dev.EngStoresKept (d d' : Dev) : Prop where
  engines_eq : d'.eng.engines = d.eng.engines
  overlap_eq : d'.eng.overlap = d.eng.overlap
  time_eq : d'.time = d.time

namespace Dev.EngStoresKept

variable {a d d' : Dev}

theorem refl (d : Dev) : d.EngStoresKept d := ⟨rfl, rfl, rfl⟩

theorem eng_time (h : a.EngStoresKept d) (he : d'.eng = d.eng) (ht : d'.time = d.time) : a.EngStoresKept d' :=
  ⟨by rw [he, h.engines_eq], by rw [he, h.overlap_eq], ht.trans h.time_eq⟩

theorem set {f : Fld} {v : Nat} (h : a.EngStoresKept d) : a.EngStoresKept (d.set f v) := h.eng_time rfl rfl

theorem flagged (h : a.EngStoresKept d) (k : d.Flagged d') : a.EngStoresKept d' := by
  obtain ⟨⟨r, f, s, e, l, o, rfl⟩, -⟩ := k
  exact h.eng_time rfl rfl

theorem ev {m : Blk} {n bit : Nat} (h : a.EngStoresKept d) : a.EngStoresKept (d.ev m n bit) := h.flagged (d.flagged_ev ..)

theorem raise {n : Nat} {k : FKind} {x : FArg} (h : a.EngStoresKept d) : a.EngStoresKept (d.raise n k x) :=
  h.flagged (d.flagged_raise ..)

theorem bringup {f : Fld} {on : Bool} (h : a.EngStoresKept d) : a.EngStoresKept (d.bringup f on) := by
  have hset : a.EngStoresKept (d.put f on) := h.set
  rw [Dev.bringup]
  dsimp only
  split_ifs
  · exact h
  · exact hset.ev.ev
  · exact hset.ev.ev
  · exact hset.ev

theorem engSync (h : a.EngStoresKept d) : a.EngStoresKept (engSync d) := by
  have haccrue : a.EngStoresKept (engAccrue d) := ⟨h.engines_eq, h.overlap_eq, h.time_eq⟩
  rw [Machine.engSync]
  refine .bringup ?_
  split
  · exact h
  · exact haccrue.set.ev

theorem enterState {e s : Nat} (h : a.EngStoresKept d) : a.EngStoresKept (enterState e s d) := by
  have hsync : a.EngStoresKept (Machine.engSync (d.set (Reg.ENGX.STAT.ESTATE e) s)) := h.set.engSync
  rw [Machine.enterState]
  dsimp only
  split
  · exact ⟨hsync.engines_eq, hsync.overlap_eq, hsync.time_eq⟩
  · exact hsync

theorem ueFound {master access s : Nat} (h : a.EngStoresKept d) : a.EngStoresKept (ueFound master access d s) := by
  have hcount : a.EngStoresKept (d.bump Reg.BAS.UE_CNT.COUNT 1) := h.set
  rw [Machine.ueFound]
  split
  · exact hcount.raise
  · exact EngStoresKept.raise (EngStoresKept.set (EngStoresKept.set (EngStoresKept.set hcount)))

theorem basinWrite {addr cls master : Nat} {bs : Bytes} (h : a.EngStoresKept d) :
    a.EngStoresKept (d.basinWrite addr bs cls master) := by
  rw [Dev.basinWrite]
  split
  · exact h
  · exact .eng_time (List.foldlRecOn (motive := fun e => a.EngStoresKept e) _ _ h fun _ he _ _ => he.ueFound) rfl rfl

theorem c4Write {addr : Nat} {bs : Bytes} (h : a.EngStoresKept d) : a.EngStoresKept (d.c4Write addr bs) := by
  rw [Dev.c4Write]
  split
  · exact h
  · split
    · exact h.eng_time rfl rfl
    · exact h.basinWrite

theorem healthReport {reason : Nat} (h : a.EngStoresKept d) : a.EngStoresKept (healthReport reason d) := by
  have hev {bs : Bytes} {addr i bit : Nat} :
      a.EngStoresKept (((d.c4Write addr bs).set Reg.ENG.REPORT_IDX.IDX i).ev .ENG 0 bit) := h.c4Write.set.ev
  rw [Machine.healthReport]
  exact ⟨hev.engines_eq, hev.overlap_eq, hev.time_eq⟩

end Dev.EngStoresKept

/-! ### The engines' stores -/

@[simp] theorem Dev.engine_setEngine_same (d : Dev) (e : Nat) (x : Engine) : (d.setEngine e x).engine e = x := tget_tset_same ..

@[simp] theorem Dev.engine_set (d : Dev) (f : Fld) (v e : Nat) : (d.set f v).engine e = d.engine e := rfl

@[simp] theorem Dev.engine_arm (d : Dev) (k : TimerKey) (t e : Nat) : (d.arm k t).engine e = d.engine e := rfl

@[simp] theorem Dev.engine_disarm (d : Dev) (k : TimerKey) (e : Nat) : (d.disarm k).engine e = d.engine e := rfl

theorem Dev.Flagged.eng_eq {d d' : Dev} (h : d.Flagged d') : d'.eng = d.eng := by
  obtain ⟨⟨r, f, s, e, l, o, rfl⟩, -⟩ := h; rfl

theorem Dev.EngStoresKept.engine_eq {d d' : Dev} (h : d.EngStoresKept d') (e : Nat) : d'.engine e = d.engine e := by
  rw [Dev.engine, Dev.engine, h.engines_eq]

@[simp] theorem Dev.estate_arm (d : Dev) (k : TimerKey) (t e : Nat) : (d.arm k t).estate e = d.estate e := rfl

theorem Dev.running_arm_same (d : Dev) (k : TimerKey) (t : Nat) : (d.arm k t).running k = true := by simp [Dev.running]

/-! ### What an operation shows -/

/-- Of the fields of the engines, an engine that enters a state changes its ESTATE alone. -/
theorem engineKept_enterState {g : Fld} (hg : g.OfEngines) (e s : Nat) (d : Dev) :
    (d.set (Reg.ENGX.STAT.ESTATE e) s).EngineKept g (enterState e s d) := .enterState hg (.refl ..)

theorem estate_set {e s : Nat} (hs : s < 16) (d : Dev) : (d.set (Reg.ENGX.STAT.ESTATE e) s).estate e = s :=
  (Dev.get_set_same ..).trans (Nat.mod_eq_of_lt hs)

theorem estate_enterState {e s : Nat} (he : e < 2) (hs : s < 16) (d : Dev) : (enterState e s d).estate e = s :=
  (engineKept_enterState (ofEngines_estate he) e s d).get_eq.trans (estate_set hs d)

theorem estate_engineFails {e : Nat} (he : e < 2) (d : Dev) : (engineFails e d).estate e = 6 :=
  (Dev.estate_arm ..).trans (estate_enterState he (by decide) d)

theorem running_engineFails (e : Nat) (d : Dev) : (engineFails e d).running (.repair e) = true := Dev.running_arm_same ..

theorem estate_startBist {e : Nat} (he : e < 2) (d : Dev) : (startBist e d).estate e = 1 :=
  (Dev.estate_arm ..).trans (estate_enterState he (by decide) d)

theorem running_startBist (e : Nat) (d : Dev) : (startBist e d).running .bistEnd = true := Dev.running_arm_same ..

/-- An engine that starts a resynchronisation has no port shadowed (R247). -/
theorem startResync_shows {e : Nat} (he : e < 2) (d : Dev) :
    (startResync e d).estate e = 2 ∧ ((startResync e d).engine e).shadowed = [] ∧
      (startResync e d).get (Reg.ENGX.STAT.PORTS_OK e) = 0 := by
  refine ⟨?_, ?_, ?_⟩
  · rw [startResync, estate_enterState he (by decide)]
  · rw [startResync, (Dev.EngStoresKept.enterState (.refl _)).engine_eq]
    rw [Dev.engine_set, Dev.engine_setEngine_same]
  · rw [startResync, (engineKept_enterState (ofEngines_of_page he rfl rfl) ..).get_eq,
      Dev.get_set_ne _ _ (portsOk_key_ne_estate e e), Dev.get_set_same, Nat.zero_mod]

/-- A standby that does not resynchronise by itself stays SUSPECT (R247). -/
theorem estate_suspect {e : Nat} (he : e < 2) {d : Dev} (h : d.is Reg.ENG.CFG.AUTO_RESYNC = false) :
    (suspect e d).estate e = 5 := by
  have hauto : (enterState e 5 d).is Reg.ENG.CFG.AUTO_RESYNC = false := by
    rwa [Dev.is_eq, (engineKept_enterState ofEngines_autoResync ..).get_eq, d.get_set_ne _ (autoResync_key_ne_estate e),
      ← Dev.is_eq]
  rw [suspect, if_neg (Bool.eq_false_iff.mp hauto), estate_enterState he (by decide) d]

end Sys2Proof.Machine
end

section
/-!
PROOF. Resynchronisation, self-test and repair of the standby (O14; R247 to R249, R251, R253). Each command acts where the
standby is in the state it speaks of and, for those that end a timer, while the timer runs.
-/
namespace Sys2Proof.Machine

/-! ### ENG.CMD -/

/-- A host write of ENG.CMD on a page that is served. -/
theorem hostWrite_engCmd (u : Fuses) (v : Nat) {d : Dev} (ho : d.pageOff 0xB5 = false) :
    hostWrite u 0xB5044 v d = engCmd (v % 2 ^ 32) d :=
  hostWrite_actsOnly (b := .ENG) (n := 0) (off := 0x44) (fs := [Reg.ENG.CMD.REPAIR, Reg.ENG.CMD.RESYNC, Reg.ENG.CMD.SWITCH])
    (by decide) ho rfl (by decide) (by decide) (by decide) rfl
    (by simp [Fld.ActsOnly, Reg.ENG.CMD.REPAIR, Reg.ENG.CMD.RESYNC, Reg.ENG.CMD.SWITCH])

/-- A host write of ENG.CMD while the page is off. -/
theorem hostWrite_engCmd_off (u : Fuses) (v : Nat) {d : Dev} (ho : d.pageOff 0xB5 = true) :
    hostWrite u 0xB5044 v d = hostRefused 0x21 0xB5044 d := hostWrite_off ho (by decide) (by decide)

theorem completes_engCmd {s : State} {c : Instr} {v : Nat} (ho : s.dev.pageOff 0xB5 = false)
    (hc : exec c s = .next { s with dev := hostWrite s.fuse 0xB5044 v s.dev }) {t : Dev} (ht : engCmd (v % 2 ^ 32) s.dev = t)
    {e : Dev → Prop} (he : e t) : Completes c s e :=
  completes_of_exec (by rwa [hostWrite_engCmd s.fuse v ho, ht] at hc) he

theorem engCmd_switch (d : Dev) : engCmd 1 d = cmdSwitch d := rfl

theorem engCmd_resync (d : Dev) : engCmd 2 d = cmdResync d := rfl

theorem engCmd_repair (d : Dev) : engCmd 4 d = cmdRepair d := rfl

/-! ### The start and the end of a resynchronisation (R247, R253) -/

theorem cmdResync_rests {d : Dev} (h0 : d.estate d.standby ≠ 0) (h5 : d.estate d.standby ≠ 5) : cmdResync d = d :=
  if_neg (not_or.mpr ⟨h0, h5⟩)

theorem resyncStart_starts {d : Dev} (hknown : d.is Reg.SYS.BRINGUP.HEALTH_KNOWN = true)
    (hgeom : d.get Reg.PRT.GEOM_OK.OK ≠ 0) (henabled : d.enabled (pg .ENGX 1) = true) (hoff : d.estate 1 = 0) :
    resyncStart d = startResync 1 d :=
  if_pos ⟨hknown, hgeom, henabled, hoff⟩

theorem resyncStart_rests {d : Dev} (h : d.is Reg.SYS.BRINGUP.HEALTH_KNOWN = false ∨ d.get Reg.PRT.GEOM_OK.OK = 0 ∨
    d.enabled (pg .ENGX 1) = false ∨ d.estate 1 ≠ 0) : resyncStart d = d := by
  refine if_neg fun ⟨hknown, hgeom, henabled, hoff⟩ => ?_
  obtain h | h | h | h := h
  · exact Bool.false_ne_true (h.symm.trans hknown)
  · exact hgeom h
  · exact Bool.false_ne_true (h.symm.trans henabled)
  · exact h hoff

theorem estate_key_ne_repairs (e : Nat) : (Reg.ENGX.STAT.ESTATE e).key ≠ (Reg.ENGX.STAT.REPAIRS e).key :=
  key_ne_of_place rfl rfl rfl

/-- A resynchronisation ends in SHADOW while the active engine is in service (R247). -/
theorem estate_resyncDone {e : Nat} (he : e < 2) {d : Dev} (hpromote : d.eng.promote = false)
    (hold : d.estate d.activeEngine ≠ 6) : (resyncDone e d).estate e = 3 := by
  have hev {g : Fld} (hg : g.OfEngines) : (d.ev .ENG 0 7).get g = d.get g := (Dev.onlyRises_ev ..).1 g hg.steady
  have hact : (d.ev .ENG 0 7).activeEngine = d.activeEngine := hev ofEngines_active
  have hshadow : ¬((d.ev .ENG 0 7).eng.promote = true ∨ (d.ev .ENG 0 7).estate (d.ev .ENG 0 7).activeEngine = 6) := by
    rw [(d.flagged_ev .ENG 0 7).eng_eq, hpromote, hact, Dev.estate, (Dev.onlyRises_ev ..).1 _ (steady_estate _)]
    exact not_or.mpr ⟨Bool.false_ne_true, hold⟩
  have hdone : resyncDone e d = endRepair e true (enterState e 3 (d.ev .ENG 0 7)) := if_neg hshadow
  have hkept {d' : Dev} : d'.EngineKept (Reg.ENGX.STAT.ESTATE e) (endRepair e true d') :=
    .endRepair (ofEngines_estate he) (.refl ..) (estate_key_ne_repairs e)
  rw [hdone, Dev.estate, hkept.get_eq]
  exact estate_enterState he (by decide) _

/-! ### Ports copied and compared (R247, R248) -/

theorem portCopy_rests {n : Nat} {d : Dev} (h : d.estate d.standby ≠ 2 ∨ 64 ≤ n ∨
    (d.engine d.standby).shadowed.contains n = true ∨ (aget n (d.engine d.standby).copied).isSome = true) :
    portCopy n d = d := by
  refine if_neg fun ⟨hstate, hn, hshadowed, hcopied⟩ => ?_
  obtain h | h | h | h := h
  · exact h hstate
  · omega
  · exact Bool.false_ne_true (hshadowed.symm.trans h)
  · rw [Option.isNone_iff_eq_none] at hcopied
    simp [hcopied] at h

/-- The cycles of a port's ring since it was copied as it had started `k` of them. -/
def Dev.ringSince (d : Dev) (n k : Nat) : List Replay := (d.port n).ring.filter fun r => decide (k < r.count)

/-- The standby takes the slice `q` of a port, which is copied no longer; the ports `xs` count as shadowed. -/
def portCompared (n : Nat) (q : Slice) (xs : List Nat) (d : Dev) : Dev :=
  (d.setEngine d.standby { (d.engine d.standby).setSlice n q with
    shadowed := xs, copied := adel n (d.engine d.standby).copied }).set (Reg.ENGX.STAT.PORTS_OK d.standby) xs.length

theorem activeEngine_portCompared (n : Nat) (q : Slice) (xs : List Nat) (d : Dev) :
    (portCompared n q xs d).activeEngine = d.activeEngine := Dev.get_set_ne _ _ (active_key_ne rfl rfl)

theorem estate_portCompared (n : Nat) (q : Slice) (xs : List Nat) (d : Dev) (e : Nat) :
    (portCompared n q xs d).estate e = d.estate e := Dev.get_set_ne _ _ (portsOk_key_ne_estate _ _).symm

theorem resyncCompare_rests {n : Nat} {d : Dev} (h : aget n (d.engine d.standby).copied = none ∨ d.estate d.standby ≠ 2)
    (eA eB : Bytes) : resyncCompare n eA eB d = d := by
  rw [resyncCompare]
  dsimp only
  split
  · rfl
  · next k hk =>
    obtain h | h := h
    · exact nomatch hk.symm.trans h
    · rw [if_pos h]

section
variable {n k : Nat} {d : Dev} (hstate : d.estate d.standby = 2) (hcopied : aget n (d.engine d.standby).copied = some k)
  (eA eB : Bytes)
include hstate hcopied

/-- More than four cycles after its copy a port is copied again. -/
theorem resyncCompare_late (hlate : k + 4 < (d.port n).cycles) :
    resyncCompare n eA eB d =
      d.setEngine d.standby { d.engine d.standby with copied := adel n (d.engine d.standby).copied } := by
  simp only [resyncCompare, hcopied]
  rw [if_neg (not_not_intro hstate), if_pos hlate]

variable (hintime : (d.port n).cycles ≤ k + 4)
include hintime

theorem resyncCompare_lost (hlost : (d.ringSince n k).length < (d.port n).cycles - k) : resyncCompare n eA eB d = d := by
  simp only [resyncCompare, hcopied]
  rw [if_neg (not_not_intro hstate), if_neg (Nat.not_lt.mpr hintime)]
  exact if_pos hlost

variable {eA eB} (hheld : (d.port n).cycles - k ≤ (d.ringSince n k).length) {r : Slice × Bytes × Bytes}
  (hsums : d.resyncSums n k = r)
include hheld hsums

/-- Equal digests mark the port as shadowed; the last one ends the resynchronisation. -/
theorem resyncCompare_equal
    (heq : crc32c (struck r.2.1 (if d.standby = 1 then eA else eB)) = crc32c (struck r.2.2 (if d.standby = 1 then eB else eA)))
    {xs : List Nat} (hxs : (if (d.engine d.standby).shadowed.contains n then (d.engine d.standby).shadowed
      else (d.engine d.standby).shadowed ++ [n]) = xs) :
    resyncCompare n eA eB d =
      if 64 ≤ xs.length then resyncDone d.standby (portCompared n r.1 xs d) else portCompared n r.1 xs d := by
  subst hsums hxs
  simp only [resyncCompare, hcopied]
  rw [if_neg (not_not_intro hstate), if_neg (Nat.not_lt.mpr hintime)]
  refine (if_neg (Nat.not_lt.mpr hheld)).trans ?_
  exact if_pos heq

/-- Unequal digests have the port copied again; the third disagreement fails the standby. -/
theorem resyncCompare_unequal
    (hne : crc32c (struck r.2.1 (if d.standby = 1 then eA else eB)) ≠
      crc32c (struck r.2.2 (if d.standby = 1 then eB else eA))) :
    resyncCompare n eA eB d =
      (if 3 ≤ tget 0 (d.engine d.standby).disagree n + 1 then fun d' =>
        endRepair d.standby false ((engineFails d.standby d').raise 0 Kind.ENG.RESYNC_FAIL { port := n }) else id)
      (d.setEngine d.standby { d.engine d.standby with
        copied := adel n (d.engine d.standby).copied
        disagree := tset 0 n (tget 0 (d.engine d.standby).disagree n + 1) (d.engine d.standby).disagree }) := by
  subst hsums
  simp only [resyncCompare, hcopied]
  rw [if_neg (not_not_intro hstate), if_neg (Nat.not_lt.mpr hintime)]
  refine (if_neg (Nat.not_lt.mpr hheld)).trans ((if_neg hne).trans ?_)
  split_ifs <;> rfl

end

/-! ### BIST windows (R249) -/

theorem bistStart_starts {d : Dev} (hvoting : d.voting = true) (hen : d.is Reg.ENG.BIST_CFG.EN = true)
    (hhold : d.is Reg.ENG.BIST_CFG.HOLD = false) :
    bistStart d = startBist d.standby (d.advanceTo (max (d.eng.shadowAt + max 1 (d.get Reg.ENG.BIST_CFG.PERIOD) * sec)
      (if d.eng.lastAt = 0 then 0 else d.eng.lastAt + sec))) :=
  if_pos ⟨hvoting, hen, hhold⟩

theorem bistStart_rests {d : Dev} (h : d.voting = false ∨ d.is Reg.ENG.BIST_CFG.EN = false ∨
    d.is Reg.ENG.BIST_CFG.HOLD = true) : bistStart d = d := by
  refine if_neg fun ⟨hvoting, hen, hhold⟩ => ?_
  obtain h | h | h := h
  · exact Bool.false_ne_true (h.symm.trans hvoting)
  · exact Bool.false_ne_true (h.symm.trans hen)
  · exact Bool.false_ne_true (hhold.symm.trans h)

/-- The device as a window of engine `e` has given its result, before the result is counted. -/
def bistResult (e : Nat) (pass : Bool) (d : Dev) : Dev :=
  ((d.put (Reg.ENGX.BIST_STAT.LAST_PASS e) pass).set (Reg.ENGX.BIST_TS.TS e) d.ts).ev .ENG 0 4

/-- A window passed: the engine resynchronises. -/
def bistPassed (e : Nat) (d : Dev) : Dev :=
  healthReport 1 (startResync e ((bistResult e true d).bump (Reg.ENGX.BIST_STAT.PASSES e) 1))

/-- A window failed: the engine is FAILED, and so is its repair. -/
def bistFailed (e : Nat) (d : Dev) : Dev :=
  endRepair e false (healthReport 1 ((engineFails e ((bistResult e false d).bump (Reg.ENGX.BIST_STAT.FAILS e) 1)).raise 0
    Kind.ENG.BIST_FAIL { master := 0x21 + e }))

section
variable {t : Nat} {d : Dev} (hdue : d.due .bistEnd = some t)
include hdue

theorem bistEnd_due (pass : Bool) : bistEnd pass d =
    if d.estate d.standby ≠ 1 then (d.advanceTo t).disarm .bistEnd
    else if pass then bistPassed d.standby ((d.advanceTo t).disarm .bistEnd)
    else bistFailed d.standby ((d.advanceTo t).disarm .bistEnd) := by
  have hstandby : d.standby = ((d.advanceTo t).disarm .bistEnd).standby := rfl
  have hestate (e : Nat) : d.estate e = ((d.advanceTo t).disarm .bistEnd).estate e := rfl
  rw [bistEnd, Dev.onTimer_some hdue, hestate, hstandby]
  generalize (d.advanceTo t).disarm .bistEnd = d'
  dsimp only
  split
  · rfl
  · cases pass with
    | true => rw [if_pos rfl, if_pos rfl, bistPassed, bistResult]
    | false => rw [if_neg Bool.false_ne_true, if_neg Bool.false_ne_true, bistFailed, bistResult]

theorem bistEnd_passed (h : d.estate d.standby = 1) :
    bistEnd true d = bistPassed d.standby ((d.advanceTo t).disarm .bistEnd) :=
  (bistEnd_due hdue true).trans (if_neg (not_not_intro h))

theorem bistEnd_failed (h : d.estate d.standby = 1) :
    bistEnd false d = bistFailed d.standby ((d.advanceTo t).disarm .bistEnd) :=
  (bistEnd_due hdue false).trans (if_neg (not_not_intro h))

theorem bistEnd_rests (h : d.estate d.standby ≠ 1) (pass : Bool) : bistEnd pass d = (d.advanceTo t).disarm .bistEnd :=
  (bistEnd_due hdue pass).trans (if_pos h)

end

theorem lastPass_key_ne (e : Nat) :
    (Reg.ENGX.BIST_STAT.LAST_PASS e).key ≠ (Reg.ENGX.BIST_TS.TS e).key ∧
      (Reg.ENGX.BIST_STAT.LAST_PASS e).key ≠ (Reg.ENGX.BIST_STAT.PASSES e).key ∧
      (Reg.ENGX.BIST_STAT.LAST_PASS e).key ≠ (Reg.ENGX.BIST_STAT.FAILS e).key ∧
      (Reg.ENGX.BIST_STAT.LAST_PASS e).key ≠ (Reg.ENGX.STAT.ESTATE e).key ∧
      (Reg.ENGX.BIST_STAT.LAST_PASS e).key ≠ (Reg.ENGX.STAT.PORTS_OK e).key ∧
      (Reg.ENGX.BIST_STAT.LAST_PASS e).key ≠ (Reg.ENGX.STAT.REPAIRS e).key := by
  refine ⟨?_, ?_, ?_, ?_, ?_, ?_⟩ <;> exact key_ne_of_place rfl rfl rfl

theorem ofEngines_lastPass {e : Nat} (he : e < 2) : (Reg.ENGX.BIST_STAT.LAST_PASS e).OfEngines := ofEngines_of_page he rfl rfl

theorem lastPass_put (e : Nat) (pass : Bool) (d : Dev) :
    (d.put (Reg.ENGX.BIST_STAT.LAST_PASS e) pass).is (Reg.ENGX.BIST_STAT.LAST_PASS e) = pass := d.is_put_same pass rfl

/-- The result of a window shows in LAST_PASS, and event 4 is set. -/
theorem bistResult_shows {e : Nat} (he : e < 2) (pass : Bool) (d : Dev) :
    (bistResult e pass d).is (Reg.ENGX.BIST_STAT.LAST_PASS e) = pass ∧ (bistResult e pass d).evRaw .ENG 0 4 = true := by
  refine ⟨?_, Dev.evRaw_ev _ _ _ (by decide)⟩
  rw [Dev.is_eq, bistResult, (Dev.onlyRises_ev ..).1 _ (ofEngines_lastPass he).steady,
    Dev.get_set_ne _ _ (lastPass_key_ne e).1, ← Dev.is_eq, lastPass_put]

theorem bistPassed_shows {e : Nat} (he : e < 2) (d : Dev) :
    (bistPassed e d).estate e = 2 ∧ (bistPassed e d).is (Reg.ENGX.BIST_STAT.LAST_PASS e) = true ∧
      (bistPassed e d).evRaw .ENG 0 4 = true := by
  obtain ⟨-, hpasses, -, hstate, hports, -⟩ := lastPass_key_ne e
  have hkept : (bistResult e true d).EngineKept (Reg.ENGX.BIST_STAT.LAST_PASS e) (bistPassed e d) :=
    .healthReport (ofEngines_lastPass he) (.startResync (ofEngines_lastPass he) (.set (.refl ..) rfl hpasses) hstate hports)
  have hreport {d' : Dev} : d'.EngineKept (Reg.ENGX.STAT.ESTATE e) (healthReport 1 d') :=
    .healthReport (ofEngines_estate he) (.refl ..)
  obtain ⟨hlast, hev⟩ := bistResult_shows he true d
  refine ⟨hreport.get_eq.trans (startResync_shows he _).1, ?_, hkept.evRaw (by decide) hev⟩
  rw [Dev.is_eq, hkept.get_eq, ← Dev.is_eq, hlast]

theorem bistFailed_shows {e : Nat} (he : e < 2) (d : Dev) :
    (bistFailed e d).estate e = 6 ∧ (bistFailed e d).is (Reg.ENGX.BIST_STAT.LAST_PASS e) = false ∧
      (bistFailed e d).evRaw .ENG 0 Kind.ENG.BIST_FAIL.bit = true := by
  obtain ⟨-, -, hfails, hstate, -, hrepairs⟩ := lastPass_key_ne e
  have hlast := ofEngines_lastPass he
  have hestate := ofEngines_estate he
  have hkept : (bistResult e false d).EngineKept (Reg.ENGX.BIST_STAT.LAST_PASS e) (bistFailed e d) :=
    .endRepair hlast (.healthReport hlast (.raise hlast (.engineFails hlast
      (.set (.set (.refl ..) rfl hfails) rfl hstate)))) hrepairs
  have hreport {g : Fld} (hg : g.OfEngines) (hk : g.key ≠ (Reg.ENGX.STAT.REPAIRS e).key) {d' : Dev} :
      d'.EngineKept g (endRepair e false (healthReport 1 d')) := .endRepair hg (.healthReport hg (.refl ..)) hk
  refine ⟨?_, ?_, ?_⟩
  · rw [Dev.estate, bistFailed, (hreport hestate (estate_key_ne_repairs e)).get_eq,
      (Dev.onlyRises_raise ..).1 _ hestate.steady]
    exact estate_engineFails he _
  · rw [Dev.is_eq, hkept.get_eq, ← Dev.is_eq]
    exact (bistResult_shows he false d).1
  · exact (hreport hestate (estate_key_ne_repairs e)).evRaw (by decide) (Dev.evRaw_raise _ 0 Kind.ENG.BIST_FAIL _ (by decide))

/-! ### Repair (R251) -/

theorem repairEngine_rests {e : Nat} {d : Dev} (h : d.estate e ≠ 6 ∨ e = d.activeEngine) : repairEngine e d = d :=
  if_neg fun ⟨hfailed, hother⟩ => h.elim (· hfailed) hother

/-- The soft reset with which the repair of engine `e` begins. -/
def repairReset (e : Nat) (d : Dev) : Dev :=
  let d := d.set (Reg.HDR.EPOCH (pg .ENGX e)) ((d.get (Reg.HDR.EPOCH (pg .ENGX e)) + 1) % 16)
  let d := (d.set (Reg.ENGX.CHK_STAT.FLAGS e) 0).set (Reg.ENGX.STAT.PORTS_OK e) 0
  (d.setEngine e { d.engine e with repairing := true, shadowed := [], copied := [], disagree := [] }).disarm (.repair e)

/-- The repair of a FAILED engine that is not active is one BIST window. -/
theorem repairEngine_starts {e : Nat} (he : e < 2) {d : Dev} (hfailed : d.estate e = 6) (hother : e ≠ d.activeEngine) :
    (repairEngine e d).estate e = 1 ∧ (repairEngine e d).running .bistEnd = true ∧
      ((repairEngine e d).engine e).repairing = true := by
  have hbist : repairEngine e d = startBist e (repairReset e d) := if_pos ⟨hfailed, hother⟩
  rw [hbist]
  refine ⟨estate_startBist he _, running_startBist e _, ?_⟩
  rw [startBist, Dev.engine_arm, (Dev.EngStoresKept.enterState (.refl _)).engine_eq, repairReset, Dev.engine_disarm,
    Dev.engine_setEngine_same]

theorem autoRepair_due {e t : Nat} {d : Dev} (hdue : d.due (.repair e) = some t) : autoRepair e d =
    if d.is Reg.ENG.CFG.AUTO_REPAIR = true ∧ d.get (Reg.ENGX.STAT.REPAIRS e) < max 1 (d.get Reg.ENG.CFG.REPAIR_MAX)
    then repairEngine e ((d.advanceTo t).disarm (.repair e)) else (d.advanceTo t).disarm (.repair e) :=
  Dev.onTimer_some hdue _

/-- A FAILED standby within its repairs is repaired one second after it failed. -/
theorem autoRepair_repairs {e t : Nat} {d : Dev} (hdue : d.due (.repair e) = some t)
    (hauto : d.is Reg.ENG.CFG.AUTO_REPAIR = true)
    (hmax : d.get (Reg.ENGX.STAT.REPAIRS e) < max 1 (d.get Reg.ENG.CFG.REPAIR_MAX)) :
    autoRepair e d = repairEngine e ((d.advanceTo t).disarm (.repair e)) :=
  (autoRepair_due hdue).trans (if_pos ⟨hauto, hmax⟩)

theorem autoRepair_rests {e t : Nat} {d : Dev} (hdue : d.due (.repair e) = some t)
    (h : d.is Reg.ENG.CFG.AUTO_REPAIR = false ∨ max 1 (d.get Reg.ENG.CFG.REPAIR_MAX) ≤ d.get (Reg.ENGX.STAT.REPAIRS e) ∨
      d.estate e ≠ 6 ∨ e = d.activeEngine) :
    autoRepair e d = (d.advanceTo t).disarm (.repair e) := by
  rw [autoRepair_due hdue]
  split_ifs with hmay
  · obtain ⟨hauto, hmax⟩ := hmay
    obtain h | h | h := h
    · exact absurd (h.symm.trans hauto) Bool.false_ne_true
    · exact absurd h (Nat.not_le.mpr hmax)
    · exact repairEngine_rests h
  · rfl

/-! ### The statement -/

/-- Settles O14. The states an engine goes through (notes/assumptions/28.md), the digest of a port without cycles since its copy
(notes/assumptions/54.md), the moment of a window (notes/assumptions/67.md), that nothing changes where the standby is in
another state or the timer does not run (notes/assumptions/56.md) and the refused page (notes/assumptions/12.md) are readings of
the model. -/
theorem resynchronisation : Obligations.Resynchronisation := by
  refine ⟨fun s hs ho h => ?_, fun s hs ho hfailed hact => ?_, fun s hs hknown hgeom hen hoff => ?_,
    fun s n hs hn hstate hshadowed hcopied => ?_, fun s n k eA eB r hs hstate hcopied hin hheld hsums heq hnew hmore => ?_,
    fun s hs hvoting hen hhold => ?_, fun s t hs hdue hbist => ?_, fun s t hs hdue hbist => ?_,
    fun s e t hs he hdue hauto hmax hfailed hother => ?_,
    fun s n k eA eB r hs hstate hcopied hin hheld hsums heq hnew hlast => ?_,
    fun s n k eA eB r hs hstate hcopied hin hheld hsums hne => ?_, fun s n k eA eB hs hstate hcopied hlate => ?_,
    fun s t hs hdue hbist => ?_, fun s t d1 hs hdue hbist h1 => ?_, fun s t p hs hdue hbist => ?_,
    fun s e t hs hdue h => ?_, fun s p hs hdue => ?_, fun s e hs hdue => ?_, fun s hs ho h0 h5 => ?_,
    fun s hs ho hfailed => ?_, fun s hs h => ?_, fun s n hs h => ?_, fun s hs h => ?_, fun s n eA eB hs h => ?_,
    fun s n k eA eB hs hstate hcopied hin hlost => ?_,
    fun s n k eA eB r d1 hs hstate hcopied hin hheld hsums heq hagain h1 => ?_, fun s hs ho => ?_⟩
  · exact completes_engCmd ho (exec_engResync hs) ((engCmd_resync _).trans (if_pos h))
      ⟨rfl, startResync_shows (standby_lt _) _⟩
  · refine completes_engCmd ho (exec_engRepair hs) ((engCmd_repair _).trans (if_pos hfailed)) ⟨rfl, ?_⟩
    refine repairEngine_starts (standby_lt _) ?_ ?_
    · rwa [Dev.estate, Dev.get_set_ne _ _ (estate_key_ne_repairs _)]
    · rw [Dev.activeEngine, Dev.get_set_ne _ _ (active_key_ne rfl rfl)]
      exact standby_ne_active hact
  · obtain ⟨hstate, hnone, -⟩ := startResync_shows (e := 1) (by decide) s.dev
    refine completes_of_exec (exec_resyncStart hs) ⟨resyncStart_starts hknown hgeom hen hoff, ?_⟩
    rw [resyncStart_starts hknown hgeom hen hoff]
    exact ⟨hstate, hnone⟩
  · exact completes_of_exec (exec_resyncPortCopy hs n) (if_pos ⟨hstate, hn, hshadowed, by rw [hcopied]; rfl⟩)
  · refine completes_of_exec (exec_resyncCompare hs n eA eB) ?_
    rw [resyncCompare_equal hstate hcopied hin hheld hsums heq (if_neg (Bool.eq_false_iff.mp hnew)), portCompared,
      List.length_append]
    exact if_neg (by simp; omega)
  · refine completes_of_exec (exec_bistWindowStart hs) ⟨bistStart_starts hvoting hen hhold, ?_⟩
    rw [bistStart_starts hvoting hen hhold]
    exact ⟨estate_startBist (standby_lt _) _, running_startBist ..⟩
  · refine completes_of_exec (exec_bistWindowEnd hs true) ?_
    rw [bistEnd_passed hdue hbist]
    exact bistPassed_shows (standby_lt _) _
  · refine completes_of_exec (exec_bistWindowEnd hs false) ?_
    rw [bistEnd_failed hdue hbist]
    exact bistFailed_shows (standby_lt _) _
  · refine completes_of_exec (exec_autoRepair hs e) ⟨autoRepair_repairs hdue hauto hmax, ?_⟩
    obtain ⟨hstate, htimer, -⟩ := repairEngine_starts (d := (s.dev.advanceTo t).disarm (.repair e)) he hfailed hother
    rw [autoRepair_repairs hdue hauto hmax]
    exact ⟨hstate, htimer⟩
  · have hlen : ((s.dev.engine s.dev.standby).shadowed ++ [n]).length = 64 := by rw [List.length_append, hlast]; rfl
    refine completes_of_exec (exec_resyncCompare hs n eA eB) ?_
    rw [resyncCompare_equal hstate hcopied hin hheld hsums heq (if_neg (Bool.eq_false_iff.mp hnew)),
      if_pos (Nat.le_of_eq hlen.symm)]
    refine ⟨by rw [portCompared, hlen], fun hpromote hold => estate_resyncDone (standby_lt _) hpromote ?_⟩
    rwa [activeEngine_portCompared, estate_portCompared]
  · exact completes_of_exec (exec_resyncCompare hs n eA eB) (resyncCompare_unequal hstate hcopied hin hheld hsums hne)
  · exact completes_of_exec (exec_resyncCompare hs n eA eB) (resyncCompare_late hstate hcopied eA eB hlate)
  · exact completes_of_exec (exec_bistWindowEnd hs true) (bistEnd_passed hdue hbist)
  · subst h1
    exact completes_of_exec (exec_bistWindowEnd hs false) (bistEnd_failed hdue hbist)
  · exact completes_of_exec (exec_bistWindowEnd hs p) (bistEnd_rests hdue hbist p)
  · exact completes_of_exec (exec_autoRepair hs e) (autoRepair_rests hdue h)
  · exact completes_of_exec (exec_bistWindowEnd hs p) (Dev.onTimer_none hdue _)
  · exact completes_of_exec (exec_autoRepair hs e) (Dev.onTimer_none hdue _)
  · exact completes_engCmd ho (exec_engResync hs) ((engCmd_resync _).trans (cmdResync_rests h0 h5)) rfl
  · exact completes_engCmd ho (exec_engRepair hs) ((engCmd_repair _).trans (if_neg hfailed)) rfl
  · exact completes_of_exec (exec_resyncStart hs) (resyncStart_rests h)
  · exact completes_of_exec (exec_resyncPortCopy hs n) (portCopy_rests h)
  · exact completes_of_exec (exec_bistWindowStart hs) (bistStart_rests h)
  · exact completes_of_exec (exec_resyncCompare hs n eA eB) (resyncCompare_rests h eA eB)
  · exact completes_of_exec (exec_resyncCompare hs n eA eB) (resyncCompare_lost hstate hcopied eA eB hin hlost)
  · subst h1
    exact completes_of_exec (exec_resyncCompare hs n eA eB)
      (resyncCompare_equal hstate hcopied hin hheld hsums heq (if_pos hagain))
  · intro k hk
    simp only [List.mem_cons, List.not_mem_nil, or_false] at hk
    obtain rfl | rfl := hk
    · exact completes_of_exec (exec_engResync hs) (hostWrite_engCmd_off s.fuse 2 ho)
    · exact completes_of_exec (exec_engRepair hs) (hostWrite_engCmd_off s.fuse 4 ho)

end Sys2Proof.Machine
end

section
/-!
PROOF. Engine checks, the watchdog and failover (O13; R242, R243, R245). The flags of a check are noted first; which engines they
fall on then decides (`engineCheck_eq`), and what a failover or a loss does afterwards leaves the states they give the engines.
-/
namespace Sys2Proof.Machine

/-! ### The two engines -/

/-- What the standby has is what the active engine has not. -/
theorem ite_standby {d : Dev} (hact : d.activeEngine < 2) (x y : Nat) :
    (if d.standby = 0 then x else y) = if d.activeEngine = 0 then y else x := by
  rw [Dev.standby]
  obtain h | h : d.activeEngine = 0 ∨ d.activeEngine = 1 := by omega
  · simp [h]
  · simp [h]

/-- What is exchanged twice is as it was. -/
theorem ite_exchanged (p : Prop) [Decidable p] (x y : Nat) :
    (if p then (if p then x else y) else (if p then y else x)) = x := by
  split <;> rfl

/-! ### Flags (R242) -/

/-- The flags of engine `e` on the cycle that a port has built, since the slice started it; 0 without such a cycle. -/
def Dev.cycleFlags (d : Dev) (n e : Nat) : Nat :=
  match (d.port n).built with
  | some c => nth 0 c.flags e
  | none => 0

/-- The device as the checkers of a port's slice have flagged `fA` on engine A and `fB` on engine B. -/
def checkFlagged (n fA fB : Nat) (d : Dev) : Dev := noteFlags n fA fB (flagEngine n 1 fB (flagEngine n 0 fA d))

theorem flagEngine_zero (n e : Nat) (d : Dev) : flagEngine n e 0 d = d := rfl

theorem flagEngine_port (n e flags m : Nat) (d : Dev) : (flagEngine n e flags d).port m = d.port m := by
  rw [flagEngine]
  split
  · rfl
  · rw [Dev.port, (Dev.flagged_raise ..).trg_eq]
    rfl

theorem Cycle.bothFlagged_eq_false {c : Cycle} {e : Nat} (he : e < 2) (h : nth 0 c.flags e = 0) : c.bothFlagged = false := by
  obtain rfl | rfl : e = 0 ∨ e = 1 := by omega
  · simp [Cycle.bothFlagged, h]
  · simp [Cycle.bothFlagged, h]

/-- An engine on whose slice nothing is flagged is not flagged together with the other. -/
theorem bothFlagged_checkFlagged {n fA fB e : Nat} {d : Dev} (he : e < 2) (hold : d.cycleFlags n e = 0)
    (hnew : (if e = 0 then fA else fB) % 32 = 0) : (checkFlagged n fA fB d).bothFlagged n = false := by
  have hport : (flagEngine n 1 fB (flagEngine n 0 fA d)).port n = d.port n := by rw [flagEngine_port, flagEngine_port]
  rw [Dev.bothFlagged, checkFlagged, noteFlags, onBuilt, Dev.port_setPort_same, hport]
  cases hb : (d.port n).built with
  | none => rfl
  | some c =>
    have hc : nth 0 c.flags e = 0 := by simpa [Dev.cycleFlags, hb] using hold
    refine Cycle.bothFlagged_eq_false he ?_
    dsimp only
    split
    · obtain rfl | rfl : e = 0 ∨ e = 1 := by omega
      · simp_all [nth]
      · simp_all [nth]
    · exact hc

/-- Flags of the standby alone are flags of one engine. -/
theorem flagEngine_standby {n f : Nat} {d : Dev} (hact : d.activeEngine < 2) :
    flagEngine n 1 (if d.activeEngine = 0 then f else 0) (flagEngine n 0 (if d.activeEngine = 0 then 0 else f) d) =
      flagEngine n d.standby f d := by
  rw [Dev.standby]
  obtain h | h : d.activeEngine = 0 ∨ d.activeEngine = 1 := by omega
  · simp [h, flagEngine_zero]
  · simp [h, flagEngine_zero]

/-- The flags of an engine show in its page, and raise ENGINE_CHECK. -/
theorem flagEngine_shows {e f : Nat} (he : e < 2) (hf : f % 32 ≠ 0) (n : Nat) (d : Dev) :
    (flagEngine n e f d).get (Reg.ENGX.CHK_STAT.FLAGS e) = (d.get (Reg.ENGX.CHK_STAT.FLAGS e) ||| f % 32) % 32 ∧
      (flagEngine n e f d).evRaw .ENG 0 Kind.ENG.ENGINE_CHECK.bit = true := by
  have hflags : (Reg.ENGX.CHK_STAT.FLAGS e).key ≠ (Reg.ENGX.STAT.FLAG_PORT e).key := key_ne_of_place rfl rfl rfl
  rw [flagEngine, if_neg hf]
  refine ⟨?_, Dev.evRaw_raise _ 0 Kind.ENG.ENGINE_CHECK _ (by decide)⟩
  dsimp only
  rw [(Dev.onlyRises_raise ..).1 _ (ofEngines_of_page he rfl rfl).steady, Dev.get_set_ne _ _ hflags, Dev.get_set_same]
  rfl

/-- Of the fields of the engines, the flags of a check change FLAGS and FLAG_PORT alone. -/
theorem engineKept_checkFlagged {g : Fld} (hg : g.OfEngines) (hflags : ∀ e, g.key ≠ (Reg.ENGX.CHK_STAT.FLAGS e).key)
    (hport : ∀ e, g.key ≠ (Reg.ENGX.STAT.FLAG_PORT e).key) (n fA fB : Nat) (d : Dev) :
    d.EngineKept g (checkFlagged n fA fB d) :=
  .noteFlags (.flagEngine hg (.flagEngine hg (.refl ..) (hflags 0) (hport 0)) (hflags 1) (hport 1))

theorem activeEngine_checkFlagged (n fA fB : Nat) (d : Dev) : (checkFlagged n fA fB d).activeEngine = d.activeEngine :=
  (engineKept_checkFlagged ofEngines_active (fun _ => active_key_ne rfl rfl) (fun _ => active_key_ne rfl rfl) ..).get_eq

theorem standby_checkFlagged (n fA fB : Nat) (d : Dev) : (checkFlagged n fA fB d).standby = d.standby :=
  congrArg (1 - ·) (activeEngine_checkFlagged ..)

theorem estate_checkFlagged {e : Nat} (he : e < 2) (n fA fB : Nat) (d : Dev) : (checkFlagged n fA fB d).estate e = d.estate e :=
  (engineKept_checkFlagged (ofEngines_estate he) (fun _ => key_ne_of_place rfl rfl rfl)
    (fun _ => key_ne_of_place rfl rfl rfl) ..).get_eq

theorem autoResync_checkFlagged (n fA fB : Nat) (d : Dev) :
    (checkFlagged n fA fB d).is Reg.ENG.CFG.AUTO_RESYNC = d.is Reg.ENG.CFG.AUTO_RESYNC := by
  rw [Dev.is_eq, (engineKept_checkFlagged ofEngines_autoResync (fun _ => key_ne_of_place rfl rfl rfl)
    (fun _ => key_ne_of_place rfl rfl rfl) ..).get_eq, ← Dev.is_eq]

/-! ### A failover (R243, R245) -/

theorem swapSlices_regs (old new : Nat) (d : Dev) : (swapSlices old new d).regs = d.regs :=
  List.foldlRecOn (motive := fun (e : Dev) => e.regs = d.regs) _ _ rfl fun _ he _ _ => he

/-- The registers as the standby takes over from the active engine, which goes to SHADOW at once where that is to be its state. -/
def takenOver (fin : Nat) (d : Dev) : Dev :=
  let d' := (d.set Reg.ENG.STAT.ACTIVE d.standby).set (Reg.ENGX.STAT.ESTATE d.standby) 4
  if fin = 3 then d'.set (Reg.ENGX.STAT.ESTATE d.activeEngine) 3 else d'

theorem get_active_takenOver (fin : Nat) (d : Dev) : (takenOver fin d).get Reg.ENG.STAT.ACTIVE = d.standby := by
  have hset : ((d.set Reg.ENG.STAT.ACTIVE d.standby).set (Reg.ENGX.STAT.ESTATE d.standby) 4).get Reg.ENG.STAT.ACTIVE =
      d.standby := by
    rw [Dev.get_set_ne _ _ (active_key_ne rfl rfl), Dev.get_set_same]
    exact Nat.mod_eq_of_lt (standby_lt d)
  rw [takenOver]
  split
  · rw [Dev.get_set_ne _ _ (active_key_ne rfl rfl), hset]
  · exact hset

/-- A failover shows the takeover in the engines' fields, and raises FAILOVER. -/
theorem failover_kept {g : Fld} (hg : g.OfEngines) (fin : Nat) (d : Dev) :
    (takenOver fin d).EngineKept g (failover fin d) ∧ (failover fin d).evRaw .ENG 0 Kind.ENG.FAILOVER.bit = true := by
  unfold failover
  extract_lets old new busy d1 d2 d3 x d4 d5 d6
  have hstores : d1.regs = d.regs :=
    List.foldlRecOn (motive := fun (e : Dev) => e.regs = d.regs) _ _ (swapSlices_regs old new d) fun e he n _ => by
      dsimp only
      split
      · exact he
      · exact he
  have htaken : d3.regs = (takenOver fin d).regs := by
    simp only [d3, d2, old, new, takenOver]
    split
    · simp only [Dev.set, hstores]
    · simp only [Dev.set, hstores]
  have hraised : (takenOver fin d).EngineKept g d5 :=
    .raise hg (.beside hg (.engSync hg (.setEng (.regs (.refl ..) htaken))) (by decide))
  have hev : d5.evRaw .ENG 0 Kind.ENG.FAILOVER.bit = true :=
    Dev.evRaw_raise ((engSync d4).bump Reg.ENG.FAILOVER_CNT.COUNT 1) 0 Kind.ENG.FAILOVER { arg := old } (by decide)
  have hrepeat : d5.EngineKept g d6 := by
    refine .foldl ?_ (.refl ..)
    exact fun _ _ he => he.cplMayRepeat hg
  have hrest : d5.EngineKept g (if busy = [] then armOverlap d6 else d6) := by
    split
    · exact hrepeat.arm
    · exact hrepeat
  exact ⟨hraised.trans hrest, hrest.evRaw (by decide) hev⟩

/-- The engines after a failover (R243). -/
theorem failover_shows {fin : Nat} {d : Dev} (hact : d.activeEngine < 2) :
    (failover fin d).activeEngine = d.standby ∧ (failover fin d).estate d.standby = 4 ∧
      (fin = 3 → (failover fin d).estate d.activeEngine = 3) ∧
      (failover fin d).evRaw .ENG 0 Kind.ENG.FAILOVER.bit = true := by
  have hne := standby_ne_active hact
  have hkept {g : Fld} (hg : g.OfEngines) : (failover fin d).get g = (takenOver fin d).get g :=
    (failover_kept hg fin d).1.get_eq
  refine ⟨?_, ?_, fun h3 => ?_, (failover_kept ofEngines_active fin d).2⟩
  · rw [Dev.activeEngine, hkept ofEngines_active, get_active_takenOver]
  · rw [Dev.estate, hkept (ofEngines_estate (standby_lt d)), takenOver]
    split
    · rw [Dev.get_set_ne _ _ (estate_key_ne hne)]
      exact estate_set (by decide) _
    · exact estate_set (by decide) _
  · rw [Dev.estate, hkept (ofEngines_estate hact), takenOver, if_pos h3]
    exact estate_set (by decide) _

/-! ### An engine lost (R238, R241, R250) -/

theorem engineLost_raises (d : Dev) : (engineLost d).evRaw .ENG 0 Kind.ENG.ENGINE_LOST.bit = true := by
  have hkept {d' : Dev} {arg port : Nat} {ports : List Nat} :
      d'.EngineKept Reg.ENG.STAT.ACTIVE (loseProvider arg port ports d') := .loseProvider (.refl ..)
  rw [engineLost]
  exact hkept.evRaw (by decide) (Dev.evRaw_raise _ 0 Kind.ENG.ENGINE_LOST _ (by decide))

theorem estate_engineLost {e : Nat} (he : e < 2) (d : Dev) : (engineLost d).estate e = d.estate e :=
  (Dev.EngineKept.engineLost (ofEngines_estate he) (.refl ..)).get_eq

theorem estate_engineFails_ne {e x : Nat} (he : e < 2) (h : e ≠ x) (d : Dev) : (engineFails x d).estate e = d.estate e := by
  rw [engineFails, Dev.estate_arm, Dev.estate, (engineKept_enterState (ofEngines_estate he) ..).get_eq,
    d.get_set_ne _ (estate_key_ne h)]
  rfl

/-- Both engines lost. -/
theorem bothLost_shows (d : Dev) :
    (engineLost (engineFails 1 (engineFails 0 d))).estate 0 = 6 ∧
      (engineLost (engineFails 1 (engineFails 0 d))).estate 1 = 6 ∧
      (engineLost (engineFails 1 (engineFails 0 d))).evRaw .ENG 0 Kind.ENG.ENGINE_LOST.bit = true := by
  refine ⟨?_, ?_, engineLost_raises _⟩
  · rw [estate_engineLost (by decide), estate_engineFails_ne (by decide) (by decide), estate_engineFails (by decide)]
  · rw [estate_engineLost (by decide), estate_engineFails (by decide)]

/-- The active engine loses while the standby shadows: a failover. -/
theorem activeLoses_voting {n : Nat} {d : Dev} (h : d.estate d.standby = 3) : activeLoses n d = failover 6 d := if_pos h

/-- The active engine loses while no standby shadows: it fails, and no engine feeds the ports. -/
theorem activeLoses_shows {n : Nat} {d : Dev} (hact : d.activeEngine < 2) (h : d.estate d.standby ≠ 3) :
    (activeLoses n d).estate d.activeEngine = 6 ∧ (activeLoses n d).evRaw .ENG 0 Kind.ENG.ENGINE_LOST.bit = true := by
  unfold activeLoses
  extract_lets s d1 d2 d3
  have hlost : d2.estate d.activeEngine = 6 ∧ d2.activeEngine = d.activeEngine := by
    have hkept : d.EngineKept Reg.ENG.STAT.ACTIVE d2 := .engineLost ofEngines_active
      (.engineFails ofEngines_active (.set (.regs (.refl ..) rfl) rfl (active_key_ne rfl rfl)))
    exact ⟨(estate_engineLost hact d1).trans (estate_engineFails hact _), hkept.get_eq⟩
  have hraised : d2.evRaw .ENG 0 Kind.ENG.ENGINE_LOST.bit = true := engineLost_raises d1
  obtain ⟨hfailed, hd2⟩ := hlost
  clear_value d2
  rw [if_neg h]
  split
  · have hother : d.activeEngine ≠ d3.standby := by
      rw [← hd2]
      exact (standby_ne_active (d := d2) (by rwa [hd2])).symm
    have hkept {x : Eng} : d2.EngineKept (Reg.ENGX.STAT.ESTATE d.activeEngine) (startResync d3.standby { d3 with eng := x }) :=
      .startResync (ofEngines_estate hact) (.setEng (.regs (.refl ..) rfl)) (estate_key_ne hother)
        (portsOk_key_ne_estate _ _).symm
    exact ⟨hkept.get_eq.trans hfailed, hkept.evRaw (by decide) hraised⟩
  · exact ⟨hfailed, hraised⟩

/-! ### Checks (R242) -/

section
variable {n fA fB fa fs : Nat} {d d0 : Dev} (hfa : (if d.activeEngine = 0 then fA else fB) = fa)
  (hfs : (if d.activeEngine = 0 then fB else fA) = fs) (h0 : checkFlagged n fA fB d = d0)
include hfa hfs h0

/-- What a check does once its flags `fa` of the active engine and `fs` of the standby are noted. -/
theorem engineCheck_eq : engineCheck n fA fB d =
    if fa % 32 = 0 ∧ fs % 32 = 0 then d0
    else if d0.bothFlagged n = true ∨ (d.voting = true ∧ fa % 32 ≠ 0 ∧ fs % 32 ≠ 0) then
      engineLost (engineFails 1 (engineFails 0 d0))
    else if fa % 32 ≠ 0 then activeLoses n d0
    else if d.voting then if fs % 8 ≠ 0 then engineFails d0.standby d0 else suspect d0.standby d0
    else d0 := by
  subst hfa hfs h0
  rfl

/-- Without flags nothing follows. -/
theorem engineCheck_clean (ha : fa % 32 = 0) (hs : fs % 32 = 0) : engineCheck n fA fB d = d0 :=
  (engineCheck_eq hfa hfs h0).trans (if_pos ⟨ha, hs⟩)

/-- Flags of both engines, in one check or in several on one cycle, lose both. -/
theorem engineCheck_both (hany : fa % 32 ≠ 0 ∨ fs % 32 ≠ 0)
    (hboth : d0.bothFlagged n = true ∨ (d.voting = true ∧ fa % 32 ≠ 0 ∧ fs % 32 ≠ 0)) :
    engineCheck n fA fB d = engineLost (engineFails 1 (engineFails 0 d0)) := by
  rw [engineCheck_eq hfa hfs h0, if_neg (by omega), if_pos hboth]

variable (hone : ¬(d0.bothFlagged n = true ∨ (d.voting = true ∧ fa % 32 ≠ 0 ∧ fs % 32 ≠ 0)))
include hone

theorem engineCheck_active (ha : fa % 32 ≠ 0) : engineCheck n fA fB d = activeLoses n d0 := by
  rw [engineCheck_eq hfa hfs h0, if_neg (by omega), if_neg hone, if_pos ha]

variable (ha : fa % 32 = 0) (hs : fs % 32 ≠ 0)
include ha hs

theorem engineCheck_standby (hv : d.voting = true) :
    engineCheck n fA fB d = if fs % 8 ≠ 0 then engineFails d0.standby d0 else suspect d0.standby d0 := by
  rw [engineCheck_eq hfa hfs h0, if_neg (by omega), if_neg hone, if_neg (not_not_intro ha), if_pos hv]

theorem engineCheck_unvoted (hv : d.voting = false) : engineCheck n fA fB d = d0 := by
  rw [engineCheck_eq hfa hfs h0, if_neg (by omega), if_neg hone, if_neg (not_not_intro ha), hv]
  rfl

end

/-- The device as flags `f` of the standby alone are noted. -/
def standbyFlagged (n f : Nat) (d : Dev) : Dev :=
  checkFlagged n (if d.activeEngine = 0 then 0 else f) (if d.activeEngine = 0 then f else 0) d

/-- The device as flags `f` of the active engine alone are noted. -/
def activeFlagged (n f : Nat) (d : Dev) : Dev :=
  checkFlagged n (if d.activeEngine = 0 then f else 0) (if d.activeEngine = 0 then 0 else f) d

section
variable {n f : Nat} {d : Dev} (hact : d.activeEngine < 2) (hf : f % 32 ≠ 0)
include hact hf

/-- The flags of the standby, once noted, show in its page and raise ENGINE_CHECK. -/
theorem standbyFlagged_shows : (standbyFlagged n f d).get (Reg.ENGX.CHK_STAT.FLAGS d.standby) =
      (d.get (Reg.ENGX.CHK_STAT.FLAGS d.standby) ||| f % 32) % 32 ∧
    (standbyFlagged n f d).evRaw .ENG 0 Kind.ENG.ENGINE_CHECK.bit = true := by
  rw [standbyFlagged, checkFlagged, flagEngine_standby hact]
  exact flagEngine_shows (standby_lt d) hf n d

/-- Flags of the standby alone, no flag of the active engine being held. -/
theorem engineCheck_standbyAlone (hold : d.cycleFlags n d.activeEngine = 0) :
    engineCheck n (if d.activeEngine = 0 then 0 else f) (if d.activeEngine = 0 then f else 0) d =
      if d.voting then (if f % 8 ≠ 0 then engineFails d.standby else suspect d.standby) (standbyFlagged n f d)
      else standbyFlagged n f d := by
  have hone : ¬((standbyFlagged n f d).bothFlagged n = true ∨ (d.voting = true ∧ 0 % 32 ≠ 0 ∧ f % 32 ≠ 0)) := by
    rw [standbyFlagged, bothFlagged_checkFlagged hact hold (by rw [ite_exchanged])]
    simp
  cases hv : d.voting with
  | false => exact engineCheck_unvoted (ite_exchanged ..) (ite_exchanged ..) rfl hone rfl hf hv
  | true =>
    have hstandby : (standbyFlagged n f d).standby = d.standby := standby_checkFlagged ..
    rw [engineCheck_standby (ite_exchanged ..) (ite_exchanged ..) rfl hone rfl hf hv, ← standbyFlagged, hstandby, if_pos rfl]
    split_ifs <;> rfl

/-- Flags of the active engine alone, no flag of the standby being held. -/
theorem engineCheck_activeAlone (hold : d.cycleFlags n d.standby = 0) :
    engineCheck n (if d.activeEngine = 0 then f else 0) (if d.activeEngine = 0 then 0 else f) d =
      activeLoses n (activeFlagged n f d) := by
  have hone : ¬((activeFlagged n f d).bothFlagged n = true ∨ (d.voting = true ∧ f % 32 ≠ 0 ∧ 0 % 32 ≠ 0)) := by
    rw [activeFlagged, bothFlagged_checkFlagged (standby_lt d) hold (by rw [ite_standby hact, ite_exchanged])]
    simp
  exact engineCheck_active (ite_exchanged ..) (ite_exchanged ..) rfl hone hf

end

theorem activeEngine_activeFlagged (n f : Nat) (d : Dev) : (activeFlagged n f d).activeEngine = d.activeEngine :=
  activeEngine_checkFlagged ..

theorem standby_activeFlagged (n f : Nat) (d : Dev) : (activeFlagged n f d).standby = d.standby := standby_checkFlagged ..

theorem estate_activeFlagged_standby (n f : Nat) (d : Dev) :
    (activeFlagged n f d).estate (activeFlagged n f d).standby = d.estate d.standby := by
  rw [standby_activeFlagged]
  exact estate_checkFlagged (standby_lt d) ..

theorem voting_iff (d : Dev) : d.voting = true ↔ d.estate d.standby = 3 := beq_iff_eq

section
variable {n f : Nat} {d : Dev} (hact : d.activeEngine < 2) (hf : f % 32 ≠ 0) (hold : d.cycleFlags n d.standby = 0)
include hact hf hold

/-- Voted, flags of the active engine alone fail over to the standby (R243). -/
theorem engineCheck_failsOver (hv : d.voting = true) {d' : Dev}
    (hd' : engineCheck n (if d.activeEngine = 0 then f else 0) (if d.activeEngine = 0 then 0 else f) d = d') :
    d' = failover 6 (activeFlagged n f d) ∧ d'.activeEngine = d.standby ∧ d'.estate d.standby = 4 := by
  have hshadow : (activeFlagged n f d).estate (activeFlagged n f d).standby = 3 :=
    (estate_activeFlagged_standby n f d).trans ((voting_iff d).mp hv)
  obtain ⟨hactive, hstate, -⟩ := failover_shows (fin := 6) (d := activeFlagged n f d) (by rwa [activeEngine_activeFlagged])
  rw [standby_activeFlagged] at hactive hstate
  rw [← hd', engineCheck_activeAlone hact hf hold, activeLoses_voting hshadow]
  exact ⟨rfl, hactive, hstate⟩

/-- Not voted, flags of the active engine alone lose it, and with it every engine (R241). -/
theorem engineCheck_loses (hv : d.voting = false) {d' : Dev}
    (hd' : engineCheck n (if d.activeEngine = 0 then f else 0) (if d.activeEngine = 0 then 0 else f) d = d') :
    d' = activeLoses n (activeFlagged n f d) ∧ d'.estate d.activeEngine = 6 ∧
      d'.evRaw .ENG 0 Kind.ENG.ENGINE_LOST.bit = true := by
  have hunvoted : (activeFlagged n f d).estate (activeFlagged n f d).standby ≠ 3 := by
    rw [estate_activeFlagged_standby, Ne, ← voting_iff, hv]
    exact Bool.false_ne_true
  have hshows := activeLoses_shows (n := n) (d := activeFlagged n f d) (by rwa [activeEngine_activeFlagged]) hunvoted
  rw [activeEngine_activeFlagged] at hshows
  rw [← hd', engineCheck_activeAlone hact hf hold]
  exact ⟨rfl, hshows⟩

end

/-- A standby with flags is FAILED, with its repair due, or SUSPECT; its flags stay to be read. -/
theorem standbyAnswer_kept {n f : Nat} {d : Dev} (hact : d.activeEngine < 2) (hf : f % 32 ≠ 0) {d' : Dev}
    (h : d' = (if f % 8 ≠ 0 then engineFails d.standby else suspect d.standby) (standbyFlagged n f d)) :
    (f % 8 ≠ 0 → d'.estate d.standby = 6 ∧ d'.running (.repair d.standby) = true) ∧
      d'.get (Reg.ENGX.CHK_STAT.FLAGS d.standby) = (d.get (Reg.ENGX.CHK_STAT.FLAGS d.standby) ||| f % 32) % 32 ∧
      d'.evRaw .ENG 0 Kind.ENG.ENGINE_CHECK.bit = true := by
  have hflags : (Reg.ENGX.CHK_STAT.FLAGS d.standby).OfEngines := ofEngines_of_page (standby_lt d) rfl rfl
  have hestate : (Reg.ENGX.CHK_STAT.FLAGS d.standby).key ≠ (Reg.ENGX.STAT.ESTATE d.standby).key := key_ne_of_place rfl rfl rfl
  have hports : (Reg.ENGX.CHK_STAT.FLAGS d.standby).key ≠ (Reg.ENGX.STAT.PORTS_OK d.standby).key :=
    key_ne_of_place rfl rfl rfl
  have hkept : (standbyFlagged n f d).EngineKept (Reg.ENGX.CHK_STAT.FLAGS d.standby) d' := by
    rw [h]
    split
    · exact .engineFails hflags (.set (.refl ..) rfl hestate)
    · exact .suspect hflags (.refl ..) hestate hports
  obtain ⟨hshown, hraised⟩ := standbyFlagged_shows (n := n) hact hf
  refine ⟨fun h8 => ?_, hkept.get_eq.trans hshown, hkept.evRaw (by decide) hraised⟩
  rw [h, if_pos h8]
  exact ⟨estate_engineFails (standby_lt d) _, running_engineFails ..⟩

/-- The watchdog's flag 4 alone makes a standby that shadows SUSPECT (R242). -/
theorem engineCheck_suspects {n : Nat} {d : Dev} (hact : d.activeEngine < 2) (hv : d.voting = true)
    (hold : d.cycleFlags n d.activeEngine = 0) {d' : Dev}
    (hd' : engineCheck n (if d.activeEngine = 0 then 0 else 16) (if d.activeEngine = 0 then 16 else 0) d = d') :
    d' = suspect d.standby (standbyFlagged n 16 d) ∧ d'.evRaw .ENG 0 Kind.ENG.ENGINE_CHECK.bit = true ∧
      (d.is Reg.ENG.CFG.AUTO_RESYNC = false → d'.estate d.standby = 5) := by
  have hflag : 16 % 32 ≠ 0 := by decide
  have h := hd'.symm.trans ((engineCheck_standbyAlone hact hflag hold).trans (if_pos hv))
  obtain ⟨-, -, hraised⟩ := standbyAnswer_kept hact hflag h
  have hsuspect : d' = suspect d.standby (standbyFlagged n 16 d) := h.trans (congrFun (if_neg (by decide)) _)
  refine ⟨hsuspect, hraised, fun hauto => ?_⟩
  rw [hsuspect]
  exact estate_suspect (standby_lt _) ((autoResync_checkFlagged ..).trans hauto)

/-! ### The serialisers and the end of the overlap (R243, R245) -/

theorem serialiserSwitch_switches {n : Nat} {d : Dev} (h : d.eng.switching.contains n = true) :
    serialiserSwitch n d = (if d.eng.switching.filter (· != n) = [] then armOverlap else id)
      { d with eng := { d.eng with switching := d.eng.switching.filter (· != n) } } := by
  rw [serialiserSwitch, if_pos h]
  dsimp only
  split <;> rfl

/-- At the end of the overlap the old engine enters its state. -/
def overlapOver (old fin : Nat) : Dev → Dev :=
  if fin = 6 then engineFails old else if fin = 3 then id else enterState old fin

theorem overlapOver_stores (old fin : Nat) (d : Dev) :
    (overlapOver old fin d).eng.overlap = d.eng.overlap ∧
      (overlapOver old fin d).due .failoverOverlap = d.due .failoverOverlap := by
  have henter (s : Nat) : d.EngStoresKept (enterState old s d) := .enterState (.refl d)
  have hdue {d' : Dev} (h : d.EngStoresKept d') : d'.due .failoverOverlap = d.due .failoverOverlap := by
    rw [Dev.due, Dev.due, h.time_eq]
  rw [overlapOver]
  split_ifs
  · exact ⟨(henter 6).overlap_eq, (Dev.due_arm_ne _ (by simp) _).trans (hdue (henter 6))⟩
  · exact ⟨rfl, rfl⟩
  · exact ⟨(henter fin).overlap_eq, hdue (henter fin)⟩

theorem evRaw_healthReport (reason : Nat) (d : Dev) : (healthReport reason d).evRaw .ENG 0 5 = true := by
  rw [healthReport]
  exact (Dev.EngineKept.setEng (.refl Reg.ENG.STAT.ACTIVE _)).evRaw (by decide) (Dev.evRaw_ev _ _ _ (by decide))

/-- Without an overlap nothing but the end of the timer happens. -/
theorem overlapEnd_rests {t : Nat} {d : Dev} (hdue : d.due .failoverOverlap = some t) (h : d.eng.overlap = none) :
    overlapEnd d = (d.advanceTo t).disarm .failoverOverlap := by
  have heng : ((d.advanceTo t).disarm .failoverOverlap).eng.overlap = none := h
  rw [overlapEnd, Dev.onTimer_some hdue]
  dsimp only
  rw [heng]

section
variable {old fin t : Nat} {d : Dev} (hdue : d.due .failoverOverlap = some t) (h : d.eng.overlap = some (old, fin))
include hdue h

/-- The overlap ends with the old engine in its state and a health report. -/
theorem overlapEnd_ends : overlapEnd d = healthReport 2 (overlapOver old fin
    { (d.advanceTo t).disarm .failoverOverlap with eng := { d.eng with overlap := none } }) := by
  have heng : ((d.advanceTo t).disarm .failoverOverlap).eng.overlap = some (old, fin) := h
  rw [overlapEnd, Dev.onTimer_some hdue]
  dsimp only
  rw [heng, overlapOver]
  dsimp only
  split_ifs <;> rfl

theorem overlapEnd_shows : (overlapEnd d).eng.overlap = none ∧ (overlapEnd d).running .failoverOverlap = false ∧
    (overlapEnd d).evRaw .ENG 0 5 = true ∧ (fin = 6 → old < 2 → (overlapEnd d).estate old = 6) := by
  obtain ⟨d0, hends, hnone, hstopped⟩ : ∃ d0 : Dev, overlapEnd d = healthReport 2 (overlapOver old fin d0) ∧
      d0.eng.overlap = none ∧ d0.due .failoverOverlap = none :=
    ⟨_, overlapEnd_ends hdue h, rfl, Dev.due_disarm_same (d.advanceTo t) .failoverOverlap⟩
  obtain ⟨hover, htimer⟩ := overlapOver_stores old fin d0
  rw [hends]
  have hreport : (overlapOver old fin d0).EngStoresKept (healthReport 2 (overlapOver old fin d0)) := .healthReport (.refl _)
  refine ⟨?_, ?_, evRaw_healthReport .., fun hfin hold => ?_⟩
  · rw [hreport.overlap_eq, hover, hnone]
  · rw [Dev.running, Dev.due, hreport.time_eq, ← Dev.due, htimer, hstopped]
    rfl
  · rw [Dev.estate, (Dev.EngineKept.healthReport (ofEngines_estate hold) (.refl ..)).get_eq, overlapOver, if_pos hfin]
    exact estate_engineFails hold d0

end

/-! ### The statement -/

/-- Settles O13. That the old engine is ACTIVE to the end of the overlap, and what becomes of a SUSPECT standby
(notes/assumptions/28.md), that nothing changes without the flags, the timer or the overlap (notes/assumptions/56.md) and the
refused page (notes/assumptions/12.md) are readings of the model. -/
theorem engineFailures : Obligations.EngineFailures := by
  refine ⟨fun s n f hs hact hv hf hold => ?_, fun s n f hs hact hv hf hold => ?_, fun s n fA fB hs hact hv hA hB => ?_,
    fun s n f hs hact hv hf hold => ?_, fun s n f hs hact hv hf hold => ?_, fun s n hs hact hv hold => ?_,
    fun s n hs hact hv hold => ?_, fun s n hs hact hv hold => ?_, fun s n hs hin => ?_, fun s n hs hout => ?_,
    fun s old fin t hs hdue hov => ?_, fun s hs ho hv hact => ?_, fun s hs ho hv => ?_,
    fun s n fA fB fa fs d0 hs hfa hfs h0 ha hb => ?_, fun s n fA fB fa fs d0 hs hfa hfs h0 hany hboth => ?_,
    fun s n fA fB fa fs d0 hs hfa hfs h0 ha hone => ?_, fun s n fA fB fa fs d0 hs hfa hfs h0 ha h8 hv hone => ?_,
    fun s n fA fB fa fs d0 hs hfa hfs h0 ha hb h8 hv hone => ?_, fun s n fA fB fa fs d0 hs hfa hfs h0 ha hb hv hone => ?_,
    fun s n e fa fs d0 hs hfa hfs h0 hany hboth => ?_, fun s n e fa fs d0 hs hfa hfs h0 ha hone => ?_,
    fun s n e fa fs d0 hs hfa hfs h0 ha hb h8 hv hone => ?_, fun s n e fa fs d0 hs hfa hfs h0 ha hb hv hone => ?_,
    fun s hs hdue => ?_, fun s t hs hdue hov => ?_, fun s hs ho => ?_⟩
  · have h := (engineCheck_standbyAlone hact hf hold).trans (if_pos hv)
    exact completes_of_exec (exec_engineCheck hs ..) ⟨h, standbyAnswer_kept hact hf h⟩
  · exact completes_of_exec (exec_engineCheck hs ..) (engineCheck_failsOver hact hf hold hv rfl)
  · have h : engineCheck n fA fB s.dev = engineLost (engineFails 1 (engineFails 0 (checkFlagged n fA fB s.dev))) := by
      refine engineCheck_both rfl rfl rfl ?_ ?_
      · split
        · exact .inl hA
        · exact .inr hA
      · split
        · exact .inr ⟨hv, hA, hB⟩
        · exact .inr ⟨hv, hB, hA⟩
    refine completes_of_exec (exec_engineCheck hs n fA fB) ⟨h, ?_⟩
    rw [h]
    exact bothLost_shows _
  · exact completes_of_exec (exec_engineCheck hs ..) (engineCheck_loses hact hf hold hv rfl)
  · exact completes_of_exec (exec_engineCheck hs ..) ((engineCheck_standbyAlone hact hf hold).trans (if_neg (by simp [hv])))
  · have hx := exec_engineWatchdog hs n s.dev.standby
    rw [ite_standby hact, ite_standby hact] at hx
    exact completes_of_exec hx (engineCheck_suspects hact hv hold rfl)
  · obtain ⟨h, hactive, -⟩ := engineCheck_failsOver hact (by decide : 16 % 32 ≠ 0) hold hv rfl
    exact completes_of_exec (exec_engineWatchdog hs n s.dev.activeEngine) ⟨h, hactive⟩
  · exact completes_of_exec (exec_engineWatchdog hs n s.dev.activeEngine)
      (engineCheck_loses hact (by decide : 16 % 32 ≠ 0) hold hv rfl).1
  · refine completes_of_exec (exec_serialiserSwitch hs n) ⟨serialiserSwitch_switches hin, fun hlast => ?_⟩
    rw [serialiserSwitch_switches hin, if_pos hlast]
    exact Dev.running_arm_same ..
  · exact completes_of_exec (exec_serialiserSwitch hs n) (if_neg (by rw [hout]; exact Bool.false_ne_true))
  · exact completes_of_exec (exec_failoverOverlapEnd hs) ⟨overlapEnd_ends hdue hov, overlapEnd_shows hdue hov⟩
  · refine completes_engCmd ho (exec_engSwitch hs) ((engCmd_switch _).trans (if_pos hv)) ⟨rfl, ?_⟩
    obtain ⟨hactive, hnew, hold, hraised⟩ := failover_shows (fin := 3) hact
    exact ⟨hactive, hnew, hold rfl, hraised⟩
  · exact completes_engCmd ho (exec_engSwitch hs) ((engCmd_switch _).trans (if_neg (by simp [hv]))) rfl
  · exact completes_of_exec (exec_engineCheck hs ..) (engineCheck_clean hfa hfs h0 ha hb)
  · exact completes_of_exec (exec_engineCheck hs ..) (engineCheck_both hfa hfs h0 hany hboth)
  · exact completes_of_exec (exec_engineCheck hs ..) (engineCheck_active hfa hfs h0 hone ha)
  · exact completes_of_exec (exec_engineCheck hs ..)
      ((engineCheck_standby hfa hfs h0 hone ha (by omega) hv).trans (if_pos h8))
  · exact completes_of_exec (exec_engineCheck hs ..)
      ((engineCheck_standby hfa hfs h0 hone ha hb hv).trans (if_neg (not_not_intro h8)))
  · exact completes_of_exec (exec_engineCheck hs ..) (engineCheck_unvoted hfa hfs h0 hone ha hb hv)
  · exact completes_of_exec (exec_engineWatchdog hs ..) (engineCheck_both hfa hfs h0 hany hboth)
  · exact completes_of_exec (exec_engineWatchdog hs ..) (engineCheck_active hfa hfs h0 hone ha)
  · exact completes_of_exec (exec_engineWatchdog hs ..)
      ((engineCheck_standby hfa hfs h0 hone ha hb hv).trans (if_neg (not_not_intro h8)))
  · exact completes_of_exec (exec_engineWatchdog hs ..) (engineCheck_unvoted hfa hfs h0 hone ha hb hv)
  · exact completes_of_exec (exec_failoverOverlapEnd hs) (Dev.onTimer_none hdue _)
  · exact completes_of_exec (exec_failoverOverlapEnd hs) (overlapEnd_rests hdue hov)
  · intro k hk
    obtain rfl := List.mem_singleton.mp hk
    exact completes_of_exec (exec_engSwitch hs) (hostWrite_engCmd_off s.fuse 1 ho)

end Sys2Proof.Machine
end

section
/-!
PROOF. What leaves the encoder channels alone (chapter 11): an edge delivered to TRG (R97, R276), a sheet edge given to the
queues (R87) and a change of the position source (R120) touch neither the channels' stores nor their registers, and let none of
their events fall (`Dev.EncKept`).
-/
namespace Sys2Proof.Machine

/-! ### Fields and their places -/

/-- A register field of the encoder channels or of their common page (Tables 11.2, 11.3). -/
def Fld.OfEnc (g : Fld) : Prop := g.own = true ∧ 0x90 ≤ g.page ∧ g.page < 0x95

/-- A field that lies before or behind the pages of the encoders. -/
def Fld.BesideEnc (f : Fld) : Prop := f.key < 0x90 * 4096 * 64 ∨ 0x95 * 4096 * 64 ≤ f.key

theorem Fld.besideEnc_of_page {f : Fld} (h : 0x95 ≤ f.page) : f.BesideEnc := by
  simp only [Fld.BesideEnc, Fld.key]
  omega

theorem Fld.OfEnc.key_ne {f g : Fld} (hg : g.OfEnc) (hf : f.BesideEnc) : g.key ≠ f.key := by
  obtain ⟨ho, hlow, hhigh⟩ := hg
  rw [Fld.own_iff] at ho
  simp only [Fld.BesideEnc, Fld.key] at hf ⊢
  omega

theorem Fld.OfEnc.steady {g : Fld} (hg : g.OfEnc) : g.Steady := by
  obtain ⟨ho, hlow, hhigh⟩ := hg
  rw [Fld.own_iff] at ho
  simp only [Fld.Steady, Fld.key, Reg.SED.LOST.COUNT, List.mem_cons, List.not_mem_nil, or_false]
  omega

theorem evRaw_key_ne_beside {f : Fld} {page : Nat} (hlow : 0x90 ≤ page) (hhigh : page < 0x95) (hf : f.BesideEnc) :
    (Reg.HDR.EV_RAW page).key ≠ f.key := by
  simp only [Fld.BesideEnc, Fld.key, Reg.HDR.EV_RAW] at hf ⊢
  omega

/-! ### The encoders left alone -/

/-- The encoder channels are as they were: their stores, their registers, and no event of theirs has fallen. -/
structure Dev.EncKept (d d' : Dev) : Prop where
  encs : d'.encs = d.encs
  get_eq : ∀ g : Fld, g.OfEnc → d'.get g = d.get g
  raised : ∀ page, 0x90 ≤ page → page < 0x95 → ∀ i < 32, (d.get (Reg.HDR.EV_RAW page)).testBit i = true →
    (d'.get (Reg.HDR.EV_RAW page)).testBit i = true

theorem Dev.Flagged.encs_eq {d d' : Dev} (h : d.Flagged d') : d'.encs = d.encs := by
  obtain ⟨⟨r, f, s, e, l, o, rfl⟩, -⟩ := h; rfl

namespace Dev.EncKept

variable {f : Fld} {a b d d' : Dev} {n p v : Nat}

theorem refl (d : Dev) : d.EncKept d := ⟨rfl, fun _ _ => rfl, fun _ _ _ _ _ h => h⟩

theorem trans (h : a.EncKept b) (k : b.EncKept d) : a.EncKept d :=
  ⟨k.encs.trans h.encs, fun g hg => (k.get_eq g hg).trans (h.get_eq g hg),
    fun page hl hh i hi hb => k.raised page hl hh i hi (h.raised page hl hh i hi hb)⟩

theorem enc (h : a.EncKept d) (k : Nat) : d.enc k = a.enc k := by rw [Dev.enc, Dev.enc, h.encs]

theorem is (h : a.EncKept d) {g : Fld} (hg : g.OfEnc) : d.is g = a.is g := by rw [Dev.is_eq, Dev.is_eq, h.get_eq g hg]

theorem bitOf (h : a.EncKept d) {g : Fld} (hg : g.OfEnc) (i : Nat) : d.bitOf g i = a.bitOf g i := by
  rw [Dev.bitOf, Dev.bitOf, h.get_eq g hg]

theorem evRaw (h : a.EncKept d) {k bit : Nat} (hk : k < 4) (hi : bit < 32) (hb : a.evRaw .ENC k bit = true) :
    d.evRaw .ENC k bit = true := by
  have hpage : pg .ENC k = 0x91 + k := rfl
  exact h.raised _ (by omega) (by omega) bit hi hb

/-- What lies neither in the register file nor in the channels' stores changes. -/
theorem regs (h : a.EncKept d) (hr : d'.regs = d.regs) (he : d'.encs = d.encs) : a.EncKept d' :=
  h.trans ⟨he, fun g _ => Dev.get_of_regs hr g, fun page _ _ i _ hb => by rwa [Dev.get_of_regs hr]⟩

/-- A field of another page takes a value. -/
theorem set (h : a.EncKept d) (hf : f.BesideEnc) : a.EncKept (d.set f v) :=
  h.trans ⟨rfl, fun _ hg => d.get_set_ne v (hg.key_ne hf),
    fun _ hl hh i _ hb => by rwa [d.get_set_ne v (evRaw_key_ne_beside hl hh hf)]⟩

theorem put {x : Bool} (h : a.EncKept d) (hf : f.BesideEnc) : a.EncKept (d.put f x) := h.set hf

theorem bump {x : Nat} (h : a.EncKept d) (hf : f.BesideEnc) : a.EncKept (d.bump f x) := h.set hf

theorem onlyRises (h : a.EncKept d) (k : d.OnlyRises d') (he : d'.encs = d.encs) : a.EncKept d' :=
  h.trans ⟨he, fun g hg => k.1 g hg.steady, fun page _ _ => k.2 page⟩

theorem ev {m : Blk} {bit : Nat} (h : a.EncKept d) : a.EncKept (d.ev m n bit) :=
  h.onlyRises (d.onlyRises_ev ..) (d.flagged_ev ..).encs_eq

theorem raise {k : FKind} {x : FArg} (h : a.EncKept d) : a.EncKept (d.raise n k x) :=
  h.onlyRises (d.onlyRises_raise ..) (d.flagged_raise ..).encs_eq

theorem broadcast {t : Nat} {bs : Bytes} (h : a.EncKept d) : a.EncKept (d.broadcast t bs) :=
  h.regs (d.broadcast_regs ..) (d.flagged_broadcast ..).encs_eq

/-- Either of two ways. -/
theorem ite {c : Prop} [Decidable c] (h : a.EncKept d) (k : a.EncKept d') : a.EncKept (if c then d else d') := by
  split
  · exact h
  · exact k

theorem bringup {on : Bool} (h : a.EncKept d) (hf : f.BesideEnc) : a.EncKept (d.bringup f on) :=
  .ite h (.ite (h.put hf).ev.ev (.ite (h.put hf).ev.ev (h.put hf).ev))

theorem foldl {α : Type} {op : Dev → α → Dev} {l : List α} (h : a.EncKept d)
    (hop : ∀ d x, a.EncKept d → a.EncKept (op d x)) : a.EncKept (l.foldl op d) :=
  List.foldlRecOn (motive := fun e => a.EncKept e) l op h fun e he x _ => hop e x he

theorem setPlane {q : Plane} (h : a.EncKept d) : a.EncKept (d.setPlane p q) := h.regs rfl rfl

theorem setPort {q : PortFire} (h : a.EncKept d) : a.EncKept (d.setPort n q) := h.regs rfl rfl

theorem setTrg {x : Trg} (h : a.EncKept d) : a.EncKept { d with trg := x } := h.regs rfl rfl

theorem setJob {j : Job} (h : a.EncKept d) : a.EncKept (d.setJob p j) := h.setPlane

/-! ### Completion records and descriptors (R81, R92 to R94) -/

theorem ueFound {master access s : Nat} (h : a.EncKept d) : a.EncKept (ueFound master access d s) := by
  have hcount : a.EncKept (d.bump Reg.BAS.UE_CNT.COUNT 1) := h.bump (.inl (by decide))
  have haddr : a.EncKept ((((d.bump Reg.BAS.UE_CNT.COUNT 1).put Reg.BAS.UE_ADDR.VALID true).set Reg.BAS.UE_ADDR.MASTER
      master).set Reg.BAS.UE_ADDR.ADDR (32 * s)) :=
    ((hcount.put (.inl (by decide))).set (.inl (by decide))).set (.inl (by decide))
  exact (hcount.ite haddr).raise

theorem basinWrite {addr cls master : Nat} {bs : Bytes} (h : a.EncKept d) : a.EncKept (d.basinWrite addr bs cls master) := by
  rw [Dev.basinWrite]
  split
  · exact h
  · exact .regs (h.foldl fun _ _ he => he.ueFound) rfl rfl

theorem cplWriteBy {engine plane kind job line arg status : Nat} (h : a.EncKept d) :
    a.EncKept (cplWriteBy engine plane kind job line arg status d) := by
  unfold Machine.cplWriteBy
  extract_lets tail host base bs d1 d2
  have h1 : a.EncKept d1 := .ite (h.regs rfl rfl) h.basinWrite
  have h2 : a.EncKept d2 := h1.set (.inr (by decide))
  exact .ite (h.bump (.inr (by decide))).raise (h2.regs rfl rfl)

theorem cplMayRepeat {engine plane kind job line arg status : Nat} (h : a.EncKept d) :
    a.EncKept (cplMayRepeat engine plane kind job line arg status d) :=
  .ite (cplWriteBy (d := d.drawn) (h.regs rfl rfl)) (h.regs rfl rfl)

theorem cplWrite {plane kind job line arg status : Nat} (h : a.EncKept d) :
    a.EncKept (cplWrite plane kind job line arg status d) := by
  unfold Machine.cplWrite
  extract_lets d1
  have h1 : a.EncKept d1 := h.cplWriteBy
  split
  · exact .ite h1.cplMayRepeat h1
  · exact h1

theorem writeBack {idx status fired skipped late : Nat} (h : a.EncKept d) :
    a.EncKept (writeBack p idx status fired skipped late d) := .ite h.basinWrite.basinWrite h

/-! ### The tally of job lines and the end of jobs (R86, R89, R92, R109) -/

theorem flushRun {j : Job} (h : a.EncKept d) : a.EncKept (flushRun p j d).2 := by
  unfold Machine.flushRun
  split
  · exact h
  · exact .ite h.cplWrite.ev h.cplWrite

theorem rotationCount (h : a.EncKept d) : a.EncKept (rotationCount p d) := by
  have hset {x : Nat} : a.EncKept (d.set Reg.MSK.ROT_STAT.COPIES x) := h.set (.inr (by decide))
  have hturn {x y : Nat} : a.EncKept (((d.set Reg.MSK.ROT_STAT.COPIES 0).set Reg.MSK.ROT_STAT.ROT_R x).set
      Reg.MSK.ROT_STAT.ROT_X y) := (hset.set (.inr (by decide))).set (.inr (by decide))
  exact .ite (.ite hturn.ev hset) h

theorem closeLine {j : Job} {line : Nat} {t : Tally} (h : a.EncKept d) : a.EncKept (closeLine p j line t d).2 := by
  unfold Machine.closeLine
  extract_lets j' d1 r j2 m
  have h1 : a.EncKept d1 := .ite h.rotationCount h
  split
  · split
    · split
      · exact h1
      · exact h1.flushRun
    · exact h1
  · split
    · exact h1.flushRun.cplWrite
    · exact h1.flushRun

theorem tallyRow {j : Job} {line : Nat} {skipped late : Bool} (h : a.EncKept d) :
    a.EncKept (tallyRow p j line skipped late d).2 := by
  unfold Machine.tallyRow
  extract_lets t t'
  split
  · exact h.closeLine
  · exact h

theorem headAdvance (h : a.EncKept d) : a.EncKept (headAdvance p d) := by
  have hset {x : Nat} : a.EncKept (d.set (Reg.PRT.Q_HEAD.INDEX p) x) :=
    h.set (Fld.besideEnc_of_page (by simp [Reg.PRT.Q_HEAD.INDEX]))
  exact .ite hset.ev hset

theorem finishJob {idx id status line fired skipped late : Nat} {irq hold : Bool} (h : a.EncKept d) :
    a.EncKept (finishJob p idx id status line fired skipped late irq hold d) := by
  unfold Machine.finishJob
  extract_lets d1 kept d2 d3 d4 d5
  have h2 : a.EncKept d2 := h.writeBack.cplWrite
  have h3 : a.EncKept d3 := .ite h2.ev h2
  have h4 : a.EncKept d4 := .ite h3.raise (.ite h3.raise (.ite h3.raise h3))
  have h5 : a.EncKept d5 := .ite (h4.put (Fld.besideEnc_of_page (by simp [Reg.PRT.Q_CTRL.HOLD]))) h4
  exact h5.headAdvance

theorem sigmaSync (h : a.EncKept d) : a.EncKept (sigmaSync d) := h.setTrg.put (.inr (by decide))

theorem endHead (h : a.EncKept d) : a.EncKept (endHead p d) := by
  unfold Machine.endHead
  split
  · exact h
  · exact .ite h.flushRun.setPlane.sigmaSync.finishJob h

theorem endJobs (h : a.EncKept d) : a.EncKept (endJobs p d) := h.foldl fun _ _ he => he.endHead

theorem resolveRow {skipped late : Bool} {l : RowLine} (h : a.EncKept d) : a.EncKept (resolveRow n skipped late d l) := by
  rw [Machine.resolveRow]
  split
  · exact h
  · exact h.tallyRow.setJob.endJobs

/-! ### The next cycles of the ports (R85, R105, R108, R113) -/

theorem speedSync (h : a.EncKept d) : a.EncKept (speedSync d) := .ite h (h.put (.inr (by decide))).ev

theorem activate {j : Job} {phi : Int} (h : a.EncKept d) : a.EncKept (activate p j phi d) := h.setJob.setPlane

theorem activateNext {reach phi : Int} (h : a.EncKept d) : a.EncKept (activateNext p reach phi d) := by
  unfold Machine.activateNext
  refine .ite h ?_
  split
  · exact h
  · split
    · exact .ite h.activate h
    · exact h

theorem activateDue {reach phi : Int} (h : a.EncKept d) : a.EncKept (activateDue reach phi d) :=
  h.foldl fun _ _ he => he.foldl fun _ _ hf => hf.activateNext

theorem startPass {j : Job} {passed : Int} (h : a.EncKept d) : a.EncKept (startPass p j passed d) :=
  .activate (.put h.setTrg (.inr (by decide)))

theorem shuttleActivate {x y : Int} (h : a.EncKept d) : a.EncKept (shuttleActivate x y d) := by
  unfold Machine.shuttleActivate
  refine .ite h (h.foldl fun e q he => ?_)
  split
  · exact he
  · split
    · exact .ite he.startPass he
    · exact he

theorem schedule (h : a.EncKept d) : a.EncKept (schedule n d) := by
  unfold Machine.schedule
  extract_lets q
  refine .ite h ?_
  split
  · exact h.setPort
  · split
    · exact h
    · exact .ite h.setPort (.ite h.setPort h)

theorem scheduleAll (h : a.EncKept d) : a.EncKept (scheduleAll d) := h.foldl fun _ _ he => he.schedule

theorem nextUp (h : a.EncKept d) : a.EncKept (nextUp n d) := h.setPort.schedule

theorem discardBuilt (h : a.EncKept d) : a.EncKept (discardBuilt n d) := by
  unfold Machine.discardBuilt
  split
  · exact h
  · refine .setPort ?_
    split
    · exact h.regs rfl rfl
    · exact h.regs rfl rfl

theorem latchRot {l : RowLine} (h : a.EncKept d) : a.EncKept (latchRot d l) := by
  unfold Machine.latchRot
  split
  · exact .ite h h.setJob
  · exact h

theorem lineStarted {l : RowLine} (h : a.EncKept d) : a.EncKept (lineStarted n d l) := by
  unfold Machine.lineStarted
  split
  · exact h.setJob
  · exact h

theorem refillBand {m fuel : Nat} (h : a.EncKept d) : a.EncKept (refillBand n m fuel d) := by
  induction fuel generalizing d with
  | zero => exact h
  | succ fuel ih =>
    have hpipe {q : Pipe} : a.EncKept (Machine.refillBand n m fuel (d.setPipe n q)) := ih (h.regs rfl rfl)
    unfold Machine.refillBand
    split
    · extract_lets band
      split
      · exact h
      · refine .ite h ?_
        dsimp only
        split
        · exact .ite hpipe (.ite hpipe h)
        · exact hpipe
    · exact h

theorem refill (h : a.EncKept d) : a.EncKept (refill n d) := by
  unfold Machine.refill
  split
  · exact .foldl (h.regs rfl rfl) fun _ _ he => he.refillBand
  · exact h

theorem skipCycle {lines : List RowLine} (h : a.EncKept d) : a.EncKept (skipCycle n lines d) := by
  unfold Machine.skipCycle
  extract_lets d1 d2 d3
  have h1 : a.EncKept d1 := h.discardBuilt.bump (.inr (by decide))
  have h2 : a.EncKept d2 := (h1.foldl fun _ _ he => he.latchRot).foldl fun _ _ he => he.lineStarted
  have h3 : a.EncKept d3 := h2.foldl fun _ _ he => he.resolveRow
  exact h3.nextUp.refill.activateDue

/-! ### Edges of the position source (R97, R111, R112, R115, R276) -/

theorem skipPass {seq fuel : Nat} (h : a.EncKept d) : a.EncKept (skipPass n seq fuel d) := by
  induction fuel generalizing d with
  | zero => exact h
  | succ fuel ih =>
    unfold Machine.skipPass
    split
    · exact h
    · exact .ite (ih h.skipCycle) h

theorem endPasses (h : a.EncKept d) : a.EncKept (endPasses d) := by
  unfold Machine.endPasses
  refine h.foldl fun e p he => ?_
  refine .endJobs (.setPlane ?_)
  split
  · exact he.foldl fun _ _ hf => hf.skipPass
  · exact he

theorem unschedule (h : a.EncKept d) : a.EncKept (unschedule d) := h.foldl fun _ _ he => he.setPort

theorem edgeAt {t : Nat} {x y : Int} {vok : Bool} (h : a.EncKept d) : a.EncKept (edgeAt t x y vok d) := by
  unfold Machine.edgeAt
  extract_lets old d1 d2 sg ahead band paused beyond d3 src3 resumes need src2 d4 d5 d6
  have h2 : a.EncKept d2 := h.setTrg.sigmaSync.shuttleActivate
  have h3 : a.EncKept d3 := (h2.bump (.inr (by decide))).raise
  have h4 : a.EncKept d4 := h2.setTrg
  have h5 : a.EncKept d5 := .ite (h4.put (.inr (by decide))) h4
  have h6 : a.EncKept d6 := h5.speedSync
  refine .ite ?_ (.ite h3.endPasses.speedSync (.ite h6 h6.activateDue.scheduleAll))
  exact .speedSync (.put (.unschedule h3.setTrg) (.inr (by decide)))

theorem eoutPos {m : Nat} {x : Int} (h : a.EncKept d) : a.EncKept (eoutPos m x d) := by
  unfold Machine.eoutPos
  extract_lets src e div n' diff was room take run e' d1 th d2
  have h1 : a.EncKept d1 := h.regs rfl rfl
  have h2 : a.EncKept d2 := .ite h1.ev h1
  have hlost : a.EncKept (d2.put (Reg.EOUT.STAT.LOST m) true) :=
    h2.put (Fld.besideEnc_of_page (by simp [Reg.EOUT.STAT.LOST]; omega))
  exact .ite (h.regs rfl rfl) (.ite hlost.raise h2)

theorem trgEdge {t : Nat} {x y : Int} {vok : Bool} (h : a.EncKept d) : a.EncKept (trgEdge t x y vok d) := by
  rw [Machine.trgEdge, eoutEdge]
  exact h.edgeAt.eoutPos.eoutPos

/-! ### The position source and sheet edges (R87, R120) -/

theorem sourceState {ok : Bool} (h : a.EncKept d) : a.EncKept (sourceState ok d) := by
  unfold Machine.sourceState
  extract_lets was d1 src1 d2 src2
  have hok : a.EncKept (d.put Reg.TRG.STAT.SOURCE_OK ok) := h.put (.inr (by decide))
  have h1 : a.EncKept d1 := hok.bringup (.inl (by decide))
  have h2 : a.EncKept d2 := h1.setTrg
  exact .ite (.speedSync (.raise h2.setTrg)) h2

theorem posSync (h : a.EncKept d) : a.EncKept (posSync d) := .ite h h.sourceState

theorem takeEdge {start : Int} {edges : List Int} (h : a.EncKept d) : a.EncKept (takeEdge p start edges d).2.2 := by
  induction edges generalizing d with
  | nil => exact h
  | cons e t ih =>
    have hmissed : a.EncKept (d.bump (Reg.PRT.Q_MISSED.COUNT p) 1) :=
      h.bump (Fld.besideEnc_of_page (by simp [Reg.PRT.Q_MISSED.COUNT]))
    unfold Machine.takeEdge
    split
    · exact h
    · exact ih hmissed.raise

theorem startPos {ahead : List Job} {j : Job} (h : a.EncKept d) : a.EncKept (startPos p ahead j d).2 := by
  unfold Machine.startPos
  extract_lets q r e
  split
  · exact h
  · split
    · exact h.takeEdge.setPlane
    · exact h

theorem settleStarts (h : a.EncKept d) : a.EncKept (settleStarts p d) := by
  unfold Machine.settleStarts
  exact h.foldl fun e j he => .ite he he.startPos.setJob

theorem pushEdge {x : Int} (h : a.EncKept d) : a.EncKept (pushEdge x d) := by
  unfold Machine.pushEdge
  exact h.foldl fun e p he => .ite (.ite he.raise he.setPlane.settleStarts) he

end Dev.EncKept

end Sys2Proof.Machine
end

section
/-!
PROOF. The operations of an encoder channel (chapter 11): what each leaves of the channel's store and of its registers. A counted
edge moves the count by its weight (R258), whatever the position, the speed and TRG do with it.
-/
namespace Sys2Proof.Machine

/-! ### The registers of a channel -/

theorem Fld.ofEnc_of_page {g : Fld} {k : Nat} (hk : k < 4) (hp : g.page = 0x91 + k) (ho : g.own = true) : g.OfEnc :=
  ⟨ho, by omega, by omega⟩

theorem key_ne_evRaw {f : Fld} (hf : f.own = true) (page : Nat) : (Reg.HDR.EV_RAW page).key ≠ f.key := by
  obtain ⟨hlow, hoff, hlo⟩ := Fld.own_iff.mp hf
  exact key_ne_of_off (by omega : 0x010 ≠ f.off) hoff (by decide : 0x010 < 4096) hlo (by decide : 0 < 64)

/-- An own field of a block is no event. -/
theorem Dev.evRaw_set (d : Dev) {f : Fld} (hf : f.own = true) (v : Nat) (b : Blk) (n bit : Nat) :
    (d.set f v).evRaw b n bit = d.evRaw b n bit := by
  rw [Dev.evRaw, Dev.evRaw, d.get_set_ne v (key_ne_evRaw hf _)]

theorem Dev.is_set_ne (d : Dev) {f g : Fld} (v : Nat) (h : g.key ≠ f.key) : (d.set f v).is g = d.is g := by
  rw [Dev.is_eq, d.get_set_ne v h, Dev.is_eq]

theorem testBit_setB (v i j : Nat) : (setB v i).testBit j = (v.testBit j || decide (i = j)) := by
  rw [setB, Nat.testBit_or, Nat.testBit_two_pow]

/-- One bit of a map of `w` bits is given, the others stay. -/
theorem Dev.bitOf_putBit (d : Dev) {f : Fld} {w : Nat} (hw : f.cap = 2 ^ w) (i : Nat) (b : Bool) {j : Nat} (hj : j < w) :
    (d.putBit f i b).bitOf f j = if j = i then b else d.bitOf f j := by
  rw [Dev.bitOf, Dev.putBit_eq, Dev.get_set_same, hw, Nat.testBit_mod_two_pow, putB]
  cases b
  · simp [hj, testBit_clrB, Dev.bitOf, Bool.and_comm, eq_comm]
  · simp [hj, testBit_setB, Dev.bitOf, Bool.or_comm, eq_comm]

/-- A signed value of a field reads back as it was put there. -/
theorem ofSigned_mod (w : Nat) (i : Int) : ofSigned w i % 2 ^ w = ofSigned w i := by
  have hpos : (0 : Int) < (2 ^ w : Nat) := by exact_mod_cast Nat.two_pow_pos w
  have h0 := Int.emod_nonneg i hpos.ne'
  have h1 := Int.emod_lt_of_pos i hpos
  exact Nat.mod_eq_of_lt (by rw [ofSigned]; omega)

/-! ### The store of a channel -/

@[simp] theorem Dev.enc_set (d : Dev) (f : Fld) (v k : Nat) : (d.set f v).enc k = d.enc k := rfl

@[simp] theorem Dev.enc_put (d : Dev) (f : Fld) (v : Bool) (k : Nat) : (d.put f v).enc k = d.enc k := rfl

@[simp] theorem Dev.enc_setPos (d : Dev) (f : Fld) (p : Int) (k : Nat) : (d.setPos f p).enc k = d.enc k := rfl

@[simp] theorem Dev.enc_setEnc_same (d : Dev) (k : Nat) (e : Enc) : (d.setEnc k e).enc k = e := tget_tset_same ..

@[simp] theorem Dev.get_setEnc (d : Dev) (k : Nat) (e : Enc) (f : Fld) : (d.setEnc k e).get f = d.get f := rfl

@[simp] theorem Dev.enc_ev (d : Dev) (b : Blk) (n bit k : Nat) : (d.ev b n bit).enc k = d.enc k := by
  rw [Dev.enc, Dev.enc, (d.flagged_ev b n bit).encs_eq]

@[simp] theorem Dev.enc_raise (d : Dev) (n : Nat) (x : FKind) (a : FArg) (k : Nat) : (d.raise n x a).enc k = d.enc k := by
  rw [Dev.enc, Dev.enc, (d.flagged_raise n x a).encs_eq]

@[simp] theorem enc_setCorr (k : Nat) (c : Int) (d : Dev) (j : Nat) : (setCorr k c d).enc j = d.enc j := rfl

/-! ### UNCERTAIN -/

/-- UNCERTAIN is as it is to be already, or takes its value with event 1. -/
theorem setUncertain_cases (k : Nat) (v : Bool) (d : Dev) :
    (d.is (Reg.ENC.STAT.UNCERTAIN k) = v ∧ setUncertain k v d = d) ∨
      setUncertain k v d = (d.put (Reg.ENC.STAT.UNCERTAIN k) v).ev .ENC k 1 := by
  by_cases h : d.is (Reg.ENC.STAT.UNCERTAIN k) = v
  · exact .inl ⟨h, if_pos h⟩
  · exact .inr (if_neg h)

@[simp] theorem enc_setUncertain (k : Nat) (v : Bool) (d : Dev) (j : Nat) : (setUncertain k v d).enc j = d.enc j := by
  obtain ⟨-, h⟩ | h := setUncertain_cases k v d
  · rw [h]
  · rw [h, Dev.enc_ev, Dev.enc_put]

theorem get_setUncertain {k : Nat} (v : Bool) (d : Dev) {g : Fld} (hg : g.Steady)
    (hne : g.key ≠ (Reg.ENC.STAT.UNCERTAIN k).key) : (setUncertain k v d).get g = d.get g := by
  obtain ⟨-, h⟩ | h := setUncertain_cases k v d
  · rw [h]
  · rw [h, (Dev.onlyRises_ev ..).1 g hg, Dev.put_eq, d.get_set_ne _ hne]

theorem is_setUncertain {k : Nat} (hk : k < 4) (v : Bool) (d : Dev) : (setUncertain k v d).is (Reg.ENC.STAT.UNCERTAIN k) = v := by
  obtain ⟨hv, h⟩ | h := setUncertain_cases k v d
  · rw [h, hv]
  · rw [h, Dev.is_eq, (Dev.onlyRises_ev ..).1 _ (Fld.ofEnc_of_page hk rfl rfl).steady, ← Dev.is_eq, Dev.is_put_same _ _ rfl]

theorem evRaw_setUncertain {k : Nat} (v : Bool) {d : Dev} {b : Blk} {n bit : Nat} (hi : bit < 32) (hb : d.evRaw b n bit = true) :
    (setUncertain k v d).evRaw b n bit = true := by
  obtain ⟨-, h⟩ | h := setUncertain_cases k v d
  · rwa [h]
  · rw [h]
    refine (Dev.onlyRises_ev ..).2 _ bit hi ?_
    exact (Dev.evRaw_set d rfl _ b n bit).trans hb

/-! ### SPEED_VALID and the speed history (R270) -/

/-- SPEED_VALID is as it is to be already, or takes its value; what follows leaves the encoders alone. -/
theorem setSpeedValid_cases (k : Nat) (v : Bool) (d : Dev) :
    (d.is (Reg.ENC.STAT.SPEED_VALID k) = v ∧ setSpeedValid k v d = d) ∨
      (d.put (Reg.ENC.STAT.SPEED_VALID k) v).EncKept (setSpeedValid k v d) := by
  by_cases h : d.is (Reg.ENC.STAT.SPEED_VALID k) = v
  · exact .inl ⟨h, if_pos h⟩
  · have hev : (d.put (Reg.ENC.STAT.SPEED_VALID k) v).EncKept ((d.put (Reg.ENC.STAT.SPEED_VALID k) v).ev .ENC k 8) :=
      (Dev.EncKept.refl _).ev
    rw [setSpeedValid, if_neg h]
    exact .inr (.ite hev.setTrg.speedSync hev)

@[simp] theorem enc_setSpeedValid (k : Nat) (v : Bool) (d : Dev) (j : Nat) : (setSpeedValid k v d).enc j = d.enc j := by
  obtain ⟨-, h⟩ | h := setSpeedValid_cases k v d
  · rw [h]
  · rw [h.enc, Dev.enc_put]

theorem get_setSpeedValid {k : Nat} (v : Bool) (d : Dev) {g : Fld} (hg : g.OfEnc)
    (hne : g.key ≠ (Reg.ENC.STAT.SPEED_VALID k).key) : (setSpeedValid k v d).get g = d.get g := by
  obtain ⟨-, h⟩ | h := setSpeedValid_cases k v d
  · rw [h]
  · rw [h.get_eq g hg, Dev.put_eq, d.get_set_ne _ hne]

theorem is_setSpeedValid {k : Nat} (hk : k < 4) (v : Bool) (d : Dev) :
    (setSpeedValid k v d).is (Reg.ENC.STAT.SPEED_VALID k) = v := by
  obtain ⟨hv, h⟩ | h := setSpeedValid_cases k v d
  · rw [h, hv]
  · rw [h.is (Fld.ofEnc_of_page hk rfl rfl), Dev.is_put_same _ _ rfl]

@[simp] theorem enc_restartSpeed (k : Nat) (d : Dev) :
    (restartSpeed k d).enc k = { d.enc k with hist := [], normal := [] } := by
  rw [restartSpeed, enc_setSpeedValid, Dev.enc_setEnc_same]

theorem get_restartSpeed {k : Nat} (d : Dev) {g : Fld} (hg : g.OfEnc) (hne : g.key ≠ (Reg.ENC.STAT.SPEED_VALID k).key) :
    (restartSpeed k d).get g = d.get g := by
  rw [restartSpeed, get_setSpeedValid _ _ hg hne, Dev.get_setEnc]

theorem is_restartSpeed {k : Nat} (d : Dev) {g : Fld} (hg : g.OfEnc) (hne : g.key ≠ (Reg.ENC.STAT.SPEED_VALID k).key) :
    (restartSpeed k d).is g = d.is g := by
  rw [Dev.is_eq, get_restartSpeed d hg hne, ← Dev.is_eq]

theorem evRaw_restartSpeed {k bit : Nat} (hk : k < 4) (hi : bit < 32) {d : Dev} (hb : d.evRaw .ENC k bit = true) :
    (restartSpeed k d).evRaw .ENC k bit = true := by
  rw [restartSpeed]
  obtain ⟨-, h⟩ | h := setSpeedValid_cases k false (d.setEnc k { d.enc k with hist := [], normal := [] })
  · rwa [h]
  · exact h.evRaw hk hi ((Dev.evRaw_set _ rfl _ _ _ _).trans hb)

/-! ### Position (R266, R267) -/

/-- A position that is shown changes no more of the channel than its speed history. -/
theorem enc_showPos (k : Nat) (before : Int) (d : Dev) :
    ∃ hist normal, (showPos k before d).enc k = { d.enc k with hist, normal } := by
  have hkeep {e : Dev} (h : e.enc k = d.enc k) : ∃ hist normal, e.enc k = { d.enc k with hist, normal } := ⟨_, _, h⟩
  unfold showPos
  extract_lets e d1 lo hi side was d2 d3 d4 d5
  have h3 : d3.enc k = d.enc k := rfl
  split
  · split
    · refine hkeep ?_
      rw [enc_setSpeedValid, show d4 = if _ then _ else _ from rfl]
      split
      · rw [Dev.enc_raise, h3]
      · exact h3
    · split
      · exact ⟨[], [], by rw [enc_restartSpeed, h3]⟩
      · exact hkeep h3
  · split
    · exact hkeep rfl
    · exact hkeep (Dev.enc_ev ..)

/-- The count of one counted edge. -/
theorem cnt_moveCount (k : Nat) (dir : Int) (w : Nat) (d : Dev) :
    ((moveCount k dir w d).enc k).cnt = (d.enc k).cnt + dir * w := by
  unfold moveCount
  extract_lets e before corr step d1
  obtain ⟨hist, normal, h⟩ := enc_showPos k before (if step = 0 then d1 else setCorr k (corr - step) d1)
  have h1 : (if step = 0 then d1 else setCorr k (corr - step) d1).enc k = d1.enc k := by
    split
    · rfl
    · exact enc_setCorr ..
  rw [h, h1, Dev.enc_setEnc_same]

/-- A loaded position: the count starts again from it. -/
theorem enc_loadPos (k : Nat) (p : Int) (d : Dev) :
    ∃ hist normal, (loadPos k p d).enc k = { d.enc k with cnt := 0, base := p, absorbed := 0, hist, normal } := by
  obtain ⟨hist, normal, h⟩ := enc_showPos k p
    (setCorr k 0 (d.setEnc k { d.enc k with cnt := 0, base := p, absorbed := 0, hist := [], normal := [] }))
  exact ⟨hist, normal, by rw [loadPos, h, enc_setCorr, Dev.enc_setEnc_same]⟩

theorem cnt_speedEdge (k : Nat) (turned : Bool) (d : Dev) : ((speedEdge k turned d).enc k).cnt = (d.enc k).cnt := by
  unfold speedEdge
  extract_lets e hist d1 d2 v ok
  rw [enc_setSpeedValid, Dev.enc_set, Dev.enc_set, Dev.enc_setEnc_same]

/-! ### Counted edges (R258, R260) -/

/-- The delivery of an edge to TRG leaves the encoders alone. -/
theorem encKept_deliver (k : Nat) (d : Dev) : d.EncKept (deliver k d) := by
  have harm : d.EncKept (armStill k d) := (Dev.EncKept.refl d).regs rfl rfl
  exact .ite harm.trgEdge harm

/-- A counted edge of weight `w` moves the count by `w`. -/
theorem cnt_countEdge (k : Nat) (up : Bool) (w : Nat) (d : Dev) :
    ((countEdge k up w false d).enc k).cnt = (d.enc k).cnt + (if up = true then 1 else -1) * w := by
  unfold countEdge
  extract_lets dir still turned d1 d2 e ivl normal d3 src d4
  have h2 : d2.enc k = d.enc k := by
    rw [show d2 = d1.put _ _ from rfl, Dev.enc_put, show d1 = if _ then _ else _ from rfl]
    split
    · rw [Dev.enc_ev, Dev.enc_put]
    · rfl
  rw [if_neg (by decide), (encKept_deliver ..).enc, Dev.enc_setEnc_same, cnt_speedEdge, cnt_moveCount, h2]

/-! ### PINS -/

/-- A field that lies elsewhere than PINS reads as before when a wire takes a level. -/
theorem get_setPin {k b : Nat} {v : Bool} {d : Dev} {g : Fld} (hg : g.own = true)
    (hne : (decide (g.off = 0x9C) && decide (g.lo = 28)) = false) : (setPin k b v d).get g = d.get g :=
  d.get_set_ne _ (key_ne_of_place (f := Reg.ENC.STAT.PINS k) rfl hg hne)

theorem is_setPin {k b : Nat} {v : Bool} {d : Dev} {g : Fld} (hg : g.own = true)
    (hne : (decide (g.off = 0x9C) && decide (g.lo = 28)) = false) : (setPin k b v d).is g = d.is g := by
  rw [Dev.is_eq, get_setPin hg hne, Dev.is_eq]

theorem bitOf_setPin {k b : Nat} {v : Bool} {d : Dev} {g : Fld} (hg : g.own = true)
    (hne : (decide (g.off = 0x9C) && decide (g.lo = 28)) = false) (i : Nat) : (setPin k b v d).bitOf g i = d.bitOf g i := by
  rw [Dev.bitOf, get_setPin hg hne, Dev.bitOf]

theorem pins_setPin (k b : Nat) (v : Bool) (d : Dev) {j : Nat} (hj : j < 4) :
    (setPin k b v d).bitOf (Reg.ENC.STAT.PINS k) j = if j = b then v else d.bitOf (Reg.ENC.STAT.PINS k) j :=
  Dev.bitOf_putBit d (w := 4) rfl _ _ hj

/-- PINS of a channel reads as before. -/
def Dev.PinsKept (k : Nat) (d d' : Dev) : Prop := d'.get (Reg.ENC.STAT.PINS k) = d.get (Reg.ENC.STAT.PINS k)

namespace Dev.PinsKept

variable {k n v : Nat} {a d d' : Dev}

theorem set {f : Fld} (h : a.PinsKept k d) (hf : f.own = true) (hne : (decide (0x9C = f.off) && decide (28 = f.lo)) = false) :
    a.PinsKept k (d.set f v) := (d.get_set_ne v (key_ne_of_place (g := Reg.ENC.STAT.PINS k) hf rfl hne)).trans h

theorem kept (hk : k < 4) (h : a.PinsKept k d) (e : d.EncKept d') : a.PinsKept k d' :=
  (e.get_eq _ (Fld.ofEnc_of_page hk rfl rfl)).trans h

theorem ite {c : Prop} [Decidable c] (h : a.PinsKept k d) (h' : a.PinsKept k d') : a.PinsKept k (if c then d else d') := by
  split
  · exact h
  · exact h'

theorem setSpeedValid {b : Bool} (hk : k < 4) (h : a.PinsKept k d) : a.PinsKept k (setSpeedValid k b d) :=
  (get_setSpeedValid b d (Fld.ofEnc_of_page hk rfl rfl) (key_ne_of_place rfl rfl rfl)).trans h

theorem restartSpeed (hk : k < 4) (h : a.PinsKept k d) : a.PinsKept k (restartSpeed k d) :=
  (get_restartSpeed d (Fld.ofEnc_of_page hk rfl rfl) (key_ne_of_place rfl rfl rfl)).trans h

theorem showPos {before : Int} (hk : k < 4) (h : a.PinsKept k d) : a.PinsKept k (showPos k before d) := by
  unfold Machine.showPos
  extract_lets e d1 lo hi side was d2 d3 d4 d5
  have h1 : a.PinsKept k d1 := h.set rfl rfl
  have h3 : a.PinsKept k d3 := ((h1.set rfl rfl).set rfl rfl).set rfl rfl
  have h4 : a.PinsKept k d4 := .ite (h3.kept hk (Dev.EncKept.refl d3).raise) h3
  have h5 : a.PinsKept k d5 := h1.set rfl rfl
  exact .ite (.ite (h4.setSpeedValid hk) (.ite (h3.restartSpeed hk) h3)) (.ite h5 (h5.kept hk (Dev.EncKept.refl d5).ev))

theorem moveCount {dir : Int} {w : Nat} (hk : k < 4) (h : a.PinsKept k d) : a.PinsKept k (moveCount k dir w d) := by
  unfold Machine.moveCount
  extract_lets e before corr step d1
  have h1 : a.PinsKept k d1 := h
  have h2 : a.PinsKept k (setCorr k (corr - step) d1) := (h1.set rfl rfl).set rfl rfl
  exact showPos hk (.ite h1 h2)

theorem speedEdge {turned : Bool} (hk : k < 4) (h : a.PinsKept k d) : a.PinsKept k (speedEdge k turned d) := by
  unfold Machine.speedEdge
  extract_lets e hist d1 d2 v ok
  have h2 : a.PinsKept k d2 := .set (d := d1) h rfl rfl
  exact (h2.set rfl rfl).setSpeedValid hk

theorem setEnc {e : Enc} (h : a.PinsKept k d) : a.PinsKept k (d.setEnc k e) := h

theorem countEdge {up : Bool} {w : Nat} (hk : k < 4) (h : a.PinsKept k d) : a.PinsKept k (countEdge k up w false d) := by
  unfold Machine.countEdge
  extract_lets dir still turned d1 d2 e ivl normal d3 src d4
  have h1 : a.PinsKept k d1 := .ite (.kept hk (h.set rfl rfl) (Dev.EncKept.refl _).ev) h
  have h2 : a.PinsKept k d2 := h1.set rfl rfl
  have h3 : a.PinsKept k d3 := (h2.moveCount hk).speedEdge hk
  have h4 : a.PinsKept k d4 := h3.setEnc
  exact .kept hk h4 (encKept_deliver k d4)

end Dev.PinsKept

end Sys2Proof.Machine
end

section
/-!
PROOF. Encoder edges, the FIXED generator and the end of the position source (O11; R258, R116, R117, R110).
-/
namespace Sys2Proof.Machine

/-! ### Encoder edges (R258, R260) -/

/-- The wire an edge of A (`b` false) or B toggles. -/
def edgeWire (b : Bool) : Nat := if b = true then 2 else 3

/-- The device once the wire of an edge has toggled, before the edge is counted. -/
def wireToggled (k : Nat) (b : Bool) (d : Dev) : Dev :=
  setPin k (edgeWire b) (!d.bitOf (Reg.ENC.STAT.PINS k) (edgeWire b)) d

/-- The direction of a quadrature edge: the Gray sequence BA = 00, 01, 11, 10 rises. -/
def Dev.grayUp (d : Dev) (k : Nat) (b : Bool) : Bool :=
  (if b = true then d.bitOf (Reg.ENC.STAT.PINS k) 3 == d.bitOf (Reg.ENC.STAT.PINS k) 2
    else d.bitOf (Reg.ENC.STAT.PINS k) 3 != d.bitOf (Reg.ENC.STAT.PINS k) 2) != d.is (Reg.ENC.CFG.INVERT k)

/-- The direction of a tooth edge. -/
def Dev.toothUp (d : Dev) (k : Nat) : Bool :=
  (!d.is (Reg.ENC.CFG.DIR_SRC k) || !d.bitOf (Reg.ENC.STAT.PINS k) 2) != d.is (Reg.ENC.CFG.INVERT k)

theorem counts_wireToggled (k : Nat) (b : Bool) (d : Dev) : (wireToggled k b d).counts k = d.counts k :=
  is_setPin rfl rfl

theorem pins_wireToggled (k : Nat) (b : Bool) (d : Dev) {j : Nat} (hj : j < 4) :
    (wireToggled k b d).bitOf (Reg.ENC.STAT.PINS k) j =
      if j = edgeWire b then !d.bitOf (Reg.ENC.STAT.PINS k) (edgeWire b) else d.bitOf (Reg.ENC.STAT.PINS k) j :=
  pins_setPin k _ _ d hj

section
variable {k : Nat} {b : Bool} {d d1 : Dev} (h1 : wireToggled k b d = d1)
include h1

/-- A channel that does not count only follows its wire. -/
theorem encEdge_rests (hc : d1.counts k = false) : encEdge k b d = d1 := by subst h1; exact if_pos hc

theorem encEdge_quadrature (hc : d1.counts k = true) (hm : d1.get (Reg.ENC.CFG.MODE k) ≠ 1) :
    encEdge k b d = countEdge k (d1.grayUp k b) 1 false d1 := by
  subst h1
  have hn : ¬(wireToggled k b d).counts k = false := by rw [hc]; decide
  exact (if_neg hn).trans (if_neg hm)

/-- In tooth mode only a rising A edge is counted. -/
theorem encEdge_toothRests (hm : d1.get (Reg.ENC.CFG.MODE k) = 1) (hr : b = true ∨ d1.bitOf (Reg.ENC.STAT.PINS k) 3 = false) :
    encEdge k b d = d1 := by
  subst h1
  exact ite_eq_left_iff.mpr fun _ => (if_pos hm).trans (if_pos hr)

theorem encEdge_tooth (hc : d1.counts k = true) (hm : d1.get (Reg.ENC.CFG.MODE k) = 1) (hb : b = false)
    (ha : d1.bitOf (Reg.ENC.STAT.PINS k) 3 = true) :
    encEdge k b d = if d1.endsGap k (d1.toothUp k) = true
      then countEdge k (d1.toothUp k) (max 1 (d1.get (Reg.ENC.TOOTH.MISSING k)) + 1) true d1
      else countEdge k (d1.toothUp k) 1 false d1 := by
  subst h1
  have hn : ¬(wireToggled k b d).counts k = false := by rw [hc]; decide
  have hr : ¬(b = true ∨ (wireToggled k b d).bitOf (Reg.ENC.STAT.PINS k) 3 = false) := by rw [ha, hb]; decide
  exact (if_neg hn).trans ((if_pos hm).trans (if_neg hr))

end

/-- A counted edge of weight 1 moves the count by one. -/
theorem cnt_countEdge_one (k : Nat) (up : Bool) (d : Dev) :
    ((countEdge k up 1 false d).enc k).cnt = (d.enc k).cnt + (if up = true then 1 else -1) := by
  rw [cnt_countEdge, Nat.cast_one, mul_one]

/-- The direction of a quadrature edge from the wires before it. -/
theorem grayUp_wireToggled (k : Nat) (b : Bool) (d : Dev) :
    (wireToggled k b d).grayUp k b = ((if b = true then d.bitOf (Reg.ENC.STAT.PINS k) 3 == !d.bitOf (Reg.ENC.STAT.PINS k) 2
        else (!d.bitOf (Reg.ENC.STAT.PINS k) 3) != d.bitOf (Reg.ENC.STAT.PINS k) 2) != d.is (Reg.ENC.CFG.INVERT k)) := by
  rw [Dev.grayUp, pins_wireToggled k b d (by decide : 3 < 4), pins_wireToggled k b d (by decide : 2 < 4), wireToggled,
    is_setPin rfl rfl]
  cases b <;> rfl

/-- A quadrature edge of a channel that counts: the count moves by one, and the wire has its other level. -/
theorem encEdge_quadrature_shows {k : Nat} (hk : k < 4) (b : Bool) {d : Dev} (hc : d.counts k = true)
    (hm : d.get (Reg.ENC.CFG.MODE k) ≠ 1) :
    ((encEdge k b d).enc k).cnt = (d.enc k).cnt + (if (wireToggled k b d).grayUp k b = true then 1 else -1) ∧
      (encEdge k b d).bitOf (Reg.ENC.STAT.PINS k) (edgeWire b) = !d.bitOf (Reg.ENC.STAT.PINS k) (edgeWire b) := by
  have h := encEdge_quadrature rfl ((counts_wireToggled k b d).trans hc) ((get_setPin rfl rfl).trans_ne hm)
  rw [h]
  refine ⟨cnt_countEdge_one .., ?_⟩
  have hpins : (wireToggled k b d).PinsKept k _ := .countEdge (up := (wireToggled k b d).grayUp k b) (w := 1) hk rfl
  rw [Dev.bitOf, hpins, ← Dev.bitOf, pins_wireToggled k b d (by cases b <;> decide), if_pos rfl]

/-- A rises where it was low. -/
theorem pinA_wireToggled (k : Nat) (d : Dev) :
    (wireToggled k false d).bitOf (Reg.ENC.STAT.PINS k) 3 = !d.bitOf (Reg.ENC.STAT.PINS k) 3 :=
  (pins_wireToggled k false d (by decide)).trans (if_pos rfl)

/-- The direction of a rising A edge in tooth mode, from the wires before it. -/
theorem toothUp_wireToggled (k : Nat) (d : Dev) : (wireToggled k false d).toothUp k = d.toothUp k := by
  rw [Dev.toothUp, pins_wireToggled k false d (by decide : 2 < 4), wireToggled, is_setPin rfl rfl, is_setPin rfl rfl]
  rfl

/-! ### Writes of FIX_PERIOD (R116) -/

theorem fieldsAt_trg_fixPeriod : Blk.fieldsAt 0 0x90 .TRG = [Reg.TRG.FIX_PERIOD.TICKS, Reg.TRG.FIX_PERIOD.PHASE] := by decide

/-- The fields of FIX_PERIOD take their values in an operation of TRG, and no locked field lies beside them. -/
theorem hostWrite_fixPeriod (u : Fuses) (v : Nat) {d : Dev} (ho : d.pageOff 0xB1 = false) :
    hostWrite u 0xB1090 v d = fixPeriodWrite (v % 2 ^ 32) d := by
  have hacts : ∀ f ∈ Blk.fieldsAt 0 0x90 .TRG, f.ActsOnly 0 .TRG := by
    rw [fieldsAt_trg_fixPeriod]
    exact fun f hf => ⟨by revert f; decide, .inr (by revert f; decide)⟩
  have hblock (v : Nat) : blockWrite u Party.host .TRG 0 0x90 v d =
      fieldsWrite u Party.host .TRG 0 0x90 v (Blk.fieldsAt 0 0x90 .TRG) { raw := v, whole := some v } d := by
    have hlocked : ((Blk.fieldsAt 0 0x90 .TRG).any fun f => trgLocked.contains f && !d.guarded (pg .TRG 0) f) = false := by
      rw [fieldsAt_trg_fixPeriod]
      refine List.any_eq_false.mpr fun f hf => ?_
      have hfree : trgLocked.contains f = false := by revert f; decide
      rw [hfree]
      exact Bool.false_ne_true
    rw [blockWrite, if_neg (by rw [hlocked]; simp), if_neg (by decide), if_neg (by decide)]
  rw [hostWrite, busWrite_own (b := .TRG) (n := 0) (by decide) ho (by decide) (by decide) (by decide), hblock,
    fieldsWrite_ok (Dev.denied_nil _) (by decide), foldl_fieldWrite_actsOnly hacts]
  · rfl
  · exact List.all_eq_true.mpr fun f hf => by rw [(hacts f hf).not_guarded]; rfl

/-- Completion of a write of FIX_PERIOD on a page that is served. -/
theorem completes_fixPeriodWrite {s : State} {v : Nat} {e : Dev → Prop} (hs : s.live) (ho : s.dev.pageOff 0xB1 = false)
    (hv : v < 2 ^ 32) (he : e (fixPeriodWrite v s.dev)) : Completes (.fixPeriodWrite v) s e := by
  have h := hostWrite_fixPeriod s.fuse v ho
  rw [Nat.mod_eq_of_lt hv] at h
  exact completes_of_exec (exec_fixPeriodWrite hs v) (h.symm ▸ he)

/-- FIX_PERIOD of a device, as written. -/
def periodWritten (v : Nat) (d : Dev) : Dev := (d.set Reg.TRG.FIX_PERIOD.TICKS (v / 16)).set Reg.TRG.FIX_PERIOD.PHASE (v % 16)

theorem get_periodWritten {v : Nat} {d : Dev} {g : Fld} (h1 : g.key ≠ Reg.TRG.FIX_PERIOD.TICKS.key)
    (h2 : g.key ≠ Reg.TRG.FIX_PERIOD.PHASE.key) : (periodWritten v d).get g = d.get g :=
  (Dev.get_set_ne _ _ h2).trans (d.get_set_ne _ h1)

theorem mode_periodWritten (v : Nat) (d : Dev) : (periodWritten v d).mode = d.mode := get_periodWritten (by decide) (by decide)

theorem pitch_periodWritten (v : Nat) (d : Dev) : (periodWritten v d).pitch = d.pitch :=
  congrArg Nat.cast (get_periodWritten (by decide) (by decide))

theorem fixPeriod_periodWritten {v : Nat} (hv : v < 2 ^ 32) (d : Dev) : (periodWritten v d).fixPeriod = v := by
  have ht : (periodWritten v d).get Reg.TRG.FIX_PERIOD.TICKS = v / 16 := by
    rw [periodWritten, Dev.get_set_ne _ _ (by decide), Dev.get_set_same]
    exact Nat.mod_eq_of_lt (by rw [show Reg.TRG.FIX_PERIOD.TICKS.cap = 2 ^ 28 from rfl]; omega)
  have hp : (periodWritten v d).get Reg.TRG.FIX_PERIOD.PHASE = v % 16 := by
    rw [periodWritten, Dev.get_set_same]
    exact Nat.mod_eq_of_lt (by rw [show Reg.TRG.FIX_PERIOD.PHASE.cap = 2 ^ 4 from rfl]; omega)
  rw [Dev.fixPeriod, ht, hp]
  omega

section
variable {v : Nat} {d : Dev}

/-- Outside FIXED the period is only kept. -/
theorem fixPeriodWrite_outside (h : d.mode ≠ 5) : fixPeriodWrite v d = periodWritten v d :=
  if_pos (by rwa [← periodWritten, mode_periodWritten])

/-- A running generator takes the period at its next boundary. -/
theorem fixPeriodWrite_running (hv : v < 2 ^ 32) (h : d.mode = 5) (hr : d.trg.fixRun = true) :
    fixPeriodWrite v d = { periodWritten v d with trg := { d.trg with fixNew := some v } } := by
  have hm : (periodWritten v d).mode = 5 := (mode_periodWritten v d).trans h
  rw [fixPeriodWrite, ← periodWritten, if_neg (not_not_intro hm), if_pos (show (periodWritten v d).trg.fixRun = true from hr),
    Nat.mod_eq_of_lt hv]
  rfl

/-- A stopped generator takes no period of zero, and none before its next boundary. -/
theorem fixPeriodWrite_kept (hv : v < 2 ^ 32) (hr : d.trg.fixRun = false)
    (he : v = 0 ∨ d.time.up < d.trg.fixNext) : fixPeriodWrite v d = periodWritten v d := by
  have hn : ¬(periodWritten v d).trg.fixRun = true := by rw [show (periodWritten v d).trg = d.trg from rfl, hr]; decide
  rw [fixPeriodWrite, ← periodWritten, if_neg hn, Nat.mod_eq_of_lt hv]
  exact ite_eq_left_iff.mpr fun _ => if_pos he

/-- From its next boundary on a stopped generator takes the period at once. -/
theorem fixPeriodWrite_restarts (hv : v < 2 ^ 32) (h0 : v ≠ 0) (h : d.mode = 5) (hr : d.trg.fixRun = false)
    (hlate : d.trg.fixNext ≤ d.time.up) :
    fixPeriodWrite v d = trgEdge d.time.up (d.pitch * d.trg.fixLine) (d.fixSpeed v) true
      (({ periodWritten v d with trg := { d.trg with fixRun := true, fixNext := d.time.up + v } } : Dev).ev .TRG 0 7) := by
  have hm : (periodWritten v d).mode = 5 := (mode_periodWritten v d).trans h
  have hn : ¬(periodWritten v d).trg.fixRun = true := by rw [show (periodWritten v d).trg = d.trg from rfl, hr]; decide
  have he : ¬(v = 0 ∨ (periodWritten v d).time.up < (periodWritten v d).trg.fixNext) := fun he =>
    he.elim h0 (Nat.not_lt.mpr hlate)
  rw [fixPeriodWrite, ← periodWritten, if_neg (not_not_intro hm), if_neg hn, Nat.mod_eq_of_lt hv, if_neg he,
    ← pitch_periodWritten v d, Dev.fixSpeed, ← pitch_periodWritten v d]
  rfl

end

/-! ### The FIXED generator (R117) -/

theorem time_flagged {d d' : Dev} (h : d.Flagged d') : d'.time = d.time := by obtain ⟨⟨r, f, s, e, l, o, rfl⟩, -⟩ := h; rfl

theorem pitch_ev (d : Dev) (b : Blk) (n bit : Nat) : (d.ev b n bit).pitch = d.pitch :=
  congrArg Nat.cast ((Dev.onlyRises_ev ..).1 _ ⟨by decide, by decide, by decide, by decide⟩)

/-- The generator gives the position of a line, and its next boundary lies a period on. -/
def lineGiven (line period : Nat) (d : Dev) : Dev :=
  let d1 : Dev := { d with trg := { d.trg with fixLine := line, fixNext := d.time.up + period, fixNew := none, fixRun := period != 0 } }
  trgEdge d1.time.up (d1.pitch * line) (d1.fixSpeed period) (period != 0) d1

theorem fixedBoundary_lineGiven {d : Dev} (hm : d.mode = 5) (hr : d.trg.fixRun = true) :
    fixedBoundary d = lineGiven (d.trg.fixLine + 1) (d.trg.fixNew.getD d.fixPeriod)
      (if d.trg.fixNew.isSome = true then (d.advanceTo d.trg.fixNext).ev .TRG 0 7 else d.advanceTo d.trg.fixNext) := by
  have hgo : ¬(d.mode ≠ 5 ∨ d.trg.fixRun = false) := by rw [hm, hr]; decide
  exact if_neg hgo

/-- A line given where time, TRG and the pitch are those of `d`. -/
theorem lineGiven_of_kept {d d' : Dev} (line period : Nat) (ht : d'.time = d.time) (htrg : d'.trg = d.trg) (hp : d'.pitch = d.pitch) :
    lineGiven line period d' = trgEdge d.time.up (d.pitch * (line : Int)) (d.fixSpeed period) (period != 0)
      { d' with trg := { d.trg with fixLine := line, fixNew := none, fixRun := period != 0, fixNext := d.time.up + period } } := by
  have hspeed : d.fixSpeed period = d'.fixSpeed period := by rw [Dev.fixSpeed, Dev.fixSpeed, hp]
  rw [hspeed, ← hp, ← ht, ← htrg]
  rfl

/-- At a boundary the generator gives the next line's position, for the period in force from there on. -/
theorem fixedBoundary_delivers {d : Dev} (hm : d.mode = 5) (hr : d.trg.fixRun = true) :
    fixedBoundary d = trgEdge (d.advanceTo d.trg.fixNext).time.up (d.pitch * ((d.trg.fixLine + 1 : Nat) : Int))
        (d.fixSpeed (d.trg.fixNew.getD d.fixPeriod)) (d.trg.fixNew.getD d.fixPeriod != 0)
        { (if d.trg.fixNew.isSome = true then (d.advanceTo d.trg.fixNext).ev .TRG 0 7 else d.advanceTo d.trg.fixNext) with
          trg := { d.trg with fixLine := d.trg.fixLine + 1, fixNew := none, fixRun := d.trg.fixNew.getD d.fixPeriod != 0,
                              fixNext := (d.advanceTo d.trg.fixNext).time.up + d.trg.fixNew.getD d.fixPeriod } } := by
  refine (fixedBoundary_lineGiven hm hr).trans (lineGiven_of_kept (d := d.advanceTo d.trg.fixNext) _ _ ?_ ?_ ?_)
  · split
    · exact time_flagged (Dev.flagged_ev ..)
    · rfl
  · split
    · exact Dev.trg_ev ..
    · rfl
  · split
    · exact pitch_ev ..
    · rfl

/-- Where the generator does not run nothing is given. -/
theorem fixedBoundary_rests {d : Dev} (h : d.mode ≠ 5 ∨ d.trg.fixRun = false) : fixedBoundary d = d := if_pos h

/-- The generator starts at its moment, with the position of line 0. -/
theorem fixedStart_delivers {d : Dev} (hm : d.mode = 5) (hr : d.trg.fixRun = false) (hp : d.fixPeriod ≠ 0) :
    fixedStart d = trgEdge (d.advanceTo d.trg.fixNext).time.up 0 (d.fixSpeed d.fixPeriod) true
      (({ d.advanceTo d.trg.fixNext with trg := { d.trg with
          fixRun := true, fixNext := (d.advanceTo d.trg.fixNext).time.up + d.fixPeriod, fixLine := 0, fixNew := none, phi := 0
          pe := 0, need := 0 } } : Dev).ev .TRG 0 7) := by
  have hgo : ¬(d.mode ≠ 5 ∨ d.trg.fixRun = true ∨ d.fixPeriod = 0) := by simp [hm, hr, hp]
  exact if_neg hgo

theorem fixedStart_rests {d : Dev} (h : d.mode ≠ 5 ∨ d.trg.fixRun = true ∨ d.fixPeriod = 0) : fixedStart d = d := if_pos h

/-! ### Loss of the source (R104) -/

theorem trg_speedSync (d : Dev) : (speedSync d).trg = d.trg := by
  rw [speedSync]
  split
  · rfl
  · rw [Dev.trg_ev]; rfl

theorem is_speedSync {g : Fld} (d : Dev) (hg : g.Steady) (hne : g.key ≠ Reg.TRG.STAT.SPEED_VALID.key) :
    (speedSync d).is g = d.is g := by
  rw [speedSync]
  split
  · rfl
  · rw [Dev.is_eq, (Dev.onlyRises_ev ..).1 g hg, ← Dev.is_eq]
    exact d.is_set_ne _ hne

/-- The device with the flags of a source that is lost. -/
def sourceFlagged (d : Dev) : Dev :=
  let d1 := (d.put Reg.TRG.STAT.SOURCE_OK false).bringup Reg.SYS.BRINGUP.POS_VALID false
  { d1 with trg := { d1.trg with lost := decide (d1.mode ≠ 5) } }

theorem steady_sourceOk : Reg.TRG.STAT.SOURCE_OK.Steady := ⟨by decide, by decide, by decide, by decide⟩

theorem steady_posValid : Reg.SYS.BRINGUP.POS_VALID.Steady := ⟨by decide, by decide, by decide, by decide⟩

theorem steady_mode : Reg.SYS.MODE_STAT.MODE.Steady := ⟨by decide, by decide, by decide, by decide⟩

theorem mode_sourceFlagged (d : Dev) : (sourceFlagged d).mode = d.mode :=
  (Dev.get_bringup_ne _ _ steady_mode (by decide)).trans (d.get_set_ne _ (by decide))

/-- The source is lost: its flags fall, and outside FIXED TRG has lost its position. -/
theorem sourceState_lost_shows (d : Dev) :
    (sourceState false d).is Reg.TRG.STAT.SOURCE_OK = false ∧ (sourceState false d).is Reg.SYS.BRINGUP.POS_VALID = false ∧
      (sourceState false d).trg.lost = decide (d.mode ≠ 5) := by
  have hok : (sourceFlagged d).is Reg.TRG.STAT.SOURCE_OK = false := by
    calc (sourceFlagged d).is Reg.TRG.STAT.SOURCE_OK = (d.put Reg.TRG.STAT.SOURCE_OK false).is Reg.TRG.STAT.SOURCE_OK := by
          exact congrArg (· != 0) (Dev.get_bringup_ne _ false steady_sourceOk (by decide))
      _ = false := Dev.is_put_same _ _ rfl
  have hpos : (sourceFlagged d).is Reg.SYS.BRINGUP.POS_VALID = false := Dev.is_bringup_same _ _ steady_posValid rfl
  have hlost : (sourceFlagged d).trg.lost = decide (d.mode ≠ 5) := by rw [← mode_sourceFlagged d]; rfl
  unfold sourceState
  extract_lets was d1 d2
  split
  · refine ⟨?_, ?_, ?_⟩
    · rw [is_speedSync _ steady_sourceOk (by decide), Dev.is_raise _ _ _ _ steady_sourceOk]
      exact hok
    · rw [is_speedSync _ steady_posValid (by decide), Dev.is_raise _ _ _ _ steady_posValid]
      exact hpos
    · rw [trg_speedSync, Dev.trg_raise]
      exact hlost
  · exact ⟨hok, hpos, hlost⟩

section
variable {t : Nat} {d : Dev} (hdue : d.due .ringSource = some t)
include hdue

theorem ringSourceTimeout_loses (hsel : d.get Reg.TRG.SRC_SEL.SEL = 4) (hsrc : d.srcChannel = none) :
    ringSourceTimeout d = sourceState false ((d.advanceTo t).disarm .ringSource) :=
  (Dev.onTimer_some hdue _).trans (if_pos ⟨hsel, hsrc⟩)

/-- With another source, or a channel for it, the timer only ends. -/
theorem ringSourceTimeout_ends (h : d.get Reg.TRG.SRC_SEL.SEL ≠ 4 ∨ d.srcChannel.isSome = true) :
    ringSourceTimeout d = (d.advanceTo t).disarm .ringSource := by
  refine (Dev.onTimer_some hdue _).trans (if_neg fun ⟨hsel, hsrc⟩ => ?_)
  have hnone : d.srcChannel = none := hsrc
  exact h.elim (fun hne => hne hsel) (fun hsome => by simp [hnone] at hsome)

end

/-! ### Slow-down requests (R110) -/

/-- A request answers the skips noted, and its interval runs. -/
theorem askSlowdown_shows (n : Nat) (d : Dev) :
    (askSlowdown n d).trg.skipping = false ∧ (askSlowdown n d).running .slowdown = true :=
  ⟨rfl, Dev.running_arm_same ..⟩

section
variable {t : Nat} {d : Dev} (hdue : d.due .slowdown = some t)
include hdue

theorem slowdownRepeat_asks (h : d.trg.skipping = true) :
    slowdownRepeat d = askSlowdown 0x7F ((d.advanceTo t).disarm .slowdown) :=
  (Dev.onTimer_some hdue _).trans (if_pos h)

theorem slowdownRepeat_ends (h : d.trg.skipping = false) : slowdownRepeat d = (d.advanceTo t).disarm .slowdown :=
  (Dev.onTimer_some hdue _).trans (if_neg (ne_true_of_eq_false h))

end

/-! ### The statement -/

/-- Settles O11. The source that is lost in FIXED and the interval of the slow-down requests (notes/assumptions/23.md), that
nothing changes where the generator does not run or the timer is not armed (notes/assumptions/56.md), the passage of time
(notes/assumptions/7.md) and the refused page (notes/assumptions/12.md) are readings of the model. -/
theorem edgesAndFixedRate : Obligations.EdgesAndFixedRate := by
  refine ⟨fun s k dt b hs hk hc hm => ?_, fun s v hs ho hv hm => ?_, fun s v hs ho hv hm hr => ?_,
    fun s hs hm hr hp => ?_, fun s hs hm hr => ?_, fun s t hs hdue hsel hsrc => ?_, fun s t hs hdue hskip => ?_,
    fun s k dt b hs hk hc => ?_, fun s k dt hs hk hc hm hlow hgap => ?_, fun s k dt b hs hk hc hm hr => ?_,
    fun s v hs ho hv h0 hm hr hlate => ?_, fun s k dt b d1 hs h1 hc hm => ?_, fun s k dt d1 hs h1 hc hm ha hgap => ?_,
    fun s k dt d1 hs h1 hc hm ha hgap => ?_, fun s v hs ho hv hm hr => ?_, fun s v hs ho hv hm hr he => ?_,
    fun s t hs hdue hsrc => ?_, fun s t hs hdue hskip => ?_, fun s hs h => ?_, fun s hs h => ?_, fun s hs hdue => ?_,
    fun s hs hdue => ?_, fun s v hs ho => ?_⟩
  · obtain ⟨hcnt, hpin⟩ := encEdge_quadrature_shows hk b hc hm
    rw [grayUp_wireToggled] at hcnt
    exact completes_of_exec (exec_encoderEdge hs ..) ⟨hcnt, hpin⟩
  · exact completes_fixPeriodWrite hs ho hv (fixPeriodWrite_outside hm)
  · refine completes_fixPeriodWrite hs ho hv ?_
    rw [fixPeriodWrite_running hv hm hr]
    exact ⟨rfl, fixPeriod_periodWritten hv s.dev⟩
  · exact completes_of_exec (exec_fixedGeneratorStart hs) (fixedStart_delivers hm hr hp)
  · exact completes_of_exec (exec_syntheticLineBoundary hs) (fixedBoundary_delivers hm hr)
  · have h := ringSourceTimeout_loses hdue hsel hsrc
    refine completes_of_exec (exec_ringSourceTimeout hs) ⟨h, ?_⟩
    rw [h]
    exact sourceState_lost_shows _
  · have h := slowdownRepeat_asks hdue hskip
    refine completes_of_exec (exec_slowdownRepeat hs) ⟨h, ?_⟩
    rw [h]
    exact askSlowdown_shows ..
  · exact completes_of_exec (exec_encoderEdge hs ..) (encEdge_rests rfl ((counts_wireToggled ..).trans hc))
  · have hrise : (wireToggled k false (s.dev.advance dt)).bitOf (Reg.ENC.STAT.PINS k) 3 = true :=
      (pinA_wireToggled ..).trans (congrArg not hlow)
    have h := encEdge_tooth rfl ((counts_wireToggled ..).trans hc) ((get_setPin rfl rfl).trans hm) rfl hrise
    rw [toothUp_wireToggled, if_neg] at h
    · refine completes_of_exec (exec_encoderEdge hs ..) ?_
      rw [h]
      exact cnt_countEdge_one ..
    · have hwire : (s.dev.advance dt).putBit (Reg.ENC.STAT.PINS k) 3 true = wireToggled k false (s.dev.advance dt) :=
        congrArg ((s.dev.advance dt).putBit _ 3) (congrArg not hlow).symm
      rw [hwire] at hgap
      exact ne_true_of_eq_false hgap
  · refine completes_of_exec (exec_encoderEdge hs ..) (encEdge_toothRests rfl ((get_setPin rfl rfl).trans hm) ?_)
    cases b
    · exact .inr ((pinA_wireToggled ..).trans (congrArg not (hr.resolve_left Bool.false_ne_true)))
    · exact .inl rfl
  · exact completes_fixPeriodWrite hs ho hv (fixPeriodWrite_restarts hv h0 hm hr hlate)
  · have hd1 : wireToggled k b (s.dev.advance dt) = d1 := h1
    exact completes_of_exec (exec_encoderEdge hs ..) (encEdge_quadrature hd1 hc hm)
  · have hd1 : wireToggled k false (s.dev.advance dt) = d1 := h1
    have h := (encEdge_tooth hd1 hc hm rfl ha).trans (if_neg (ne_true_of_eq_false hgap))
    exact completes_of_exec (exec_encoderEdge hs ..) h
  · have hd1 : wireToggled k false (s.dev.advance dt) = d1 := h1
    have h := (encEdge_tooth hd1 hc hm rfl ha).trans (if_pos hgap)
    exact completes_of_exec (exec_encoderEdge hs ..) h
  · exact completes_fixPeriodWrite hs ho hv (fixPeriodWrite_running hv hm hr)
  · exact completes_fixPeriodWrite hs ho hv (fixPeriodWrite_kept hv hr he)
  · exact completes_of_exec (exec_ringSourceTimeout hs) (ringSourceTimeout_ends hdue hsrc)
  · exact completes_of_exec (exec_slowdownRepeat hs) (slowdownRepeat_ends hdue hskip)
  · exact completes_of_exec (exec_fixedGeneratorStart hs) (fixedStart_rests h)
  · exact completes_of_exec (exec_syntheticLineBoundary hs) (fixedBoundary_rests h)
  · exact completes_of_exec (exec_ringSourceTimeout hs) (Dev.onTimer_none hdue _)
  · exact completes_of_exec (exec_slowdownRepeat hs) (Dev.onTimer_none hdue _)
  · intro k hk
    obtain rfl := List.mem_singleton.mp hk
    exact completes_of_exec (exec_fixPeriodWrite hs v) (hostWrite_off ho (by decide) (by decide))

end Sys2Proof.Machine
end

section
/-!
PROOF. Noise and the index of an encoder channel (O20; R259, R262 to R265).
-/
namespace Sys2Proof.Machine

/-! ### Registers of a channel, for every number of it -/

/-- A field on the page of a channel is steady, whatever the channel's number. -/
theorem steady_enc {g : Fld} {k : Nat} (ho : g.own = true) (hp : g.page = 0x91 + k) : g.Steady := by
  rw [Fld.own_iff] at ho
  simp only [Fld.Steady, Fld.key, Reg.SED.LOST.COUNT, List.mem_cons, List.not_mem_nil, or_false]
  omega

theorem get_ev_enc (d : Dev) (b : Blk) (n bit : Nat) {g : Fld} {k : Nat} (ho : g.own = true) (hp : g.page = 0x91 + k) :
    (d.ev b n bit).get g = d.get g := (Dev.onlyRises_ev ..).1 g (steady_enc ho hp)

theorem is_ev_enc (d : Dev) (b : Blk) (n bit : Nat) {g : Fld} {k : Nat} (ho : g.own = true) (hp : g.page = 0x91 + k) :
    (d.ev b n bit).is g = d.is g := by rw [Dev.is_eq, get_ev_enc d b n bit ho hp, ← Dev.is_eq]

theorem get_raise_enc (d : Dev) (n : Nat) (x : FKind) (a : FArg) {g : Fld} {k : Nat} (ho : g.own = true) (hp : g.page = 0x91 + k) :
    (d.raise n x a).get g = d.get g := (Dev.onlyRises_raise ..).1 g (steady_enc ho hp)

/-- Another own field takes a value. -/
theorem get_set_place {f g : Fld} (d : Dev) (v : Nat) (hf : f.own = true) (hg : g.own = true)
    (hne : (decide (g.off = f.off) && decide (g.lo = f.lo)) = false) : (d.set f v).get g = d.get g :=
  d.get_set_ne v (key_ne_of_place hf hg hne)

theorem is_set_place {f g : Fld} (d : Dev) (v : Nat) (hf : f.own = true) (hg : g.own = true)
    (hne : (decide (g.off = f.off) && decide (g.lo = f.lo)) = false) : (d.set f v).is g = d.is g :=
  d.is_set_ne v (key_ne_of_place hf hg hne)

theorem evRaw_setEnc (d : Dev) (k : Nat) (e : Enc) (b : Blk) (n bit : Nat) : (d.setEnc k e).evRaw b n bit = d.evRaw b n bit := rfl

/-! ### Noise (R259) -/

/-- The device once A and B have both toggled. -/
def noisePins (k : Nat) (d : Dev) : Dev :=
  setPin k 3 (!d.bitOf (Reg.ENC.STAT.PINS k) 3) (setPin k 2 (!d.bitOf (Reg.ENC.STAT.PINS k) 2) d)

/-- The wires toggle one after the other as they do together. -/
theorem noisePins_inTurn (k : Nat) (d : Dev) :
    setPin k 3 (!(setPin k 2 (!d.bitOf (Reg.ENC.STAT.PINS k) 2) d).bitOf (Reg.ENC.STAT.PINS k) 3)
      (setPin k 2 (!d.bitOf (Reg.ENC.STAT.PINS k) 2) d) = noisePins k d := by
  rw [pins_setPin k 2 _ d (by decide : 3 < 4), if_neg (by decide), noisePins]

theorem get_noisePins {k : Nat} {d : Dev} {g : Fld} (hg : g.own = true)
    (hne : (decide (g.off = 0x9C) && decide (g.lo = 28)) = false) : (noisePins k d).get g = d.get g :=
  (get_setPin hg hne).trans (get_setPin hg hne)

theorem counts_noisePins (k : Nat) (d : Dev) : (noisePins k d).counts k = d.counts k :=
  (is_setPin rfl rfl).trans (is_setPin rfl rfl)

/-- The changes of the window a change of noise lies in. -/
def Dev.noiseCount (d : Dev) (k : Nat) : Nat := if (d.enc k).window = d.ts / 250000 then (d.enc k).illegal + 1 else 1

/-- A change of noise counted: it is counted twice over, and the position is uncertain. -/
def noiseCounted (k : Nat) (d : Dev) : Dev :=
  setUncertain k true
    (((d.setEnc k { d.enc k with illegal := d.noiseCount k, window := d.ts / 250000 }).bump (Reg.ENC.ILLEGAL_CNT.COUNT k) 1).ev .ENC k 0)

/-- A channel that does not count, or counts teeth, only follows its wires. -/
theorem illegalChange_rests {k : Nat} {d : Dev} (h : (noisePins k d).counts k = false ∨ (noisePins k d).get (Reg.ENC.CFG.MODE k) = 1) :
    illegalChange k d = noisePins k d := if_pos h

theorem illegalChange_counts {k : Nat} {d : Dev} (hc : (noisePins k d).counts k = true)
    (hm : (noisePins k d).get (Reg.ENC.CFG.MODE k) ≠ 1) :
    illegalChange k d =
      if (noiseCounted k (noisePins k d)).get (Reg.ENC.CFG.ILL_LIMIT k) ≠ 0 ∧
          (noisePins k d).noiseCount k = (noiseCounted k (noisePins k d)).get (Reg.ENC.CFG.ILL_LIMIT k) + 1
      then (noiseCounted k (noisePins k d)).raise k Kind.ENC.ILLEGAL_RATE { arg := (noisePins k d).noiseCount k }
      else noiseCounted k (noisePins k d) :=
  if_neg fun h => h.elim (fun h0 => Bool.false_ne_true (h0.symm.trans hc)) hm

theorem satAdd_one (w n : Nat) : satAdd w n 1 = min (2 ^ w - 1) (n + 1) := by
  rw [satAdd]
  split <;> omega

/-- A counter of 32 bits goes up by one and stays at its maximum. -/
theorem get_bump_one (d : Dev) {f : Fld} (hw : f.hi + 1 - f.lo = 32) : (d.bump f 1).get f = min (2 ^ 32 - 1) (d.get f + 1) := by
  rw [Dev.bump_eq, Dev.get_set_same, satAdd_one, Fld.cap, hw]
  exact Nat.mod_eq_of_lt (by omega)

/-- A change of noise counted shows in the counter, in UNCERTAIN and as event 0. -/
theorem noiseCounted_shows {k : Nat} (hk : k < 4) (d : Dev) :
    (noiseCounted k d).get (Reg.ENC.ILLEGAL_CNT.COUNT k) = min 0xFFFFFFFF (d.get (Reg.ENC.ILLEGAL_CNT.COUNT k) + 1) % 2 ^ 32 ∧
      (noiseCounted k d).is (Reg.ENC.STAT.UNCERTAIN k) = true ∧ (noiseCounted k d).evRaw .ENC k 0 = true := by
  refine ⟨?_, is_setUncertain hk _ _, evRaw_setUncertain _ (by decide) (Dev.evRaw_ev _ _ _ (by decide))⟩
  rw [noiseCounted, get_setUncertain _ _ (steady_enc (k := k) rfl rfl) (key_ne_of_place rfl rfl rfl), get_ev_enc _ _ _ _ (k := k) rfl rfl,
    Dev.bump_eq, Dev.get_set_same, satAdd_one, Dev.get_setEnc]
  rfl

/-- Noise on a quadrature channel that counts. -/
theorem illegalChange_shows {k : Nat} (hk : k < 4) {d : Dev} (hc : d.counts k = true) (hm : d.get (Reg.ENC.CFG.MODE k) ≠ 1) :
    (illegalChange k d).get (Reg.ENC.ILLEGAL_CNT.COUNT k) = min 0xFFFFFFFF (d.get (Reg.ENC.ILLEGAL_CNT.COUNT k) + 1) % 2 ^ 32 ∧
      (illegalChange k d).is (Reg.ENC.STAT.UNCERTAIN k) = true ∧ (illegalChange k d).evRaw .ENC k 0 = true := by
  obtain ⟨hcnt, hun, hev⟩ := noiseCounted_shows hk (noisePins k d)
  rw [get_noisePins rfl rfl] at hcnt
  have hrises : (noiseCounted k (noisePins k d)).OnlyRises (illegalChange k d) := by
    rw [illegalChange_counts ((counts_noisePins k d).trans hc) ((get_noisePins rfl rfl).trans_ne hm)]
    split
    · exact Dev.onlyRises_raise ..
    · exact .refl _
  refine ⟨?_, ?_, hrises.2 _ 0 (by decide) hev⟩
  · rw [hrises.1 _ (steady_enc (k := k) rfl rfl), hcnt]
  · rw [Dev.is_eq, hrises.1 _ (steady_enc (k := k) rfl rfl), ← Dev.is_eq, hun]

/-! ### An index accepted (R262) -/

/-- Does a rising edge of Z count as an index? -/
def Dev.takesIndex (d : Dev) (k : Nat) : Prop :=
  d.counts k = true ∧ d.get (Reg.ENC.CFG.MODE k) ≠ 1 ∧ d.is (Reg.ENC.CFG.IDX_EN k) = true ∧
    (d.is (Reg.ENC.CFG.IDX_GATE k) = false ∨ (d.bitOf (Reg.ENC.STAT.PINS k) 3 = true ∧ d.bitOf (Reg.ENC.STAT.PINS k) 2 = true))

/-- The device of an index with its wire raised and the position latched. -/
def indexLatched (k : Nat) (d : Dev) : Dev :=
  d.setPos (Reg.ENC.IDX_POS.POS k) (d.pos48 (Reg.ENC.POS.POS k))

/-- Z does not say whether an index counts. -/
theorem takesIndex_setPin (k : Nat) (v : Bool) (d : Dev) : (setPin k 1 v d).takesIndex k ↔ d.takesIndex k := by
  rw [Dev.takesIndex, Dev.counts, is_setPin rfl rfl, get_setPin rfl rfl, is_setPin rfl rfl, is_setPin rfl rfl,
    pins_setPin k 1 v d (by decide : 3 < 4), pins_setPin k 1 v d (by decide : 2 < 4)]
  rfl

theorem not_takesIndex {k : Nat} {d : Dev} (h : d.counts k = false ∨ d.get (Reg.ENC.CFG.MODE k) = 1 ∨
    d.is (Reg.ENC.CFG.IDX_EN k) = false ∨
    ¬(d.is (Reg.ENC.CFG.IDX_GATE k) = false ∨ (d.bitOf (Reg.ENC.STAT.PINS k) 3 = true ∧ d.bitOf (Reg.ENC.STAT.PINS k) 2 = true))) :
    ¬d.takesIndex k := by
  rintro ⟨hc, hm, hen, hgate⟩
  rcases h with h | h | h | h
  · exact Bool.false_ne_true (h.symm.trans hc)
  · exact hm h
  · exact Bool.false_ne_true (h.symm.trans hen)
  · exact h hgate

section
variable {k : Nat} {d d1 : Dev}

theorem zEdge_rests {rising : Bool} (h1 : setPin k 1 rising d = d1) (h : rising = false ∨ ¬d1.takesIndex k) :
    zEdge k rising d = d1 := by
  subst h1
  refine if_neg fun ⟨hr, hc, hm, hen, hgate⟩ => ?_
  rcases h with h0 | hn
  · exact Bool.false_ne_true (h0.symm.trans hr)
  · exact hn ⟨hc, hm, hen, by simpa using hgate⟩

theorem zEdge_takes (h1 : setPin k 1 true d = d1) (h : d1.takesIndex k) : zEdge k true d = takeIndex k d1 := by
  subst h1
  obtain ⟨hc, hm, hen, hgate⟩ := h
  exact if_pos ⟨rfl, hc, hm, hen, by simpa using hgate⟩

/-- The home is armed: position, reference and RAW start from it. -/
def homeLoaded (k : Nat) (home : Int) (d : Dev) : Dev :=
  (((loadPos k home (d.setEnc k { d.enc k with armed := false })).setPos (Reg.ENC.REF.POS k) home).put (Reg.ENC.STAT.REF_SET k) true).set
    (Reg.ENC.STAT.MIS_RUN k) 0

theorem takeIndex_home (ha : ((indexLatched k d).enc k).armed = true) :
    takeIndex k d = (restartSpeed k (setUncertain k false
      (homeLoaded k ((indexLatched k d).pos48 (Reg.ENC.HOME.POS k)) (indexLatched k d)))).ev .ENC k 3 := if_pos ha

/-- Falling counts, a saturated position and a flagged Z are not checked. -/
theorem takeIndex_unchecked (ha : ((indexLatched k d).enc k).armed = false)
    (h : (indexLatched k d).is (Reg.ENC.STAT.DIR k) = true ∨ (indexLatched k d).saturated k = true ∨
      ((indexLatched k d).get (Reg.ENC.CFG.MODE k) ≠ 1 ∧ (indexLatched k d).bitOf (Reg.ENC.STAT.WIRE k) 1 = true)) :
    takeIndex k d = indexLatched k d := (if_neg (ne_true_of_eq_false ha)).trans (if_pos h)

theorem takeIndex_checks (ha : ((indexLatched k d).enc k).armed = false) (hdir : (indexLatched k d).is (Reg.ENC.STAT.DIR k) = false)
    (hsat : (indexLatched k d).saturated k = false) (hz : (indexLatched k d).bitOf (Reg.ENC.STAT.WIRE k) 1 = false) :
    takeIndex k d = checkIndex k (d.pos48 (Reg.ENC.POS.POS k)) (indexLatched k d) := by
  refine (if_neg (ne_true_of_eq_false ha)).trans (if_neg ?_)
  rintro (h | h | ⟨-, h⟩)
  · exact Bool.false_ne_true (hdir.symm.trans h)
  · exact Bool.false_ne_true (hsat.symm.trans h)
  · exact Bool.false_ne_true (hz.symm.trans h)

theorem mode_indexLatched (k : Nat) (d : Dev) : (indexLatched k d).get (Reg.ENC.CFG.MODE k) = d.get (Reg.ENC.CFG.MODE k) :=
  get_set_place d _ rfl rfl rfl

end

/-! ### The check of an index (R263 to R265) -/

section
variable {k : Nat} {p : Int} {d : Dev}

/-- Without counts per revolution nothing is checked. -/
theorem checkIndex_rests (hper : d.get (Reg.ENC.PER_REV.COUNTS k) = 0) : checkIndex k p d = d := if_pos hper

/-- An index that finds nothing to check only latches the position. -/
theorem takeIndex_rests (hm : d.get (Reg.ENC.CFG.MODE k) ≠ 1) (ha : ((indexLatched k d).enc k).armed = false)
    (h : (indexLatched k d).is (Reg.ENC.STAT.DIR k) = true ∨ (indexLatched k d).saturated k = true ∨
      (indexLatched k d).bitOf (Reg.ENC.STAT.WIRE k) 1 = true ∨ (indexLatched k d).get (Reg.ENC.PER_REV.COUNTS k) = 0) :
    takeIndex k d = indexLatched k d := by
  by_cases hun : (indexLatched k d).is (Reg.ENC.STAT.DIR k) = true ∨ (indexLatched k d).saturated k = true ∨
      (indexLatched k d).bitOf (Reg.ENC.STAT.WIRE k) 1 = true
  · exact takeIndex_unchecked ha (hun.imp_right (.imp_right fun hz => ⟨(mode_indexLatched k d).trans_ne hm, hz⟩))
  · have hper : (indexLatched k d).get (Reg.ENC.PER_REV.COUNTS k) = 0 := by
      simp only [← or_assoc] at h hun
      exact h.resolve_left hun
    simp only [not_or, Bool.not_eq_true] at hun
    obtain ⟨hdir, hsat, hz⟩ := hun
    exact (takeIndex_checks ha hdir hsat hz).trans (checkIndex_rests hper)

variable (hper : d.get (Reg.ENC.PER_REV.COUNTS k) ≠ 0)
include hper

/-- The first index is the reference. -/
theorem checkIndex_first (hset : d.is (Reg.ENC.STAT.REF_SET k) = false) :
    checkIndex k p d = ((d.setPos (Reg.ENC.REF.POS k) p).put (Reg.ENC.STAT.REF_SET k) true).ev .ENC k 3 :=
  (if_neg hper).trans (if_pos hset)

end

/-- A later index within the window: the error is shown and absorbed. -/
def indexCorrected (k : Nat) (err : Int) (d : Dev) : Dev :=
  (setCorr k err (setUncertain k false ((d.set (Reg.ENC.IDX_ERR.E k) (ofSigned 32 err)).set (Reg.ENC.STAT.MIS_RUN k) 0))).ev .ENC k 3

/-- A later index outside the window, counted and reported. -/
def indexMissed (k : Nat) (err : Int) (d : Dev) : Dev :=
  (((d.set (Reg.ENC.IDX_ERR.E k) (ofSigned 32 err)).bump (Reg.ENC.MISMATCH_CNT.COUNT k) 1).raise k Kind.ENC.INDEX_MISMATCH
    { arg := ofSigned 32 err }).setEnc k { d.enc k with lastErr := err }

/-- The run of mismatches goes on; the third is a fault. -/
def indexMismatched (k : Nat) (err : Int) (d : Dev) : Dev :=
  let t := (indexMissed k err d).set (Reg.ENC.STAT.MIS_RUN k) (min 3 (d.get (Reg.ENC.STAT.MIS_RUN k) + 1))
  if d.get (Reg.ENC.STAT.MIS_RUN k) = 2 then t.raise k Kind.ENC.INDEX_FAULT { arg := ofSigned 32 err } else t

theorem get_indexMissed {k : Nat} {err : Int} {d : Dev} {g : Fld} (ho : g.own = true) (hp : g.page = 0x91 + k)
    (he : (decide (g.off = 0xB0) && decide (g.lo = 0)) = false) (hc : (decide (g.off = 0xBC) && decide (g.lo = 0)) = false) :
    (indexMissed k err d).get g = d.get g := by
  rw [indexMissed, Dev.get_setEnc, get_raise_enc _ _ _ _ ho hp, Dev.bump_eq,
    get_set_place (f := Reg.ENC.MISMATCH_CNT.COUNT k) _ _ rfl ho hc, get_set_place (f := Reg.ENC.IDX_ERR.E k) _ _ rfl ho he]

section
variable {k : Nat} {p e err : Int} {d : Dev} (hper : d.get (Reg.ENC.PER_REV.COUNTS k) ≠ 0) (hset : d.is (Reg.ENC.STAT.REF_SET k) = true)
  (he : (d.pos48 (Reg.ENC.REF.POS k) - p) % (d.get (Reg.ENC.PER_REV.COUNTS k) * 256 : Int) = e)
  (herr : (if 2 * e ≤ (d.get (Reg.ENC.PER_REV.COUNTS k) * 256 : Int) then e
    else e - (d.get (Reg.ENC.PER_REV.COUNTS k) * 256 : Int)) = err)
include hper hset he herr

theorem checkIndex_corrects (hin : err.natAbs ≤ d.get (Reg.ENC.CFG.WIN k) * 256) : checkIndex k p d = indexCorrected k err d := by
  subst he herr
  refine (if_neg hper).trans ((if_neg (ne_false_of_eq_true hset)).trans (if_pos ?_))
  rw [get_set_place (f := Reg.ENC.IDX_ERR.E k) _ _ rfl rfl rfl]
  exact hin

/-- Outside the window, on a quadrature channel. -/
theorem checkIndex_mismatches (hm : d.get (Reg.ENC.CFG.MODE k) ≠ 1) (hout : d.get (Reg.ENC.CFG.WIN k) * 256 < err.natAbs) :
    checkIndex k p d = indexMismatched k err d := by
  subst he herr
  have hrun (v : Nat) : (d.set (Reg.ENC.IDX_ERR.E k) v).get (Reg.ENC.STAT.MIS_RUN k) = d.get (Reg.ENC.STAT.MIS_RUN k) :=
    get_set_place d v rfl rfl rfl
  refine (if_neg hper).trans ((if_neg (ne_false_of_eq_true hset)).trans ((if_neg ?_).trans ((if_neg ?_).trans ?_)))
  · rw [get_set_place (f := Reg.ENC.IDX_ERR.E k) _ _ rfl rfl rfl]
    exact Nat.not_le.mpr hout
  · rintro ⟨hone, -⟩
    rw [Dev.enc_raise] at hone
    exact hm ((get_indexMissed rfl rfl rfl rfl).symm.trans hone)
  · rw [hrun, Dev.enc_raise]
    rfl

end

end Sys2Proof.Machine
end

section
/-!
PROOF. What an index shows (O20; R262 to R265).
-/
namespace Sys2Proof.Machine

/-! ### A channel once its history is cleared and its position certain -/

/-- A loaded position (a home or a preset) leaves the channel with no speed history. -/
theorem enc_certain (k : Nat) (d : Dev) :
    (restartSpeed k (setUncertain k false d)).enc k = { d.enc k with hist := [], normal := [] } := by
  rw [enc_restartSpeed, enc_setUncertain]

theorem is_certain {k : Nat} (hk : k < 4) {d : Dev} {g : Fld} (ho : g.own = true) (hp : g.page = 0x91 + k)
    (hs : (decide (g.off = 0x9C) && decide (g.lo = 1)) = false) (hu : (decide (g.off = 0x9C) && decide (g.lo = 3)) = false) :
    (restartSpeed k (setUncertain k false d)).is g = d.is g := by
  have hget := get_setUncertain (k := k) false d (steady_enc ho hp) (key_ne_of_place rfl ho hu)
  rw [is_restartSpeed _ (Fld.ofEnc_of_page hk hp ho) (key_ne_of_place rfl ho hs), Dev.is_eq, hget, ← Dev.is_eq]

theorem certain_isCertain {k : Nat} (hk : k < 4) (d : Dev) :
    (restartSpeed k (setUncertain k false d)).is (Reg.ENC.STAT.UNCERTAIN k) = false := by
  rw [is_restartSpeed _ (Fld.ofEnc_of_page hk rfl rfl) (key_ne_of_place rfl rfl rfl), is_setUncertain hk]

/-! ### The registers an index leaves -/

/-- The device of an index: Z is high and the position latched. -/
def Dev.indexed (d : Dev) (k : Nat) : Dev := indexLatched k (setPin k 1 true d)

section
variable {k : Nat} {d : Dev} {g : Fld} (ho : g.own = true) (hp : (decide (g.off = 0x9C) && decide (g.lo = 28)) = false)
  (hi : (decide (g.off = 0xA8) && decide (g.lo = 0)) = false)
include ho hp hi

theorem get_indexed : (d.indexed k).get g = d.get g :=
  (get_set_place (f := Reg.ENC.IDX_POS.POS k) _ _ rfl ho hi).trans (get_setPin ho hp)

theorem is_indexed : (d.indexed k).is g = d.is g := by rw [Dev.is_eq, get_indexed ho hp hi, Dev.is_eq]

theorem bitOf_indexed (i : Nat) : (d.indexed k).bitOf g i = d.bitOf g i := by rw [Dev.bitOf, get_indexed ho hp hi, Dev.bitOf]

theorem pos48_indexed : (d.indexed k).pos48 g = d.pos48 g := congrArg (toSigned 48) (get_indexed ho hp hi)

end

theorem saturated_indexed (k : Nat) (d : Dev) : (d.indexed k).saturated k = d.saturated k := by
  rw [Dev.saturated, is_indexed rfl rfl rfl, is_indexed rfl rfl rfl, Dev.saturated]

/-- IDX_POS keeps the position. -/
theorem idxPos_indexed (k : Nat) (d : Dev) :
    (d.indexed k).get (Reg.ENC.IDX_POS.POS k) = ofSigned 48 (d.pos48 (Reg.ENC.POS.POS k)) := by
  have hpos : (setPin k 1 true d).pos48 (Reg.ENC.POS.POS k) = d.pos48 (Reg.ENC.POS.POS k) := congrArg (toSigned 48) (get_setPin rfl rfl)
  rw [Dev.indexed, indexLatched, hpos, Dev.setPos, Dev.get_set_same]
  exact ofSigned_mod 48 _

/-- What a mismatch shows. -/
theorem indexMismatched_shows (k : Nat) (err : Int) (d : Dev) :
    (indexMismatched k err d).get (Reg.ENC.IDX_ERR.E k) = ofSigned 32 err ∧
      (indexMismatched k err d).get (Reg.ENC.MISMATCH_CNT.COUNT k) = min (2 ^ 32 - 1) (d.get (Reg.ENC.MISMATCH_CNT.COUNT k) + 1) ∧
      (indexMismatched k err d).get (Reg.ENC.STAT.MIS_RUN k) = min 3 (d.get (Reg.ENC.STAT.MIS_RUN k) + 1) ∧
      (indexMismatched k err d).evRaw .ENC k Kind.ENC.INDEX_MISMATCH.bit = true ∧
      (d.get (Reg.ENC.STAT.MIS_RUN k) = 2 → (indexMismatched k err d).evRaw .ENC k Kind.ENC.INDEX_FAULT.bit = true) := by
  unfold indexMismatched
  extract_lets t
  have hrises : t.OnlyRises
      (if d.get (Reg.ENC.STAT.MIS_RUN k) = 2 then t.raise k Kind.ENC.INDEX_FAULT { arg := ofSigned 32 err } else t) := by
    split
    · exact Dev.onlyRises_raise ..
    · exact .refl t
  have hidx : t.get (Reg.ENC.IDX_ERR.E k) = ofSigned 32 err := by
    rw [get_set_place _ _ rfl rfl rfl, indexMissed, Dev.get_setEnc, get_raise_enc _ _ _ _ (k := k) rfl rfl, Dev.bump_eq,
      get_set_place _ _ rfl rfl rfl, Dev.get_set_same]
    exact ofSigned_mod 32 _
  have hcnt : t.get (Reg.ENC.MISMATCH_CNT.COUNT k) = min (2 ^ 32 - 1) (d.get (Reg.ENC.MISMATCH_CNT.COUNT k) + 1) := by
    rw [get_set_place _ _ rfl rfl rfl, indexMissed, Dev.get_setEnc, get_raise_enc _ _ _ _ (k := k) rfl rfl, get_bump_one _ rfl,
      get_set_place _ _ rfl rfl rfl]
  have hrun : t.get (Reg.ENC.STAT.MIS_RUN k) = min 3 (d.get (Reg.ENC.STAT.MIS_RUN k) + 1) :=
    (Dev.get_set_same ..).trans (Nat.mod_eq_of_lt (lt_of_le_of_lt (Nat.min_le_left ..) (by decide : 3 < 2 ^ 2)))
  have hev : t.evRaw .ENC k Kind.ENC.INDEX_MISMATCH.bit = true := by
    rw [Dev.evRaw_set _ rfl, indexMissed, evRaw_setEnc]
    exact Dev.evRaw_raise _ k Kind.ENC.INDEX_MISMATCH _ (by decide)
  refine ⟨?_, ?_, ?_, hrises.2 _ _ (by decide) hev, fun h2 => ?_⟩
  · rw [hrises.1 _ (steady_enc (k := k) rfl rfl), hidx]
  · rw [hrises.1 _ (steady_enc (k := k) rfl rfl), hcnt]
  · rw [hrises.1 _ (steady_enc (k := k) rfl rfl), hrun]
  · rw [if_pos h2]
    exact Dev.evRaw_raise _ k Kind.ENC.INDEX_FAULT _ (by decide)

section
variable {k : Nat} {d : Dev} (htake : d.takesIndex k)
include htake

/-! ### The home (R265) -/

/-- An index with a home armed starts the count from the home. -/
theorem zEdge_home_shows (hk : k < 4) (ha : (d.enc k).armed = true) :
    (zEdge k true d).is (Reg.ENC.STAT.REF_SET k) = true ∧ ((zEdge k true d).enc k).armed = false ∧
      ((zEdge k true d).enc k).cnt = 0 ∧
      ((zEdge k true d).enc k).base = d.pos48 (Reg.ENC.HOME.POS k) ∧ (zEdge k true d).is (Reg.ENC.STAT.UNCERTAIN k) = false ∧
      (zEdge k true d).evRaw .ENC k 3 = true := by
  have hp : (indexLatched k (setPin k 1 true d)).pos48 (Reg.ENC.HOME.POS k) = d.pos48 (Reg.ENC.HOME.POS k) := pos48_indexed rfl rfl rfl
  have h := (zEdge_takes rfl ((takesIndex_setPin k true d).mpr htake)).trans (takeIndex_home ha)
  rw [hp, ← Dev.indexed] at h
  rw [h]
  have henc : ((restartSpeed k (setUncertain k false (homeLoaded k (d.pos48 (Reg.ENC.HOME.POS k)) (d.indexed k)))).ev .ENC k 3).enc k =
      { d.enc k with armed := false, cnt := 0, base := d.pos48 (Reg.ENC.HOME.POS k), absorbed := 0, hist := [], normal := [] } := by
    obtain ⟨hist, normal, hload⟩ := enc_loadPos k (d.pos48 (Reg.ENC.HOME.POS k))
      ((d.indexed k).setEnc k { (d.indexed k).enc k with armed := false })
    rw [Dev.enc_ev, enc_certain, homeLoaded, Dev.enc_set, Dev.enc_put, Dev.enc_setPos, hload, Dev.enc_setEnc_same]
    rfl
  rw [henc, is_ev_enc _ _ _ _ (k := k) rfl rfl, is_ev_enc _ _ _ _ (k := k) rfl rfl, certain_isCertain hk, is_certain hk rfl rfl rfl rfl]
  refine ⟨?_, rfl, rfl, rfl, rfl, Dev.evRaw_ev _ _ _ (by decide)⟩
  rw [homeLoaded, is_set_place _ _ rfl rfl rfl, Dev.is_put_same _ _ rfl]

/-! ### The check (R263, R264) -/

variable (hz : d.bitOf (Reg.ENC.STAT.WIRE k) 1 = false) (ha : (d.enc k).armed = false) (hdir : d.is (Reg.ENC.STAT.DIR k) = false)
  (hsat : d.saturated k = false)
include hz ha hdir hsat

theorem zEdge_checks : zEdge k true d = checkIndex k (d.pos48 (Reg.ENC.POS.POS k)) (d.indexed k) := by
  have hpos : (setPin k 1 true d).pos48 (Reg.ENC.POS.POS k) = d.pos48 (Reg.ENC.POS.POS k) := congrArg (toSigned 48) (get_setPin rfl rfl)
  rw [← hpos]
  exact (zEdge_takes rfl ((takesIndex_setPin k true d).mpr htake)).trans (takeIndex_checks ha ((is_indexed rfl rfl rfl).trans hdir)
    ((saturated_indexed k d).trans hsat) ((bitOf_indexed rfl rfl rfl 1).trans hz))

variable (hper : d.get (Reg.ENC.PER_REV.COUNTS k) ≠ 0)
include hper

/-- The first index sets the reference. -/
theorem zEdge_first_shows (hset : d.is (Reg.ENC.STAT.REF_SET k) = false) :
    (zEdge k true d).get (Reg.ENC.IDX_POS.POS k) = ofSigned 48 (d.pos48 (Reg.ENC.POS.POS k)) ∧
      (zEdge k true d).get (Reg.ENC.REF.POS k) = ofSigned 48 (d.pos48 (Reg.ENC.POS.POS k)) ∧
      (zEdge k true d).is (Reg.ENC.STAT.REF_SET k) = true ∧ (zEdge k true d).evRaw .ENC k 3 = true ∧
      (zEdge k true d).enc k = d.enc k := by
  rw [zEdge_checks htake hz ha hdir hsat,
    checkIndex_first ((get_indexed rfl rfl rfl).trans_ne hper) ((is_indexed rfl rfl rfl).trans hset)]
  refine ⟨?_, ?_, ?_, Dev.evRaw_ev _ _ _ (by decide), Dev.enc_ev ..⟩
  · rw [get_ev_enc _ _ _ _ (k := k) rfl rfl, Dev.put_eq, get_set_place _ _ rfl rfl rfl, Dev.setPos, get_set_place _ _ rfl rfl rfl,
      idxPos_indexed]
  · rw [get_ev_enc _ _ _ _ (k := k) rfl rfl, Dev.put_eq, get_set_place _ _ rfl rfl rfl, Dev.setPos, Dev.get_set_same]
    exact ofSigned_mod 48 _
  · rw [is_ev_enc _ _ _ _ (k := k) rfl rfl, Dev.is_put_same _ _ rfl]

variable {e err : Int} (hset : d.is (Reg.ENC.STAT.REF_SET k) = true)
  (he : (d.pos48 (Reg.ENC.REF.POS k) - d.pos48 (Reg.ENC.POS.POS k)) % (d.get (Reg.ENC.PER_REV.COUNTS k) * 256 : Int) = e)
  (herr : (if 2 * e ≤ (d.get (Reg.ENC.PER_REV.COUNTS k) * 256 : Int) then e
    else e - (d.get (Reg.ENC.PER_REV.COUNTS k) * 256 : Int)) = err)
include hset he herr

/-- An index within the window: its error is shown, to be absorbed, and the position is certain. -/
theorem zEdge_corrects_shows (hk : k < 4) (hin : err.natAbs ≤ d.get (Reg.ENC.CFG.WIN k) * 256) :
    (zEdge k true d).get (Reg.ENC.IDX_ERR.E k) = ofSigned 32 err ∧ (zEdge k true d).get (Reg.ENC.CORR.C k) = ofSigned 32 err ∧
      (zEdge k true d).get (Reg.ENC.STAT.MIS_RUN k) = 0 ∧ (zEdge k true d).is (Reg.ENC.STAT.UNCERTAIN k) = false ∧
      (zEdge k true d).evRaw .ENC k 3 = true := by
  have h : zEdge k true d = indexCorrected k err (d.indexed k) := by
    refine (zEdge_checks htake hz ha hdir hsat).trans (checkIndex_corrects (e := e) ?_ ?_ ?_ ?_ ?_)
    · exact (get_indexed rfl rfl rfl).trans_ne hper
    · exact (is_indexed rfl rfl rfl).trans hset
    · rw [pos48_indexed rfl rfl rfl, get_indexed rfl rfl rfl, he]
    · rw [get_indexed rfl rfl rfl, herr]
    · rw [get_indexed rfl rfl rfl]
      exact hin
  have hun {g : Fld} (ho : g.own = true) (hp : g.page = 0x91 + k) (hu : (decide (g.off = 0x9C) && decide (g.lo = 3)) = false) (d' : Dev) :
      (setUncertain k false d').get g = d'.get g := get_setUncertain false d' (steady_enc ho hp) (key_ne_of_place rfl ho hu)
  rw [h, indexCorrected, setCorr]
  refine ⟨?_, ?_, ?_, ?_, Dev.evRaw_ev _ _ _ (by decide)⟩
  · rw [get_ev_enc _ _ _ _ (k := k) rfl rfl, Dev.put_eq, get_set_place _ _ rfl rfl rfl, get_set_place _ _ rfl rfl rfl, hun rfl rfl rfl,
      get_set_place _ _ rfl rfl rfl, Dev.get_set_same]
    exact ofSigned_mod 32 _
  · rw [get_ev_enc _ _ _ _ (k := k) rfl rfl, Dev.put_eq, get_set_place _ _ rfl rfl rfl, Dev.get_set_same]
    exact ofSigned_mod 32 _
  · rw [get_ev_enc _ _ _ _ (k := k) rfl rfl, Dev.put_eq, get_set_place _ _ rfl rfl rfl, get_set_place _ _ rfl rfl rfl, hun rfl rfl rfl,
      Dev.get_set_same, Nat.zero_mod]
  · rw [is_ev_enc _ _ _ _ (k := k) rfl rfl, Dev.put_eq, is_set_place _ _ rfl rfl rfl, is_set_place _ _ rfl rfl rfl, is_setUncertain hk]

/-- An index outside the window is counted and reported, the third in a run as a fault. -/
theorem zEdge_mismatches_shows (hout : d.get (Reg.ENC.CFG.WIN k) * 256 < err.natAbs) :
    (zEdge k true d).get (Reg.ENC.IDX_ERR.E k) = ofSigned 32 err ∧
      (zEdge k true d).get (Reg.ENC.MISMATCH_CNT.COUNT k) = min (2 ^ 32 - 1) (d.get (Reg.ENC.MISMATCH_CNT.COUNT k) + 1) ∧
      (zEdge k true d).get (Reg.ENC.STAT.MIS_RUN k) = min 3 (d.get (Reg.ENC.STAT.MIS_RUN k) + 1) ∧
      (zEdge k true d).evRaw .ENC k Kind.ENC.INDEX_MISMATCH.bit = true ∧
      (d.get (Reg.ENC.STAT.MIS_RUN k) = 2 → (zEdge k true d).evRaw .ENC k Kind.ENC.INDEX_FAULT.bit = true) := by
  have h : zEdge k true d = indexMismatched k err (d.indexed k) := by
    refine (zEdge_checks htake hz ha hdir hsat).trans (checkIndex_mismatches (e := e) ?_ ?_ ?_ ?_ ?_ ?_)
    · exact (get_indexed rfl rfl rfl).trans_ne hper
    · exact (is_indexed rfl rfl rfl).trans hset
    · rw [pos48_indexed rfl rfl rfl, get_indexed rfl rfl rfl, he]
    · rw [get_indexed rfl rfl rfl, herr]
    · obtain ⟨-, hm, -⟩ := htake
      exact (get_indexed rfl rfl rfl).trans_ne hm
    · rw [get_indexed rfl rfl rfl]
      exact hout
  rw [h]
  obtain ⟨hidx, hcnt, hrun, hev, hfault⟩ := indexMismatched_shows k err (d.indexed k)
  rw [get_indexed rfl rfl rfl] at hcnt hrun hfault
  exact ⟨hidx, hcnt, hrun, hev, hfault⟩

end

end Sys2Proof.Machine
end

section
/-!
PROOF. Wire flags, standstill and sheet edges of an encoder channel (O20; R256, R272, R273).
-/
namespace Sys2Proof.Machine

/-! ### The flags of the wires (R256) -/

/-- The state of a block's page is no field of its own. -/
theorem inRun_set (d : Dev) {f : Fld} (hf : f.own = true) (v page : Nat) : (d.set f v).inRun page = d.inRun page := by
  obtain ⟨hlow, hoff, hlo⟩ := Fld.own_iff.mp hf
  rw [Dev.inRun, Dev.blk, d.get_set_ne v (key_ne_of_header (by simp [Reg.HDR.STATE]) (by simp [Reg.HDR.STATE]) hlow hoff hlo).symm]
  rfl

theorem bitOf_setBit (d : Dev) {f : Fld} {w : Nat} (hw : f.cap = 2 ^ w) {i : Nat} (hi : i < w) : (d.setBit f i).bitOf f i = true := by
  rw [Dev.bitOf, Dev.setBit_eq, Dev.get_set_same, hw, Nat.testBit_mod_two_pow, testBit_setB]
  simp [hi]

theorem bitOf_clrBit (d : Dev) (f : Fld) (i : Nat) {w : Nat} (hw : f.cap = 2 ^ w) : (d.clrBit f i).bitOf f i = false := by
  rw [Dev.bitOf, Dev.clrBit_eq, Dev.get_set_same, hw, Nat.testBit_mod_two_pow, testBit_clrB]
  simp

section
variable {k line : Nat} {d : Dev}

/-- A flag already set, and SE where it is not differential, change nothing. -/
theorem wireFlag_rests (hl : line < 4)
    (h : d.bitOf (Reg.ENC.STAT.WIRE k) (3 - line) = true ∨ (line = 3 ∧ d.is (Reg.ENC.CFG.SE_DIFF k) = false)) :
    wireFlag k line d = d := by
  rw [wireFlag, Nat.mod_eq_of_lt hl]
  rcases h with h | h
  · exact ite_eq_left_iff.mpr fun _ => if_pos h
  · exact if_pos h

/-- A flag that is set, by the bit it has in WIRE. -/
theorem wireFlag_sets {b : Nat} (hb : 3 - line % 4 = b) (hdiff : ¬(line % 4 = 3 ∧ d.is (Reg.ENC.CFG.SE_DIFF k) = false))
    (h : d.bitOf (Reg.ENC.STAT.WIRE k) b = false) :
    wireFlag k line d =
      if 2 ≤ b then
        posSync ((setUncertain k true ((d.setBit (Reg.ENC.STAT.WIRE k) b).put (Reg.ENC.STAT.RUN k) false)).raise k Kind.ENC.WIRE_AB
          { arg := line % 4 })
      else if b = 1 then (d.setBit (Reg.ENC.STAT.WIRE k) b).raise k Kind.ENC.WIRE_Z
      else (d.setBit (Reg.ENC.STAT.WIRE k) b).raise k Kind.ENC.WIRE_SE := by
  subst hb
  exact (if_neg hdiff).trans (if_neg (ne_true_of_eq_false h))

/-- A flag of A or B stops the counting. -/
theorem wireFlag_stops (hl : line < 2) (h : d.bitOf (Reg.ENC.STAT.WIRE k) (3 - line) = false) :
    wireFlag k line d = posSync
      ((setUncertain k true ((d.setBit (Reg.ENC.STAT.WIRE k) (3 - line)).put (Reg.ENC.STAT.RUN k) false)).raise k
      Kind.ENC.WIRE_AB { arg := line }) := by
  have hmod : line % 4 = line := Nat.mod_eq_of_lt (by omega)
  rw [wireFlag_sets (by rw [hmod]) (fun ⟨h3, _⟩ => by omega) h, if_pos (by omega), hmod]

theorem wireFlag_z (h : d.bitOf (Reg.ENC.STAT.WIRE k) 1 = false) :
    wireFlag k 2 d = (d.setBit (Reg.ENC.STAT.WIRE k) 1).raise k Kind.ENC.WIRE_Z := by
  rw [wireFlag_sets (b := 1) (by decide) (fun ⟨h3, _⟩ => by omega) h, if_neg (by decide), if_pos rfl]

theorem wireFlag_se (h : d.bitOf (Reg.ENC.STAT.WIRE k) 0 = false) (hdiff : d.is (Reg.ENC.CFG.SE_DIFF k) = true) :
    wireFlag k 3 d = (d.setBit (Reg.ENC.STAT.WIRE k) 0).raise k Kind.ENC.WIRE_SE := by
  have hdiff : ¬(3 % 4 = 3 ∧ d.is (Reg.ENC.CFG.SE_DIFF k) = false) := fun ⟨_, h0⟩ => Bool.false_ne_true (h0.symm.trans hdiff)
  rw [wireFlag_sets (b := 0) (by decide) hdiff h, if_neg (by decide), if_neg (by decide)]

/-- The flag set, the counting stopped and the position uncertain. -/
theorem wireFlag_stops_shows (hk : k < 4) (hl : line < 2) (h : d.bitOf (Reg.ENC.STAT.WIRE k) (3 - line) = false) :
    (wireFlag k line d).is (Reg.ENC.STAT.RUN k) = false ∧ (wireFlag k line d).is (Reg.ENC.STAT.UNCERTAIN k) = true ∧
      (wireFlag k line d).bitOf (Reg.ENC.STAT.WIRE k) (3 - line) = true ∧
      (wireFlag k line d).evRaw .ENC k Kind.ENC.WIRE_AB.bit = true := by
  have hun {g : Fld} (ho : g.own = true) (hp : g.page = 0x91 + k) (hu : (decide (g.off = 0x9C) && decide (g.lo = 3)) = false) (d' : Dev) :
      (setUncertain k true d').get g = d'.get g := get_setUncertain true d' (steady_enc ho hp) (key_ne_of_place rfl ho hu)
  rw [wireFlag_stops hl h]
  generalize hd1 : (d.setBit (Reg.ENC.STAT.WIRE k) (3 - line)).put (Reg.ENC.STAT.RUN k) false = d1
  have hsync (d' : Dev) : d'.EncKept (posSync d') := Dev.EncKept.posSync (.refl d')
  have hev (d' : Dev) : (posSync (d'.raise k Kind.ENC.WIRE_AB { arg := line })).evRaw .ENC k Kind.ENC.WIRE_AB.bit = true :=
    (hsync _).evRaw hk (by decide) (d'.evRaw_raise k Kind.ENC.WIRE_AB _ (by decide))
  refine ⟨?_, ?_, ?_, hev _⟩
  · rw [(hsync _).is (Fld.ofEnc_of_page hk rfl rfl), Dev.is_eq, get_raise_enc _ _ _ _ (k := k) rfl rfl, hun rfl rfl rfl,
      ← Dev.is_eq, ← hd1, Dev.is_put_same _ _ rfl]
  · rw [(hsync _).is (Fld.ofEnc_of_page hk rfl rfl), Dev.is_eq, get_raise_enc _ _ _ _ (k := k) rfl rfl, ← Dev.is_eq,
      is_setUncertain hk]
  · rw [(hsync _).bitOf (Fld.ofEnc_of_page hk rfl rfl), Dev.bitOf, get_raise_enc _ _ _ _ (k := k) rfl rfl, hun rfl rfl rfl,
      ← hd1, Dev.put_eq, get_set_place _ _ rfl rfl rfl]
    exact bitOf_setBit d (w := 4) rfl (by omega)

/-- A flag that is not set needs no clearing. -/
theorem wireClear_rests (hl : line < 4) (h : d.bitOf (Reg.ENC.STAT.WIRE k) (3 - line) = false) : wireClear k line d = d := by
  rw [wireClear, Nat.mod_eq_of_lt hl]
  exact if_pos h

theorem wireClear_clears (hl : line < 4) (h : d.bitOf (Reg.ENC.STAT.WIRE k) (3 - line) = true) :
    wireClear k line d =
      if line < 2 ∧ (d.clrBit (Reg.ENC.STAT.WIRE k) (3 - line)).get (Reg.ENC.STAT.WIRE k) / 4 = 0 ∧
          (d.clrBit (Reg.ENC.STAT.WIRE k) (3 - line)).inRun (pg .ENC k) = true
      then posSync (armStill k (restartSpeed k ((d.clrBit (Reg.ENC.STAT.WIRE k) (3 - line)).put (Reg.ENC.STAT.RUN k) true)))
      else posSync (d.clrBit (Reg.ENC.STAT.WIRE k) (3 - line)) := by
  have hwire : 2 ≤ 3 - line ↔ line < 2 := by omega
  rw [wireClear, Nat.mod_eq_of_lt hl]
  refine (if_neg (ne_false_of_eq_true h)).trans ?_
  simp only [hwire]

/-- The last flag of A and B: no flag of theirs is left once it clears. -/
theorem lastFlag_clears : ∀ w < 16, ∀ line < 2, w / 4 = 2 ^ (1 - line) →
    w.testBit (3 - line) = true ∧ clrB w (3 - line) % 16 / 4 = 0 := by decide

/-- With the last flag of A and B the channel counts again. -/
theorem wireClear_resumes (hl : line < 2) (hlast : d.get (Reg.ENC.STAT.WIRE k) / 4 = 2 ^ (1 - line))
    (hw : d.get (Reg.ENC.STAT.WIRE k) < 16) (hrun : d.inRun (pg .ENC k) = true) :
    wireClear k line d =
      posSync (armStill k (restartSpeed k ((d.clrBit (Reg.ENC.STAT.WIRE k) (3 - line)).put (Reg.ENC.STAT.RUN k) true))) := by
  obtain ⟨hbit, hclear⟩ := lastFlag_clears _ hw line hl hlast
  refine (wireClear_clears (by omega) hbit).trans (if_pos ⟨hl, ?_, ?_⟩)
  · rw [Dev.clrBit_eq, Dev.get_set_same]
    exact hclear
  · rw [Dev.clrBit_eq, inRun_set _ rfl]
    exact hrun

theorem wireClear_resumes_shows (hk : k < 4) (d : Dev) :
    (posSync (armStill k (restartSpeed k (d.put (Reg.ENC.STAT.RUN k) true)))).is (Reg.ENC.STAT.RUN k) = true := by
  have hsync (d' : Dev) : d'.EncKept (posSync (armStill k d')) := Dev.EncKept.posSync ((Dev.EncKept.refl d').regs rfl rfl)
  rw [(hsync _).is (Fld.ofEnc_of_page hk rfl rfl), is_restartSpeed _ (Fld.ofEnc_of_page hk rfl rfl) (key_ne_of_place rfl rfl rfl),
    Dev.is_put_same _ _ rfl]

/-- A flag of Z or SE clears, and the source may be usable again. -/
theorem wireClear_other (hl : line = 2 ∨ line = 3) (h : d.bitOf (Reg.ENC.STAT.WIRE k) (3 - line) = true) :
    wireClear k line d = posSync (d.clrBit (Reg.ENC.STAT.WIRE k) (3 - line)) :=
  (wireClear_clears (by omega) h).trans (if_neg fun ⟨hlow, _⟩ => by omega)

theorem wireClear_other_shows (hk : k < 4) (i : Nat) (d : Dev) :
    (posSync (d.clrBit (Reg.ENC.STAT.WIRE k) i)).bitOf (Reg.ENC.STAT.WIRE k) i = false :=
  ((Dev.EncKept.posSync (.refl _)).bitOf (Fld.ofEnc_of_page hk rfl rfl) i).trans (bitOf_clrBit d _ i (w := 4) rfl)

end

/-! ### Standstill (R272) -/

/-- The channel stands still: its speed is zero. -/
def stillStands (k : Nat) (d : Dev) : Dev := ((d.set (Reg.ENC.SPEED.V k) 0).put (Reg.ENC.STAT.STILL k) true).ev .ENC k 8

theorem standstill_ends {k t : Nat} {d : Dev} (hdue : d.due (.still k) = some t) :
    standstill k d = restartSpeed k (stillStands k ((d.advanceTo t).disarm (.still k))) := Dev.onTimer_some hdue _

theorem stillStands_shows {k : Nat} (hk : k < 4) (d : Dev) :
    (restartSpeed k (stillStands k d)).get (Reg.ENC.SPEED.V k) = 0 ∧
      (restartSpeed k (stillStands k d)).is (Reg.ENC.STAT.STILL k) = true ∧
      (restartSpeed k (stillStands k d)).is (Reg.ENC.STAT.SPEED_VALID k) = false ∧
      ((restartSpeed k (stillStands k d)).enc k).hist = [] ∧
      (restartSpeed k (stillStands k d)).evRaw .ENC k 8 = true := by
  refine ⟨?_, ?_, is_setSpeedValid hk _ _, ?_, evRaw_restartSpeed hk (by decide) (Dev.evRaw_ev _ _ _ (by decide))⟩
  · rw [get_restartSpeed _ (Fld.ofEnc_of_page hk rfl rfl) (key_ne_of_place rfl rfl rfl), stillStands,
      get_ev_enc _ _ _ _ (k := k) rfl rfl, Dev.put_eq, get_set_place _ _ rfl rfl rfl, Dev.get_set_same, Nat.zero_mod]
  · rw [is_restartSpeed _ (Fld.ofEnc_of_page hk rfl rfl) (key_ne_of_place rfl rfl rfl), stillStands, is_ev_enc _ _ _ _ (k := k) rfl rfl,
      Dev.is_put_same _ _ rfl]
  · rw [enc_restartSpeed]

end Sys2Proof.Machine
end

section
/-!
PROOF. Sheet edges of an encoder channel, and the statement about its events (O20; R273).
-/
namespace Sys2Proof.Machine

/-! ### Sheet edges -/

/-- Is a level of SE the sheet edge that SE_EDGE asks for? -/
def Dev.sheetWanted (d : Dev) (k : Nat) (rising : Bool) : Prop :=
  d.get (Reg.ENC.CFG.SE_EDGE k) = 2 ∨ (d.get (Reg.ENC.CFG.SE_EDGE k) = 0 ∧ rising = true) ∨
    (d.get (Reg.ENC.CFG.SE_EDGE k) = 1 ∧ rising = false)

/-- Is a sheet edge within the lockout of the one before it? -/
def Dev.lockedOut (d : Dev) (k : Nat) : Bool :=
  ((d.enc k).travel.map fun t => decide (t < d.get (Reg.ENC.SE_LOCK.COUNTS k))).getD false

/-- A sheet edge accepted: its time and position are kept. -/
def sheetTaken (k : Nat) (d : Dev) : Dev :=
  (((d.setEnc k { d.enc k with travel := some 0 }).set (Reg.ENC.SE_TS.TS k) d.ts).set (Reg.ENC.SE_POS.POS k)
    (d.get (Reg.ENC.POS.POS k))).ev .ENC k 9

/-- A sheet edge accepted is given to the queues when the channel is the source of a mode of sheets. -/
def sheetPushed (k : Nat) (d : Dev) : Dev :=
  if d.srcChannel = some k ∧ d.mode = 3 then pushEdge (d.posAt d.time.up) d else d

/-- A sheet edge accepted is sent to the ring by the manager whose position cells come from the channel. -/
def sheetSent (k : Nat) (here : Int) (d : Dev) : Dev :=
  if d.ringRole = 2 ∧ d.get Reg.EMR.POS_CFG.CHAN = k then
    d.broadcast 0x13 (leBytes 6 d.ts ++ leBytes 6 (ofSigned 48 (if d.srcChannel = some k then here.fdiv 65536
      else d.pos48 (Reg.ENC.POS.POS k) + d.posOff k)) ++ leBytes 1 k ++ leBytes 5 0 ++ leBytes 2 (d.get Reg.EMR.ROLE_STAT.EPOCH))
  else d

/-- Is a level of SE a sheet edge of a channel in RUN whose line is not flagged? -/
def Dev.takesSheet (d : Dev) (k : Nat) (rising : Bool) : Prop :=
  d.sheetWanted k rising ∧ (d.is (Reg.ENC.CFG.SE_DIFF k) = false ∨ d.bitOf (Reg.ENC.STAT.WIRE k) 0 = false) ∧
    d.inRun (pg .ENC k) = true

theorem takesSheet_setPin (k b : Nat) (v rising : Bool) (d : Dev) : (setPin k b v d).takesSheet k rising ↔ d.takesSheet k rising := by
  rw [Dev.takesSheet, Dev.sheetWanted, get_setPin rfl rfl, is_setPin rfl rfl, bitOf_setPin rfl rfl, setPin, Dev.putBit_eq,
    inRun_set _ rfl]
  rfl

theorem not_takesSheet {k : Nat} {rising : Bool} {d : Dev} (h : d.inRun (pg .ENC k) = false ∨
    (d.get (Reg.ENC.CFG.SE_EDGE k) = 0 ∧ rising = false) ∨ (d.get (Reg.ENC.CFG.SE_EDGE k) = 1 ∧ rising = true)) :
    ¬d.takesSheet k rising := by
  rintro ⟨hpol, -, hrun⟩
  rcases h with h | ⟨h, rfl⟩ | ⟨h, rfl⟩
  · exact Bool.false_ne_true (h.symm.trans hrun)
  · simp [Dev.sheetWanted, h] at hpol
  · simp [Dev.sheetWanted, h] at hpol

theorem not_takesSheet_of_flagged {k : Nat} {rising : Bool} {d : Dev} (hdiff : d.is (Reg.ENC.CFG.SE_DIFF k) = true)
    (hw : d.bitOf (Reg.ENC.STAT.WIRE k) 0 = true) : ¬d.takesSheet k rising := by
  rintro ⟨-, hflag | hflag, -⟩
  · exact Bool.false_ne_true (hflag.symm.trans hdiff)
  · exact Bool.false_ne_true (hflag.symm.trans hw)

theorem lockedOut_setPin (k b : Nat) (v : Bool) (d : Dev) : (setPin k b v d).lockedOut k = d.lockedOut k := by
  rw [Dev.lockedOut, get_setPin rfl rfl]
  rfl

/-- What `sheetEdge` asks of the device before it takes an edge. -/
theorem sheetGate_iff (k : Nat) (rising : Bool) (d : Dev) :
    ((d.get (Reg.ENC.CFG.SE_EDGE k) == 2 || (d.get (Reg.ENC.CFG.SE_EDGE k) == 0 && rising) ||
        (d.get (Reg.ENC.CFG.SE_EDGE k) == 1 && !rising)) = false ∨
      (d.is (Reg.ENC.CFG.SE_DIFF k) && d.bitOf (Reg.ENC.STAT.WIRE k) 0) = true ∨ d.inRun (pg .ENC k) = false) ↔
    ¬d.takesSheet k rising := by
  have hwanted : (d.get (Reg.ENC.CFG.SE_EDGE k) == 2 || (d.get (Reg.ENC.CFG.SE_EDGE k) == 0 && rising) ||
      (d.get (Reg.ENC.CFG.SE_EDGE k) == 1 && !rising)) = true ↔ d.sheetWanted k rising := by
    simp [Dev.sheetWanted, or_assoc]
  have hflag : (d.is (Reg.ENC.CFG.SE_DIFF k) && d.bitOf (Reg.ENC.STAT.WIRE k) 0) = true ↔
      ¬(d.is (Reg.ENC.CFG.SE_DIFF k) = false ∨ d.bitOf (Reg.ENC.STAT.WIRE k) 0 = false) := by simp
  rw [Dev.takesSheet, ← hwanted, hflag, not_and_or, not_and_or, Bool.not_eq_true, Bool.not_eq_true]

section
variable {k : Nat} {rising : Bool} {d d1 : Dev} (h1 : setPin k 0 rising d = d1)
include h1

/-- A level that is no sheet edge, a flagged SE and a stopped channel: only the pin moves. -/
theorem sheetEdge_rests (h : ¬d.takesSheet k rising) : sheetEdge k rising d = d1 := by
  subst h1
  exact if_pos ((sheetGate_iff ..).mpr (mt (takesSheet_setPin ..).mp h))

variable (h : d.takesSheet k rising)
include h

/-- What becomes of an edge that is taken up. -/
theorem sheetEdge_wanted :
    sheetEdge k rising d =
      if d1.lockedOut k = true then (d1.bump (Reg.ENC.SE_REJ.COUNT k) 1).ev .ENC k 9
      else sheetSent k ((sheetTaken k d1).posAt (sheetTaken k d1).time.up) (sheetPushed k (sheetTaken k d1)) := by
  subst h1
  refine (if_neg fun hgate => (sheetGate_iff ..).mp hgate ((takesSheet_setPin ..).mpr h)).trans ?_
  rw [Dev.lockedOut]
  cases ((setPin k 0 rising d).enc k).travel <;> rfl

/-- Within the lockout an edge is only counted. -/
theorem sheetEdge_rejected (hl : d.lockedOut k = true) : sheetEdge k rising d = (d1.bump (Reg.ENC.SE_REJ.COUNT k) 1).ev .ENC k 9 := by
  rw [sheetEdge_wanted h1 h, if_pos (by rwa [← h1, lockedOut_setPin])]

theorem sheetEdge_taken (hl : d.lockedOut k = false) :
    sheetEdge k rising d = sheetSent k ((sheetTaken k d1).posAt (sheetTaken k d1).time.up) (sheetPushed k (sheetTaken k d1)) := by
  have hl1 : d1.lockedOut k = false := by rwa [← h1, lockedOut_setPin]
  rw [sheetEdge_wanted h1 h, if_neg (ne_true_of_eq_false hl1)]

end

/-- What the queues and the ring make of an edge leaves the channels alone. -/
theorem encKept_sheetSent (k : Nat) (here : Int) (d : Dev) : d.EncKept (sheetSent k here (sheetPushed k d)) := by
  have hpush : d.EncKept (sheetPushed k d) := .ite (Dev.EncKept.pushEdge (.refl d)) (.refl d)
  exact .ite hpush.broadcast hpush

/-- A sheet edge taken keeps its time and the position, and starts the lockout. -/
theorem sheetEdge_taken_shows {k : Nat} (hk : k < 4) {rising : Bool} {d : Dev} (h : d.takesSheet k rising) (hl : d.lockedOut k = false) :
    (sheetEdge k rising d).get (Reg.ENC.SE_TS.TS k) = d.ts % 2 ^ 64 ∧
      (sheetEdge k rising d).get (Reg.ENC.SE_POS.POS k) = d.get (Reg.ENC.POS.POS k) % 2 ^ 48 ∧
      ((sheetEdge k rising d).enc k).travel = some 0 ∧ (sheetEdge k rising d).evRaw .ENC k 9 = true := by
  rw [sheetEdge_taken rfl h hl]
  have hkept := encKept_sheetSent k ((sheetTaken k (setPin k 0 rising d)).posAt (sheetTaken k (setPin k 0 rising d)).time.up)
    (sheetTaken k (setPin k 0 rising d))
  refine ⟨?_, ?_, ?_, hkept.evRaw hk (by decide) (Dev.evRaw_ev _ _ _ (by decide))⟩
  · rw [hkept.get_eq _ (Fld.ofEnc_of_page hk rfl rfl), sheetTaken, get_ev_enc _ _ _ _ (k := k) rfl rfl, get_set_place _ _ rfl rfl rfl,
      Dev.get_set_same]
    rfl
  · rw [hkept.get_eq _ (Fld.ofEnc_of_page hk rfl rfl), sheetTaken, get_ev_enc _ _ _ _ (k := k) rfl rfl, Dev.get_set_same,
      get_setPin rfl rfl]
    rfl
  · rw [hkept.enc, sheetTaken, Dev.enc_ev, Dev.enc_set, Dev.enc_set, Dev.enc_setEnc_same]

/-! ### The statement -/

/-- Settles O20. That an index is not checked while the flag of Z is set and what the lockout of SE does
(notes/assumptions/29.md), and that nothing changes where no flag is set and no timer runs (notes/assumptions/56.md) are
readings of the model. -/
theorem encoderEvents : Obligations.EncoderEvents := by
  refine ⟨fun s k dt hs hk hc hm => ?_, fun s k dt hs hk hc hm hen hgate hz ha => ?_, fun s k line dt hs hk hl hw => ?_,
    fun s k dt hs hk hw => ?_, fun s k line dt hs hk hl hw => ?_, fun s k t hs hk hdue => ?_,
    fun s k dt rising hs hk hpol hflag hrun hlock => ?_, fun s k dt hs hk h => ?_, fun s k dt rising hs hk h => ?_,
    fun s k dt hs hk hc hm hen hgate hz ha hdir hsat hper hset => ?_,
    fun s k dt e err hs hk hc hm hen hgate hz ha hdir hsat hper hset he herr hin => ?_,
    fun s k dt e err hs hk hc hm hen hgate hz ha hdir hsat hper hset he herr hout => ?_,
    fun s k dt hs hk hw hdiff => ?_, fun s k line dt hs hk hl h => ?_, fun s k line dt hs hk hl hlast hw hrun => ?_,
    fun s k dt rising hs hk hpol hflag hrun hlock => ?_, fun s k dt rising hs hk h => ?_,
    fun s k dt w d1 d2 hs h1 hc hm hw h2 => ?_, fun s k dt rising d1 hs h1 h => ?_,
    fun s k dt d1 d2 home d3 hs h1 hc hm hen hgate h2 ha hhome h3 => ?_, fun s k dt d1 d2 hs h1 hc hm hen hgate h2 ha h => ?_,
    fun s k dt d1 d2 hs h1 hc hm hen hgate h2 hdir hz hsat ha hper hset => ?_,
    fun s k dt d1 d2 e err hs h1 hc hm hen hgate h2 hdir hz hsat ha hper hset he herr hin => ?_,
    fun s k dt d1 d2 e err d3 hs h1 hc hm hen hgate h2 hdir hz hsat ha hper hset he herr hout h3 => ?_,
    fun s k line dt hs hl hw => ?_, fun s k line dt d1 hs hk hl h1 hw => ?_, fun s k hs hdue => ?_,
    fun s k dt rising hs hk hdiff hw => ?_, fun s k dt rising d1 d2 d3 hs hk h1 hpol hflag hrun hlock h2 h3 => ?_⟩
  · exact completes_of_exec (exec_illegalChange hs ..) (illegalChange_shows hk hc hm)
  · have htake : (s.dev.advance dt).takesIndex k := ⟨hc, hm, hen, hgate⟩
    exact completes_of_exec (exec_index hs ..) (zEdge_home_shows htake hk ha)
  · exact completes_of_exec (exec_wireFlag hs ..) ⟨wireFlag_stops hl hw, wireFlag_stops_shows hk hl hw⟩
  · exact completes_of_exec (exec_wireFlag hs ..) (wireFlag_z hw)
  · have h := wireClear_other (d := s.dev.advance dt) hl hw
    refine completes_of_exec (exec_wireFlagClear hs ..) ⟨h, ?_⟩
    rw [h]
    exact wireClear_other_shows hk ..
  · have h := standstill_ends hdue
    refine completes_of_exec (exec_standstill hs k) ⟨h, ?_⟩
    rw [h]
    exact stillStands_shows hk _
  · have htake : (s.dev.advance dt).takesSheet k rising := ⟨hpol, hflag, hrun⟩
    exact completes_of_exec (exec_sheetEdge hs ..) (sheetEdge_taken_shows hk htake hlock)
  · refine completes_of_exec (exec_illegalChange hs ..) (illegalChange_rests ?_)
    rw [counts_noisePins, get_noisePins rfl rfl]
    exact h
  · refine completes_of_exec (exec_index hs ..) (zEdge_rests rfl (h.imp_right fun h => ?_))
    exact mt (takesIndex_setPin ..).mp (not_takesIndex (h.imp_right (.imp_right .inl)))
  · have htake : (s.dev.advance dt).takesIndex k := ⟨hc, hm, hen, hgate⟩
    exact completes_of_exec (exec_index hs ..) (zEdge_first_shows htake hz ha hdir hsat hper hset)
  · have htake : (s.dev.advance dt).takesIndex k := ⟨hc, hm, hen, hgate⟩
    exact completes_of_exec (exec_index hs ..) (zEdge_corrects_shows htake hz ha hdir hsat hper hset he herr hk hin)
  · have htake : (s.dev.advance dt).takesIndex k := ⟨hc, hm, hen, hgate⟩
    exact completes_of_exec (exec_index hs ..) (zEdge_mismatches_shows htake hz ha hdir hsat hper hset he herr hout)
  · exact completes_of_exec (exec_wireFlag hs ..) (wireFlag_se hw hdiff)
  · exact completes_of_exec (exec_wireFlag hs ..) (wireFlag_rests hl h)
  · have h := wireClear_resumes (d := s.dev.advance dt) hl hlast hw hrun
    refine completes_of_exec (exec_wireFlagClear hs ..) ⟨h, ?_⟩
    rw [h]
    exact wireClear_resumes_shows hk _
  · have htake : (s.dev.advance dt).takesSheet k rising := ⟨hpol, hflag, hrun⟩
    exact completes_of_exec (exec_sheetEdge hs ..) (sheetEdge_rejected rfl htake hlock)
  · have hrest : ¬(s.dev.advance dt).takesSheet k rising := not_takesSheet h
    exact completes_of_exec (exec_sheetEdge hs ..) (sheetEdge_rests rfl hrest)
  · have hd1 : noisePins k (s.dev.advance dt) = d1 := (noisePins_inTurn k _).symm.trans h1
    subst hw h2 hd1
    exact completes_of_exec (exec_illegalChange hs ..) (illegalChange_counts hc hm)
  · have hd1 : setPin k 1 rising (s.dev.advance dt) = d1 := h1
    exact completes_of_exec (exec_index hs ..) (zEdge_rests hd1 (h.imp_right not_takesIndex))
  · have hd1 : setPin k 1 true (s.dev.advance dt) = d1 := h1
    obtain rfl : indexLatched k d1 = d2 := h2
    subst hhome h3
    exact completes_of_exec (exec_index hs ..) ((zEdge_takes hd1 ⟨hc, hm, hen, hgate⟩).trans (takeIndex_home ha))
  · have hd1 : setPin k 1 true (s.dev.advance dt) = d1 := h1
    obtain rfl : indexLatched k d1 = d2 := h2
    exact completes_of_exec (exec_index hs ..) ((zEdge_takes hd1 ⟨hc, hm, hen, hgate⟩).trans (takeIndex_rests hm ha h))
  · have hd1 : setPin k 1 true (s.dev.advance dt) = d1 := h1
    obtain rfl : indexLatched k d1 = d2 := h2
    exact completes_of_exec (exec_index hs ..) ((zEdge_takes hd1 ⟨hc, hm, hen, hgate⟩).trans
      ((takeIndex_checks ha hdir hsat hz).trans (checkIndex_first hper hset)))
  · have hd1 : setPin k 1 true (s.dev.advance dt) = d1 := h1
    obtain rfl : indexLatched k d1 = d2 := h2
    exact completes_of_exec (exec_index hs ..) ((zEdge_takes hd1 ⟨hc, hm, hen, hgate⟩).trans
      ((takeIndex_checks ha hdir hsat hz).trans (checkIndex_corrects hper hset he herr hin)))
  · have hd1 : setPin k 1 true (s.dev.advance dt) = d1 := h1
    obtain rfl : indexLatched k d1 = d2 := h2
    subst h3
    have hmode : (indexLatched k d1).get (Reg.ENC.CFG.MODE k) ≠ 1 := (mode_indexLatched k d1).trans_ne hm
    exact completes_of_exec (exec_index hs ..) ((zEdge_takes hd1 ⟨hc, hm, hen, hgate⟩).trans
      ((takeIndex_checks ha hdir hsat hz).trans (checkIndex_mismatches hper hset he herr hmode hout)))
  · exact completes_of_exec (exec_wireFlagClear hs ..) (wireClear_rests hl hw)
  · subst h1
    exact completes_of_exec (exec_wireFlagClear hs ..) (wireClear_clears hl hw)
  · exact completes_of_exec (exec_standstill hs k) (Dev.onTimer_none hdue _)
  · have hrest : ¬(s.dev.advance dt).takesSheet k rising := not_takesSheet_of_flagged hdiff hw
    exact completes_of_exec (exec_sheetEdge hs ..) (sheetEdge_rests rfl hrest)
  · have hd1 : setPin k 0 rising (s.dev.advance dt) = d1 := h1
    obtain rfl : sheetTaken k d1 = d2 := h2
    obtain rfl : sheetPushed k (sheetTaken k d1) = d3 := h3
    have htake : (s.dev.advance dt).takesSheet k rising := ⟨hpol, hflag, hrun⟩
    exact completes_of_exec (exec_sheetEdge hs ..) (sheetEdge_taken hd1 htake hlock)

end Sys2Proof.Machine
end

section
/-!
PROOF. Commands of an encoder channel and snapshots (O21; R268, R269).
-/
namespace Sys2Proof.Machine

/-! ### Writes of ENC_k.CMD -/

theorem ofPage_enc : ∀ k < 4, Blk.ofPage (0x91 + k) = some (.ENC, k) := by decide

theorem fieldsAt_enc_cmd : ∀ k < 4,
    Blk.fieldsAt k 0x58 .ENC = [Reg.ENC.CMD.ARM_HOME k, Reg.ENC.CMD.PRESET k, Reg.ENC.CMD.CLR_REF k] := by decide

theorem actsOnly_enc_cmd {k : Nat} :
    ∀ f ∈ [Reg.ENC.CMD.ARM_HOME k, Reg.ENC.CMD.PRESET k, Reg.ENC.CMD.CLR_REF k], f.ActsOnly k .ENC := by
  simp only [List.forall_mem_cons, List.not_mem_nil, false_implies, implies_true, and_true]
  exact ⟨⟨rfl, .inl rfl⟩, ⟨rfl, .inl rfl⟩, ⟨rfl, .inl rfl⟩⟩

/-- No field of CMD is among those that a lock keeps. -/
theorem encDenied_cmd : ∀ k < 4, ∀ f ∈ [Reg.ENC.CMD.ARM_HOME k, Reg.ENC.CMD.PRESET k, Reg.ENC.CMD.CLR_REF k],
    (encGuarded k).contains f = false := by decide

/-- A host write of CMD only gives its commands. -/
theorem hostWrite_encCmd (u : Fuses) {k : Nat} (hk : k < 4) {v : Nat} (hv : v < 2 ^ 32) {d : Dev} (ho : d.pageOff (0x91 + k) = false) :
    hostWrite u ((0x91 + k) * 4096 + 0x58) v d = encCmd k v d := by
  have hpage : ((0x91 + k) * 4096 + 0x58) / 4096 = 0x91 + k := by omega
  have hoff : ((0x91 + k) * 4096 + 0x58) % 4096 / 4 * 4 = 0x58 := by omega
  have hfields := fieldsAt_enc_cmd k hk
  have hlo : isLo (Blk.fieldsAt k 0x58 .ENC) 0x58 = false := by rw [hfields]; rfl
  have hhi : isHi (Blk.fieldsAt k 0x58 .ENC) 0x58 = false := by rw [hfields]; rfl
  have hfree (o : Offer) : encDenied k (Blk.fieldsAt k 0x58 .ENC) o d = false := by
    rw [encDenied, hfields, List.any_eq_false.mpr fun f hf => ?_, Bool.and_false]
    rw [encDenied_cmd k hk f hf]
    exact Bool.false_ne_true
  have hden (o : Offer) : d.denied u k .ENC (Blk.fieldsAt k 0x58 .ENC) o = [] := by
    refine Dev.denied_nil (List.all_eq_true.mpr fun f hf => ?_)
    rw [hfields] at hf
    rw [(actsOnly_enc_cmd f hf).not_guarded]
    rfl
  rw [hostWrite, busWrite_own (b := .ENC) (n := k) (by rw [hpage, ofPage_enc k hk]) (by rwa [hpage]) (by omega)
      (by omega) (by decide), hoff, blockWrite_single (by decide) hlo hhi, Nat.mod_eq_of_lt hv]
  simp only [fieldsWrite, hden, hfree]
  rw [hfields, foldl_fieldWrite_actsOnly actsOnly_enc_cmd]
  rfl

section
variable {k : Nat} {s : State} {e : Dev → Prop} (hk : k < 4) (ho : s.dev.pageOff (0x91 + k) = false) (hs : s.live)
include hk ho hs

theorem completes_preset (he : e (encPreset k s.dev)) : Completes (.preset k) s e :=
  completes_of_exec (exec_preset hs k) ((hostWrite_encCmd s.fuse hk (v := 2) (by decide) ho).symm ▸ he)

theorem completes_armHome (he : e (encArmHome k s.dev)) : Completes (.armHome k) s e :=
  completes_of_exec (exec_armHome hs k) ((hostWrite_encCmd s.fuse hk (v := 4) (by decide) ho).symm ▸ he)

theorem completes_clrRef (he : e (encClrRef k s.dev)) : Completes (.clrRef k) s e :=
  completes_of_exec (exec_clrRef hs k) ((hostWrite_encCmd s.fuse hk (v := 1) (by decide) ho).symm ▸ he)

end

/-! ### PRESET (R268) -/

/-- A preset channel counts from POS_SET, without a reference and certain of its position. -/
theorem encPreset_shows {k : Nat} (hk : k < 4) {d : Dev} (hl : d.encLocked k = false) :
    ((encPreset k d).enc k).cnt = 0 ∧ ((encPreset k d).enc k).base = d.pos48 (Reg.ENC.POS_SET.POS k) ∧
      (encPreset k d).is (Reg.ENC.STAT.REF_SET k) = false ∧ (encPreset k d).is (Reg.ENC.STAT.UNCERTAIN k) = false := by
  have h : encPreset k d = restartSpeed k (setUncertain k false
      (((loadPos k (d.pos48 (Reg.ENC.POS_SET.POS k)) d).put (Reg.ENC.STAT.REF_SET k) false).set (Reg.ENC.STAT.MIS_RUN k) 0)) :=
    if_neg (ne_true_of_eq_false hl)
  obtain ⟨hist, normal, hload⟩ := enc_loadPos k (d.pos48 (Reg.ENC.POS_SET.POS k)) d
  rw [h, enc_certain, Dev.enc_set, Dev.enc_put, hload, certain_isCertain hk, is_certain hk rfl rfl rfl rfl, is_set_place _ _ rfl rfl rfl,
    Dev.is_put_same _ _ rfl]
  exact ⟨rfl, rfl, rfl, rfl⟩

/-! ### SNAP (R269) -/

/-- The positions of some channels kept. -/
def snapKept (ks : List Nat) (d : Dev) : Dev := ks.foldl (fun d k => d.set (Reg.ENC.SNAP.POS k) (d.get (Reg.ENC.POS.POS k))) d

theorem get_snapKept_ne (ks : List Nat) (d : Dev) {g : Fld} (h : ∀ k ∈ ks, g.key ≠ (Reg.ENC.SNAP.POS k).key) :
    (snapKept ks d).get g = d.get g := by
  induction ks generalizing d with
  | nil => rfl
  | cons k ks ih =>
    rw [List.forall_mem_cons] at h
    exact (ih _ h.2).trans (d.get_set_ne _ h.1)

/-- Each channel named has its position in SNAP. -/
theorem get_snapKept (ks : List Nat) (d : Dev) {j : Nat} (hj : j ∈ ks) :
    (snapKept ks d).get (Reg.ENC.SNAP.POS j) = d.get (Reg.ENC.POS.POS j) % 2 ^ 48 := by
  induction ks generalizing d with
  | nil => exact absurd hj List.not_mem_nil
  | cons k ks ih =>
    have hpos : (d.set (Reg.ENC.SNAP.POS k) (d.get (Reg.ENC.POS.POS k))).get (Reg.ENC.POS.POS j) = d.get (Reg.ENC.POS.POS j) :=
      get_set_place d _ rfl rfl rfl
    by_cases hin : j ∈ ks
    · exact (ih _ hin).trans (congrArg (· % 2 ^ 48) hpos)
    · obtain rfl : j = k := (List.mem_cons.mp hj).resolve_right hin
      refine (get_snapKept_ne ks _ fun i hi => key_ne_of_page rfl rfl ?_).trans (d.get_set_same ..)
      exact fun h => hin ((Nat.add_left_cancel h : j = i) ▸ hi)

/-- A snapshot of the channels. -/
theorem hostWrite_snap (u : Fuses) {d : Dev} (ho : d.pageOff 0x90 = false) : hostWrite u 0x90040 1 d = encSnap d := by
  rw [hostWrite_actsOnly (b := .ENCC) (n := 0) (off := 0x40) (fs := [Reg.ENCC.SNAP.GO]) (by decide) ho (by decide) (by decide) (by decide)
    (by decide) (by decide) (List.forall_mem_singleton.mpr ⟨rfl, .inl rfl⟩)]
  rfl

theorem steady_snapTs : Reg.ENCC.SNAP_TS.TS.Steady := ⟨by decide, by decide, by decide, by decide⟩

/-- A snapshot keeps the positions and the time. -/
theorem encSnap_shows (d : Dev) :
    (∀ k ∈ List.range 4, (encSnap d).get (Reg.ENC.SNAP.POS k) = d.get (Reg.ENC.POS.POS k) % 2 ^ 48) ∧
      (encSnap d).get Reg.ENCC.SNAP_TS.TS = d.ts % 2 ^ 64 ∧ (encSnap d).evRaw .ENCC 0 0 = true := by
  have htime : (snapKept (List.range 4) d).ts = d.ts := rfl
  have hsnap : encSnap d = ((snapKept (List.range 4) d).set Reg.ENCC.SNAP_TS.TS d.ts).ev .ENCC 0 0 := by rw [← htime]; rfl
  rw [hsnap]
  refine ⟨fun k hk => ?_, ?_, Dev.evRaw_ev _ _ _ (by decide)⟩
  · rw [get_ev_enc _ _ _ _ (k := k) rfl rfl, get_set_place _ _ rfl rfl rfl, get_snapKept _ _ hk]
  · rw [(Dev.onlyRises_ev ..).1 _ steady_snapTs, Dev.get_set_same]
    rfl

end Sys2Proof.Machine
end

section
/-!
PROOF. The encoder outputs, and the statement about the commands of chapter 11 (O21; R276, R277).
-/
namespace Sys2Proof.Machine

/-! ### Writes of EOUT_m.CFG -/

/-- A field that a write sets takes some value; nothing else changes. -/
theorem fieldWrite_set (n : Nat) (b : Blk) (o : Offer) (d : Dev) (f : Fld) :
    fieldWrite n b o d f = d ∨ ∃ v, fieldWrite n b o d f = d.set f v := by
  rw [fieldWrite]
  split
  · exact .inl rfl
  · split
    · exact .inr ⟨_, rfl⟩
    · exact .inr ⟨_, rfl⟩
    · exact .inr ⟨_, rfl⟩
    · exact .inl rfl

/-- From `d` to `d'` only fields of `fs` have changed. -/
def Dev.OnlyFields (fs : List Fld) (d d' : Dev) : Prop := d' = { d with regs := d'.regs } ∧ d.Kept d' fs

/-- A write of several fields changes those fields only. -/
theorem onlyFields_foldl (n : Nat) (b : Blk) (o : Offer) (fs : List Fld) (d : Dev) : d.OnlyFields fs (fs.foldl (fieldWrite n b o) d) := by
  induction fs generalizing d with
  | nil => exact ⟨rfl, fun _ _ => rfl⟩
  | cons f fs ih =>
    have hstep : d.OnlyFields [f] (fieldWrite n b o d f) := by
      obtain h | ⟨v, h⟩ := fieldWrite_set n b o d f
      · rw [h]
        exact ⟨rfl, fun _ _ => rfl⟩
      · rw [h]
        exact ⟨rfl, fun g hg => d.get_set_ne v (hg f (List.mem_singleton_self f))⟩
    obtain ⟨hshape, hkept⟩ := hstep
    obtain ⟨hshape', hkept'⟩ := ih (fieldWrite n b o d f)
    refine ⟨?_, fun g hg => ?_⟩
    · rw [List.foldl_cons, hshape', hshape]
    · rw [List.forall_mem_cons] at hg
      exact (hkept' g hg.2).trans (hkept g (List.forall_mem_singleton.mpr hg.1))

/-- The fields of CFG that a write sets by itself. -/
def outCfgFields (m : Nat) : List Fld := [Reg.EOUT.CFG.Z_EN m, Reg.EOUT.CFG.INVERT m, Reg.EOUT.CFG.REV_MODE m]

/-- The device once these have taken the values of a word written. -/
def outCfgWritten (m v : Nat) (d : Dev) : Dev := (outCfgFields m).foldl (fieldWrite m .EOUT { raw := v, whole := some v }) d

theorem outCfgWritten_onlyFields (m v : Nat) (d : Dev) : d.OnlyFields (outCfgFields m) (outCfgWritten m v d) := onlyFields_foldl ..

theorem ofPage_eout : ∀ m < 2, Blk.ofPage (0x98 + m) = some (.EOUT, m) := by decide

theorem fieldsAt_eout_cfg : ∀ m < 2, Blk.fieldsAt m 0x40 .EOUT = Reg.EOUT.CFG.OUT_EN m :: outCfgFields m := by decide

/-- OUT_EN takes its value in an operation of its own. -/
theorem fieldWrite_outEn (m : Nat) (o : Offer) (d : Dev) : fieldWrite m .EOUT o d (Reg.EOUT.CFG.OUT_EN m) = d :=
  if_pos (.inl (beq_self_eq_true _))

theorem isRw_eout_cfg : ∀ m < 2, ∀ f ∈ Reg.EOUT.CFG.OUT_EN m :: outCfgFields m, f.acc = .rw := by decide

/-- A host write of CFG sets its fields, and then OUT_EN acts. -/
theorem hostWrite_outCfg (u : Fuses) {m : Nat} (hm : m < 2) (v : Nat) {d : Dev} (ho : d.pageOff (0x98 + m) = false) :
    hostWrite u ((0x98 + m) * 4096 + 0x40) v d =
      instanceActs .EOUT m 0x40 (v % 2 ^ 32) true d (outCfgWritten m (v % 2 ^ 32) d) := by
  have hpage : ((0x98 + m) * 4096 + 0x40) / 4096 = 0x98 + m := by omega
  have hoff : ((0x98 + m) * 4096 + 0x40) % 4096 / 4 * 4 = 0x40 := by omega
  have hfields := fieldsAt_eout_cfg m hm
  have hlo : isLo (Blk.fieldsAt m 0x40 .EOUT) 0x40 = false := by rw [hfields]; rfl
  have hhi : isHi (Blk.fieldsAt m 0x40 .EOUT) 0x40 = false := by rw [hfields]; rfl
  have hden (o : Offer) : d.denied u m .EOUT (Blk.fieldsAt m 0x40 .EOUT) o = [] := by
    refine Dev.denied_nil (List.all_eq_true.mpr fun f hf => ?_)
    rw [hfields] at hf
    rw [Dev.guarded, isRw_eout_cfg m hm f hf]
    rfl
  rw [hostWrite, busWrite_own (b := .EOUT) (n := m) (by rw [hpage, ofPage_eout m hm]) (by rwa [hpage]) (by omega) (by omega) (by decide),
    hoff, blockWrite_single (by decide) hlo hhi, fieldsWrite_ok (hden _) (by decide), hfields, List.foldl_cons, fieldWrite_outEn]
  rfl

/-- What OUT_EN of the word written does. -/
theorem instanceActs_outCfg (m v : Nat) (old d : Dev) :
    instanceActs .EOUT m 0x40 v true old d =
      if bit v 31 = true ∧ old.is (Reg.EOUT.CFG.OUT_EN m) = false then outEnSet m d
      else if bit v 31 = false ∧ old.is (Reg.EOUT.CFG.OUT_EN m) = true then outEnClear m d else d := rfl

/-- OUT_EN_SET is a write of CFG with OUT_EN set, whatever the register held. -/
theorem testBit_outEnWord (x : Nat) : bit ((x ||| 0x80000000) % 2 ^ 32) 31 = true := by
  rw [bit, Nat.testBit_mod_two_pow, Nat.testBit_or, show (0x80000000 : Nat) = 2 ^ 31 from rfl, Nat.testBit_two_pow_self]
  simp

/-- The word that OUT_EN_SET writes. -/
def outEnWord (u : Fuses) (m : Nat) (d : Dev) : Nat :=
  (andNot (d.held u ((0x98 + m) * 4096 + 0x40)) 0x80000000 ||| 0x80000000) % 2 ^ 32

section
variable {m : Nat} {u : Fuses} {d : Dev} (hm : m < 2) (ho : d.pageOff (0x98 + m) = false)
include hm ho

/-- An output already enabled only takes the other fields of the write. -/
theorem hostPatch_outEn_enabled (hen : d.is (Reg.EOUT.CFG.OUT_EN m) = true) :
    hostPatch u ((0x98 + m) * 4096 + 0x40) 0x80000000 0x80000000 d = outCfgWritten m (outEnWord u m d) d := by
  have hbit := testBit_outEnWord (andNot (d.held u ((0x98 + m) * 4096 + 0x40)) 0x80000000)
  rw [hostPatch, hostWrite_outCfg u hm _ ho, instanceActs_outCfg, if_neg, if_neg]
  · rfl
  · exact fun ⟨hclear, _⟩ => Bool.false_ne_true (hclear.symm.trans hbit)
  · exact fun ⟨_, hoff⟩ => Bool.false_ne_true (hoff.symm.trans hen)

/-- An output that is off starts. -/
theorem hostPatch_outEn_starts (hen : d.is (Reg.EOUT.CFG.OUT_EN m) = false) :
    hostPatch u ((0x98 + m) * 4096 + 0x40) 0x80000000 0x80000000 d = outEnSet m (outCfgWritten m (outEnWord u m d) d) := by
  rw [hostPatch, hostWrite_outCfg u hm _ ho, instanceActs_outCfg, if_pos ⟨testBit_outEnWord _, hen⟩]
  rfl

end

/-! ### Start of an output (R276) -/

theorem get_setEout (d : Dev) (m : Nat) (e : Eout) (f : Fld) : (d.setEout m e).get f = d.get f := rfl

theorem eout_setEout_same (d : Dev) (m : Nat) (e : Eout) : (d.setEout m e).eout m = e := tget_tset_same ..

/-- The emulated position of an output whose highest position is the present one. -/
theorem eoutQ_self (d : Dev) (m : Nat) (p : Int) : d.eoutQ m p p = p := by
  unfold Dev.eoutQ
  extract_lets mode
  split
  · rfl
  · split
    · rfl
    · omega

section
variable {m : Nat} {d e : Dev} (he : d.OnlyFields (outCfgFields m) e) (hen : d.is (Reg.EOUT.CFG.OUT_EN m) = false)
include he hen

theorem outEnSet_starts :
    outEnSet m e = ((e.put (Reg.EOUT.CFG.OUT_EN m) true).set (Reg.EOUT.STEPS.COUNT m) 0).setEout m
      { d.eout m with h := (d.eout m).p, q0 := (d.eout m).p, n := 0, runs := [] } := by
  obtain ⟨hshape, hkept⟩ := he
  have hoff : e.is (Reg.EOUT.CFG.OUT_EN m) = false := by
    rw [Dev.is_eq, hkept, ← Dev.is_eq, hen]
    simp only [outCfgFields, List.forall_mem_cons, List.not_mem_nil, false_implies, implies_true, and_true]
    exact ⟨key_ne_of_place rfl rfl rfl, key_ne_of_place rfl rfl rfl, key_ne_of_place rfl rfl rfl⟩
  have hout : e.eout m = d.eout m := by rw [hshape]; rfl
  rw [outEnSet, if_neg (ne_true_of_eq_false hoff)]
  dsimp only
  rw [eoutQ_self, hout]

/-- An output that starts is enabled, at step 0 and with nothing to send. -/
theorem outEnSet_shows :
    (outEnSet m e).is (Reg.EOUT.CFG.OUT_EN m) = true ∧ (outEnSet m e).get (Reg.EOUT.STEPS.COUNT m) = 0 ∧
      (outEnSet m e).eout m = { d.eout m with h := (d.eout m).p, q0 := (d.eout m).p, n := 0, runs := [] } := by
  rw [outEnSet_starts he hen]
  refine ⟨?_, ?_, eout_setEout_same ..⟩
  · rw [Dev.is_eq, get_setEout, ← Dev.is_eq, is_set_place _ _ rfl rfl rfl, Dev.is_put_same _ _ rfl]
  · rw [get_setEout, Dev.get_set_same, Nat.zero_mod]

/-- Beside its own fields an output that starts changes its store alone. -/
theorem outEnSet_kept :
    outEnSet m e = { d with regs := (outEnSet m e).regs, eouts := (outEnSet m e).eouts } ∧
      d.Kept (outEnSet m e) (Blk.EOUT.fields m) := by
  have hstart := outEnSet_starts he hen
  obtain ⟨hshape, hkept⟩ := he
  refine ⟨?_, fun g hg => ?_⟩
  · rw [hstart, hshape]
    rfl
  · have hne {f : Fld} (hf : f ∈ Reg.EOUT.plain m) : g.key ≠ f.key := hg f hf
    have hcfg : ∀ f ∈ outCfgFields m, g.key ≠ f.key := by
      simp only [outCfgFields, List.forall_mem_cons, List.not_mem_nil, false_implies, implies_true, and_true]
      exact ⟨hne (by simp [Reg.EOUT.plain]), hne (by simp [Reg.EOUT.plain]), hne (by simp [Reg.EOUT.plain])⟩
    have hon : g.key ≠ (Reg.EOUT.CFG.OUT_EN m).key := hne (by simp [Reg.EOUT.plain])
    have hsteps : g.key ≠ (Reg.EOUT.STEPS.COUNT m).key := hne (by simp [Reg.EOUT.plain])
    rw [hstart, get_setEout, Dev.get_set_ne _ _ hsteps, Dev.put_eq, e.get_set_ne _ hon, hkept g hcfg]

end

/-! ### Steps (R277) -/

theorem eoutStep_rests {m : Nat} {d : Dev}
    (h : d.enabled (pg .EOUT m) = false ∨ d.is (Reg.EOUT.CFG.OUT_EN m) = false ∨ popStep (d.eout m).runs = none) :
    eoutStep m d = d := by
  unfold eoutStep
  extract_lets e
  split
  · rfl
  · next hgo =>
    have hnone : popStep e.runs = none := h.elim (fun h => absurd (.inl h) hgo) (·.resolve_left fun h => hgo (.inr h))
    rw [hnone]

/-- The phase of an output after a step. -/
def Dev.nextPhase (d : Dev) (m : Nat) (sg : Int) : Nat :=
  ((((d.eout m).phase : Int) + (if d.is (Reg.EOUT.CFG.INVERT m) = true then -sg else sg)) % 4).toNat

/-- STEPS after a step. -/
def Dev.nextSteps (d : Dev) (m : Nat) (sg : Int) : Nat := ofSigned 48 (toSigned 48 (d.get (Reg.EOUT.STEPS.COUNT m)) + sg)

/-- A step goes out on A and B. -/
def stepSent (m : Nat) (rest : List Int) (ph st : Nat) (d : Dev) : Dev :=
  ((((d.advanceTo (d.eout m).free).setEout m { d.eout m with
      runs := rest, phase := ph
      free := (d.advanceTo (d.eout m).free).time.up + max 25 (d.get (Reg.EOUT.MIN_STEP.TICKS m)) * tick }).emit
    (.pin Pin.eoutA m (if ph = 1 ∨ ph = 2 then 1 else 0))).emit (.pin Pin.eoutB m (if 2 ≤ ph then 1 else 0))).set
    (Reg.EOUT.STEPS.COUNT m) st

/-- A rising step at a multiple of the period starts a Z pulse. -/
def stepIndexed (m : Nat) (sg : Int) (st : Nat) (d : Dev) : Dev :=
  if sg = 1 ∧ d.is (Reg.EOUT.CFG.Z_EN m) = true ∧ d.get (Reg.EOUT.Z_CFG.PERIOD m) ≠ 0 ∧
      toSigned 48 st % (d.get (Reg.EOUT.Z_CFG.PERIOD m) : Int) = 0
  then (d.emit (.pin Pin.eoutZ m 1)).arm (.eoutZ m) (d.get (Reg.EOUT.Z_CFG.WIDTH m) * tick) else d

section
variable {m : Nat} {d : Dev} {sg : Int} {rest : List Int} (hen : d.enabled (pg .EOUT m) = true)
  (hout : d.is (Reg.EOUT.CFG.OUT_EN m) = true) (hpop : popStep (d.eout m).runs = some (sg, rest))
include hen hout hpop

theorem eoutStep_sends :
    eoutStep m d = stepIndexed m sg (d.nextSteps m sg) (stepSent m rest (d.nextPhase m sg) (d.nextSteps m sg) d) := by
  have hgo : ¬(d.enabled (pg .EOUT m) = false ∨ d.is (Reg.EOUT.CFG.OUT_EN m) = false) := by rw [hen, hout]; decide
  unfold eoutStep
  extract_lets e
  rw [if_neg hgo, hpop]
  rfl

/-- A step shows in the store of the output, in STEPS and on A and B. -/
theorem eoutStep_shows :
    ((eoutStep m d).eout m).runs = rest ∧ ((eoutStep m d).eout m).phase = d.nextPhase m sg ∧
      (eoutStep m d).get (Reg.EOUT.STEPS.COUNT m) = d.nextSteps m sg ∧
      ((eoutStep m d).eout m).free = (d.advanceTo (d.eout m).free).time.up + max 25 (d.get (Reg.EOUT.MIN_STEP.TICKS m)) * tick ∧
      [Output.pin Pin.eoutA m (if d.nextPhase m sg = 1 ∨ d.nextPhase m sg = 2 then 1 else 0),
        Output.pin Pin.eoutB m (if 2 ≤ d.nextPhase m sg then 1 else 0)] <+: (eoutStep m d).out.drop d.out.length := by
  rw [eoutStep_sends hen hout hpop]
  generalize d.nextPhase m sg = ph
  generalize hst : d.nextSteps m sg = st
  have hkept (d' : Dev) : (stepIndexed m sg st d').eouts = d'.eouts ∧ (stepIndexed m sg st d').regs = d'.regs ∧
      d'.out <+: (stepIndexed m sg st d').out := by
    rw [stepIndexed]
    split
    · exact ⟨rfl, rfl, List.prefix_append ..⟩
    · exact ⟨rfl, rfl, List.prefix_refl _⟩
  obtain ⟨heouts, hregs, houts⟩ := hkept (stepSent m rest ph st d)
  have heout : (stepIndexed m sg st (stepSent m rest ph st d)).eout m = { d.eout m with
      runs := rest, phase := ph
      free := (d.advanceTo (d.eout m).free).time.up + max 25 (d.get (Reg.EOUT.MIN_STEP.TICKS m)) * tick } := by
    rw [Dev.eout, heouts]
    exact eout_setEout_same ..
  rw [heout]
  refine ⟨rfl, rfl, ?_, rfl, ?_⟩
  · rw [Dev.get_of_regs hregs, stepSent, Dev.get_set_same, ← hst]
    exact ofSigned_mod 48 _
  · have hpins : (stepSent m rest ph st d).out.drop d.out.length = [Output.pin Pin.eoutA m (if ph = 1 ∨ ph = 2 then 1 else 0),
        Output.pin Pin.eoutB m (if 2 ≤ ph then 1 else 0)] := by
      show List.drop d.out.length ((d.out ++ [_]) ++ [_]) = _
      rw [List.append_assoc, List.drop_left]
      rfl
    rw [← hpins]
    exact houts.drop _

end

/-! ### The statement -/

/-- Settles O21. That a locked channel raises ENC_LOCKED once for each command (notes/assumptions/57.md), how the outputs start
and step (notes/assumptions/30.md) and the refused pages (notes/assumptions/12.md) are readings of the model. -/
theorem encoderCommands : Obligations.EncoderCommands := by
  refine ⟨fun s k hs hk ho hl => ?_, fun s k hs hk ho hl => ?_, fun s k hs hk ho hl => ?_, fun s k hs hk ho hl => ?_,
    fun s hs ho => ?_, fun s m hs hm ho hen => ?_, fun s m sg rest hs hm hrun hen hpop => ?_, fun s k hs hk ho hl => ?_,
    fun s k hs hk ho hl => ?_, fun s m hs h => ?_, fun s m d1 hs hm ho hen h1 => ?_,
    fun s m sg rest ph st d1 hs hrun hen hpop hph hst h1 => ?_, fun s n hs ho hn => ?_, fun s hs ho => ?_, fun s m hs ho hm => ?_,
    fun s m hs hm ho hen => ?_⟩
  · exact completes_preset hk ho hs ⟨rfl, encPreset_shows hk hl⟩
  · exact completes_armHome hk ho hs (if_neg (ne_true_of_eq_false hl))
  · exact completes_clrRef hk ho hs (if_neg (ne_true_of_eq_false hl))
  · exact completes_preset hk ho hs (if_pos hl)
  · have h := hostWrite_snap s.fuse ho
    refine completes_of_exec (exec_snap hs) ?_
    rw [h]
    exact ⟨rfl, encSnap_shows s.dev⟩
  · have h := hostPatch_outEn_starts (u := s.fuse) hm ho hen
    refine completes_of_exec (exec_outEnSet hs m) ?_
    obtain ⟨hon, hsteps, hstore⟩ := outEnSet_shows (outCfgWritten_onlyFields m (outEnWord s.fuse m s.dev) s.dev) hen
    rw [h, hstore]
    exact ⟨hon, hsteps, rfl, rfl, rfl⟩
  · obtain ⟨hruns, hphase, hsteps, hfree, hpins⟩ := eoutStep_shows hrun hen hpop
    rw [← hphase] at hpins
    exact completes_of_exec (exec_eoutStep hs m) ⟨hruns, hphase, hsteps, hfree, hpins⟩
  · exact completes_armHome hk ho hs (if_pos hl)
  · exact completes_clrRef hk ho hs (if_pos hl)
  · exact completes_of_exec (exec_eoutStep hs m) (eoutStep_rests h)
  · have h := hostPatch_outEn_starts (u := s.fuse) hm ho hen
    have hcfg := outCfgWritten_onlyFields m (outEnWord s.fuse m s.dev) s.dev
    obtain ⟨-, -, hstore⟩ := outEnSet_shows hcfg hen
    obtain ⟨hshape, hkept⟩ := outEnSet_kept hcfg hen
    subst h1
    refine completes_of_exec (exec_outEnSet hs m) ?_
    rw [h, eoutQ_self]
    exact ⟨hstore, hshape, hkept⟩
  · subst hph hst h1
    exact completes_of_exec (exec_eoutStep hs m) (eoutStep_sends hrun hen hpop)
  · have hpage : ((0x91 + n) * 4096 + 0x58) / 4096 = 0x91 + n := by omega
    have hoff {v : Nat} : hostWrite s.fuse ((0x91 + n) * 4096 + 0x58) v s.dev = hostRefused 0x21 ((0x91 + n) * 4096 + 0x58) s.dev :=
      hostWrite_off (by rwa [hpage]) (by omega) (by omega)
    simp only [List.forall_mem_cons, List.not_mem_nil, false_implies, implies_true, and_true]
    exact ⟨completes_of_exec (exec_preset hs n) hoff, completes_of_exec (exec_armHome hs n) hoff,
      completes_of_exec (exec_clrRef hs n) hoff⟩
  · intro k hk
    obtain rfl := List.mem_singleton.mp hk
    exact completes_of_exec (exec_snap hs) (hostWrite_off ho (by decide) (by decide))
  · intro k hk
    obtain rfl := List.mem_singleton.mp hk
    have hpage : ((0x98 + m) * 4096 + 0x40) / 4096 = 0x98 + m := by omega
    exact completes_of_exec (exec_outEnSet hs m) (hostWrite_off (by rwa [hpage]) (by omega) (by omega))
  · have h := hostPatch_outEn_enabled (u := s.fuse) hm ho hen
    obtain ⟨hshape, hkept⟩ := outCfgWritten_onlyFields m (outEnWord s.fuse m s.dev) s.dev
    refine completes_of_exec (exec_outEnSet hs m) ?_
    rw [h]
    exact ⟨hshape, fun g hg => hkept g fun f hf => hg f (List.mem_append_left _ hf)⟩

end Sys2Proof.Machine
end

section
/-!
PROOF. The fuses (O51 to O53) and the hold in reset (O49). The one command whose answer has fuses of its own is
FUSE_PROGRAM_DONE, and what the read-back of a step does to fuses is `Fuses.program`: it blows a lifecycle bit, replaces a
key slot or adds a row at the end of the rows.
-/
namespace Sys2Proof.Machine

/-! ### Fuses are programmed once -/

theorem Fuses.keptIn_refl (u : Fuses) : u.keptIn u := ⟨id, id, id, id, List.prefix_refl _⟩

theorem Fuses.keptIn.trans {u v w : Fuses} (h : u.keptIn v) (k : v.keptIn w) : u.keptIn w := by
  obtain ⟨hp, hf, hr, hx, hrows⟩ := h
  obtain ⟨kp, kf, kr, kx, krows⟩ := k
  exact ⟨kp ∘ hp, kf ∘ hf, kr ∘ hr, kx ∘ hx, hrows.trans krows⟩

/-- The bit of a lifecycle target is blown; no other bit and no row changes (R447). -/
theorem Fuses.keptIn_blow (u : Fuses) (t : Nat) : u.keptIn (u.blow t) := by
  unfold Fuses.blow
  split
  · exact ⟨fun _ => rfl, id, id, id, List.prefix_refl _⟩
  · exact ⟨id, fun _ => rfl, id, id, List.prefix_refl _⟩
  · exact ⟨id, id, fun _ => rfl, id, List.prefix_refl _⟩
  · exact ⟨id, id, id, fun _ => rfl, List.prefix_refl _⟩
  · exact u.keptIn_refl

/-- A key slot holds no lifecycle bit and no row. -/
theorem Fuses.keptIn_setSlot (u : Fuses) (i : Nat) (k : KeySlot) : u.keptIn (u.setSlot i k) := u.keptIn_refl

/-- A row is added after those that are there (R451). -/
theorem Fuses.keptIn_addRow (u : Fuses) (row : Nat) : u.keptIn { u with rows := u.rows ++ [row] } :=
  ⟨id, id, id, id, List.prefix_append _ _⟩

/-- The read-back of a fuse program step leaves blown what was blown (R447, R449 to R451). -/
theorem Fuses.keptIn_program (u : Fuses) (m : Mail) (step : Nat) (ok : Bool) : u.keptIn (u.program m step ok) := by
  unfold Fuses.program
  split
  · split
    · exact u.keptIn_blow _
    · exact u.keptIn_refl
  · exact u.keptIn_setSlot _ _
  · split
    · exact u.keptIn_setSlot _ _
    · exact u.keptIn_refl
  · split
    · exact u.keptIn_addRow _
    · exact u.keptIn_refl
  · exact u.keptIn_refl

/-! ### FUSE_PROGRAM_DONE -/

/-- Without a command that programs fuses, the end of a step finds nothing. -/
theorem fuseDone_idle {d : Dev} (h : d.fusing = false) (ok : Bool) (u : Fuses) : fuseDone ok u d = (u, d) := by
  unfold fuseDone
  split
  · rfl
  · rw [if_pos h]

/-- With one, the fuses are those of the read-back, and the device shows the end of the step. -/
theorem fuseDone_fusing {d : Dev} {m : Mail} (hm : d.sec.cmd = some m) (h : d.fusing = true) (ok : Bool) (u : Fuses) :
    fuseDone ok u d = (u.program m d.sec.step ok, fuseStep (u.program m d.sec.step ok) m ok d) := by
  simp only [fuseDone, hm, h, Bool.true_eq_false, if_false]

/-- A command that programs fuses is in progress. -/
theorem Dev.cmd_of_fusing {d : Dev} (h : d.fusing = true) : ∃ m, d.sec.cmd = some m := by
  cases hm : d.sec.cmd with
  | none => simp [Dev.fusing, hm] at h
  | some m => exact ⟨m, rfl⟩

theorem Fuses.keptIn_fuseDone (ok : Bool) (u : Fuses) (d : Dev) : u.keptIn (fuseDone ok u d).1 := by
  cases h : d.fusing with
  | false =>
    rw [fuseDone_idle h]
    exact u.keptIn_refl
  | true =>
    obtain ⟨m, hm⟩ := Dev.cmd_of_fusing h
    rw [fuseDone_fusing hm h]
    exact u.keptIn_program m _ ok

/-! ### The fuses after a command and after a step -/

/-- Only FUSE_PROGRAM_DONE answers fuses of its own. -/
theorem exec_fuse {c : Instr} {s t : State} (hc : ∀ ok, c ≠ .fuseProgramDone ok) (h : exec c s = .next t) : t.fuse = s.fuse := by
  obtain ⟨d, hx⟩ | ⟨-, d, hx⟩ | ⟨ok, rfl, -⟩ := exec_cases c s
  · rw [hx] at h
    cases h
    rfl
  · rw [hx] at h
    cases h
    rfl
  · exact absurd rfl (hc ok)

/-- FUSE_PROGRAM_DONE answers the fuses that `fuseDone` gives, unless the device is held in reset. -/
theorem exec_fuseProgramDone_fuse {ok : Bool} {s t : State} (h : exec (.fuseProgramDone ok) s = .next t) :
    t.fuse = if s.dev.sys.inReset then s.fuse else (fuseDone ok s.fuse s.dev).1 := by
  have hx : exec (.fuseProgramDone ok) s = s.onFuse fun u d => fuseDone ok u d := rfl
  rw [hx, State.onFuse] at h
  cases h
  dsimp only
  split <;> rfl

/-- No command loses a blown bit or a row. -/
theorem Fuses.keptIn_exec {c : Instr} {s t : State} (h : exec c s = .next t) : s.fuse.keptIn t.fuse := by
  by_cases hc : ∃ ok, c = .fuseProgramDone ok
  · obtain ⟨ok, rfl⟩ := hc
    rw [exec_fuseProgramDone_fuse h]
    split
    · exact Fuses.keptIn_refl _
    · exact Fuses.keptIn_fuseDone ..
  · rw [exec_fuse (fun ok he => hc ⟨ok, he⟩) h]
    exact Fuses.keptIn_refl _

/-- No step loses a blown bit or a row. -/
theorem Fuses.keptIn_step {s t : State} (h : step s = .next t) : s.fuse.keptIn t.fuse := by
  unfold step at h
  split at h
  · cases h
    exact Fuses.keptIn_refl _
  · next c rest _ => exact Fuses.keptIn_exec (s := { s with pending := rest }) h

/-- Settles O52: what a step does to the fuses, after what the reference has of them. -/
theorem fusesNeverRevert : Obligations.FusesNeverRevert := fun _ _ _ hu h => hu.trans (Fuses.keptIn_step h)

/-- Settles O51. -/
theorem fusesOnlyProgrammed : Obligations.FusesOnlyProgrammed := by
  refine ⟨fun _ _ _ hc h => exec_fuse hc h, fun ok s t hf h => ?_⟩
  rw [exec_fuseProgramDone_fuse h, fuseDone_idle hf]
  exact ite_self _

/-- Settles O53. That the fuses at reset are those of a blank device is the choice of the model (notes/assumptions/6.md). -/
theorem fusesAtReset : Obligations.FusesAtReset := ⟨rfl, Fuses.keptIn_refl _, rfl⟩

/-! ### Held in reset -/

/-- A device held in reset is not brought into reset again. -/
theorem resetAsserted_inReset {d : Dev} (h : d.sys.inReset = true) : resetAsserted d = d := if_pos h

/-- Settles O49. That every command but the two resets finds a device that it leaves as it is, is the choice of the model
(notes/assumptions/8.md). -/
theorem heldInReset : Obligations.HeldInReset := by
  intro c s h hcold hpin
  obtain ⟨d, hx⟩ | ⟨ha, -⟩ | ⟨ok, -, hx⟩ := exec_cases c s
  · rw [hx, if_pos h]
  · cases c
    case coldReset a => exact absurd rfl (hcold a)
    case pinReset a => exact absurd rfl (hpin a)
    case resetAsserted => rw [exec_resetAsserted, resetAsserted_inReset h]
    all_goals exact ha.elim
  · rw [hx, State.onFuse, if_pos h]

end Sys2Proof.Machine
end

section
/-!
PROOF. Three statements about the ring that the model refutes (O22, O23, O24), all for one reason. Each writes the state of EMR
after its command as EMR's state before it with one field changed. But every passage of time brings the slew of TS up to date
first (R290): with no offset left to slew away, the millionths of a step gathered so far are dropped.
-/
namespace Sys2Proof.Machine

/-- A device whose offset has been slewed away, one millionth of a step being left over. -/
def devSlewed : Dev := { State.reset.dev with emr := { State.reset.dev.emr with slewAcc := 1 } }

/-! ### HELLO -/

/-- Its link 0 has lock and waits for HELLO. -/
def stateHelloAwaited : State := { State.reset with dev := devSlewed.set (Reg.EML.LINK_STAT.STATE 0) 2 }

/-- The HELLO of member 1, on link 0. -/
def helloOfOne : CellIn := { link := 0, src := 1, dst := 0, hops := 0, seq := 0, corr := 0, payload := [1] }

/-- What HELLO answers there has dropped the millionths. -/
theorem slewAcc_after_hello :
    (receiveLocal helloOfOne (hello 0 (leAt helloOfOne.payload 0 1) (leAt helloOfOne.payload 1 2))
      (stateHelloAwaited.dev.advance 0)).emr.slewAcc = 0 := by decide +kernel

/-- Refutes O22: its second part has HELLO keep the millionths of the slew that were there before the time it came. -/
theorem not_ringLinks : ¬Obligations.RingLinks := by
  intro h
  obtain ⟨-, hhello, -⟩ := h
  obtain ⟨hd, -⟩ := (hhello stateHelloAwaited helloOfOne 0 (by decide) (by decide) (by decide) (by decide) (by decide)).effect
    (exec_hello (by decide) ..)
  have hzero := slewAcc_after_hello
  rw [show receiveLocal helloOfOne (hello 0 (leAt helloOfOne.payload 0 1) (leAt helloOfOne.payload 1 2))
    (stateHelloAwaited.dev.advance 0) = _ from hd] at hzero
  exact absurd hzero (by decide +kernel)

/-! ### POSITION_CELL_TIMER -/

/-- The device is manager of its ring. -/
def stateManagerSlewed : State := { State.reset with dev := devSlewed.set Reg.EMR.ROLE_STAT.ROLE 2 }

/-- Refutes O23: its fourth part has the position timer of a manager keep the millionths of the slew. -/
theorem not_ringTimeAndDelay : ¬Obligations.RingTimeAndDelay := by
  intro h
  obtain ⟨-, -, -, hpos, -⟩ := h
  obtain ⟨hd, -⟩ := (hpos stateManagerSlewed _ _ _ _ (by decide) (by decide) rfl rfl rfl rfl).effect
    (exec_positionCellTimer (by decide))
  have hzero : (positionTimer stateManagerSlewed.dev).emr.slewAcc = 0 := by decide +kernel
  rw [hd] at hzero
  exact absurd hzero (by decide +kernel)

/-! ### HEARTBEAT_LOSS -/

/-- The device is a candidate whose time to hear a heartbeat is over. -/
def stateHeartbeatLost : State :=
  { State.reset with dev := (devSlewed.set Reg.EMR.CFG.ROLE 1).arm .hbLoss 0 }

/-- Refutes O24: its third part has the loss of the heartbeat keep the millionths of the slew. -/
theorem not_ringManager : ¬Obligations.RingManager := by
  intro h
  obtain ⟨-, -, hloss, -⟩ := h
  obtain ⟨hd, -⟩ := (hloss stateHeartbeatLost 0 (by decide) (by decide) (by decide) (by decide) (by decide)).effect
    (exec_heartbeatLoss (by decide))
  have hzero : (hbLoss stateHeartbeatLost.dev).emr.slewAcc = 0 := by decide +kernel
  rw [hd] at hzero
  exact absurd hzero (by decide +kernel)

end Sys2Proof.Machine
end

section
/-!
PROOF. Cells of a class above the link (O58): what becomes of one before it is consumed (R286, R289).
-/
namespace Sys2Proof.Machine

/-! ### A cell on its way through the device -/

theorem freeBuffer_regs (l t : Nat) (d : Dev) : (freeBuffer l t d).regs = d.regs := by
  unfold freeBuffer
  dsimp only
  split_ifs <;> rfl

theorem freeBuffer_emr (l t : Nat) (d : Dev) : (freeBuffer l t d).emr = d.emr := by
  unfold freeBuffer
  dsimp only
  split_ifs <;> rfl

theorem Dev.sendOn_emr (d : Dev) (l : Nat) (c : Bytes) : (d.sendOn l c).emr = d.emr := by
  unfold Dev.sendOn
  dsimp only
  split_ifs <;> rfl

theorem forwardCell_regs (type : Nat) (c : CellIn) (d : Dev) : (forwardCell type c d).regs = d.regs := Dev.sendOn_regs ..

theorem forwardCell_emr (type : Nat) (c : CellIn) (d : Dev) : (forwardCell type c d).emr = d.emr := Dev.sendOn_emr ..

/-- The hop count of a STATUS cell is noted before its key is looked up; no other type leaves one. -/
def hopsNoted (type : Nat) (c : CellIn) (d : Dev) : Dev := if type = 0x23 then hopsOf c d else d

/-- A key is remembered, the newest 256 of its source and class. -/
def keyNoted (type : Nat) (c : CellIn) (d : Dev) : Dev :=
  let same := fun k : Nat × Nat × Nat => k.1 == c.src && cellClass k.2.1 == cellClass type
  { d with emr := { d.emr with
    seen := ((c.src, type, c.seq) :: d.emr.seen.filter same).take 256 ++ d.emr.seen.filter fun k => !same k } }

theorem hopsNoted_seen (type : Nat) (c : CellIn) (d : Dev) : (hopsNoted type c d).emr.seen = d.emr.seen := by
  unfold hopsNoted
  split_ifs <;> rfl

theorem seenKey_again {type : Nat} {c : CellIn} {d : Dev} (h : d.emr.seen.contains (c.src, type, c.seq) = true) :
    seenKey type c d = (true, hopsNoted type c d) := by
  have hs : (hopsNoted type c d).emr.seen.contains (c.src, type, c.seq) = true := by rwa [hopsNoted_seen]
  exact if_pos hs

theorem seenKey_new {type : Nat} {c : CellIn} {d : Dev} (h : d.emr.seen.contains (c.src, type, c.seq) = false) :
    seenKey type c d = (false, keyNoted type c (hopsNoted type c d)) := by
  have hs : ¬(hopsNoted type c d).emr.seen.contains (c.src, type, c.seq) = true := by rw [hopsNoted_seen, h]; decide
  exact if_neg hs

theorem seenKey_regs (type : Nat) (c : CellIn) (d : Dev) : (seenKey type c d).2.regs = d.regs := by
  unfold seenKey hopsOf
  dsimp only
  split_ifs <;> rfl

/-! ### What reception does -/

/-- The device once it has freed the buffer of a cell received. -/
def cellTaken (type : Nat) (c : CellIn) (d : Dev) : Dev := freeBuffer (c.link % 2) (cellClass type) d

/-- The device once it has forwarded a broadcast received and noted its key. -/
def cellPassed (type : Nat) (c : CellIn) (d : Dev) : Dev := (seenKey type c (forwardCell type c (cellTaken type c d))).2

theorem cellTaken_regs (type : Nat) (c : CellIn) (d : Dev) : (cellTaken type c d).regs = d.regs := freeBuffer_regs ..

theorem cellTaken_ringAddr (type : Nat) (c : CellIn) (d : Dev) : (cellTaken type c d).ringAddr = d.ringAddr :=
  Dev.get_of_regs (cellTaken_regs ..) _

theorem cellTaken_inRun (type : Nat) (c : CellIn) (d : Dev) (page : Nat) : (cellTaken type c d).inRun page = d.inRun page := by
  rw [Dev.inRun, Dev.inRun, Dev.blk, Dev.blk, Dev.get_of_regs (cellTaken_regs ..)]

theorem cellPassed_regs (type : Nat) (c : CellIn) (d : Dev) : (cellPassed type c d).regs = d.regs :=
  (seenKey_regs ..).trans ((forwardCell_regs ..).trans (cellTaken_regs ..))

theorem cellPassed_inRun (type : Nat) (c : CellIn) (d : Dev) (page : Nat) : (cellPassed type c d).inRun page = d.inRun page := by
  rw [Dev.inRun, Dev.inRun, Dev.blk, Dev.blk, Dev.get_of_regs (cellPassed_regs ..)]

/-- The keys remembered when a broadcast's own is looked up are those from before the cell. -/
theorem seen_forwarded (type : Nat) (c : CellIn) (d : Dev) : (forwardCell type c (cellTaken type c d)).emr.seen = d.emr.seen := by
  rw [forwardCell_emr, cellTaken, freeBuffer_emr]

section
variable {type : Nat} {c : CellIn} {d : Dev} (f : Dev → Dev)

/-- By a link that is not UP nothing comes (R286). -/
theorem receive_down (h : d.linkUp (c.link % 2) = false) : receive type c f d = d := if_pos h

/-- The branches of `receive` on a link that is UP, in the words above. -/
theorem receive_up (h : d.linkUp (c.link % 2) = true) :
    receive type c f d =
      if c.src % 64 = (cellTaken type c d).ringAddr then cameBack type c (cellTaken type c d)
      else if 128 ≤ c.dst then
        if (seenKey type c (forwardCell type c (cellTaken type c d))).1 = true ∨ (cellPassed type c d).inRun (pg .EMR 0) = false then
          cellPassed type c d
        else f (cellPassed type c d)
      else if c.dst % 64 = (cellTaken type c d).ringAddr then
        if (cellTaken type c d).inRun (pg .EMR 0) then f (cellTaken type c d) else cellTaken type c d
      else forwardCell type c (cellTaken type c d) := if_neg (by simp [h])

/-- The device's own cell has come full circle. -/
theorem receive_fullCircle (h : d.linkUp (c.link % 2) = true) (hs : c.src % 64 = d.ringAddr) :
    receive type c f d = cameBack type c (cellTaken type c d) := by
  rw [receive_up f h, cellTaken_ringAddr, if_pos hs]

/-- A cell for another member is forwarded. -/
theorem receive_through (h : d.linkUp (c.link % 2) = true) (hs : c.src % 64 ≠ d.ringAddr) (hd : c.dst < 128)
    (ha : c.dst % 64 ≠ d.ringAddr) : receive type c f d = forwardCell type c (cellTaken type c d) := by
  rw [receive_up f h, cellTaken_ringAddr, if_neg hs, if_neg (Nat.not_le.mpr hd), if_neg ha]

/-- A cell for this device while EMR does not run is not consumed. -/
theorem receive_stopped (h : d.linkUp (c.link % 2) = true) (hs : c.src % 64 ≠ d.ringAddr) (hd : c.dst < 128)
    (ha : c.dst % 64 = d.ringAddr) (hr : d.inRun (pg .EMR 0) = false) : receive type c f d = cellTaken type c d := by
  rw [receive_up f h, cellTaken_ringAddr, if_neg hs, if_neg (Nat.not_le.mpr hd), if_pos ha, cellTaken_inRun, hr]
  rfl

/-- A cell for this device is consumed. -/
theorem receive_consumed (h : d.hearsOwn c) : receive type c f d = f (cellTaken type c d) := by
  obtain ⟨hu, hs, hd, ha, hr⟩ := h
  rw [receive_up f hu, cellTaken_ringAddr, if_neg hs, if_neg (Nat.not_le.mpr hd), if_pos ha, cellTaken_inRun, if_pos hr]

/-- A broadcast heard before, or heard while EMR does not run, is forwarded and not consumed. -/
theorem receive_passed (h : d.linkUp (c.link % 2) = true) (hs : c.src % 64 ≠ d.ringAddr) (hd : 128 ≤ c.dst)
    (hk : d.emr.seen.contains (c.src, type, c.seq) = true ∨ d.inRun (pg .EMR 0) = false) :
    receive type c f d = cellPassed type c d := by
  rw [receive_up f h, cellTaken_ringAddr, if_neg hs, if_pos hd, cellPassed_inRun]
  refine if_pos (hk.imp_left fun hk => ?_)
  rw [seenKey_again (by rwa [seen_forwarded])]

/-- A new broadcast is forwarded and consumed. -/
theorem receive_heard (h : d.hearsAll type c) : receive type c f d = f (cellPassed type c d) := by
  obtain ⟨hu, hs, hd, hr, hk⟩ := h
  rw [receive_up f hu, cellTaken_ringAddr, if_neg hs, if_pos hd, cellPassed_inRun, seenKey_new (by rwa [seen_forwarded]), hr]
  exact if_neg (by simp)

end

/-! ### The statement -/

/-- The classes of cells above the link, each with its type and its command (Table 12.3). -/
def cellCommands : List (Nat × (CellIn → Nat → Instr)) :=
  [(0x10, .position), (0x11, .time), (0x12, .heartbeat), (0x13, .sheetEdgeCell), (0x20, .claim), (0x21, .join), (0x22, .leave),
    (0x23, .statusCell), (0x24, .slowdown), (0x24, .regRead), (0x24, .regWrite), (0x24, .bulkEnd), (0x25, .ack), (0x30, .faultCell),
    (0x31, .eventCell), (0x40, .bulk)]

/-- Every one of these commands is the reception of its cell, with an effect of its own where the cell is consumed. -/
theorem exec_cell {s : State} (hs : s.live) (c : CellIn) (dt : Nat) {k : Nat × (CellIn → Nat → Instr)} (hk : k ∈ cellCommands) :
    ∃ f, exec (k.2 c dt) s = .next { s with dev := receive k.1 c f (s.dev.advance dt) } := by
  simp only [cellCommands, List.mem_cons, List.not_mem_nil, or_false] at hk
  obtain rfl | rfl | rfl | rfl | rfl | rfl | rfl | rfl | rfl | rfl | rfl | rfl | rfl | rfl | rfl | rfl := hk
  · exact ⟨_, exec_position hs c dt⟩
  · exact ⟨_, exec_time hs c dt⟩
  · exact ⟨_, exec_heartbeat hs c dt⟩
  · exact ⟨_, exec_sheetEdgeCell hs c dt⟩
  · exact ⟨_, exec_claim hs c dt⟩
  · exact ⟨_, exec_join hs c dt⟩
  · exact ⟨_, exec_leave hs c dt⟩
  · exact ⟨_, exec_statusCell hs c dt⟩
  · exact ⟨_, exec_slowdown hs c dt⟩
  · exact ⟨_, exec_regRead hs c dt⟩
  · exact ⟨_, exec_regWrite hs c dt⟩
  · exact ⟨_, exec_bulkEnd hs c dt⟩
  · exact ⟨_, exec_ack hs c dt⟩
  · exact ⟨_, exec_faultCell hs c dt⟩
  · exact ⟨_, exec_eventCell hs c dt⟩
  · exact ⟨_, exec_bulk hs c dt⟩

/-- Completion of a cell's command, from what reception does whatever the cell's own effect. -/
theorem completes_cell {s : State} (hs : s.live) {c : CellIn} {dt : Nat} {k : Nat × (CellIn → Nat → Instr)}
    (hk : k ∈ cellCommands) {e : Dev → Prop} (h : ∀ f, e (receive k.1 c f (s.dev.advance dt))) : Completes (k.2 c dt) s e := by
  obtain ⟨f, hx⟩ := exec_cell hs c dt hk
  exact completes_of_exec hx (h f)

/-- A POSITION cell heard before leaves no more than its forwarding. -/
theorem cellPassed_position_again {c : CellIn} {d : Dev} (h : d.emr.seen.contains (c.src, 0x10, c.seq) = true) :
    cellPassed 0x10 c d = forwardCell 0x10 c (cellTaken 0x10 c d) := by
  rw [cellPassed, seenKey_again (by rwa [seen_forwarded])]
  rfl

/-- Settles O58. That cells are consumed only while EMR is in RUN, and what becomes of a cell that has come full circle
(notes/assumptions/32.md), are readings of the model, as is that nothing comes by a link that is not UP
(notes/assumptions/56.md). -/
theorem cellsInTransit : Obligations.CellsInTransit := by
  refine ⟨fun s c dt hs hu ho hd ha k hk => ?_, fun s c dt hs hu ho hd hseen k hk => ?_, fun s c dt hs hu ho k hk => ?_,
    fun s c dt hs hu k hk => ?_, fun s c dt hs hu ho hd k hk => ?_, fun s c dt hs hu ho hd ha hr k hk => ?_⟩
  · exact completes_cell hs hk fun f => receive_through f hu ho hd ha
  · refine completes_cell hs hk fun f hpos => ?_
    have hagain : (s.dev.advance dt).emr.seen.contains (c.src, 0x10, c.seq) = true := hseen
    rw [hpos]
    exact (receive_passed (d := s.dev.advance dt) f hu ho hd (.inl hagain)).trans (cellPassed_position_again hagain)
  · exact completes_cell hs hk fun f => receive_fullCircle f hu ho
  · exact completes_cell hs hk fun f => receive_down f hu
  · exact completes_cell hs hk fun f hskip => receive_passed f hu ho hd hskip
  · exact completes_cell hs hk fun f => receive_stopped f hu ho hd ha hr

end Sys2Proof.Machine
end

section
/-!
PROOF. Yaska channels: how they are started, fetch, wait, signal and end (O32, O34, O55).
-/
namespace Sys2Proof.Machine

/-! ### Fields of the channel pages -/

/-- Do two fields lie at different places of their pages? -/
def Fld.apart (f g : Fld) : Bool :=
  decide (f.off < 4096) && decide (g.off < 4096) && decide (f.lo < 64) && decide (g.lo < 64) &&
    !(decide (f.off = g.off) && decide (f.lo = g.lo))

theorem key_ne_of_apart {f g : Fld} (h : f.apart g = true) : f.key ≠ g.key := by
  simp only [Fld.apart, Bool.and_eq_true, decide_eq_true_eq, Bool.not_eq_true', Bool.and_eq_false_iff, decide_eq_false_iff_not] at h
  simp only [Fld.key]
  omega

/-- Is the place of a field neither EV_RAW nor FLT_LOCAL? -/
def Fld.calm (f : Fld) : Bool :=
  decide (f.off ∉ [0x010, 0x020, 0x028, 0x030, 0x034, 0x038]) && decide (f.off < 4096) && decide (f.lo < 64)

/-- No flag and no fault touches such a place of the pages from 0x20 on. -/
theorem Fld.steady_of_calm {f : Fld} (hp : 0x20 ≤ f.page) (h : f.calm = true) : f.Steady := by
  simp only [Fld.calm, Bool.and_eq_true, decide_eq_true_eq] at h
  obtain ⟨⟨h0, h1⟩, h2⟩ := h
  refine ⟨h0, h1, h2, ?_⟩
  simp only [Fld.key, Reg.SED.LOST.COUNT]
  omega

/-- Nor such a place of a channel's page. -/
theorem Fld.steady_of_chan {f : Fld} (n : Nat) (hp : f.page = 0x20 + n) (h : f.calm = true) : f.Steady :=
  Fld.steady_of_calm (by omega) h

theorem Dev.get_resetFields_ne (d : Dev) {fs : List Fld} {g : Fld} (h : ∀ f ∈ fs, g.key ≠ f.key) :
    (d.resetFields fs).get g = d.get g := by
  induction fs generalizing d with
  | nil => rfl
  | cons f fs ih =>
    have htail := ih { d with regs := tdel f.key d.regs } fun f' hf' => h f' (List.mem_cons_of_mem _ hf')
    exact htail.trans (tget_tdel_ne _ (h f List.mem_cons_self) _)

theorem Dev.get_resetFields_last (d : Dev) (fs : List Fld) (f : Fld) : (d.resetFields (fs ++ [f])).get f = f.rst := by
  rw [Dev.resetFields, List.foldl_append]
  exact tget_tdel_same ..

/-! ### The next instruction -/

theorem dmaNext_get {n : Nat} {f : Fld} (d : Dev) (h : f.key ≠ (Reg.DMA.PC.ADDR n).key) : (dmaNext n d).get f = d.get f :=
  Dev.get_set_ne _ _ h

theorem dmaNext_pc (n : Nat) (d : Dev) :
    (dmaNext n d).get (Reg.DMA.PC.ADDR n) = (d.get (Reg.DMA.PC.ADDR n) + 1) % 2 ^ 60 := Dev.get_set_same ..

theorem Dev.dma_setDma_same (d : Dev) (n : Nat) (c : DmaChan) : (d.setDma n c).dma n = c := tget_tset_same ..

theorem dmaNext_cur (n : Nat) (d : Dev) : ((dmaNext n d).dma n).cur = none :=
  congrArg DmaChan.cur (Dev.dma_setDma_same ..)

theorem bits_lt (v hi lo : Nat) : bits v hi lo < 2 ^ (hi + 1 - lo) := Nat.mod_lt _ (Nat.two_pow_pos _)

/-! ### SIGNAL -/

/-- The sources of the channels (Table 4.1). -/
theorem mem_sourceBits_chan {n : Nat} (h : n < 32) : (Blk.DMA, n, 1) ∈ sourceBits (160 + n) := by
  revert n
  decide

theorem dmaSignal_eq {n : Nat} {d : Dev} (h : d.dmaOp n = 0x31) :
    dmaSignal n d = dmaNext n ((d.set (Reg.DMA.SIG_CODE.CODE n) (bits (d.dmaWord n) 7 0)).ev .DMA n 1) := if_neg (by simp [h])

/-- The event bit of a SIGNAL raises the channel's source while it is not masked. -/
theorem srcRaised_chan {n : Nat} {d : Dev} (hn : n < 32) (hr : d.evRaw .DMA n 1 = true)
    (hm : (d.get (Reg.HDR.EV_MASK (pg .DMA n))).testBit 1 = false) : d.srcRaised (160 + n) = true := by
  refine List.any_eq_true.mpr ⟨_, mem_sourceBits_chan hn, ?_⟩
  rw [Dev.evBit, Bool.and_eq_true, Bool.not_eq_true']
  exact ⟨hr, hm⟩

/-- Settles O55. -/
theorem signalRule : Obligations.SignalRule := by
  intro s n hs hn hop
  refine completes_of_exec (exec_signal hs n) ?_
  rw [dmaSignal_eq hop]
  have hrise := (s.dev.set (Reg.DMA.SIG_CODE.CODE n) (bits (s.dev.dmaWord n) 7 0)).onlyRises_ev .DMA n 1
  have hset := Dev.evRaw_ev (s.dev.set (Reg.DMA.SIG_CODE.CODE n) (bits (s.dev.dmaWord n) 7 0)) .DMA n (bit := 1) (by decide)
  have hraw : (dmaNext n ((s.dev.set (Reg.DMA.SIG_CODE.CODE n) (bits (s.dev.dmaWord n) 7 0)).ev .DMA n 1)).evRaw .DMA n 1 = true := by
    rwa [Dev.evRaw, dmaNext_get _ (key_ne_of_apart rfl)]
  refine ⟨?_, hraw, fun hopen => srcRaised_chan hn hraw ?_, rfl⟩
  · rw [dmaNext_get _ (key_ne_of_apart rfl), hrise.1 _ (Fld.steady_of_chan n rfl rfl), Dev.get_set_same]
    exact Nat.mod_eq_of_lt (bits_lt ..)
  · rwa [dmaNext_get _ (key_ne_of_apart rfl), hrise.1 _ (Fld.steady_of_chan n rfl rfl), Dev.get_set_ne _ _ (key_ne_of_apart rfl)]

/-! ### WAIT -/

/-- The device when a WAIT is over, before its channel goes on. -/
def waitOver (n : Nat) (d : Dev) : Dev :=
  let w := d.dmaWord n
  let s := bits w 103 96
  let d := (d.put (Reg.DMA.FLAGS.WAITING n) false).disarm (.dmaWait n)
  let d := d.setDma n { d.dma n with until_ := none }
  if bits w 119 118 = 0 ∧ bits w 117 117 = 1 ∧ 160 ≤ s ∧ s ≤ 191 then d.clrBit (Reg.HDR.EV_RAW (pg .DMA (s - 160))) 1 else d

theorem waitEnds_eq (n : Nat) (d : Dev) : waitEnds n d = dmaNext n (waitOver n d) := rfl

/-- An ACK clears a bit of EV_RAW and no other field. -/
theorem waitOver_get {n : Nat} {f : Fld} (d : Dev) (h : f.calm = true) :
    (waitOver n d).get f = (d.put (Reg.DMA.FLAGS.WAITING n) false).get f := by
  simp only [Fld.calm, Bool.and_eq_true, decide_eq_true_eq] at h
  obtain ⟨⟨h0, h1⟩, h2⟩ := h
  unfold waitOver
  dsimp only
  split_ifs
  · exact Dev.get_set_ne _ _ (key_ne_of_off (fun he => h0 (by simp [he, Reg.HDR.EV_RAW])) (by simp [Reg.HDR.EV_RAW]) h1
      (by simp [Reg.HDR.EV_RAW]) h2)
  · rfl

theorem waitEnds_waiting (n : Nat) (d : Dev) : (waitEnds n d).is (Reg.DMA.FLAGS.WAITING n) = false := by
  rw [waitEnds_eq, Dev.is_eq, dmaNext_get _ (key_ne_of_apart rfl), waitOver_get _ rfl, ← Dev.is_eq, Dev.is_put_same _ _ rfl]

theorem waitEnds_cur (n : Nat) (d : Dev) : ((waitEnds n d).dma n).cur = none := dmaNext_cur ..

theorem waitEnds_pc (n : Nat) (d : Dev) :
    (waitEnds n d).get (Reg.DMA.PC.ADDR n) = (d.get (Reg.DMA.PC.ADDR n) + 1) % 2 ^ 60 := by
  rw [waitEnds_eq, dmaNext_pc, waitOver_get _ rfl, Dev.put_eq, Dev.get_set_ne _ _ (key_ne_of_apart rfl)]

section
variable {n : Nat} {d : Dev}

theorem dmaWait_other (h : d.dmaOp n ≠ 0x30) : dmaWait n d = d := if_pos h

theorem dmaWait_delay (h : d.dmaOp n = 0x30) (hk : bits (d.dmaWord n) 119 118 = 2) :
    dmaWait n d = (d.put (Reg.DMA.FLAGS.WAITING n) true).setDma n
      { d.dma n with until_ := some ((d.ts + 250 * bits (d.dmaWord n) 31 0) % 2 ^ 64) } := by
  rw [dmaWait, if_neg (not_not.mpr h)]
  exact if_pos hk

theorem dmaWait_come (h : d.dmaOp n = 0x30) (hk : bits (d.dmaWord n) 119 118 ≠ 2) (hw : d.waitHolds (d.dmaWord n) = true) :
    dmaWait n d = waitEnds n d := by
  rw [dmaWait, if_neg (not_not.mpr h)]
  exact (if_neg hk).trans (if_pos hw)

theorem dmaWait_begins (h : d.dmaOp n = 0x30) (hk : bits (d.dmaWord n) 119 118 ≠ 2) (hw : d.waitHolds (d.dmaWord n) = false) :
    dmaWait n d = if bits (d.dmaWord n) 31 0 = 0 then d.put (Reg.DMA.FLAGS.WAITING n) true
      else (d.put (Reg.DMA.FLAGS.WAITING n) true).arm (.dmaWait n) (bits (d.dmaWord n) 31 0 * us) := by
  rw [dmaWait, if_neg (not_not.mpr h)]
  exact (if_neg hk).trans (if_neg (by simp [hw]))

theorem waitRelease_come (h : d.dmaWaits n = true) (hw : d.waitHolds (d.dmaWord n) = true) : waitRelease n d = waitEnds n d :=
  if_pos (by rw [h, hw]; rfl)

theorem waitRelease_not (h : d.dmaWaits n = false ∨ d.waitHolds (d.dmaWord n) = false) : waitRelease n d = d :=
  if_neg (by rw [Bool.and_eq_true]; rintro ⟨h1, h2⟩; simp [h1, h2] at h)

theorem waitTimeout_due {t : Nat} (h : d.dmaWaits n = true) (ht : d.due (.dmaWait n) = some t) :
    waitTimeout n d =
      if ((d.advanceTo t).disarm (.dmaWait n)).waitHolds (((d.advanceTo t).disarm (.dmaWait n)).dmaWord n) = true then
        waitEnds n ((d.advanceTo t).disarm (.dmaWait n))
      else dmaFail n 0x0C none ((d.advanceTo t).disarm (.dmaWait n)) := (if_pos h).trans (Dev.onTimer_some ht _)

theorem waitTimeout_not (h : d.dmaWaits n = false ∨ d.due (.dmaWait n) = none) : waitTimeout n d = d := by
  unfold waitTimeout
  split_ifs with hw
  · exact Dev.onTimer_none (h.resolve_left (by simp [hw])) _
  · rfl

theorem waitDelayEnd_due {t : Nat} (ht : (d.dma n).until_ = some t) (hr : d.inRun (pg .DMA n) = true) :
    waitDelayEnd n d = waitEnds n (if (t * tick + tsWrap - d.time.ts) % tsWrap < tsWrap / 2 then
      d.advance ((t * tick + tsWrap - d.time.ts) % tsWrap) else d) := by
  rw [waitDelayEnd, ht]
  exact if_pos hr

theorem waitDelayEnd_not (h : (d.dma n).until_ = none ∨ d.inRun (pg .DMA n) = false) : waitDelayEnd n d = d := by
  unfold waitDelayEnd
  split
  · rfl
  · next ht => exact if_neg (by simp [h.resolve_left (by simp [ht])])

end

/-! ### What the end of a run shows -/

/-- The device before the event of its run's end. -/
def dmaRested (n : Nat) (d : Dev) : Dev :=
  let d := d.put (Reg.DMA.FLAGS.WAITING n) false
  if d.blk (pg .DMA n) = 2 ∨ d.blk (pg .DMA n) = 4 then d.setBlk (pg .DMA n) 1 else d

theorem dmaShown_eq (n cause : Nat) (d : Dev) : dmaShown n cause d =
    if cause = 0 then (((dmaRested n d).put (Reg.DMA.FLAGS.ENDED n) true).setBit Reg.DMAC.END_MAP.ENDED n).ev .DMA n 0
    else ((((dmaRested n d).put (Reg.DMA.FLAGS.ENDED n) true).setBit Reg.DMAC.END_MAP.ENDED n).setBit Reg.DMAC.ERR_MAP.ERR n).ev .DMA n 2 :=
  rfl

/-- Other steady fields than those of the maps are as before the run was shown as ended. -/
theorem dmaShown_get {n cause : Nat} {f : Fld} (d : Dev) (hf : f.Steady) (h1 : f.key ≠ Reg.DMAC.END_MAP.ENDED.key)
    (h2 : f.key ≠ Reg.DMAC.ERR_MAP.ERR.key) :
    (dmaShown n cause d).get f = ((dmaRested n d).put (Reg.DMA.FLAGS.ENDED n) true).get f := by
  rw [dmaShown_eq]
  split_ifs
  · exact ((Dev.onlyRises_ev ..).1 f hf).trans (Dev.get_set_ne _ _ h1)
  · exact ((Dev.onlyRises_ev ..).1 f hf).trans ((Dev.get_set_ne _ _ h2).trans (Dev.get_set_ne _ _ h1))

theorem dmaEnd_is_ended (n code cause : Nat) (d : Dev) : (dmaEnd n code cause d).is (Reg.DMA.FLAGS.ENDED n) = true := by
  rw [dmaEnd_eq, Dev.is_eq, dmaShown_get _ (Fld.steady_of_chan n rfl rfl) (key_ne_of_apart rfl) (key_ne_of_apart rfl), ← Dev.is_eq,
    Dev.is_put_same _ _ rfl]

theorem dmaUnloaded_regs (n : Nat) (d : Dev) : (dmaUnloaded n d).regs = d.regs := by
  unfold dmaUnloaded
  dsimp only
  split_ifs <;> rfl

theorem dmaHalted_get {n code cause : Nat} {f : Fld} (d : Dev) (h1 : f.key ≠ (Reg.DMA.STAT.CODE n).key)
    (h2 : f.key ≠ (Reg.DMA.STAT.CAUSE n).key) : (dmaHalted n code cause d).get f = d.get f :=
  (Dev.get_set_ne _ _ h2).trans ((Dev.get_set_ne _ _ h1).trans (Dev.get_of_regs (dmaUnloaded_regs n d) f))

theorem dmaRested_blk {n : Nat} {d : Dev} (h : d.inRun (pg .DMA n) = true) : (dmaRested n d).blk (pg .DMA n) = 1 := by
  have hb : (d.put (Reg.DMA.FLAGS.WAITING n) false).blk (pg .DMA n) = 2 :=
    (Dev.get_set_ne _ _ (key_ne_of_apart rfl)).trans (beq_iff_eq.mp h)
  exact (congrArg (fun e : Dev => e.blk (pg .DMA n)) (if_pos (.inl hb))).trans (Dev.get_set_same ..)

/-- A run that ends takes its channel to IDLE (R38). -/
theorem dmaEnd_blk {n code cause : Nat} {d : Dev} (h : d.inRun (pg .DMA n) = true) :
    (dmaEnd n code cause d).blk (pg .DMA n) = 1 := by
  have hrun : (dmaHalted n code cause d).inRun (pg .DMA n) = true := by
    rwa [Dev.inRun, Dev.blk, dmaHalted_get _ (key_ne_of_apart rfl) (key_ne_of_apart rfl)]
  rw [dmaEnd_eq, Dev.blk, dmaShown_get _ (Fld.steady_of_chan n rfl rfl) (key_ne_of_apart rfl) (key_ne_of_apart rfl), Dev.put_eq,
    Dev.get_set_ne _ _ (key_ne_of_apart rfl)]
  exact dmaRested_blk hrun

/-- A WAIT that runs out ends the channel. -/
theorem dmaFail_timeout {n : Nat} {d : Dev} (h : d.inRun (pg .DMA n) = true) :
    (dmaFail n 0x0C none d).blk (pg .DMA n) = 1 ∧ (dmaFail n 0x0C none d).is (Reg.DMA.FLAGS.ENDED n) = true ∧
      (dmaFail n 0x0C none d).get (Reg.DMA.STAT.CAUSE n) = 0x0C ∧ (dmaFail n 0x0C none d).evRaw .DMA n 2 = true := by
  obtain ⟨-, -, hcause, -, hev⟩ := dmaEnd_ended (n := n) (cause := 0x0C) (by decide) (by decide) d
  have hfail : dmaFail n 0x0C none d = (dmaEnd n (dmaCode 0x0C) 0x0C d).raise n Kind.DMA.DMA_TIMEOUT
      { access := 4, master := dmaMaster n, addr := (dmaEnd n (dmaCode 0x0C) 0x0C d).dmaPc n } := rfl
  have hkeep := (dmaEnd n (dmaCode 0x0C) 0x0C d).onlyRises_raise n Kind.DMA.DMA_TIMEOUT
    { access := 4, master := dmaMaster n, addr := (dmaEnd n (dmaCode 0x0C) 0x0C d).dmaPc n }
  rw [hfail]
  refine ⟨?_, ?_, ?_, hkeep.2 _ 2 (by decide) hev⟩
  · exact (hkeep.1 _ (Fld.steady_of_chan n rfl rfl)).trans (dmaEnd_blk h)
  · rw [Dev.is_eq, hkeep.1 _ (Fld.steady_of_chan n rfl rfl), ← Dev.is_eq, dmaEnd_is_ended]
  · exact (hkeep.1 _ (Fld.steady_of_chan n rfl rfl)).trans hcause

/-- Settles O34. That ACK acts for KIND 0 alone (notes/assumptions/37.md) and that nothing changes where no WAIT is in force or
its condition is not met (notes/assumptions/56.md) are readings of the model. -/
theorem dmaWaits : Obligations.DmaWaits := by
  refine ⟨fun s n hs hop hk hw ht => ?_, fun s n t hs hop hk hw ht h0 => ?_, fun s n t hs hop hk ht => ?_, fun s n hs hop hk hw => ?_,
    fun s n hs hop => ?_, fun s n hs hw hc => ?_, fun s n hs h => ?_, fun s n t hs hw ht => ?_, fun s n t hs hw ht hc => ?_,
    fun s n hs h => ?_, fun s n t hs ht hr => ?_, fun s n hs h => ?_⟩
  · exact completes_of_exec (exec_wait hs n) ((dmaWait_begins hop hk hw).trans (if_pos ht))
  · subst ht
    exact completes_of_exec (exec_wait hs n) ((dmaWait_begins hop hk hw).trans (if_neg h0))
  · subst ht
    exact completes_of_exec (exec_wait hs n) (dmaWait_delay hop hk)
  · refine completes_of_exec (exec_wait hs n) ?_
    rw [dmaWait_come hop hk hw]
    exact ⟨rfl, waitEnds_cur .., waitEnds_pc ..⟩
  · exact completes_of_exec (exec_wait hs n) (dmaWait_other hop)
  · refine completes_of_exec (exec_waitRelease hs n) ?_
    rw [waitRelease_come hw hc]
    exact ⟨rfl, waitEnds_waiting .., waitEnds_cur .., waitEnds_pc ..⟩
  · exact completes_of_exec (exec_waitRelease hs n) (waitRelease_not h)
  · exact completes_of_exec (exec_waitTimeout hs n) (waitTimeout_due hw ht)
  · have hrun : s.dev.inRun (pg .DMA n) = true := by
      rw [Dev.dmaWaits, Bool.and_eq_true, Bool.and_eq_true] at hw
      exact hw.1.1
    refine completes_of_exec (exec_waitTimeout hs n) ?_
    rw [waitTimeout_due hw ht, if_neg (by simp [hc])]
    exact dmaFail_timeout hrun
  · exact completes_of_exec (exec_waitTimeout hs n) (waitTimeout_not h)
  · exact completes_of_exec (exec_waitDelayEnd hs n) (waitDelayEnd_due ht hr)
  · exact completes_of_exec (exec_waitDelayEnd hs n) (waitDelayEnd_not h)

/-! ### HALT -/

theorem dmaHalt_eq {n : Nat} {d : Dev} (h : d.dmaOp n = 0x7F) :
    dmaHalt n d = dmaEnd n (if d.is (Reg.DMA.FLAGS.DELAYED n) = true then 1 else 0) 0
      (dmaNext n (d.set (Reg.DMA.STAT.ARG n) (bits (d.dmaWord n) 15 0))) := by
  have hdel : (dmaNext n (d.set (Reg.DMA.STAT.ARG n) (bits (d.dmaWord n) 15 0))).is (Reg.DMA.FLAGS.DELAYED n) =
      d.is (Reg.DMA.FLAGS.DELAYED n) := by
    rw [Dev.is_eq, dmaNext_get _ (key_ne_of_apart rfl), Dev.get_set_ne _ _ (key_ne_of_apart rfl), ← Dev.is_eq]
  rw [dmaHalt, if_neg (not_not.mpr h), ← hdel]

/-- The argument of a HALT is left by the end of the run. -/
theorem dmaEnd_arg (n code cause : Nat) (d : Dev) :
    (dmaEnd n code cause d).get (Reg.DMA.STAT.ARG n) = d.get (Reg.DMA.STAT.ARG n) := by
  have hrest (e : Dev) : (dmaRested n e).get (Reg.DMA.STAT.ARG n) = e.get (Reg.DMA.STAT.ARG n) := by
    unfold dmaRested
    dsimp only
    split_ifs
    · exact (Dev.get_set_ne _ _ (key_ne_of_apart rfl)).trans (Dev.get_set_ne _ _ (key_ne_of_apart rfl))
    · exact Dev.get_set_ne _ _ (key_ne_of_apart rfl)
  rw [dmaEnd_eq, dmaShown_get _ (Fld.steady_of_chan n rfl rfl) (key_ne_of_apart rfl) (key_ne_of_apart rfl), Dev.put_eq,
    Dev.get_set_ne _ _ (key_ne_of_apart rfl), hrest, dmaHalted_get _ (key_ne_of_apart rfl) (key_ne_of_apart rfl)]

theorem dmaEnd_code {n code : Nat} (cause : Nat) (h : code < 256) (d : Dev) :
    (dmaEnd n code cause d).get (Reg.DMA.STAT.CODE n) = code :=
  (chanKept_dmaShown n n cause _).code.trans (dmaHalted_code n cause h d)

/-- A run that ends well sets the event bit of completion. -/
theorem dmaEnd_evRaw (n code : Nat) (d : Dev) : (dmaEnd n code 0 d).evRaw .DMA n 0 = true := by
  rw [dmaEnd_eq, dmaShown_eq, if_pos rfl]
  exact Dev.evRaw_ev _ _ _ (by decide)

/-! ### START, RESUME and KILL_MAP -/

/-- A host write of a channel's CMD. -/
theorem hostWrite_dmaCmd (u : Fuses) {n : Nat} (v : Nat) {d : Dev} (hn : n < 32) (ho : d.pageOff (0x20 + n) = false) :
    hostWrite u ((0x20 + n) * 4096 + 0x4C) v d = instanceActs .DMA n 0x4C (v % 2 ^ 32) true d d := by
  have hpage : ((0x20 + n) * 4096 + 0x4C) / 4096 = 0x20 + n := by omega
  exact hostWrite_actsOnly (b := .DMA) (n := n) (fs := [Reg.DMA.CMD.RESUME n, Reg.DMA.CMD.START n])
    (by rw [hpage]; exact ofPage_pg (b := .DMA) hn) (by rwa [hpage]) (by omega) (by decide) (by decide) (by decide) rfl
    (by simp [Fld.ActsOnly, Reg.DMA.CMD.RESUME, Reg.DMA.CMD.START])

theorem hostWrite_dmaStart (u : Fuses) {n : Nat} {d : Dev} (hn : n < 32) (ho : d.pageOff (0x20 + n) = false) :
    hostWrite u ((0x20 + n) * 4096 + 0x4C) 1 d = dmaStart n d := hostWrite_dmaCmd u 1 hn ho

theorem hostWrite_dmaResume (u : Fuses) {n : Nat} {d : Dev} (hn : n < 32) (ho : d.pageOff (0x20 + n) = false) :
    hostWrite u ((0x20 + n) * 4096 + 0x4C) 2 d = dmaResume n d := hostWrite_dmaCmd u 2 hn ho

theorem hostWrite_dmaCmd_off (u : Fuses) {n : Nat} (v : Nat) {d : Dev} (ho : d.pageOff (0x20 + n) = true) :
    hostWrite u ((0x20 + n) * 4096 + 0x4C) v d = hostRefused 0x21 ((0x20 + n) * 4096 + 0x4C) d :=
  hostWrite_off (by rwa [show ((0x20 + n) * 4096 + 0x4C) / 4096 = 0x20 + n by omega]) (by omega) (by omega)

theorem hostWrite_killMap (u : Fuses) {map : Nat} {d : Dev} (ho : d.pageOff 0x1F = false) (hm : map < 2 ^ 32) :
    hostWrite u 0x1F050 map d = killMap map d := by
  refine (hostWrite_actsOnly (b := .DMAC) (n := 0) (fs := [Reg.DMAC.KILL_MAP.KILL]) (by decide) ho rfl (by decide) (by decide)
    (by decide) (by decide) (by simp [Fld.ActsOnly, Reg.DMAC.KILL_MAP.KILL])).trans ?_
  rw [Nat.mod_eq_of_lt hm]
  rfl

/-- A channel loaded with its program, as START leaves it before it runs. -/
def dmaLoaded (n : Nat) (d : Dev) : Dev :=
  let d := ((d.set (Reg.DMA.PC.ADDR n) (d.get (Reg.DMA.PROG.ADDR n))).set (Reg.DMA.PC.SPACE n) (d.get (Reg.DMA.PROG.SPACE n))).setDma n
    DmaChan.init
  (d.resetFields [Reg.DMA.STAT.ARG n, Reg.DMA.STAT.CAUSE n, Reg.DMA.STAT.CODE n, Reg.DMA.FLAGS.WAITING n, Reg.DMA.FLAGS.FETCH n,
    Reg.DMA.FLAGS.DELAYED n, Reg.DMA.FLAGS.ENDED n]).set (Reg.DMA.LOOP.DEPTH n) 0

section
variable {n : Nat} {d : Dev}

theorem dmaStart_idle (h : d.blk (pg .DMA n) = 1) : dmaStart n d = dmaGo n (dmaLoaded n d) := if_neg (not_not.mpr h)

theorem dmaStart_busy (h : d.blk (pg .DMA n) ≠ 1) : dmaStart n d = d.raise n Kind.DMA.DMA_BUSY := if_pos h

theorem dmaResume_idle (h : d.blk (pg .DMA n) = 1) :
    dmaResume n d = if d.is (Reg.DMA.FLAGS.ENDED n) = true then dmaGo n d else d := if_neg (not_not.mpr h)

theorem dmaResume_busy (h : d.blk (pg .DMA n) ≠ 1) : dmaResume n d = d.raise n Kind.DMA.DMA_BUSY := if_pos h

end

/-- A register field of the channel that START does not reset reads as PC has been set. -/
theorem dmaLoaded_get {n : Nat} {f : Fld} (d : Dev)
    (h : ∀ g ∈ [Reg.DMA.STAT.ARG n, Reg.DMA.STAT.CAUSE n, Reg.DMA.STAT.CODE n, Reg.DMA.FLAGS.WAITING n, Reg.DMA.FLAGS.FETCH n,
      Reg.DMA.FLAGS.DELAYED n, Reg.DMA.FLAGS.ENDED n], f.key ≠ g.key) (hl : f.key ≠ (Reg.DMA.LOOP.DEPTH n).key) :
    (dmaLoaded n d).get f =
      ((d.set (Reg.DMA.PC.ADDR n) (d.get (Reg.DMA.PROG.ADDR n))).set (Reg.DMA.PC.SPACE n) (d.get (Reg.DMA.PROG.SPACE n))).get f :=
  (Dev.get_set_ne _ _ hl).trans (Dev.get_resetFields_ne _ h)

/-- A channel that runs keeps its registers but for its state. -/
theorem dmaGo_get {n : Nat} {f : Fld} (d : Dev) (h : f.key ≠ (Reg.HDR.STATE (pg .DMA n)).key) : (dmaGo n d).get f = d.get f :=
  Dev.get_set_ne _ _ h

theorem dmaGo_dma (n : Nat) (d : Dev) : (dmaGo n d).dma n = { d.dma n with run := true } :=
  d.dma_setDma_same n { d.dma n with run := true }

theorem dmaLoaded_dma (n : Nat) (d : Dev) : (dmaLoaded n d).dma n = DmaChan.init :=
  ((d.set (Reg.DMA.PC.ADDR n) (d.get (Reg.DMA.PROG.ADDR n))).set (Reg.DMA.PC.SPACE n) (d.get (Reg.DMA.PROG.SPACE n))).dma_setDma_same
    n DmaChan.init

theorem dmaGo_blk {n : Nat} {d : Dev} (h : d.enabled (pg .DMA n) = true) : (dmaGo n d).blk (pg .DMA n) = 2 := by
  rw [dmaGo, h]
  exact Dev.get_set_same ..

/-- What START of an enabled channel shows. -/
theorem dmaGo_loaded {n : Nat} {d : Dev} (he : d.enabled (pg .DMA n) = true) :
    (dmaGo n (dmaLoaded n d)).get (Reg.DMA.PC.ADDR n) = d.get (Reg.DMA.PROG.ADDR n) % 2 ^ 60 ∧
      (dmaGo n (dmaLoaded n d)).get (Reg.DMA.PC.SPACE n) = d.get (Reg.DMA.PROG.SPACE n) % 2 ∧
      (dmaGo n (dmaLoaded n d)).blk (pg .DMA n) = 2 ∧ (dmaGo n (dmaLoaded n d)).dma n = { DmaChan.init with run := true } ∧
      (dmaGo n (dmaLoaded n d)).is (Reg.DMA.FLAGS.ENDED n) = false ∧ (dmaGo n (dmaLoaded n d)).get (Reg.DMA.LOOP.DEPTH n) = 0 := by
  have hne {f : Fld} (h : ∀ g ∈ [Reg.DMA.STAT.ARG n, Reg.DMA.STAT.CAUSE n, Reg.DMA.STAT.CODE n, Reg.DMA.FLAGS.WAITING n,
      Reg.DMA.FLAGS.FETCH n, Reg.DMA.FLAGS.DELAYED n, Reg.DMA.FLAGS.ENDED n], f.apart g = true) (g : Fld)
      (hg : g ∈ [Reg.DMA.STAT.ARG n, Reg.DMA.STAT.CAUSE n, Reg.DMA.STAT.CODE n, Reg.DMA.FLAGS.WAITING n,
        Reg.DMA.FLAGS.FETCH n, Reg.DMA.FLAGS.DELAYED n, Reg.DMA.FLAGS.ENDED n]) : f.key ≠ g.key := key_ne_of_apart (h g hg)
  refine ⟨?_, ?_, dmaGo_blk ?_, ?_, ?_, ?_⟩
  · rw [dmaGo_get _ (key_ne_of_apart rfl), dmaLoaded_get _ (hne (List.all_eq_true.mp rfl)) (key_ne_of_apart rfl),
      Dev.get_set_ne _ _ (key_ne_of_apart rfl), Dev.get_set_same]
    rfl
  · rw [dmaGo_get _ (key_ne_of_apart rfl), dmaLoaded_get _ (hne (List.all_eq_true.mp rfl)) (key_ne_of_apart rfl), Dev.get_set_same]
    rfl
  · rwa [Dev.enabled, Dev.is_eq, dmaLoaded_get _ (hne (List.all_eq_true.mp rfl)) (key_ne_of_apart rfl),
      Dev.get_set_ne _ _ (key_ne_of_apart rfl), Dev.get_set_ne _ _ (key_ne_of_apart rfl)]
  · rw [dmaGo_dma, dmaLoaded_dma]
  · rw [Dev.is_eq, dmaGo_get _ (key_ne_of_apart rfl), dmaLoaded, Dev.get_set_ne _ _ (key_ne_of_apart rfl)]
    exact congrArg (· != 0) (Dev.get_resetFields_last _ [Reg.DMA.STAT.ARG n, Reg.DMA.STAT.CAUSE n, Reg.DMA.STAT.CODE n,
      Reg.DMA.FLAGS.WAITING n, Reg.DMA.FLAGS.FETCH n, Reg.DMA.FLAGS.DELAYED n] (Reg.DMA.FLAGS.ENDED n))
  · rw [dmaGo_get _ (key_ne_of_apart rfl)]
    exact Dev.get_set_same ..

/-! ### INSTRUCTION_FETCH -/

/-- The lines a channel keeps when one arrives: that of PC and the two ahead of it. -/
def Dev.dmaKeep (d : Dev) (n : Nat) : List (Nat × Bytes) :=
  (d.dma n).lines.filter fun l => decide (d.dmaPc n / 64 ≤ l.1) && decide (l.1 ≤ d.dmaPc n / 64 + 2)

/-- The device once the Basin has been read for a line at address `a`. -/
def dmaLoad (n a err : Nat) (d : Dev) : Dev :=
  if d.is (Reg.DMA.PC.SPACE n) = true ∨ basinSize ≤ a then d else d.basinLoad 2 (dmaMaster n) a 64 err

/-- The cause of the fetch of a line, `d1` being the device once the Basin has been read; 0 when it succeeds. -/
def dmaFetchCause (n a err : Nat) (d d1 : Dev) : Nat :=
  if d.is (Reg.DMA.PC.SPACE n) = true then (if err = 0 then 0 else 8) else if basinSize ≤ a then 5
  else if d1.basinUp = false then 6 else if d1.badSectors a 64 ≠ [] then 7 else 0

/-- The line fetched. -/
def dmaLine (n a : Nat) (host : Bytes) (d d1 : Dev) : Bytes :=
  if d.is (Reg.DMA.PC.SPACE n) = true then padTo 64 host else d1.basinRead a 64

theorem instructionFetch_not {n ahead err : Nat} {host : Bytes} {d : Dev}
    (h : d.dmaGoes n = false ∨ (d.dma n).cur.isSome = true ∨ (d.dma n).move.isSome = true ∨ 2 < ahead) :
    instructionFetch n ahead host err d = d := if_pos h

section
variable {n ahead err a cause : Nat} {host got : Bytes} {d d1 : Dev} (hg : d.dmaGoes n = true) (hc : (d.dma n).cur = none)
  (hm : (d.dma n).move = none) (ha : ahead ≤ 2) (hat : (d.dmaPc n / 64 + ahead) * 64 = a) (h1 : dmaLoad n a err d = d1)
  (hca : dmaFetchCause n a err d d1 = cause) (hgot : dmaLine n a host d d1 = got)
include hg hc hm ha hat h1 hca hgot

/-- A line for an instruction that is not there. -/
theorem instructionFetch_missing (hl : aget (d.dmaPc n / 64) (d.dmaKeep n) = none) :
    instructionFetch n ahead host err d =
      if ahead ≠ 0 then
        (if cause = 0 then d1.setDma n { d.dma n with lines := aset (d.dmaPc n / 64 + ahead) got (d.dmaKeep n) } else d1)
      else if cause ≠ 0 then
        dmaFail n cause (some (1, if d.is (Reg.DMA.PC.SPACE n) = true then 2 else 0, a)) (d1.put (Reg.DMA.FLAGS.FETCH n) true)
      else dmaDecode n got (d1.setDma n { d.dma n with lines := aset (d.dmaPc n / 64) got (d.dmaKeep n) }) := by
  subst hat h1 hca hgot
  have hcond : ¬(d.dmaGoes n = false ∨ (d.dma n).cur.isSome = true ∨ (d.dma n).move.isSome = true ∨ 2 < ahead) := by
    simp [hg, hc, hm, ha]
  rw [instructionFetch, if_neg hcond]
  unfold Dev.dmaKeep at hl
  dsimp only
  rw [hl]
  rfl

/-- A line for an instruction whose line is there. -/
theorem instructionFetch_there {l : Bytes} (hl : aget (d.dmaPc n / 64) (d.dmaKeep n) = some l) :
    instructionFetch n ahead host err d = dmaDecode n l (d1.setDma n { d.dma n with
      lines := if ahead = 0 then d.dmaKeep n else if cause = 0 then aset (d.dmaPc n / 64 + ahead) got (d.dmaKeep n)
        else d.dmaKeep n }) := by
  subst hat h1 hca hgot
  have hcond : ¬(d.dmaGoes n = false ∨ (d.dma n).cur.isSome = true ∨ (d.dma n).move.isSome = true ∨ 2 < ahead) := by
    simp [hg, hc, hm, ha]
  rw [instructionFetch, if_neg hcond]
  unfold Dev.dmaKeep at hl
  dsimp only
  rw [hl]
  rfl

end

/-! ### The statement -/

/-- Settles O32. START and RESUME outside IDLE and the lines fetched ahead (notes/assumptions/37.md), a page that is off
(notes/assumptions/12.md) and that nothing changes on a channel that does not fetch or whose instruction is no HALT
(notes/assumptions/56.md) are readings of the model. -/
theorem dmaChannels : Obligations.DmaChannels := by
  refine ⟨fun s n hs hn ho hb => ?_, fun s n hs hn ho hb he => ?_, fun s n hs hn ho hb => ?_, fun s n hs hn ho hb => ?_,
    fun s n hs hn ho hb => ?_, fun s n hs hn ho => ?_, fun s n hs hn ho => ?_,
    fun s n ahead err host here a cause keep d1 got hs hg hc hm ha hh hk hat h1 hca hgot hl h0 hz => ?_,
    fun s n ahead err host here a cause keep d1 got hs hg hc hm ha hh hk hat h1 hca hgot hl h0 hz => ?_,
    fun s n ahead err host here a cause keep d1 got hs hg hc hm ha hh hk hat h1 hca hgot hl h0 => ?_,
    fun s n ahead err host here a cause keep d1 got l hs hg hc hm ha hh hk hat h1 hca hgot hl => ?_,
    fun s n ahead err host hs h => ?_, fun s n hs hop => ?_, fun s n hs hop => ?_, fun s map hs ho hm => ?_, fun s map hs ho => ?_⟩
  · refine completes_of_exec (exec_dmaStart hs n) ?_
    rw [hostWrite_dmaStart _ hn ho, dmaStart_idle hb]
    rfl
  · refine completes_of_exec (exec_dmaStart hs n) ?_
    rw [hostWrite_dmaStart _ hn ho, dmaStart_idle hb]
    exact dmaGo_loaded he
  · refine completes_of_exec (exec_dmaResume hs n) ?_
    rw [hostWrite_dmaResume _ hn ho, dmaResume_idle hb]
    rfl
  · exact completes_of_exec (exec_dmaStart hs n) ((hostWrite_dmaStart _ hn ho).trans (dmaStart_busy hb))
  · exact completes_of_exec (exec_dmaResume hs n) ((hostWrite_dmaResume _ hn ho).trans (dmaResume_busy hb))
  · exact completes_of_exec (exec_dmaStart hs n) (hostWrite_dmaCmd_off _ 1 ho)
  · exact completes_of_exec (exec_dmaResume hs n) (hostWrite_dmaCmd_off _ 2 ho)
  · subst hh hk h0 hz
    exact completes_of_exec (exec_instructionFetch hs ..) (instructionFetch_missing hg hc hm ha hat h1 hca hgot hl)
  · subst hh hk h0
    exact completes_of_exec (exec_instructionFetch hs ..)
      ((instructionFetch_missing hg hc hm ha hat h1 hca hgot hl).trans (if_pos hz))
  · subst hh hk
    exact completes_of_exec (exec_instructionFetch hs ..)
      ((instructionFetch_missing hg hc hm ha hat h1 hca hgot hl).trans (if_pos h0))
  · subst hh hk
    exact completes_of_exec (exec_instructionFetch hs ..) (instructionFetch_there hg hc hm ha hat h1 hca hgot hl)
  · exact completes_of_exec (exec_instructionFetch hs ..) (instructionFetch_not h)
  · refine completes_of_exec (exec_halt hs n) ?_
    rw [dmaHalt_eq hop]
    refine ⟨rfl, dmaEnd_is_ended .., ?_, dmaEnd_code 0 (by split_ifs <;> decide) _, dmaEnd_evRaw ..⟩
    rw [dmaEnd_arg, dmaNext_get _ (key_ne_of_apart rfl), Dev.get_set_same]
    exact Nat.mod_eq_of_lt (bits_lt ..)
  · exact completes_of_exec (exec_halt hs n) (if_pos hop)
  · exact completes_of_exec (exec_killMap hs map) (hostWrite_killMap _ ho hm)
  · exact completes_of_exec (exec_killMap hs map) (hostWrite_off ho (by decide) (by decide))

end Sys2Proof.Machine
end

section
/-!
PROOF. Squeeze: the entries, jobs and job ends of the compressors (O35).
-/
namespace Sys2Proof.Machine

/-! ### PUSH -/

theorem hostWrite_push (u : Fuses) {k : Nat} {d : Dev} (hk : k < 4) (ho : d.pageOff (0x41 + k) = false) :
    hostWrite u ((0x41 + k) * 4096 + 0x44) 1 d = cmpPush k d := by
  have hpage : ((0x41 + k) * 4096 + 0x44) / 4096 = 0x41 + k := by omega
  exact hostWrite_actsOnly (b := .CMP) (n := k) (off := 0x44) (fs := [Reg.CMP.PUSH.GO k])
    (by rw [hpage]; exact ofPage_pg (b := .CMP) hk) (by rwa [hpage]) (by omega) (by decide) (by decide) (by decide) rfl
    (by simp [Fld.ActsOnly, Reg.CMP.PUSH.GO])

theorem hostWrite_push_off (u : Fuses) {k : Nat} {d : Dev} (ho : d.pageOff (0x41 + k) = true) :
    hostWrite u ((0x41 + k) * 4096 + 0x44) 1 d = hostRefused 0x21 ((0x41 + k) * 4096 + 0x44) d :=
  hostWrite_off (by rwa [show ((0x41 + k) * 4096 + 0x44) / 4096 = 0x41 + k by omega]) (by omega) (by omega)

theorem cmpPush_taken {k : Nat} {d : Dev} (ht : d.cmpTakes k = true) (hq : (d.cmp k).queue.length < 64) :
    cmpPush k d = cmpAppend k (d.cmpEntry k) d := if_pos ⟨ht, hq⟩

theorem cmpPush_full {k : Nat} {d : Dev} (h : d.cmpTakes k = false ∨ 64 ≤ (d.cmp k).queue.length) :
    cmpPush k d = (d.bump Reg.CMPC.Q_FULL_CNT.COUNT 1).raise k Kind.CMP.Q_FULL := by
  refine if_neg fun ⟨ht, hq⟩ => ?_
  rcases h with h | h
  · exact absurd (ht.symm.trans h) (by decide)
  · exact absurd hq (Nat.not_lt.mpr h)

/-- An entry appended is at the end of the queue, and the job is as before. -/
theorem cmpAppend_cmp (k : Nat) (e : Bytes) (d : Dev) :
    (cmpAppend k e d).cmp k = { queue := (d.cmp k).queue ++ [e], job := (d.cmp k).job } := by
  unfold cmpAppend
  dsimp only
  split_ifs <;> exact tget_tset_same ..

/-! ### Jobs -/

theorem cmpJobStart_taken {k : Nat} {e : Bytes} {rest : List Bytes} {d : Dev} (he : d.enabled (pg .CMP k) = true)
    (hb : d.blk (pg .CMP k) = 1 ∨ d.blk (pg .CMP k) = 2) (hj : (d.cmp k).job = none) (hq : (d.cmp k).queue = e :: rest) :
    cmpJobStart k d =
      let d := (((d.setCmp k { queue := rest, job := some e }).setBlk (pg .CMP k) 2).set (Reg.CMP.CUR_TAG.TAG k) (leAt e 4 4)).set
        (Reg.CMP.CUR_DONE.BYTES k) 0
      if jobSound e = true then d.request (pg .CMP k) else cmpEnd k e 2 0 0 false d := by
  have hgo : ¬(d.enabled (pg .CMP k) = false ∨ (d.blk (pg .CMP k) ≠ 1 ∧ d.blk (pg .CMP k) ≠ 2) ∨ (d.cmp k).job.isSome = true) := by
    rw [he, hj]
    rintro (h | ⟨h1, h2⟩ | h)
    · exact absurd h (by decide)
    · exact hb.elim h1 h2
    · exact absurd h (by decide)
  rw [cmpJobStart]
  simp only [if_neg hgo, hq]

theorem cmpJobStart_not {k : Nat} {d : Dev}
    (h : d.enabled (pg .CMP k) = false ∨ (d.blk (pg .CMP k) ≠ 1 ∧ d.blk (pg .CMP k) ≠ 2) ∨ (d.cmp k).job.isSome = true ∨
      (d.cmp k).queue = []) : cmpJobStart k d = d := by
  unfold cmpJobStart
  dsimp only
  split_ifs with hnot
  · rfl
  · rw [not_or, not_or] at hnot
    obtain ⟨he, hb, hj⟩ := hnot
    rw [((h.resolve_left he).resolve_left hb).resolve_left hj]

theorem cmpJobEnd_none {k err late : Nat} {host : Bytes} {d : Dev} (h : (d.cmp k).job = none) :
    cmpJobEnd k host err late d = d := by
  rw [cmpJobEnd, h]

section
variable {k sp err late : Nat} {host e : Bytes} {d d0 d1 : Dev} (hj : (d.cmp k).job = some e) (hsp : bits (byteAt e 3) 1 0 = sp)
  (h0 : (delayed (cmpMaster k) late d).bump (Reg.CMP.DLY_CYC.COUNT k) late = d0)
  (h1 : (if sp = 0 then d0.basinLoad 3 (cmpMaster k) (leAt e 8 8) (leAt e 24 4) err else d0) = d1)
include hj hsp h0 h1

/-- The end of a job, by the space of its source (0 Basin, 1 host, 2 Sediment). -/
theorem cmpJobEnd_some :
    cmpJobEnd k host err late d =
      if (if sp = 0 then d1.basinFails (leAt e 8 8) (leAt e 24 4) else if sp = 1 then err != 0 else false) = true then
        cmpFails k e 3 (late != 0) d1
      else cmpFinish k e
        (if sp = 0 then d1.basinRead (leAt e 8 8) (leAt e 24 4) else if sp = 1 then padTo (leAt e 24 4) host
          else memRead 0 d1.sed.mem (leAt e 8 8) (leAt e 24 4)) (late != 0)
        ((d1.bump (Reg.CMP.IN_BYTES.COUNT k) (leAt e 24 4)).set (Reg.CMP.CUR_DONE.BYTES k) (leAt e 24 4)) := by
  subst hsp h0 h1
  rw [cmpJobEnd, hj]

omit hj hsp h0 h1 in
theorem sourceFails_iff {a len : Nat} :
    (if sp = 0 then d1.basinFails a len else if sp = 1 then err != 0 else false) = true ↔
      (sp = 0 ∧ d1.basinFails a len = true) ∨ (sp = 1 ∧ err ≠ 0) := by
  by_cases hs0 : sp = 0
  · simp [hs0]
  · by_cases hs1 : sp = 1 <;> simp [hs0, hs1]

theorem cmpJobEnd_failed (h : (sp = 0 ∧ d1.basinFails (leAt e 8 8) (leAt e 24 4) = true) ∨ (sp = 1 ∧ err ≠ 0)) :
    cmpJobEnd k host err late d = cmpFails k e 3 (late != 0) d1 := by
  rw [cmpJobEnd_some hj hsp h0 h1, if_pos (sourceFails_iff.mpr h)]

theorem cmpJobEnd_read (h : ¬((sp = 0 ∧ d1.basinFails (leAt e 8 8) (leAt e 24 4) = true) ∨ (sp = 1 ∧ err ≠ 0))) :
    cmpJobEnd k host err late d = cmpFinish k e
      (if sp = 0 then d1.basinRead (leAt e 8 8) (leAt e 24 4) else if sp = 1 then padTo (leAt e 24 4) host
        else memRead 0 d1.sed.mem (leAt e 8 8) (leAt e 24 4)) (late != 0)
      ((d1.bump (Reg.CMP.IN_BYTES.COUNT k) (leAt e 24 4)).set (Reg.CMP.CUR_DONE.BYTES k) (leAt e 24 4)) := by
  rw [cmpJobEnd_some hj hsp h0 h1, if_neg (mt sourceFails_iff.mp h)]

end

/-- Settles O35. That what a job writes appears at its end (notes/assumptions/39.md), a PUSH on a page that is off
(notes/assumptions/12.md) and that nothing changes without an entry or a job (notes/assumptions/56.md) are readings of the model. -/
theorem compressors : Obligations.Compressors := by
  refine ⟨fun s k hs hk ho ht hq => ?_, fun s k hs hk ho h => ?_, fun s k hs hk ho => ?_, fun s k e rest hs he hb hj hq => ?_,
    fun s k hs h => ?_, fun s k sp err late host e d0 d1 whole hs hj hsp h0 h1 hok hw => ?_,
    fun s k sp err late host e d0 d1 hs hj hsp h0 h1 hbad => ?_, fun s k err late host hs hj => ?_⟩
  · refine completes_of_exec (exec_push hs k) ?_
    rw [hostWrite_push _ hk ho, cmpPush_taken ht hq]
    rw [cmpAppend_cmp]
    exact ⟨rfl, rfl, rfl⟩
  · exact completes_of_exec (exec_push hs k) ((hostWrite_push _ hk ho).trans (cmpPush_full h))
  · exact completes_of_exec (exec_push hs k) (hostWrite_push_off _ ho)
  · exact completes_of_exec (exec_compressorJobStart hs k) (cmpJobStart_taken he hb hj hq)
  · exact completes_of_exec (exec_compressorJobStart hs k) (cmpJobStart_not h)
  · subst hw
    exact completes_of_exec (exec_compressorJobEnd hs ..) (cmpJobEnd_read hj hsp h0 h1 hok)
  · exact completes_of_exec (exec_compressorJobEnd hs ..) (cmpJobEnd_failed hj hsp h0 h1 hbad)
  · exact completes_of_exec (exec_compressorJobEnd hs ..) (cmpJobEnd_none hj)

end Sys2Proof.Machine
end

section
/-!
PROOF. Basin and Shallows: their requests, the throttle, the scrubs, telemetry and the wipes (O30, O31).
-/
namespace Sys2Proof.Machine

/-! ### Basin requests -/

/-- A register access that changes no memory. -/
def Dev.SameStores (d d' : Dev) : Prop := d'.basin = d.basin ∧ d'.shallows = d.shallows ∧ d'.mem = d.mem

theorem Dev.SameStores.trans {a b c : Dev} (h : a.SameStores b) (k : b.SameStores c) : a.SameStores c := by
  obtain ⟨h1, h2, h3⟩ := h
  obtain ⟨k1, k2, k3⟩ := k
  exact ⟨k1.trans h1, k2.trans h2, k3.trans h3⟩

theorem Dev.Flagged.sameStores {d d' : Dev} (h : d.Flagged d') : d.SameStores d' := by
  obtain ⟨⟨r, f, s, e, l, o, rfl⟩, -⟩ := h
  exact ⟨rfl, rfl, rfl⟩

theorem Dev.sameStores_put (d : Dev) (f : Fld) (v : Bool) : d.SameStores (d.put f v) := ⟨rfl, rfl, rfl⟩

theorem Dev.sameStores_bringup (d : Dev) (f : Fld) (v : Bool) : d.SameStores (d.bringup f v) := by
  have hev (e : Dev) (n : Nat) : e.SameStores (e.ev .SYS 0 n) := (Dev.flagged_ev ..).sameStores
  have hput : d.SameStores ((d.put f v).ev .SYS 0 6) := .trans ⟨rfl, rfl, rfl⟩ (hev (d.put f v) 6)
  unfold Dev.bringup
  dsimp only
  split_ifs
  · exact ⟨rfl, rfl, rfl⟩
  · exact hput.trans (hev ..)
  · exact hput.trans (hev ..)
  · exact hput

theorem c5Drop_mem (d : Dev) :
    (c5Drop d).mem = { d.mem with tel := { d.mem.tel with c5 := d.mem.tel.c5 + 1, held := none } } :=
  (Dev.flagged_raise ..).sameStores.2.2

section
variable {master cls addr len err late : Nat} {w : Bool} {data : Bytes} {d : Dev}

theorem basinRequest_refused (h : basinSize < addr + (if w then data.length else len) ∨ d.basinUp = false) :
    basinRequest master cls addr len w data err late d =
      refusedAccess master (if basinSize < addr + (if w then data.length else len) then 0x11 else 0x10) addr w d := by
  rw [basinRequest]
  dsimp only
  split_ifs <;> simp_all

section
variable (hn : addr + (if w then data.length else len) ≤ basinSize) (hu : d.basinUp = true)
include hn hu

/-- What a request of a Basin that is up does, its bytes within it. -/
theorem basinRequest_up :
    basinRequest master cls addr len w data err late d =
      if cls = 5 ∧ d.is Reg.BAS.STAT.THROTTLED = true then c5Drop d
      else if cls = 5 ∧ w = true ∧ d.mem.tel.held.isSome = true then
        telemPut ((d.mem.tel.held.map (·.2)).getD []) (delayed master late d)
      else if cls = 4 ∧ w = true ∧ d.is Reg.BAS.STAT.THROTTLED = true then d.c4Write addr data master
      else if w then
        ((if addr % 32 = 0 ∧ data.length % 32 = 0 then delayed master late d
          else strike err addr (delayed master late d)).basinWrite addr data cls master).emit
            (.completion master (if late = 0 then 0 else 1))
      else
        let d1 := (delayed master late d).basinLoad cls master addr len err
        (d1.emit (.readBytes addr (d1.basinRead addr len) (d1.badSectors addr len != []))).emit
          (.completion master (if late = 0 then 0 else 1)) := by
  rw [basinRequest]
  simp only [if_neg (Nat.not_lt.mpr hn), hu, Bool.true_eq_false, if_false]
  cases w <;> rfl

theorem basinRequest_served (hw : w = true) (h5 : ¬(cls = 5 ∧ d.is Reg.BAS.STAT.THROTTLED = true))
    (hh : ¬(cls = 5 ∧ w = true ∧ d.mem.tel.held.isSome = true)) (h4 : ¬(cls = 4 ∧ w = true ∧ d.is Reg.BAS.STAT.THROTTLED = true)) :
    basinRequest master cls addr len w data err late d =
      ((if addr % 32 = 0 ∧ data.length % 32 = 0 then delayed master late d
        else strike err addr (delayed master late d)).basinWrite addr data cls master).emit
          (.completion master (if late = 0 then 0 else 1)) := by
  rw [basinRequest_up hn hu, if_neg h5, if_neg hh, if_neg h4, if_pos hw]

end

/-- A write of class C4 while the arbiter throttles waits. -/
theorem c4Write_throttled {a : Nat} {bs : Bytes} (hu : d.basinUp = true) (ht : d.is Reg.BAS.STAT.THROTTLED = true) :
    d.c4Write a bs master =
      { d with mem := { d.mem with wait := d.mem.wait ++ [{ since := d.time.up, master, addr := a, data := bs }] } } := by
  rw [Dev.c4Write, if_neg (by simp [hu]), if_pos ht]

end

/-! ### Corrected write-backs and Shallows -/

theorem correctedWriteback_none {bad : Bool} {d : Dev} (h : d.mem.ce = []) : correctedWriteback bad d = d := by
  rw [correctedWriteback, h]

theorem correctedWriteback_some {bad : Bool} {x : Nat} {rest : List Nat} {d d1 : Dev} (h : d.mem.ce = x :: rest)
    (h1 : ({ d with mem := { d.mem with ce := rest } } : Dev) = d1) :
    correctedWriteback bad d =
      if d1.basinUp = false then d1 else if bad = true then ueFound 0xFF 4 (upset x d1) x else d1.served 4 32 := by
  subst h1
  rw [correctedWriteback, h]

section
variable {master a len err : Nat} {w : Bool} {data : Bytes} {d : Dev}

theorem shallowsAccess_refused (h : 2 ^ 25 < a + (if w then data.length else len) ∨ d.inRun (pg .SHL 0) = false) :
    shallowsAccess master a len w data err d =
      refusedAccess master (if 2 ^ 25 < a + (if w then data.length else len) then 0x11 else 0x10) a w d := by
  rw [shallowsAccess]
  by_cases hn : 2 ^ 25 < a + (if w then data.length else len)
  · rw [if_pos hn, if_pos hn]
  · rw [if_neg hn, if_neg hn, if_pos (h.resolve_left hn)]

theorem shallowsAccess_run (hn : a + (if w then data.length else len) ≤ 2 ^ 25) (hr : d.inRun (pg .SHL 0) = true) :
    shallowsAccess master a len w data err d =
      if w then (if master = 0 ∧ d.shallowsOpen = false then shallowsLocked a d else d.shallowsWrite a data)
      else
        let d1 := shallowsStrike master (a / 8) err d
        d1.emit (.readBytes a (memRead 0 d1.shallows a len) (d1.mem.shlUe.contains (a / 8))) := by
  rw [shallowsAccess, if_neg (Nat.not_lt.mpr hn), if_neg (by simp [hr])]

end

/-! ### The throttle -/

theorem onlyRises_slackLow (n : Nat) (d : Dev) : d.OnlyRises (slackLow n d) := by
  unfold slackLow
  dsimp only
  split_ifs
  · exact Dev.onlyRises_ev ..
  · exact .trans (b := d.setPipe n { d.pipe n with low := decide (d.slack n < (d.get Reg.BAS.THROTTLE.SLACK_US : Nat)) })
      (Dev.onlyRises_of_regs rfl) (Dev.onlyRises_ev ..)
  · exact .refl d
  · exact Dev.onlyRises_of_regs rfl

theorem steady_throttled : Reg.BAS.STAT.THROTTLED.Steady := ⟨by decide, by decide, by decide, by decide⟩

theorem setThrottle_throttled (on : Bool) (d : Dev) : (setThrottle on d).is Reg.BAS.STAT.THROTTLED = on := by
  unfold setThrottle
  split_ifs with h
  · exact h
  · rw [Dev.is_eq, (Dev.onlyRises_ev ..).1 _ steady_throttled, ← Dev.is_eq, Dev.is_put_same _ _ rfl]

/-- Engaging the throttle leaves it engaged when the lanes have been told. -/
theorem throttled_engaged (d : Dev) :
    ((List.range 64).foldl (fun d n => slackLow n d) (setThrottle true d)).is Reg.BAS.STAT.THROTTLED = true := by
  rw [Dev.is_eq, (Dev.onlyRises_foldl _ (fun d n => onlyRises_slackLow n d) _ _).1 _ steady_throttled, ← Dev.is_eq,
    setThrottle_throttled]

theorem throttleRelease_on {d : Dev} (ht : d.is Reg.BAS.STAT.THROTTLED = true)
    (hs : 5 * (d.get Reg.BAS.THROTTLE.SLACK_US : Nat) ≤ 4 * d.lowSlack) :
    throttleRelease d = d.mem.wait.foldl (fun d w => servedLate w d)
      (((thrSync { d with mem := { d.mem with wait := [] } }).put Reg.BAS.STAT.THROTTLED false).ev .BAS 0 3) := by
  have hset : setThrottle false { d with mem := { d.mem with wait := [] } } =
      ((thrSync { d with mem := { d.mem with wait := [] } }).put Reg.BAS.STAT.THROTTLED false).ev .BAS 0 3 :=
    if_neg fun hoff => absurd (ht.symm.trans hoff) (by decide)
  rw [throttleRelease, if_pos ⟨ht, hs⟩]
  dsimp only
  rw [hset]

/-- Settles O30. The request classes and throttled writes (notes/assumptions/35.md), uncorrectable errors
(notes/assumptions/34.md), the record of a refused host write (notes/assumptions/12.md) and that nothing changes where nothing is
to be written back, throttled or dropped (notes/assumptions/56.md) are readings of the model. -/
theorem memories : Obligations.Memories := by
  refine ⟨fun s master cls addr len err late w data hs h => ?_, fun s master cls addr len err late w data hs hn hu h5 ht => ?_,
    fun s master cls addr len err late w data r hs hn hu h5 hw ht hh => ?_,
    fun s master cls addr len err late w data hs hn hu h4 hw ht => ?_,
    fun s master cls addr len err late w data hs hn hu hw h5 hh h4 => ?_, fun s master cls addr data hs hn hu hc => ?_,
    fun s master cls addr len err late w data d1 hs hn hu hw h5 h1 => ?_, fun s x rest bad d1 hs hce h1 => ?_,
    fun s bad hs hce => ?_, fun s master a len err w data hs h => ?_, fun s master a len err w data hs hn hr hw => ?_,
    fun s master a len err w data d1 hs hn hr hw h1 => ?_, fun s hs hr hl => ?_, fun s hs h => ?_, fun s ws hs ht hl hws => ?_,
    fun s hs h => ?_, fun s hs => ?_⟩
  · exact completes_of_exec (exec_basinRequest hs ..) (basinRequest_refused h)
  · refine completes_of_exec (exec_basinRequest hs ..) ?_
    rw [basinRequest_up hn hu, if_pos ⟨h5, ht⟩, c5Drop_mem]
    exact ⟨rfl, rfl, rfl⟩
  · refine completes_of_exec (exec_basinRequest hs ..) ?_
    rw [basinRequest_up hn hu, if_neg (by simp [ht]), if_pos ⟨h5, hw, by rw [hh]; rfl⟩, hh]
    rfl
  · refine completes_of_exec (exec_basinRequest hs ..) ?_
    rw [basinRequest_up hn hu, if_neg (by simp [h4]), if_neg (by simp [h4]), if_pos ⟨h4, hw, ht⟩]
    exact ⟨rfl, by rw [c4Write_throttled hu ht], by rw [c4Write_throttled hu ht]⟩
  · exact completes_of_exec (exec_basinRequest hs ..) (basinRequest_served hn hu hw h5 hh h4)
  · refine completes_of_exec (exec_basinRequest hs ..) ?_
    have hnothing : strike 0 addr (delayed master 0 s.dev) = delayed master 0 s.dev := rfl
    rw [basinRequest_served hn hu rfl (by omega) (by omega) (by omega), hnothing, ite_self]
    rfl
  · subst hw h1
    refine completes_of_exec (exec_basinRequest hs ..) ?_
    rw [basinRequest_up hn hu, if_neg h5, if_neg (by simp), if_neg (by simp)]
    rfl
  · exact completes_of_exec (exec_correctedWriteback hs bad) (correctedWriteback_some hce h1)
  · exact completes_of_exec (exec_correctedWriteback hs bad) (correctedWriteback_none hce)
  · exact completes_of_exec (exec_shallowsAccess hs ..) (shallowsAccess_refused h)
  · exact completes_of_exec (exec_shallowsAccess hs ..) ((shallowsAccess_run hn hr).trans (if_pos hw))
  · subst hw h1
    exact completes_of_exec (exec_shallowsAccess hs ..) ((shallowsAccess_run hn hr).trans (if_neg (by simp)))
  · refine completes_of_exec (exec_throttleEngage hs) ?_
    rw [throttleEngage, if_pos ⟨hr, hl⟩]
    exact ⟨rfl, throttled_engaged s.dev⟩
  · refine completes_of_exec (exec_throttleEngage hs) (if_neg fun ⟨hr, hl⟩ => ?_)
    exact h.elim (by simp [hr]) (Int.not_le.mpr hl)
  · subst hws
    exact completes_of_exec (exec_throttleRelease hs) (throttleRelease_on ht hl)
  · refine completes_of_exec (exec_throttleRelease hs) (if_neg fun ⟨ht, hl⟩ => ?_)
    exact h.elim (by simp [ht]) (Int.not_lt.mpr hl)
  · exact completes_of_exec (exec_c5DeadlineDrop hs) rfl

/-! ### Scrubs -/

/-- The device when a scrub burst of Basin begins: the pass begins with the burst at address 0. -/
def scrubBegun (d : Dev) : Dev :=
  if d.mem.scrubAt = 0 then ({ d with mem := { d.mem with scrubT := d.time.up } }).arm .scrubB (d.get Reg.TRN.SCRUB_B.PERIOD_S * sec)
  else d

/-- Eight sectors from `a` checked and those that are bad reported. -/
def scrubChecked (errs : List Nat) (a : Nat) (d : Dev) : Dev :=
  ((((List.range 8).foldl (fun d i => strike (nth 0 errs i) (a + 32 * i) d) d).served 4 256).badSectors a 256).foldl (ueFound 0xFF 1)
    (((List.range 8).foldl (fun d i => strike (nth 0 errs i) (a + 32 * i) d) d).served 4 256)

theorem scrubBurst_runs {errs : List Nat} {d : Dev} (ht : d.task Reg.TRN.TASK_EN.BSCRUB = true) (hu : d.basinUp = true) :
    scrubBurst errs d =
      let d1 := scrubChecked errs d.mem.scrubAt (scrubBegun d)
      let d2 : Dev := { d1 with mem := { d1.mem with scrubAt := d.mem.scrubAt + 256 } }
      if d.mem.scrubAt + 256 = basinSize then scrubPassEnd d2
      else d2.set Reg.TRN.SCRUB_B_STAT.DONE ((d.mem.scrubAt + 256) * 256 / basinSize) := by
  rw [scrubBurst, if_neg (by simp [ht, hu])]
  rfl

theorem steady_scrubDone : Reg.TRN.SCRUB_B_STAT.DONE.Steady := ⟨by decide, by decide, by decide, by decide⟩

/-- A pass that has ended begins anew at address 0. -/
theorem scrubPassEnd_anew (d : Dev) : (scrubPassEnd d).mem.scrubAt = 0 ∧ (scrubPassEnd d).get Reg.TRN.SCRUB_B_STAT.DONE = 0 := by
  have hev (e : Dev) : ((e.set Reg.TRN.SCRUB_B_STAT.DONE 0).ev .TRN 0 0).mem = e.mem ∧
      ((e.set Reg.TRN.SCRUB_B_STAT.DONE 0).ev .TRN 0 0).get Reg.TRN.SCRUB_B_STAT.DONE = 0 :=
    ⟨(Dev.flagged_ev ..).sameStores.2.2,
      ((Dev.onlyRises_ev ..).1 _ steady_scrubDone).trans ((Dev.get_set_same ..).trans (Nat.zero_mod _))⟩
  have hraise (e : Dev) : (e.raise 0 Kind.TRN.SCRUB_LATE).mem = e.mem ∧
      (e.raise 0 Kind.TRN.SCRUB_LATE).get Reg.TRN.SCRUB_B_STAT.DONE = e.get Reg.TRN.SCRUB_B_STAT.DONE :=
    ⟨(Dev.flagged_raise ..).sameStores.2.2, (Dev.onlyRises_raise ..).1 _ steady_scrubDone⟩
  unfold scrubPassEnd
  dsimp only
  split_ifs
  · rw [(hraise _).1, (hraise _).2, (hev _).1, (hev _).2]
    exact ⟨rfl, rfl⟩
  · rw [(hev _).1, (hev _).2]
    exact ⟨rfl, rfl⟩

/-- What an access meets at a Shallows word: 1 a corrected error, 2 an uncorrectable one. -/
def shallowsMet (w err : Nat) (d : Dev) : Dev :=
  if err = 1 then
    let d := d.bump Reg.SHL.CE_CNT.COUNT 1
    { d with mem := { d.mem with tel := { d.mem.tel with shlCe := d.mem.tel.shlCe + 1 } } }
  else if err = 2 then
    let d := { d with shallows := memWrite 0 (8 * w) (d.freeBytes 8) d.shallows }
    { d.drawn with mem := { d.mem with shlUe := if d.mem.shlUe.contains w then d.mem.shlUe else d.mem.shlUe ++ [w] } }
  else d

theorem shallowsMet_sAt (w err : Nat) (d : Dev) : (shallowsMet w err d).mem.sAt = d.mem.sAt := by
  unfold shallowsMet
  dsimp only
  split_ifs <;> rfl

/-- A strike in Shallows leaves where the scrub stands. -/
theorem shallowsStrike_sAt (master w err : Nat) (d : Dev) : (shallowsStrike master w err d).mem.sAt = d.mem.sAt := by
  have hraise (e : Dev) (a : FArg) : (e.raise 0 Kind.SHL.SHL_UE a).mem = e.mem := (Dev.flagged_raise ..).sameStores.2.2
  refine Eq.trans ?_ (shallowsMet_sAt w err d)
  unfold shallowsStrike
  rw [← shallowsMet]
  dsimp only
  split_ifs
  · rw [hraise]
    rfl
  · rw [hraise]
    rfl
  · rfl

/-- Counting a scrubbed word. -/
theorem scrubWord_runs {slice err : Nat} {d d1 : Dev} {l : List (Nat × Nat)} (hn : slice < 64)
    (ht : d.task Reg.TRN.TASK_EN.SSCRUB = true) (hr : d.inRun (pg .SHL 0) = true) (hk : tget 0 d.mem.sAt slice < sliceWords)
    (h1 : shallowsStrike 0xFF (slice * sliceWords + tget 0 d.mem.sAt slice) err
      (if d.mem.sAt = [] then { d with mem := { d.mem with sT := d.time.up } } else d) = d1)
    (hl : tset 0 slice (tget 0 d.mem.sAt slice + 1) d.mem.sAt = l) :
    scrubWord slice err d =
      if (List.range 64).all (fun n => tget 0 l n == sliceWords) then
        let took := (d1.time.up - d1.mem.sT) / ms
        let d2 := ((({ d1 with mem := { d1.mem with sAt := [] } }).set Reg.TRN.SCRUB_S_STAT.LAST_MS (min 65535 took)).set
          Reg.TRN.SCRUB_S_STAT.PASSES (d1.get Reg.TRN.SCRUB_S_STAT.PASSES + 1)).ev .TRN 0 0
        if max 1000 (d2.get Reg.TRN.SCRUB_S.PERIOD_MS) < took then d2.raise 0 Kind.TRN.SCRUB_LATE else d2
      else { d1 with mem := { d1.mem with sAt := l } } := by
  have hat : d1.mem.sAt = d.mem.sAt := by
    subst h1
    rw [shallowsStrike_sAt]
    split_ifs <;> rfl
  have hgo : ¬(d.task Reg.TRN.TASK_EN.SSCRUB = false ∨ d.inRun (pg .SHL 0) = false ∨ 64 ≤ slice ∨
      sliceWords ≤ tget 0 d.mem.sAt slice) := by
    rw [ht, hr]
    rintro (h | h | h | h)
    · exact absurd h (by decide)
    · exact absurd h (by decide)
    · exact absurd hn (Nat.not_lt.mpr h)
    · exact absurd hk (Nat.not_lt.mpr h)
  rw [scrubWord]
  dsimp only
  rw [if_neg hgo, h1, hat, hl]
  rfl

theorem allScrubbed_iff {l : List (Nat × Nat)} :
    (List.range 64).all (fun n => tget 0 l n == sliceWords) = true ↔ ∀ n ∈ List.range 64, tget 0 l n = sliceWords := by
  simp only [List.all_eq_true, beq_iff_eq]

/-! ### Telemetry -/

/-- A device whose next telemetry period has begun, after the one that has just ended. -/
def telemStarted (d : Dev) : Dev :=
  { thrSync d with mem := { (thrSync d).mem with tel := Telem.start (thrSync d).time.up (thrSync d).mem.tel.held } }

/-- The turn of the telemetry timer, before what it does. -/
def telemTurn (d : Dev) : Dev :=
  (d.advanceTo ((d.due .telem).getD d.time.up)).arm .telem (max 1 (d.get Reg.TRN.TELEM_CFG.PERIOD_MS) * ms)

section
variable {waits : Bool} {d d1 d2 : Dev} (h1 : telemTurn d = d1)
include h1

theorem telemetryRecord_not (ht : d1.task Reg.TRN.TASK_EN.TELEM = false) : telemetryRecord waits d = d1 := by
  subst h1
  exact if_pos ht

variable (ht : d1.task Reg.TRN.TASK_EN.TELEM = true) (h2 : telemStarted d1 = d2)
include ht h2

theorem telemetryRecord_due :
    telemetryRecord waits d =
      if (d2.get Reg.TRN.TELEM_TAIL.INDEX + 1) % d2.telemSize = d2.get Reg.TRN.TELEM_HEAD.INDEX then
        (d2.bump Reg.TRN.TELEM_LOST.COUNT 1).raise 0 Kind.TRN.TELEM_LOST
      else if (!d2.is Reg.TRN.TELEM_BASE.SPACE) = true ∧ d2.basinUp = false then
        (d2.bump Reg.TRN.TELEM_LOST.COUNT 1).raise 0 Kind.TRN.TELEM_LOST
      else if (!d2.is Reg.TRN.TELEM_BASE.SPACE) = true ∧ d2.is Reg.BAS.STAT.THROTTLED = true then c5Drop d2
      else if (!d2.is Reg.TRN.TELEM_BASE.SPACE) = true ∧ waits = true then
        { d2 with mem := { d2.mem with tel := { d2.mem.tel with
          held := some (d2.get Reg.TRN.TELEM_TAIL.INDEX, (thrSync d1).telemBytes) } } }
      else telemPut (thrSync d1).telemBytes d2 := by
  subst h1 h2
  exact if_neg fun hoff => absurd (ht.symm.trans hoff) (by decide)

theorem telemetryRecord_put
    (hroom : ¬(d2.get Reg.TRN.TELEM_TAIL.INDEX + 1) % d2.telemSize = d2.get Reg.TRN.TELEM_HEAD.INDEX)
    (h : ¬(d2.is Reg.TRN.TELEM_BASE.SPACE = false ∧ (d2.basinUp = false ∨ d2.is Reg.BAS.STAT.THROTTLED = true ∨ waits = true))) :
    telemetryRecord waits d = telemPut (thrSync d1).telemBytes d2 := by
  have hno {p : Prop} (hp : p → d2.basinUp = false ∨ d2.is Reg.BAS.STAT.THROTTLED = true ∨ waits = true) :
      ¬((!d2.is Reg.TRN.TELEM_BASE.SPACE) = true ∧ p) := fun ⟨hb, hc⟩ => h ⟨by simpa using hb, hp hc⟩
  rw [telemetryRecord_due h1 ht h2, if_neg hroom, if_neg (hno .inl), if_neg (hno fun hc => .inr (.inl hc)),
    if_neg (hno fun hc => .inr (.inr hc))]

theorem telemetryRecord_lost
    (h : (d2.get Reg.TRN.TELEM_TAIL.INDEX + 1) % d2.telemSize = d2.get Reg.TRN.TELEM_HEAD.INDEX ∨
      (d2.is Reg.TRN.TELEM_BASE.SPACE = false ∧ d2.basinUp = false)) :
    telemetryRecord waits d = (d2.bump Reg.TRN.TELEM_LOST.COUNT 1).raise 0 Kind.TRN.TELEM_LOST := by
  rw [telemetryRecord_due h1 ht h2]
  split_ifs with hfull hdown
  · rfl
  · rfl
  all_goals exact absurd (h.resolve_left hfull) (by simpa using hdown)

theorem telemetryRecord_waits
    (hroom : ¬(d2.get Reg.TRN.TELEM_TAIL.INDEX + 1) % d2.telemSize = d2.get Reg.TRN.TELEM_HEAD.INDEX)
    (hb : d2.is Reg.TRN.TELEM_BASE.SPACE = false) (hu : d2.basinUp = true)
    (h : d2.is Reg.BAS.STAT.THROTTLED = true ∨ waits = true) :
    telemetryRecord waits d =
      if d2.is Reg.BAS.STAT.THROTTLED = true then c5Drop d2
      else { d2 with mem := { d2.mem with tel := { d2.mem.tel with
        held := some (d2.get Reg.TRN.TELEM_TAIL.INDEX, (thrSync d1).telemBytes) } } } := by
  rw [telemetryRecord_due h1 ht h2, if_neg hroom, if_neg (by simp [hu]), hb]
  by_cases hthr : d2.is Reg.BAS.STAT.THROTTLED = true
  · rw [if_pos ⟨rfl, hthr⟩, if_pos hthr]
  · rw [if_neg (by simp [hthr]), if_neg hthr, if_pos ⟨rfl, h.resolve_left hthr⟩]

end

/-! ### Wipes -/

theorem sameStores_wipedState (page : Nat) (d : Dev) : d.SameStores (wipedState page d) := by
  unfold wipedState
  dsimp only
  split_ifs <;> exact ⟨rfl, rfl, rfl⟩

/-- A register of a block other than the header's is not touched when its wipe ends. -/
theorem wipedState_get {page : Nat} {f : Fld} (d : Dev) (h : f.own = true) : (wipedState page d).get f = d.get f := by
  obtain ⟨h1, h2, h3⟩ := Fld.own_iff.mp h
  have hsoft : f.key ≠ (Reg.HDR.SOFT_RESET page).key :=
    key_ne_of_header (by simp [Reg.HDR.SOFT_RESET]) (by simp [Reg.HDR.SOFT_RESET]) h1 h2 h3
  have hstate : f.key ≠ (Reg.HDR.STATE page).key := key_ne_of_header (by simp [Reg.HDR.STATE]) (by simp [Reg.HDR.STATE]) h1 h2 h3
  unfold wipedState
  dsimp only
  split_ifs
  · rfl
  · exact (Dev.get_set_ne _ _ hstate).trans (Dev.get_set_ne _ _ hsoft)
  · exact (Dev.get_set_ne _ _ hstate).trans (Dev.get_set_ne _ _ hsoft)

/-- Basin emptied by its wipe, before its state and flags follow. -/
def basinEmptied (d : Dev) : Dev :=
  (({ d with basin := [], mem := { d.mem with ue := [], ce := [], wait := [] } }).put Reg.BAS.STAT.WIPING false).put
    (Reg.HDR.SOFT_RESET (pg .BAS 0)) false

/-- The end of a Basin wipe. -/
def basinWipeEnd (d : Dev) : Dev :=
  healthSync (((wipedState (pg .BAS 0) (basinEmptied d)).bringup Reg.SYS.BRINGUP.BASIN_READY true).ev .BAS 0 2)

theorem basinWiped_wiping {d : Dev} (hf : d.is Reg.SYS.BRINGUP.FUSES_READ = true) (hw : d.is Reg.BAS.STAT.WIPING = true) :
    basinWiped d = basinWipeEnd d := by
  rw [basinWiped, if_pos hf, basinWipeDone, if_neg (by simp [hw])]
  rfl

theorem basinWiped_not {d : Dev} (h : d.is Reg.SYS.BRINGUP.FUSES_READ = false ∨ d.is Reg.BAS.STAT.WIPING = false) :
    basinWiped d = d := by
  unfold basinWiped
  split_ifs with hf
  · exact if_pos (h.resolve_left (by simp [hf]))
  · rfl

theorem steady_wiping : Reg.BAS.STAT.WIPING.Steady := ⟨by decide, by decide, by decide, by decide⟩

theorem steady_basinReady : Reg.SYS.BRINGUP.BASIN_READY.Steady := ⟨by decide, by decide, by decide, by decide⟩

theorem steady_shallowsReady : Reg.SYS.BRINGUP.SHALLOWS_READY.Steady := ⟨by decide, by decide, by decide, by decide⟩

/-- What the end of a Basin wipe shows. -/
theorem basinWiped_shows (d : Dev) :
    (basinWipeEnd d).basin = [] ∧ (basinWipeEnd d).mem.ue = [] ∧ (basinWipeEnd d).mem.ce = [] ∧
      (basinWipeEnd d).is Reg.BAS.STAT.WIPING = false ∧ (basinWipeEnd d).is Reg.SYS.BRINGUP.BASIN_READY = true ∧
      (basinWipeEnd d).evRaw .BAS 0 2 = true := by
  have hstores : (basinEmptied d).SameStores (basinWipeEnd d) :=
    (sameStores_wipedState ..).trans ((Dev.sameStores_bringup ..).trans
      ((Dev.flagged_ev ..).sameStores.trans (Dev.sameStores_bringup ..)))
  obtain ⟨hbasin, -, hmem⟩ := hstores
  refine ⟨hbasin, by rw [hmem]; rfl, by rw [hmem]; rfl, ?_, ?_, ?_⟩
  · rw [Dev.is_eq, basinWipeEnd, healthSync, Dev.get_bringup_ne _ _ steady_wiping (by decide), (Dev.onlyRises_ev ..).1 _ steady_wiping,
      Dev.get_bringup_ne _ _ steady_wiping (by decide), wipedState_get _ (by decide), basinEmptied, Dev.put_eq,
      Dev.get_set_ne _ _ (by decide), ← Dev.is_eq, Dev.is_put_same _ _ rfl]
  · rw [Dev.is_eq, basinWipeEnd, healthSync, Dev.get_bringup_ne _ _ steady_basinReady (by decide),
      (Dev.onlyRises_ev ..).1 _ steady_basinReady, ← Dev.is_eq, Dev.is_bringup_same _ _ steady_basinReady rfl]
  · exact Dev.evRaw_bringup _ (by decide) (by decide) (Dev.evRaw_ev _ _ _ (by decide))

/-- Every slot of every port emptied. -/
def slotsEmptied (d : Dev) : Dev :=
  (List.range 64).foldl (fun d n =>
    d.setPipe n { d.pipe n with slots := (d.pipe n).slots.map fun s => (s.1, { s.2 with valid := 0 }) }) d

theorem sameStores_slotsEmptied (d : Dev) : d.SameStores (slotsEmptied d) :=
  List.foldlRecOn (motive := fun e => d.SameStores e) _ _ ⟨rfl, rfl, rfl⟩ fun _ he _ _ => he.trans ⟨rfl, rfl, rfl⟩

/-- Shallows emptied by its wipe, before its state and flag follow. -/
def shallowsEmptied (d : Dev) : Dev :=
  (slotsEmptied { d with shallows := [], mem := { d.mem with shlUe := [], shlWipe := false } }).put
    (Reg.HDR.SOFT_RESET (pg .SHL 0)) false

theorem sameStores_shallowsEmptied (d : Dev) :
    ({ d with shallows := [], mem := { d.mem with shlUe := [], shlWipe := false } } : Dev).SameStores (shallowsEmptied d) := by
  unfold shallowsEmptied
  exact (sameStores_slotsEmptied _).trans (Dev.sameStores_put ..)

theorem shallowsWipeDone_wiping {d : Dev} (h : d.mem.shlWipe = true) :
    shallowsWipeDone d = (wipedState (pg .SHL 0) (shallowsEmptied d)).bringup Reg.SYS.BRINGUP.SHALLOWS_READY true := by
  rw [shallowsWipeDone, if_neg (by simp [h])]
  rfl

theorem shallowsWiped_eq {d : Dev} (hf : d.is Reg.SYS.BRINGUP.FUSES_READ = true) :
    shallowsWiped d = if d.is Reg.SYS.BRINGUP.SHALLOWS_READY = false ∧
      (shallowsWipeDone d).is Reg.SYS.BRINGUP.SHALLOWS_READY = true ∧ (shallowsWipeDone d).sys.stopAtB3 = false then
        calB7 (shallowsWipeDone d) else shallowsWipeDone d := by
  rw [shallowsWiped, if_neg (by simp [hf])]
  simp only [Bool.not_eq_true']

/-- What the end of a Shallows wipe shows. -/
theorem shallowsWipeDone_shows {d : Dev} (h : d.mem.shlWipe = true) :
    (shallowsWipeDone d).shallows = [] ∧ (shallowsWipeDone d).mem.shlUe = [] ∧ (shallowsWipeDone d).mem.shlWipe = false ∧
      (shallowsWipeDone d).is Reg.SYS.BRINGUP.SHALLOWS_READY = true := by
  rw [shallowsWipeDone_wiping h]
  have hstores := (sameStores_shallowsEmptied d).trans ((sameStores_wipedState (pg .SHL 0) _).trans
    (Dev.sameStores_bringup _ Reg.SYS.BRINGUP.SHALLOWS_READY true))
  obtain ⟨-, hshallows, hmem⟩ := hstores
  exact ⟨hshallows, by rw [hmem], by rw [hmem], Dev.is_bringup_same _ _ steady_shallowsReady rfl⟩

/-- Settles O31. What a wipe forgets (notes/assumptions/36.md), SCRUB_LATE once in a pass (notes/assumptions/35.md), the bytes of
a telemetry record that the spec does not list (notes/assumptions/53.md) and that nothing changes where nothing is scrubbed,
recorded or wiped (notes/assumptions/56.md) are readings of the model. -/
theorem turnover : Obligations.Turnover := by
  refine ⟨fun s errs d0 d1 hs ht hu h0 h1 hend => ?_, fun s errs d0 d1 hs ht hu h0 h1 hend => ?_, fun s errs hs h => ?_,
    fun s t hs ht => ?_, fun s hs ht => ?_, fun s slice err d1 l hs hn ht hr hk h1 hl hall => ?_,
    fun s slice err took d1 d2 l hs hn ht hr hk h1 hl hall htook h2 => ?_, fun s slice err hs h => ?_,
    fun s waits d1 d2 hs h1 ht h2 hroom h => ?_, fun s waits d1 d2 hs h1 ht h2 h => ?_,
    fun s waits d1 d2 hs h1 ht h2 hroom hb hu h => ?_, fun s waits d1 hs h1 ht => ?_, fun s hs hf hw => ?_, fun s hs h => ?_,
    fun s d1 hs hf h1 => ?_, fun s hs hf hw hr => ?_, fun s hs hf => ?_⟩
  · subst h0 h1
    exact completes_of_exec (exec_basinScrubBurst hs errs) ((scrubBurst_runs ht hu).trans (if_neg hend))
  · subst h0 h1
    refine completes_of_exec (exec_basinScrubBurst hs errs) ?_
    rw [(scrubBurst_runs ht hu).trans (if_pos hend)]
    exact ⟨rfl, scrubPassEnd_anew _⟩
  · exact completes_of_exec (exec_basinScrubBurst hs errs) (if_pos h)
  · exact completes_of_exec (exec_scrubLate hs) (Dev.onTimer_some ht _)
  · exact completes_of_exec (exec_scrubLate hs) (Dev.onTimer_none ht _)
  · exact completes_of_exec (exec_shallowsScrubWord hs ..)
      ((scrubWord_runs hn ht hr hk h1 hl).trans (if_neg (mt allScrubbed_iff.mp hall)))
  · subst htook h2
    exact completes_of_exec (exec_shallowsScrubWord hs ..)
      ((scrubWord_runs hn ht hr hk h1 hl).trans (if_pos (allScrubbed_iff.mpr hall)))
  · exact completes_of_exec (exec_shallowsScrubWord hs ..) (if_pos h)
  · exact completes_of_exec (exec_telemetryRecord hs waits) (telemetryRecord_put h1 ht h2 hroom h)
  · exact completes_of_exec (exec_telemetryRecord hs waits) (telemetryRecord_lost h1 ht h2 h)
  · exact completes_of_exec (exec_telemetryRecord hs waits) (telemetryRecord_waits h1 ht h2 hroom hb hu h)
  · exact completes_of_exec (exec_telemetryRecord hs waits) (telemetryRecord_not h1 ht)
  · refine completes_of_exec (exec_basinWipeDone hs) ?_
    rw [basinWiped_wiping hf hw]
    exact ⟨rfl, basinWiped_shows s.dev⟩
  · exact completes_of_exec (exec_basinWipeDone hs) (basinWiped_not h)
  · subst h1
    exact completes_of_exec (exec_shallowsWipeDone hs) (shallowsWiped_eq hf)
  · refine completes_of_exec (exec_shallowsWipeDone hs) ?_
    rw [shallowsWiped_eq hf, if_neg (by simp [hr])]
    exact shallowsWipeDone_shows hw
  · exact completes_of_exec (exec_shallowsWipeDone hs) (if_pos hf)

end Sys2Proof.Machine
end

section
/-!
PROOF. The members of the ring and the census (O25). What reception leaves of the device, what a flag leaves of the ring's own
state, and how a sheet edge enters the FIFO of one plane.
-/
namespace Sys2Proof.Machine

/-! ### What reception leaves of the device -/

/-- `d'` differs from `d` only in the ring's own state, the free values drawn and what has been given to the outside. -/
def Dev.RingOnly (d d' : Dev) : Prop := ∃ e l f o, d' = { d with emr := e, emls := l, free := f, out := o }

theorem Dev.RingOnly.trans {a b c : Dev} (h : a.RingOnly b) (k : b.RingOnly c) : a.RingOnly c := by
  obtain ⟨_, _, _, _, rfl⟩ := h
  obtain ⟨e, l, f, o, rfl⟩ := k
  exact ⟨e, l, f, o, rfl⟩

theorem ringOnly_freeBuffer (l t : Nat) (d : Dev) : d.RingOnly (freeBuffer l t d) := by
  unfold freeBuffer
  dsimp only
  split_ifs <;> exact ⟨_, _, _, _, rfl⟩

theorem ringOnly_sendOn (d : Dev) (l : Nat) (c : Bytes) : d.RingOnly (d.sendOn l c) := by
  unfold Dev.sendOn
  dsimp only
  split_ifs <;> exact ⟨_, _, _, _, rfl⟩

theorem ringOnly_forwardCell (type : Nat) (c : CellIn) (d : Dev) : d.RingOnly (forwardCell type c d) :=
  .trans (b := d.drawn) ⟨_, _, _, _, rfl⟩ (ringOnly_sendOn ..)

theorem ringOnly_seenKey (type : Nat) (c : CellIn) (d : Dev) : d.RingOnly (seenKey type c d).2 := by
  unfold seenKey hopsOf
  dsimp only
  split_ifs <;> exact ⟨_, _, _, _, rfl⟩

theorem ringOnly_cellTaken (type : Nat) (c : CellIn) (d : Dev) : d.RingOnly (cellTaken type c d) := ringOnly_freeBuffer ..

theorem ringOnly_cellPassed (type : Nat) (c : CellIn) (d : Dev) : d.RingOnly (cellPassed type c d) :=
  (ringOnly_cellTaken type c d).trans ((ringOnly_forwardCell ..).trans (ringOnly_seenKey ..))

theorem Dev.RingOnly.get {d d' : Dev} (h : d.RingOnly d') (f : Fld) : d'.get f = d.get f := by
  obtain ⟨_, _, _, _, rfl⟩ := h
  rfl

theorem Dev.RingOnly.is {d d' : Dev} (h : d.RingOnly d') (f : Fld) : d'.is f = d.is f := by rw [Dev.is_eq, h.get, Dev.is_eq]

theorem Dev.RingOnly.time_eq {d d' : Dev} (h : d.RingOnly d') : d'.time = d.time := by
  obtain ⟨_, _, _, _, rfl⟩ := h
  rfl

theorem Dev.RingOnly.plane {d d' : Dev} (h : d.RingOnly d') (p : Nat) : d'.plane p = d.plane p := by
  obtain ⟨_, _, _, _, rfl⟩ := h
  rfl

theorem Dev.RingOnly.unwrapPos {d d' : Dev} (h : d.RingOnly d') (x : Nat) : d'.unwrapPos x = d.unwrapPos x := by
  obtain ⟨_, _, _, _, rfl⟩ := h
  rfl

theorem Dev.RingOnly.following {d d' : Dev} (h : d.RingOnly d') : d'.following = d.following := by
  rw [Dev.following, h.is, h.get, h.get, Dev.following]

/-- The ring's state once a broadcast has been passed on. -/
theorem cellPassed_emr (type : Nat) (c : CellIn) {d : Dev} (h : d.emr.seen.contains (c.src, type, c.seq) = false) :
    (cellPassed type c d).emr =
      (keyNoted type c (hopsNoted type c (forwardCell type c (cellTaken type c d)))).emr := by
  rw [cellPassed, seenKey_new (by rwa [seen_forwarded])]

theorem emr_forwarded (type : Nat) (c : CellIn) (d : Dev) : (forwardCell type c (cellTaken type c d)).emr = d.emr := by
  rw [forwardCell_emr, cellTaken, freeBuffer_emr]

/-! ### What a flag leaves of the ring's state -/

/-- Of the ring's own state only the numbers of its next cells differ. -/
def Dev.OnlySeqs (d d' : Dev) : Prop := ∃ q, d'.emr = { d.emr with seqs := q }

namespace Dev.OnlySeqs

variable {a b c d d' : Dev}

theorem of_emr (h : d'.emr = d.emr) : d.OnlySeqs d' := ⟨d.emr.seqs, h⟩

theorem trans (h : a.OnlySeqs b) (k : b.OnlySeqs c) : a.OnlySeqs c := by
  obtain ⟨_, hb⟩ := h
  obtain ⟨q, hc⟩ := k
  exact ⟨q, by rw [hc, hb]⟩

theorem foldl {α : Type} {f : Dev → α → Dev} (h : ∀ d x, Dev.OnlySeqs d (f d x)) (l : List α) (d : Dev) :
    d.OnlySeqs (l.foldl f d) :=
  List.foldlRecOn (motive := fun e => d.OnlySeqs e) l f (.of_emr rfl) fun _ he x _ => he.trans (h _ x)

theorem members (h : d.OnlySeqs d') (a : Nat) : d'.member a = d.member a := by
  obtain ⟨_, h⟩ := h
  rw [Dev.member, h, Dev.member]

theorem leaves (h : d.OnlySeqs d') : d'.emr.leaves = d.emr.leaves := by
  obtain ⟨_, h⟩ := h
  rw [h]

theorem rxBulk (h : d.OnlySeqs d') : d'.emr.rxBulk = d.emr.rxBulk := by
  obtain ⟨_, h⟩ := h
  rw [h]

end Dev.OnlySeqs

namespace Dev

theorem onlySeqs_sendOn (d : Dev) (l : Nat) (c : Bytes) : d.OnlySeqs (d.sendOn l c) := .of_emr (sendOn_emr ..)

theorem onlySeqs_broadcast (d : Dev) (t : Nat) (p : Bytes) : d.OnlySeqs (d.broadcast t p) := by
  unfold broadcast
  dsimp only
  split_ifs
  · exact .trans (b := (d.nextSeq (cellClass t)).2) ⟨_, rfl⟩ ((onlySeqs_sendOn ..).trans (onlySeqs_sendOn ..))
  · exact .of_emr rfl

theorem onlySeqs_unicast (d : Dev) (l t dest : Nat) (p : Bytes) : d.OnlySeqs (d.unicast l t dest p).2 := by
  unfold unicast
  dsimp only
  split_ifs
  · exact .trans (b := (d.nextSeq (cellClass t)).2) ⟨_, rfl⟩ (onlySeqs_sendOn ..)
  · exact .of_emr rfl

theorem onlySeqs_forwardEvent (d : Dev) (s : Nat) : d.OnlySeqs (d.forwardEvent s) := by
  refine .foldl (fun d i => ?_) _ d
  split_ifs
  · exact onlySeqs_broadcast ..
  · exact .of_emr rfl

theorem sedOffer_emr (d : Dev) (r : SedRec) : (d.sedOffer r).emr = d.emr := by
  unfold sedOffer
  split_ifs <;> rfl

theorem post_emr (d : Dev) (n : Nat) (k : FKind) (sev : Nat) (a : FArg) : (d.post n k sev a).emr = d.emr := by
  unfold post fltLocal
  dsimp only
  split_ifs <;> rfl

theorem onlySeqs_riseRecord (d : Dev) (s : Nat) : d.OnlySeqs (d.riseRecord s) := by
  unfold riseRecord
  dsimp only
  split_ifs
  · exact .trans (.of_emr ((post_emr ..).trans (sedOffer_emr ..))) (onlySeqs_forwardEvent ..)
  · exact .of_emr ((post_emr ..).trans (sedOffer_emr ..))
  · exact .of_emr (sedOffer_emr ..)

theorem onlySeqs_onRise (d : Dev) (s : Nat) : d.OnlySeqs (d.onRise s) := by
  unfold onRise
  split_ifs
  · exact (onlySeqs_riseRecord ..).trans (onlySeqs_forwardEvent ..)
  · exact onlySeqs_forwardEvent ..

theorem onlySeqs_ev (d : Dev) (b : Blk) (n bit : Nat) : d.OnlySeqs (d.ev b n bit) := by
  have hset : d.OnlySeqs (d.setBit (Reg.HDR.EV_RAW (pg b n)) bit) := .of_emr rfl
  unfold ev rising
  split
  · exact hset
  · split_ifs
    · exact hset.trans (onlySeqs_onRise ..)
    · exact hset

theorem onlySeqs_raise (d : Dev) (n : Nat) (k : FKind) (a : FArg) : d.OnlySeqs (d.raise n k a) :=
  (onlySeqs_ev d k.blk n k.bit).trans (.of_emr (post_emr ..))

theorem Flagged.time_eq {d d' : Dev} (h : d.Flagged d') : d'.time = d.time := by
  obtain ⟨⟨_, _, _, _, _, _, rfl⟩, -⟩ := h
  rfl

end Dev

theorem Dev.member_setMember_same (d : Dev) (a : Nat) (m : Member) : (d.setMember a m).member a = m := tget_tset_same ..

/-! ### JOIN, LEAVE and STATUS -/

/-- The device once it has noted a JOIN. -/
def joinNoted (c : CellIn) (d : Dev) : Dev :=
  let d := d.setMember (c.src % 64) { d.member (c.src % 64) with role := byteAt c.payload 0, prio := byteAt c.payload 1 }
  { d with emr := { d.emr with joins := setB d.emr.joins (c.src % 64), leaves := clrB d.emr.leaves (c.src % 64) } }

theorem joinCell_eq (c : CellIn) (d : Dev) :
    joinCell c d = if d.ringRole = 2 then (joinNoted c d).arm (.member (c.src % 64)) (3 * ms) else joinNoted c d := rfl

theorem joinNoted_member (c : CellIn) (d : Dev) :
    (joinNoted c d).member (c.src % 64) = { d.member (c.src % 64) with role := byteAt c.payload 0, prio := byteAt c.payload 1 } :=
  Dev.member_setMember_same ..

theorem joinCell_member (c : CellIn) (d : Dev) :
    (joinCell c d).member (c.src % 64) = { d.member (c.src % 64) with role := byteAt c.payload 0, prio := byteAt c.payload 1 } := by
  rw [joinCell_eq]
  split_ifs <;> exact joinNoted_member c d

theorem joinCell_manager {c : CellIn} {d : Dev} (h : d.ringRole = 2) :
    (joinCell c d).emr.joins.testBit (c.src % 64) = true ∧ (joinCell c d).running (.member (c.src % 64)) = true := by
  rw [joinCell_eq, if_pos h]
  refine ⟨?_, Dev.running_arm_same ..⟩
  change (setB d.emr.joins (c.src % 64)).testBit (c.src % 64) = true
  rw [testBit_setB, decide_eq_true rfl, Bool.or_true]

/-- A member that leaves, at the manager. -/
def memberGone (c : CellIn) (d : Dev) : Dev :=
  ({ d with emr := { d.emr with leaves := setB d.emr.leaves (c.src % 64), joins := clrB d.emr.joins (c.src % 64) } } : Dev).disarm
    (.member (c.src % 64))

theorem leaveCell_manager {c : CellIn} {d : Dev} (h : d.ringRole = 2) : leaveCell c d = (memberGone c d).ev .EMR 0 2 := if_pos h

theorem leaveCell_shows {c : CellIn} {d : Dev} (h : d.ringRole = 2) :
    (leaveCell c d).emr.leaves.testBit (c.src % 64) = true ∧ (leaveCell c d).running (.member (c.src % 64)) = false ∧
      (leaveCell c d).evRaw .EMR 0 2 = true := by
  have hgone : (memberGone c d).due (.member (c.src % 64)) = none := Dev.due_disarm_same ..
  rw [leaveCell_manager h]
  refine ⟨?_, ?_, Dev.evRaw_ev _ _ _ (by decide)⟩
  · rw [(Dev.onlySeqs_ev ..).leaves]
    change (setB d.emr.leaves (c.src % 64)).testBit (c.src % 64) = true
    rw [testBit_setB, decide_eq_true rfl, Bool.or_true]
  · rw [Dev.running, Dev.due, (Dev.flagged_ev ..).time_eq, ← Dev.due, hgone]
    rfl

theorem statusCell_member (c : CellIn) (d : Dev) :
    (statusCell c d).member (c.src % 64) = { d.member (c.src % 64) with
      ready := (byteAt c.payload 2).testBit 0, east := (byteAt c.payload 2).testBit 1, west := (byteAt c.payload 2).testBit 2 } := by
  unfold statusCell
  dsimp only
  split_ifs <;> exact Dev.member_setMember_same ..

/-- The manager awaits the next STATUS of a member of its census. -/
theorem statusCell_due {c : CellIn} {d : Dev} (h : d.ringRole = 2)
    (hm : bit (d.get Reg.EMR.CENSUS.MAP ||| d.emr.joins) (c.src % 64) = true) :
    (statusCell c d).due (.member (c.src % 64)) = some (d.time.up + 3 * ms) := by
  refine Eq.trans (congrArg (fun e : Dev => e.due (.member (c.src % 64))) (if_pos ⟨h, hm⟩)) ?_
  exact Dev.due_arm_same ..

/-- The hops that a STATUS gives, by the side it came from. -/
theorem hopsNoted_member (c : CellIn) (d : Dev) :
    (hopsNoted 0x23 c d).member (c.src % 64) = if c.link % 2 = 0 then
      { d.member (c.src % 64) with hopsE := min 0xFE (c.hops + 1) } else { d.member (c.src % 64) with hopsW := min 0xFE (c.hops + 1) } :=
  Dev.member_setMember_same ..

theorem cellPassed_member {c : CellIn} {d : Dev} (h : d.emr.seen.contains (c.src, 0x23, c.seq) = false) :
    (cellPassed 0x23 c d).member (c.src % 64) = if c.link % 2 = 0 then
      { d.member (c.src % 64) with hopsE := min 0xFE (c.hops + 1) } else { d.member (c.src % 64) with hopsW := min 0xFE (c.hops + 1) } := by
  have hold : (forwardCell 0x23 c (cellTaken 0x23 c d)).member (c.src % 64) = d.member (c.src % 64) := by
    rw [Dev.member, emr_forwarded, Dev.member]
  rw [Dev.member, cellPassed_emr _ _ h]
  refine Eq.trans (hopsNoted_member ..) ?_
  rw [hold]

theorem cellPassed_joins {c : CellIn} {d : Dev} (h : d.emr.seen.contains (c.src, 0x23, c.seq) = false) :
    (cellPassed 0x23 c d).emr.joins = d.emr.joins := by
  rw [cellPassed_emr _ _ h]
  change (forwardCell 0x23 c (cellTaken 0x23 c d)).emr.joins = d.emr.joins
  exact congrArg Emr.joins (emr_forwarded 0x23 c d)

/-! ### Timers of the members and of the census -/

/-- A member whose STATUS has been missing, at the manager. -/
def memberMissing (a : Nat) (d : Dev) : Dev :=
  let d := d.setMember a { d.member a with ready := false, hopsE := 0xFF, hopsW := 0xFF }
  { d with emr := { d.emr with leaves := setB d.emr.leaves a } }

/-- Such a member lost. -/
def memberLost (a : Nat) (d : Dev) : Dev := (memberMissing a d).raise 0 Kind.EMR.MEMBER_LOST { arg := a }

theorem memberTimeout_due {a t : Nat} {d : Dev} (ht : d.due (.member a) = some t) :
    memberTimeout a d =
      if d.ringRole ≠ 2 then (d.advanceTo t).disarm (.member a)
      else memberLost a ((d.advanceTo t).disarm (.member a)) := Dev.onTimer_some ht _

theorem memberLost_shows {a : Nat} {d : Dev} (h : d.due (.member a) = none) :
    ((memberLost a d).member a).ready = false ∧ (memberLost a d).running (.member a) = false ∧
      (memberLost a d).evRaw .EMR 0 Kind.EMR.MEMBER_LOST.bit = true ∧ ((memberLost a d).member a).hopsE = 0xFF ∧
        ((memberLost a d).member a).hopsW = 0xFF := by
  have hmember : (memberLost a d).member a = { d.member a with ready := false, hopsE := 0xFF, hopsW := 0xFF } :=
    (Dev.onlySeqs_raise ..).members a |>.trans (Dev.member_setMember_same ..)
  have hdue : (memberLost a d).due (.member a) = none := by
    rw [Dev.due, memberLost, (Dev.flagged_raise ..).time_eq]
    exact h
  rw [hmember, Dev.running, hdue]
  exact ⟨rfl, rfl, Dev.evRaw_raise _ 0 Kind.EMR.MEMBER_LOST _ (by decide), rfl, rfl⟩

theorem censusWaitEnd_due {t : Nat} {d : Dev} (ht : d.due .censusWait = some t) :
    censusWaitEnd d = if d.ringRole = 2 ∧ d.get Reg.EMR.CFG.EXPECT = 0 then censusDone ((d.advanceTo t).disarm .censusWait)
      else (d.advanceTo t).disarm .censusWait := Dev.onTimer_some ht _

theorem censusDone_again {d : Dev} (h : d.is Reg.EMR.RING_STAT.CENSUS_DONE = true) : censusDone d = d := if_pos h

theorem steady_censusDone : Reg.EMR.RING_STAT.CENSUS_DONE.Steady := ⟨by decide, by decide, by decide, by decide⟩

theorem steady_ringDone : Reg.SYS.BRINGUP.RING_DONE.Steady := ⟨by decide, by decide, by decide, by decide⟩

theorem censusDone_shows {d : Dev} (h : d.is Reg.EMR.RING_STAT.CENSUS_DONE = false) :
    (censusDone d).is Reg.EMR.RING_STAT.CENSUS_DONE = true ∧ (censusDone d).is Reg.SYS.BRINGUP.RING_DONE = true ∧
      (censusDone d).evRaw .EMR 0 3 = true := by
  rw [censusDone, if_neg (by simp [h])]
  refine ⟨?_, Dev.is_bringup_same _ _ steady_ringDone rfl, Dev.evRaw_bringup _ (by decide) (by decide) (Dev.evRaw_ev _ _ _ (by decide))⟩
  rw [Dev.is_eq, Dev.get_bringup_ne _ _ steady_censusDone (by decide), (Dev.onlyRises_ev ..).1 _ steady_censusDone, ← Dev.is_eq,
    Dev.is_put_same _ _ rfl]

theorem statusTimer_joined {d : Dev} (h : d.emr.joined = true) :
    statusTimer d = statusSend ((d.advanceTo ((d.due .status).getD d.time.up)).arm .status ms) := if_pos h

theorem running_statusSend {d : Dev} (h : d.running .status = true) : (statusSend d).running .status = true := by
  rwa [Dev.running, Dev.due, statusSend, (Dev.flagged_broadcast ..).time_eq]

/-! ### Sheet edges -/

theorem Dev.Flagged.prt_eq {d d' : Dev} (h : d.Flagged d') : d'.prt = d.prt := by
  obtain ⟨⟨_, _, _, _, _, _, rfl⟩, -⟩ := h
  rfl

/-- The queue of a plane, and whether it is enabled, are as before. -/
def Dev.PlaneKept (p : Nat) (d d' : Dev) : Prop :=
  d'.plane p = d.plane p ∧ d'.is (Reg.PRT.Q_CTRL.ENABLE p) = d.is (Reg.PRT.Q_CTRL.ENABLE p)

namespace Dev.PlaneKept

variable {p q : Nat} {a b d d' : Dev}

theorem refl (p : Nat) (d : Dev) : d.PlaneKept p d := ⟨rfl, rfl⟩

theorem trans (h : a.PlaneKept p b) (k : b.PlaneKept p d) : a.PlaneKept p d := ⟨k.1.trans h.1, k.2.trans h.2⟩

theorem foldl {α : Type} {f : Dev → α → Dev} {l : List α} (h : ∀ x ∈ l, ∀ d, Dev.PlaneKept p d (f d x)) (d : Dev) :
    d.PlaneKept p (l.foldl f d) :=
  List.foldlRecOn (motive := fun e => d.PlaneKept p e) l f (.refl p d) fun e he x hx => he.trans (h x hx e)

theorem calm_enable : ∀ p < 16, (Reg.PRT.Q_CTRL.ENABLE p).calm = true := by decide

theorem raise (hp : p < 16) (d : Dev) (n : Nat) (k : FKind) (x : FArg) : d.PlaneKept p (d.raise n k x) := by
  refine ⟨by rw [Dev.plane, (d.flagged_raise n k x).prt_eq, Dev.plane], ?_⟩
  rw [Dev.is_eq, (d.onlyRises_raise n k x).1 _ (Fld.steady_of_calm (by simp [Reg.PRT.Q_CTRL.ENABLE]) (calm_enable p hp)), Dev.is_eq]

theorem missed (p q : Nat) (d : Dev) : d.PlaneKept p (d.bump (Reg.PRT.Q_MISSED.COUNT q) 1) := by
  refine ⟨rfl, congrArg (· != 0) (d.get_set_ne _ ?_)⟩
  simp only [Fld.key, Reg.PRT.Q_CTRL.ENABLE, Reg.PRT.Q_MISSED.COUNT]
  omega

theorem setPlane (h : p ≠ q) (d : Dev) (x : Plane) : d.PlaneKept p (d.setPlane q x) := ⟨tget_tset_ne _ _ _ h _, rfl⟩

theorem takeEdge (hp : p < 16) (q : Nat) (start : Int) (l : List Int) (d : Dev) : d.PlaneKept p (takeEdge q start l d).2.2 := by
  induction l generalizing d with
  | nil => exact .refl p d
  | cons x l ih =>
    unfold Machine.takeEdge
    split
    · exact .refl p d
    · exact (missed p q d).trans ((raise hp ..).trans (ih _))

theorem startPos (hp : p < 16) (h : p ≠ q) (ahead : List Job) (j : Job) (d : Dev) : d.PlaneKept p (startPos q ahead j d).2 := by
  unfold Machine.startPos
  extract_lets x r e
  split
  · exact .refl p d
  · split
    · exact (takeEdge hp ..).trans (setPlane h ..)
    · exact .refl p d

theorem settleStarts (hp : p < 16) (h : p ≠ q) (d : Dev) : d.PlaneKept p (settleStarts q d) := by
  refine .foldl (fun j _ d => ?_) d
  split_ifs
  · exact .refl p d
  · exact (startPos hp h ..).trans (setPlane h ..)

end Dev.PlaneKept

/-- An edge at one plane. -/
def edgeInto (x : Int) (d : Dev) (p : Nat) : Dev :=
  if d.is (Reg.PRT.Q_CTRL.ENABLE p) then
    let q := d.plane p
    if 8 ≤ q.edges.length then d.raise 0 Kind.PRT.SHEET_EDGE_OVERRUN { arg := p }
    else settleStarts p (d.setPlane p { q with edges := q.edges ++ [x] })
  else d

theorem pushEdge_eq (x : Int) (d : Dev) : pushEdge x d = (List.range 16).foldl (edgeInto x) d := rfl

theorem planeKept_edgeInto {p q : Nat} (hp : p < 16) (h : p ≠ q) (x : Int) (d : Dev) : d.PlaneKept p (edgeInto x d q) := by
  unfold edgeInto
  dsimp only
  split_ifs
  · exact .raise hp ..
  · exact (Dev.PlaneKept.setPlane h ..).trans (.settleStarts hp h _)
  · exact .refl p d

/-- At an enabled plane without jobs whose FIFO has room the edge waits. -/
theorem edgeInto_plane {x : Int} {d : Dev} {p : Nat} (he : d.is (Reg.PRT.Q_CTRL.ENABLE p) = true)
    (hl : (d.plane p).edges.length < 8) (hj : (d.plane p).jobs = []) :
    (edgeInto x d p).plane p = { d.plane p with edges := (d.plane p).edges ++ [x] } := by
  have hplane : (d.setPlane p { d.plane p with edges := (d.plane p).edges ++ [x] }).plane p =
      { d.plane p with edges := (d.plane p).edges ++ [x] } := tget_tset_same ..
  have hjobs : ((d.setPlane p { d.plane p with edges := (d.plane p).edges ++ [x] }).plane p).jobs = [] := by rw [hplane, hj]
  rw [edgeInto, if_pos he]
  refine Eq.trans (congrArg (fun e : Dev => e.plane p) (if_neg (Nat.not_le.mpr hl))) ?_
  rw [settleStarts, hjobs]
  exact hplane

theorem pushEdge_plane {x : Int} {d : Dev} {p : Nat} (hp : p < 16) (he : d.is (Reg.PRT.Q_CTRL.ENABLE p) = true)
    (hl : (d.plane p).edges.length < 8) (hj : (d.plane p).jobs = []) :
    ((pushEdge x d).plane p).edges = (d.plane p).edges ++ [x] := by
  obtain ⟨l, r, hlr⟩ := List.append_of_mem (List.mem_range.mpr hp)
  have hnd : (l ++ p :: r).Nodup := hlr ▸ List.nodup_range
  rw [List.nodup_append, List.nodup_cons] at hnd
  obtain ⟨-, ⟨hr, -⟩, hdisj⟩ := hnd
  obtain ⟨hplane, hen⟩ : d.PlaneKept p (l.foldl (edgeInto x) d) :=
    .foldl (fun q hq e => planeKept_edgeInto hp (fun h => hdisj q hq p List.mem_cons_self h.symm) x e) d
  have hrest (e : Dev) : e.PlaneKept p (r.foldl (edgeInto x) e) :=
    .foldl (fun q hq e => planeKept_edgeInto hp (fun h => hr (h ▸ hq)) x e) e
  rw [pushEdge_eq, hlr, List.foldl_append, List.foldl_cons, (hrest _).1, edgeInto_plane (hen.trans he) (by rwa [hplane]) (by rwa [hplane]),
    hplane]

theorem hearManager_same {src epoch : Nat} {d : Dev} (h : d.following = some (src, epoch)) : hearManager src epoch d = (true, d) := by
  rw [hearManager, h]
  exact if_pos rfl

theorem sheetEdgeCell_taken {c : CellIn} {d : Dev} (hf : d.following = some (c.src, leAt c.payload 18 2)) (hr : d.ringRole ≠ 2)
    (hs : d.get Reg.TRG.SRC_SEL.SEL = 4) (hm : d.mode = 3) :
    sheetEdgeCell c d = pushEdge (d.unwrapPos (leAt c.payload 6 6)) d := by
  rw [sheetEdgeCell, hearManager_same hf]
  exact if_pos ⟨rfl, hr, hs, hm⟩

/-! ### The statement -/

/-- Settles O25. The census, a JOIN before there is a manager and what STATUS leaves (notes/assumptions/32.md), and that nothing
changes where a timer does not run (notes/assumptions/56.md), are readings of the model. -/
theorem ringMembers : Obligations.RingMembers := by
  refine ⟨fun s c dt hs h => ?_, fun s c dt hs h hr => ?_, fun s hs hj => ?_, fun s c dt hs h => ?_, fun s a t hs ht hr => ?_,
    fun s t hs ht hr hx hc => ?_, fun s c dt p hs h hr hf hsel hm hp he hl hj => ?_, fun s hs hj => ?_, fun s t hs ht h => ?_,
    fun s c dt hs h => ?_, fun s c dt hs h => ?_, fun s c dt hs h => ?_, fun s c dt hs h => ?_, fun s a t hs ht hr => ?_,
    fun s a t hs ht hr => ?_, fun s a hs ht => ?_, fun s hs ht => ?_⟩
  · refine completes_of_exec (exec_join hs c dt) ?_
    rw [receive_heard (d := s.dev.advance dt) _ h, joinCell_member]
    exact ⟨rfl, rfl, fun hr => joinCell_manager (((ringOnly_cellPassed ..).get _).trans hr)⟩
  · refine completes_of_exec (exec_leave hs c dt) ?_
    rw [receive_heard (d := s.dev.advance dt) _ h]
    exact leaveCell_shows (((ringOnly_cellPassed ..).get _).trans hr)
  · refine completes_of_exec (exec_statusTimer hs) ?_
    rw [statusTimer_joined hj]
    exact ⟨rfl, running_statusSend (Dev.running_arm_same ..)⟩
  · have hnew : (s.dev.advance dt).emr.seen.contains (c.src, 0x23, c.seq) = false := h.2.2.2.2
    refine completes_of_exec (exec_statusCell hs c dt) ?_
    rw [receive_heard (d := s.dev.advance dt) _ h, statusCell_member, cellPassed_member hnew]
    refine ⟨rfl, fun hr hm => ?_, ?_⟩
    · rw [statusCell_due (d := cellPassed 0x23 c (s.dev.advance dt)) (((ringOnly_cellPassed ..).get _).trans hr) (by
        rwa [(ringOnly_cellPassed ..).get, cellPassed_joins hnew]), (ringOnly_cellPassed ..).time_eq]
      rfl
    · split_ifs
      · exact ⟨rfl, rfl⟩
      · exact ⟨rfl, rfl⟩
  · refine completes_of_exec (exec_memberTimeout hs a) ?_
    rw [memberTimeout_due ht, if_neg (not_not.mpr hr)]
    exact memberLost_shows (Dev.due_disarm_same ..)
  · refine completes_of_exec (exec_censusWaitEnd hs) ?_
    rw [censusWaitEnd_due ht, if_pos ⟨hr, hx⟩]
    exact ⟨rfl, censusDone_shows hc⟩
  · have hring := ringOnly_cellPassed 0x13 c (s.dev.advance dt)
    refine completes_of_exec (exec_sheetEdgeCell hs c dt) ?_
    rw [receive_heard (d := s.dev.advance dt) _ h, sheetEdgeCell_taken (hring.following.trans hf)
      (fun hmgr => hr ((hring.get _).symm.trans hmgr)) ((hring.get _).trans hsel) ((hring.get _).trans hm),
      pushEdge_plane hp ((hring.is _).trans he) (by rw [hring.plane]; exact hl) (by rw [hring.plane]; exact hj), hring.plane,
      hring.unwrapPos]
    rfl
  · exact completes_of_exec (exec_statusTimer hs) (if_neg (by simp [hj]))
  · refine completes_of_exec (exec_censusWaitEnd hs) ((censusWaitEnd_due ht).trans ?_)
    split_ifs with hcond
    · exact censusDone_again ((h.resolve_left (not_not.mpr hcond.1)).resolve_left (not_not.mpr hcond.2))
    · rfl
  · exact completes_of_exec (exec_join hs c dt) (receive_heard (d := s.dev.advance dt) _ h)
  · exact completes_of_exec (exec_leave hs c dt) (receive_heard (d := s.dev.advance dt) _ h)
  · exact completes_of_exec (exec_statusCell hs c dt) (receive_heard (d := s.dev.advance dt) _ h)
  · exact completes_of_exec (exec_sheetEdgeCell hs c dt) (receive_heard (d := s.dev.advance dt) _ h)
  · exact completes_of_exec (exec_memberTimeout hs a) ((memberTimeout_due ht).trans (if_neg (not_not.mpr hr)))
  · exact completes_of_exec (exec_memberTimeout hs a) ((memberTimeout_due ht).trans (if_pos hr))
  · exact completes_of_exec (exec_memberTimeout hs a) (Dev.onTimer_none ht _)
  · exact completes_of_exec (exec_censusWaitEnd hs) (Dev.onTimer_none ht _)

end Sys2Proof.Machine
end

section
/-!
PROOF. Commands over the ring, bulk data, and the faults and events of other members (O26).
-/
namespace Sys2Proof.Machine

/-! ### Host writes of registers that neither pair nor guard a field -/

/-- A host write of a register whose fields are read-write or write-only: the fields take their values, and the block acts. -/
theorem hostWrite_fields {u : Fuses} {addr v : Nat} {d : Dev} {b : Blk} {n off : Nat} {fs : List Fld}
    (hp : Blk.ofPage (addr / 4096) = some (b, n)) (ho : d.pageOff (addr / 4096) = false) (hoff : addr % 4096 / 4 * 4 = off)
    (h1 : 0x40 ≤ off) (h2 : off < 0xF00) (hb : b ≠ .EVT ∧ b ≠ .TRG ∧ b ≠ .ENC) (hfs : b.fieldsAt n off = fs)
    (ha : ∀ f ∈ fs, f.pair = false ∧ (f.acc = .wo ∨ f.acc = .rw)) :
    hostWrite u addr v d = instanceActs b n off (v % 2 ^ 32) true d
      (blockActs u Party.host b off (v % 2 ^ 32) { raw := v % 2 ^ 32, whole := some (v % 2 ^ 32) } true d
        (fs.foldl (fieldWrite n b { raw := v % 2 ^ 32, whole := some (v % 2 ^ 32) }) d)) := by
  obtain ⟨he, ht, hc⟩ := hb
  subst hoff hfs
  have hlo : isLo (b.fieldsAt n (addr % 4096 / 4 * 4)) (addr % 4096 / 4 * 4) = false :=
    List.any_eq_false.mpr fun f hf => by simp [(ha f hf).1]
  have hhi : isHi (b.fieldsAt n (addr % 4096 / 4 * 4)) (addr % 4096 / 4 * 4) = false :=
    List.any_eq_false.mpr fun f hf => by simp [(ha f hf).1]
  have hfree (f : Fld) (hf : f ∈ b.fieldsAt n (addr % 4096 / 4 * 4)) : d.guarded (pg b n) f = false := by
    obtain ⟨-, h | h⟩ := ha f hf <;> simp [Dev.guarded, h]
  rw [hostWrite, busWrite_own hp ho h1 h2 he, blockWrite_single ht hlo hhi, fieldsWrite_ok (Dev.denied_nil _) hc]
  exact List.all_eq_true.mpr fun f hf => by rw [hfree f hf]; rfl

/-! ### RCMD and BULK_CMD -/

/-- The word that RCMD_GO writes. -/
def rcmdWord (write : Bool) (dst : Nat) : Nat := 0x80000000 + b2n write * 0x40000000 + dst

theorem rcmdWord_bits {dst : Nat} (h : dst < 64) (write : Bool) :
    rcmdWord write dst < 2 ^ 32 ∧ bits (rcmdWord write dst) 30 30 = b2n write ∧ bits (rcmdWord write dst) 5 0 = dst ∧
      bit (rcmdWord write dst) 31 = true := by
  have hb : b2n write ≤ 1 := by cases write <;> decide
  simp only [rcmdWord, bits, bit, Nat.testBit_eq_decide_div_mod_eq, decide_eq_true_eq, Nat.reduceAdd, Nat.reduceSub]
  omega

theorem hostWrite_rcmdGo (u : Fuses) {v : Nat} {d : Dev} (hv : v < 2 ^ 32) (hgo : bit v 31 = true) (ho : d.pageOff 0xA0 = false) :
    hostWrite u 0xA0080 v d = rcmdGo ((d.set Reg.EMR.RCMD.WRITE (bits v 30 30)).set Reg.EMR.RCMD.DEST (bits v 5 0)) := by
  rw [hostWrite_fields (b := .EMR) (n := 0) (off := 0x80) (fs := [Reg.EMR.RCMD.GO, Reg.EMR.RCMD.WRITE, Reg.EMR.RCMD.DEST])
    (by decide) ho rfl (by decide) (by decide) (by decide) rfl (by decide), Nat.mod_eq_of_lt hv]
  exact if_pos ⟨rfl, hgo⟩

theorem hostWrite_rcmd (u : Fuses) {dst : Nat} (write : Bool) {d : Dev} (h : dst < 64) (ho : d.pageOff 0xA0 = false) :
    hostWrite u 0xA0080 (rcmdWord write dst) d = rcmdGo ((d.set Reg.EMR.RCMD.WRITE (b2n write)).set Reg.EMR.RCMD.DEST dst) := by
  obtain ⟨hlt, hw, hdst, hgo⟩ := rcmdWord_bits h write
  rw [hostWrite_rcmdGo u hlt hgo ho, hw, hdst]

/-- The word that BULK_CMD_GO writes. -/
theorem bulkWord_bits {dst : Nat} (h : dst < 64) :
    0x80000000 + dst < 2 ^ 32 ∧ bits (0x80000000 + dst) 5 0 = dst ∧ bit (0x80000000 + dst) 31 = true := by
  simp only [bits, bit, Nat.testBit_eq_decide_div_mod_eq, decide_eq_true_eq, Nat.reduceAdd, Nat.reduceSub]
  omega

theorem hostWrite_bulkGo (u : Fuses) {v : Nat} {d : Dev} (hv : v < 2 ^ 32) (hgo : bit v 31 = true) (ho : d.pageOff 0xA0 = false) :
    hostWrite u 0xA00C0 v d = bulkGo (d.set Reg.EMR.BULK_CMD.DEST (bits v 5 0)) := by
  rw [hostWrite_fields (b := .EMR) (n := 0) (off := 0xC0) (fs := [Reg.EMR.BULK_CMD.GO, Reg.EMR.BULK_CMD.DEST])
    (by decide) ho rfl (by decide) (by decide) (by decide) rfl (by decide), Nat.mod_eq_of_lt hv]
  exact if_pos ⟨rfl, hgo⟩

theorem hostWrite_bulkCmd (u : Fuses) {dst : Nat} {d : Dev} (h : dst < 64) (ho : d.pageOff 0xA0 = false) :
    hostWrite u 0xA00C0 (0x80000000 + dst) d = bulkGo (d.set Reg.EMR.BULK_CMD.DEST dst) := by
  obtain ⟨hlt, hdst, hgo⟩ := bulkWord_bits h
  rw [hostWrite_bulkGo u hlt hgo ho, hdst]

/-! ### Commands sent -/

theorem Dev.unicast_regs (d : Dev) (l type dest : Nat) (p : Bytes) : (d.unicast l type dest p).2.regs = d.regs := by
  unfold Dev.unicast
  dsimp only
  split_ifs
  · exact Dev.sendOn_regs ..
  · rfl

theorem Dev.command_regs (d : Dev) (dest op : Nat) (args : Bytes) (bulk read : Bool) :
    (d.command dest op args bulk read).regs = d.regs := Dev.unicast_regs ..

theorem ackCmd_regs (c : CellIn) (result data : Nat) (d : Dev) : (ackCmd c result data d).regs = d.regs := Dev.unicast_regs ..

theorem onlySeqs_ackCmd (c : CellIn) (result data : Nat) (d : Dev) : d.OnlySeqs (ackCmd c result data d) := Dev.onlySeqs_unicast ..

theorem rcmdGo_busy {d : Dev} (h : d.is Reg.EMR.RCMD_STAT.BUSY = true) : rcmdGo d = d := if_pos h

/-- What RCMD_GO sends. -/
theorem rcmdGo_idle {d : Dev} (h : d.is Reg.EMR.RCMD_STAT.BUSY = false) :
    rcmdGo d = (d.put Reg.EMR.RCMD_STAT.BUSY true).command (d.get Reg.EMR.RCMD.DEST) (if d.is Reg.EMR.RCMD.WRITE = true then 3 else 2)
      (if d.is Reg.EMR.RCMD.WRITE = true then leBytes 4 (d.addr Reg.EMR.RCMD_ADDR.OFFSET) ++ leBytes 4 (d.get Reg.EMR.RCMD_DATA.DATA)
        else leBytes 4 (d.addr Reg.EMR.RCMD_ADDR.OFFSET)) false (!d.is Reg.EMR.RCMD.WRITE) := by
  have hdest : (d.put Reg.EMR.RCMD_STAT.BUSY true).get Reg.EMR.RCMD.DEST = d.get Reg.EMR.RCMD.DEST := d.get_set_ne _ (by decide)
  have hdata : (d.put Reg.EMR.RCMD_STAT.BUSY true).get Reg.EMR.RCMD_DATA.DATA = d.get Reg.EMR.RCMD_DATA.DATA :=
    d.get_set_ne _ (by decide)
  rw [rcmdGo, if_neg (by simp [h])]
  dsimp only
  rw [hdest, hdata]

/-- The device with the fields of a RCMD write. -/
def rcmdWritten (write : Bool) (dst : Nat) (d : Dev) : Dev := (d.set Reg.EMR.RCMD.WRITE (b2n write)).set Reg.EMR.RCMD.DEST dst

theorem rcmdWritten_get {write : Bool} {dst : Nat} {f : Fld} (d : Dev) (hw : f.key ≠ Reg.EMR.RCMD.WRITE.key)
    (hd : f.key ≠ Reg.EMR.RCMD.DEST.key) : (rcmdWritten write dst d).get f = d.get f :=
  (Dev.get_set_ne _ _ hd).trans (Dev.get_set_ne _ _ hw)

theorem rcmdWritten_dest {write : Bool} {dst : Nat} (h : dst < 64) (d : Dev) :
    (rcmdWritten write dst d).get Reg.EMR.RCMD.DEST = dst := (Dev.get_set_same ..).trans (Nat.mod_eq_of_lt h)

theorem rcmdWritten_write (write : Bool) (dst : Nat) (d : Dev) : (rcmdWritten write dst d).is Reg.EMR.RCMD.WRITE = write := by
  rw [Dev.is_eq, rcmdWritten, Dev.get_set_ne _ _ (by decide), Dev.get_set_same]
  cases write <;> rfl

/-! ### Bulk data -/

theorem bulkGo_busy {d : Dev} (h : d.is Reg.EMR.BULK_STAT.BUSY = true) : bulkGo d = d := if_pos h

/-- What a bulk command reads and sends, of `n` cells. -/
theorem bulkGo_idle {n : Nat} {d d1 : Dev} (h : d.is Reg.EMR.BULK_STAT.BUSY = false) (hn : d.get Reg.EMR.BULK_LEN.LEN / 16 = n)
    (h1 : d.basinLoad 2 0x33 (d.addr Reg.EMR.BULK_SRC.ADDR) (16 * n) 0 = d1) :
    bulkGo d =
      if d1.basinFails (d1.addr Reg.EMR.BULK_SRC.ADDR) (16 * n) = true then
        (d1.set Reg.EMR.BULK_STAT.RESULT 2).raise 0 Kind.EMR.BULK_FAILED { arg := 2 }
      else
        let data := d1.basinRead (d1.addr Reg.EMR.BULK_SRC.ADDR) (16 * n)
        ((List.range n).foldl (fun (d' : Dev) i => (d'.unicast (d'.pathTo (d.get Reg.EMR.BULK_CMD.DEST)) 0x40 (d.get Reg.EMR.BULK_CMD.DEST)
          (leBytes 4 (d.get Reg.EMR.BULK_DST.OFFSET + 16 * i) ++ (data.drop (16 * i)).take 16)).2)
            (d1.put Reg.EMR.BULK_STAT.BUSY true)).command (d.get Reg.EMR.BULK_CMD.DEST) 4
              (leBytes 4 (16 * n) ++ leBytes 4 (crc32c data)) true false := by
  subst hn h1
  rw [bulkGo, if_neg (by simp [h])]

/-- Reading sound sectors changes nothing but what the arbiter keeps. -/
theorem basinLoad_sound {d : Dev} {cls master a n : Nat} (h : d.basinFails a n = false) :
    ∃ m, d.basinLoad cls master a n 0 = { d with mem := m } ∧ m.ue = d.mem.ue := by
  rw [Dev.basinFails, Bool.or_eq_false_iff, Bool.not_eq_false', bne_eq_false_iff_eq] at h
  obtain ⟨hup, hbad⟩ := h
  unfold Dev.basinLoad
  split_ifs
  · exact ⟨d.mem, rfl, rfl⟩
  · have hserved : ((strike 0 a d).served cls n).badSectors a n = [] := hbad
    dsimp only
    rw [hserved]
    exact ⟨_, rfl, rfl⟩

theorem ueFound_get {master access s : Nat} {f : Fld} (d : Dev) (hf : f.Steady)
    (h : ∀ g ∈ [Reg.BAS.UE_CNT.COUNT, Reg.BAS.UE_ADDR.VALID, Reg.BAS.UE_ADDR.MASTER, Reg.BAS.UE_ADDR.ADDR], f.key ≠ g.key) :
    (ueFound master access d s).get f = d.get f := by
  simp only [List.forall_mem_cons] at h
  obtain ⟨hcnt, hvalid, hmaster, haddr, -⟩ := h
  rw [ueFound]
  refine ((Dev.onlyRises_raise ..).1 f hf).trans ?_
  split_ifs
  · exact Dev.get_set_ne _ _ hcnt
  · exact (Dev.get_set_ne _ _ haddr).trans ((Dev.get_set_ne _ _ hmaster).trans ((Dev.get_set_ne _ _ hvalid).trans
      (Dev.get_set_ne _ _ hcnt)))

/-- A Basin read that nothing strikes changes no register of another page. -/
theorem basinLoad_get {cls master a n : Nat} {f : Fld} (d : Dev) (hf : f.Steady)
    (h : ∀ g ∈ [Reg.BAS.UE_CNT.COUNT, Reg.BAS.UE_ADDR.VALID, Reg.BAS.UE_ADDR.MASTER, Reg.BAS.UE_ADDR.ADDR], f.key ≠ g.key) :
    (d.basinLoad cls master a n 0).get f = d.get f := by
  unfold Dev.basinLoad
  split_ifs
  · rfl
  · exact List.foldlRecOn (motive := fun e : Dev => e.get f = d.get f) _ _ rfl fun _ he _ _ => (ueFound_get _ hf h).trans he

/-- A bulk command whose source can be read is busy. -/
theorem bulkGo_sends {d : Dev} (h : d.is Reg.EMR.BULK_STAT.BUSY = false)
    (hf : d.basinFails (d.addr Reg.EMR.BULK_SRC.ADDR) (16 * (d.get Reg.EMR.BULK_LEN.LEN / 16)) = false) :
    (bulkGo d).is Reg.EMR.BULK_STAT.BUSY = true ∧ (bulkGo d).get Reg.EMR.BULK_CMD.DEST = d.get Reg.EMR.BULK_CMD.DEST := by
  obtain ⟨m, hload, hue⟩ := basinLoad_sound (cls := 2) (master := 0x33) hf
  have hsound : ({ d with mem := m } : Dev).basinFails (({ d with mem := m } : Dev).addr Reg.EMR.BULK_SRC.ADDR)
      (16 * (d.get Reg.EMR.BULK_LEN.LEN / 16)) = false := by
    rw [← hf, Dev.basinFails, Dev.basinFails, Dev.badSectors, hue]
    rfl
  have hregs {e : Dev} (l : List Nat) (g : Dev → Nat → Dev) (hg : ∀ e i, (g e i).regs = e.regs) : (l.foldl g e).regs = e.regs :=
    List.foldlRecOn (motive := fun x => x.regs = e.regs) l g rfl fun _ hx i _ => (hg _ i).trans hx
  rw [bulkGo_idle h rfl hload, if_neg (by simp [hsound])]
  constructor
  · rw [Dev.is_eq, Dev.get_of_regs (Dev.command_regs ..), Dev.get_of_regs (hregs _ _ fun e i => Dev.unicast_regs ..), ← Dev.is_eq,
      Dev.is_put_same _ _ rfl]
  · rw [Dev.get_of_regs (Dev.command_regs ..), Dev.get_of_regs (hregs _ _ fun e i => Dev.unicast_regs ..), Dev.put_eq,
      Dev.get_set_ne _ _ (by decide)]
    rfl

/-- The 16 bytes of a BULK cell in the window. -/
theorem bulkCell_basin {c : CellIn} {d : Dev} (he : d.is Reg.EMR.CFG.BULK_RX_EN = true) (hw : leAt c.payload 0 4 + 16 ≤ d.bulkWindow)
    (hu : d.basinUp = true) (hue : d.mem.ue = []) :
    (bulkCell c d).basin = memWrite 0 (d.addr Reg.EMR.BULK_WIN.ADDR + leAt c.payload 0 4) (padTo 16 (c.payload.drop 4)) d.basin := by
  have hgo : ¬(d.is Reg.EMR.CFG.BULK_RX_EN = false ∨ d.bulkWindow < leAt c.payload 0 4 + 16 ∨ d.basinUp = false) := by
    rw [he, hu]
    simpa using hw
  have hne : padTo 16 (c.payload.drop 4) ≠ [] := fun hnil => by
    have hlen := congrArg List.length hnil
    simp [padTo] at hlen
  obtain ⟨m, hm⟩ := Dev.basinWrite_sound (d := d) (a := d.addr Reg.EMR.BULK_WIN.ADDR + leAt c.payload 0 4)
    (d.badSectors_of_no_ue hue _ _) hne 2 0x33
  rw [bulkCell]
  dsimp only
  rw [if_neg hgo, hm]

/-! ### Commands received and ended -/

theorem slowdownCell_manager {c : CellIn} {d : Dev} (h : d.ringRole = 2) :
    (slowdownCell c d).is Reg.EMR.SLOW_REQ.VALID = true ∧ (slowdownCell c d).get Reg.EMR.SLOW_REQ.ADDR = c.src % 64 ∧
      (slowdownCell c d).evRaw .EMR 0 4 = true := by
  have hsteady (f : Fld) (hp : 0x20 ≤ f.page) (hc : f.calm = true) : f.Steady := Fld.steady_of_calm hp hc
  rw [slowdownCell, if_pos h]
  refine ⟨?_, ?_, ?_⟩
  · rw [Dev.is_eq, Dev.get_of_regs (ackCmd_regs ..), (Dev.onlyRises_ev ..).1 _ (hsteady _ (by decide) rfl), Dev.bump_eq,
      Dev.get_set_ne _ _ (by decide), Dev.get_set_ne _ _ (by decide), Dev.get_set_ne _ _ (by decide), Dev.get_set_ne _ _ (by decide),
      ← Dev.is_eq, Dev.is_put_same _ _ rfl]
  · rw [Dev.get_of_regs (ackCmd_regs ..), (Dev.onlyRises_ev ..).1 _ (hsteady _ (by decide) rfl), Dev.bump_eq,
      Dev.get_set_ne _ _ (by decide), Dev.get_set_same]
    exact Nat.mod_mod _ 64
  · rw [Dev.evRaw, Dev.get_of_regs (ackCmd_regs ..)]
    exact Dev.evRaw_ev _ .EMR 0 (by decide)

theorem bulkEnd_rxBulk (c : CellIn) (d : Dev) : aget (c.src % 64) (bulkEnd c d).emr.rxBulk = none := by
  rw [bulkEnd]
  dsimp only
  rw [(onlySeqs_ackCmd ..).rxBulk]
  exact aget_adel_same ..

/-- A register command that ends shows its result. -/
theorem endCmd_register {q : RingCmd} {r : Nat} (d : Dev) (hb : q.bulk = false) (hop : byteAt q.cell 8 = 2) (hr : r < 4) :
    (endCmd q r d).is Reg.EMR.RCMD_STAT.BUSY = false ∧ (endCmd q r d).get Reg.EMR.RCMD_STAT.RESULT = r ∧
      (endCmd q r d).evRaw .EMR 0 7 = true := by
  have hend : endCmd q r d = (((dropCmd q d).put Reg.EMR.RCMD_STAT.BUSY false).set Reg.EMR.RCMD_STAT.RESULT r).ev .EMR 0 7 := by
    rw [endCmd]
    dsimp only
    rw [hb, if_neg (by decide), if_pos (.inl hop)]
  rw [hend]
  refine ⟨?_, ?_, Dev.evRaw_ev _ _ _ (by decide)⟩
  · rw [Dev.is_eq, (Dev.onlyRises_ev ..).1 _ (Fld.steady_of_calm (by decide) rfl), Dev.get_set_ne _ _ (by decide), ← Dev.is_eq,
      Dev.is_put_same _ _ rfl]
  · rw [(Dev.onlyRises_ev ..).1 _ (Fld.steady_of_calm (by decide) rfl), Dev.get_set_same]
    exact Nat.mod_eq_of_lt hr

theorem ackCell_found {c : CellIn} {q : RingCmd} {d : Dev}
    (h : d.emr.cmds.find? (fun q => q.tag == byteAt c.payload 0 && q.dest == c.src % 64) = some q) :
    ackCell c d = endCmd q (if byteAt c.payload 1 = 0 then 0 else 2)
      (if q.read = true ∧ byteAt c.payload 1 = 0 then d.set Reg.EMR.RCMD_DATA.DATA (leAt c.payload 2 4) else d) := by
  rw [ackCell, h]

theorem cmdTimeout_none {d : Dev} (h : d.emr.cmds = []) : cmdTimeout d = d := by
  rw [cmdTimeout, h]

theorem cmdTimeout_last {q : RingCmd} {rest : List RingCmd} {d : Dev} (h : d.emr.cmds = q :: rest) (ha : q.again = true) :
    cmdTimeout d = (endCmd q 1 (d.advanceTo q.due)).raise 0 Kind.EMR.CMD_TIMEOUT { arg := q.dest } := by
  rw [cmdTimeout, h]
  exact if_pos ha

/-- A command sent again, by the other path. -/
def cmdAgain (q : RingCmd) (d : Dev) : Dev :=
  let d := (dropCmd q d).sendOn (1 - q.path) q.cell
  { d with emr := { d.emr with cmds := d.emr.cmds ++ [{ q with again := true, path := 1 - q.path, due := d.time.up + 50 * us }] } }

theorem cmdTimeout_again {q : RingCmd} {rest : List RingCmd} {d : Dev} (h : d.emr.cmds = q :: rest) (ha : q.again = false) :
    cmdTimeout d = cmdAgain q (d.advanceTo q.due) := by
  rw [cmdTimeout, h]
  exact if_neg (by simp [ha])

theorem cmdAgain_last (q : RingCmd) (d : Dev) :
    (cmdAgain q d).emr.cmds.getLast? = some { q with again := true, path := 1 - q.path, due := (cmdAgain q d).time.up + 50 * us } := by
  rw [cmdAgain]
  exact List.getLast?_concat

/-! ### Faults and events of other members -/

theorem Dev.onlyRises_raiseAs (d : Dev) (n : Nat) (k : FKind) (sev : Nat) (a : FArg) : d.OnlyRises (d.raiseAs n k sev a) :=
  (d.onlyRises_ev ..).trans (Dev.onlyRises_post ..)

theorem Dev.evRaw_raiseAs (d : Dev) (n : Nat) (k : FKind) (sev : Nat) (a : FArg) (h : k.bit < 32) :
    (d.raiseAs n k sev a).evRaw k.blk n k.bit = true := (Dev.onlyRises_post ..).2 _ k.bit h (d.evRaw_ev k.blk n h)

/-- What a FAULT cell says of a fault. -/
def remFault (c : CellIn) (d : Dev) : Dev :=
  ((((d.put Reg.EMR.REM_FAULT.VALID true).set Reg.EMR.REM_FAULT.SEV (byteAt c.payload 0)).set Reg.EMR.REM_FAULT.KIND
    (byteAt c.payload 1)).set Reg.EMR.REM_FAULT.PAGE (leAt c.payload 2 2)).set Reg.EMR.REM_FAULT.ADDR (c.src % 64)

/-- The fault that the device itself then raises. -/
def remFaultRaised (c : CellIn) (d : Dev) : Dev :=
  (remFault c d).raiseAs 0 Kind.EMR.REMOTE_FAULT (min (byteAt c.payload 0) ((remFault c d).get Reg.EMR.FAULT_CFG.CAP))
    { arg := c.src % 64 + leAt c.payload 2 2 % 1024 * 64 + byteAt c.payload 1 * 65536 }

theorem faultCell_regs (c : CellIn) (d : Dev) : (faultCell c d).regs = (remFaultRaised c d).regs := by
  unfold faultCell remFaultRaised remFault
  rfl

theorem faultCell_shows (c : CellIn) (d : Dev) :
    (faultCell c d).is Reg.EMR.REM_FAULT.VALID = true ∧
      (faultCell c d).get Reg.EMR.REM_FAULT.KIND = byteAt c.payload 1 % Reg.EMR.REM_FAULT.KIND.cap ∧
      (faultCell c d).get Reg.EMR.REM_FAULT.ADDR = c.src % 64 ∧
      (faultCell c d).evRaw .EMR 0 Kind.EMR.REMOTE_FAULT.bit = true := by
  have hget (f : Fld) (hp : 0x20 ≤ f.page) (hc : f.calm = true) : (faultCell c d).get f = (remFault c d).get f :=
    (Dev.get_of_regs (faultCell_regs c d) f).trans ((Dev.onlyRises_raiseAs ..).1 _ (Fld.steady_of_calm hp hc))
  refine ⟨?_, ?_, ?_, ?_⟩
  · rw [Dev.is_eq, hget _ (by decide) rfl, remFault, Dev.get_set_ne _ _ (by decide), Dev.get_set_ne _ _ (by decide),
      Dev.get_set_ne _ _ (by decide), Dev.get_set_ne _ _ (by decide), ← Dev.is_eq, Dev.is_put_same _ _ rfl]
  · rw [hget _ (by decide) rfl, remFault, Dev.get_set_ne _ _ (by decide), Dev.get_set_ne _ _ (by decide), Dev.get_set_same]
  · rw [hget _ (by decide) rfl, remFault, Dev.get_set_same]
    exact Nat.mod_mod _ 64
  · rw [Dev.evRaw, Dev.get_of_regs (faultCell_regs c d)]
    exact Dev.evRaw_raiseAs _ 0 Kind.EMR.REMOTE_FAULT _ _ (by decide)

theorem eventCell_evRaw (c : CellIn) (d : Dev) : (eventCell c d).evRaw .EMR 0 (9 + byteAt c.payload 0 % 4) = true :=
  Dev.evRaw_ev _ _ _ (by omega)

/-! ### The statement -/

theorem Dev.RingOnly.bulkWindow {d d' : Dev} (h : d.RingOnly d') : d'.bulkWindow = d.bulkWindow := by
  obtain ⟨_, _, _, _, rfl⟩ := h
  rfl

theorem Dev.RingOnly.basinUp {d d' : Dev} (h : d.RingOnly d') : d'.basinUp = d.basinUp := by
  obtain ⟨_, _, _, _, rfl⟩ := h
  rfl

theorem Dev.RingOnly.sameStores {d d' : Dev} (h : d.RingOnly d') : d.SameStores d' := by
  obtain ⟨_, _, _, _, rfl⟩ := h
  exact ⟨rfl, rfl, rfl⟩

theorem Dev.RingOnly.addr {d d' : Dev} (h : d.RingOnly d') (f : Fld) : d'.addr f = d.addr f := by
  rw [Dev.addr, h.get, Dev.addr]

theorem Dev.basinUp_set {f : Fld} (v : Nat) (d : Dev) (h : ∀ g ∈ [Reg.HDR.STATE (pg .BAS 0), Reg.SYS.BRINGUP.BASIN_READY], g.key ≠ f.key) :
    (d.set f v).basinUp = d.basinUp := by
  simp only [List.forall_mem_cons] at h
  obtain ⟨hstate, hready, -⟩ := h
  rw [Dev.basinUp, Dev.inRun, Dev.blk, Dev.is_eq, Dev.get_set_ne _ _ hstate, Dev.get_set_ne _ _ hready]
  rfl

theorem Dev.basinFails_set {f : Fld} (v : Nat) (d : Dev) (a n : Nat)
    (h : ∀ g ∈ [Reg.HDR.STATE (pg .BAS 0), Reg.SYS.BRINGUP.BASIN_READY], g.key ≠ f.key) :
    (d.set f v).basinFails a n = d.basinFails a n := by
  rw [Dev.basinFails, Dev.basinUp_set v d h]
  rfl

theorem bulkIdle {d : Dev} (h : d.is Reg.EMR.BULK_STAT.BUSY = false) (dst : Nat) :
    (d.set Reg.EMR.BULK_CMD.DEST dst).is Reg.EMR.BULK_STAT.BUSY = false := by
  rwa [Dev.is_eq, Dev.get_set_ne _ _ (by decide), ← Dev.is_eq]

theorem bulkLen (dst : Nat) (d : Dev) :
    (d.set Reg.EMR.BULK_CMD.DEST dst).get Reg.EMR.BULK_LEN.LEN / 16 = d.get Reg.EMR.BULK_LEN.LEN / 16 := by
  rw [Dev.get_set_ne _ _ (by decide)]

theorem bulkSrc (dst : Nat) (d : Dev) :
    (d.set Reg.EMR.BULK_CMD.DEST dst).addr Reg.EMR.BULK_SRC.ADDR = d.addr Reg.EMR.BULK_SRC.ADDR := by
  rw [Dev.addr, Dev.get_set_ne _ _ (by decide), Dev.addr]

theorem rcmdGo_written {write : Bool} {dst : Nat} {d : Dev} (hd : dst < 64) (hb : d.is Reg.EMR.RCMD_STAT.BUSY = false) :
    rcmdGo (rcmdWritten write dst d) = ((rcmdWritten write dst d).put Reg.EMR.RCMD_STAT.BUSY true).command dst (if write = true then 3 else 2)
      (if write = true then leBytes 4 (d.addr Reg.EMR.RCMD_ADDR.OFFSET) ++ leBytes 4 (d.get Reg.EMR.RCMD_DATA.DATA)
        else leBytes 4 (d.addr Reg.EMR.RCMD_ADDR.OFFSET)) false (!write) := by
  have hidle : (rcmdWritten write dst d).is Reg.EMR.RCMD_STAT.BUSY = false := by
    rwa [Dev.is_eq, rcmdWritten_get _ (by decide) (by decide), ← Dev.is_eq]
  have hoffset : (rcmdWritten write dst d).addr Reg.EMR.RCMD_ADDR.OFFSET = d.addr Reg.EMR.RCMD_ADDR.OFFSET := by
    rw [Dev.addr, rcmdWritten_get _ (by decide) (by decide), Dev.addr]
  rw [rcmdGo_idle hidle, rcmdWritten_write, rcmdWritten_dest hd, hoffset,
    rcmdWritten_get (f := Reg.EMR.RCMD_DATA.DATA) _ (by decide) (by decide)]

section
variable {c : CellIn} {u : Fuses} {d : Dev}

theorem slowdownCell_other (h : d.ringRole ≠ 2) : slowdownCell c d = ackCmd c 1 0 d := if_neg h

theorem regReadCell_refused (he : d.is Reg.EMR.CFG.REMOTE_EN = false) : regReadCell c u d = ackCmd c 1 0 d := if_pos he

theorem regWriteCell_refused (he : d.is Reg.EMR.CFG.REMOTE_EN = false) : regWriteCell c u d = ackCmd c 1 0 d := if_pos he

theorem regReadCell_served (he : d.is Reg.EMR.CFG.REMOTE_EN = true) (h4 : leAt c.payload 2 4 % 4 = 0)
    (hlt : leAt c.payload 2 4 < 2 ^ 22) :
    regReadCell c u d = ackCmd c (if (busRead u Party.ring (leAt c.payload 2 4) d).2.1 = 0 then 0 else 1)
      (busRead u Party.ring (leAt c.payload 2 4) d).1 (busRead u Party.ring (leAt c.payload 2 4) d).2.2 := by
  rw [regReadCell]
  dsimp only
  rw [if_neg (by simp [he]), if_neg (by omega)]

theorem regReadCell_bad (he : d.is Reg.EMR.CFG.REMOTE_EN = true) (h : leAt c.payload 2 4 % 4 ≠ 0 ∨ 2 ^ 22 ≤ leAt c.payload 2 4) :
    regReadCell c u d = ackCmd c 2 0 d := by
  rw [regReadCell]
  dsimp only
  rw [if_neg (by simp [he]), if_pos h]

theorem regWriteCell_served (he : d.is Reg.EMR.CFG.REMOTE_EN = true) (h4 : leAt c.payload 2 4 % 4 = 0)
    (hlt : leAt c.payload 2 4 < 2 ^ 22) :
    regWriteCell c u d = ackCmd c (if (busWrite u Party.ring (leAt c.payload 2 4) (leAt c.payload 6 4) d).1 = 0 then 0 else 1) 0
      (busWrite u Party.ring (leAt c.payload 2 4) (leAt c.payload 6 4) d).2 := by
  rw [regWriteCell]
  dsimp only
  rw [if_neg (by simp [he]), if_neg (by omega)]

theorem regWriteCell_bad (he : d.is Reg.EMR.CFG.REMOTE_EN = true) (h : leAt c.payload 2 4 % 4 ≠ 0 ∨ 2 ^ 22 ≤ leAt c.payload 2 4) :
    regWriteCell c u d = ackCmd c 2 0 d := by
  rw [regWriteCell]
  dsimp only
  rw [if_neg (by simp [he]), if_pos h]

end

/-- Settles O26. The ACK results 1 and 2 and the choice of a path (notes/assumptions/32.md), a page that is off
(notes/assumptions/12.md) and that nothing changes where no command awaits its ACK or one is busy (notes/assumptions/56.md) are
readings of the model. -/
theorem ringCommands : Obligations.RingCommands := by
  refine ⟨fun s c dt hs h hr => ?_, fun s c dt hs h he h4 hlt => ?_, fun s c dt hs h he h4 hlt => ?_, fun s c dt hs h => ?_,
    fun s c dt q hs h hq hb hop => ?_, fun s q rest hs hq ha => ?_, fun s dst write hs ho hd hb => ?_,
    fun s dst hs ho hd hb hf => ?_, fun s c dt hs h he hw hu hue => ?_, fun s c dt hs h => ?_, fun s c dt hs h => ?_,
    fun s c dt hs h he => ?_, fun s c dt hs h he hbad => ?_, fun s c dt hs h he => ?_, fun s c dt hs h he hbad => ?_,
    fun s q rest hs hq ha => ?_, fun s hs hq => ?_, fun s dst write hs ho hd hb => ?_, fun s dst hs ho hd hb => ?_,
    fun s dst hs ho hd hb hu => ?_, fun s c dt hs h hr => ?_, fun s c dt hs h => ?_, fun s c dt hs h => ?_, fun s c dt hs h => ?_,
    fun s c dt hs h => ?_, fun s c dt hs h => ?_, fun s c dt hs h => ?_, fun s w n hs ho => ?_,
    fun s dst n d0 hs ho hd hb hn h0 hf => ?_, fun s dst n d0 data hs ho hd hb hn h0 hf hdata => ?_⟩
  · refine completes_of_exec (exec_slowdown hs c dt) ?_
    rw [receive_consumed (d := s.dev.advance dt) _ h]
    exact slowdownCell_manager (((ringOnly_cellTaken ..).get _).trans hr)
  · refine completes_of_exec (exec_regRead hs c dt) ((receive_consumed (d := s.dev.advance dt) _ h).trans ?_)
    exact regReadCell_served (((ringOnly_cellTaken ..).is _).trans he) h4 hlt
  · refine completes_of_exec (exec_regWrite hs c dt) ((receive_consumed (d := s.dev.advance dt) _ h).trans ?_)
    exact regWriteCell_served (((ringOnly_cellTaken ..).is _).trans he) h4 hlt
  · refine completes_of_exec (exec_bulkEnd hs c dt) ?_
    rw [receive_consumed (d := s.dev.advance dt) _ h]
    exact bulkEnd_rxBulk ..
  · refine completes_of_exec (exec_ack hs c dt) ?_
    have hfind : (cellTaken 0x25 c (s.dev.advance dt)).emr.cmds.find?
        (fun q => q.tag == byteAt c.payload 0 && q.dest == c.src % 64) = some q := by
      rw [cellTaken, freeBuffer_emr]
      exact hq
    rw [receive_consumed (d := s.dev.advance dt) _ h, ackCell_found hfind]
    exact endCmd_register _ hb hop (by split_ifs <;> decide)
  · refine completes_of_exec (exec_commandAckTimeout hs) ?_
    rw [cmdTimeout_again hq ha]
    exact ⟨rfl, cmdAgain_last ..⟩
  · refine completes_of_exec (exec_rcmdGo hs write dst) ?_
    have hsent := (hostWrite_rcmd s.fuse write hd ho).trans (rcmdGo_written hd hb)
    rw [rcmdWord] at hsent
    rw [hsent]
    refine ⟨rfl, ?_, ?_, ?_⟩
    · rw [Dev.is_eq, Dev.get_of_regs (Dev.command_regs ..), ← Dev.is_eq, Dev.is_put_same _ _ rfl]
    · rw [Dev.get_of_regs (Dev.command_regs ..), Dev.put_eq, Dev.get_set_ne _ _ (by decide), rcmdWritten_dest hd]
    · rw [Dev.is_eq, Dev.get_of_regs (Dev.command_regs ..), Dev.put_eq, Dev.get_set_ne _ _ (by decide), ← Dev.is_eq, rcmdWritten_write]
  · refine completes_of_exec (exec_bulkCmdGo hs dst) ?_
    rw [hostWrite_bulkCmd _ hd ho]
    have hsound : (s.dev.set Reg.EMR.BULK_CMD.DEST dst).basinFails ((s.dev.set Reg.EMR.BULK_CMD.DEST dst).addr Reg.EMR.BULK_SRC.ADDR)
        (16 * ((s.dev.set Reg.EMR.BULK_CMD.DEST dst).get Reg.EMR.BULK_LEN.LEN / 16)) = false := by
      rwa [Dev.basinFails_set _ _ _ _ (by decide), Dev.addr, Dev.get_set_ne _ _ (by decide), Dev.get_set_ne _ _ (by decide)]
    obtain ⟨hbusy, hdest⟩ := bulkGo_sends (bulkIdle hb dst) hsound
    exact ⟨rfl, hbusy, hdest.trans ((Dev.get_set_same ..).trans (Nat.mod_eq_of_lt hd))⟩
  · have hring := ringOnly_cellTaken 0x40 c (s.dev.advance dt)
    obtain ⟨hbasin, -, hmem⟩ := hring.sameStores
    refine completes_of_exec (exec_bulk hs c dt) ?_
    rw [receive_consumed (d := s.dev.advance dt) _ h, bulkCell_basin ((hring.is _).trans he) (by rw [hring.bulkWindow]; exact hw)
      (hring.basinUp.trans hu) (by rw [hmem]; exact hue), hring.addr, hbasin]
    rfl
  · refine completes_of_exec (exec_faultCell hs c dt) ?_
    rw [receive_heard (d := s.dev.advance dt) _ h]
    exact faultCell_shows ..
  · refine completes_of_exec (exec_eventCell hs c dt) ?_
    rw [receive_heard (d := s.dev.advance dt) _ h]
    exact eventCell_evRaw ..
  · refine completes_of_exec (exec_regRead hs c dt) ((receive_consumed (d := s.dev.advance dt) _ h).trans ?_)
    exact regReadCell_refused (((ringOnly_cellTaken ..).is _).trans he)
  · refine completes_of_exec (exec_regRead hs c dt) ((receive_consumed (d := s.dev.advance dt) _ h).trans ?_)
    exact regReadCell_bad (((ringOnly_cellTaken ..).is _).trans he) hbad
  · refine completes_of_exec (exec_regWrite hs c dt) ((receive_consumed (d := s.dev.advance dt) _ h).trans ?_)
    exact regWriteCell_refused (((ringOnly_cellTaken ..).is _).trans he)
  · refine completes_of_exec (exec_regWrite hs c dt) ((receive_consumed (d := s.dev.advance dt) _ h).trans ?_)
    exact regWriteCell_bad (((ringOnly_cellTaken ..).is _).trans he) hbad
  · exact completes_of_exec (exec_commandAckTimeout hs) (cmdTimeout_last hq ha)
  · exact completes_of_exec (exec_commandAckTimeout hs) (cmdTimeout_none hq)
  · refine completes_of_exec (exec_rcmdGo hs write dst) ((hostWrite_rcmd s.fuse write hd ho).trans (rcmdGo_busy ?_))
    rwa [Dev.is_eq, Dev.get_set_ne _ _ (by decide), Dev.get_set_ne _ _ (by decide), ← Dev.is_eq]
  · refine completes_of_exec (exec_bulkCmdGo hs dst) ((hostWrite_bulkCmd s.fuse hd ho).trans (bulkGo_busy ?_))
    rwa [Dev.is_eq, Dev.get_set_ne _ _ (by decide), ← Dev.is_eq]
  · have hdown : (s.dev.set Reg.EMR.BULK_CMD.DEST dst).basinUp = false := by rwa [Dev.basinUp_set _ _ (by decide)]
    refine completes_of_exec (exec_bulkCmdGo hs dst) ((hostWrite_bulkCmd s.fuse hd ho).trans ?_)
    rw [bulkGo_idle (bulkIdle hb dst) rfl (if_pos (.inl hdown)), if_pos (by rw [Dev.basinFails, hdown]; rfl)]
  · refine completes_of_exec (exec_slowdown hs c dt) ((receive_consumed (d := s.dev.advance dt) _ h).trans ?_)
    exact slowdownCell_other fun hmgr => hr (((ringOnly_cellTaken 0x24 c (s.dev.advance dt)).get _).symm.trans hmgr)
  · exact completes_of_exec (exec_slowdown hs c dt) (receive_consumed (d := s.dev.advance dt) _ h)
  · exact completes_of_exec (exec_bulkEnd hs c dt) (receive_consumed (d := s.dev.advance dt) _ h)
  · exact completes_of_exec (exec_ack hs c dt) (receive_consumed (d := s.dev.advance dt) _ h)
  · exact completes_of_exec (exec_bulk hs c dt) (receive_consumed (d := s.dev.advance dt) _ h)
  · exact completes_of_exec (exec_faultCell hs c dt) (receive_heard (d := s.dev.advance dt) _ h)
  · exact completes_of_exec (exec_eventCell hs c dt) (receive_heard (d := s.dev.advance dt) _ h)
  · intro k hk
    obtain rfl | rfl := List.mem_pair.mp hk
    · exact completes_of_exec (exec_rcmdGo hs w n) (hostWrite_off ho (by decide) (by decide))
    · exact completes_of_exec (exec_bulkCmdGo hs n) (hostWrite_off ho (by decide) (by decide))
  · refine completes_of_exec (exec_bulkCmdGo hs dst) ((hostWrite_bulkCmd s.fuse hd ho).trans ?_)
    have hload : (s.dev.set Reg.EMR.BULK_CMD.DEST dst).basinLoad 2 0x33
        ((s.dev.set Reg.EMR.BULK_CMD.DEST dst).addr Reg.EMR.BULK_SRC.ADDR) (16 * n) 0 = d0 := by
      rw [bulkSrc]
      exact h0
    rw [bulkGo_idle (bulkIdle hb dst) ((bulkLen dst s.dev).trans hn) hload, if_pos hf]
  · subst hdata
    have hsrc : d0.addr Reg.EMR.BULK_SRC.ADDR = s.dev.addr Reg.EMR.BULK_SRC.ADDR := by
      subst h0
      rw [Dev.addr, basinLoad_get _ (Fld.steady_of_calm (by decide) rfl) (by decide), ← Dev.addr, bulkSrc]
    refine completes_of_exec (exec_bulkCmdGo hs dst) ((hostWrite_bulkCmd s.fuse hd ho).trans ?_)
    have hload : (s.dev.set Reg.EMR.BULK_CMD.DEST dst).basinLoad 2 0x33
        ((s.dev.set Reg.EMR.BULK_CMD.DEST dst).addr Reg.EMR.BULK_SRC.ADDR) (16 * n) 0 = d0 := by
      rw [bulkSrc]
      exact h0
    rw [bulkGo_idle (bulkIdle hb dst) ((bulkLen dst s.dev).trans hn) hload, if_neg (by simp [hf]), hsrc,
      Dev.get_set_same, Dev.get_set_ne _ _ (by decide)]
    rw [show dst % Reg.EMR.BULK_CMD.DEST.cap = dst from Nat.mod_eq_of_lt hd]

end Sys2Proof.Machine
end

section
/-!
PROOF. Power domains and the supply monitors (O44; R462, R466).
-/
namespace Sys2Proof.Machine

/-- A list of bits reads no bit past its width. -/
theorem bitList_mod {w k n : Nat} (h : w ≤ k) : bitList w (n % 2 ^ k) = bitList w n := by
  refine List.filter_congr fun i hi => ?_
  have hlt : i < k := (List.mem_range.mp hi).trans_le h
  rw [Nat.testBit_mod_two_pow, decide_eq_true hlt, Bool.true_and]

theorem bits_low (v k : Nat) : bits v k 0 = v % 2 ^ (k + 1) := by
  rw [bits]
  simp

/-! ### Domains asked to turn on -/

theorem hostWrite_domOn (u : Fuses) (mask : Nat) {d : Dev} (ho : d.pageOff 2 = false) : hostWrite u 0x2040 mask d = domOn mask d := by
  rw [hostWrite_actsOnly (b := .PWR) (n := 0) (off := 0x40) (fs := [Reg.PWR.DOM_ON.DOM]) (by decide) ho rfl (by decide) (by decide)
    (by decide) rfl (fun f hf => by rw [List.mem_singleton.mp hf]; exact ⟨rfl, .inl rfl⟩)]
  change domOn (bits (mask % 2 ^ 32) 17 0) d = domOn mask d
  have hlist : bitList domains (mask % 2 ^ 32 % 2 ^ 18) = bitList domains mask :=
    (bitList_mod (k := 18) le_rfl).trans (bitList_mod (k := 32) (by decide))
  rw [domOn, bits_low, hlist, domOn]

/-! ### A domain that has turned off -/

/-- A domain's switch open, its change and its wait over. -/
def domOpened (dom : Nat) (d : Dev) : Dev :=
  let d := ((d.clrBit Reg.PWR.DOM_STAT.ON dom).clrBit Reg.PWR.DOM_BUSY.BUSY dom).disarm (.domainWait dom)
  { d with pwr := { d.pwr with goingOff := d.pwr.goingOff.filter (· != dom) } }

section
variable {dom : Nat} {d : Dev}

theorem domainOffDone_other (h : d.pwr.goingOff.contains dom = false ∨ (domainBlocks dom).all (fun t => d.blk (pg t.1 t.2) == 0) = false) :
    domainOffDone dom d = d := 
  if_neg fun ⟨hg, hb⟩ => h.elim (fun h => absurd (h.symm.trans hg) (by decide)) fun h => absurd (h.symm.trans hb) (by decide)

theorem domainOffDone_opens (h : d.pwr.goingOff.contains dom = true) (hb : (domainBlocks dom).all (fun t => d.blk (pg t.1 t.2) == 0) = true)
    (hp : dom < 10 ∨ d.sec.hpwr.testBit (dom - 10) = false) : domainOffDone dom d = (domOpened dom d).ev .PWR 0 0 := by
  refine (if_pos ⟨h, hb⟩).trans (congrArg (fun t : Dev => t.ev .PWR 0 0) (if_neg fun hc => ?_))
  obtain ⟨h10, hbit⟩ := hc
  rcases hp with hp | hp
  · omega
  · exact absurd hbit (by rw [Bool.not_eq_true]; exact hp)

theorem domainOffDone_powers (h : d.pwr.goingOff.contains dom = true)
    (hb : (domainBlocks dom).all (fun t => d.blk (pg t.1 t.2) == 0) = true) (h10 : 10 ≤ dom) (hp : d.sec.hpwr.testBit (dom - 10) = true) :
    domainOffDone dom d =
      (let t : Dev := { (domOpened dom d).emit (.pin Pin.hpwr (dom - 10) 0) with
          sec := { (domOpened dom d).sec with hpwr := clrB (domOpened dom d).sec.hpwr (dom - 10) } }
       if t.sec.hpwr = 0 then t.bringup Reg.SYS.BRINGUP.HEAD_POWER_ARMED false else t).ev .PWR 0 0 :=
  (if_pos ⟨h, hb⟩).trans (congrArg (fun t : Dev => t.ev .PWR 0 0) (if_pos ⟨h10, hp⟩))

theorem domOpened_flags (dom : Nat) (d : Dev) : (domOpened dom d).domOn dom = false ∧ (domOpened dom d).domBusy dom = false := by
  constructor
  · rw [Dev.domOn, Dev.bitOf]
    have hon : (domOpened dom d).get Reg.PWR.DOM_STAT.ON = (d.clrBit Reg.PWR.DOM_STAT.ON dom).get Reg.PWR.DOM_STAT.ON :=
      Dev.get_set_ne _ _ (by decide)
    rw [hon]
    exact bitOf_clrBit _ _ _ (w := 18) rfl
  · exact bitOf_clrBit _ _ _ (w := 18) rfl

end

/-! ### A supply that trips -/

/-- The flag of a supply. -/
def supplyFld (i : Nat) : Fld := nth Reg.PWR.SUPPLY.CORE [Reg.PWR.SUPPLY.CORE, Reg.PWR.SUPPLY.SRAM, Reg.PWR.SUPPLY.AN] i

/-- The flags of supplies set. -/
def suppliesShown (l : List Nat) (d : Dev) : Dev := l.foldl (fun d i => d.put (supplyFld i) true) d

theorem supplyFld_cap (i : Nat) : (supplyFld i).cap = 2 := by
  match i with
  | 0 | 1 | 2 | _ + 3 => rfl

theorem supplyFld_steady (i : Nat) : 0x40 ≤ (supplyFld i).off ∧ (supplyFld i).off < 4096 ∧ (supplyFld i).lo < 64 ∧
    (supplyFld i).key ≠ Reg.SED.LOST.COUNT.key := by
  match i with
  | 0 | 1 | 2 => decide
  | _ + 3 => exact supplyFld_steady 0

theorem supplyFld_key : ∀ i < 3, ∀ j < 3, j ≠ i → (supplyFld j).key ≠ (supplyFld i).key := by decide

/-- A supply among those that trip shows its flag. -/
theorem suppliesShown_is {l : List Nat} {j : Nat} (hl : ∀ i ∈ l, i < 3) (hj : j < 3) {d : Dev} (h : j ∈ l ∨ d.is (supplyFld j) = true) :
    (suppliesShown l d).is (supplyFld j) = true := by
  induction l generalizing d with
  | nil => exact h.resolve_left (List.not_mem_nil)
  | cons i l ih =>
    obtain ⟨hi, hl⟩ := List.forall_mem_cons.mp hl
    refine ih hl ?_
    by_cases hij : j = i
    · exact .inr (hij ▸ Dev.is_put_same _ _ (supplyFld_cap j))
    · refine h.imp (fun h => (List.mem_cons.mp h).resolve_left hij) fun h => ?_
      dsimp only
      rwa [Dev.is_eq, Dev.put_eq, Dev.get_set_ne _ _ (supplyFld_key i hi j hj hij), ← Dev.is_eq]

/-- The device whose supplies tripped, before the 2 µs. -/
def supplyTripped (which : Nat) (d : Dev) : Dev :=
  let d := suppliesShown (bitList 3 (which % 8)) d
  { d with pwr := { d.pwr with tripped := true } }

/-- The 2 µs of a supply that trips run. -/
def supplyTimed (d : Dev) : Dev := if d.running .supply = true then d else d.arm .supply (2 * us)

theorem supplyLow_eq {which : Nat} (h : which % 8 ≠ 0) (d : Dev) :
    supplyLow which d = (supplyTimed (supplyTripped which d)).raise 0 Kind.PWR.SUPPLY_LOW { arg := which % 8 } := if_neg h

theorem supplyTimed_regs (d : Dev) : (supplyTimed d).regs = d.regs := by
  unfold supplyTimed
  split_ifs <;> rfl

theorem supplyTimed_pwr (d : Dev) : (supplyTimed d).pwr = d.pwr := by
  unfold supplyTimed
  split_ifs <;> rfl

theorem supplyTimed_running (d : Dev) : (supplyTimed d).running .supply = true := by
  unfold supplyTimed
  split_ifs with h
  · exact h
  · exact Dev.running_arm_same ..

theorem supplyTripped_is {which i : Nat} (hi : i < 3) (h : which.testBit i = true) (d : Dev) :
    (supplyTimed (supplyTripped which d)).is (supplyFld i) = true := by
  have hlist : bitList 3 (which % 8) = bitList 3 which := bitList_mod (k := 3) le_rfl
  have hmem : i ∈ bitList 3 (which % 8) := by
    rw [hlist]
    exact List.mem_filter.mpr ⟨List.mem_range.mpr hi, h⟩
  rw [Dev.is_eq, Dev.get_of_regs (supplyTimed_regs _), ← Dev.is_eq]
  exact suppliesShown_is (fun j hj => List.mem_range.mp (List.mem_of_mem_filter hj)) hi (.inl hmem)

theorem Dev.Flagged.pwr_eq {d d' : Dev} (h : d.Flagged d') : d'.pwr = d.pwr := by
  obtain ⟨⟨r, f, s, e, l, o, rfl⟩, -⟩ := h; rfl

theorem Dev.Flagged.running_eq {d d' : Dev} (h : d.Flagged d') (k : TimerKey) : d'.running k = d.running k := by
  obtain ⟨⟨r, f, s, e, l, o, rfl⟩, -⟩ := h; rfl

/-- Settles O44. The status bit of a domain from DOM_ON on and that a request for the present state does nothing
(notes/assumptions/47.md), that nothing changes at a domain that is not in the change or a supply word of no supply
(notes/assumptions/56.md) and a page that is off (notes/assumptions/12.md) are readings of the model. -/
theorem powerDomains : Obligations.PowerDomains := by
  refine ⟨fun s mask hs ho _ => ?_, fun s mask on hs => ?_, fun s dom d1 hs hg h1 => ?_, fun s dom hs hg h10 hb => ?_,
    fun s which hs hw => ?_, fun s dom d0 d1 hs hg hb h0 h1 hp => ?_, fun s dom d0 d1 hs hg hb h0 h1 h10 hp => ?_,
    fun s dom hs h => ?_, fun s dom hs hg => ?_, fun s which d1 hs hw h1 => ?_, fun s which hs hw => ?_, fun s mask hs ho => ?_⟩
  · exact completes_of_exec (exec_domOn hs mask) (hostWrite_domOn s.fuse mask ho)
  · exact completes_of_exec (exec_domOff hs mask on) rfl
  · subst h1
    exact completes_of_exec (exec_domainOnDone hs dom) (if_pos hg)
  · have hshown := Dev.flagged_ev (domOpened dom s.dev) .PWR 0 0
    obtain ⟨hon, hbusy⟩ := domOpened_flags dom s.dev
    refine completes_of_exec (exec_domainOffDone hs dom) ?_
    rw [domainOffDone_opens hg hb (.inl h10)]
    refine ⟨?_, ?_, congrArg Pwr.goingOff hshown.pwr_eq, Dev.evRaw_ev _ _ _ (by decide)⟩
    · rwa [Dev.domOn, Dev.bitOf, hshown.2 _ (by decide) (by decide) (by decide) (by decide)]
    · rwa [Dev.domBusy, Dev.bitOf, hshown.2 _ (by decide) (by decide) (by decide) (by decide)]
  · have hshown := Dev.flagged_raise (supplyTimed (supplyTripped which s.dev)) 0 Kind.PWR.SUPPLY_LOW { arg := which % 8 }
    refine completes_of_exec (exec_supplyLow hs which) ?_
    rw [supplyLow_eq hw]
    refine ⟨?_, (hshown.running_eq _).trans (supplyTimed_running _), Dev.evRaw_raise _ _ _ _ (by decide), fun i hi hbit => ?_⟩
    · rw [hshown.pwr_eq, supplyTimed_pwr]
      rfl
    · obtain ⟨h1, h2, h3, h4⟩ := supplyFld_steady i
      rw [Dev.is_eq, ← supplyFld, hshown.2 _ h1 h2 h3 h4, ← Dev.is_eq]
      exact supplyTripped_is (List.mem_range.mp hi) hbit s.dev
  · subst h0 h1
    exact completes_of_exec (exec_domainOffDone hs dom) (domainOffDone_opens hg hb hp)
  · subst h0 h1
    exact completes_of_exec (exec_domainOffDone hs dom) (domainOffDone_powers hg hb h10 hp)
  · exact completes_of_exec (exec_domainOffDone hs dom) (domainOffDone_other h)
  · exact completes_of_exec (exec_domainOnDone hs dom) (if_neg (ne_true_of_eq_false hg))
  · subst h1
    exact completes_of_exec (exec_supplyLow hs which) (supplyLow_eq hw s.dev)
  · exact completes_of_exec (exec_supplyLow hs which) (if_pos hw)
  · intro k hk
    obtain rfl := List.mem_singleton.mp hk
    exact completes_of_exec (exec_domOn hs mask) (hostWrite_off ho (by decide) (by decide))

end Sys2Proof.Machine
end

section
/-!
PROOF. The flash interface, the management port and the safety inputs (O45; R404, R470, R478, R479).
-/
namespace Sys2Proof.Machine

/-! ### The start of an SPIF operation -/

section
variable (v : Nat) (d : Dev)

theorem spifRange_opcode (op : Nat) : (d.set Reg.SPIF.OP.OPCODE v).spifRange op = d.spifRange op := by
  rw [Dev.spifRange, Dev.get_set_ne _ _ (by decide), Dev.get_set_ne _ _ (by decide), Dev.spifRange]

theorem spifFields_opcode (op : Nat) : (d.set Reg.SPIF.OP.OPCODE v).spifFields op = d.spifFields op := by
  have hflash : (d.set Reg.SPIF.OP.OPCODE v).get Reg.SPIF.FLASH_ADDR.ADDR = d.get Reg.SPIF.FLASH_ADDR.ADDR := Dev.get_set_ne _ _ (by decide)
  have hbasin : (d.set Reg.SPIF.OP.OPCODE v).get Reg.SPIF.BASIN_ADDR.ADDR = d.get Reg.SPIF.BASIN_ADDR.ADDR := Dev.get_set_ne _ _ (by decide)
  have hlen : (d.set Reg.SPIF.OP.OPCODE v).get Reg.SPIF.LEN.BYTES = d.get Reg.SPIF.LEN.BYTES := Dev.get_set_ne _ _ (by decide)
  have hsize : (d.set Reg.SPIF.OP.OPCODE v).get Reg.SPIF.SIZE.LOG2 = d.get Reg.SPIF.SIZE.LOG2 := Dev.get_set_ne _ _ (by decide)
  simp only [Dev.spifFields, Dev.flashSize, hflash, hbasin, hlen, hsize]
  rfl

theorem inDump_opcode (a n : Nat) : (d.set Reg.SPIF.OP.OPCODE v).inDump a n = d.inDump a n := by
  rw [Dev.inDump, Dev.is_eq, Dev.get_set_ne _ _ (by decide), Dev.dumpBase, Dev.get_set_ne _ _ (by decide), ← Dev.is_eq, ← Dev.dumpBase,
    ← Dev.inDump]

end

/-- Is the flash interface taken for an operation: by another one, the copy of a script, a dump, or the dump region itself? -/
def Dev.SpifTaken (d : Dev) (op : Nat) : Prop :=
  d.spif.isSome = true ∨ d.get Reg.SYS.SPRING_STAT.STATE = 1 ∨ d.sed.dump.isSome = true ∨
    ((op = 1 ∨ op = 2) ∧ d.inDump (d.spifRange op).1 (d.spifRange op).2 = true)

section
variable {op : Nat} {d : Dev}

theorem spifTaken_opcode (v : Nat) : (d.set Reg.SPIF.OP.OPCODE v).SpifTaken op ↔ d.SpifTaken op := by
  rw [Dev.SpifTaken, Dev.get_set_ne _ _ (by decide), spifRange_opcode, inDump_opcode, Dev.set_spif, Dev.set_sed, Dev.SpifTaken]

theorem spifGo_taken (h : d.SpifTaken op) : spifGo op d = d.set Reg.SPIF.STAT.RESULT 1 := if_pos h

theorem spifGo_illegal (h : ¬ d.SpifTaken op) (hf : d.spifFields op = false) : spifGo op d = d.set Reg.SPIF.STAT.RESULT 4 :=
  (if_neg h).trans (if_pos hf)

/-- An operation that starts. -/
def spifStarted (op : Nat) (d : Dev) : Dev :=
  { (d.set Reg.SPIF.OP.OPCODE op).put Reg.SPIF.STAT.BUSY true with
    spif := some { op, flash := (d.spifRange op).1, basin := d.get Reg.SPIF.BASIN_ADDR.ADDR, len := (d.spifRange op).2 } }

theorem spifGo_starts (h : ¬ d.SpifTaken op) (hf : d.spifFields op = true) :
    spifGo op (d.set Reg.SPIF.OP.OPCODE op) = spifStarted op d := by
  refine (if_neg fun ht => h ((spifTaken_opcode op).mp ht)).trans ((if_neg (by simp [spifFields_opcode, hf])).trans ?_)
  dsimp only
  rw [spifRange_opcode, Dev.put_eq, Dev.get_set_ne _ _ (by decide), Dev.get_set_ne _ _ (by decide), spifStarted, Dev.put_eq]

theorem spifStarted_busy (op : Nat) (d : Dev) : (spifStarted op d).is Reg.SPIF.STAT.BUSY = true :=
  Dev.is_put_same (d.set Reg.SPIF.OP.OPCODE op) true rfl

theorem spifTaken_read : d.SpifTaken 0 ↔ d.spif.isSome = true ∨ d.get Reg.SYS.SPRING_STAT.STATE = 1 ∨ d.sed.dump.isSome = true := by
  simp [Dev.SpifTaken]

theorem spifTaken_writes (h : op = 1 ∨ op = 2) : d.SpifTaken op ↔ d.spif.isSome = true ∨ d.get Reg.SYS.SPRING_STAT.STATE = 1 ∨
    d.sed.dump.isSome = true ∨ d.inDump (d.spifRange op).1 (d.spifRange op).2 = true := by
  simp [Dev.SpifTaken, h]

theorem not_spifTaken_read (h1 : d.spif = none) (h2 : d.get Reg.SYS.SPRING_STAT.STATE ≠ 1) (h3 : d.sed.dump = none) : ¬ d.SpifTaken 0 := by
  simp [spifTaken_read, h1, h2, h3]

theorem not_spifTaken_writes (h : op = 1 ∨ op = 2) (h1 : d.spif = none) (h2 : d.get Reg.SYS.SPRING_STAT.STATE ≠ 1) (h3 : d.sed.dump = none)
    (h4 : d.inDump (d.spifRange op).1 (d.spifRange op).2 = false) : ¬ d.SpifTaken op := by
  simp [spifTaken_writes h, h1, h2, h3, h4]

theorem hostWrite_spifOp (u : Fuses) {v : Nat} (hv : v < 2 ^ 32) (hgo : bit v 31 = true) (ho : d.pageOff 0x152 = false) :
    hostWrite u 0x152048 v d = spifGo (bits v 1 0) (d.set Reg.SPIF.OP.OPCODE (bits v 1 0)) := by
  rw [hostWrite_fields (b := .SPIF) (n := 0) (off := 0x48) (fs := [Reg.SPIF.OP.GO, Reg.SPIF.OP.OPCODE]) (by decide) ho rfl (by decide)
    (by decide) (by decide) rfl (by decide), Nat.mod_eq_of_lt hv]
  exact if_pos ⟨rfl, hgo⟩

end

/-- The commands that write SPIF.OP. -/
def spifInstr (op : Nat) : Instr := if op = 0 then .spifRead else if op = 1 then .spifProgram else .spifErase

theorem exec_spifInstr {s : State} (hs : s.live) {op : Nat} (h : op < 3) :
    exec (spifInstr op) s = .next { s with dev := hostWrite s.fuse 0x152048 (0x80000000 + op) s.dev } := by
  match op with
  | 0 => exact exec_spifRead hs
  | 1 => exact exec_spifProgram hs
  | 2 => exact exec_spifErase hs

theorem exec_spifInstr_go {s : State} (hs : s.live) {op : Nat} (h : op < 3) (ho : s.dev.pageOff 0x152 = false) :
    exec (spifInstr op) s = .next { s with dev := spifGo op (s.dev.set Reg.SPIF.OP.OPCODE op) } := by
  rw [exec_spifInstr hs h]
  match op with
  | 0 | 1 | 2 => rw [hostWrite_spifOp s.fuse (by decide) (by decide) ho]; rfl

section
variable {s : State} {op : Nat}

theorem completes_spif_starts (hs : s.live) (h : op < 3) (ho : s.dev.pageOff 0x152 = false) (ht : ¬ s.dev.SpifTaken op)
    (hf : s.dev.spifFields op = true) :
    Completes (spifInstr op) s fun d =>
      d = ({ (s.dev.set Reg.SPIF.OP.OPCODE op).put Reg.SPIF.STAT.BUSY true with spif := d.spif } : Dev) ∧
      d.spif = some
        ({ op := op, flash := (s.dev.spifRange op).1, basin := s.dev.get Reg.SPIF.BASIN_ADDR.ADDR, len := (s.dev.spifRange op).2 } : SpifOp) ∧
      d.is Reg.SPIF.STAT.BUSY = true := by
  refine completes_of_exec (exec_spifInstr_go hs h ho) ?_
  rw [spifGo_starts ht hf]
  exact ⟨rfl, rfl, spifStarted_busy ..⟩

theorem completes_spif_taken (hs : s.live) (h : op < 3) (ho : s.dev.pageOff 0x152 = false) (ht : s.dev.SpifTaken op) :
    Completes (spifInstr op) s fun d => d = (s.dev.set Reg.SPIF.OP.OPCODE op).set Reg.SPIF.STAT.RESULT 1 :=
  completes_of_exec (exec_spifInstr_go hs h ho) (spifGo_taken ((spifTaken_opcode op).mpr ht))

theorem completes_spif_illegal (hs : s.live) (h : op < 3) (ho : s.dev.pageOff 0x152 = false) (ht : ¬ s.dev.SpifTaken op)
    (hf : s.dev.spifFields op = false) :
    Completes (spifInstr op) s fun d => d = (s.dev.set Reg.SPIF.OP.OPCODE op).set Reg.SPIF.STAT.RESULT 4 :=
  completes_of_exec (exec_spifInstr_go hs h ho)
    (spifGo_illegal (fun h => ht ((spifTaken_opcode op).mp h)) ((spifFields_opcode ..).trans hf))

end

/-! ### The end of an SPIF operation -/

/-- The device whose operation has ended, before its result. -/
def spifEnded (d : Dev) : Dev := { d.put Reg.SPIF.STAT.BUSY false with spif := none }

section
variable {d : Dev} {x : SpifOp} {moved : Nat}

theorem spifDone_none (ok : Bool) (moved : Nat) (h : d.spif = none) : spifDone ok moved d = d := by
  unfold spifDone
  rw [h]

theorem spifDone_fails (h : d.spif = some x) : spifDone false moved d =
    (if x.op = 0 then spifEnded d
      else ({ spifEnded d with flash := memWrite 0xFF x.flash ((spifEnded d).freeBytes x.len) d.flash } : Dev).drawn).set
        Reg.SPIF.STAT.RESULT 2 := by
  unfold spifDone
  rw [h]
  rfl

theorem spifDone_erased (h : d.spif = some x) (hop : x.op = 2) : spifDone true moved d =
    { (d.put Reg.SPIF.STAT.BUSY false).set Reg.SPIF.STAT.RESULT 0 with spif := none, flash := memClear x.flash x.len d.flash } := by
  unfold spifDone
  rw [h]
  dsimp only
  rw [if_neg (by decide), if_neg (by simp [hop]), hop]
  rfl

theorem spifDone_read (h : d.spif = some x) (hop : x.op = 0) (hu : (spifEnded d).basinUp = true) {n : Nat}
    (hn : (if d.flt.pfailLow = true then min x.len (ceilDiv (x.flash + min moved x.len) 256 * 256 - x.flash) else x.len) = n) :
    spifDone true moved d = ((spifEnded d).basinWrite x.basin (memRead 0xFF d.flash x.flash n) 2 spifMaster).set Reg.SPIF.STAT.RESULT
      (if d.flt.pfailLow = true then 3 else 0) := by
  subst hn
  unfold spifDone
  rw [h]
  dsimp only
  rw [if_neg (by decide), if_neg (by rintro ⟨-, hdown⟩; exact absurd (hu.symm.trans hdown) (by decide)), hop]
  simp [spifEnded, Dev.put_eq]

theorem spifDone_programmed (h : d.spif = some x) (hop : x.op = 1) (hu : (spifEnded d).basinUp = true)
    (hf : (spifEnded d).basinFails x.basin x.len = false) :
    spifDone true moved d =
      ({ (spifEnded d).served 2 x.len with flash := memWrite 0xFF x.flash ((spifEnded d).basinRead x.basin x.len) d.flash } : Dev).set
        Reg.SPIF.STAT.RESULT (if d.flt.pfailLow = true then 3 else 0) := by
  unfold spifDone
  rw [h]
  dsimp only
  rw [if_neg (by decide), if_neg (by rintro ⟨-, hdown⟩; exact absurd (hu.symm.trans hdown) (by decide)), hop]
  refine (if_neg (ne_true_of_eq_false hf)).trans ?_
  simp [spifEnded, Dev.put_eq]

theorem spifDone_cut (h : d.spif = some x) (h2 : x.op ≠ 2)
    (hf : (spifEnded d).basinUp = false ∨ (x.op = 1 ∧ (spifEnded d).basinFails x.basin x.len = true)) :
    spifDone true moved d = (spifEnded d).set Reg.SPIF.STAT.RESULT 3 := by
  unfold spifDone
  rw [h]
  dsimp only
  rw [if_neg (by decide)]
  by_cases hu : (spifEnded d).basinUp = false
  · exact if_pos ⟨h2, hu⟩
  · obtain ⟨hop, hfail⟩ := hf.resolve_left hu
    rw [if_neg fun hc => hu hc.2, hop]
    exact if_pos hfail

end

/-- Settles O45. The order of the refusals of the flash interface and RESULT 3 (notes/assumptions/51.md), the management port's
party and the codes of its accesses (notes/assumptions/9.md), a page that is off (notes/assumptions/12.md) and that nothing changes
where nothing is in progress or low (notes/assumptions/56.md) are readings of the model. -/
theorem servicePorts : Obligations.ServicePorts := by
  refine ⟨fun s offset hs h4 => ?_, fun s v cc d1 hs hr => ?_, fun s value cc d1 hs hw hr => ?_,
    fun s hs ho h1 h2 h3 hf => ?_, fun s hs ho h1 h2 h3 hf hd => ?_, fun s hs ho h1 h2 h3 hf hd => ?_,
    fun s x moved hs hx hop => ?_, fun s hs h => ?_, fun s hs h => ?_,
    fun s hs ho ht => ?_, fun s hs ho ht => ?_, fun s hs ho ht => ?_,
    fun s hs ho ht hf => ?_, fun s hs ho ht hf => ?_, fun s hs ho ht hf => ?_,
    fun s offset ok hs h => ?_, fun s hs => ?_, fun s value ok hs h => ?_,
    fun s x moved n d1 hs hx h1 hop hu hn => ?_, fun s x moved d1 hs hx h1 hop hu hf => ?_, fun s x moved d1 hs hx h1 h2 hf _ => ?_,
    fun s x moved d1 hs hx h1 => ?_, fun s ok moved hs hx => ?_, fun s hs h => ?_, fun s hs h => ?_, fun s hs ho => ?_⟩
  · exact completes_of_exec (exec_smbSetPtr hs offset true) (if_neg (by simp [h4]))
  · refine completes_of_exec (exec_smbRead hs true) ?_
    rw [smbRead, if_neg (by decide), hr]
    rfl
  · refine completes_of_exec (exec_smbWrite hs value true) ?_
    rw [smbWrite, if_neg (by simp [hw]), hr]
    rfl
  · exact completes_spif_starts (op := 0) hs (by decide) ho (not_spifTaken_read h1 h2 h3) hf
  · exact completes_spif_starts (op := 1) hs (by decide) ho (not_spifTaken_writes (.inl rfl) h1 h2 h3 hd) hf
  · exact completes_spif_starts (op := 2) hs (by decide) ho (not_spifTaken_writes (.inr rfl) h1 h2 h3 hd) hf
  · exact completes_of_exec (exec_spifDone hs true moved) (spifDone_erased hx hop)
  · exact completes_of_exec (exec_safeInRelease hs) (if_pos h)
  · exact completes_of_exec (exec_pfailRelease hs) (if_pos h)
  · exact completes_spif_taken (op := 0) hs (by decide) ho (spifTaken_read.mpr ht)
  · exact completes_spif_taken (op := 1) hs (by decide) ho ((spifTaken_writes (.inl rfl)).mpr ht)
  · exact completes_spif_taken (op := 2) hs (by decide) ho ((spifTaken_writes (.inr rfl)).mpr ht)
  · exact completes_spif_illegal (op := 0) hs (by decide) ho (fun h => ht (spifTaken_read.mp h)) hf
  · exact completes_spif_illegal (op := 1) hs (by decide) ho (fun h => ht ((spifTaken_writes (.inl rfl)).mp h)) hf
  · exact completes_spif_illegal (op := 2) hs (by decide) ho (fun h => ht ((spifTaken_writes (.inr rfl)).mp h)) hf
  · exact completes_of_exec (exec_smbSetPtr hs offset ok) (if_pos h)
  · exact completes_of_exec (exec_smbRead hs false) (if_pos rfl)
  · exact completes_of_exec (exec_smbWrite hs value ok) (if_pos h)
  · subst h1
    exact completes_of_exec (exec_spifDone hs true moved) (spifDone_read hx hop hu hn)
  · subst h1
    exact completes_of_exec (exec_spifDone hs true moved) (spifDone_programmed hx hop hu hf)
  · subst h1
    exact completes_of_exec (exec_spifDone hs true moved) (spifDone_cut hx h2 hf)
  · subst h1
    exact completes_of_exec (exec_spifDone hs false moved) (spifDone_fails hx)
  · exact completes_of_exec (exec_spifDone hs ok moved) (spifDone_none ok moved hx)
  · exact completes_of_exec (exec_safeInRelease hs) (if_neg (ne_true_of_eq_false h))
  · exact completes_of_exec (exec_pfailRelease hs) (if_neg (ne_true_of_eq_false h))
  · intro k hk
    obtain rfl | hk := List.mem_cons.mp hk
    · exact completes_of_exec (exec_spifRead hs) (hostWrite_off ho (by decide) (by decide))
    · obtain rfl | rfl := List.mem_pair.mp hk
      · exact completes_of_exec (exec_spifProgram hs) (hostWrite_off ho (by decide) (by decide))
      · exact completes_of_exec (exec_spifErase hs) (hostWrite_off ho (by decide) (by decide))

end Sys2Proof.Machine
end

section
/-!
PROOF. Sediment records, freezing, the dump to flash and the power failure (O39; R414, R415, R417 to R419, R470).
-/
namespace Sys2Proof.Machine

/-! ### What flags and faults leave of the collector and of Sediment -/

/-- `d'` differs from `d` only where flags and faults act: the collector but for its inbox and Sediment but for its FIFO are
kept, and all of Sediment while it is frozen. -/
structure Dev.Noted (d d' : Dev) : Prop where
  flagged : d.Flagged d'
  inbox : ∃ q, d'.flt = { d.flt with inbox := q }
  fifo : ∃ q, d'.sed = { d.sed with fifo := q }
  frozen : d.is Reg.SED.STAT.FROZEN = true → d'.sed = d.sed

theorem Dev.Noted.trans {a b c : Dev} (h : a.Noted b) (k : b.Noted c) : a.Noted c := by
  obtain ⟨l, hl⟩ := h.inbox
  obtain ⟨m, hm⟩ := k.inbox
  obtain ⟨p, hp⟩ := h.fifo
  obtain ⟨q, hq⟩ := k.fifo
  refine ⟨h.flagged.trans k.flagged, ⟨m, by rw [hm, hl]⟩, ⟨q, by rw [hq, hp]⟩, fun hf => ?_⟩
  have hf' : b.is Reg.SED.STAT.FROZEN = true := by
    rwa [Dev.is_eq, h.flagged.2 _ (by decide) (by decide) (by decide) (by decide), ← Dev.is_eq]
  rw [k.frozen hf', h.frozen hf]

theorem Dev.Flagged.noted {d d' : Dev} (h : d.Flagged d') (hf : d'.flt = d.flt) (hs : d'.sed = d.sed) : d.Noted d' :=
  ⟨h, ⟨_, hf⟩, ⟨_, hs⟩, fun _ => hs⟩

theorem Dev.Noted.refl (d : Dev) : d.Noted d := (Dev.Flagged.refl d).noted rfl rfl

theorem Dev.noted_foldl {α : Type} (f : Dev → α → Dev) (h : ∀ (d : Dev) (a : α), d.Noted (f d a)) (l : List α) (d : Dev) :
    d.Noted (l.foldl f d) := by
  induction l generalizing d with
  | nil => exact .refl d
  | cons a l ih => exact (h d a).trans (ih _)

theorem Dev.noted_sendOn (d : Dev) (l : Nat) (c : Bytes) : d.Noted (d.sendOn l c) := by
  refine (d.flagged_sendOn l c).noted ?_ ?_ <;>
  · unfold Dev.sendOn
    dsimp only
    split_ifs <;> rfl

theorem Dev.noted_broadcast (d : Dev) (t : Nat) (p : Bytes) : d.Noted (d.broadcast t p) := by
  unfold Dev.broadcast
  dsimp only
  split_ifs
  · exact (((Dev.flagged_of_regs rfl ⟨_, _, _, _, _, rfl⟩ : d.Flagged (d.nextSeq (cellClass t)).2).noted rfl rfl).trans
      (Dev.noted_sendOn ..)).trans (Dev.noted_sendOn ..)
  · exact .refl d

theorem Dev.noted_forwardEvent (d : Dev) (s : Nat) : d.Noted (d.forwardEvent s) :=
  Dev.noted_foldl _ (fun d i => by
    split_ifs
    · exact d.noted_broadcast _ _
    · exact .refl d) _ d

theorem Dev.noted_sedOffer (d : Dev) (r : SedRec) : d.Noted (d.sedOffer r) := by
  have hflag := d.flagged_sedOffer r
  unfold Dev.sedOffer at hflag ⊢
  split_ifs at hflag ⊢ with h
  · exact ⟨hflag, ⟨_, rfl⟩, ⟨_, rfl⟩, fun hf => by simp [Dev.sedTakes, hf] at h⟩
  · exact hflag.noted rfl rfl

theorem Dev.fltLocal_rest (d : Dev) (page kind sev : Nat) (a : FArg) :
    (d.fltLocal page kind sev a).flt = d.flt ∧ (d.fltLocal page kind sev a).sed = d.sed := by
  unfold Dev.fltLocal
  dsimp only
  split_ifs <;> exact ⟨rfl, rfl⟩

theorem Dev.noted_post (d : Dev) (n : Nat) (k : FKind) (sev : Nat) (a : FArg) : d.Noted (d.post n k sev a) := by
  have hflag := d.flagged_post n k sev a
  unfold Dev.post at hflag ⊢
  dsimp only at hflag ⊢
  obtain ⟨hflt, hsed⟩ := d.fltLocal_rest (pg k.blk n) k.code (d.policyOf ((k.blk.source n k.bit).getD 0) k.code (some sev)).1 a
  exact ⟨hflag, ⟨_, by rw [hflt]⟩, ⟨_, hsed⟩, fun _ => hsed⟩

theorem Dev.noted_riseRecord (d : Dev) (s : Nat) : d.Noted (d.riseRecord s) := by
  unfold Dev.riseRecord
  dsimp only
  split_ifs
  · exact ((d.noted_sedOffer _).trans (Dev.noted_post ..)).trans (Dev.noted_forwardEvent ..)
  · exact (d.noted_sedOffer _).trans (Dev.noted_post ..)
  · exact d.noted_sedOffer _

theorem Dev.noted_onRise (d : Dev) (s : Nat) : d.Noted (d.onRise s) := by
  unfold Dev.onRise
  split_ifs
  · exact (d.noted_riseRecord s).trans (Dev.noted_forwardEvent ..)
  · exact d.noted_forwardEvent s

/-- The bit that a block sets, with what its rise starts. -/
theorem Dev.noted_ev (d : Dev) (b : Blk) (n bit : Nat) : d.Noted (d.ev b n bit) := by
  have hset : d.Noted (d.setBit (Reg.HDR.EV_RAW (pg b n)) bit) :=
    (Dev.flagged_set _ (by simp [Reg.HDR.EV_RAW]) (by simp [Reg.HDR.EV_RAW])).noted rfl rfl
  unfold Dev.ev Dev.rising
  split
  · exact hset
  · split_ifs
    · exact hset.trans (Dev.noted_onRise ..)
    · exact hset

theorem Dev.noted_raise (d : Dev) (n : Nat) (k : FKind) (a : FArg) : d.Noted (d.raise n k a) :=
  (d.noted_ev ..).trans (Dev.noted_post ..)

/-! ### The log frozen and released -/

/-- The device as its log freezes, before the event. -/
def sedFrozen (d : Dev) : Dev :=
  { (d.put Reg.SED.STAT.FROZEN true).bump Reg.SED.LOST.COUNT d.sed.fifo.length with sed := { d.sed with fifo := [], post := none } }

theorem sedFrozen_is (d : Dev) : (sedFrozen d).is Reg.SED.STAT.FROZEN = true := by
  have hget : (sedFrozen d).get Reg.SED.STAT.FROZEN = (d.put Reg.SED.STAT.FROZEN true).get Reg.SED.STAT.FROZEN :=
    Dev.get_set_ne _ _ (by decide)
  rw [Dev.is_eq, hget, ← Dev.is_eq, Dev.is_put_same _ _ rfl]

theorem sedFreeze_frozen {d : Dev} (h : d.is Reg.SED.STAT.FROZEN = true) : sedFreeze d = d := if_pos h

theorem sedFreeze_eq {d : Dev} (h : d.is Reg.SED.STAT.FROZEN = false) : sedFreeze d = (sedFrozen d).ev .SED 0 0 :=
  if_neg (ne_true_of_eq_false h)

/-- What a log that freezes shows: it is empty, and its event raised. -/
theorem sedFrozen_ev (d : Dev) : ((sedFrozen d).ev .SED 0 0).is Reg.SED.STAT.FROZEN = true ∧ ((sedFrozen d).ev .SED 0 0).sed.fifo = [] ∧
    ((sedFrozen d).ev .SED 0 0).sed.post = none ∧ ((sedFrozen d).ev .SED 0 0).evRaw .SED 0 0 = true := by
  obtain ⟨hflag, -, -, hsed⟩ := Dev.noted_ev (sedFrozen d) .SED 0 0
  have hfrozen := sedFrozen_is d
  refine ⟨?_, ?_, ?_, Dev.evRaw_ev _ _ _ (by decide)⟩
  · rwa [Dev.is_eq, hflag.2 _ (by decide) (by decide) (by decide) (by decide), ← Dev.is_eq]
  · rw [hsed hfrozen]
    rfl
  · rw [hsed hfrozen]
    rfl

theorem sedRelease_flags (d : Dev) : (sedRelease d).is Reg.SED.STAT.FROZEN = false ∧ (sedRelease d).is Reg.SED.STAT.PROTECT = false := by
  refine ⟨?_, Dev.is_put_same (d.put Reg.SED.STAT.FROZEN false) false rfl⟩
  change ((d.put Reg.SED.STAT.FROZEN false).put Reg.SED.STAT.PROTECT false).is Reg.SED.STAT.FROZEN = false
  rw [Dev.is_eq, Dev.put_eq _ Reg.SED.STAT.PROTECT, Dev.get_set_ne _ _ (by decide), ← Dev.is_eq, Dev.is_put_same _ _ rfl]

theorem hostWrite_sedCtrl (u : Fuses) (v : Nat) {d : Dev} (ho : d.pageOff 6 = false) : hostWrite u 0x6054 v d = sedCtrl (v % 2 ^ 32) d :=
  hostWrite_actsOnly (b := .SED) (n := 0) (off := 0x54) (fs := [Reg.SED.CTRL.DUMP_CLEAR, Reg.SED.CTRL.RELEASE, Reg.SED.CTRL.FREEZE])
    (by decide) ho rfl (by decide) (by decide) (by decide) rfl
    (by simp [Fld.ActsOnly, Reg.SED.CTRL.DUMP_CLEAR, Reg.SED.CTRL.RELEASE, Reg.SED.CTRL.FREEZE])

/-! ### Records -/

section
variable {d : Dev} {r : SedRec} {rest : List SedRec}

theorem sedimentRecord_none (h : d.sed.fifo = [] ∨ d.sed.post = some 0) : sedimentRecord d = d := by
  unfold sedimentRecord
  split
  · rfl
  · next hf => exact if_pos (h.resolve_left (by simp [hf]))

/-- The device with what waits in the FIFO. -/
def sedWaiting (rest : List SedRec) (d : Dev) : Dev := { d with sed := { d.sed with fifo := rest } }

theorem sedimentRecord_stores (h : d.sed.fifo = r :: rest) (hp : d.sed.post ≠ some 0) :
    sedimentRecord d = sedStore r (sedWaiting rest d) := by
  unfold sedimentRecord
  rw [h]
  exact if_neg hp

theorem sedStore_protected (h : d.sedProtected (d.get Reg.SED.HEAD.SEQ) = true) :
    sedStore r d = sedFreeze (d.bump Reg.SED.LOST.COUNT 1) := if_pos h

/-- The device with the next sequence number and one record more. -/
def sedCounted (d : Dev) : Dev :=
  (d.set Reg.SED.HEAD.SEQ ((d.get Reg.SED.HEAD.SEQ + 1) % 65536)).bump Reg.SED.TOTAL.COUNT 1

theorem sedStore_stored (h : d.sedProtected (d.get Reg.SED.HEAD.SEQ) = false) : sedStore r d =
    { sedCounted d with sed := { d.sed with
        mem := memWrite 0 (32 * (d.get Reg.SED.HEAD.SEQ % 32768)) (sedBytes (d.get Reg.SED.HEAD.SEQ) r) d.sed.mem
        post := match d.sed.post with
          | some k => some (k - 1)
          | none => if r.trigger then some ((sedCounted d).get Reg.SED.FREEZE_CFG.POST) else none } } := by
  refine (if_neg (ne_true_of_eq_false h)).trans ?_
  rfl

theorem sedCounted_seq (d : Dev) : (sedCounted d).get Reg.SED.HEAD.SEQ = (d.get Reg.SED.HEAD.SEQ + 1) % 65536 := by
  rw [sedCounted, Dev.bump_eq, Dev.get_set_ne _ _ (by decide), Dev.get_set_same]
  exact Nat.mod_eq_of_lt (Nat.mod_lt _ (by decide))

end

/-! ### The dump -/

section
variable {d : Dev} {x : Dump}

theorem dumpStart_none (h : d.sed.dump = none ∨ (∃ x ∈ d.sed.dump, x.started = true ∨ d.spif.isSome = true)) : dumpStart d = d := by
  unfold dumpStart
  split
  · rfl
  · next y hy =>
    obtain ⟨x, hx, hor⟩ := h.resolve_left (by simp [hy])
    obtain rfl : y = x := Option.some.inj (hy.symm.trans hx)
    exact if_pos hor

theorem dumpStart_refused (h : d.sed.dump = some x) (hx : x.started = false) (hs : d.spif = none)
    (hn : ¬ (d.is Reg.SED.DUMP_CFG.EN = true ∧ d.sed.region = 1)) :
    dumpStart d = { d.set Reg.SED.DUMP_STAT.CODE 4 with sed := { d.sed with dump := none } } := by
  unfold dumpStart
  rw [h]
  exact (if_neg (by simp [hx, hs])).trans (if_pos hn)

/-- The blocks of a dump set, compressed. -/
def dumpPacked (x : Dump) : List Bytes :=
  (List.range x.blocks.length).map fun b => packBlock 1 (Config.tokens 2 1 4096 0 (x.blocks.flatMap id) b) (nth [] x.blocks b)

/-- The compressed dump set with its end record. -/
def dumpBody (x : Dump) : Bytes := (dumpPacked x).flatMap id ++ endRecord (dumpPacked x).length (x.blocks.flatMap id).length

theorem dumpStart_starts (h : d.sed.dump = some x) (hx : x.started = false) (hs : d.spif = none)
    (he : d.is Reg.SED.DUMP_CFG.EN = true) (hr : d.sed.region = 1) :
    dumpStart d = { ((cmpCut 3 5 d).shallowsWrite (63 * 524288) (dumpBody x)).set Reg.SED.DUMP_STAT.BLOCKS 0 with
      sed := { (cmpCut 3 5 d).sed with dump := some { x with
        started := true
        bytes := x.header ++ List.replicate (256 - x.header.length) 0xFF ++ dumpBody x
        ends := (List.range (dumpPacked x).length).map fun b => 256 + (((dumpPacked x).take (b + 1)).map List.length).foldl (· + ·) 0 } } } := by
  unfold dumpStart
  rw [h]
  exact (if_neg (by simp [hx, hs])).trans (if_neg (fun hn => hn ⟨he, hr⟩))

theorem dumpPage_none (ok : Bool) (h : d.sed.dump = none ∨ (∃ x ∈ d.sed.dump, x.started = false ∨ x.bytes = [])) : dumpPage ok d = d := by
  unfold dumpPage
  split
  · rfl
  · next y hy =>
    obtain ⟨x, hx, hor⟩ := h.resolve_left (by simp [hy])
    obtain rfl : y = x := Option.some.inj (hy.symm.trans hx)
    exact if_pos hor

theorem dumpPage_started (ok : Bool) (h : d.sed.dump = some x) (hx : x.started = true) (hb : x.bytes ≠ []) : dumpPage ok d =
    if ok = false then (dumpClose 3 x d).raise 0 Kind.SED.DUMP_FAIL
    else
      ({ d with
          flash := memWrite 0xFF (d.dumpBase + x.at_) (x.bytes.take 256) d.flash
          sed := { d.sed with region := 2, dump := some { x with bytes := x.bytes.drop 256, at_ := x.at_ + 256 } } } : Dev).set
        Reg.SED.DUMP_STAT.BLOCKS (x.ends.filter fun e => decide (e ≤ x.at_ + 256)).length := by
  unfold dumpPage
  rw [h]
  exact if_neg (by simp [hx, hb])

theorem dumpEnd_none (h : d.sed.dump = none ∨ (∃ x ∈ d.sed.dump, x.started = false ∨ x.bytes ≠ [])) : dumpEnd d = d := by
  unfold dumpEnd
  split
  · next y hy =>
    obtain ⟨x, hx, hor⟩ := h.resolve_left (by simp [hy])
    obtain rfl : y = x := Option.some.inj (hy.symm.trans hx)
    exact if_neg fun ⟨hs, hb⟩ => hor.elim (fun h => absurd (h.symm.trans hs) (by decide)) fun h => h hb
  · rfl

theorem dumpEnd_closes (h : d.sed.dump = some x) (hx : x.started = true) (hb : x.bytes = []) : dumpEnd d = dumpClose 1 x d := by
  unfold dumpEnd
  rw [h]
  exact if_pos ⟨hx, hb⟩

/-- A dump that has closed leaves no dump, and the wipe that waits for it. -/
theorem dumpClose_sed (code : Nat) (x : Dump) (d : Dev) :
    (dumpClose code x d).sed.dump = none ∧ (dumpClose code x d).sed.wipeWaits = d.sed.wipeWaits := by
  obtain ⟨q, hq⟩ := (Dev.noted_ev ((({ d with sed := { d.sed with dump := none } } : Dev).set Reg.SED.DUMP_STAT.CODE code).set
    Reg.SED.DUMP_TS.TS x.ts) .SED 0 1).fifo
  rw [dumpClose, hq]
  exact ⟨rfl, rfl⟩

theorem dumpEnds_closes (h : d.sed.dump = some x) (hx : x.started = true) (hb : x.bytes = []) : dumpEnds d =
    if d.sed.wipeWaits = true then { sedWipe (dumpClose 1 x d) with sed := { (sedWipe (dumpClose 1 x d)).sed with wipeWaits := false } }
    else dumpClose 1 x d := by
  obtain ⟨hdump, hwaits⟩ := dumpClose_sed 1 x d
  rw [dumpEnds, dumpEnd_closes h hx hb]
  dsimp only
  rw [hwaits]
  exact if_congr (and_iff_left hdump) rfl rfl

theorem dumpEnds_none (hw : d.sed.wipeWaits = false) (h : d.sed.dump = none ∨ (∃ x ∈ d.sed.dump, x.started = false ∨ x.bytes ≠ [])) :
    dumpEnds d = d := by
  rw [dumpEnds, dumpEnd_none h]
  exact if_neg (by simp [hw])

end

/-! ### The power failure -/

/-- PFAIL low, its fault raised. -/
def pfailRaised (d : Dev) : Dev := ({ d with flt := { d.flt with pfailLow := true } } : Dev).raise 0 Kind.FLT.PFAIL

theorem pfailRaised_low (d : Dev) : (pfailRaised d).flt.pfailLow = true := by
  obtain ⟨q, hq⟩ := (Dev.noted_raise { d with flt := { d.flt with pfailLow := true } } 0 Kind.FLT.PFAIL {}).inbox
  rw [pfailRaised, hq]

theorem pfail_falls {d : Dev} (h : d.flt.pfailLow = false) :
    pfail d = (List.range (pfailRaised d).flt.inbox.length).foldl (fun d _ => faultMessage d) (pfailRaised d) :=
  if_neg (ne_true_of_eq_false h)

/-- A critical command that ends leaves the level of PFAIL_N. -/
theorem secEnd_pfailLow (code : Nat) (d : Dev) : (secEnd code d).flt.pfailLow = d.flt.pfailLow := by
  unfold secEnd
  split
  · rfl
  · obtain ⟨q, hq⟩ := (Dev.noted_ev _ .SEC 0 0).inbox
    dsimp only [secResult]
    rw [hq]
    rfl

/-- The device whose power failure ends a critical command that programs no fuse. -/
def pfailEnds (d : Dev) : Dev := if d.sec.cmd.isSome = true ∧ d.fusing = false then secEnd 0x10 (dropCopies d) else d

theorem pfailEnds_low (d : Dev) : (pfailEnds d).flt.pfailLow = d.flt.pfailLow := by
  unfold pfailEnds
  split_ifs
  · exact secEnd_pfailLow ..
  · rfl

theorem pfailFalls_falls {d : Dev} (h : d.flt.pfailLow = false) : pfailFalls d = pfail (pfailEnds d) := by
  rw [pfailFalls, pfailEnds]
  exact congrArg pfail (if_congr (and_iff_right h) rfl rfl)

theorem pfailFalls_low {d : Dev} (h : d.flt.pfailLow = true) : pfailFalls d = d := by
  rw [pfailFalls, if_neg (by simp [h])]
  exact if_pos h

/-- Settles O39. LOST at a freeze (notes/assumptions/43.md), the order and the codes of a dump (notes/assumptions/44.md), the commands
that a power failure ends (notes/assumptions/48.md), that nothing changes where nothing is stored, frozen, programmed or cleared
(notes/assumptions/56.md) and a page that is off (notes/assumptions/12.md) are readings of the model. -/
theorem sedimentLog : Obligations.SedimentLog := by
  refine ⟨fun s r rest d0 d1 hs hf hp hprot h0 h1 => ?_, fun s r rest hs hf hp hprot => ?_, fun s hs h => ?_,
    fun s hs hp hf => ?_, fun s hs h => ?_, fun s hs ho hf => ?_, fun s hs ho hf => ?_, fun s hs ho => ?_, fun s hs ho => ?_,
    fun s hs h => ?_, fun s hs h => ?_, fun s d0 d1 hs hl h0 h1 => ?_, fun s hs hl => ?_,
    fun s x pk d1 hs hx hst hsp he hr h1 hpk => ?_, fun s x hs hx hst hsp hn => ?_, fun s hs h => ?_,
    fun s x hs hx hst hb => ?_, fun s x hs hx hst hb => ?_, fun s ok hs h => ?_, fun s x d1 hs hx hst hb h1 => ?_,
    fun s hs hw h => ?_, fun s hs => ?_, fun s hs ho => ?_⟩
  · subst h0 h1
    refine completes_of_exec (exec_sedimentRecord hs) ?_
    rw [sedimentRecord_stores hf hp, sedStore_stored (d := sedWaiting rest s.dev) hprot]
    exact ⟨rfl, rfl, sedCounted_seq (sedWaiting rest s.dev)⟩
  · refine completes_of_exec (exec_sedimentRecord hs) ?_
    rw [sedimentRecord_stores hf hp, sedStore_protected (d := sedWaiting rest s.dev) hprot]
    rfl
  · exact completes_of_exec (exec_sedimentRecord hs) (sedimentRecord_none h)
  · refine completes_of_exec (exec_freezeCountEnd hs) ?_
    rw [freezeCountEnd, if_pos hp, sedFreeze_eq hf]
    exact ⟨rfl, sedFrozen_ev s.dev⟩
  · refine completes_of_exec (exec_freezeCountEnd hs) ?_
    rw [freezeCountEnd]
    split_ifs with hp
    · exact sedFreeze_frozen (h.resolve_left (fun hn => hn hp))
    · rfl
  · refine completes_of_exec (exec_freeze hs) ?_
    have hfreeze : sedCtrl (1 % 2 ^ 32) s.dev = sedFreeze s.dev := rfl
    rw [hostWrite_sedCtrl s.fuse 1 ho, hfreeze, sedFreeze_eq hf]
    exact ⟨rfl, sedFrozen_ev s.dev⟩
  · exact completes_of_exec (exec_freeze hs) ((hostWrite_sedCtrl s.fuse 1 ho).trans (sedFreeze_frozen hf))
  · refine completes_of_exec (exec_release hs) ?_
    rw [hostWrite_sedCtrl s.fuse 2 ho]
    exact ⟨rfl, sedRelease_flags s.dev⟩
  · exact completes_of_exec (exec_dumpClear hs) (hostWrite_sedCtrl s.fuse 4 ho)
  · exact completes_of_exec (exec_dumpEraseDone hs) (if_pos h)
  · exact completes_of_exec (exec_dumpEraseDone hs) (if_neg h)
  · subst h0 h1
    refine completes_of_exec (exec_pfail hs) ⟨?_, pfailRaised_low _⟩
    rw [pfailFalls_falls hl, pfail_falls ((pfailEnds_low _).trans hl)]
    rfl
  · exact completes_of_exec (exec_pfail hs) (pfailFalls_low hl)
  · subst h1 hpk
    exact completes_of_exec (exec_dumpStart hs) (dumpStart_starts hx hst hsp he hr)
  · exact completes_of_exec (exec_dumpStart hs) (dumpStart_refused hx hst hsp hn)
  · exact completes_of_exec (exec_dumpStart hs) (dumpStart_none h)
  · exact completes_of_exec (exec_dumpPage hs true) (dumpPage_started true hx hst hb)
  · exact completes_of_exec (exec_dumpPage hs false) (dumpPage_started false hx hst hb)
  · exact completes_of_exec (exec_dumpPage hs ok) (dumpPage_none ok h)
  · subst h1
    exact completes_of_exec (exec_dumpEnd hs) (dumpEnds_closes hx hst hb)
  · exact completes_of_exec (exec_dumpEnd hs) (dumpEnds_none hw h)
  · exact completes_of_exec (exec_pfailShed hs) rfl
  · intro k hk
    obtain rfl | hk := List.mem_cons.mp hk
    · exact completes_of_exec (exec_freeze hs) (hostWrite_off ho (by decide) (by decide))
    · obtain rfl | rfl := List.mem_pair.mp hk
      · exact completes_of_exec (exec_release hs) (hostWrite_off ho (by decide) (by decide))
      · exact completes_of_exec (exec_dumpClear hs) (hostWrite_off ho (by decide) (by decide))

end Sys2Proof.Machine
end

section
/-!
PROOF. The critical commands (O40; Tables 19.1 and 19.3).
-/
namespace Sys2Proof.Machine

/-! ### What flags leave of the security block -/

theorem Dev.Flagged.sec_eq {d d' : Dev} (h : d.Flagged d') : d'.sec = d.sec := by
  obtain ⟨⟨r, f, s, e, l, o, rfl⟩, -⟩ := h; rfl

/-- A bring-up flag keeps its value or takes it; what follows is flags and faults. -/
theorem Dev.flagged_bringup (d : Dev) (f : Fld) (v : Bool) : ∃ e : Dev, (e = d ∨ e = d.put f v) ∧ e.Flagged (d.bringup f v) := by
  unfold Dev.bringup
  dsimp only
  split_ifs
  · exact ⟨d, .inl rfl, .refl d⟩
  · exact ⟨_, .inr rfl, (Dev.flagged_ev ..).trans (Dev.flagged_ev ..)⟩
  · exact ⟨_, .inr rfl, (Dev.flagged_ev ..).trans (Dev.flagged_ev ..)⟩
  · exact ⟨_, .inr rfl, Dev.flagged_ev ..⟩

theorem Dev.bringup_sec (d : Dev) (f : Fld) (v : Bool) : (d.bringup f v).sec = d.sec := by
  obtain ⟨e, rfl | rfl, h⟩ := d.flagged_bringup f v <;> exact h.sec_eq

/-! ### The mailbox -/

/-- Fields set one after the other leave a field elsewhere. -/
theorem get_foldl_set {f : Fld} {g : Nat → Fld} {v : Nat → Nat} {l : List Nat} (h : ∀ i ∈ l, f.key ≠ (g i).key) (d : Dev) :
    (l.foldl (fun d i => d.set (g i) (v i)) d).get f = d.get f := by
  induction l generalizing d with
  | nil => rfl
  | cons i l ih =>
    obtain ⟨hi, hl⟩ := List.forall_mem_cons.mp h
    exact (ih hl _).trans (Dev.get_set_ne _ _ hi)

section
variable (op slot : Nat) (args : List Nat) (cnt tag : Nat) (d : Dev)

/-- The mode is no register of the mailbox. -/
theorem mailed_mode : (d.mailed op slot args cnt tag).mode = d.mode := by
  rw [Dev.mode, Dev.mailed, get_foldl_set (by decide), Dev.get_set_ne _ _ (by decide), get_foldl_set (by decide),
    Dev.get_set_ne _ _ (by decide), Dev.get_set_ne _ _ (by decide), Dev.mode]

theorem mailed_opcode : (mailbox (d.mailed op slot args cnt tag)).opcode = op % 256 := by
  change (d.mailed op slot args cnt tag).get Reg.SEC.CMD_OP.OPCODE = _
  rw [Dev.mailed, get_foldl_set (by decide), Dev.get_set_ne _ _ (by decide), get_foldl_set (by decide), Dev.get_set_ne _ _ (by decide),
    Dev.get_set_same]
  rfl

theorem mailed_cnt : (mailbox (d.mailed op slot args cnt tag)).cnt = cnt % 2 ^ 64 := by
  change (d.mailed op slot args cnt tag).get Reg.SEC.CMD_CNT.COUNT = _
  rw [Dev.mailed, get_foldl_set (by decide), Dev.get_set_same]
  rfl

end

/-! ### A command that passes the checks -/

section
variable {s : State} {d : Dev}

/-- A mailbox that authorises its command has it carried out. -/
theorem secGo_authorised (h : s.authorises d) : secGo s.fuse d = carryOut (mailbox d) d.counted := by
  obtain ⟨hmail, htag, hown⟩ := h
  unfold secGo
  dsimp only
  rw [hmail]
  dsimp only
  rw [if_neg (by simp [htag]), ← Dev.counted, hown]

/-- One whose tag does not verify fails (R445). -/
theorem secGo_badTag (hmail : mailCheck s.fuse (mailbox d) d = none)
    (htag : s.fuse.verifies (d.get Reg.SEC.NONCE.NONCE) (mailbox d) = false) : secGo s.fuse d = tagFails (mailbox d) d := by
  unfold secGo
  dsimp only
  rw [hmail]
  exact if_pos htag

end

theorem counted_mode (d : Dev) : d.counted.mode = d.mode := by
  rw [Dev.mode, Dev.counted, Dev.get_set_ne _ _ (by decide), Dev.get_set_ne _ _ (by decide), Dev.mode]

theorem secBusy_mode (m : Mail) (d : Dev) : (secBusy m d).mode = d.mode := by
  change (d.put Reg.SEC.CMD_STAT.BUSY true).get Reg.SYS.MODE_STAT.MODE = _
  exact Dev.get_set_ne _ _ (by decide)

theorem secBusy_is_busy (m : Mail) (d : Dev) : (secBusy m d).is Reg.SEC.CMD_STAT.BUSY = true :=
  Dev.is_put_same (f := Reg.SEC.CMD_STAT.BUSY) d true rfl

/-- The device that a command finds in progress: counted and busy. -/
def secTaken (d : Dev) : Dev := secBusy (mailbox d) d.counted

theorem secTaken_mode (d : Dev) : (secTaken d).mode = d.mode := (secBusy_mode ..).trans (counted_mode d)

section
variable {m : Mail} {d : Dev}

theorem carryOut_programs (h : m.opcode = 2 ∨ m.opcode = 3 ∨ m.opcode = 8) : carryOut m d = secBusy m d := by
  unfold carryOut
  rcases h with h | h | h <;> rw [h] <;> rfl

theorem carryOut_lifecycle (h : m.opcode = 1) : carryOut m d =
    if (secBusy m d).mode = 0 then (secBusy m d).put Reg.SYS.MODE_STAT.PENDING false else modeAccepted 0 true (secBusy m d) := by
  unfold carryOut
  rw [h]
  rfl

theorem carryOut_energy (h : m.opcode = 4) : carryOut m d =
    commitCheck (energyCommit m.table (m.arg 2) (m.arg 3) (secBusy m d)).thm.copying.isSome
      (energyCommit m.table (m.arg 2) (m.arg 3) (secBusy m d)) := by
  unfold carryOut
  rw [h]
  rfl

theorem carryOut_policy (h : m.opcode = 5) : carryOut m d =
    commitCheck (policyCommit m.table (m.arg 2) (m.arg 3) (secBusy m d)).flt.copying.isSome
      (policyCommit m.table (m.arg 2) (m.arg 3) (secBusy m d)) := by
  unfold carryOut
  rw [h]
  rfl

theorem carryOut_arms (h : m.opcode = 6) : carryOut m d = secEnd 0 (headPowerArm (m.arg 0) (secBusy m d)) := by
  unfold carryOut
  rw [h]
  rfl

theorem carryOut_prints (h : m.opcode = 7) : carryOut m d = secEnd 0 ((secBusy m d).bringup Reg.SYS.BRINGUP.PRINT_ARMED true) := by
  unfold carryOut
  rw [h]
  rfl

theorem carryOut_wipes (h : m.opcode = 9) : carryOut m d = secEnd 0 (wipeNow (m.arg 0) (secBusy m d)) := by
  unfold carryOut
  rw [h]
  rfl

theorem carryOut_lockPolicy (h : m.opcode = 10) : carryOut m d = secEnd 0 (lockPolicy (m.arg 0) (secBusy m d)) := by
  unfold carryOut
  rw [h]
  rfl

/-- A lifecycle change in STANDBY programs its fuse at once. -/
theorem lifecycle_fusing (h : m.opcode = 1) (hmode : (secBusy m d).mode = 0) :
    ((secBusy m d).put Reg.SYS.MODE_STAT.PENDING false).fusing = true := by
  have hstandby : ((secBusy m d).put Reg.SYS.MODE_STAT.PENDING false).mode = 0 := (Dev.get_set_ne _ _ (by decide)).trans hmode
  have hpending : ((secBusy m d).put Reg.SYS.MODE_STAT.PENDING false).is Reg.SYS.MODE_STAT.PENDING = false := Dev.is_put_same _ _ rfl
  have hcmd : ((secBusy m d).put Reg.SYS.MODE_STAT.PENDING false).sec.cmd = some m := rfl
  unfold Dev.fusing
  rw [hcmd]
  simp [h, hstandby, hpending]

end

/-! ### The end of a command -/

/-- The device of a command that has ended, before the event. -/
def secEnded (m : Mail) (code : Nat) (d : Dev) : Dev :=
  (((({ d with sec := { d.sec with cmd := none, step := 0, killed := false } } : Dev).put Reg.SEC.CMD_STAT.BUSY false).put
    Reg.SEC.CMD_STAT.ENDED true).set Reg.SEC.CMD_STAT.OPCODE m.opcode).set Reg.SEC.CMD_STAT.RESULT code

section
variable {m : Mail} {code : Nat} {d : Dev}

theorem secEnd_eq (h : d.sec.cmd = some m) : secEnd code d = (secEnded m code d).ev .SEC 0 0 := by
  unfold secEnd
  rw [h]
  rfl

theorem secEnd_cmd (code : Nat) (d : Dev) : (secEnd code d).sec.cmd = none := by
  cases h : d.sec.cmd with
  | none =>
    unfold secEnd
    rw [h]
    exact h
  | some m =>
    rw [secEnd_eq h, (Dev.flagged_ev ..).sec_eq]
    rfl

theorem secEnd_result (h : d.sec.cmd = some m) (code : Nat) : (secEnd code d).get Reg.SEC.CMD_STAT.RESULT = code % 256 := by
  rw [secEnd_eq h, (Dev.flagged_ev ..).2 _ (by decide) (by decide) (by decide) (by decide), secEnded, Dev.get_set_same]
  rfl

/-- A field past the headers that is none of CMD_STAT keeps its value when a command ends. -/
theorem secEnd_get (code : Nat) (d : Dev) {f : Fld} (h1 : 0x40 ≤ f.off) (h2 : f.off < 4096) (h3 : f.lo < 64)
    (h4 : f.key ≠ Reg.SED.LOST.COUNT.key) (hf : ∀ g ∈ [Reg.SEC.CMD_STAT.BUSY, Reg.SEC.CMD_STAT.ENDED, Reg.SEC.CMD_STAT.OPCODE,
      Reg.SEC.CMD_STAT.RESULT], f.key ≠ g.key) : (secEnd code d).get f = d.get f := by
  cases h : d.sec.cmd with
  | none =>
    unfold secEnd
    rw [h]
  | some m =>
    simp only [List.forall_mem_cons, List.not_mem_nil, false_imp_iff, implies_true, and_true] at hf
    obtain ⟨hbusy, hended, hop, hresult⟩ := hf
    rw [secEnd_eq h, (Dev.flagged_ev ..).2 _ h1 h2 h3 h4, secEnded, Dev.get_set_ne _ _ hresult, Dev.get_set_ne _ _ hop, Dev.put_eq,
      Dev.get_set_ne _ _ hended, Dev.put_eq, Dev.get_set_ne _ _ hbusy]
    rfl

end

/-! ### The table commits -/

section
variable {addr len crc : Nat} {d : Dev}

theorem energyCommit_asks (hmode : d.mode ≤ 1) (hlen : len = 4160) (haddr : addr % 64 = 0) :
    energyCommit addr len crc d = ({ d with thm := { d.thm with copying := some (addr, crc) } } : Dev).request (pg .THM 0) :=
  (if_neg (by omega)).trans (if_neg (by omega))

theorem energyCommit_refused (h : 1 < d.mode ∨ len ≠ 4160 ∨ addr % 64 ≠ 0) :
    energyCommit addr len crc d = energyRefused (if 1 < d.mode then 1 else 2) d := by
  unfold energyCommit
  split_ifs with hmode hbad
  · rfl
  · rfl
  · exact absurd h (by tauto)

theorem energyRefused_thm (code : Nat) (d : Dev) : (energyRefused code d).thm = d.thm := (Dev.flagged_raise ..).thm_eq

theorem policyCommit_asks (hmode : d.mode ≤ 1) (haddr : addr % 64 = 0) :
    policyCommit addr len crc d = ({ d with flt := { d.flt with copying := some (addr, len, crc) } } : Dev).request (pg .FLT 0) :=
  (if_neg (by omega)).trans (if_neg (by omega))

theorem policyCommit_refused (h : 1 < d.mode ∨ addr % 64 ≠ 0) :
    policyCommit addr len crc d = policyBad (if 1 < d.mode then 1 else 2) d := by
  unfold policyCommit
  split_ifs with hmode hbad
  · rfl
  · rfl
  · exact absurd h (by tauto)

theorem policyBad_copying (code : Nat) (d : Dev) : (policyBad code d).flt.copying = none := by
  obtain ⟨q, hq⟩ := (Dev.noted_raise ({ d.set Reg.FLT.POLICY_STAT.LAST_CODE code with flt := { d.flt with copying := none } } : Dev) 0
    Kind.FLT.POLICY_BAD { arg := code }).inbox
  rw [policyBad, hq]

end

/-- The mailbox written and GO, for a command that its mailbox authorises. -/
theorem critical_authorised {s : State} {op slot : Nat} {args : List Nat} {cnt tag : Nat} {d0 : Dev}
    (h0 : s.dev.mailed op slot args cnt tag = d0) (h : s.authorises d0) :
    critical op slot args cnt tag s.fuse s.dev = carryOut (mailbox d0) d0.counted := by
  subst h0
  exact secGo_authorised h

/-- PRINT_ARM carried out shows the arm, its result and its count. -/
theorem printArmed_shows (d : Dev) (hcnt : (mailbox d).cnt < 2 ^ 64) :
    (secEnd 0 ((secTaken d).bringup Reg.SYS.BRINGUP.PRINT_ARMED true)).is Reg.SYS.BRINGUP.PRINT_ARMED = true ∧
    (secEnd 0 ((secTaken d).bringup Reg.SYS.BRINGUP.PRINT_ARMED true)).get Reg.SEC.CMD_STAT.RESULT = 0 ∧
    (secEnd 0 ((secTaken d).bringup Reg.SYS.BRINGUP.PRINT_ARMED true)).sec.cmd = none ∧
    (secEnd 0 ((secTaken d).bringup Reg.SYS.BRINGUP.PRINT_ARMED true)).get Reg.SEC.CNT_LAST.COUNT = (mailbox d).cnt := by
  have hcmd : ((secTaken d).bringup Reg.SYS.BRINGUP.PRINT_ARMED true).sec.cmd = some (mailbox d) := by
    rw [Dev.bringup_sec]
    rfl
  refine ⟨?_, secEnd_result hcmd 0, secEnd_cmd .., ?_⟩
  · rw [Dev.is_eq, secEnd_get _ _ (by decide) (by decide) (by decide) (by decide) (by decide), ← Dev.is_eq]
    exact Dev.is_bringup_same _ _ ⟨by decide, by decide, by decide, by decide⟩ rfl
  · have hcount : (secTaken d).get Reg.SEC.CNT_LAST.COUNT = d.counted.get Reg.SEC.CNT_LAST.COUNT := by
      change (d.counted.put Reg.SEC.CMD_STAT.BUSY true).get Reg.SEC.CNT_LAST.COUNT = _
      exact Dev.get_set_ne _ _ (by decide)
    rw [secEnd_get _ _ (by decide) (by decide) (by decide) (by decide) (by decide),
      Dev.get_bringup_ne _ _ ⟨by decide, by decide, by decide, by decide⟩ (by decide), hcount, Dev.counted,
      Dev.get_set_ne _ _ (by decide), Dev.get_set_same]
    exact Nat.mod_eq_of_lt hcnt

/-- Settles O40. The steps of fuse programming, the tests of a slot and BUSY (notes/assumptions/48.md), and HPWR_EN by domain and the
refusals of a lifecycle change (notes/assumptions/49.md) are readings of the model. -/
theorem criticalCommands : Obligations.CriticalCommands := by
  refine ⟨fun s slot cnt tag args d0 hs h0 h => ?_, fun s slot cnt tag args d0 hs h0 h => ?_, fun s slot cnt tag args d0 hs h0 h => ?_,
    fun s slot cnt tag args d0 hs h0 h => ?_, fun s slot cnt tag args d0 hs h0 h hmode hlen haddr => ?_,
    fun s slot cnt tag args d0 hs h0 h hmode haddr => ?_, fun s slot cnt tag args d0 hs h0 h => ?_,
    fun s slot cnt tag args d0 hs h0 h => ?_, fun s slot cnt tag args d0 hs h0 h => ?_, fun s slot cnt tag args d0 hs h0 h => ?_,
    fun s slot cnt tag args d0 hs h0 hmail htag => ?_, fun s slot cnt tag args d0 hs h0 h hbad hc => ?_,
    fun s slot cnt tag args d0 hs h0 h hbad hc => ?_, fun s slot cnt tag args hs => ?_⟩
  · have hop : (mailbox d0).opcode = 1 := h0 ▸ mailed_opcode ..
    have hmode : (secTaken d0).mode = s.dev.mode := (secTaken_mode d0).trans (h0 ▸ mailed_mode ..)
    refine completes_of_exec (exec_lifecycleAdvance hs slot args cnt tag) ?_
    rw [critical_authorised h0 h, carryOut_lifecycle hop, ← secTaken, hmode]
    refine ⟨rfl, fun hstandby => ?_⟩
    rw [if_pos hstandby]
    exact lifecycle_fusing hop (hmode.trans hstandby)
  · have hop : (mailbox d0).opcode = 2 := h0 ▸ mailed_opcode ..
    exact completes_of_exec (exec_keyLoad hs slot args cnt tag) ((critical_authorised h0 h).trans (carryOut_programs (.inl hop)))
  · have hop : (mailbox d0).opcode = 3 := h0 ▸ mailed_opcode ..
    exact completes_of_exec (exec_keyRetire hs slot args cnt tag) ((critical_authorised h0 h).trans (carryOut_programs (.inr (.inl hop))))
  · have hop : (mailbox d0).opcode = 8 := h0 ▸ mailed_opcode ..
    exact completes_of_exec (exec_springCommit hs slot args cnt tag) ((critical_authorised h0 h).trans (carryOut_programs (.inr (.inr hop))))
  · have hop : (mailbox d0).opcode = 4 := h0 ▸ mailed_opcode ..
    have hmode' : (secTaken d0).mode ≤ 1 := by rwa [secTaken_mode, ← h0, mailed_mode]
    have hthm : (secTaken d0).thm = s.dev.thm := h0 ▸ rfl
    refine completes_of_exec (exec_energyTableCommit hs slot args cnt tag) ?_
    rw [critical_authorised h0 h, carryOut_energy hop, ← secTaken, energyCommit_asks hmode' hlen haddr, hthm]
    exact ⟨rfl, rfl, rfl, secBusy_is_busy (mailbox d0) d0.counted⟩
  · have hop : (mailbox d0).opcode = 5 := h0 ▸ mailed_opcode ..
    have hmode' : (secTaken d0).mode ≤ 1 := by rwa [secTaken_mode, ← h0, mailed_mode]
    have hflt : (secTaken d0).flt = s.dev.flt := h0 ▸ rfl
    refine completes_of_exec (exec_faultPolicyCommit hs slot args cnt tag) ?_
    rw [critical_authorised h0 h, carryOut_policy hop, ← secTaken, policyCommit_asks hmode' haddr, hflt]
    exact ⟨rfl, rfl, rfl, secBusy_is_busy (mailbox d0) d0.counted⟩
  · have hop : (mailbox d0).opcode = 6 := h0 ▸ mailed_opcode ..
    exact completes_of_exec (exec_headPowerArm hs slot args cnt tag) ((critical_authorised h0 h).trans (carryOut_arms hop))
  · have hop : (mailbox d0).opcode = 7 := h0 ▸ mailed_opcode ..
    have hcnt : (mailbox d0).cnt < 2 ^ 64 := h0 ▸ (mailed_cnt ..).trans_lt (Nat.mod_lt _ (by decide))
    refine completes_of_exec (exec_printArm hs slot args cnt tag) ?_
    rw [critical_authorised h0 h, carryOut_prints hop]
    exact ⟨rfl, printArmed_shows d0 hcnt⟩
  · have hop : (mailbox d0).opcode = 9 := h0 ▸ mailed_opcode ..
    exact completes_of_exec (exec_wipeNow hs slot args cnt tag) ((critical_authorised h0 h).trans (carryOut_wipes hop))
  · have hop : (mailbox d0).opcode = 10 := h0 ▸ mailed_opcode ..
    exact completes_of_exec (exec_lockClearPolicy hs slot args cnt tag) ((critical_authorised h0 h).trans (carryOut_lockPolicy hop))
  · subst h0
    exact completes_of_exec (exec_printArm hs slot args cnt tag) (secGo_badTag hmail htag)
  · have hop : (mailbox d0).opcode = 4 := h0 ▸ mailed_opcode ..
    have hmode : (secTaken d0).mode = s.dev.mode := (secTaken_mode d0).trans (h0 ▸ mailed_mode ..)
    have hcopy (code : Nat) : (energyRefused code (secTaken d0)).thm.copying.isSome = false := by
      have hthm : (secTaken d0).thm = s.dev.thm := h0 ▸ rfl
      rw [energyRefused_thm, hthm, hc]
      rfl
    refine completes_of_exec (exec_energyTableCommit hs slot args cnt tag) ?_
    rw [critical_authorised h0 h, carryOut_energy hop, ← secTaken, energyCommit_refused (by rwa [hmode]), hcopy, hmode]
    split_ifs <;> rfl
  · have hop : (mailbox d0).opcode = 5 := h0 ▸ mailed_opcode ..
    have hmode : (secTaken d0).mode = s.dev.mode := (secTaken_mode d0).trans (h0 ▸ mailed_mode ..)
    refine completes_of_exec (exec_faultPolicyCommit hs slot args cnt tag) ?_
    rw [critical_authorised h0 h, carryOut_policy hop, ← secTaken, policyCommit_refused (by rwa [hmode]), policyBad_copying, hmode]
    rfl
  · simp only [List.forall_mem_cons, List.not_mem_nil, false_imp_iff, implies_true, and_true]
    exact ⟨completes_of_exec (exec_lifecycleAdvance hs ..) rfl, completes_of_exec (exec_keyLoad hs ..) rfl,
      completes_of_exec (exec_keyRetire hs ..) rfl, completes_of_exec (exec_energyTableCommit hs ..) rfl,
      completes_of_exec (exec_faultPolicyCommit hs ..) rfl, completes_of_exec (exec_headPowerArm hs ..) rfl,
      completes_of_exec (exec_printArm hs ..) rfl, completes_of_exec (exec_springCommit hs ..) rfl,
      completes_of_exec (exec_wipeNow hs ..) rfl, completes_of_exec (exec_lockClearPolicy hs ..) rfl⟩

end Sys2Proof.Machine
end

section
/-!
PROOF. The session, the table copies and the arms of the security block, and the fuse program step (O41; R161, R396, R440,
R445, R447, R449 to R452).
-/
namespace Sys2Proof.Machine

/-! ### The arms through a link that goes DOWN -/

/-- The arms are kept: the security block, and the two flags of BRINGUP that show them. -/
structure Dev.ArmsKept (d d' : Dev) : Prop where
  sec : d'.sec = d.sec
  get_eq : ∀ f ∈ [Reg.SYS.BRINGUP.HEAD_POWER_ARMED, Reg.SYS.BRINGUP.PRINT_ARMED], d'.get f = d.get f

namespace Dev.ArmsKept
variable {a b c d d' : Dev}

theorem refl (d : Dev) : d.ArmsKept d := ⟨rfl, fun _ _ => rfl⟩

theorem trans (h : a.ArmsKept b) (k : b.ArmsKept c) : a.ArmsKept c :=
  ⟨k.sec.trans h.sec, fun f hf => (k.get_eq f hf).trans (h.get_eq f hf)⟩

theorem regs (h : a.ArmsKept d) (hr : d'.regs = d.regs) (hs : d'.sec = d.sec) : a.ArmsKept d' :=
  h.trans ⟨hs, fun f _ => Dev.get_of_regs hr f⟩

theorem flagged (h : a.ArmsKept d) (hf : d.Flagged d') : a.ArmsKept d' := by
  refine h.trans ⟨hf.sec_eq, fun f hmem => ?_⟩
  obtain rfl | rfl := List.mem_pair.mp hmem
  · exact hf.2 _ (by decide) (by decide) (by decide) (by decide)
  · exact hf.2 _ (by decide) (by decide) (by decide) (by decide)

theorem ev {b : Blk} {m bit : Nat} (h : a.ArmsKept d) : a.ArmsKept (d.ev b m bit) := h.flagged (d.flagged_ev ..)

/-- A field takes a value that is neither arm. -/
theorem set {g : Fld} {v : Nat} (h : a.ArmsKept d)
    (hg : ∀ f ∈ [Reg.SYS.BRINGUP.HEAD_POWER_ARMED, Reg.SYS.BRINGUP.PRINT_ARMED], f.key ≠ g.key) : a.ArmsKept (d.set g v) :=
  h.trans ⟨rfl, fun _ hf => d.get_set_ne v (hg _ hf)⟩

/-- A field of a page past that of SYS is neither arm. -/
theorem arms_key_ne {g : Fld} (hp : 0 < g.page) :
    ∀ f ∈ [Reg.SYS.BRINGUP.HEAD_POWER_ARMED, Reg.SYS.BRINGUP.PRINT_ARMED], f.key ≠ g.key := by
  intro f hf
  obtain rfl | rfl := List.mem_pair.mp hf <;> simp only [Fld.key, Reg.SYS.BRINGUP.HEAD_POWER_ARMED, Reg.SYS.BRINGUP.PRINT_ARMED] <;> omega

/-- Another flag of BRINGUP takes a value. -/
theorem bringup {g : Fld} {v : Bool} (h : a.ArmsKept d)
    (hg : ∀ f ∈ [Reg.SYS.BRINGUP.HEAD_POWER_ARMED, Reg.SYS.BRINGUP.PRINT_ARMED], f.key ≠ g.key) : a.ArmsKept (d.bringup g v) := by
  obtain ⟨e, rfl | rfl, hflag⟩ := d.flagged_bringup g v
  · exact h.flagged hflag
  · exact (h.set hg).flagged hflag

theorem healthSync (h : a.ArmsKept d) : a.ArmsKept (healthSync d) := h.bringup (by decide)

theorem linksSync (h : a.ArmsKept d) : a.ArmsKept (linksSync d) := h.bringup (by decide)

theorem setHealth {m : Nat} {q : SndPort} (h : a.ArmsKept d) : a.ArmsKept (d.setHealth m q) := h.regs rfl rfl

theorem setChan {m : Nat} {x : Chan} (h : a.ArmsKept d) : a.ArmsKept (d.setChan m x) := h.regs rfl rfl

theorem setSnd {q : Snd} (h : a.ArmsKept d) : a.ArmsKept { d with snd := q } := h.regs rfl rfl

theorem setHead {m : Nat} {q : Head} (h : a.ArmsKept d) : a.ArmsKept (d.setHead m q) := h.regs rfl rfl

theorem sense {m target noz dwell delay : Nat} (h : a.ArmsKept d) : a.ArmsKept (d.sense m target noz dwell delay) :=
  h.trans ⟨rfl, fun _ _ => Dev.get_ship ..⟩

theorem disarm {k : TimerKey} (h : a.ArmsKept d) : a.ArmsKept (d.disarm k) := h.regs rfl rfl

theorem arm {k : TimerKey} {t : Nat} (h : a.ArmsKept d) : a.ArmsKept (d.arm k t) := h.regs rfl rfl

theorem scanRelease {n : Nat} (h : a.ArmsKept d) : a.ArmsKept (scanRelease n d) := by
  rw [Machine.scanRelease]
  dsimp only
  split_ifs
  · exact h.setHealth.sense
  · exact h.setHealth
  · exact h

theorem scanState {v : Nat} (h : a.ArmsKept d) : a.ArmsKept ((d.set Reg.SND.SCAN_STAT.STATE v).ev .SND 0 0) := (h.set (by decide)).ev

theorem scanOver (h : a.ArmsKept d) : a.ArmsKept (scanOver d) := by
  rw [Machine.scanOver]
  split
  · exact h
  · split
    · exact h.setSnd.scanState
    · dsimp only
      split
      · exact h.scanState.setSnd.healthSync.flagged (Dev.flagged_raise ..)
      · exact h.scanState.setSnd.healthSync

theorem scanPartEnd {c skip : Nat} (h : a.ArmsKept d) : a.ArmsKept (scanPartEnd c skip d) := by
  rw [Machine.scanPartEnd]
  refine .scanOver (.setChan (.set ?_ (by decide)))
  exact List.foldlRecOn (motive := fun e => a.ArmsKept e) _ _ h fun e he k _ => he.setHealth.scanRelease

theorem scanNext {c : Nat} (h : a.ArmsKept d) : a.ArmsKept (scanNext c d) := by
  rw [Machine.scanNext]
  dsimp only
  split
  · exact h
  · split
    · exact h.scanPartEnd
    · split
      · exact h
      · split
        · split
          · exact h
          · exact h.setChan.setHealth.sense.arm
        · exact h.scanPartEnd

theorem scanLost {n : Nat} (h : a.ArmsKept d) : a.ArmsKept (scanLost n d) := by
  have hconn : a.ArmsKept (if (d.health n).conn then d.setHealth n { d.health n with conn := false } else d) := by
    split
    · exact h.setHealth
    · exact h
  rw [Machine.scanLost]
  dsimp only
  split
  · split
    · exact (hconn.set (by decide)).disarm.setChan.scanNext
    · exact hconn
  · exact hconn

/-- What a link that goes DOWN does to the port's cycle and samples. -/
theorem headLost {n : Nat} (h : a.ArmsKept d) : a.ArmsKept (headLost n d) := by
  have hwindow : a.ArmsKept (abandonWindow n d) :=
    List.foldlRecOn (motive := fun e => a.ArmsKept e) _ _ h.setHealth fun _ he _ _ => he.regs rfl rfl
  have hport {e : Dev} {q : PortFire} {t : ThmPort} (he : a.ArmsKept e) : a.ArmsKept ((e.setPort n q).setHeat n t) := he.regs rfl rfl
  exact (hport hwindow.scanLost).set (arms_key_ne (by simp [Reg.THM.TEMP.STATE]))

theorem linkEmptied {n : Nat} {again : Bool} (h : a.ArmsKept d) : a.ArmsKept (linkEmptied n again d) := by
  have hlink : a.ArmsKept ((d.setLink n 0).ev .HPT n 0) := (h.set (arms_key_ne (by simp [Reg.HPT.LINK_STAT.STATE]))).ev
  exact hlink.setHead.disarm.disarm.disarm

theorem hregCut {n : Nat} (h : a.ArmsKept d) : a.ArmsKept (hregCut n d) := by
  rw [Machine.hregCut]
  split
  · refine .ev (.set (.set h ?_) ?_)
    · exact arms_key_ne (by simp [Reg.HPT.HREG_STAT.BUSY])
    · exact arms_key_ne (by simp [Reg.HPT.HREG_STAT.RESULT])
  · exact h

theorem linkDown {n : Nat} {again : Bool} (h : a.ArmsKept d) : a.ArmsKept (linkDown n false again d) := by
  cases hup : d.headUp n with
  | false => rwa [linkDown_rests hup]
  | true =>
    rw [linkDown_up hup, if_neg (by decide)]
    exact h.linkEmptied.hregCut.headLost.linksSync.healthSync

theorem clockStop {n : Nat} {again : Bool} (h : a.ArmsKept d) : a.ArmsKept (clockStop n again d) := by
  have hdown : a.ArmsKept (Machine.linkDown n false again d) := h.linkDown
  rw [Machine.clockStop]
  dsimp only
  split
  · exact hdown.setHead.disarm.disarm.disarm
  · exact hdown.setHead.disarm.disarm.disarm.set (arms_key_ne (by simp [Reg.HPT.LINK_STAT.STATE]))

end Dev.ArmsKept

/-! ### The session -/

theorem nonceReady_draws {d : Dev} (draw : Nat) (h : d.sec.rng = none) : nonceReady true draw d =
    ((({ d with sec := { d.sec with rng := some true } } : Dev).set Reg.SEC.NONCE.NONCE draw).set Reg.SEC.CNT_LAST.COUNT 0).set
      Reg.SEC.TAG_FAIL.RUN 0 := if_neg (by simp [h])

theorem nonceReady_fails {d : Dev} (draw : Nat) (h : d.sec.rng = none) : nonceReady false draw d =
    ({ d with sec := { d.sec with rng := some false } } : Dev).raise 0 Kind.SEC.RNG_FAIL := by
  rw [nonceReady, h]
  rfl

/-! ### The arms cleared (R452) -/

/-- Head power off clears both arms. -/
theorem headPowerOff_shows (d : Dev) : (headPowerOff d).sec.hpwr = 0 ∧ (headPowerOff d).sec.disarm = false ∧
    (headPowerOff d).is Reg.SYS.BRINGUP.HEAD_POWER_ARMED = false ∧ (headPowerOff d).is Reg.SYS.BRINGUP.PRINT_ARMED = false := by
  refine ⟨?_, ?_, ?_, ?_⟩
  · rw [headPowerOff, Dev.bringup_sec, Dev.bringup_sec]
  · rw [headPowerOff, Dev.bringup_sec, Dev.bringup_sec]
  · rw [headPowerOff, Dev.is_eq, Dev.get_bringup_ne _ _ ⟨by decide, by decide, by decide, by decide⟩ (by decide), ← Dev.is_eq]
    exact Dev.is_bringup_same _ _ ⟨by decide, by decide, by decide, by decide⟩ rfl
  · rw [headPowerOff]
    exact Dev.is_bringup_same _ _ ⟨by decide, by decide, by decide, by decide⟩ rfl

/-- The links of every port stopped. -/
def linksStopped (d : Dev) : Dev := (List.range 64).foldl (fun d n => clockStop n false (d.setHead n { d.head n with want := false })) d

theorem armsKept_linksStopped (d : Dev) : d.ArmsKept (linksStopped d) :=
  List.foldlRecOn (motive := fun e => d.ArmsKept e) _ _ (Dev.ArmsKept.refl d) fun _ he _ _ => he.setHead.clockStop

theorem disarmComplete_stops {d : Dev} (h : d.sec.disarm = true) (hi : d.trgIdle = true) :
    disarmComplete d = linksStopped (headPowerOff d) := if_pos ⟨h, hi⟩

theorem disarmComplete_rests {d : Dev} (h : d.sec.disarm = false ∨ d.trgIdle = false) : disarmComplete d = d :=
  if_neg fun ⟨hd, hi⟩ => h.elim (fun h => absurd (h.symm.trans hd) (by decide)) fun h => absurd (h.symm.trans hi) (by decide)

theorem linksStopped_shows (d : Dev) : (linksStopped (headPowerOff d)).sec.hpwr = 0 ∧
    (linksStopped (headPowerOff d)).sec.disarm = false ∧
    (linksStopped (headPowerOff d)).is Reg.SYS.BRINGUP.HEAD_POWER_ARMED = false ∧
    (linksStopped (headPowerOff d)).is Reg.SYS.BRINGUP.PRINT_ARMED = false := by
  obtain ⟨hsec, hget⟩ := armsKept_linksStopped (headPowerOff d)
  obtain ⟨hhead, hprint, -⟩ := List.forall_mem_cons.mp hget |>.imp_right List.forall_mem_cons.mp
  rw [hsec, Dev.is_eq, Dev.is_eq, hhead, hprint, ← Dev.is_eq, ← Dev.is_eq]
  exact headPowerOff_shows d

theorem hostWrite_disarm (u : Fuses) (v : Nat) {d : Dev} (ho : d.pageOff 3 = false) : hostWrite u 0x30A8 v d = secDisarm (v % 2 ^ 32) d :=
  hostWrite_actsOnly (b := .SEC) (n := 0) (off := 0xA8) (fs := [Reg.SEC.DISARM.PRINT, Reg.SEC.DISARM.HEAD]) (by decide) ho rfl (by decide)
    (by decide) (by decide) rfl (by simp [Fld.ActsOnly, Reg.SEC.DISARM.PRINT, Reg.SEC.DISARM.HEAD])

/-! ### Table copies (R161, R396) -/

theorem ueFound_rest (master access : Nat) (d : Dev) (s : Nat) :
    (ueFound master access d s).sec = d.sec ∧ (ueFound master access d s).thm = d.thm := by
  have hflag {e : Dev} {k : FKind} {a : FArg} : (e.raise 0 k a).sec = e.sec ∧ (e.raise 0 k a).thm = e.thm :=
    ⟨(Dev.flagged_raise ..).sec_eq, (Dev.flagged_raise ..).thm_eq⟩
  rw [ueFound]
  refine ⟨hflag.1.trans ?_, hflag.2.trans ?_⟩ <;> split_ifs <;> rfl

/-- A Basin read that nothing strikes is no matter of SEC and THM. -/
theorem basinLoad_rest (d : Dev) (cls master a n : Nat) :
    (d.basinLoad cls master a n 0).sec = d.sec ∧ (d.basinLoad cls master a n 0).thm = d.thm := by
  unfold Dev.basinLoad
  split_ifs
  · exact ⟨rfl, rfl⟩
  · exact List.foldlRecOn (motive := fun e : Dev => e.sec = d.sec ∧ e.thm = d.thm) _ _ ⟨rfl, rfl⟩ fun _ he _ _ =>
      ⟨(ueFound_rest ..).1.trans he.1, (ueFound_rest ..).2.trans he.2⟩

theorem answer_rest (d : Dev) (page : Nat) : (d.answer page).sec = d.sec ∧ (d.answer page).thm = d.thm := by
  unfold Dev.answer
  split <;> exact ⟨rfl, rfl⟩

/-- The device whose copy of a table has been read. -/
def tableRead (page addr n err : Nat) (d : Dev) : Dev := (d.answer page).basinLoad 1 0xFF addr n err

theorem tableRead_rest (page addr n : Nat) (d : Dev) : (tableRead page addr n 0 d).sec = d.sec ∧ (tableRead page addr n 0 d).thm = d.thm := by
  obtain ⟨hsec, hthm⟩ := basinLoad_rest (d.answer page) 1 0xFF addr n
  obtain ⟨hsec', hthm'⟩ := answer_rest d page
  exact ⟨hsec.trans hsec', hthm.trans hthm'⟩

/-- The end of a command leaves THM, and FLT but for its inbox. -/
theorem secEnd_rest (code : Nat) (d : Dev) : (secEnd code d).thm = d.thm ∧ ∃ q, (secEnd code d).flt = { d.flt with inbox := q } := by
  cases h : d.sec.cmd with
  | none =>
    unfold secEnd
    rw [h]
    exact ⟨rfl, _, rfl⟩
  | some m =>
    obtain ⟨hflag, ⟨q, hq⟩, -, -⟩ := Dev.noted_ev (secEnded m code d) .SEC 0 0
    rw [secEnd_eq h, hflag.thm_eq, hq]
    exact ⟨rfl, q, rfl⟩

/-- The device with THM's copy over. -/
def energyRead (addr err : Nat) (d : Dev) : Dev :=
  { tableRead (pg .THM 0) addr 4160 err d with thm := { (tableRead (pg .THM 0) addr 4160 err d).thm with copying := none } }

theorem basinFails_thm (d : Dev) (t : Thm) (a n : Nat) : ({ d with thm := t } : Dev).basinFails a n = d.basinFails a n := rfl

/-- A sound energy table in force, before the classes. -/
def energyInForce (bs : Bytes) (crc : Nat) (d : Dev) : Dev :=
  ((({ d with thm := { d.thm with table := some (leAt bs 8 8, (List.range 64).foldl
    (fun t n => tset EnergyEntry.dflt n (parseEnergy (entryBytes bs n)) t) []) } } : Dev).put Reg.THM.TABLE_STAT.COMMITTED true).set
      Reg.THM.TABLE_STAT.LAST_CODE 0).set Reg.THM.TABLE_CRC.CRC crc

section
variable {d : Dev} {poisoned : Bool} {addr crc k : Nat} {bs : Bytes}

theorem energyCopied_bad (h : d.thm.copying = some (addr, crc))
    (hb : (tableRead (pg .THM 0) addr 4160 (if poisoned then 2 else 0) d).basinRead addr 4160 = bs)
    (hk : energyCode bs crc ((energyRead addr (if poisoned then 2 else 0) d).basinFails addr 4160) = k) (hk0 : k ≠ 0) :
    energyCopied poisoned d = energyRefused k (energyRead addr (if poisoned then 2 else 0) d) := by
  subst hb hk
  unfold energyCopied
  rw [h]
  exact if_pos hk0

theorem energyCopied_sound (h : d.thm.copying = some (addr, crc))
    (hb : (tableRead (pg .THM 0) addr 4160 (if poisoned then 2 else 0) d).basinRead addr 4160 = bs)
    (hk : energyCode bs crc ((energyRead addr (if poisoned then 2 else 0) d).basinFails addr 4160) = 0) :
    energyCopied poisoned d = reclassAll ((energyInForce bs crc (energyRead addr (if poisoned then 2 else 0) d)).ev .THM 0 3) := by
  subst hb
  unfold energyCopied
  rw [h]
  exact if_neg (not_not.mpr hk)

theorem energyCopyDone_copying (h : d.thm.copying = some (addr, crc)) : energyCopyDone poisoned d =
    secEnd (if (energyCopied poisoned d).get Reg.THM.TABLE_STAT.LAST_CODE = 0 then 0 else 0x0E) (energyCopied poisoned d) :=
  if_neg (by simp [h])

end

/-- The classes of ports are a matter of THM's ports. -/
structure Dev.Reclassed (d d' : Dev) : Prop where
  regs : d'.regs = d.regs
  sec : d'.sec = d.sec
  copying : d'.thm.copying = d.thm.copying

theorem Dev.Reclassed.trans {a b c : Dev} (h : a.Reclassed b) (k : b.Reclassed c) : a.Reclassed c :=
  ⟨k.regs.trans h.regs, k.sec.trans h.sec, k.copying.trans h.copying⟩

theorem Dev.Reclassed.refl (d : Dev) : d.Reclassed d := ⟨rfl, rfl, rfl⟩

theorem reclassed_reclass (n : Nat) (d : Dev) (i : Nat) : d.Reclassed (reclass n d i) := by
  have hset (q : ThmPort) : d.Reclassed (d.setHeat n q) := ⟨rfl, rfl, rfl⟩
  unfold reclass
  exact iteInduction (fun _ => .refl d) fun _ => hset _

theorem reclassed_reclassAll (d : Dev) : d.Reclassed (reclassAll d) := by
  refine List.foldlRecOn (motive := fun e => d.Reclassed e) _ _ (.refl d) fun e he n _ => he.trans ?_
  unfold reclassPort
  split
  · exact .refl e
  · exact List.foldlRecOn (motive := fun t => e.Reclassed t) _ _ (.refl e) fun t ht i _ => ht.trans (reclassed_reclass n t i)

/-- The device whose sound energy table is in force, with its classes. -/
def energyTaken (bs : Bytes) (crc : Nat) (d : Dev) : Dev := reclassAll ((energyInForce bs crc d).ev .THM 0 3)

theorem energyTaken_get (bs : Bytes) (crc : Nat) (d : Dev) {f : Fld} (h1 : 0x40 ≤ f.off) (h2 : f.off < 4096) (h3 : f.lo < 64)
    (h4 : f.key ≠ Reg.SED.LOST.COUNT.key) : (energyTaken bs crc d).get f = (energyInForce bs crc d).get f :=
  (Dev.get_of_regs (reclassed_reclassAll _).regs f).trans ((Dev.flagged_ev ..).2 f h1 h2 h3 h4)

theorem energyTaken_sec (bs : Bytes) (crc : Nat) (d : Dev) : (energyTaken bs crc d).sec = d.sec :=
  (reclassed_reclassAll _).sec.trans (Dev.flagged_ev ..).sec_eq

theorem energyTaken_copying (bs : Bytes) (crc : Nat) (d : Dev) : (energyTaken bs crc d).thm.copying = d.thm.copying := by
  rw [energyTaken, (reclassed_reclassAll _).copying, (Dev.flagged_ev ..).thm_eq]
  rfl

/-- What the end of a command shows once a sound energy table is in force. -/
theorem energyTaken_shows {d : Dev} {m : Mail} (hm : d.sec.cmd = some m) (hc : d.thm.copying = none) (bs : Bytes) (crc : Nat) :
    (secEnd 0 (energyTaken bs crc d)).thm.copying = none ∧ (secEnd 0 (energyTaken bs crc d)).sec.cmd = none ∧
    (secEnd 0 (energyTaken bs crc d)).get Reg.SEC.CMD_STAT.RESULT = 0 ∧
    (secEnd 0 (energyTaken bs crc d)).is Reg.THM.TABLE_STAT.COMMITTED = true ∧
    (secEnd 0 (energyTaken bs crc d)).get Reg.THM.TABLE_CRC.CRC = crc % 2 ^ 32 := by
  have hcmd : (energyTaken bs crc d).sec.cmd = some m := by rw [energyTaken_sec, hm]
  refine ⟨?_, secEnd_cmd .., secEnd_result hcmd 0, ?_, ?_⟩
  · rw [(secEnd_rest ..).1, energyTaken_copying, hc]
  · rw [Dev.is_eq, secEnd_get _ _ (by decide) (by decide) (by decide) (by decide) (by decide),
      energyTaken_get _ _ _ (by decide) (by decide) (by decide) (by decide), energyInForce, Dev.get_set_ne _ _ (by decide),
      Dev.get_set_ne _ _ (by decide), ← Dev.is_eq]
    exact Dev.is_put_same _ _ rfl
  · rw [secEnd_get _ _ (by decide) (by decide) (by decide) (by decide) (by decide),
      energyTaken_get _ _ _ (by decide) (by decide) (by decide) (by decide), energyInForce, Dev.get_set_same]
    rfl

section
variable {d : Dev} {poisoned : Bool} {addr crc : Nat} {bs : Bytes}

theorem energyCopyDone_sound (h : d.thm.copying = some (addr, crc))
    (hb : (tableRead (pg .THM 0) addr 4160 (if poisoned then 2 else 0) d).basinRead addr 4160 = bs)
    (hk : energyCode bs crc ((energyRead addr (if poisoned then 2 else 0) d).basinFails addr 4160) = 0) :
    energyCopyDone poisoned d = secEnd 0 (energyTaken bs crc (energyRead addr (if poisoned then 2 else 0) d)) := by
  have hlast : (energyTaken bs crc (energyRead addr (if poisoned then 2 else 0) d)).get Reg.THM.TABLE_STAT.LAST_CODE = 0 := by
    rw [energyTaken_get _ _ _ (by decide) (by decide) (by decide) (by decide), energyInForce, Dev.get_set_ne _ _ (by decide),
      Dev.get_set_same]
    rfl
  rw [energyCopyDone_copying h, energyCopied_sound h hb hk, ← energyTaken, hlast, if_pos rfl]

/-- A copy without the magic number of an energy table fails check 3. -/
theorem energyCode_blank (h : leAt bs 0 4 = 0) (crc : Nat) (bad : Bool) : energyCode bs crc bad = 3 :=
  if_pos (.inl (by rw [h]; decide))

/-- A command whose table failed check 3 ends with RESULT 0x0E, and the table in force stays. -/
theorem energyRefused_shows {m : Mail} (hm : d.sec.cmd = some m) :
    (secEnd 0x0E (energyRefused 3 d)).thm = d.thm ∧ (secEnd 0x0E (energyRefused 3 d)).sec.cmd = none ∧
    (secEnd 0x0E (energyRefused 3 d)).get Reg.SEC.CMD_STAT.RESULT = 0x0E ∧
    (secEnd 0x0E (energyRefused 3 d)).get Reg.THM.TABLE_STAT.LAST_CODE = 3 ∧
    (energyRefused 3 d).get Reg.THM.TABLE_STAT.LAST_CODE = 3 := by
  have hflag := Dev.flagged_raise (d.set Reg.THM.TABLE_STAT.LAST_CODE 3) 0 Kind.THM.TABLE_BAD { arg := 3 }
  have hcmd : (energyRefused 3 d).sec.cmd = some m := by
    rw [energyRefused, hflag.sec_eq]
    exact hm
  have hlast : (energyRefused 3 d).get Reg.THM.TABLE_STAT.LAST_CODE = 3 := by
    rw [energyRefused, hflag.2 _ (by decide) (by decide) (by decide) (by decide), Dev.get_set_same]
    rfl
  refine ⟨(secEnd_rest ..).1.trans (energyRefused_thm ..), secEnd_cmd .., secEnd_result hcmd 0x0E, ?_, hlast⟩
  rw [secEnd_get _ _ (by decide) (by decide) (by decide) (by decide) (by decide), hlast]

end

/-- The entries of a policy that its floors let stand (R396). -/
def policyKept (es : List PolEntry) : List PolEntry := es.filter fun e => !e.barred

/-- A sound policy in force, before the event. -/
def policyInForce (es : List PolEntry) (d : Dev) : Dev :=
  (((({ d with flt := { d.flt with policy := policyKept es, copying := none } } : Dev).put Reg.FLT.POLICY_STAT.COMMITTED true).set
    Reg.FLT.POLICY_STAT.ENTRIES (policyKept es).length).set Reg.FLT.POLICY_STAT.LAST_CODE 0).set Reg.FLT.POLICY_FLOOR.COUNT
      (es.length - (policyKept es).length)

section
variable {d d1 : Dev} {poisoned : Bool} {addr len crc k : Nat} {bs : Bytes}

theorem policyCopied_bad (h : d.flt.copying = some (addr, len, crc))
    (h1 : tableRead (pg .FLT 0) addr (max 16 (min 4112 len)) (if poisoned then 2 else 0) d = d1)
    (hb : d1.basinRead addr (max 16 (min 4112 len)) = bs)
    (hk : policyCode bs len crc (d1.basinFails addr (max 16 (min 4112 len))) = k) (hk0 : k ≠ 0) :
    policyCopied poisoned d = policyBad k d1 := by
  subst h1 hb hk
  unfold policyCopied
  rw [h]
  exact if_pos hk0

theorem policyCopied_sound (h : d.flt.copying = some (addr, len, crc))
    (h1 : tableRead (pg .FLT 0) addr (max 16 (min 4112 len)) (if poisoned then 2 else 0) d = d1)
    (hb : d1.basinRead addr (max 16 (min 4112 len)) = bs)
    (hk : policyCode bs len crc (d1.basinFails addr (max 16 (min 4112 len))) = 0) :
    policyCopied poisoned d = (policyInForce (policyEntries (leAt bs 6 2) (bs.drop 16)) d1).ev .FLT 0 7 := by
  subst h1 hb
  unfold policyCopied
  rw [h]
  exact if_neg (not_not.mpr hk)

theorem policyCopyDone_copying (h : d.flt.copying = some (addr, len, crc)) : policyCopyDone poisoned d =
    secEnd (if (policyCopied poisoned d).get Reg.FLT.POLICY_STAT.LAST_CODE = 0 then 0 else 0x0E) (policyCopied poisoned d) :=
  if_neg (by simp [h])

theorem policyCopyDone_sound (h : d.flt.copying = some (addr, len, crc))
    (h1 : tableRead (pg .FLT 0) addr (max 16 (min 4112 len)) (if poisoned then 2 else 0) d = d1)
    (hb : d1.basinRead addr (max 16 (min 4112 len)) = bs)
    (hk : policyCode bs len crc (d1.basinFails addr (max 16 (min 4112 len))) = 0) :
    policyCopyDone poisoned d = secEnd 0 ((policyInForce (policyEntries (leAt bs 6 2) (bs.drop 16)) d1).ev .FLT 0 7) := by
  have hlast : ((policyInForce (policyEntries (leAt bs 6 2) (bs.drop 16)) d1).ev .FLT 0 7).get Reg.FLT.POLICY_STAT.LAST_CODE = 0 := by
    rw [(Dev.flagged_ev ..).2 _ (by decide) (by decide) (by decide) (by decide), policyInForce, Dev.get_set_ne _ _ (by decide),
      Dev.get_set_same]
    rfl
  rw [policyCopyDone_copying h, policyCopied_sound h h1 hb hk, hlast, if_pos rfl]

end

/-- What the end of a command shows once a sound policy is in force. -/
theorem policyInForce_shows {d : Dev} {m : Mail} (hm : d.sec.cmd = some m) (es : List PolEntry) :
    (secEnd 0 ((policyInForce es d).ev .FLT 0 7)).flt.copying = none ∧ (secEnd 0 ((policyInForce es d).ev .FLT 0 7)).sec.cmd = none ∧
    (secEnd 0 ((policyInForce es d).ev .FLT 0 7)).get Reg.SEC.CMD_STAT.RESULT = 0 ∧
    (secEnd 0 ((policyInForce es d).ev .FLT 0 7)).is Reg.FLT.POLICY_STAT.COMMITTED = true ∧
    (secEnd 0 ((policyInForce es d).ev .FLT 0 7)).flt.policy = policyKept es := by
  obtain ⟨hflag, ⟨q, hq⟩, -, -⟩ := Dev.noted_ev (policyInForce es d) .FLT 0 7
  obtain ⟨p, hp⟩ := (secEnd_rest 0 ((policyInForce es d).ev .FLT 0 7)).2
  have hcmd : ((policyInForce es d).ev .FLT 0 7).sec.cmd = some m := by
    rw [hflag.sec_eq]
    exact hm
  refine ⟨?_, secEnd_cmd .., secEnd_result hcmd 0, ?_, ?_⟩
  · rw [hp, hq]
    rfl
  · rw [Dev.is_eq, secEnd_get _ _ (by decide) (by decide) (by decide) (by decide) (by decide),
      hflag.2 _ (by decide) (by decide) (by decide) (by decide), policyInForce, Dev.get_set_ne _ _ (by decide),
      Dev.get_set_ne _ _ (by decide), Dev.get_set_ne _ _ (by decide), ← Dev.is_eq]
    exact Dev.is_put_same _ _ rfl
  · rw [hp, hq]
    rfl

/-- Outside the hold in reset FUSE_PROGRAM_DONE answers the fuses and the device that `fuseDone` gives. -/
theorem exec_fuseProgramDone {s : State} (hs : s.live) (ok : Bool) :
    exec (.fuseProgramDone ok) s = .next { s with fuse := (fuseDone ok s.fuse s.dev).1, dev := (fuseDone ok s.fuse s.dev).2 } := by
  have hx : exec (.fuseProgramDone ok) s = s.onFuse fun u d => fuseDone ok u d := rfl
  rw [hx, State.onFuse, if_neg (ne_true_of_eq_false hs)]

/-- Settles O41. The steps of fuse programming and a slot half programmed (notes/assumptions/48.md), that nothing changes where
nothing is in progress (notes/assumptions/56.md) and a page that is off (notes/assumptions/12.md) are readings of the model. -/
theorem securitySession : Obligations.SecuritySession := by
  refine ⟨fun s draw hs h => ?_, fun s draw hs h => ?_, fun s t hs h => ?_, fun s m addr crc hs hc hm hb => ?_,
    fun s m addr crc d1 bs hs hc hm h1 hb hk => ?_, fun s m addr len crc d1 bs hs hc hm h1 hb hk => ?_, fun s hs ho => ?_,
    fun s hs hd hi => ?_, fun s hs ho => ?_, fun s m ok hs hm hf => ?_, fun s ok hs hf => ?_, fun s ok draw hs h => ?_,
    fun s hs h => ?_, fun s poisoned addr crc d0 d1 bs k hs hc h0 hb h1 hk hk0 => ?_,
    fun s poisoned addr crc d0 d1 bs hs hc h0 hb h1 hk => ?_, fun s poisoned hs hc => ?_,
    fun s poisoned addr len crc d1 bs k hs hc h1 hb hk hk0 => ?_, fun s poisoned addr len crc d1 bs es hs hc h1 hb hk hes => ?_,
    fun s poisoned hs hc => ?_, fun s hs h => ?_, fun s hs ho => ?_⟩
  · refine completes_of_exec (exec_nonceReady hs true draw) ?_
    rw [nonceReady_draws draw h]
    refine ⟨rfl, rfl, ?_, ?_, Dev.get_set_same ..⟩
    · rw [Dev.get_set_ne _ _ (by decide), Dev.get_set_ne _ _ (by decide), Dev.get_set_same]
      rfl
    · rw [Dev.get_set_ne _ _ (by decide), Dev.get_set_same]
      rfl
  · refine completes_of_exec (exec_nonceReady hs false draw) ?_
    rw [nonceReady_fails draw h]
    refine ⟨rfl, ?_, Dev.evRaw_raise _ _ _ _ (by decide)⟩
    rw [(Dev.flagged_raise ..).sec_eq]
  · exact completes_of_exec (exec_lockoutEnd hs) (Dev.onTimer_some h id)
  · have hk := energyCode_blank hb crc ((energyRead addr 0 s.dev).basinFails addr 4160)
    have hm' : (energyRead addr 0 s.dev).sec.cmd = some m := by
      rw [← hm]
      exact congrArg Sec.cmd (tableRead_rest (pg .THM 0) addr 4160 s.dev).1
    obtain ⟨hthm, hcmd, hresult, hcode, hlast⟩ := energyRefused_shows hm'
    refine completes_of_exec (exec_energyTableCopyDone hs false) ?_
    have hcopied : energyCopied false s.dev = energyRefused 3 (energyRead addr 0 s.dev) :=
      energyCopied_bad (poisoned := false) hc rfl hk (by decide)
    have htable : (energyRead addr 0 s.dev).thm = { s.dev.thm with copying := none } := by
      rw [energyRead, (tableRead_rest (pg .THM 0) addr 4160 s.dev).2]
    rw [energyCopyDone_copying hc, hcopied, if_neg (by rw [hlast]; decide), hthm, htable]
    exact ⟨rfl, hcmd, hresult, hcode, rfl⟩
  · subst h1
    have hm' : (energyRead addr 0 s.dev).sec.cmd = some m := by
      rw [← hm]
      exact congrArg Sec.cmd (tableRead_rest (pg .THM 0) addr 4160 s.dev).1
    have hsound : energyCopyDone false s.dev = secEnd 0 (energyTaken bs crc (energyRead addr 0 s.dev)) :=
      energyCopyDone_sound (poisoned := false) hc hb (by rwa [energyRead, basinFails_thm])
    refine completes_of_exec (exec_energyTableCopyDone hs false) ?_
    rw [hsound]
    exact energyTaken_shows hm' rfl bs crc
  · have hm' : d1.sec.cmd = some m := by
      rw [← hm, ← h1]
      exact congrArg Sec.cmd (tableRead_rest (pg .FLT 0) addr _ s.dev).1
    refine completes_of_exec (exec_policyCopyDone hs false) ?_
    rw [policyCopyDone_sound (poisoned := false) hc h1 hb hk]
    exact policyInForce_shows hm' _
  · exact completes_of_exec (exec_disarmHead hs) (hostWrite_disarm s.fuse 1 ho)
  · refine completes_of_exec (exec_disarmHeadComplete hs) ?_
    rw [disarmComplete_stops hd hi]
    exact ⟨rfl, linksStopped_shows s.dev⟩
  · refine completes_of_exec (exec_disarmPrint hs) ?_
    rw [hostWrite_disarm s.fuse 2 ho]
    exact ⟨rfl, Dev.is_bringup_same s.dev false ⟨by decide, by decide, by decide, by decide⟩ rfl⟩
  · rw [exec_fuseProgramDone hs, fuseDone_fusing hm hf]
  · rw [exec_fuseProgramDone hs, fuseDone_idle hf]
  · exact completes_of_exec (exec_nonceReady hs ok draw) (if_pos h)
  · exact completes_of_exec (exec_lockoutEnd hs) (Dev.onTimer_none h id)
  · subst h0 h1
    refine completes_of_exec (exec_energyTableCopyDone hs poisoned) ?_
    rw [energyCopyDone_copying hc, energyCopied_bad hc hb hk hk0]
    rfl
  · subst h0 h1
    exact completes_of_exec (exec_energyTableCopyDone hs poisoned) (energyCopyDone_sound hc hb hk)
  · exact completes_of_exec (exec_energyTableCopyDone hs poisoned) (if_pos hc)
  · refine completes_of_exec (exec_policyCopyDone hs poisoned) ?_
    rw [policyCopyDone_copying hc, policyCopied_bad hc h1 hb hk hk0]
  · subst hes
    exact completes_of_exec (exec_policyCopyDone hs poisoned) (policyCopyDone_sound hc h1 hb hk)
  · exact completes_of_exec (exec_policyCopyDone hs poisoned) (if_pos hc)
  · exact completes_of_exec (exec_disarmHeadComplete hs) (disarmComplete_rests h)
  · intro k hk
    obtain rfl | rfl := List.mem_pair.mp hk
    · exact completes_of_exec (exec_disarmHead hs) (hostWrite_off ho (by decide) (by decide))
    · exact completes_of_exec (exec_disarmPrint hs) (hostWrite_off ho (by decide) (by decide))

end Sys2Proof.Machine
end
